-- ==== Sys2Proof/Word.lean ====
section
/-! DEFINITION. The words of the register interface and of the line: 32-bit register words (R4, R495) and bytes. -/

namespace Sys2Proof

/-- A byte of a frame, an image or a memory. -/
abbrev Byte := BitVec 8

/-- A register word (R4): 32 bits, little-endian on host access. -/
abbrev Word := BitVec 32

end Sys2Proof
end

