-- ==== Sys2Proof/Machine/Report.lean ====
section
/-! DEFINITION. What commands carry from outside the block: the measurements that its analogue and signal-processing parts
deliver with an event, the loads of the ration, and the ways to the register interface. -/

namespace Sys2Proof.Machine

/-- A baseband sample of a receive chain ahead of the gate (R128): I and Q, and whether an ADC sample within its decimation
support was at full scale. -/
structure Sample where
  i : Int
  q : Int
  peak : Bool
  deriving DecidableEq, Repr

/-- A baseband sample as the fabric port delivers it (R129): its value and the flags OVR and GATE. -/
structure Lane where
  i : Int
  q : Int
  ovr : Bool
  gate : Bool
  deriving DecidableEq, Repr

/-- One transmitted copy of a coded bit as the demodulator hands it on (R191): its soft value, and for each port of
the receive set how the samples of its symbol are flagged — 0 not all, 1 all with OVR (suppressed ones among them), 2 all with
OVR or GATE —, and whether they come from an invalid buffer (R40) or a segment that was not found. -/
structure SoftBit where
  soft : Int
  marks : List Nat := []
  lost : Bool := false
  deriving DecidableEq, Repr

/-- One adaptation step of an equaliser (R189): per stream, the samples in its feed-forward filter, the decided chips in its
feedback filter, and the decided chip; how many samples of the step carry OVR or GATE, of how many. -/
structure EqStep where
  stream : Nat
  fed : List (Int × Int)
  back : List (Int × Int)
  decided : Int × Int
  erased : Nat
  total : Nat
  deriving DecidableEq, Repr

/-- What the least-squares estimate of R189 delivers: the channel's taps at half-chip spacing for each stream, over its
receive ports, and the initial weights of each stream that are computed from it. -/
structure EqStart where
  taps : List (List (Int × Int))
  ffe : List (List (Int × Int))
  dfe : List (List (Int × Int))
  deriving DecidableEq, Repr

/-- The sums of R197 over a stream's decoded symbols of one spreading exponent: Σ|ŝ|² and Σ|y − ŝ|². -/
structure SnrSum where
  stream : Nat
  exp : Nat
  sig : Nat
  err : Nat
  deriving DecidableEq, Repr

/-- What the receiver has of a whole transmission at its end (R190–R197). -/
structure RxReport where
  /-- The copies of the transmission's bits in the order sent, one list for each segment (R171–R178). -/
  bits : List (List SoftBit)
  /-- The equaliser's steps over the payload (R189). -/
  steps : List EqStep
  /-- The sums of R197. -/
  sums : List SnrSum
  /-- The samples from the first preamble chip to the last chip that carry OVR or GATE, and all of them (R196 cause 3). -/
  flagged : Nat
  samples : Nat
  /-- The re-estimate over the last 1,024 chips, in the order of the first estimate's taps; none where it is not made (R196
  cause 4). -/
  change : Option (List (Int × Int))
  /-- The coarse timing mark on the own time scale in 2⁻¹⁶ ns (R185). -/
  mark : Nat
  /-- The paths fitted to the channel estimate of stream 0 (R227): the delay from the coarse mark in 2⁻¹⁶ ns and the power of each,
  in the order of the fit; none where it does not converge. -/
  fit : Option (List (Int × Nat))
  /-- The power of the estimate's noise. -/
  noise : Nat
  deriving DecidableEq, Repr

/-- The reception that an event is for (R183–R194): its band and port, and in a collect slot the exponent and index of its
collect sequence (R186). -/
structure RxPlace where
  band : Nat
  port : Nat
  code : Nat × Nat
  deriving DecidableEq, Repr

/-- A declaration (R184): in a collect slot the exponent and collect index of the correlation; the samples up to two after the
lag; the other ports of the receive set with the mean power of the last repetition there. -/
structure Declaration where
  code : Nat × Nat
  window : List Lane
  ports : List (Nat × Nat)
  deriving DecidableEq, Repr

/-- A sync word (R185): the repetitions after the declaration, chip by chip at the declared lag; the channel estimate and initial
weights. -/
structure SyncReport where
  reps : List (List Lane)
  start : EqStart
  deriving DecidableEq, Repr

/-- The saturated intervals in a row of a port (R135). -/
structure Saturation where
  port : Nat
  intervals : Nat
  deriving DecidableEq, Repr

/-- A segment's search (R187): the samples from 16 chips before its expected start to 16 chips after its sync word, and the mean
power of its last repetition. -/
structure SegmentReport where
  window : List Lane
  power : Nat
  deriving DecidableEq, Repr

/-- A block (0 the header, k + 1 block k of the payload) and its erased positions so far (R193). -/
structure ErasedBlock where
  block : Nat
  erased : Nat
  deriving DecidableEq, Repr

/-- The end of a reception (R194): in a collect slot its exponent and collect index, and what the receiver has of it. -/
structure RxEnd where
  code : Nat × Nat
  report : RxReport
  deriving DecidableEq, Repr

/-- A continuation segment's start (R119, R177): its band, and how long the current limit acts in the segment in ns, by driver. -/
structure SegmentStart where
  band : Nat
  limitNs : List Nat
  deriving DecidableEq, Repr

/-- A driver (0 to 3 Band H of the port, 4 Band L) and its junction temperature in 0.1 °C (R120). -/
structure DriverTemp where
  driver : Nat
  temp : Int
  deriving DecidableEq, Repr

/-- An access (R174, R177, R261): the random generator's number, used where a backoff is drawn; the interleave span that the
MAC's program asks for the frame, and how many frames it lets follow in the same transmission. -/
structure AccessAsk where
  random : Nat
  span : Nat
  train : Nat
  deriving DecidableEq, Repr

/-- The access of a band's BLOCK_ACK (R261, R270): the band and the random generator's number. -/
structure BandDraw where
  band : Nat
  random : Nat
  deriving DecidableEq, Repr

/-- A sign change of a phase voltage (R141): samples at 1.6 MS/s around it in 0.1 V, the place of the first one past it, and the
time of that one on the time scale in 2⁻¹⁶ ns. -/
structure CrossReport where
  volts : List Int
  mid : Nat
  time : Nat
  deriving DecidableEq, Repr

/-- What a PTP message brings (R246): of a measurement that it completes, the master's and the own time of the Sync message
and the round trip (end to end or to the peer), in 2⁻¹⁶ ns; the totalTimeInaccuracy that it carries, in ns. -/
structure PtpReport where
  sync : Option (Int × Int × Int)
  inaccuracy : Option Nat
  deriving DecidableEq, Repr

/-- The end of a tail (R415): the port and the network time in 2⁻¹⁶ ns at which DE falls. -/
structure TailEnd where
  port : Nat
  time : Nat
  deriving DecidableEq, Repr

/-- An attempt at one index of a collect window (R313), after the cancellation of the tiers before it: its declared index, the
copies of the header's and the payload's bits, and the sums of R197. -/
structure CollectTry where
  index : Nat
  soft : List SoftBit
  sig : Nat
  err : Nat
  deriving DecidableEq, Repr

/-- What the read of a word meets (R338, R339): nothing, a corrected bit, an uncorrectable word, pointers that
disagree. -/
inductive ReadCheck where
  | good | corrected | uncorrectable | pointers
  deriving DecidableEq, Repr

/-- What a UART's receiver sampled of one character (R407): samples 7, 8 and 9 of each bit from the start bit to the first stop
bit (true: high), or of a synchronous one the sample of each bit (R416); the network time of the stop-bit centre at the pin in
2⁻¹⁶ ns (R412); and whether its start edge came before the last write of SER_CFG (R406). -/
structure CharReport where
  bits : List (List Bool)
  stamp : Nat
  early : Bool
  deriving DecidableEq, Repr

/-- What the sensor converter delivers for a sample (R390): the codes of the V(SENSE+, SENSE−) conversions and, for a
3-wire RTD, of the V(SENSE−, EXC−) conversions, and whether the burnout comparator tripped at one of them. Codes that the
sample has no conversion for are not made. -/
structure SampleReport where
  codes : List Int
  codes2 : List Int
  burnout : Bool
  deriving DecidableEq, Repr

/-- What a truing block measured (R422, R423): the loop delay, and the receive-reference delay or that of the path, in ps; gains
in 0.01 dB; the loop amplitude in 0.1 dB; the converters' offsets in LSB and the interleave skew in ps; of block 10 the gain and
offset of each range and the excitation currents. -/
structure TruReport where
  loop : Int
  rx : Int
  gainRx : Int
  gainTx : Int
  ampl : Int
  offRx : Int
  offTx : Int
  skew : Int
  sensor : List Int
  deriving DecidableEq, Repr

/-- What reaches one port's receive chains in the tick that ended, Band L in the block that ended: the RMS level in 0.1 dB of
full scale at a gain of 0 dB (R132), and the baseband samples (R128). -/
structure PortObs where
  levelH : Int
  levelL : Int
  samplesH : List Sample
  samplesL : List Sample
  deriving DecidableEq, Repr

/-- What a tick boundary meets beside the state: the logical spindles that have not reached tick-end (R38), the late
deliveries (R39) as the producing logical spindle and the route's index in the STRUCTURE segment, the number of invalid buffers that each slice's spindles received, the transmit buffers (band,
port) that are invalid (R40), the ports, whether a captured unit could be written with unreserved beats (R207), the junction temperatures of the drivers in 0.1 °C (Band H of ports 0 to 3, then
Band L; R120), the baseplate temperature in 0.1 °C and the bulk bus voltage in V (R460). -/
structure TickObs where
  overruns : List Nat
  late : List (Nat × Nat)
  invalid : List Nat
  transmit : List (Nat × Nat)
  ports : List PortObs
  beats : Bool
  drivers : List Int
  baseTemp : Int
  bulkV : Nat
  deriving DecidableEq, Repr

/-- A load of the ration table of R447. -/
inductive Load where
  | slice (s : Nat) | cluster (s c : Nat) | drvH (p : Nat) | drvL | ddr | cage (j : Nat) | heater
  deriving DecidableEq, Repr

/-- The two ways to the register interface (R497, R498): the host's register channel, and the supervisor. -/
inductive Path where
  | host | sup
  deriving DecidableEq, Repr

end Sys2Proof.Machine
end

