-- ==== Sys2Proof/Syntax.lean ====
section
/-! DEFINITION. The commands: one constructor per row of the table, with what comes from outside the block as operands —
addresses and values written, times, measurements, and the bytes that arrive. -/

namespace Sys2Proof

/-- The commands of the table. Each names its rule and its operands. -/
inductive Instr where
  /-- POWER_ON (R440). `temp` is the baseplate temperature in 0.1 °C. -/
  | powerOn (temp : Int)
  /-- WARM_RESET_PIN (R62). -/
  | warmResetPin
  /-- RESET_RELEASE (R62). -/
  | resetRelease
  /-- BOOT_START (R98). `bootSel` is BOOT_SEL as sampled (R63). -/
  | bootStart (bootSel : Bool)
  /-- CARRIER_ID_READ (R65). The 256 bytes; none where the EEPROM does not acknowledge. -/
  | carrierIdRead (bytes : Option (List Byte))
  /-- IMAGE_LOAD_COMPLETE (R101). `readOk`: the payload digests compared equal. -/
  | imageLoadComplete (readOk : Bool)
  /-- DDR4_TRAINING_DONE (R441). -/
  | ddr4TrainingDone
  /-- OCXO_READY (R441). -/
  | ocxoReady
  /-- TRUING_EXIT (R441). -/
  | truingExit
  /-- TICK (R32). What the tick boundary meets. -/
  | tick (obs : Machine.TickObs)
  /-- GRID_STEP (R35). -/
  | gridStep
  /-- HALF_CYCLE_ANCHOR (R45). -/
  | halfCycleAnchor
  /-- L1_CROSSING_TIMEOUT (R47). -/
  | l1CrossingTimeout
  /-- SPUR_CROSSING (R141). Phase 0 L1, 1 L2, 2 L3. -/
  | spurCrossing (phase : Nat) (report : Machine.CrossReport)
  /-- SPUR_RMS_UPDATE (R144). The last samples of each phase at 1.6 MS/s, in 0.1 V, newest first. -/
  | spurRmsUpdate (l1 : List Int) (l2 : List Int) (l3 : List Int)
  /-- FLUSH_COMPLETE (R370). The duration in µs. -/
  | flushComplete (us : Nat)
  /-- NPP_SWAP (R146). The event carries nothing. -/
  | nppSwap (sums : Unit)
  /-- SPR_NPP_CTRL_WRITE (R150). -/
  | sprNppCtrlWrite (value : Word)
  /-- BASEPLATE_OVER_TEMP (R446). -/
  | baseplateOverTemp
  /-- BASEPLATE_TEMP_NORMAL (R446). -/
  | baseplateTempNormal
  /-- THERMAL_SHUTDOWN (R73). -/
  | thermalShutdown
  /-- VAUX_OVERLOAD (R61). -/
  | vauxOverload
  /-- VAUX_RETRY (R61). -/
  | vauxRetry
  /-- SFP_INSERT (R70). Cage 0 J1, 1 J2; the declared power in mW. -/
  | sfpInsert (cage : Nat) (declared : Nat)
  /-- SFP_REMOVE (R70). -/
  | sfpRemove (cage : Nat)
  /-- TAP_RESET (R66). TRST_N goes low, or returns high after that. -/
  | tapReset
  /-- TAP_BYPASS (R66). -/
  | tapBypass
  /-- TAP_SAMPLE_PRELOAD (R66). The levels outside, and the preloaded bits, by X2 signal pin in the order of PIN_PLAN.
  -/
  | tapSamplePreload (inputs : Nat) (preload : Nat)
  /-- TAP_EXTEST (R66). The levels outside, as in SAMPLE. -/
  | tapExtest (inputs : Nat)
  /-- TAP_IDCODE (R66). -/
  | tapIdcode
  /-- EVENT_EDGE (R242). Input EVT0–EVT3; the edge on the time scale in 2⁻¹⁶ ns. -/
  | eventEdge (input : Nat) (time : Nat)
  /-- PPS_IN_EDGE (R218). The edge on the time scale in 2⁻¹⁶ ns. -/
  | ppsInEdge (time : Nat)
  /-- PPS_IN_TIMEOUT (R218). -/
  | ppsInTimeout
  /-- REF_IN_LOSS (R219). The OCXO's last measured offset in 2⁻⁴⁸. -/
  | refInLoss (offset : Int)
  /-- TOD_LABEL_ARM (R218). -/
  | todLabelArm (seconds : Word)
  /-- TIM_CMD_NOP (R250). -/
  | timCmdNop
  /-- TIM_CMD_STEP (R220). -/
  | timCmdStep
  /-- TIM_CMD_CAL_SAVE (R234). -/
  | timCmdCalSave
  /-- CAL_RECORD_SAVE (R234). -/
  | calRecordSave
  /-- HOLDOVER_ENTRY (R238). The timing link is forbidden in every band at the parent's end. -/
  | holdoverEntry (far : Bool)
  /-- OUTPUT_ENABLE (R69). -/
  | outputEnable
  /-- OUTPUT_SQUELCH (R241). -/
  | outputSquelch
  /-- PTP_MESSAGE_RX (R246). Port 0 J1, 1 J2, 2 J3; the resulting portState. -/
  | ptpMessageRx (port : Nat) (portState : Nat) (report : Machine.PtpReport)
  /-- PTP_INTERVAL_TX (R246). -/
  | ptpIntervalTx (port : Nat)
  /-- TIMING_TREE_RECOMPUTE (R243). -/
  | timingTreeRecompute
  /-- ASSIGNMENT_APPLY (R301). -/
  | assignmentApply
  /-- FRAME_TX_START (R158). Band 0 H, 1 L; the drivers' junction temperatures in 0.1 °C, and how long the current limit acts in
  the segment in ns, both by driver (0–3 Band H of the port, 4 Band L). -/
  | frameTxStart (band : Nat) (temps : List Int) (limitNs : List Nat)
  /-- SEGMENT_TX (R177). -/
  | segmentTx (report : Machine.SegmentStart)
  /-- DRIVER_THERMAL_SHUTDOWN (R120). -/
  | driverThermalShutdown (report : Machine.DriverTemp)
  /-- DRIVER_THERMAL_RECOVER (R120). -/
  | driverThermalRecover (report : Machine.DriverTemp)
  /-- FOLDBACK_RELAX (R120). -/
  | foldbackRelax (driver : Nat)
  /-- NOTCH_WRITE (R127). The entry's second word. -/
  | notchWrite (entry : Nat) (word : Word)
  /-- PREAMBLE_DECLARE (R184). The port that declares. -/
  | preambleDeclare (band : Nat) (port : Nat) (report : Machine.Declaration)
  /-- SYNC_FOUND (R185). The reception it is for. -/
  | syncFound (place : Machine.RxPlace) (report : Machine.SyncReport)
  /-- SYNC_SEARCH_TIMEOUT (R185). The 8 repetitions after the declaration, chip by chip at the declared lag. -/
  | syncSearchTimeout (place : Machine.RxPlace) (reps : List (List Machine.Lane))
  /-- AGC_SATURATION_RELEASE (R135). -/
  | agcSaturationRelease (band : Nat) (report : Machine.Saturation)
  /-- HEADER_RECEIVED (R165). The header block's copies as demodulated, and the equaliser's steps over it. -/
  | headerReceived (place : Machine.RxPlace) (soft : List Machine.SoftBit) (train : List Machine.EqStep)
  /-- FOLLOW_ON_HEADER (R175). The follow-on header's copies as demodulated. -/
  | followOnHeader (band : Nat) (port : Nat) (soft : List Machine.SoftBit)
  /-- SEGMENT_SEARCH (R187). -/
  | segmentSearch (band : Nat) (port : Nat) (report : Machine.SegmentReport)
  /-- ERASURE_ABORT (R193). -/
  | erasureAbort (place : Machine.RxPlace) (report : Machine.ErasedBlock)
  /-- RX_FRAME_END (R194). -/
  | rxFrameEnd (band : Nat) (port : Nat) (report : Machine.RxEnd)
  /-- CAPTURE_ARM (R207). PORT, BAND and TRIG written with ARM. -/
  | captureArm (port : Nat) (band : Nat) (trig : Nat)
  /-- CAPTURE_TRIGGER (R207). The trigger that occurs, as TRIG numbers it. -/
  | captureTrigger (kind : Nat)
  /-- CAPTURE_STOP (R207). -/
  | captureStop
  /-- CAPTURE_END (R207). -/
  | captureEnd
  /-- BEACON_TX (R255). -/
  | beaconTx
  /-- BEACON_RX (R252). -/
  | beaconRx
  /-- TIMING_REQUEST_TX (R222). -/
  | timingRequestTx
  /-- TIMING_REPLY_TX (R224). -/
  | timingReplyTx
  /-- TIMING_RX (R225). -/
  | timingRx
  /-- CONTENTION_ACCESS (R261). -/
  | contentionAccess (band : Nat) (ask : Machine.AccessAsk)
  /-- DATA_RX (R273). The queue that the image names for the frame. -/
  | dataRx (queue : Nat)
  /-- ACK_TX (R268). -/
  | ackTx (band : Nat)
  /-- ACK_RX (R269). -/
  | ackRx
  /-- ACK_TIMEOUT (R269). -/
  | ackTimeout (band : Nat)
  /-- BLOCK_ACK_TX (R270). -/
  | blockAckTx (draw : Machine.BandDraw)
  /-- BLOCK_ACK_RX (R270). -/
  | blockAckRx
  /-- BLOCK_ACK_TIMEOUT (R270). -/
  | blockAckTimeout (band : Nat)
  /-- POLL_RX (R276). -/
  | pollRx
  /-- WAKE_WINDOW_OPEN (R276). -/
  | wakeWindowOpen
  /-- WAKE_HOLD_EXPIRY (R276). -/
  | wakeHoldExpiry
  /-- BEACON_MISS (R277). -/
  | beaconMiss
  /-- BEACON_SEARCH_TIMEOUT (R277). -/
  | beaconSearchTimeout
  /-- QUIET_WINDOW_START (R280). -/
  | quietWindowStart (band : Nat)
  /-- QUIET_WINDOW_END (R280). -/
  | quietWindowEnd (band : Nat)
  /-- MAP_EVAL (R285). Of each node that reported, the 64 bins of its noise phase profile in the timing band. -/
  | mapEval (profiles : List (List Nat))
  /-- JOIN_TX (R286). -/
  | joinTx
  /-- LEASE_EXPIRY (R265). -/
  | leaseExpiry (addr : Nat)
  /-- LINK_REPORT_TX (R297). -/
  | linkReportTx
  /-- LINK_REPORT (R297). -/
  | linkReport
  /-- ROUTE_SET (R301). The command's body as decoded: ROUTE_SEQ, the named period, destinations with their forwarding
  entries. -/
  | routeSet (seq : Nat) (period : Nat) (entries : List (Nat × List Byte))
  /-- ASSIGN (R301). The command's body as decoded: the named period, bytes 14–39 of the node-table entry, the collect
  receiver. -/
  | assign (period : Nat) (bytes : List Byte) (collector : Nat)
  /-- LINK_DOWN (R306). The command's body as decoded: the next hop that is down, its port and band, and the reporter.
  -/
  | linkDown (node : Nat) (link : Nat) (reporter : Nat)
  /-- REPORT_BUNDLE (R314). The command's body as decoded: reports and window records. -/
  | reportBundle (reports : List (List Byte))
  /-- ROUTE_RECOMPUTE (R300). -/
  | routeRecompute
  /-- ROUTE_EPOCH_APPLY (R301). -/
  | routeEpochApply
  /-- NODE_LOST_TIMEOUT (R306). -/
  | nodeLostTimeout (addr : Nat)
  /-- SWEEP_START (R312). WINDOWS written with START. -/
  | sweepStart (windows : Nat)
  /-- SWEEP (R312). -/
  | sweep
  /-- COLLECT_FRAME_TX (R310). -/
  | collectFrameTx
  /-- COLLECT_WINDOW_DECODE (R313). The window and its revolution count; pass by pass, the attempts at the declared indices. -/
  | collectWindowDecode (window : Nat) (rev : Nat) (passes : List (List Machine.CollectTry))
  /-- MODE_REQUEST (R442). -/
  | modeRequest
  /-- SNAPSHOT (R476). -/
  | snapshot
  /-- KEY_UPDATE (R486). -/
  | keyUpdate
  /-- KEY_LOW (R486). -/
  | keyLow
  /-- JOIN_RELAY (R490). -/
  | joinRelay
  /-- HELLO (R490). -/
  | hello
  /-- CHALLENGE (R490). -/
  | challenge
  /-- PROOF (R490). -/
  | proof
  /-- GRANT (R490). -/
  | grant
  /-- REFUSE_JOIN (R490). -/
  | refuseJoin
  /-- JOINER_STATE_EXPIRY (R490). The joiner's EUI-64. -/
  | joinerStateExpiry (eui : Nat)
  /-- KEY_PERIOD_EXPIRY (R486). -/
  | keyPeriodExpiry
  /-- EPOCH_SWITCH (R487). -/
  | epochSwitch
  /-- KEY_GRACE_EXPIRY (R487). -/
  | keyGraceExpiry
  /-- PACKET_SOP (R325). The producer context and the SOP word: queue, maximum length, destination, tag. -/
  | packetSop (ctx : Nat) (queue : Nat) (maxLen : Nat) (dest : Nat) (tag : Nat)
  /-- PACKET_EOP (R326). The producer context and the packet's bytes. -/
  | packetEop (ctx : Nat) (data : List Byte)
  /-- PACKET_REWIND (R327). The producer context; whether the cause is a length overrun. -/
  | packetRewind (ctx : Nat) (overrun : Bool)
  /-- QUEUE_READ (R330). The queue, and what the read of its words meets. -/
  | queueRead (queue : Nat) (check : Machine.ReadCheck)
  /-- QUEUE_RELEASE (R331). -/
  | queueRelease (queue : Nat)
  /-- QUEUE_REREAD (R331). -/
  | queueReread (queue : Nat)
  /-- QUEUE_FAIL (R332). -/
  | queueFail (queue : Nat)
  /-- QMG_CMD_NOP (R344). -/
  | qmgCmdNop (queue : Nat)
  /-- QMG_CMD_FLUSH (R335). -/
  | qmgCmdFlush (queue : Nat)
  /-- FLUSH_POINT (R335). -/
  | flushPoint (queue : Nat)
  /-- QMG_CMD_FORCE_RESET (R340). -/
  | qmgCmdForceReset (queue : Nat)
  /-- REFILL_COMPLETE (R368). -/
  | refillComplete (queue : Nat)
  /-- HOST_DATA (R353). A host's endpoint as port (J1 0, J2 1, J3 2) + 4 ×
  encapsulation + 16 × its source address; the
  message's bytes from its Runudom header on. -/
  | hostData (port : Nat) (msg : List Byte)
  /-- HOST_ACK (R357). A host's endpoint as port (J1 0, J2 1, J3 2) + 4 ×
  encapsulation + 16 × its source address; the message's
  bytes from its Runudom header on. -/
  | hostAck (port : Nat) (msg : List Byte)
  /-- HOST_CREDIT (R355). A host's endpoint as port (J1 0, J2 1, J3 2) + 4 ×
  encapsulation + 16 × its source address; the
  message's bytes from its Runudom header on. -/
  | hostCredit (port : Nat) (msg : List Byte)
  /-- RESYNC (R374). A host's endpoint as port (J1 0, J2 1, J3 2) + 4 ×
  encapsulation + 16 × its source address; the message's
  bytes from its Runudom header on. -/
  | resync (port : Nat) (msg : List Byte)
  /-- RUNUDOM_MALFORMED (R349). A host's endpoint as port (J1 0, J2 1, J3 2) + 4 ×
  encapsulation + 16 × its source address; the
  message's bytes from its Runudom header on. -/
  | runudomMalformed (port : Nat) (msg : List Byte)
  /-- REG_REQUEST (R376). A host's endpoint as port (J1 0, J2 1, J3 2) + 4 ×
  encapsulation + 16 × its source address; the
  message's bytes from its Runudom header on. -/
  | regRequest (port : Nat) (msg : List Byte)
  /-- HOST_ACK_TX (R354). -/
  | hostAckTx (channel : Nat)
  /-- HOST_DELIVER (R357). -/
  | hostDeliver (channel : Nat)
  /-- HOST_RETRANSMIT (R357). The custody channel; 0xFFFF is the register channel where it has the operation. -/
  | hostRetransmit (channel : Nat)
  /-- CUSTODY_DATA_RX (R361). -/
  | custodyDataRx
  /-- RECEIPT_TX (R362). -/
  | receiptTx (channel : Nat)
  /-- CUSTODY_RECEIPT_RX (R363). -/
  | custodyReceiptRx
  /-- E2E_TIMEOUT (R364). -/
  | e2eTimeout (channel : Nat)
  /-- REASSEMBLY_TIMEOUT (R361). -/
  | reassemblyTimeout (channel : Nat)
  /-- STREAM_TX (R378). -/
  | streamTx (stream : Nat)
  /-- CUSTODY_RESTORE (R371). `crcOk`: the records of the slot verified. -/
  | custodyRestore (crcOk : Bool)
  /-- FLUSH_SLOT_ERASED (R371). -/
  | flushSlotErased
  /-- SCAN_START (R389). -/
  | scanStart
  /-- SAMPLE_COMPLETE (R390). -/
  | sampleComplete (report : Machine.SampleReport)
  /-- COMPLIANCE_TRIP (R397). The channel in conversion. -/
  | complianceTrip (chan : Nat)
  /-- CLAMP_ONSET (R395). -/
  | clampOnset (channel : Nat)
  /-- IMP_CHECK_DUE (R396). The measured impedances channel by channel in 10 Ω. -/
  | impCheckDue (impedances : List Nat)
  /-- SEN_CMD_NOP (R404). -/
  | senCmdNop
  /-- SEN_CMD_IMP_CHECK (R396). The channel, and the impedance that the check measures in 10 Ω. -/
  | senCmdImpCheck (channel : Nat) (impedance : Nat)
  /-- SEN_CMD_RESTART_SCAN (R404). -/
  | senCmdRestartScan
  /-- CHARACTER_RECEIVED (R407). -/
  | characterReceived (port : Nat) (report : Machine.CharReport)
  /-- LINE_STUCK (R408). -/
  | lineStuck (port : Nat)
  /-- LINE_IDLE (R409). -/
  | lineIdle (port : Nat)
  /-- PACKET_AGE_EXPIRY (R413). -/
  | packetAgeExpiry (port : Nat)
  /-- SER_TXD_WRITE (R414). -/
  | serTxdWrite (port : Nat) (value : Word)
  /-- TX_CHARACTER_COMPLETE (R414). -/
  | txCharacterComplete (port : Nat)
  /-- DE_TAIL_END (R415). -/
  | deTailEnd (report : Machine.TailEnd)
  /-- SER_DATA_READ (R421). -/
  | serDataRead (port : Nat)
  /-- SERIAL_WAKE (R417). -/
  | serialWake (port : Nat) (report : Machine.CharReport)
  /-- TRU_PERIOD_EXPIRY (R425). -/
  | truPeriodExpiry (block : Nat)
  /-- TEMP_DELTA_TRIGGER (R425). The baseplate temperature in 0.1 °C. -/
  | tempDeltaTrigger (block : Nat) (temp : Int)
  /-- TRU_CMD (R425). -/
  | truCmd (mask : Word)
  /-- TRUING_PASS (R427). The block whose pass runs; every buffer of the pass is valid. -/
  | truingPass (block : Nat) (valid : Bool)
  /-- TRUING_BLOCK_COMPLETE (R429). -/
  | truingBlockComplete (block : Nat) (report : Machine.TruReport)
  /-- PWR_MODE_REQ (R442). -/
  | pwrModeReq (mode : Nat)
  /-- MODE_TRANSITION (R440). -/
  | modeTransition
  /-- DOZE_ENTRY (R438). -/
  | dozeEntry
  /-- STANDBY_ENTRY (R449). -/
  | standbyEntry
  /-- STANDBY_TIMER_EXPIRY (R449). -/
  | standbyTimerExpiry
  /-- WAKE_N_WAKE (R64). -/
  | wakeNWake
  /-- STANDBY_EXIT (R449). The running copy passes its digests; the time spent on the standby crystal in ns. -/
  | standbyExit (digestOk : Bool) (xtalNs : Nat)
  /-- MAINTENANCE_ENTRY (R459). -/
  | maintenanceEntry
  /-- LOAD_ENABLE_REQUEST (R447). The load, and the deadline tick of a transmit start. -/
  | loadEnableRequest (load : Machine.Load) (deadline : Option Nat)
  /-- RATION_GRANT (R448). -/
  | rationGrant
  /-- PWR_CMD_NOP (R460). -/
  | pwrCmdNop
  /-- PWR_CMD_WARM_RESET (R452). -/
  | pwrCmdWarmReset
  /-- PWR_CMD_SLICE_RESET (R454). -/
  | pwrCmdSliceReset (slice : Nat)
  /-- PWR_CMD_BAD_CONFIRM (R455). The word written; its CONFIRM is not 0xA5C3. -/
  | pwrCmdBadConfirm (value : Word)
  /-- SLICE_RESET_RELEASE (R454). The slice's part of the running copy passes its digest. -/
  | sliceResetRelease (digestOk : Bool)
  /-- WATCHDOG_EXPIRY (R453). -/
  | watchdogExpiry
  /-- IMG_CMD_NOP (R102). -/
  | imgCmdNop
  /-- IMG_CMD_VERIFY_STAGED (R102). -/
  | imgCmdVerifyStaged
  /-- VERIFY_STAGED_DONE (R106). The staged bytes were read without an uncorrectable error. -/
  | verifyStagedDone (readOk : Bool)
  /-- IMG_CMD_WRITE_BANK (R102). -/
  | imgCmdWriteBank
  /-- WRITE_BANK_DONE (R103). -/
  | writeBankDone
  /-- IMG_CMD_ARM_TRIAL (R102). -/
  | imgCmdArmTrial
  /-- IMG_CMD_CONFIRM (R99). -/
  | imgCmdConfirm
  /-- IMG_CMD_ROLLBACK_COMMIT (R94). -/
  | imgCmdRollbackCommit
  /-- IMG_CMD_SLICE_RELOAD (R107). -/
  | imgCmdSliceReload (slice : Nat)
  /-- IMG_CMD_GOLDEN_WRITE (R102). -/
  | imgCmdGoldenWrite
  /-- GOLDEN_WRITE_DONE (R103). -/
  | goldenWriteDone
  /-- IMG_CMD_ABORT (R104). -/
  | imgCmdAbort
  /-- IMG_STAGE_DATA (R112). -/
  | imgStageData (value : Word)
  /-- IMAGE_TRIAL_EXPIRY (R99). -/
  | imageTrialExpiry
  /-- SLICE_RELOAD_START (R107). -/
  | sliceReloadStart
  /-- SLICE_RELOAD_COMPLETE (R108). The copied bytes pass their digests. -/
  | sliceReloadComplete (digestOk : Bool)
  /-- SPARE_START (R15). -/
  | spareStart (slice : Nat)
  /-- SPINDLE_MEMORY_ERROR (R469). The logical spindle number. -/
  | spindleMemoryError (spindle : Nat) (corrected : Bool)
  /-- DDR4_CORRECTION (R469). -/
  | ddr4Correction (device : Nat)
  /-- FAULT_WINDOW_CLOSE (R468). Error class and instance number. -/
  | faultWindowClose (cls : Nat) (inst : Nat)
  /-- DDR_SCRUB (R471). -/
  | ddrScrub
  /-- PORT_RETURN (R470). The written bits. -/
  | portReturn (mask : Nat)
  /-- DDR_UNMARK (R471). The written bits, device 0 in bit 0. -/
  | ddrUnmark (mask : Nat)
  /-- SNAP_CMD_LOCAL (R474). -/
  | snapCmdLocal
  /-- SNAP_CMD_NETWORK (R476). -/
  | snapCmdNetwork
  /-- SNAPSHOT_TAKE (R474). -/
  | snapshotTake
  /-- SEC_CMD_NOP (R492). -/
  | secCmdNop
  /-- SEC_CMD_ATTEST (R491). -/
  | secCmdAttest
  /-- ATTEST_DONE (R491). -/
  | attestDone
  /-- SEC_CMD_ENROLL_OWNER (R482). The SLOT and CONFIRM fields written. -/
  | secCmdEnrollOwner (slot : Nat) (confirm : Nat)
  /-- SEC_CMD_REVOKE_OWNER (R482). The SLOT and CONFIRM fields written. -/
  | secCmdRevokeOwner (slot : Nat) (confirm : Nat)
  /-- SEC_CMD_REVOKE_VENDOR (R482). The vendor key and the CONFIRM field written. -/
  | secCmdRevokeVendor (key : Nat) (confirm : Nat)
  /-- SEC_CMD_EPOCH_ADVANCE (R486). -/
  | secCmdEpochAdvance
  /-- SEC_CMD_BAR (R488). -/
  | secCmdBar
  /-- SEC_CMD_UNBAR (R488). -/
  | secCmdUnbar
  /-- QMG_SEL_WRITE (R344). -/
  | qmgSelWrite (path : Machine.Path) (value : Word)
  /-- CUS_SEL_WRITE (R385). -/
  | cusSelWrite (path : Machine.Path) (value : Word)
  /-- TIM_LINK_SEL_WRITE (R250). -/
  | timLinkSelWrite (path : Machine.Path) (value : Word)
  /-- PHY_LQ_PEER_WRITE (R208). -/
  | phyLqPeerWrite (path : Machine.Path) (value : Word)
  /-- MAC_PEER_SEL_WRITE (R288). -/
  | macPeerSelWrite (path : Machine.Path) (value : Word)
  /-- TRB_SHD_ADDR_WRITE (R475). -/
  | trbShdAddrWrite (path : Machine.Path) (value : Word)
  /-- TRB_CLASS_SEL_WRITE (R478). -/
  | trbClassSelWrite (path : Machine.Path) (value : Word)
  /-- TRU_BLK_SEL_WRITE (R436). -/
  | truBlkSelWrite (path : Machine.Path) (value : Word)
  /-- COUNTER_LOW_READ (R473). The path and the register address; any aligned word may be read. -/
  | counterLowRead (path : Machine.Path) (addr : Word)
  /-- RESERVED_ACCESS (R6). Address, size in bytes, direction. -/
  | reservedAccess (addr : Word) (size : Nat) (write : Bool)
  /-- REGISTER_WRITE (R8). -/
  | registerWrite (path : Machine.Path) (addr : Word) (value : Word)
  /-- DEBUG_STEP (R502). Slice and physical index of the spindle. -/
  | debugStep (slice : Nat) (spindle : Nat)
  /-- CLC_HALT_WRITE (R501). -/
  | clcHaltWrite (slice : Nat) (cluster : Nat) (value : Word)
  /-- DBG_MEM_DATA_ACCESS (R502). Slice and physical index of the spindle; the written value, none for a read. -/
  | dbgMemDataAccess (slice : Nat) (spindle : Nat) (value : Option Word)
  /-- SUPPLY_STOP (R79). -/
  | supplyStop
  /-- CLAMP_END (R395). -/
  | clampEnd (channel : Nat)
  /-- SUPPRESSION_END (R408). -/
  | suppressionEnd (port : Nat)
  /-- SURVEY_MIN_EXPIRY (R440). -/
  | surveyMinExpiry
  /-- LINK_AGE_EXPIRY (R295). The index of the link-state entry. -/
  | linkAgeExpiry (index : Nat)
  deriving DecidableEq, Repr

end Sys2Proof
end

