-- ==== Sys2Proof/Decode.lean ====
section
/-! DEFINITION. Commands as words. The table gives no row any bits: commands reach the block as events with operands, so no
word spells one. -/

namespace Sys2Proof

/-- The command that a word of the table's bits spells: none, for the table gives no bits. -/
def decodeTableWord (_nbits _w : Nat) : Option Instr := none

end Sys2Proof
end

