-- ==== Sys2Proof/Config.lean ====
section
/-! DEFINITION. What one module fixes (its identity, its factory contents), and the values the spec leaves open, as
constants without a body: nothing can be proved of their values. -/

namespace Sys2Proof

/-- The module's EUI-64 (R479, MAC_EUI). -/
opaque Config.eui : BitVec 64

/-- The ASIC stepping, the module build level and the chuck ROM version, set at the factory (R499). -/
opaque Config.asicStep : Nat
opaque Config.build : Nat
opaque Config.chuckVer : Nat

/-- The tick entry point of a logical spindle's schedule (R38): its byte address is the image's, in no stated place. -/
opaque Config.entryPoint : Nat → BitVec 14

/-- The device private key and secret of the OTP (R479, R481), and the identity certificate of 128 bytes (R480). -/
opaque Config.deviceKey : List Byte
opaque Config.certificate : List Byte

/-- The two identity issuer keys of the chuck ROM (R480). -/
opaque Config.issuerKey : Nat → List Byte

/-- The two vendor public keys of the chuck ROM (R89, R481), 32 bytes each. -/
opaque Config.vendorKey : Nat → List Byte

/-- The golden image as delivered (R97, R98). -/
opaque Config.goldenImage : List Byte

/-- The role of an allocation record of the node-wide STRUCTURE segment (R87); the record's 4 bytes have no stated
layout. Answers in the order of R87: 0 user, 1 PHY, 2 MAC, 3 timing, 4 supervisor, 5 idle. -/
opaque Config.allocRole : List Byte → Nat

/-- A route record of 16 bytes (R87), without a stated layout: producer port, consumer port, beats per tick, buffer
format, DORMANT. -/
opaque Config.routeRecord : List Byte → Nat × Nat × Nat × Nat × Bool

/-- A DDR4 partition record of 16 bytes (R87), without a stated layout: region kind (0 bulk pool, 1 custody window,
2 Band H interleaver, 3 line capture, 4 image area, 5 user), base and size in bytes. -/
opaque Config.partRecord : List Byte → Nat × Nat × Nat

/-- The duty of an allocation record, in no stated layout (R87). -/
opaque Config.allocDuty : List Byte → Nat

/-- The reload plan of a slice-bound STRUCTURE segment (R87), which has no stated place in it: each duty with its
disposition, none for SUSPEND, else the (slice, cluster, spindle) triple of its MOVE. -/
opaque Config.reloadPlan : List Byte → List (Nat × Option (Nat × Nat × Nat))

/-- The alternate allocation of a slice-bound STRUCTURE segment (R16, R87), which has no stated place in it: one allocation
record for each spindle of the slice, or none at all. -/
opaque Config.altAlloc : List Byte → List (List Byte)

/-- Whether a slice-bound STRUCTURE segment meets the layout rules, which the spec does not state (R92 step 7). -/
opaque Config.sliceLayoutOk : List Byte → Bool

/-- The 16-byte header of a SPINDLE_CODE record (R87), without stated widths: logical number, instruction length, data
length. -/
opaque Config.codeHeader : List Byte → Nat × Nat × Nat

/-- A library placement record of 8 bytes (R87), without a stated layout: library, kernel, instruction-memory offset,
logical spindle. -/
opaque Config.placeRecord : List Byte → Nat × Nat × Nat × Nat

/-- The bytes of a kernel of a LIBRARY payload (R87), without a stated layout. -/
opaque Config.libraryKernel : List Byte → Nat → List Byte

/-- A port of the fabric (R21): a slice, a line front end, the queue manager, a DDR4 channel, Host Ethernet, the time unit,
the sensor unit, the serial ports. -/
inductive FabricPort where
  | slice (s : Nat) | line (p : Nat) | queue | ddr (c : Nat) | host | time | sensor | serial
  deriving DecidableEq, Repr, Inhabited

/-- The port of the fabric that a port number of a route names (R21, R87): port numbers are not stated. -/
opaque Config.portKind : Nat → FabricPort

/-- The level at X1 of a full-scale sample at a gain of 0 dB, in 2⁻⁸ dB of dBm/Hz, by profile and port (R198): the spec gives no
number for it. -/
opaque Config.fullScaleX1 : Nat → Nat → Int

/-- The factory constants of a port block (R423, class P), by truing block: what refers the transmit and the receive delay to X1,
in ps, and the loop amplitude at manufacture in 0.1 dB. -/
opaque Config.truFactory : Nat → Int × Int × Int

/-- U of R107: the unreserved beats per tick at the staging channel's port, as the node-wide STRUCTURE gives them in no stated
layout. -/
opaque Config.unreservedBeats : List Byte → Nat

/-- The routes of a slice-bound STRUCTURE segment of a reload package (R106, R107), without a stated layout. -/
opaque Config.packageRoutes : List Byte → List (Nat × Nat × Nat × Nat × Bool)

/-- The bodies of the commands of R302 whose layout the spec does not state: ROUTE_SET (epoch, period, changed entries),
ASSIGN (period, bytes 14–39 of the entry, collect receiver), LINK_DOWN (dead next hop, its link as port and band) and
REPORT_BUNDLE (reports and window records). -/
opaque Config.routeSetBody : Nat → Nat → List (Nat × List Byte) → List Byte
opaque Config.assignBody : Nat → List Byte → Nat → List Byte
opaque Config.linkDownBody : Nat → Nat → List Byte
opaque Config.bundleBody : List (List Byte) → List Byte

/-- How many beacon periods ahead the coordinator lets an epoch or an assignment take effect (R301). -/
opaque Config.routeLead : Nat

/-- The n-th free value: a value that the spec leaves open (undefined, or a result that it does not state), cut to the
width it is used at. -/
opaque Config.freeValue : Nat → Nat

/-- The n-th free choice between the two neighbours of a result whose rounding the spec does not state. -/
opaque Config.roundUp : Nat → Bool

end Sys2Proof
end

