-- ==== Sys2Proof/Machine/RegTable.lean ====
section
/-! DEFINITION. The register fields of spec/01 to spec/18 by name (R48, R49, R112, R148, R149, R150, R181, R208, R250,
R288, R317, R344, R385, R404, R421, R436, R460, R478, R492, R499, R500, R501, R502), and the same tables as rows with
address, bits, access code (R8), reset value and retention class (R10), which the register bus and the resets of R457
read. A 64-bit counter is one field at the address of its low word. The views that a select register latches (R498)
are not fields: their records stand in the state of their blocks. -/

namespace Sys2Proof.Machine

/-- A register field: its key (8 × byte address + low bit) and its width in bits. -/
structure Field where
  key : Nat
  width : Nat
  deriving DecidableEq, Repr

/-- The access codes of R8. -/
inductive Access where
  | rw | ro | wo | w1c | w1s | rsc | img
  deriving DecidableEq, Repr

/-- The retention classes of R10. -/
inductive Keep where
  | p | a | w | i | v
  deriving DecidableEq, Repr

/-- One row of a register table: byte address of the first instance, the strides and counts of its instances, low bit,
width, access code, reset value, retention class, and whether reading the first word latches the others (R498). -/
structure RegRow where
  addr : Nat
  dims : List (Nat × Nat)
  lo : Nat
  width : Nat
  access : Access
  reset : Nat
  keep : Keep
  latched : Bool
  deriving DecidableEq, Repr

namespace R

/-- R48: 0x00000100 bit 0, RO, class V. -/
def GLB_TICK : Field := ⟨2048, 64⟩
/-- R48: 0x00000108 bit 0, RO, class V. -/
def GLB_TICK_STAT_GRID_ALIGNED : Field := ⟨2112, 1⟩
/-- R48: 0x00000108 bit 1, W1C, class W. -/
def GLB_TICK_STAT_TICK_STEPPED : Field := ⟨2113, 1⟩
/-- R48: 0x0000010C bit 0, RO, class V. -/
def GLB_REV : Field := ⟨2144, 32⟩
/-- R48: 0x00000110 bit 0, RO, class V. -/
def GLB_GRID_N : Field := ⟨2176, 9⟩
/-- R48: 0x00000110 bit 9, RO, class V. -/
def GLB_GRID_HALF : Field := ⟨2185, 1⟩
/-- R48: 0x00000110 bit 10, RO, class V. -/
def GLB_GRID_SLOT : Field := ⟨2186, 3⟩
/-- R48: 0x00000110 bit 13, RO, class V. -/
def GLB_GRID_GRID_FREE : Field := ⟨2189, 1⟩
/-- R48: 0x00000118 bit 0, RO, class A. -/
def GLB_TICK_ADJ_COUNT : Field := ⟨2240, 64⟩
/-- R499: 0x00000200 bit 0, RO, class A. -/
def GLB_CARRIER_ID : Field := ⟨4096, 2048⟩
/-- R499: 0x00000300 bit 0, RO, class A. -/
def GLB_UNDEF_COUNT : Field := ⟨6144, 64⟩
/-- R460: 0x00010000 bit 0, RO, class V. -/
def PWR_MODE_MODE : Field := ⟨524288, 4⟩
/-- R460: 0x00010000 bit 4, RO, class V. -/
def PWR_MODE_PREV : Field := ⟨524292, 4⟩
/-- R460: 0x00010000 bit 8, RO, class V. -/
def PWR_MODE_PENDING : Field := ⟨524296, 1⟩
/-- R460: 0x00010000 bit 9, RO, class V. -/
def PWR_MODE_OCXO_READY : Field := ⟨524297, 1⟩
/-- R460: 0x00010004 bit 0, W1C, class W. -/
def PWR_TROUBLE_RATION_DELAY : Field := ⟨524320, 1⟩
/-- R460: 0x00010004 bit 1, W1C, class W. -/
def PWR_TROUBLE_MODE_REFUSED : Field := ⟨524321, 1⟩
/-- R460: 0x00010004 bit 2, W1C, class A. -/
def PWR_TROUBLE_OVER_TEMP : Field := ⟨524322, 1⟩
/-- R460: 0x00010004 bit 3, W1C, class A. -/
def PWR_TROUBLE_VAUX_OVERLOAD : Field := ⟨524323, 1⟩
/-- R460: 0x00010004 bit 4, W1C, class A. -/
def PWR_TROUBLE_WDT_RESET : Field := ⟨524324, 1⟩
/-- R460: 0x00010008 bit 0, WO, class V. -/
def PWR_MODE_REQ : Field := ⟨524352, 4⟩
/-- R460: 0x0001000C bit 0, WO, class V. -/
def PWR_CMD_CMD : Field := ⟨524384, 4⟩
/-- R460: 0x0001000C bit 4, WO, class V. -/
def PWR_CMD_SLICE : Field := ⟨524388, 3⟩
/-- R460: 0x0001000C bit 16, WO, class V. -/
def PWR_CMD_CONFIRM : Field := ⟨524400, 16⟩
/-- R460: 0x00010010 bit 0, RO, class A. -/
def PWR_RESET_CAUSE : Field := ⟨524416, 4⟩
/-- R460: 0x00010014 bit 0, RW, class A. -/
def PWR_WDT_TIMEOUT : Field := ⟨524448, 16⟩
/-- R460: 0x00010018 bit 0, RW, class A. -/
def PWR_STBY_TIME : Field := ⟨524480, 32⟩
/-- R460: 0x0001001C bit 0, RW, class A. -/
def PWR_CFG_SURVEY_MIN : Field := ⟨524512, 8⟩
/-- R460: 0x0001001C bit 8, RW, class A. -/
def PWR_CFG_HOLD_SURVEY : Field := ⟨524520, 1⟩
/-- R460: 0x0001001C bit 9, RW, class A. -/
def PWR_CFG_PRE_ENABLE : Field := ⟨524521, 11⟩
/-- R460: 0x00010020 bit 0, RO, class V. -/
def PWR_SUPPLY_BASE_TEMP : Field := ⟨524544, 16⟩
/-- R460: 0x00010020 bit 16, RO, class V. -/
def PWR_SUPPLY_BULK_V : Field := ⟨524560, 12⟩
/-- R460: 0x00010024 bit 0, RO, class V. -/
def PWR_RATION_WINDOW : Field := ⟨524576, 8⟩
/-- R460: 0x00010024 bit 8, RO, class V. -/
def PWR_RATION_QUEUED : Field := ⟨524584, 8⟩
/-- R460: 0x00010028 bit 0, RO, class V. -/
def PWR_GATES_SLICE_ON : Field := ⟨524608, 8⟩
/-- R460: 0x00010028 bit 8, RO, class V. -/
def PWR_GATES_SLICE_RET : Field := ⟨524616, 8⟩
/-- R460: 0x00010028 bit 16, RO, class V. -/
def PWR_GATES_DRV_H : Field := ⟨524624, 4⟩
/-- R460: 0x00010028 bit 20, RO, class V. -/
def PWR_GATES_DRV_L : Field := ⟨524628, 1⟩
/-- R460: 0x00010100 bit 0, RO, class A. -/
def PWR_RATION_DELAY_COUNT : Field := ⟨526336, 64⟩
/-- R460: 0x00010108 bit 0, RO, class A. -/
def PWR_MODE_REFUSED_COUNT : Field := ⟨526400, 64⟩
/-- R460: 0x00010110 bit 0, RO, class A. -/
def PWR_WARM_RESET_COUNT : Field := ⟨526464, 64⟩
/-- R460: 0x00010118 bit 0, RO, class A. -/
def PWR_WDT_RESET_COUNT : Field := ⟨526528, 64⟩
/-- R460: 0x00010120 bit 0, RO, class A. -/
def PWR_SLICE_RESET_COUNT : Field := ⟨526592, 64⟩
/-- R460: 0x00010128 bit 0, RO, class P. -/
def PWR_HOLDUP_COUNT : Field := ⟨526656, 64⟩
/-- R460: 0x00010130 bit 0, RO, class P. -/
def PWR_POWER_ON_COUNT : Field := ⟨526720, 64⟩
/-- R460: 0x00010138 bit 0, RO, class A. -/
def PWR_UNDEF_COUNT : Field := ⟨526784, 64⟩
/-- R478: 0x00020000 bit 0, RO, class V. -/
def TRB_SUMMARY : Field := ⟨1048576, 28⟩
/-- R478: 0x00020004 bit 0, RW, class A. -/
def TRB_ALERT_MASK : Field := ⟨1048608, 28⟩
/-- R478: 0x00020008 bit 0, W1C, class W. -/
def TRB_TROUBLE_LASTING : Field := ⟨1048640, 1⟩
/-- R478: 0x00020008 bit 1, W1C, class W. -/
def TRB_TROUBLE_SPINDLE_RETIRED : Field := ⟨1048641, 1⟩
/-- R478: 0x00020008 bit 2, W1C, class W. -/
def TRB_TROUBLE_SLICE_STOPPED : Field := ⟨1048642, 1⟩
/-- R478: 0x00020008 bit 3, W1C, class W. -/
def TRB_TROUBLE_PORT_FAILED : Field := ⟨1048643, 1⟩
/-- R478: 0x00020008 bit 4, W1C, class W. -/
def TRB_TROUBLE_DDR_MARKED : Field := ⟨1048644, 1⟩
/-- R478: 0x00020008 bit 5, W1C, class W. -/
def TRB_TROUBLE_QUEUE_FAULT_RESET : Field := ⟨1048645, 1⟩
/-- R478: 0x00020008 bit 6, W1C, class W. -/
def TRB_TROUBLE_SNAP_MISSED : Field := ⟨1048646, 1⟩
/-- R478: 0x00020008 bit 7, W1C, class W. -/
def TRB_TROUBLE_SNAP_REFUSED : Field := ⟨1048647, 1⟩
/-- R478: 0x00020008 bit 8, W1C, class W. -/
def TRB_TROUBLE_REC_DROPPED : Field := ⟨1048648, 1⟩
/-- R478: 0x0002000C bit 0, RO, class W. -/
def TRB_LAST_FAULT_CLASS : Field := ⟨1048672, 4⟩
/-- R478: 0x0002000C bit 4, RO, class W. -/
def TRB_LAST_FAULT_INSTANCE : Field := ⟨1048676, 12⟩
/-- R478: 0x0002000C bit 16, RO, class W. -/
def TRB_LAST_FAULT_TICK_TAG : Field := ⟨1048688, 16⟩
/-- R478: 0x00020010 bit 0, W1C, class A. -/
def TRB_PORT_FAILED : Field := ⟨1048704, 4⟩
/-- R478: 0x00020014 bit 0, W1C, class A. -/
def TRB_DDR_MARKED : Field := ⟨1048736, 36⟩
/-- R478: 0x0002001C bit 0, RW, class V. -/
def TRB_CLASS_SEL : Field := ⟨1048800, 3⟩
/-- R478: 0x00020030 bit 0, RW, class V. -/
def TRB_SHD_ADDR : Field := ⟨1048960, 32⟩
/-- R478: 0x00020040 bit 0, W1S, class V. -/
def TRB_SNAP_CMD_LOCAL : Field := ⟨1049088, 1⟩
/-- R478: 0x00020040 bit 1, W1S, class V. -/
def TRB_SNAP_CMD_NETWORK : Field := ⟨1049089, 1⟩
/-- R478: 0x00020044 bit 0, RW, class V. -/
def TRB_SNAP_T : Field := ⟨1049120, 128⟩
/-- R478: 0x00020054 bit 0, RO, class W. -/
def TRB_SNAP_STAT_SCHEDULED : Field := ⟨1049248, 1⟩
/-- R478: 0x00020054 bit 1, RO, class W. -/
def TRB_SNAP_STAT_VALID : Field := ⟨1049249, 1⟩
/-- R478: 0x00020054 bit 2, RO, class W. -/
def TRB_SNAP_STAT_LOCAL : Field := ⟨1049250, 1⟩
/-- R478: 0x00020054 bit 16, RO, class W. -/
def TRB_SNAP_STAT_SCHED_ID : Field := ⟨1049264, 16⟩
/-- R478: 0x00020060 bit 0, RO, class W. -/
def TRB_SNAP_TAG_SNAP_ID : Field := ⟨1049344, 16⟩
/-- R478: 0x00020060 bit 16, RO, class W. -/
def TRB_SNAP_TAG_TIM_STATE : Field := ⟨1049360, 3⟩
/-- R478: 0x00020064 bit 0, RO, class W. -/
def TRB_TAG_T : Field := ⟨1049376, 128⟩
/-- R478: 0x00020074 bit 0, RO, class W. -/
def TRB_TAG_TICK : Field := ⟨1049504, 64⟩
/-- R478: 0x0002007C bit 0, RO, class W. -/
def TRB_TAG_BOUND : Field := ⟨1049568, 32⟩
/-- R478: 0x00020080 bit 0, RO, class W. -/
def TRB_TAG_EPOCH : Field := ⟨1049600, 32⟩
/-- R478: 0x00020100 bit 0, RO, class A. -/
def TRB_LASTING_COUNT : Field := ⟨1050624, 64⟩
/-- R478: 0x00020108 bit 0, RO, class A. -/
def TRB_RECORD_COUNT : Field := ⟨1050688, 64⟩
/-- R478: 0x00020110 bit 0, RO, class A. -/
def TRB_REC_DROP_COUNT : Field := ⟨1050752, 64⟩
/-- R478: 0x00020118 bit 0, RO, class A. -/
def TRB_DDR_UNCORR_COUNT : Field := ⟨1050816, 64⟩
/-- R478: 0x00020120 bit 0, RO, class A. -/
def TRB_SNAP_COUNT : Field := ⟨1050880, 64⟩
/-- R478: 0x00020128 bit 0, RO, class A. -/
def TRB_SNAP_MISSED_COUNT : Field := ⟨1050944, 64⟩
/-- R478: 0x00020130 bit 0, RO, class A. -/
def TRB_UNDEF_COUNT : Field := ⟨1051008, 64⟩
/-- R112: 0x00030000 bit 0, RO, class V. -/
def IMG_STAT_STATE : Field := ⟨1572864, 3⟩
/-- R112: 0x00030000 bit 3, RO, class V. -/
def IMG_STAT_RUN_BANK : Field := ⟨1572867, 2⟩
/-- R112: 0x00030000 bit 5, RO, class V. -/
def IMG_STAT_RUN_MODIFIED : Field := ⟨1572869, 1⟩
/-- R112: 0x00030000 bit 6, RO, class V. -/
def IMG_STAT_RUN_TRIAL : Field := ⟨1572870, 1⟩
/-- R112: 0x00030004 bit 0, WO, class V. -/
def IMG_CMD_CMD : Field := ⟨1572896, 8⟩
/-- R112: 0x00030004 bit 8, WO, class V. -/
def IMG_CMD_SLICE : Field := ⟨1572904, 3⟩
/-- R112: 0x00030008 bit 0, RO, class W. -/
def IMG_ERR_CAUSE : Field := ⟨1572928, 8⟩
/-- R112: 0x00030008 bit 8, RO, class W. -/
def IMG_ERR_SEGMENT : Field := ⟨1572936, 8⟩
/-- R112: 0x0003000C bit 0, RO, class V. -/
def IMG_BOOT_STAT_CAUSE_A : Field := ⟨1572960, 8⟩
/-- R112: 0x0003000C bit 8, RO, class V. -/
def IMG_BOOT_STAT_CAUSE_B : Field := ⟨1572968, 8⟩
/-- R112: 0x0003000C bit 16, RO, class V. -/
def IMG_BOOT_STAT_CAUSE_GOLDEN : Field := ⟨1572976, 8⟩
/-- R112: 0x0003000C bit 24, RO, class V. -/
def IMG_BOOT_STAT_FALLBACK : Field := ⟨1572984, 1⟩
/-- R112: 0x0003000C bit 25, RO, class V. -/
def IMG_BOOT_STAT_BOOT_SEL_SEEN : Field := ⟨1572985, 1⟩
/-- R112: 0x00030010 bit 0, RO, class P. -/
def IMG_BANK_STATE_STATE_A : Field := ⟨1572992, 4⟩
/-- R112: 0x00030010 bit 4, RO, class P. -/
def IMG_BANK_STATE_STATE_B : Field := ⟨1572996, 4⟩
/-- R112: 0x00030010 bit 8, RO, class P. -/
def IMG_BANK_STATE_STATE_GOLDEN : Field := ⟨1573000, 4⟩
/-- R112: 0x00030014 bit 0, RW, class P. -/
def IMG_TRIAL_LIMIT : Field := ⟨1573024, 16⟩
/-- R112: 0x00030018 bit 0, RO, class V. -/
def IMG_TRIAL_LEFT : Field := ⟨1573056, 16⟩
/-- R112: 0x00030020 bit 0, RW, class W. -/
def IMG_RELOAD_TICK_LO : Field := ⟨1573120, 32⟩
/-- R112: 0x00030024 bit 0, RW, class W. -/
def IMG_RELOAD_TICK_HI : Field := ⟨1573152, 32⟩
/-- R112: 0x00030028 bit 0, RO, class P. -/
def IMG_SEQ_A : Field := ⟨1573184, 32⟩
/-- R112: 0x0003002C bit 0, RO, class P. -/
def IMG_SEQ_B : Field := ⟨1573216, 32⟩
/-- R112: 0x00030030 bit 0, RW, class V. -/
def IMG_STAGE_OFFSET : Field := ⟨1573248, 26⟩
/-- R112: 0x00030034 bit 0, WO, class V. -/
def IMG_STAGE_DATA : Field := ⟨1573280, 32⟩
/-- R112: 0x00030038 bit 0, RO, class V. -/
def IMG_PROGRESS : Field := ⟨1573312, 32⟩
/-- R112: 0x0003003C bit 0, RO, class W. -/
def IMG_STAGE_REFUSED : Field := ⟨1573344, 32⟩
/-- R112: 0x00030040 bit 0, RO, class V. -/
def IMG_RUN_DIGEST : Field := ⟨1573376, 512⟩
/-- R112: 0x00030080 bit 0, RO, class A. -/
def IMG_RELOAD_COUNT : Field := ⟨1573888, 64⟩
/-- R112: 0x0003008C bit 0, RO, class W. -/
def IMG_RELOAD_LAST_SLICE : Field := ⟨1573984, 3⟩
/-- R112: 0x0003008C bit 3, RO, class W. -/
def IMG_RELOAD_LAST_OK : Field := ⟨1573987, 1⟩
/-- R112: 0x0003008C bit 16, RO, class W. -/
def IMG_RELOAD_LAST_TICK_TAG : Field := ⟨1574000, 16⟩
/-- R250: 0x00040000 bit 0, RO, class V. -/
def TIM_STAT_STATE : Field := ⟨2097152, 3⟩
/-- R250: 0x00040000 bit 3, RO, class V. -/
def TIM_STAT_OUT_ACTIVE : Field := ⟨2097155, 1⟩
/-- R250: 0x00040000 bit 4, RO, class V. -/
def TIM_STAT_SQUELCHED : Field := ⟨2097156, 1⟩
/-- R250: 0x00040000 bit 5, RO, class V. -/
def TIM_STAT_SRC_OK : Field := ⟨2097157, 1⟩
/-- R250: 0x00040000 bit 6, RO, class V. -/
def TIM_STAT_BAND : Field := ⟨2097158, 1⟩
/-- R250: 0x00040000 bit 7, RO, class V. -/
def TIM_STAT_TRACEABLE : Field := ⟨2097159, 1⟩
/-- R250: 0x00040004 bit 0, W1C, class W. -/
def TIM_TROUBLE_LOCK_LOST : Field := ⟨2097184, 1⟩
/-- R250: 0x00040004 bit 1, W1C, class W. -/
def TIM_TROUBLE_HOLDOVER : Field := ⟨2097185, 1⟩
/-- R250: 0x00040004 bit 2, W1C, class W. -/
def TIM_TROUBLE_SRC_LOST : Field := ⟨2097186, 1⟩
/-- R250: 0x00040004 bit 3, W1C, class W. -/
def TIM_TROUBLE_PPS_REJECT : Field := ⟨2097187, 1⟩
/-- R250: 0x00040004 bit 4, W1C, class W. -/
def TIM_TROUBLE_OUTLIER : Field := ⟨2097188, 1⟩
/-- R250: 0x00040004 bit 5, W1C, class W. -/
def TIM_TROUBLE_MODEL_RESID : Field := ⟨2097189, 1⟩
/-- R250: 0x00040004 bit 6, W1C, class W. -/
def TIM_TROUBLE_EVT_DISCARD : Field := ⟨2097190, 1⟩
/-- R250: 0x00040004 bit 7, W1C, class W. -/
def TIM_TROUBLE_FP_FAIL : Field := ⟨2097191, 1⟩
/-- R250: 0x00040004 bit 8, W1C, class W. -/
def TIM_TROUBLE_PARENT_CHANGE : Field := ⟨2097192, 1⟩
/-- R250: 0x00040004 bit 9, W1C, class W. -/
def TIM_TROUBLE_SQUELCH : Field := ⟨2097193, 1⟩
/-- R250: 0x00040004 bit 10, W1C, class W. -/
def TIM_TROUBLE_RELOCK : Field := ⟨2097194, 1⟩
/-- R250: 0x00040004 bit 11, W1C, class W. -/
def TIM_TROUBLE_REF_SWITCH : Field := ⟨2097195, 1⟩
/-- R250: 0x00040008 bit 0, WO, class V. -/
def TIM_CMD : Field := ⟨2097216, 4⟩
/-- R250: 0x00040010 bit 0, RO, class V. -/
def TIM_NOW : Field := ⟨2097280, 128⟩
/-- R250: 0x00040020 bit 0, RO, class V. -/
def TIM_BOUND : Field := ⟨2097408, 32⟩
/-- R250: 0x00040024 bit 0, RO, class V. -/
def TIM_OFFSET : Field := ⟨2097440, 32⟩
/-- R250: 0x00040028 bit 0, RO, class V. -/
def TIM_FREQ : Field := ⟨2097472, 32⟩
/-- R250: 0x0004002C bit 0, RO, class V. -/
def TIM_FREQ_INT : Field := ⟨2097504, 32⟩
/-- R250: 0x00040030 bit 0, RW, class W. -/
def TIM_SERVO_TC_H : Field := ⟨2097536, 10⟩
/-- R250: 0x00040030 bit 10, RW, class W. -/
def TIM_SERVO_TC_SRC : Field := ⟨2097546, 10⟩
/-- R250: 0x00040030 bit 20, RW, class W. -/
def TIM_SERVO_TC_L : Field := ⟨2097556, 12⟩
/-- R250: 0x00040034 bit 0, RW, class W. -/
def TIM_LOCK_THRESH_H : Field := ⟨2097568, 16⟩
/-- R250: 0x00040034 bit 16, RW, class W. -/
def TIM_LOCK_THRESH_L : Field := ⟨2097584, 8⟩
/-- R250: 0x00040034 bit 24, RW, class W. -/
def TIM_LOCK_COUNT : Field := ⟨2097592, 8⟩
/-- R250: 0x00040038 bit 0, RW, class W. -/
def TIM_LIMITS_Y_LIMIT : Field := ⟨2097600, 13⟩
/-- R250: 0x00040038 bit 16, RW, class W. -/
def TIM_LIMITS_RELOCK_LIMIT : Field := ⟨2097616, 9⟩
/-- R250: 0x00040038 bit 25, RW, class W. -/
def TIM_LIMITS_OUTLIER_K : Field := ⟨2097625, 4⟩
/-- R250: 0x0004003C bit 0, RW, class W. -/
def TIM_HOLD_Y : Field := ⟨2097632, 32⟩
/-- R250: 0x00040040 bit 0, RW, class W. -/
def TIM_HOLD_D : Field := ⟨2097664, 32⟩
/-- R250: 0x00040044 bit 0, RW, class W. -/
def TIM_HOLD_T : Field := ⟨2097696, 32⟩
/-- R250: 0x00040048 bit 0, RO, class V. -/
def TIM_HOLD_TIME : Field := ⟨2097728, 32⟩
/-- R250: 0x0004004C bit 0, RW, class W. -/
def TIM_PERIODS_HOLD_MISS : Field := ⟨2097760, 8⟩
/-- R250: 0x0004004C bit 8, RW, class W. -/
def TIM_PERIODS_L_PERIOD : Field := ⟨2097768, 8⟩
/-- R250: 0x0004004C bit 16, RW, class W. -/
def TIM_PERIODS_EFF_WIN : Field := ⟨2097776, 8⟩
/-- R250: 0x00040050 bit 0, RO, class W. -/
def TIM_PARENT_PARENT : Field := ⟨2097792, 16⟩
/-- R250: 0x00040050 bit 16, RO, class W. -/
def TIM_PARENT_BACKUP : Field := ⟨2097808, 16⟩
/-- R250: 0x00040054 bit 0, RO, class W. -/
def TIM_TREE_DEPTH : Field := ⟨2097824, 6⟩
/-- R250: 0x00040054 bit 6, RO, class W. -/
def TIM_TREE_PORT : Field := ⟨2097830, 2⟩
/-- R250: 0x00040054 bit 8, RO, class W. -/
def TIM_TREE_BAND : Field := ⟨2097832, 1⟩
/-- R250: 0x00040054 bit 9, RO, class W. -/
def TIM_TREE_FALLBACK_L : Field := ⟨2097833, 1⟩
/-- R250: 0x00040058 bit 0, RW, class W. -/
def TIM_OUT_CTRL : Field := ⟨2097856, 4⟩
/-- R250: 0x0004005C bit 0, RW, class W. -/
def TIM_SQUELCH : Field := ⟨2097888, 32⟩
/-- R250: 0x00040060 bit 0, RW, class W. -/
def TIM_PPS_WIDTH : Field := ⟨2097920, 32⟩
/-- R250: 0x00040064 bit 0, RW, class P. -/
def TIM_PPS_OUT_OFS : Field := ⟨2097952, 32⟩
/-- R250: 0x00040068 bit 0, RW, class P. -/
def TIM_REF_OUT_OFS : Field := ⟨2097984, 32⟩
/-- R250: 0x0004006C bit 0, RW, class P. -/
def TIM_PPS_IN_DELAY : Field := ⟨2098016, 32⟩
/-- R250: 0x00040070 bit 0, RW, class P. -/
def TIM_SRC_UNC : Field := ⟨2098048, 32⟩
/-- R250: 0x00040074 bit 0, RW, class V. -/
def TIM_TOD_SEC_LO : Field := ⟨2098080, 32⟩
/-- R250: 0x00040078 bit 0, RW, class V. -/
def TIM_TOD_SEC_HI : Field := ⟨2098112, 16⟩
/-- R250: 0x0004007C bit 0, RW, class A. -/
def TIM_UTC_UTC_OFFSET : Field := ⟨2098144, 16⟩
/-- R250: 0x0004007C bit 16, RW, class A. -/
def TIM_UTC_LEAP61 : Field := ⟨2098160, 1⟩
/-- R250: 0x0004007C bit 17, RW, class A. -/
def TIM_UTC_LEAP59 : Field := ⟨2098161, 1⟩
/-- R250: 0x00040080 bit 0, IMG, class I. -/
def TIM_SRC_CFG_SRC : Field := ⟨2098176, 2⟩
/-- R250: 0x00040080 bit 2, IMG, class I. -/
def TIM_SRC_CFG_SYSCLK : Field := ⟨2098178, 1⟩
/-- R250: 0x00040080 bit 3, IMG, class I. -/
def TIM_SRC_CFG_PTP_SRC_PORT : Field := ⟨2098179, 2⟩
/-- R250: 0x00040084 bit 0, RW, class W. -/
def TIM_EVT_EN : Field := ⟨2098208, 4⟩
/-- R250: 0x00040088 bit 0, RW, class P. -/
def TIM_EVT_DELAY (i : Nat) : Field := ⟨2098240 + 32 * i, 32⟩
/-- R250: 0x000400A0 bit 0, RO, class V. -/
def TIM_EVT_LAST (i : Nat) : Field := ⟨2098432 + 128 * i, 128⟩
/-- R250: 0x000400E0 bit 0, RW, class P. -/
def TIM_PTP_LAT_INGRESS (i : Nat) : Field := ⟨2098944 + 32 * i, 16⟩
/-- R250: 0x000400E0 bit 16, RW, class P. -/
def TIM_PTP_LAT_EGRESS (i : Nat) : Field := ⟨2098960 + 32 * i, 16⟩
/-- R250: 0x000400EC bit 0, RO, class V. -/
def TIM_PTP_STAT_CLOCK_CLASS : Field := ⟨2099040, 8⟩
/-- R250: 0x000400EC bit 8, RO, class V. -/
def TIM_PTP_STAT_STATE_J1 : Field := ⟨2099048, 4⟩
/-- R250: 0x000400EC bit 12, RO, class V. -/
def TIM_PTP_STAT_STATE_J2 : Field := ⟨2099052, 4⟩
/-- R250: 0x000400EC bit 16, RO, class V. -/
def TIM_PTP_STAT_STATE_J3 : Field := ⟨2099056, 4⟩
/-- R250: 0x00040100 bit 0, RW, class V. -/
def TIM_LINK_SEL_INDEX : Field := ⟨2099200, 8⟩
/-- R250: 0x00040100 bit 8, RO, class V. -/
def TIM_LINK_SEL_IN_USE : Field := ⟨2099208, 1⟩
/-- R250: 0x00040200 bit 0, RO, class A. -/
def TIM_EXCH_OK_COUNT : Field := ⟨2101248, 64⟩
/-- R250: 0x00040208 bit 0, RO, class A. -/
def TIM_ONEWAY_COUNT : Field := ⟨2101312, 64⟩
/-- R250: 0x00040210 bit 0, RO, class A. -/
def TIM_OUTLIER_COUNT : Field := ⟨2101376, 64⟩
/-- R250: 0x00040218 bit 0, RO, class A. -/
def TIM_FP_FAIL_COUNT : Field := ⟨2101440, 64⟩
/-- R250: 0x00040220 bit 0, RO, class A. -/
def TIM_PPS_REJECT_COUNT : Field := ⟨2101504, 64⟩
/-- R250: 0x00040228 bit 0, RO, class A. -/
def TIM_EVT_COUNT : Field := ⟨2101568, 64⟩
/-- R250: 0x00040230 bit 0, RO, class A. -/
def TIM_EVT_DISCARD_COUNT : Field := ⟨2101632, 64⟩
/-- R250: 0x00040238 bit 0, RO, class A. -/
def TIM_HOLD_COUNT : Field := ⟨2101696, 64⟩
/-- R250: 0x00040240 bit 0, RO, class A. -/
def TIM_UNDEF_COUNT : Field := ⟨2101760, 64⟩
/-- R150: 0x00050000 bit 0, RO, class V. -/
def SPR_STAT_L1_PRESENT : Field := ⟨2621440, 1⟩
/-- R150: 0x00050000 bit 1, RO, class V. -/
def SPR_STAT_L2_PRESENT : Field := ⟨2621441, 1⟩
/-- R150: 0x00050000 bit 2, RO, class V. -/
def SPR_STAT_L3_PRESENT : Field := ⟨2621442, 1⟩
/-- R150: 0x00050000 bit 3, RO, class V. -/
def SPR_STAT_LOCKED : Field := ⟨2621443, 1⟩
/-- R150: 0x00050000 bit 4, RO, class V. -/
def SPR_STAT_NPP_GRID : Field := ⟨2621444, 1⟩
/-- R150: 0x00050004 bit 0, W1C, class A. -/
def SPR_TROUBLE_MAINS_LOSS : Field := ⟨2621472, 1⟩
/-- R150: 0x00050004 bit 1, W1C, class W. -/
def SPR_TROUBLE_L2_LOST : Field := ⟨2621473, 1⟩
/-- R150: 0x00050004 bit 2, W1C, class W. -/
def SPR_TROUBLE_L3_LOST : Field := ⟨2621474, 1⟩
/-- R150: 0x00050004 bit 3, W1C, class W. -/
def SPR_TROUBLE_FREQ_OUT : Field := ⟨2621475, 1⟩
/-- R150: 0x00050004 bit 4, W1C, class W. -/
def SPR_TROUBLE_CROSSING_REJECT : Field := ⟨2621476, 1⟩
/-- R150: 0x00050008 bit 0, RO, class V. -/
def SPR_FREQ : Field := ⟨2621504, 17⟩
/-- R150: 0x0005000C bit 0, RO, class V. -/
def SPR_PHASE_L2 : Field := ⟨2621536, 16⟩
/-- R150: 0x0005000C bit 16, RO, class V. -/
def SPR_PHASE_L3 : Field := ⟨2621552, 16⟩
/-- R150: 0x00050010 bit 0, RO, class V. -/
def SPR_PERIOD : Field := ⟨2621568, 32⟩
/-- R150: 0x00050014 bit 0, RO, class V. -/
def SPR_ZC_NS (i : Nat) : Field := ⟨2621600 + 64 * i, 32⟩
/-- R150: 0x00050018 bit 0, RO, class V. -/
def SPR_ZC_SEC (i : Nat) : Field := ⟨2621632 + 64 * i, 16⟩
/-- R150: 0x00050030 bit 0, RW, class W. -/
def SPR_FILT_A : Field := ⟨2621824, 4⟩
/-- R150: 0x00050030 bit 4, RW, class W. -/
def SPR_FILT_B : Field := ⟨2621828, 4⟩
/-- R150: 0x00050034 bit 0, RW, class W. -/
def SPR_NPP_CTRL_ACC : Field := ⟨2621856, 4⟩
/-- R150: 0x00050038 bit 0, RO, class V. -/
def SPR_NPP_SEQ : Field := ⟨2621888, 32⟩
/-- R150: 0x00050040 bit 0, RO, class A. -/
def SPR_REJECT_COUNT : Field := ⟨2621952, 64⟩
/-- R150: 0x00050048 bit 0, RO, class A. -/
def SPR_UNDEF_COUNT : Field := ⟨2622016, 64⟩
/-- R150: 0x00050400 bit 0, RO, class V. -/
def SPR_NPP : Field := ⟨2629632, 4096⟩
/-- R148: 0x00060000 bit 0, RO, class V. -/
def LFE_STAT_PHASE_PRESENT (i : Nat) : Field := ⟨3145728 + 32768 * i, 1⟩
/-- R148: 0x00060000 bit 1, RO, class V. -/
def LFE_STAT_AGC_FROZEN_H (i : Nat) : Field := ⟨3145729 + 32768 * i, 1⟩
/-- R148: 0x00060000 bit 2, RO, class V. -/
def LFE_STAT_AGC_FROZEN_L (i : Nat) : Field := ⟨3145730 + 32768 * i, 1⟩
/-- R148: 0x00060000 bit 3, RO, class V. -/
def LFE_STAT_TX_ACTIVE_H (i : Nat) : Field := ⟨3145731 + 32768 * i, 1⟩
/-- R148: 0x00060000 bit 4, RO, class V. -/
def LFE_STAT_TX_ACTIVE_L (i : Nat) : Field := ⟨3145732 + 32768 * i, 1⟩
/-- R148: 0x00060000 bit 5, RO, class A. -/
def LFE_STAT_COUPLER_OPEN (i : Nat) : Field := ⟨3145733 + 32768 * i, 1⟩
/-- R148: 0x00060004 bit 0, W1C, class W. -/
def LFE_TROUBLE_CURR_LIMIT_H (i : Nat) : Field := ⟨3145760 + 32768 * i, 1⟩
/-- R148: 0x00060004 bit 1, W1C, class W. -/
def LFE_TROUBLE_CURR_LIMIT_L (i : Nat) : Field := ⟨3145761 + 32768 * i, 1⟩
/-- R148: 0x00060004 bit 2, W1C, class W. -/
def LFE_TROUBLE_FOLDBACK (i : Nat) : Field := ⟨3145762 + 32768 * i, 1⟩
/-- R148: 0x00060004 bit 3, W1C, class W. -/
def LFE_TROUBLE_THERMAL_SHUTDOWN (i : Nat) : Field := ⟨3145763 + 32768 * i, 1⟩
/-- R148: 0x00060004 bit 4, W1C, class W. -/
def LFE_TROUBLE_AGC_SAT_REL_H (i : Nat) : Field := ⟨3145764 + 32768 * i, 1⟩
/-- R148: 0x00060004 bit 5, W1C, class W. -/
def LFE_TROUBLE_AGC_SAT_REL_L (i : Nat) : Field := ⟨3145765 + 32768 * i, 1⟩
/-- R148: 0x00060004 bit 6, W1C, class W. -/
def LFE_TROUBLE_POWER_LIMITED (i : Nat) : Field := ⟨3145766 + 32768 * i, 1⟩
/-- R148: 0x00060004 bit 7, W1C, class W. -/
def LFE_TROUBLE_COUPLER_OPEN (i : Nat) : Field := ⟨3145767 + 32768 * i, 1⟩
/-- R148: 0x00060008 bit 0, IMG, class I. -/
def LFE_CFG_H_PROFILE (i : Nat) : Field := ⟨3145792 + 32768 * i, 3⟩
/-- R148: 0x00060008 bit 4, IMG, class I. -/
def LFE_CFG_L_PROFILE (i : Nat) : Field := ⟨3145796 + 32768 * i, 3⟩
/-- R148: 0x00060008 bit 16, IMG, class I. -/
def LFE_CFG_H_CENTRE (i : Nat) : Field := ⟨3145808 + 32768 * i, 16⟩
/-- R148: 0x0006000C bit 0, RW, class W. -/
def LFE_TX_ATTEN_H (i : Nat) : Field := ⟨3145824 + 32768 * i, 7⟩
/-- R148: 0x0006000C bit 8, RW, class W. -/
def LFE_TX_ATTEN_L (i : Nat) : Field := ⟨3145832 + 32768 * i, 7⟩
/-- R148: 0x0006000C bit 16, RO, class V. -/
def LFE_TX_ATTEN_FOLDBACK_DB (i : Nat) : Field := ⟨3145840 + 32768 * i, 5⟩
/-- R148: 0x00060010 bit 0, RW, class W. -/
def LFE_AGC_CFG_TARGET_H (i : Nat) : Field := ⟨3145856 + 32768 * i, 8⟩
/-- R148: 0x00060010 bit 8, RW, class W. -/
def LFE_AGC_CFG_TARGET_L (i : Nat) : Field := ⟨3145864 + 32768 * i, 8⟩
/-- R148: 0x00060010 bit 16, RW, class W. -/
def LFE_AGC_CFG_SAT_LIMIT_H (i : Nat) : Field := ⟨3145872 + 32768 * i, 8⟩
/-- R148: 0x00060010 bit 24, RW, class W. -/
def LFE_AGC_CFG_SAT_LIMIT_L (i : Nat) : Field := ⟨3145880 + 32768 * i, 8⟩
/-- R148: 0x00060014 bit 0, RO, class V. -/
def LFE_AGC_GAIN_GAIN_H (i : Nat) : Field := ⟨3145888 + 32768 * i, 16⟩
/-- R148: 0x00060014 bit 16, RO, class V. -/
def LFE_AGC_GAIN_GAIN_L (i : Nat) : Field := ⟨3145904 + 32768 * i, 16⟩
/-- R148: 0x00060018 bit 0, RW, class W. -/
def LFE_GATE_H (i : Nat) : Field := ⟨3145920 + 32768 * i, 32⟩
/-- R148: 0x0006001C bit 0, RW, class W. -/
def LFE_GATE_L (i : Nat) : Field := ⟨3145952 + 32768 * i, 32⟩
/-- R148: 0x00060020 bit 0, RO, class V. -/
def LFE_FLOOR_FLOOR_H (i : Nat) : Field := ⟨3145984 + 32768 * i, 16⟩
/-- R148: 0x00060020 bit 16, RO, class V. -/
def LFE_FLOOR_FLOOR_L (i : Nat) : Field := ⟨3146000 + 32768 * i, 16⟩
/-- R148: 0x00060024 bit 0, RO, class V. -/
def LFE_DRV_TEMP (i : Nat) : Field := ⟨3146016 + 32768 * i, 16⟩
/-- R148: 0x00060040 bit 0, RO, class A. -/
def LFE_GATE_EVENT_H (i : Nat) : Field := ⟨3146240 + 32768 * i, 64⟩
/-- R148: 0x00060048 bit 0, RO, class A. -/
def LFE_GATE_EVENT_L (i : Nat) : Field := ⟨3146304 + 32768 * i, 64⟩
/-- R148: 0x00060050 bit 0, RO, class A. -/
def LFE_AGC_SAT_REL_COUNT (i : Nat) : Field := ⟨3146368 + 32768 * i, 64⟩
/-- R148: 0x00060058 bit 0, RO, class A. -/
def LFE_CURR_LIMIT_COUNT (i : Nat) : Field := ⟨3146432 + 32768 * i, 64⟩
/-- R148: 0x00060060 bit 0, RO, class A. -/
def LFE_FOLDBACK_COUNT (i : Nat) : Field := ⟨3146496 + 32768 * i, 64⟩
/-- R149: 0x00064000 bit 0, RO, class V. -/
def LFE_L_SEL : Field := ⟨3276800, 3⟩
/-- R149: 0x00064004 bit 0, RO, class V. -/
def LFE_L_TEMP : Field := ⟨3276832, 16⟩
/-- R149: 0x00064008 bit 0, RO, class I. -/
def LFE_NOTCH_STAT_IMAGE_NOTCHES : Field := ⟨3276864, 6⟩
/-- R149: 0x00064008 bit 8, RO, class W. -/
def LFE_NOTCH_STAT_VALID_NOTCHES : Field := ⟨3276872, 6⟩
/-- R149: 0x00064008 bit 14, W1C, class W. -/
def LFE_NOTCH_STAT_NOTCH_REFUSED : Field := ⟨3276878, 1⟩
/-- R149: 0x00064010 bit 0, RO, class A. -/
def LFE_NOTCH_REFUSED_COUNT : Field := ⟨3276928, 64⟩
/-- R149: 0x00064018 bit 0, RO, class A. -/
def LFE_UNDEF_COUNT : Field := ⟨3276992, 64⟩
/-- R149: 0x00064100 bit 0, RW, class W. -/
def LFE_NOTCH_START (i : Nat) : Field := ⟨3278848 + 64 * i, 16⟩
/-- R149: 0x00064100 bit 16, RW, class W. -/
def LFE_NOTCH_STOP (i : Nat) : Field := ⟨3278864 + 64 * i, 16⟩
/-- R149: 0x00064104 bit 0, RW, class W. -/
def LFE_NOTCH_VALID (i : Nat) : Field := ⟨3278880 + 64 * i, 1⟩
/-- R149: 0x00064104 bit 1, RO, class I. -/
def LFE_NOTCH_LOCKED (i : Nat) : Field := ⟨3278881 + 64 * i, 1⟩
/-- R181: 0x00070000 bit 0, RO, class V. -/
def PHY_NET_SCR : Field := ⟨3670016, 13⟩
/-- R181: 0x00070004 bit 0, RO, class W. -/
def PHY_REJECT_LAST_CAUSE : Field := ⟨3670048, 4⟩
/-- R181: 0x00070004 bit 4, RO, class W. -/
def PHY_REJECT_LAST_PORT : Field := ⟨3670052, 2⟩
/-- R181: 0x00070004 bit 6, RO, class W. -/
def PHY_REJECT_LAST_BAND : Field := ⟨3670054, 1⟩
/-- R181: 0x00070008 bit 0, W1C, class W. -/
def PHY_TROUBLE_HDR_REJECT : Field := ⟨3670080, 1⟩
/-- R181: 0x00070008 bit 1, W1C, class W. -/
def PHY_TROUBLE_TX_REFUSED : Field := ⟨3670081, 1⟩
/-- R181: 0x00070008 bit 2, W1C, class W. -/
def PHY_TROUBLE_SEG_OMITTED : Field := ⟨3670082, 1⟩
/-- R181: 0x00070010 bit 0, RO, class A. -/
def PHY_HDR_REJECT_COUNT : Field := ⟨3670144, 64⟩
/-- R181: 0x00070018 bit 0, RO, class A. -/
def PHY_TX_REFUSED_COUNT : Field := ⟨3670208, 64⟩
/-- R181: 0x00070020 bit 0, RO, class A. -/
def PHY_SEG_OMITTED_COUNT : Field := ⟨3670272, 64⟩
/-- R181: 0x00070028 bit 0, RO, class A. -/
def PHY_UNDEF_COUNT : Field := ⟨3670336, 64⟩
/-- R208: 0x00070100 bit 0, RW, class W. -/
def PHY_DET_H_THRESH : Field := ⟨3672064, 16⟩
/-- R208: 0x00070100 bit 16, RW, class W. -/
def PHY_DET_H_REPS : Field := ⟨3672080, 3⟩
/-- R208: 0x00070104 bit 0, RW, class W. -/
def PHY_DET_L_THRESH : Field := ⟨3672096, 16⟩
/-- R208: 0x00070104 bit 16, RW, class W. -/
def PHY_DET_L_REPS : Field := ⟨3672112, 3⟩
/-- R208: 0x00070108 bit 0, RW, class W. -/
def PHY_EQ_H_FFE_TAPS : Field := ⟨3672128, 7⟩
/-- R208: 0x00070108 bit 7, RW, class W. -/
def PHY_EQ_H_DFE_TAPS : Field := ⟨3672135, 6⟩
/-- R208: 0x00070108 bit 13, RW, class W. -/
def PHY_EQ_H_CHIP_MAX_E : Field := ⟨3672141, 4⟩
/-- R208: 0x00070108 bit 17, RW, class W. -/
def PHY_EQ_H_RAKE : Field := ⟨3672145, 5⟩
/-- R208: 0x0007010C bit 0, RW, class W. -/
def PHY_EQ_L_FFE_TAPS : Field := ⟨3672160, 7⟩
/-- R208: 0x0007010C bit 7, RW, class W. -/
def PHY_EQ_L_DFE_TAPS : Field := ⟨3672167, 6⟩
/-- R208: 0x0007010C bit 13, RW, class W. -/
def PHY_EQ_L_CHIP_MAX_E : Field := ⟨3672173, 4⟩
/-- R208: 0x0007010C bit 17, RW, class W. -/
def PHY_EQ_L_RAKE : Field := ⟨3672177, 5⟩
/-- R208: 0x00070110 bit 0, RW, class W. -/
def PHY_EQ_STEP_TRAIN : Field := ⟨3672192, 4⟩
/-- R208: 0x00070110 bit 4, RW, class W. -/
def PHY_EQ_STEP_TRACK : Field := ⟨3672196, 4⟩
/-- R208: 0x00070110 bit 8, RW, class W. -/
def PHY_EQ_STEP_RECOVER : Field := ⟨3672200, 4⟩
/-- R208: 0x00070110 bit 12, RW, class W. -/
def PHY_EQ_STEP_RECOVER_LEN : Field := ⟨3672204, 12⟩
/-- R208: 0x00070110 bit 24, RW, class W. -/
def PHY_EQ_STEP_BURST_MIN : Field := ⟨3672216, 8⟩
/-- R208: 0x00070114 bit 0, RW, class W. -/
def PHY_DEC_ITER : Field := ⟨3672224, 6⟩
/-- R208: 0x00070114 bit 6, RW, class W. -/
def PHY_DEC_ERASE_DATA : Field := ⟨3672230, 8⟩
/-- R208: 0x00070114 bit 14, RW, class W. -/
def PHY_DEC_ERASE_CTRL : Field := ⟨3672238, 8⟩
/-- R208: 0x00070118 bit 0, RW, class W. -/
def PHY_TIMWH_BLANK_LIMIT : Field := ⟨3672256, 8⟩
/-- R208: 0x00070118 bit 8, RW, class W. -/
def PHY_TIMWH_CHG : Field := ⟨3672264, 8⟩
/-- R208: 0x0007011C bit 0, RW, class W. -/
def PHY_LQ_CFG_AVG_Q : Field := ⟨3672288, 4⟩
/-- R208: 0x0007011C bit 4, RW, class W. -/
def PHY_LQ_CFG_UP_HYST : Field := ⟨3672292, 8⟩
/-- R208: 0x0007011C bit 12, RW, class W. -/
def PHY_LQ_CFG_DOWN : Field := ⟨3672300, 8⟩
/-- R208: 0x0007011C bit 20, RW, class W. -/
def PHY_LQ_CFG_FAIL_LIMIT : Field := ⟨3672308, 4⟩
/-- R208: 0x00070120 bit 0, W1C, class W. -/
def PHY_RX_TROUBLE_FALSE_DET : Field := ⟨3672320, 1⟩
/-- R208: 0x00070120 bit 1, W1C, class W. -/
def PHY_RX_TROUBLE_HDR_CRC_FAIL : Field := ⟨3672321, 1⟩
/-- R208: 0x00070120 bit 2, W1C, class W. -/
def PHY_RX_TROUBLE_ABORT_ERASE : Field := ⟨3672322, 1⟩
/-- R208: 0x00070120 bit 3, W1C, class W. -/
def PHY_RX_TROUBLE_ABORT_SAT : Field := ⟨3672323, 1⟩
/-- R208: 0x00070120 bit 4, W1C, class W. -/
def PHY_RX_TROUBLE_PREEMPTED : Field := ⟨3672324, 1⟩
/-- R208: 0x00070120 bit 5, W1C, class W. -/
def PHY_RX_TROUBLE_TIM_WITHHELD : Field := ⟨3672325, 1⟩
/-- R208: 0x00070120 bit 6, W1C, class W. -/
def PHY_RX_TROUBLE_SEG_MISSED : Field := ⟨3672326, 1⟩
/-- R208: 0x00070120 bit 7, W1C, class W. -/
def PHY_RX_TROUBLE_CAP_GAP : Field := ⟨3672327, 1⟩
/-- R208: 0x00070120 bit 8, W1C, class W. -/
def PHY_RX_TROUBLE_LADDER_DOWN : Field := ⟨3672328, 1⟩
/-- R208: 0x00070124 bit 0, RO, class W. -/
def PHY_TIMWH_LAST_CAUSE : Field := ⟨3672352, 3⟩
/-- R208: 0x00070124 bit 3, RO, class W. -/
def PHY_TIMWH_LAST_PORT : Field := ⟨3672355, 2⟩
/-- R208: 0x00070124 bit 5, RO, class W. -/
def PHY_TIMWH_LAST_BAND : Field := ⟨3672357, 1⟩
/-- R208: 0x00070124 bit 16, RO, class W. -/
def PHY_TIMWH_LAST_TICK_TAG : Field := ⟨3672368, 16⟩
/-- R208: 0x00070140 bit 0, RW, class W. -/
def PHY_LADDER_H (i : Nat) : Field := ⟨3672576 + 16 * i, 16⟩
/-- R208: 0x00070160 bit 0, RW, class W. -/
def PHY_LADDER_L (i : Nat) : Field := ⟨3672832 + 16 * i, 16⟩
/-- R208: 0x00070180 bit 0, RW, class V. -/
def PHY_LQ_PEER_ADDR : Field := ⟨3673088, 16⟩
/-- R208: 0x00070180 bit 16, RW, class V. -/
def PHY_LQ_PEER_BAND : Field := ⟨3673104, 1⟩
/-- R208: 0x000701A0 bit 0, RO, class W. -/
def PHY_FLOOR_H (i : Nat) : Field := ⟨3673344 + 32 * i, 16⟩
/-- R208: 0x000701A0 bit 16, RO, class W. -/
def PHY_FLOOR_L (i : Nat) : Field := ⟨3673360 + 32 * i, 16⟩
/-- R208: 0x000701C0 bit 0, RW, class V. -/
def PHY_CAP_CTRL_PORT : Field := ⟨3673600, 2⟩
/-- R208: 0x000701C0 bit 2, RW, class V. -/
def PHY_CAP_CTRL_BAND : Field := ⟨3673602, 1⟩
/-- R208: 0x000701C0 bit 3, RW, class V. -/
def PHY_CAP_CTRL_TRIG : Field := ⟨3673603, 3⟩
/-- R208: 0x000701C0 bit 6, W1S, class V. -/
def PHY_CAP_CTRL_ARM : Field := ⟨3673606, 1⟩
/-- R208: 0x000701C0 bit 7, W1S, class V. -/
def PHY_CAP_CTRL_STOP : Field := ⟨3673607, 1⟩
/-- R208: 0x000701C4 bit 0, RW, class V. -/
def PHY_CAP_LEN_PRE : Field := ⟨3673632, 10⟩
/-- R208: 0x000701C4 bit 16, RW, class V. -/
def PHY_CAP_LEN_POST : Field := ⟨3673648, 10⟩
/-- R208: 0x000701C8 bit 0, RW, class V. -/
def PHY_CAP_TICK_LO : Field := ⟨3673664, 32⟩
/-- R208: 0x000701CC bit 0, RW, class V. -/
def PHY_CAP_TICK_HI : Field := ⟨3673696, 32⟩
/-- R208: 0x000701D0 bit 0, RO, class V. -/
def PHY_CAP_STAT_STATE : Field := ⟨3673728, 2⟩
/-- R208: 0x000701D0 bit 2, RO, class V. -/
def PHY_CAP_STAT_ABORTED : Field := ⟨3673730, 1⟩
/-- R208: 0x000701D0 bit 4, RO, class V. -/
def PHY_CAP_STAT_UNITS : Field := ⟨3673732, 24⟩
/-- R208: 0x00070200 bit 0, RO, class A. -/
def PHY_DET_COUNT : Field := ⟨3674112, 64⟩
/-- R208: 0x00070208 bit 0, RO, class A. -/
def PHY_FALSE_DET_COUNT : Field := ⟨3674176, 64⟩
/-- R208: 0x00070210 bit 0, RO, class A. -/
def PHY_HDR_CRC_FAIL_COUNT : Field := ⟨3674240, 64⟩
/-- R208: 0x00070218 bit 0, RO, class A. -/
def PHY_ABORT_ERASE_COUNT : Field := ⟨3674304, 64⟩
/-- R208: 0x00070220 bit 0, RO, class A. -/
def PHY_ABORT_OTHER_COUNT : Field := ⟨3674368, 64⟩
/-- R208: 0x00070228 bit 0, RO, class A. -/
def PHY_BLOCK_FAIL_COUNT : Field := ⟨3674432, 64⟩
/-- R208: 0x00070230 bit 0, RO, class A. -/
def PHY_PAYLOAD_CRC_FAIL_COUNT : Field := ⟨3674496, 64⟩
/-- R208: 0x00070238 bit 0, RO, class A. -/
def PHY_TIM_WITHHELD_COUNT : Field := ⟨3674560, 64⟩
/-- R208: 0x00070240 bit 0, RO, class A. -/
def PHY_SEG_MISSED_COUNT : Field := ⟨3674624, 64⟩
/-- R208: 0x00070248 bit 0, RO, class A. -/
def PHY_FRAMES_OK_COUNT : Field := ⟨3674688, 64⟩
/-- R288: 0x00080000 bit 0, RO, class V. -/
def MAC_STAT_STATE : Field := ⟨4194304, 3⟩
/-- R288: 0x00080000 bit 3, RO, class V. -/
def MAC_STAT_MISSES : Field := ⟨4194307, 2⟩
/-- R288: 0x00080000 bit 5, RO, class V. -/
def MAC_STAT_QUIET_H : Field := ⟨4194309, 1⟩
/-- R288: 0x00080000 bit 6, RO, class V. -/
def MAC_STAT_QUIET_L : Field := ⟨4194310, 1⟩
/-- R288: 0x00080000 bit 7, RO, class V. -/
def MAC_STAT_DOZING : Field := ⟨4194311, 1⟩
/-- R288: 0x00080004 bit 0, W1C, class W. -/
def MAC_TROUBLE_BEACON_LOST : Field := ⟨4194336, 1⟩
/-- R288: 0x00080004 bit 1, W1C, class W. -/
def MAC_TROUBLE_CA_FAIL : Field := ⟨4194337, 1⟩
/-- R288: 0x00080004 bit 2, W1C, class W. -/
def MAC_TROUBLE_RETRY_EXHAUSTED : Field := ⟨4194338, 1⟩
/-- R288: 0x00080004 bit 3, W1C, class W. -/
def MAC_TROUBLE_TOO_LONG : Field := ⟨4194339, 1⟩
/-- R288: 0x00080004 bit 4, W1C, class W. -/
def MAC_TROUBLE_REPLAY : Field := ⟨4194340, 1⟩
/-- R288: 0x00080004 bit 5, W1C, class W. -/
def MAC_TROUBLE_REPLY_BLOCKED : Field := ⟨4194341, 1⟩
/-- R288: 0x00080004 bit 6, W1C, class W. -/
def MAC_TROUBLE_BUDGET_REFUSED : Field := ⟨4194342, 1⟩
/-- R288: 0x00080004 bit 7, W1C, class W. -/
def MAC_TROUBLE_SLOT_LOST : Field := ⟨4194343, 1⟩
/-- R288: 0x00080008 bit 0, RO, class A. -/
def MAC_ADDR_SHORT : Field := ⟨4194368, 16⟩
/-- R288: 0x00080008 bit 16, IMG, class I. -/
def MAC_ADDR_NET_ID : Field := ⟨4194384, 16⟩
/-- R288: 0x00080014 bit 0, RW, class W. -/
def MAC_GROUP_MASK : Field := ⟨4194464, 15⟩
/-- R288: 0x00080018 bit 0, RW, class W. -/
def MAC_ACCESS_BE_MIN : Field := ⟨4194496, 4⟩
/-- R288: 0x00080018 bit 4, RW, class W. -/
def MAC_ACCESS_BE_MAX : Field := ⟨4194500, 4⟩
/-- R288: 0x00080018 bit 8, RW, class W. -/
def MAC_ACCESS_CA_TRIES : Field := ⟨4194504, 4⟩
/-- R288: 0x00080018 bit 12, RW, class W. -/
def MAC_ACCESS_CS_MARGIN : Field := ⟨4194508, 6⟩
/-- R288: 0x00080018 bit 18, RW, class W. -/
def MAC_ACCESS_RETRY_LIMIT : Field := ⟨4194514, 4⟩
/-- R288: 0x0008001C bit 0, RW, class W. -/
def MAC_BA_BA_WAIT : Field := ⟨4194528, 8⟩
/-- R288: 0x0008001C bit 8, RW, class W. -/
def MAC_BA_BA_TIMEOUT : Field := ⟨4194536, 8⟩
/-- R288: 0x0008001C bit 16, RW, class W. -/
def MAC_BA_WAKE_HOLD : Field := ⟨4194544, 12⟩
/-- R288: 0x00080020 bit 0, RO, class A. -/
def MAC_GRID_BP_CYCLES : Field := ⟨4194560, 7⟩
/-- R288: 0x00080020 bit 7, RO, class A. -/
def MAC_GRID_MAP_LEN : Field := ⟨4194567, 5⟩
/-- R288: 0x00080020 bit 16, RO, class A. -/
def MAC_GRID_MAP_SEQ : Field := ⟨4194576, 16⟩
/-- R288: 0x00080024 bit 0, RO, class A. -/
def MAC_PERIOD_REV : Field := ⟨4194592, 32⟩
/-- R288: 0x00080028 bit 0, RW, class W. -/
def MAC_BUDGET_H : Field := ⟨4194624, 32⟩
/-- R288: 0x0008002C bit 0, RW, class W. -/
def MAC_RESERVE_H : Field := ⟨4194656, 32⟩
/-- R288: 0x00080030 bit 0, RW, class W. -/
def MAC_BUDGET_L : Field := ⟨4194688, 32⟩
/-- R288: 0x00080034 bit 0, RW, class W. -/
def MAC_RESERVE_L : Field := ⟨4194720, 32⟩
/-- R288: 0x00080038 bit 0, RO, class V. -/
def MAC_USED_H : Field := ⟨4194752, 32⟩
/-- R288: 0x0008003C bit 0, RO, class V. -/
def MAC_USED_L : Field := ⟨4194784, 32⟩
/-- R288: 0x00080040 bit 0, RO, class A. -/
def MAC_LAST_RESYNC : Field := ⟨4194816, 64⟩
/-- R288: 0x00080048 bit 0, RO, class V. -/
def MAC_GUARD : Field := ⟨4194880, 32⟩
/-- R288: 0x0008004C bit 0, RO, class V. -/
def MAC_RUN_MAX : Field := ⟨4194912, 16⟩
/-- R288: 0x0008004C bit 16, RO, class W. -/
def MAC_LAST_FOREIGN_NET : Field := ⟨4194928, 16⟩
/-- R288: 0x00080050 bit 0, RW, class W. -/
def MAC_JOIN_OPEN : Field := ⟨4194944, 1⟩
/-- R288: 0x00080080 bit 0, RW, class V. -/
def MAC_PEER_SEL_ADDR : Field := ⟨4195328, 16⟩
/-- R288: 0x00080080 bit 16, RW, class V. -/
def MAC_PEER_SEL_CLASS : Field := ⟨4195344, 1⟩
/-- R288: 0x00080100 bit 0, RO, class A. -/
def MAC_ROW_H (i : Nat) : Field := ⟨4196352 + 64 * i, 32⟩
/-- R288: 0x00080104 bit 0, RO, class A. -/
def MAC_ROW_L (i : Nat) : Field := ⟨4196384 + 64 * i, 32⟩
/-- R288: 0x00080200 bit 0, RO, class A. -/
def MAC_TX_FRAMES_COUNT : Field := ⟨4198400, 64⟩
/-- R288: 0x00080208 bit 0, RO, class A. -/
def MAC_FILTER_DROP_COUNT : Field := ⟨4198464, 64⟩
/-- R288: 0x00080210 bit 0, RO, class A. -/
def MAC_DUP_COUNT : Field := ⟨4198528, 64⟩
/-- R288: 0x00080218 bit 0, RO, class A. -/
def MAC_REPLAY_COUNT : Field := ⟨4198592, 64⟩
/-- R288: 0x00080220 bit 0, RO, class A. -/
def MAC_ORDER_DROP_COUNT : Field := ⟨4198656, 64⟩
/-- R288: 0x00080228 bit 0, RO, class A. -/
def MAC_ADMIT_REFUSED_COUNT : Field := ⟨4198720, 64⟩
/-- R288: 0x00080230 bit 0, RO, class A. -/
def MAC_CA_FAIL_COUNT : Field := ⟨4198784, 64⟩
/-- R288: 0x00080238 bit 0, RO, class A. -/
def MAC_RETRY_COUNT : Field := ⟨4198848, 64⟩
/-- R288: 0x00080240 bit 0, RO, class A. -/
def MAC_RETRY_EXHAUSTED_COUNT : Field := ⟨4198912, 64⟩
/-- R288: 0x00080248 bit 0, RO, class A. -/
def MAC_REPLY_BLOCKED_COUNT : Field := ⟨4198976, 64⟩
/-- R288: 0x00080250 bit 0, RO, class A. -/
def MAC_BUDGET_REFUSED_COUNT : Field := ⟨4199040, 64⟩
/-- R288: 0x00080258 bit 0, RO, class A. -/
def MAC_BEACON_MISS_COUNT : Field := ⟨4199104, 64⟩
/-- R288: 0x00080260 bit 0, RO, class A. -/
def MAC_SLOT_LOST_COUNT : Field := ⟨4199168, 64⟩
/-- R288: 0x00080268 bit 0, RO, class A. -/
def MAC_TOO_LONG_COUNT : Field := ⟨4199232, 64⟩
/-- R288: 0x00080270 bit 0, RO, class A. -/
def MAC_UNDEF_COUNT : Field := ⟨4199296, 64⟩
/-- R317: 0x00090000 bit 0, IMG, class I. -/
def MSH_STAT_ROLE : Field := ⟨4718592, 2⟩
/-- R317: 0x00090000 bit 2, RO, class A. -/
def MSH_STAT_ROUTE_VALID : Field := ⟨4718594, 1⟩
/-- R317: 0x00090000 bit 3, IMG, class I. -/
def MSH_STAT_COLLECTOR : Field := ⟨4718595, 1⟩
/-- R317: 0x00090004 bit 0, W1C, class W. -/
def MSH_TROUBLE_NO_ROUTE : Field := ⟨4718624, 1⟩
/-- R317: 0x00090004 bit 1, W1C, class W. -/
def MSH_TROUBLE_HOP_LIMIT : Field := ⟨4718625, 1⟩
/-- R317: 0x00090004 bit 2, W1C, class W. -/
def MSH_TROUBLE_LOCAL_REPAIR : Field := ⟨4718626, 1⟩
/-- R317: 0x00090004 bit 3, W1C, class W. -/
def MSH_TROUBLE_LOOP_DROP : Field := ⟨4718627, 1⟩
/-- R317: 0x00090004 bit 4, W1C, class W. -/
def MSH_TROUBLE_LS_FULL : Field := ⟨4718628, 1⟩
/-- R317: 0x00090004 bit 5, W1C, class W. -/
def MSH_TROUBLE_NODE_LOST : Field := ⟨4718629, 1⟩
/-- R317: 0x00090004 bit 6, W1C, class W. -/
def MSH_TROUBLE_SWEEP_MISS : Field := ⟨4718630, 1⟩
/-- R317: 0x00090008 bit 0, RO, class A. -/
def MSH_UPLINK_DATA_PARENT : Field := ⟨4718656, 16⟩
/-- R317: 0x00090008 bit 16, RO, class A. -/
def MSH_UPLINK_DEPTH_D : Field := ⟨4718672, 8⟩
/-- R317: 0x0009000C bit 0, RO, class A. -/
def MSH_ROUTE_SEQ : Field := ⟨4718688, 16⟩
/-- R317: 0x00090010 bit 0, RW, class W. -/
def MSH_COST_W0_W_BASE : Field := ⟨4718720, 16⟩
/-- R317: 0x00090010 bit 16, RW, class W. -/
def MSH_COST_W0_W_MARGIN : Field := ⟨4718736, 8⟩
/-- R317: 0x00090010 bit 24, RW, class W. -/
def MSH_COST_W0_W_RETRY : Field := ⟨4718744, 8⟩
/-- R317: 0x00090014 bit 0, RW, class W. -/
def MSH_COST_W1_W_BUDGET : Field := ⟨4718752, 8⟩
/-- R317: 0x00090014 bit 8, RW, class W. -/
def MSH_COST_W1_W_TIME : Field := ⟨4718760, 8⟩
/-- R317: 0x00090014 bit 16, RW, class W. -/
def MSH_COST_W1_M_REF : Field := ⟨4718768, 8⟩
/-- R317: 0x00090014 bit 24, RW, class W. -/
def MSH_COST_W1_M_MIN : Field := ⟨4718776, 8⟩
/-- R317: 0x00090018 bit 0, RW, class W. -/
def MSH_REPORT_CFG_LINK_AGE : Field := ⟨4718784, 16⟩
/-- R317: 0x00090018 bit 16, RW, class W. -/
def MSH_REPORT_CFG_LINK_REPORT_S : Field := ⟨4718800, 12⟩
/-- R317: 0x0009001C bit 0, RW, class W. -/
def MSH_LIMITS_LOST_PERIODS : Field := ⟨4718816, 8⟩
/-- R317: 0x0009001C bit 8, RW, class W. -/
def MSH_LIMITS_LINK_MAX : Field := ⟨4718824, 6⟩
/-- R317: 0x0009001C bit 14, RW, class W. -/
def MSH_LIMITS_RECOMPUTE_MIN : Field := ⟨4718830, 8⟩
/-- R317: 0x00090020 bit 0, IMG, class I. -/
def MSH_COLLECT_CFG_CAP : Field := ⟨4718848, 9⟩
/-- R317: 0x00090020 bit 9, RW, class W. -/
def MSH_COLLECT_CFG_TARGET : Field := ⟨4718857, 8⟩
/-- R317: 0x00090020 bit 17, RW, class W. -/
def MSH_COLLECT_CFG_STEP : Field := ⟨4718865, 4⟩
/-- R317: 0x00090020 bit 21, RW, class W. -/
def MSH_COLLECT_CFG_PASSES : Field := ⟨4718869, 3⟩
/-- R317: 0x00090020 bit 24, RW, class W. -/
def MSH_COLLECT_CFG_SWEEP_LEAD : Field := ⟨4718872, 4⟩
/-- R317: 0x00090024 bit 0, RO, class A. -/
def MSH_COLLECT_OWN_INDEX : Field := ⟨4718880, 8⟩
/-- R317: 0x00090024 bit 8, RO, class A. -/
def MSH_COLLECT_OWN_TIER : Field := ⟨4718888, 2⟩
/-- R317: 0x00090024 bit 10, RO, class A. -/
def MSH_COLLECT_OWN_PORT : Field := ⟨4718890, 2⟩
/-- R317: 0x00090024 bit 12, RO, class A. -/
def MSH_COLLECT_OWN_ATTEN : Field := ⟨4718892, 8⟩
/-- R317: 0x00090028 bit 0, RO, class A. -/
def MSH_WINDOW : Field := ⟨4718912, 16⟩
/-- R317: 0x0009002C bit 0, RO, class W. -/
def MSH_SWEEP_SWEEP_ID : Field := ⟨4718944, 16⟩
/-- R317: 0x0009002C bit 16, RO, class V. -/
def MSH_SWEEP_STATE : Field := ⟨4718960, 2⟩
/-- R317: 0x00090030 bit 0, RO, class W. -/
def MSH_SWEEP_REV : Field := ⟨4718976, 32⟩
/-- R317: 0x00090034 bit 0, RW, class W. -/
def MSH_SWEEP_CTRL_WINDOWS : Field := ⟨4719008, 16⟩
/-- R317: 0x00090034 bit 16, W1S, class V. -/
def MSH_SWEEP_CTRL_START : Field := ⟨4719024, 1⟩
/-- R317: 0x00090038 bit 0, RO, class A. -/
def MSH_NODES_ACTIVE : Field := ⟨4719040, 16⟩
/-- R317: 0x00090038 bit 16, RO, class A. -/
def MSH_NODES_LOST : Field := ⟨4719056, 16⟩
/-- R317: 0x0009003C bit 0, RO, class A. -/
def MSH_LS_USED : Field := ⟨4719072, 18⟩
/-- R317: 0x00090100 bit 0, RO, class A. -/
def MSH_FWD_COUNT : Field := ⟨4720640, 64⟩
/-- R317: 0x00090108 bit 0, RO, class A. -/
def MSH_NO_ROUTE_COUNT : Field := ⟨4720704, 64⟩
/-- R317: 0x00090110 bit 0, RO, class A. -/
def MSH_HOP_LIMIT_COUNT : Field := ⟨4720768, 64⟩
/-- R317: 0x00090118 bit 0, RO, class A. -/
def MSH_LOOP_DROP_COUNT : Field := ⟨4720832, 64⟩
/-- R317: 0x00090120 bit 0, RO, class A. -/
def MSH_LOCAL_REPAIR_COUNT : Field := ⟨4720896, 64⟩
/-- R317: 0x00090128 bit 0, RO, class A. -/
def MSH_BCAST_DUP_COUNT : Field := ⟨4720960, 64⟩
/-- R317: 0x00090130 bit 0, RO, class A. -/
def MSH_LS_FULL_COUNT : Field := ⟨4721024, 64⟩
/-- R317: 0x00090138 bit 0, RO, class A. -/
def MSH_ROUTE_SET_COUNT : Field := ⟨4721088, 64⟩
/-- R317: 0x00090140 bit 0, RO, class A. -/
def MSH_COLLECT_RX_COUNT : Field := ⟨4721152, 64⟩
/-- R317: 0x00090148 bit 0, RO, class A. -/
def MSH_COLLECT_MISS_COUNT : Field := ⟨4721216, 64⟩
/-- R317: 0x00090150 bit 0, RO, class A. -/
def MSH_COLLECT_STRAY_COUNT : Field := ⟨4721280, 64⟩
/-- R317: 0x00090158 bit 0, RO, class A. -/
def MSH_UNDEF_COUNT : Field := ⟨4721344, 64⟩
/-- R344: 0x000A0000 bit 0, RO, class V. -/
def QMG_STAT_BULK_READY : Field := ⟨5242880, 1⟩
/-- R344: 0x000A0000 bit 1, RO, class A. -/
def QMG_STAT_REFILLING : Field := ⟨5242881, 1⟩
/-- R344: 0x000A0000 bit 2, RO, class W. -/
def QMG_STAT_THR_ANY : Field := ⟨5242882, 1⟩
/-- R344: 0x000A0004 bit 0, W1C, class W. -/
def QMG_TROUBLE_ADMIT_REFUSED : Field := ⟨5242912, 1⟩
/-- R344: 0x000A0004 bit 1, W1C, class W. -/
def QMG_TROUBLE_LOST : Field := ⟨5242913, 1⟩
/-- R344: 0x000A0004 bit 2, W1C, class W. -/
def QMG_TROUBLE_ABSENT_WRITE : Field := ⟨5242914, 1⟩
/-- R344: 0x000A0004 bit 3, W1C, class W. -/
def QMG_TROUBLE_LENGTH_ERR : Field := ⟨5242915, 1⟩
/-- R344: 0x000A0004 bit 4, W1C, class W. -/
def QMG_TROUBLE_CORRECTED : Field := ⟨5242916, 1⟩
/-- R344: 0x000A0004 bit 5, W1C, class W. -/
def QMG_TROUBLE_UNCORRECTED : Field := ⟨5242917, 1⟩
/-- R344: 0x000A0004 bit 6, W1C, class W. -/
def QMG_TROUBLE_PTR_MISMATCH : Field := ⟨5242918, 1⟩
/-- R344: 0x000A0004 bit 7, W1C, class W. -/
def QMG_TROUBLE_FORCED_RESET : Field := ⟨5242919, 1⟩
/-- R344: 0x000A0004 bit 8, W1C, class W. -/
def QMG_TROUBLE_HEAD_DISCARD : Field := ⟨5242920, 1⟩
/-- R344: 0x000A0004 bit 9, W1C, class W. -/
def QMG_TROUBLE_FLUSH_REFUSED : Field := ⟨5242921, 1⟩
/-- R344: 0x000A0004 bit 10, W1C, class W. -/
def QMG_TROUBLE_REFILL_REFUSED : Field := ⟨5242922, 1⟩
/-- R344: 0x000A0008 bit 0, WO, class V. -/
def QMG_CMD_QUEUE : Field := ⟨5242944, 12⟩
/-- R344: 0x000A0008 bit 12, WO, class V. -/
def QMG_CMD_CMD : Field := ⟨5242956, 4⟩
/-- R344: 0x000A000C bit 0, RO, class V. -/
def QMG_CMD_STAT_PENDING : Field := ⟨5242976, 1⟩
/-- R344: 0x000A000C bit 1, RO, class V. -/
def QMG_CMD_STAT_REFUSED : Field := ⟨5242977, 1⟩
/-- R344: 0x000A0010 bit 0, RW, class V. -/
def QMG_SEL : Field := ⟨5243008, 12⟩
/-- R344: 0x000A0060 bit 0, RO, class A. -/
def QMG_FAST_USED : Field := ⟨5243648, 17⟩
/-- R344: 0x000A0064 bit 0, RO, class A. -/
def QMG_BULK_USED : Field := ⟨5243680, 27⟩
/-- R344: 0x000A0068 bit 0, IMG, class I. -/
def QMG_BULK_SIZE : Field := ⟨5243712, 27⟩
/-- R344: 0x000A0100 bit 0, W1C, class W. -/
def QMG_THR_STAT : Field := ⟨5244928, 4096⟩
/-- R344: 0x000A0300 bit 0, RO, class A. -/
def QMG_COMMIT_COUNT : Field := ⟨5249024, 64⟩
/-- R344: 0x000A0308 bit 0, RO, class A. -/
def QMG_REWIND_COUNT : Field := ⟨5249088, 64⟩
/-- R344: 0x000A0310 bit 0, RO, class A. -/
def QMG_ADMIT_REFUSED_COUNT : Field := ⟨5249152, 64⟩
/-- R344: 0x000A0318 bit 0, RO, class A. -/
def QMG_LOST_COUNT : Field := ⟨5249216, 64⟩
/-- R344: 0x000A0320 bit 0, RO, class A. -/
def QMG_ABSENT_COUNT : Field := ⟨5249280, 64⟩
/-- R344: 0x000A0328 bit 0, RO, class A. -/
def QMG_LENGTH_ERR_COUNT : Field := ⟨5249344, 64⟩
/-- R344: 0x000A0330 bit 0, RO, class A. -/
def QMG_FLUSH_DROP_COUNT : Field := ⟨5249408, 64⟩
/-- R344: 0x000A0338 bit 0, RO, class A. -/
def QMG_CORR_COUNT : Field := ⟨5249472, 64⟩
/-- R344: 0x000A0340 bit 0, RO, class A. -/
def QMG_UNCORR_COUNT : Field := ⟨5249536, 64⟩
/-- R344: 0x000A0348 bit 0, RO, class A. -/
def QMG_PTR_MISMATCH_COUNT : Field := ⟨5249600, 64⟩
/-- R344: 0x000A0350 bit 0, RO, class A. -/
def QMG_FORCED_RESET_COUNT : Field := ⟨5249664, 64⟩
/-- R344: 0x000A0358 bit 0, RO, class A. -/
def QMG_RESET_LOST_COUNT : Field := ⟨5249728, 64⟩
/-- R344: 0x000A0360 bit 0, RO, class A. -/
def QMG_HEAD_FAIL_COUNT : Field := ⟨5249792, 64⟩
/-- R344: 0x000A0368 bit 0, RO, class A. -/
def QMG_HEAD_DISCARD_COUNT : Field := ⟨5249856, 64⟩
/-- R344: 0x000A0370 bit 0, RO, class A. -/
def QMG_REFILL_REFUSED_COUNT : Field := ⟨5249920, 64⟩
/-- R344: 0x000A0378 bit 0, RO, class A. -/
def QMG_UNDEF_COUNT : Field := ⟨5249984, 64⟩
/-- R385: 0x000B0000 bit 0, RO, class V. -/
def CUS_STAT_ACCEPT_READY : Field := ⟨5767168, 1⟩
/-- R385: 0x000B0000 bit 1, RO, class V. -/
def CUS_STAT_RESTORED : Field := ⟨5767169, 1⟩
/-- R385: 0x000B0000 bit 2, RO, class V. -/
def CUS_STAT_RESTORE_BUSY : Field := ⟨5767170, 1⟩
/-- R385: 0x000B0004 bit 0, W1C, class W. -/
def CUS_TROUBLE_REFUSED : Field := ⟨5767200, 1⟩
/-- R385: 0x000B0004 bit 1, W1C, class W. -/
def CUS_TROUBLE_HOST_GAP : Field := ⟨5767201, 1⟩
/-- R385: 0x000B0004 bit 2, W1C, class W. -/
def CUS_TROUBLE_E2E_RESEND : Field := ⟨5767202, 1⟩
/-- R385: 0x000B0004 bit 3, W1C, class W. -/
def CUS_TROUBLE_REASM_DROP : Field := ⟨5767203, 1⟩
/-- R385: 0x000B0004 bit 4, W1C, class A. -/
def CUS_TROUBLE_FLUSH_FAIL : Field := ⟨5767204, 1⟩
/-- R385: 0x000B0004 bit 5, W1C, class A. -/
def CUS_TROUBLE_RESTORE_FAIL : Field := ⟨5767205, 1⟩
/-- R385: 0x000B0004 bit 6, W1C, class A. -/
def CUS_TROUBLE_CHANNEL_DISCARD : Field := ⟨5767206, 1⟩
/-- R385: 0x000B0004 bit 7, W1C, class W. -/
def CUS_TROUBLE_HOST_OVERSIZE : Field := ⟨5767207, 1⟩
/-- R385: 0x000B0004 bit 8, W1C, class W. -/
def CUS_TROUBLE_MALFORMED : Field := ⟨5767208, 1⟩
/-- R385: 0x000B0008 bit 0, RO, class P. -/
def CUS_EPOCH : Field := ⟨5767232, 32⟩
/-- R385: 0x000B000C bit 0, RO, class P. -/
def CUS_FLUSH_LAST : Field := ⟨5767264, 20⟩
/-- R385: 0x000B0010 bit 0, RO, class P. -/
def CUS_FLUSH_SEQ : Field := ⟨5767296, 32⟩
/-- R385: 0x000B0014 bit 0, RO, class A. -/
def CUS_WINDOW_USED : Field := ⟨5767328, 19⟩
/-- R385: 0x000B0020 bit 0, RW, class P. -/
def CUS_IP4 : Field := ⟨5767424, 32⟩
/-- R385: 0x000B0024 bit 0, RW, class P. -/
def CUS_IP6 : Field := ⟨5767456, 128⟩
/-- R385: 0x000B0040 bit 0, RW, class V. -/
def CUS_SEL : Field := ⟨5767680, 11⟩
/-- R385: 0x000B0100 bit 0, RO, class A. -/
def CUS_ACCEPT_COUNT : Field := ⟨5769216, 64⟩
/-- R385: 0x000B0108 bit 0, RO, class A. -/
def CUS_HOST_DUP_COUNT : Field := ⟨5769280, 64⟩
/-- R385: 0x000B0110 bit 0, RO, class A. -/
def CUS_HOST_GAP_COUNT : Field := ⟨5769344, 64⟩
/-- R385: 0x000B0118 bit 0, RO, class A. -/
def CUS_REFUSE_COUNT : Field := ⟨5769408, 64⟩
/-- R385: 0x000B0120 bit 0, RO, class A. -/
def CUS_HOST_RETX_COUNT : Field := ⟨5769472, 64⟩
/-- R385: 0x000B0128 bit 0, RO, class A. -/
def CUS_DELIVER_COUNT : Field := ⟨5769536, 64⟩
/-- R385: 0x000B0130 bit 0, RO, class A. -/
def CUS_E2E_RESEND_COUNT : Field := ⟨5769600, 64⟩
/-- R385: 0x000B0138 bit 0, RO, class A. -/
def CUS_LINE_DUP_COUNT : Field := ⟨5769664, 64⟩
/-- R385: 0x000B0140 bit 0, RO, class A. -/
def CUS_LINE_GAP_COUNT : Field := ⟨5769728, 64⟩
/-- R385: 0x000B0148 bit 0, RO, class A. -/
def CUS_LINE_REFUSED_COUNT : Field := ⟨5769792, 64⟩
/-- R385: 0x000B0150 bit 0, RO, class A. -/
def CUS_REASM_DROP_COUNT : Field := ⟨5769856, 64⟩
/-- R385: 0x000B0158 bit 0, RO, class A. -/
def CUS_DISCARD_COUNT : Field := ⟨5769920, 64⟩
/-- R385: 0x000B0160 bit 0, RO, class A. -/
def CUS_EPOCH_MISMATCH_COUNT : Field := ⟨5769984, 64⟩
/-- R385: 0x000B0168 bit 0, RO, class A. -/
def CUS_MALFORMED_COUNT : Field := ⟨5770048, 64⟩
/-- R385: 0x000B0170 bit 0, RO, class A. -/
def CUS_UNDEF_COUNT : Field := ⟨5770112, 64⟩
/-- R404: 0x000C0000 bit 0, RO, class V. -/
def SEN_STAT_OPEN : Field := ⟨6291456, 8⟩
/-- R404: 0x000C0000 bit 8, RO, class V. -/
def SEN_STAT_CLAMP : Field := ⟨6291464, 8⟩
/-- R404: 0x000C0000 bit 16, RO, class V. -/
def SEN_STAT_IMP_FAIL : Field := ⟨6291472, 8⟩
/-- R404: 0x000C0000 bit 24, RO, class V. -/
def SEN_STAT_STALE : Field := ⟨6291480, 1⟩
/-- R404: 0x000C0000 bit 25, RO, class V. -/
def SEN_STAT_SCANNING : Field := ⟨6291481, 1⟩
/-- R404: 0x000C0004 bit 0, W1C, class W. -/
def SEN_TROUBLE_OPEN_SEEN : Field := ⟨6291488, 8⟩
/-- R404: 0x000C0004 bit 8, W1C, class W. -/
def SEN_TROUBLE_CLAMP_SEEN : Field := ⟨6291496, 8⟩
/-- R404: 0x000C0004 bit 16, W1C, class W. -/
def SEN_TROUBLE_OVERRANGE_SEEN : Field := ⟨6291504, 8⟩
/-- R404: 0x000C0004 bit 24, W1C, class W. -/
def SEN_TROUBLE_IMP_FAIL_SEEN : Field := ⟨6291512, 8⟩
/-- R404: 0x000C0008 bit 0, WO, class V. -/
def SEN_CMD_CMD : Field := ⟨6291520, 4⟩
/-- R404: 0x000C0008 bit 4, WO, class V. -/
def SEN_CMD_CHANNEL : Field := ⟨6291524, 3⟩
/-- R404: 0x000C000C bit 0, RW, class W. -/
def SEN_IMP_PERIOD : Field := ⟨6291552, 10⟩
/-- R404: 0x000C0010 bit 0, RW, class W. -/
def SEN_SCAN_PERIOD : Field := ⟨6291584, 16⟩
/-- R404: 0x000C0014 bit 0, RO, class V. -/
def SEN_SCAN_TIME : Field := ⟨6291616, 32⟩
/-- R404: 0x000C0020 bit 0, RW, class W. -/
def SEN_CH_CTRL_RANGE (i : Nat) : Field := ⟨6291712 + 32 * i, 3⟩
/-- R404: 0x000C0020 bit 3, RW, class W. -/
def SEN_CH_CTRL_AUTO (i : Nat) : Field := ⟨6291715 + 32 * i, 1⟩
/-- R404: 0x000C0020 bit 4, RW, class W. -/
def SEN_CH_CTRL_BURNOUT (i : Nat) : Field := ⟨6291716 + 32 * i, 1⟩
/-- R404: 0x000C0020 bit 5, RW, class W. -/
def SEN_CH_CTRL_RATE (i : Nat) : Field := ⟨6291717 + 32 * i, 4⟩
/-- R404: 0x000C0020 bit 9, RW, class W. -/
def SEN_CH_CTRL_AVG (i : Nat) : Field := ⟨6291721 + 32 * i, 8⟩
/-- R404: 0x000C0020 bit 17, RW, class W. -/
def SEN_CH_CTRL_SETTLE (i : Nat) : Field := ⟨6291729 + 32 * i, 8⟩
/-- R404: 0x000C0040 bit 0, IMG, class I. -/
def SEN_CH_CFG_KIND (i : Nat) : Field := ⟨6291968 + 32 * i, 3⟩
/-- R404: 0x000C0040 bit 3, IMG, class I. -/
def SEN_CH_CFG_WIRES (i : Nat) : Field := ⟨6291971 + 32 * i, 3⟩
/-- R404: 0x000C0040 bit 6, IMG, class I. -/
def SEN_CH_CFG_EXC (i : Nat) : Field := ⟨6291974 + 32 * i, 2⟩
/-- R404: 0x000C0040 bit 8, IMG, class I. -/
def SEN_CH_CFG_BOUND (i : Nat) : Field := ⟨6291976 + 32 * i, 1⟩
/-- R404: 0x000C0060 bit 0, RO, class V. -/
def SEN_IMP (i : Nat) : Field := ⟨6292224 + 32 * i, 16⟩
/-- R404: 0x000C0100 bit 0, RO, class V. -/
def SEN_LAST (i : Nat) : Field := ⟨6293504 + 256 * i, 192⟩
/-- R404: 0x000C0200 bit 0, RO, class A. -/
def SEN_SAMPLE_COUNT : Field := ⟨6295552, 64⟩
/-- R404: 0x000C0208 bit 0, RO, class A. -/
def SEN_OPEN_COUNT : Field := ⟨6295616, 64⟩
/-- R404: 0x000C0210 bit 0, RO, class A. -/
def SEN_OVERRANGE_COUNT : Field := ⟨6295680, 64⟩
/-- R404: 0x000C0218 bit 0, RO, class A. -/
def SEN_CLAMP_COUNT : Field := ⟨6295744, 64⟩
/-- R404: 0x000C0220 bit 0, RO, class A. -/
def SEN_IMP_CHECK_COUNT : Field := ⟨6295808, 64⟩
/-- R404: 0x000C0228 bit 0, RO, class A. -/
def SEN_RANGE_CHANGE_COUNT : Field := ⟨6295872, 64⟩
/-- R404: 0x000C0230 bit 0, RO, class A. -/
def SEN_UNDEF_COUNT : Field := ⟨6295936, 64⟩
/-- R421: 0x000D0000 bit 0, RW, class A. -/
def SER_CFG_DATA (i : Nat) : Field := ⟨6815744 + 32768 * i, 3⟩
/-- R421: 0x000D0000 bit 3, RW, class A. -/
def SER_CFG_PARITY (i : Nat) : Field := ⟨6815747 + 32768 * i, 3⟩
/-- R421: 0x000D0000 bit 6, RW, class A. -/
def SER_CFG_STOP2 (i : Nat) : Field := ⟨6815750 + 32768 * i, 1⟩
/-- R421: 0x000D0000 bit 7, RW, class A. -/
def SER_CFG_SYNC (i : Nat) : Field := ⟨6815751 + 32768 * i, 1⟩
/-- R421: 0x000D0000 bit 8, RW, class A. -/
def SER_CFG_ECHO_MASK (i : Nat) : Field := ⟨6815752 + 32768 * i, 1⟩
/-- R421: 0x000D0000 bit 9, RW, class A. -/
def SER_CFG_WAKE_EN (i : Nat) : Field := ⟨6815753 + 32768 * i, 1⟩
/-- R421: 0x000D0000 bit 10, RW, class A. -/
def SER_CFG_RX_EN (i : Nat) : Field := ⟨6815754 + 32768 * i, 1⟩
/-- R421: 0x000D0000 bit 11, RW, class A. -/
def SER_CFG_TX_EN (i : Nat) : Field := ⟨6815755 + 32768 * i, 1⟩
/-- R421: 0x000D0004 bit 0, RW, class A. -/
def SER_BAUD_INC (i : Nat) : Field := ⟨6815776 + 32768 * i, 23⟩
/-- R421: 0x000D0008 bit 0, RW, class A. -/
def SER_SYNC_SCK_DIV (i : Nat) : Field := ⟨6815808 + 32768 * i, 16⟩
/-- R421: 0x000D0008 bit 16, RW, class A. -/
def SER_SYNC_GAP (i : Nat) : Field := ⟨6815824 + 32768 * i, 8⟩
/-- R421: 0x000D000C bit 0, RW, class A. -/
def SER_DE_LEAD (i : Nat) : Field := ⟨6815840 + 32768 * i, 8⟩
/-- R421: 0x000D000C bit 8, RW, class A. -/
def SER_DE_TAIL (i : Nat) : Field := ⟨6815848 + 32768 * i, 8⟩
/-- R421: 0x000D000C bit 16, RW, class A. -/
def SER_DE_STUCK_CHARS (i : Nat) : Field := ⟨6815856 + 32768 * i, 8⟩
/-- R421: 0x000D0010 bit 0, RW, class A. -/
def SER_RX_PKT_RX_QUEUE (i : Nat) : Field := ⟨6815872 + 32768 * i, 12⟩
/-- R421: 0x000D0010 bit 12, RW, class A. -/
def SER_RX_PKT_RX_Q_EN (i : Nat) : Field := ⟨6815884 + 32768 * i, 1⟩
/-- R421: 0x000D0010 bit 13, RW, class A. -/
def SER_RX_PKT_CLOSE_IDLE (i : Nat) : Field := ⟨6815885 + 32768 * i, 1⟩
/-- R421: 0x000D0010 bit 16, RW, class A. -/
def SER_RX_PKT_PKT_CHARS (i : Nat) : Field := ⟨6815888 + 32768 * i, 8⟩
/-- R421: 0x000D0014 bit 0, RW, class A. -/
def SER_RX_AGE_PKT_TICKS (i : Nat) : Field := ⟨6815904 + 32768 * i, 16⟩
/-- R421: 0x000D0018 bit 0, RW, class A. -/
def SER_TX_Q_TX_QUEUE (i : Nat) : Field := ⟨6815936 + 32768 * i, 12⟩
/-- R421: 0x000D0018 bit 12, RW, class A. -/
def SER_TX_Q_TX_Q_EN (i : Nat) : Field := ⟨6815948 + 32768 * i, 1⟩
/-- R421: 0x000D0020 bit 0, RO, class V. -/
def SER_STAT_RX_FULL (i : Nat) : Field := ⟨6816000 + 32768 * i, 1⟩
/-- R421: 0x000D0020 bit 1, RO, class V. -/
def SER_STAT_TX_EMPTY (i : Nat) : Field := ⟨6816001 + 32768 * i, 1⟩
/-- R421: 0x000D0020 bit 2, RO, class V. -/
def SER_STAT_TX_BUSY (i : Nat) : Field := ⟨6816002 + 32768 * i, 1⟩
/-- R421: 0x000D0020 bit 3, RO, class V. -/
def SER_STAT_IDLE (i : Nat) : Field := ⟨6816003 + 32768 * i, 1⟩
/-- R421: 0x000D0020 bit 4, RO, class V. -/
def SER_STAT_SUPPRESSED (i : Nat) : Field := ⟨6816004 + 32768 * i, 1⟩
/-- R421: 0x000D0020 bit 5, RSC, class V. -/
def SER_STAT_FE (i : Nat) : Field := ⟨6816005 + 32768 * i, 1⟩
/-- R421: 0x000D0020 bit 6, RSC, class V. -/
def SER_STAT_PE (i : Nat) : Field := ⟨6816006 + 32768 * i, 1⟩
/-- R421: 0x000D0020 bit 7, RSC, class V. -/
def SER_STAT_OE (i : Nat) : Field := ⟨6816007 + 32768 * i, 1⟩
/-- R421: 0x000D0024 bit 0, RO, class V. -/
def SER_DATA (i : Nat) : Field := ⟨6816032 + 32768 * i, 16⟩
/-- R421: 0x000D0028 bit 0, WO, class V. -/
def SER_TXD_DATA (i : Nat) : Field := ⟨6816064 + 32768 * i, 9⟩
/-- R421: 0x000D0028 bit 9, WO, class V. -/
def SER_TXD_BREAK (i : Nat) : Field := ⟨6816073 + 32768 * i, 1⟩
/-- R421: 0x000D002C bit 0, W1C, class W. -/
def SER_TROUBLE_LINE_STUCK (i : Nat) : Field := ⟨6816096 + 32768 * i, 1⟩
/-- R421: 0x000D002C bit 1, W1C, class W. -/
def SER_TROUBLE_TX_REFUSED (i : Nat) : Field := ⟨6816097 + 32768 * i, 1⟩
/-- R421: 0x000D002C bit 2, W1C, class W. -/
def SER_TROUBLE_WAKE_LOST (i : Nat) : Field := ⟨6816098 + 32768 * i, 1⟩
/-- R421: 0x000D0100 bit 0, RO, class A. -/
def SER_RX_CHAR_COUNT (i : Nat) : Field := ⟨6817792 + 32768 * i, 64⟩
/-- R421: 0x000D0108 bit 0, RO, class A. -/
def SER_TX_CHAR_COUNT (i : Nat) : Field := ⟨6817856 + 32768 * i, 64⟩
/-- R421: 0x000D0110 bit 0, RO, class A. -/
def SER_FRAMING_COUNT (i : Nat) : Field := ⟨6817920 + 32768 * i, 64⟩
/-- R421: 0x000D0118 bit 0, RO, class A. -/
def SER_PARITY_COUNT (i : Nat) : Field := ⟨6817984 + 32768 * i, 64⟩
/-- R421: 0x000D0120 bit 0, RO, class A. -/
def SER_OVERRUN_COUNT (i : Nat) : Field := ⟨6818048 + 32768 * i, 64⟩
/-- R421: 0x000D0128 bit 0, RO, class A. -/
def SER_GLITCH_COUNT (i : Nat) : Field := ⟨6818112 + 32768 * i, 64⟩
/-- R421: 0x000D0130 bit 0, RO, class A. -/
def SER_BREAK_COUNT (i : Nat) : Field := ⟨6818176 + 32768 * i, 64⟩
/-- R421: 0x000D0138 bit 0, RO, class A. -/
def SER_LINE_STUCK_COUNT (i : Nat) : Field := ⟨6818240 + 32768 * i, 64⟩
/-- R421: 0x000D0140 bit 0, RO, class A. -/
def SER_UNDEF_COUNT (i : Nat) : Field := ⟨6818304 + 32768 * i, 64⟩
/-- R436: 0x000E0000 bit 0, RO, class V. -/
def TRU_STAT_ACTIVE : Field := ⟨7340032, 4⟩
/-- R436: 0x000E0000 bit 4, RO, class V. -/
def TRU_STAT_SENSOR_RUNNING : Field := ⟨7340036, 1⟩
/-- R436: 0x000E0000 bit 5, RO, class V. -/
def TRU_STAT_SLEWING : Field := ⟨7340037, 1⟩
/-- R436: 0x000E0004 bit 0, W1C, class W. -/
def TRU_TROUBLE_ABORTED : Field := ⟨7340064, 1⟩
/-- R436: 0x000E0004 bit 1, W1C, class W. -/
def TRU_TROUBLE_REJECTED : Field := ⟨7340065, 1⟩
/-- R436: 0x000E0004 bit 2, W1C, class W. -/
def TRU_TROUBLE_LARGE_STEP : Field := ⟨7340066, 1⟩
/-- R436: 0x000E0008 bit 0, WO, class V. -/
def TRU_CMD : Field := ⟨7340096, 11⟩
/-- R436: 0x000E000C bit 0, RW, class A. -/
def TRU_CFG_PERIOD : Field := ⟨7340128, 16⟩
/-- R436: 0x000E000C bit 16, RW, class A. -/
def TRU_CFG_TEMP_DELTA : Field := ⟨7340144, 8⟩
/-- R436: 0x000E000C bit 24, RW, class A. -/
def TRU_CFG_QUIET_HOLD : Field := ⟨7340152, 1⟩
/-- R436: 0x000E000C bit 25, RW, class A. -/
def TRU_CFG_USE_CONTENTION : Field := ⟨7340153, 1⟩
/-- R436: 0x000E0010 bit 0, RO, class V. -/
def TRU_DUE : Field := ⟨7340160, 11⟩
/-- R436: 0x000E0014 bit 0, RO, class A. -/
def TRU_COUNT : Field := ⟨7340192, 32⟩
/-- R436: 0x000E0018 bit 0, RO, class A. -/
def TRU_LAST_TIME : Field := ⟨7340224, 128⟩
/-- R436: 0x000E0030 bit 0, RW, class V. -/
def TRU_BLK_SEL : Field := ⟨7340416, 4⟩
/-- R436: 0x000E0100 bit 0, RO, class A. -/
def TRU_ABORT_COUNT : Field := ⟨7342080, 64⟩
/-- R436: 0x000E0108 bit 0, RO, class A. -/
def TRU_REJECT_COUNT : Field := ⟨7342144, 64⟩
/-- R436: 0x000E0110 bit 0, RO, class A. -/
def TRU_UNDEF_COUNT : Field := ⟨7342208, 64⟩
/-- R492: 0x000F0000 bit 0, RO, class A. -/
def SEC_STAT_CUR_EPOCH : Field := ⟨7864320, 4⟩
/-- R492: 0x000F0000 bit 4, RO, class A. -/
def SEC_STAT_KEYED : Field := ⟨7864324, 1⟩
/-- R492: 0x000F0000 bit 5, RO, class A. -/
def SEC_STAT_PREV_HELD : Field := ⟨7864325, 1⟩
/-- R492: 0x000F0000 bit 6, RO, class A. -/
def SEC_STAT_NEXT_HELD : Field := ⟨7864326, 1⟩
/-- R492: 0x000F0000 bit 7, RO, class A. -/
def SEC_STAT_MIC16 : Field := ⟨7864327, 1⟩
/-- R492: 0x000F0004 bit 0, W1C, class W. -/
def SEC_TROUBLE_MIC_FAIL : Field := ⟨7864352, 1⟩
/-- R492: 0x000F0004 bit 1, W1C, class W. -/
def SEC_TROUBLE_EPOCH_REJECT : Field := ⟨7864353, 1⟩
/-- R492: 0x000F0004 bit 2, W1C, class W. -/
def SEC_TROUBLE_NO_KEY : Field := ⟨7864354, 1⟩
/-- R492: 0x000F0004 bit 3, W1C, class W. -/
def SEC_TROUBLE_UNSECURED : Field := ⟨7864355, 1⟩
/-- R492: 0x000F0004 bit 4, W1C, class A. -/
def SEC_TROUBLE_COUNTER_EXHAUSTED : Field := ⟨7864356, 1⟩
/-- R492: 0x000F0004 bit 5, W1C, class A. -/
def SEC_TROUBLE_KEY_MISSED : Field := ⟨7864357, 1⟩
/-- R492: 0x000F0004 bit 6, W1C, class W. -/
def SEC_TROUBLE_OTP_REFUSED : Field := ⟨7864358, 1⟩
/-- R492: 0x000F0004 bit 7, W1C, class W. -/
def SEC_TROUBLE_ATTEST_BUSY : Field := ⟨7864359, 1⟩
/-- R492: 0x000F0008 bit 0, WO, class V. -/
def SEC_CMD_CMD : Field := ⟨7864384, 4⟩
/-- R492: 0x000F0008 bit 4, WO, class V. -/
def SEC_CMD_SLOT : Field := ⟨7864388, 2⟩
/-- R492: 0x000F0008 bit 16, WO, class V. -/
def SEC_CMD_CONFIRM : Field := ⟨7864400, 16⟩
/-- R492: 0x000F000C bit 0, RO, class V. -/
def SEC_CMD_STAT_STATE : Field := ⟨7864416, 2⟩
/-- R492: 0x000F0010 bit 0, RW, class P. -/
def SEC_CFG_MIC16 : Field := ⟨7864448, 1⟩
/-- R492: 0x000F0010 bit 1, RW, class P. -/
def SEC_CFG_ADMIT_LIST : Field := ⟨7864449, 1⟩
/-- R492: 0x000F0010 bit 8, RW, class P. -/
def SEC_CFG_KEY_PERIOD : Field := ⟨7864456, 8⟩
/-- R492: 0x000F0010 bit 16, RW, class P. -/
def SEC_CFG_KEY_GRACE : Field := ⟨7864464, 8⟩
/-- R492: 0x000F0010 bit 24, RW, class P. -/
def SEC_CFG_KEY_LEAD : Field := ⟨7864472, 8⟩
/-- R492: 0x000F0018 bit 0, RO, class A. -/
def SEC_TX_CTR : Field := ⟨7864512, 32⟩
/-- R492: 0x000F0020 bit 0, RW, class V. -/
def SEC_NONCE : Field := ⟨7864576, 256⟩
/-- R492: 0x000F0040 bit 0, RW, class V. -/
def SEC_STAGE : Field := ⟨7864832, 1024⟩
/-- R492: 0x000F00C0 bit 0, RO, class V. -/
def SEC_REPORT_LEN : Field := ⟨7865856, 13⟩
/-- R492: 0x000F0400 bit 0, RO, class P. -/
def SEC_BAR_LO (i : Nat) : Field := ⟨7872512 + 64 * i, 32⟩
/-- R492: 0x000F0404 bit 0, RO, class P. -/
def SEC_BAR_HI (i : Nat) : Field := ⟨7872544 + 64 * i, 32⟩
/-- R492: 0x000F0600 bit 0, RO, class A. -/
def SEC_MIC_FAIL_COUNT : Field := ⟨7876608, 64⟩
/-- R492: 0x000F0608 bit 0, RO, class A. -/
def SEC_EPOCH_REJECT_COUNT : Field := ⟨7876672, 64⟩
/-- R492: 0x000F0610 bit 0, RO, class A. -/
def SEC_NO_KEY_COUNT : Field := ⟨7876736, 64⟩
/-- R492: 0x000F0618 bit 0, RO, class A. -/
def SEC_UNSECURED_COUNT : Field := ⟨7876800, 64⟩
/-- R492: 0x000F0620 bit 0, RO, class A. -/
def SEC_JOIN_OK_COUNT : Field := ⟨7876864, 64⟩
/-- R492: 0x000F0628 bit 0, RO, class A. -/
def SEC_JOIN_REFUSED_COUNT : Field := ⟨7876928, 64⟩
/-- R492: 0x000F0630 bit 0, RO, class A. -/
def SEC_EPOCH_ADVANCE_COUNT : Field := ⟨7876992, 64⟩
/-- R492: 0x000F0638 bit 0, RO, class A. -/
def SEC_UNDEF_COUNT : Field := ⟨7877056, 64⟩
/-- R492: 0x000F2000 bit 0, RO, class V. -/
def SEC_REPORT : Field := ⟨7929856, 65536⟩
/-- R501: 0x01000000 bit 0, RO, class V. -/
def CLC_RUNNING (i : Nat) (j : Nat) : Field := ⟨134217728 + 8388608 * i + 524288 * j, 16⟩
/-- R501: 0x01000004 bit 0, RW, class V. -/
def CLC_HALT (i : Nat) (j : Nat) : Field := ⟨134217760 + 8388608 * i + 524288 * j, 16⟩
/-- R501: 0x01000008 bit 0, RO, class A. -/
def CLC_MEM_CORR_COUNT (i : Nat) (j : Nat) : Field := ⟨134217792 + 8388608 * i + 524288 * j, 64⟩
/-- R49: 0x01040000 bit 0, W1C, class W. -/
def SLC_OVR_STAT (i : Nat) : Field := ⟨136314880 + 8388608 * i, 4⟩
/-- R49: 0x01040000 bit 4, W1C, class W. -/
def SLC_LATE_STAT (i : Nat) : Field := ⟨136314884 + 8388608 * i, 4⟩
/-- R49: 0x01040004 bit 0, RO, class W. -/
def SLC_OVR_LAST_SPINDLE (i : Nat) : Field := ⟨136314912 + 8388608 * i, 9⟩
/-- R49: 0x01040004 bit 16, RO, class W. -/
def SLC_OVR_LAST_TICK_TAG (i : Nat) : Field := ⟨136314928 + 8388608 * i, 16⟩
/-- R49: 0x01040008 bit 0, RO, class A. -/
def SLC_OVR_COUNT (i : Nat) : Field := ⟨136314944 + 8388608 * i, 64⟩
/-- R49: 0x01040010 bit 0, RO, class A. -/
def SLC_LATE_COUNT (i : Nat) : Field := ⟨136315008 + 8388608 * i, 64⟩
/-- R49: 0x01040018 bit 0, RO, class A. -/
def SLC_UPSTREAM_INVALID (i : Nat) : Field := ⟨136315072 + 8388608 * i, 64⟩
/-- R49: 0x01040020 bit 0, W1C, class A. -/
def SLC_SPINDLE_FAILED (i : Nat) : Field := ⟨136315136 + 8388608 * i, 64⟩
/-- R49: 0x01040028 bit 0, RO, class A. -/
def SLC_SPARE_SPARE_USED (i : Nat) : Field := ⟨136315200 + 8388608 * i, 1⟩
/-- R49: 0x01040028 bit 1, RO, class A. -/
def SLC_SPARE_SPARE_FOR (i : Nat) : Field := ⟨136315201 + 8388608 * i, 9⟩
/-- R500: 0x01040030 bit 0, RO, class A. -/
def SLC_UNDEF_COUNT (i : Nat) : Field := ⟨136315264 + 8388608 * i, 64⟩
/-- R502: 0x01080000 bit 0, RO, class V. -/
def DBG_CTRL_HALTED (i : Nat) (j : Nat) : Field := ⟨138412032 + 8388608 * i + 32768 * j, 1⟩
/-- R502: 0x01080000 bit 1, W1S, class V. -/
def DBG_CTRL_STEP (i : Nat) (j : Nat) : Field := ⟨138412033 + 8388608 * i + 32768 * j, 1⟩
/-- R502: 0x01080004 bit 0, RO, class V. -/
def DBG_PC (i : Nat) (j : Nat) : Field := ⟨138412064 + 8388608 * i + 32768 * j, 14⟩
/-- R502: 0x01080100 bit 0, RW, class V. -/
def DBG_G (i : Nat) (j : Nat) (k : Nat) : Field := ⟨138414080 + 8388608 * i + 32768 * j + 32 * k, 32⟩
/-- R502: 0x01080200 bit 0, RW, class V. -/
def DBG_V (i : Nat) (j : Nat) (k : Nat) : Field := ⟨138416128 + 8388608 * i + 32768 * j + 32 * k, 32⟩
/-- R502: 0x01080400 bit 0, RW, class V. -/
def DBG_MEM_ADDR (i : Nat) (j : Nat) : Field := ⟨138420224 + 8388608 * i + 32768 * j, 16⟩
/-- R502: 0x01080404 bit 0, RW, class V. -/
def DBG_MEM_DATA (i : Nat) (j : Nat) : Field := ⟨138420256 + 8388608 * i + 32768 * j, 32⟩

end R

end Sys2Proof.Machine
end

