-- ==== Sys2Proof/Machine/Tab.lean ====
section
/-! DEFINITION. Sparse storage as plain data: a list of (key, value) pairs in ONE canonical form. Keys rise strictly
and no listed value equals what an unlisted key reads as, so equal contents are equal lists. Register fields, memories
and the block's record tables are all held this way. -/

namespace Sys2Proof.Machine

/-- A sparse map from natural keys to `α`: pairs with strictly rising keys, none holding the default value. -/
abbrev Tab (α : Type) := List (Nat × α)

/-- The value at key `k`; `d` is what an unlisted key reads as. -/
def Tab.get {α : Type} (d : α) : Tab α → Nat → α
  | [], _ => d
  | (a, v) :: t, k => if k = a then v else Tab.get d t k

/-- The map without key `k`. -/
def Tab.erase {α : Type} : Tab α → Nat → Tab α
  | [], _ => []
  | (a, v) :: t, k => if k = a then Tab.erase t k else (a, v) :: Tab.erase t k

/-- The map with key `k` listed as `v` (used for a `v` that is not the default). -/
def Tab.insert {α : Type} : Tab α → Nat → α → Tab α
  | [], k, v => [(k, v)]
  | (a, w) :: t, k, v =>
    if k < a then (k, v) :: (a, w) :: t
    else if k = a then (k, v) :: t
    else (a, w) :: Tab.insert t k v

/-- Store `v` at key `k`, keeping the canonical form: storing the default removes the entry. -/
def Tab.set {α : Type} [DecidableEq α] (d : α) (t : Tab α) (k : Nat) (v : α) : Tab α :=
  if v = d then Tab.erase t k else Tab.insert t k v

/-- Change the value at key `k` by `f`. -/
def Tab.modify {α : Type} [DecidableEq α] (d : α) (t : Tab α) (k : Nat) (f : α → α) : Tab α :=
  Tab.set d t k (f (Tab.get d t k))

/-- From key `n` on: strictly rising keys, and no entry equal to the default. -/
def Tab.wfFrom {α : Type} [DecidableEq α] (d : α) : Nat → Tab α → Bool
  | _, [] => true
  | n, (a, v) :: t => decide (n ≤ a) && decide (v ≠ d) && Tab.wfFrom d (a + 1) t

/-- The canonical form: strictly rising keys, and no entry equal to the default. -/
def Tab.wf {α : Type} [DecidableEq α] (d : α) (t : Tab α) : Bool := Tab.wfFrom d 0 t

/-- A byte memory (R18, R20): sparse, an unlisted byte reads 0 (DESIGN CHOICE, assumption 3). -/
abbrev Mem := List Host.Cell

/-- One byte of a memory. -/
def Mem.read (m : Mem) (a : Nat) : BitVec 8 := Tab.get 0 m a

/-- Store one byte. -/
def Mem.write (m : Mem) (a : Nat) (v : BitVec 8) : Mem := Tab.set 0 m a v

/-- The `n` bytes from address `a` on. -/
def Mem.bytes (m : Mem) (a : Nat) : Nat → List (BitVec 8)
  | 0 => []
  | n + 1 => Mem.read m a :: Mem.bytes m (a + 1) n

/-- Store a run of bytes from address `a` on. -/
def Mem.store (m : Mem) : Nat → List (BitVec 8) → Mem
  | _, [] => m
  | a, b :: bs => Mem.store (Mem.write m a b) (a + 1) bs

/-- The little-endian number (R4) of `n` bytes from address `a` on. -/
def Mem.num (m : Mem) (a : Nat) : Nat → Nat
  | 0 => 0
  | n + 1 => (Mem.read m a).toNat + 256 * Mem.num m (a + 1) n

/-- Store a number little-endian in `n` bytes from address `a` on. -/
def Mem.setNum (m : Mem) (a : Nat) (v : Nat) : Nat → Mem
  | 0 => m
  | n + 1 => Mem.setNum (Mem.write m a (BitVec.ofNat 8 v)) (a + 1) (v / 256) n

/-- The canonical form of a memory. -/
abbrev Memory.wf (m : Mem) : Bool := Tab.wf 0 m

end Sys2Proof.Machine
end

