-- ==== Sys2Proof/Machine/State.lean ====
section
/-! DEFINITION. The state of the block as plain data: every register field (RegTable.lean), every unit's own state, the
memories, the OTP, and the queue of waiting commands; and the state right after reset. -/

namespace Sys2Proof.Machine

/-- A decoded frame header (R162): every field as its number; the margin feedback and the timing field as transmitted
bits. -/
structure Header where
  ftype : Nat := 0
  mode : Nat := 0
  len : Nat := 0
  net : Nat := 0
  dst : Nat := 0
  src : Nat := 0
  ctr : Nat := 0
  pending : Bool := false
  ackReq : Bool := false
  sec : Bool := false
  epoch : Nat := 0
  margin : Nat := 0x80
  span : Nat := 0
  cls : Nat := 0
  hop : Nat := 0
  timing : Nat := 0
  deriving DecidableEq, Repr

/-- What a frame is to the transmit order of R263. -/
inductive TxKind where
  | beacon | timing | collect | ack | blockAck | other
  deriving DecidableEq, Repr

/-- A frame (with its follow-on frames) on its way to the line: band (0 H, 1 L), kind, header, payload (protected once
`sealed`), follow-on headers and payloads, the port a rule names, the attenuation and index of a collect frame, the
transmissions so far, the queue whose head packet it carries, the node it
came from (0 for the node's own), whether it was redirected (R305), counted as repeated (R317), the first tick it may start at
(R270), the final destination of its mesh prefix (0: none) and its payload before protection. -/
structure TxFrame where
  band : Nat
  kind : TxKind
  hdr : Header
  payload : List Byte := []
  follow : List (Header × List Byte) := []
  sealed : Bool := false
  port : Option Nat := none
  atten : Option Nat := none
  code : Nat := 0
  retries : Nat := 0
  queue : Option Nat := none
  redirected : Bool := false
  viaAlt : Bool := false
  counted : Bool := false
  src : Nat := 0
  after : Nat := 0
  final : Nat := 0
  plain : List Byte := []
  deriving DecidableEq, Repr

/-- How the transmitted PSD stands in an interval (R123, R126): at the ceiling less the attenuation, between the two within
100 kHz of a notch, or at least 30 dB below it within a notch. -/
inductive MaskKind where
  | full | edge | notch
  deriving DecidableEq, Repr

/-- One interval of a port's spectrum (R123, R126): its limits in 10 kHz, the ceiling less the attenuation in 0.5 dB, and how
the PSD stands to it. -/
structure MaskPart where
  start : Nat
  stop : Nat
  psd : Int
  kind : MaskKind
  deriving DecidableEq, Repr

/-- What a port sends in one frame or segment (R121–R126, R151–R161): the profile, the centre in 10 kHz, the attenuation in
0.5 dB, in Band L the level in 0.5 dBµV, in Band H the spectrum, the chips of each ramp, and the chips between the ramps
as carrier phases of 45°. -/
structure Burst where
  port : Nat
  profile : Nat
  centre : Nat
  atten : Nat
  level : Nat
  mask : List MaskPart
  ramp : Nat
  chips : List Nat
  deriving DecidableEq, Repr

/-- A transmission on the line (R158, R177): the frame, its ports, the tick it ends in, its continuation segments still to
send, and whether a segment was omitted (R179); what its start fixed for all of it (R121), as bursts without chips; the tick
offset from the anchor it started at and the anchors since (R177); how long the current limit has acted on each of its
ports, in ns (R119). -/
structure TxActive where
  frame : TxFrame
  ports : List Nat
  endTick : Nat
  segments : Nat := 0
  omitted : Bool := false
  plan : List Burst := []
  offset : Nat := 0
  halves : Nat := 0
  limited : List Nat := []
  deriving DecidableEq, Repr

/-- One frame of a received transmission: its counter and protection, its payload, whether it was decoded, and of a follow-on
header the payload length and More (R174). -/
structure RxPart where
  ctr : Nat
  ackReq : Bool
  sec : Bool
  epoch : Nat
  payload : List Byte
  ok : Bool
  len : Nat := 0
  more : Bool := false
  deriving DecidableEq, Repr

/-- What the receiver hands on with a delivered TIMING or BEACON frame (R227): the receive timestamp in 2⁻¹⁶ ns (none:
withheld), the distance from the first to the strongest path in 10 ps, the paths fitted, and whether the link has a
single dominant path. -/
structure RxTime where
  stamp : Option Nat := none
  fpOffset : Nat := 0xFFFF
  paths : Nat := 0
  single : Bool := true
  deriving DecidableEq, Repr

/-- A transmission that the receiver has delivered and no later operation has taken yet: where it arrived, its header
and frames, its chip SNR in 2⁻⁸ dB, its time, and the tick of the verdict. -/
structure Delivered where
  port : Nat
  band : Nat
  hdr : Header
  parts : List RxPart
  snr : Int
  time : RxTime
  tick : Nat
  deriving DecidableEq, Repr

/-- A reception in progress (R183–R194): the band, the port and receive set, how far it has come (0 declared, 1 sync
word found, 2 header kept, 3 ended at a follow-on header with the frames before it awaiting their verdict), the header with
the follow-on headers so far, whether it came in a collect slot, and whether that slot still holds its AGC; in a collect slot
its spreading exponent and index (R186); the correlations of the preamble repetitions so far (R185), whether the last two
carry a flagged sample, and with the sync word also that (R196); the
segments of a dispersed frame that have been found or missed, whether it waits for the next one with its AGC released, and the
missed ones, the tick after which the segment in progress ends (R187); the largest erased fraction × 2⁸ of its header; whether an
erasure abort has arisen in this tick (R195). -/
structure Reception where
  band : Nat
  port : Nat
  ports : List Nat
  stage : Nat
  hdr : Header := {}
  parts : List RxPart := []
  collect : Bool := false
  held : Bool := false
  code : Nat × Nat := (0, 0)
  corrs : List (Int × Int) := []
  flags : List Bool := []
  syncFlagged : Bool := false
  seg : Nat := 0
  paused : Bool := false
  missed : List Nat := []
  segEnd : Nat := 0
  eps : Nat := 0
  erased : Bool := false
  deriving DecidableEq, Repr

/-- The equaliser of a reception (R188, R189): the channel estimate before the frame; per stream the weights of the
feed-forward filter (over all receive ports) and of the feedback filter, and of each rake finger its place and weight; the
erased samples in a row and the symbols left of a recovery phase. -/
structure Equaliser where
  pre : List (List (Int × Int)) := []
  ffe : List (List (Rat × Rat)) := []
  dfe : List (List (Rat × Rat)) := []
  fingers : List (List (Nat × Int × Int)) := []
  run : Nat := 0
  recover : Nat := 0
  deriving DecidableEq, Repr


/-- What the module drives on an X2 output (R60): nothing (high impedance, or released), low, or high. -/
inductive Level where
  | z | low | high
  deriving DecidableEq, Repr

/-- An SFP+ cage J1 or J2 (R70): a transceiver is present, its power was refused, the cage is powered; the module's
outputs to it: TX_DISABLE, RS0 and RS1. -/
structure Cage where
  present : Bool := false
  refused : Bool := false
  declared : Nat := 0
  powered : Bool := false
  txDisable : Bool := true
  rs0 : Bool := false
  rs1 : Bool := false
  deriving DecidableEq, Repr

/-- The instruction register of the TAP (R66); `idcode` also stands for Test-Logic-Reset. -/
inductive TapInstr where
  | idcode | bypass | sample | extest
  deriving DecidableEq, Repr

/-- The module's connectors: X2 outputs by pin number (R60, R67), RESET_N (R62), VAUX_3V3 (R61), the cages (R70), J3
(R71), PPS_OUT, REF_OUT and PPS_LV as driven or not (R69), TRST_N, the TAP and its boundary register (R66). -/
structure ModuleUnit where
  pins : Tab Level := []
  pinPlan : List Nat := []
  resetN : Bool := true
  vauxOn : Bool := true
  vauxOverload : Bool := false
  cages : List Cage := [{}, {}]
  j3 : Bool := true
  trstN : Bool := true
  tap : TapInstr := .idcode
  boundary : Nat := 0
  tdo : Nat := 0
  deriving DecidableEq, Repr

/-- A waiting enable request (R448): a transmit start has a deadline tick, any other request has none; a transmit start
that waits more than one tick past its deadline is a delayed start. -/
structure LoadReq where
  load : Load
  deadline : Option Nat
  delayed : Bool := false
  deriving DecidableEq, Repr

/-- A slice reset that has been accepted (R454): the slice, whether it is held (after B) or still pending, and the
block boundaries B and B + k as tick numbers. -/
structure SliceReset where
  slice : Nat
  held : Bool
  startTick : Nat
  releaseTick : Nat
  deriving DecidableEq, Repr

/-- The double buffers of R37: the tick tag of the buffers that consumers see in this tick and of those being filled (all
swap at the same boundary), the routes, by index, whose buffer of this tick is marked invalid (R39), and whether a buffer
of the time unit is (R40). -/
structure FabricUnit where
  shownTag : Nat := 0
  fillTag : Nat := 0
  late : List Nat := []
  timeInvalid : Bool := false
  deriving DecidableEq, Repr

/-- The power manager beside its registers: the two request queues and the grants of the last 25 ticks (R448), a held
mode request and the mode change in progress (R440, R442), the over-temperature state (R446), the A-record of M1 entry
(R444), the accepted slice reset (R454), the watchdog (R453), what standby keeps (R449), and the cause of a reset made in the
current tick (0 none), with whether the watchdog was running and a trial had expired at it (R456). -/
structure PowerUnit where
  txReqs : List LoadReq := []
  reqs : List LoadReq := []
  grants : List (Nat × Nat) := []
  heldReq : Option Nat := none
  trans : Option Nat := none
  overTemp : Bool := false
  thermalOff : Bool := false
  thermalM1 : Bool := false
  m1Rec : List Nat := []
  flushing : Bool := false
  sliceReset : Option SliceReset := none
  wdtArmed : Bool := false
  heater : Bool := false
  ddrAwake : Bool := true
  ddrTrained : Bool := false
  cold : Bool := true
  wake : Bool := false
  modeTick : Nat := 0
  resetNow : Nat := 0
  wdtRan : Bool := false
  trialOver : Bool := false
  deriving DecidableEq, Repr

/-- One segment of an image (R85): its table entry and its payload. -/
structure Seg where
  kind : Nat
  signer : Nat
  slice : Nat
  flags : Nat
  secVer : Nat
  offset : Nat
  digest : List Byte
  data : List Byte
  deriving DecidableEq, Repr

/-- An image that has passed verification: the header fields it is used by (R84), its owner manifest digest (R90), the
KEY_FPR of its owner block (R89), its segments. -/
structure Image where
  seq : Nat := 0
  golden : Bool := false
  reload : Bool := false
  reloadSlice : Nat := 0
  baseDigest : List Byte := []
  digest : List Byte := []
  ownerFpr : List Byte := []
  segs : List Seg := []
  deriving DecidableEq, Repr

/-- A bank of R95. -/
inductive Bank where
  | a | b | golden
  deriving DecidableEq, Repr

/-- The command of R102 that is running (R104). -/
inductive ImgJob where
  | none
  | verify
  | write (bank : Bank)
  | reloadPending (slice startTick : Nat)
  | reloadRunning (slice startTick : Nat) (fallback : Bool)
  deriving DecidableEq, Repr

/-- The chuck between a reset and M3 (R98, R101): not started, reading the boot choice, loading a bank, or out of
banks. -/
inductive BootPhase where
  | idle
  | start
  | loading (bank : Bank) (image : Image)
  | stuck
  deriving DecidableEq, Repr

/-- A copy of the boot record (R96): its update sequence, the states of banks A, B and golden (R97), whether a trial
attempt has started (R98), and its CRC-32. -/
structure BootRecord where
  seq : Nat := 0
  stateA : Nat := 0
  stateB : Nat := 0
  stateGolden : Nat := 3
  trial : Bool := false
  crc : Nat := 0
  deriving DecidableEq, Repr

/-- The running copy of R109 in the image area of DDR4: the image whose class I content its parts hold, and the SHA-512
digest of each part (slices 0 to 7, the SUPERVISOR payload, the state outside the slices). -/
structure RunCopy where
  image : Image
  digests : List (List Byte)
  deriving DecidableEq, Repr

/-- The image loader: the bytes of the NAND banks (R95; a golden bank of none is as delivered) and of the staging area
(R102), the two copies of the boot record (R96), the running image, the running copy of R109 with the registers that the
restore after Standby rewrites (R449), the last verified staged image, the running command, the chuck's progress, and the digest and slot map of the last loaded image
(R296, R343, R254). -/
structure ImageUnit where
  bankA : List Byte := []
  bankB : List Byte := []
  golden : Option (List Byte) := none
  records : List BootRecord := []
  stage : Mem := []
  verified : Option Image := none
  job : ImgJob := .none
  boot : BootPhase := .start
  tried : List Bank := []
  carrierDone : Bool := false
  run : Option Image := none
  copy : Option RunCopy := none
  standbyRegs : List Nat := []
  lastDigest : List Byte := []
  lastMap : List Byte := []
  trialTicks : Nat := 0
  deriving DecidableEq, Repr

/-- What a slice holds beside its registers: held in reset (R107, R454), stopped or on its alternate allocation (R16),
a spare being loaded with the tick of the lasting fault (R15); the logical spindles whose valid flag is clear in the
buffers that consumers see in this tick, and in those being filled (R37, R38); lasting faults that wait for the end of a reload (R110), spindles failed under R16, spindles
halted (R501); the dormant spindles (logical numbers) on which this slice's MOVE duties run (R107). Of its memories (R18):
the spindles (physical indices) whose data memory is as loaded, and whether the shared memory is; those that stand at their
tick entry point with cleared registers (R38); and the words of halted spindles that a debug window has written or shown
(R502; Debug.lean). `asleep`: its spindles were gated and have not restarted (R438). -/
structure SliceState where
  held : Bool := false
  asleep : Bool := false
  stopped : Bool := false
  alternate : Bool := false
  spareLoad : Option (Nat × Nat) := none
  pendingFaults : List (Nat × Nat) := []
  failed : List Nat := []
  shown : List Nat := []
  fill : List Nat := []
  halted : List Nat := []
  moves : List Nat := []
  loaded : List Nat := []
  sharedLoaded : Bool := false
  atEntry : List Nat := []
  dbg : Tab Nat := []
  deriving DecidableEq, Repr

/-- What leaves the block: a message to a host's endpoint (R345–R347; Custody.lean) from the node's own address under its
EtherType or UDP port (bytes from its Runudom header on), a segment of a frame put on the line
(0 with preamble and header) and the ramp that ends an aborted one at the next chip (R121), a packet, or an EMPTY or RESET answer, handed to a queue's consumer, the bit
levels of a character or break on a serial line in the order sent (R406, R414, R416), and a pulse or level on a timing output. -/
inductive Out where
  | host (port source service : Nat) (bytes : List Byte)
  | serial (port : Nat) (levels : List Bool)
  | pps (second : Nat) (offset : Int)
  | refOut (second : Nat) (offset : Int)
  | ptp (port clockClass accuracy utcOffset : Nat) (traceable arb leap61 leap59 : Bool) (priority1 priority2 : Nat)
    (inaccuracy : Option Nat)
  | empty (queue : Nat)
  | reset (queue : Nat)
  | frame (band segment : Nat) (bursts : List Burst)
  | rampDown (band : Nat) (ports : List Nat)
  | packet (queue : Nat) (dest tag commit : Nat) (data : List Byte)
  deriving DecidableEq, Repr

/-- A committed packet (R321): its descriptor's fields and its data. -/
structure Packet where
  dest : Nat
  tag : Nat
  commit : Nat
  data : List Byte
  deriving DecidableEq, Repr

/-- An open packet (R324, R325): its producer context (R323), its queue, its descriptor as given at SOP. -/
structure OpenPkt where
  ctx : Nat
  queue : Nat
  maxLen : Nat
  dest : Nat
  tag : Nat
  deriving DecidableEq, Repr

/-- One of the 4,096 queues: its QUEUE_LAYOUT entry (R322), its committed packets (head first), its state and its own
counters (R344). A queue of capacity 0 is absent (R337). -/
structure Queue where
  capacity : Nat := 0
  thresh : Nat := 0
  threshImg : Nat := 0
  bulk : Bool := false
  assured : Bool := false
  ptrDup : Bool := false
  wordEcc : Bool := false
  hold : Bool := false
  pend : Bool := false
  failMax : Nat := 0
  journal : Nat := 0
  pkts : List Packet := []
  reading : Bool := false
  refill : Bool := false
  flushPending : Bool := false
  headHeld : Bool := false
  headFails : Nat := 0
  lost : Nat := 0
  refused : Nat := 0
  rewound : Nat := 0
  corrected : Nat := 0
  deriving DecidableEq, Repr

/-- The queue manager beside its registers: queues by number, open packets, and the last status (R325) that each
producer context received. -/
structure QueueUnit where
  queues : Tab Queue := []
  opened : List OpenPkt := []
  status : Tab Nat := []
  deriving DecidableEq, Repr

/-- An open window of windowed fault counting (R468): class, instance, errors so far, the tick it opened at, and the
WINDOW and THRESH it opened with (R472). -/
structure FaultWindow where
  cls : Nat
  inst : Nat
  count : Nat
  openTick : Nat
  window : Nat
  thresh : Nat
  deriving DecidableEq, Repr

/-- A scheduled snapshot (R476, R477): its SNAP_ID and its target time in 2⁻¹⁶ ns (0: the end of the current tick). -/
structure SnapSched where
  id : Nat
  t : Nat
  deriving DecidableEq, Repr

/-- The trouble block beside its registers: windows (R468), class settings (R469), scheduled snapshots and the shadow
bank, which maps a counter's address to its copied value (R474, R475). -/
structure TroubleUnit where
  windows : List FaultWindow := []
  clsWindow : List Nat := [25000, 25000, 250000, 90000000, 90000000, 25000000]
  clsThresh : List Nat := [2, 2, 15, 3, 63, 15]
  snapId : Nat := 0
  taken : Option Nat := none
  netSnap : Option SnapSched := none
  localSnap : Option SnapSched := none
  shadow : Tab Nat := []
  scrubs : Nat := 0
  scrubTick : Nat := 0
  deriving DecidableEq, Repr

/-- A calibration record (R234) with what R233, R236 and R248 keep of its link: the recent accepted exchanges (network
time in ns, delay d in 2⁻¹⁶ ns and the squared Cramér–Rao figure in ps²), newest first, the recent residuals in ps, and
the learned fit's sums. -/
structure CalRec where
  inUse : Bool := false
  peer : Nat := 0
  port : Nat := 0
  band : Nat := 0
  mode : Nat := 0
  d0 : Nat := 0
  alpha : Int := 0
  t0 : Int := 0
  tSpread : Nat := 0
  asym : Int := 0
  asymUnc : Nat := 10
  residMean : Int := 0
  residSd : Nat := 0
  updated : Nat := 0
  exchanges : Nat := 0
  dMeas : Nat := 0
  temp : Option Int := none
  tInvalid : Bool := true
  recent : List (Nat × Int × Rat) := []
  resids : List Int := []
  samples : List (Nat × Int × Int) := []
  sigma : Nat := 0
  crb : Nat := 0
  eff : Nat := 0xFFFF
  multi : Bool := false
  stale : Bool := false
  jitter : Nat := 0
  uLink : Nat := 0
  fpOffset : Nat := 0xFFFF
  paths : Nat := 0
  deriving DecidableEq, Repr

/-- What the time unit keeps of the TIMING frames exchanged with one peer (R223–R226): the receive timestamp of the last
one from it (none: withheld) with its SNR and FP_OFFSET, the last request sent (EXCH_SEQ and t1) and, at a parent, the
EXCH_SEQ to be echoed, the peer's last request's TX_MARK, and t1, t2, t3 of the exchange last answered (R225). -/
structure PeerTime where
  lastRx : Option Nat := none
  rxSnr : Nat := 0x8000
  fpOffset : Nat := 0xFFFF
  seq : Nat := 0
  t1 : Option Nat := none
  echo : Option Nat := none
  bound : Nat := 0xFFFFFFFF
  locked : Bool := false
  mark : Option Nat := none
  sent : Option (Nat × Nat × Nat) := none
  deriving DecidableEq, Repr

/-- The time unit beside its registers. `scale` is the time scale (R212) in units of 2⁻⁵⁴ ns, in which one system clock
is 625 × (2⁴⁸ + y), with `y` the correction in force in this tick (R213). Then: measurements accepted since ACQUIRING, consecutive ones under LOCK_THRESH, whether the
first lock was reached, the time of the last accepted measurement, the step that waits for a block boundary (R35, in
2⁻¹⁶ ns), holdover's entry (R238), the decay after a change (R237), exchange opportunities missed, the PPS label (R218)
with its armed flag, the source's accepted and rejected edges in a row, what is left of the last PTP or PPS source, the
calibration records, the peers' exchange state, the events stamped per input, the last edge of each, the flags of the parent's last
TIMING frame, what an armed label would step by and add to the label (R220), whether a STEP waits for it, the last accepted θ in 2⁻¹⁶ ns,
the bound E before R237, the totalTimeInaccuracy last received in ns (R246), the output offsets in force in ps (R241), and the coarse estimate of network time less the own time scale until the first step (R286). -/
structure TimeUnit where
  scale : Nat := 0
  y : Int := 0
  accepted : Nat := 0
  good : Nat := 0
  firstLock : Bool := false
  lastMeas : Option Nat := none
  step : Option Int := none
  aligned : Bool := false
  holdStart : Nat := 0
  holdBound : Nat := 0
  holdTemp : Int := 0
  holdTempMax : Nat := 0
  decayFrom : Nat := 0
  decayStart : Nat := 0
  decayTc : Nat := 0
  misses : Nat := 0
  label : Nat := 0
  armed : Bool := false
  srcLost : Bool := false
  srcGood : Nat := 0
  srcBad : Nat := 0
  ptpTime : Option Int := none
  ptpInacc : Nat := 0
  ppsOfs : Int := 0
  refOfs : Int := 0
  coarse : Int := 0
  ocxoY : Int := 0
  onOcxo : Bool := false
  cal : Tab CalRec := []
  calSaved : Tab CalRec := []
  peers : Tab PeerTime := []
  evtSeq : Tab Nat := []
  evtLast : Tab Nat := []
  parentFlags : Nat := 0
  labelTheta : Option Int := none
  labelShift : Int := 0
  stepWanted : Bool := false
  lastTheta : Rat := 0
  bound : Nat := 0xFFFFFFFF
  deriving DecidableEq, Repr

/-- Published grid values (R252): PERIOD_REV, Z in 2⁻¹⁶ ns and T in 2⁻¹⁶ ns. -/
structure GridVals where
  rev : Nat
  z : Nat
  t : Nat
  deriving DecidableEq, Repr

/-- The grid (R43–R47, R251–R253): the values in force, the values of the next period, the half-cycle within the period
(its index), the anchor ticks of this half-cycle and the next, the coordinator's period index and the network time of
the kept anchor, consecutive valid crossings while free, and the slot map that waits with its MAP_SEQ. -/
structure GridUnit where
  cur : Option GridVals := none
  next : Option GridVals := none
  half : Nat := 0
  anchor : Nat := 0
  nextAnchor : Nat := 0
  periodIndex : Nat := 0
  keptAnchor : Option Nat := none
  valid : Nat := 0
  flagFree : Bool := false
  nextMap : List Byte := []
  nextBp : Nat := 0
  nextSeq : Nat := 0
  fullEvery : Nat := 1
  beaconFlags : Nat := 0
  restart : Bool := false
  deriving DecidableEq, Repr

/-- One phase of the spur (R142, R144): the filter's state, the crossings in 2⁻¹⁶ ns, and the RMS computations of the last
100 µs steps as bits (above 80 V; newest in bit 0), with whether the last one lay below 70 V. -/
structure SpurPhase where
  acq : Nat := 0
  prev : Int := 0
  z : Int := 0
  t : Int := 0
  rejects : Nat := 0
  good : Nat := 0
  above : Nat := 0
  low : Bool := false
  deriving DecidableEq, Repr

/-- A bin of a running noise-phase-profile accumulation (R145): the impulsive and the floor power summed, in squares of
2⁻¹⁴ of full scale, the suppressed samples and all samples. -/
structure NppBin where
  imp : Rat := 0
  flr : Rat := 0
  supp : Nat := 0
  total : Nat := 0
  deriving DecidableEq, Repr

/-- The spur beside its registers: its three phases, and of the running noise-phase-profile accumulation the half-cycles and
the bins, in the order of SPR_NPP (R145). -/
structure SpurUnit where
  phases : List SpurPhase := [{}, {}, {}]
  nppHalf : Nat := 0
  bins : Tab NppBin := []
  deriving DecidableEq, Repr

/-- The receive chain of a port and band behind the AGC (R129–R139, R189, R198): samples still to be marked after an ADC
overrange, the delay line of 16 samples with their gate flags (oldest first), the samples left of the gate's tail, the running
floor referred to a gain of 0 dB as a mean square of samples (none: no sample yet), the power of the last preamble
repetition of the frame that froze the AGC and the target level it froze at, the end of the suppression in 1/64 ns, the ring of the last 9·P chips as
lanes of 32 bits, the power of the unflagged samples of the running slot referred to a gain of 0 dB with their number, and the
lanes of the last delivery unit (R128). -/
structure Chain where
  marks : Nat := 0
  line : List Lane := []
  tail : Nat := 0
  floor : Option Rat := none
  frame : Nat := 0
  target : Nat := 0
  quietTo : Nat := 0
  ring : List Nat := []
  idle : Rat := 0
  idleN : Nat := 0
  unit : List Lane := []
  deriving DecidableEq, Repr

/-- The line drivers beside their registers (R120; Band H drivers 0 to 3, then Band L): their foldback in dB, the relaxations
that wait for a frame start, the drivers that are shut down; the receive chains (key 2 × port + band); and the START and STOP
words of notch entries that wait for VALID (R149; key n, value + 1), and the ports returned to service whose truing blocks
have not completed since (R470). -/
structure FrontUnit where
  foldback : List Nat := [0, 0, 0, 0, 0]
  relax : List Nat := [0, 0, 0, 0, 0]
  driverOff : List Bool := [false, false, false, false, false]
  chains : Tab Chain := []
  notchWord : Tab Nat := []
  returning : List Nat := []
  deriving DecidableEq, Repr

/-- A link-quality record (R197–R206), per peer and band: the averaged SNR of the link in dB, the averaged block
error fraction, the averaged chip SNR of each stream and block error fraction of DATA frames of spreading factor 1, the mode word of the peer's last DATA frame, the largest erased fraction of the last frame × 2⁸, the
ladder entry in use with its failures in a row (R203), the last feedback received, tool rest (R206), and the transmissions
and retransmissions to the peer since the last link report (R295). -/
structure LinkRec where
  snr : Option Rat := none
  bler : Rat := 0
  capSnrs : List Rat := []
  capBler : Rat := 0
  mode : Option Nat := none
  epsMax : Nat := 0
  idx : Nat := 0
  fails : Nat := 0
  remote : Nat := 0x80
  stale : Bool := false
  sent : Nat := 0
  resent : Nat := 0
  deriving DecidableEq, Repr

/-- The line PHY beside its registers: receptions in progress, delivered transmissions, transmissions on the line, the
equalisers of receptions (key: rxKey), the link-quality records (key 2 × address + band), the capture's written records, whether its next unit is the trigger unit,
its units since the trigger (R207), and the averaged idle floors in 2⁻⁸ dB (key 2 × port + band; R198). -/
structure PhyUnit where
  rx : List Reception := []
  delivered : List Delivered := []
  tx : List TxActive := []
  eqs : Tab Equaliser := []
  links : Tab LinkRec := []
  capture : List (List Byte) := []
  capTrigger : Bool := false
  capPost : Nat := 0
  floors : Tab (Option Rat) := []
  deriving DecidableEq, Repr

/-- One band's channel access (R260, R261): the backoff exponent, attempts used, the backoff count (none: not drawn),
whether the budget has refused this access (R279), whether it is a BLOCK_ACK's (R270), the tick in which the run of CONTENTION
slots in force began, the tick up to which decoded headers keep carrier sense busy, and how
many units in a row found carrier sense clear, and exceeded the floor, per port. -/
structure ChanAccess where
  be : Option Nat := none
  tries : Nat := 0
  count : Option Nat := none
  refused : Bool := false
  forReply : Bool := false
  runFrom : Option Nat := none
  busyUntil : Nat := 0
  clearUnits : Nat := 0
  overUnits : List Nat := [0, 0, 0, 0]
  deriving DecidableEq, Repr

/-- A transmission that waits for its acknowledgement (R269, R270): an immediate ACK, or a BLOCK_ACK; the tick at whose
boundary it had ended, and the anchors since. -/
structure Waiting where
  frame : TxFrame
  blockAck : Bool
  doneTick : Nat
  anchors : Nat := 0
  deriving DecidableEq, Repr

/-- A command that the MAC has handed on to the node (R302, R303): its code, its origin, the neighbour it came through,
its band and port, its body. -/
structure CmdMsg where
  code : Nat
  origin : Nat
  via : Nat
  band : Nat
  port : Nat
  body : List Byte
  deriving DecidableEq, Repr

/-- A candidate recorded in M4 (R286): the beacon's sender, its SNR in 2⁻⁸ dB, its depth, the attempts made, and
whether it is passed over, and from which tick it may be tried again. -/
structure Candidate where
  addr : Nat
  snr : Int
  depth : Nat
  band : Nat
  port : Nat
  tries : Nat := 0
  passed : Bool := false
  again : Nat := 0
  deriving DecidableEq, Repr

/-- The MAC beside its registers and tables: the transmit order of both bands, the accesses of Band H and Band L, the
frames granted and ready to start, the transmissions that wait for acknowledgement, the commands handed on, the airtime
charged (band, tick, µs; R279), the bands in a quiet window (R280), a resynchronisation since the last attended beacon
and the guard's factor (R276, R277), the wake hold's end, the port and band each neighbour was last heard on (R118) and the tick
after that in which it was last heard (R244), the
candidates, the chosen one and whether a GRANT has come (R286), the last broadcast sequence per origin (R304) and the node's own, the rejoining
after M9 (R278), the node adopted for beacons only and the half-cycles of a search (R277), the wake holds of children (R276), the time on the standby
crystal and before it since the last resynchronisation (R276), and the lease of the own address (R265). -/
structure MacUnit where
  order : List TxFrame := []
  access : List ChanAccess := [{}, {}]
  ready : List TxFrame := []
  waiting : List Waiting := []
  commands : List CmdMsg := []
  charged : List (Nat × Nat × Nat) := []
  inQuiet : List Bool := [false, false]
  resynced : Bool := false
  holdUntil : Option Nat := none
  wakeOpen : Bool := false
  heardOn : Tab Nat := []
  heardTick : Tab Nat := []
  candidates : List Candidate := []
  candidate : Option Nat := none
  granted : Bool := false
  bseqSeen : Tab Nat := []
  bseq : Nat := 0
  standbyRejoin : Bool := false
  beaconFrom : Option Nat := none
  search : Nat := 0
  childHold : Tab Nat := []
  xtalNs : Nat := 0
  preNs : Option Nat := none
  lease : Nat := 0
  deriving DecidableEq, Repr

/-- A route epoch that waits for its period boundary (R301): ROUTE_SEQ, the period, and the changed entries (destination
and 32 bytes). -/
structure RouteSet where
  seq : Nat
  rev : Nat
  entries : List (Nat × List Byte)
  deriving DecidableEq, Repr

/-- The coordinator's computed route of one relay (R300): destination, next hop and alternate with the port and band of
each as PORT_BAND, cost, hops. -/
structure Route where
  relay : Nat
  dst : Nat
  next : Nat
  pb : Nat
  alt : Nat
  altPb : Nat
  cost : Nat
  hops : Nat
  deriving DecidableEq, Repr

/-- An assignment that waits for its period boundary (R301): the period, bytes 14–39 of the node's entry, and the collect
receiver (R309). -/
structure Assign where
  rev : Nat
  bytes : List Byte
  collector : Nat
  deriving DecidableEq, Repr

/-- The mesh beside its registers and tables: a link report that is due (R297) with the tick of the last one, its links'
costs and the budgets last computed outside a quiet window; the epochs and the assignment that wait for a boundary; the
coordinator's routes and its last issued ROUTE_SEQ; LINK_DOWN reports (named node, reporter, period; R306); the running
sweep's windows, the current window, the last issued SWEEP_ID and a sweep that waits for the end of a window (R315); the
ticks of the last recomputations and whether one is due; the collect receiver, the full-level SNR of collect members in
2⁻⁸ dB (R311), and the windows of the sweep that met the own transmit suppression (R315). -/
structure MeshUnit where
  reportDue : Bool := false
  lastReport : Option Nat := none
  costs : Tab Nat := []
  budgetLeft : List Nat := [255, 255]
  pendingRoutes : List RouteSet := []
  pendingAssign : Option Assign := none
  routes : List Route := []
  routeSeq : Nat := 0
  downs : List (Nat × Nat × Nat) := []
  sweepWindows : Nat := 0
  window : Nat := 0
  sweepId : Nat := 0
  nextSweep : Option (Nat × Nat × Nat) := none
  lastRecompute : Option Nat := none
  lastTree : Option Nat := none
  treeDue : Bool := false
  routeDue : Bool := false
  collector : Nat := 1
  sFull : Tab (Option Int) := []
  suppressed : List Nat := []
  deriving DecidableEq, Repr

/-- A joiner's handshake at the coordinator (R490): its EUI-64, the relay that carries it (0: direct), N_J, the messages
so far, the coordinator's ephemeral private key, the stored GRANT, and the tick its HELLO came in. -/
structure Joiner where
  eui : Nat
  via : Nat
  nj : List Byte
  hello : List Byte
  challenge : List Byte
  priv : List Byte
  grant : List Byte := []
  since : Nat := 0
  deriving DecidableEq, Repr

/-- The node's own handshake (R490): the candidate, the step reached, N_J, the ephemeral private key, the messages sent,
K_join. -/
structure OwnJoin where
  cand : Nat
  step : Nat
  nj : List Byte
  priv : List Byte
  hello : List Byte
  proof : List Byte := []
  key : List Byte := []
  deriving DecidableEq, Repr

/-- The SEC block beside its registers (R483–R490): K_master, the network keys by epoch (previous, current, next), K_node,
the reservation record (network, epoch, key check, counter), the pending switch (its revolution count and epoch), the
handshakes, JOIN messages that have reached the coordinator through a relay (EUI-64, relay, payload), the attestation
being built, the coordinator's EUI-64, the tick of the coordinator's last advance (R486), and the tick of the last switch with
whether the node lacked its key (R487). -/
structure SecUnit where
  master : Option (List Byte) := none
  prev : Option (Nat × List Byte) := none
  cur : Option (Nat × List Byte) := none
  next : Option (Nat × List Byte) := none
  node : Option (List Byte) := none
  reserve : Option (Nat × Nat × List Byte × Nat) := none
  switchRev : Option Nat := none
  level16 : Bool := false
  nextLevel16 : Bool := false
  joiners : List Joiner := []
  own : Option OwnJoin := none
  joinMsgs : List (Nat × Nat × List Byte) := []
  report : Option (List Byte) := none
  keyLowSent : Bool := false
  coord : Nat := 0
  advanceTick : Nat := 0
  switchTick : Option Nat := none
  missed : Bool := false
  deriving DecidableEq, Repr


/-- A message under reassembly (R361): its sequence, length, last fragment, the fragment expected next, the bytes so far, and
the tick of the last fragment. -/
structure Partial where
  seq : Nat
  total : Nat
  last : Nat
  next : Nat
  data : List Byte
  tick : Nat := 0
  deriving DecidableEq, Repr

/-- A custody channel (R366, R384): its segment record, the sequences and credits of its state entry, the journal
records outbound and inbound (sequence and message, oldest first), the message under reassembly, the port and the
credit that its host gave last (R347, R355), what was sent to the host and queued for the line last, and what is due: an
ACK, a DELIVERED, a RECEIPT. `window` is RX_USED at the last RECEIPT, `empty` STATE 3 of R374; `ackTick` and `receiptTick`
are the ticks since which the host's ACK (R357) and LINE_RECEIPTED (R364) have not advanced. -/
structure Channel where
  record : List Byte := []
  accepted : Nat := 0
  receipted : Nat := 0
  peerSeq : Nat := 0
  peerCredit : Nat := 0
  journalled : Nat := 0
  hostAcked : Nat := 0
  outJ : List (Nat × List Byte) := []
  inJ : List (Nat × List Byte) := []
  part : Option Partial := none
  port : Option Nat := none
  hostCredit : Option (Nat × Nat) := none
  hostSent : Nat := 0
  lineSent : Nat := 0
  ackDue : Bool := false
  deliveredDue : Bool := false
  receiptDue : Bool := false
  window : Nat := 0
  empty : Bool := false
  ackTick : Nat := 0
  receiptTick : Nat := 0
  deriving DecidableEq, Repr

/-- A slot of the flush area (R369): FLUSH_SEQ, the restart epoch, the cells written, COMPLETE, the consumed mark, the A-record
(R444), the channels' state, the journal records in use in channel order (R366). -/
structure FlushSlot where
  seq : Nat
  epoch : Nat
  cells : Nat
  complete : Bool
  consumed : Bool
  arec : List Nat := []
  chans : Tab Channel
  journal : List (List Byte) := []
  deriving DecidableEq, Repr

/-- The register channel (R376, R377): the highest request executed, the highest reply sent, the highest reply that the
host has acknowledged, the tick since which that has not advanced, its port, and the last 16 replies by request and reply sequence. -/
structure RegChannel where
  accepted : Nat := 0
  sent : Nat := 0
  acked : Nat := 0
  ackTick : Nat := 0
  port : Option Nat := none
  replies : List (Nat × Nat × List Byte) := []
  deriving DecidableEq, Repr

/-- Custody beside its registers: the channels, custody frames that the MAC has handed on (R361), the register channel,
the packets sent per stream (R378), the port of the last RESYNC (R347), the two flush slots (none: erased; R369), whether a
restore is owed, whether a custody segment has been in force (R372), and the bytes of the image's custody segment in
force. -/
structure CustodyUnit where
  chans : Tab Channel := []
  inbox : List (Nat × List Byte) := []
  regc : RegChannel := {}
  streams : Tab Nat := []
  resyncPort : Option Nat := none
  slots : List (Option FlushSlot) := [none, none]
  restoreDue : Bool := false
  everInForce : Bool := false
  deriving DecidableEq, Repr


/-- The sensor front end beside its registers: the channel being sampled, the tick the running scan began at, whether
its sample met a clamp, the channels (as bits) whose excitation loop tripped and whose last tone check found them open,
the tone checks that wait for the channel's next sample slot, or behind its first sample after truing (channel, impedance,
behind a sample), the tick of the last periodic check, the scan to be started again, the tick the running sample began at and
its control (R402) with whether SEN_CH_CTRL was written since, and the values of the last samples (value, flags). -/
structure SensorUnit where
  chan : Option Nat := none
  scanTick : Option Nat := none
  clamped : Bool := false
  tripOpen : Nat := 0
  impOpen : Nat := 0
  checks : List (Nat × Nat × Bool) := []
  impTick : Option Nat := none
  restart : Bool := false
  begin : Nat := 0
  range : Nat := 0
  rate : Nat := 0
  avg : Nat := 0
  settle : Nat := 0
  auto : Bool := false
  burnout : Bool := false
  written : Bool := false
  last : Tab (Int × Nat) := []
  deriving DecidableEq, Repr

/-- The format of characters (R406, R416): data bits, the parity rule, a second stop bit, and synchronous. -/
structure SerFormat where
  data : Nat := 8
  parity : Nat := 0
  stop2 : Bool := false
  sync : Bool := false
  deriving DecidableEq, Repr

/-- A serial port beside its registers: the receive holding register, a loss before the next character, the open
packet's first stamp, its tick and entries, an SER_STAT read that waits for SER_DATA, the transmit holding register, the
character being shifted with its format, the rest of the packet being sent, DE, a running tail, the network time in 2⁻¹⁶ ns up to
which ECHO_MASK masks the receiver, the format before the last write of SER_CFG (R406), and the wake buffer with the stamps of
its entries (R417). -/
structure SerialPort where
  hold : Option Nat := none
  lost : Bool := false
  stamp : Nat := 0
  first : Nat := 0
  entries : List Nat := []
  rsc : Bool := false
  txHold : Option Nat := none
  txCur : Option Nat := none
  txFormat : SerFormat := {}
  txRest : List Nat := []
  de : Bool := false
  tail : Bool := false
  unmask : Nat := 0
  prior : SerFormat := {}
  wake : List (Nat × Nat) := []
  deriving DecidableEq, Repr

/-- Corrections of a truing block: delays and interleave skew in ps, gains in 0.01 dB, loop amplitude in 0.1 dB, converter
offsets in LSB, and of the sensor front end gain and offset of each range and the excitation currents (R422, R436). -/
structure TruSet where
  txDelay : Int := 0
  rxDelay : Int := 0
  gainRx : Int := 0
  gainTx : Int := 0
  ampl : Int := 0
  offRx : Int := 0
  offTx : Int := 0
  skew : Int := 0
  sensor : List Int := []
  deriving DecidableEq, Repr

/-- A truing block (R429–R436): corrections in force and their target, a rejected result, completions, the time (R209
words), the tick and the baseplate temperature of the last one, tool rest, passes made, and ticks since the last step of a
slew. -/
structure TruBlock where
  inForce : TruSet := {}
  target : TruSet := {}
  rejected : Option TruSet := none
  count : Nat := 0
  lastTime : Nat := 0
  doneTick : Option Nat := none
  temp : Int := 0
  stale : Bool := false
  passes : Nat := 0
  slew : Nat := 0
  deriving DecidableEq, Repr

/-- Truing beside its registers: the blocks, and what is left of each trigger's set (R434). -/
structure TruUnit where
  blocks : Tab TruBlock := []
  sets : List Nat := []
  deriving DecidableEq, Repr

/-- The OTP of R481: the owner keys enrolled in slots 0–3 (none: blank), the revoked owner slots, the revoked vendor
keys, and the anti-rollback counters of R93. -/
structure Otp where
  owner : List (Option (List Byte)) := [none, none, none, none]
  ownerRevoked : List Bool := [false, false, false, false]
  vendorRevoked : List Bool := [false, false]
  rollback : List Nat := [0, 0, 0]
  deriving DecidableEq, Repr

/-- Everything of the part but its OTP and the command queue. -/
structure Block where
  regs : Tab Nat
  hostLatch : Tab Nat := []
  supLatch : Tab Nat := []
  modl : ModuleUnit := {}
  power : PowerUnit := {}
  image : ImageUnit := {}
  slices : Tab SliceState := []
  fabric : FabricUnit := {}
  queue : QueueUnit := {}
  trouble : TroubleUnit := {}
  time : TimeUnit := {}
  grid : GridUnit := {}
  spur : SpurUnit := {}
  front : FrontUnit := {}
  phy : PhyUnit := {}
  mac : MacUnit := {}
  mesh : MeshUnit := {}
  sec : SecUnit := {}
  tables : Mem := []
  custody : CustodyUnit := {}
  sensor : SensorUnit := {}
  serial : List SerialPort := [{}, {}]
  truing : TruUnit := {}
  readData : Nat := 0
  outs : List Out := []
  freeCtr : Nat := 0
  deriving DecidableEq, Repr

/-- The state: the block, its OTP, and the commands that wait, first in, first out. -/
structure State where
  blk : Block
  otp : Otp
  pending : List Instr
  deriving DecidableEq, Repr

/-- The reasons a step stops with a fault. None: the spec gives every operation and event an effect. -/
inductive Fault where
  deriving DecidableEq, Repr

/-- The reasons a command is refused. -/
inductive Refusal where
  /-- Raised by the dispatch alone, for a command that has no meaning yet. Safe: nothing is proved about it. -/
  | notModelled (mnemonic : String)
  deriving DecidableEq, Repr

/-- The register fields whose value after a power-on reset is not 0, by key (the Reset columns of the register tables;
the ladders of R204). -/
def resetRegs : Tab Nat :=
    [(4096, 2 ^ 2048 - 1), (524288, 2), (524448, 1000), (524512, 5), (524521, 50), (1048608, 268435455), (1049568,
    4294967295), (1573000, 3), (1573024, 900), (2097408, 4294967295), (2097824, 63), (2098048, 1000000), (2099040,
    248), (2621536, 65535), (2621552, 65535), (2621824, 3), (2621828, 7), (2621856, 6), (3672064, 640), (3672080,
    3), (3672096, 5120), (3672112, 3), (3672128, 32), (3672135, 16)] ++
    [(3672141, 3), (3672145, 8), (3672160, 16), (3672167, 8), (3672173, 2), (3672177, 4), (3672192, 6), (3672196,
    10), (3672200, 7), (3672204, 256), (3672216, 16), (3672224, 20), (3672230, 255), (3672238, 64), (3672256, 16),
    (3672264, 40), (3672288, 3), (3672292, 8), (3672300, 2), (3672308, 3), (3672576, 50704), (3672592, 50192),
    (3672608, 49680), (3672624, 50696)] ++
    [(3672640, 50184), (3672656, 49672), (3672672, 49160), (3672688, 49152), (3672704, 64), (3672720, 128),
    (3672736, 192), (3672752, 256), (3672768, 8512), (3672784, 12672), (3672800, 65535), (3672816, 65535), (3672832,
    1552), (3672848, 1032), (3672864, 8), (3672896, 64), (3672912, 128), (3672928, 192), (3672944, 12544), (3672960,
    65535), (3672976, 65535), (3672992, 65535), (3673008, 65535), (3673024, 65535)] ++
    [(3673040, 65535), (3673056, 65535), (3673072, 65535), (3673344, 32768), (3673360, 32768), (3673376, 32768),
    (3673392, 32768), (3673408, 32768), (3673424, 32768), (3673440, 32768), (3673456, 32768), (4194944, 1),
    (4718672, 255), (4718912, 65535), (6292224, 65535), (6292256, 65535), (6292288, 65535), (6292320, 65535),
    (6292352, 65535), (6292384, 65535), (6292416, 65535), (6292448, 65535), (6815744, 3), (6815776, 301990)] ++
    [(6815808, 50), (6815856, 16), (6815885, 1), (6815888, 64), (6816001, 1), (6848512, 3), (6848544, 301990),
    (6848576, 50), (6848624, 16), (6848653, 1), (6848656, 64), (6848769, 1), (7340032, 15), (7340128, 3600),
    (7340144, 50), (7340153, 1), (7864456, 24), (7864464, 60), (7864472, 16)]

/-- The block right after a power-on reset: mode M2 Boot, before the chuck starts (R440, R460). -/
def Block.reset : Block := { regs := resetRegs }

/-- The machine right after reset, with no command waiting. -/
def State.reset : State := { blk := Block.reset, otp := {}, pending := [] }

end Sys2Proof.Machine
end

