-- ==== Sys2Proof/Machine/Ops.lean ====
section
/-! DEFINITION. The named operations over registers: every read and write of a register field goes through `Block.get`
and `Block.set`, so a stored value never exceeds its field's width. -/

namespace Sys2Proof.Machine

/-- The value of a register field, in its width. -/
def Block.get (b : Block) (f : Field) : Nat := Tab.get 0 b.regs f.key % 2 ^ f.width

/-- Write a register field; the value is cut to the field's width. -/
def Block.set (b : Block) (f : Field) (v : Nat) : Block :=
  { b with regs := Tab.set 0 b.regs f.key (v % 2 ^ f.width) }

/-- A one-bit field as a truth value. -/
def Block.flag (b : Block) (f : Field) : Bool := b.get f != 0

/-- Write a truth value to a one-bit field. -/
def Block.setFlag (b : Block) (f : Field) (v : Bool) : Block := b.set f (if v then 1 else 0)

/-- Add to a counter; it wraps at its width (R473). -/
def Block.add (b : Block) (f : Field) (n : Nat) : Block := b.set f (b.get f + n)

/-- Count one event (R473). -/
def Block.bump (b : Block) (f : Field) : Block := b.add f 1

/-- One bit of a field. -/
def Block.bit (b : Block) (f : Field) (i : Nat) : Bool := (b.get f).testBit i

/-- Set one bit of a field to 1. -/
def Block.raise (b : Block) (f : Field) (i : Nat) : Block := b.set f (b.get f ||| 2 ^ i)

/-- Clear the bits of a field that `mask` holds. -/
def Block.clear (b : Block) (f : Field) (mask : Nat) : Block := b.set f (b.get f &&& (2 ^ f.width - 1 - mask % 2 ^ f.width))

/-- The signed reading of a field. -/
def Block.sget (b : Block) (f : Field) : Int := (BitVec.ofNat f.width (b.get f)).toInt

/-- Write a signed value in two's complement. -/
def Block.sset (b : Block) (f : Field) (v : Int) : Block := b.set f (BitVec.ofInt f.width v).toNat

/-- Write a signed value, saturating at the field's range. -/
def Block.ssat (b : Block) (f : Field) (v : Int) : Block :=
  b.sset f (max (-(2 ^ (f.width - 1))) (min (2 ^ (f.width - 1) - 1) v))

/-- Write an unsigned value, saturating at the field's greatest value. -/
def Block.usat (b : Block) (f : Field) (v : Nat) : Block := b.set f (min v (2 ^ f.width - 1))

/-- The current mode, 0 to 11 (R437). -/
def Block.mode (b : Block) : Nat := b.get R.PWR_MODE_MODE

/-- The tick number (R32). -/
def Block.tick (b : Block) : Nat := b.get R.GLB_TICK

/-- The tick tag of the current tick (R37). -/
def Block.tickTag (b : Block) : Nat := b.tick % 65536

/-- Take one fresh free value: the counter names it, and moves on. -/
def Block.fresh (b : Block) : Nat × Block := (b.freeCtr, { b with freeCtr := b.freeCtr + 1 })

/-- Put something out. -/
def Block.emit (b : Block) (o : Out) : Block := { b with outs := b.outs ++ [o] }

/-- A queue of the queue manager. -/
def Block.q (b : Block) (n : Nat) : Queue := Tab.get {} b.queue.queues n

/-- Change a queue. -/
def Block.modQ (b : Block) (n : Nat) (f : Queue → Queue) : Block :=
  { b with queue := { b.queue with queues := Tab.modify {} b.queue.queues n f } }

/-- A slice's state. -/
def Block.sliceState (b : Block) (s : Nat) : SliceState := Tab.get {} b.slices s

/-- Change a slice's state. -/
def Block.modSlice (b : Block) (s : Nat) (f : SliceState → SliceState) : Block :=
  { b with slices := Tab.modify {} b.slices s f }

/-- Apply an operation for every element of a list, from the first on. -/
def Block.forEach {α : Type} (b : Block) (l : List α) (f : Block → α → Block) : Block := l.foldl f b

/-- Apply an operation where a condition holds. -/
def Block.whenever (b : Block) (c : Bool) (f : Block → Block) : Block := if c then f b else b

/-- Change the block of a state, and nothing else. -/
def State.onBlock (s : State) (f : Block → Block) : State := { s with blk := f s.blk }

end Sys2Proof.Machine
end

