-- ==== Sys2Proof/Machine/Operands.lean ====
section
/-! DEFINITION. The operand forms: the bit fields of words and headers, little-endian and big-endian numbers in byte
strings (R4, R83), signed fields, and the formats of network time (R209, R210). -/

namespace Sys2Proof.Machine

/-- Bits [lo + w - 1 : lo] of a number (R3). -/
def bits (v lo w : Nat) : Nat := (v / 2 ^ lo) % 2 ^ w

/-- The two's complement reading of the low `w` bits. -/
def sext (w v : Nat) : Int := (BitVec.ofNat w v).toInt

/-- The two's complement bits of an integer. -/
def unsext (w : Nat) (i : Int) : Nat := (BitVec.ofInt w i).toNat

/-- A little-endian number. -/
def leNum : List Byte → Nat
  | [] => 0
  | b :: bs => b.toNat + 256 * leNum bs

/-- A big-endian number. -/
def beNum (l : List Byte) : Nat := l.foldl (fun a b => a * 256 + b.toNat) 0

/-- `n` bytes, little-endian. -/
def leBytes (v : Nat) : Nat → List Byte
  | 0 => []
  | n + 1 => BitVec.ofNat 8 v :: leBytes (v / 256) n

/-- `n` bytes, big-endian. -/
def beBytes (v n : Nat) : List Byte := (leBytes v n).reverse

/-- The little-endian number of `n` bytes from offset `o`; bytes past the end read 0. -/
def leAt (l : List Byte) (o : Nat) : Nat → Nat
  | 0 => 0
  | n + 1 => (l.getD o 0).toNat + 256 * leAt l (o + 1) n

/-- The `n` bytes from offset `o`; bytes past the end read 0. -/
def slice (l : List Byte) (o n : Nat) : List Byte := (List.range n).map (fun i => l.getD (o + i) 0)

/-- The quotient rounded up. -/
def ceilDiv (a b : Nat) : Nat := (a + b - 1) / b

/-- Whether `a` is above `b` in serial-number arithmetic of `w` bits (R46). -/
def serialAbove (w a b : Nat) : Bool :=
  let d := (a + 2 ^ w - b % 2 ^ w) % 2 ^ w
  decide (d ≠ 0 ∧ d < 2 ^ (w - 1))

/-- A time in 2⁻¹⁶ ns as seconds, nanoseconds and fraction (R209). -/
def timeSec (t : Nat) : Nat := t / (65536 * 1000000000)
def timeNs (t : Nat) : Nat := t / 65536 % 1000000000
def timeFrac (t : Nat) : Nat := t % 65536

/-- The 96-bit timestamp of a time in 2⁻¹⁶ ns (R209). -/
def stamp96 (t : Nat) : Nat := timeFrac t + 2 ^ 16 * timeNs t + 2 ^ 48 * (timeSec t % 2 ^ 48)

/-- The time in 2⁻¹⁶ ns of a 96-bit timestamp. -/
def unstamp96 (v : Nat) : Nat := (bits v 48 48 * 1000000000 + bits v 16 32) * 65536 + bits v 0 16

/-- The four register words of a time in 2⁻¹⁶ ns (R209), the first in the low bits. -/
def stampWords (t : Nat) : Nat := timeFrac t + 2 ^ 32 * timeNs t + 2 ^ 64 * (timeSec t % 2 ^ 48)

/-- The time in 2⁻¹⁶ ns of four register words. -/
def unstampWords (v : Nat) : Nat := (bits v 64 48 * 1000000000 + bits v 32 32) * 65536 + bits v 0 16

/-- The truncated 64-bit timestamp (R210). -/
def stamp64 (t : Nat) : Nat := timeFrac t + 2 ^ 16 * timeNs t + 2 ^ 46 * (timeSec t % 2 ^ 18)

/-- The nanoseconds of a truncated and of a 96-bit timestamp are below 10⁹ (R209); others are rejected (R5). -/
def stamp64Ok (v : Nat) : Bool := decide (bits v 16 30 < 1000000000)
def stamp96Ok (v : Nat) : Bool := decide (bits v 16 32 < 1000000000)

/-- Restore a truncated timestamp: the seconds congruent to the truncated ones and nearest to the node's own time. -/
def unstamp64 (v now : Nat) : Nat :=
  let low := bits v 46 18
  let own := timeSec now
  let up := own + 2 ^ 17
  let cand := up - (up + 2 ^ 18 - low) % 2 ^ 18
  (cand * 1000000000 + bits v 16 30) * 65536 + bits v 0 16

/-- Network time now, in 2⁻¹⁶ ns: the time scale at the last tick boundary (assumption 5). -/
def Block.now (b : Block) : Nat := b.time.scale / 2 ^ 38

/-- The node's own idea of network time (R210, R282): its time scale, until its first step with the coarse estimate of R286. -/
def Block.netNow (b : Block) : Nat := ((b.now : Int) + b.time.coarse).toNat

end Sys2Proof.Machine
end

