-- ==== Sys2Proof/Machine/Crypto.lean ====
section
/-! DEFINITION. The cryptographic functions that the image, the join handshake, the protected frames and attestation
use, as their standards define them: SHA-512 (FIPS 180-4), HMAC and HKDF (RFC 2104, RFC 5869), Ed25519 (RFC 8032),
X25519 (RFC 7748), AES-256 (FIPS 197) in CCM (SP 800-38C). -/

namespace Sys2Proof.Machine

/-- The words of 64 bits that a number holds, the highest first. -/
def packedWords (n x : Nat) : List (BitVec 64) := (List.range n).map (fun i => BitVec.ofNat 64 (x >>> (64 * (n - 1 - i))))

/-- The round constants of SHA-512, eight in a row: the fractions of the cube roots of the first 80 primes
(`Laws/Crypto.lean` proves them so). -/
def sha512K : List (BitVec 64) :=
  packedWords 8
    0x428a2f98d728ae227137449123ef65cdb5c0fbcfec4d3b2fe9b5dba58189dbbc3956c25bf348b53859f111f1b605d019923f82a4af194f9bab1c5ed5da6d8118 ++
  packedWords 8
    0xd807aa98a303024212835b0145706fbe243185be4ee4b28c550c7dc3d5ffb4e272be5d74f27b896f80deb1fe3b1696b19bdc06a725c71235c19bf174cf692694 ++
  packedWords 8
    0xe49b69c19ef14ad2efbe4786384f25e30fc19dc68b8cd5b5240ca1cc77ac9c652de92c6f592b02754a7484aa6ea6e4835cb0a9dcbd41fbd476f988da831153b5 ++
  packedWords 8
    0x983e5152ee66dfaba831c66d2db43210b00327c898fb213fbf597fc7beef0ee4c6e00bf33da88fc2d5a79147930aa72506ca6351e003826f142929670a0e6e70 ++
  packedWords 8
    0x27b70a8546d22ffc2e1b21385c26c9264d2c6dfc5ac42aed53380d139d95b3df650a73548baf63de766a0abb3c77b2a881c2c92e47edaee692722c851482353b ++
  packedWords 8
    0xa2bfe8a14cf10364a81a664bbc423001c24b8b70d0f89791c76c51a30654be30d192e819d6ef5218d69906245565a910f40e35855771202a106aa07032bbd1b8 ++
  packedWords 8
    0x19a4c116b8d2d0c81e376c085141ab532748774cdf8eeb9934b0bcb5e19b48a8391c0cb3c5c95a634ed8aa4ae3418acb5b9cca4f7763e373682e6ff3d6b2b8a3 ++
  packedWords 8
    0x748f82ee5defb2fc78a5636f43172f6084c87814a1f0ab728cc702081a6439ec90befffa23631e28a4506cebde82bde9bef9a3f7b2c67915c67178f2e372532b ++
  packedWords 8
    0xca273eceea26619cd186b8c721c0c207eada7dd6cde0eb1ef57d4f7fee6ed17806f067aa72176fba0a637dc5a2c898a6113f9804bef90dae1b710b35131c471b ++
  packedWords 8
    0x28db77f523047d8432caab7b40c724933c9ebe0a15c9bebc431d67c49c100d4c4cc5d4becb3e42b6597f299cfc657e2a5fcb6fab3ad6faec6c44198c4a475817

/-- The initial hash value of SHA-512: the fractions of the square roots of the first eight primes. -/
def sha512Init : List (BitVec 64) :=
  packedWords 8
    0x6a09e667f3bcc908bb67ae8584caa73b3c6ef372fe94f82ba54ff53a5f1d36f1510e527fade682d19b05688c2b3e6c1f1f83d9abfb41bd6b5be0cd19137e2179

/-- The padded message: 0x80, zeros, and the bit length in 16 big-endian bytes. -/
def sha512Pad (m : List Byte) : List Byte :=
  let z := (111 + 128 - m.length % 128) % 128
  m ++ [0x80] ++ List.replicate z 0 ++ beBytes (8 * m.length) 16

/-- The 64-bit big-endian words of a byte string. -/
def words64 : Nat → List Byte → List (BitVec 64)
  | 0, _ => []
  | n + 1, l => BitVec.ofNat 64 (beNum (l.take 8)) :: words64 n (l.drop 8)

/-- Extend the message schedule: `w` holds the newest word first. -/
def sha512Extend : Nat → List (BitVec 64) → List (BitVec 64)
  | 0, w => w
  | n + 1, w =>
    let a := w.getD 14 0
    let c := w.getD 1 0
    let s0 := (a.rotateRight 1) ^^^ (a.rotateRight 8) ^^^ (a >>> 7)
    let s1 := (c.rotateRight 19) ^^^ (c.rotateRight 61) ^^^ (c >>> 6)
    sha512Extend n ((w.getD 15 0 + s0 + w.getD 6 0 + s1) :: w)

/-- The rounds of the compression function over the schedule and the constants. -/
def sha512Rounds : List (BitVec 64) → List (BitVec 64) → List (BitVec 64) → List (BitVec 64)
  | k :: ks, w :: ws, [a, b, c, d, e, f, g, h] =>
    let t1 := h + ((e.rotateRight 14) ^^^ (e.rotateRight 18) ^^^ (e.rotateRight 41)) +
      ((e &&& f) ^^^ (~~~e &&& g)) + k + w
    let t2 := ((a.rotateRight 28) ^^^ (a.rotateRight 34) ^^^ (a.rotateRight 39)) +
      ((a &&& b) ^^^ (a &&& c) ^^^ (b &&& c))
    sha512Rounds ks ws [t1 + t2, a, b, c, d + t1, e, f, g]
  | _, _, s => s

/-- One block of 128 bytes. -/
def sha512Block (h : List (BitVec 64)) (blk : List Byte) : List (BitVec 64) :=
  let w := (sha512Extend 64 (words64 16 blk).reverse).reverse
  List.zipWith (· + ·) h (sha512Rounds sha512K w h)

/-- The blocks of a padded message. -/
def sha512Blocks : Nat → List (BitVec 64) → List Byte → List (BitVec 64)
  | 0, h, _ => h
  | n + 1, h, l => sha512Blocks n (sha512Block h (l.take 128)) (l.drop 128)

/-- SHA-512 (FIPS 180-4): 64 bytes. -/
def sha512 (m : List Byte) : List Byte :=
  let p := sha512Pad m
  (sha512Blocks (p.length / 128) sha512Init p).flatMap (fun w => beBytes w.toNat 8)

/-- HMAC-SHA-512 (RFC 2104). -/
def hmac512 (key msg : List Byte) : List Byte :=
  let k := if 128 < key.length then sha512 key else key
  let k := k ++ List.replicate (128 - k.length) 0
  sha512 (k.map (fun x => x ^^^ 0x5C) ++ sha512 (k.map (fun x => x ^^^ 0x36) ++ msg))

/-- The output blocks of HKDF-Expand. -/
def hkdfBlocks (prk info : List Byte) : Nat → Nat → List Byte → List Byte
  | 0, _, _ => []
  | n + 1, i, prev =>
    let t := hmac512 prk (prev ++ info ++ [BitVec.ofNat 8 i])
    t ++ hkdfBlocks prk info n (i + 1) t

/-- HKDF with SHA-512 (RFC 5869), `n` bytes. -/
def hkdf512 (salt ikm info : List Byte) (n : Nat) : List Byte :=
  let salt := if salt.isEmpty then List.replicate 64 0 else salt
  (hkdfBlocks (hmac512 salt ikm) info (ceilDiv n 64) 1 []).take n

/-- The prime 2²⁵⁵ − 19. -/
def p25519 : Nat := 2 ^ 255 - 19

/-- Exponentiation modulo `m`, by the bits of `e` from the lowest, `fuel` bits at most. -/
def powMod (m : Nat) : Nat → Nat → Nat → Nat → Nat
  | 0, _, _, acc => acc
  | fuel + 1, base, e, acc =>
    powMod m fuel (base * base % m) (e / 2) (if e % 2 = 1 then acc * base % m else acc)

/-- The inverse modulo 2²⁵⁵ − 19. -/
def inv25519 (x : Nat) : Nat := powMod p25519 256 (x % p25519) (p25519 - 2) 1

/-- Subtraction modulo 2²⁵⁵ − 19. -/
def sub25519 (a b : Nat) : Nat := (a + (p25519 - b % p25519)) % p25519

/-- The curve constant d of edwards25519. -/
def d25519 : Nat := sub25519 0 (121665 * inv25519 121666)

/-- A point of edwards25519 in extended coordinates. -/
structure EdPoint where
  x : Nat
  y : Nat
  z : Nat
  t : Nat
  deriving DecidableEq, Repr

/-- Point addition (RFC 8032, 5.1.4). -/
def EdPoint.add (p q : EdPoint) : EdPoint :=
  let m := p25519
  let a := sub25519 p.y p.x * sub25519 q.y q.x % m
  let b := (p.y + p.x) * (q.y + q.x) % m
  let c := 2 * p.t * q.t * d25519 % m
  let d := 2 * p.z * q.z % m
  let e := sub25519 b a
  let f := sub25519 d c
  let g := (d + c) % m
  let h := (b + a) % m
  { x := e * f % m, y := g * h % m, z := f * g % m, t := e * h % m }

/-- The neutral point. -/
def EdPoint.zero : EdPoint := { x := 0, y := 1, z := 1, t := 0 }

/-- Scalar multiplication, by the bits of the scalar from the lowest. -/
def EdPoint.mul : Nat → Nat → EdPoint → EdPoint → EdPoint
  | 0, _, _, acc => acc
  | fuel + 1, s, p, acc => EdPoint.mul fuel (s / 2) (p.add p) (if s % 2 = 1 then acc.add p else acc)

/-- Whether two points are the same. -/
def EdPoint.same (p q : EdPoint) : Bool :=
  p.x * q.z % p25519 == q.x * p.z % p25519 && p.y * q.z % p25519 == q.y * p.z % p25519

/-- Recover x from y and its sign bit (RFC 8032, 5.1.3). -/
def edRecover (y sign : Nat) : Option Nat :=
  let m := p25519
  if m ≤ y then none
  else
    let x2 := sub25519 (y * y) 1 * inv25519 (d25519 * (y * y % m) + 1) % m
    if x2 = 0 then (if sign = 1 then none else some 0)
    else
      let x := powMod m 256 x2 ((m + 3) / 8) 1
      let x := if x * x % m = x2 then x else x * powMod m 256 2 ((m - 1) / 4) 1 % m
      if x * x % m = x2 then some (if x % 2 = sign then x else m - x) else none

/-- Decode a point of 32 bytes. -/
def edDecode (b : List Byte) : Option EdPoint :=
  let n := leNum b
  let y := n % 2 ^ 255
  match edRecover y (n / 2 ^ 255 % 2) with
  | some x => some { x := x, y := y, z := 1, t := x * y % p25519 }
  | none => none

/-- Encode a point in 32 bytes. -/
def edEncode (p : EdPoint) : List Byte :=
  let zi := inv25519 p.z
  let x := p.x * zi % p25519
  leBytes (p.y * zi % p25519 + 2 ^ 255 * (x % 2)) 32

/-- The base point. -/
def edBase : EdPoint :=
  let y := 4 * inv25519 5 % p25519
  let x := (edRecover y 0).getD 0
  { x := x, y := y, z := 1, t := x * y % p25519 }

/-- The group order. -/
def edOrder : Nat := 2 ^ 252 + 27742317777372353535851937790883648493

/-- Ed25519 verification (RFC 8032, pure Ed25519). -/
def edVerify (key msg sig : List Byte) : Bool :=
  let rb := sig.take 32
  let s := leNum (sig.drop 32)
  match edDecode key, edDecode rb with
  | some a, some r =>
    let h := leNum (sha512 (rb ++ key ++ msg)) % edOrder
    decide (sig.length = 64 ∧ s < edOrder) &&
      (EdPoint.mul 256 s edBase .zero).same (r.add (EdPoint.mul 256 h a .zero))
  | _, _ => false

/-- The clamped scalar of a secret (RFC 8032, RFC 7748). -/
def clamp25519 (n : Nat) : Nat := n % 2 ^ 254 / 8 * 8 + 2 ^ 254

/-- The public key of a secret of 32 bytes. -/
def edPublic (secret : List Byte) : List Byte :=
  edEncode (EdPoint.mul 256 (clamp25519 (leNum ((sha512 secret).take 32))) edBase .zero)

/-- Ed25519 signature (RFC 8032). -/
def edSign (secret msg : List Byte) : List Byte :=
  let h := sha512 secret
  let a := clamp25519 (leNum (h.take 32))
  let pub := edPublic secret
  let r := leNum (sha512 (h.drop 32 ++ msg)) % edOrder
  let rb := edEncode (EdPoint.mul 256 r edBase .zero)
  let k := leNum (sha512 (rb ++ pub ++ msg)) % edOrder
  rb ++ leBytes ((r + k * a) % edOrder) 32

/-- The Montgomery ladder of X25519 (RFC 7748), over the bits of the scalar from bit `n` − 1 down. -/
def xLadder (k x1 : Nat) : Nat → Nat → Nat → Nat → Nat → Nat × Nat × Nat × Nat
  | 0, x2, z2, x3, z3 => (x2, z2, x3, z3)
  | n + 1, x2, z2, x3, z3 =>
    let m := p25519
    let bit := k.testBit n
    let (x2, x3) := if bit then (x3, x2) else (x2, x3)
    let (z2, z3) := if bit then (z3, z2) else (z2, z3)
    let a := (x2 + z2) % m
    let aa := a * a % m
    let b := sub25519 x2 z2
    let bb := b * b % m
    let e := sub25519 aa bb
    let da := sub25519 x3 z3 * a % m
    let cb := (x3 + z3) * b % m
    let nx3 := (da + cb) * (da + cb) % m
    let dm := sub25519 da cb
    let nz3 := x1 * (dm * dm % m) % m
    let nx2 := aa * bb % m
    let nz2 := e * (aa + 121665 * e) % m
    let (nx2, nx3) := if bit then (nx3, nx2) else (nx2, nx3)
    let (nz2, nz3) := if bit then (nz3, nz2) else (nz2, nz3)
    xLadder k x1 n nx2 nz2 nx3 nz3

/-- X25519 (RFC 7748). -/
def x25519 (secret point : List Byte) : List Byte :=
  let u := leNum point % 2 ^ 255 % p25519
  let (x2, z2, _, _) := xLadder (clamp25519 (leNum secret)) u 255 1 0 u 1
  leBytes (x2 * inv25519 z2 % p25519) 32

/-- The base point of X25519. -/
def x25519Base : List Byte := leBytes 9 32

/-- Multiplication by x in GF(2⁸) of AES. -/
def xtime (b : Nat) : Nat := if b < 128 then 2 * b else (2 * b) ^^^ 0x11B

/-- Multiplication in GF(2⁸) of AES, over `n` bits of `b`. -/
def gmul : Nat → Nat → Nat → Nat
  | 0, _, _ => 0
  | n + 1, a, b => (if b % 2 = 1 then a else 0) ^^^ gmul n (xtime a) (b / 2)

/-- The inverse in GF(2⁸), as a power (x²⁵⁴). -/
def ginv (a : Nat) : Nat :=
  let a2 := gmul 8 a a
  let a4 := gmul 8 a2 a2
  let a8 := gmul 8 a4 a4
  let a16 := gmul 8 a8 a8
  let a32 := gmul 8 a16 a16
  let a64 := gmul 8 a32 a32
  let a128 := gmul 8 a64 a64
  gmul 8 a128 (gmul 8 a64 (gmul 8 a32 (gmul 8 a16 (gmul 8 a8 (gmul 8 a4 a2)))))

/-- The AES substitution of a byte. -/
def aesSub (b : Nat) : Nat :=
  let i := ginv b
  let rot (n : Nat) : Nat := (i * 2 ^ n) % 256 + i / 2 ^ (8 - n)
  i ^^^ rot 1 ^^^ rot 2 ^^^ rot 3 ^^^ rot 4 ^^^ 0x63

/-- The key expansion of AES-256: words of 4 bytes, the newest first, with `n` words to go. -/
def aesExpand : Nat → Nat → Nat → List (List Nat) → List (List Nat)
  | 0, _, _, w => w
  | n + 1, i, rcon, w =>
    let t := w.getD 0 []
    let t' :=
      if i % 8 = 0 then
        match t with
        | [a, b, c, d] => [aesSub b ^^^ rcon, aesSub c, aesSub d, aesSub a]
        | l => l
      else if i % 8 = 4 then t.map aesSub
      else t
    aesExpand n (i + 1) (if i % 8 = 0 then xtime rcon else rcon) (List.zipWith (· ^^^ ·) (w.getD 7 []) t' :: w)

/-- Groups of `k` elements, `n` of them. -/
def groups {α : Type} (k : Nat) : Nat → List α → List (List α)
  | 0, _ => []
  | n + 1, l => l.take k :: groups k n (l.drop k)

/-- The 15 round keys of AES-256, 16 bytes each. -/
def aesKeys (key : List Byte) : List (List Nat) :=
  let w := (aesExpand 52 8 1 (groups 4 8 (key.map (fun b => b.toNat))).reverse).reverse
  (groups 4 15 w).map (fun g => g.flatten)

/-- ShiftRows. -/
def aesShift (s : List Nat) : List Nat :=
  [0, 5, 10, 15, 4, 9, 14, 3, 8, 13, 2, 7, 12, 1, 6, 11].map (fun i => s.getD i 0)

/-- MixColumns of one column. -/
def aesMixCol : List Nat → List Nat
  | [a, b, c, d] =>
    [xtime a ^^^ xtime b ^^^ b ^^^ c ^^^ d, a ^^^ xtime b ^^^ xtime c ^^^ c ^^^ d,
     a ^^^ b ^^^ xtime c ^^^ xtime d ^^^ d, xtime a ^^^ a ^^^ b ^^^ c ^^^ xtime d]
  | l => l

/-- The rounds of AES over the remaining round keys. -/
def aesRounds : List (List Nat) → List Nat → List Nat
  | [], s => s
  | [k], s => List.zipWith (· ^^^ ·) (aesShift (s.map aesSub)) k
  | k :: ks, s =>
    aesRounds ks (List.zipWith (· ^^^ ·) ((groups 4 4 (aesShift (s.map aesSub))).flatMap aesMixCol) k)

/-- AES-256 of one block (FIPS 197). -/
def aes256 (key : List Byte) (blk : List Byte) : List Byte :=
  match aesKeys key with
  | k0 :: ks => (aesRounds ks (List.zipWith (· ^^^ ·) (blk.map (fun b => b.toNat)) k0)).map (BitVec.ofNat 8)
  | [] => blk

/-- CBC-MAC over blocks of 16 bytes. -/
def cbcMac (key : List Byte) : Nat → List Byte → List Byte → List Byte
  | 0, _, x => x
  | n + 1, l, x => cbcMac key n (l.drop 16) (aes256 key (List.zipWith (· ^^^ ·) x (l.take 16)))

/-- Pad with zeros to a multiple of 16. -/
def pad16 (l : List Byte) : List Byte := l ++ List.replicate ((16 - l.length % 16) % 16) 0

/-- The CCM authentication value of 16 bytes, with a nonce of 13 bytes and a tag of `m` bytes (SP 800-38C). -/
def ccmMac (key nonce aad msg : List Byte) (m : Nat) : List Byte :=
  let b0 : List Byte :=
    [BitVec.ofNat 8 ((if aad.isEmpty then 0 else 64) + 8 * ((m - 2) / 2) + 1)] ++ nonce ++ beBytes msg.length 2
  let a := if aad.isEmpty then [] else pad16 (beBytes aad.length 2 ++ aad)
  let l := b0 ++ a ++ pad16 msg
  cbcMac key (l.length / 16) l (List.replicate 16 0)

/-- The counter stream of CCM from counter `i` on, `n` blocks. -/
def ccmStream (key nonce : List Byte) : Nat → Nat → List Byte
  | 0, _ => []
  | n + 1, i => aes256 key ([1] ++ nonce ++ beBytes i 2) ++ ccmStream key nonce n (i + 1)

/-- CCM sealing: the ciphertext followed by a tag of `m` bytes. -/
def ccmSeal (key nonce aad msg : List Byte) (m : Nat) : List Byte :=
  let s := ccmStream key nonce (ceilDiv msg.length 16 + 1) 0
  List.zipWith (· ^^^ ·) msg (s.drop 16) ++ (List.zipWith (· ^^^ ·) (ccmMac key nonce aad msg m) s).take m

/-- CCM opening: the message when the tag of `m` bytes is right. -/
def ccmOpen (key nonce aad ct : List Byte) (m : Nat) : Option (List Byte) :=
  let n := ct.length - m
  let s := ccmStream key nonce (ceilDiv n 16 + 1) 0
  let msg := List.zipWith (· ^^^ ·) (ct.take n) (s.drop 16)
  if m ≤ ct.length ∧ (List.zipWith (· ^^^ ·) (ccmMac key nonce aad msg m) s).take m = ct.drop n then some msg else none

end Sys2Proof.Machine
end

