-- ==== Sys2Proof/Machine/Image.lean ====
section
/-! DEFINITION. The grain image: its container (R83–R90), and the verification of R92, steps 1 to 6, with the causes of
R113. A failure is a cause and the index of the segment concerned (0xFF: none). -/

namespace Sys2Proof.Machine

/-- The first failed check of a list, in order. -/
def firstFail {ε : Type} : List (Bool × ε) → Option ε
  | [] => none
  | (ok, e) :: l => if ok then firstFail l else some e

/-- All bytes are zero. -/
def allZero (l : List Byte) : Bool := l.all (fun b => b == 0)

/-- What an image is verified for: a bank of the chuck (R91), or the staging area. -/
inductive ImageUse where
  | bank | goldenBank | staged
  deriving DecidableEq, Repr

/-- FLAGS are permitted for the bank or use (R84, R91). -/
def flagsOk (use : ImageUse) (flags : Nat) : Bool :=
  match use with
  | .bank => flags == 0
  | .goldenBank => flags == 1
  | .staged => flags == 0 || flags == 1 || flags == 2

/-- The header of an image (R84), checked under R92 step 1. -/
def headerCheck (use : ImageUse) (i : List Byte) : Option (Nat × Nat) :=
  let total := leAt i 0x08 4
  let count := leAt i 0x0E 2
  let flags := leAt i 0x18 4
  let reload := flags.testBit 1
  firstFail [
    (slice i 0 4 == [0x4F, 0x53, 0x47, 0x49], (0x01, 0xFF)),
    (leAt i 0x04 2 == 1 && leAt i 0x06 2 == 0, (0x02, 0xFF)),
    (total % 64 == 0 && decide (total ≤ 0x4000000 ∧ ceilDiv (128 + 96 * count + 256) 64 * 64 ≤ total), (0x03, 0xFF)),
    (leAt i 0x0C 2 == 128, (0x03, 0xFF)),
    (leAt i 0x10 4 == 0x5120, (0x04, 0xFF)),
    (decide (1 ≤ count ∧ count ≤ 64), (0x06, 0xFF)),
    (flagsOk use flags, (0x04, 0xFF)),
    (if reload then decide (leAt i 0x1C 1 ≤ 7) else leAt i 0x1C 1 == 0, (0x04, 0xFF)),
    (reload || allZero (slice i 0x40 64), (0x04, 0xFF)),
    (allZero (slice i 0x1D 3) && allZero (slice i 0x28 24), (0x04, 0xFF))]

/-- The segment of table entry `k` (R85). -/
def segAt (i : List Byte) (k : Nat) : Seg :=
  let e := 128 + 96 * k
  { kind := leAt i e 1, signer := leAt i (e + 1) 1, slice := leAt i (e + 2) 1, flags := leAt i (e + 3) 1,
    secVer := leAt i (e + 4) 1, offset := leAt i (e + 8) 4, digest := slice i (e + 0x10) 64,
    data := slice i (leAt i (e + 8) 4) (leAt i (e + 0x0C) 4) }

/-- A LIBRARY segment (R86). -/
def Seg.library (g : Seg) : Bool := g.kind == 2 && g.flags.testBit 0

/-- KIND, SIGNER and SLICE agree with R86; in a golden image every SIGNER is 1. -/
def Seg.entryOk (golden : Bool) (g : Seg) : Bool :=
  decide (1 ≤ g.kind ∧ g.kind ≤ 11) &&
    (g.signer == (if golden || g.library || g.kind == 3 then 1 else 2)) &&
    (if g.kind == 1 then decide (g.slice ≤ 7 ∨ g.slice = 0xFF)
     else if g.kind == 2 && !g.library then decide (g.slice ≤ 7)
     else g.slice == 0xFF) &&
    (g.flags == 0 || (g.kind == 2 && g.flags == 1))

/-- A zero length is allowed for this kind (R87). -/
def zeroLengthOk (kind : Nat) : Bool := kind == 5 || kind == 8 || kind == 9

/-- The number of segments that a test selects. -/
def countSegs (l : List Seg) (t : Seg → Bool) : Nat := (l.filter t).length

/-- The counts of R86, except the per-slice count of schedules in a full image. -/
def countsOk (reload : Bool) (rslice : Nat) (l : List Seg) : Bool :=
  if reload then
    l.length == 2 && countSegs l (fun g => g.kind == 1 && g.slice == rslice) == 1 &&
      countSegs l (fun g => g.kind == 2 && !g.library && g.slice == rslice) == 1
  else
    countSegs l (fun g => g.kind == 1 && g.slice == 0xFF) == 1 &&
    (List.range 8).all (fun s => decide (countSegs l (fun g => g.kind == 1 && g.slice == s) ≤ 1)) &&
    decide (1 ≤ countSegs l Seg.library ∧ countSegs l Seg.library ≤ 8) &&
    [3, 4, 5, 6, 7, 10, 11].all (fun k => countSegs l (fun g => g.kind == k) == 1) &&
    [8, 9].all (fun k => decide (countSegs l (fun g => g.kind == k) ≤ 1))

/-- The bytes [from, to) are padding and zero. -/
def padOk (i : List Byte) (lo hi : Nat) : Bool := allZero (slice i lo (hi - lo))

/-- The segments lie in order, aligned and within bounds (R85); `pos` is where the last one ended, `k` the index of the
next. -/
def placeCheck (limit : Nat) : Nat → Nat → List Seg → Option (Nat × Nat)
  | _, _, [] => none
  | k, pos, g :: l =>
    if g.offset % 64 = 0 ∧ pos ≤ g.offset ∧ g.offset + g.data.length ≤ limit then
      placeCheck limit (k + 1) (g.offset + g.data.length) l
    else some (0x05, k)

/-- The padding before each segment and after the last is zero (R85). Padding before a segment names that segment's index;
padding after the last one names the last index (DESIGN CHOICE, assumption 112). -/
def padCheck (i : List Byte) (limit : Nat) : Nat → Nat → List Seg → Option (Nat × Nat)
  | k, pos, [] => if padOk i pos limit then none else some (0x05, k - 1)
  | k, pos, g :: l =>
    if padOk i pos g.offset then padCheck i limit (k + 1) (g.offset + g.data.length) l else some (0x05, k)

/-- The reserved fields of a table entry are zero (R85). -/
def entryReservedOk (i : List Byte) (k : Nat) : Bool :=
  allZero (slice i (128 + 96 * k + 5) 3) && allZero (slice i (128 + 96 * k + 0x50) 16)

/-- The segment table (R92 step 2), in the order that the step names. -/
def tableCheck (i : List Byte) : Option (Nat × Nat) :=
  let total := leAt i 0x08 4
  let n := leAt i 0x0E 2
  let golden := (leAt i 0x18 4).testBit 0
  let reload := (leAt i 0x18 4).testBit 1
  let segs := (List.range n).map (segAt i)
  match firstFail ((List.range n).map (fun k => ((segAt i k).entryOk golden && entryReservedOk i k, (0x05, k)))) with
  | some e => some e
  | none =>
    match placeCheck (total - 256) 0 (128 + 96 * n) segs with
    | some e => some e
    | none =>
      match firstFail ([(countsOk reload (leAt i 0x1C 1) segs, ((0x06 : Nat), (0xFF : Nat)))] ++
        (List.range n).map (fun k => ((segAt i k).data.length != 0 || zeroLengthOk (segAt i k).kind, (0x06, k)))) with
      | some e => some e
      | none => padCheck i (total - 256) 0 (128 + 96 * n) segs

/-- The vendor manifest digest (R90). -/
def vendorManifest (i : List Byte) : List Byte :=
  let n := leAt i 0x0E 2
  sha512 (((List.range n).filter (fun k => (segAt i k).signer == 1)).flatMap (fun k =>
    slice i (128 + 96 * k) 8 ++ [0, 0, 0, 0] ++ slice i (128 + 96 * k + 0x0C) 84))

/-- The owner manifest digest (R90), the image's identity. -/
def ownerManifest (i : List Byte) : List Byte :=
  let n := leAt i 0x0E 2
  sha512 (slice i 0 (128 + 96 * n) ++ slice i (leAt i 0x08 4 - 256) 128)

/-- One signature block (R89): malformed gives `bad`, a signature that does not verify gives `bad` + 1. -/
def signatureCheck (blk : List Byte) (magic slots : Nat) (key : Nat → Option (List Byte)) (digest : List Byte)
    (bad : Nat) : Option (Nat × Nat) :=
  let slot := leAt blk 4 1
  match key slot with
  | none => some (bad, 0xFF)
  | some k =>
    firstFail [
      (slice blk 0 4 == [0x53, 0x49, 0x47, BitVec.ofNat 8 magic] && decide (slot < slots) &&
        allZero (slice blk 5 3) && allZero (slice blk 0x10 48) && slice blk 8 8 == (sha512 k).take 8, (bad, 0xFF)),
      (edVerify k digest (slice blk 0x40 64), (bad + 1, 0xFF))]

/-- A vendor key that is present and not revoked (R92 step 3). -/
def vendorKeyOf (o : Otp) (slot : Nat) : Option (List Byte) :=
  if slot < 2 ∧ o.vendorRevoked.getD slot true = false then some (Config.vendorKey slot) else none

/-- An owner key that is enrolled and not revoked (R92 step 4). -/
def ownerKeyOf (o : Otp) (slot : Nat) : Option (List Byte) :=
  if o.ownerRevoked.getD slot true = false then o.owner.getD slot none else none

/-- The vendor and owner blocks (R92 steps 3 and 4). -/
def blocksCheck (o : Otp) (i : List Byte) : Option (Nat × Nat) :=
  let total := leAt i 0x08 4
  let vendor := slice i (total - 256) 128
  let owner := slice i (total - 128) 128
  let golden := (leAt i 0x18 4).testBit 0
  let reload := (leAt i 0x18 4).testBit 1
  let v :=
    if reload then (if allZero vendor then none else some (0x07, 0xFF))
    else signatureCheck vendor 0x56 2 (vendorKeyOf o) (vendorManifest i) 0x07
  match v with
  | some e => some e
  | none =>
    if golden then (if allZero owner then none else some (0x09, 0xFF))
    else signatureCheck owner 0x4F 4 (ownerKeyOf o) (ownerManifest i) 0x09

/-- The anti-rollback class of a segment (R93). -/
def Seg.rollbackClass (golden : Bool) (g : Seg) : Nat :=
  if golden || g.kind == 3 || g.library then 0 else if g.kind == 2 then 1 else 2

/-- Anti-rollback (R92 step 5, R93). -/
def rollbackCheck (o : Otp) (i : List Byte) : Option (Nat × Nat) :=
  let golden := (leAt i 0x18 4).testBit 0
  firstFail ((List.range (leAt i 0x0E 2)).map (fun k =>
    let g := segAt i k
    (decide (o.rollback.getD (g.rollbackClass golden) 0 ≤ g.secVer), (0x0B, k))))

/-- Segment digests (R92 step 6). -/
def digestCheck (i : List Byte) : Option (Nat × Nat) :=
  firstFail ((List.range (leAt i 0x0E 2)).map (fun k => (sha512 (segAt i k).data == (segAt i k).digest, (0x0C, k))))

/-- The image that the bytes hold. -/
def parseImage (i : List Byte) : Image :=
  { seq := leAt i 0x14 4, golden := (leAt i 0x18 4).testBit 0, reload := (leAt i 0x18 4).testBit 1,
    reloadSlice := leAt i 0x1C 1, baseDigest := slice i 0x40 64, digest := ownerManifest i, ownerFpr := slice i (leAt i 0x08 4 - 120) 8,
    segs := (List.range (leAt i 0x0E 2)).map (segAt i) }

/-- Steps 1 to 5 of R92. -/
def verifyManifest (use : ImageUse) (o : Otp) (i : List Byte) : Option (Nat × Nat) :=
  match headerCheck use i with
  | some e => some e
  | none =>
    match tableCheck i with
    | some e => some e
    | none =>
      match blocksCheck o i with
      | some e => some e
      | none => rollbackCheck o i

/-- A segment of an image by kind, node-wide. -/
def Image.seg (i : Image) (kind : Nat) : Option Seg := i.segs.find? (fun g => g.kind == kind && g.slice == 0xFF && !g.library)

/-- The payload of a node-wide segment; empty when the image has none. -/
def Image.payload (i : Image) (kind : Nat) : List Byte := match i.seg kind with | some g => g.data | none => []

/-- The slice of a port of the fabric; 8 for a port of no slice (R21). -/
def portSlice (p : Nat) : Nat := match Config.portKind p with | .slice s => s | _ => 8

/-- The role of a logical spindle in the STRUCTURE allocation (R87, R88): the allocation follows the 64-byte header. -/
def Image.spindleRole (i : Image) (n : Nat) : Nat := Config.allocRole (slice (i.payload 1) (64 + 4 * n) 4)

/-- Routes of the node-wide STRUCTURE (R87, R88). -/
def Image.routes (i : Image) : List (Nat × Nat × Nat × Nat × Bool) :=
  let p := i.payload 1
  (List.range (leAt p 4 2)).map (fun k => Config.routeRecord (slice p (2112 + 16 * k) 16))

/-- The DDR4 partition of the node-wide STRUCTURE: it follows the routes at a multiple of 64 bytes. -/
def Image.partitions (i : Image) : List (Nat × Nat × Nat) :=
  let p := i.payload 1
  let o := 2112 + ceilDiv (16 * leAt p 4 2) 64 * 64
  (List.range (leAt p 3 1)).map (fun k => Config.partRecord (slice p (o + 16 * k) 16))

/-- The bytes of DDR4 regions of a kind. -/
def Image.regionSize (i : Image) (kind : Nat) : Nat :=
  ((i.partitions.filter (fun r => r.1 = kind)).map (fun r => r.2.2)).sum

/-- DEBUG_SLICES and SUPV_SLICE of R88. -/
def Image.debugSlices (i : Image) : Nat := leAt (i.payload 1) 1 1
def Image.supvSlice (i : Image) : Nat := leAt (i.payload 1) 2 1

/-- The logical spindles of the supervisor. -/
def Image.supvSpindles (i : Image) : List Nat := (List.range 512).filter (fun n => i.spindleRole n == 4)

/-- The per-slice count of schedules (R86, R92 step 7): one where the allocation gives any spindle a role other than
idle or supervisor, none elsewhere. -/
def Image.schedulesOk (i : Image) : Bool :=
  (List.range 8).all (fun s =>
    let used := (List.range 64).any (fun k => !(i.spindleRole (64 * s + k) == 4 || i.spindleRole (64 * s + k) == 5))
    countSegs i.segs (fun g => g.kind == 2 && !g.library && g.slice == s) == (if used then 1 else 0))

/-- The role of a logical spindle (R16): by the alternate allocation while its slice runs on it. -/
def Block.spindleRole (b : Block) (n : Nat) : Nat :=
  match b.image.run with
  | none => 5
  | some i =>
    let alt := match i.segs.find? (fun g => g.kind == 1 && g.slice == n / 64) with
      | some g => Config.altAlloc g.data
      | none => []
    if (b.sliceState (n / 64)).alternate then Config.allocRole (alt.getD (n % 64) []) else i.spindleRole n

/-- The slice that holds the supervisor spindles (R26, R27): the running image names it; slice 0 in M2, M10 and M11. -/
def Block.supvSlice (b : Block) : Nat :=
  if b.mode = 10 ∨ b.mode = 11 then 0 else match b.image.run with | some i => i.supvSlice | none => 0

/-- The payload of a node-wide segment of the running image. -/
def Block.payload (b : Block) (kind : Nat) : List Byte := match b.image.run with | some i => i.payload kind | none => []

end Sys2Proof.Machine
end

