-- ==== Sys2Proof/Machine/Code.lean ====
section
/-! DEFINITION. The memories of the spindles (R18) as an image loads them (R86, R87, R100, R459): schedule records, library
placements, SUPERVISOR records, slice shared memory; the alternate allocation (R16) and the reload plan (R87, R107). The
layouts that the spec leaves open are constants of Config. -/

namespace Sys2Proof.Machine

/-- One record of a SPINDLE_CODE schedule (R87): the logical spindle, its instruction image, its initial data image. -/
structure CodeRec where
  logical : Nat
  code : List Byte
  data : List Byte
  deriving DecidableEq, Repr

/-- The first `n` records of a schedule payload, and what follows them; none where the payload is too short. -/
def codeRecords : Nat → List Byte → Option (List CodeRec × List Byte)
  | 0, l => some ([], l)
  | n + 1, l =>
    let (logical, ci, di) := Config.codeHeader (slice l 0 16)
    if l.length < 16 + ci + di then none
    else match codeRecords n (l.drop (16 + ci + di)) with
      | some (rs, rest) => some (⟨logical, (l.drop 16).take ci, (l.drop (16 + ci)).take di⟩ :: rs, rest)
      | none => none

/-- The records of a schedule segment and the initial image of the slice shared memory (R87). -/
def Seg.schedule (g : Seg) : List CodeRec × List Byte := (codeRecords 64 g.data).getD ([], [])

/-- The schedule segment of a slice. -/
def Image.scheduleSeg (i : Image) (s : Nat) : Option Seg := i.segs.find? (fun g => g.kind == 2 && !g.library && g.slice == s)

/-- The slice-bound STRUCTURE payload of an image; empty when it has none. -/
def Image.sliceStructure (i : Image) (s : Nat) : List Byte :=
  match i.segs.find? (fun g => g.kind == 1 && g.slice == s) with
  | some g => g.data
  | none => []

/-- The libraries of an image, in the order of its table. -/
def Image.libraries (i : Image) : List (List Byte) := (i.segs.filter Seg.library).map Seg.data

/-- The library placements of the node-wide STRUCTURE (R87, R88): library, kernel, instruction-memory offset and logical
spindle. They follow the DDR4 partition at a multiple of 64 bytes. -/
def Image.placements (i : Image) : List (Nat × Nat × Nat × Nat) :=
  let p := i.payload 1
  let o := 2112 + ceilDiv (16 * leAt p 4 2) 64 * 64 + ceilDiv (16 * leAt p 3 1) 64 * 64
  (List.range (leAt p 6 2)).map (fun k => Config.placeRecord (slice p (o + 8 * k) 8))

/-- The bytes of a kernel of a library. -/
def Image.kernel (i : Image) (lib k : Nat) : List Byte := Config.libraryKernel (i.libraries.getD lib []) k

/-- Bytes laid over others from an offset on; a gap is filled with zeros. -/
def overlay (base : List Byte) (o : Nat) (l : List Byte) : List Byte :=
  base.take o ++ List.replicate (o - base.length) 0 ++ l ++ base.drop (o + l.length)

/-- The record of a logical spindle in its slice's schedule. -/
def Image.record (i : Image) (n : Nat) : Option CodeRec :=
  match i.scheduleSeg (n / 64) with
  | some g => g.schedule.1.find? (fun r => r.logical == n)
  | none => none

/-- The index of a logical spindle among the supervisor spindles, in ascending logical number (R459). -/
def Image.supvIndex (i : Image) (n : Nat) : Option Nat :=
  if i.spindleRole n = 4 then some (i.supvSpindles.filter (fun m => decide (m < n))).length else none

/-- The instruction and data image of a record of the SUPERVISOR segment (R459). -/
def Image.supvRecord (i : Image) (j : Nat) : List Byte × List Byte :=
  (slice (i.payload 3) (64 + 81920 * j) 16384, slice (i.payload 3) (64 + 81920 * j + 16384) 65536)

/-- The instruction memory of a logical spindle as loaded, library placements applied (R100). -/
def Image.codeOf (i : Image) (n : Nat) : List Byte :=
  let base := match i.supvIndex n, i.record n with
    | some j, _ => (i.supvRecord j).1
    | none, some r => r.code
    | none, none => []
  (i.placements.filter (fun (p : Nat × Nat × Nat × Nat) => p.2.2.2 == n)).foldl
    (fun l (p : Nat × Nat × Nat × Nat) => overlay l p.2.2.1 (i.kernel p.1 p.2.1)) base

/-- The data memory of a logical spindle as loaded. -/
def Image.dataOf (i : Image) (n : Nat) : List Byte :=
  match i.supvIndex n, i.record n with
  | some j, _ => (i.supvRecord j).2
  | none, some r => r.data
  | none, none => []

/-- The shared memory of a slice as loaded (R86, R87): zero-filled where it has no schedule. -/
def Image.sharedOf (i : Image) (s : Nat) : List Byte :=
  match i.scheduleSeg s with
  | some g => g.schedule.2
  | none => []

/-- The class I content of a slice's memories (R109): instruction and data memories and the shared memory. -/
def Image.slicePart (i : Image) (s : Nat) : List Byte :=
  (List.range 64).flatMap (fun k => i.codeOf (64 * s + k) ++ i.dataOf (64 * s + k)) ++ i.sharedOf s

/-- The running copy of an image with the digest of each part (R109); the state outside the slices is that of the
remaining segments. -/
def Image.runCopy (i : Image) : RunCopy :=
  { image := i
    digests := (List.range 8).map (fun s => sha512 (i.slicePart s)) ++ [sha512 (i.payload 3),
      sha512 ((i.segs.filter (fun g => g.kind != 2 && g.kind != 3)).flatMap Seg.data)] }

/-- The checks of R111 on a schedule segment: its 64 records are those of its slice, each instruction image with its
placements within 16 KiB and data image within 64 KiB, none for supervisor and idle spindles (R86), and a shared memory
within 1 MiB. -/
def Image.scheduleOk (i : Image) (g : Seg) : Bool :=
  match codeRecords 64 g.data with
  | none => false
  | some (rs, shared) =>
    let idle (n : Nat) : Bool := i.spindleRole n == 4 || i.spindleRole n == 5
    rs.all (fun r => r.logical / 64 == g.slice && decide ((i.codeOf r.logical).length ≤ 16384 ∧ r.code.length ≤ 16384 ∧
      r.data.length ≤ 65536) && (!idle r.logical || (r.code.isEmpty && r.data.isEmpty))) &&
    decide ((rs.map CodeRec.logical).Nodup) && decide (shared.length ≤ 1048576)

/-- The library placements name a library of the image and stay within an instruction memory (R88, R111). -/
def Image.placementsOk (i : Image) : Bool :=
  i.placements.all (fun (p : Nat × Nat × Nat × Nat) =>
    decide (p.1 < i.libraries.length ∧ p.2.2.2 < 512 ∧ p.2.2.1 + (i.kernel p.1 p.2.1).length ≤ 16384))

/-- The duty of a logical spindle (R87). -/
def Image.dutyOf (i : Image) (n : Nat) : Nat := Config.allocDuty (slice (i.payload 1) (64 + 4 * n) 4)

/-- The reload plan of a slice (R87): each duty with the logical number of its MOVE target, or none for SUSPEND. -/
def Image.reloadPlan (i : Image) (s : Nat) : List (Nat × Option Nat) :=
  (Config.reloadPlan (i.sliceStructure s)).map (fun e =>
    (e.1, e.2.map (fun (t : Nat × Nat × Nat) => 64 * t.1 + 16 * t.2.1 + t.2.2)))

/-- The reload plan names a disposition for every duty of its slice (R106); an idle spindle has no duty. -/
def Image.planComplete (i : Image) (s : Nat) : Bool :=
  (List.range 64).all (fun k => i.spindleRole (64 * s + k) == 5 ||
    (i.reloadPlan s).any (fun e => e.1 == i.dutyOf (64 * s + k)))

/-- The dormant spindles on which the MOVE duties of a slice run during its reload (R107). -/
def Image.moveTargets (i : Image) (s : Nat) : List Nat := (i.reloadPlan s).filterMap (fun e => e.2)

/-- The spindles of a slice whose duty its plan suspends (R107). -/
def Image.suspended (i : Image) (s : Nat) : List Nat :=
  ((List.range 64).map (fun k => 64 * s + k)).filter (fun n =>
    !((i.reloadPlan s).any (fun e => e.1 == i.dutyOf n && e.2.isSome)))

/-- The spindle carries a dormant schedule (R87): the plan of some slice names it as a MOVE target. -/
def Image.dormant (i : Image) (n : Nat) : Bool := (List.range 8).any (fun s => (i.moveTargets s).contains n)

/-- The alternate allocation of a slice (R16, R87): the role and duty of its spindles, or none. -/
def Image.alternate (i : Image) (s : Nat) : Option (List (List Byte)) :=
  let l := Config.altAlloc (i.sliceStructure s)
  if l.isEmpty then none else some l

end Sys2Proof.Machine
end

