-- ==== Sys2Proof/Machine/Flags.lean ====
section
/-! DEFINITION. Sticky bits (R461): the trouble source of each (R462), how a trouble record names it (R465), and the
summary word. -/

namespace Sys2Proof.Machine

/-- The BLOCK, CODE and INSTANCE of a sticky bit, given by its bit address (8 × byte address + bit); none for a sticky
bit that is no source of R462. -/
def stickySource (a : Nat) : Option (Nat × Nat × Nat) :=
  let w := a / 32 * 4
  let n := a % 32
  if w = 0x10004 then some (0, n, 0)
  else if w = 0x50004 then some (1, n, 0)
  else if w = 0x60004 ∨ w = 0x61004 ∨ w = 0x62004 ∨ w = 0x63004 then
    some (2 + (w - 0x60004) / 0x1000, n, (w - 0x60004) / 0x1000)
  else if w = 0x64008 then some (6, n, 0)
  else if w = 0x70008 then some (7, n, 0)
  else if w = 0x70120 then some (7, 0x20 + n, 0)
  else if w = 0x40004 then some (8, n, 0)
  else if w = 0x80004 then some (9, n, 0)
  else if w = 0x90004 then some (10, n, 0)
  else if w = 0xA0004 then some (11, n, 0)
  else if w = 0xB0004 then some (12, n, 0)
  else if w = 0xC0004 then some (13, n, 0)
  else if w = 0xD002C then some (14, n, 0)
  else if w = 0xD102C then some (15, n, 1)
  else if w = 0xE0004 then some (16, n, 0)
  else if w = 0x20008 then some (17, n, 0)
  else if w = 0x00108 then some (18, n, 0)
  else if 0xA0100 ≤ w ∧ w < 0xA0300 then some (27, 0, a - 0xA0100 * 8)
  else if 0x1000000 ≤ w ∧ w < 0x1800000 then
    let s := (w - 0x1000000) / 0x100000
    let o := (w - 0x1000000) % 0x100000
    if o = 0x40000 then some (19 + s, n, s)
    else if o = 0x40020 ∨ o = 0x40024 then some (19 + s, 0x20, 64 * s + (a % 0x800000 - 0x40020 * 8))
    else none
  else none

/-- Whether any field with a key in [lo, hi) is not 0. -/
def Block.anyIn (b : Block) (lo hi : Nat) : Bool := b.regs.any (fun p => decide (lo ≤ p.1 ∧ p.1 < hi))

/-- Whether a register word holds a field that is not 0. -/
def Block.wordSet (b : Block) (addr : Nat) : Bool := b.anyIn (8 * addr) (8 * addr + 32)

/-- The bits of TRB_SUMMARY, source by source (R462). -/
def Block.sources (b : Block) : List Bool :=
  [b.wordSet 0x10004, b.wordSet 0x50004,
   b.wordSet 0x60004, b.wordSet 0x61004, b.wordSet 0x62004, b.wordSet 0x63004,
   b.flag R.LFE_NOTCH_STAT_NOTCH_REFUSED,
   b.wordSet 0x70008 || b.wordSet 0x70120,
   b.wordSet 0x40004, b.wordSet 0x80004, b.wordSet 0x90004, b.wordSet 0xA0004, b.wordSet 0xB0004, b.wordSet 0xC0004,
   b.wordSet 0xD002C, b.wordSet 0xD102C, b.wordSet 0xE0004, b.wordSet 0x20008,
   b.flag R.GLB_TICK_STAT_TICK_STEPPED] ++
  (List.range 8).map (fun s => b.wordSet (0x1040000 + 0x100000 * s) ||
    b.anyIn (8 * (0x1040020 + 0x100000 * s)) (8 * (0x1040028 + 0x100000 * s))) ++
  [b.get R.QMG_THR_STAT != 0]

/-- A list of truth values as a number, the first in bit 0. -/
def boolsToNat : List Bool → Nat
  | [] => 0
  | c :: cs => (if c then 1 else 0) + 2 * boolsToNat cs

/-- What TRB_SUMMARY follows (R462). -/
@[irreducible] def Block.summary (b : Block) : Nat := boolsToNat b.sources

/-- X2 pin 9 is driven by the trouble block while PIN_PLAN enables it (R60, R463): from M3 on, not in M9. -/
def Block.alertEnabled (b : Block) : Bool :=
  decide (3 ≤ b.mode ∧ b.mode ≠ 9) && (b.modl.pinPlan.getD 4 0).testBit 0

/-- ALERT_N follows TRB_SUMMARY (R463). -/
@[irreducible] def Block.driveAlert (b : Block) : Block :=
  if b.alertEnabled then
    let low := b.get R.TRB_SUMMARY &&& b.get R.TRB_ALERT_MASK != 0
    { b with modl := { b.modl with pins := Tab.set .z b.modl.pins 9 (if low then .low else .z) } }
  else b

/-- TRB_SUMMARY and ALERT_N follow the sticky bits (R462, R463). -/
@[irreducible] def Block.updateAlert (b : Block) : Block := (b.set R.TRB_SUMMARY b.summary).driveAlert

end Sys2Proof.Machine
end

