-- ==== Sys2Proof/Machine/QueueOps.lean ====
section
/-! DEFINITION. The queue manager's shared operations (R318–R343) and trouble records (R464–R467): room and admission,
commit, rewind, removal, threshold, forced reset, and the one way a sticky bit is set. -/

namespace Sys2Proof.Machine

/-- The cells of a packet of `l` bytes (R319). -/
def cellsOf (l : Nat) : Nat := if l ≤ 112 then 1 else 1 + ceilDiv (l - 112) 120

/-- The descriptor word of a packet (R321), after commit. -/
def Packet.descriptor (p : Packet) : Nat :=
  p.data.length % 65536 + 2 ^ 16 * (p.dest % 65536) + 2 ^ 32 * (p.tag % 65536) + 2 ^ 48 * (p.commit % 65536)

/-- A cell control word (R320). -/
def controlWord (next bytes : Nat) (sop eop dup bulk : Bool) : Nat :=
  next % 2 ^ 26 + 2 ^ 26 * (if dup then next % 2 ^ 26 else 0) + 2 ^ 52 * (bytes % 128) +
    2 ^ 59 * (if sop then 1 else 0) + 2 ^ 60 * (if eop then 1 else 0) + 2 ^ 61 * (if bulk then 1 else 0)

/-- The cells of a list of committed packets. -/
def pktCells (l : List Packet) : Nat := (l.map (fun p => cellsOf p.data.length)).sum

/-- The cells reserved for open packets of queue `n`. -/
def Block.openCells (b : Block) (n : Nat) : Nat :=
  ((b.queue.opened.filter (fun o => o.queue = n)).map (fun o => cellsOf o.maxLen)).sum

/-- FILL of a queue (R328): the cells of committed packets and those reserved for open ones. -/
def Block.fill (b : Block) (n : Nat) : Nat := pktCells (b.q n).pkts + b.openCells n

/-- The queue is absent (R337). -/
def Queue.absent (q : Queue) : Bool := q.capacity == 0

/-- The head packet may not be discarded to make room: it is being read or held (R329). -/
def Queue.headKept (q : Queue) : Bool := q.reading || q.headHeld

/-- The packets that remain when the oldest ones are discarded until `need` cells are free, and how many are
discarded; none when not even all of them suffice. -/
def evictList (free need : Nat) : List Packet → Option (List Packet × Nat)
  | [] => if need ≤ free then some ([], 0) else none
  | p :: ps =>
    if need ≤ free then some (p :: ps, 0)
    else
      match evictList (free + cellsOf p.data.length) need ps with
      | some (r, k) => some (r, k + 1)
      | none => none

/-- Lossy eviction (R329): the packets that stay and the number discarded. -/
def Queue.evict (q : Queue) (fill need : Nat) : Option (List Packet × Nat) :=
  let free := q.capacity - fill
  match q.headKept, q.pkts with
  | true, h :: t =>
    match evictList free need t with
    | some (r, k) => some (h :: r, k)
    | none => none
  | _, l => evictList free need l

/-- FILL crosses THRESH upward (R336). -/
def crosses (thresh before after : Nat) : Bool := decide (thresh ≠ 0 ∧ before < thresh ∧ thresh ≤ after)

/-- Records are written from M3 on, but not in M9 (R467). -/
def Block.recordsOn (b : Block) : Bool := decide (3 ≤ b.mode ∧ b.mode ≠ 9)

/-- A record is lost (R467). -/
def Block.dropRecord (b : Block) : Block := (b.set R.TRB_TROUBLE_REC_DROPPED 1).bump R.TRB_REC_DROP_COUNT

/-- The bytes of a trouble record (R465): 16, or 32 with extended detail. -/
def Block.recordBytes (b : Block) (block code inst detail : Nat) (ext : Option Nat) : List Byte :=
  leBytes (stamp64 b.now) 8 ++ leBytes block 1 ++ leBytes code 1 ++ leBytes inst 2 ++ leBytes detail 4 ++
    (match ext with
     | some e => leBytes e 8 ++ leBytes 0 8
     | none => [])

/-- Write one trouble record to queue 0x000 (R464–R467). The sticky bits that its own admission sets (LOST by eviction,
the threshold of queue 0x000) write a record each in turn; `fuel` bounds that chain, which each bit enters once. -/
def Block.record (fuel : Nat) (b : Block) (block code inst detail : Nat) (ext : Option Nat) : Block :=
  match fuel with
  | 0 => b.dropRecord
  | fuel + 1 =>
    if b.recordsOn then
      let q := b.q 0
      let data := b.recordBytes block code inst detail ext
      if q.absent then
        ((b.bump R.QMG_ABSENT_COUNT).set R.QMG_TROUBLE_ABSENT_WRITE 1).dropRecord
      else
        let before := b.fill 0
        match q.evict before (cellsOf data.length) with
        | none =>
          (((b.bump R.QMG_ADMIT_REFUSED_COUNT).modQ 0 (fun q => { q with refused := (q.refused + 1) % 2 ^ 64 })).set
            R.QMG_TROUBLE_ADMIT_REFUSED 1).dropRecord
        | some (kept, gone) =>
          let p : Packet := { dest := 0, tag := 0, commit := b.tickTag, data := data }
          let lostBefore := b.flag R.QMG_TROUBLE_LOST
          let thrBefore := b.bit R.QMG_THR_STAT 0
          let b1 := b.modQ 0 (fun q => { q with pkts := kept ++ [p], lost := (q.lost + gone) % 2 ^ 64 })
          let b2 := (((b1.add R.QMG_LOST_COUNT gone).bump R.QMG_COMMIT_COUNT).bump R.TRB_RECORD_COUNT)
          let b3 := if gone ≠ 0 ∧ lostBefore = false then
              Block.record fuel (b2.set R.QMG_TROUBLE_LOST 1) 11 1 0 0 none
            else b2
          if crosses q.thresh before (b1.fill 0) ∧ thrBefore = false then
            Block.record fuel (b3.raise R.QMG_THR_STAT 0) 27 0 0 0 none
          else b3
    else b.dropRecord

/-- Write a named trouble record (R466). -/
def Block.event (b : Block) (block code inst detail : Nat) (ext : Option Nat := none) : Block :=
  b.record 4 block code inst detail ext

/-- Set bit `i` of a sticky field (R461): a change from 0 to 1 writes one record (R464); a bit that is already 1 stays
and writes none. -/
def Block.stick (b : Block) (f : Field) (i : Nat := 0) : Block :=
  if b.bit f i then b
  else
    let b := b.raise f i
    match stickySource (f.key + i) with
    | some (block, code, inst) => b.event block code inst 0
    | none => b

/-- Count an event and set its sticky bit. -/
def Block.count (b : Block) (counter sticky : Field) : Block := (b.bump counter).stick sticky

/-- The queue's threshold fires when FILL has risen over it (R336). `before` is FILL at the start of the event. -/
def Block.fireThreshold (b : Block) (n before : Nat) : Block :=
  if crosses (b.q n).thresh before (b.fill n) then b.stick R.QMG_THR_STAT n else b

/-- The producer contexts of the internal producers (R323): MAC, time unit, serial movers, sensor unit, trouble
recorder, host register access; the custody context of channel c is 0x1000 + c; a route r is 16 + r. -/
def ctxMac : Nat := 0
def ctxTime : Nat := 1
def ctxSerial (k : Nat) : Nat := 2 + k
def ctxSensor : Nat := 4
def ctxHost : Nat := 6
def ctxCustody (c : Nat) : Nat := 0x1000 + c
def ctxRoute (k : Nat) : Nat := 16 + k

/-- Answer a producer (R325). -/
def Block.answer (b : Block) (ctx status : Nat) : Block :=
  { b with queue := { b.queue with status := Tab.set 15 b.queue.status ctx status } }

/-- The last status a producer context received; 15 is none. -/
def Block.statusOf (b : Block) (ctx : Nat) : Nat := Tab.get 15 b.queue.status ctx

/-- The open packet of a context. -/
def Block.openOf (b : Block) (ctx : Nat) : Option OpenPkt := b.queue.opened.find? (fun o => o.ctx = ctx)

/-- Close the open packet of a context: its reservation is gone. -/
def Block.dropOpen (b : Block) (ctx : Nat) : Block :=
  { b with queue := { b.queue with opened := b.queue.opened.filter (fun o => o.ctx ≠ ctx) } }

/-- A rewind of a context's open packet (R327), answered with `status` 6. -/
def Block.rewind (b : Block) (ctx : Nat) : Block :=
  match b.openOf ctx with
  | none => b
  | some o =>
    (((b.dropOpen ctx).bump R.QMG_REWIND_COUNT).modQ o.queue
      (fun q => { q with rewound := (q.rewound + 1) % 2 ^ 64 })).answer ctx 6

/-- Admission at the SOP word (R325, R328, R329, R337, R341). A context has at most one open packet (R323): DESIGN CHOICE, an
SOP word before the EOP word of an open one rewinds that one (assumption 135). -/
def Block.sop (b : Block) (ctx n maxLen dest tag : Nat) : Block :=
  let b := b.rewind ctx
  let n := n % 4096
  let q := b.q n
  let need := cellsOf maxLen
  let refuse (b : Block) : Block :=
    (((b.modQ n (fun q => { q with refused := (q.refused + 1) % 2 ^ 64 })).count R.QMG_ADMIT_REFUSED_COUNT
      R.QMG_TROUBLE_ADMIT_REFUSED).answer ctx 1)
  let enter (b : Block) : Block :=
    { b with queue := { b.queue with
        opened := b.queue.opened ++ [{ ctx := ctx, queue := n, maxLen := maxLen, dest := dest, tag := tag }] } }
  if q.absent then (b.count R.QMG_ABSENT_COUNT R.QMG_TROUBLE_ABSENT_WRITE).answer ctx 2
  else if q.refill ∧ ctx ≠ ctxCustody q.journal then
    (b.count R.QMG_REFILL_REFUSED_COUNT R.QMG_TROUBLE_REFILL_REFUSED).answer ctx 4
  else if q.bulk ∧ b.flag R.QMG_STAT_BULK_READY = false then refuse b
  else
    let before := b.fill n
    if before + need ≤ q.capacity then ((enter b).answer ctx 0).fireThreshold n before
    else if q.assured then refuse b
    else
      match q.evict before need with
      | none => refuse b
      | some (kept, gone) =>
        let b := b.modQ n (fun q => { q with pkts := kept, lost := (q.lost + gone) % 2 ^ 64 })
        let b := ((enter b).answer ctx 0).fireThreshold n before
        (b.add R.QMG_LOST_COUNT gone).stick R.QMG_TROUBLE_LOST

/-- More bytes than MAXLEN (R325 status 5): the packet is rewound. -/
def Block.lengthError (b : Block) (ctx : Nat) : Block :=
  match b.openOf ctx with
  | none => b
  | some o =>
    ((((b.dropOpen ctx).bump R.QMG_REWIND_COUNT).modQ o.queue
      (fun q => { q with rewound := (q.rewound + 1) % 2 ^ 64 })).count R.QMG_LENGTH_ERR_COUNT
        R.QMG_TROUBLE_LENGTH_ERR).answer ctx 5

/-- The EOP word (R326): the packet is committed behind the queue's tail. -/
def Block.eop (b : Block) (ctx : Nat) (data : List Byte) : Block :=
  match b.openOf ctx with
  | none => b
  | some o =>
    if o.maxLen < data.length then b.lengthError ctx
    else
      let p : Packet := { dest := o.dest, tag := o.tag, commit := b.tickTag, data := data }
      (((b.dropOpen ctx).modQ o.queue (fun q => { q with pkts := q.pkts ++ [p] })).bump R.QMG_COMMIT_COUNT).answer ctx 7

/-- One whole packet of an internal producer: SOP and EOP at once. `statusOf` then says what became of it. -/
def Block.put (b : Block) (ctx n dest tag : Nat) (data : List Byte) : Block :=
  let b := b.sop ctx n data.length dest tag
  if b.statusOf ctx = 0 then b.eop ctx data else b

/-- Remove the head packet; a release or a discard clears HEAD_FAILS and the hold (R332). -/
def Block.popHead (b : Block) (n : Nat) : Block :=
  b.modQ n (fun q => { q with pkts := q.pkts.tail, reading := false, headHeld := false, headFails := 0 })

/-- The count of committed packets for a destination in queues with PEND (R333). -/
def Block.pendingFor (b : Block) (dest : Nat) : Nat :=
  if 1 ≤ dest ∧ dest ≤ 0x3FFF then
    (b.queue.queues.map (fun e => if e.2.pend then (e.2.pkts.filter (fun p => p.dest = dest)).length else 0)).sum
  else 0

/-- The flush of R335: every committed packet goes, open packets stay. -/
def Block.flushNow (b : Block) (n : Nat) : Block :=
  ((b.add R.QMG_FLUSH_DROP_COUNT (b.q n).pkts.length).modQ n (fun q =>
    { q with pkts := [], reading := false, headHeld := false, headFails := 0, flushPending := false })).set
      R.QMG_CMD_STAT_PENDING (if b.queue.queues.any (fun e => e.1 != n && e.2.flushPending) then 1 else 0)

/-- The forced queue reset (R340); an assured queue with a journal enters REFILL (R341). -/
def Block.forceReset (b : Block) (n : Nat) : Block :=
  let q := b.q n
  let gone := q.pkts.length
  let owners := (b.queue.opened.filter (fun o => o.queue = n)).map (fun o => o.ctx)
  let b := b.forEach owners (fun b c => (b.dropOpen c).answer c 3)
  let b := if q.reading then b.emit (.reset n) else b
  let b := b.modQ n (fun q => { q with
    pkts := [], reading := false, headHeld := false, headFails := 0, flushPending := false,
    refill := q.assured && q.journal != 0xFFFF })
  let b := b.set R.QMG_CMD_STAT_PENDING (if b.queue.queues.any (fun e => e.2.flushPending) then 1 else 0)
  let b := (b.add R.QMG_RESET_LOST_COUNT gone).count R.QMG_FORCED_RESET_COUNT R.QMG_TROUBLE_FORCED_RESET
  b.event 11 0x82 n gone

/-- Open packets are rewound at every reset and at entry to M9 (R343). -/
def Block.rewindAll (b : Block) : Block := b.forEach (b.queue.opened.map (fun o => o.ctx)) Block.rewind

end Sys2Proof.Machine
end

