-- ==== Sys2Proof/Machine/Trouble.lean ====
section
/-! DEFINITION. Windowed fault counting and the class actions (R468–R472): spindle retirement and failure (R15, R16),
port failure, DDR4 device marks. -/

namespace Sys2Proof.Machine

/-- The slice of a logical spindle number (R13). -/
def sliceOf (n : Nat) : Nat := n / 64 % 8

/-- The cluster of a logical spindle number within its slice (R13). -/
def clusterOf (n : Nat) : Nat := n / 16 % 4

/-- Clear the valid flag of the buffers that a logical spindle is filling (R37, R38). -/
def Block.invalidate (b : Block) (n : Nat) : Block :=
  b.modSlice (sliceOf n) (fun s => if n ∈ s.fill then s else { s with fill := s.fill ++ [n] })

/-- The running image names an alternate allocation for slice `s` (R16, R87). -/
def Block.altStructure (b : Block) (s : Nat) : Bool :=
  match b.image.run with
  | some i => (i.alternate s).isSome
  | none => false

/-- Every spindle of slice `s`, as logical numbers. -/
def spindlesOf (s : Nat) : List Nat := (List.range 64).map (fun k => 64 * s + k)

/-- A lasting fault that the spare cannot hide (R16): the spindle is marked failed, and the alternate allocation is
applied or the slice stopped. -/
def Block.failSpindle (b : Block) (n : Nat) : Block :=
  let s := sliceOf n
  let b := (b.stick (R.SLC_SPINDLE_FAILED s) (n % 64)).invalidate n
  let b := b.modSlice s (fun x => { x with failed := x.failed ++ [n % 64] })
  let b := b.event 17 0x84 n s
  if b.altStructure s then b.modSlice s (fun x => { x with alternate := true })
  else (b.modSlice s (fun x => { x with stopped := true, fill := spindlesOf s })).stick R.TRB_TROUBLE_SLICE_STOPPED

/-- Retirement of a spindle (R15), or R16 when the slice's spare is in use. A spindle already being retired stays so
(R472). -/
def Block.retire (b : Block) (n : Nat) : Block :=
  let s := sliceOf n
  let x := b.sliceState s
  match x.spareLoad with
  | some (m, _) => if m = n then b else b.failSpindle n
  | none =>
    if n % 64 ∈ x.failed then b
    else if b.flag (R.SLC_SPARE_SPARE_USED s) then b.failSpindle n
    else
      ((b.modSlice s (fun x => { x with spareLoad := some (n, b.tick) })).invalidate n).stick
        R.TRB_TROUBLE_SPINDLE_RETIRED

/-- A port is failed (R470): its bit, its drivers, its links. -/
def Block.failPort (b : Block) (p : Nat) : Block :=
  let b := (b.raise R.TRB_PORT_FAILED p).stick R.TRB_TROUBLE_PORT_FAILED
  let b := (b.clear R.PWR_GATES_DRV_H (2 ^ p)).clear R.LFE_L_SEL (2 ^ p)
  let b := ((b.set (R.LFE_STAT_TX_ACTIVE_H p) 0).set (R.LFE_STAT_TX_ACTIVE_L p) 0)
  { b with mesh := { b.mesh with reportDue := true } }

/-- A DDR4 device is marked (R471). -/
def Block.markDdr (b : Block) (d : Nat) : Block := (b.raise R.TRB_DDR_MARKED d).stick R.TRB_TROUBLE_DDR_MARKED

/-- The slice is under a live reload or a slice reset (R110): lasting faults of its spindles wait for its end. -/
def Block.underReload (b : Block) (s : Nat) : Bool :=
  match b.image.job with
  | .reloadRunning t _ _ => t == s
  | _ => false

/-- The class action of R469. -/
def Block.classAction (b : Block) (cls inst : Nat) : Block :=
  if cls ≤ 2 then
    if b.underReload (sliceOf inst) then
      b.modSlice (sliceOf inst) (fun x => { x with pendingFaults := x.pendingFaults ++ [(cls, inst)] })
    else b.retire inst
  else if cls = 3 then b.failPort inst
  else if cls = 4 then b.markDdr inst
  else (b.forceReset inst).stick R.TRB_TROUBLE_QUEUE_FAULT_RESET

/-- The window of an instance is closed (R468). -/
def Block.closeWindow (b : Block) (cls inst : Nat) : Block :=
  { b with trouble := { b.trouble with windows := b.trouble.windows.filter (fun w => ¬(w.cls = cls ∧ w.inst = inst)) } }

/-- A class action that waits for the next tick boundary (R469, uncorrectable spindle memory error). -/
def Block.deferAction (b : Block) (cls inst : Nat) : Block :=
  b.modSlice (sliceOf inst) (fun x => { x with pendingFaults := x.pendingFaults ++ [(cls, inst)] })

/-- A lasting fault (R468): the class action, the sticky bit, counter and TRB_LAST_FAULT, the record, the window
closed. -/
def Block.lasting (b : Block) (cls inst n : Nat) (action : Block → Nat → Nat → Block := Block.classAction) : Block :=
  let b := action b cls inst
  let b := b.count R.TRB_LASTING_COUNT R.TRB_TROUBLE_LASTING
  let b := ((b.set R.TRB_LAST_FAULT_CLASS cls).set R.TRB_LAST_FAULT_INSTANCE inst).set R.TRB_LAST_FAULT_TICK_TAG b.tickTag
  let b := b.event 17 0x80 inst (cls + 256 * (n % 2 ^ 24))
  b.closeWindow cls inst

/-- One error of a class and instance, counted in its window (R468). -/
def Block.fault (b : Block) (cls inst : Nat) : Block :=
  let found := b.trouble.windows.find? (fun w => w.cls = cls ∧ w.inst = inst)
  let w : FaultWindow :=
    match found with
    | some w => { w with count := w.count + 1 }
    | none => { cls := cls, inst := inst, count := 1, openTick := b.tick, window := b.trouble.clsWindow.getD cls 0,
                thresh := b.trouble.clsThresh.getD cls 0 }
  if w.window = 0 then b
  else if w.thresh < w.count then b.lasting cls inst w.count
  else
    let b := b.closeWindow cls inst
    { b with trouble := { b.trouble with windows := b.trouble.windows ++ [w] } }

/-- The windows of a slice's spindles start afresh (R110, R472). -/
def Block.clearSliceWindows (b : Block) (s : Nat) : Block :=
  { b with trouble := { b.trouble with
      windows := b.trouble.windows.filter (fun w => ¬(w.cls ≤ 2 ∧ sliceOf w.inst = s)) } }

/-- The deferred class actions of slice `s` are taken, unless its reload still runs (R110, R469). -/
def Block.takeDeferred (b : Block) (s : Nat) : Block :=
  if b.underReload s then b
  else
    let l := (b.sliceState s).pendingFaults
    (b.modSlice s (fun x => { x with pendingFaults := [] })).forEach l (fun b e => b.classAction e.1 e.2)

/-- The outputs that stay invalid beyond one tick (R15, R16, R107, R454, R501), as logical spindle numbers. -/
def SliceState.lastingInvalid (x : SliceState) (s : Nat) : List Nat :=
  if x.held ∨ x.stopped ∨ x.asleep then spindlesOf s
  else
    let l := (x.failed ++ x.halted).map (fun p => 64 * s + p)
    match x.spareLoad with
    | some (n, _) => if l.contains n then l else l ++ [n]
    | none => l

/-- A word of a halted spindle that a debug window knows belongs to the spindle with physical index `p`. -/
def dbgOf (p key : Nat) : Bool := key / 2 ^ 20 == p

/-- The memories of some spindles (physical indices) are loaded (R100): what a debug window has written is gone, data memory is
as loaded, and the spindle starts at its tick entry point. -/
def SliceState.load (x : SliceState) (l : List Nat) : SliceState :=
  { x with
    loaded := x.loaded.filter (fun p => !l.contains p) ++ l
    atEntry := x.atEntry.filter (fun p => !l.contains p)
    dbg := x.dbg.filter (fun e => !l.any (fun p => dbgOf p e.1)) }

/-- The memories of a whole slice are loaded, its shared memory and its spare's, if in use, among them (R100, R107, R110). -/
def Block.loadSlice (b : Block) (s : Nat) : Block :=
  let l := if b.flag (R.SLC_SPARE_SPARE_USED s) then List.range 65 else List.range 64
  b.modSlice s (fun x => { x.load l with sharedLoaded := true })

/-- The spare starts (R14, R15) at the first block boundary that follows its load from the image: it takes over the logical
number with a closed window, and its outputs are valid. -/
def Block.spareStart (b : Block) (s : Nat) : Block :=
  match (b.sliceState s).spareLoad with
  | none => b
  | some (n, t) =>
    if b.tick % 25 = 0 ∧ t < b.tick then
      let b := b.modSlice s (fun x => { x.load [64] with spareLoad := none, fill := x.fill.filter (fun m => m ≠ n) })
      let b := (b.set (R.SLC_SPARE_SPARE_USED s) 1).set (R.SLC_SPARE_SPARE_FOR s) n
      ((b.closeWindow 0 n).closeWindow 1 n).closeWindow 2 n
    else b

/-- A corrected error in a spindle's memory (R469 class 2), counted in its cluster (R501); or an uncorrectable one,
which invalidates the tick's output and is a lasting fault at once. -/
def Block.memoryError (b : Block) (n : Nat) (corrected : Bool) : Block :=
  if corrected then
    (b.bump (R.CLC_MEM_CORR_COUNT (sliceOf n) (clusterOf n))).fault 2 n
  else
    let count := match b.trouble.windows.find? (fun w => w.cls = 2 ∧ w.inst = n) with
      | some w => w.count
      | none => 0
    (b.invalidate n).lasting 2 n (count + 1) Block.deferAction

end Sys2Proof.Machine
end

