-- ==== Sys2Proof/Machine/Queue.lean ====
section
/-! DEFINITION. The queue manager's commands (R325–R341, R344). -/

namespace Sys2Proof.Machine

/-- How a packet is rewound (R327): a BAD word, an invalid buffer or a reset of the producer's slice answers status 6;
a length overrun answers status 5. -/
def Block.rewindFor (b : Block) (ctx : Nat) (overrun : Bool) : Block := if overrun then b.lengthError ctx else b.rewind ctx

/-- RELEASE of a HOLD head packet (R331). -/
def Block.release (b : Block) (n : Nat) : Block := if (b.q n).hold && (b.q n).pkts.length != 0 then b.popHead n else b

/-- REREAD of a HOLD head packet (R329, R331): it stays, still counts as being read, and is read again from its
descriptor. -/
def Block.reread (b : Block) (n : Nat) : Block :=
  if (b.q n).hold then b.modQ n (fun q => { q with reading := q.pkts.length != 0 }) else b

/-- FAIL of a HOLD head packet (R331, R332): a lossy packet goes; an assured one is held, and discarded at FAIL_MAX. -/
def Block.failHead (b : Block) (n : Nat) : Block :=
  let q := b.q n
  match q.pkts with
  | [] => b
  | p :: _ =>
    if !q.hold then b
    else if q.assured then
      let fails := q.headFails + 1
      let b := b.bump R.QMG_HEAD_FAIL_COUNT
      if q.failMax ≠ 0 ∧ q.failMax ≤ fails then
        let b := (b.popHead n).count R.QMG_HEAD_DISCARD_COUNT R.QMG_TROUBLE_HEAD_DISCARD
        b.event 11 0x81 n fails (some p.descriptor)
      else b.modQ n (fun q => { q with reading := false, headHeld := true, headFails := min 255 fails })
    else
      let b := (b.popHead n).modQ n (fun q => { q with lost := (q.lost + 1) % 2 ^ 64 })
      (b.bump R.QMG_LOST_COUNT).stick R.QMG_TROUBLE_LOST

/-- A consumer reads the head packet of queue `n` (R330, R331): EMPTY for an empty or absent queue; else the packet,
which a queue without HOLD gives up and a HOLD queue keeps until its ending. An ECC error needs WORD_ECC, a pointer
mismatch PTR_DUP; a reset that an error forces ends the read with RESET (R340). -/
def Block.readHead (b : Block) (n : Nat) (check : ReadCheck) : Block :=
  let n := n % 4096
  let q := b.q n
  match q.pkts with
  | [] => b.emit (.empty n)
  | p :: _ =>
    let give (b : Block) : Block :=
      let b := b.emit (.packet n p.dest p.tag p.commit p.data)
      if q.hold then b.modQ n (fun q => { q with reading := true }) else b.popHead n
    let hold (b : Block) : Block := b.modQ n (fun q => { q with reading := true })
    match check with
    | .good => give b
    | .corrected =>
      if q.wordEcc then
        let b := b.modQ n (fun q => { q with reading := true, corrected := (q.corrected + 1) % 2 ^ 64 })
        let b := (b.count R.QMG_CORR_COUNT R.QMG_TROUBLE_CORRECTED).fault 5 n
        if (b.q n).reading then give b else b
      else give b
    | .uncorrectable =>
      if q.wordEcc then
        let b := (hold b).count R.QMG_UNCORR_COUNT R.QMG_TROUBLE_UNCORRECTED
        let b := if q.bulk then b.bump R.TRB_DDR_UNCORR_COUNT else b
        if q.assured then b.forceReset n
        else
          let b := (b.popHead n).modQ n (fun q => { q with lost := (q.lost + 1) % 2 ^ 64 })
          (b.bump R.QMG_LOST_COUNT).stick R.QMG_TROUBLE_LOST
      else give b
    | .pointers =>
      if q.ptrDup then ((hold b).count R.QMG_PTR_MISMATCH_COUNT R.QMG_TROUBLE_PTR_MISMATCH).forceReset n else give b

/-- QMG_CMD FLUSH (R335): an assured queue only in M10; at once, or when the packet being read ends. -/
def Block.flushCmd (b : Block) (n : Nat) : Block :=
  let n := n % 4096
  let q := b.q n
  if q.assured ∧ b.mode ≠ 10 then (b.set R.QMG_CMD_STAT_REFUSED 1).stick R.QMG_TROUBLE_FLUSH_REFUSED
  else
    let b := b.set R.QMG_CMD_STAT_REFUSED 0
    if q.reading then (b.modQ n (fun q => { q with flushPending := true })).set R.QMG_CMD_STAT_PENDING 1
    else b.flushNow n

/-- The flush point of a pending flush (R335). -/
def Block.flushPoint (b : Block) (n : Nat) : Block :=
  if (b.q (n % 4096)).flushPending then b.flushNow (n % 4096) else b

/-- QMG_CMD FORCE_RESET (R340): in M10 only. -/
def Block.forceResetCmd (b : Block) (n : Nat) : Block :=
  if b.mode = 10 then (b.set R.QMG_CMD_STAT_REFUSED 0).forceReset (n % 4096)
  else b.set R.QMG_CMD_STAT_REFUSED 1

end Sys2Proof.Machine
end

