-- ==== Sys2Proof/Machine/Wave.lean ====
section
/-! DEFINITION. The waveform bit for bit (R151–R180): constellations, channel and scrambling sequences, header and mode
word, LDPC codes, CRCs, repetition, streams, segments; and the airtime of a transmission. -/

namespace Sys2Proof.Machine

/-- The fields of a PHY mode word (R166). -/
def modeProfile (w : Nat) : Nat := bits w 0 3
def modeMod (w : Nat) : Nat := bits w 3 2
def modeExp (w : Nat) : Nat := bits w 5 4
def modeRate (w : Nat) : Nat := bits w 9 3
def modeRep (w : Nat) : Nat := 2 ^ bits w 12 2
def modeStreams (w : Nat) : Nat := bits w 14 2 + 1

/-- A mode word from its fields. -/
def modeWord (profile mod e rate rep streams : Nat) : Nat :=
  profile + 2 ^ 3 * mod + 2 ^ 5 * e + 2 ^ 9 * rate + 2 ^ 12 * rep + 2 ^ 14 * streams

/-- A profile is Band L (R151). -/
def profileL (p : Nat) : Bool := decide (4 ≤ p)

/-- The chip period of a profile in 1/64 ns (R151). -/
def chipPeriod (p : Nat) : Nat :=
  match p with
  | 0 => 625
  | 1 => 1250
  | 2 => 2500
  | 3 => 5000
  | 4 => 1600000
  | _ => 256000

/-- The chip rate of a profile, chips per second (R151). -/
def chipRate (p : Nat) : Nat :=
  match p with
  | 0 => 102400000
  | 1 => 51200000
  | 2 => 25600000
  | 3 => 12800000
  | 4 => 40000
  | _ => 250000

/-- Bits per symbol of a modulation (R152). -/
def modBits (m : Nat) : Nat := m + 1

/-- The numerator and denominator of an LDPC rate (R166). -/
def rateNum (r : Nat) : Nat := match r with | 0 => 1 | 1 => 2 | 2 => 3 | _ => 5
def rateDen (r : Nat) : Nat := match r with | 0 => 2 | 1 => 3 | 2 => 4 | _ => 6

/-- The phase of a symbol in 45° steps; a BPSK symbol is at 0 or 4, a QPSK symbol at an odd step (R153). -/
def symbolPhase : List Bool → Nat
  | [b0] => if b0 then 4 else 0
  | [b0, b1] => match b0, b1 with
    | false, false => 1
    | true, false => 3
    | true, true => 5
    | false, true => 7
  | [b0, b1, b2] => match b0, b1, b2 with
    | false, false, false => 0
    | false, false, true => 1
    | false, true, true => 2
    | false, true, false => 3
    | true, true, false => 4
    | true, true, true => 5
    | true, false, true => 6
    | true, false, false => 7
  | _ => 0

/-- A chip of the channel sequence C(2^e, i) (R155): whether chip `q` is −1. -/
def channelChip : Nat → Nat → Nat → Bool
  | 0, _, _ => false
  | e + 1, i, q => xor (channelChip e (i / 2) (q % 2 ^ e)) (i % 2 == 1 && decide (2 ^ e ≤ q))

/-- The two registers of the scrambling sequence after one chip (R156). -/
def goldNext (a b : Nat) : Nat × Nat :=
  let fa := (a + a / 2 ^ 5) % 2
  let fb := (b + b / 2 ^ 5 + b / 2 ^ 11 + b / 2 ^ 17) % 2
  (a / 2 + 2 ^ 22 * fa, b / 2 + 2 ^ 22 * fb)

/-- The first `n` scrambling bits from two register states. -/
def goldFrom : Nat → Nat → Nat → List Bool
  | 0, _, _ => []
  | n + 1, a, b =>
    let (a', b') := goldNext a b
    (a % 2 != b % 2) :: goldFrom n a' b'

/-- The first `n` bits of the scrambling sequence of index `g` (R156). -/
def goldBits (g n : Nat) : List Bool := goldFrom n 1 (g % 2 ^ 13)

/-- The payload scrambling index of a network (R157). -/
def netScramble (net : Nat) : Nat := 1 + net % 8191

/-- The Walsh cover of stream `s` (R159): whether repetition `r` is negated; the sync word is negated for every
stream. -/
def cover (s r : Nat) : Bool :=
  match s with
  | 1 => r % 2 == 1
  | 2 => r % 4 == 2 || r % 4 == 3
  | 3 => r % 4 == 1 || r % 4 == 2
  | _ => false

/-- The bits of a byte string in transmission order (R4): bit 0 of the first byte first. -/
def bitsOf : List Byte → List Bool
  | [] => []
  | b :: l => (List.range 8).map (fun i => b.getLsbD i) ++ bitsOf l

/-- `n` bits of a number, bit 0 first. -/
def natBits (v n : Nat) : List Bool := (List.range n).map (fun i => v.testBit i)

/-- One step of the CRC-16 of R163. -/
def crc16Step (c : Nat) (b : Bool) : Nat :=
  let top := xor (c.testBit 15) b
  ((2 * c) % 65536) ^^^ (if top then 0x1021 else 0)

/-- The CRC-16 of R163 over bits in transmission order. -/
def crc16 (l : List Bool) : Nat := l.foldl crc16Step 0xFFFF

/-- The CRC as it stands in a header: the coefficient of x¹⁵ in the lowest bit. -/
def crcField (c : Nat) : Nat := ((List.range 16).map (fun i => if c.testBit (15 - i) then 2 ^ i else 0)).sum

/-- One step of the CRC-32 of R171, bit-reflected. -/
def crc32Step (c : Nat) (b : Bool) : Nat :=
  let low := xor (c.testBit 0) b
  (c / 2) ^^^ (if low then 0xEDB88320 else 0)

/-- The CRC-32 of R171 over a payload. -/
def crc32 (l : List Byte) : Nat := (bitsOf l).foldl crc32Step 0xFFFFFFFF ^^^ 0xFFFFFFFF

/-- Bits 0 to 239 of a header (R162); reserved bits are transmitted as 0. -/
def Header.word (h : Header) : Nat :=
  h.ftype % 16 + 2 ^ 4 * (h.mode % 2 ^ 16) + 2 ^ 20 * (h.len % 2 ^ 13) + 2 ^ 33 * (h.net % 2 ^ 16) +
    2 ^ 49 * (h.dst % 2 ^ 16) + 2 ^ 65 * (h.src % 2 ^ 16) + 2 ^ 81 * (h.ctr % 2 ^ 32) +
    2 ^ 113 * (if h.pending then 1 else 0) + 2 ^ 114 * (if h.ackReq then 1 else 0) +
    2 ^ 115 * (if h.sec then 1 else 0) + 2 ^ 116 * (h.epoch % 16) + 2 ^ 120 * (h.margin % 256) +
    2 ^ 128 * (h.span % 16) + 2 ^ 132 * (h.cls % 4) + 2 ^ 134 * (h.hop % 32) +
    2 ^ 176 * (if h.ftype = 4 then h.timing % 2 ^ 64 else 0)

/-- The 32 bytes of a header with its CRC (R162, R163). -/
def Header.encode (h : Header) : List Byte :=
  leBytes h.word 30 ++ leBytes (crcField (crc16 (natBits h.word 240))) 2

/-- The header of 32 received bytes (R162); reserved fields are ignored (R5). -/
def Header.decode (l : List Byte) : Header :=
  let w := leAt l 0 30
  { ftype := bits w 0 4, mode := bits w 4 16, len := bits w 20 13, net := bits w 33 16, dst := bits w 49 16,
    src := bits w 65 16, ctr := bits w 81 32, pending := w.testBit 113, ackReq := w.testBit 114, sec := w.testBit 115,
    epoch := bits w 116 4, margin := bits w 120 8, span := bits w 128 4, cls := bits w 132 2, hop := bits w 134 5,
    timing := if bits w 0 4 = 4 then bits w 176 64 else 0 }

/-- The CRC of a received header passes (R163). -/
def headerCrcOk (l : List Byte) : Bool := leAt l 30 2 == crcField (crc16 (natBits (leAt l 0 30) 240))

/-- The first rule a header breaks (R165, R182), given the profile of the port and band it arrived on and whether it came
in a collect slot; 0 is none. Where several apply the lowest cause is reported (assumption 30). -/
def headerCause (h : Header) (profile : Nat) (collect : Bool) : Nat :=
  let p := modeProfile h.mode
  let isL := profileL p
  if 8 ≤ h.ftype then 1
  else if 6 ≤ p ∨ modeMod h.mode = 3 ∨ 4 ≤ modeRate h.mode then 2
  else if 13 ≤ modeExp h.mode then 3
  else if isL ∧ (8 < modeExp h.mode ∨ 1 < modeStreams h.mode) then 4
  else if 4096 < h.len ∨ ((h.ftype = 2 ∨ h.ftype = 6) ∧ h.len ≠ 0) then 5
  else if 2 ≤ h.cls ∨ (h.cls = 0 ∧ h.ftype ≠ 1) then 6
  else if 8 < h.span ∨ (h.span ≠ 0 ∧ (h.cls = 1 ∨ h.len = 0 ∨ h.ftype ≠ 1)) then 7
  else if p ≠ profile then 8
  else if collect ∧ (isL ∨ modeExp h.mode < 8 ∨ 10 < modeExp h.mode ∨ 1 < modeStreams h.mode) then 9
  else 0

/-- A follow-on header (R174). -/
structure FollowOn where
  len : Nat
  ctr : Nat
  ackReq : Bool
  sec : Bool
  epoch : Nat
  more : Bool
  deriving DecidableEq, Repr

/-- Bits 0 to 63 of a follow-on header. -/
def FollowOn.word (f : FollowOn) : Nat :=
  f.len % 2 ^ 13 + 2 ^ 13 * (f.ctr % 2 ^ 32) + 2 ^ 45 * (if f.ackReq then 1 else 0) +
    2 ^ 46 * (if f.sec then 1 else 0) + 2 ^ 47 * (f.epoch % 16) + 2 ^ 51 * (if f.more then 1 else 0)

/-- The 10 bytes of a follow-on header with its CRC. -/
def FollowOn.encode (f : FollowOn) : List Byte :=
  leBytes f.word 8 ++ leBytes (crcField (crc16 (natBits f.word 64))) 2

/-- The follow-on header of 10 received bytes. -/
def FollowOn.decode (l : List Byte) : FollowOn :=
  let w := leAt l 0 8
  { len := bits w 0 13, ctr := bits w 13 32, ackReq := w.testBit 45, sec := w.testBit 46, epoch := bits w 47 4,
    more := w.testBit 51 }

/-- The CRC of a received follow-on header passes. -/
def followCrcOk (l : List Byte) : Bool := leAt l 8 2 == crcField (crc16 (natBits (leAt l 0 8) 64))

/-- A circulant of size `z` with shift `p` applied to a block of bits: bit i is bit (i + p) mod z (R169). -/
def rotBlock (z p u : Nat) : Nat := (u / 2 ^ (p % z) + u * 2 ^ (z - p % z)) % 2 ^ z

/-- The block rows of a rate (R169). -/
def ldpcRows (rate : Nat) : Nat := match rate with | 0 => 12 | 1 => 8 | 2 => 6 | _ => 4

/-- The information part of parity row `r` (R169). -/
def ldpcRow (z mb w r : Nat) (info : List Nat) : Nat :=
  (info.zipIdx.map (fun e =>
    if (r + e.2) % mb < w then rotBlock z (17 * r * (2 * e.2 + 1) + 5 * e.2 * e.2) e.1 else 0)).foldl (· ^^^ ·) 0

/-- The parity columns kb + 1 to 23, given the column before. -/
def ldpcParity (mb p0 : Nat) : Nat → Nat → List Nat → List Nat
  | _, _, [] => []
  | r, prev, x :: l =>
    let next := x ^^^ prev ^^^ (if r = mb / 2 then p0 else 0)
    next :: ldpcParity mb p0 (r + 1) next l

/-- The codeword's block columns (R169, R170): systematic, then parity. -/
def ldpcBlocks (z rate : Nat) (info : List Nat) : List Nat :=
  let mb := ldpcRows rate
  let w := if rate ≤ 1 then 4 else 3
  let rows := (List.range mb).map (fun r => ldpcRow z mb w r info)
  let p0 := rows.foldl (· ^^^ ·) 0
  let p1 := rows.getD 0 0 ^^^ rotBlock z 1 p0
  info ++ [p0, p1] ++ ldpcParity mb p0 1 p1 ((rows.drop 1).take (mb - 2))

/-- Cut bits into numbers of `z` bits, bit 0 first. -/
def packBlocks (z : Nat) : Nat → List Bool → List Nat
  | 0, _ => []
  | n + 1, l =>
    ((l.take z).zipIdx.map (fun e => if e.1 then 2 ^ e.2 else 0)).sum :: packBlocks z n (l.drop z)

/-- Encode one block (R170): the transmitted bits of `info`, filled up with fillers that are not transmitted. -/
def ldpcEncode (z rate : Nat) (info : List Bool) : List Bool :=
  let kb := 24 - ldpcRows rate
  let full := info ++ List.replicate (kb * z - info.length) false
  info ++ ((ldpcBlocks z rate (packBlocks z kb full)).drop kb).flatMap (fun v => natBits v z)

/-- The header's 544 transmitted bits (R170). -/
def headerBits (l : List Byte) : List Bool := ldpcEncode 24 0 (bitsOf l)

/-- The follow-on header's 368 transmitted bits (R174). -/
def followBits (l : List Byte) : List Bool := ldpcEncode 24 0 (bitsOf l)

/-- Information bits of a payload block (R171). -/
def blockInfo (rate : Nat) : Nat := 2304 * rateNum rate / rateDen rate

/-- The number of payload blocks and whether they are the short block (R171). -/
def payloadBlocks (rate len : Nat) : Nat :=
  if len = 0 then 0 else if 8 * (len + 4) ≤ 288 then 1 else ceilDiv (8 * (len + 4)) (blockInfo rate)

/-- The transmitted bits of a payload block `b`, before repetition. -/
def blockSent (rate len b : Nat) : Nat :=
  let k := 8 * (len + 4)
  if k ≤ 288 then 288 + k
  else
    let n := payloadBlocks rate len
    let f := n * blockInfo rate - k
    2304 - (f / n + if b < f % n then 1 else 0)

/-- Copies of a block (R172). -/
def repeatBlock (rep : Nat) (cw : List Bool) : List Bool :=
  let step := ceilDiv cw.length rep
  (List.range rep).flatMap (fun r => cw.rotateLeft (r * step))

/-- Encode the payload blocks from block `b` on. -/
def encodeBlocks (rate len : Nat) : Nat → Nat → List Bool → List (List Bool)
  | 0, _, _ => []
  | n + 1, b, l =>
    let take := blockInfo rate - (2304 - blockSent rate len b)
    ldpcEncode 96 rate (l.take take) :: encodeBlocks rate len n (b + 1) (l.drop take)

/-- The repeated bits of a payload (R171, R172). -/
def payloadBits (mode : Nat) (payload : List Byte) : List Bool :=
  if payload.isEmpty then []
  else
    let info := bitsOf (payload ++ leBytes (crc32 payload) 4)
    let rate := modeRate mode
    let blocks :=
      if info.length ≤ 288 then [ldpcEncode 24 0 info]
      else encodeBlocks rate payload.length (payloadBlocks rate payload.length) 0 info
    blocks.flatMap (repeatBlock (modeRep mode))

/-- The number of repeated bits of a payload of `len` bytes. -/
def payloadBitCount (mode len : Nat) : Nat :=
  modeRep mode * ((List.range (payloadBlocks (modeRate mode) len)).map (blockSent (modeRate mode) len)).sum

/-- Deal bits to `g` segments (R178). -/
def dealBits (g : Nat) (l : List Bool) : List (List Bool) :=
  (List.range g).map (fun k => (l.zipIdx.filter (fun e => e.2 % g = k)).map (fun e => e.1))

/-- The chips of `n` bits of a mode, padded to whole symbols of all streams (R173). -/
def bitChips (mode n : Nat) : Nat := ceilDiv n (modBits (modeMod mode) * modeStreams mode) * 2 ^ modeExp mode

/-- Chips of preamble and sync word with `reps` preamble repetitions, without ramps (R158). -/
def preambleChips (isL : Bool) (reps : Nat) : Nat := (reps + 1) * (if isL then 128 else 1024)

/-- Chips of both ramps (R121). -/
def rampChips (isL : Bool) : Nat := if isL then 8 else 64

/-- Chips of the header: spreading 64, 16 in Band L, or the payload's in a collect slot (R158, R161). -/
def headerChips (mode : Nat) (collect : Bool) : Nat :=
  544 * (if collect then 2 ^ modeExp mode else if profileL (modeProfile mode) then 16 else 64)

/-- The airtime of a transmission in chips, ramps included: its first segment and each continuation segment. `lens` are
the payload lengths of the frame and its follow-on frames. -/
def frameChips (mode span : Nat) (collect : Bool) (lens : List Nat) : List Nat :=
  let isL := profileL (modeProfile mode)
  let total := (lens.map (payloadBitCount mode)).sum + modeRep mode * 368 * (lens.length - 1)
  let seg (k : Nat) : Nat := if span ≤ 1 then total else (total - k + span - 1) / span
  let first := rampChips isL + preambleChips isL 8 + headerChips mode collect + bitChips mode (seg 0)
  first :: (List.range (span - 1)).map (fun k => rampChips isL + preambleChips isL 2 + bitChips mode (seg (k + 1)))

/-- The airtime of a transmission in ns, rounded up. -/
def airtime (mode span : Nat) (collect : Bool) (lens : List Nat) : Nat :=
  ceilDiv ((frameChips mode span collect lens).sum * chipPeriod (modeProfile mode)) 64

/-- The PHY rate of a mode (R168), in bits per second, as a numerator over a denominator. -/
def phyRate (mode : Nat) : Nat × Nat :=
  (chipRate (modeProfile mode) * modBits (modeMod mode) * rateNum (modeRate mode) * modeStreams mode,
   2 ^ modeExp mode * rateDen (modeRate mode) * modeRep mode)

end Sys2Proof.Machine
end

