-- ==== Sys2Proof/Machine/Chips.lean ====
section
/-! DEFINITION. The chips of a transmission (R151–R161, R173, R177, R178): symbols, spreading and scrambling, preamble, sync
word, header and payload of each stream, as carrier phases in steps of 45°. A chip of phase k is the carrier
cos(ωt + k · 45°): its in-phase part on the cosine, its quadrature part on the negative sine (R151). -/

namespace Sys2Proof.Machine

/-- A factor −1 turns a phase by 180°. -/
def turn (neg : Bool) (p : Nat) : Nat := if neg then (p + 4) % 8 else p

/-- A channel sequence C(2^e, i) (R155): which of its chips are −1. -/
def channelSeq (e i : Nat) : List Bool := (List.range (2 ^ e)).map (channelChip e i)

/-- Bits padded with zeros to a whole multiple of `n` (R173). -/
def padTo (n : Nat) (l : List Bool) : List Bool := l ++ List.replicate (ceilDiv l.length n * n - l.length) false

/-- The first `n` symbols of `m` bits each (R152, R153). -/
def symbolsOf (m : Nat) : Nat → List Bool → List Nat
  | 0, _ => []
  | n + 1, l => symbolPhase (l.take m) :: symbolsOf m n (l.drop m)

/-- The symbols of bits in a mode, of all streams (R152, R173). -/
def modeSymbols (mode : Nat) (l : List Bool) : List Nat :=
  let m := modBits (modeMod mode)
  let s := m * modeStreams mode
  symbolsOf m (ceilDiv l.length s * modeStreams mode) (padTo s l)

/-- Symbol j goes to stream j mod S (R173). -/
def streamOf (n s : Nat) (l : List Nat) : List Nat := (l.zipIdx.filter (fun e => e.2 % n = s)).map (fun e => e.1)

/-- Symbols times a channel sequence times the scrambling sequence of index `g`, from n = 0 on (R154). -/
def spread (seq : List Bool) (g : Nat) (syms : List Nat) : List Nat :=
  List.zipWith (fun p c => turn c p) (syms.flatMap (fun p => seq.map (fun c => turn c p)))
    (goldBits g (syms.length * seq.length))

/-- The chips of one repetition of the preamble sequence (R158), in a collect slot times C(SF, i) (R161). -/
def preambleSeq (isL : Bool) (code : Option (Nat × Nat)) : List Nat :=
  let p := if isL then 128 else 1024
  let base := (goldBits 0 p).map (fun c => turn c 0)
  match code with
  | some (e, i) =>
    List.zipWith (fun x c => turn c x) base ((List.replicate (p / 2 ^ e) (channelSeq e i)).flatten)
  | none => base

/-- `reps` covered repetitions and the inverted sync word of a stream (R158, R159, R161). -/
def preamblePart (isL : Bool) (code : Option (Nat × Nat)) (stream reps : Nat) : List Nat :=
  let seq := preambleSeq isL code
  ((List.range reps).flatMap (fun r => seq.map (turn (cover stream r)))) ++ seq.map (turn true)

/-- The channel sequence of a stream's header (R155, R161). -/
def headerSeq (isL : Bool) (code : Option (Nat × Nat)) (stream : Nat) : List Bool :=
  match code with
  | some (e, i) => channelSeq e i
  | none => if isL then channelSeq 4 0 else channelSeq 6 stream

/-- The header's chips of a stream (R157, R158). -/
def headerPart (isL : Bool) (code : Option (Nat × Nat)) (stream : Nat) (header : List Byte) : List Nat :=
  spread (headerSeq isL code stream) 0 (symbolsOf 1 544 (headerBits header))

/-- The channel sequence of a stream's payload (R155, R161). -/
def payloadSeq (mode : Nat) (code : Option (Nat × Nat)) (stream : Nat) : List Bool :=
  match code with
  | some (e, i) => channelSeq e i
  | none => channelSeq (modeExp mode) (stream % 2 ^ modeExp mode)

/-- The chips of a segment's share of the payload bits (R157, R173). -/
def payloadPart (mode : Nat) (code : Option (Nat × Nat)) (net stream : Nat) (l : List Bool) : List Nat :=
  spread (payloadSeq mode code stream) (netScramble net) (streamOf (modeStreams mode) stream (modeSymbols mode l))

/-- The chips between the ramps of segment `k` on a stream's port (R158, R177): the first with preamble, sync word and
header, a continuation segment with two repetitions and the sync word. -/
def segmentChips (mode : Nat) (code : Option (Nat × Nat)) (net : Nat) (header : List Byte) (bits : List Bool) (k stream : Nat) :
    List Nat :=
  let isL := profileL (modeProfile mode)
  if k = 0 then
    preamblePart isL code stream 8 ++ headerPart isL code stream header ++ payloadPart mode code net stream bits
  else preamblePart isL code stream 2 ++ payloadPart mode code net stream bits

/-- The chips of one ramp (R121). -/
def rampLen (isL : Bool) : Nat := rampChips isL / 2

/-- The occupied bandwidth of a profile in Hz (R151): 1.25 × the chip rate. -/
def occupiedHz (profile : Nat) : Nat := chipRate profile * 5 / 4

end Sys2Proof.Machine
end

