-- ==== Sys2Proof/Machine/Decibel.lean ====
section
/-! DEFINITION. Powers and logarithms in fixed point, for the formulas of the spec that hold them (R123, R145, R197,
R205 and others). A value is a natural number of 2⁻⁶⁴; 48 binary places of an exponent or logarithm are computed
(assumption 31). -/

namespace Sys2Proof.Machine

/-- 1 in fixed point. -/
def fxOne : Nat := 2 ^ 64

/-- The product of 2^(2⁻ᵏ) over the set bits of a 48-bit fraction, from its highest bit on; `root` is 2^(2⁻ᵏ) of the
bit's predecessor. -/
def exp2Frac : Nat → Nat → Nat → Nat → Nat
  | 0, _, _, acc => acc
  | n + 1, f, root, acc =>
    let root := Nat.sqrt (root * fxOne)
    exp2Frac n f root (if f.testBit n then acc * root / fxOne else acc)

/-- 2^y for y in units of 2⁻⁴⁸. -/
def fxExp2 (y : Int) : Nat :=
  let w := y / 2 ^ 48
  let f := (y % 2 ^ 48).toNat
  let m := exp2Frac 48 f (2 * fxOne) fxOne
  if 0 ≤ w then m * 2 ^ w.toNat else m / 2 ^ (-w).toNat

/-- `n` binary places of log₂ of a mantissa in [1, 2). -/
def log2Frac : Nat → Nat → Nat → Nat
  | 0, _, acc => acc
  | n + 1, m, acc =>
    let m := m * m / fxOne
    if 2 * fxOne ≤ m then log2Frac n (m / 2) (2 * acc + 1) else log2Frac n m (2 * acc)

/-- log₂ of a fixed-point value, in units of 2⁻⁴⁸; of 0, the least value represented. -/
def fxLog2 (v : Nat) : Int :=
  let e := Nat.log2 v
  let m := if e ≤ 64 then v * 2 ^ (64 - e) else v / 2 ^ (e - 64)
  ((e : Int) - 64) * 2 ^ 48 + (log2Frac 48 m 0 : Int)

/-- log₂ 10 in units of 2⁻⁴⁸. -/
def log2Ten : Int := fxLog2 (10 * fxOne)

/-- 10^(x/10), x dB as a fraction, in fixed point. -/
def fxFromDb (x : Rat) : Nat := fxExp2 ((x.num * log2Ten) / ((x.den : Int) * 10))

/-- 10 × log₁₀ of a ratio of natural numbers, in units of 2⁻³² dB. -/
def dbOfRatio (num den : Nat) : Int := (fxLog2 (num * fxOne / max den 1)) * 10 * 2 ^ 32 / log2Ten

/-- The nearest integer, halves upward. -/
def nearest (x : Rat) : Int := (x + 1 / 2).floor

/-- 10 × log₁₀ 2 in units of 10⁻⁸ dB: close enough to order the requirements of R199 as the exact value does. -/
def dbPerOctave : Int := 301029996

end Sys2Proof.Machine
end

