-- ==== Sys2Proof/Machine/RegRows.lean ====
section
/-! DEFINITION. The register tables as data: one row per field of RegTable.lean, block by block. Reset values marked
"Image" are 0 here and take the image's value when an image takes effect; the ladders' reset (R204) is given apart. -/

namespace Sys2Proof.Machine

/-- Register rows of GLB. -/
def rowsGLB0 : List RegRow := [
  ⟨0x00000100, [], 0, 64, .ro, 0, .v, true⟩,
  ⟨0x00000108, [], 0, 1, .ro, 0, .v, false⟩,
  ⟨0x00000108, [], 1, 1, .w1c, 0, .w, false⟩,
  ⟨0x0000010C, [], 0, 32, .ro, 0, .v, false⟩,
  ⟨0x00000110, [], 0, 9, .ro, 0, .v, false⟩,
  ⟨0x00000110, [], 9, 1, .ro, 0, .v, false⟩,
  ⟨0x00000110, [], 10, 3, .ro, 0, .v, false⟩,
  ⟨0x00000110, [], 13, 1, .ro, 0, .v, false⟩,
  ⟨0x00000118, [], 0, 64, .ro, 0, .a, true⟩,
  ⟨0x00000200, [], 0, 2048, .ro, 0, .a, false⟩,
  ⟨0x00000300, [], 0, 64, .ro, 0, .a, true⟩]

/-- Register rows of PWR. -/
def rowsPWR0 : List RegRow := [
  ⟨0x00010000, [], 0, 4, .ro, 2, .v, false⟩,
  ⟨0x00010000, [], 4, 4, .ro, 0, .v, false⟩,
  ⟨0x00010000, [], 8, 1, .ro, 0, .v, false⟩,
  ⟨0x00010000, [], 9, 1, .ro, 0, .v, false⟩,
  ⟨0x00010004, [], 0, 1, .w1c, 0, .w, false⟩,
  ⟨0x00010004, [], 1, 1, .w1c, 0, .w, false⟩,
  ⟨0x00010004, [], 2, 1, .w1c, 0, .a, false⟩,
  ⟨0x00010004, [], 3, 1, .w1c, 0, .a, false⟩,
  ⟨0x00010004, [], 4, 1, .w1c, 0, .a, false⟩,
  ⟨0x00010008, [], 0, 4, .wo, 0, .v, false⟩,
  ⟨0x0001000C, [], 0, 4, .wo, 0, .v, false⟩,
  ⟨0x0001000C, [], 4, 3, .wo, 0, .v, false⟩,
  ⟨0x0001000C, [], 16, 16, .wo, 0, .v, false⟩,
  ⟨0x00010010, [], 0, 4, .ro, 0, .a, false⟩,
  ⟨0x00010014, [], 0, 16, .rw, 1000, .a, false⟩,
  ⟨0x00010018, [], 0, 32, .rw, 0, .a, false⟩,
  ⟨0x0001001C, [], 0, 8, .rw, 5, .a, false⟩,
  ⟨0x0001001C, [], 8, 1, .rw, 0, .a, false⟩,
  ⟨0x0001001C, [], 9, 11, .rw, 50, .a, false⟩,
  ⟨0x00010020, [], 0, 16, .ro, 0, .v, false⟩,
  ⟨0x00010020, [], 16, 12, .ro, 0, .v, false⟩,
  ⟨0x00010024, [], 0, 8, .ro, 0, .v, false⟩,
  ⟨0x00010024, [], 8, 8, .ro, 0, .v, false⟩,
  ⟨0x00010028, [], 0, 8, .ro, 0, .v, false⟩,
  ⟨0x00010028, [], 8, 8, .ro, 0, .v, false⟩]

/-- Register rows of PWR. -/
def rowsPWR1 : List RegRow := [
  ⟨0x00010028, [], 16, 4, .ro, 0, .v, false⟩,
  ⟨0x00010028, [], 20, 1, .ro, 0, .v, false⟩,
  ⟨0x00010100, [], 0, 64, .ro, 0, .a, true⟩,
  ⟨0x00010108, [], 0, 64, .ro, 0, .a, true⟩,
  ⟨0x00010110, [], 0, 64, .ro, 0, .a, true⟩,
  ⟨0x00010118, [], 0, 64, .ro, 0, .a, true⟩,
  ⟨0x00010120, [], 0, 64, .ro, 0, .a, true⟩,
  ⟨0x00010128, [], 0, 64, .ro, 0, .p, true⟩,
  ⟨0x00010130, [], 0, 64, .ro, 0, .p, true⟩,
  ⟨0x00010138, [], 0, 64, .ro, 0, .a, true⟩]

/-- Register rows of TRB. -/
def rowsTRB0 : List RegRow := [
  ⟨0x00020000, [], 0, 28, .ro, 0, .v, false⟩,
  ⟨0x00020004, [], 0, 28, .rw, 268435455, .a, false⟩,
  ⟨0x00020008, [], 0, 1, .w1c, 0, .w, false⟩,
  ⟨0x00020008, [], 1, 1, .w1c, 0, .w, false⟩,
  ⟨0x00020008, [], 2, 1, .w1c, 0, .w, false⟩,
  ⟨0x00020008, [], 3, 1, .w1c, 0, .w, false⟩,
  ⟨0x00020008, [], 4, 1, .w1c, 0, .w, false⟩,
  ⟨0x00020008, [], 5, 1, .w1c, 0, .w, false⟩,
  ⟨0x00020008, [], 6, 1, .w1c, 0, .w, false⟩,
  ⟨0x00020008, [], 7, 1, .w1c, 0, .w, false⟩,
  ⟨0x00020008, [], 8, 1, .w1c, 0, .w, false⟩,
  ⟨0x0002000C, [], 0, 4, .ro, 0, .w, false⟩,
  ⟨0x0002000C, [], 4, 12, .ro, 0, .w, false⟩,
  ⟨0x0002000C, [], 16, 16, .ro, 0, .w, false⟩,
  ⟨0x00020010, [], 0, 4, .w1c, 0, .a, false⟩,
  ⟨0x00020014, [], 0, 36, .w1c, 0, .a, false⟩,
  ⟨0x0002001C, [], 0, 3, .rw, 0, .v, false⟩,
  ⟨0x00020030, [], 0, 32, .rw, 0, .v, false⟩,
  ⟨0x00020040, [], 0, 1, .w1s, 0, .v, false⟩,
  ⟨0x00020040, [], 1, 1, .w1s, 0, .v, false⟩,
  ⟨0x00020044, [], 0, 128, .rw, 0, .v, true⟩,
  ⟨0x00020054, [], 0, 1, .ro, 0, .w, false⟩,
  ⟨0x00020054, [], 1, 1, .ro, 0, .w, false⟩,
  ⟨0x00020054, [], 2, 1, .ro, 0, .w, false⟩,
  ⟨0x00020054, [], 16, 16, .ro, 0, .w, false⟩]

/-- Register rows of TRB. -/
def rowsTRB1 : List RegRow := [
  ⟨0x00020060, [], 0, 16, .ro, 0, .w, false⟩,
  ⟨0x00020060, [], 16, 3, .ro, 0, .w, false⟩,
  ⟨0x00020064, [], 0, 128, .ro, 0, .w, true⟩,
  ⟨0x00020074, [], 0, 64, .ro, 0, .w, true⟩,
  ⟨0x0002007C, [], 0, 32, .ro, 4294967295, .w, false⟩,
  ⟨0x00020080, [], 0, 32, .ro, 0, .w, false⟩,
  ⟨0x00020100, [], 0, 64, .ro, 0, .a, true⟩,
  ⟨0x00020108, [], 0, 64, .ro, 0, .a, true⟩,
  ⟨0x00020110, [], 0, 64, .ro, 0, .a, true⟩,
  ⟨0x00020118, [], 0, 64, .ro, 0, .a, true⟩,
  ⟨0x00020120, [], 0, 64, .ro, 0, .a, true⟩,
  ⟨0x00020128, [], 0, 64, .ro, 0, .a, true⟩,
  ⟨0x00020130, [], 0, 64, .ro, 0, .a, true⟩]

/-- Register rows of IMG. -/
def rowsIMG0 : List RegRow := [
  ⟨0x00030000, [], 0, 3, .ro, 0, .v, false⟩,
  ⟨0x00030000, [], 3, 2, .ro, 0, .v, false⟩,
  ⟨0x00030000, [], 5, 1, .ro, 0, .v, false⟩,
  ⟨0x00030000, [], 6, 1, .ro, 0, .v, false⟩,
  ⟨0x00030004, [], 0, 8, .wo, 0, .v, false⟩,
  ⟨0x00030004, [], 8, 3, .wo, 0, .v, false⟩,
  ⟨0x00030008, [], 0, 8, .ro, 0, .w, false⟩,
  ⟨0x00030008, [], 8, 8, .ro, 0, .w, false⟩,
  ⟨0x0003000C, [], 0, 8, .ro, 0, .v, false⟩,
  ⟨0x0003000C, [], 8, 8, .ro, 0, .v, false⟩,
  ⟨0x0003000C, [], 16, 8, .ro, 0, .v, false⟩,
  ⟨0x0003000C, [], 24, 1, .ro, 0, .v, false⟩,
  ⟨0x0003000C, [], 25, 1, .ro, 0, .v, false⟩,
  ⟨0x00030010, [], 0, 4, .ro, 0, .p, false⟩,
  ⟨0x00030010, [], 4, 4, .ro, 0, .p, false⟩,
  ⟨0x00030010, [], 8, 4, .ro, 3, .p, false⟩,
  ⟨0x00030014, [], 0, 16, .rw, 900, .p, false⟩,
  ⟨0x00030018, [], 0, 16, .ro, 0, .v, false⟩,
  ⟨0x00030020, [], 0, 32, .rw, 0, .w, false⟩,
  ⟨0x00030024, [], 0, 32, .rw, 0, .w, false⟩,
  ⟨0x00030028, [], 0, 32, .ro, 0, .p, false⟩,
  ⟨0x0003002C, [], 0, 32, .ro, 0, .p, false⟩,
  ⟨0x00030030, [], 0, 26, .rw, 0, .v, false⟩,
  ⟨0x00030034, [], 0, 32, .wo, 0, .v, false⟩,
  ⟨0x00030038, [], 0, 32, .ro, 0, .v, false⟩]

/-- Register rows of IMG. -/
def rowsIMG1 : List RegRow := [
  ⟨0x0003003C, [], 0, 32, .ro, 0, .w, false⟩,
  ⟨0x00030040, [], 0, 512, .ro, 0, .v, false⟩,
  ⟨0x00030080, [], 0, 64, .ro, 0, .a, true⟩,
  ⟨0x0003008C, [], 0, 3, .ro, 0, .w, false⟩,
  ⟨0x0003008C, [], 3, 1, .ro, 0, .w, false⟩,
  ⟨0x0003008C, [], 16, 16, .ro, 0, .w, false⟩]

/-- Register rows of TIM. -/
def rowsTIM0 : List RegRow := [
  ⟨0x00040000, [], 0, 3, .ro, 0, .v, false⟩,
  ⟨0x00040000, [], 3, 1, .ro, 0, .v, false⟩,
  ⟨0x00040000, [], 4, 1, .ro, 0, .v, false⟩,
  ⟨0x00040000, [], 5, 1, .ro, 0, .v, false⟩,
  ⟨0x00040000, [], 6, 1, .ro, 0, .v, false⟩,
  ⟨0x00040000, [], 7, 1, .ro, 0, .v, false⟩,
  ⟨0x00040004, [], 0, 1, .w1c, 0, .w, false⟩,
  ⟨0x00040004, [], 1, 1, .w1c, 0, .w, false⟩,
  ⟨0x00040004, [], 2, 1, .w1c, 0, .w, false⟩,
  ⟨0x00040004, [], 3, 1, .w1c, 0, .w, false⟩,
  ⟨0x00040004, [], 4, 1, .w1c, 0, .w, false⟩,
  ⟨0x00040004, [], 5, 1, .w1c, 0, .w, false⟩,
  ⟨0x00040004, [], 6, 1, .w1c, 0, .w, false⟩,
  ⟨0x00040004, [], 7, 1, .w1c, 0, .w, false⟩,
  ⟨0x00040004, [], 8, 1, .w1c, 0, .w, false⟩,
  ⟨0x00040004, [], 9, 1, .w1c, 0, .w, false⟩,
  ⟨0x00040004, [], 10, 1, .w1c, 0, .w, false⟩,
  ⟨0x00040004, [], 11, 1, .w1c, 0, .w, false⟩,
  ⟨0x00040008, [], 0, 4, .wo, 0, .v, false⟩,
  ⟨0x00040010, [], 0, 128, .ro, 0, .v, true⟩,
  ⟨0x00040020, [], 0, 32, .ro, 4294967295, .v, false⟩,
  ⟨0x00040024, [], 0, 32, .ro, 0, .v, false⟩,
  ⟨0x00040028, [], 0, 32, .ro, 0, .v, false⟩,
  ⟨0x0004002C, [], 0, 32, .ro, 0, .v, false⟩,
  ⟨0x00040030, [], 0, 10, .rw, 0, .w, false⟩]

/-- Register rows of TIM. -/
def rowsTIM1 : List RegRow := [
  ⟨0x00040030, [], 10, 10, .rw, 0, .w, false⟩,
  ⟨0x00040030, [], 20, 12, .rw, 0, .w, false⟩,
  ⟨0x00040034, [], 0, 16, .rw, 0, .w, false⟩,
  ⟨0x00040034, [], 16, 8, .rw, 0, .w, false⟩,
  ⟨0x00040034, [], 24, 8, .rw, 0, .w, false⟩,
  ⟨0x00040038, [], 0, 13, .rw, 0, .w, false⟩,
  ⟨0x00040038, [], 16, 9, .rw, 0, .w, false⟩,
  ⟨0x00040038, [], 25, 4, .rw, 0, .w, false⟩,
  ⟨0x0004003C, [], 0, 32, .rw, 0, .w, false⟩,
  ⟨0x00040040, [], 0, 32, .rw, 0, .w, false⟩,
  ⟨0x00040044, [], 0, 32, .rw, 0, .w, false⟩,
  ⟨0x00040048, [], 0, 32, .ro, 0, .v, false⟩,
  ⟨0x0004004C, [], 0, 8, .rw, 0, .w, false⟩,
  ⟨0x0004004C, [], 8, 8, .rw, 0, .w, false⟩,
  ⟨0x0004004C, [], 16, 8, .rw, 0, .w, false⟩,
  ⟨0x00040050, [], 0, 16, .ro, 0, .w, false⟩,
  ⟨0x00040050, [], 16, 16, .ro, 0, .w, false⟩,
  ⟨0x00040054, [], 0, 6, .ro, 63, .w, false⟩,
  ⟨0x00040054, [], 6, 2, .ro, 0, .w, false⟩,
  ⟨0x00040054, [], 8, 1, .ro, 0, .w, false⟩,
  ⟨0x00040054, [], 9, 1, .ro, 0, .w, false⟩,
  ⟨0x00040058, [], 0, 4, .rw, 0, .w, false⟩,
  ⟨0x0004005C, [], 0, 32, .rw, 0, .w, false⟩,
  ⟨0x00040060, [], 0, 32, .rw, 0, .w, false⟩,
  ⟨0x00040064, [], 0, 32, .rw, 0, .p, false⟩]

/-- Register rows of TIM. -/
def rowsTIM2 : List RegRow := [
  ⟨0x00040068, [], 0, 32, .rw, 0, .p, false⟩,
  ⟨0x0004006C, [], 0, 32, .rw, 0, .p, false⟩,
  ⟨0x00040070, [], 0, 32, .rw, 1000000, .p, false⟩,
  ⟨0x00040074, [], 0, 32, .rw, 0, .v, false⟩,
  ⟨0x00040078, [], 0, 16, .rw, 0, .v, false⟩,
  ⟨0x0004007C, [], 0, 16, .rw, 0, .a, false⟩,
  ⟨0x0004007C, [], 16, 1, .rw, 0, .a, false⟩,
  ⟨0x0004007C, [], 17, 1, .rw, 0, .a, false⟩,
  ⟨0x00040080, [], 0, 2, .img, 0, .i, false⟩,
  ⟨0x00040080, [], 2, 1, .img, 0, .i, false⟩,
  ⟨0x00040080, [], 3, 2, .img, 0, .i, false⟩,
  ⟨0x00040084, [], 0, 4, .rw, 0, .w, false⟩,
  ⟨0x00040088, [(4, 4)], 0, 32, .rw, 0, .p, false⟩,
  ⟨0x000400A0, [(16, 4)], 0, 128, .ro, 0, .v, true⟩,
  ⟨0x000400E0, [(4, 3)], 0, 16, .rw, 0, .p, false⟩,
  ⟨0x000400E0, [(4, 3)], 16, 16, .rw, 0, .p, false⟩,
  ⟨0x000400EC, [], 0, 8, .ro, 248, .v, false⟩,
  ⟨0x000400EC, [], 8, 4, .ro, 0, .v, false⟩,
  ⟨0x000400EC, [], 12, 4, .ro, 0, .v, false⟩,
  ⟨0x000400EC, [], 16, 4, .ro, 0, .v, false⟩,
  ⟨0x00040100, [], 0, 8, .rw, 0, .v, false⟩,
  ⟨0x00040100, [], 8, 1, .ro, 0, .v, false⟩,
  ⟨0x00040200, [], 0, 64, .ro, 0, .a, true⟩,
  ⟨0x00040208, [], 0, 64, .ro, 0, .a, true⟩,
  ⟨0x00040210, [], 0, 64, .ro, 0, .a, true⟩]

/-- Register rows of TIM. -/
def rowsTIM3 : List RegRow := [
  ⟨0x00040218, [], 0, 64, .ro, 0, .a, true⟩,
  ⟨0x00040220, [], 0, 64, .ro, 0, .a, true⟩,
  ⟨0x00040228, [], 0, 64, .ro, 0, .a, true⟩,
  ⟨0x00040230, [], 0, 64, .ro, 0, .a, true⟩,
  ⟨0x00040238, [], 0, 64, .ro, 0, .a, true⟩,
  ⟨0x00040240, [], 0, 64, .ro, 0, .a, true⟩]

/-- Register rows of SPR. -/
def rowsSPR0 : List RegRow := [
  ⟨0x00050000, [], 0, 1, .ro, 0, .v, false⟩,
  ⟨0x00050000, [], 1, 1, .ro, 0, .v, false⟩,
  ⟨0x00050000, [], 2, 1, .ro, 0, .v, false⟩,
  ⟨0x00050000, [], 3, 1, .ro, 0, .v, false⟩,
  ⟨0x00050000, [], 4, 1, .ro, 0, .v, false⟩,
  ⟨0x00050004, [], 0, 1, .w1c, 0, .a, false⟩,
  ⟨0x00050004, [], 1, 1, .w1c, 0, .w, false⟩,
  ⟨0x00050004, [], 2, 1, .w1c, 0, .w, false⟩,
  ⟨0x00050004, [], 3, 1, .w1c, 0, .w, false⟩,
  ⟨0x00050004, [], 4, 1, .w1c, 0, .w, false⟩,
  ⟨0x00050008, [], 0, 17, .ro, 0, .v, false⟩,
  ⟨0x0005000C, [], 0, 16, .ro, 65535, .v, false⟩,
  ⟨0x0005000C, [], 16, 16, .ro, 65535, .v, false⟩,
  ⟨0x00050010, [], 0, 32, .ro, 0, .v, false⟩,
  ⟨0x00050014, [(8, 3)], 0, 32, .ro, 0, .v, false⟩,
  ⟨0x00050018, [(8, 3)], 0, 16, .ro, 0, .v, false⟩,
  ⟨0x00050030, [], 0, 4, .rw, 3, .w, false⟩,
  ⟨0x00050030, [], 4, 4, .rw, 7, .w, false⟩,
  ⟨0x00050034, [], 0, 4, .rw, 6, .w, false⟩,
  ⟨0x00050038, [], 0, 32, .ro, 0, .v, false⟩,
  ⟨0x00050040, [], 0, 64, .ro, 0, .a, true⟩,
  ⟨0x00050048, [], 0, 64, .ro, 0, .a, true⟩,
  ⟨0x00050400, [], 0, 4096, .ro, 0, .v, false⟩]

/-- Register rows of LFE. -/
def rowsLFE0 : List RegRow := [
  ⟨0x00060000, [(4096, 4)], 0, 1, .ro, 0, .v, false⟩,
  ⟨0x00060000, [(4096, 4)], 1, 1, .ro, 0, .v, false⟩,
  ⟨0x00060000, [(4096, 4)], 2, 1, .ro, 0, .v, false⟩,
  ⟨0x00060000, [(4096, 4)], 3, 1, .ro, 0, .v, false⟩,
  ⟨0x00060000, [(4096, 4)], 4, 1, .ro, 0, .v, false⟩,
  ⟨0x00060000, [(4096, 4)], 5, 1, .ro, 0, .a, false⟩,
  ⟨0x00060004, [(4096, 4)], 0, 1, .w1c, 0, .w, false⟩,
  ⟨0x00060004, [(4096, 4)], 1, 1, .w1c, 0, .w, false⟩,
  ⟨0x00060004, [(4096, 4)], 2, 1, .w1c, 0, .w, false⟩,
  ⟨0x00060004, [(4096, 4)], 3, 1, .w1c, 0, .w, false⟩,
  ⟨0x00060004, [(4096, 4)], 4, 1, .w1c, 0, .w, false⟩,
  ⟨0x00060004, [(4096, 4)], 5, 1, .w1c, 0, .w, false⟩,
  ⟨0x00060004, [(4096, 4)], 6, 1, .w1c, 0, .w, false⟩,
  ⟨0x00060004, [(4096, 4)], 7, 1, .w1c, 0, .w, false⟩,
  ⟨0x00060008, [(4096, 4)], 0, 3, .img, 0, .i, false⟩,
  ⟨0x00060008, [(4096, 4)], 4, 3, .img, 0, .i, false⟩,
  ⟨0x00060008, [(4096, 4)], 16, 16, .img, 0, .i, false⟩,
  ⟨0x0006000C, [(4096, 4)], 0, 7, .rw, 0, .w, false⟩,
  ⟨0x0006000C, [(4096, 4)], 8, 7, .rw, 0, .w, false⟩,
  ⟨0x0006000C, [(4096, 4)], 16, 5, .ro, 0, .v, false⟩,
  ⟨0x00060010, [(4096, 4)], 0, 8, .rw, 0, .w, false⟩,
  ⟨0x00060010, [(4096, 4)], 8, 8, .rw, 0, .w, false⟩,
  ⟨0x00060010, [(4096, 4)], 16, 8, .rw, 0, .w, false⟩,
  ⟨0x00060010, [(4096, 4)], 24, 8, .rw, 0, .w, false⟩,
  ⟨0x00060014, [(4096, 4)], 0, 16, .ro, 0, .v, false⟩]

/-- Register rows of LFE. -/
def rowsLFE1 : List RegRow := [
  ⟨0x00060014, [(4096, 4)], 16, 16, .ro, 0, .v, false⟩,
  ⟨0x00060018, [(4096, 4)], 0, 32, .rw, 0, .w, false⟩,
  ⟨0x0006001C, [(4096, 4)], 0, 32, .rw, 0, .w, false⟩,
  ⟨0x00060020, [(4096, 4)], 0, 16, .ro, 0, .v, false⟩,
  ⟨0x00060020, [(4096, 4)], 16, 16, .ro, 0, .v, false⟩,
  ⟨0x00060024, [(4096, 4)], 0, 16, .ro, 0, .v, false⟩,
  ⟨0x00060040, [(4096, 4)], 0, 64, .ro, 0, .a, true⟩,
  ⟨0x00060048, [(4096, 4)], 0, 64, .ro, 0, .a, true⟩,
  ⟨0x00060050, [(4096, 4)], 0, 64, .ro, 0, .a, true⟩,
  ⟨0x00060058, [(4096, 4)], 0, 64, .ro, 0, .a, true⟩,
  ⟨0x00060060, [(4096, 4)], 0, 64, .ro, 0, .a, true⟩,
  ⟨0x00064000, [], 0, 3, .ro, 0, .v, false⟩,
  ⟨0x00064004, [], 0, 16, .ro, 0, .v, false⟩,
  ⟨0x00064008, [], 0, 6, .ro, 0, .i, false⟩,
  ⟨0x00064008, [], 8, 6, .ro, 0, .w, false⟩,
  ⟨0x00064008, [], 14, 1, .w1c, 0, .w, false⟩,
  ⟨0x00064010, [], 0, 64, .ro, 0, .a, true⟩,
  ⟨0x00064018, [], 0, 64, .ro, 0, .a, true⟩,
  ⟨0x00064100, [(8, 32)], 0, 16, .rw, 0, .w, false⟩,
  ⟨0x00064100, [(8, 32)], 16, 16, .rw, 0, .w, false⟩,
  ⟨0x00064104, [(8, 32)], 0, 1, .rw, 0, .w, false⟩,
  ⟨0x00064104, [(8, 32)], 1, 1, .ro, 0, .i, false⟩]

/-- Register rows of PHY. -/
def rowsPHY0 : List RegRow := [
  ⟨0x00070000, [], 0, 13, .ro, 0, .v, false⟩,
  ⟨0x00070004, [], 0, 4, .ro, 0, .w, false⟩,
  ⟨0x00070004, [], 4, 2, .ro, 0, .w, false⟩,
  ⟨0x00070004, [], 6, 1, .ro, 0, .w, false⟩,
  ⟨0x00070008, [], 0, 1, .w1c, 0, .w, false⟩,
  ⟨0x00070008, [], 1, 1, .w1c, 0, .w, false⟩,
  ⟨0x00070008, [], 2, 1, .w1c, 0, .w, false⟩,
  ⟨0x00070010, [], 0, 64, .ro, 0, .a, true⟩,
  ⟨0x00070018, [], 0, 64, .ro, 0, .a, true⟩,
  ⟨0x00070020, [], 0, 64, .ro, 0, .a, true⟩,
  ⟨0x00070028, [], 0, 64, .ro, 0, .a, true⟩,
  ⟨0x00070100, [], 0, 16, .rw, 640, .w, false⟩,
  ⟨0x00070100, [], 16, 3, .rw, 3, .w, false⟩,
  ⟨0x00070104, [], 0, 16, .rw, 5120, .w, false⟩,
  ⟨0x00070104, [], 16, 3, .rw, 3, .w, false⟩,
  ⟨0x00070108, [], 0, 7, .rw, 32, .w, false⟩,
  ⟨0x00070108, [], 7, 6, .rw, 16, .w, false⟩,
  ⟨0x00070108, [], 13, 4, .rw, 3, .w, false⟩,
  ⟨0x00070108, [], 17, 5, .rw, 8, .w, false⟩,
  ⟨0x0007010C, [], 0, 7, .rw, 16, .w, false⟩,
  ⟨0x0007010C, [], 7, 6, .rw, 8, .w, false⟩,
  ⟨0x0007010C, [], 13, 4, .rw, 2, .w, false⟩,
  ⟨0x0007010C, [], 17, 5, .rw, 4, .w, false⟩,
  ⟨0x00070110, [], 0, 4, .rw, 6, .w, false⟩,
  ⟨0x00070110, [], 4, 4, .rw, 10, .w, false⟩]

/-- Register rows of PHY. -/
def rowsPHY1 : List RegRow := [
  ⟨0x00070110, [], 8, 4, .rw, 7, .w, false⟩,
  ⟨0x00070110, [], 12, 12, .rw, 256, .w, false⟩,
  ⟨0x00070110, [], 24, 8, .rw, 16, .w, false⟩,
  ⟨0x00070114, [], 0, 6, .rw, 20, .w, false⟩,
  ⟨0x00070114, [], 6, 8, .rw, 255, .w, false⟩,
  ⟨0x00070114, [], 14, 8, .rw, 64, .w, false⟩,
  ⟨0x00070118, [], 0, 8, .rw, 16, .w, false⟩,
  ⟨0x00070118, [], 8, 8, .rw, 40, .w, false⟩,
  ⟨0x0007011C, [], 0, 4, .rw, 3, .w, false⟩,
  ⟨0x0007011C, [], 4, 8, .rw, 8, .w, false⟩,
  ⟨0x0007011C, [], 12, 8, .rw, 2, .w, false⟩,
  ⟨0x0007011C, [], 20, 4, .rw, 3, .w, false⟩,
  ⟨0x00070120, [], 0, 1, .w1c, 0, .w, false⟩,
  ⟨0x00070120, [], 1, 1, .w1c, 0, .w, false⟩,
  ⟨0x00070120, [], 2, 1, .w1c, 0, .w, false⟩,
  ⟨0x00070120, [], 3, 1, .w1c, 0, .w, false⟩,
  ⟨0x00070120, [], 4, 1, .w1c, 0, .w, false⟩,
  ⟨0x00070120, [], 5, 1, .w1c, 0, .w, false⟩,
  ⟨0x00070120, [], 6, 1, .w1c, 0, .w, false⟩,
  ⟨0x00070120, [], 7, 1, .w1c, 0, .w, false⟩,
  ⟨0x00070120, [], 8, 1, .w1c, 0, .w, false⟩,
  ⟨0x00070124, [], 0, 3, .ro, 0, .w, false⟩,
  ⟨0x00070124, [], 3, 2, .ro, 0, .w, false⟩,
  ⟨0x00070124, [], 5, 1, .ro, 0, .w, false⟩,
  ⟨0x00070124, [], 16, 16, .ro, 0, .w, false⟩]

/-- Register rows of PHY. -/
def rowsPHY2 : List RegRow := [
  ⟨0x00070140, [(2, 16)], 0, 16, .rw, 0, .w, false⟩,
  ⟨0x00070160, [(2, 16)], 0, 16, .rw, 0, .w, false⟩,
  ⟨0x00070180, [], 0, 16, .rw, 0, .v, false⟩,
  ⟨0x00070180, [], 16, 1, .rw, 0, .v, false⟩,
  ⟨0x000701A0, [(4, 4)], 0, 16, .ro, 32768, .w, false⟩,
  ⟨0x000701A0, [(4, 4)], 16, 16, .ro, 32768, .w, false⟩,
  ⟨0x000701C0, [], 0, 2, .rw, 0, .v, false⟩,
  ⟨0x000701C0, [], 2, 1, .rw, 0, .v, false⟩,
  ⟨0x000701C0, [], 3, 3, .rw, 0, .v, false⟩,
  ⟨0x000701C0, [], 6, 1, .w1s, 0, .v, false⟩,
  ⟨0x000701C0, [], 7, 1, .w1s, 0, .v, false⟩,
  ⟨0x000701C4, [], 0, 10, .rw, 0, .v, false⟩,
  ⟨0x000701C4, [], 16, 10, .rw, 0, .v, false⟩,
  ⟨0x000701C8, [], 0, 32, .rw, 0, .v, false⟩,
  ⟨0x000701CC, [], 0, 32, .rw, 0, .v, false⟩,
  ⟨0x000701D0, [], 0, 2, .ro, 0, .v, false⟩,
  ⟨0x000701D0, [], 2, 1, .ro, 0, .v, false⟩,
  ⟨0x000701D0, [], 4, 24, .ro, 0, .v, false⟩,
  ⟨0x00070200, [], 0, 64, .ro, 0, .a, true⟩,
  ⟨0x00070208, [], 0, 64, .ro, 0, .a, true⟩,
  ⟨0x00070210, [], 0, 64, .ro, 0, .a, true⟩,
  ⟨0x00070218, [], 0, 64, .ro, 0, .a, true⟩,
  ⟨0x00070220, [], 0, 64, .ro, 0, .a, true⟩,
  ⟨0x00070228, [], 0, 64, .ro, 0, .a, true⟩,
  ⟨0x00070230, [], 0, 64, .ro, 0, .a, true⟩]

/-- Register rows of PHY. -/
def rowsPHY3 : List RegRow := [
  ⟨0x00070238, [], 0, 64, .ro, 0, .a, true⟩,
  ⟨0x00070240, [], 0, 64, .ro, 0, .a, true⟩,
  ⟨0x00070248, [], 0, 64, .ro, 0, .a, true⟩]

/-- Register rows of MAC. -/
def rowsMAC0 : List RegRow := [
  ⟨0x00080000, [], 0, 3, .ro, 0, .v, false⟩,
  ⟨0x00080000, [], 3, 2, .ro, 0, .v, false⟩,
  ⟨0x00080000, [], 5, 1, .ro, 0, .v, false⟩,
  ⟨0x00080000, [], 6, 1, .ro, 0, .v, false⟩,
  ⟨0x00080000, [], 7, 1, .ro, 0, .v, false⟩,
  ⟨0x00080004, [], 0, 1, .w1c, 0, .w, false⟩,
  ⟨0x00080004, [], 1, 1, .w1c, 0, .w, false⟩,
  ⟨0x00080004, [], 2, 1, .w1c, 0, .w, false⟩,
  ⟨0x00080004, [], 3, 1, .w1c, 0, .w, false⟩,
  ⟨0x00080004, [], 4, 1, .w1c, 0, .w, false⟩,
  ⟨0x00080004, [], 5, 1, .w1c, 0, .w, false⟩,
  ⟨0x00080004, [], 6, 1, .w1c, 0, .w, false⟩,
  ⟨0x00080004, [], 7, 1, .w1c, 0, .w, false⟩,
  ⟨0x00080008, [], 0, 16, .ro, 0, .a, false⟩,
  ⟨0x00080008, [], 16, 16, .img, 0, .i, false⟩,
  ⟨0x00080014, [], 0, 15, .rw, 0, .w, false⟩,
  ⟨0x00080018, [], 0, 4, .rw, 0, .w, false⟩,
  ⟨0x00080018, [], 4, 4, .rw, 0, .w, false⟩,
  ⟨0x00080018, [], 8, 4, .rw, 0, .w, false⟩,
  ⟨0x00080018, [], 12, 6, .rw, 0, .w, false⟩,
  ⟨0x00080018, [], 18, 4, .rw, 0, .w, false⟩,
  ⟨0x0008001C, [], 0, 8, .rw, 0, .w, false⟩,
  ⟨0x0008001C, [], 8, 8, .rw, 0, .w, false⟩,
  ⟨0x0008001C, [], 16, 12, .rw, 0, .w, false⟩,
  ⟨0x00080020, [], 0, 7, .ro, 0, .a, false⟩]

/-- Register rows of MAC. -/
def rowsMAC1 : List RegRow := [
  ⟨0x00080020, [], 7, 5, .ro, 0, .a, false⟩,
  ⟨0x00080020, [], 16, 16, .ro, 0, .a, false⟩,
  ⟨0x00080024, [], 0, 32, .ro, 0, .a, false⟩,
  ⟨0x00080028, [], 0, 32, .rw, 0, .w, false⟩,
  ⟨0x0008002C, [], 0, 32, .rw, 0, .w, false⟩,
  ⟨0x00080030, [], 0, 32, .rw, 0, .w, false⟩,
  ⟨0x00080034, [], 0, 32, .rw, 0, .w, false⟩,
  ⟨0x00080038, [], 0, 32, .ro, 0, .v, false⟩,
  ⟨0x0008003C, [], 0, 32, .ro, 0, .v, false⟩,
  ⟨0x00080040, [], 0, 64, .ro, 0, .a, true⟩,
  ⟨0x00080048, [], 0, 32, .ro, 0, .v, false⟩,
  ⟨0x0008004C, [], 0, 16, .ro, 0, .v, false⟩,
  ⟨0x0008004C, [], 16, 16, .ro, 0, .w, false⟩,
  ⟨0x00080050, [], 0, 1, .rw, 1, .w, false⟩,
  ⟨0x00080080, [], 0, 16, .rw, 0, .v, false⟩,
  ⟨0x00080080, [], 16, 1, .rw, 0, .v, false⟩,
  ⟨0x00080100, [(8, 16)], 0, 32, .ro, 0, .a, false⟩,
  ⟨0x00080104, [(8, 16)], 0, 32, .ro, 0, .a, false⟩,
  ⟨0x00080200, [], 0, 64, .ro, 0, .a, true⟩,
  ⟨0x00080208, [], 0, 64, .ro, 0, .a, true⟩,
  ⟨0x00080210, [], 0, 64, .ro, 0, .a, true⟩,
  ⟨0x00080218, [], 0, 64, .ro, 0, .a, true⟩,
  ⟨0x00080220, [], 0, 64, .ro, 0, .a, true⟩,
  ⟨0x00080228, [], 0, 64, .ro, 0, .a, true⟩,
  ⟨0x00080230, [], 0, 64, .ro, 0, .a, true⟩]

/-- Register rows of MAC. -/
def rowsMAC2 : List RegRow := [
  ⟨0x00080238, [], 0, 64, .ro, 0, .a, true⟩,
  ⟨0x00080240, [], 0, 64, .ro, 0, .a, true⟩,
  ⟨0x00080248, [], 0, 64, .ro, 0, .a, true⟩,
  ⟨0x00080250, [], 0, 64, .ro, 0, .a, true⟩,
  ⟨0x00080258, [], 0, 64, .ro, 0, .a, true⟩,
  ⟨0x00080260, [], 0, 64, .ro, 0, .a, true⟩,
  ⟨0x00080268, [], 0, 64, .ro, 0, .a, true⟩,
  ⟨0x00080270, [], 0, 64, .ro, 0, .a, true⟩]

/-- Register rows of MSH. -/
def rowsMSH0 : List RegRow := [
  ⟨0x00090000, [], 0, 2, .img, 0, .i, false⟩,
  ⟨0x00090000, [], 2, 1, .ro, 0, .a, false⟩,
  ⟨0x00090000, [], 3, 1, .img, 0, .i, false⟩,
  ⟨0x00090004, [], 0, 1, .w1c, 0, .w, false⟩,
  ⟨0x00090004, [], 1, 1, .w1c, 0, .w, false⟩,
  ⟨0x00090004, [], 2, 1, .w1c, 0, .w, false⟩,
  ⟨0x00090004, [], 3, 1, .w1c, 0, .w, false⟩,
  ⟨0x00090004, [], 4, 1, .w1c, 0, .w, false⟩,
  ⟨0x00090004, [], 5, 1, .w1c, 0, .w, false⟩,
  ⟨0x00090004, [], 6, 1, .w1c, 0, .w, false⟩,
  ⟨0x00090008, [], 0, 16, .ro, 0, .a, false⟩,
  ⟨0x00090008, [], 16, 8, .ro, 255, .a, false⟩,
  ⟨0x0009000C, [], 0, 16, .ro, 0, .a, false⟩,
  ⟨0x00090010, [], 0, 16, .rw, 0, .w, false⟩,
  ⟨0x00090010, [], 16, 8, .rw, 0, .w, false⟩,
  ⟨0x00090010, [], 24, 8, .rw, 0, .w, false⟩,
  ⟨0x00090014, [], 0, 8, .rw, 0, .w, false⟩,
  ⟨0x00090014, [], 8, 8, .rw, 0, .w, false⟩,
  ⟨0x00090014, [], 16, 8, .rw, 0, .w, false⟩,
  ⟨0x00090014, [], 24, 8, .rw, 0, .w, false⟩,
  ⟨0x00090018, [], 0, 16, .rw, 0, .w, false⟩,
  ⟨0x00090018, [], 16, 12, .rw, 0, .w, false⟩,
  ⟨0x0009001C, [], 0, 8, .rw, 0, .w, false⟩,
  ⟨0x0009001C, [], 8, 6, .rw, 0, .w, false⟩,
  ⟨0x0009001C, [], 14, 8, .rw, 0, .w, false⟩]

/-- Register rows of MSH. -/
def rowsMSH1 : List RegRow := [
  ⟨0x00090020, [], 0, 9, .img, 0, .i, false⟩,
  ⟨0x00090020, [], 9, 8, .rw, 0, .w, false⟩,
  ⟨0x00090020, [], 17, 4, .rw, 0, .w, false⟩,
  ⟨0x00090020, [], 21, 3, .rw, 0, .w, false⟩,
  ⟨0x00090020, [], 24, 4, .rw, 0, .w, false⟩,
  ⟨0x00090024, [], 0, 8, .ro, 0, .a, false⟩,
  ⟨0x00090024, [], 8, 2, .ro, 0, .a, false⟩,
  ⟨0x00090024, [], 10, 2, .ro, 0, .a, false⟩,
  ⟨0x00090024, [], 12, 8, .ro, 0, .a, false⟩,
  ⟨0x00090028, [], 0, 16, .ro, 65535, .a, false⟩,
  ⟨0x0009002C, [], 0, 16, .ro, 0, .w, false⟩,
  ⟨0x0009002C, [], 16, 2, .ro, 0, .v, false⟩,
  ⟨0x00090030, [], 0, 32, .ro, 0, .w, false⟩,
  ⟨0x00090034, [], 0, 16, .rw, 0, .w, false⟩,
  ⟨0x00090034, [], 16, 1, .w1s, 0, .v, false⟩,
  ⟨0x00090038, [], 0, 16, .ro, 0, .a, false⟩,
  ⟨0x00090038, [], 16, 16, .ro, 0, .a, false⟩,
  ⟨0x0009003C, [], 0, 18, .ro, 0, .a, false⟩,
  ⟨0x00090100, [], 0, 64, .ro, 0, .a, true⟩,
  ⟨0x00090108, [], 0, 64, .ro, 0, .a, true⟩,
  ⟨0x00090110, [], 0, 64, .ro, 0, .a, true⟩,
  ⟨0x00090118, [], 0, 64, .ro, 0, .a, true⟩,
  ⟨0x00090120, [], 0, 64, .ro, 0, .a, true⟩,
  ⟨0x00090128, [], 0, 64, .ro, 0, .a, true⟩,
  ⟨0x00090130, [], 0, 64, .ro, 0, .a, true⟩]

/-- Register rows of MSH. -/
def rowsMSH2 : List RegRow := [
  ⟨0x00090138, [], 0, 64, .ro, 0, .a, true⟩,
  ⟨0x00090140, [], 0, 64, .ro, 0, .a, true⟩,
  ⟨0x00090148, [], 0, 64, .ro, 0, .a, true⟩,
  ⟨0x00090150, [], 0, 64, .ro, 0, .a, true⟩,
  ⟨0x00090158, [], 0, 64, .ro, 0, .a, true⟩]

/-- Register rows of QMG. -/
def rowsQMG0 : List RegRow := [
  ⟨0x000A0000, [], 0, 1, .ro, 0, .v, false⟩,
  ⟨0x000A0000, [], 1, 1, .ro, 0, .a, false⟩,
  ⟨0x000A0000, [], 2, 1, .ro, 0, .w, false⟩,
  ⟨0x000A0004, [], 0, 1, .w1c, 0, .w, false⟩,
  ⟨0x000A0004, [], 1, 1, .w1c, 0, .w, false⟩,
  ⟨0x000A0004, [], 2, 1, .w1c, 0, .w, false⟩,
  ⟨0x000A0004, [], 3, 1, .w1c, 0, .w, false⟩,
  ⟨0x000A0004, [], 4, 1, .w1c, 0, .w, false⟩,
  ⟨0x000A0004, [], 5, 1, .w1c, 0, .w, false⟩,
  ⟨0x000A0004, [], 6, 1, .w1c, 0, .w, false⟩,
  ⟨0x000A0004, [], 7, 1, .w1c, 0, .w, false⟩,
  ⟨0x000A0004, [], 8, 1, .w1c, 0, .w, false⟩,
  ⟨0x000A0004, [], 9, 1, .w1c, 0, .w, false⟩,
  ⟨0x000A0004, [], 10, 1, .w1c, 0, .w, false⟩,
  ⟨0x000A0008, [], 0, 12, .wo, 0, .v, false⟩,
  ⟨0x000A0008, [], 12, 4, .wo, 0, .v, false⟩,
  ⟨0x000A000C, [], 0, 1, .ro, 0, .v, false⟩,
  ⟨0x000A000C, [], 1, 1, .ro, 0, .v, false⟩,
  ⟨0x000A0010, [], 0, 12, .rw, 0, .v, false⟩,
  ⟨0x000A0060, [], 0, 17, .ro, 0, .a, false⟩,
  ⟨0x000A0064, [], 0, 27, .ro, 0, .a, false⟩,
  ⟨0x000A0068, [], 0, 27, .img, 0, .i, false⟩,
  ⟨0x000A0100, [], 0, 4096, .w1c, 0, .w, false⟩,
  ⟨0x000A0300, [], 0, 64, .ro, 0, .a, true⟩,
  ⟨0x000A0308, [], 0, 64, .ro, 0, .a, true⟩]

/-- Register rows of QMG. -/
def rowsQMG1 : List RegRow := [
  ⟨0x000A0310, [], 0, 64, .ro, 0, .a, true⟩,
  ⟨0x000A0318, [], 0, 64, .ro, 0, .a, true⟩,
  ⟨0x000A0320, [], 0, 64, .ro, 0, .a, true⟩,
  ⟨0x000A0328, [], 0, 64, .ro, 0, .a, true⟩,
  ⟨0x000A0330, [], 0, 64, .ro, 0, .a, true⟩,
  ⟨0x000A0338, [], 0, 64, .ro, 0, .a, true⟩,
  ⟨0x000A0340, [], 0, 64, .ro, 0, .a, true⟩,
  ⟨0x000A0348, [], 0, 64, .ro, 0, .a, true⟩,
  ⟨0x000A0350, [], 0, 64, .ro, 0, .a, true⟩,
  ⟨0x000A0358, [], 0, 64, .ro, 0, .a, true⟩,
  ⟨0x000A0360, [], 0, 64, .ro, 0, .a, true⟩,
  ⟨0x000A0368, [], 0, 64, .ro, 0, .a, true⟩,
  ⟨0x000A0370, [], 0, 64, .ro, 0, .a, true⟩,
  ⟨0x000A0378, [], 0, 64, .ro, 0, .a, true⟩]

/-- Register rows of CUS. -/
def rowsCUS0 : List RegRow := [
  ⟨0x000B0000, [], 0, 1, .ro, 0, .v, false⟩,
  ⟨0x000B0000, [], 1, 1, .ro, 0, .v, false⟩,
  ⟨0x000B0000, [], 2, 1, .ro, 0, .v, false⟩,
  ⟨0x000B0004, [], 0, 1, .w1c, 0, .w, false⟩,
  ⟨0x000B0004, [], 1, 1, .w1c, 0, .w, false⟩,
  ⟨0x000B0004, [], 2, 1, .w1c, 0, .w, false⟩,
  ⟨0x000B0004, [], 3, 1, .w1c, 0, .w, false⟩,
  ⟨0x000B0004, [], 4, 1, .w1c, 0, .a, false⟩,
  ⟨0x000B0004, [], 5, 1, .w1c, 0, .a, false⟩,
  ⟨0x000B0004, [], 6, 1, .w1c, 0, .a, false⟩,
  ⟨0x000B0004, [], 7, 1, .w1c, 0, .w, false⟩,
  ⟨0x000B0004, [], 8, 1, .w1c, 0, .w, false⟩,
  ⟨0x000B0008, [], 0, 32, .ro, 0, .p, false⟩,
  ⟨0x000B000C, [], 0, 20, .ro, 0, .p, false⟩,
  ⟨0x000B0010, [], 0, 32, .ro, 0, .p, false⟩,
  ⟨0x000B0014, [], 0, 19, .ro, 0, .a, false⟩,
  ⟨0x000B0020, [], 0, 32, .rw, 0, .p, false⟩,
  ⟨0x000B0024, [], 0, 128, .rw, 0, .p, false⟩,
  ⟨0x000B0040, [], 0, 11, .rw, 0, .v, false⟩,
  ⟨0x000B0100, [], 0, 64, .ro, 0, .a, true⟩,
  ⟨0x000B0108, [], 0, 64, .ro, 0, .a, true⟩,
  ⟨0x000B0110, [], 0, 64, .ro, 0, .a, true⟩,
  ⟨0x000B0118, [], 0, 64, .ro, 0, .a, true⟩,
  ⟨0x000B0120, [], 0, 64, .ro, 0, .a, true⟩,
  ⟨0x000B0128, [], 0, 64, .ro, 0, .a, true⟩]

/-- Register rows of CUS. -/
def rowsCUS1 : List RegRow := [
  ⟨0x000B0130, [], 0, 64, .ro, 0, .a, true⟩,
  ⟨0x000B0138, [], 0, 64, .ro, 0, .a, true⟩,
  ⟨0x000B0140, [], 0, 64, .ro, 0, .a, true⟩,
  ⟨0x000B0148, [], 0, 64, .ro, 0, .a, true⟩,
  ⟨0x000B0150, [], 0, 64, .ro, 0, .a, true⟩,
  ⟨0x000B0158, [], 0, 64, .ro, 0, .a, true⟩,
  ⟨0x000B0160, [], 0, 64, .ro, 0, .a, true⟩,
  ⟨0x000B0168, [], 0, 64, .ro, 0, .a, true⟩,
  ⟨0x000B0170, [], 0, 64, .ro, 0, .a, true⟩]

/-- Register rows of SEN. -/
def rowsSEN0 : List RegRow := [
  ⟨0x000C0000, [], 0, 8, .ro, 0, .v, false⟩,
  ⟨0x000C0000, [], 8, 8, .ro, 0, .v, false⟩,
  ⟨0x000C0000, [], 16, 8, .ro, 0, .v, false⟩,
  ⟨0x000C0000, [], 24, 1, .ro, 0, .v, false⟩,
  ⟨0x000C0000, [], 25, 1, .ro, 0, .v, false⟩,
  ⟨0x000C0004, [], 0, 8, .w1c, 0, .w, false⟩,
  ⟨0x000C0004, [], 8, 8, .w1c, 0, .w, false⟩,
  ⟨0x000C0004, [], 16, 8, .w1c, 0, .w, false⟩,
  ⟨0x000C0004, [], 24, 8, .w1c, 0, .w, false⟩,
  ⟨0x000C0008, [], 0, 4, .wo, 0, .v, false⟩,
  ⟨0x000C0008, [], 4, 3, .wo, 0, .v, false⟩,
  ⟨0x000C000C, [], 0, 10, .rw, 0, .w, false⟩,
  ⟨0x000C0010, [], 0, 16, .rw, 0, .w, false⟩,
  ⟨0x000C0014, [], 0, 32, .ro, 0, .v, false⟩,
  ⟨0x000C0020, [(4, 8)], 0, 3, .rw, 0, .w, false⟩,
  ⟨0x000C0020, [(4, 8)], 3, 1, .rw, 0, .w, false⟩,
  ⟨0x000C0020, [(4, 8)], 4, 1, .rw, 0, .w, false⟩,
  ⟨0x000C0020, [(4, 8)], 5, 4, .rw, 0, .w, false⟩,
  ⟨0x000C0020, [(4, 8)], 9, 8, .rw, 0, .w, false⟩,
  ⟨0x000C0020, [(4, 8)], 17, 8, .rw, 0, .w, false⟩,
  ⟨0x000C0040, [(4, 8)], 0, 3, .img, 0, .i, false⟩,
  ⟨0x000C0040, [(4, 8)], 3, 3, .img, 0, .i, false⟩,
  ⟨0x000C0040, [(4, 8)], 6, 2, .img, 0, .i, false⟩,
  ⟨0x000C0040, [(4, 8)], 8, 1, .img, 0, .i, false⟩,
  ⟨0x000C0060, [(4, 8)], 0, 16, .ro, 65535, .v, false⟩]

/-- Register rows of SEN. -/
def rowsSEN1 : List RegRow := [
  ⟨0x000C0100, [(32, 8)], 0, 192, .ro, 0, .v, true⟩,
  ⟨0x000C0200, [], 0, 64, .ro, 0, .a, true⟩,
  ⟨0x000C0208, [], 0, 64, .ro, 0, .a, true⟩,
  ⟨0x000C0210, [], 0, 64, .ro, 0, .a, true⟩,
  ⟨0x000C0218, [], 0, 64, .ro, 0, .a, true⟩,
  ⟨0x000C0220, [], 0, 64, .ro, 0, .a, true⟩,
  ⟨0x000C0228, [], 0, 64, .ro, 0, .a, true⟩,
  ⟨0x000C0230, [], 0, 64, .ro, 0, .a, true⟩]

/-- Register rows of SER. -/
def rowsSER0 : List RegRow := [
  ⟨0x000D0000, [(4096, 2)], 0, 3, .rw, 3, .a, false⟩,
  ⟨0x000D0000, [(4096, 2)], 3, 3, .rw, 0, .a, false⟩,
  ⟨0x000D0000, [(4096, 2)], 6, 1, .rw, 0, .a, false⟩,
  ⟨0x000D0000, [(4096, 2)], 7, 1, .rw, 0, .a, false⟩,
  ⟨0x000D0000, [(4096, 2)], 8, 1, .rw, 0, .a, false⟩,
  ⟨0x000D0000, [(4096, 2)], 9, 1, .rw, 0, .a, false⟩,
  ⟨0x000D0000, [(4096, 2)], 10, 1, .rw, 0, .a, false⟩,
  ⟨0x000D0000, [(4096, 2)], 11, 1, .rw, 0, .a, false⟩,
  ⟨0x000D0004, [(4096, 2)], 0, 23, .rw, 301990, .a, false⟩,
  ⟨0x000D0008, [(4096, 2)], 0, 16, .rw, 50, .a, false⟩,
  ⟨0x000D0008, [(4096, 2)], 16, 8, .rw, 0, .a, false⟩,
  ⟨0x000D000C, [(4096, 2)], 0, 8, .rw, 0, .a, false⟩,
  ⟨0x000D000C, [(4096, 2)], 8, 8, .rw, 0, .a, false⟩,
  ⟨0x000D000C, [(4096, 2)], 16, 8, .rw, 16, .a, false⟩,
  ⟨0x000D0010, [(4096, 2)], 0, 12, .rw, 0, .a, false⟩,
  ⟨0x000D0010, [(4096, 2)], 12, 1, .rw, 0, .a, false⟩,
  ⟨0x000D0010, [(4096, 2)], 13, 1, .rw, 1, .a, false⟩,
  ⟨0x000D0010, [(4096, 2)], 16, 8, .rw, 64, .a, false⟩,
  ⟨0x000D0014, [(4096, 2)], 0, 16, .rw, 0, .a, false⟩,
  ⟨0x000D0018, [(4096, 2)], 0, 12, .rw, 0, .a, false⟩,
  ⟨0x000D0018, [(4096, 2)], 12, 1, .rw, 0, .a, false⟩,
  ⟨0x000D0020, [(4096, 2)], 0, 1, .ro, 0, .v, false⟩,
  ⟨0x000D0020, [(4096, 2)], 1, 1, .ro, 1, .v, false⟩,
  ⟨0x000D0020, [(4096, 2)], 2, 1, .ro, 0, .v, false⟩,
  ⟨0x000D0020, [(4096, 2)], 3, 1, .ro, 0, .v, false⟩]

/-- Register rows of SER. -/
def rowsSER1 : List RegRow := [
  ⟨0x000D0020, [(4096, 2)], 4, 1, .ro, 0, .v, false⟩,
  ⟨0x000D0020, [(4096, 2)], 5, 1, .rsc, 0, .v, false⟩,
  ⟨0x000D0020, [(4096, 2)], 6, 1, .rsc, 0, .v, false⟩,
  ⟨0x000D0020, [(4096, 2)], 7, 1, .rsc, 0, .v, false⟩,
  ⟨0x000D0024, [(4096, 2)], 0, 16, .ro, 0, .v, false⟩,
  ⟨0x000D0028, [(4096, 2)], 0, 9, .wo, 0, .v, false⟩,
  ⟨0x000D0028, [(4096, 2)], 9, 1, .wo, 0, .v, false⟩,
  ⟨0x000D002C, [(4096, 2)], 0, 1, .w1c, 0, .w, false⟩,
  ⟨0x000D002C, [(4096, 2)], 1, 1, .w1c, 0, .w, false⟩,
  ⟨0x000D002C, [(4096, 2)], 2, 1, .w1c, 0, .w, false⟩,
  ⟨0x000D0100, [(4096, 2)], 0, 64, .ro, 0, .a, true⟩,
  ⟨0x000D0108, [(4096, 2)], 0, 64, .ro, 0, .a, true⟩,
  ⟨0x000D0110, [(4096, 2)], 0, 64, .ro, 0, .a, true⟩,
  ⟨0x000D0118, [(4096, 2)], 0, 64, .ro, 0, .a, true⟩,
  ⟨0x000D0120, [(4096, 2)], 0, 64, .ro, 0, .a, true⟩,
  ⟨0x000D0128, [(4096, 2)], 0, 64, .ro, 0, .a, true⟩,
  ⟨0x000D0130, [(4096, 2)], 0, 64, .ro, 0, .a, true⟩,
  ⟨0x000D0138, [(4096, 2)], 0, 64, .ro, 0, .a, true⟩,
  ⟨0x000D0140, [(4096, 2)], 0, 64, .ro, 0, .a, true⟩]

/-- Register rows of TRU. -/
def rowsTRU0 : List RegRow := [
  ⟨0x000E0000, [], 0, 4, .ro, 15, .v, false⟩,
  ⟨0x000E0000, [], 4, 1, .ro, 0, .v, false⟩,
  ⟨0x000E0000, [], 5, 1, .ro, 0, .v, false⟩,
  ⟨0x000E0004, [], 0, 1, .w1c, 0, .w, false⟩,
  ⟨0x000E0004, [], 1, 1, .w1c, 0, .w, false⟩,
  ⟨0x000E0004, [], 2, 1, .w1c, 0, .w, false⟩,
  ⟨0x000E0008, [], 0, 11, .wo, 0, .v, false⟩,
  ⟨0x000E000C, [], 0, 16, .rw, 3600, .a, false⟩,
  ⟨0x000E000C, [], 16, 8, .rw, 50, .a, false⟩,
  ⟨0x000E000C, [], 24, 1, .rw, 0, .a, false⟩,
  ⟨0x000E000C, [], 25, 1, .rw, 1, .a, false⟩,
  ⟨0x000E0010, [], 0, 11, .ro, 0, .v, false⟩,
  ⟨0x000E0014, [], 0, 32, .ro, 0, .a, false⟩,
  ⟨0x000E0018, [], 0, 128, .ro, 0, .a, true⟩,
  ⟨0x000E0030, [], 0, 4, .rw, 0, .v, false⟩,
  ⟨0x000E0100, [], 0, 64, .ro, 0, .a, true⟩,
  ⟨0x000E0108, [], 0, 64, .ro, 0, .a, true⟩,
  ⟨0x000E0110, [], 0, 64, .ro, 0, .a, true⟩]

/-- Register rows of SEC. -/
def rowsSEC0 : List RegRow := [
  ⟨0x000F0000, [], 0, 4, .ro, 0, .a, false⟩,
  ⟨0x000F0000, [], 4, 1, .ro, 0, .a, false⟩,
  ⟨0x000F0000, [], 5, 1, .ro, 0, .a, false⟩,
  ⟨0x000F0000, [], 6, 1, .ro, 0, .a, false⟩,
  ⟨0x000F0000, [], 7, 1, .ro, 0, .a, false⟩,
  ⟨0x000F0004, [], 0, 1, .w1c, 0, .w, false⟩,
  ⟨0x000F0004, [], 1, 1, .w1c, 0, .w, false⟩,
  ⟨0x000F0004, [], 2, 1, .w1c, 0, .w, false⟩,
  ⟨0x000F0004, [], 3, 1, .w1c, 0, .w, false⟩,
  ⟨0x000F0004, [], 4, 1, .w1c, 0, .a, false⟩,
  ⟨0x000F0004, [], 5, 1, .w1c, 0, .a, false⟩,
  ⟨0x000F0004, [], 6, 1, .w1c, 0, .w, false⟩,
  ⟨0x000F0004, [], 7, 1, .w1c, 0, .w, false⟩,
  ⟨0x000F0008, [], 0, 4, .wo, 0, .v, false⟩,
  ⟨0x000F0008, [], 4, 2, .wo, 0, .v, false⟩,
  ⟨0x000F0008, [], 16, 16, .wo, 0, .v, false⟩,
  ⟨0x000F000C, [], 0, 2, .ro, 0, .v, false⟩,
  ⟨0x000F0010, [], 0, 1, .rw, 0, .p, false⟩,
  ⟨0x000F0010, [], 1, 1, .rw, 0, .p, false⟩,
  ⟨0x000F0010, [], 8, 8, .rw, 24, .p, false⟩,
  ⟨0x000F0010, [], 16, 8, .rw, 60, .p, false⟩,
  ⟨0x000F0010, [], 24, 8, .rw, 16, .p, false⟩,
  ⟨0x000F0018, [], 0, 32, .ro, 0, .a, false⟩,
  ⟨0x000F0020, [], 0, 256, .rw, 0, .v, false⟩,
  ⟨0x000F0040, [], 0, 1024, .rw, 0, .v, false⟩]

/-- Register rows of SEC. -/
def rowsSEC1 : List RegRow := [
  ⟨0x000F00C0, [], 0, 13, .ro, 0, .v, false⟩,
  ⟨0x000F0400, [(8, 64)], 0, 32, .ro, 0, .p, false⟩,
  ⟨0x000F0404, [(8, 64)], 0, 32, .ro, 0, .p, false⟩,
  ⟨0x000F0600, [], 0, 64, .ro, 0, .a, true⟩,
  ⟨0x000F0608, [], 0, 64, .ro, 0, .a, true⟩,
  ⟨0x000F0610, [], 0, 64, .ro, 0, .a, true⟩,
  ⟨0x000F0618, [], 0, 64, .ro, 0, .a, true⟩,
  ⟨0x000F0620, [], 0, 64, .ro, 0, .a, true⟩,
  ⟨0x000F0628, [], 0, 64, .ro, 0, .a, true⟩,
  ⟨0x000F0630, [], 0, 64, .ro, 0, .a, true⟩,
  ⟨0x000F0638, [], 0, 64, .ro, 0, .a, true⟩,
  ⟨0x000F2000, [], 0, 65536, .ro, 0, .v, false⟩]

/-- Register rows of Slice. -/
def rowsSlice0 : List RegRow := [
  ⟨0x01000000, [(1048576, 8), (65536, 4)], 0, 16, .ro, 0, .v, false⟩,
  ⟨0x01000004, [(1048576, 8), (65536, 4)], 0, 16, .rw, 0, .v, false⟩,
  ⟨0x01000008, [(1048576, 8), (65536, 4)], 0, 64, .ro, 0, .a, true⟩,
  ⟨0x01040000, [(1048576, 8)], 0, 4, .w1c, 0, .w, false⟩,
  ⟨0x01040000, [(1048576, 8)], 4, 4, .w1c, 0, .w, false⟩,
  ⟨0x01040004, [(1048576, 8)], 0, 9, .ro, 0, .w, false⟩,
  ⟨0x01040004, [(1048576, 8)], 16, 16, .ro, 0, .w, false⟩,
  ⟨0x01040008, [(1048576, 8)], 0, 64, .ro, 0, .a, true⟩,
  ⟨0x01040010, [(1048576, 8)], 0, 64, .ro, 0, .a, true⟩,
  ⟨0x01040018, [(1048576, 8)], 0, 64, .ro, 0, .a, true⟩,
  ⟨0x01040020, [(1048576, 8)], 0, 64, .w1c, 0, .a, false⟩,
  ⟨0x01040028, [(1048576, 8)], 0, 1, .ro, 0, .a, false⟩,
  ⟨0x01040028, [(1048576, 8)], 1, 9, .ro, 0, .a, false⟩,
  ⟨0x01040030, [(1048576, 8)], 0, 64, .ro, 0, .a, true⟩,
  ⟨0x01080000, [(1048576, 8), (4096, 65)], 0, 1, .ro, 0, .v, false⟩,
  ⟨0x01080000, [(1048576, 8), (4096, 65)], 1, 1, .w1s, 0, .v, false⟩,
  ⟨0x01080004, [(1048576, 8), (4096, 65)], 0, 14, .ro, 0, .v, false⟩,
  ⟨0x01080100, [(1048576, 8), (4096, 65), (4, 32)], 0, 32, .rw, 0, .v, false⟩,
  ⟨0x01080200, [(1048576, 8), (4096, 65), (4, 128)], 0, 32, .rw, 0, .v, false⟩,
  ⟨0x01080400, [(1048576, 8), (4096, 65)], 0, 16, .rw, 0, .v, false⟩,
  ⟨0x01080404, [(1048576, 8), (4096, 65)], 0, 32, .rw, 0, .v, false⟩]

/-- Every row of the register tables. -/
def regRows : List RegRow :=
  rowsGLB0 ++
  rowsPWR0 ++
  rowsPWR1 ++
  rowsTRB0 ++
  rowsTRB1 ++
  rowsIMG0 ++
  rowsIMG1 ++
  rowsTIM0 ++
  rowsTIM1 ++
  rowsTIM2 ++
  rowsTIM3 ++
  rowsSPR0 ++
  rowsLFE0 ++
  rowsLFE1 ++
  rowsPHY0 ++
  rowsPHY1 ++
  rowsPHY2 ++
  rowsPHY3 ++
  rowsMAC0 ++
  rowsMAC1 ++
  rowsMAC2 ++
  rowsMSH0 ++
  rowsMSH1 ++
  rowsMSH2 ++
  rowsQMG0 ++
  rowsQMG1 ++
  rowsCUS0 ++
  rowsCUS1 ++
  rowsSEN0 ++
  rowsSEN1 ++
  rowsSER0 ++
  rowsSER1 ++
  rowsTRU0 ++
  rowsSEC0 ++
  rowsSEC1 ++
  rowsSlice0

end Sys2Proof.Machine
end

