-- ==== Sys2Proof/Machine/Retain.lean ====
section
/-! DEFINITION. Retention (R10, R11, R457): which class each register field has, and the return of whole classes to
their reset values. -/

namespace Sys2Proof.Machine

/-- Whether a distance in bits from a row's first field is an instance of the row. -/
def instanceAt : List (Nat × Nat) → Nat → Bool
  | [], d => d == 0
  | (s, c) :: l, d => instanceAt l (d - 8 * s * min (d / (8 * s)) (c - 1))

/-- The row that a field key belongs to. -/
def rowOfKey (k : Nat) : Option RegRow :=
  regRows.find? (fun r => decide (8 * r.addr + r.lo ≤ k) && instanceAt r.dims (k - (8 * r.addr + r.lo)))

/-- The retention class of a field, by key; a key of no row is volatile. -/
def keepOf (k : Nat) : Keep := match rowOfKey k with | some r => r.keep | none => .v

/-- Return every field that `drop` selects, by key and class, to its reset value. -/
def Block.resetFields (b : Block) (drop : Nat → Keep → Bool) : Block :=
  let kept := b.regs.filter (fun e => !drop e.1 (keepOf e.1))
  { b with regs := (resetRegs.filter (fun e => drop e.1 (keepOf e.1))).foldl (fun t e => Tab.set 0 t e.1 e.2) kept }

/-- The classes that a power-on reset loses (R457). -/
def lostAtPowerOn (_ : Nat) : Keep → Bool
  | .p => false
  | _ => true

/-- The classes that a warm, watchdog or image reset, and Standby, return (R457). -/
def lostAtReset (_ : Nat) : Keep → Bool
  | .p => false
  | .a => false
  | _ => true

/-- The classes that the entry to Standby returns (R11, R457). -/
def lostAtStandby (_ : Nat) : Keep → Bool
  | .w => true
  | .v => true
  | _ => false

/-- Class I alone (R449). -/
def lostImage (_ : Nat) : Keep → Bool
  | .i => true
  | _ => false

/-- The key lies in the window of slice `s` (R24). -/
def inSlice (s k : Nat) : Bool := decide (8 * (0x1000000 + 0x100000 * s) ≤ k ∧ k < 8 * (0x1100000 + 0x100000 * s))

/-- The class W and V fields of one slice (R454). -/
def lostAtSliceReset (s k : Nat) : Keep → Bool
  | .w => inSlice s k
  | .v => inSlice s k
  | _ => false

end Sys2Proof.Machine
end

