-- ==== Sys2Proof/Machine/Power.lean ====
section
/-! DEFINITION. The power manager's shared operations: the load-step ration (R447, R448), the pins in each mode (R60,
R67, R458), and the change of mode (R437–R442). -/

namespace Sys2Proof.Machine

/-- Costs of R447, in 0.1 W. -/
def Load.cost : Load → Nat
  | .slice _ => 25
  | .cluster _ _ => 6
  | .drvH _ => 30
  | .drvL => 20
  | .ddr => 15
  | .cage _ => 15
  | .heater => 30

/-- The load is enabled already. -/
def Block.loaded (b : Block) : Load → Bool
  | .slice s => b.bit R.PWR_GATES_SLICE_ON s && !b.bit R.PWR_GATES_SLICE_RET s
  | .cluster _ _ => false
  | .drvH p => b.bit R.PWR_GATES_DRV_H p
  | .drvL => b.flag R.PWR_GATES_DRV_L
  | .ddr => b.power.ddrAwake
  | .cage j => (b.modl.cages.getD j {}).powered
  | .heater => b.power.heater

/-- A cage without power (R70): TX_DISABLE is driven high, the rate selects low. -/
def Cage.off (c : Cage) : Cage := { c with powered := false, txDisable := true, rs0 := false, rs1 := false }

/-- A cage with power: the transmitter is released, the rate selects are held at full rate (high; PRESUMED, assumption 113). -/
def Cage.on (c : Cage) : Cage := { c with powered := true, txDisable := false, rs0 := true, rs1 := true }

/-- Change one cage. -/
def Block.modCage (b : Block) (j : Nat) (f : Cage → Cage) : Block :=
  { b with modl := { b.modl with cages := b.modl.cages.modify j f } }

/-- Enable a load that has been granted. -/
def Block.enable (b : Block) : Load → Block
  | .slice s => (b.raise R.PWR_GATES_SLICE_ON s).clear R.PWR_GATES_SLICE_RET (2 ^ s)
  | .cluster _ _ => b
  | .drvH p => if b.bit R.TRB_PORT_FAILED p then b else b.raise R.PWR_GATES_DRV_H p
  | .drvL => b.set R.PWR_GATES_DRV_L 1
  | .ddr => { b with power := { b.power with ddrAwake := true } }
  | .cage j => b.modCage j (fun c => if c.present && !c.refused then c.on else c)
  | .heater => { b with power := { b.power with heater := true } }

/-- The cost granted in the 25 ticks that end with the current one. -/
def Block.granted (b : Block) : Nat := ((b.power.grants.filter (fun g => b.tick < g.1 + 25)).map (fun g => g.2)).sum

/-- PWR_RATION follows the grants and the queues (R460). -/
def Block.showRation (b : Block) : Block :=
  (b.usat R.PWR_RATION_WINDOW b.granted).usat R.PWR_RATION_QUEUED (b.power.txReqs.length + b.power.reqs.length)

/-- Insert a transmit start by deadline (R448). -/
def insertReq (r : LoadReq) : List LoadReq → List LoadReq
  | [] => [r]
  | x :: l => if r.deadline.getD 0 < x.deadline.getD 0 then r :: x :: l else x :: insertReq r l

/-- Queue an enable request (R448); a load that is on, or already requested in that queue, is not queued again. -/
def Block.request (b : Block) (l : Load) (deadline : Option Nat) : Block :=
  if b.loaded l then b
  else
    let r : LoadReq := { load := l, deadline := deadline }
    let b := match deadline with
      | some _ => { b with power := { b.power with txReqs := insertReq r b.power.txReqs } }
      | none =>
        if b.power.reqs.any (fun x => x.load = l) then b
        else { b with power := { b.power with reqs := b.power.reqs ++ [r] } }
    b.showRation

/-- Grant the head of a queue while it fits 4.0 W in 25 ticks (R447); requests whose load is on are removed. -/
def Block.grantFrom : List LoadReq → Block → List LoadReq × Block
  | [], b => ([], b)
  | r :: l, b =>
    if b.loaded r.load then Block.grantFrom l b
    else if b.granted + r.load.cost ≤ 40 then
      Block.grantFrom l
        ({ b with power := { b.power with grants := b.power.grants ++ [(b.tick, r.load.cost)] } }.enable r.load)
    else (r :: l, b)

/-- A transmit start still waiting one tick after its deadline becomes a delayed start (R448, worked example). -/
def Block.lateStarts : List LoadReq → Block → List LoadReq × Block
  | [], b => ([], b)
  | r :: l, b =>
    let late := !r.delayed && decide (r.deadline.getD 0 + 1 ≤ b.tick)
    let b := if late then b.count R.PWR_RATION_DELAY_COUNT R.PWR_TROUBLE_RATION_DELAY else b
    let (l, b) := Block.lateStarts l b
    ({ r with delayed := r.delayed || late } :: l, b)

/-- The grants of one tick boundary (R448): transmit starts first, then the rest in arrival order. A transmit start
that waits holds the others back (assumption 20). -/
def Block.grantLoads (b : Block) : Block :=
  let b := { b with power := { b.power with grants := b.power.grants.filter (fun g => b.tick < g.1 + 25) } }
  let (tx, b) := Block.grantFrom b.power.txReqs b
  let (tx, b) := Block.lateStarts tx b
  let b := { b with power := { b.power with txReqs := tx } }
  let b :=
    if tx.isEmpty then
      let (rs, b) := Block.grantFrom b.power.reqs b
      { b with power := { b.power with reqs := rs } }
    else b
  let unmet (r : LoadReq) : Bool := !b.loaded r.load
  { b with power := { b.power with txReqs := b.power.txReqs.filter unmet, reqs := b.power.reqs.filter unmet } }.showRation

/-- The 33 X2 signal pins of PIN_PLAN, in entry order (R67). -/
def x2Pins : List Nat :=
  [5, 6, 7, 8, 9, 11, 12, 13, 14, 17, 18, 19, 20, 23, 25, 27, 29, 31, 33, 34, 35, 36, 37, 38, 39, 40, 43, 44, 47, 48, 49,
   50, 51]

/-- The input-only pins of X2. -/
def x2Inputs : List Nat := [5, 6, 7, 12, 18, 25, 27, 29, 31, 47, 48, 49, 51]

/-- The PIN_PLAN entry of a pin. -/
def Block.pinEntry (b : Block) (pin : Nat) : Nat := b.modl.pinPlan.getD (x2Pins.idxOf pin) 0

/-- An open-drain output (R67): ALERT_N, I2C_SCL and I2C_SDA by construction, a GPIO by its OD bit. -/
def Block.openDrain (b : Block) (pin : Nat) : Bool := (b.pinEntry pin).testBit 4 || pin == 9 || pin == 43 || pin == 44

/-- Drive a pin to a level; an open-drain pin (R67) is released instead of driven high. -/
def Block.drive (b : Block) (pin : Nat) (v : Bool) : Block :=
  if (b.pinEntry pin).testBit 0 then
    let l : Level := if v then (if b.openDrain pin then .z else .high) else .low
    { b with modl := { b.modl with pins := Tab.set .z b.modl.pins pin l } }
  else b

/-- PPS_LV is no longer driven (R69). -/
def Block.ppsLvOff (b : Block) : Block := { b with modl := { b.modl with pins := Tab.set .z b.modl.pins 23 .z } }

/-- The timing outputs return to high impedance (R69, R241). -/
def Block.outputsOff (b : Block) : Block := b.ppsLvOff.set R.TIM_STAT_OUT_ACTIVE 0

/-- Every X2 output goes to high impedance or is released (R60). -/
def Block.pinsOff (b : Block) : Block := { b with modl := { b.modl with pins := [] } }

/-- PIN_PLAN takes effect: each enabled output takes its initial level (R60), but PPS_LV (R69) and ALERT_N (R463). -/
def Block.pinsOn (b : Block) : Block :=
  (x2Pins.filter (fun p => p ≠ 9 ∧ p ≠ 23)).foldl (fun b p => b.drive p ((b.pinEntry p).testBit 1)) b.pinsOff

/-- The outputs take their STBY states (R67, R68); PPS_LV is high impedance in M9 (R69). -/
def Block.pinsStandby (b : Block) : Block :=
  let b := b.ppsLvOff
  (x2Pins.filter (fun p => p ≠ 23)).foldl (fun b p =>
    let e := b.pinEntry p
    if e.testBit 0 then
      let st := bits e 2 2
      if st = 1 then b.drive p false
      else if st = 2 then b.drive p true
      else if st = 3 then { b with modl := { b.modl with pins := Tab.set .z b.modl.pins p .z } }
      else b
    else b) b

/-- READY is high in M4 to M10 (X2 pin 8); in M9 the STBY state governs (R68), in M3 and M11 the initial level. -/
def Block.showReady (b : Block) : Block :=
  if 4 ≤ b.mode ∧ b.mode ≤ 10 ∧ b.mode ≠ 9 then b.drive 8 true else b

/-- J3 is active in M2 to M8, M10 and M11 (R71). -/
def j3Active (m : Nat) : Bool := decide (2 ≤ m ∧ m ≠ 9)

/-- The role of the running image: 0 head-end, 1 relay, 2 leaf (R287, MSH_STAT). -/
def Block.role (b : Block) : Nat := b.get R.MSH_STAT_ROLE

/-- The node is the coordinator: its running image has the head-end role. -/
def Block.coordinator (b : Block) : Bool := b.image.run.isSome && b.role == 0 && decide (3 ≤ b.mode ∧ b.mode ≠ 11)

/-- The mode registers take a new mode (R460). -/
def Block.setMode (b : Block) (m : Nat) : Block :=
  let prev := b.mode
  let b := (b.set R.PWR_MODE_MODE m).set R.PWR_MODE_PREV prev
  { b with power := { b.power with modeTick := b.tick }, modl := { b.modl with j3 := j3Active m } }

/-- A request that R440 lists for the host (or, with `coord`, the coordinator) from a mode. `dozeOk`: leaf role, DOZE 1
and associated. -/
def requestPermitted (src dst : Nat) (headEnd dozeOk coord : Bool) : Bool :=
  match dst with
  | 4 => (src == 6 || src == 7) && !headEnd && !coord
  | 6 => src == 8
  | 8 => src == 6 && dozeOk && !headEnd
  | 9 => src == 6 || src == 7 || src == 8
  | 10 => src == 4 || src == 6 || src == 7
  | _ => false

/-- A refused mode request (R442). -/
def Block.refuseMode (b : Block) : Block := b.count R.PWR_MODE_REFUSED_COUNT R.PWR_TROUBLE_MODE_REFUSED

end Sys2Proof.Machine
end

