-- ==== Sys2Proof/Machine/Tables.lean ====
section
/-! DEFINITION. Table memory (R291–R296, R493): the entries of the node, peer security, forwarding and link-state tables
at their window addresses, and the segments of the running image. -/

namespace Sys2Proof.Machine

/-- Addresses of table entries (R291, R296). -/
def linkAt (i : Nat) : Nat := 0x40000000 + 32 * i
def nodeAt (a : Nat) : Nat := 0x40400000 + 64 * (a % 0x4000)
def peerAt (a : Nat) : Nat := 0x40500000 + 64 * (a % 0x4000)
def fwdAt (a : Nat) : Nat := 0x40600000 + 32 * (a % 0x4000)

/-- The number of link-state entries the table holds (R18, R296). -/
def linkSlots : Nat := 131072

/-- A little-endian field of `n` bytes of a table. -/
def Block.tab (b : Block) (a n : Nat) : Nat := b.tables.num a n

/-- Write a little-endian field of a table. -/
def Block.setTab (b : Block) (a n v : Nat) : Block := { b with tables := b.tables.setNum a v n }

/-- Write bytes to table memory. -/
def Block.putTab (b : Block) (a : Nat) (l : List Byte) : Block := { b with tables := b.tables.store a l }

/-- Node-table fields (R292) by offset. -/
def Block.node (b : Block) (a off n : Nat) : Nat := b.tab (nodeAt a + off) n

/-- Write a node-table field. -/
def Block.setNode (b : Block) (a off n v : Nat) : Block := b.setTab (nodeAt a + off) n v

/-- The node has a node-table entry (R291). -/
def Block.hasNode (b : Block) (a : Nat) : Bool := decide (1 ≤ a ∧ a ≤ 0x3FFF) && b.node a 8 2 != 0

/-- The EUI-64 of a node-table entry. -/
def Block.euiOf (b : Block) (a : Nat) : Nat := b.node a 0 8

/-- The short addresses with an entry in the node table: those whose SHORT field is listed in memory. -/
def Block.nodes (b : Block) : List Nat :=
  ((b.tables.filter (fun c => 0x40400000 ≤ c.1 ∧ c.1 < 0x40500000)).map (fun c => (c.1 - 0x40400000) / 64)).dedup.filter
    b.hasNode

/-- The own short address (R264). -/
def Block.short (b : Block) : Nat := b.get R.MAC_ADDR_SHORT

/-- The forwarding entry of a destination is not empty (R294). -/
def Block.hasFwd (b : Block) (a : Nat) : Bool := decide (1 ≤ a ∧ a ≤ 0x3FFF) && b.tab (fwdAt a) 2 != 0

/-- The indices of the link-state entries in use (R295). -/
def Block.linksUsed (b : Block) : List Nat :=
  ((b.tables.filter (fun c => 0x40000000 ≤ c.1 ∧ c.1 < 0x40400000)).map (fun c => (c.1 - 0x40000000) / 32)).dedup.filter
    (fun i => b.tab (linkAt i) 2 != 0)

/-- MSH_NODES and MSH_LS_USED follow the coordinator's tables (R317). -/
def Block.showMesh (b : Block) : Block :=
  if b.role = 0 then
    let l := b.nodes.map (fun a => b.node a 11 1)
    ((b.set R.MSH_NODES_ACTIVE (l.count 2)).set R.MSH_NODES_LOST (l.count 3)).set R.MSH_LS_USED b.linksUsed.length
  else b

/-- The payload of the running image's segment of a kind (R86); empty where there is none. -/
def Block.segment (b : Block) (kind : Nat) : List Byte :=
  match b.image.run with
  | some i => match i.segs.find? (fun g => g.kind == kind && g.slice == 0xFF) with
    | some g => g.data
    | none => []
  | none => []

/-- The segments a block is set up from. -/
def Block.bandPlan (b : Block) : List Byte := b.segment 6
def Block.macRole (b : Block) : List Byte := b.segment 7
def Block.tableInit (b : Block) : List Byte := b.segment 8
def Block.timingSeg (b : Block) : List Byte := b.segment 11

/-- The network ID in force. -/
def Block.netId (b : Block) : Nat := b.get R.MAC_ADDR_NET_ID

/-- A profile of a port and band; none when disabled (R148). -/
def Block.profile (b : Block) (band p : Nat) : Option Nat :=
  let v := if band = 0 then b.get (R.LFE_CFG_H_PROFILE p) else b.get (R.LFE_CFG_L_PROFILE p)
  if v = 7 ∨ 4 ≤ p then none else some v

/-- A node's entry is empty, and so are its link-quality records (R208). -/
def Block.emptyNode (b : Block) (a : Nat) : Block :=
  let b := b.putTab (nodeAt a) (List.replicate 64 0)
  { b with phy := { b.phy with links := b.phy.links.filter (fun e => e.1 / 2 != a) } }

/-- A fresh record for a peer heard for the first time (R292): an entry is created with its EUI unknown. -/
def Block.noteNeighbour (b : Block) (a : Nat) : Block :=
  if 1 ≤ a ∧ a ≤ 0x3FFF ∧ b.hasNode a = false ∧ a ≠ b.short then
    ((((b.setNode a 8 2 a).setNode a 10 1 0xFF).setNode a 11 1 2).setNode a 14 2 0xFFFF).setNode a 34 2 0xFFFF
  else b

end Sys2Proof.Machine
end

