-- ==== Sys2Proof/Machine/Link.lean ====
section
/-! DEFINITION. Link quality and mode selection (R197–R206): required SNR, the records, margin feedback, the ladder. -/

namespace Sys2Proof.Machine

/-- E(mod, rate) of R199 in 0.1 dB. -/
def reqE (mod rate : Nat) : Int :=
  match mod, rate with
  | 0, 0 => -14
  | 0, 1 => 6
  | 0, 2 => 16
  | 0, _ => 26
  | 1, 0 => 16
  | 1, 1 => 36
  | 1, 2 => 46
  | 1, _ => 56
  | _, 0 => 52
  | _, 1 => 72
  | _, 2 => 82
  | _, _ => 91

/-- The header requirement of R200 in 10⁻⁸ dB. -/
def headerReq (band : Nat) : Int := if band = 0 then -1830000000 else -1220000000

/-- The requirement of a collect-slot header (R200) in 10⁻⁸ dB. -/
def collectReq (e : Nat) : Int := -20000000 - dbPerOctave * e

/-- The requirement of a frame of `len` payload bytes in 10⁻⁸ dB (R199, R200): the higher of payload and header
requirement; a payload in a short block needs E(mod, 1/2) + 1.2 dB. -/
def frameReq (band mode len : Nat) (collect : Bool) : Int :=
  let e := if 8 * (len + 4) ≤ 288 then reqE (modeMod mode) 0 + 12 else reqE (modeMod mode) (modeRate mode)
  let header := if collect then collectReq (modeExp mode) else headerReq band
  if len = 0 then header else max (e * 10000000 - dbPerOctave * (modeExp mode + bits mode 12 2)) header

/-- The requirement of a mode in 10⁻⁸ dB (R199): that of a frame whose payload fills payload blocks. -/
def modeReq (band mode : Nat) : Int := frameReq band mode 4096 false

/-- The key of a link-quality record. -/
def linkKey (a band : Nat) : Nat := 2 * a + band

/-- The link-quality record of a peer. -/
def Block.link (b : Block) (a band : Nat) : LinkRec := Tab.get {} b.phy.links (linkKey a band)

/-- Change a link-quality record; a peer without a node-table entry has none (R208). -/
def Block.modLink (b : Block) (a band : Nat) (f : LinkRec → LinkRec) : Block :=
  if b.hasNode a then { b with phy := { b.phy with links := Tab.modify {} b.phy.links (linkKey a band) f } } else b

/-- The requirement a record's margin is taken against (R202), in dB. -/
def LinkRec.req (r : LinkRec) (band : Nat) : Rat :=
  ((match r.mode with | some m => modeReq band m | none => headerReq band) : Rat) / 100000000

/-- The link margin in 0.25 dB, to the nearest step (R202); none before a first measurement. -/
def LinkRec.margin (r : LinkRec) (band : Nat) : Option Int :=
  match r.snr with
  | some s => some (nearest ((s - r.req band) * 4))
  | none => none

/-- The margin feedback field of headers to a peer (R202): clamped, 0x80 before a first measurement. -/
def Block.feedback (b : Block) (a band : Nat) : Nat :=
  if b.hasNode a then
    match (b.link a band).margin band with
    | some m => unsext 8 (max (-127) (min 127 m))
    | none => 0x80
  else 0x80

/-- The averaged SNR in 0.25 dB as a 16-bit register value; 0x8000 none. -/
def Block.snrField (b : Block) (a band : Nat) : Nat :=
  match (b.link a band).snr with
  | some s => unsext 16 (max (-32767) (min 32767 (nearest (s * 4))))
  | none => 0x8000

/-- One frame's measurement enters an average with weight 2^−q (R197). -/
def average (q : Nat) (old new : Rat) : Rat := old + (new - old) / 2 ^ q

/-- The averages of each stream; a first measurement stands alone. -/
def averageAll (q : Nat) (old new : List Rat) : List Rat :=
  new.zipIdx.map (fun e => match old[e.2]? with | some o => average q o e.1 | none => e.1)

/-- The lowest of some figures. -/
def lowest : List Rat → Option Rat
  | [] => none
  | x :: l => some (l.foldl min x)

/-- The chip SNR of a stream in dB from a frame's sums (R197): each block's own spreading factor weighs its error. A stream without
error has no stated SNR. -/
def Block.streamSnr (b : Block) (l : List SnrSum) : Rat × Block :=
  let sig := (l.map (fun x => x.sig)).sum
  let err := (l.map (fun x => x.err * 2 ^ x.exp)).sum
  if err = 0 then ((Config.freeValue b.freeCtr : Rat), b.fresh.2) else ((dbOfRatio sig err : Rat) / 2 ^ 32, b)

/-- The chip SNRs of the streams that a frame's sums name, from stream 0 on. -/
def Block.frameSnrs (b : Block) (l : List SnrSum) : List Nat → List Rat × Block
  | [] => ([], b)
  | s :: rest =>
    let of := l.filter (fun x => x.stream = s)
    if of.isEmpty then Block.frameSnrs b l rest
    else
      let (x, b) := b.streamSnr of
      let (xs, b) := Block.frameSnrs b l rest
      (x :: xs, b)

/-- The port on which the last frame of a neighbour was received in a band (R118), as port + 1; 0 none. -/
def Block.heardPort (b : Block) (a band : Nat) : Nat := Tab.get 0 b.mac.heardOn (0x4000 * (band + 1) + a)

/-- A port's truing block of a band is in tool rest (R206, R433). -/
def Block.toolRest (b : Block) (band p : Nat) : Bool := (Tab.get {} b.truing.blocks (p + 4 * band)).stale

/-- A record is fed by a port that is being trued (R206): in Band H every port feeds it, in Band L the one its peer was last
heard on. -/
def Block.linkStale (b : Block) (a band : Nat) : Bool :=
  (List.range 4).any (fun p => b.toolRest band p && (band == 0 || b.heardPort a band == p + 1))

/-- A frame's figures enter the peer's record (R197, R205): the chip SNR of each stream in dB, the fraction of failed
blocks, the largest erased fraction × 2⁸; the mode of a DATA frame, whose figures at spreading factor 1 are those of the
capacity fraction. In tool rest the record holds (R206); a frame with no decoded block leaves it unchanged. -/
def Block.linkQuality (b : Block) (a band : Nat) (snrs : List Rat) (failed blocks eps : Nat) (mode : Option Nat) : Block :=
  let q := b.get R.PHY_LQ_CFG_AVG_Q
  let stale := b.linkStale a band
  b.modLink a band (fun r =>
    if stale then { r with stale := true }
    else if blocks ≤ failed then { r with stale := false }
    else
      let frac : Rat := (failed : Rat) / blocks
      let r := { r with
        stale := false
        snr := match lowest snrs, r.snr with
          | some x, some o => some (average q o x)
          | some x, none => some x
          | none, o => o
        bler := average q r.bler frac
        epsMax := eps }
      match mode with
      | some m =>
        if modeExp m = 0 then
          { r with mode := some m, capSnrs := averageAll q r.capSnrs snrs, capBler := average q r.capBler frac }
        else { r with mode := some m }
      | none => r)

/-- The Shannon bound of a record's streams attenuated by `g` (0.25 dB), in bit/s × 2⁴⁸ (R205). -/
def LinkRec.bound (r : LinkRec) (rate g : Nat) : Nat :=
  (r.capSnrs.map (fun s => rate * (fxLog2 (fxOne + fxFromDb (s - (g : Rat) / 4))).toNat)).sum

/-- The achieved rate of a record in bit/s × 2⁴⁸ (R205). -/
def LinkRec.achieved (r : LinkRec) (mode : Nat) : Nat :=
  let (n, d) := phyRate mode
  (((n : Rat) / d) * (1 - r.capBler) * 2 ^ 48).floor.toNat

/-- The least 0.25 dB step whose bound lies below the achieved rate, from `g` on. -/
def gapSearch (r : LinkRec) (rate target : Nat) : Nat → Nat → Nat
  | 0, g => g
  | n + 1, g => if r.bound rate g < target then g else gapSearch r rate target n (g + 1)

/-- The capacity fraction in 0.1 % and the gap in 0.25 dB (R205), for a mode of spreading factor 1; else none. The gap is
the step nearest to where the bound meets the rate. DESIGN CHOICE: the fraction is rounded to the nearest 0.1 % (assumption
119). -/
def LinkRec.capacity (r : LinkRec) : Nat × Nat :=
  match r.mode with
  | none => (0xFFFF, 0xFF)
  | some m =>
    if modeExp m ≠ 0 ∨ r.capSnrs.isEmpty then (0xFFFF, 0xFF)
    else
      let rate := chipRate (modeProfile m)
      let got := r.achieved m
      let full := r.bound rate 0
      let frac := if full = 0 then 0xFFFE else min 0xFFFE (nearest ((got * 1000 : Rat) / full)).toNat
      let g := gapSearch r rate got 254 0
      let lo := r.bound rate (g - 1)
      let hi := r.bound rate g
      (frac, if g = 0 then 0 else if 2 * got ≤ lo + hi then g else g - 1)

/-- A ladder entry of a band (R203). -/
def Block.ladder (b : Block) (band i : Nat) : Nat := if band = 0 then b.get (R.PHY_LADDER_H i) else b.get (R.PHY_LADDER_L i)

/-- The entries in force: those before the first 0xFFFF (R203). -/
def Block.ladderLen (b : Block) (band : Nat) : Nat :=
  (((List.range 16).map (b.ladder band)).takeWhile (fun w => w != 0xFFFF)).length

/-- A port takes part in transmit sets (R470): not failed, and trued since its last return. -/
def Block.inService (b : Block) (p : Nat) : Bool := !b.bit R.TRB_PORT_FAILED p && !b.front.returning.contains p

/-- The ports that may send in Band H (R173): enabled, phase present, in service. -/
def Block.hPorts (b : Block) : List Nat :=
  (List.range 4).filter (fun p => (b.profile 0 p).isSome && b.flag (R.LFE_STAT_PHASE_PRESENT p) && b.inService p)

/-- The ports that may send in Band L. -/
def Block.lPorts (b : Block) : List Nat :=
  (List.range 3).filter (fun p => (b.profile 1 p).isSome && b.flag (R.LFE_STAT_PHASE_PRESENT p) && b.inService p)

/-- The mode a ladder entry stands for here (R203): the port's profile, streams reduced to the transmit set. -/
def Block.entryMode (b : Block) (band i : Nat) : Nat :=
  let w := b.ladder band i
  let ports := if band = 0 then b.hPorts else b.lPorts
  let profile := match ports with | p :: _ => (b.profile band p).getD 0 | [] => if band = 0 then 0 else 4
  let streams := if band = 0 then min (modeStreams w) (max 1 ports.length) else 1
  modeWord profile (modeMod w) (modeExp w) (modeRate w) (bits w 12 2) (streams - 1)

/-- The ladder entry in use toward a peer, at most the last entry in force (R208). -/
def Block.ladderIdx (b : Block) (a band : Nat) : Nat := min (b.link a band).idx (b.ladderLen band - 1)

/-- The transmit mode toward a peer (R203). -/
def Block.peerMode (b : Block) (a band : Nat) : Nat := b.entryMode band (b.ladderIdx a band)

/-- The single-stream mode toward a peer (R222). -/
def oneStream (m : Nat) : Nat := m % 2 ^ 14

/-- The first entry of a list of indices that meets a condition. -/
def firstWhere (l : List Nat) (c : Nat → Bool) : Option Nat := l.find? c

/-- The ladder on a received header's feedback (R203). -/
def Block.ladderUpdate (b : Block) (a band fbBits : Nat) : Block :=
  let b := b.modLink a band (fun r => { r with remote := fbBits })
  if fbBits = 0x80 then b
  else
    let fb := sext 8 fbBits
    let n := b.ladderLen band
    let idx := b.ladderIdx a band
    let req (i : Nat) : Int := modeReq band (b.entryMode band i)
    let est := req idx + fb * 25000000
    let up := (b.get R.PHY_LQ_CFG_UP_HYST : Int) * 25000000
    let down := (b.get R.PHY_LQ_CFG_DOWN : Int)
    match firstWhere (List.range idx) (fun i => decide (req i + up ≤ est)) with
    | some i => b.modLink a band (fun r => { r with idx := i, fails := 0 })
    | none =>
      if fb < down then
        match firstWhere ((List.range n).drop (idx + 1)) (fun i => decide (req i ≤ est - down * 25000000)) with
        | some i => b.modLink a band (fun r => { r with idx := i, fails := 0 })
        | none => b
      else b

/-- A transmission that ended unacknowledged (R203). -/
def Block.ladderFail (b : Block) (a band : Nat) : Block :=
  let limit := b.get R.PHY_LQ_CFG_FAIL_LIMIT
  let idx := b.ladderIdx a band
  let fails := (b.link a band).fails + 1
  if limit = 0 ∨ b.hasNode a = false then b
  else if limit ≤ fails ∧ idx + 1 < b.ladderLen band then
    (b.modLink a band (fun r => { r with idx := idx + 1, fails := 0 })).stick R.PHY_RX_TROUBLE_LADDER_DOWN
  else b.modLink a band (fun r => { r with fails := fails })

/-- An acknowledgement clears the failures (R203). -/
def Block.ladderOk (b : Block) (a band : Nat) : Block := b.modLink a band (fun r => { r with fails := 0 })

end Sys2Proof.Machine
end

