-- ==== Sys2Proof/Machine/Secure.lean ====
section
/-! DEFINITION. Frame protection (R483–R485, R493): key derivation, the nonce and associated data, sealing and opening,
the transmit counter with its reservation. -/

namespace Sys2Proof.Machine

/-- ASCII text as bytes. -/
def ascii (s : List Nat) : List Byte := s.map (fun c => BitVec.ofNat 8 c)

/-- "OSL node", "OSL link", "OSL group" (R483). -/
def txtNode : List Byte := ascii [0x4F, 0x53, 0x4C, 0x20, 0x6E, 0x6F, 0x64, 0x65]
def txtLink : List Byte := ascii [0x4F, 0x53, 0x4C, 0x20, 0x6C, 0x69, 0x6E, 0x6B]
def txtGroup : List Byte := ascii [0x4F, 0x53, 0x4C, 0x20, 0x67, 0x72, 0x6F, 0x75, 0x70]

/-- The node's own EUI-64. -/
def ownEui : Nat := Config.eui.toNat

/-- K_node of a node (R483). -/
def nodeKey (master : List Byte) (eui : Nat) : List Byte := hkdf512 [] master (txtNode ++ beBytes eui 8) 32

/-- The link key of two nodes (R483). -/
def linkKeyOf (net : List Byte) (a c : Nat) : List Byte :=
  hkdf512 [] net (txtLink ++ beBytes (min a c) 8 ++ beBytes (max a c) 8) 32

/-- The group key (R483). -/
def groupKey (net : List Byte) : List Byte := hkdf512 [] net txtGroup 32

/-- The network key of an epoch, if it is held. -/
def Block.netKey (b : Block) (epoch : Nat) : Option (List Byte) :=
  ([b.sec.cur, b.sec.next, b.sec.prev].filterMap (fun k => k)).find? (fun k => k.1 == epoch) |>.map (fun k => k.2)

/-- The registers show which keys are held (R492). -/
def Block.showKeys (b : Block) : Block :=
  let b := match b.sec.cur with
    | some (e, _) => (b.set R.SEC_STAT_CUR_EPOCH e).set R.SEC_STAT_KEYED 1
    | none => (b.set R.SEC_STAT_CUR_EPOCH 0).set R.SEC_STAT_KEYED 0
  let b := b.setFlag R.SEC_STAT_PREV_HELD b.sec.prev.isSome
  let b := b.setFlag R.SEC_STAT_NEXT_HELD b.sec.next.isSome
  b.setFlag R.SEC_STAT_MIC16 b.sec.level16

/-- A network key is held. -/
def Block.keyed (b : Block) : Bool := b.sec.cur.isSome

/-- A group or broadcast address (R264). -/
def groupAddr (a : Nat) : Bool := decide (0xFFF0 ≤ a)

/-- Frames of these types are protected (R484): DATA, BLOCK_ACK, TIMING, COMMAND. -/
def protectedType (t : Nat) : Bool := t == 1 || t == 3 || t == 4 || t == 5

/-- The MIC length of a frame (R484): level 1 for TIMING and collect frames, else the network's level. -/
def Block.micLen (b : Block) (ftype : Nat) (collect : Bool) : Nat :=
  if b.sec.level16 && ftype != 4 && !collect then 16 else 8

/-- The nonce of a frame (R484). -/
def frameNonce (eui ctr mic epoch : Nat) : List Byte :=
  beBytes eui 8 ++ beBytes ctr 4 ++ [BitVec.ofNat 8 ((if mic = 16 then 2 else 1) * 16 + epoch % 16)]

/-- The associated data of a frame (R484): the header with pending and margin feedback zero. -/
def frameAad (h : Header) : List Byte := leBytes ({ h with pending := false, margin := 0 } : Header).word 30

/-- The key a frame is protected with (R484), given the other end's EUI-64. -/
def frameKey (net : List Byte) (h : Header) (peer : Nat) : List Byte :=
  if groupAddr h.dst then groupKey net else linkKeyOf net ownEui peer

/-- Raise the reservation before the counter passes it (R485). -/
def Block.reserveCounter (b : Block) : Block :=
  match b.sec.reserve with
  | some (net, e, chk, r) =>
    if r ≤ b.get R.SEC_TX_CTR then { b with sec := { b.sec with reserve := some (net, e, chk, r + 65536) } } else b
  | none => b

/-- Take the transmit counter (R485). -/
def Block.takeCounter (b : Block) : Nat × Block :=
  let b := b.reserveCounter
  (b.get R.SEC_TX_CTR, b.bump R.SEC_TX_CTR)

/-- No protected frame may start (R485): the counter is exhausted. -/
def Block.exhausted (b : Block) : Bool := b.keyed && b.get R.SEC_TX_CTR == 0xFFFFFFFF

/-- Seal one frame's payload for header `h` under the transmit epoch: its header with counter, length and epoch, and its
protected payload. An unprotected frame carries the current counter. -/
def Block.sealPart (b : Block) (h : Header) (payload : List Byte) (collect : Bool) : (Header × List Byte) × Block :=
  match b.sec.cur with
  | some (e, net) =>
    if protectedType h.ftype then
      let mic := b.micLen h.ftype collect
      let (ctr, b) := b.takeCounter
      let h := { h with ctr := ctr, sec := true, epoch := e, len := payload.length + mic }
      ((h, ccmSeal (frameKey net h (b.euiOf h.dst)) (frameNonce ownEui ctr mic e) (frameAad h) payload mic), b)
    else (({ h with ctr := b.get R.SEC_TX_CTR, sec := false, epoch := 0, len := payload.length }, payload), b)
  | none => (({ h with ctr := b.get R.SEC_TX_CTR, sec := false, epoch := 0, len := payload.length }, payload), b)

/-- Seal the follow-on frames of a train in order (R174, R484). -/
def Block.sealFollow (b : Block) (first : Header) : List (Header × List Byte) → List (Header × List Byte) × Block
  | [] => ([], b)
  | (h, p) :: l =>
    let ((h, p), b) := b.sealPart { first with ackReq := h.ackReq } p false
    let (rest, b) := Block.sealFollow b first l
    ((h, p) :: rest, b)

/-- Protect a frame at its first start (R484, R485); a retransmission keeps its counter and MIC (R272). -/
def Block.sealFrame (b : Block) (f : TxFrame) : TxFrame × Block :=
  if f.sealed then (f, b)
  else if f.kind = .ack then ({ f with sealed := true }, b)
  else
    let ((h, p), b) := b.sealPart f.hdr f.payload (f.kind = .collect)
    let (fl, b) := b.sealFollow h f.follow
    ({ f with hdr := h, payload := p, plain := f.payload, follow := fl, sealed := true }, b)

/-- The key state of a peer's security entry (R493). -/
def Block.peerSeen (b : Block) (a : Nat) : Bool := (b.tab (peerAt a + 8) 1).testBit 4

/-- A protected frame whose MIC passed: RX_HIGH, LAST_EPOCH, SEEN (R493). -/
def Block.notePeer (b : Block) (a ctr epoch : Nat) : Block :=
  if 1 ≤ a ∧ a ≤ 0x3FFF then
    let fresh := !b.peerSeen a || b.tab (peerAt a + 8) 1 % 16 != epoch
    let b := b.setTab (peerAt a) 2 a
    let b := if fresh ∨ b.tab (peerAt a + 2) 4 < ctr then b.setTab (peerAt a + 2) 4 ctr else b
    b.setTab (peerAt a + 8) 1 (16 + epoch % 16)
  else b

/-- A failed MIC (R484, R493). -/
def Block.micFail (b : Block) (a : Nat) : Block :=
  let b := if 1 ≤ a ∧ a ≤ 0x3FFF then
      (b.setTab (peerAt a) 2 a).setTab (peerAt a + 6) 2 (min 0xFFFF (b.tab (peerAt a + 6) 2 + 1))
    else b
  b.count R.SEC_MIC_FAIL_COUNT R.SEC_TROUBLE_MIC_FAIL

/-- Open one received frame (R484): the plain payload with the tag of R273, or none where it is dropped. -/
def Block.openPart (b : Block) (h : Header) (p : RxPart) (collect : Bool) : Option (List Byte × Nat) × Block :=
  if p.sec then
    if b.peerSeen h.src ∧ p.epoch ≠ b.tab (peerAt h.src + 8) 1 % 16 ∧
        p.epoch ≠ (b.tab (peerAt h.src + 8) 1 % 16 + 1) % 16 then
      (none, b.count R.SEC_EPOCH_REJECT_COUNT R.SEC_TROUBLE_EPOCH_REJECT)
    else
      match b.netKey p.epoch with
      | none => (none, b.count R.SEC_NO_KEY_COUNT R.SEC_TROUBLE_NO_KEY)
      | some net =>
        let mic := b.micLen h.ftype collect
        let eui := b.euiOf h.src
        let fh := { h with ctr := p.ctr, sec := true, epoch := p.epoch, len := p.payload.length, ackReq := p.ackReq }
        match ccmOpen (frameKey net fh eui) (frameNonce eui p.ctr mic p.epoch) (frameAad fh) p.payload mic with
        | none => (none, b.micFail h.src)
        | some plain =>
          (some (plain, leAt (p.payload.drop (p.payload.length - mic)) 0 8), b.notePeer h.src p.ctr p.epoch)
  else if b.keyed && protectedType h.ftype then (none, b.count R.SEC_UNSECURED_COUNT R.SEC_TROUBLE_UNSECURED)
  else (some (p.payload, crc32 p.payload), b)

end Sys2Proof.Machine
end

