-- ==== Sys2Proof/Machine/Spur.lean ====
section
/-! DEFINITION. The spur (R141–R146, R150): crossings, RMS, phase presence, the noise phase profile. -/

namespace Sys2Proof.Machine

/-- A quotient that the spec gives no rounding for: the exact value, or one of its two neighbours (assumption 32). -/
def Block.quot (b : Block) (n d : Nat) : Nat × Block :=
  if d = 0 then (Config.freeValue b.freeCtr, b.fresh.2)
  else if n % d = 0 then (n / d, b)
  else (n / d + (if Config.roundUp b.freeCtr then 1 else 0), b.fresh.2)

/-- A real result whose rounding the spec does not state: the integer below it or, where it is not whole, possibly the
next one (assumption 32). -/
def Block.openRound (b : Block) (x : Rat) : Int × Block :=
  if x.den = 1 then (x.num, b) else (x.floor + (if Config.roundUp b.freeCtr then 1 else 0), b.fresh.2)

/-- A phase of the spur. -/
def Block.phase (b : Block) (k : Nat) : SpurPhase := b.spur.phases.getD k {}

/-- Change a phase of the spur. -/
def Block.modPhase (b : Block) (k : Nat) (f : SpurPhase → SpurPhase) : Block :=
  { b with spur := { b.spur with phases := b.spur.phases.modify k f } }

/-- A rejected crossing (R142, R143). -/
def Block.rejectCrossing (b : Block) : Block := b.count R.SPR_REJECT_COUNT R.SPR_TROUBLE_CROSSING_REJECT

/-- The period bounds of R142, in 2⁻¹⁶ ns. -/
def minPeriod : Int := 15151515 * 65536
def maxPeriod : Int := 22222222 * 65536

/-- One measured rising crossing `m` of phase `k` through the filter of R142. -/
def Block.spurUpdate (b : Block) (k : Nat) (m : Int) : Block :=
  let p := b.phase k
  if p.acq < 2 then
    let raw := m - p.prev
    if p.acq = 1 ∧ minPeriod ≤ raw ∧ raw ≤ maxPeriod then
      b.modPhase k (fun p => { p with z := m, t := raw, acq := 2, rejects := 0, good := 1 })
    else
      let b := if p.acq = 1 then b.rejectCrossing else b
      b.modPhase k (fun p => { p with prev := m, acq := 1 })
  else
    let zp := p.z + p.t
    let e := m - zp
    if e > 500000 * 65536 ∨ e < -(500000 * 65536) then
      let b := b.rejectCrossing
      if p.rejects + 1 < 4 then b.modPhase k (fun p => { p with rejects := p.rejects + 1, z := zp })
      else b.modPhase k (fun p => { p with prev := m, acq := 1, rejects := 0, good := 0 })
    else
      b.modPhase k (fun p => { p with
        rejects := 0, z := zp + e / 2 ^ b.get R.SPR_FILT_A, t := p.t + e / 2 ^ b.get R.SPR_FILT_B,
        good := p.good + 1 })

/-- Phase `k` is tracking (R142). -/
def Block.tracking (b : Block) (k : Nat) : Bool := (b.phase k).acq == 2

/-- Show the angle of phase `k` (1 or 2) relative to L1 (R143). -/
def Block.showPhase (b : Block) (k : Nat) (f present : Field) : Block :=
  let p1 := b.phase 0
  if b.tracking 0 && b.tracking k && b.flag present then
    let d := (((b.phase k).z - p1.z) % p1.t).toNat
    let (v, b) := b.quot (d * 36000) p1.t.toNat
    b.set f (v % 36000)
  else b.set f 0xFFFF

/-- Both phase angles. -/
def Block.showPhases (b : Block) : Block :=
  (b.showPhase 1 R.SPR_PHASE_L2 R.SPR_STAT_L2_PRESENT).showPhase 2 R.SPR_PHASE_L3 R.SPR_STAT_L3_PRESENT

/-- SPR_ZC shows the filtered Z of a tracked phase (R143). DESIGN CHOICE: while the phase does not track it keeps the last
value (assumption 123). -/
def Block.showZc (b : Block) (k : Nat) : Block :=
  let p := b.phase k
  if p.acq = 2 then (b.set (R.SPR_ZC_NS k) (timeNs p.z.toNat)).set (R.SPR_ZC_SEC k) (timeSec p.z.toNat) else b

/-- The registers follow the filters (R143): Z of each tracked phase, T, the frequency and FREQ_OUT of L1, LOCKED, the
angles. DESIGN CHOICE: SPR_FREQ and SPR_PERIOD keep the last values while L1 does not track (assumption 123). -/
def Block.showSpur (b : Block) (k : Nat) : Block :=
  let p := b.phase k
  let b := b.showZc k
  let b :=
    if k = 0 then
      let b := b.setFlag R.SPR_STAT_LOCKED (p.acq == 2 && decide (16 ≤ p.good))
      if p.acq = 2 then
        let (f, b) := b.quot (1000000000000 * 65536) p.t.toNat
        let (t, b) := b.quot p.t.toNat 65536
        let b := (b.set R.SPR_FREQ f).set R.SPR_PERIOD t
        if 1000000000 * 65536 < p.t * 45 ∨ p.t * 66 < 1000000000 * 65536 then b.stick R.SPR_TROUBLE_FREQ_OUT else b
      else b
    else b
  b.showPhases

/-- The samples of 1.6 MS/s from place `lo` up to before place `hi`, with their places relative to `mid`. -/
def voltsAround (volts : List Int) (mid lo hi : Nat) : List (Int × Int) :=
  ((volts.zipIdx.take hi).drop lo).map (fun e => ((e.2 : Int) - mid, e.1))

/-- A rising sign change of a phase voltage between samples `mid - 1` and `mid` is a zero crossing (R141): within 1 ms (1,600
samples) before it the voltage stood at −20 V or below, within 1 ms after it at +20 V or above. Voltages are in 0.1 V. -/
def isCrossing (volts : List Int) (mid : Nat) : Bool :=
  decide (0 < mid) && decide (volts.getD (mid - 1) 0 < 0) && decide (0 ≤ volts.getD mid (-1)) &&
    (voltsAround volts mid (mid - 1600) mid).any (fun e => decide (e.2 ≤ -200)) &&
    (voltsAround volts mid mid (mid + 1600)).any (fun e => decide (200 ≤ e.2))

/-- The zero of the straight line that fits the samples within ±100 µs (160 samples on each side), in samples from the one
at `mid` (R141); none where the line does not rise. -/
def fitZero (volts : List Int) (mid : Nat) : Option Rat :=
  let l := voltsAround volts mid (mid - 160) (mid + 160)
  let n : Int := l.length
  let sx := (l.map (fun e => e.1)).sum
  let sy := (l.map (fun e => e.2)).sum
  let sxx := (l.map (fun e => e.1 * e.1)).sum
  let sxy := (l.map (fun e => e.1 * e.2)).sum
  let slope := n * sxy - sx * sy
  if slope ≤ 0 then none else some ((sx : Rat) / n - (sy : Rat) / n * ((n * sxx - sx * sx : Int) : Rat) / slope)

/-- The crossing instant in 2⁻¹⁶ ns, with 100 ns resolution (R141), given the network time of the sample at `mid`. -/
def Block.crossingTime (b : Block) (time : Nat) (zero : Rat) : Int × Block :=
  let (k, b) := b.openRound (((time : Rat) + zero * (625 * 65536)) / (100 * 65536))
  (k * (100 * 65536), b)

/-- A rising crossing of phase `k` (0 L1, 1 L2, 2 L3) at network time `m`, in 2⁻¹⁶ ns, enters the filter. Without a grid,
two half-cycles of the profile end with each crossing of L1 (R145). -/
def spurCrossing (k : Nat) (m : Int) (b : Block) : Block :=
  let b := (b.spurUpdate k m).showSpur k
  if k = 0 ∧ b.get R.GLB_GRID_N = 0 ∧ b.tracking 0 then
    { b with spur := { b.spur with nppHalf := b.spur.nppHalf + 2 } }
  else b

/-- A step of the time scale moves Z and the held crossing of every phase (R142); SPR_ZC follows (R143). -/
def Block.stepSpur (b : Block) (d : Int) : Block :=
  let b : Block := { b with
    spur := { b.spur with phases := b.spur.phases.map (fun p => { p with z := p.z + d, prev := p.prev + d }) } }
  b.forEach [0, 1, 2] Block.showZc

/-- The number of 100 µs steps between two RMS windows that abut: T/2 of the phase, rounded up (R144). -/
def SpurPhase.rmsSteps (p : SpurPhase) : Nat :=
  if p.acq = 2 then ceilDiv p.t.toNat (2 * 100000 * 65536) else 100

/-- The samples of an RMS window (R144): those of the preceding T/2 at 1.6 MS/s, 10 ms while the phase does not track. -/
def SpurPhase.rmsWindow (p : SpurPhase) : Nat := if p.acq = 2 then p.t.toNat / (1250 * 65536) else 16000

/-- The mean square of a window's samples lies below or above a voltage in V: they are in 0.1 V, newest first. -/
def rmsBelow (l : List Int) (n v : Nat) : Bool := decide (((l.take n).map (fun x => x * x)).sum < ((100 * v * v * n : Nat) : Int))
def rmsAbove (l : List Int) (n v : Nat) : Bool := decide (((100 * v * v * n : Nat) : Int) < ((l.take n).map (fun x => x * x)).sum)

/-- Phase `k`'s RMS computation over its samples (R144): its history, PRESENT, and whether it fell below 70 V. DESIGN CHOICE:
a phase that was never present falls below 70 V at its first low computation (assumption 124). -/
def Block.rmsOf (b : Block) (k : Nat) (volts : List Int) (present : Field) : Bool × Block :=
  let p := b.phase k
  let above := (2 * p.above + (if rmsAbove volts p.rmsWindow 80 then 1 else 0)) % 2 ^ 512
  let low := rmsBelow volts p.rmsWindow 70
  let b := b.modPhase k (fun p => { p with above := above, low := low })
  let b := if low then b.set present 0
    else if above.testBit 0 && above.testBit p.rmsSteps then b.set present 1 else b
  (low && !p.low, b)

/-- The RMS computation of one 100 µs step without its effect on the power manager (R144), over the three phases' samples.
L2 and L3 losses are recorded here; whether L1 was lost is answered. DESIGN CHOICE: N and PE are always connected, and
PHASE_PRESENT of P3 shows it from the first computation on (assumption 125). -/
def Block.rmsUpdate (b : Block) (l1 l2 l3 : List Int) : Bool × Block :=
  let (lost1, b) := b.rmsOf 0 l1 R.SPR_STAT_L1_PRESENT
  let (lost2, b) := b.rmsOf 1 l2 R.SPR_STAT_L2_PRESENT
  let (lost3, b) := b.rmsOf 2 l3 R.SPR_STAT_L3_PRESENT
  let b := ((b.set (R.LFE_STAT_PHASE_PRESENT 0) (b.get R.SPR_STAT_L1_PRESENT)).set (R.LFE_STAT_PHASE_PRESENT 1)
    (b.get R.SPR_STAT_L2_PRESENT)).set (R.LFE_STAT_PHASE_PRESENT 2) (b.get R.SPR_STAT_L3_PRESENT)
  let b := b.set (R.LFE_STAT_PHASE_PRESENT 3) 1
  let b := b.whenever lost2 (fun b => b.stick R.SPR_TROUBLE_L2_LOST)
  let b := b.whenever lost3 (fun b => b.stick R.SPR_TROUBLE_L3_LOST)
  let b := b.whenever lost1 (fun b => b.stick R.SPR_TROUBLE_MAINS_LOSS)
  (lost1, b.showPhases)

/-- A bin of the noise phase profile (R145): 10 × log₁₀(1 + impulsive / floor) in 0.5 dB, saturating at 0xFE; 0xFF where
it was suppressed. The value is the greatest n up to 254 with 10^(n/20) at most the ratio, or the next one. -/
def nppSearch (num den : Nat) : Nat → Nat
  | 0 => 0
  | n + 1 => if 10 ^ (n + 1) * den ^ 20 ≤ num ^ 20 then n + 1 else nppSearch num den n

/-- One bin as stored (R145): more than half of its samples suppressed, or the sums. A bin without floor and without
impulses has no stated value. -/
def Block.nppBin (b : Block) (x : NppBin) : Nat × Block :=
  if x.total < 2 * x.supp then (0xFF, b)
  else if x.flr = 0 then (if x.imp = 0 then (Config.freeValue b.freeCtr % 255, b.fresh.2) else (0xFE, b))
  else
    let r := (x.imp + x.flr) / x.flr
    let num := r.num.toNat
    let n := nppSearch num r.den 254
    if n = 254 ∨ 10 ^ n * r.den ^ 20 = num ^ 20 then (n, b)
    else (min 0xFE (n + (if Config.roundUp b.freeCtr then 1 else 0)), b.fresh.2)

/-- The bins of a completed accumulation from bin `j` on, in register order; the Band L bins of P3 read 0 (R145). -/
def Block.nppBins (bins : Tab NppBin) : Nat → Nat → Block → Nat × Block
  | 0, _, b => (0, b)
  | n + 1, j, b =>
    let (v, b) := if 448 ≤ j then (0, b) else b.nppBin (Tab.get {} bins j)
    let (rest, b) := Block.nppBins bins n (j + 1) b
    (v + 256 * rest, b)

/-- An accumulation of 2^ACC half-cycles is complete (R145). -/
def Block.nppComplete (b : Block) : Bool := decide (2 ^ b.get R.SPR_NPP_CTRL_ACC ≤ b.spur.nppHalf)

/-- A completed accumulation of 2^ACC half-cycles becomes the profile, and the next one starts (NPP_SWAP, R145, R146). -/
def nppSwap (b : Block) : Block :=
  if 2 ≤ b.mode ∧ b.mode ≠ 9 ∧ b.nppComplete then
    let (v, b) := Block.nppBins b.spur.bins 512 0 b
    let b := (b.set R.SPR_NPP v).bump R.SPR_NPP_SEQ
    { b with spur := { b.spur with nppHalf := 0, bins := [] } }
  else b

/-- A write of ACC to SPR_NPP_CTRL (R150): 11 to 15 are refused; a change restarts the accumulation. -/
def nppCtrlWrite (v : Nat) (b : Block) : Block :=
  let acc := v % 16
  if 11 ≤ acc then b
  else
    let b' := b.set R.SPR_NPP_CTRL_ACC acc
    if acc = b.get R.SPR_NPP_CTRL_ACC then b' else { b' with spur := { b'.spur with nppHalf := 0, bins := [] } }

/-- NPP_GRID follows GLB_GRID.N (R145). -/
def Block.showNppGrid (b : Block) : Block := b.setFlag R.SPR_STAT_NPP_GRID (b.get R.GLB_GRID_N != 0)

end Sys2Proof.Machine
end

