-- ==== Sys2Proof/Machine/MacOps.lean ====
section
/-! DEFINITION. The MAC's shared operations: grid arithmetic and runs (R45, R252, R257, R259), budgets and quiet windows
(R279–R281), the transmit order, next hops (R303), acknowledgement outcomes (R269–R272, R305), duplicate records
(R273). -/

namespace Sys2Proof.Machine

/-- A tick in 2⁻¹⁶ ns. -/
def tickLen : Nat := 40000 * 65536

/-- The first tick boundary at or after an instant in 2⁻¹⁶ ns (R43). -/
def tickAtOrAfter (t : Nat) : Nat := ceilDiv t tickLen

/-- The anchor tick of half-cycle `j` under grid values (R252). -/
def GridVals.anchor (g : GridVals) (j : Nat) : Nat := tickAtOrAfter (g.z + j * g.t / 2)

/-- The start tick of slot `k` of half-cycle `j` (R45). -/
def GridVals.slotStart (g : GridVals) (j k : Nat) : Nat :=
  g.anchor j + k * (g.anchor (j + 1) - g.anchor j) / 8

/-- The half-cycles of a beacon period in force (R251). -/
def Block.periodHalves (b : Block) : Nat := 2 * max 1 (b.get R.MAC_GRID_BP_CYCLES)

/-- The role of slot `k` of half-cycle `h` of a period (R256, R257). -/
def Block.roleAt (b : Block) (band h k : Nat) : Nat :=
  let r := (h % b.periodHalves) % max 1 (b.get R.MAC_GRID_MAP_LEN)
  bits (if band = 0 then b.get (R.MAC_ROW_H r) else b.get (R.MAC_ROW_L r)) (4 * k) 4

/-- The node has grid values and a map (R256). -/
def Block.hasGrid (b : Block) : Bool := b.grid.cur.isSome && b.get R.MAC_GRID_MAP_LEN != 0 && b.get R.GLB_GRID_N != 0

/-- The current slot has a role in a band. -/
def Block.slotIs (b : Block) (band role : Nat) : Bool :=
  b.hasGrid && b.roleAt band b.grid.half (b.get R.GLB_GRID_SLOT) == role

/-- The end tick of a run of slots that `ok` admits, from slot `k` of half-cycle `h` on. -/
def Block.runEndFrom (b : Block) (g : GridVals) (band : Nat) (ok : Nat → Bool) : Nat → Nat → Nat → Nat
  | 0, h, k => g.slotStart h k
  | n + 1, h, k =>
    if ok (b.roleAt band h k) then
      if k = 7 then b.runEndFrom g band ok n (h + 1) 0 else b.runEndFrom g band ok n h (k + 1)
    else g.slotStart h k

/-- The tick in which the current run ends, for roles that `ok` admits; the current tick when the current slot is not
one of them. -/
def Block.runEnd (b : Block) (band : Nat) (ok : Nat → Bool) : Nat :=
  match b.grid.cur with
  | some g =>
    if ok (b.roleAt band b.grid.half (b.get R.GLB_GRID_SLOT)) then
      b.runEndFrom g band ok 160 b.grid.half (b.get R.GLB_GRID_SLOT)
    else b.tick
  | none => b.tick

/-- The longest run of slots that `ok` admits, in ticks, over one period (R262); `run` is the length so far. -/
def Block.longestRun (b : Block) (g : GridVals) (band : Nat) (ok : Nat → Bool) : Nat → Nat → Nat → Nat → Nat
  | 0, _, _, best => best
  | n + 1, i, run, best =>
    let h := i / 8
    let k := i % 8
    let len := (if k = 7 then g.slotStart (h + 1) 0 else g.slotStart h (k + 1)) - g.slotStart h k
    let run := if ok (b.roleAt band h k) then run + len else 0
    b.longestRun g band ok n (i + 1) run (max best run)

/-- MAC_RUN_MAX follows the map and grid (R262). -/
def Block.showRunMax (b : Block) : Block :=
  match b.grid.cur with
  | some g => b.usat R.MAC_RUN_MAX (b.longestRun g 0 (fun r => r == 0) (16 * b.periodHalves) 0 0 0)
  | none => b.set R.MAC_RUN_MAX 0

/-- The longest Band L stretch without a QUIET slot. -/
def Block.runMaxL (b : Block) : Nat :=
  match b.grid.cur with
  | some g => b.longestRun g 1 (fun r => r != 5) (16 * b.periodHalves) 0 0 0
  | none => 0

/-- Budget, reserve and window of a band (R279). -/
def Block.budget (b : Block) (band : Nat) : Nat := if band = 0 then b.get R.MAC_BUDGET_H else b.get R.MAC_BUDGET_L
def Block.reserve (b : Block) (band : Nat) : Nat := if band = 0 then b.get R.MAC_RESERVE_H else b.get R.MAC_RESERVE_L
def Block.window (b : Block) (band : Nat) : Nat := leAt b.bandPlan (if band = 0 then 0x208 else 0x214) 2

/-- The airtime charged within the last WINDOW seconds, in µs (R279). -/
def Block.used (b : Block) (band : Nat) : Nat :=
  ((b.mac.charged.filter (fun c => c.1 = band ∧ b.tick < c.2.1 + 25000 * b.window band)).map (fun c => c.2.2)).sum

/-- MAC_USED_H and MAC_USED_L follow the accounting; charges that left the window are forgotten. -/
def Block.showUsed (b : Block) : Block :=
  let b := { b with mac := { b.mac with
    charged := b.mac.charged.filter (fun c => b.tick < c.2.1 + 25000 * b.window c.1) } }
  (b.usat R.MAC_USED_H (b.used 0)).usat R.MAC_USED_L (b.used 1)

/-- The quiet windows of a band (R280, R283): START and STOP in ms of the day. -/
def Block.quietWindows (b : Block) (band : Nat) : List (Nat × Nat) :=
  let l := b.bandPlan
  let n := leAt l (if band = 0 then 0x20A else 0x216) 1
  let base := if band = 0 then 0x220 else 0x420
  (List.range n).map (fun w => (leAt l (base + 8 * w) 4, leAt l (base + 8 * w + 4) 4))

/-- The instant of the day in ns that network time `t` (2⁻¹⁶ ns) falls on (R280). -/
def Block.dayNs (b : Block) (t : Nat) : Nat :=
  let l := b.bandPlan
  let utc := if leAt l 0x217 1 = 1 then b.sget R.TIM_UTC_UTC_OFFSET else 0
  let s : Int := (t / 65536 : Nat) + ((sext 16 (leAt l 0x218 2)) * 60 - utc) * 1000000000
  (s % (86400 * 1000000000)).toNat

/-- An interval of the day from `a`, `d` ns long, meets a window widened by `w` ns on both sides. -/
def meetsWindow (a d w : Nat) (win : Nat × Nat) : Bool :=
  let day := 86400 * 1000000000
  let start := (win.1 * 1000000 + day - w % day) % day
  let len := (win.2 * 1000000 + day - win.1 * 1000000) % day + 2 * w
  let off := (a + day - start) % day
  decide (off < len ∨ day < off + d)

/-- A transmission of `d` ns that started now would lie in, or reach into, a quiet window (R280). While TIM_BOUND is
unknown a band with any window is forbidden, except while joining (R282). -/
def Block.quietFor (b : Block) (band d : Nat) : Bool :=
  let l := b.quietWindows band
  let bound := b.get R.TIM_BOUND
  if l.isEmpty then false
  else if bound = 0xFFFFFFFF then b.mode != 5
  else l.any (meetsWindow (b.dayNs b.netNow) d (ceilDiv bound 1000))

/-- Band `band` is enabled for transmission on some port. -/
def Block.bandEnabled (b : Block) (band : Nat) : Bool := (List.range 4).any (fun p => (b.profile band p).isSome)

/-- The band is forbidden now: a zero budget, over-temperature, or a quiet window (R279, R280, R446). -/
def Block.forbidden (b : Block) (band : Nat) : Bool :=
  b.budget band == 0 || b.power.overTemp || b.mac.inQuiet.getD band false || b.quietFor band 0

/-- Ask for a change of mode on the part's own behalf (R440); a request of a higher level in progress is left alone. -/
def Block.askMode (b : Block) (m : Nat) : Block :=
  if b.mode = m ∨ b.power.trans = some m then b
  else match b.power.trans with
    | none => { b with power := { b.power with trans := some m } }
    | some _ => ({ b with power := { b.power with heldReq := some m } }).set R.PWR_MODE_PENDING 1

/-- The enables of a band's drivers are requested (R447). -/
def Block.requestBand (b : Block) (band : Nat) : Block :=
  if band = 0 then b.forEach b.hPorts (fun b p => b.request (.drvH p) none)
  else if b.lPorts.isEmpty then b
  else b.request .drvL none

/-- In M5 and M6 the drivers of a band follow its permission (R447, R458): off when it is forbidden, requested when it is
permitted again. -/
def Block.bandDrivers (b : Block) (band : Nat) (was now : Bool) : Block :=
  if was = now ∨ (b.mode ≠ 5 ∧ b.mode ≠ 6) then b
  else if now then b.set (if band = 0 then R.PWR_GATES_DRV_H else R.PWR_GATES_DRV_L) 0
  else b.requestBand band

/-- QUIET_H and QUIET_L, the drivers of the bands, and the requests for M7 and back (R281). -/
def Block.evalQuiet (b : Block) : Block :=
  let h := b.forbidden 0
  let l := b.forbidden 1
  let b := (b.bandDrivers 0 (b.flag R.MAC_STAT_QUIET_H) h).bandDrivers 1 (b.flag R.MAC_STAT_QUIET_L) l
  let b := (b.setFlag R.MAC_STAT_QUIET_H h).setFlag R.MAC_STAT_QUIET_L l
  let all := (!b.bandEnabled 0 || h) && (!b.bandEnabled 1 || l)
  if b.mode = 6 ∧ all then b.askMode 7
  else if b.mode = 7 ∧ !all then b.askMode 6
  else b

/-- The payload lengths of a frame and its follow-on frames as they go on the line. -/
def Block.lens (b : Block) (f : TxFrame) : List Nat :=
  let extra := if f.sealed ∨ !b.keyed ∨ !protectedType f.hdr.ftype then 0 else b.micLen f.hdr.ftype (f.kind == .collect)
  (f.payload.length + extra) :: f.follow.map (fun x => x.2.length + extra)

/-- The airtime of a frame in ns, ramps included. -/
def Block.airtimeOf (b : Block) (f : TxFrame) : Nat :=
  airtime f.hdr.mode f.hdr.span (f.kind == .collect) (b.lens f)

/-- The airtime of an ACK in the mode of a frame, in ns. -/
def ackAirtime (mode : Nat) : Nat := airtime mode 0 false [0]

/-- The unit of a band in ticks (R260). -/
def unitTicks (band : Nat) : Nat := if band = 0 then 1 else 25

/-- The allowance of R261: the frame, and where an immediate ACK is requested 2 units and the ACK, in ns. -/
def Block.allowance (b : Block) (f : TxFrame) : Nat :=
  b.airtimeOf f + (if f.hdr.ackReq ∧ f.hdr.cls = 1 then 2 * unitTicks f.band * 40000 + ackAirtime f.hdr.mode else 0)

/-- The budget admits a frame (R279). -/
def Block.budgetOk (b : Block) (f : TxFrame) : Bool :=
  let us := ceilDiv (b.airtimeOf f) 1000
  let reply := f.kind == .ack || f.kind == .blockAck
  let limit := if reply then b.budget f.band else b.budget f.band - b.reserve f.band
  !b.power.overTemp && decide (us + b.used f.band ≤ limit)

/-- Charge a frame's airtime when it starts (R279). -/
def Block.charge (b : Block) (f : TxFrame) : Block :=
  ({ b with mac := { b.mac with
      charged := b.mac.charged ++ [(f.band, b.tick, ceilDiv (b.airtimeOf f) 1000)] } }).showUsed

/-- The node may transmit in this mode (R437): M5 to M7 (a band must be permitted besides), M8 around its wake windows,
M11's minimal link. -/
def Block.mayTransmit (b : Block) : Bool :=
  b.mode == 5 || b.mode == 6 || b.mode == 7 || (b.mode == 8 && b.mac.wakeOpen) || b.mode == 11

/-- The node receives in this mode (R437). -/
def Block.receiving (b : Block) : Bool :=
  b.mode == 4 || b.mode == 5 || b.mode == 6 || b.mode == 7 || (b.mode == 8 && b.mac.wakeOpen) || b.mode == 10 || b.mode == 11

/-- The node sends in a band, on any port. -/
def Block.sending (b : Block) (band : Nat) : Bool :=
  b.phy.tx.any (fun t => t.frame.band == band && decide (b.tick < t.endTick))

/-- The ports that a frame goes out on. In Band H (R173) the transmit set, or the port that its rule names. In Band L (R118)
every port for a group and while joining; else the port that the timing assignment or the forwarding entry names, or the one
its neighbour was last heard on; every port where none of these is a Band L port. -/
def Block.portsFor (b : Block) (f : TxFrame) : List Nat :=
  if f.band = 0 then
    match f.port with
    | some p => [p]
    | none => b.hPorts.take (modeStreams f.hdr.mode)
  else if groupAddr f.hdr.dst ∨ f.hdr.dst = 0 ∨ b.mode = 5 then b.lPorts
  else
    let p := match f.port with
      | some p => p
      | none => b.heardPort f.hdr.dst 1 - 1
    if p ∈ b.lPorts ∧ (f.port.isSome ∨ b.heardPort f.hdr.dst 1 ≠ 0) then [p] else b.lPorts

/-- The AGC of a port and band is frozen. -/
def Block.frozen (b : Block) (band p : Nat) : Bool :=
  if band = 0 then b.flag (R.LFE_STAT_AGC_FROZEN_H p) else b.flag (R.LFE_STAT_AGC_FROZEN_L p)

/-- The channel access of a band. -/
def Block.access (b : Block) (band : Nat) : ChanAccess := b.mac.access.getD band {}

/-- Change the channel access of a band. -/
def Block.modAccess (b : Block) (band : Nat) (f : ChanAccess → ChanAccess) : Block :=
  { b with mac := { b.mac with access := b.mac.access.modify band f } }

/-- Carrier sense (R260). -/
def Block.busy (b : Block) (band : Nat) : Bool :=
  let ports := if band = 0 then b.hPorts else b.lPorts
  b.sending band || ports.any (b.frozen band) || ports.any (fun p => decide (2 ≤ (b.access band).overUnits.getD p 0)) ||
    decide (b.tick < (b.access band).busyUntil)

/-- Put a frame at the end of the transmit order; a later BLOCK_ACK for the same peer replaces one still queued
(R270). -/
def Block.submit (b : Block) (f : TxFrame) : Block :=
  let l := if f.kind = .blockAck then
      b.mac.order.filter (fun g => ¬(g.kind = .blockAck ∧ g.hdr.dst = f.hdr.dst ∧ g.band = f.band))
    else b.mac.order
  { b with mac := { b.mac with order := l ++ [f] } }

/-- The band and port toward a neighbour: where it was last heard; Band H, where that is enabled, else Band L. -/
def Block.bandToward (b : Block) (a : Nat) : Nat :=
  let heard := Tab.get 0 b.mac.heardOn a
  if heard ≠ 0 then bits (heard - 1) 2 1 else if b.bandEnabled 0 then 0 else 1

/-- The header of a new frame of the node. -/
def Block.newHeader (b : Block) (ftype cls dst band : Nat) (ackReq : Bool) : Header :=
  { ftype := ftype, cls := cls, dst := dst, src := b.short, net := b.netId, mode := b.peerMode dst band,
    ackReq := ackReq, margin := b.feedback dst band }

/-- The mesh prefix of R302. -/
def meshPrefix (final origin bseq : Nat) : List Byte := leBytes final 2 ++ leBytes origin 2 ++ leBytes bseq 2

/-- The hop that R303 names for a final destination, with its PORT_BAND and whether it is the alternate; none where there
is no route. -/
def Block.nextHop (b : Block) (dst : Nat) : Option (Nat × Nat × Bool) :=
  let pick (a : Nat) : Option (Nat × Nat × Bool) :=
    let e := fwdAt a
    let pb := b.tab (e + 4) 1
    let alt := b.tab (e + 2) 2
    if pb.testBit 3 ∧ alt ≠ 0 ∧ pb.testBit 4 = false then some (alt, b.tab (e + 12) 1, true)
    else some (b.tab e 2, pb, false)
  if b.hasFwd dst then pick dst
  else if b.role = 0 ∨ (b.role = 2 ∧ dst ≠ 1) then none
  else if b.hasFwd 1 then pick 1
  else none

/-- A frame of the node itself, or one that it repeats, toward a final destination (R303): its band and port follow at
each attempt. -/
def Block.sendMesh (b : Block) (ftype cls dst : Nat) (data : List Byte) (hop : Nat := 0) (src : Nat := 0)
    (queue : Option Nat := none) (span : Nat := 0) : Block :=
  let group := groupAddr dst
  let hopTo := if group then dst else match b.nextHop dst with | some (n, _, _) => n | none => 0
  let band := if group then (if b.bandEnabled 0 then 0 else 1)
    else match b.nextHop dst with | some (_, pb, _) => bits pb 2 1 | none => 0
  let port := if group ∨ band = 0 then none else match b.nextHop dst with | some (_, pb, _) => some (pb % 4) | none => none
  let h := { b.newHeader ftype cls hopTo band (!group) with hop := hop, span := span }
  b.submit { band := band, kind := .other, hdr := h, payload := data, src := src, queue := queue, port := port,
             final := if group then 0 else dst }

/-- Send a mesh command of the node (R302). -/
def Block.sendCommand (b : Block) (code dst : Nat) (body : List Byte) : Block :=
  let group := groupAddr dst
  let bseq := if group then (b.mac.bseq + 1) % 65536 else 0
  let b := if group then { b with mac := { b.mac with bseq := bseq } } else b
  b.sendMesh 5 1 dst (meshPrefix dst b.short bseq ++ [BitVec.ofNat 8 code, 0] ++ body)

/-- A frame before its protection, to be sent with a new counter. -/
def TxFrame.unsealed (f : TxFrame) : TxFrame := { f with sealed := false, payload := if f.sealed then f.plain else f.payload }

/-- A frame whose packet is the head of its queue comes first in the transmit order. -/
def Block.orderFirst (b : Block) (f : TxFrame) : Block := { b with mac := { b.mac with order := f :: b.mac.order } }

/-- The frames taken for sending: ready, on the line, or waiting for an acknowledgement. -/
def Block.inFlight (b : Block) : List TxFrame :=
  b.mac.waiting.map (fun w => w.frame) ++ b.phy.tx.map (fun t => t.frame) ++ b.mac.ready

/-- The transmit order that outlasts a reset (R343): the frames whose packets their queues hold, those in flight first. -/
def Block.keptOrder (b : Block) : List TxFrame :=
  ((b.inFlight ++ b.mac.order).filter (fun f => f.queue.isSome)).map (fun f =>
    { f.unsealed with retries := 0, redirected := false, viaAlt := false, port := none })

/-- Give a queued packet up as failed (R272, R305); an assured one that its queue holds is presented again (R332). -/
def Block.failFrame (b : Block) (f : TxFrame) : Block :=
  match f.queue with
  | some n =>
    let b := b.failHead n
    if (b.q n).headHeld then b.orderFirst { f.unsealed with retries := 0, redirected := false, viaAlt := false } else b
  | none => b

/-- A frame has done its work: its packet is released (R331). -/
def Block.finishFrame (b : Block) (f : TxFrame) : Block :=
  match f.queue with
  | some n => b.release n
  | none => b

/-- Mark a next hop down in every forwarding entry that uses it (R305). -/
def Block.markHopDown (b : Block) (x : Nat) : Block :=
  let used := ((b.tables.filter (fun c => 0x40600000 ≤ c.1 ∧ c.1 < 0x40680000)).map (fun c => (c.1 - 0x40600000) / 32)).dedup
  b.forEach used (fun b a =>
    let e := fwdAt a
    let pb := b.tab (e + 4) 1
    let b := if b.tab e 2 = x then b.setTab (e + 4) 1 (pb ||| 8) else b
    let pb := b.tab (e + 4) 1
    if b.tab (e + 2) 2 = x then b.setTab (e + 4) 1 (pb ||| 16) else b)

/-- Retries are exhausted toward `x` (R272, R305): the hop is marked down and reported; a mesh frame not yet redirected
goes to the other hop where one is usable, newly protected, else the frame is returned as failed. -/
def Block.exhaust (b : Block) (f : TxFrame) : Block :=
  let x := f.hdr.dst
  let dst := f.final
  let b := b.count R.MAC_RETRY_EXHAUSTED_COUNT R.MAC_TROUBLE_RETRY_EXHAUSTED
  if dst = 0 then b.failFrame f
  else
    let b := b.markHopDown x
    let other := b.nextHop dst
    let b :=
      match other with
      | some (n, pb, alt) =>
        if n ≠ x ∧ f.redirected = false ∧ n ≠ f.src ∧ (alt ∨ pb.testBit 3 = false) then
          let b := b.count R.MSH_LOCAL_REPAIR_COUNT R.MSH_TROUBLE_LOCAL_REPAIR
          b.orderFirst { f.unsealed with
            hdr := { f.hdr with dst := n }, band := bits pb 2 1, retries := 0, redirected := true, viaAlt := alt }
        else b.failFrame f
      | none => b.failFrame f
    let port := ((b.portsFor f).headD 0) % 4
    let body := Config.linkDownBody x (4 * f.band + port)
    if b.short = 1 then
      { b with mac := { b.mac with commands := b.mac.commands ++
        [{ code := 0x14, origin := 1, via := 1, band := f.band, port := port, body := body }] } }
    else b.sendCommand 0x14 1 body

/-- A transmission ended unacknowledged (R203, R269, R272): it is sent again with its counter and MIC, or it is
exhausted. -/
def Block.unacked (b : Block) (f : TxFrame) : Block :=
  let b := b.ladderFail f.hdr.dst f.band
  let sent := f.retries + 1
  if b.get R.MAC_ACCESS_RETRY_LIMIT < sent then b.exhaust { f with retries := sent }
  else { b with mac := { b.mac with order := { f with retries := sent } :: b.mac.order } }

/-- A record of R273 in the peer security table: its offset by traffic class. -/
def recAt (a cls : Nat) : Nat := peerAt a + (if cls = 0 then 16 else 40)

/-- The classes of R273. -/
inductive DupResult where
  | accept | redeliver | duplicate | replay
  deriving DecidableEq, Repr

/-- The duplicate and replay check of R273. -/
def Block.dupCheck (b : Block) (a cls ctr epoch tag : Nat) (pos0 : Bool) : DupResult × Block :=
  let r := recAt a cls
  let flags := b.tab (r + 20) 1
  let b := b.setTab (peerAt a) 2 a
  if flags.testBit 4 = false ∨ flags % 16 ≠ epoch then
    let b := ((b.setTab (r + 4) 4 ctr).setTab r 4 ctr).setTab (r + 12) 8 tag
    (.accept, b.setTab (r + 20) 1 (epoch % 16 + 16))
  else if b.tab r 4 < ctr then
    let b := if pos0 then b.setTab (r + 4) 4 ctr else b
    let b := (b.setTab r 4 ctr).setTab (r + 12) 8 tag
    (.accept, b.setTab (r + 20) 1 (epoch % 16 + 16))
  else if ctr = b.tab r 4 ∧ tag = b.tab (r + 12) 8 then
    (if flags.testBit 5 then .duplicate else .redeliver, b)
  else if b.tab (r + 4) 4 ≤ ctr ∧ ctr < b.tab r 4 then (.duplicate, b)
  else (.replay, b)

/-- A frame was handed on (R273): delivered and acked. -/
def Block.markDelivered (b : Block) (a cls ctr : Nat) : Block :=
  let r := recAt a cls
  (b.setTab (r + 20) 1 (b.tab (r + 20) 1 % 32 + 32)).setTab (r + 8) 4 ctr

/-- Take the first delivered transmission that a test selects. -/
def Block.takeDelivered (b : Block) (t : Delivered → Bool) : Option (Delivered × Block) :=
  match b.phy.delivered.find? t with
  | some d => some (d, { b with phy := { b.phy with delivered := b.phy.delivered.erase d } })
  | none => none

/-- Queue the immediate ACK of R268 for a delivered transmission, up to a counter; `after` is the tick of its verdict. -/
def Block.queueAck (b : Block) (d : Delivered) (ctr : Nat) : Block :=
  b.submit { band := d.band, kind := .ack, sealed := true, after := d.tick, port := if d.band = 1 then some d.port else none,
             hdr := { b.newHeader 2 1 d.hdr.src d.band false with mode := d.hdr.mode, ctr := ctr } }

/-- Queue the BLOCK_ACK of R270 for a peer: from the first tick that its wait allows. -/
def Block.queueBlockAck (b : Block) (d : Delivered) : Block :=
  b.submit { band := d.band, kind := .blockAck, after := b.tick + max (b.get R.MAC_BA_BA_WAIT) 1,
             port := if d.band = 1 then some d.port else none,
             hdr := { b.newHeader 3 1 d.hdr.src d.band false with mode := oneStream (b.peerMode d.hdr.src d.band) } }

end Sys2Proof.Machine
end

