-- ==== Sys2Proof/Machine/Reception.lean ====
section
/-! DEFINITION. The ends of receptions and what follows from them (R134–R136, R194, R196, R207): the AGCs of a receive set,
the capture's trigger, withheld measurements. -/

namespace Sys2Proof.Machine

/-- A capture trigger of R207 while capture is armed: 1 declaration, 2 abort, 3 header failure, 4 tick, 5 saturation
release. Capture begins. -/
def Block.captureTrigger (b : Block) (kind : Nat) : Block :=
  if b.get R.PHY_CAP_STAT_STATE = 1 ∧ (b.get R.PHY_CAP_CTRL_TRIG = kind) then
    let b : Block := { b with phy := { b.phy with capTrigger := true, capPost := 0 } }
    (b.set R.PHY_CAP_STAT_STATE 2).set R.PHY_CAP_STAT_UNITS b.phy.capture.length
  else b

/-- The receive chain of a port and band. -/
def Block.chain (b : Block) (band p : Nat) : Chain := Tab.get {} b.front.chains (2 * p + band)

/-- Change a receive chain. -/
def Block.modChain (b : Block) (band p : Nat) (f : Chain → Chain) : Block :=
  { b with front := { b.front with chains := Tab.modify {} b.front.chains (2 * p + band) f } }

/-- AGC_TARGET of a port and band (R132). -/
def Block.agcTarget (b : Block) (band p : Nat) : Nat :=
  if band = 0 then b.get (R.LFE_AGC_CFG_TARGET_H p) else b.get (R.LFE_AGC_CFG_TARGET_L p)

/-- AGC_FROZEN of a port and band (R148). -/
def Block.setFrozen (b : Block) (band p v : Nat) : Block :=
  if band = 0 then b.set (R.LFE_STAT_AGC_FROZEN_H p) v else b.set (R.LFE_STAT_AGC_FROZEN_L p) v

/-- An AGC freezes (R134); the gate's reference takes the frame's power and the target of this moment (R137). Where it is frozen
already nothing changes. -/
def Block.freeze (b : Block) (band p power : Nat) : Block :=
  if b.frozen band p then b
  else
    let target := b.agcTarget band p
    (b.setFrozen band p 1).modChain band p (fun c => { c with frame := power, target := target })

/-- Release the AGCs of some ports (R135). -/
def Block.unfreeze (b : Block) (band : Nat) (ports : List Nat) : Block :=
  b.forEach ports (fun b p => b.setFrozen band p 0)

/-- A reception that is not between two segments holds the AGC of a port and band (R134, R187). -/
def Block.holds (b : Block) (band p : Nat) : Bool :=
  b.phy.rx.any (fun r => r.band == band && r.stage != 3 && !r.paused && r.ports.contains p)

/-- Release the AGCs of a receive set that no other reception holds (R135). -/
def Block.releaseAgc (b : Block) (band : Nat) (ports : List Nat) : Block :=
  b.unfreeze band (ports.filter (fun p => !b.holds band p))

/-- A frame has ended (R135): its AGCs are released; in a collect slot they stay frozen to the slot's end. -/
def Block.endReception (b : Block) (r : Reception) : Block :=
  let b := { b with phy := { b.phy with rx := b.phy.rx.erase r } }
  if r.held then b else b.releaseAgc r.band r.ports

/-- A TIMING frame gives no measurement (R196, R223): the next TIMING frame to its sender reports it as withheld. -/
def Block.timingWithheld (b : Block) (band p src cause : Nat) : Block :=
  let b := ((b.set R.PHY_TIMWH_LAST_CAUSE cause).set R.PHY_TIMWH_LAST_PORT p).set R.PHY_TIMWH_LAST_BAND band
  let b := (b.set R.PHY_TIMWH_LAST_TICK_TAG b.tickTag).count R.PHY_TIM_WITHHELD_COUNT R.PHY_RX_TROUBLE_TIM_WITHHELD
  { b with time := { b.time with peers := b.time.peers.map (fun e => if e.1 = src then (e.1, { e.2 with lastRx := none }) else e) } }

/-- A reception is aborted (R135, R194): its AGCs are released, also in a collect slot; a TIMING frame is withheld as not
delivered (R196); a capture that waits for an abort begins (R207). The caller counts the abort under its own cause. -/
def Block.abortReception (b : Block) (r : Reception) : Block :=
  let b := { b with phy := { b.phy with rx := b.phy.rx.erase r } }
  let b := (b.releaseAgc r.band r.ports).captureTrigger 2
  if r.stage = 2 ∧ r.hdr.ftype = 4 then b.timingWithheld r.band r.port r.hdr.src 1 else b

/-- Receptions end at entry to M8 or M9 (R136, R194). -/
def Block.abortReceptions (b : Block) : Block :=
  let b := b.forEach (b.phy.rx.filter (fun r => r.stage != 3)) (fun b r => (b.abortReception r).bump R.PHY_ABORT_OTHER_COUNT)
  { b with phy := { b.phy with rx := [] } }

/-- A transmission preempts the frozen receptions of its band that hold one of its ports (R136): each is reported
once. -/
def Block.preempt (b : Block) (band : Nat) (ports : List Nat) : Block :=
  b.forEach (b.phy.rx.filter (fun r => r.band == band && r.stage != 3 && !r.paused && r.ports.any (fun p => ports.contains p)))
    (fun b r => (b.abortReception r).count R.PHY_ABORT_OTHER_COUNT R.PHY_RX_TROUBLE_PREEMPTED)

end Sys2Proof.Machine
end

