-- ==== Sys2Proof/Machine/Front.lean ====
section
/-! DEFINITION. The line front end (R114–R149) and the start, segments and end of transmissions (R158, R167, R173,
R177–R179): notches, drivers, transmit power, and the bursts that go on the line. -/

namespace Sys2Proof.Machine

/-- The occupied bandwidth of a Band H profile in 10 kHz (R122, R151). -/
def occupied (profile : Nat) : Nat := occupiedHz profile / 10000

/-- Cut an interval out of a list of intervals. -/
def cutOut (l : List (Nat × Nat)) (n : Nat × Nat) : List (Nat × Nat) :=
  l.flatMap (fun i => [(i.1, min i.2 n.1), (max i.1 n.2, i.2)].filter (fun j => j.1 < j.2))

/-- The valid notches (R126): START and STOP in 10 kHz. -/
def Block.notches (b : Block) : List (Nat × Nat) :=
  ((List.range 32).filter (fun n => b.flag (R.LFE_NOTCH_VALID n))).map
    (fun n => (b.get (R.LFE_NOTCH_START n), b.get (R.LFE_NOTCH_STOP n)))

/-- The occupied band of a port as an interval in 10 kHz. -/
def Block.occupiedBand (b : Block) (p : Nat) : Option (Nat × Nat) :=
  match b.profile 0 p with
  | some prof =>
    let c := b.get (R.LFE_CFG_H_CENTRE p)
    some (c - occupied prof / 2, c + occupied prof / 2)
  | none => none

/-- The notches leave at least 75 % of every enabled port's band (R127). -/
def Block.notchesFit (b : Block) (l : List (Nat × Nat)) : Bool :=
  (List.range 4).all (fun p =>
    match b.occupiedBand p with
    | some i =>
      let rest := ((l.foldl cutOut [i]).map (fun j => j.2 - j.1)).sum
      decide (4 * ((i.2 - i.1) - rest) ≤ i.2 - i.1)
    | none => true)

/-- VALID_NOTCHES follows the entries (R149). -/
def Block.showNotches (b : Block) : Block :=
  b.usat R.LFE_NOTCH_STAT_VALID_NOTCHES ((List.range 32).filter (fun n => b.flag (R.LFE_NOTCH_VALID n))).length

/-- An unlocked notch entry may be written in this mode (R127). -/
def Block.notchMode (b : Block) : Bool := b.mode == 6 || b.mode == 7 || b.mode == 10

/-- A write of START and STOP waits for VALID (R149), in the modes of R127. -/
def Block.notchWord (b : Block) (n word : Nat) : Block :=
  if b.notchMode = false then b
  else { b with front := { b.front with notchWord := Tab.set 0 b.front.notchWord n (word % 2 ^ 32 + 1) } }

/-- A write of a notch entry's second word (NOTCH_WRITE, R127): locked entries do not change; VALID 1 checks and applies
START and STOP together; VALID 0 takes the entry out of force. -/
def Block.notchWrite (b : Block) (n word : Nat) : Block :=
  if 32 ≤ n ∨ b.flag (R.LFE_NOTCH_LOCKED n) ∨ b.notchMode = false then b
  else if word % 2 = 0 then (b.set (R.LFE_NOTCH_VALID n) 0).showNotches
  else
    let w := Tab.get 0 b.front.notchWord n
    let start := if w = 0 then b.get (R.LFE_NOTCH_START n) else (w - 1) % 65536
    let stop := if w = 0 then b.get (R.LFE_NOTCH_STOP n) else (w - 1) / 65536
    let others := (b.set (R.LFE_NOTCH_VALID n) 0).notches
    if start + 20 ≤ stop ∧ b.notchesFit ((start, stop) :: others) then
      let b := ((b.set (R.LFE_NOTCH_START n) start).set (R.LFE_NOTCH_STOP n) stop).set (R.LFE_NOTCH_VALID n) 1
      { b.showNotches with front := { b.front with notchWord := Tab.set 0 b.front.notchWord n 0 } }
    else
      let b := { b with front := { b.front with notchWord := Tab.set 0 b.front.notchWord n 0 } }
      b.count R.LFE_NOTCH_REFUSED_COUNT R.LFE_NOTCH_STAT_NOTCH_REFUSED

/-- The PSD ceiling of BAND_PLAN (R123, R147): segments as start (10 kHz) and ceiling (0.5 dB). -/
def Block.ceiling (b : Block) : List (Nat × Int) :=
  let l := b.bandPlan
  (List.range (leAt l 0xA0 1)).map (fun s => (leAt l (0x80 + 4 * s) 2, sext 16 (leAt l (0x82 + 4 * s) 2)))

/-- The intervals that the ceiling's segments hold within a band, each with its ceiling. -/
def ceilingParts : List (Nat × Int) → Nat × Nat → List ((Nat × Nat) × Int)
  | [], _ => []
  | (s, c) :: l, i =>
    let stop := match l with | (n, _) :: _ => min n i.2 | [] => i.2
    ((max s i.1, stop), c) :: ceilingParts l i

/-- The output of port `p` at an attenuation of 0.5 dB steps, in fixed-point mW: the flat-top estimate over the occupied
band without the notched parts (R123, worked example). -/
def Block.outputPower (b : Block) (p : Nat) (atten : Nat) : Nat :=
  match b.occupiedBand p with
  | some i =>
    ((ceilingParts b.ceiling i).map (fun e =>
      let width := ((b.notches.foldl cutOut [e.1]).map (fun j => j.2 - j.1)).sum
      width * 10000 * fxFromDb (((e.2 - atten : Int) : Rat) / 2))).sum
  | none => 0

/-- The least extra attenuation that keeps a port at 20 dBm (R123). -/
def Block.powerLimit (b : Block) (p : Nat) : Nat → Nat → Nat
  | 0, a => a
  | n + 1, a => if b.outputPower p a ≤ 100 * fxOne then a else b.powerLimit p n (a + 1)

/-- The driver of a band and port: 0 to 3 Band H, 4 the shared Band L driver. -/
def driverOf (band p : Nat) : Nat := if band = 0 then p else 4

/-- The driver is shut down (R120). -/
def Block.driverOff (b : Block) (band p : Nat) : Bool := b.front.driverOff.getD (driverOf band p) false

/-- The reduction of a driver by foldback, in dB (R120). -/
def Block.foldback (b : Block) (band p : Nat) : Nat := b.front.foldback.getD (driverOf band p) 0

/-- FOLDBACK_DB of the ports shows the reduction in force (R120): of the port's Band H driver or the shared Band L driver,
the greater. DESIGN CHOICE (assumption 120). -/
def Block.showFoldback (b : Block) : Block :=
  b.forEach (List.range 4) (fun b p =>
    b.set (R.LFE_TX_ATTEN_FOLDBACK_DB p) (max (b.foldback 0 p) (if p = 3 then 0 else b.foldback 1 p)))

/-- Set the reduction of a driver. -/
def Block.setFoldback (b : Block) (band p v : Nat) : Block :=
  ({ b with front := { b.front with foldback := b.front.foldback.set (driverOf band p) v } }).showFoldback

/-- The junction temperatures are shown (R120), in 0.1 °C by driver. -/
def Block.showTemps (b : Block) (temps : List Int) : Block :=
  b.forEach ((temps.take 5).zipIdx) (fun b e => if e.2 = 4 then b.sset R.LFE_L_TEMP e.1 else b.sset (R.LFE_DRV_TEMP e.2) e.1)

/-- Foldback at the start of a frame (R120): the relaxations earned since the last one, then a step above +135 °C. `temp`
is the junction temperature in 0.1 °C; a step is charged to `ports`, in Band L every port selected for the frame. -/
def Block.applyFoldback (b : Block) (band p : Nat) (temp : Int) (ports : List Nat) : Block :=
  let d := driverOf band p
  let b := b.setFoldback band p (b.foldback band p - b.front.relax.getD d 0)
  let b := { b with front := { b.front with relax := b.front.relax.set d 0 } }
  if 1350 < temp ∧ b.foldback band p < 20 then
    let b := b.setFoldback band p (b.foldback band p + 1)
    b.forEach ports (fun b q => (b.bump (R.LFE_FOLDBACK_COUNT q)).stick (R.LFE_TROUBLE_FOLDBACK q))
  else b

/-- FOLDBACK_RELAX (R120): a second below +125 °C. -/
def Block.relaxDriver (b : Block) (d : Nat) : Block :=
  { b with front := { b.front with relax := b.front.relax.modify d (· + 1) } }

/-- TX_ACTIVE of the ports of a transmission. -/
def Block.setActive (b : Block) (band : Nat) (ports : List Nat) (v : Nat) : Block :=
  b.forEach ports (fun b p => if band = 0 then b.set (R.LFE_STAT_TX_ACTIVE_H p) v else b.set (R.LFE_STAT_TX_ACTIVE_L p) v)

/-- A mode or frame that is refused at transmit (R118, R161, R167, R177). -/
def Block.txRefused (b : Block) (f : TxFrame) (ports : List Nat) : Bool :=
  let m := f.hdr.mode
  let prof := modeProfile m
  let isL := profileL prof
  let same := match ports with
    | [] => true
    | p :: l => l.all (fun q => b.profile 0 q == b.profile 0 p && b.get (R.LFE_CFG_H_CENTRE q) == b.get (R.LFE_CFG_H_CENTRE p))
  let chips := frameChips m f.hdr.span (f.kind == .collect) (b.lens f)
  ports.isEmpty || decide (6 ≤ prof) || modeMod m == 3 || decide (4 ≤ modeRate m) || decide (13 ≤ modeExp m) ||
    isL != (f.band == 1) ||
    (isL && (decide (8 < modeExp m) || modeStreams m != 1)) ||
    (f.band == 0 && (decide (ports.length < modeStreams m) || !same)) ||
    (f.kind == .collect && (isL || decide (modeExp m < 8 ∨ 10 < modeExp m) || modeStreams m != 1)) ||
    (!f.follow.isEmpty && (f.hdr.ftype != 1 || decide (255 < f.follow.length))) ||
    (f.hdr.span != 0 && (!f.follow.isEmpty || f.hdr.ftype != 1 || f.hdr.cls != 0 ||
      (decide (1 < f.hdr.span) &&
        decide ((b.get R.GLB_GRID_N - 1) * 40000 * 64 < chips.headD 0 * chipPeriod prof))))

/-- An ACK or BLOCK_ACK that cannot be sent (R271). -/
def Block.replyBlocked (b : Block) : Block := b.count R.MAC_REPLY_BLOCKED_COUNT R.MAC_TROUBLE_REPLY_BLOCKED

/-- A scheduled frame that is not sent (R259, R263, R279, R284). -/
def Block.slotLost (b : Block) : Block := b.count R.MAC_SLOT_LOST_COUNT R.MAC_TROUBLE_SLOT_LOST

/-- A frame that could not start: a reply is blocked, a scheduled frame lost, any other stays queued. -/
def Block.notStarted (b : Block) (f : TxFrame) : Block :=
  match f.kind with
  | .ack => b.replyBlocked
  | .blockAck => b.replyBlocked
  | .other => { b with mac := { b.mac with order := f :: b.mac.order } }
  | _ => b.slotLost

/-- A transmit abort reported to the MAC (R40, R120, R167): retried as a failed transmission; scheduled frames and
replies are not retried. -/
def Block.txAborted (b : Block) (f : TxFrame) : Block :=
  match f.kind with
  | .other => if f.hdr.ackReq then b.unacked f else b.failFrame f
  | _ => b

/-- The follow-on header bytes of a train (R174). -/
def followHeaders : List (Header × List Byte) → List (List Byte × List Byte)
  | [] => []
  | (h, p) :: l =>
    let o : FollowOn :=
      { len := p.length, ctr := h.ctr, ackReq := h.ackReq, sec := h.sec, epoch := h.epoch, more := !l.isEmpty }
    (o.encode, p) :: followHeaders l

/-- The coded bits of a frame's segments (R171–R174, R178). -/
def TxFrame.codedBits (f : TxFrame) : List (List Bool) :=
  let all := payloadBits f.hdr.mode f.payload ++
    (followHeaders f.follow).flatMap (fun e => repeatBlock (modeRep f.hdr.mode) (followBits e.1) ++ payloadBits f.hdr.mode e.2)
  if f.hdr.span ≤ 1 then [all] else dealBits f.hdr.span all

/-- The last tick of a transmission of `chips` chips that starts in this tick. -/
def Block.endAfter (b : Block) (profile chips : Nat) : Nat := b.tick + ceilDiv (chips * chipPeriod profile) (64 * 40000)

/-- The attenuation of a frame on a port in 0.5 dB: LFE_TX_ATTEN (a collect frame's own in its place, R311), foldback,
and 10 dB more on P3 (R123–R125). -/
def Block.baseAtten (b : Block) (f : TxFrame) (p : Nat) : Nat :=
  if f.band = 0 then
    (match f.atten with | some a => a | none => b.get (R.LFE_TX_ATTEN_H p)) + 2 * b.foldback 0 p + (if p = 3 then 20 else 0)
  else b.get (R.LFE_TX_ATTEN_L p) + 2 * b.foldback 1 p

/-- The attenuation with what the 20 dBm limit of a Band H driver adds (R123). -/
def Block.frameAtten (b : Block) (f : TxFrame) (p : Nat) : Nat :=
  if f.band = 0 then b.powerLimit p 400 (b.baseAtten f p) else b.baseAtten f p

/-- A transmission to a peer counts for its link's RETRY (R295). -/
def Block.countSent (b : Block) (f : TxFrame) : Block :=
  if groupAddr f.hdr.dst then b
  else b.modLink f.hdr.dst f.band (fun r =>
    if f.retries = 0 then { r with sent := r.sent + 1 } else { r with resent := r.resent + 1 })

/-- The level of a Band L transmission in 0.5 dBµV (R125): the class limit less the attenuation. -/
def Block.levelL (b : Block) (atten : Nat) : Nat := leAt b.bandPlan 0xA2 2 - atten

/-- Sorted places without repeats, paired with their successors. -/
def intervals : List Nat → List (Nat × Nat)
  | a :: c :: l => if a = c then intervals (c :: l) else (a, c) :: intervals (c :: l)
  | _ => []

/-- The spectrum of a Band H port at an attenuation (R123, R126): the ceiling less the attenuation over the occupied band,
30 dB lower within the notches, between the two within 100 kHz of a notch. -/
def Block.spectrum (b : Block) (p atten : Nat) : List MaskPart :=
  match b.occupiedBand p with
  | none => []
  | some (lo, hi) =>
    let notches := b.notches
    let ceiling := b.ceiling
    let cuts := ceiling.map Prod.fst ++ notches.flatMap (fun n => [n.1 - 10, n.1, n.2, n.2 + 10])
    let cuts := (lo :: hi :: cuts.filter (fun x => decide (lo < x ∧ x < hi))).insertionSort (· ≤ ·)
    (intervals cuts).map (fun i =>
      { start := i.1, stop := i.2
        psd := ((ceiling.filter (fun c => c.1 ≤ i.1)).getLast?.map Prod.snd).getD 0 - atten
        kind := if notches.any (fun n => decide (n.1 ≤ i.1 ∧ i.2 ≤ n.2)) then .notch
          else if notches.any (fun n => decide (n.1 - 10 ≤ i.1 ∧ i.2 ≤ n.2 + 10)) then .edge
          else .full })

/-- What a frame's start fixes for all of it (R121): profile, centre, levels and spectrum of each port. -/
def Block.plan (b : Block) (f : TxFrame) (ports : List Nat) : List Burst :=
  ports.map (fun p =>
    let prof := modeProfile f.hdr.mode
    let atten := b.frameAtten f p
    { port := p, profile := prof, atten := atten, chips := [], ramp := rampLen (profileL prof)
      centre := if f.band = 0 then b.get (R.LFE_CFG_H_CENTRE p) else 0
      level := if f.band = 0 then 0 else b.levelL atten
      mask := if f.band = 0 then b.spectrum p atten else [] })

/-- The collect index a frame is spread with (R161): its exponent and index. -/
def TxFrame.collectCode (f : TxFrame) : Option (Nat × Nat) :=
  if f.kind = .collect then some (modeExp f.hdr.mode, f.code) else none

/-- The bursts of segment `k` of a frame (R158–R161, R173, R177): stream s on the s-th port; in Band L one stream on every
selected port. -/
def TxFrame.bursts (f : TxFrame) (plan : List Burst) (k : Nat) : List Burst :=
  let bits := f.codedBits.getD k []
  plan.zipIdx.map (fun e =>
    { e.1 with chips := segmentChips f.hdr.mode f.collectCode f.hdr.net f.hdr.encode bits k (if f.band = 0 then e.2 else 0) })

/-- The time on the tick scale in 1/64 ns of a tick's start. -/
def tickTime (t : Nat) : Nat := t * 40000 * 64

/-- How long suppression lasts after the last ramp chip, in 1/64 ns (R135): 2 µs, 50 µs in Band L. -/
def quietTail (band : Nat) : Nat := (if band = 0 then 2000 else 50000) * 64

/-- The receive samples of some ports are suppressed while the node sends `chips` chips from now on, ramps included (R135). -/
def Block.suppress (b : Block) (band profile chips : Nat) (ports : List Nat) : Block :=
  let till := tickTime b.tick + chips * chipPeriod profile + quietTail band
  b.forEach ports (fun b p => b.modChain band p (fun c => { c with quietTo := till }))

/-- The current limit acts `add` ns more on the ports of a frame (R119): where it reaches 1 µs, the frame is counted once on
that port. -/
def Block.limitFrame (b : Block) (band : Nat) (ports was add : List Nat) : List Nat × Block :=
  let now := ports.zipIdx.map (fun e => was.getD e.2 0 + add.getD (driverOf band e.1) 0)
  (now, b.forEach ports.zipIdx (fun b e =>
    if was.getD e.2 0 < 1000 ∧ 1000 ≤ now.getD e.2 0 then
      (b.bump (R.LFE_CURR_LIMIT_COUNT e.1)).stick
        (if band = 0 then R.LFE_TROUBLE_CURR_LIMIT_H e.1 else R.LFE_TROUBLE_CURR_LIMIT_L e.1)
    else b))

/-- The frame goes on the line on `ports` (R119, R123, R124, R136, R158, R159). `limitNs` is how long the current limit acts in
its first segment, by driver. -/
def Block.launch (b : Block) (f : TxFrame) (ports limitNs : List Nat) : Block :=
  let (f, b) := b.sealFrame f
  let f := { f with hdr := { f.hdr with margin := b.feedback f.hdr.dst f.band, pending := f.hdr.pending || !f.follow.isEmpty } }
  let b := b.charge f
  let b := if f.band = 1 then b.set R.LFE_L_SEL ((ports.map (fun p => 2 ^ p)).sum) else b
  let plan := b.plan f ports
  let b := b.forEach ports (fun b p =>
    if b.baseAtten f p < b.frameAtten f p then b.stick (R.LFE_TROUBLE_POWER_LIMITED p) else b)
  let (limited, b) := b.limitFrame f.band ports [] limitNs
  let b := (b.preempt f.band ports).setActive f.band ports 1
  let b := (b.add R.MAC_TX_FRAMES_COUNT (1 + f.follow.length)).countSent f
  let b := if f.retries ≠ 0 then b.bump R.MAC_RETRY_COUNT else b
  let prof := modeProfile f.hdr.mode
  let chips := (frameChips f.hdr.mode f.hdr.span (f.kind == .collect) (b.lens f)).headD 0
  let t : TxActive :=
    { frame := f, ports := ports, endTick := b.endAfter prof chips, segments := f.hdr.span - 1, plan := plan
      offset := b.tick - b.grid.anchor, limited := limited }
  let b := { b with phy := { b.phy with tx := b.phy.tx ++ [t] } }
  (b.suppress f.band prof chips ports).emit (.frame f.band 0 (f.bursts plan 0))

/-- KEY_LOW is due once the counter has reached 0x8000_0000 (R485). -/
def Block.keyLow (b : Block) : Block :=
  if b.keyed ∧ 0x80000000 ≤ b.get R.SEC_TX_CTR ∧ b.sec.keyLowSent = false then
    ({ b with sec := { b.sec with keyLowSent := true } }).sendCommand 0x24 1 []
  else b

/-- The order of transmissions that fall due at one unit boundary (R263). -/
def TxKind.rank : TxKind → Nat
  | .beacon => 0
  | .timing => 1
  | .collect => 2
  | .ack => 3
  | .blockAck => 4
  | .other => 5

/-- The ready frame of a band that goes first (R263): the first of the lowest rank. -/
def Block.firstReady (b : Block) (band : Nat) : Option TxFrame :=
  match b.mac.ready.filter (fun f => f.band == band) with
  | [] => none
  | f :: l => some (l.foldl (fun f g => if g.kind.rank < f.kind.rank then g else f) f)

/-- The role of the slots that a frame of a kind is sent in (R257, R258). -/
def TxKind.role : TxKind → Nat
  | .beacon => 1
  | .timing => 2
  | .collect => 3
  | _ => 0

/-- A frame that starts at tick `t` would still end within its run of slots (R259): in Band H slots of its role, in Band L up
to the next QUIET slot. -/
def Block.meetsRun (b : Block) (f : TxFrame) (t : Nat) : Bool :=
  decide (t * 40000 + b.airtimeOf f ≤ b.runEnd f.band (fun r => if f.band = 0 then r == f.kind.role else r != 5) * 40000)

/-- The frames that were due with one that has started (R263): an ACK has lost its tick boundary (R268); a scheduled frame or a
BLOCK_ACK that could not end in its slots after the started frame is not sent either. Contention frames wait on. -/
def Block.loseReady (b : Block) (band endTick : Nat) : Block :=
  b.forEach (b.mac.ready.filter (fun f => f.band == band && f.kind != .other &&
      (f.kind == .ack || (b.hasGrid && !b.meetsRun f endTick))))
    (fun b f => ({ b with mac := { b.mac with ready := b.mac.ready.erase f } }).notStarted f)

/-- The ready frame of a band that comes first starts (FRAME_TX_START). `temps` are the drivers' junction temperatures in 0.1 °C,
`limitNs` how long the current limit acts in the segment, both by driver. -/
def Block.startFrame (b : Block) (band : Nat) (temps : List Int) (limitNs : List Nat) : Block :=
  match b.firstReady band with
  | none => b
  | some f =>
    let b := { b with mac := { b.mac with ready := b.mac.ready.erase f } }
    let ports := b.portsFor f
    let b := b.showTemps temps
    if b.mayTransmit = false ∨ b.forbidden band then b.notStarted f
    else if ports.any (b.driverOff band) then b.txAborted f
    else if b.txRefused f ports then (b.count R.PHY_TX_REFUSED_COUNT R.PHY_TROUBLE_TX_REFUSED).txAborted f
    else if b.exhausted ∧ protectedType f.hdr.ftype ∧ f.sealed = false then
      (b.stick R.SEC_TROUBLE_COUNTER_EXHAUSTED).notStarted f
    else if b.budgetOk f = false then (b.count R.MAC_BUDGET_REFUSED_COUNT R.MAC_TROUBLE_BUDGET_REFUSED).notStarted f
    else
      let b := if band = 0 then b.forEach ports (fun b p => b.applyFoldback 0 p (temps.getD p 0) [p])
        else match ports with | p :: _ => b.applyFoldback 1 p (temps.getD 4 0) ports | [] => b
      let b := (b.launch f ports limitNs).keyLow
      b.loseReady band ((b.phy.tx.getLast?.map (fun t => t.endTick)).getD b.tick)

/-- Change a transmission. -/
def Block.setTx (b : Block) (t t' : TxActive) : Block :=
  { b with phy := { b.phy with tx := b.phy.tx.map (fun x => if x = t then t' else x) } }

/-- One segment more of a transmission is omitted (R179). -/
def Block.omitSegment (b : Block) (t : TxActive) : Block :=
  (b.setTx t { t with omitted := true }).count R.PHY_SEG_OMITTED_COUNT R.PHY_TROUBLE_SEG_OMITTED

/-- The continuation segment that a transmission sends next. -/
def TxActive.nextSegment (t : TxActive) : Nat := t.frame.hdr.span - t.segments

/-- The next segment of a transmission is due in this tick (R177): in half-cycle h0 + k, at the offset that segment 0 had. -/
def Block.segmentDue (b : Block) (t : TxActive) : Bool :=
  t.segments != 0 && t.halves == t.nextSegment && b.tick == b.grid.anchor + t.offset

/-- The tick of the next segment of a transmission has passed. -/
def Block.segmentPast (b : Block) (t : TxActive) : Bool :=
  t.segments != 0 && (decide (t.nextSegment < t.halves) ||
    (t.halves == t.nextSegment && decide (b.grid.anchor + t.offset < b.tick)))

/-- The next continuation segment of a dispersed frame in a band at its tick (SEGMENT_TX, R177–R179): sent at the levels of the
frame's start (R121), or omitted. -/
def Block.segmentTx (b : Block) (band : Nat) (limitNs : List Nat) : Block :=
  match b.phy.tx.find? (fun t => t.frame.band == band && b.segmentDue t) with
  | none => b
  | some t =>
    let f := t.frame
    let k := t.nextSegment
    let prof := modeProfile f.hdr.mode
    let chips := (frameChips f.hdr.mode f.hdr.span false (b.lens f)).getD k 0
    let t' := { t with segments := t.segments - 1 }
    let b := b.setTx t t'
    if b.mayTransmit = false ∨ b.forbidden band ∨ t.ports.any (b.driverOff band) ∨ b.sending band then b.omitSegment t'
    else
      let (limited, b) := b.limitFrame band t.ports t.limited limitNs
      let b := b.setTx t' { t' with endTick := b.endAfter prof chips, limited := limited }
      let b := (b.preempt band t.ports).setActive band t.ports 1
      (b.suppress band prof chips t.ports).emit (.frame band k (f.bursts t.plan k))

/-- Segments whose tick has passed without being sent are omitted (R179). -/
def Block.pastSegments (b : Block) : Block :=
  b.forEach (b.phy.tx.filter b.segmentPast) (fun b t =>
    let t' := { t with segments := t.segments - 1 }
    (b.setTx t t').omitSegment t')

/-- End the transmissions that a test selects with a ramp at the next chip (R121): a transmit abort (R40, R120); a dispersed
frame with segments left only omits this one (R179). -/
def Block.abortTx (b : Block) (sel : TxActive → Bool) : Block :=
  b.forEach (b.phy.tx.filter (fun t => sel t && decide (b.tick < t.endTick))) (fun b t =>
    let prof := modeProfile t.frame.hdr.mode
    let b := (b.setActive t.frame.band t.ports 0).suppress t.frame.band prof (rampLen (profileL prof)) t.ports
    let b := b.emit (.rampDown t.frame.band t.ports)
    if t.segments = 0 ∧ t.frame.hdr.span ≤ 1 then
      ({ b with phy := { b.phy with tx := b.phy.tx.erase t } }).txAborted t.frame
    else
      let t' := { t with endTick := b.tick }
      (b.setTx t t').omitSegment t')

/-- A transmission has ended: its frame waits for an acknowledgement, or has done its work. One with an omitted segment that asks
for none is unacknowledged (R179). -/
def Block.txDone (b : Block) (t : TxActive) : Block :=
  let f := t.frame
  let b := { b with phy := { b.phy with tx := b.phy.tx.erase t } }
  if f.hdr.ackReq ∧ groupAddr f.hdr.dst = false ∧ f.kind = .other then
    let w : Waiting := { frame := f, blockAck := f.hdr.cls == 0, doneTick := b.tick }
    { b with mac := { b.mac with waiting := b.mac.waiting ++ [w] } }
  else if t.omitted ∧ groupAddr f.hdr.dst = false ∧ f.kind = .other then b.unacked f
  else b.finishFrame f

/-- Transmissions end at a tick boundary: TX_ACTIVE falls. -/
def Block.endTransmissions (b : Block) : Block :=
  b.forEach (b.phy.tx.filter (fun t => decide (t.endTick ≤ b.tick))) (fun b t =>
    let still := b.phy.tx.any (fun x => x != t && x.frame.band == t.frame.band && decide (b.tick < x.endTick))
    let b := if still then b else b.setActive t.frame.band t.ports 0
    if t.segments = 0 then b.txDone t else b)

/-- A driver's junction temperature is shown. -/
def Block.showTemp (b : Block) (d : Nat) (temp : Int) : Block :=
  if d = 4 then b.sset R.LFE_L_TEMP temp else if d < 4 then b.sset (R.LFE_DRV_TEMP d) temp else b

/-- DRIVER_THERMAL_SHUTDOWN (R120), above +150 °C: driver 0 to 3 is a Band H driver, 4 the Band L driver. The frame in
progress ends, the driver is disabled, and every port concerned counts one event towards error class 3. -/
def Block.thermalDriver (b : Block) (d : Nat) (temp : Int) : Block :=
  let b := b.showTemp d temp
  if d < 5 ∧ 1500 < temp ∧ b.front.driverOff.getD d false = false then
    let band := if d < 4 then 0 else 1
    let live := b.phy.tx.find? (fun t => t.frame.band == band && decide (b.tick < t.endTick) &&
      (band == 1 || t.ports.contains d))
    let ports := if d < 4 then [d]
      else match live with
        | some t => t.ports
        | none => (List.range 3).filter (fun p => b.bit R.LFE_L_SEL p)
    let b := { b with front := { b.front with driverOff := b.front.driverOff.set d true } }
    let b := b.abortTx (fun t => t.frame.band == band && (band == 1 || t.ports.contains d))
    b.forEach ports (fun b p => (b.stick (R.LFE_TROUBLE_THERMAL_SHUTDOWN p)).fault 3 p)
  else b

/-- DRIVER_THERMAL_RECOVER (R120): below +125 °C the driver is enabled again. -/
def Block.recoverDriver (b : Block) (d : Nat) (temp : Int) : Block :=
  let b := b.showTemp d temp
  if temp < 1250 then { b with front := { b.front with driverOff := b.front.driverOff.set d false } } else b

end Sys2Proof.Machine
end

