-- ==== Sys2Proof/Machine/Signal.lean ====
section
/-! DEFINITION. The receive chain between the converters and the fabric port (R128–R140, R145, R198, R260): lanes and their
flags, the AGC's stages, the chatter gate with its delay line, the running floor, the noise phase profile's sums. Powers are
squares of sample values. -/

namespace Sys2Proof.Machine

/-- The samples of a delivery unit (R128): a tick's in Band H, a block's in Band L. -/
def unitSamples (profile : Nat) : Nat :=
  match profile with
  | 0 => 8192
  | 1 => 4096
  | 2 => 2048
  | 3 => 1024
  | 4 => 80
  | _ => 500

/-- A lane as 32 bits (R129): I in the lower half (assumption 121), bit 0 of I is OVR and bit 0 of Q is GATE. -/
def Lane.word (l : Lane) : Nat :=
  (unsext 15 l.i * 2 + (if l.ovr then 1 else 0)) + 2 ^ 16 * (unsext 15 l.q * 2 + (if l.gate then 1 else 0))

/-- A unit's bytes in beats of 8 lanes (R128); the reserved lanes of the last beat are 0 (R5). -/
def unitBytes (l : List Lane) : List Byte :=
  l.flatMap (fun x => leBytes x.word 4) ++ List.replicate (4 * (ceilDiv l.length 8 * 8 - l.length)) 0

/-- The power of a sample. -/
def Lane.power (l : Lane) : Nat := (l.i * l.i + l.q * l.q).toNat

/-- The sample carries a flag (R129). -/
def Lane.flagged (l : Lane) : Bool := l.ovr || l.gate

/-- The power of full scale (R129). -/
def laneScale : Nat := 16383 * 16383

/-- A power ratio from dB. -/
def ratioDb (x : Rat) : Rat := (fxFromDb x : Rat) / fxOne

/-- A power in 0.5 dB of full scale, before rounding. -/
def halfDbfs (p : Rat) : Rat := ((dbOfRatio p.num.toNat (p.den * laneScale) : Rat) / 2 ^ 32) * 2

/-- The range of the AGC's analog stage in 0.1 dB (R132). -/
def analogRange (band : Nat) : Int × Int := if band = 0 then (-120, 360) else (-60, 420)

/-- The two stages that give a total gain of `g` 0.1 dB (R132): the analog stage in steps of 6 dB, the digital stage within
±6 dB. -/
def agcStages (band : Nat) (g : Int) : Int × Int :=
  let r := analogRange band
  let a := max r.1 (min r.2 ((g + 30) / 60 * 60))
  (a, max (-60) (min 60 (g - a)))

/-- The settled gain in 0.1 dB that holds the level of `level` 0.1 dBFS at the target of −0.5 × `target` dBFS, within the
stages' range (R132, R133). -/
def agcGain (band : Nat) (target : Nat) (level : Int) : Int :=
  let s := agcStages band (-5 * (target : Int) - level)
  s.1 + s.2

/-- The total gain of a port and band in 0.1 dB. -/
def Block.agcTotal (b : Block) (band p : Nat) : Int :=
  if band = 0 then b.sget (R.LFE_AGC_GAIN_GAIN_H p) else b.sget (R.LFE_AGC_GAIN_GAIN_L p)

/-- The gate register of a port and band (R147, R148). -/
def Block.gateReg (b : Block) (band p : Nat) : Nat := if band = 0 then b.get (R.LFE_GATE_H p) else b.get (R.LFE_GATE_L p)

/-- What a chain's samples are processed with in one unit: the band; the time constant of the floor in samples (R139); the power gain of the AGC; the gate's reference by
target level (none: by floor) and its threshold as a power ratio, LEAD and TAIL (R137, R138); whether the AGC is frozen. -/
structure ChainPar where
  marks : Nat
  tau : Nat
  gain : Rat
  target : Option Rat
  factor : Rat
  lead : Nat
  tail : Nat
  frozen : Bool

/-- The settings of a port and band. -/
def Block.chainPar (b : Block) (band p : Nat) : ChainPar :=
  let r := b.gateReg band p
  let frozen := b.frozen band p
  let target := if frozen then (b.chain band p).target else b.agcTarget band p
  { marks := if band = 0 then 12 else 3, tau := if band = 0 then 65536 else 1024
    gain := ratioDb ((b.agcTotal band p : Rat) / 10)
    target := if r.testBit 0 then some (laneScale * ratioDb (-(target : Rat) / 2)) else none
    factor := ratioDb ((bits r 2 8 : Rat) / 2), lead := bits r 10 4, tail := bits r 14 12, frozen := frozen }

/-- The gate's reference (R137): the AGC's target level, or the running floor, while the AGC is frozen the higher of floor and
frame power. None before a floor has been measured. -/
def Chain.reference (c : Chain) (k : ChainPar) : Option Rat :=
  match k.target with
  | some t => some t
  | none =>
    match c.floor, k.frozen with
    | some f, true => some (max (f * k.gain) c.frame)
    | some f, false => some (f * k.gain)
    | none, true => some c.frame
    | none, false => none

/-- The delay line of 16 samples (R138), which is always full. -/
def Chain.delay (c : Chain) : List Lane :=
  List.replicate (16 - c.line.length) { i := 0, q := 0, ovr := false, gate := false } ++ c.line

/-- A sample leaves the delay line: an unflagged one enters the running floor while the AGC is not frozen (R139). The floor is
kept referred to a gain of 0 dB, so a gain step does not change it. DESIGN CHOICE: the first one sets it (assumption 122). -/
def Chain.leave (c : Chain) (k : ChainPar) (l : Lane) : Chain :=
  if l.flagged ∨ k.frozen then c
  else
    let x : Rat := l.power / k.gain
    { c with floor := some (match c.floor with | some f => f + (x - f) / k.tau | none => x) }

/-- What one sample gives beside the chain: the lane that leaves the delay line, whether a blanking interval begins, and
for the noise phase profile (R145) the power above the reference, the floor power and whether it is suppressed. -/
structure SampleOut where
  lane : Lane
  event : Bool
  imp : Rat
  flr : Rat
  supp : Bool

/-- One sample through the chain (R129, R135, R138): `supp` tells that the port's own transmission suppresses it. -/
def Chain.push (c : Chain) (k : ChainPar) (supp : Bool) (s : Sample) : Chain × SampleOut :=
  let raw : Lane := { i := s.i, q := s.q, ovr := false, gate := false }
  let ref := c.reference k
  let marks := if s.peak then k.marks else c.marks
  let trig := !supp && (match ref with | some r => decide (r * k.factor < raw.power) | none => false)
  let gate := trig || decide (2 ≤ c.tail)
  let lane : Lane := if supp then { i := 0, q := 0, ovr := true, gate := true }
    else { raw with ovr := decide (marks ≠ 0), gate := gate }
  let held := c.delay
  let held := if trig then (held.take (16 - k.lead)) ++ (held.drop (16 - k.lead)).map (fun x => { x with gate := true }) else held
  let out := held.headD lane
  let imp : Rat := match trig, ref with | true, some r => (raw.power : Rat) - r | _, _ => 0
  let flr : Rat := match c.floor with | some f => f * k.gain | none => 0
  let event := trig && c.tail == 0
  let c := { c with
    marks := marks - 1
    tail := if trig then k.tail + 1 else c.tail - 1
    line := held.drop 1 ++ [lane] }
  (c.leave k out, { lane := out, event := event, imp := imp, flr := flr, supp := supp })

/-- All samples of a unit through the chain. `supp` tells by its place in the unit whether a sample is suppressed. -/
def Chain.pushAll (k : ChainPar) (supp : Nat → Bool) : List Sample → Nat → Chain → Chain × List SampleOut
  | [], _, c => (c, [])
  | s :: l, n, c =>
    let (c, o) := c.push k (supp n) s
    let (c, rest) := Chain.pushAll k supp l (n + 1) c
    (c, o :: rest)

/-- The bin of the noise phase profile that an instant of the tick scale (in 1/64 ns) lies in (R145): referenced to the
grid's anchor, else to L1's rising crossing Z; none while neither exists. -/
def Block.nppBinAt (b : Block) (t : Nat) : Option Nat :=
  let n := b.get R.GLB_GRID_N
  if n ≠ 0 then
    let half : Int := n * 40000 * 64
    some ((((t : Int) - tickTime b.grid.anchor) % half) * 64 / half).toNat
  else
    let p := b.phase 0
    if p.acq = 2 ∧ 0 < p.t then
      let now : Int := (b.now : Int) - (((tickTime b.tick : Int) - t) * 1024)
      some ((((now - p.z) * 2) % p.t) * 64 / p.t).toNat
    else none

/-- The sums of one sample enter its bin; `base` is the first bin of the port and band. -/
def Block.nppAdd (b : Block) (base t : Nat) (o : SampleOut) : Block :=
  match b.nppBinAt t with
  | none => b
  | some j =>
    let bins := Tab.modify {} b.spur.bins (base + j) (fun x =>
      { imp := x.imp + o.imp, flr := x.flr + o.flr, supp := x.supp + (if o.supp then 1 else 0), total := x.total + 1 })
    { b with spur := { b.spur with bins := bins } }

/-- The P of a band (R158). -/
def preambleLen (band : Nat) : Nat := if band = 0 then 1024 else 128

/-- The mean of powers. -/
def meanPower (l : List Lane) : Rat := ((l.map Lane.power).sum : Rat) / l.length

/-- The receive chain of a port and band over the samples of the unit that ended (R128–R139): lanes to the ring and the fabric
port, gate events, the noise phase profile; answers the lanes. `idle` tells that the unit lies where the idle floor is
measured (R198). -/
def Block.chainUnit (b : Block) (band p : Nat) (samples : List Sample) (idle : Bool) : Block :=
  match b.profile band p with
  | none => b
  | some prof =>
    if b.receiving = false ∨ samples.length ≠ unitSamples prof then b.modChain band p (fun c => { c with unit := [] })
    else
      let first := tickTime (b.tick - (if band = 0 then 1 else 25))
      let time (n : Nat) : Nat := first + n * chipPeriod prof / 2
      let k := b.chainPar band p
      let c := b.chain band p
      let (c, outs) := Chain.pushAll k (fun n => decide (time n < c.quietTo)) samples 0 c
      let lanes := outs.map (fun o => o.lane)
      let clean := lanes.filter (fun l => !l.flagged)
      let ring := c.ring ++ lanes.map Lane.word
      let c := { c with
        unit := lanes
        ring := ring.drop (ring.length - 18 * preambleLen band)
        idle := if idle then c.idle + (clean.map (fun l => (l.power : Rat))).sum / k.gain else c.idle
        idleN := if idle then c.idleN + clean.length else c.idleN }
      let b := b.modChain band p (fun _ => c)
      let b := b.add (if band = 0 then R.LFE_GATE_EVENT_H p else R.LFE_GATE_EVENT_L p) (outs.filter (fun o => o.event)).length
      b.forEach outs.zipIdx (fun b e => b.nppAdd (128 * p + 64 * band) (time e.2) e.1)

/-- The chain's gain follows its input (R132–R135): a frozen AGC, or one whose port transmits, holds it. -/
def Block.agcTick (b : Block) (band p : Nat) (level : Int) : Block :=
  let tx := if band = 0 then b.flag (R.LFE_STAT_TX_ACTIVE_H p) else b.flag (R.LFE_STAT_TX_ACTIVE_L p)
  if b.frozen band p ∨ tx ∨ b.receiving = false ∨ (b.profile band p).isNone then b
  else b.ssat (if band = 0 then R.LFE_AGC_GAIN_GAIN_H p else R.LFE_AGC_GAIN_GAIN_L p) (agcGain band (b.agcTarget band p) level)

/-- LFE_FLOOR of a port and band (R139); without a measured floor it stays. -/
def Block.showFloor (b : Block) (band p : Nat) : Block :=
  match (b.chain band p).floor with
  | some f =>
    let (v, b) := b.openRound (halfDbfs f)
    b.ssat (if band = 0 then R.LFE_FLOOR_FLOOR_H p else R.LFE_FLOOR_FLOOR_L p) v
  | none => b

/-- The mean power of the unit that ended exceeded the floor by CS_MARGIN (R260). -/
def Block.unitLoud (b : Block) (band p : Nat) : Bool :=
  let c := b.chain band p
  match c.floor, c.unit with
  | some f, _ :: _ =>
    let margin := b.get R.MAC_ACCESS_CS_MARGIN
    decide (f * ratioDb ((b.agcTotal band p : Rat) / 10) * ratioDb ((margin : Rat) / 2) < meanPower c.unit)
  | _, _ => false

end Sys2Proof.Machine
end

