-- ==== Sys2Proof/Machine/Detect.lean ====
section
/-! DEFINITION. Finding a frame (R183–R187): the correlation of chip-spaced samples with the preamble sequence, the normalised
statistic, the sync word's test, the collect indices by a fast Walsh–Hadamard transform. -/

namespace Sys2Proof.Machine

/-- A complex number of integers. -/
abbrev Cx : Type := Int × Int

/-- The sum of complex numbers. -/
def cxSum (l : List Cx) : Cx := ((l.map Prod.fst).sum, (l.map Prod.snd).sum)

/-- A complex number with its sign turned where `neg`. -/
def cxSign (neg : Bool) (x : Cx) : Cx := if neg then (-x.1, -x.2) else x

/-- The squared magnitude. -/
def cxNorm (x : Cx) : Nat := (x.1 * x.1 + x.2 * x.2).toNat

/-- The value of a sample for the correlator: zero where it carries OVR or GATE (R183). -/
def Lane.value (l : Lane) : Cx := if l.flagged then (0, 0) else (l.i, l.q)

/-- Every second sample, from the first on: those of the chips at one lag. -/
def everySecond : List Lane → List Lane
  | a :: _ :: l => a :: everySecond l
  | l => l

/-- The samples at chip spacing with the preamble sequence removed (R183, R186): one product for each chip. -/
def preambleProducts (l : List Lane) : List Cx := List.zipWith (fun x c => cxSign c x.value) l (goldBits 0 l.length)

/-- Add up complex numbers by their places modulo `n`. -/
def foldChips (n : Nat) (l : List Cx) : List Cx :=
  (List.range n).map (fun q => cxSum ((l.zipIdx.filter (fun e => e.2 % n = q)).map (fun e => e.1)))

/-- The fast Walsh–Hadamard transform over 2^e values, in the order of the channel sequences C(2^e, i) (R155, R186). -/
def fwht : Nat → List Cx → List Cx
  | 0, l => l.take 1
  | e + 1, l =>
    let a := l.take (2 ^ e)
    let c := l.drop (2 ^ e)
    let even := fwht e (List.zipWith (fun x y => (x.1 + y.1, x.2 + y.2)) a c)
    let odd := fwht e (List.zipWith (fun x y => (x.1 - y.1, x.2 - y.2)) a c)
    (List.zipWith (fun x y => [x, y]) even odd).flatten

/-- The correlation of one repetition with the preamble sequence (R183); in a collect slot that of an index, by the transform of
length SF (R186). `code` is the exponent and index there. -/
def correlate (code : Option (Nat × Nat)) (rep : List Lane) : Cx :=
  match code with
  | none => cxSum (preambleProducts rep)
  | some (e, i) => (fwht e (foldChips (2 ^ e) (preambleProducts rep))).getD i (0, 0)

/-- Cut a list into `n` parts of `k`. -/
def parts {α : Type} (k : Nat) : Nat → List α → List (List α)
  | 0, _ => []
  | n + 1, l => l.take k :: parts k n (l.drop k)

/-- The samples of the last `reps` repetitions at the lag that lies `back` samples before the end of the window (R183). -/
def windowAt (band reps back : Nat) (window : List Lane) : List (List Lane) :=
  let n := 2 * reps * preambleLen band - 1
  let w := window.take (window.length - back)
  parts (preambleLen band) reps (everySecond (w.drop (w.length - n)))

/-- Numerator and denominator of ρ (R183): |Σ c_m|² over M · P · Σ|r|². -/
def statistic (band : Nat) (code : Option (Nat × Nat)) (reps : List (List Lane)) : Nat × Nat :=
  (cxNorm (cxSum (reps.map (correlate code))),
   reps.length * preambleLen band * ((reps.map (fun l => (l.map (fun x => cxNorm x.value)).sum)).sum))

/-- ρ reaches the threshold `thresh` × 2⁻¹⁶ (R184). -/
def passes (thresh : Nat) (s : Nat × Nat) : Bool := decide (0 < s.2 ∧ thresh * s.2 ≤ s.1 * 65536)

/-- ρ of one lag is not below that of another. -/
def atLeast (s t : Nat × Nat) : Bool := decide (t.1 * s.2 ≤ s.1 * t.2)

/-- The detector's settings of a band (R184, R208): DET_THRESH and DET_REPS. -/
def Block.detector (b : Block) (band : Nat) : Nat × Nat :=
  if band = 0 then (b.get R.PHY_DET_H_THRESH, b.get R.PHY_DET_H_REPS) else (b.get R.PHY_DET_L_THRESH, b.get R.PHY_DET_L_REPS)

/-- The lag two samples before the window's end is declared (R184): ρ passes there and is the largest within ±2 samples. The
window holds the last 2 · M · P − 1 samples at each of those lags. -/
def Block.declares (b : Block) (band : Nat) (code : Option (Nat × Nat)) (window : List Lane) : Bool :=
  let (thresh, reps) := b.detector band
  let s (back : Nat) := statistic band code (windowAt band reps back window)
  decide (2 * reps * preambleLen band + 3 ≤ window.length) && passes thresh (s 2) &&
    [0, 1, 3, 4].all (fun back => atLeast (s 2) (s back))

/-- The mean power of the last repetition before a declaration (R137). -/
def framePower (band : Nat) (window : List Lane) : Nat :=
  let w := window.take (window.length - 2)
  ((w.drop (w.length - 2 * preambleLen band)).map Lane.power).sum / (2 * preambleLen band)

/-- A repetition is the sync word (R185): against the accumulated preamble correlation its real part is negative, and its
magnitude is at least half the mean magnitude of the accumulated repetitions. Magnitudes are compared with 32 binary
places (assumption 31). -/
def isSync (corrs : List Cx) (c : Cx) : Bool :=
  let a := cxSum corrs
  let mag (x : Cx) : Nat := Nat.sqrt (cxNorm x * 2 ^ 64)
  decide (c.1 * a.1 + c.2 * a.2 < 0) && decide ((corrs.map mag).sum ≤ 2 * corrs.length * mag c)

/-- The search for the sync word over the repetitions after a declaration (R185): whether one of them is it, with the
correlations and the flags of the repetitions up to it. -/
def syncSearch (code : Option (Nat × Nat)) : List (List Lane) → List Cx → List Bool → Bool × List Cx × List Bool
  | [], corrs, flags => (false, corrs, flags)
  | rep :: l, corrs, flags =>
    let c := correlate code rep
    let flags := flags ++ [rep.any Lane.flagged]
    if isSync corrs c then (true, corrs, flags) else syncSearch code l (corrs ++ [c]) flags

/-- A continuation segment is found (R187): at a lag within ±16 chips of its expected start two repetitions pass DET_THRESH, and
the repetition after them is the sync word. The window holds the three repetitions with 16 chips before and after. -/
def Block.findsSegment (b : Block) (band : Nat) (window : List Lane) : Bool :=
  let n := 2 * preambleLen band
  (List.range 65).any (fun lag =>
    let l := everySecond ((window.drop lag).take (3 * n - 1))
    let reps := parts (preambleLen band) 2 l
    let sync := (l.drop n).take (preambleLen band)
    l.length == 3 * preambleLen band && passes (b.detector band).1 (statistic band none reps) &&
      isSync (reps.map (correlate none)) (correlate none sync))

end Sys2Proof.Machine
end

