-- ==== Sys2Proof/Machine/Equaliser.lean ====
section
/-! DEFINITION. Equalisation (R188, R189): the form by spreading exponent, the filters' lengths, the rake's fingers, initial
weights, and their adaptation by LMS in training, tracking and recovery. -/

namespace Sys2Proof.Machine

/-- The equaliser's settings of a band (R188, R208): FFE_TAPS, DFE_TAPS, CHIP_MAX_E, RAKE. -/
structure EqCfg where
  ffe : Nat
  dfe : Nat
  chipMax : Nat
  rake : Nat

/-- PHY_EQ of a band. -/
def Block.eqCfg (b : Block) (band : Nat) : EqCfg :=
  if band = 0 then
    { ffe := b.get R.PHY_EQ_H_FFE_TAPS, dfe := b.get R.PHY_EQ_H_DFE_TAPS, chipMax := b.get R.PHY_EQ_H_CHIP_MAX_E
      rake := b.get R.PHY_EQ_H_RAKE }
  else
    { ffe := b.get R.PHY_EQ_L_FFE_TAPS, dfe := b.get R.PHY_EQ_L_DFE_TAPS, chipMax := b.get R.PHY_EQ_L_CHIP_MAX_E
      rake := b.get R.PHY_EQ_L_RAKE }

/-- The form of equalisation (R188). -/
inductive EqForm where
  | chip | rake
  deriving DecidableEq, Repr

/-- The form for a block of spreading exponent `e`. -/
def EqCfg.form (c : EqCfg) (e : Nat) : EqForm := if e ≤ c.chipMax then .chip else .rake

/-- The header's spreading exponent (R161, R188). -/
def headerExp (band : Nat) (collect : Option (Nat × Nat)) : Nat :=
  match collect with
  | some (e, _) => e
  | none => if band = 0 then 6 else 4

/-- A product of a weight and a sample. -/
def cxMul (w : Rat × Rat) (x : Cx) : Rat × Rat := (w.1 * x.1 - w.2 * x.2, w.1 * x.2 + w.2 * x.1)

/-- A filter's output. -/
def filterOut (w : List (Rat × Rat)) (x : List Cx) : Rat × Rat :=
  let l := List.zipWith cxMul w x
  ((l.map Prod.fst).sum, (l.map Prod.snd).sum)

/-- One LMS step of a filter: each weight moves by the step times the error times the conjugate of its input. -/
def lmsStep (step : Rat) (err : Rat × Rat) (w : List (Rat × Rat)) (x : List Cx) : List (Rat × Rat) :=
  w.zipIdx.map (fun e =>
    let v := x.getD e.2 (0, 0)
    (e.1.1 + step * (err.1 * v.1 + err.2 * v.2), e.1.2 + step * (err.2 * v.1 - err.1 * v.2)))

/-- The strongest `n` taps of a channel estimate with their places (R188), the first of equals first. -/
def strongest : Nat → List (Nat × Cx) → List (Nat × Cx)
  | 0, _ => []
  | n + 1, l =>
    match l with
    | [] => []
    | x :: rest =>
      let top := rest.foldl (fun t y => if cxNorm t.2 < cxNorm y.2 then y else t) x
      top :: strongest n (l.filter (fun y => y.1 != top.1))

/-- The rake's fingers for one stream (R188): up to RAKE of them on the strongest taps, combined at maximum ratio — each
weighted by the conjugate of its tap. -/
def rakeFingers (n : Nat) (taps : List Cx) : List (Nat × Int × Int) :=
  (strongest n (taps.zipIdx.map (fun e => (e.2, e.1)))).map (fun e => (e.1, e.2.1, -e.2.2))

/-- Weights as fractions, cut to `n` taps. -/
def weightsOf (n : Nat) (l : List Cx) : List (Rat × Rat) := (l.take n).map (fun x => ((x.1 : Rat), (x.2 : Rat)))

/-- Stage 1 (R189): the estimate and the initial weights, within the lengths of R188. `ports` is how many ports feed the
feed-forward filters. -/
def EqCfg.start (c : EqCfg) (ports : Nat) (s : EqStart) : Equaliser :=
  { pre := s.taps, ffe := s.ffe.map (weightsOf (c.ffe * ports)), dfe := s.dfe.map (weightsOf c.dfe)
    fingers := s.taps.map (rakeFingers c.rake) }

/-- One step at chip level with a given LMS step (R189): the output is that of the feed-forward filter less that of the feedback
filter, and its error moves both. A step with an erased sample moves nothing. -/
def Equaliser.adapt (q : Equaliser) (step : Rat) (s : EqStep) : Equaliser :=
  if s.erased ≠ 0 then q
  else
    let ffe := q.ffe.getD s.stream []
    let dfe := q.dfe.getD s.stream []
    let y := filterOut ffe s.fed
    let z := filterOut dfe s.back
    let err : Rat × Rat := (s.decided.1 - (y.1 - z.1), s.decided.2 - (y.2 - z.2))
    { q with
      ffe := q.ffe.set s.stream (lmsStep step err ffe s.fed)
      dfe := q.dfe.set s.stream (lmsStep (-step) err dfe s.back) }

/-- The step sizes and lengths of PHY_EQ_STEP (R189). -/
structure EqSteps where
  train : Rat
  track : Rat
  recover : Rat
  len : Nat
  burst : Nat

/-- PHY_EQ_STEP. -/
def Block.eqSteps (b : Block) : EqSteps :=
  let two (n : Nat) : Rat := 1 / 2 ^ n
  { train := two (b.get R.PHY_EQ_STEP_TRAIN), track := two (b.get R.PHY_EQ_STEP_TRACK)
    recover := two (b.get R.PHY_EQ_STEP_RECOVER), len := b.get R.PHY_EQ_STEP_RECOVER_LEN
    burst := b.get R.PHY_EQ_STEP_BURST_MIN }

/-- Stage 2 (R189): the second pass over the header's samples, at step 2^−TRAIN. -/
def Equaliser.train (c : EqSteps) (q : Equaliser) (l : List EqStep) : Equaliser :=
  l.foldl (fun q s => q.adapt c.train s) q

/-- One step of stages 3 and 4 (R189): decision-directed at 2^−TRACK; after a run of at least BURST_MIN × 16 erased samples at
2^−RECOVER for RECOVER_LEN symbols. A symbol whose samples are all erased feeds back zero, which is its decision. -/
def Equaliser.track (c : EqSteps) (q : Equaliser) (s : EqStep) : Equaliser :=
  if s.erased = s.total ∧ s.total ≠ 0 then { q with run := q.run + s.erased }
  else
    let q := if q.run ≠ 0 ∧ 16 * c.burst ≤ q.run then { q with recover := c.len } else q
    let q := { q with run := 0 }
    if q.recover = 0 then q.adapt c.track s
    else { q.adapt c.recover s with recover := q.recover - 1 }

/-- The decision that a symbol feeds into the feedback filter (R189). -/
def EqStep.feedback (s : EqStep) : Cx := if s.erased = s.total ∧ s.total ≠ 0 then (0, 0) else s.decided

/-- The payload's steps at chip level (R189), each feedback filter fed by the decisions of the steps before. -/
def Equaliser.payload (c : EqSteps) : List EqStep → List Cx → Equaliser → Equaliser
  | [], _, q => q
  | s :: l, back, q =>
    let n := (q.dfe.getD s.stream []).length
    let s := { s with back := back.take n }
    Equaliser.payload c l (s.feedback :: back) (q.track c s)

/-- The key of a reception's equaliser. -/
def Reception.eqKey (r : Reception) : Nat := 4096 * (2 * r.port + r.band) + r.code.2

/-- The equaliser of a reception. -/
def Block.equaliser (b : Block) (r : Reception) : Equaliser := Tab.get {} b.phy.eqs r.eqKey

/-- Set the equaliser of a reception. -/
def Block.setEqualiser (b : Block) (r : Reception) (q : Equaliser) : Block :=
  { b with phy := { b.phy with eqs := Tab.set {} b.phy.eqs r.eqKey q } }

/-- The equaliser works through a frame's payload (R188, R189): at chip level its weights follow; a rake's fingers stay. -/
def Block.equalise (b : Block) (r : Reception) (exp : Nat) (l : List EqStep) : Block :=
  match (b.eqCfg r.band).form exp with
  | .rake => b
  | .chip => b.setEqualiser r (Equaliser.payload b.eqSteps l [] (b.equaliser r))

end Sys2Proof.Machine
end

