-- ==== Sys2Proof/Machine/Decoder.lean ====
section
/-! DEFINITION. Decoding and erasures (R130, R191–R193): copies of a bit and their erasure, the layered min-sum decoder, blocks
and payloads from soft values, erased fractions and their limits. -/

namespace Sys2Proof.Machine

/-- A copy is erased (R130, R191): on every receive port all samples of its symbol carry OVR or are suppressed, or, in the
timing and control class and where the port's GATE_DATA is 1, carry GATE; or they are lost. A symbol is erased where
every one of its samples is (assumption 126). -/
def SoftBit.erased (x : SoftBit) (control : Bool) (gateData : List Bool) : Bool :=
  x.lost || (!x.marks.isEmpty && x.marks.zipIdx.all (fun e =>
    e.1 == 1 || (e.1 == 2 && (control || gateData.getD e.2 false))))

/-- A copy's soft value (R191): −7 to +7, 0 where it is erased. -/
def SoftBit.value (x : SoftBit) (control : Bool) (gateData : List Bool) : Int :=
  if x.erased control gateData then 0 else max (-7) (min 7 x.soft)

/-- The copies of each of a block's `n` transmitted positions (R172): copy r has position i at i − r · ceil(n / R). -/
def copiesOf (n rep : Nat) (l : List SoftBit) : List (List SoftBit) :=
  let step := ceilDiv n rep
  (List.range n).map (fun i =>
    (List.range rep).filterMap (fun r => l[r * n + (i + rep * n - r * step) % n]?))

/-- A position's combined soft value (R191): the sum of its copies, saturating at ±63. -/
def combine (control : Bool) (gateData : List Bool) (l : List SoftBit) : Int :=
  l.foldl (fun a x => max (-63) (min 63 (a + x.value control gateData))) 0

/-- A position is erased: every copy was (R193). -/
def positionErased (control : Bool) (gateData : List Bool) (l : List SoftBit) : Bool :=
  l.all (fun x => x.erased control gateData)

/-- The entries of block row `r` of a parity-check matrix (R169): block column and shift. -/
def ldpcEntries (z rate r : Nat) : List (Nat × Nat) :=
  let mb := ldpcRows rate
  let kb := 24 - mb
  let w := if rate ≤ 1 then 4 else 3
  let info := ((List.range kb).filter (fun c => (r + c) % mb < w)).map (fun c => (c, (17 * r * (2 * c + 1) + 5 * c * c) % z))
  let first := if r = 0 ∨ r + 1 = mb then [(kb, 1)] else if r = mb / 2 then [(kb, 0)] else []
  let rest := ((List.range mb).filter (fun j => 1 ≤ j ∧ (r + 1 = j ∨ r = j))).map (fun j => (kb + j, 0))
  info ++ first ++ rest

/-- The hard decisions of a block column as a number, position i in bit i. -/
def hardColumn (l : List Int) : Nat := (l.zipIdx.map (fun e => if e.1 < 0 then 2 ^ e.2 else 0)).sum

/-- The hard decisions meet every check (R192). -/
def syndromeZero (z rate : Nat) (cols : List (List Int)) : Bool :=
  let hard := cols.map hardColumn
  (List.range (ldpcRows rate)).all (fun r =>
    ((ldpcEntries z rate r).map (fun e => rotBlock z e.2 (hard.getD e.1 0))).foldl (· ^^^ ·) 0 == 0)

/-- The two smallest magnitudes of a check's inputs. -/
def minTwo (l : List Int) : Nat × Nat :=
  l.foldl (fun m x =>
    let a := x.natAbs
    if a < m.1 then (a, m.1) else if a < m.2 then (m.1, a) else m) (2 ^ 400, 2 ^ 400)

/-- The messages of one check to its bits (R192): the product of the other signs, the least of the other magnitudes. -/
def checkMessages (l : List Int) : List Int :=
  let m := minTwo l
  let odd := (l.filter (fun x => x < 0)).length % 2 == 1
  l.map (fun x =>
    let mag : Int := if x.natAbs = m.1 then m.2 else m.1
    if odd != decide (x < 0) then -mag else mag)

/-- Rows and columns exchanged, for `n` columns. -/
def transposeOf (n : Nat) (l : List (List Int)) : List (List Int) := (List.range n).map (fun i => l.map (fun x => x.getD i 0))

/-- One layer (R192): the block row's messages are taken back, made anew and added. -/
def layer (z : Nat) (entries : List (Nat × Nat)) (msgs : List (List Int)) (cols : List (List Int)) :
    List (List Int) × List (List Int) :=
  let ins := entries.zipIdx.map (fun e =>
    List.zipWith (fun x m => x - m) ((cols.getD e.1.1 []).rotateLeft e.1.2) (msgs.getD e.2 (List.replicate z 0)))
  let outs := transposeOf entries.length ((transposeOf z ins).map checkMessages)
  (outs, entries.zipIdx.foldl (fun cols e =>
    cols.set e.1.1 ((List.zipWith (fun x m => x + m) (ins.getD e.2 []) (outs.getD e.2 [])).rotateRight e.1.2)) cols)

/-- One iteration over all layers in order. -/
def layers (z rate : Nat) (msgs : List (List (List Int))) (cols : List (List Int)) : List (List (List Int)) × List (List Int) :=
  (List.range (ldpcRows rate)).foldl (fun s r =>
    let (m, c) := layer z (ldpcEntries z rate r) (s.1.getD r []) s.2
    (s.1.set r m, c)) (msgs, cols)

/-- Layered min-sum decoding for up to `n` iterations, stopped early at a zero syndrome (R192): the values, and whether the
block has converged. -/
def minSum (z rate : Nat) : Nat → List (List (List Int)) → List (List Int) → List (List Int) × Bool
  | 0, _, cols => (cols, syndromeZero z rate cols)
  | n + 1, msgs, cols =>
    if syndromeZero z rate cols then (cols, true)
    else
      let (msgs, cols) := layers z rate msgs cols
      minSum z rate n msgs cols

/-- Decode one block (R170, R191, R192) of `info` information bits from the values of its transmitted positions: the
information bits, and whether it has converged. Fillers are known zeros. -/
def decodeBlock (iter z rate info : Nat) (l : List Int) : List Bool × Bool :=
  let kb := 24 - ldpcRows rate
  let full := l.take info ++ List.replicate (kb * z - info) (2 ^ 300) ++ l.drop info
  let (cols, ok) := minSum z rate iter (List.replicate (ldpcRows rate) []) (parts z 24 full)
  ((cols.flatten.take info).map (fun x => decide (x < 0)), ok)

/-- Bytes from bits in transmission order (R4). -/
def bytesOf : Nat → List Bool → List Byte
  | 0, _ => []
  | n + 1, l => BitVec.ofNat 8 (boolsToNat (l.take 8)) :: bytesOf n (l.drop 8)

/-- What the decoders make of some bits: the information bits, the blocks that did not converge, the erased positions and the
transmitted ones of the block with the largest erased fraction. -/
structure Decoded where
  bits : List Bool
  fails : Nat
  erased : Nat
  sent : Nat

/-- The erased fraction × 2⁸. -/
def Decoded.eps (d : Decoded) : Nat := d.erased * 256 / max d.sent 1

/-- Decode one block of `info` information bits from the copies of its positions. -/
def decodeCopies (iter z rate rep info : Nat) (control : Bool) (gateData : List Bool) (l : List SoftBit) : Decoded :=
  let n := info + ldpcRows rate * z
  let copies := copiesOf n rep l
  let (bits, ok) := decodeBlock iter z rate info (copies.map (combine control gateData))
  { bits := bits, fails := if ok then 0 else 1, erased := (copies.filter (positionErased control gateData)).length, sent := n }

/-- Put two decoded blocks together. -/
def Decoded.append (a c : Decoded) : Decoded :=
  let w := decide (a.erased * max c.sent 1 < c.erased * max a.sent 1)
  { bits := a.bits ++ c.bits, fails := a.fails + c.fails
    erased := if w then c.erased else a.erased, sent := if w then c.sent else a.sent }

/-- The information bits of block `k` of a payload of `len` bytes (R171). -/
def blockBits (rate len k : Nat) : Nat :=
  if 8 * (len + 4) ≤ 288 then 8 * (len + 4) else blockInfo rate - (2304 - blockSent rate len k)

/-- The blocks of a payload from block `k` on. -/
def decodeBlocks (iter rate rep len : Nat) (control : Bool) (gateData : List Bool) : Nat → Nat → List SoftBit → Decoded
  | 0, _, _ => { bits := [], fails := 0, erased := 0, sent := 0 }
  | n + 1, k, l =>
    let short := decide (8 * (len + 4) ≤ 288)
    let take := rep * blockSent rate len k
    let d := decodeCopies iter (if short then 24 else 96) (if short then 0 else rate) rep (blockBits rate len k) control gateData
      (l.take take)
    d.append (decodeBlocks iter rate rep len control gateData n (k + 1) (l.drop take))

/-- The bytes of a payload with its CRC-32 from its bits' copies (R171, R191, R192). -/
def decodePayload (iter mode len : Nat) (control : Bool) (gateData : List Bool) (l : List SoftBit) : Decoded :=
  decodeBlocks iter (modeRate mode) (modeRep mode) len control gateData (payloadBlocks (modeRate mode) len) 0 l

/-- The bits of a frame from its segments (R178); those of a segment that was not found are lost (R187). -/
def gather (segs : List (List SoftBit)) (missed : List Nat) : List SoftBit :=
  let g := segs.length
  (List.range (segs.map List.length).sum).map (fun i =>
    let x := (segs.getD (i % g) []).getD (i / g) { soft := 0, lost := true }
    if missed.contains (i % g) then { x with lost := true } else x)

/-- ε_max of an LDPC rate in 10⁻³ (R193). -/
def epsMax (rate : Nat) : Nat := match rate with | 0 => 444 | 1 => 259 | 2 => 167 | _ => 74

/-- `erased` of `sent` positions exceed a block's limit (R193): the lower of the class limit × 2⁻⁸ and ε_max of its rate. A
class limit of 0 aborts at the first erased position. -/
def exceedsLimit (cls rate erased sent : Nat) : Bool :=
  decide (cls * sent < erased * 256) || decide (epsMax rate * sent < erased * 1000)

/-- GATE_DATA of the receive set (R140). -/
def Block.gateData (b : Block) (r : Reception) : List Bool := r.ports.map (fun p => (b.gateReg r.band p).testBit 1)

/-- The header's bytes from its 544 positions (R170, R192), as timing and control class (assumption 127). -/
def Block.decodeHeader (b : Block) (l : List SoftBit) : Decoded :=
  decodeCopies (b.get R.PHY_DEC_ITER) 24 0 1 256 true [] l

end Sys2Proof.Machine
end

