-- ==== Sys2Proof/Machine/Receiver.lean ====
section
/-! DEFINITION. The receiver (R183–R197, R207, R266): declarations, headers and their filter, the ends of receptions,
verdicts, withheld measurements, line capture. -/

namespace Sys2Proof.Machine

/-- The line-capture region of the DDR4 partition in bytes (R87, R207). -/
def Block.captureRegion (b : Block) : Nat :=
  let s := b.segment 1
  let o := 2112 + ceilDiv (16 * leAt s 4 2) 64 * 64
  let parts := (List.range (leAt s 3 1)).map (fun k => Config.partRecord (slice s (o + 16 * k) 16))
  ((parts.filter (fun r => r.1 = 3)).map (fun r => r.2.2)).sum

/-- Setting ARM (R207): in M4, M6, M7 and M10, with a region. TRIG 0 triggers at once. -/
def Block.captureArm (b : Block) : Block :=
  if (b.mode = 4 ∨ b.mode = 6 ∨ b.mode = 7 ∨ b.mode = 10) ∧ b.captureRegion ≠ 0 ∧ b.get R.PHY_CAP_STAT_STATE ≠ 2 then
    let b := ((b.set R.PHY_CAP_STAT_STATE 1).set R.PHY_CAP_STAT_ABORTED 0).set R.PHY_CAP_STAT_UNITS 0
    let b := { b with phy := { b.phy with capture := [] } }
    b.captureTrigger 0
  else b

/-- The capture ends (R207). -/
def Block.captureEnd (b : Block) (aborted : Bool) : Block :=
  if b.get R.PHY_CAP_STAT_STATE = 1 ∨ b.get R.PHY_CAP_STAT_STATE = 2 then
    (b.set R.PHY_CAP_STAT_STATE 3).setFlag R.PHY_CAP_STAT_ABORTED aborted
  else b

/-- The record of a unit (R207), with its samples' bytes unless it is a gap. DESIGN CHOICE: the tick number is that of the unit's
first tick (assumption 128). -/
def Block.captureRecord (b : Block) (gap trigger : Bool) (samples : List Byte) : List Byte :=
  let p := b.get R.PHY_CAP_CTRL_PORT
  let band := b.get R.PHY_CAP_CTRL_BAND
  let gain := if band = 0 then b.get (R.LFE_AGC_GAIN_GAIN_H p) else b.get (R.LFE_AGC_GAIN_GAIN_L p)
  leBytes (b.tick - (if band = 0 then 1 else 25)) 8 ++ leBytes (p + 4 * band) 1 ++
    leBytes ((if gap then 1 else 0) + (if b.frozen band p then 2 else 0) + (if trigger then 4 else 0)) 1 ++
    leBytes gain 2 ++ List.replicate 20 0 ++ (if gap then [] else samples)

/-- A unit is captured, or recorded with GAP where it could not be written (R207): while armed the ring keeps the last PRE
units; after the trigger POST units are written, or the region is filled. DESIGN CHOICE: the trigger unit is the first of the POST
units (assumption 128). -/
def Block.captureUnit (b : Block) (gap : Bool) (samples : List Byte) : Block :=
  let state := b.get R.PHY_CAP_STAT_STATE
  if state = 1 then
    let b := if gap then b.stick R.PHY_RX_TROUBLE_CAP_GAP else b
    let ring := b.phy.capture ++ [b.captureRecord gap false samples]
    { b with phy := { b.phy with capture := ring.drop (ring.length - b.get R.PHY_CAP_LEN_PRE) } }
  else if state = 2 then
    let unit := b.captureRecord gap b.phy.capTrigger samples
    if b.captureRegion < (b.phy.capture.map List.length).sum + unit.length then b.captureEnd false
    else
      let b : Block := { b with phy := { b.phy with
        capture := b.phy.capture ++ [unit], capTrigger := false, capPost := b.phy.capPost + 1 } }
      let b := b.bump R.PHY_CAP_STAT_UNITS
      let b := if gap then b.stick R.PHY_RX_TROUBLE_CAP_GAP else b
      if b.get R.PHY_CAP_LEN_POST ≠ 0 ∧ b.get R.PHY_CAP_LEN_POST ≤ b.phy.capPost then b.captureEnd false else b
  else b

/-- The unit of the captured port and band that its chain delivered last (R207); one that was not delivered, or has no unreserved
beats, is a gap. -/
def Block.captureChain (b : Block) (beats : Bool) : Block :=
  let unit := (b.chain (b.get R.PHY_CAP_CTRL_BAND) (b.get R.PHY_CAP_CTRL_PORT)).unit
  b.captureUnit (!beats || unit.isEmpty) (unitBytes unit)

/-- The reception of a band that runs on a port. -/
def Block.reception (b : Block) (band p : Nat) : Option Reception :=
  b.phy.rx.find? (fun r => r.band == band && r.ports.contains p && r.stage != 3)

/-- The reception of a band and port at a stage; in a collect slot the one of a collect index (R186). -/
def Block.receptionAt (b : Block) (band p stage : Nat) (code : Nat × Nat) : Option Reception :=
  b.phy.rx.find? (fun r => r.band == band && r.ports.contains p && r.stage == stage && (!r.collect || r.code == code))

/-- The slot is a Band H COLLECT slot (R257). -/
def Block.inCollect (b : Block) : Bool :=
  b.hasGrid && b.roleAt 0 b.grid.half (b.get R.GLB_GRID_SLOT) == 3 && b.get R.MSH_COLLECT_CFG_CAP != 0

/-- A port takes part in the reception of a band: enabled, in service, not sending in the band (R116, R173, R470). -/
def Block.listens (b : Block) (band p : Nat) : Bool :=
  (b.profile band p).isSome && !b.bit R.TRB_PORT_FAILED p &&
    !(if band = 0 then b.flag (R.LFE_STAT_TX_ACTIVE_H p) else b.flag (R.LFE_STAT_TX_ACTIVE_L p))

/-- The sequence a reception correlates with in a collect slot (R186). -/
def Reception.seq (r : Reception) : Option (Nat × Nat) := if r.collect then some r.code else none

/-- A preamble is declared on a port and band where the statistic passes (PREAMBLE_DECLARE, R134, R184, R186, R195): nothing
happens while that AGC is frozen, outside a collect slot, or while the port sends in the band. `code` is the exponent and collect
index that the correlation is for, in a collect slot; `ports` the other ports of the receive set, each with the mean power
of the last repetition there. Ports that another frame holds, or that send in the band, do not take part. -/
def Block.declare (b : Block) (band p : Nat) (code : Nat × Nat) (window : List Lane) (ports : List (Nat × Nat)) : Block :=
  let collect := band == 0 && b.inCollect
  let seq := if collect then some code else none
  if b.receiving = false ∨ b.listens band p = false ∨ (b.frozen band p ∧ collect = false) ∨
      (collect ∧ b.phy.rx.any (fun r => r.collect && r.stage != 3 && r.code == code && r.ports.contains p)) ∨
      b.declares band seq window = false then b
  else
    let others := ports.filter (fun x => x.1 != p && b.listens band x.1 && (collect || !b.frozen band x.1))
    let set := (p, framePower band window) :: others
    let reps := windowAt band (b.detector band).2 2 window
    let r : Reception :=
      { band := band, port := p, ports := set.map Prod.fst, stage := 0, collect := collect, held := collect, code := code
        corrs := reps.map (correlate seq), flags := reps.map (fun l => l.any Lane.flagged) }
    let b := (b.forEach set (fun b x => b.freeze band x.1 x.2)).bump R.PHY_DET_COUNT
    ({ b with phy := { b.phy with rx := b.phy.rx ++ [r] } }).captureTrigger 1

/-- Change the reception on a port and band. -/
def Block.setReception (b : Block) (r r' : Reception) : Block :=
  { b with phy := { b.phy with rx := b.phy.rx.replace r r' } }

/-- The sync word is found (SYNC_FOUND, R185): the last of the repetitions `reps` after the declaration, and none before it,
meets the test. The equaliser takes its estimate and initial weights (R189). -/
def Block.syncFound (b : Block) (band p : Nat) (code : Nat × Nat) (reps : List (List Lane)) (eq : EqStart) : Block :=
  match b.receptionAt band p 0 code with
  | some r =>
    let (found, corrs, flags) := syncSearch r.seq reps r.corrs r.flags
    if found ∧ reps.length ≤ 8 ∧ corrs.length + 1 = r.corrs.length + reps.length then
      let r' := { r with
        stage := 1, corrs := corrs, flags := flags, syncFlagged := (flags.drop (flags.length - 3)).any (fun x => x) }
      (b.setReception r r').setEqualiser r' ((b.eqCfg band).start r.ports.length eq)
    else b
  | none => b

/-- No sync word within 8 repetitions (SYNC_SEARCH_TIMEOUT, R185, R194): the declaration was false. -/
def Block.syncTimeout (b : Block) (band p : Nat) (code : Nat × Nat) (reps : List (List Lane)) : Block :=
  match b.receptionAt band p 0 code with
  | some r =>
    if reps.length = 8 ∧ (syncSearch r.seq reps r.corrs r.flags).1 = false then
      (b.abortReception r).count R.PHY_FALSE_DET_COUNT R.PHY_RX_TROUBLE_FALSE_DET
    else b
  | none => b

/-- AGC_SAT_LIMIT of a port and band (R135). -/
def Block.satLimit (b : Block) (band p : Nat) : Nat :=
  if band = 0 then b.get (R.LFE_AGC_CFG_SAT_LIMIT_H p) else b.get (R.LFE_AGC_CFG_SAT_LIMIT_L p)

/-- A saturation release (AGC_SATURATION_RELEASE, R135, R194): after AGC_SAT_LIMIT consecutive saturated intervals, after one where
the limit is 0, a frozen AGC releases and the frame is aborted. The AGC adapts from its frozen gain. -/
def Block.saturationRelease (b : Block) (band p intervals : Nat) : Block :=
  if b.frozen band p ∧ max 1 (b.satLimit band p) ≤ intervals then
    let b := b.bump (R.LFE_AGC_SAT_REL_COUNT p)
    let b := b.stick (if band = 0 then R.LFE_TROUBLE_AGC_SAT_REL_H p else R.LFE_TROUBLE_AGC_SAT_REL_L p)
    let b := b.captureTrigger 5
    let hit := b.phy.rx.filter (fun r => r.band == band && r.ports.contains p && r.stage != 3 && !r.paused)
    let b := b.forEach hit (fun b r => (b.abortReception r).count R.PHY_ABORT_OTHER_COUNT R.PHY_RX_TROUBLE_ABORT_SAT)
    b.unfreeze band [p]
  else b

/-- A header is rejected (R165): the cause is kept. -/
def Block.rejectHeader (b : Block) (band p cause : Nat) : Block :=
  let b := ((b.set R.PHY_REJECT_LAST_CAUSE cause).set R.PHY_REJECT_LAST_PORT p).set R.PHY_REJECT_LAST_BAND band
  (b.count R.PHY_HDR_REJECT_COUNT R.PHY_TROUBLE_HDR_REJECT).captureTrigger 3

/-- An address that a header may not name (R264). -/
def badAddress (a : Nat) : Bool := decide (0x4000 ≤ a ∧ a ≤ 0xFFEF)

/-- The hardware filter of R266. -/
def Block.filterKeeps (b : Block) (h : Header) : Bool :=
  let net := h.net == b.netId || (b.mode == 4 && h.ftype == 0)
  let dst := h.dst == 0xFFFF || (h.dst == b.short && b.short != 0) ||
    (h.dst == 0 && (b.short == 0 || b.mode == 5) && (h.ftype == 7 || h.ftype == 2)) ||
    (decide (0xFFF0 ≤ h.dst ∧ h.dst ≤ 0xFFFE) && b.bit R.MAC_GROUP_MASK (h.dst - 0xFFF0))
  net && dst && !badAddress h.src

/-- A decoded header keeps carrier sense busy until its frame, and a requested ACK, have ended (R260). -/
def Block.senseHeader (b : Block) (band : Nat) (h : Header) : Block :=
  let chips := (frameChips h.mode h.span false [h.len]).headD 0 - preambleChips (band == 1) 8 - headerChips h.mode false
  let ns := ceilDiv (chips * chipPeriod (modeProfile h.mode)) 64 +
    (if h.ackReq then 2 * unitTicks band * 40000 + ackAirtime h.mode else 0)
  b.modAccess band (fun a => { a with busyUntil := max a.busyUntil (b.tick + ceilDiv ns 40000) })

/-- A header that passes its CRC names more streams than the transmit set holds (R167, R173). -/
def Block.tooManyStreams (b : Block) (h : Header) : Bool :=
  !profileL (modeProfile h.mode) && decide (max 1 b.hPorts.length < modeStreams h.mode)

/-- The port and band a neighbour was heard on last, and last in each band (R118). -/
def Block.noteHeard (b : Block) (a band p : Nat) : Block :=
  let l := Tab.set 0 b.mac.heardOn a (p + 4 * band + 1)
  { b with mac := { b.mac with
    heardOn := Tab.set 0 l (0x4000 * (band + 1) + a) (p + 1), heardTick := Tab.set 0 b.mac.heardTick a (b.tick + 1) } }

/-- The tick after which the segment of a dispersed frame that has `chips` chips from now on ends (R187). -/
def Block.segmentEnd (b : Block) (h : Header) (chips : Nat) : Nat :=
  if h.span ≤ 1 then 0 else b.endAfter (modeProfile h.mode) chips

/-- The header block of a reception is decoded from its 544 copies (HEADER_RECEIVED, R163–R165, R189, R192, R203, R266). `train` are
the equaliser's steps over the re-encoded header. A CAUSE that R182 does not name is a free value (assumption 129). -/
def Block.headerReceived (b : Block) (band p : Nat) (code : Nat × Nat) (soft : List SoftBit) (train : List EqStep) : Block :=
  match b.receptionAt band p 1 code with
  | none => b
  | some r =>
    let d := b.decodeHeader soft
    let bytes := bytesOf 32 d.bits
    let b := b.add R.PHY_BLOCK_FAIL_COUNT d.fails
    if headerCrcOk bytes = false then
      ((b.endReception r).count R.PHY_HDR_CRC_FAIL_COUNT R.PHY_RX_TROUBLE_HDR_CRC_FAIL).captureTrigger 3
    else
      let h := Header.decode bytes
      let cause := headerCause h ((b.profile band p).getD 7) r.collect
      if cause ≠ 0 then (b.endReception r).rejectHeader band p cause
      else if b.tooManyStreams h then (b.fresh.2.endReception r).rejectHeader band p (Config.freeValue b.freeCtr)
      else
        let b := b.setEqualiser r ((b.equaliser r).train b.eqSteps train)
        let b := if r.collect then b else b.senseHeader band h
        if b.filterKeeps h = false then
          let b := if h.net ≠ b.netId then b.set R.MAC_LAST_FOREIGN_NET h.net else b
          (b.endReception r).bump R.MAC_FILTER_DROP_COUNT
        else
          let b := if h.net = b.netId then (b.noteNeighbour h.src) else b
          let b := if h.src ≤ 0x3FFF then b.noteHeard h.src band p else b
          let b := b.ladderUpdate h.src band h.margin
          let chips := (frameChips h.mode h.span false [h.len]).headD 0 - preambleChips (band == 1) 8 - headerChips h.mode false
          b.setReception r { r with stage := 2, hdr := h, eps := d.eps, segEnd := b.segmentEnd h chips }

/-- The frames of a transmission are in the timing and control class (R130, R176). -/
def Header.control (h : Header) : Bool := h.cls == 1

/-- A follow-on header comes next (R174): after a DATA frame of span 0 with Pending, or a follow-on frame with More, up to 255
of them. -/
def Reception.expectsFollow (r : Reception) : Bool :=
  r.hdr.ftype == 1 && r.hdr.span == 0 && decide (r.parts.length < 255) &&
    (match r.parts.getLast? with | some x => x.more | none => r.hdr.pending)

/-- A follow-on header of the train on a port and band, from the copies of its 368 bits (FOLLOW_ON_HEADER, R174, R175). A failed or
rejected one ends the reception; the frames before it stand, and await the decoders' verdict. -/
def Block.followOn (b : Block) (band p : Nat) (soft : List SoftBit) : Block :=
  match b.receptionAt band p 2 (0, 0) with
  | none => b
  | some r =>
    if r.expectsFollow = false then b
    else
      let d := decodeCopies (b.get R.PHY_DEC_ITER) 24 0 (modeRep r.hdr.mode) 80 r.hdr.control (b.gateData r) soft
      let bytes := bytesOf 10 d.bits
      let b := b.add R.PHY_BLOCK_FAIL_COUNT d.fails
      let f := FollowOn.decode bytes
      let bad := (b.setReception r { r with stage := 3 }).releaseAgc band r.ports
      let last := match r.parts.getLast? with | some x => x.ctr | none => r.hdr.ctr
      if followCrcOk bytes = false then (bad.count R.PHY_HDR_CRC_FAIL_COUNT R.PHY_RX_TROUBLE_HDR_CRC_FAIL).captureTrigger 3
      else if f.len = 0 ∨ 4096 < f.len ∨ f.ctr ≤ last then bad.rejectHeader band p 10
      else
        let x : RxPart :=
          { ctr := f.ctr, ackReq := f.ackReq, sec := f.sec, epoch := f.epoch, payload := [], ok := false, len := f.len, more := f.more }
        b.setReception r { r with parts := r.parts ++ [x] }

/-- At a tick boundary the AGCs of a dispersed frame whose segment has ended are released until the next segment (R187). -/
def Block.segmentEnds (b : Block) : Block :=
  b.forEach (b.phy.rx.filter (fun r => r.stage == 2 && decide (1 < r.hdr.span) && !r.paused && decide (r.segEnd ≤ b.tick)))
    (fun b r => (b.setReception r { r with paused := true }).releaseAgc r.band r.ports)

/-- A continuation segment's search ends (SEGMENT_SEARCH, R187) with the samples around its expected start: found, it freezes the
AGC; not found, or under the node's own suppression, its bits are erased and it is counted. -/
def Block.segmentSearch (b : Block) (band p : Nat) (window : List Lane) (power : Nat) : Block :=
  match b.receptionAt band p 2 (0, 0) with
  | none => b
  | some r =>
    if r.hdr.span ≤ r.seg + 1 then b
    else
      let k := r.seg + 1
      if b.listens band p ∧ b.findsSegment band window then
        let chips := (frameChips r.hdr.mode r.hdr.span false [r.hdr.len]).getD k 0
        let b := b.forEach r.ports (fun b x => b.freeze band x power)
        b.setReception r { r with seg := k, paused := false, segEnd := b.segmentEnd r.hdr chips }
      else
        let b := (b.setReception r { r with seg := k, paused := true, missed := r.missed ++ [k] }).releaseAgc band r.ports
        b.count R.PHY_SEG_MISSED_COUNT R.PHY_RX_TROUBLE_SEG_MISSED

/-- The class limit of a block in 2⁻⁸ (R193): ERASE_CTRL for the header block and traffic class 1, else ERASE_DATA. -/
def Block.eraseLimit (b : Block) (control : Bool) : Nat :=
  if control then b.get R.PHY_DEC_ERASE_CTRL else b.get R.PHY_DEC_ERASE_DATA

/-- Block `k` of a reception has too many erased positions (R193): 0 is the header block, k + 1 block k of the payload. -/
def Block.tooErased (b : Block) (r : Reception) (k erased : Nat) : Bool :=
  if k = 0 then r.stage == 1 && exceedsLimit (b.eraseLimit true) 0 erased 544
  else
    let short := decide (8 * (r.hdr.len + 4) ≤ 288)
    r.stage == 2 && decide (k ≤ payloadBlocks (modeRate r.hdr.mode) r.hdr.len) &&
      exceedsLimit (b.eraseLimit r.hdr.control) (if short then 0 else modeRate r.hdr.mode) erased
        (blockSent (modeRate r.hdr.mode) r.hdr.len (k - 1))

/-- A block's erased positions exceed its limit (ERASURE_ABORT, R193, R195). The abort takes effect at the end of the tick: a
saturation release in the same tick comes before it, and a frame end does not. -/
def Block.erasureAbort (b : Block) (band p : Nat) (code : Nat × Nat) (k erased : Nat) : Block :=
  match (b.receptionAt band p 1 code).or (b.receptionAt band p 2 code) with
  | none => b
  | some r => if b.tooErased r k erased then b.setReception r { r with erased := true } else b

/-- A reception is aborted for its erasures (R193, R194). -/
def Block.abortErased (b : Block) (r : Reception) : Block :=
  (b.abortReception r).count R.PHY_ABORT_ERASE_COUNT R.PHY_RX_TROUBLE_ABORT_ERASE

/-- The erasure aborts of a tick take effect at its end (R193, R195). -/
def Block.endErased (b : Block) : Block := b.forEach (b.phy.rx.filter (fun r => r.erased)) Block.abortErased

/-- The decoded frames of a transmission from their bits' copies (R171, R172, R174): `first` tells whether a frame's follow-on header
precedes its payload. A frame is good when every block converged and its CRC passes (R192, R194). -/
def decodeFrames (iter mode : Nat) (control : Bool) (gateData : List Bool) : List RxPart → Bool → List SoftBit →
    List (RxPart × Decoded)
  | [], _, _ => []
  | x :: l, first, bits =>
    let bits := if first then bits else bits.drop (368 * modeRep mode)
    let n := payloadBitCount mode x.len
    let d := decodePayload iter mode x.len control gateData (bits.take n)
    let raw := bytesOf (x.len + 4) d.bits
    let body := raw.take x.len
    let x := if x.len = 0 then { x with ok := true, payload := [] }
      else { x with ok := d.fails == 0 && leAt raw x.len 4 == crc32 body, payload := body }
    (x, d) :: decodeFrames iter mode control gateData l false (bits.drop n)

/-- The frames of a reception before they are decoded: the first from the header, the rest from their follow-on headers. -/
def Reception.frames (r : Reception) : List RxPart :=
  { ctr := r.hdr.ctr, ackReq := r.hdr.ackReq, sec := r.hdr.sec, epoch := r.hdr.epoch, payload := [], ok := false,
    len := r.hdr.len, more := r.hdr.pending } :: r.parts

/-- A reception's frames decoded at its end, from its segments' copies (R178, R187). -/
def Block.decodeReception (b : Block) (r : Reception) (bits : List (List SoftBit)) : List (RxPart × Decoded) :=
  decodeFrames (b.get R.PHY_DEC_ITER) r.hdr.mode r.hdr.control (b.gateData r) r.frames true (gather bits r.missed)

/-- A frame has a block with too many erased positions (R193). -/
def Block.frameErased (b : Block) (h : Header) (e : RxPart × Decoded) : Bool :=
  e.1.len != 0 &&
    exceedsLimit (b.eraseLimit h.control) (if 8 * (e.1.len + 4) ≤ 288 then 0 else modeRate h.mode) e.2.erased e.2.sent

/-- The channel has changed by more than −0.5 × CHG dB between two estimates (R196 cause 4). -/
def channelChanged (chg : Nat) (pre post : List Cx) : Bool :=
  let num := ((List.zipWith (fun x y => cxNorm (y.1 - x.1, y.2 - x.2)) pre post)).sum
  let den := (pre.map cxNorm).sum
  decide (den ^ 20 < num ^ 20 * 10 ^ chg)

/-- Whether a TIMING frame's measurement is withheld, and the lowest cause (R196); 0 is none. -/
def Block.withheldCause (b : Block) (rx : Reception) (ok : Bool) (r : RxReport) : Nat :=
  let chg := b.get R.PHY_TIMWH_CHG
  if ok = false then 1
  else if rx.syncFlagged then 2
  else if b.get R.PHY_TIMWH_BLANK_LIMIT * r.samples < r.flagged * 256 then 3
  else if chg != 0 && (match r.change with
      | some post => channelChanged chg (b.equaliser rx).pre.flatten post
      | none => false) then 4
  else 0

/-- The first path among those fitted (R227), at most FP_ORDER of them within 16 chips before and 48 after the coarse mark: the
earliest within FP_REL of the strongest and FP_ABS above the noise; with its distance to the strongest in 10 ps, how many
were fitted, and whether it is the single dominant one. None where there is none (R228). -/
def Block.firstPath (b : Block) (profile : Nat) (r : RxReport) : RxTime × Block :=
  let seg := b.timingSeg
  let chip : Int := chipPeriod profile * 1024
  let fit := ((r.fit.getD []).take (leAt seg 0x22 1)).filter (fun x => decide (-16 * chip ≤ x.1 ∧ x.1 ≤ 48 * chip))
  let top := (fit.map Prod.snd).foldl max 0
  let ok (x : Int × Nat) : Bool :=
    decide ((top : Rat) ≤ x.2 * ratioDb ((leAt seg 0x23 1 : Rat) / 2)) &&
      (leAt seg 0x24 1 == 0 || decide (r.noise * ratioDb ((leAt seg 0x24 1 : Rat) / 2) ≤ (x.2 : Rat)))
  let none' : RxTime × Block := ({ paths := fit.length }, b)
  match (fit.filter ok).mergeSort (fun x y => decide (x.1 ≤ y.1)), fit.find? (fun x => x.2 == top) with
  | f :: _, some s =>
    let (v, b) := b.openRound (((s.1 - f.1).natAbs : Rat) * 100 / 65536)
    let far (x : Int × Nat) : Bool := x == f || decide (10 * x.2 ≤ top) || decide (f.1 + 2 * chip ≤ x.1)
    ({ stamp := some ((r.mark : Int) + f.1).toNat, fpOffset := min 0xFFFE v.toNat, paths := fit.length
       single := f.2 == top && fit.all far }, b)
  | _, _ => none'

/-- The verdict of a transmission whose blocks stayed within their limits (R175, R190–R197): counters, the link record,
withheld measurements and first-path failures, and the transmission handed on. DESIGN CHOICE: the block error fraction counts the
header block among the blocks (assumption 130). -/
def Block.verdict (b : Block) (band p : Nat) (rx : Reception) (r : RxReport) (l : List (RxPart × Decoded)) : Block :=
  let h := rx.hdr
  let parts := l.map Prod.fst
  let fails := (l.map (fun e => e.2.fails)).sum
  let b := b.equalise rx (modeExp h.mode) r.steps
  let cause := b.withheldCause rx (parts.all (fun x => x.ok)) r
  let b : Block := if rx.stage = 3 then { b with phy := { b.phy with rx := b.phy.rx.erase rx } } else b.endReception rx
  let b := b.add R.PHY_BLOCK_FAIL_COUNT fails
  let b := b.forEach parts (fun b x => if x.ok then b.bump R.PHY_FRAMES_OK_COUNT else b.bump R.PHY_PAYLOAD_CRC_FAIL_COUNT)
  let blocks := 1 + (parts.map (fun x => payloadBlocks (modeRate h.mode) x.len)).sum
  let eps := (l.map (fun e => e.2.eps)).foldl max rx.eps
  let (snrs, b) := b.frameSnrs r.sums [0, 1, 2, 3]
  let b := b.linkQuality h.src band snrs fails blocks eps (if h.ftype = 1 then some h.mode else none)
  let b := if h.ftype = 4 ∧ cause ≠ 0 then b.timingWithheld band p h.src cause else b
  let withheld := decide (h.ftype = 4 ∧ cause ≠ 0) || b.fabric.timeInvalid
  let (time, b) := if withheld then ({}, b) else b.firstPath (modeProfile h.mode) r
  let b := if h.ftype = 4 ∧ withheld = false ∧ time.stamp.isNone then b.count R.TIM_FP_FAIL_COUNT R.TIM_TROUBLE_FP_FAIL else b
  let good := parts.takeWhile (fun x => x.ok)
  let late := parts.length - good.length - 1
  let b := if h.ftype = 1 ∧ good.length < parts.length then b.add R.MAC_ORDER_DROP_COUNT late else b
  if good.isEmpty then b
  else
    let d : Delivered :=
      { port := p, band := band, hdr := h, parts := good, snr := (((lowest snrs).getD 0) * 256).floor, time := time, tick := b.tick }
    { b with phy := { b.phy with delivered := b.phy.delivered ++ [d] } }

/-- The end of a reception whose last chip was received, or whose train ended early (RX_FRAME_END, R175, R190–R197): where a block
has too many erased positions, or an erasure abort has arisen in this tick, the verdict is aborted (R193, R195). -/
def Block.rxFrameEnd (b : Block) (band p : Nat) (code : Nat × Nat) (r : RxReport) : Block :=
  match (b.receptionAt band p 2 code).or (b.receptionAt band p 3 code) with
  | none => b
  | some rx =>
    let l := b.decodeReception rx r.bits
    if rx.stage = 2 ∧ (rx.erased ∨ l.any (b.frameErased rx.hdr)) then b.abortErased rx
    else b.verdict band p rx r l

end Sys2Proof.Machine
end

