-- ==== Sys2Proof/Machine/Time.lean ====
section
/-! DEFINITION. The time unit (R209–R248): servo, states, bound, holdover, sources, calibration records, events,
outputs, PTP. Times are in 2⁻¹⁶ ns where nothing else is said. -/

namespace Sys2Proof.Machine

/-- The square root of a non-negative rational, rounded as above. -/
def Block.openSqrt (b : Block) (x : Rat) : Nat × Block :=
  let r := Nat.sqrt x.floor.toNat
  if (r : Rat) * r = x then (r, b) else (r + (if Config.roundUp b.freeCtr then 1 else 0), b.fresh.2)

/-- A time difference in ps. -/
def toPs (x : Rat) : Rat := x * 1000 / 65536

/-- A number of ps in 2⁻¹⁶ ns. -/
def ofPs (x : Rat) : Rat := x * 65536 / 1000

/-- TIM_STAT.STATE (R215). -/
def Block.timState (b : Block) : Nat := b.get R.TIM_STAT_STATE

/-- The coordinator's reference is traceable: its source is 0 or 1, and valid or in holdover (R223). -/
def Block.traceable (b : Block) : Bool :=
  if b.role = 0 then
    decide (b.get R.TIM_SRC_CFG_SRC ≤ 1) && (b.flag R.TIM_STAT_SRC_OK || b.timState == 4)
  else b.time.parentFlags.testBit 3

/-- clockClass (R247). -/
def Block.clockClass (b : Block) : Nat :=
  let s := b.timState
  let t := b.traceable
  let small := decide (b.get R.TIM_BOUND ≤ 1000000)
  if s ≤ 1 then 248
  else if s = 4 then (if t then (if small then 7 else 52) else (if small then 14 else 58))
  else if t then 6 else 13

/-- TRACEABLE and the advertised clockClass follow the state. -/
def Block.showTime (b : Block) : Block :=
  (b.setFlag R.TIM_STAT_TRACEABLE b.traceable).set R.TIM_PTP_STAT_CLOCK_CLASS b.clockClass

/-- The outputs may be driven (R69, R241): enabled and locked, or FORCE in any state but FREE. -/
def Block.outputsOk (b : Block) : Bool :=
  let c := b.get R.TIM_OUT_CTRL
  let s := b.timState
  decide (3 ≤ b.mode ∧ b.mode ≠ 9) && c % 8 != 0 &&
    (s == 2 || s == 3 || s == 4 || (c.testBit 3 && s != 0)) && !b.flag R.TIM_STAT_SQUELCHED

/-- Change TIM_STAT.STATE; leaving LOCKED other than for holdover sets LOCK_LOST (R250), and the outputs are driven only in
the states of R241. -/
def Block.setTimState (b : Block) (s : Nat) : Block :=
  let lost := decide (b.timState = 2 ∧ s ≠ 2 ∧ s ≠ 4)
  let b := b.set R.TIM_STAT_STATE s
  let b := if b.outputsOk then b else b.outputsOff
  let b := if lost then b.stick R.TIM_TROUBLE_LOCK_LOST else b
  b.showTime

/-- Entry to ACQUIRING: the outlier test is suspended for four measurements, the lock count starts again (R214,
R215). -/
def Block.acquire (b : Block) : Block :=
  let b := b.setTimState 1
  { b with time := { b.time with accepted := 0, good := 0 } }

/-- The decay bound of R237: E_change × 2^(−t/TC). -/
def Block.decayBound (b : Block) : Nat :=
  if b.time.decayTc = 0 then 0
  else
    let t := b.now - b.time.decayStart
    b.time.decayFrom * fxExp2 (-((t * 2 ^ 48 / (65536 * 1000000000 * b.time.decayTc) : Nat) : Int)) / fxOne

/-- A bound of `e0` ps grown as R238 since `start`, in ps. -/
def Block.grownBound (b : Block) (e0 start : Nat) : Rat :=
  let t : Rat := ((b.now - start : Nat) : Rat) / (65536 * 1000000000)
  (e0 : Rat) + (b.get R.TIM_HOLD_Y : Rat) * t / 10 + (b.get R.TIM_HOLD_D : Rat) * t * t / 2 / 1000000 +
    (b.get R.TIM_HOLD_T : Rat) * ((b.time.holdTempMax : Rat) / 10) * t / 10

/-- The holdover bound of R238 in ps. -/
def Block.holdBound (b : Block) : Rat := b.grownBound b.time.holdBound b.time.holdStart

/-- The bound in M8 Doze between exchanges (R239). -/
def Block.dozeBound (b : Block) : Rat := b.grownBound b.time.bound (b.time.lastMeas.getD b.now)

/-- TIM_BOUND and TIM_HOLD_TIME follow (R236–R238): the bound never decays faster than R237 allows, and grows in
holdover, and in M8 between exchanges (R239). -/
def Block.showBound (b : Block) : Block :=
  if b.timState = 4 then
    let (e, b) := b.openRound b.holdBound
    let b := if b.time.holdBound = 0xFFFFFFFF then b.set R.TIM_BOUND 0xFFFFFFFF else b.usat R.TIM_BOUND e.toNat
    b.usat R.TIM_HOLD_TIME ((b.now - b.time.holdStart) / (65536 * 1000000000))
  else
    let b := b.set R.TIM_HOLD_TIME 0
    if b.mode = 8 ∧ b.time.bound ≠ 0xFFFFFFFF then
      let (e, b) := b.openRound b.dozeBound
      b.usat R.TIM_BOUND (max e.toNat b.decayBound)
    else if b.time.bound = 0xFFFFFFFF then b.set R.TIM_BOUND 0xFFFFFFFF
    else b.usat R.TIM_BOUND (max b.time.bound b.decayBound)

/-- A change of band, an end of holdover or a re-acquisition limits the fall of the bound (R237). -/
def Block.startDecay (b : Block) (tc : Nat) : Block :=
  let e := b.get R.TIM_BOUND
  if e = 0xFFFFFFFF then b
  else { b with time := { b.time with decayFrom := e, decayStart := b.now, decayTc := tc } }

/-- TC of a measurement (R213): 0 Band H, 1 Band L, 2 the coordinator's source. -/
def Block.tc (b : Block) (kind : Nat) : Nat :=
  match kind with
  | 0 => b.get R.TIM_SERVO_TC_H
  | 1 => b.get R.TIM_SERVO_TC_L
  | _ => b.get R.TIM_SERVO_TC_SRC

/-- The lock threshold in ps (R215). -/
def Block.lockThresh (b : Block) (kind : Nat) : Nat :=
  if kind = 1 then b.get R.TIM_LOCK_THRESH_L * 1000 else b.get R.TIM_LOCK_THRESH_H

/-- The servo of R213: θ in 2⁻¹⁶ ns, Δ in 2⁻¹⁶ ns. -/
def Block.servo (b : Block) (kind : Nat) (theta : Rat) (delta : Nat) : Block :=
  let tc : Rat := max 1 (b.tc kind)
  let sec : Rat := theta / (65536 * 1000000000)
  let dt : Rat := (delta : Rat) / (65536 * 1000000000)
  let (yi, b) := b.openRound ((b.sget R.TIM_FREQ_INT : Rat) + sec * dt / (tc * tc) * 2 ^ 48)
  let b := b.ssat R.TIM_FREQ_INT yi
  let lim : Rat := (b.get R.TIM_LIMITS_Y_LIMIT : Rat) * 2 ^ 48 / 1000000000
  let p := max (-lim) (min lim (1414 / 1000 * sec / tc * 2 ^ 48))
  let (y, b) := b.openRound ((b.sget R.TIM_FREQ_INT : Rat) + p)
  b.ssat R.TIM_FREQ y

/-- Whether a line measurement is an outlier (R214): the test is suspended for the first four after entry to ACQUIRING, a change
of parent, or holdover. `sigma` is in 0.01 ps. -/
def Block.isOutlier (b : Block) (theta : Rat) (sigma : Nat) : Bool :=
  match b.time.lastMeas with
  | some t =>
    let dy : Rat := ((b.sget R.TIM_FREQ - b.sget R.TIM_FREQ_INT : Int) : Rat) / 2 ^ 48
    let pred := b.time.lastTheta - dy * ((b.now - t : Nat) : Rat)
    let s : Rat := max ((sigma : Rat) / 100) 1
    decide (4 ≤ b.time.accepted ∧ b.timState ≠ 4) && decide ((b.get R.TIM_LIMITS_OUTLIER_K : Rat) * s < |toPs (theta - pred)|)
  | none => false

/-- The time on the node's own clock since the last resynchronisation, in ns (R276, R278). -/
def Block.sinceResync (b : Block) : Nat :=
  match b.mac.preNs with
  | some p => p + b.now / 65536
  | none => b.now / 65536 - unstamp64 (b.get R.MAC_LAST_RESYNC) b.now / 65536

/-- The step of R35 waits for its block boundary. -/
def Block.wantStep (b : Block) (d : Int) : Block := { b with time := { b.time with step := some d } }

/-- Holdover begins (R238): y freezes at y_I and the bound starts to grow. -/
def Block.enterHoldover (b : Block) : Block :=
  if b.timState = 4 ∨ b.timState = 0 then b
  else
    let b := b.set R.TIM_FREQ (b.get R.TIM_FREQ_INT)
    let b := { b with time := { b.time with
      holdStart := b.now, holdBound := b.get R.TIM_BOUND, holdTemp := b.sget R.PWR_SUPPLY_BASE_TEMP, holdTempMax := 0 } }
    ((b.set R.TIM_STAT_STATE 4).count R.TIM_HOLD_COUNT R.TIM_TROUBLE_HOLDOVER).showTime

/-- The coordinator's source is declared lost (R218). -/
def Block.sourceLost (b : Block) : Block :=
  let b := (b.stick R.TIM_TROUBLE_SRC_LOST).set R.TIM_STAT_SRC_OK 0
  let b := { b with time := { b.time with srcLost := true, srcGood := 0, srcBad := 0 } }
  b.enterHoldover

/-- An offset lies beyond RELOCK_LIMIT after the first lock (R216, R220). -/
def Block.beyond (b : Block) (theta : Rat) : Bool :=
  b.time.firstLock && decide ((b.get R.TIM_LIMITS_RELOCK_LIMIT : Rat) * 100000 < |toPs theta|)

/-- One more accepted measurement, `good` of them in a row under the lock threshold. -/
def Block.noteMeasure (b : Block) (good : Nat) (theta : Rat) : Block :=
  { b with time := { b.time with
    accepted := b.time.accepted + 1
    good := good
    lastMeas := some b.now
    lastTheta := theta
    holdTemp := b.sget R.PWR_SUPPLY_BASE_TEMP
    holdTempMax := 0 } }

/-- Re-acquisition (R216): the step waits for its block boundary. While it waits, a further measurement only renews it. -/
def Block.relock (b : Block) (kind : Nat) (theta : Rat) : Block :=
  let waiting := b.time.step.isSome
  let b := b.wantStep theta.floor
  if waiting then b.noteMeasure 0 theta
  else
    let b := (b.stick R.TIM_TROUBLE_RELOCK).stick R.TIM_TROUBLE_LOCK_LOST
    let b := ((b.startDecay (b.tc kind)).acquire).askMode 5
    { b with time := { b.time with lastMeas := some b.now, lastTheta := theta } }

/-- The first lock is reached (R215). -/
def Block.lock (b : Block) : Block :=
  let b := b.setTimState 2
  { b with time := { b.time with firstLock := true } }

/-- The state after a measurement (R215). -/
def Block.lockStep (b : Block) (good : Nat) (parentLocked oneWay : Bool) : Block :=
  if b.timState = 1 ∧ b.get R.TIM_LOCK_COUNT ≤ good ∧ parentLocked then b.lock
  else if b.timState = 3 ∧ oneWay = false then b.setTimState 2
  else if b.timState = 2 ∧ oneWay then b.setTimState 3
  else b.showTime

/-- What an accepted measurement corrects: the step of R35 until it is taken, then the servo (R213, R215, R216). -/
def Block.correct (b : Block) (kind : Nat) (theta : Rat) (delta : Nat) (oneWay : Bool) : Block :=
  let b := if b.timState = 4 then (b.startDecay (b.tc kind)).acquire else if b.timState = 0 then b.acquire else b
  if oneWay = false ∧ (b.flag R.GLB_TICK_STAT_GRID_ALIGNED = false ∨ b.time.step.isSome) then b.wantStep theta.floor
  else b.servo kind theta delta

/-- A line measurement θ is accepted, or one of the coordinator's source (R213, R215, R216): re-acquisition beyond
RELOCK_LIMIT after the first lock; the step of R35 before it; else the servo and the states. `parentLocked`: the parent
reports LOCKED. -/
def Block.measured (b : Block) (kind : Nat) (theta : Rat) (parentLocked oneWay : Bool) : Block :=
  let ps := toPs theta
  let (off, b) := b.openRound ps
  let b := (b.ssat R.TIM_OFFSET off).set R.TIM_STAT_BAND (if kind = 1 then 1 else 0)
  let delta := match b.time.lastMeas with | some t => b.now - t | none => 0
  let b := { b with time := { b.time with misses := 0 } }
  if b.beyond theta then b.relock kind theta
  else
    let b := b.correct kind theta delta oneWay
    let good := if |ps| < b.lockThresh kind then b.time.good + 1 else 0
    (b.noteMeasure good theta).lockStep good parentLocked oneWay

/-- The bound at the coordinator (R236). -/
def Block.sourceBound (b : Block) : Block :=
  let e := b.get R.TIM_SRC_UNC + (if b.get R.TIM_SRC_CFG_SRC = 1 then 4000 else 0)
  ({ b with time := { b.time with bound := min e 0xFFFFFFFE } }).showBound

/-- A measurement of the coordinator's source (R218, R220): one that has moved by more than RELOCK_LIMIT is lost and stays
lost; else it is valid and the servo follows it. -/
def Block.sourceMeasured (b : Block) (theta : Rat) : Block :=
  if b.beyond theta then (if b.time.srcLost then b else b.sourceLost)
  else
    let b : Block := { b with time := { b.time with srcLost := false } }
    ((b.set R.TIM_STAT_SRC_OK 1).measured 2 theta true false).sourceBound

/-- A new timing parent (R243, R244). -/
def Block.changeParent (b : Block) (parent : Nat) : Block :=
  let b := (b.set R.TIM_PARENT_PARENT parent).stick R.TIM_TROUBLE_PARENT_CHANGE
  if b.timState = 0 then b else b.acquire

/-- A frame from a neighbour was received within the last 8 beacon periods (R244). -/
def Block.heardLately (b : Block) (a : Nat) : Bool :=
  let t := Tab.get 0 b.mac.heardTick a
  match b.grid.cur with
  | some g => t != 0 && decide ((b.tick + 1 - t) * tickLen ≤ 8 * b.get R.MAC_GRID_BP_CYCLES * g.t)
  | none => false

/-- An event of R238 has occurred: HOLD_MISS exchange opportunities in a row without an accepted measurement, BEACON_LOST, a
timing link forbidden in every band at this end and at the parent's (`far`) where no one-way measurement is possible, or at the
coordinator the loss of the source. -/
def Block.holdoverDue (b : Block) (far : Bool) : Bool :=
  if b.role = 0 then b.time.srcLost
  else decide (b.get R.TIM_PERIODS_HOLD_MISS ≤ b.time.misses) || b.flag R.MAC_TROUBLE_BEACON_LOST ||
    (far && b.forbidden 0 && (b.forbidden 1 || !b.flag R.TIM_TREE_FALLBACK_L) && b.timState != 3)

/-- HOLDOVER_ENTRY (R238, R244): a node that is not the coordinator moves to a backup parent that it heard within 8 beacon
periods. -/
def Block.holdoverEntry (b : Block) (far : Bool) : Block :=
  if b.timState = 0 ∨ b.holdoverDue far = false then b
  else
    let b := b.enterHoldover
    let backup := b.get R.TIM_PARENT_BACKUP
    if b.role ≠ 0 ∧ backup ≠ 0 ∧ b.heardLately backup then (b.changeParent backup).set R.TIM_PARENT_BACKUP 0 else b

/-- The network time of the label of an edge (R218): the label and the delay of PPS_IN. -/
def Block.labelTime (b : Block) (label : Nat) : Int :=
  ((label * 1000000000 * 65536 : Nat) : Int) + b.sget R.TIM_PPS_IN_DELAY * 65536 / 1000

/-- The label that TIM_TOD_SEC holds. -/
def Block.armedLabel (b : Block) : Nat := b.get R.TIM_TOD_SEC_LO + 2 ^ 32 * b.get R.TIM_TOD_SEC_HI

/-- An edge before the coordinator's first step (R217, R218): the first one after a label is armed gives the step; each later
one takes the next label. -/
def Block.ppsFirst (b : Block) (edge : Nat) : Block :=
  if b.time.armed then
    let label := b.armedLabel
    let b := { b with time := { b.time with
      label := label, armed := false, step := some (b.labelTime label - edge), lastMeas := some b.now, lastTheta := 0 } }
    let b := if b.get R.TIM_SRC_CFG_SRC = 0 then b.set R.TIM_STAT_SRC_OK 1 else b
    b.acquire
  else if b.time.step.isSome then { b with time := { b.time with label := b.time.label + 1 } }
  else b

/-- The first edge after a label was armed gives that label's offset for TIM_CMD STEP, and what the step adds to the running
label (R218, R220). -/
def Block.ppsArmed (b : Block) (edge : Nat) : Block :=
  if b.time.armed then
    let d := b.labelTime b.armedLabel - edge
    let shift : Int := (b.armedLabel : Int) - (b.time.label + 1 : Nat)
    if b.time.stepWanted then
      { b with time := { b.time with step := some d, stepWanted := false, armed := false, label := b.armedLabel - 1 } }
    else if b.time.labelTheta.isSome then b
    else { b with time := { b.time with labelTheta := some d, labelShift := shift } }
  else b

/-- An edge with PPS_IN as the source (R214, R218): rejected beyond 1 µs after the first lock; three rejected in a row lose
the source; the fifth accepted in a row after a loss is a measurement again. -/
def Block.ppsMeasure (b : Block) (theta : Rat) : Block :=
  if b.time.firstLock ∧ 1000000 < |toPs theta| then
    let bad := b.time.srcBad + 1
    let b := { b with time := { b.time with srcBad := bad, srcGood := 0 } }
    let b := b.count R.TIM_PPS_REJECT_COUNT R.TIM_TROUBLE_PPS_REJECT
    if 3 ≤ bad ∧ b.time.srcLost = false then b.sourceLost else b
  else
    let b := { b with time := { b.time with srcBad := 0, srcGood := b.time.srcGood + 1 } }
    if b.time.srcLost ∧ b.time.srcGood < 5 then b
    else b.sourceMeasured theta

/-- PPS_IN_EDGE (R217, R218): a rising edge read at `edge` on the node's own time scale. -/
def Block.ppsEdge (b : Block) (edge : Nat) : Block :=
  let src := b.get R.TIM_SRC_CFG_SRC
  if b.role ≠ 0 ∨ src = 1 ∨ src = 3 ∨ b.image.run.isNone then b
  else if b.flag R.GLB_TICK_STAT_GRID_ALIGNED = false then b.ppsFirst edge
  else
    let stepping := b.time.armed && b.time.stepWanted
    let b := b.ppsArmed edge
    let label := b.time.label + 1
    let b := { b with time := { b.time with label := label } }
    if src = 2 ∨ stepping then b else b.ppsMeasure ((b.labelTime label - edge : Int) : Rat)

/-- PPS_IN_TIMEOUT (R218): no edge for 1.5 s while PPS_IN is the source. -/
def Block.ppsTimeout (b : Block) : Block :=
  if b.role = 0 ∧ b.get R.TIM_SRC_CFG_SRC = 0 ∧ b.flag R.TIM_STAT_SRC_OK ∧ b.image.run.isSome then b.sourceLost else b

/-- REF_IN_LOSS (R218, R219): the system clock changes over to the OCXO with its last measured offset `y`, which holdover
then keeps. -/
def Block.refLoss (b : Block) (y : Int) : Block :=
  if b.get R.TIM_SRC_CFG_SYSCLK = 1 ∧ b.time.onOcxo = false ∧ b.image.run.isSome then
    let b := { b with time := { b.time with onOcxo := true, ocxoY := y, y := y } }
    let b := ((b.ssat R.TIM_FREQ y).ssat R.TIM_FREQ_INT y).stick R.TIM_TROUBLE_REF_SWITCH
    if b.role = 0 ∧ b.get R.TIM_SRC_CFG_SRC = 0 ∧ b.time.srcLost = false then b.sourceLost else b
  else b

/-- TOD_LABEL_ARM: a write of TIM_TOD_SEC_LO (R218). -/
def Block.armLabel (b : Block) (lo : Nat) : Block :=
  let b := b.set R.TIM_TOD_SEC_LO lo
  { b with time := { b.time with armed := true, labelTheta := none } }

/-- TIM_CMD STEP (R220). -/
def Block.stepCmd (b : Block) : Block :=
  let src := b.get R.TIM_SRC_CFG_SRC
  if b.mode ≠ 10 ∨ b.role ≠ 0 then b
  else if src = 1 then
    match b.time.ptpTime with
    | some d => { b with time := { b.time with step := some d } }
    | none => b
  else if b.time.armed then
    match b.time.labelTheta with
    | some d => { b with time := { b.time with
        step := some d, armed := false, labelTheta := none, label := (b.time.label + b.time.labelShift).toNat } }
    | none => { b with time := { b.time with stepWanted := true } }
  else b

/-- The calibration record of a peer, port and band: its index. -/
def Block.calIndex (b : Block) (peer port band : Nat) : Option Nat :=
  (b.time.cal.find? (fun e => e.2.inUse && e.2.peer == peer && e.2.port == port && e.2.band == band)).map (fun e => e.1)

/-- A calibration record. -/
def Block.calRec (b : Block) (i : Nat) : CalRec := Tab.get {} b.time.cal i

/-- Change a calibration record. -/
def Block.modCal (b : Block) (i : Nat) (f : CalRec → CalRec) : Block :=
  { b with time := { b.time with cal := Tab.modify {} b.time.cal i f } }

/-- The record that a new peer takes (R234): a free one, else the oldest whose MODE is not ENTERED. -/
def Block.freeCal (b : Block) : Option Nat :=
  match (List.range 256).find? (fun i => !(b.calRec i).inUse) with
  | some i => some i
  | none =>
    ((List.range 256).filter (fun i => (b.calRec i).mode != 2)).foldl (fun best i =>
      match best with
      | some j => if (b.calRec i).updated < (b.calRec j).updated then some i else best
      | none => some i) none

/-- The record of a peer, created where there is none. -/
def Block.ensureCal (b : Block) (peer port band : Nat) : Option Nat × Block :=
  match b.calIndex peer port band with
  | some i => (some i, b)
  | none =>
    match b.freeCal with
    | some i => (some i, b.modCal i (fun _ => { inUse := true, peer := peer, port := port, band := band }))
    | none => (none, b)

/-- The delay model of a record in ps (R231), where it is valid: MODE not OFF, T valid, a learned d0 after 64 exchanges. -/
def CalRec.model (c : CalRec) : Option Rat :=
  match c.temp with
  | some t =>
    if c.mode = 0 ∨ (c.mode = 1 ∧ c.exchanges < 64) then none
    else some ((c.d0 : Rat) * (1 + (c.alpha : Rat) / 1000000000 * ((t - c.t0 : Int) : Rat) / 100))
  | none => none

/-- The sum of a list of rationals. -/
def sumQ (l : List Rat) : Rat := l.foldl (· + ·) 0

/-- The slope of a least-squares line through points. -/
def slopeOf (l : List (Rat × Rat)) : Rat :=
  let n : Rat := l.length
  let mx := sumQ (l.map (fun p => p.1)) / n
  let my := sumQ (l.map (fun p => p.2)) / n
  let sxx := sumQ (l.map (fun p => (p.1 - mx) * (p.1 - mx)))
  if sxx = 0 then 0 else sumQ (l.map (fun p => (p.1 - mx) * (p.2 - my))) / sxx

/-- The variance of points about their least-squares line (R248). -/
def lineVariance (l : List (Rat × Rat)) : Rat :=
  let n : Rat := l.length
  if l.isEmpty then 0
  else
    let mx := sumQ (l.map (fun p => p.1)) / n
    let my := sumQ (l.map (fun p => p.2)) / n
    let k := slopeOf l
    sumQ (l.map (fun p => let r := p.2 - my - k * (p.1 - mx); r * r)) / n

/-- The mean and variance of integers. -/
def meanVar (l : List Int) : Rat × Rat :=
  if l.isEmpty then (0, 0)
  else
    let n : Rat := l.length
    let m := sumQ (l.map (fun (x : Int) => (x : Rat))) / n
    (m, sumQ (l.map (fun (x : Int) => ((x : Rat) - m) * ((x : Rat) - m))) / n)

/-- π² to 16 places, for R248. -/
def piSquared : Rat := 98696044010893586 / 10000000000000000

/-- σ² of one direction in ps² (R248), for a chip rate, P and an SNR in 0.25 dB. -/
def crbDir (rate p : Nat) (snr : Int) : Rat :=
  let gamma : Rat := (fxFromDb ((snr : Rat) / 4) : Rat) / fxOne
  let beta : Rat := 2938 / 10000 * rate
  (1000000000000 * 1000000000000 : Rat) / (4 * piSquared * beta * beta * 2 * max gamma (1 / 1000000000) * (9 * p))

/-- An accepted exchange enters its record (R232, R233, R236, R248): d in 2⁻¹⁶ ns, both SNRs in 0.25 dB. -/
def Block.recordExchange (b : Block) (i : Nat) (d : Rat) (snrFwd snrRev : Int) (t : RxTime) (profile : Nat) : Block :=
  let c := b.calRec i
  if c.stale then b
  else
    let win := b.get R.TIM_PERIODS_EFF_WIN
    let p := if profileL profile then 128 else 1024
    let crb2 := (crbDir (chipRate profile) p snrFwd + crbDir (chipRate profile) p snrRev) / 4
    let recent := ((b.now / 65536, d.floor, crb2) :: c.recent).take win
    let pts := recent.map (fun e => ((e.1 : Rat), toPs (e.2.1 : Rat)))
    let (sigma, b) := b.openSqrt (lineVariance pts * 10000)
    let meanCrb2 := sumQ (recent.map (fun e => e.2.2)) / recent.length
    let (crb, b) := b.openSqrt (meanCrb2 * 10000)
    let (dps, b) := b.openRound (toPs d)
    let many := !t.single || decide (180 < snrFwd ∨ 180 < snrRev) || decide (recent.length < 8)
    let (eff, b) := if sigma = 0 then (0xFFFE, b) else b.quot (1000 * crb) sigma
    let resid := match c.model with | some m => some (toPs d - m) | none => none
    let (resids, b) := match resid with
      | some r => let (v, b) := b.openRound r; ((v :: c.resids).take 256, b)
      | none => (c.resids, b)
    let (mean, b) := b.openRound (meanVar resids).1
    let (sd, b) := b.openSqrt (meanVar resids).2
    let span : Nat := match recent.head?, recent.getLast? with
      | some a, some z => a.1 - z.1
      | _, _ => 0
    let (jit, b) := if recent.length < 2 ∨ span = 0 then (0, b)
      else b.openSqrt ((sigma * sigma : Nat) * (span : Rat) / ((recent.length - 1 : Nat) * 1000000000))
    let b := b.modCal i (fun c => { c with
      recent := recent, sigma := sigma, crb := crb, dMeas := dps.toNat, exchanges := c.exchanges + 1,
      eff := if many then 0xFFFF else min 0xFFFE eff, multi := many, resids := resids, residMean := mean, residSd := sd,
      jitter := jit, fpOffset := t.fpOffset, paths := t.paths,
      samples := match c.temp with | some tt => ((b.now / 65536, tt, d.floor) :: c.samples) | none => c.samples })
    let limit : Int := if c.band = 0 then 200 else 20000
    if resid.isSome ∧ (limit < mean ∨ mean < -limit) then b.stick R.TIM_TROUBLE_MODEL_RESID else b

/-- The weight of a sample of an age in ns (R232): it forgets with a time constant of 30 days, exp(−t/τ) as a power of 2. -/
def learnWeight (age : Nat) : Rat :=
  (fxExp2 (-((age * 406082553034800 / (30 * 86400 * 1000000000) : Nat) : Int)) : Rat) / fxOne

/-- LEARN (R232): d0 and α by weighted least squares over the accepted delays against T; α is fitted once the samples span
2 K. A sample whose weight has vanished is left out. -/
def Block.learn (b : Block) (i : Nat) : Block :=
  let c := b.calRec i
  if c.mode ≠ 1 then b
  else
    let w (e : Nat × Int × Int) : Rat := learnWeight (b.now / 65536 - e.1)
    let s := c.samples.filter (fun e => w e != 0)
    let temps := s.map (fun e => e.2.1)
    let span := (temps.foldl max (temps.headD 0) - temps.foldl min (temps.headD 0)).toNat
    let pts := s.map (fun e => (w e, ((e.2.1 - c.t0 : Int) : Rat) / 100, toPs (e.2.2 : Rat)))
    if s.isEmpty then b
    else
      let n := sumQ (pts.map (fun p => p.1))
      let mx := sumQ (pts.map (fun p => p.1 * p.2.1)) / n
      let my := sumQ (pts.map (fun p => p.1 * p.2.2)) / n
      let sxx := sumQ (pts.map (fun p => p.1 * (p.2.1 - mx) * (p.2.1 - mx)))
      let sxy := sumQ (pts.map (fun p => p.1 * (p.2.1 - mx) * (p.2.2 - my)))
      let slope : Rat := if 200 ≤ span ∧ sxx ≠ 0 then sxy / sxx else 0
      let d0raw : Rat := if 200 ≤ span then my - slope * mx
        else my / (1 + (c.alpha : Rat) / 1000000000 * mx)
      let (d0, b) := b.openRound d0raw
      let (al, b) := if 200 ≤ span ∧ d0raw ≠ 0 then b.openRound (slope / d0raw * 1000000000) else (c.alpha, b)
      b.modCal i (fun c => { c with d0 := d0.toNat, alpha := al, tSpread := span, samples := s })

/-- u_link² in ps² (R236). `delta` is the interval between measurements in 2⁻¹⁶ ns. -/
def Block.uLinkSquared (b : Block) (c : CalRec) (delta : Nat) (oneWay : Bool) : Rat :=
  let seg := b.timingSeg
  let ucal : Rat := leAt seg (if c.band = 0 then 0x26 else 0x2A) 2
  let fp : Nat := leAt seg (if c.band = 0 then 0x28 else 0x2C) 2
  let ufp : Rat := fp + (if c.multi ∧ c.fpOffset ≠ 0xFFFF ∧ c.fpOffset ≠ 0 then c.fpOffset * 10 else 0)
  let tc : Rat := max 1 (b.tc c.band)
  let sec : Rat := (delta : Rat) / (65536 * 1000000000)
  let s2 : Rat := ((c.sigma : Rat) / 100) * ((c.sigma : Rat) / 100) * (106 / 100) * sec / tc
  let m : Rat := if oneWay then (|c.residMean| : Int) + 3 * c.residSd else 0
  ucal * ucal + ufp * ufp + (c.asymUnc : Rat) * c.asymUnc + 9 * s2 + m * m

/-- The bound after a line measurement (R236): the parent's bound and the link's uncertainty. -/
def Block.lineBound (b : Block) (i delta parentBound : Nat) (oneWay : Bool) : Block :=
  let u2 := b.uLinkSquared (b.calRec i) delta oneWay
  let (u, b) := b.openSqrt u2
  let b := b.modCal i (fun c => { c with uLink := u })
  if parentBound = 0xFFFFFFFF then ({ b with time := { b.time with bound := 0xFFFFFFFF } }).showBound
  else
    let (e, b) := b.openSqrt ((parentBound : Rat) * parentBound + u2)
    ({ b with time := { b.time with bound := min e 0xFFFFFFFE } }).showBound

/-- The exchange state of a peer. -/
def Block.peerTime (b : Block) (a : Nat) : PeerTime := Tab.get {} b.time.peers a

/-- Change the exchange state of a peer. -/
def Block.modPeer (b : Block) (a : Nat) (f : PeerTime → PeerTime) : Block :=
  { b with time := { b.time with peers := Tab.modify {} b.time.peers a f } }

/-- The ticks from the first preamble chip to the timing mark (R258). -/
def markTicks (profile : Nat) : Nat :=
  ceilDiv (8 * (if profileL profile then 128 else 1024) * chipPeriod profile) (64 * 40000)

/-- The 24 bytes of a TIMING frame (R223). -/
def Block.timingBytes (b : Block) (peer subtype seq mark : Nat) : List Byte :=
  let pt := b.peerTime peer
  let flags := (if b.timState = 2 then 1 else 0) + (if b.timState = 4 then 2 else 0) +
    (if pt.lastRx.isNone then 4 else 0) + (if b.traceable then 8 else 0)
  let depth := if b.role = 0 then 0 else if b.get R.TIM_TREE_DEPTH = 0x3F then 0xFF else b.get R.TIM_TREE_DEPTH
  leBytes subtype 1 ++ leBytes flags 1 ++ leBytes seq 2 ++ leBytes (stamp64 mark) 8 ++ leBytes (b.get R.TIM_BOUND) 4 ++
    leBytes pt.rxSnr 2 ++ leBytes depth 1 ++
    leBytes (b.get R.TIM_UTC_LEAP61 + 2 * b.get R.TIM_UTC_LEAP59) 1 ++ leBytes (b.get R.TIM_UTC_UTC_OFFSET) 2 ++
    leBytes pt.fpOffset 2

/-- A TIMING frame to a peer is made ready (R221–R224, R258): `lead` ticks from now to the first preamble chip. -/
def Block.readyTiming (b : Block) (peer port band subtype seq lead : Nat) : Block :=
  let profile := (b.profile band port).getD 0
  let mark := (b.tick + lead + markTicks profile) * tickLen
  let pt := b.peerTime peer
  let h := { b.newHeader 4 1 peer band false with
    mode := oneStream (b.peerMode peer band), timing := match pt.lastRx with | some t => stamp64 t | none => 0 }
  let f : TxFrame := { band := band, kind := .timing, hdr := h, port := some port, payload := b.timingBytes peer subtype seq mark }
  let b := b.modPeer peer (fun p => if subtype = 1 then { p with seq := seq, t1 := some mark }
    else { p with echo := none, sent := match p.mark, p.lastRx with | some t1, some t2 => some (t1, t2, mark) | _, _ => none })
  { b with mac := { b.mac with ready := b.mac.ready ++ [f] } }

/-- The node's timing band now (R244): the fallback band while the primary one is forbidden. -/
def Block.timingBand (b : Block) : Nat :=
  let p := b.get R.TIM_TREE_BAND
  if p = 0 ∧ b.forbidden 0 ∧ b.flag R.TIM_TREE_FALLBACK_L ∧ b.forbidden 1 = false then 1 else p

/-- TIMING_REQUEST_TX (R222): at its opportunity the child sends a request to its parent; until a measurement is accepted the
opportunity counts as missed (R238). -/
def Block.timingRequest (b : Block) : Block :=
  let parent := b.get R.TIM_PARENT_PARENT
  if parent = 0 ∨ b.role = 0 ∨ b.mayTransmit = false ∨ b.hasGrid = false then b
  else
    let b := { b with time := { b.time with misses := b.time.misses + 1 } }
    if b.forbidden b.timingBand then b.slotLost
    else b.readyTiming parent (b.get R.TIM_TREE_PORT) b.timingBand 1 (((b.peerTime parent).seq + 1) % 65536) 1

/-- TIMING_REPLY_TX (R224): the parent answers the request it holds for a peer; the tick boundary is the one of its first
preamble chip. -/
def Block.timingReply (b : Block) : Block :=
  match b.time.peers.find? (fun e => e.2.echo.isSome) with
  | some (peer, pt) =>
    let heard := Tab.get 0 b.mac.heardOn peer - 1
    let band := bits heard 2 1
    if b.mayTransmit = false then b
    else if b.forbidden band then (b.modPeer peer (fun p => { p with echo := none })).slotLost
    else b.readyTiming peer (heard % 4) band 2 (pt.echo.getD 0) 0
  | none => b

/-- Two instants lie within 1 ms of each other (R226). -/
def within1ms (a c : Int) : Bool := decide (a - c ≤ 65536 * 1000000 ∧ c - a ≤ 65536 * 1000000)

/-- A restored time of the peer lies within 1 ms of what the node predicted (R226): its own reading, with the coarse estimate
until the first step (R286). -/
def Block.predicted (b : Block) (restored own : Int) : Bool := within1ms restored (own + b.time.coarse)

/-- A change of the band in use limits the fall of the bound (R237). -/
def Block.bandChange (b : Block) (band : Nat) : Block :=
  if b.time.lastMeas.isSome ∧ b.get R.TIM_STAT_BAND ≠ band then b.startDecay (b.tc band) else b

/-- No two-way exchange is possible: the node may not transmit in its timing band (R215, R244). -/
def Block.twoWayShut (b : Block) : Bool := b.mode == 7 || b.forbidden b.timingBand

/-- One-way measurements are used (R215, R235). -/
def Block.oneWayOpen (b : Block) : Bool := b.timState == 3 || (b.timState == 2 && b.twoWayShut)

/-- A one-way measurement (R235): a frame of the timing parent on a link whose model is valid, its transmit time as a
function of when it must have left. -/
def Block.oneWay (b : Block) (d : Delivered) (sent : Rat → Rat) (locked : Bool) (parentBound : Nat) : Block :=
  match b.calIndex (b.euiOf d.hdr.src) d.port d.band, d.time.stamp with
  | some i, some trx =>
    let c := b.calRec i
    match c.model with
    | some m =>
      if b.oneWayOpen = false ∨ c.tInvalid then b
      else
        let theta : Rat := sent (trx - ofPs m) + ofPs m - ofPs (c.asym : Rat) / 2 - trx
        if b.isOutlier theta c.sigma then b.count R.TIM_OUTLIER_COUNT R.TIM_TROUBLE_OUTLIER
        else
          let delta := match b.time.lastMeas with | some t => b.now - t | none => 0
          let b := b.bandChange d.band
          let b := (b.bump R.TIM_ONEWAY_COUNT).measured d.band theta locked true
          b.lineBound i delta parentBound true
    | none => b
  | _, _ => b

/-- A delivered BEACON of the timing parent as a one-way measurement (R235): it left at the parent's nearest tick boundary. -/
def Block.beaconOneWay (b : Block) (d : Delivered) : Block :=
  let pt := b.peerTime d.hdr.src
  if d.hdr.src = b.get R.TIM_PARENT_PARENT ∧ d.hdr.src ≠ 0 ∧ b.role ≠ 0 then
    b.oneWay d (fun t => (nearest (t / tickLen) : Rat) * tickLen) pt.locked pt.bound
  else b

/-- The parent's own pair for the exchange before a REQUEST (R225): `t4` is in the request's header. It enters the link's
record for reports, and steers nothing. -/
def Block.parentRecord (b : Block) (d : Delivered) (pt : PeerTime) (snrRev : Int) : Block :=
  match pt.sent with
  | none => b
  | some (t1, t2, t3) =>
    let t4 := unstamp64 d.hdr.timing b.now
    if !within1ms t2 t1 ∨ !within1ms t4 t3 then b
    else
      let (ci, b) := b.ensureCal (b.euiOf d.hdr.src) d.port d.band
      match ci with
      | none => b
      | some i =>
        let dd : Rat := (((t2 : Rat) - t1) + ((t4 : Rat) - t3)) / 2
        let delta := match (b.calRec i).recent with | e :: _ => b.now - e.1 * 65536 | [] => 0
        let b := (b.recordExchange i dd (sext 16 pt.rxSnr) snrRev d.time (modeProfile d.hdr.mode)).learn i
        let (u, b) := b.openSqrt (b.uLinkSquared (b.calRec i) delta false)
        b.modCal i (fun c => { c with uLink := u })

/-- A delivered REPLY of the parent (R225, R226): a two-way measurement where it completes an exchange, else at most a
one-way one. -/
def Block.replyRx (b : Block) (d : Delivered) (pl : List Byte) (pt : PeerTime) (snr : Nat) : Block :=
  let peer := d.hdr.src
  let flags := leAt pl 1 1
  let t3 := unstamp64 (leAt pl 4 8) b.netNow
  let (ci, b) := b.ensureCal (b.euiOf peer) d.port d.band
  match ci, d.time.stamp with
  | some i, some t4 =>
    let c := b.calRec i
    let t2 := unstamp64 d.hdr.timing b.netNow
    match pt.t1 with
    | some t1 =>
      if leAt pl 2 2 ≠ pt.seq ∨ flags.testBit 2 ∨ !b.predicted t2 t1 ∨ !b.predicted t3 t4 then
        b.oneWay d (fun _ => t3) (flags.testBit 0) (leAt pl 12 4)
      else
        let a := ofPs (c.asym : Rat)
        let theta : Rat := (((t2 : Rat) - t1) - ((t4 : Rat) - t3) - a) / 2
        let dd : Rat := (((t2 : Rat) - t1) + ((t4 : Rat) - t3)) / 2
        if b.isOutlier theta c.sigma then b.count R.TIM_OUTLIER_COUNT R.TIM_TROUBLE_OUTLIER
        else
          let delta := match b.time.lastMeas with | some t => b.now - t | none => 0
          let b := (b.bandChange d.band).bump R.TIM_EXCH_OK_COUNT
          let b := b.recordExchange i dd (sext 16 snr) (sext 16 (leAt pl 16 2)) d.time (modeProfile d.hdr.mode)
          let b := b.learn i
          let b := b.measured d.band theta (flags.testBit 0) false
          (b.lineBound i delta (leAt pl 12 4) false).modPeer peer (fun p => { p with t1 := none })
    | none => b.oneWay d (fun _ => t3) (flags.testBit 0) (leAt pl 12 4)
  | _, _ => b

/-- TIMING_RX (R222–R226, R233–R236): the first delivered TIMING frame is opened; a request is kept for its reply, a reply
completes an exchange, and in ONE_WAY a parent's frame gives a one-way measurement. -/
def Block.timingRx (b : Block) : Block :=
  match b.takeDelivered (fun d => d.hdr.ftype == 4) with
  | none => b
  | some (d, b) =>
    match d.parts with
    | [] => b
    | part :: _ =>
      match b.openPart d.hdr part false with
      | (none, b) => b
      | (some (pl, tag), b) =>
        let peer := d.hdr.src
        let (dup, b) := b.dupCheck peer 1 part.ctr part.epoch tag true
        match dup with
        | .duplicate => b.bump R.MAC_DUP_COUNT
        | .replay => b.count R.MAC_REPLAY_COUNT R.MAC_TROUBLE_REPLAY
        | _ =>
          let b := b.markDelivered peer 1 part.ctr
          let subtype := leAt pl 0 1
          let flags := leAt pl 1 1
          if pl.length ≠ 24 ∨ (subtype ≠ 1 ∧ subtype ≠ 2) ∨ stamp64Ok (leAt pl 4 8) = false ∨ stamp64Ok d.hdr.timing = false then
            b.bump R.TIM_UNDEF_COUNT
          else
            let snr := unsext 16 (nearest ((d.snr : Rat) / 64))
            let pt := b.peerTime peer
            let mark := if subtype = 1 then some (unstamp64 (leAt pl 4 8) b.netNow) else pt.mark
            let b := b.modPeer peer (fun p => { p with
              lastRx := d.time.stamp, rxSnr := snr, fpOffset := d.time.fpOffset, bound := leAt pl 12 4,
              locked := flags.testBit 0, mark := mark })
            let parent := b.get R.TIM_PARENT_PARENT
            let isParent := decide (peer = parent ∧ parent ≠ 0 ∧ b.role ≠ 0)
            let b := if isParent then
                let b := { b with time := { b.time with parentFlags := flags } }
                let b := (b.set R.TIM_UTC_UTC_OFFSET (leAt pl 20 2)).set R.TIM_UTC_LEAP61 (leAt pl 19 1 % 2)
                (b.set R.TIM_UTC_LEAP59 (leAt pl 19 1 / 2 % 2)).showTime
              else b
            if subtype = 1 then
              let b := b.modPeer peer (fun p => { p with echo := some (leAt pl 2 2), sent := none })
              if flags.testBit 2 then b else b.parentRecord d pt (sext 16 (leAt pl 16 2))
            else if isParent then b.replyRx d pl pt snr
            else b

/-- The 64-byte calibration record of R234. -/
def CalRec.encode (c : CalRec) : List Byte :=
  let body := leBytes c.peer 8 ++ leBytes (c.port + 4 * c.band) 1 ++ leBytes c.mode 1 ++ leBytes 0 2 ++ leBytes c.d0 4 ++
    leBytes (unsext 32 c.alpha) 4 ++ leBytes (unsext 16 c.t0) 2 ++ leBytes c.tSpread 2 ++ leBytes (unsext 32 c.asym) 4 ++
    leBytes c.asymUnc 4 ++ leBytes (unsext 32 c.residMean) 4 ++ leBytes c.residSd 4 ++ leBytes c.updated 8 ++ leBytes 0 12
  body ++ leBytes (crc32 body) 4

/-- Learned values and residual statistics reach NAND (R234): CAL_RECORD_SAVE and TIM_CMD CAL_SAVE. -/
def Block.calSave (b : Block) : Block :=
  let cal := b.time.cal.map (fun e => (e.1, { e.2 with updated := timeSec b.now % 2 ^ 48 }))
  { b with time := { b.time with cal := cal, calSaved := cal } }

/-- EVENT_EDGE (R75, R242): a rising edge on an input at `edge` on the own time scale. -/
def Block.eventEdge (b : Block) (n edge : Nat) : Block :=
  if 4 ≤ n ∨ b.bit R.TIM_EVT_EN n = false ∨ b.mode < 2 ∨ b.mode = 9 ∨ b.modl.resetN = false then b
  else
    let last := Tab.get 0 b.time.evtLast n
    let b := { b with time := { b.time with evtLast := Tab.set 0 b.time.evtLast n (edge + 1) } }
    if last ≠ 0 ∧ edge + 1 < last + 100 * 65536 then b.count R.TIM_EVT_DISCARD_COUNT R.TIM_TROUBLE_EVT_DISCARD
    else
      let seq := (Tab.get 0 b.time.evtSeq n + 1) % 65536
      let b := { b with time := { b.time with evtSeq := Tab.set 0 b.time.evtSeq n seq } }
      let at' : Int := (edge : Int) - b.sget (R.TIM_EVT_DELAY n) * 65536 / 1000
      let t := at'.toNat
      let s := b.timState
      let flags := n + (if s ≤ 1 then 4 else 0) + (if s = 4 then 8 else 0)
      let b := b.set (R.TIM_EVT_LAST n)
        (timeFrac t + 2 ^ 16 * seq + 2 ^ 32 * timeNs t + 2 ^ 64 * (timeSec t % 2 ^ 48) + 2 ^ 112 * flags)
      let b := b.bump R.TIM_EVT_COUNT
      b.put ctxTime (leAt b.timingSeg 0x38 2) 0 0 (leBytes (stamp96 t) 12 ++ leBytes flags 1 ++ leBytes 0 1 ++ leBytes seq 2)

/-- OUTPUT_ENABLE (R69, R241). -/
def Block.outputEnable (b : Block) : Block := if b.outputsOk then b.set R.TIM_STAT_OUT_ACTIVE 1 else b

/-- OUTPUT_SQUELCH (R241): high impedance while the bound exceeds SQUELCH_BOUND; back once it has fallen to half. -/
def Block.outputSquelch (b : Block) : Block :=
  let lim := b.get R.TIM_SQUELCH * 1000
  let e := b.get R.TIM_BOUND
  if lim ≠ 0 ∧ lim < e ∧ b.flag R.TIM_STAT_SQUELCHED = false then
    ((b.set R.TIM_STAT_SQUELCHED 1).outputsOff).stick R.TIM_TROUBLE_SQUELCH
  else if b.flag R.TIM_STAT_SQUELCHED ∧ (lim = 0 ∨ 2 * e ≤ lim) then (b.set R.TIM_STAT_SQUELCHED 0).outputEnable
  else b

/-- The portState field of a host port (R250). -/
def ptpStateField (j : Nat) : Field :=
  match j with
  | 0 => R.TIM_PTP_STAT_STATE_J1
  | 1 => R.TIM_PTP_STAT_STATE_J2
  | _ => R.TIM_PTP_STAT_STATE_J3

/-- The PTP role of a port (R249). -/
def Block.ptpRole (b : Block) (j : Nat) : Nat := leAt b.timingSeg (0x40 + 16 * j) 1

/-- The master's time less the own, in 2⁻¹⁶ ns, from the times `t1` and `t2` of a Sync message and the round trip, both as read
at the SFP+ host interface or the MDI; INGRESS and EGRESS of TIM_PTP_LAT move them to the transceiver's far side (R211). -/
def Block.ptpOffset (b : Block) (j : Nat) (t1 t2 trip : Int) : Rat :=
  let lat (f : Field) : Rat := (b.get f : Rat) * 65536 / 10
  let i := lat (R.TIM_PTP_LAT_INGRESS j)
  let e := lat (R.TIM_PTP_LAT_EGRESS j)
  (t1 : Rat) - ((t2 : Rat) - i) + ((trip : Rat) - i - e) / 2

/-- PTP_MESSAGE_RX (R211, R217, R246): the clock's new portState and, at the coordinator's source port, the measurement that the
message completes: the times of the Sync message and the round trip. -/
def Block.ptpRx (b : Block) (j state : Nat) (sync : Option (Int × Int × Int)) (inaccuracy : Option Nat) : Block :=
  if 3 ≤ j ∨ b.ptpRole j = 0 ∨ b.mode < 3 ∨ b.mode = 9 then b
  else
    let b := b.set (ptpStateField j) state
    let b : Block := match inaccuracy with
      | some v => { b with time := { b.time with ptpInacc := v } }
      | none => b
    match sync with
    | none => b
    | some (t1, t2, trip) =>
      if b.role = 0 ∧ b.get R.TIM_SRC_CFG_SRC = 1 ∧ b.get R.TIM_SRC_CFG_PTP_SRC_PORT = j then
        let d := b.ptpOffset j t1 t2 trip
        let b : Block := { b with time := { b.time with ptpTime := some d.floor } }
        b.sourceMeasured d
      else b

/-- clockAccuracy (R247): the smallest enumeration of IEEE 1588-2019 not less than TIM_BOUND, in ps. -/
def ptpAccuracy (bound : Nat) : Nat :=
  let l : List (Nat × Nat) := [(1, 0x17), (3, 0x18), (10, 0x19), (25, 0x1A), (100, 0x1B), (250, 0x1C), (1000, 0x1D),
    (2500, 0x1E), (10000, 0x1F), (25000, 0x20), (100000, 0x21), (250000, 0x22), (1000000, 0x23), (2500000, 0x24),
    (10000000, 0x25), (25000000, 0x26), (100000000, 0x27), (250000000, 0x28), (1000000000, 0x29), (2500000000, 0x2A)]
  match l.find? (fun e => decide (bound ≤ e.1)) with
  | some e => e.2
  | none => if bound = 0xFFFFFFFF then 0xFE else 0x2B

/-- PTP_INTERVAL_TX (R246, R247): a master port sends what it advertises; under C37.238 also totalTimeInaccuracy, the received
value plus TIM_BOUND rounded up to 1 ns. -/
def Block.ptpTx (b : Block) (j : Nat) : Block :=
  if j < 3 ∧ b.ptpRole j ≠ 0 ∧ 3 ≤ b.mode ∧ b.mode ≠ 9 then
    let b := b.showTime
    let cc := b.clockClass
    let seg := b.timingSeg
    let o := 0x40 + 16 * j
    let inacc := if leAt seg (o + 1) 1 = 2 then some (b.time.ptpInacc + ceilDiv (b.get R.TIM_BOUND) 1000) else none
    b.emit (.ptp j cc (ptpAccuracy (b.get R.TIM_BOUND)) (b.get R.TIM_UTC_UTC_OFFSET) (cc == 6 || cc == 7)
      (cc == 13 || cc == 14 || cc == 58) (b.flag R.TIM_UTC_LEAP61) (b.flag R.TIM_UTC_LEAP59) (leAt seg (o + 8) 1)
      (leAt seg (o + 9) 1) inacc)
  else b

end Sys2Proof.Machine
end

