-- ==== Sys2Proof/Machine/Grid.lean ====
section
/-! DEFINITION. The mains grid (R43–R47, R251–R253, R256): the coordinator's grid values, anchors, the slot in force, the
step of the tick grid (R35, R44). -/

namespace Sys2Proof.Machine

/-- Bytes of a slot map as its rows: byte k of a row holds the Band H role in bits 3–0 and the Band L role in bits 7–4
(R254). The register word of a band's roles (R288). -/
def rowWord (band : Nat) (row : List Byte) : Nat :=
  (row.zipIdx.map (fun e => bits e.1.toNat (4 * band) 4 * 2 ^ (4 * e.2))).sum

/-- The map is put in force: its rows, MAP_LEN (R256). -/
def Block.adoptMap (b : Block) (m : List Byte) : Block :=
  if m.isEmpty then b
  else
    let n := m.length / 8
    let b := b.forEach (List.range 16) (fun b r =>
      let row := if r < n then slice m (8 * r) 8 else []
      (b.set (R.MAC_ROW_H r) (rowWord 0 row)).set (R.MAC_ROW_L r) (rowWord 1 row))
    b.set R.MAC_GRID_MAP_LEN n

/-- The rows in force as map bytes. -/
def Block.mapBytes (b : Block) : List Byte :=
  (List.range (b.get R.MAC_GRID_MAP_LEN)).flatMap (fun r =>
    (List.range 8).map (fun k => BitVec.ofNat 8 (bits (b.get (R.MAC_ROW_H r)) (4 * k) 4 + 16 * bits (b.get (R.MAC_ROW_L r)) (4 * k) 4)))

/-- The revolution count of half-cycle index `j` under grid values (R251). -/
def GridVals.revAt (g : GridVals) (j : Nat) : Nat := (g.rev + j / 2) % 2 ^ 32

/-- The anchor tick that ends the half-cycle with index `j` (R45): that of the values in force, or of the next ones where they
take over with it (R252). -/
def GridUnit.endAnchor (u : GridUnit) (g : GridVals) (j : Nat) : Nat :=
  let rev := g.revAt (j + 1)
  match u.next with
  | some n => if serialAbove 32 n.rev rev then g.anchor (j + 1)
      else n.anchor (2 * ((rev + 2 ^ 32 - n.rev) % 2 ^ 32) + (j + 1) % 2)
  | none => g.anchor (j + 1)

/-- GLB_GRID.N is the distance of the half-cycle's two anchors in ticks (R45). -/
def Block.showLength (b : Block) : Block := b.set R.GLB_GRID_N (b.grid.nextAnchor - b.grid.anchor)

/-- The anchors of the half-cycle with index `j` under the values in force. -/
def Block.setAnchors (b : Block) (g : GridVals) (j : Nat) : Block :=
  { b with grid := { b.grid with anchor := g.anchor j, nextAnchor := b.grid.endAnchor g j } }

/-- GLB_GRID and GLB_REV follow the half-cycle (R45, R46, R48). -/
def Block.showGrid (b : Block) : Block :=
  match b.grid.cur with
  | none => b
  | some g =>
    let j := b.grid.half
    let b := (b.set R.GLB_REV (g.revAt j)).set R.GLB_GRID_HALF (j % 2)
    (b.showLength.set R.GLB_GRID_SLOT 0).showNppGrid

/-- The slot of the current tick (R45): slot k starts floor(k × N / 8) ticks after the anchor. -/
def Block.showSlot (b : Block) : Block :=
  let n := b.get R.GLB_GRID_N
  if n = 0 then b
  else
    let off := b.tick - b.grid.anchor
    b.set R.GLB_GRID_SLOT (((List.range 8).filter (fun k => k * n / 8 ≤ off)).length - 1)

/-- The grid's record after a change. -/
def Block.setGrid (b : Block) (g : GridUnit) : Block := { b with grid := g }

/-- The spur's latest filtered Z and T of L1 (R252); none before it tracks. T is quantised as the beacon carries it
(R254). -/
def Block.spurZT (b : Block) : Option (Nat × Nat) × Block :=
  let p := b.phase 0
  if p.acq = 2 then
    let (t, b) := b.quot p.t.toNat 1024
    (some (p.z.toNat, t * 1024), b)
  else (none, b)

/-- Z moved by whole periods to the crossing nearest an instant (R252). -/
def projectTo (z t target : Nat) : Nat :=
  if t = 0 then z
  else
    let k : Int := (2 * ((target : Int) - z) + t) / (2 * (t : Int))
    (z + k * t).toNat

/-- `a` moved by `step` towards `c`, not beyond it. -/
def towards (a c step : Nat) : Nat := if a < c then min c (a + step) else max c (a - step)

/-- The first anchors of two instants differ by at most one tick. -/
def anchorNear (a c : Nat) : Bool :=
  decide (tickAtOrAfter a ≤ tickAtOrAfter c + 1 ∧ tickAtOrAfter c ≤ tickAtOrAfter a + 1)

/-- 1 µs and 40 µs in 2⁻¹⁶ ns (R252). -/
def oneUs : Nat := 1000 * 65536

/-- The coordinator forms the values of the next period when a period begins (R252), or continues the last ones while the
grid is free (R47). -/
def Block.formNext (b : Block) (g : GridVals) (bp : Nat) : Block :=
  let pred := g.z + bp * g.t
  let rev := (g.rev + bp) % 2 ^ 32
  let free := b.flag R.GLB_GRID_GRID_FREE && decide (b.grid.valid < 2)
  let (zt, b) := b.spurZT
  let (v, b) : GridVals × Block := match zt, free with
    | some (z, t), false =>
      let p := projectTo z t pred
      if anchorNear p pred ∧ t ≤ g.t + oneUs ∧ g.t ≤ t + oneUs then (⟨rev, p, t⟩, b)
      else (⟨rev, towards pred p (40 * oneUs), towards g.t t oneUs⟩, b)
    | _, _ => (⟨rev, pred, g.t⟩, b)
  b.setGrid { b.grid with
    next := some v
    flagFree := zt.isSome && !free && b.flag R.GLB_GRID_GRID_FREE }

/-- Values for a new period come into force (R251, R252, R256), with the map that goes with them. -/
def Block.adoptNext (b : Block) (g : GridVals) (j : Nat) : Block :=
  let b := b.adoptMap b.grid.nextMap
  let b := b.set R.MAC_PERIOD_REV g.rev
  let b := if b.role = 0 ∨ b.grid.nextBp = 0 then b
    else (b.set R.MAC_GRID_BP_CYCLES b.grid.nextBp).set R.MAC_GRID_MAP_SEQ b.grid.nextSeq
  let b := b.setGrid { b.grid with cur := some g, next := none, half := j, nextMap := [] }
  let b := if b.grid.flagFree then b.set R.GLB_GRID_GRID_FREE 0 else b
  b.showRunMax

/-- The first period of the coordinator begins (R251): its revolution count is 0 after a power-on reset, otherwise the
first of the old count's periods that begins after every revolution passed since the kept anchor. -/
def Block.firstPeriod (b : Block) : Block :=
  let (zt, b) := b.spurZT
  match zt with
  | none => b
  | some (z, t) =>
    let bp := max 1 (leAt b.macRole 1 1)
    let rev := match b.grid.keptAnchor with
      | none => 0
      | some k =>
        let passed := ceilDiv (b.now - k) t
        (b.get R.MAC_PERIOD_REV + bp * ceilDiv passed bp) % 2 ^ 32
    let ahead := if b.now ≤ z then 0 else ceilDiv (b.now - z) t
    let b := (b.set R.MAC_GRID_BP_CYCLES bp)
    let map := if b.get R.MAC_GRID_MAP_LEN = 0 then
        slice b.macRole 0x20 (8 * leAt b.macRole 3 1) else []
    let b := b.adoptMap map
    let v : GridVals := ⟨rev, z + ahead * t, t⟩
    let b := b.setGrid { b.grid with
      fullEvery := max 1 (leAt b.macRole 2 1)
      periodIndex := 0
      keptAnchor := some (v.anchor 0 * tickLen) }
    (((b.adoptNext v 0).formNext v bp).setAnchors v 0).showGrid

/-- A period of the coordinator begins (R251, R252). -/
def Block.beginPeriod (b : Block) (g : GridVals) : Block :=
  let b := b.setGrid { b.grid with
    periodIndex := b.grid.periodIndex + 1
    keptAnchor := some (g.anchor 0 * tickLen) }
  let b := b.set R.MAC_GRID_BP_CYCLES (max 1 (leAt b.macRole 1 1))
  b.formNext g (b.get R.MAC_GRID_BP_CYCLES)

/-- The half-cycle that follows the current one (R45, R252, R253). -/
def Block.nextHalf (b : Block) (g : GridVals) : Block :=
  let j := b.grid.half + 1
  let rev := g.revAt j
  let due := match b.grid.next with
    | some n => if serialAbove 32 n.rev rev then none else some n
    | none => none
  let b := match due with
    | some n =>
      let j' := 2 * ((rev + 2 ^ 32 - n.rev) % 2 ^ 32) + j % 2
      let b := b.adoptNext n j'
      if b.role = 0 ∧ j' = 0 then b.beginPeriod n else b
    | none => b.setGrid { b.grid with half := j }
  match b.grid.cur with
  | some g => (b.setAnchors g b.grid.half).showGrid
  | none => b

/-- The next anchor of the grid in force has been reached (R45). -/
def Block.anchorDue (b : Block) : Bool := decide (b.grid.anchor + b.get R.GLB_GRID_N ≤ b.tick)

/-- An anchor tick starts a half-cycle (HALF_CYCLE_ANCHOR, R45, R251). The coordinator's first anchor starts its first
period; another node starts with the values that its first full beacon gave it (R256, R286). -/
def Block.halfCycleAnchor (b : Block) : Block :=
  if b.mode < 3 ∨ b.mode = 9 ∨ b.mode = 11 then b
  else match b.grid.cur with
    | some g => if b.anchorDue then b.nextHalf g else b
    | none =>
      if b.role = 0 then (if b.flag R.GLB_TICK_STAT_GRID_ALIGNED then b.firstPeriod else b)
      else match b.grid.next with
        | some n => if n.anchor 0 ≤ b.tick then ((b.adoptNext n 0).setAnchors n 0).showGrid else b
        | none => b

/-- The coordinator's anchors continue at the last valid T (R47). -/
def Block.gridFree (b : Block) : Block :=
  if b.role = 0 ∧ b.grid.cur.isSome then
    (b.set R.GLB_GRID_GRID_FREE 1).setGrid { b.grid with valid := 0, flagFree := false }
  else b

/-- A crossing of L1 at the coordinator has gone through the filter (R47): `before` is the phase before it. Valid crossings
are counted while the grid is free; a frequency outside 45–66 Hz frees it. -/
def Block.noteCrossing (b : Block) (before : SpurPhase) : Block :=
  let p := b.phase 0
  let accepted := before.acq == 2 && p.acq == 2 && p.rejects == 0
  let inRange := decide (p.t * 45 ≤ 1000000000 * 65536 ∧ 1000000000 * 65536 ≤ p.t * 66)
  if accepted && inRange then b.setGrid { b.grid with valid := b.grid.valid + 1 }
  else
    let b := b.setGrid { b.grid with valid := 0 }
    if accepted then b.gridFree else b

/-- SPUR_CROSSING (R47, R141, R142): a sign change of phase `k` (0 L1, 1 L2, 2 L3) in its samples at 1.6 MS/s, in 0.1 V; the
first sample past it is at `mid`, at network time `time` in 2⁻¹⁶ ns. A rising crossing enters the filter; anything else has no
effect. -/
def Block.crossing (b : Block) (k : Nat) (volts : List Int) (mid time : Nat) : Block :=
  if 3 ≤ k ∨ b.mode < 2 ∨ b.mode = 9 ∨ isCrossing volts mid = false then b
  else
    match fitZero volts mid with
    | none => b
    | some z =>
      let before := b.phase 0
      let (m, b) := b.crossingTime time z
      let b' := spurCrossing k m b
      if k = 0 ∧ b.role = 0 ∧ 3 ≤ b.mode ∧ b.mode ≠ 9 then b'.noteCrossing before else b'

/-- A tick number moved by `d`. -/
def moveTick (d : Int) (t : Nat) : Nat := (t + d).toNat

/-- The tick numbers that the power manager, the slices and the trouble block hold move with the tick counter (R35). -/
def Block.moveTicks1 (b : Block) (d : Int) : Block :=
  let p := b.power
  let reqs := p.txReqs.map (fun r => { r with deadline := r.deadline.map (moveTick d) })
  { b with
    fabric := { b.fabric with fillTag := ((b.fabric.fillTag + d) % 65536).toNat }
    power := { p with
      txReqs := reqs
      grants := p.grants.map (fun g => (moveTick d g.1, g.2))
      sliceReset := p.sliceReset.map (fun s => { s with startTick := moveTick d s.startTick, releaseTick := moveTick d s.releaseTick })
      modeTick := moveTick d p.modeTick }
    slices := b.slices.map (fun e => (e.1, { e.2 with spareLoad := e.2.spareLoad.map (fun l => (l.1, moveTick d l.2)) }))
    trouble := { b.trouble with
      windows := b.trouble.windows.map (fun w => { w with openTick := moveTick d w.openTick })
      scrubTick := moveTick d b.trouble.scrubTick } }

/-- The job of the image loader moves with the tick counter. -/
def ImgJob.moveTick (d : Int) : ImgJob → ImgJob
  | .reloadPending s t => .reloadPending s (Sys2Proof.Machine.moveTick d t)
  | .reloadRunning s t f => .reloadRunning s (Sys2Proof.Machine.moveTick d t) f
  | j => j

/-- The tick numbers that the PHY, the MAC and the mesh hold move with the tick counter. -/
def Block.moveTicks2 (b : Block) (d : Int) : Block :=
  let m := b.mac
  let fr := fun (f : TxFrame) => { f with after := moveTick d f.after }
  { b with
    image := { b.image with job := b.image.job.moveTick d }
    front := { b.front with
      chains := b.front.chains.map (fun c => (c.1, { c.2 with quietTo := (c.2.quietTo + d * tickTime 1).toNat })) }
    phy := { b.phy with
      tx := b.phy.tx.map (fun t => { t with endTick := moveTick d t.endTick })
      rx := b.phy.rx.map (fun r => { r with segEnd := moveTick d r.segEnd })
      delivered := b.phy.delivered.map (fun t => { t with tick := moveTick d t.tick }) }
    mac := { m with
      order := m.order.map fr
      ready := m.ready.map fr
      access := m.access.map (fun a => { a with
        busyUntil := moveTick d a.busyUntil, runFrom := a.runFrom.map (moveTick d) })
      childHold := m.childHold.map (fun e => (e.1, max 1 (moveTick d e.2)))
      candidates := m.candidates.map (fun c => { c with again := moveTick d c.again })
      waiting := m.waiting.map (fun w => { w with doneTick := moveTick d w.doneTick })
      charged := m.charged.map (fun c => (c.1, moveTick d c.2.1, c.2.2))
      heardTick := m.heardTick.map (fun e => (e.1, max 1 (moveTick d e.2)))
      holdUntil := m.holdUntil.map (moveTick d) }
    custody := { b.custody with
      chans := b.custody.chans.map (fun e => (e.1, { e.2 with
        ackTick := moveTick d e.2.ackTick, receiptTick := moveTick d e.2.receiptTick
        part := e.2.part.map (fun p => { p with tick := moveTick d p.tick }) }))
      regc := { b.custody.regc with ackTick := moveTick d b.custody.regc.ackTick } }
    sensor := { b.sensor with
      scanTick := b.sensor.scanTick.map (moveTick d), impTick := b.sensor.impTick.map (moveTick d)
      begin := moveTick d b.sensor.begin }
    sec := { b.sec with
      joiners := b.sec.joiners.map (fun j => { j with since := moveTick d j.since })
      advanceTick := moveTick d b.sec.advanceTick, switchTick := b.sec.switchTick.map (moveTick d) }
    truing := { b.truing with
      blocks := b.truing.blocks.map (fun e => (e.1, { e.2 with doneTick := e.2.doneTick.map (moveTick d) })) }
    serial := b.serial.map (fun p => { p with first := moveTick d p.first })
    mesh := { b.mesh with
      lastReport := b.mesh.lastReport.map (moveTick d)
      lastRecompute := b.mesh.lastRecompute.map (moveTick d)
      lastTree := b.mesh.lastTree.map (moveTick d) } }

/-- Grid values moved by a step of network time (R44). -/
def GridVals.move (d : Int) (g : GridVals) : GridVals := { g with z := (g.z + d).toNat }

/-- Held and published anchors move with a step of network time (R44), and are rounded anew to tick boundaries. -/
def Block.moveGrid (b : Block) (d : Int) : Block :=
  let g := b.grid
  let b := b.setGrid { g with
    cur := g.cur.map (GridVals.move d)
    next := g.next.map (GridVals.move d)
    keptAnchor := g.keptAnchor.map (fun k => (k + d).toNat) }
  match b.grid.cur with
  | some v => (b.setAnchors v g.half).showLength
  | none => b

/-- The time scale takes a value in 2⁻¹⁶ ns, and no step waits any more. A node that follows a parent keeps the time since its
last resynchronisation. -/
def Block.setScale (b : Block) (t : Nat) : Block :=
  let since := b.sinceResync
  let b : Block := { b with time := { b.time with scale := t * 2 ^ 38, step := none, aligned := true, coarse := 0 } }
  if b.role = 0 then b
  else { b.set R.MAC_LAST_RESYNC (stamp64 (t - since * 65536)) with mac := { b.mac with preNs := none } }

/-- What the time unit keeps in network time moves with its step, so that intervals stay as they were (DEDUCED, assumption 132);
an offset shrinks by it. -/
def Block.moveTime (b : Block) (d : Int) : Block :=
  let t := b.time
  let ns (n : Nat) : Nat := (((n * 65536 : Nat) : Int) + d).toNat / 65536
  { b with serial := b.serial.map (fun p => { p with unmask := (p.unmask + d).toNat }), time := { t with
    lastTheta := t.lastTheta - d
    ptpTime := t.ptpTime.map (fun v => v - d)
    labelTheta := t.labelTheta.map (fun v => v - d)
    evtLast := t.evtLast.map (fun e => (e.1, max 1 ((e.2 : Int) + d).toNat))
    cal := t.cal.map (fun e => (e.1, { e.2 with
      recent := e.2.recent.map (fun x => (ns x.1, x.2))
      samples := e.2.samples.map (fun x => (ns x.1, x.2)) }))
    lastMeas := t.lastMeas.map (fun v => (v + d).toNat)
    holdStart := (t.holdStart + d).toNat
    decayStart := (t.decayStart + d).toNat
    peers := t.peers.map (fun p => (p.1, { p.2 with lastRx := none, t1 := none, mark := none, sent := none })) } }

/-- The step of R35 is permitted in this mode: M3, M4, M5, and M10 at the coordinator (R451). -/
def Block.stepAllowed (b : Block) : Bool :=
  b.mode == 3 || b.mode == 4 || b.mode == 5 || (b.mode == 10 && b.role == 0)

/-- A transmission of the node's own is due to start in the tick that begins (R35): a frame that is ready, or a transmit start
that waits for its enable. -/
def Block.txDue (b : Block) : Bool :=
  b.mac.ready.any (fun f => decide (f.after ≤ b.tick)) || b.power.txReqs.any (fun r => decide (r.deadline.getD 0 ≤ b.tick))

/-- The tick grid steps at a block boundary without a transmission of the node's own (GRID_STEP, R35, R44, R216, R220):
network time moves by the waiting step, the tick counter takes the network tick number of the boundary. -/
def Block.gridStep (b : Block) : Block :=
  match b.time.step with
  | none => b
  | some d =>
    if b.stepAllowed = false ∨ b.sending 0 ∨ b.sending 1 ∨ b.txDue ∨ b.tick % 25 ≠ 0 then b
    else
      let target := (b.now + d).toNat
      let n := 25 * ceilDiv target (25 * tickLen)
      let dt : Int := (n : Int) - b.tick
      let b := ((((b.moveTicks1 dt).moveTicks2 dt).moveTime d).moveGrid d).stepSpur d
      let b := (b.setScale (n * tickLen)).set R.GLB_TICK n
      let b := b.set R.GLB_TICK_STAT_GRID_ALIGNED 1
      let b := b.stick R.GLB_TICK_STAT_TICK_STEPPED
      let b := if b.timState = 0 then b.acquire else b
      let b := if b.role = 0 then b.sourceBound else b
      b.showSlot

end Sys2Proof.Machine
end

