-- ==== Sys2Proof/Machine/Truing.lean ====
section
/-! DEFINITION. Truing (R422–R436): due blocks, passes, results and how corrections are applied. -/

namespace Sys2Proof.Machine

/-- A truing block. -/
def Block.tru (b : Block) (i : Nat) : TruBlock := Tab.get {} b.truing.blocks i

/-- Change a truing block. -/
def Block.modTru (b : Block) (i : Nat) (f : TruBlock → TruBlock) : Block :=
  { b with truing := { b.truing with blocks := Tab.modify {} b.truing.blocks i f } }

/-- A block that the image uses (R425): ports and bands that BAND_PLAN disables are never due; block 7 is never run; the
sensor front end is used when a channel is configured. -/
def Block.truUsed (b : Block) (i : Nat) : Bool :=
  if i < 4 then (b.profile 0 i).isSome
  else if i < 7 then (b.profile 1 (i - 4)).isSome
  else if i = 7 then false
  else if i = 10 then (List.range 8).any (fun c => b.get (R.SEN_CH_CFG_KIND c) != 0)
  else decide (i < 10)

/-- A running block (R436): one of 0–9, or block 10 beside them. -/
def Block.truRunning (b : Block) (i : Nat) : Bool :=
  if i = 10 then b.flag R.TRU_STAT_SENSOR_RUNNING else b.get R.TRU_STAT_ACTIVE == i

/-- A trigger makes the blocks of a mask due, but for those due or running already (R425); they are one set (R434). -/
def Block.makeDue (b : Block) (mask : Nat) : Block :=
  let l := (List.range 11).filter (fun i => mask.testBit i && b.truUsed i && !b.bit R.TRU_DUE i && !b.truRunning i)
  let m := (l.map (fun i => 2 ^ i)).sum
  if l.isEmpty then b
  else
    let b := b.set R.TRU_DUE (b.get R.TRU_DUE ||| m)
    { b with truing := { b.truing with sets := b.truing.sets ++ [m] } }

/-- Entry to M3: every block that the image uses becomes due (R425). -/
def Block.truingEntry (b : Block) : Block := b.makeDue 0x7FF

/-- The modes in which a block runs (R426). -/
def Block.truMode (b : Block) (i : Nat) : Bool :=
  b.mode == 3 || b.mode == 4 || b.mode == 5 || b.mode == 6 || b.mode == 7 || b.mode == 10 || (b.mode == 8 && i == 10) ||
    b.mode == 11

/-- Link records and timing figures of a port and band are held or released (R206, R248, R433): those of the peers last
heard there, and the calibration records of the port. -/
def Block.markStale (b : Block) (band p : Nat) (v : Bool) : Block :=
  let links := b.phy.links.map (fun e =>
    if e.1 % 2 = band ∧ (band = 0 ∨ b.heardPort (e.1 / 2) band = p + 1) then (e.1, { e.2 with stale := v }) else e)
  let cal := b.time.cal.map (fun e => if e.2.port = p ∧ e.2.band = band then (e.1, { e.2 with stale := v }) else e)
  { b with phy := { b.phy with links := links }, time := { b.time with cal := cal } }

/-- The image's SENSOR_PLAN (R403). -/
def Block.sensorPlan (b : Block) : List Byte := b.segment 9

/-- The temperature of the links bound to sampled channels (R401), in 0.01 °C; an invalid one leaves the last valid. -/
def Block.bindTemps (b : Block) : Block :=
  let l := b.sensorPlan
  b.forEach (List.range (leAt l 1 1)) (fun b i =>
    let o := 0x120 + 16 * i
    let chans := (List.range 8).filter (fun c => (leAt l (o + 9) 1).testBit c)
    let age := leAt l 8 1
    let bad := chans.any (fun c =>
      let e := Tab.get (0, 255) b.sensor.last c
      (e.2 &&& 0x0F) != 0 ||
        (age != 0 && decide (unstamp96 (b.get (R.SEN_LAST c) % 2 ^ 96) + age * 1000000000 * 65536 < b.now)))
    let bound := b.calIndex (leAt l o 8) (leAt l (o + 8) 1 % 4) (leAt l (o + 8) 1 / 4 % 2)
    if chans.isEmpty ∨ bad then
      match bound with
      | some k => b.modCal k (fun r => { r with tInvalid := true })
      | none => b
    else
      let (t, b) := b.openRound (((chans.map (fun c => (Tab.get (0, 255) b.sensor.last c).1)).sum : Rat) / (10 * chans.length))
      match bound with
      | some k => b.modCal k (fun r => { r with temp := some t, tInvalid := false })
      | none => b)

/-- The sensor front end enters tool rest (R400): the running scan ends without a sample, and the last records carry STALE. -/
def Block.sensorRest (b : Block) : Block :=
  let l := b.sensor.last.map (fun e => (e.1, (e.2.1, e.2.2 ||| 8)))
  let b := b.forEach (l.map (fun e => e.1)) (fun b c => b.set (R.SEN_LAST c) (b.get (R.SEN_LAST c) ||| 2 ^ 107))
  let b := (b.set R.SEN_STAT_STALE 1).set R.SEN_STAT_SCANNING 0
  ({ b with sensor := { b.sensor with chan := none, last := l } }).bindTemps

/-- The sensor front end leaves tool rest: scans resume at the next tick boundary (R400). -/
def Block.sensorResume (b : Block) : Block :=
  let b := b.set R.SEN_STAT_STALE 0
  { b with sensor := { b.sensor with restart := true } }

/-- A block enters or leaves the tool rest state (R433). -/
def Block.truRest (b : Block) (i : Nat) (v : Bool) : Block :=
  let b := b.modTru i (fun t => { t with stale := v })
  if i < 4 then b.markStale 0 i v
  else if i < 7 then b.markStale 1 (i - 4) v
  else if i = 10 then (if v then b.sensorRest else b.sensorResume)
  else b

/-- Block `i` starts: it is due no more, and runs. Blocks 8 to 10 rest from their start (R433). -/
def Block.truStart (b : Block) (i : Nat) : Block :=
  let b := b.clear R.TRU_DUE (2 ^ i)
  let b := if i = 10 then b.set R.TRU_STAT_SENSOR_RUNNING 1 else b.set R.TRU_STAT_ACTIVE i
  let b := b.modTru i (fun t => { t with passes := 0 })
  if i < 7 then b else b.truRest i true

/-- Blocks start that may (R426): the lowest due one of 0–9 when none runs, and block 10. In M11 only TRU_CMD makes a
block due. -/
def Block.truDispatch (b : Block) : Block :=
  let b := if b.get R.TRU_STAT_ACTIVE = 15 then
      match (List.range 10).find? (fun i => b.bit R.TRU_DUE i && b.truMode i) with
      | some i => b.truStart i
      | none => b
    else b
  if b.bit R.TRU_DUE 10 ∧ b.truMode 10 ∧ b.flag R.TRU_STAT_SENSOR_RUNNING = false then b.truStart 10 else b

/-- The port and band of a port block. -/
def truPort (i : Nat) : Nat × Nat := if i < 4 then (0, i) else (1, i - 4)

/-- A reception on a port and band is lost to a pass (R428). -/
def Block.truSuppress (b : Block) (band p : Nat) : Block :=
  match b.reception band p with
  | some r => (b.abortReception r).bump R.PHY_ABORT_OTHER_COUNT
  | none => b

/-- The ticks of a pass and the passes of a port block (R427). -/
def passTicks (band : Nat) : Nat := if band = 0 then 1 else 20
def passCount (band : Nat) : Nat := if band = 0 then 16 else 5

/-- The run of a pass from now on lies wholly within the current slot and leaves its first and last ticks free (R427). -/
def Block.passFits (b : Block) (band : Nat) : Bool :=
  match b.grid.cur with
  | some g =>
    let j := b.grid.half
    let k := b.get R.GLB_GRID_SLOT
    decide (g.slotStart j k < b.tick ∧ b.tick + passTicks band < (if k = 7 then g.slotStart (j + 1) 0 else g.slotStart j (k + 1)))
  | none => false

/-- A transmission of the node's own in a band is due to start before a pass would end. -/
def Block.sendsSoon (b : Block) (band : Nat) : Bool :=
  b.sending band || b.mac.ready.any (fun f => f.band == band && decide (f.after < b.tick + passTicks band))

/-- A pass is admitted where it falls (R427); in a CONTENTION slot carrier sense was clear for the two units before it. -/
def Block.truEligible (b : Block) (band : Nat) : Bool :=
  let quiet := (List.range 16).any (fun r => decide (r < b.get R.MAC_GRID_MAP_LEN) &&
    (List.range 8).any (fun k => bits (if band = 0 then b.get (R.MAC_ROW_H r) else b.get (R.MAC_ROW_L r)) (4 * k) 4 == 5))
  let role := b.roleAt band b.grid.half (b.get R.GLB_GRID_SLOT)
  !(b.flag R.TRU_CFG_QUIET_HOLD && b.quietFor band 0) &&
    (b.mode == 3 || !b.hasGrid || (b.passFits band && (role == 5 ||
      (!quiet && b.flag R.TRU_CFG_USE_CONTENTION && role == 0 && decide (2 ≤ (b.access band).clearUnits) && !b.sendsSoon band))))

/-- The receive samples of a port are suppressed for a pass, and carrier sense treats the port as busy (R428). -/
def Block.passQuiet (b : Block) (band p : Nat) : Block :=
  let until' := b.tick + passTicks band
  let b := b.modChain band p (fun c => { c with quietTo := max c.quietTo (tickTime until') })
  b.modAccess band (fun a => { a with busyUntil := max a.busyUntil until' })

/-- TRUING_PASS (R426–R428, R435): `block`, where it is the running port block, makes a pass where it may; a pass with an invalid buffer is
repeated. The block rests from its first pass on (R433). -/
def Block.truingPass (b : Block) (block : Nat) (valid : Bool) : Block :=
  let b := b.truDispatch
  let i := b.get R.TRU_STAT_ACTIVE
  if 7 ≤ i ∨ i ≠ block then b
  else
    let pb := truPort i
    if b.truEligible pb.1 then
      let b := (b.truSuppress pb.1 pb.2).passQuiet pb.1 pb.2
      let b := if (b.tru i).stale then b else b.truRest i true
      if valid then b.modTru i (fun t => { t with passes := t.passes + 1 }) else b
    else b

/-- Two integers differ by more than a limit. -/
def farApart (a c : Int) (lim : Nat) : Bool := decide ((lim : Int) < a - c ∨ (lim : Int) < c - a)

/-- A result differs too far from the corrections in force (R429). -/
def truFar (i : Nat) (r t : TruSet) : Bool :=
  let d := if i < 4 then 500 else 20000
  decide (i < 7) && (farApart r.txDelay t.txDelay d || farApart r.rxDelay t.rxDelay d || farApart r.gainRx t.gainRx 300 ||
    farApart r.gainTx t.gainTx 300)

/-- A second result agrees with the rejected one (R429). -/
def truAgrees (i : Nat) (r t : TruSet) : Bool :=
  let d := if i < 4 then 10 else 1000
  !(farApart r.txDelay t.txDelay d || farApart r.rxDelay t.rxDelay d || farApart r.gainRx t.gainRx 10 ||
    farApart r.gainTx t.gainTx 10)

/-- SLEWING follows the blocks (R430). -/
def Block.showSlew (b : Block) : Block :=
  b.setFlag R.TRU_STAT_SLEWING (b.truing.blocks.any (fun e => { e.2.inForce with ampl := 0 } != { e.2.target with ampl := 0 }))

/-- A block of each set completes; sets that are done count (R434). -/
def Block.truCount (b : Block) (i : Nat) : Block :=
  let sets := b.truing.sets.map (fun m => if m.testBit i then m - 2 ^ i else m)
  let done := (sets.filter (fun m => m == 0)).length
  let b := { b with truing := { b.truing with sets := sets.filter (fun m => m != 0) } }
  if done = 0 then b else (b.add R.TRU_COUNT done).set R.TRU_LAST_TIME (stampWords b.now)

/-- Block `i` completes with the corrections given in force and as its target (R434). -/
def Block.truDone (b : Block) (i : Nat) (inForce target : TruSet) : Block :=
  let b := b.modTru i (fun t => { t with
    target := target
    inForce := inForce
    rejected := none
    count := (t.count + 1) % 2 ^ 32
    lastTime := stampWords b.now
    doneTick := some b.tick
    temp := b.sget R.PWR_SUPPLY_BASE_TEMP
    slew := 0 })
  (b.truCount i).showSlew

/-- A result is accepted: the target, and whole in M3 and for block 10 (R430). -/
def Block.truAccept (b : Block) (i : Nat) (r : TruSet) : Block :=
  b.truDone i (if b.mode = 3 ∨ i = 10 then r else { (b.tru i).inForce with ampl := r.ampl }) r

/-- The coupler of a port is open (R117, R423, R469): the port fails at once; its corrections stay as they are. -/
def Block.truOpen (b : Block) (i : Nat) (ampl : Int) : Block :=
  let t := (b.tru i)
  let p := (truPort i).2
  let b := ((b.set (R.LFE_STAT_COUPLER_OPEN p) 1).stick (R.LFE_TROUBLE_COUPLER_OPEN p)).failPort p
  b.truDone i { t.inForce with ampl := ampl } { t.target with ampl := ampl }

/-- A running block stops running. -/
def Block.truStop (b : Block) (i : Nat) : Block :=
  let b := if i = 10 then b.set R.TRU_STAT_SENSOR_RUNNING 0 else b.set R.TRU_STAT_ACTIVE 15
  b.truRest i false

/-- The corrections that block `i` computes from its measurements (R422, R423, R436): the transmit delay is the loop delay less
the receive-reference delay, both delays are referred to X1, and the loop amplitude to its factory value. -/
def truKeep (i : Nat) (r : TruReport) : TruSet :=
  let f := Config.truFactory i
  if i < 7 then
    { txDelay := r.loop - r.rx + f.1, rxDelay := r.rx + f.2.1, gainRx := r.gainRx, gainTx := r.gainTx, ampl := r.ampl - f.2.2
      offRx := r.offRx, offTx := r.offTx, skew := r.skew }
  else if i < 10 then { rxDelay := r.rx }
  else { sensor := r.sensor }

/-- Block `i` is due or runs. -/
def Block.truPending (b : Block) (i : Nat) : Bool := b.bit R.TRU_DUE i || b.truRunning i

/-- A returned port whose blocks have completed rejoins the transmit sets (R470). -/
def Block.truRejoin (b : Block) : Block :=
  { b with front := { b.front with
      returning := b.front.returning.filter (fun p => b.truPending p || b.truPending (p + 4)) } }

/-- TRUING_BLOCK_COMPLETE (R423, R427, R429, R434): a result of the running, or a due, block; a port block has made all its passes. -/
def Block.truingComplete (b : Block) (i : Nat) (r : TruReport) : Block :=
  let b := b.truDispatch
  if 11 ≤ i ∨ b.truRunning i = false ∨ (i < 7 ∧ (b.tru i).passes < passCount (truPort i).1) then b
  else
    let b := b.truStop i
    let t := b.tru i
    let s := truKeep i r
    let b := if i < 7 ∧ -200 ≤ s.ampl then b.set (R.LFE_STAT_COUPLER_OPEN (truPort i).2) 0 else b
    let b :=
      if i < 7 ∧ s.ampl < -200 then b.truOpen i s.ampl
      else if truFar i s t.inForce then
        match t.rejected with
        | some x =>
          if truAgrees i s x then (b.truAccept i s).stick R.TRU_TROUBLE_LARGE_STEP
          else ((b.modTru i (fun t => { t with rejected := some s })).count R.TRU_REJECT_COUNT R.TRU_TROUBLE_REJECTED).raise R.TRU_DUE i
        | none => ((b.modTru i (fun t => { t with rejected := some s })).count R.TRU_REJECT_COUNT R.TRU_TROUBLE_REJECTED).raise R.TRU_DUE i
      else b.truAccept i s
    b.truDispatch.truRejoin

/-- A running block is abandoned (R435); it stays due unless a reset causes it. -/
def Block.truAbandon (b : Block) (i : Nat) (reset : Bool) : Block :=
  if b.truRunning i then
    let b := (b.truStop i).count R.TRU_ABORT_COUNT R.TRU_TROUBLE_ABORTED
    if reset then b else b.raise R.TRU_DUE i
  else b

/-- Entry to M1, M8 (`keepSensor`) or M9, or a reset (R435). -/
def Block.abandonTruing (b : Block) (keepSensor reset : Bool) : Block :=
  let b := b.forEach (List.range 10) (fun b i => b.truAbandon i reset)
  let b := if keepSensor then b else b.truAbandon 10 reset
  if reset then { b with truing := { b.truing with sets := [] } } else b

/-- One value moves towards its target by at most `d`. -/
def slewTo (a t : Int) (d : Nat) : Int := if a < t then min t (a + d) else max t (a - d)

/-- A tick's slewing of block `i` (R430, R431): the receive gain by 0.1 dB and converter offsets by 1 LSB, delays and skew by 1 ps
a second; receive corrections hold while the AGC is frozen, transmit corrections while the port transmits. -/
def Block.slewBlock (b : Block) (i : Nat) : Block :=
  let t := b.tru i
  if t.inForce = t.target then b
  else
    let pb := truPort i
    let port := decide (i < 7)
    let frozen := port && b.frozen pb.1 pb.2
    let tx := port && b.phy.tx.any (fun x => x.frame.band == pb.1 && x.ports.contains pb.2 && decide (b.tick < x.endTick))
    let due := decide (24999 ≤ t.slew)
    let s := t.inForce
    let s := if frozen then s
      else { s with gainRx := slewTo s.gainRx t.target.gainRx 10, offRx := slewTo s.offRx t.target.offRx 1 }
    let s := if tx then s else { s with offTx := slewTo s.offTx t.target.offTx 1 }
    let s := if due && !frozen then
        { s with rxDelay := slewTo s.rxDelay t.target.rxDelay 1, skew := slewTo s.skew t.target.skew 1 }
      else s
    let s := if due && !tx then { s with txDelay := slewTo s.txDelay t.target.txDelay 1 } else s
    b.modTru i (fun t => { t with inForce := s, slew := if due then 0 else t.slew + 1 })

/-- Slewing at a tick boundary. -/
def Block.slewTick (b : Block) : Block :=
  if b.flag R.TRU_STAT_SLEWING then (b.forEach (b.truing.blocks.map (fun e => e.1)) Block.slewBlock).showSlew else b

/-- Transmit gain moves by 0.1 dB at a frame start (R121, R430). -/
def Block.slewTx (b : Block) (band : Nat) (ports : List Nat) : Block :=
  b.forEach ports (fun b p =>
    let i := if band = 0 then p else p + 4
    let t := b.tru i
    if t.inForce.gainTx = t.target.gainTx then b
    else b.modTru i (fun t => { t with inForce := { t.inForce with gainTx := slewTo t.inForce.gainTx t.target.gainTx 10 } }))

/-- TRU_CMD (R425, R426, R436): refused in M0 to M2, in M8 but for block 10 alone, and in M9. -/
def Block.truCmd (b : Block) (mask : Nat) : Option Block :=
  let m := mask % 2048
  if b.mode ≤ 2 ∨ b.mode = 9 ∨ (b.mode = 8 ∧ m ≠ 1024) then none
  else some ((b.makeDue (m &&& 0x77F)).truDispatch)

/-- TRU_PERIOD_EXPIRY (R425): TRU_PERIOD seconds have passed since the block last completed. -/
def Block.truPeriod (b : Block) (i : Nat) : Block :=
  let elapsed := (b.tru i).doneTick.any (fun t => decide (t + 25000 * b.get R.TRU_CFG_PERIOD ≤ b.tick))
  if b.get R.TRU_CFG_PERIOD = 0 ∨ elapsed = false ∨ b.mode < 3 ∨ b.mode = 9 ∨ b.mode = 11 ∨ 11 ≤ i then b else (b.makeDue (2 ^ i)).truDispatch

/-- TEMP_DELTA_TRIGGER (R425): the baseplate temperature, in 0.1 °C, lies more than TEMP_DELTA from that at the
block's last completion. -/
def Block.truTemp (b : Block) (i : Nat) (temp : Int) : Block :=
  let b := b.sset R.PWR_SUPPLY_BASE_TEMP temp
  let d := b.get R.TRU_CFG_TEMP_DELTA
  if d = 0 ∨ b.mode < 3 ∨ b.mode = 9 ∨ b.mode = 11 ∨ 11 ≤ i ∨ (b.tru i).doneTick.isNone ∨
      farApart temp (b.tru i).temp d = false then b
  else (b.makeDue (2 ^ i)).truDispatch

end Sys2Proof.Machine
end

