-- ==== Sys2Proof/Machine/Serial.lean ====
section
/-! DEFINITION. The serial ports (R405–R421). -/

namespace Sys2Proof.Machine

/-- A serial port. -/
def Block.ser (b : Block) (k : Nat) : SerialPort := b.serial.getD k {}

/-- Change a serial port. -/
def Block.modSer (b : Block) (k : Nat) (f : SerialPort → SerialPort) : Block :=
  { b with serial := b.serial.modify k f }

/-- The console of M11 (R419): its fixed settings stand in place of the registers. -/
def Block.console (b : Block) : Bool := b.mode == 11

/-- The format in force (R406, R416, R419). -/
def Block.serFormat (b : Block) (k : Nat) : SerFormat :=
  if b.console then {}
  else ⟨b.get (R.SER_CFG_DATA k) + 5, b.get (R.SER_CFG_PARITY k), b.flag (R.SER_CFG_STOP2 k), b.flag (R.SER_CFG_SYNC k)⟩

/-- SER_CFG is about to be written: a character whose start edge came before keeps the format of now (R406). -/
def Block.serKeepFormat (b : Block) (k : Nat) : Block := b.modSer k (fun p => { p with prior := b.serFormat k })

/-- Bits from the start edge on to the centre of the first stop bit, in halves (R406, R407), or of the whole character
without start and stop bits (R416). -/
def SerFormat.halves (f : SerFormat) : Nat :=
  let n := f.data + (if f.parity = 0 then 0 else 1)
  if f.sync then 2 * n else 2 * n + 3

/-- A character's bits from start to stop (R409). -/
def SerFormat.length (f : SerFormat) : Nat := 1 + f.data + (if f.parity = 0 then 0 else 1) + (if f.stop2 then 2 else 1)

/-- Half a bit time in 2⁻¹⁶ ns (R405, R416): BAUD_INC, or SCK_DIV; the console's 115,200 baud (R419). -/
def Block.halfBit (b : Block) (k : Nat) (f : SerFormat) : Nat :=
  if f.sync then b.get (R.SER_SYNC_SCK_DIV k) * 327680000 / 6144
  else 2 ^ 33 * 10000 / (if b.console then 301990 else max 1 (b.get (R.SER_BAUD_INC k)))

/-- The port operates (R419). -/
def Block.serOn (b : Block) (k : Nat) : Bool :=
  decide (k < 2) && ((decide (3 ≤ b.mode ∧ b.mode ≤ 10) && b.mode != 9) || (b.console && k == 0))

/-- Receiver and transmitter are enabled. -/
def Block.serRxOn (b : Block) (k : Nat) : Bool := b.serOn k && (b.console || b.flag (R.SER_CFG_RX_EN k))
def Block.serTxOn (b : Block) (k : Nat) : Bool := b.serOn k && (b.console || b.flag (R.SER_CFG_TX_EN k))

/-- Queue mode of the receiver and the transmitter (R410, R411, R414). -/
def Block.serRxQ (b : Block) (k : Nat) : Bool := !b.console && b.flag (R.SER_RX_PKT_RX_Q_EN k)
def Block.serTxQ (b : Block) (k : Nat) : Bool := !b.console && b.flag (R.SER_TX_Q_TX_Q_EN k)

/-- A character that completes now and began at `edge` is masked (R415): with ECHO_MASK set, DE is high, or was within one bit
time before the edge. -/
def Block.serMasked (b : Block) (k edge : Nat) : Bool :=
  (b.console || b.flag (R.SER_CFG_ECHO_MASK k)) && ((b.ser k).de || decide (edge < (b.ser k).unmask))

/-- The largest number of characters of a packet (R413). -/
def Block.pktChars (b : Block) (k : Nat) : Nat := max 1 (b.get (R.SER_RX_PKT_PKT_CHARS k))

/-- The parity bit of data under a rule (R406): even, odd, mark, space. -/
def parityBit (rule data : Nat) : Bool :=
  let odd := ((List.range 9).filter (fun i => data.testBit i)).length % 2 == 1
  match rule with
  | 1 => odd
  | 2 => !odd
  | 3 => true
  | _ => false

/-- Entry layout of R412. -/
def serEntry (data : Nat) (pe fe brk wake : Bool) : Nat :=
  data + (if pe then 512 else 0) + (if fe then 1024 else 0) + (if brk then 2048 else 0) + (if wake then 4096 else 0)

/-- The open packet is closed and committed (R412, R413). -/
def Block.serClose (b : Block) (k cause : Nat) : Block :=
  let p := b.ser k
  if p.entries.isEmpty then b
  else
    let b' := b.modSer k (fun p => { p with entries := [] })
    match b.openOf (ctxSerial k) with
    | some _ =>
      b'.eop (ctxSerial k) (leBytes (stamp96 p.stamp) 12 ++ leBytes p.entries.length 1 ++ leBytes cause 1 ++ [0, 0] ++
        p.entries.flatMap (fun e => leBytes e 2))
    | none => b'

/-- A character is lost (R410, R411). -/
def Block.serOverrun (b : Block) (k : Nat) : Block :=
  let b := (b.set (R.SER_STAT_OE k) 1).bump (R.SER_OVERRUN_COUNT k)
  b.modSer k (fun p => { p with lost := true })

/-- An entry with LOST_BEFORE where characters were lost before it. -/
def SerialPort.tag (p : SerialPort) (e : Nat) : Nat := if p.lost then e ||| 8192 else e

/-- The entry is counted and its flags shown (R421). -/
def Block.serDelivered (b : Block) (k e : Nat) : Block :=
  let b := b.bump (R.SER_RX_CHAR_COUNT k)
  let b := if e.testBit 10 then (b.set (R.SER_STAT_FE k) 1).bump (R.SER_FRAMING_COUNT k) else b
  let b := if e.testBit 9 then (b.set (R.SER_STAT_PE k) 1).bump (R.SER_PARITY_COUNT k) else b
  if e.testBit 11 then b.bump (R.SER_BREAK_COUNT k) else b

/-- The mover stores an entry in the open packet (R334, R411–R413). -/
def Block.serMove (b : Block) (k e stamp : Nat) : Block :=
  let fresh := (b.ser k).entries.isEmpty || (b.openOf (ctxSerial k)).isNone
  let b := if fresh then
      let b := b.modSer k (fun p => { p with entries := [], stamp := stamp, first := b.tick })
      b.sop (ctxSerial k) (b.get (R.SER_RX_PKT_RX_QUEUE k)) (16 + 2 * b.pktChars k) 0 0
    else b
  if (b.openOf (ctxSerial k)).isNone then b.serOverrun k
  else
    let e := (b.ser k).tag e
    let b := (b.serDelivered k e).set (R.SER_DATA k) e
    let b := b.modSer k (fun p => { p with entries := p.entries ++ [e], lost := false })
    if e.testBit 11 then b.serClose k 3
    else if b.pktChars k ≤ (b.ser k).entries.length then b.serClose k 1
    else b

/-- The holding register takes an entry (R410). -/
def Block.serHold (b : Block) (k e : Nat) : Block :=
  if (b.ser k).hold.isSome then b.serOverrun k
  else
    let e := (b.ser k).tag e
    let b := ((b.serDelivered k e).set (R.SER_DATA k) e).set (R.SER_STAT_RX_FULL k) 1
    b.modSer k (fun p => { p with hold := some e, lost := false })

/-- A completed character is delivered (R410, R411). -/
def Block.serDeliver (b : Block) (k e stamp : Nat) : Block := if b.serRxQ k then b.serMove k e stamp else b.serHold k e

/-- The format that a received character has (R406). -/
def Block.rxFormat (b : Block) (k : Nat) (r : CharReport) : SerFormat := if r.early then (b.ser k).prior else b.serFormat k

/-- Bit `i` of a character: the majority of its three samples (R407), or the sample on the rising edge (R416). -/
def CharReport.bit (r : CharReport) (sync : Bool) (i : Nat) : Bool :=
  if sync then (r.bits.getD i []).getD 0 false
  else decide (2 ≤ (((r.bits.getD i []).take 3).filter (fun x => x)).length)

/-- The start edge was a glitch (R407): the start bit's majority is high. -/
def CharReport.glitch (r : CharReport) (f : SerFormat) : Bool := !f.sync && r.bit false 0

/-- The entry of a received character (R407, R408, R416): the start bit, the data bits from bit 0 on, the parity bit where the
format has one, and the first stop bit. -/
def SerFormat.decode (f : SerFormat) (r : CharReport) (wake : Bool) : Nat :=
  let o := if f.sync then 0 else 1
  let data := boolsToNat ((List.range f.data).map (fun i => r.bit f.sync (i + o)))
  let parity := r.bit f.sync (f.data + o)
  let stop := r.bit f.sync (f.data + (if f.parity = 0 then 1 else 2))
  let brk := !f.sync && decide (data = 0) && !stop && (f.parity == 0 || !parity)
  let pe := !brk && f.parity != 0 && parity != parityBit f.parity data
  serEntry data pe (!f.sync && !stop) brk wake

/-- The levels of a character as it is sent (R406, R416), or of a break: low for one character time plus one bit (R414). -/
def SerFormat.levels (f : SerFormat) (e : Nat) : List Bool :=
  let data := (List.range f.data).map (fun i => e.testBit i)
  let par := if f.parity = 0 then [] else [parityBit f.parity (e % 2 ^ f.data)]
  if e.testBit 9 then List.replicate (f.length + 1) false
  else if f.sync then data ++ par
  else [false] ++ data ++ par ++ (if f.stop2 then [true, true] else [true])

/-- The wake buffer takes an entry (R417). -/
def Block.serWakeStore (b : Block) (k e stamp : Nat) : Block :=
  let p := b.ser k
  if 32 ≤ p.wake.length then
    ((b.modSer k (fun p => { p with lost := true })).bump (R.SER_OVERRUN_COUNT k)).stick (R.SER_TROUBLE_WAKE_LOST k)
  else b.modSer k (fun q => { q with wake := q.wake ++ [(q.tag e, stamp)], lost := false })

/-- A BREAK suppresses the receiver until RXD is high again (R408). -/
def Block.serSuppress (b : Block) (k e : Nat) : Block := if e.testBit 11 then b.set (R.SER_STAT_SUPPRESSED k) 1 else b

/-- The start-edge detector of a port is armed in M9 (R68, R408, R417). -/
def Block.serArmed (b : Block) (k : Nat) : Bool :=
  b.mode == 9 && decide (k < 2) && b.flag (R.SER_CFG_WAKE_EN k) && !b.flag (R.SER_STAT_SUPPRESSED k)

/-- CHARACTER_RECEIVED (R407–R412); in M9, once it is being left, into the wake buffer (R417). A synchronous port receives
while it shifts a character (R416). -/
def Block.charReceived (b : Block) (k : Nat) (r : CharReport) : Block :=
  let f := b.rxFormat k r
  let e := f.decode r false
  if b.serArmed k ∧ b.power.wake then
    if r.glitch f then b.bump (R.SER_GLITCH_COUNT k) else (b.serWakeStore k e r.stamp).serSuppress k e
  else if b.serRxOn k = false ∨ b.serMasked k (r.stamp - f.halves * b.halfBit k f) ∨ b.flag (R.SER_STAT_SUPPRESSED k) ∨
      (f.sync ∧ (b.ser k).txCur.isNone) then b
  else
    let b := b.set (R.SER_STAT_IDLE k) 0
    if r.glitch f then b.bump (R.SER_GLITCH_COUNT k) else (b.serDeliver k e r.stamp).serSuppress k e

/-- SERIAL_WAKE (R417, R418): a falling edge in M9; a delivered character requests the exit from Standby. Above 250,000 baud the
start bit is not validated. -/
def Block.serialWake (b : Block) (k : Nat) (r : CharReport) : Block :=
  let fast := decide (655360 < b.get (R.SER_BAUD_INC k))
  if b.serArmed k = false then b
  else if r.glitch (b.rxFormat k r) ∧ fast = false then b.bump (R.SER_GLITCH_COUNT k)
  else
    let e := (b.rxFormat k r).decode r fast
    let b := (b.serWakeStore k e r.stamp).serSuppress k e
    { b with power := { b.power with wake := true } }

/-- The wake buffer's characters are passed on in order once mover and queue manager run again (R417). -/
def Block.serDrainWake (b : Block) (k : Nat) : Block :=
  let l := (b.ser k).wake
  let b := b.modSer k (fun p => { p with wake := [] })
  b.forEach l (fun b e => b.serDeliver k e.1 e.2)

/-- LINE_STUCK (R408). -/
def Block.lineStuck (b : Block) (k : Nat) : Block :=
  if k < 2 ∧ b.flag (R.SER_STAT_SUPPRESSED k) ∧ b.get (R.SER_DE_STUCK_CHARS k) ≠ 0 then
    b.count (R.SER_LINE_STUCK_COUNT k) (R.SER_TROUBLE_LINE_STUCK k)
  else b

/-- LINE_IDLE (R409, R413). -/
def Block.lineIdle (b : Block) (k : Nat) : Block :=
  if b.serRxOn k ∧ b.flag (R.SER_STAT_IDLE k) = false then
    let b := b.set (R.SER_STAT_IDLE k) 1
    if b.serRxQ k ∧ b.flag (R.SER_RX_PKT_CLOSE_IDLE k) then b.serClose k 2 else b
  else b

/-- PACKET_AGE_EXPIRY (R413): PKT_TICKS ticks have passed since the first character. -/
def Block.serAge (b : Block) (k : Nat) : Block :=
  let n := b.get (R.SER_RX_AGE_PKT_TICKS k)
  if k < 2 ∧ n ≠ 0 ∧ (b.ser k).first + n ≤ b.tick then b.serClose k 4 else b

/-- SUPPRESSION_END (R408). -/
def Block.suppressionEnd (b : Block) (k : Nat) : Block := if k < 2 ∧ 2 ≤ b.mode then b.set (R.SER_STAT_SUPPRESSED k) 0 else b

/-- DE of a port, on X2 pin 13 or 19 (R415). -/
def Block.serDe (b : Block) (k : Nat) (v : Bool) : Block :=
  (b.modSer k (fun p => { p with de := v })).drive (if k = 0 then 13 else 19) v

/-- The next character for the shifter: the transmit holding register, or the next entry of the packets of TX_QUEUE. -/
def Block.serNext (fuel : Nat) (b : Block) (k : Nat) : Option Nat × Block :=
  match fuel with
  | 0 => (none, b)
  | fuel + 1 =>
    let p := b.ser k
    match p.txRest with
    | e :: l => (some e, b.modSer k (fun p => { p with txRest := l }))
    | [] =>
      match p.txHold with
      | some e => (some e, (b.modSer k (fun p => { p with txHold := none })).set (R.SER_STAT_TX_EMPTY k) 1)
      | none =>
        if b.serTxQ k then
          let n := b.get (R.SER_TX_Q_TX_QUEUE k)
          match (b.q n).pkts with
          | [] => (none, b)
          | q :: _ =>
            let l := (List.range (q.data.length / 2)).map (fun i => leAt q.data (2 * i) 2 % 1024)
            Block.serNext fuel ((b.popHead n).modSer k (fun p => { p with txRest := l })) k
        else (none, b)

/-- An idle transmitter starts with the next character, DE rising before it (R414, R415). -/
def Block.serStart (b : Block) (k : Nat) : Block :=
  if b.serTxOn k ∧ (b.ser k).txCur.isNone then
    match b.serNext 4097 k with
    | (some e, b) =>
      ((b.modSer k (fun p => { p with txCur := some e, txFormat := b.serFormat k, tail := false })).serDe k true).set (R.SER_STAT_TX_BUSY k) 1
    | (none, b) => b
  else b

/-- SER_TXD_WRITE (R414): [8:0] DATA, [9] BREAK. -/
def Block.serTxd (b : Block) (k v : Nat) : Block :=
  if 2 ≤ k then b
  else if (b.ser k).txHold.isSome ∨ b.serTxQ k then b.stick (R.SER_TROUBLE_TX_REFUSED k)
  else ((b.modSer k (fun p => { p with txHold := some (v % 1024) })).set (R.SER_STAT_TX_EMPTY k) 0).serStart k

/-- TX_CHARACTER_COMPLETE (R414, R415): the character went out where PIN_PLAN enables TXD (R419); the next one follows, or the
DE tail begins. -/
def Block.txCharComplete (b : Block) (k : Nat) : Block :=
  match (b.ser k).txCur with
  | none => b
  | some e =>
    let b := if (b.pinEntry (if k = 0 then 11 else 17)).testBit 0 then b.emit (.serial k ((b.ser k).txFormat.levels e)) else b
    let b := b.bump (R.SER_TX_CHAR_COUNT k)
    let b := (b.modSer k (fun p => { p with txCur := none })).serStart k
    if (b.ser k).txCur.isNone then b.modSer k (fun p => { p with tail := true }) else b

/-- DE_TAIL_END (R415), at network time `time`: the receiver is masked for one bit time more. -/
def Block.deTailEnd (b : Block) (k time : Nat) : Block :=
  if k < 2 ∧ (b.ser k).tail then
    let until' := time + 2 * b.halfBit k (b.ser k).txFormat
    ((b.modSer k (fun p => { p with tail := false, unmask := until' })).serDe k false).set (R.SER_STAT_TX_BUSY k) 0
  else b

/-- SER_STAT was read: the RSC sequence waits for SER_DATA (R8). -/
def Block.serStatRead (b : Block) (k : Nat) : Block := b.modSer k (fun p => { p with rsc := true })

/-- SER_DATA is read (SER_DATA_READ, R410, R421): after SER_STAT it clears FE, PE and OE; the holding register is free. -/
def Block.serDataRead (b : Block) (k : Nat) : Block :=
  if 2 ≤ k then b
  else
    let v := b.get (R.SER_DATA k)
    let b := if (b.ser k).rsc then ((b.set (R.SER_STAT_FE k) 0).set (R.SER_STAT_PE k) 0).set (R.SER_STAT_OE k) 0 else b
    let b := b.modSer k (fun p => { p with rsc := false, hold := none })
    { b.set (R.SER_STAT_RX_FULL k) 0 with readData := v }

/-- Entry to M9 or M1 is requested: open packets are committed (R413). -/
def Block.commitSerial (b : Block) : Block := (b.serClose 0 5).serClose 1 5

/-- The ports stop at a reset or at M1 entry (R414, R419): what was being sent or held is lost. -/
def Block.serReset (b : Block) : Block := { b with serial := [{}, {}] }

end Sys2Proof.Machine
end

