-- ==== Sys2Proof/Machine/Sensor.lean ====
section
/-! DEFINITION. The sensor inputs (R386–R404): scans, samples, ranges, faults, tone checks, bindings. -/

namespace Sys2Proof.Machine

/-- A field of channel `c` in SENSOR_PLAN. -/
def Block.chan (b : Block) (c off n : Nat) : Nat := leAt b.sensorPlan (0x20 + 32 * c + off) n

/-- Change the sensor unit. -/
def Block.setSensor (b : Block) (u : SensorUnit) : Block := { b with sensor := u }

/-- The front end converts (R386, R400): M4 to M8 and M10, and not while truing calibrates it. -/
def Block.converting (b : Block) : Bool :=
  (decide (4 ≤ b.mode ∧ b.mode ≤ 8) || b.mode == 10) && !b.flag R.SEN_STAT_STALE

/-- The enabled channels from `c` on (R389). -/
def Block.enabledFrom (b : Block) (c : Nat) : List Nat :=
  (List.range 8).filter (fun i => decide (c ≤ i) && b.get (R.SEN_CH_CFG_KIND i) != 0)

/-- SEN_STAT.OPEN follows the trips and the checks (R396, R397). -/
def Block.showOpen (b : Block) : Block := b.set R.SEN_STAT_OPEN (b.sensor.tripOpen ||| b.sensor.impOpen)

/-- A bit of a mask set or cleared. -/
def putBit (m i : Nat) (v : Bool) : Nat := if m.testBit i = v then m else if v then m + 2 ^ i else m - 2 ^ i

/-- The outcome of a tone check on channel `c` (R396): impedance in 10 Ω. -/
def Block.toneCheck (b : Block) (c imp : Nat) : Block :=
  let open' := decide (b.chan c 10 2 ≠ 0 ∧ b.chan c 10 2 < imp)
  let fail := !open' && decide (b.chan c 12 2 ≠ 0 ∧ b.chan c 12 2 < imp)
  let b := (b.bump R.SEN_IMP_CHECK_COUNT).usat (R.SEN_IMP c) imp
  let b := b.setSensor { b.sensor with impOpen := putBit b.sensor.impOpen c open' }
  let b := (b.set R.SEN_STAT_IMP_FAIL (putBit (b.get R.SEN_STAT_IMP_FAIL) c fail)).showOpen
  let b := if open' then b.stick R.SEN_TROUBLE_OPEN_SEEN c else b
  if fail then b.stick R.SEN_TROUBLE_IMP_FAIL_SEEN c else b

/-- A check falls due on a channel: at once, in the channel's next sample slot where a sample runs, or behind its first sample
after truing (R396, R402). -/
def Block.requestCheck (b : Block) (c imp : Nat) : Block :=
  if b.sensor.chan.isSome ∨ b.flag R.SEN_STAT_STALE then
    b.setSensor { b.sensor with checks := b.sensor.checks ++ [(c, imp, b.flag R.SEN_STAT_STALE)] }
  else b.toneCheck c imp

/-- IMP_CHECK_DUE (R396), IMP_PERIOD × 100 ms after the last one: the impedances, channel by channel, in 10 Ω. -/
def Block.impCheckDue (b : Block) (imps : List Nat) : Block :=
  if b.get R.SEN_IMP_PERIOD = 0 ∨ (b.converting || b.flag R.SEN_STAT_STALE && decide (4 ≤ b.mode)) = false ∨
      b.sensor.impTick.any (fun t => decide (b.tick < t + 2500 * b.get R.SEN_IMP_PERIOD)) then b
  else
    let b := b.setSensor { b.sensor with impTick := some b.tick }
    b.forEach (b.enabledFrom 0) (fun b c => b.requestCheck c (imps.getD c 0xFFFF))

/-- SEN_CMD IMP_CHECK (R396). -/
def Block.impCheckCmd (b : Block) (c imp : Nat) : Block :=
  if (b.converting || b.flag R.SEN_STAT_STALE && decide (4 ≤ b.mode)) ∧ b.get (R.SEN_CH_CFG_KIND (c % 8)) ≠ 0 then b.requestCheck (c % 8) imp else b

/-- A scan ends at tick `t` (R389, SEN_SCAN_TIME). -/
def Block.endScan (b : Block) (t : Nat) : Block :=
  let b := (b.set R.SEN_STAT_SCANNING 0).usat R.SEN_SCAN_TIME (t - b.sensor.scanTick.getD t)
  b.setSensor { b.sensor with chan := none }

/-- Ticks from the start of a sample to its first conversion (R390): 11 µs and the settling time, on to a tick boundary. -/
def settleTicks (settle : Nat) : Nat := ceilDiv (11 + 10 * settle) 40

/-- The sample of channel `i` begins at tick `t` under its control of now (R390, R402). -/
def Block.beginSample (b : Block) (i t : Nat) : Block :=
  b.setSensor { b.sensor with
    chan := some i
    begin := t
    clamped := (b.get R.SEN_STAT_CLAMP).testBit i
    range := b.get (R.SEN_CH_CTRL_RANGE i)
    rate := b.get (R.SEN_CH_CTRL_RATE i)
    avg := b.get (R.SEN_CH_CTRL_AVG i)
    settle := b.get (R.SEN_CH_CTRL_SETTLE i)
    auto := b.flag (R.SEN_CH_CTRL_AUTO i)
    burnout := b.flag (R.SEN_CH_CTRL_BURNOUT i)
    written := false }

/-- The first waiting check of channel `c` that is behind a sample, or not. -/
def Block.dueCheck (b : Block) (c : Nat) (behind : Bool) : Option (Nat × Nat × Bool) :=
  b.sensor.checks.find? (fun e => e.1 == c && e.2.2 == behind)

/-- A waiting check is made in a slot of its own, and the tick the slot that begins at `t` ends: the sequence of R390 and
4.096 ms of test tone (R396). -/
def Block.checkSlot (b : Block) (e : Nat × Nat × Bool) (t : Nat) : Block × Nat :=
  ((b.setSensor { b.sensor with checks := b.sensor.checks.erase e }).toneCheck e.1 e.2.1,
    t + settleTicks (b.get (R.SEN_CH_CTRL_SETTLE e.1)) + 103)

/-- The scan goes on at tick `t` with the channels `l`: a check takes the slot of its channel, else the channel's sample
begins, or the scan ends (R389, R396). -/
def Block.scanOn (b : Block) : List Nat → Nat → Block
  | [], t => b.endScan t
  | i :: l, t =>
    match b.dueCheck i false with
    | some e => (b.checkSlot e t).1.scanOn l (b.checkSlot e t).2
    | none => b.beginSample i t

/-- The sample of channel `c` ended, and the next slot begins at tick `t`: a check that follows this sample comes first
(R402). -/
def Block.scanAfter (b : Block) (c t : Nat) : Block :=
  match b.dueCheck c true with
  | some e => (b.checkSlot e t).1.scanOn (b.enabledFrom (c + 1)) (b.checkSlot e t).2
  | none => b.scanOn (b.enabledFrom (c + 1)) t

/-- A scan may start in this tick (R389): SEN_SCAN_PERIOD ms after the last one started. -/
def Block.scanDue (b : Block) : Bool :=
  b.sensor.scanTick.all (fun t => decide (t + 25 * b.get R.SEN_SCAN_PERIOD ≤ b.tick))

/-- SCAN_START (R389). -/
def Block.scanStart (b : Block) : Block :=
  if b.converting = false ∨ (b.enabledFrom 0).isEmpty ∨
      (b.sensor.restart = false ∧ (b.flag R.SEN_STAT_SCANNING ∨ b.scanDue = false)) then b
  else
    let b := b.set R.SEN_STAT_SCANNING 1
    (b.setSensor { b.sensor with scanTick := some b.tick, restart := false }).scanOn (b.enabledFrom 0) b.tick

/-- SEN_CMD RESTART_SCAN: the scan restarts at the next tick boundary (R404). -/
def Block.restartScan (b : Block) : Block := b.setSensor { b.sensor with restart := true }

/-- Full scale of a range in 0.1 µV (R388). -/
def fullScale (r : Nat) : Nat := 390625 * 4 ^ r

/-- Excitation currents in µA (R388). -/
def excUa (e : Nat) : Nat := match e with | 1 => 100 | 2 => 250 | 3 => 1000 | _ => 1

/-- The relative resistance of the elements of R388 at `t` (0.001 °C), by the Callendar–Van Dusen equation. Its
coefficient below 0 °C is IEC 60751's (PRESUMED, assumption 33). -/
def cvd (t : Int) : Rat :=
  let x : Rat := (t : Rat) / 1000
  let base := 1 + 39083 / 10000000 * x - 5775 / 10000000000 * x * x
  if 0 ≤ t then base else base - 4183 / 1000000000000000 * (x - 100) * x * x * x

/-- The largest temperature in 0.001 °C between two bounds at which the element has at most a relative resistance: `n`
halvings. -/
def cvdSearch (r : Rat) : Nat → Int → Int → Int
  | 0, lo, _ => lo
  | n + 1, lo, hi =>
    if hi ≤ lo + 1 then lo
    else
      let m := (lo + hi) / 2
      if cvd m ≤ r then cvdSearch r n m hi else cvdSearch r n lo m

/-- The temperature of a relative resistance in 0.001 °C, and whether it lies outside −200 to +850 °C. -/
def Block.rtdTemp (b : Block) (r : Rat) : (Int × Bool) × Block :=
  if r < cvd (-200000) then ((-200000, true), b)
  else if cvd 850000 < r then ((850000, true), b)
  else
    let t := cvdSearch r 21 (-200000) 850001
    if cvd t = r then ((t, false), b) else ((t + (if Config.roundUp b.freeCtr then 1 else 0), false), b.fresh.2)

/-- The mean of codes; none without any. -/
def meanCode (l : List Int) : Rat := if l.isEmpty then 0 else (l.sum : Rat) / l.length

/-- An overrange code (R393). -/
def overCode (c : Int) : Bool := decide (8388607 ≤ c ∨ c ≤ -8388607)

/-- The channel reads an RTD (R387), with three wires. -/
def Block.isRtd (b : Block) (c : Nat) : Bool := b.get (R.SEN_CH_CFG_KIND c) == 2 || b.get (R.SEN_CH_CFG_KIND c) == 3
def Block.threeWire (b : Block) (c : Nat) : Bool := b.isRtd c && b.get (R.SEN_CH_CFG_WIRES c) == 3

/-- A converter code as a voltage in 0.1 µV on the sample's range. -/
def Block.codeVolt (b : Block) (x : Rat) : Rat := x / 8388608 * fullScale b.sensor.range

/-- The relative resistance of an RTD from the codes of its two voltages (R387). -/
def Block.rtdRatio (b : Block) (c : Nat) (x x2 : Rat) : Rat :=
  let wires := b.get (R.SEN_CH_CFG_WIRES c)
  let i := excUa (b.get (R.SEN_CH_CFG_EXC c))
  let r0 : Rat := if b.get (R.SEN_CH_CFG_KIND c) = 2 then 100 else 1000
  let ohm : Rat := if wires = 3 then (b.codeVolt x - b.codeVolt x2) / 10 / i
    else if wires = 2 then b.codeVolt x / 10 / i - (b.chan c 8 2 : Rat) / 1000
    else b.codeVolt x / 10 / i
  ohm / r0

/-- A reading is overrange (R393): a conversion's code at full scale, or a resistance outside the element's range. -/
def Block.overReading (b : Block) (c : Nat) (x x2 : Int) : Bool :=
  overCode x || b.threeWire c && overCode x2 ||
    b.isRtd c && decide (b.rtdRatio c x x2 < cvd (-200000) ∨ cvd 850000 < b.rtdRatio c x x2)

/-- How many readings a sample takes of the converter's (R389, R393): AVG, or up to the first that is overrange; none where
the converter delivered neither. -/
def Block.readings (b : Block) (c : Nat) (r : SampleReport) : Option Nat :=
  let l := (List.range (min r.codes.length (max 1 b.sensor.avg))).map (fun k =>
    b.overReading c (r.codes.getD k 0) (r.codes2.getD k 0))
  match l.findIdx? id with
  | some k => some (k + 1)
  | none => if max 1 b.sensor.avg ≤ r.codes.length then some (max 1 b.sensor.avg) else none

/-- VALUE of a sample (R392) from the codes of its two voltages: voltages in 0.1 µV, temperatures in 0.001 °C, at the ends of
the element's range outside it (R393). -/
def Block.sampleValue (b : Block) (c : Nat) (x x2 : Rat) : Int × Block :=
  if b.isRtd c then
    let ((t, _), b) := b.rtdTemp (b.rtdRatio c x x2)
    (t, b)
  else if b.get (R.SEN_CH_CFG_KIND c) = 4 then
    b.openRound ((sext 32 (b.chan c 16 4) : Rat) * b.codeVolt x / 10000000 + sext 32 (b.chan c 20 4))
  else b.openRound (b.codeVolt x)

/-- Duration of a conversion in µs (R388): RATE. -/
def convUs (rate : Nat) : Nat := [100000, 50000, 20000, 10000, 4000, 2000, 1000, 500, 250].getD rate 250

/-- The tick of a sample's first conversion (R390). -/
def Block.firstConv (b : Block) : Nat := b.sensor.begin + settleTicks b.sensor.settle

/-- The µs that `n` readings take (R388, R389): two conversions each with three wires, but for a last one that its first
conversion ended. -/
def Block.convSpan (b : Block) (c n : Nat) (last : Int) : Nat :=
  convUs b.sensor.rate * (if b.threeWire c then 2 * n - (if overCode last then 1 else 0) else n)

/-- The timestamp of a sample (R391): network time at the centre of its conversions, in 2⁻¹⁶ ns. -/
def Block.centre (b : Block) (span : Nat) : Nat :=
  ((b.now : Int) - tickTime (b.tick - b.firstConv) + span * 500 * 65536).toNat

/-- The range of the next sample under AUTO (R394): a clamped sample counts as overrange (R395), and a range written since the
sample began stands (R402). -/
def Block.autorange (b : Block) (c : Nat) (ovr : Bool) (mean : Rat) : Block :=
  let r := b.sensor.range
  let m := if mean < 0 then -mean else mean
  let next := if ovr ∨ 8388608 * 9 < m * 10 then min 4 (r + 1) else if m * 5 < 8388608 then r - 1 else r
  if b.sensor.auto ∧ b.sensor.written = false ∧ next ≠ r then (b.set (R.SEN_CH_CTRL_RANGE c) next).bump R.SEN_RANGE_CHANGE_COUNT else b

/-- The 24-byte record of R392. -/
def sampleRecord (stamp c flags range count : Nat) (value raw : Int) : List Byte :=
  leBytes (stamp96 stamp) 12 ++ leBytes c 1 ++ leBytes flags 1 ++ leBytes range 1 ++ leBytes count 1 ++
    leBytes (unsext 32 value) 4 ++ leBytes (unsext 24 raw) 3 ++ [0]

/-- A sample is written (R392): SEN_LAST, the queue, the counters and sticky bits. -/
def Block.writeSample (b : Block) (c flags count : Nat) (value raw : Int) (stamp : Nat) : Block :=
  let rec24 := sampleRecord stamp c flags b.sensor.range count value raw
  let b := (b.set (R.SEN_LAST c) (leNum rec24)).bump R.SEN_SAMPLE_COUNT
  let b := if flags.testBit 0 then (b.bump R.SEN_OPEN_COUNT).stick R.SEN_TROUBLE_OPEN_SEEN c else b
  let b := if flags.testBit 1 then (b.bump R.SEN_OVERRANGE_COUNT).stick R.SEN_TROUBLE_OVERRANGE_SEEN c else b
  let b := b.setSensor { b.sensor with last := Tab.set (0, 255) b.sensor.last c (value, flags) }
  (b.put ctxSensor (leAt b.sensorPlan 4 2) 0 0 rec24).bindTemps

/-- The open bit of a channel's excitation loop or sense lead, by its last sample (R397, R398). -/
def Block.setTrip (b : Block) (c : Nat) (v : Bool) : Block :=
  (b.setSensor { b.sensor with tripOpen := putBit b.sensor.tripOpen c v }).showOpen

/-- The flags of a sample that the channel's state sets (R392, R395, R396): CLAMP, and what the last check found. -/
def Block.sampleFlags (b : Block) (c : Nat) : Nat :=
  (if b.sensor.impOpen.testBit c then 1 else 0) + (if b.sensor.clamped then 4 else 0) +
    (if (b.get R.SEN_STAT_IMP_FAIL).testBit c then 16 else 0)

/-- VALUE of a sample that took `n` readings (R392, R393): of their mean, or at the overrange one. The second voltage of a
3-wire reading that its first conversion ended is not measured: a free value. -/
def Block.endValue (b : Block) (c n : Nat) (r : SampleReport) : Int × Block :=
  let x := r.codes.getD (n - 1) 0
  if b.overReading c x (r.codes2.getD (n - 1) 0) then
    if b.threeWire c && overCode x then
      let (k, b) := b.fresh
      b.sampleValue c x (Config.freeValue k : Nat)
    else b.sampleValue c x (r.codes2.getD (n - 1) 0)
  else b.sampleValue c (meanCode (r.codes.take n)) (meanCode (r.codes2.take n))

/-- The sample of channel `c` that took `n` readings in `span` µs is written (R392, R393, R398), and the next slot begins at
the tick boundary after its last conversion. -/
def Block.endSample (b : Block) (c n span : Nat) (r : SampleReport) : Block :=
  let next := b.firstConv + ceilDiv span 40
  let stamp := b.centre span
  let mean := meanCode (r.codes.take n)
  let b := b.setTrip c (r.burnout && b.sensor.burnout)
  let open' := r.burnout && b.sensor.burnout || b.sensor.impOpen.testBit c
  let ovr := !open' && b.overReading c (r.codes.getD (n - 1) 0) (r.codes2.getD (n - 1) 0)
  let short := ovr || decide (n < max 1 b.sensor.avg)
  let flags := (b.sampleFlags c ||| (if open' then 1 else 0)) + (if ovr then 2 else 0) + (if short then 32 else 0)
  let (v, b) := b.endValue c n r
  let (raw, b) := b.openRound mean
  let b := b.writeSample c flags n (if open' then -2147483648 else v) raw stamp
  (b.autorange c (ovr || b.sensor.clamped) mean).scanAfter c next

/-- SAMPLE_COMPLETE (R389–R394, R398), once the last conversion has ended. -/
def Block.sampleComplete (b : Block) (r : SampleReport) : Block :=
  match b.sensor.chan with
  | none => b
  | some c =>
    match b.readings c r with
    | none => b
    | some n =>
      let span := b.convSpan c n (r.codes.getD (n - 1) 0)
      if b.converting = false ∨ b.tick < b.firstConv + ceilDiv span 40 then b else b.endSample c n span r

/-- COMPLIANCE_TRIP (R397, R402) on the channel in conversion: it is aborted, an OPEN sample without conversions is written, and the next slot
begins at the next tick boundary. Its STAMP and RAW are not stated: free values. -/
def Block.complianceTrip (b : Block) (chan : Nat) : Block :=
  match b.sensor.chan with
  | none => b
  | some c =>
    if c ≠ chan ∨ b.converting = false ∨ b.get (R.SEN_CH_CFG_EXC c) = 0 then b
    else
      let b := b.setTrip c true
      let (n, b) := b.fresh
      let (m, b) := b.fresh
      let b := b.writeSample c (b.sampleFlags c ||| 1) 0 (-2147483648) (Config.freeValue n) (Config.freeValue m)
      b.scanAfter c (b.tick + 1)

/-- CLAMP_ONSET (R395): the first event of a channel sets its sticky bit and counts. -/
def Block.clampOnset (b : Block) (c : Nat) : Block :=
  if 8 ≤ c then b
  else
    let b := if b.bit R.SEN_TROUBLE_CLAMP_SEEN c then b else b.bump R.SEN_CLAMP_COUNT
    let b := (b.raise R.SEN_STAT_CLAMP c).stick R.SEN_TROUBLE_CLAMP_SEEN c
    if b.sensor.chan = some c then b.setSensor { b.sensor with clamped := true } else b

/-- CLAMP_END (R395). -/
def Block.clampEnd (b : Block) (c : Nat) : Block := if c < 8 then b.clear R.SEN_STAT_CLAMP (2 ^ c) else b

/-- The conversion in progress is abandoned without a sample (R386, R400). -/
def Block.abandonScan (b : Block) : Block :=
  (b.setSensor { b.sensor with chan := none, scanTick := none }).set R.SEN_STAT_SCANNING 0

end Sys2Proof.Machine
end

