-- ==== Sys2Proof/Machine/Custody.lean ====
section
/-! DEFINITION. Custody and the Runudom host link (R345–R384), but for the register channel. -/

namespace Sys2Proof.Machine

/-- Cells of a message of `n` bytes with its journal prefix (R352). -/
def msgCost (n : Nat) : Nat := cellsOf (n + 16)

/-- Fields of a channel record (R383). -/
def Channel.peer (c : Channel) : Nat := leAt c.record 2 2
def Channel.peerChan (c : Channel) : Nat := leAt c.record 4 2
def Channel.lineClass (c : Channel) : Nat := leAt c.record 6 1
def Channel.txWindow (c : Channel) : Nat := leAt c.record 8 4
def Channel.rxWindow (c : Channel) : Nat := leAt c.record 12 4
def Channel.txQueue (c : Channel) : Nat := leAt c.record 16 2
def Channel.rxQueue (c : Channel) : Nat := leAt c.record 18 2
def Channel.present (c : Channel) : Bool := !c.record.isEmpty

/-- Journal cells in use outbound and inbound (R356). -/
def Channel.txUsed (c : Channel) : Nat := (c.outJ.map (fun m => msgCost m.2.length)).sum
def Channel.rxUsed (c : Channel) : Nat := (c.inJ.map (fun m => msgCost m.2.length)).sum

/-- A custody channel. -/
def Block.cus (b : Block) (c : Nat) : Channel := Tab.get {} b.custody.chans c

/-- CUS_WINDOW_USED follows the journal. -/
def Block.showWindow (b : Block) : Block :=
  b.set R.CUS_WINDOW_USED ((b.custody.chans.map (fun e => e.2.txUsed + e.2.rxUsed)).sum)

/-- Change the custody unit. -/
def Block.setCustody (b : Block) (u : CustodyUnit) : Block := { b with custody := u }

/-- Change a channel. -/
def Block.modCus (b : Block) (c : Nat) (f : Channel → Channel) : Block :=
  (b.setCustody { b.custody with chans := Tab.modify {} b.custody.chans c f }).showWindow

/-- The custody segment and its header values, with the settings of a segment of length 0 (R383). -/
def Block.cusSeg (b : Block) : List Byte := b.segment 5
def Block.ackHold (b : Block) : Nat := if b.cusSeg.isEmpty then 100 else leAt b.cusSeg 0x0E 2
def Block.hostPorts (b : Block) : Nat := if b.cusSeg.isEmpty then 4 else leAt b.cusSeg 6 1
def Block.regPorts (b : Block) : Nat := if b.cusSeg.isEmpty then 4 else leAt b.cusSeg 7 1
def Block.encaps (b : Block) : Nat := if b.cusSeg.isEmpty then 1 else leAt b.cusSeg 1 1

/-- The node's Ethernet address (R345): 0x02, then the low 40 bits of its EUI-64. -/
def etherAddr : Nat := 2 * 2 ^ 40 + ownEui % 2 ^ 40

/-- The node's own address in an encapsulation (R345): its Ethernet, IPv4 or IPv6 address, the last two from the segment or, where
that holds zero, from CUS_IP4 and CUS_IP6. -/
def Block.ownAddr (b : Block) (encap : Nat) : Nat :=
  let seg := b.cusSeg
  let ip6 := beNum (slice seg 0x20 16)
  if encap = 0 then etherAddr
  else if encap = 1 then (if leAt seg 0x18 4 = 0 then b.get R.CUS_IP4 else leAt seg 0x18 4)
  else if ip6 = 0 then b.get R.CUS_IP6 else ip6

/-- The EtherType or the UDP port of Runudom (R345, R383). -/
def Block.service (b : Block) (encap : Nat) : Nat :=
  if b.cusSeg.isEmpty then 0x88B5 else if encap = 0 then leAt b.cusSeg 2 2 else leAt b.cusSeg 4 2

/-- The host ports that are active in this mode (R70, R71, R437). A host's endpoint (R347) is a number: the port J in bits 1–0
(0 J1, 1 J2, 2 J3), the encapsulation of R345 in bits 3–2, the host's own source address above. -/
def Block.portUp (b : Block) (port : Nat) : Bool :=
  let j := port % 4
  decide (2 ≤ b.mode ∧ b.mode ≠ 9) && ((j == 2 && b.modl.j3) ||
    (decide (j < 2) && (b.modl.cages.getD j {}).powered && decide (3 ≤ b.mode ∧ b.mode ≠ 8 ∧ b.mode ≠ 11)))

/-- The encapsulation of a port number is enabled (R345). -/
def Block.encapOk (b : Block) (port : Nat) : Bool := decide (port / 4 % 4 < 3) && b.encaps.testBit (port / 4 % 4)

/-- The largest payload a port carries (R346). -/
def Block.portLimit (b : Block) (port : Nat) : Nat :=
  let jumbo := !b.cusSeg.isEmpty && (leAt b.cusSeg 0x0B 1).testBit (port % 4)
  let ip := match port / 4 % 4 with | 0 => 0 | 1 => 28 | _ => 48
  min 9000 ((if jumbo then 9216 else 1500) - 24 - ip)

/-- A message header of R348. -/
def runudom (type flags channel seq ack credit len epoch : Nat) : List Byte :=
  leBytes (16 + type) 1 ++ leBytes flags 1 ++ beBytes channel 2 ++ beBytes seq 4 ++ beBytes ack 4 ++ beBytes credit 4 ++
    beBytes len 2 ++ [0, 0] ++ beBytes epoch 4

/-- The credit the node offers on a channel (R355). -/
def Channel.credit (c : Channel) : Nat := c.txWindow - c.txUsed

/-- A message goes out of a port (R347); one that the port cannot carry waits (R346). -/
def Block.sendHost (b : Block) (port : Option Nat) (type channel seq ack credit flags : Nat) (payload : List Byte) : Block :=
  match port with
  | none => b
  | some p =>
    if b.portUp p = false then b
    else if b.portLimit p < payload.length then b.stick R.CUS_TROUBLE_HOST_OVERSIZE
    else b.emit (.host p (b.ownAddr (p / 4 % 4)) (b.service (p / 4 % 4)) (runudom type flags channel seq ack credit payload.length (b.get R.CUS_EPOCH) ++ payload))

/-- A message on a channel with its ACK and credit (R354, R355). -/
def Block.sendChan (b : Block) (c type seq : Nat) (payload : List Byte) : Block :=
  let ch := b.cus c
  (b.sendHost ch.port type c seq ch.accepted ch.credit 3 payload).modCus c (fun ch => { ch with ackDue := false })

/-- A pure ACK (R354). -/
def Block.sendAck (b : Block) (c : Nat) : Block := b.sendChan c 2 0 []

/-- HOST_ACK_TX: the ACK that is still due (R354), and DELIVERED (R363). -/
def Block.hostAckTx (b : Block) (c : Nat) : Block :=
  let ch := b.cus c
  let b := if ch.ackDue then b.sendAck c else b
  if ch.deliveredDue then
    (b.sendHost ch.port 10 c 0 ch.receipted 0 1 []).modCus c (fun ch => { ch with deliveredDue := false })
  else b

/-- The line custody header of R359. -/
def custodyHeader (channel kind frag seq total credit : Nat) : List Byte :=
  leBytes channel 2 ++ leBytes kind 1 ++ leBytes frag 1 ++ leBytes seq 4 ++ leBytes total 2 ++ [0, 0] ++ leBytes credit 4

/-- The fragments of a message as frame payloads (R359). -/
def Block.fragments (b : Block) (ch : Channel) (seq : Nat) (m : List Byte) : List (List Byte) :=
  let n := max 1 (ceilDiv m.length 4058)
  (List.range n).map (fun i =>
    meshPrefix ch.peer b.short 0 ++ custodyHeader ch.peerChan 1 (i + 16 * (n - 1)) seq m.length 0 ++
      (m.drop (4058 * i)).take 4058)

/-- Write fragment packets to the channel's TX_QUEUE; whether all were committed. -/
def Block.putFragments (b : Block) (c : Nat) (l : List (List Byte)) : Bool × Block :=
  let ch := b.cus c
  l.foldl (fun r p =>
    if r.1 then
      let b := r.2.put (ctxCustody c) ch.txQueue ch.peer 0 p
      (b.statusOf (ctxCustody c) == 7, b)
    else r) (true, b)

/-- The costs of the messages above PEER_SEQ up to a sequence (R360). -/
def Channel.outstanding (c : Channel) (seq : Nat) : Nat :=
  ((c.outJ.filter (fun m => serialAbove 32 m.1 c.peerSeq && !serialAbove 32 m.1 seq)).map (fun m => msgCost m.2.length)).sum

/-- Messages are queued for the line, in order, as far as R360 allows. -/
def Block.pumpLine (b : Block) (c : Nat) : Block :=
  let ch := b.cus c
  let first := match ch.outJ with | m :: _ => m.1 | [] => 0
  b.forEach (ch.outJ.filter (fun m => serialAbove 32 m.1 ch.lineSent)) (fun b m =>
    let ch := b.cus c
    if m.1 = (ch.lineSent + 1) % 2 ^ 32 ∧ (ch.outstanding m.1 ≤ ch.peerCredit ∨ m.1 = first) then
      let b := b.forEach (b.fragments ch m.1 m.2) (fun b p => b.sendMesh 1 ch.lineClass ch.peer p (queue := some ch.txQueue))
      b.modCus c (fun ch => { ch with lineSent := m.1 })
    else b)

/-- A RECEIPT for a channel (R359, R362). -/
def Block.sendReceipt (b : Block) (c : Nat) : Block :=
  let ch := b.cus c
  let p := meshPrefix ch.peer b.short 0 ++ custodyHeader ch.peerChan 2 0 ch.journalled 0 (ch.rxWindow - ch.rxUsed)
  (b.sendMesh 1 1 ch.peer p).modCus c (fun ch => { ch with receiptDue := false, window := ch.rxUsed })

/-- RECEIPT_TX (R362). -/
def Block.receiptTx (b : Block) (c : Nat) : Block := if (b.cus c).present ∧ (b.cus c).receiptDue then b.sendReceipt c else b

/-- The header of a received message (R348): type, flags, channel, SEQ, ACK, CREDIT, LENGTH, EPOCH and the payload. -/
structure HostMsg where
  type : Nat
  flags : Nat
  channel : Nat
  seq : Nat
  ack : Nat
  credit : Nat
  epoch : Nat
  payload : List Byte
  deriving DecidableEq, Repr

/-- A type suits its channel and the direction from the host (R349, R351). -/
def typeOk (type channel : Nat) : Bool :=
  let cus := decide (channel < 0x400)
  match type with
  | 1 => cus
  | 2 => cus || channel == 0xFFFF
  | 3 => cus || channel == 0xFFFF
  | 5 => cus || channel == 0xFFFF || channel == 0xFFFE
  | 7 => channel == 0xFFFF
  | _ => false

/-- A host message, or none where R349 rejects it. -/
def parseHost (l : List Byte) : Option HostMsg :=
  let v := leAt l 0 1
  let ch := beNum (slice l 2 2)
  let len := beNum (slice l 16 2)
  if l.length < 24 ∨ v / 16 ≠ 1 ∨ typeOk (v % 16) ch = false ∨ 9000 < len ∨ l.length - 24 < len then none
  else some { type := v % 16, flags := leAt l 1 1, channel := ch, seq := beNum (slice l 4 4), ack := beNum (slice l 8 4),
              credit := beNum (slice l 12 4), epoch := beNum (slice l 20 4), payload := (l.drop 24).take len }

/-- A rejected message (R349). -/
def Block.malformed (b : Block) : Block := b.count R.CUS_MALFORMED_COUNT R.CUS_TROUBLE_MALFORMED

/-- A host ACK on a channel (R357): records at or below it are released; a RECEIPT follows a large fall of RX_USED
(R362). -/
def Block.applyAck (b : Block) (c ack : Nat) : Block :=
  let ch := b.cus c
  if serialAbove 32 ack ch.hostAcked ∧ serialAbove 32 ack ch.journalled = false then
    let gone := ch.inJ.filter (fun m => !serialAbove 32 m.1 ack)
    let b := b.add R.CUS_DELIVER_COUNT gone.length
    let b := if (b.q ch.rxQueue).hold then b.forEach gone (fun b _ => b.release ch.rxQueue)
      else b.forEach (gone.filter (fun m => serialAbove 32 m.1 ch.hostSent)) (fun b _ => b.popHead ch.rxQueue)
    let b := b.modCus c (fun ch => { ch with
      hostAcked := ack
      ackTick := b.tick
      hostSent := if serialAbove 32 ack ch.hostSent then ack else ch.hostSent
      inJ := ch.inJ.filter (fun m => serialAbove 32 m.1 ack) })
    let ch := b.cus c
    if ch.rxWindow ≤ 4 * (ch.window - ch.rxUsed) ∧ ch.rxUsed < ch.window then b.sendReceipt c else b
  else b

/-- A host's credit with its ACK (R355): the highest ACK, and for equal ones the largest credit. -/
def Block.applyCredit (b : Block) (c ack credit : Nat) : Block :=
  b.modCus c (fun ch => { ch with hostCredit := match ch.hostCredit with
    | none => some (ack, credit)
    | some (a, v) => if serialAbove 32 ack a then some (ack, credit) else if ack = a then some (a, max v credit) else some (a, v) })

/-- A host ACK on the register channel (R357, R376). -/
def Block.regAck (b : Block) (ack : Nat) : Block :=
  let r := b.custody.regc
  if serialAbove 32 ack r.acked ∧ serialAbove 32 ack r.sent = false then
    b.setCustody { b.custody with regc := { r with acked := ack, ackTick := b.tick } }
  else b

/-- What every valid message on a custody channel, or on the register channel, brings (R347, R348, R355, R357). -/
def Block.hostCommon (b : Block) (port : Nat) (m : HostMsg) : Block :=
  let b := if m.epoch ≠ b.get R.CUS_EPOCH then b.bump R.CUS_EPOCH_MISMATCH_COUNT else b
  if m.channel < 0x400 then
    let b := if (b.cus m.channel).present then b.modCus m.channel (fun ch => { ch with port := some port }) else b
    let b := if m.flags.testBit 0 ∧ (b.cus m.channel).present then b.applyAck m.channel m.ack else b
    if m.flags.testBit 1 ∧ (b.cus m.channel).present then b.applyCredit m.channel m.ack m.credit else b
  else if m.channel = 0xFFFF then
    let b := b.setCustody { b.custody with regc := { b.custody.regc with port := some port } }
    if m.flags.testBit 0 then b.regAck m.ack else b
  else b

/-- Host messages are taken (R370, R437): M3 to M8 and M10, on an enabled port. -/
def Block.hostTakes (b : Block) (port : Nat) : Bool :=
  b.portUp port && b.encapOk port && b.hostPorts.testBit (port % 4) && decide (3 ≤ b.mode ∧ b.mode ≠ 11)

/-- The register channel is taken on a port (R376). -/
def Block.regTakes (b : Block) (port : Nat) : Bool :=
  b.portUp port && b.encapOk port && b.regPorts.testBit (port % 4)

/-- A message's channel is taken on a port. -/
def Block.takes (b : Block) (port channel : Nat) : Bool :=
  if channel = 0xFFFF then b.regTakes port else b.hostTakes port

/-- A REG_REPLY (R351, R376). -/
def Block.sendReply (b : Block) (seq : Nat) (payload : List Byte) : Block :=
  b.sendHost b.custody.regc.port 8 0xFFFF seq b.custody.regc.accepted 0 1 payload

/-- Every unacknowledged reply goes out again, in order (R357, R375, R376). -/
def Block.resendReplies (b : Block) (counted : Bool) : Block :=
  b.forEach (b.custody.regc.replies.filter (fun r => serialAbove 32 r.2.1 b.custody.regc.acked)) (fun b r =>
    let b := b.sendReply r.2.1 r.2.2
    if counted then b.bump R.CUS_HOST_RETX_COUNT else b)

/-- REFUSE (R351, R353); on a channel of the segment it carries the ACK and the credit (R354, R355). -/
def Block.refuse (b : Block) (port c seq cause : Nat) : Block :=
  let ch := b.cus c
  let b := b.count R.CUS_REFUSE_COUNT R.CUS_TROUBLE_REFUSED
  (b.sendHost (some port) 4 c 0 ch.accepted ch.credit (if ch.present then 3 else 0)
    (beBytes seq 4 ++ leBytes cause 1 ++ [0, 0, 0])).modCus c (fun ch => { ch with ackDue := false })

/-- The first cause of R353 that refuses a message, in the order 4, 2, 3, 1 (assumption 34); 0: none. -/
def Block.refuseCause (b : Block) (c len : Nat) : Nat :=
  let ch := b.cus c
  if ch.present = false then 4
  else if ch.txWindow = 0 then 2
  else if (b.q ch.txQueue).refill ∨ (b.q ch.rxQueue).refill ∨ b.flag R.CUS_STAT_RESTORE_BUSY ∨
      b.flag R.CUS_STAT_ACCEPT_READY = false then 3
  else if ch.txWindow - ch.txUsed < msgCost len then 1
  else 0

/-- Remove the packets of fragments that were committed before one was refused (R353). -/
def Block.dropFragments (b : Block) (n : Nat) (l : List (List Byte)) : Block :=
  b.modQ n (fun q => { q with pkts := q.pkts.filter (fun p => !l.contains p.data) })

/-- A host DATA message (HOST_DATA, R353, R354). -/
def Block.hostData (b : Block) (port : Nat) (msg : List Byte) : Block :=
  if b.hostTakes port = false then b
  else match parseHost msg with
  | none => b.malformed
  | some m =>
    if m.type ≠ 1 then b
    else
      let c := m.channel
      let b := b.hostCommon port m
      let a := (b.cus c).accepted
      if (b.cus c).present = false then b.refuse port c m.seq 4
      else if serialAbove 32 m.seq a = false then (b.bump R.CUS_HOST_DUP_COUNT).sendAck c
      else if m.seq ≠ (a + 1) % 2 ^ 32 then (b.count R.CUS_HOST_GAP_COUNT R.CUS_TROUBLE_HOST_GAP).sendAck c
      else
        let cause := b.refuseCause c m.payload.length
        if cause ≠ 0 then b.refuse port c m.seq cause
        else
          let fr := b.fragments (b.cus c) m.seq m.payload
          match b.putFragments c fr with
          | (false, b) => (b.dropFragments (b.cus c).txQueue fr).refuse port c m.seq 5
          | (true, b) =>
            let b := b.modCus c (fun ch => { ch with
              receiptTick := if ch.outJ.isEmpty then b.tick else ch.receiptTick
              outJ := ch.outJ ++ [(m.seq, m.payload)]
              accepted := m.seq
              ackDue := true })
            let b := (b.bump R.CUS_ACCEPT_COUNT).pumpLine c
            if b.ackHold = 0 then b.sendAck c else b

/-- HOST_ACK and HOST_CREDIT (R355, R357): a pure ACK or CREDIT. -/
def Block.hostPure (b : Block) (port type : Nat) (msg : List Byte) : Block :=
  if (b.hostTakes port || b.regTakes port) = false then b
  else match parseHost msg with
  | none => b.malformed
  | some m => if m.type = type ∧ b.takes port m.channel then b.hostCommon port m else b

/-- RUNUDOM_MALFORMED (R349). -/
def Block.hostBad (b : Block) (port : Nat) (msg : List Byte) : Block :=
  if b.portUp port ∧ (parseHost msg).isNone then b.malformed else b

/-- An inbound message goes to its host (R357). -/
def Block.sendData (b : Block) (c : Nat) (m : Nat × List Byte) : Block := b.sendChan c 1 m.1 m.2

/-- The host's credit admits a message (R355). -/
def Channel.hostAdmits (ch : Channel) (seq : Nat) : Bool :=
  match ch.hostCredit with
  | none => true
  | some (a, v) => decide (((ch.inJ.filter (fun m => serialAbove 32 m.1 a && !serialAbove 32 m.1 seq)).map
      (fun m => msgCost m.2.length)).sum ≤ v)

/-- HOST_DELIVER (R347, R357): the next inbound message goes to the host, out of RX_QUEUE. -/
def Block.hostDeliver (b : Block) (c : Nat) : Block :=
  let ch := b.cus c
  match ch.port, ch.inJ.find? (fun m => serialAbove 32 m.1 ch.hostSent) with
  | some p, some m =>
    if b.portUp p = false ∨ ch.hostAdmits m.1 = false then b
    else if b.portLimit p < m.2.length then b.stick R.CUS_TROUBLE_HOST_OVERSIZE
    else
      let b := b.sendData c m
      let b := if (b.q ch.rxQueue).hold then b.modQ ch.rxQueue (fun q => { q with reading := q.pkts.length != 0 })
        else b.popHead ch.rxQueue
      b.modCus c (fun ch => { ch with
        hostSent := m.1, ackTick := if ch.hostSent = ch.hostAcked then b.tick else ch.ackTick })
  | _, _ => b

/-- Everything sent and not acknowledged goes out again, in order. -/
def Block.resendHost (b : Block) (c : Nat) (counted : Bool) : Block :=
  let ch := b.cus c
  b.forEach (ch.inJ.filter (fun m => !serialAbove 32 m.1 ch.hostSent)) (fun b m =>
    let b := b.sendData c m
    if counted then b.bump R.CUS_HOST_RETX_COUNT else b)

/-- `ms` milliseconds have passed since a tick: 25 ticks each. -/
def Block.msPassed (b : Block) (since ms : Nat) : Bool := decide (since + 25 * ms ≤ b.tick)

/-- HOST_RTO in ms (R383). -/
def Block.hostRto (b : Block) : Nat := if b.cusSeg.isEmpty then 50 else leAt b.cusSeg 0x0C 2

/-- HOST_RETRANSMIT (R357), on a custody channel or the register channel (R376): HOST_RTO has passed. -/
def Block.hostRetransmit (b : Block) (c : Nat) : Block :=
  if c = 0xFFFF then
    if b.msPassed b.custody.regc.ackTick b.hostRto then
      (b.setCustody { b.custody with regc := { b.custody.regc with ackTick := b.tick } }).resendReplies true
    else b
  else if b.msPassed (b.cus c).ackTick b.hostRto then (b.modCus c (fun ch => { ch with ackTick := b.tick })).resendHost c true
  else b

/-- Take the first custody frame of a kind that the MAC has handed on. -/
def Block.takeCustody (b : Block) (kind : Nat) : Option (List Byte × Block) :=
  match b.custody.inbox.find? (fun e => leAt e.2 2 1 == kind) with
  | some e => some (e.2, b.setCustody { b.custody with inbox := b.custody.inbox.erase e })
  | none => none

/-- A message is complete at its destination (R361): journalled, committed to RX_QUEUE, and to be receipted. -/
def Block.journal (b : Block) (c seq : Nat) (m : List Byte) : Block :=
  let ch := b.cus c
  let b := b.put (ctxCustody c) ch.rxQueue 0 0 m
  let b := b.modCus c (fun ch => { ch with
    inJ := ch.inJ ++ [(seq, m)]
    journalled := seq
    part := none
    receiptDue := true })
  let b := b.modCus c (fun ch => { ch with window := max ch.window ch.rxUsed })
  if leAt b.cusSeg 0x12 2 = 0 then b.sendReceipt c else b

/-- CUSTODY_DATA_RX (R361). -/
def Block.custodyData (b : Block) : Block :=
  match b.takeCustody 1 with
  | none => b
  | some (f, b) =>
    let c := leAt f 0 2
    let ch := b.cus c
    if ch.present = false then b
    else
      let seq := leAt f 4 4
      let total := leAt f 8 2
      let frag := leAt f 3 1 % 16
      let last := leAt f 3 1 / 16
      let data := f.drop 16
      let expected := match ch.part with | some p => p.next | none => 0
      if serialAbove 32 seq ch.journalled = false then (b.bump R.CUS_LINE_DUP_COUNT).sendReceipt c
      else if seq ≠ (ch.journalled + 1) % 2 ^ 32 ∨ frag ≠ expected then (b.bump R.CUS_LINE_GAP_COUNT).sendReceipt c
      else if ch.rxWindow = 0 ∨ ch.rxWindow - ch.rxUsed < msgCost total then (b.bump R.CUS_LINE_REFUSED_COUNT).sendReceipt c
      else
        let old := match ch.part with | some p => p.data | none => []
        if frag = last then b.journal c seq (old ++ data)
        else b.modCus c (fun ch => { ch with
          part := some { seq := seq, total := total, last := last, next := frag + 1, data := old ++ data, tick := b.tick } })

/-- CUSTODY_RECEIPT_RX (R360, R363). -/
def Block.custodyReceipt (b : Block) : Block :=
  match b.takeCustody 2 with
  | none => b
  | some (f, b) =>
    let c := leAt f 0 2
    let ch := b.cus c
    if ch.present = false then b
    else
      let seq := leAt f 4 4
      let credit := leAt f 12 4
      let b := if serialAbove 32 seq ch.peerSeq then b.modCus c (fun ch => { ch with peerSeq := seq, peerCredit := credit })
        else if seq = ch.peerSeq then b.modCus c (fun ch => { ch with peerCredit := max ch.peerCredit credit })
        else b
      let b := if serialAbove 32 seq ch.receipted then
          let b := b.modCus c (fun ch => { ch with
            receipted := seq
            receiptTick := b.tick
            outJ := ch.outJ.filter (fun m => serialAbove 32 m.1 seq)
            lineSent := if serialAbove 32 seq ch.lineSent then seq else ch.lineSent
            deliveredDue := true })
          if b.ackHold = 0 then b.hostAckTx c else b
        else b
      b.pumpLine c

/-- E2E_TIMEOUT (R364). -/
def Block.e2eTimeout (b : Block) (c : Nat) : Block :=
  let ch := b.cus c
  if ch.outJ.isEmpty ∨ b.msPassed ch.receiptTick (leAt b.cusSeg 0x10 2) = false then b
  else
    let sent := ch.outJ.filter (fun m => !serialAbove 32 m.1 ch.lineSent)
    let b := b.forEach sent (fun b m => (b.putFragments c (b.fragments ch m.1 m.2)).2)
    let b := b.modCus c (fun ch => { ch with lineSent := ch.receipted, receiptTick := b.tick })
    let b := b.add R.CUS_E2E_RESEND_COUNT ch.outJ.length
    (b.stick R.CUS_TROUBLE_E2E_RESEND).pumpLine c

/-- REASSEMBLY_TIMEOUT (R361). -/
def Block.reasmTimeout (b : Block) (c : Nat) : Block :=
  match (b.cus c).part with
  | some p =>
    if b.msPassed p.tick (leAt b.cusSeg 0x14 2) then
      (b.modCus c (fun ch => { ch with part := none })).count R.CUS_REASM_DROP_COUNT R.CUS_TROUBLE_REASM_DROP
    else b
  | none => b

/-- STATE of a RESYNC record (R374). -/
def Block.chanState (b : Block) (c : Nat) : Nat :=
  let ch := b.cus c
  if ch.present = false then 0
  else if b.flag R.CUS_STAT_RESTORE_BUSY ∨ (b.q ch.txQueue).refill ∨ (b.q ch.rxQueue).refill then 2
  else if ch.empty then 3 else 1

/-- A RESYNC record (R374). -/
def Block.resyncRecord (b : Block) (c : Nat) : List Byte :=
  if c = 0xFFFF then
    beBytes c 2 ++ [1, 0] ++ beBytes b.custody.regc.accepted 4 ++ beBytes b.custody.regc.acked 4 ++ beBytes 0 4
  else
    let ch := b.cus c
    beBytes c 2 ++ leBytes (b.chanState c) 1 ++ [0] ++ beBytes ch.accepted 4 ++ beBytes ch.hostAcked 4 ++ beBytes ch.credit 4

/-- RESYNC_REPLY messages of up to 64 records, LAST in the final one (R374). -/
def Block.resyncReplies (fuel : Nat) (b : Block) (port : Nat) (l : List Nat) : Block :=
  match fuel with
  | 0 => b
  | fuel + 1 =>
    let rest := l.drop 64
    let b := b.sendHost (some port) 6 0xFFFE 0 0 0 (if rest.isEmpty then 4 else 0) ((l.take 64).flatMap b.resyncRecord)
    if rest.isEmpty then b else Block.resyncReplies fuel b port rest

/-- RESYNC (R374, R375). -/
def Block.resync (b : Block) (port : Nat) (msg : List Byte) : Block :=
  if (b.hostTakes port || b.regTakes port) = false then b
  else match parseHost msg with
  | none => b.malformed
  | some m =>
    if m.type ≠ 5 then b
    else
      let b := b.hostCommon port m
      let b := b.setCustody { b.custody with resyncPort := some port }
      let first := beNum (slice m.payload 0 2)
      let count := beNum (slice m.payload 2 2)
      let l := if m.channel ≠ 0xFFFE then [m.channel]
        else if count = 0 then (List.range (1024 - first)).map (· + first) ++ [0xFFFF]
        else ((List.range count).map (· + first)).filter (fun c => decide (c < 1024))
      let b := b.resyncReplies 20 port l
      let b := b.forEach (l.filter (fun c => (b.cus c).present && b.chanState c != 2)) (fun b c => b.resendHost c false)
      if l.contains 0xFFFF then b.resendReplies false else b

/-- STREAM_TX (R378): the head packet of a bound lossy queue goes to the host. -/
def Block.streamTx (b : Block) (stream : Nat) : Block :=
  let seg := b.cusSeg
  let base := 0x40 + 32 * leAt seg 8 2
  match (List.range (leAt seg 0x0A 1)).find? (fun i => leAt seg (base + 8 * i + 2) 1 == stream) with
  | none => b
  | some i =>
    let n := leAt seg (base + 8 * i) 2
    match (b.q n).pkts, b.custody.resyncPort with
    | p :: _, some port =>
      if b.portUp port = false then b
      else if b.portLimit port < p.data.length then b.stick R.CUS_TROUBLE_HOST_OVERSIZE
      else
        let seq := (Tab.get 0 b.custody.streams stream + 1) % 2 ^ 32
        let b := b.popHead n
        let b := b.setCustody { b.custody with streams := Tab.set 0 b.custody.streams stream seq }
        b.sendHost (some port) 9 (0x8000 + stream) seq 0 0 0 p.data
    | _, _ => b

/-- Frames that carry packets of a queue leave the transmit order. -/
def Block.dropOrder (b : Block) (n : Nat) : Block :=
  { b with mac := { b.mac with order := b.mac.order.filter (fun f => f.queue != some n) } }

/-- Custody refills a queue of channel `c` from the journal (R368). -/
def Block.refillQueue (b : Block) (c n : Nat) : Block :=
  let ch := b.cus c
  let b := b.modQ n (fun q => { q with refill := false })
  if n = ch.txQueue then
    let b := b.dropOrder n
    let b := b.forEach ch.outJ (fun b m => (b.putFragments c (b.fragments ch m.1 m.2)).2)
    (b.modCus c (fun ch => { ch with lineSent := ch.receipted })).pumpLine c
  else
    (b.forEach ch.inJ (fun b m => b.put (ctxCustody c) n 0 0 m.2)).modCus c (fun ch => { ch with hostSent := ch.hostAcked })

/-- REFILLING follows the queues. -/
def Block.showRefilling (b : Block) : Block := b.setFlag R.QMG_STAT_REFILLING (b.queue.queues.any (fun e => e.2.refill))

/-- REFILL_COMPLETE of a queue (R368). -/
def Block.refillComplete (b : Block) (n : Nat) : Block :=
  let q := b.q n
  if q.refill then (b.refillQueue q.journal n).showRefilling else b

/-- ACCEPT_READY: an erased slot exists and no restore runs (R369, R385). -/
def Block.showAccept (b : Block) : Block :=
  b.setFlag R.CUS_STAT_ACCEPT_READY (b.custody.slots.any (fun s => s.isNone) && !b.flag R.CUS_STAT_RESTORE_BUSY)

/-- The complete slot with the highest FLUSH_SEQ among those that a test selects. -/
def bestSlot (l : List (Option FlushSlot)) (t : FlushSlot → Bool) : Option FlushSlot :=
  (l.filterMap (fun s => s)).foldl (fun best s =>
    if s.complete && t s then
      match best with | some x => if x.seq < s.seq then some s else best | none => some s
    else best) none

/-- A channel starts from its flushed state (R371, R372, R384): where the CRCs fail it starts empty with its sequences. -/
def restoreChannel (old : Channel) (ch : Channel) (crcOk : Bool) : Channel :=
  if old.record ≠ ch.record then ch
  else if crcOk then { old with
    port := none, hostCredit := none, part := none, hostSent := old.hostAcked, lineSent := old.receipted
    ackTick := 0, receiptTick := 0 }
  else { ch with
    accepted := old.accepted, receipted := old.receipted, journalled := old.journalled, hostAcked := old.hostAcked,
    peerSeq := old.peerSeq, peerCredit := old.peerCredit, hostSent := old.hostAcked, lineSent := old.accepted, empty := true }

/-- The A-record of a restored slot (R444): the cause becomes power-fail, and the recorded sticky bits are set again. -/
def Block.applyARecord (b : Block) (s : FlushSlot) : Block :=
  let b := b.set R.PWR_RESET_CAUSE 1
  let fields : List (Nat × Field) := [(0, R.PWR_TROUBLE_RATION_DELAY), (1, R.PWR_TROUBLE_MODE_REFUSED),
    (2, R.PWR_TROUBLE_OVER_TEMP), (3, R.PWR_TROUBLE_VAUX_OVERLOAD), (4, R.PWR_TROUBLE_WDT_RESET)]
  let b := b.forEach fields (fun b (e : Nat × Field) => if (s.arec.getD 4 0).testBit e.1 then b.stick e.2 else b)
  let fields : List (Nat × Field) := [(0, R.SPR_TROUBLE_MAINS_LOSS), (1, R.SPR_TROUBLE_L2_LOST), (2, R.SPR_TROUBLE_L3_LOST),
    (3, R.SPR_TROUBLE_FREQ_OUT), (4, R.SPR_TROUBLE_CROSSING_REJECT)]
  b.forEach fields (fun b (e : Nat × Field) => if (s.arec.getD 5 0).testBit e.1 then b.stick e.2 else b)

/-- Journal records of channels whose record changed or went are discarded (R384). -/
def Block.discardChannels (b : Block) (lost : List (Nat × Channel)) : Block :=
  b.forEach lost (fun b e =>
    let n := e.2.outJ.length + e.2.inJ.length
    if n = 0 then b
    else ((b.stick R.CUS_TROUBLE_CHANNEL_DISCARD).add R.CUS_DISCARD_COUNT n).event 12 0x83 e.1 n)

/-- CUSTODY_RESTORE (R371, R372): in M3 once DDR4 is trained. -/
def Block.custodyRestore (b : Block) (crcOk : Bool) : Block :=
  if b.mode ≠ 3 ∨ b.custody.restoreDue = false ∨ b.flag R.QMG_STAT_BULK_READY = false then b
  else
    let fresh := bestSlot b.custody.slots (fun s => !s.consumed)
    let b := if fresh.isNone ∧ b.custody.everInForce then b.stick R.CUS_TROUBLE_FLUSH_FAIL else b
    let slot := match fresh with | some s => some s | none => bestSlot b.custody.slots (fun _ => true)
    let b := match slot with
      | none => b
      | some s =>
        let b := if crcOk then b else b.stick R.CUS_TROUBLE_RESTORE_FAIL
        let chans : Tab Channel := List.map (fun (e : Nat × Channel) =>
          (e.1, restoreChannel (Tab.get {} s.chans e.1) e.2 crcOk)) b.custody.chans
        let b := b.setCustody { b.custody with
          chans := chans
          slots := b.custody.slots.map (fun x => if x = some s then some { s with consumed := true } else x) }
        let b := b.forEach chans (fun b (e : Nat × Channel) => (b.refillQueue e.1 e.2.txQueue).refillQueue e.1 e.2.rxQueue)
        let b := if crcOk ∧ fresh = some s then b.applyARecord s else b
        let b := b.discardChannels (s.chans.filter (fun e => (b.cus e.1).record != e.2.record))
        (b.set R.CUS_STAT_RESTORED 1).showWindow
    let b := (b.setCustody { b.custody with restoreDue := false }).set R.CUS_STAT_RESTORE_BUSY 0
    b.showAccept

/-- FLUSH_SLOT_ERASED (R371): the slot that is not the newest is erased. -/
def Block.flushSlotErased (b : Block) : Block :=
  let newest := bestSlot b.custody.slots (fun _ => true)
  let slots := match b.custody.slots with
    | [x, y] => if x.isNone ∨ y.isNone then [x, y] else if newest = x then [x, none] else [none, y]
    | l => l
  (b.setCustody { b.custody with slots := slots }).showAccept

/-- A journal record (R366): the message after its prefix of 16 bytes; `dir` 0 outbound, 1 inbound. -/
def journalRecord (c dir : Nat) (m : Nat × List Byte) : List Byte :=
  leBytes m.1 4 ++ leBytes c 2 ++ leBytes m.2.length 2 ++ leBytes dir 1 ++ [0, 0, 0] ++ leBytes (crc32 m.2) 4 ++ m.2

/-- The journal records in use in channel order (R369). -/
def journalRecords (l : Tab Channel) : List (List Byte) :=
  l.flatMap (fun e => e.2.outJ.map (journalRecord e.1 0) ++ e.2.inJ.map (journalRecord e.1 1))

/-- The flush's trailer with COMPLETE is written (R369, R370): the slot that was erased holds the channels. -/
def Block.writeFlush (b : Block) (us : Nat) : Block :=
  let seq := (b.get R.CUS_FLUSH_SEQ + 1) % 2 ^ 32
  let s : FlushSlot := {
    seq := seq, epoch := b.get R.CUS_EPOCH, cells := b.get R.CUS_WINDOW_USED, complete := true, consumed := false
    arec := b.power.m1Rec, chans := b.custody.chans, journal := journalRecords b.custody.chans }
  let slots := match b.custody.slots with
    | [none, y] => [some s, y]
    | [x, none] => [x, some s]
    | l => l
  if b.custody.slots.any (fun x => x.isNone) then
    ((b.setCustody { b.custody with slots := slots }).set R.CUS_FLUSH_SEQ seq).usat R.CUS_FLUSH_LAST us
  else b

/-- The channels under a CUSTODY segment at a full load (R384): an unchanged record keeps its channel; the others start
empty, their journal records discarded. -/
def Block.custodyLoad (b : Block) : Block :=
  let seg := b.cusSeg
  let recs := (List.range (leAt seg 8 2)).map (fun i => slice seg (0x40 + 32 * i) 32)
  let old := b.custody.chans
  let kept : Tab Channel := recs.map (fun r =>
    let c := leAt r 0 2
    let ch := Tab.get {} old c
    (c, if ch.record = r then ch else { record := r }))
  let lost := old.filter (fun e => (Tab.get {} kept e.1).record != e.2.record)
  ((b.setCustody { b.custody with chans := kept, everInForce := true }).showWindow).discardChannels lost

/-- After a reset custody drops what was in work; its journal and its queues are kept (R343, R367). -/
def Block.custodyRestart (b : Block) : Block :=
  let chans := b.custody.chans.map (fun e => (e.1, { e.2 with
    port := none, hostCredit := none, part := none, ackDue := false, deliveredDue := false, ackTick := 0, receiptTick := 0 }))
  b.setCustody { b.custody with chans := chans, inbox := [], resyncPort := none }

end Sys2Proof.Machine
end

