-- ==== Sys2Proof/Machine/Mac.lean ====
section
/-! DEFINITION. The MAC's events (R254–R288): beacons, channel access, acknowledgement, delivered frames, doze and search,
quiet windows, the map. -/

namespace Sys2Proof.Machine

/-- Change the MAC. -/
def Block.setMac (b : Block) (m : MacUnit) : Block := { b with mac := m }

/-- MAC_STAT.STATE in a mode (R288): off, survey, joining, associated; searching stays until it ends. -/
def Block.showMac (b : Block) : Block :=
  let m := b.mode
  let s := b.get R.MAC_STAT_STATE
  if m = 4 then b.set R.MAC_STAT_STATE 1
  else if m = 5 then b.set R.MAC_STAT_STATE 2
  else if m = 6 ∨ m = 7 ∨ m = 8 ∨ m = 10 then (if s = 4 then b else b.set R.MAC_STAT_STATE 3)
  else b.set R.MAC_STAT_STATE 0

/-- The guard of R276 in ns before its factor: 20 µs + 2 × (0.1 ppm × t_ocxo + 30 ppm × t_xtal). -/
def Block.guardNs (b : Block) : Rat :=
  20000 + 2 * ((b.sinceResync : Rat) / 10000000 + (b.mac.xtalNs : Rat) * 30 / 1000000)

/-- MAC_GUARD follows (R276, R277): doubled after one miss, four times after two. -/
def Block.showGuard (b : Block) : Block :=
  let (g, b) := b.openRound (b.guardNs * (match b.get R.MAC_STAT_MISSES with | 0 => 1 | 1 => 2 | _ => 4))
  b.usat R.MAC_GUARD g.toNat

/-- The node that resynchronises this one: its timing parent, or the node adopted for beacons (R275, R277). -/
def Block.macParent (b : Block) (a : Nat) : Bool :=
  a != 0 && b.role != 0 && (a == b.get R.TIM_PARENT_PARENT || b.mac.beaconFrom == some a)

/-- A frame from the parent resynchronises the node (R275–R278). -/
def Block.resyncFrom (b : Block) (a : Nat) : Block :=
  if b.macParent a then
    let b := (b.set R.MAC_LAST_RESYNC (stamp64 b.now)).set R.MAC_STAT_MISSES 0
    let b := b.setMac { b.mac with
      resynced := true
      xtalNs := 0
      preNs := none
      holdUntil := b.mac.holdUntil.map (fun _ => b.tick + b.get R.MAC_BA_WAKE_HOLD) }
    let b := b.showGuard
    if b.mac.standbyRejoin ∧ b.mode = 4 then (b.setMac { b.mac with standbyRejoin := false }).askMode 5
    else if b.get R.MAC_STAT_STATE = 4 ∧ a = b.get R.TIM_PARENT_PARENT then b.set R.MAC_STAT_STATE 3
    else b
  else b

/-- HEADER_RECEIVED (R163–R165, R203, R266, R275). -/
def Block.headerEvent (b : Block) (band p : Nat) (code : Nat × Nat) (soft : List SoftBit) (train : List EqStep) : Block :=
  match b.receptionAt band p 1 code with
  | none => b
  | some _ =>
    let b := b.headerReceived band p code soft train
    match b.receptionAt band p 2 code with
    | some r => b.resyncFrom r.hdr.src
    | none => b

/-- A node-table slot descriptor (R292): half-cycle index, slot; none without VALID. -/
def slotOf (d : Nat) : Option (Nat × Nat) := if d.testBit 15 then some (d % 128, bits d 7 3) else none

/-- The current slot is the one a descriptor names. -/
def Block.inSlot (b : Block) (d : Nat) : Bool :=
  slotOf d == some (b.grid.half % b.periodHalves, b.get R.GLB_GRID_SLOT)

/-- A free short address exists (R505). -/
def Block.addressFree (b : Block) : Bool := decide ((b.nodes.filter (fun a => 2 ≤ a)).length < 0x3FFE)

/-- JOIN_OPEN of the coordinator (R505). -/
def Block.joinOpen (b : Block) : Bool := b.flag R.MAC_JOIN_OPEN && b.addressFree

/-- The payload of a full beacon for the next period's values (R254). -/
def Block.beaconBytes (b : Block) (g : GridVals) : List Byte :=
  let map := if b.grid.nextMap.isEmpty then b.mapBytes else b.grid.nextMap
  let coord := decide (b.role = 0)
  let flags := (if (if coord then b.joinOpen else b.grid.beaconFlags.testBit 0) then 1 else 0) +
    (if b.flag R.GLB_GRID_GRID_FREE then 2 else 0) + (if b.traceable then 4 else 0)
  let depth := if coord then 0 else b.get R.TIM_TREE_DEPTH
  let seq := if coord ∨ b.grid.nextMap.isEmpty then b.get R.MAC_GRID_MAP_SEQ else b.grid.nextSeq
  let bp := if coord ∨ b.grid.nextBp = 0 then b.get R.MAC_GRID_BP_CYCLES else b.grid.nextBp
  leBytes 1 1 ++ leBytes flags 1 ++ leBytes bp 1 ++ leBytes depth 1 ++ leBytes g.rev 4 ++ leBytes (stamp64 g.z) 8 ++
    leBytes (g.t / 1024) 4 ++ leBytes (map.length / 8) 1 ++ leBytes b.grid.fullEvery 1 ++ leBytes seq 2 ++ map

/-- A beacon frame (R254). -/
def Block.beaconFrame (b : Block) (payload : List Byte) : TxFrame :=
  let p := match b.hPorts with | p :: _ => p | [] => 0
  let mode := leAt b.macRole 0x1A 2 / 8 * 8 + (b.profile 0 p).getD 0
  { band := 0, kind := .beacon, payload := payload,
    hdr := { b.newHeader 0 1 0xFFFF 0 false with mode := mode } }

/-- A scheduled frame would end within the run of slots of its role (R254, R258, R259): it starts one tick after the
slot. -/
def Block.fitsRun (b : Block) (f : TxFrame) (role : Nat) : Bool :=
  decide ((b.tick + 1) * 40000 + b.airtimeOf f ≤ b.runEnd 0 (fun r => r == role) * 40000)

/-- Make a frame ready to start. -/
def Block.makeReady (b : Block) (f : TxFrame) : Block := b.setMac { b.mac with ready := b.mac.ready ++ [f] }

/-- The beacon of this slot: full where `g` gives values, short otherwise; a full one that does not fit sets SLOT_LOST and
gives way to a short one that does (R254). -/
def Block.sendBeacon (b : Block) (g : Option GridVals) : Block :=
  let short := b.beaconFrame []
  match g with
  | some v =>
    let full := b.beaconFrame (b.beaconBytes v)
    if b.fitsRun full 1 then b.makeReady full
    else
      let b := b.slotLost
      if b.fitsRun short 1 then b.makeReady short else b
  | none => if b.fitsRun short 1 then b.makeReady short else b.slotLost

/-- The current slot is the node's for its beacon (R255): the coordinator's is the first Band H BEACON slot of half-cycle 0, a
relay's the one that it is assigned. -/
def Block.beaconSlot (b : Block) : Bool :=
  if b.role = 0 then b.grid.half % b.periodHalves == 0 &&
    (List.range 8).find? (fun k => b.roleAt 0 0 k == 1) == some (b.get R.GLB_GRID_SLOT)
  else b.inSlot (b.node b.short 24 2)

/-- BEACON_TX (R254, R255). -/
def Block.beaconTx (b : Block) : Block :=
  if b.mayTransmit = false ∨ b.hasGrid = false ∨ b.role = 2 ∨ b.beaconSlot = false then b
  else if b.forbidden 0 then b.slotLost
  else if b.role = 0 then
    b.sendBeacon (if b.grid.periodIndex % max 1 b.grid.fullEvery = 0 then b.grid.next else none)
  else if b.get R.MAC_STAT_STATE = 4 ∨ b.flag R.MAC_TROUBLE_BEACON_LOST then b
  else b.sendBeacon b.grid.next

/-- A full beacon's payload is accepted (R5, R254, R256, R257). -/
def beaconOk (l : List Byte) : Bool :=
  let n := leAt l 20 1
  let h := fun r k => leAt l (24 + 8 * r + k) 1 % 16
  let lo := fun r k => leAt l (24 + 8 * r + k) 1 / 16
  leAt l 0 1 == 1 && decide (1 ≤ leAt l 2 1 ∧ leAt l 2 1 ≤ 64) && decide (1 ≤ n ∧ n ≤ 16) &&
    decide (1 ≤ leAt l 21 1 ∧ leAt l 21 1 ≤ 16) && l.length == 24 + 8 * n &&
    stamp64Ok (leAt l 8 8) && (List.range n).all (fun r => (List.range 8).all (fun k =>
      decide (h r k ≤ 5) && (lo r k == 0 || lo r k == 2 || lo r k == 5))) &&
    (List.range 8).any (fun k => h 0 k == 1)

/-- Z of a full beacon in network time (R210, R254). -/
def Block.beaconZ (b : Block) (l : List Byte) : Nat := unstamp64 (leAt l 8 8) b.netNow

/-- The BEACON slots that a full beacon's map gives a period, as half-cycle and slot (R254, R256). -/
def beaconSlots (l : List Byte) : List (Nat × Nat) :=
  (List.range (2 * leAt l 2 1)).flatMap (fun h =>
    ((List.range 8).filter (fun k => leAt l (24 + 8 * (h % leAt l 20 1) + k) 1 % 16 == 1)).map (fun k => (h, k)))

/-- The network tick of a full beacon's timing mark (R45, R255, R258). The coordinator's beacon comes in the first BEACON slot
of its period. Nothing in a relay's beacon names its slot, so which one it was is a free value (assumption 131). -/
def Block.beaconMark (b : Block) (l : List Byte) (profile : Nat) : Nat × Block :=
  let t := leAt l 16 4 * 1024
  let g : GridVals := ⟨0, b.beaconZ l - leAt l 2 1 * t, t⟩
  let slots := beaconSlots l
  let (i, b) := if leAt l 3 1 = 0 then (0, b) else (Config.freeValue b.freeCtr % slots.length, b.fresh.2)
  let (h, k) := slots.getD i (0, 0)
  (g.anchor h + k * (g.anchor (h + 1) - g.anchor h) / 8 + 1 + markTicks profile, b)

/-- A node that has not stepped yet takes a coarse time from the beacon's timing mark, assuming zero delay (R286): its bound
is 1 ms. -/
def Block.coarseTime (b : Block) (d : Delivered) (l : List Byte) : Block :=
  match b.flag R.GLB_TICK_STAT_GRID_ALIGNED, d.time.stamp with
  | false, some t =>
    let (mark, b) := b.beaconMark l (modeProfile d.hdr.mode)
    ({ b with time := { b.time with coarse := ((mark * tickLen : Nat) : Int) - t } }).usat R.TIM_BOUND 1000000000
  | _, _ => b

/-- Grid values and map of a full beacon are taken for the period they name (R252, R253, R256), on the node's own time scale. -/
def Block.adoptBeacon (b : Block) (l : List Byte) : Block :=
  let g : GridVals := ⟨leAt l 4 4, (((b.beaconZ l : Nat) : Int) - b.time.coarse).toNat, leAt l 16 4 * 1024⟩
  let flags := leAt l 1 1
  let b := b.setGrid { b.grid with
    next := some g
    nextMap := l.drop 24
    nextBp := leAt l 2 1
    nextSeq := leAt l 22 2
    fullEvery := leAt l 21 1
    beaconFlags := flags }
  b.setFlag R.GLB_GRID_GRID_FREE (flags.testBit 1)

/-- A candidate's beacon is recorded in M4 (R286). -/
def Block.noteCandidate (b : Block) (d : Delivered) (depth : Nat) : Block :=
  let c : Candidate := { addr := d.hdr.src, snr := d.snr, depth := depth, band := d.band, port := d.port }
  b.setMac { b.mac with candidates := b.mac.candidates.filter (fun x => x.addr != c.addr) ++ [c] }

/-- The candidate to be tried (R286): the one with the highest SNR that is not passed over. -/
def bestCandidate (l : List Candidate) : Option Candidate :=
  (l.filter (fun c => !c.passed)).foldl (fun best c =>
    match best with | some x => if x.snr < c.snr then some c else best | none => some c) none

/-- The MAC enters SEARCHING (R277): it receives continuously, for which a dozing node leaves M8. -/
def Block.enterSearch (b : Block) : Block :=
  let b := (b.set R.MAC_STAT_STATE 4).setMac { b.mac with search := 0 }
  if b.mode = 8 then b.askMode 6 else b

/-- The search ends at a full beacon of the own network (R277): from the backup parent R244 applies; another node is
adopted for beacons only, and a LINK_REPORT to the coordinator is due. -/
def Block.endSearch (b : Block) (src : Nat) : Block :=
  let b := (b.set R.MAC_STAT_STATE 3).set R.MAC_STAT_MISSES 0
  if src = b.get R.TIM_PARENT_PARENT then b
  else if src = b.get R.TIM_PARENT_BACKUP then (b.changeParent src).set R.TIM_PARENT_BACKUP 0
  else
    let b := b.setMac { b.mac with beaconFrom := some src }
    { b with mesh := { b.mesh with reportDue := true } }

/-- BEACON_RX (R235, R252, R253, R277, R286): the first delivered BEACON. -/
def Block.beaconRx (b : Block) : Block :=
  match b.takeDelivered (fun d => d.hdr.ftype == 0) with
  | none => b
  | some (d, b) =>
    let l := match d.parts with | p :: _ => p.payload | [] => []
    let own := d.hdr.net == b.netId
    if l.isEmpty then b
    else if beaconOk l = false then b.bump R.MAC_UNDEF_COUNT
    else if b.mode = 4 then
      let b := if own ∧ (leAt l 1 1).testBit 0 ∧ leAt l 3 1 < 32 then b.noteCandidate d (leAt l 3 1) else b
      if own ∧ b.macParent d.hdr.src then b.adoptBeacon l else b
    else if own = false then b
    else if b.mode = 5 then
      match bestCandidate b.mac.candidates with
      | some c =>
        if c.addr = d.hdr.src then
          let b := b.setMac { b.mac with candidate := some c.addr, beaconFrom := some c.addr }
          (b.coarseTime d l).adoptBeacon l
        else b
      | none => if b.macParent d.hdr.src then b.adoptBeacon l else b
    else if b.get R.MAC_STAT_STATE = 4 then (b.endSearch d.hdr.src).adoptBeacon l
    else if b.macParent d.hdr.src then (b.beaconOneWay d).adoptBeacon l
    else b

/-- A child that dozes (R276): its node entry has WAKE_EVERY and this node as a parent. -/
def Block.dozingChild (b : Block) (a : Nat) : Bool :=
  b.hasNode a && b.node a 23 1 != 0 && a != b.short && (b.node a 18 2 == b.short || b.node a 16 2 == b.short)

/-- The slot's role admits the start of a contention frame (R257, R276): CONTENTION, but to a dozing child only within its
hold; in Band H, WAKE for frames to or from a dozing node whose wake slot it is. -/
def Block.slotAdmits (b : Block) (f : TxFrame) : Bool :=
  let role := b.roleAt f.band b.grid.half (b.get R.GLB_GRID_SLOT)
  let own := b.mode == 8 && b.inSlot (b.node b.short 26 2)
  let child := b.dozingChild f.hdr.dst
  let held := decide (b.tick < Tab.get 0 b.mac.childHold f.hdr.dst)
  if role = 0 then !child || held
  else f.band == 0 && role == 4 && (own || (child && b.inSlot (b.node f.hdr.dst 26 2)))

/-- The run that admits a frame's band and role (R259). -/
def Block.runFor (b : Block) (f : TxFrame) : Nat :=
  if f.band = 1 then b.runEnd 1 (fun r => r != 5)
  else
    let role := b.roleAt 0 b.grid.half (b.get R.GLB_GRID_SLOT)
    b.runEnd 0 (fun r => r == role)

/-- A frame is permitted at this unit boundary but for its budget (R256, R259, R261, R280). -/
def Block.permitted (b : Block) (f : TxFrame) : Bool :=
  b.mayTransmit && b.hasGrid && !b.forbidden f.band && b.slotAdmits f &&
    decide (b.tick * 40000 + b.allowance f ≤ b.runFor f * 40000) && !b.quietFor f.band (b.airtimeOf f)

/-- A transmission to the same peer and class waits for its acknowledgement (R267). -/
def Block.peerBusy (b : Block) (f : TxFrame) : Bool :=
  f.hdr.ackReq && (b.mac.waiting.any (fun w => w.frame.hdr.dst == f.hdr.dst && w.frame.hdr.cls == f.hdr.cls) ||
    b.phy.tx.any (fun t => t.frame.hdr.ackReq && t.frame.hdr.dst == f.hdr.dst && t.frame.hdr.cls == f.hdr.cls) ||
    b.mac.ready.any (fun g => g.hdr.ackReq && g.hdr.dst == f.hdr.dst && g.hdr.cls == f.hdr.cls))

/-- A queue is read from its head (R330): the packet of a frame is next in its queue, and no packet of that queue is still
being sent (R331). -/
def Block.queueTurn (b : Block) (f : TxFrame) : Bool :=
  match f.queue with
  | none => true
  | some n =>
    b.mac.order.find? (fun g => g.queue == some n) == some f && !b.inFlight.any (fun g => g.queue == some n)

/-- Take a frame out of the transmit order. -/
def Block.unorder (b : Block) (f : TxFrame) : Block := b.setMac { b.mac with order := b.mac.order.erase f }

/-- A frame of a queue leaves without being sent: its packet goes with it. -/
def Block.dropFrame (b : Block) (f : TxFrame) : Block :=
  let b := b.unorder f
  match f.queue with
  | some n => b.popHead n
  | none => b

/-- Frames whose packets their queue has lost (R329, R335, R340) leave the order: as many of the oldest as there are
packets too few. -/
def Block.syncOrder (b : Block) : Block :=
  let ns := (b.mac.order.filterMap (fun f => f.queue)).dedup
  b.forEach ns (fun b n =>
    let l := b.mac.order.filter (fun f => f.queue == some n)
    let extra := l.length - (b.q n).pkts.length
    b.forEach (l.take extra) Block.unorder)

/-- The next hop is decided at each attempt (R303): a frame of the mesh is readdressed, or dropped. `none`: dropped. A leaf
repeats nothing (R289). -/
def Block.rehop (b : Block) (f : TxFrame) : Option TxFrame × Block :=
  if f.final = 0 then (some f, b)
  else if 31 < f.hdr.hop then (none, (b.dropFrame f).count R.MSH_HOP_LIMIT_COUNT R.MSH_TROUBLE_HOP_LIMIT)
  else match (if b.role = 2 ∧ f.src ≠ 0 then none else b.nextHop f.final) with
  | none => (none, (b.dropFrame f).count R.MSH_NO_ROUTE_COUNT R.MSH_TROUBLE_NO_ROUTE)
  | some (n, pb, alt) =>
    if f.src ≠ 0 ∧ n = f.src then (none, (b.dropFrame f).count R.MSH_LOOP_DROP_COUNT R.MSH_TROUBLE_LOOP_DROP)
    else
      let band := bits pb 2 1
      let g := if n = f.hdr.dst then f
        else { f.unsealed with band := band, hdr := { f.hdr with dst := n, mode := b.peerMode n band }, viaAlt := alt }
      let g := { g with counted := true, port := if band = 0 then none else some (pb % 4) }
      let b := if f.src ≠ 0 ∧ f.counted = false then b.bump R.MSH_FWD_COUNT else b
      (some g, b.setMac { b.mac with order := b.mac.order.map (fun x => if x = f then g else x) })

/-- The mode of a frame toward its peer is chosen anew at each attempt (R203), but for a protected frame that is sent again with
its MIC (R272, R484). -/
def Block.remode (b : Block) (f : TxFrame) : TxFrame × Block :=
  if f.sealed ∧ f.hdr.sec then (f, b)
  else
    let g := { f with hdr := { f.hdr with mode := b.peerMode f.hdr.dst f.band } }
    (g, b.setMac { b.mac with order := b.mac.order.map (fun x => if x = f then g else x) })

/-- The driver that a band's frame needs is enabled; where one is not, it is requested (R260, R447). -/
def Block.startGranted (b : Block) (f : TxFrame) : Bool × Block :=
  let loads := if f.band = 0 then (b.portsFor f).map Load.drvH else [Load.drvL]
  if loads.all b.loaded then (true, b) else (false, b.forEach loads (fun b l => b.request l (some b.tick)))

/-- A frame is taken by the MAC for sending: a packet of a HOLD queue is being read, another is given up (R331). -/
def Block.takePacket (b : Block) (f : TxFrame) : TxFrame × Block :=
  match f.queue with
  | some n =>
    if (b.q n).hold then (f, b.modQ n (fun q => { q with reading := true }))
    else ({ f with queue := none }, b.popHead n)
  | none => (f, b)

/-- The access of a band starts anew. -/
def Block.clearAccess (b : Block) (band : Nat) : Block :=
  b.modAccess band (fun a => { a with be := none, tries := 0, count := none, refused := false, forReply := false })

/-- A frame may follow `f` in its transmission (R174–R176): a DATA frame to the same hop with the header fields that a
follow-on frame takes from the first, not sent before, whose packet its queue need not hold. -/
def Block.followsOn (b : Block) (f g : TxFrame) : Bool :=
  g.band == f.band && g.kind == .other && g.hdr.ftype == 1 && f.hdr.ftype == 1 && g.hdr.dst == f.hdr.dst &&
    g.hdr.cls == f.hdr.cls && g.hdr.hop == f.hdr.hop && g.hdr.ackReq == f.hdr.ackReq && g.final == f.final && g.src == f.src &&
    g.retries == 0 && !g.sealed && !g.payload.isEmpty && b.queueTurn g &&
    (match g.queue with | some n => !(b.q n).hold | none => true)

/-- Up to `n` frames of the order join a frame that is sent, while the transmission stays permitted (R174). -/
def Block.addFollow : Nat → TxFrame → Block → TxFrame × Block
  | 0, f, b => (f, b)
  | n + 1, f, b =>
    match b.mac.order.find? (b.followsOn f) with
    | none => (f, b)
    | some g =>
      let f' := { f with follow := f.follow ++ [(g.hdr, g.payload)] }
      if b.permitted f' ∧ b.budgetOk f' then
        let (_, b) := (b.unorder g).takePacket g
        let b := if g.src ≠ 0 ∧ g.counted = false then b.bump R.MSH_FWD_COUNT else b
        Block.addFollow n f' b
      else (f, b)

/-- The frame with a long-span interleaving of `span` half-cycles (R176, R177): a DATA frame of class 0 with a payload, before
its first transmission, where it stays permitted. -/
def Block.disperse (b : Block) (f : TxFrame) (span : Nat) : TxFrame :=
  let g := { f with hdr := { f.hdr with span := span } }
  if span ≤ 8 ∧ f.hdr.ftype = 1 ∧ f.hdr.cls = 0 ∧ f.sealed = false ∧ f.payload.isEmpty = false ∧ b.permitted g ∧ b.budgetOk g
  then g else f

/-- The frame is sent: it is ready to start, with up to `train` frames that follow it or an interleaving of `span`
half-cycles, and the access is over. -/
def Block.grantFrame (b : Block) (f : TxFrame) (span train : Nat) : Block :=
  let g := if span = 0 then f else b.disperse f span
  let (g, b) := (b.unorder f).takePacket g
  let (g, b) := if g.hdr.span = 0 ∧ g.sealed = false then Block.addFollow (min train 255) g b else (g, b)
  (b.clearAccess f.band).makeReady g

/-- A busy channel at count zero (R261): the exponent widens; after CA_TRIES the access fails and the frame stays. -/
def Block.accessBusy (b : Block) (band be : Nat) : Block :=
  let tries := (b.access band).tries + 1
  if b.get R.MAC_ACCESS_CA_TRIES ≤ tries then (b.clearAccess band).count R.MAC_CA_FAIL_COUNT R.MAC_TROUBLE_CA_FAIL
  else b.modAccess band (fun a => { a with tries := tries, count := none, be := some (min (b.get R.MAC_ACCESS_BE_MAX) (be + 1)) })

/-- A frame longer than every permitted run (R262). -/
def Block.tooLong (b : Block) (f : TxFrame) : Bool :=
  decide ((if f.band = 0 then b.get R.MAC_RUN_MAX else b.runMaxL) * 40000 < b.allowance f)

/-- One unit boundary of the access of frame `f` (R261). -/
def Block.contend (b : Block) (f : TxFrame) (rng span train : Nat) : Block :=
  let band := f.band
  let be := match (b.access band).be with
    | some e => e
    | none => min (b.get R.MAC_ACCESS_BE_MAX) (b.get R.MAC_ACCESS_BE_MIN + f.retries)
  let count := match (b.access band).count with
    | some c => c
    | none => rng % 65536 % 2 ^ be
  let b := b.modAccess band (fun a => { a with be := some be, count := some count })
  if b.permitted f = false then b
  else if b.budgetOk f = false then
    if (b.access band).refused then b
    else (b.count R.MAC_BUDGET_REFUSED_COUNT R.MAC_TROUBLE_BUDGET_REFUSED).modAccess band (fun a => { a with refused := true })
  else if count ≠ 0 then (if b.busy band then b else b.modAccess band (fun a => { a with count := some (count - 1) }))
  else if b.busy band then b.accessBusy band be
  else
    match b.startGranted f with
    | (true, b) => b.grantFrame f span train
    | (false, b) => b.accessBusy band be

/-- CONTENTION_ACCESS (R261, R262, R303): the first frame of the band's order that R267 and its queue let go. `rng` is the generator's
number, used where a backoff is drawn; `span` and `train` are what the MAC's program asks for the frame (assumption 96). -/
def Block.contention (b : Block) (band rng span train : Nat) : Block :=
  let b := b.syncOrder
  if (b.access band).forReply then b else
  match b.mac.order.find? (fun f => f.band == band && f.kind == .other && !b.peerBusy f && b.queueTurn f) with
  | none => b
  | some f =>
    match b.rehop f with
    | (none, b) => b
    | (some f, b) =>
      if f.band ≠ band then b
      else
      let (f, b) := b.remode f
      if b.hasGrid ∧ b.tooLong f then
        let (f, b) := (b.unorder f).takePacket f
        ((b.clearAccess band).count R.MAC_TOO_LONG_COUNT R.MAC_TROUBLE_TOO_LONG).unacked f
      else b.contend f rng span train

/-- What becomes of a frame that is handed on (R273, R302): committed, refused by a queue, or rejected. -/
inductive Handed where
  | committed | refused | rejected
  deriving DecidableEq, Repr

/-- The command codes that the chapters define (R302, R442, R476, R485, R486, R490). -/
def commandCode (c : Nat) : Bool :=
  c == 0x10 || c == 0x11 || c == 0x12 || c == 0x13 || c == 0x14 || c == 0x16 || (decide (0x20 ≤ c ∧ c ≤ 0x24))

/-- A frame for the node itself (R302, R303, R361): a command is kept for its own operation, one that no chapter defines is
rejected and counted (R5); a custody frame goes to custody, other data to `queue`. -/
def Block.handOwn (b : Block) (d : Delivered) (pl : List Byte) (queue : Nat) : Handed × Block :=
  let origin := leAt pl 2 2
  if d.hdr.ftype = 5 then
    let code := leAt pl 6 1
    if pl.length < 8 then (.rejected, b)
    else if commandCode code = false then (.rejected, b.bump R.MSH_UNDEF_COUNT)
    else
      let m : CmdMsg := { code := code, origin := origin, via := d.hdr.src, band := d.band, port := d.port, body := pl.drop 8 }
      (.committed, b.setMac { b.mac with commands := b.mac.commands ++ [m] })
  else
    let body := pl.drop 6
    let kind := leAt body 2 1
    if 16 ≤ body.length ∧ (b.cus (leAt body 0 2)).present ∧ (kind = 1 ∨ kind = 2) then
      (.committed, b.setCustody { b.custody with inbox := b.custody.inbox ++ [(origin, body)] })
    else
      let b := b.put ctxMac queue 0 0 body
      (if b.statusOf ctxMac = 7 then .committed else .refused, b)

/-- A frame for another node is queued to be repeated (R303): through `queue`, with its class kept. What becomes of it is
decided at each attempt. -/
def Block.repeatFrame (b : Block) (d : Delivered) (pl : List Byte) (queue : Nat) : Handed × Block :=
  let final := leAt pl 0 2
  let b := b.put ctxMac queue final 0 pl
  if b.statusOf ctxMac = 7 then
    (.committed, b.sendMesh d.hdr.ftype d.hdr.cls final pl (d.hdr.hop + 1) d.hdr.src (some queue))
  else (.refused, b)

/-- A broadcast frame, or one to a group that the node belongs to (R304). -/
def Block.handGroup (b : Block) (d : Delivered) (pl : List Byte) (queue : Nat) : Handed × Block :=
  let final := leAt pl 0 2
  let origin := leAt pl 2 2
  let bseq := leAt pl 4 2
  let seen := Tab.get 0 b.mac.bseqSeen origin
  if final ≠ 0xFFFF ∧ b.bit R.MAC_GROUP_MASK (final - 0xFFF0) = false then (.rejected, b)
  else if origin = b.short ∨ (seen ≠ 0 ∧ serialAbove 16 bseq (seen - 1) = false) then
    (.rejected, b.bump R.MSH_BCAST_DUP_COUNT)
  else
    let b := b.setMac { b.mac with bseqSeen := Tab.set 0 b.mac.bseqSeen origin (bseq + 1) }
    let (r, b) := b.handOwn d pl queue
    if b.role ≠ 1 then (r, b)
    else if 31 ≤ d.hdr.hop then (r, b.count R.MSH_HOP_LIMIT_COUNT R.MSH_TROUBLE_HOP_LIMIT)
    else (r, (b.bump R.MSH_FWD_COUNT).sendMesh d.hdr.ftype d.hdr.cls 0xFFFF pl (d.hdr.hop + 1) d.hdr.src)

/-- A frame is handed on (R302–R304). -/
def Block.handOn (b : Block) (d : Delivered) (pl : List Byte) (queue : Nat) : Handed × Block :=
  if pl.length = 0 then (.committed, b)
  else if pl.length < 6 then (.rejected, b.bump R.MSH_UNDEF_COUNT)
  else
    let final := leAt pl 0 2
    if groupAddr final then b.handGroup d pl queue
    else if final = b.short then b.handOwn d pl queue
    else b.repeatFrame d pl queue

/-- A frame from a node reached the coordinator (R265, R292, R307). -/
def Block.heard (b : Block) (a : Nat) : Block :=
  if b.role = 0 ∧ b.hasNode a then
    let b := b.setNode a 40 8 (stamp64 b.now)
    if b.node a 11 1 = 3 then
      let b := ((b.setNode a 11 1 2).setNode a 12 2 0).showMesh
      { b with mesh := { b.mesh with routeDue := true } }
    else b
  else b

/-- The frames of a transmission in order (R273, R274): the counter up to which they are to be acknowledged, and whether an
acknowledgement is requested. `pos0`: the next one is the first of its transmission. -/
def Block.rxParts (d : Delivered) (queue : Nat) : List RxPart → Bool → Option Nat → Block → Option Nat × Block
  | [], _, acked, b => (acked, b)
  | p :: l, pos0, acked, b =>
    match b.openPart d.hdr p false with
    | (none, b) => (acked, b.add R.MAC_ORDER_DROP_COUNT l.length)
    | (some (pl, tag), b) =>
      match b.dupCheck d.hdr.src d.hdr.cls p.ctr p.epoch tag pos0 with
      | (.duplicate, b) => Block.rxParts d queue l false (some p.ctr) (b.bump R.MAC_DUP_COUNT)
      | (.replay, b) => (acked, (b.count R.MAC_REPLAY_COUNT R.MAC_TROUBLE_REPLAY).add R.MAC_ORDER_DROP_COUNT l.length)
      | (_, b) =>
        let b := (b.heard d.hdr.src).heard (leAt pl 2 2)
        match b.handOn d pl queue with
        | (.refused, b) => (acked, (b.bump R.MAC_ADMIT_REFUSED_COUNT).add R.MAC_ORDER_DROP_COUNT l.length)
        | (.rejected, b) => Block.rxParts d queue l false acked b
        | (.committed, b) => Block.rxParts d queue l false (some p.ctr) (b.markDelivered d.hdr.src d.hdr.cls p.ctr)

/-- DATA_RX (R268, R270, R273, R274): the first delivered DATA or COMMAND transmission. `queue` is the queue that the image
names for frames that are repeated or handed on as data. -/
def Block.dataRx (b : Block) (queue : Nat) : Block :=
  match b.takeDelivered (fun d => d.hdr.ftype == 1 || d.hdr.ftype == 5) with
  | none => b
  | some (d, b) =>
    let (acked, b) := Block.rxParts d queue d.parts true none b
    match acked with
    | some c =>
      let want := d.parts.any (fun x => x.ackReq && decide (x.ctr ≤ c)) && d.hdr.dst == b.short && !groupAddr d.hdr.dst
      if want then (if d.hdr.cls = 1 then b.queueAck d c else b.queueBlockAck d) else b
    | none => b

/-- A reply that is to be sent now may be sent (R271, R279). -/
def Block.replyOk (b : Block) (f : TxFrame) : Bool := b.mayTransmit && !b.forbidden f.band && b.budgetOk f

/-- An ACK that is sent now ends within the run of CONTENTION or WAKE slots in force, in Band L before the next QUIET slot
(R259); where the node has no grid yet, nothing bounds it. -/
def Block.ackFits (b : Block) (f : TxFrame) : Bool :=
  !b.hasGrid || (decide (b.tick * 40000 + b.airtimeOf f ≤ b.runFor f * 40000) &&
    (f.band == 1 || b.slotIs 0 0 || b.slotIs 0 4))

/-- Of two ACKs due at once (R271): whether the first comes first, by the tick of its verdict, then its destination. -/
def ackFirst (f g : TxFrame) : Bool := decide (f.after < g.after ∨ (f.after = g.after ∧ f.hdr.dst ≤ g.hdr.dst))

/-- ACK_TX (R268, R271): the ACK of the band whose verdict came first, with the pending bit sampled; others due with it are
blocked. -/
def Block.ackTx (b : Block) (band : Nat) : Block :=
  let l := b.mac.order.filter (fun f => f.kind == .ack && f.band == band)
  match l with
  | [] => b
  | f :: rest =>
    let b := b.forEach (f :: rest) Block.unorder
    let b := b.forEach rest (fun b _ => b.replyBlocked)
    let f := rest.foldl (fun f g => if ackFirst f g then f else g) f
    let pend := decide (b.pendingFor f.hdr.dst ≠ 0)
    let f := { f with hdr := { f.hdr with pending := pend } }
    if b.replyOk f ∧ b.ackFits f then
      let b := if pend ∧ b.dozingChild f.hdr.dst then
          b.setMac { b.mac with childHold := Tab.set 0 b.mac.childHold f.hdr.dst (b.tick + b.get R.MAC_BA_WAKE_HOLD) }
        else b
      b.makeReady f
    else b.replyBlocked

/-- A BLOCK_ACK with what it acknowledges (R270): ACKED, the pending bit, RESET. -/
def Block.blockAckFrame (b : Block) (f : TxFrame) : TxFrame :=
  let r := recAt f.hdr.dst 0
  let e := match b.sec.cur with | some (e, _) => e | none => 0
  let flags := b.tab (r + 20) 1
  let have' := flags.testBit 4 && flags % 16 == e && b.tab (r + 8) 4 != 0
  let pend := decide (b.pendingFor f.hdr.dst ≠ 0)
  { f with payload := leBytes (if have' then b.tab (r + 8) 4 else 0) 4 ++
      leBytes ((if pend then 1 else 0) + (if have' then 0 else 2)) 1 ++ [0, 0, 0] }

/-- The run of CONTENTION slots in force began late enough for a queued BLOCK_ACK (R270). -/
def Block.runServes (b : Block) (f : TxFrame) : Bool :=
  match (b.access f.band).runFrom with | some t => decide (f.after ≤ t) | none => false

/-- BLOCK_ACK_TX (R260, R261, R270, R271): one unit boundary of the access of the first queued BLOCK_ACK of the band that a
contention run serves. One that may not be sent, or does not fit its run any more, is blocked. `rng` is the generator's number. -/
def Block.blockAckTx (b : Block) (band rng : Nat) : Block :=
  match b.mac.order.find? (fun f => f.kind == .blockAck && f.band == band && b.runServes f) with
  | none => b
  | some f =>
    let a := b.access band
    if a.count.isSome ∧ a.forReply = false then b
    else
      let g := b.blockAckFrame f
      if b.replyOk g ∧ b.permitted g then
        let b := b.setMac { b.mac with order := b.mac.order.map (fun x => if x = f then g else x) }
        (b.modAccess band (fun a => { a with forReply := true })).contend g rng 0 0
      else ((b.unorder f).clearAccess band).replyBlocked

/-- The counters of a transmission's frames. -/
def TxFrame.counters (f : TxFrame) : List Nat := f.hdr.ctr :: f.follow.map (fun x => x.1.ctr)

/-- Acknowledge a waiting transmission up to a counter (R269, R270): done, or the rest is unacknowledged. -/
def Block.acknowledge (b : Block) (w : Waiting) (ctr : Nat) (final : Bool) : Block :=
  let f := w.frame
  let last := (f.counters.getLast?).getD f.hdr.ctr
  let b := b.setMac { b.mac with waiting := b.mac.waiting.erase w }
  if last ≤ ctr then (b.ladderOk f.hdr.dst f.band).finishFrame f
  else
    match f.follow.dropWhile (fun x => decide (x.1.ctr ≤ ctr)) with
    | (h, p) :: l =>
      if f.hdr.ctr ≤ ctr then
        let g := { f with hdr := { f.hdr with ctr := h.ctr, len := p.length, ackReq := h.ackReq }, payload := p, follow := l }
        if final then b.unacked g else b.setMac { b.mac with waiting := b.mac.waiting ++ [{ w with frame := g }] }
      else if final then b.unacked f else b.setMac { b.mac with waiting := b.mac.waiting ++ [w] }
    | [] => if final then b.unacked f else b.setMac { b.mac with waiting := b.mac.waiting ++ [w] }

/-- A frame from the parent keeps a dozing node awake (R276). -/
def Block.keepAwake (b : Block) : Block :=
  if b.mode = 8 then b.setMac { b.mac with holdUntil := some (b.tick + b.get R.MAC_BA_WAKE_HOLD) } else b

/-- ACK_RX (R269, R276). -/
def Block.ackRx (b : Block) : Block :=
  match b.takeDelivered (fun d => d.hdr.ftype == 2) with
  | none => b
  | some (d, b) =>
    let b := if d.hdr.pending ∧ d.hdr.src = b.get R.TIM_PARENT_PARENT then b.keepAwake else b
    match b.mac.waiting.find? (fun w => !w.blockAck && w.frame.hdr.dst == d.hdr.src &&
        w.frame.counters.contains d.hdr.ctr) with
    | some w => b.acknowledge w d.hdr.ctr true
    | none => b

/-- The end of the third unit after the one that holds a transmission's last chip (R269). -/
def Waiting.ackBy (w : Waiting) : Nat :=
  let u := unitTicks w.frame.band
  u * ((w.doneTick - 1) / u + 4)

/-- ACK_TIMEOUT (R269): the first transmission of the band whose ACK has not come in time. -/
def Block.ackTimeout (b : Block) (band : Nat) : Block :=
  match b.mac.waiting.find? (fun w => !w.blockAck && w.frame.band == band && decide (w.ackBy ≤ b.tick)) with
  | some w => (b.setMac { b.mac with waiting := b.mac.waiting.erase w }).unacked w.frame
  | none => b

/-- BLOCK_ACK_RX (R270). -/
def Block.blockAckRx (b : Block) : Block :=
  match b.takeDelivered (fun d => d.hdr.ftype == 3) with
  | none => b
  | some (d, b) =>
    match d.parts with
    | [] => b
    | p :: _ =>
      match b.openPart d.hdr p false with
      | (none, b) => b
      | (some (pl, tag), b) =>
        match b.dupCheck d.hdr.src 1 p.ctr p.epoch tag true with
        | (.duplicate, b) => b.bump R.MAC_DUP_COUNT
        | (.replay, b) => b.count R.MAC_REPLAY_COUNT R.MAC_TROUBLE_REPLAY
        | (_, b) =>
          let b := b.markDelivered d.hdr.src 1 p.ctr
          if (leAt pl 4 1).testBit 1 then b
          else match b.mac.waiting.find? (fun w => w.blockAck && w.frame.hdr.dst == d.hdr.src) with
            | some w => b.acknowledge w (leAt pl 0 4) false
            | none => b

/-- BLOCK_ACK_TIMEOUT (R270): no covering BLOCK_ACK by the (BA_TIMEOUT + 1)-th anchor. -/
def Block.blockAckTimeout (b : Block) (band : Nat) : Block :=
  match b.mac.waiting.find? (fun w => w.blockAck && w.frame.band == band && decide (b.get R.MAC_BA_BA_TIMEOUT < w.anchors)) with
  | some w => (b.setMac { b.mac with waiting := b.mac.waiting.erase w }).unacked w.frame
  | none => b

/-- POLL_RX (R276). -/
def Block.pollRx (b : Block) : Block :=
  match b.takeDelivered (fun d => d.hdr.ftype == 6) with
  | some (d, b) => if d.hdr.src = b.get R.TIM_PARENT_PARENT then b.keepAwake else b
  | none => b

/-- The slices other than the supervisor's. -/
def Block.otherSlices (b : Block) : List Nat := (List.range 8).filter (fun s => s != b.supvSlice)

/-- The drivers are disabled (R447: reductions take effect at once). -/
def Block.driversOff (b : Block) : Block := (b.set R.PWR_GATES_DRV_H 0).set R.PWR_GATES_DRV_L 0

/-- The enables of the drivers of permitted bands are requested (R447). -/
def Block.requestDrivers (b : Block) : Block :=
  let b := if b.forbidden 0 then b else b.requestBand 0
  if b.forbidden 1 then b else b.requestBand 1

/-- What Doze held back is requested, in the order of R448's example: DDR4, the slices, the drivers. -/
def Block.requestWake (b : Block) : Block :=
  ((b.request .ddr none).forEach b.otherSlices (fun b s => b.request (.slice s) none)).requestDrivers

/-- The guard exceeds half a beacon period (R276). -/
def Block.guardTooLong (b : Block) : Bool :=
  match b.grid.cur with
  | some g => decide (b.periodHalves * g.t < b.get R.MAC_GUARD * 4 * 65536)
  | none => false

/-- WAKE_WINDOW_OPEN (R276, R438, R447): the slices and DDR4 are ungated, the drivers enabled. Where the guard has become too
long for a window, the node searches instead. -/
def Block.wakeOpen (b : Block) : Block :=
  if b.mode ≠ 8 then b
  else
    let b := (b.setMac { b.mac with wakeOpen := true }).set R.MAC_STAT_DOZING 0
    let b := b.requestWake.showGuard
    if b.guardTooLong then b.enterSearch else b

/-- The other slices go to retention, DDR4 to self-refresh (R438). -/
def Block.retain (b : Block) : Block :=
  let b := b.forEach (b.otherSlices.filter (fun s => b.bit R.PWR_GATES_SLICE_ON s)) (fun b s =>
    (b.raise R.PWR_GATES_SLICE_RET s).modSlice s (fun x => { x with asleep := true, fill := spindlesOf s }))
  { b with power := { b.power with ddrAwake := false } }

/-- A wake window or hold ends (R276, R438, R458): the leaf dozes again. -/
def Block.dozeAgain (b : Block) : Block :=
  ((b.setMac { b.mac with wakeOpen := false, holdUntil := none }).set R.MAC_STAT_DOZING 1).driversOff.retain

/-- WAKE_HOLD_EXPIRY (R276): the hold has run out; where it has no length, the wake slot has ended. -/
def Block.wakeHoldExpiry (b : Block) : Block :=
  let held : Bool := match b.mac.holdUntil with | some t => decide (b.tick < t) | none => false
  if b.mode = 8 ∧ held = false ∧ b.inSlot (b.node b.short 26 2) = false then b.dozeAgain else b

/-- BEACON_MISS (R276, R277): an attended opportunity without resynchronisation; the receive window of a dozing leaf closes. -/
def Block.beaconMiss (b : Block) : Block :=
  if b.role = 0 ∨ b.mac.resynced ∨ b.hasGrid = false then b.setMac { b.mac with resynced := false }
  else
    let n := b.get R.MAC_STAT_MISSES + 1
    let b := (b.bump R.MAC_BEACON_MISS_COUNT).usat R.MAC_STAT_MISSES n
    let b := if n = 3 then
        let b := (b.stick R.MAC_TROUBLE_BEACON_LOST).enterHoldover
        b.enterSearch
      else if b.mode = 8 ∧ b.mac.holdUntil = none then b.dozeAgain
      else b
    b.showGuard

/-- BEACON_SEARCH_TIMEOUT (R277): 8 beacon periods of searching. -/
def Block.searchTimeout (b : Block) : Block :=
  if b.get R.MAC_STAT_STATE = 4 ∧ (b.mode = 6 ∨ b.mode = 7) ∧ 8 * b.periodHalves ≤ b.mac.search then b.askMode 5 else b

/-- QUIET_WINDOW_START and QUIET_WINDOW_END (R280, R281): the band lies in a quiet window, or no longer does. -/
def Block.quietWindow (b : Block) (band : Nat) (v : Bool) : Block :=
  if b.quietFor band 0 = v then (b.setMac { b.mac with inQuiet := b.mac.inQuiet.set band v }).evalQuiet else b

/-- LEASE_EXPIRY (R265): the lease of a lost node has run out, and its address is released. -/
def Block.leaseExpiry (b : Block) (a : Nat) : Block :=
  if b.role = 0 ∧ b.hasNode a ∧ b.node a 11 1 = 3 ∧ b.node a 12 2 = 0 then (b.emptyNode a).showMesh else b

/-- SURVEY_MIN_EXPIRY (R440): SURVEY_MIN seconds in M4 with a candidate recorded. -/
def Block.surveyExpiry (b : Block) : Block :=
  if b.mode = 4 ∧ b.flag R.PWR_CFG_HOLD_SURVEY = false ∧ b.mac.candidates.isEmpty = false ∧
    b.power.modeTick + 25000 * b.get R.PWR_CFG_SURVEY_MIN ≤ b.tick then b.askMode 5 else b

/-- Move the TIMING and COLLECT roles of a row to lower-scoring slots that hold CONTENTION or WAKE (R285): `n` exchanges
from the highest-scoring moved slot on; the row and the fall of the score. -/
def moveRoles (score : Nat → Nat) : List Nat → List Nat → List Nat × Nat
  | [], row => (row, 0)
  | k :: l, row =>
    let role := row.getD k 5
    let better := (List.range 8).filter (fun j => (row.getD j 5 == 0 || row.getD j 5 == 4) && decide (score j < score k))
    match better with
    | [] => moveRoles score l row
    | j :: js =>
      let best := js.foldl (fun x y => if score y < score x then y else x) j
      let row' := (row.set k (row.getD best 0)).set best role
      let (r, g) := moveRoles score l row'
      (r, g + (score k - score best))

/-- The 90th percentile of some values, by nearest rank (DESIGN CHOICE, assumption 133). -/
def percentile90 (l : List Nat) : Option Nat := (l.mergeSort (fun x y => decide (x ≤ y)))[ceilDiv (9 * l.length) 10 - 1]?

/-- A node's largest bin that overlaps slot `k` of a half-cycle of `n` ticks (R45, R145, R285); 0xFF bins are left out. -/
def slotNoise (n k : Nat) (bins : List Nat) : Option Nat :=
  let lo := k * n / 8 * 64
  let hi := (k + 1) * n / 8 * 64
  let l := (bins.zipIdx.filter (fun e => e.1 != 0xFF && decide (lo < (e.2 + 1) * n ∧ e.2 * n < hi))).map Prod.fst
  if l.isEmpty then none else some (l.foldl max 0)

/-- The score of slot `k` over the nodes that reported (R285). A slot that no node observed has no stated score. -/
def Block.slotScore (b : Block) (profiles : List (List Nat)) (k : Nat) : Nat × Block :=
  match percentile90 (profiles.filterMap (slotNoise (b.get R.GLB_GRID_N) k)) with
  | some v => (v, b)
  | none => (Config.freeValue b.freeCtr, b.fresh.2)

/-- The scores of the slots from `k` on. -/
def Block.slotScores (profiles : List (List Nat)) : Nat → Nat → Block → List Nat × Block
  | 0, _, b => ([], b)
  | n + 1, k, b =>
    let (v, b) := b.slotScore profiles k
    let (l, b) := Block.slotScores profiles n (k + 1) b
    (v :: l, b)

/-- The rows of the map with their roles re-placed by the slots' scores, each with the fall of its score (R285). -/
def Block.mapRows (b : Block) (scores : List Nat) : List (List Nat × Nat) :=
  (List.range (b.get R.MAC_GRID_MAP_LEN)).map (fun r =>
    let w := if b.get R.TIM_TREE_BAND = 0 then b.get (R.MAC_ROW_H r) else b.get (R.MAC_ROW_L r)
    let row := (List.range 8).map (fun k => bits w (4 * k) 4)
    let sc := fun k => scores.getD k 0
    let moved := (List.range 8).filter (fun k => row.getD k 5 == 2 || row.getD k 5 == 3)
    moveRoles sc (moved.mergeSort (fun x y => decide (sc y ≤ sc x))) row)

/-- The map with new rows in the timing band and the other band's as they are (R254). -/
def Block.mapOfRows (b : Block) (rows : List (List Nat)) : List Byte :=
  let band := b.get R.TIM_TREE_BAND
  (rows.zipIdx).flatMap (fun e => (List.range 8).map (fun k =>
    let other := bits (if band = 0 then b.get (R.MAC_ROW_L e.2) else b.get (R.MAC_ROW_H e.2)) (4 * k) 4
    let own := e.1.getD k 0
    BitVec.ofNat 8 (if band = 0 then own + 16 * other else other + 16 * own)))

/-- MAP_EVAL (R285): the roles are re-placed by the noise phase profiles of the nodes that reported, in the timing band. -/
def Block.mapEval (b : Block) (profiles : List (List Nat)) : Block :=
  if b.role ≠ 0 ∨ leAt b.macRole 0x15 1 = 0 ∨ b.hasGrid = false then b
  else
    let (scores, b) := Block.slotScores profiles 8 0 b
    let rows := b.mapRows scores
    let gain := (rows.map (fun r => r.2)).sum
    if gain < leAt b.macRole 0x18 1 ∨ gain = 0 then b
    else (b.setGrid { b.grid with nextMap := b.mapOfRows (rows.map (fun r => r.1)) }).bump R.MAC_GRID_MAP_SEQ

end Sys2Proof.Machine
end

