-- ==== Sys2Proof/Machine/Routing.lean ====
section
/-! DEFINITION. Link cost, data routes and the timing tree (R243, R298–R300, R306), and the slots the coordinator assigns
(R308, R309, R311). -/

namespace Sys2Proof.Machine

/-- The data cost of R298 from MARGIN, RETRY, BUDGET_LEFT and U_LINK (32-bit arithmetic; it does not wrap for the ranges
of the weights). -/
def Block.costD (b : Block) (m : Int) (r left u : Nat) : Nat :=
  let mMin := b.sget R.MSH_COST_W1_M_MIN
  let mRef := b.sget R.MSH_COST_W1_M_REF
  if m = -32768 ∨ m < mMin ∨ left = 0 then 0xFFFF
  else
    let c := b.get R.MSH_COST_W0_W_BASE
    let c := if m < mRef then c + b.get R.MSH_COST_W0_W_MARGIN * (mRef - m).toNat else c
    let c := c + b.get R.MSH_COST_W0_W_RETRY * r / 16
    let c := c + b.get R.MSH_COST_W1_W_BUDGET * (255 - left) / 16
    let t := if u = 0xFFFFFFFF then 255 else min 255 (u / 100)
    min 0xFFFE (c + b.get R.MSH_COST_W1_W_TIME * t)

/-- COST_T of a link-state entry (R295): u_link² + SIGMA² in ps², saturating. -/
def Block.costT (b : Block) (u sigma : Nat) : Nat × Block :=
  if u = 0xFFFFFFFF then (0xFFFFFFFF, b)
  else
    let (v, b) := b.quot (u * u * 10000 + sigma * sigma) 10000
    (min 0xFFFFFFFF v, b)

/-- A link-state entry in use (R295): its index, reporter, peer, PORT_BAND, cost under the weights in force and COST_T. -/
structure LinkEnt where
  idx : Nat
  src : Nat
  peer : Nat
  pb : Nat
  cost : Nat
  costT : Nat
  deriving DecidableEq, Repr

/-- The link-state entry at an index, with its cost under the weights in force (R298): DOWN or STALE costs 0xFFFF. -/
def Block.linkEnt (b : Block) (i : Nat) : LinkEnt :=
  let a := linkAt i
  let pb := b.tab (a + 4) 1
  let cost := if pb.testBit 3 ∨ (b.tab (a + 22) 1).testBit 0 then 0xFFFF
    else b.costD (sext 16 (b.tab (a + 6) 2)) (b.tab (a + 10) 1) (b.tab (a + 11) 1) (b.tab (a + 12) 4)
  { idx := i, src := b.tab a 2, peer := b.tab (a + 2) 2, pb := pb, cost := cost, costT := b.tab (a + 24) 4 }

/-- The link-state table. -/
def Block.linkEnts (b : Block) : List LinkEnt := b.linksUsed.map b.linkEnt

/-- A link that carries a route, as seen from one end (R299): the larger cost of both directions; its timing cost is the
smaller of the two reports (a timing child alone measures it). -/
structure Edge where
  src : Nat
  peer : Nat
  pb : Nat
  cost : Nat
  costT : Nat
  deriving DecidableEq, Repr

/-- The edges of a link-state table (R299): links that both ends report, in one band, with a cost below 0xFFFF. -/
def edgesOf (l : List LinkEnt) : List Edge :=
  l.filterMap (fun e =>
    match l.find? (fun r => r.src == e.peer && r.peer == e.src && bits r.pb 2 1 == bits e.pb 2 1) with
    | some r =>
      let c := max e.cost r.cost
      if c = 0xFFFF then none
      else some { src := e.src, peer := e.peer, pb := e.pb % 8, cost := c, costT := min e.costT r.costT }
    | none => none)

/-- What the search has reached (R243, R300): the cost, the hops and the predecessor. -/
structure Reach where
  cost : Nat
  hops : Nat
  parent : Nat
  deriving DecidableEq, Repr

/-- Lower cost first, then fewer hops, then the lower address (R243, R300). -/
def Reach.better (x y : Reach) : Bool :=
  decide (x.cost < y.cost ∨ (x.cost = y.cost ∧ (x.hops < y.hops ∨ (x.hops = y.hops ∧ x.parent < y.parent))))

/-- One round of the search: every edge out of a node that forwards. -/
def relaxRound (edges : List Edge) (weight : Edge → Nat) (forwards : Nat → Bool) (t : List (Nat × Reach)) :
    List (Nat × Reach) :=
  edges.foldl (fun acc e =>
    match t.lookup e.src with
    | some r =>
      let x : Reach := { cost := r.cost + weight e, hops := r.hops + 1, parent := e.src }
      if forwards e.src = false ∨ e.peer = 1 then acc
      else match acc.lookup e.peer with
        | some y => if x.better y then acc.map (fun p => if p.1 = e.peer then (p.1, x) else p) else acc
        | none => acc ++ [(e.peer, x)]
    | none => acc) t

/-- The shortest-path tree from the coordinator, with paths of at most 32 hops (R243, R300). -/
def treeFrom (edges : List Edge) (weight : Edge → Nat) (forwards : Nat → Bool) : Nat → List (Nat × Reach) → List (Nat × Reach)
  | 0, t => t
  | n + 1, t => treeFrom edges weight forwards n (relaxRound edges weight forwards t)

/-- The path of a node up to the coordinator, itself first. -/
def upPath (t : List (Nat × Reach)) : Nat → Nat → List Nat
  | 0, _ => []
  | n + 1, a => if a = 1 then [1] else match t.lookup a with
    | some r => a :: upPath t n r.parent
    | none => []

/-- The path of a node, where it is in the tree. -/
def pathOf (t : List (Nat × Reach)) (a : Nat) : List Nat := upPath t 34 a

/-- The cost of a node in the tree. -/
def costOf (t : List (Nat × Reach)) (a : Nat) : Nat := match t.lookup a with | some r => r.cost | none => 0

/-- The nodes on the tree's route between two nodes, and its cost. -/
def between (t : List (Nat × Reach)) (a c : Nat) : List Nat × Nat :=
  let pa := pathOf t a
  let pc := pathOf t c
  let top := (pa.find? pc.contains).getD 1
  (pa.takeWhile (· != top) ++ pc.takeWhile (· != top) ++ [top], costOf t a + costOf t c - 2 * costOf t top)

/-- The cheapest link from a node to another. -/
def edgeTo (edges : List Edge) (weight : Edge → Nat) (a c : Nat) : Option Edge :=
  (edges.filter (fun e => e.src == a && e.peer == c)).foldl (fun best e =>
    match best with | some x => if weight e < weight x then some e else best | none => some e) none

/-- NEXT_HOP of a node toward a destination: the tree's next node. -/
def nextIn (t : List (Nat × Reach)) (r d : Nat) : Nat :=
  if (pathOf t d).contains r then ((pathOf t d).takeWhile (· != r)).getLast?.getD 0
  else match t.lookup r with | some x => x.parent | none => 0

/-- ALT_HOP of a node toward a destination (R300): the neighbour other than NEXT_HOP with the lowest path cost whose own
route does not pass through this node. -/
def altIn (edges : List Edge) (t : List (Nat × Reach)) (forwards : Nat → Bool) (r d next : Nat) : Option Edge :=
  let ok (e : Edge) : Bool := e.src == r && e.peer != next && (e.peer == d || forwards e.peer) &&
    (e.peer == 1 || (t.lookup e.peer).isSome) && !((between t e.peer d).1.contains r)
  let total (e : Edge) : Nat := e.cost + (between t e.peer d).2
  (edges.filter ok).foldl (fun best e =>
    match best with
    | some x => if total e < total x ∨ (total e = total x ∧ e.peer < x.peer) then some e else best
    | none => some e) none

/-- The route of node `r` to destination `d` (R300). -/
def routeFor (edges : List Edge) (t : List (Nat × Reach)) (forwards : Nat → Bool) (r d : Nat) : Route :=
  let next := nextIn t r d
  let alt := altIn edges t forwards r d next
  let weight (e : Edge) : Nat := e.cost
  { relay := r, dst := d, next := next
    pb := match edgeTo edges weight r next with | some e => e.pb | none => 0
    alt := match alt with | some e => e.peer | none => 0
    altPb := match alt with | some e => e.pb | none => 0
    cost := (between t r d).2
    hops := (between t r d).1.length - 1 }

/-- The destinations that a node has entries for: at the coordinator every node, at a relay those behind it and the
coordinator, at a leaf the coordinator (R294, R300). -/
def routesOf (edges : List Edge) (t : List (Nat × Reach)) (forwards : Nat → Bool) (r : Nat) : List Route :=
  let below := (t.map (fun p => p.1)).filter (fun d => d != r && (pathOf t d).contains r)
  let dests := if r = 1 then below else 1 :: below
  dests.map (routeFor edges t forwards r)

/-- An active node of the network (R292). -/
def Block.active (b : Block) (a : Nat) : Bool := a == 1 || b.node a 11 1 == 2

/-- The node repeats frames (R289): the coordinator or an active relay. -/
def Block.forwards (b : Block) (a : Nat) : Bool := a == 1 || (b.node a 11 1 == 2 && b.node a 10 1 == 1)

/-- The network's edges among active nodes. -/
def Block.edges (b : Block) : List Edge :=
  (edgesOf b.linkEnts).filter (fun e => b.active e.src && b.active e.peer)

/-- The start of the tree: the coordinator alone. -/
def treeRoot : List (Nat × Reach) := [(1, { cost := 0, hops := 0, parent := 0 })]

/-- The tree of data routes (R300). -/
def Block.dataTree (b : Block) : List (Nat × Reach) := treeFrom b.edges (fun e => e.cost) b.forwards 32 treeRoot

/-- The timing tree (R243). -/
def Block.timingTree (b : Block) : List (Nat × Reach) := treeFrom b.edges (fun e => e.costT) b.forwards 32 treeRoot

/-- A forwarding entry of 32 bytes (R294). -/
def Route.entry (r : Route) (seq : Nat) : List Byte :=
  leBytes r.next 2 ++ leBytes r.alt 2 ++ leBytes r.pb 1 ++ leBytes r.hops 1 ++ leBytes seq 2 ++ leBytes r.cost 4 ++
    leBytes r.altPb 1 ++ List.replicate 19 0

/-- The changed entries of a node between two sets of routes: new or changed ones, and empty ones for destinations that
are gone. -/
def changedEntries (old new : List Route) (relay seq : Nat) : List (Nat × List Byte) :=
  let o := old.filter (fun r => r.relay == relay)
  let n := new.filter (fun r => r.relay == relay)
  (n.filter (fun r => !o.contains r)).map (fun r => (r.dst, r.entry seq)) ++
    (o.filter (fun r => !n.any (fun x => x.dst == r.dst))).map (fun r => (r.dst, List.replicate 32 0))

/-- The period boundary that an epoch or assignment of the coordinator names. -/
def Block.leadRev (b : Block) : Nat :=
  (b.get R.MAC_PERIOD_REV + Config.routeLead * b.get R.MAC_GRID_BP_CYCLES) % 2 ^ 32

/-- Bytes 14–39 of a node's entry: its assignment (R301). -/
def Block.assignment (b : Block) (a : Nat) : List Byte := b.tables.bytes (nodeAt a + 14) 26

/-- The coordinator's assignment of a node goes out in an ASSIGN command; its own applies like any other (R301). -/
def Block.sendAssign (b : Block) (a : Nat) : Block :=
  let rev := b.leadRev
  if a = 1 then { b with mesh := { b.mesh with pendingAssign := some ⟨rev, b.assignment 1, 1⟩ } }
  else b.sendCommand 0x12 a (Config.assignBody rev (b.assignment a) 1)

/-- Nodes of the network other than the coordinator. -/
def Block.members (b : Block) : List Nat := b.nodes.filter (fun a => a != 1)

/-- The epoch's entries go to every relay, and to a leaf whose entry changed (R301); the coordinator's own entries wait for
the same boundary. -/
def Block.sendEpoch (b : Block) (old new : List Route) (seq : Nat) : Block :=
  let rev := b.leadRev
  let relays := ((old ++ new).map (fun r => r.relay)).dedup
  b.forEach relays (fun b r =>
    let l := changedEntries old new r seq
    if l.isEmpty ∧ b.forwards r = false then b
    else if r = 1 then
      { b with mesh := { b.mesh with pendingRoutes := b.mesh.pendingRoutes ++ [{ seq := seq, rev := rev, entries := l }] } }
    else b.sendCommand 0x11 r (Config.routeSetBody seq rev l))

/-- DATA_PARENT and DEPTH_D of the network's nodes follow the tree (R292). -/
def Block.noteDepths (b : Block) (t : List (Nat × Reach)) : Block :=
  b.forEach b.members (fun b a =>
    match t.lookup a with
    | some r => (b.setNode a 14 1 r.hops).setNode a 16 2 r.parent
    | none => (b.setNode a 14 1 0xFF).setNode a 16 2 0)

/-- The costs of the link-state entries under the weights in force (R298). -/
def Block.refreshCosts (b : Block) : Block :=
  b.forEach b.linkEnts (fun b e => b.setTab (linkAt e.idx + 20) 2 e.cost)

/-- Slot k of half-cycle h as a slot descriptor (R292). -/
def slotWord (h k : Nat) : Nat := h % 128 + 128 * (k % 8) + 32768

/-- The slots of a period that hold a role in a band, in order of time. -/
def Block.slotsOf (b : Block) (band role : Nat) : List Nat :=
  (List.range b.periodHalves).flatMap (fun h =>
    ((List.range 8).filter (fun k => b.roleAt band h k == role)).map (fun k => slotWord h k))

/-- The time of a descriptor within its period, for comparison. -/
def slotTime (d : Nat) : Nat := 8 * (d % 128) + bits d 7 3

/-- Two nodes hear each other, as the link-state table shows. -/
def hears (l : List LinkEnt) (a c : Nat) : Bool :=
  l.any (fun e => (e.src == a && e.peer == c) || (e.src == c && e.peer == a))

/-- Two nodes have a neighbour in common. -/
def shareNeighbour (l : List LinkEnt) (a c : Nat) : Bool :=
  l.any (fun e => e.src == a && l.any (fun f => f.src == c && f.peer == e.peer))

/-- The first slot of a list that no earlier holder in conflict has; 0 (not VALID) where there is none. -/
def firstFree (slots : List Nat) (held : List (Nat × Nat)) (conflict : Nat → Bool) : Nat :=
  (slots.find? (fun d => !held.any (fun h => h.2 == d && conflict h.1))).getD 0

/-- Beacon slots (R308): relays in order of depth, each after its data parent's slot. The coordinator's own is the first
BEACON slot of half-cycle 0. -/
def placeBeacons (l : List LinkEnt) (slots : List Nat) (parent : Nat → Nat) : List Nat → List (Nat × Nat) → List (Nat × Nat)
  | [], held => held
  | a :: as, held =>
    let after := match held.lookup (parent a) with | some d => d | none => 0
    let d := if after = 0 then 0
      else firstFree (slots.filter (fun s => decide (slotTime after < slotTime s))) held
        (fun c => c == 1 || hears l a c || shareNeighbour l a c)
    placeBeacons l slots parent as (held ++ [(a, d)])

/-- Slots of one kind for the nodes of exchanges (R308): `others a` are the nodes that take part with `a`; a slot is
shared only when no node of one is a neighbour of a node of the other. -/
def placeShared (l : List LinkEnt) (slots : List Nat) (others : Nat → List Nat) : List Nat → List (Nat × Nat) → List (Nat × Nat)
  | [], held => held
  | a :: as, held =>
    let d := firstFree slots held (fun c =>
      (others a).any (fun x => (others c).any (fun y => x == y || hears l x y)))
    placeShared l slots others as (held ++ [(a, d)])

/-- The full-level chip SNR of a collect member in 2⁻⁸ dB (R311): from its last collect frame, else from the coordinator's
link-state entry about it. -/
def Block.sFull (b : Block) (a : Nat) : Option Int :=
  match Tab.get none b.mesh.sFull a with
  | some s => some s
  | none =>
    match b.linkEnts.find? (fun e => e.src == 1 && e.peer == a && bits e.pb 2 1 == 0) with
    | some e =>
      let s := sext 16 (b.tab (linkAt e.idx + 8) 2)
      if s = -32768 then none else some (s * 64)
    | none => none

/-- Split a list into pieces of `n`. -/
def pieces {α : Type} (n : Nat) : Nat → List α → List (List α)
  | 0, _ => []
  | fuel + 1, l => if l.isEmpty ∨ n = 0 then [] else l.take n :: pieces n fuel (l.drop n)

/-- The collect fields of the members of one window (R309, R311). -/
def Block.placeWindow (b : Block) (w : Nat) (l : List (Nat × Int)) : Block :=
  let sorted := l.mergeSort (fun x y => decide (y.2 < x.2 ∨ (x.2 = y.2 ∧ x.1 ≤ y.1)))
  let quarter := max 1 (ceilDiv sorted.length 4)
  b.forEach sorted.zipIdx (fun b e =>
    let a := e.1.1
    let tier := min 3 (e.2 / quarter)
    let target := b.sget R.MSH_COLLECT_CFG_TARGET - (tier : Int) * b.get R.MSH_COLLECT_CFG_STEP
    let (x, b) := b.openRound ((e.1.2 : Rat) / 128)
    let atten := (max 0 (min 255 (x - target))).toNat
    let port := match b.linkEnts.find? (fun f => f.src == a && f.peer == 1 && bits f.pb 2 1 == 0) with
      | some f => f.pb % 4 | none => 0
    (((b.setNode a 33 1 e.2).setNode a 34 2 w).setNode a 36 1 (tier + 4 * port)).setNode a 37 1 atten)

/-- The coordinator's collect windows (R309, R311): members whose SNR is known, COLLECT_CAP to a window, half as many where
they lie below the tier 3 target. -/
def Block.placeCollect (b : Block) : Block :=
  let cap := b.get R.MSH_COLLECT_CFG_CAP
  if cap = 0 then b
  else
    let low : Int := (b.sget R.MSH_COLLECT_CFG_TARGET - 3 * b.get R.MSH_COLLECT_CFG_STEP) * 128
    let known := b.members.filterMap (fun a => if b.active a then (b.sFull a).map (fun s => (a, s)) else none)
    let windows := pieces cap known.length (known.filter (fun e => decide (low ≤ e.2))) ++
      pieces (max 1 (cap / 2)) known.length (known.filter (fun e => decide (e.2 < low)))
    let b := b.forEach (b.members.filter (fun a => !known.any (fun e => e.1 == a))) (fun b a => b.setNode a 34 2 0xFFFF)
    b.forEach windows.zipIdx (fun b e => b.placeWindow e.2 e.1)

/-- The slot assignments of R308. -/
def Block.placeSlots (b : Block) : Block :=
  let l := b.linkEnts
  let order := b.members.mergeSort (fun x y => decide (b.node x 14 1 < b.node y 14 1 ∨ (b.node x 14 1 = b.node y 14 1 ∧ x ≤ y)))
  let slots := b.slotsOf 0 1
  let first := slots.headD 0
  let beacons := placeBeacons l slots (fun a => b.node a 16 2) (order.filter b.forwards) [(1, first)]
  let b' := b.forEach beacons.tail (fun b e => b.setNode e.1 24 2 e.2)
  let timed := order.filter (fun a => b.node a 18 2 != 0)
  let pair (a : Nat) : List Nat := [a, b.node a 18 2]
  let h := placeShared l (b.slotsOf 0 2) pair (timed.filter (fun a => !(b.node a 22 1).testBit 2)) []
  let lo := placeShared l (b.slotsOf 1 2) pair (timed.filter (fun a => (b.node a 22 1).testBit 2 || (b.node a 22 1).testBit 3)) []
  let wake := placeShared l (b.slotsOf 0 4) pair (order.filter (fun a => b.node a 23 1 != 0)) []
  let b' := b'.forEach h (fun b e => b.setNode e.1 28 2 e.2)
  let b' := b'.forEach lo (fun b e => b.setNode e.1 30 2 e.2)
  (b'.forEach wake (fun b e => b.setNode e.1 26 2 e.2)).placeCollect

/-- The nodes whose assignment has changed get it (R301). -/
def Block.sendChanged (b : Block) (before : List (Nat × List Byte)) : Block :=
  b.forEach before (fun b e => if b.assignment e.1 = e.2 ∨ b.active e.1 = false then b else b.sendAssign e.1)

/-- The data routes are recomputed (R298, R300). -/
def Block.recomputeRoutes (b : Block) : Block :=
  let b := b.refreshCosts
  let before := b.members.map (fun a => (a, b.assignment a))
  let edges := b.edges
  let t := b.dataTree
  let old := b.mesh.routes
  let new := (t.map (fun p => p.1)).flatMap (routesOf edges t b.forwards)
  let b := ((b.noteDepths t).placeSlots).sendChanged before
  let done (b : Block) (seq : Nat) : Block :=
    { b with mesh := { b.mesh with routes := new, routeSeq := seq, routeDue := false, lastRecompute := some b.tick } }
  if new = old then done b b.mesh.routeSeq
  else
    let seq := (b.mesh.routeSeq + 1) % 65536
    done (b.sendEpoch old new seq) seq

/-- A node's backup parent (R243): the neighbour outside its own subtree, other than its parent, that gives the lowest
cost; 0 none. -/
def backupOf (edges : List Edge) (t : List (Nat × Reach)) (forwards : Nat → Bool) (a parent : Nat) : Nat :=
  let ok (e : Edge) : Bool := e.src == a && e.peer != parent && forwards e.peer && (t.lookup e.peer).isSome &&
    !((pathOf t e.peer).contains a)
  let total (e : Edge) : Nat := e.costT + costOf t e.peer
  match (edges.filter ok).foldl (fun best e =>
    match best with
    | some x => if total e < total x ∨ (total e = total x ∧ e.peer < x.peer) then some e else best
    | none => some e) none with
  | some e => e.peer
  | none => 0

/-- The timing assignment of one node (R243): parent, backup, depth, port and primary band, and Band L as a fallback on the
same link. -/
def Block.assignTiming (b : Block) (edges : List Edge) (t : List (Nat × Reach)) (a : Nat) : Block :=
  match t.lookup a with
  | some r =>
    let pb := match edgeTo edges (fun e => e.costT) a r.parent with | some e => e.pb % 8 | none => 0
    let fallback := pb / 4 == 0 && edges.any (fun e => e.src == a && e.peer == r.parent && bits e.pb 2 1 == 1)
    let b := (b.setNode a 15 1 r.hops).setNode a 18 2 r.parent
    (b.setNode a 20 2 (backupOf edges t b.forwards a r.parent)).setNode a 22 1 (pb + (if fallback then 8 else 0))
  | none => ((b.setNode a 15 1 0xFF).setNode a 18 2 0).setNode a 20 2 0

/-- The timing tree is recomputed (R243). -/
def Block.recomputeTree (b : Block) : Block :=
  let before := b.members.map (fun a => (a, b.assignment a))
  let edges := b.edges
  let t := b.timingTree
  let b := b.forEach b.members (fun b a => b.assignTiming edges t a)
  let b := b.placeSlots.sendChanged before
  { b with mesh := { b.mesh with lastTree := some b.tick, treeDue := false } }

/-- `secs` seconds have passed since a tick; at once where there is none. -/
def Block.elapsed (b : Block) (since : Option Nat) (secs : Nat) : Bool :=
  match since with | some t => decide (t + 25000 * secs ≤ b.tick) | none => true

/-- ROUTE_RECOMPUTE (R300): when one is due, and RECOMPUTE_MIN seconds after the last. -/
def Block.routeRecompute (b : Block) : Block :=
  if b.coordinator ∧ b.mesh.routeDue ∧ b.elapsed b.mesh.lastRecompute (b.get R.MSH_LIMITS_RECOMPUTE_MIN) then
    b.recomputeRoutes
  else b

/-- TIMING_TREE_RECOMPUTE (R243): when a cost change, a join or a loss asks for it, otherwise at most once per 10 s. -/
def Block.treeRecompute (b : Block) : Block :=
  if b.coordinator ∧ (b.mesh.treeDue ∨ b.elapsed b.mesh.lastTree 10) then b.recomputeTree else b

/-- A node is declared lost (R265, R306). -/
def Block.declareLost (b : Block) (a : Nat) : Block :=
  let lease := leAt b.macRole 6 2
  let b := (b.setNode a 11 1 3).setNode a 12 2 lease
  let b := if lease = 0 then b.emptyNode a else b
  ((b.stick R.MSH_TROUBLE_NODE_LOST).showMesh.recomputeRoutes).recomputeTree

/-- NODE_LOST_TIMEOUT (R306): the node was last heard more than LOST_PERIODS beacon periods ago. -/
def Block.nodeLost (b : Block) (a : Nat) : Block :=
  match b.grid.cur with
  | some g =>
    let age := b.now - unstamp64 (b.node a 40 8) b.now
    if b.coordinator ∧ a ≠ 1 ∧ b.hasNode a ∧ b.node a 11 1 = 2 ∧
        b.get R.MSH_LIMITS_LOST_PERIODS * b.get R.MAC_GRID_BP_CYCLES * g.t < age then b.declareLost a
    else b
  | none => b

/-- LINK_DOWN at the coordinator (R305, R306): the reporter's link to `x` is down; two neighbours within one period declare
`x` lost; the routes are recomputed. -/
def Block.linkDown (b : Block) (x link reporter : Nat) : Block :=
  let b := b.setMac { b.mac with commands := b.mac.commands.eraseP (fun m => m.code == 0x14) }
  if b.coordinator = false then b
  else
    let rev := b.get R.GLB_REV
    let near (e : Nat × Nat × Nat) : Bool :=
      e.1 == x && e.2.1 != reporter && decide ((rev + 2 ^ 32 - e.2.2) % 2 ^ 32 < b.get R.MAC_GRID_BP_CYCLES)
    let lost := b.mesh.downs.any near
    let ents := b.linkEnts.filter (fun e => e.src == reporter && e.peer == x && e.pb % 8 == link % 8)
    let b := b.forEach ents (fun b e => (b.setTab (linkAt e.idx + 4) 1 (e.pb ||| 8)).setTab (linkAt e.idx + 20) 2 0xFFFF)
    let b : Block := { b with mesh := { b.mesh with
      downs := b.mesh.downs.filter (fun (e : Nat × Nat × Nat) => e.2.1 != reporter || e.1 != x) ++ [(x, reporter, rev)]
      routeDue := true } }
    if lost ∧ x ≠ 1 ∧ b.hasNode x ∧ b.node x 11 1 = 2 then b.declareLost x else b.routeRecompute

/-- LINK_AGE_EXPIRY (R295, R298): entry `i` is older than LINK_AGE. -/
def Block.linkAge (b : Block) (i : Nat) : Block :=
  let a := linkAt i
  if i < linkSlots ∧ b.coordinator ∧ b.tab a 2 ≠ 0 ∧
      b.get R.MSH_REPORT_CFG_LINK_AGE ≤ (timeSec b.now + 2 ^ 32 - b.tab (a + 28) 4) % 2 ^ 32 then
    let b := (b.setTab (a + 22) 1 (b.tab (a + 22) 1 ||| 1)).setTab (a + 20) 2 0xFFFF
    { b with mesh := { b.mesh with routeDue := true, treeDue := true } }
  else b

end Sys2Proof.Machine
end

