-- ==== Sys2Proof/Machine/Mesh.lean ====
section
/-! DEFINITION. The mesh commands (R297–R315): link reports, epochs and assignments, sweeps and collect windows. -/

namespace Sys2Proof.Machine

/-- The first command of a code that the MAC has handed on, taken. -/
def Block.takeCommand (b : Block) (code : Nat) : Option (CmdMsg × Block) :=
  match b.mac.commands.find? (fun m => m.code == code) with
  | some m => some (m, b.setMac { b.mac with commands := b.mac.commands.erase m })
  | none => none

/-- The first handed-on command of a code is dropped: its decoded contents come with the row. -/
def Block.dropCommand (b : Block) (code : Nat) : Block :=
  b.setMac { b.mac with commands := b.mac.commands.eraseP (fun m => m.code == code) }

/-- The mesh's record after a change. -/
def Block.setMesh (b : Block) (m : MeshUnit) : Block := { b with mesh := m }

/-- A neighbour's link in a band is down here (R297): its port failed, or forwarding marks the hop down. -/
def Block.hopDown (b : Block) (x port : Nat) : Bool :=
  b.bit R.TRB_PORT_FAILED port ||
    (((b.tables.filter (fun c => 0x40600000 ≤ c.1 ∧ c.1 < 0x40680000)).map (fun c => (c.1 - 0x40600000) / 32)).dedup.any
      (fun a => (b.tab (fwdAt a) 2 == x && (b.tab (fwdAt a + 4) 1).testBit 3) ||
        (b.tab (fwdAt a + 2) 2 == x && (b.tab (fwdAt a + 4) 1).testBit 4)))

/-- The port toward a neighbour in a band: where it was last heard in it, else the first enabled one. -/
def Block.linkPort (b : Block) (x band : Nat) : Nat :=
  if b.heardPort x band ≠ 0 then b.heardPort x band - 1
  else (if band = 0 then b.hPorts else b.lPorts).headD 0

/-- BUDGET_LEFT of a band (R297): outside a quiet window it is computed, in one it stays. -/
def Block.budgetLeft (b : Block) (band : Nat) : Nat :=
  if b.forbidden band ∧ b.budget band ≠ 0 then b.mesh.budgetLeft.getD band 255
  else
    let free := b.budget band - b.reserve band
    if free = 0 then 0 else (free - b.used band) * 255 / free

/-- The record of one link (R295, R297): 20 bytes, the peer's address first. -/
def Block.linkRecord (b : Block) (x band : Nat) : List Byte × Block :=
  let r := b.link x band
  let port := b.linkPort x band
  let m : Int := match r.margin band with | some m => max (-32767) (min 32767 m) | none => -32768
  let (retry, b) := if r.sent = 0 then ((if r.resent = 0 then 0 else 255), b) else b.quot (256 * r.resent) r.sent
  let (u, s) := match b.calIndex (b.euiOf x) port band with
    | some i => if (b.calRec i).exchanges = 0 then (0xFFFFFFFF, 0) else ((b.calRec i).uLink, (b.calRec i).sigma)
    | none => (0xFFFFFFFF, 0)
  let pb := port + 4 * band + (if b.hopDown x port then 8 else 0)
  (leBytes x 2 ++ leBytes x 2 ++ leBytes pb 1 ++ leBytes (b.ladderIdx x band) 1 ++ leBytes (unsext 16 m) 2 ++
    leBytes (b.snrField x band) 2 ++ leBytes (min 255 retry) 1 ++ leBytes (b.budgetLeft band) 1 ++
    leBytes (min 0xFFFFFFFF u) 4 ++ leBytes (min 0xFFFFFFFF s) 4, b)

/-- COST_D of a link record, computed with the weights in force (R298). -/
def Block.recordCost (b : Block) (l : List Byte) : Nat :=
  if (leAt l 4 1).testBit 3 then 0xFFFF
  else b.costD (sext 16 (leAt l 6 2)) (leAt l 10 1) (leAt l 11 1) (leAt l 12 4)

/-- The node's own links (R297): the neighbours it has measured, per band, with their records. -/
def Block.ownRecords : List (Nat × LinkRec) → List (Nat × List Byte) → Block → List (Nat × List Byte) × Block
  | [], acc, b => (acc, b)
  | (key, r) :: l, acc, b =>
    let a := key / 2
    if b.hasNode a ∧ a ≠ b.short ∧ r.snr.isSome then
      let (x, b) := b.linkRecord a (key % 2)
      Block.ownRecords l (acc ++ [(key, x)]) b
    else Block.ownRecords l acc b

/-- The lowest-cost `n` of a list, ties by place. -/
def cheapest {α : Type} (n : Nat) (cost : α → Nat) (l : List α) : List α :=
  (l.mergeSort (fun x y => decide (cost x ≤ cost y))).take n

/-- Two costs differ by a factor of more than 2 (R297, R300). -/
def doubled (x y : Nat) : Bool := decide (2 * x < y ∨ 2 * y < x)

/-- A run of `n` free link-state entries (R295): the first index of the lowest one. -/
def freeRun (used : List Nat) (n : Nat) : Option Nat :=
  let starts := 0 :: used.map (· + 1)
  let ok (s : Nat) : Bool := decide (s + n ≤ linkSlots) && used.all (fun u => decide (u < s ∨ s + n ≤ u))
  (starts.filter ok).foldl (fun best s => match best with | some x => some (min x s) | none => some s) none

/-- The most entries, at most `n`, for which there is room, with the first index. -/
def roomFor (used : List Nat) : Nat → Nat × Nat
  | 0 => (0, 0)
  | n + 1 => match freeRun used (n + 1) with | some s => (s, n + 1) | none => roomFor used n

/-- One link-state entry is written (R295): the fields of a record, COST_D, COST_T, UPDATED. -/
def Block.putLink (b : Block) (i src : Nat) (l : List Byte) : Block :=
  let a := linkAt i
  let (t, b) := b.costT (leAt l 12 4) (leAt l 16 4)
  let b := (b.putTab a (List.replicate 32 0)).setTab a 2 src
  let b := (b.putTab (a + 2) (slice l 2 18)).setTab (a + 4) 1 (leAt l 4 1 % 16)
  ((b.setTab (a + 20) 2 (b.recordCost l)).setTab (a + 24) 4 t).setTab (a + 28) 4 (timeSec b.now)

/-- A report's entries replace the reporter's (R292, R297). A link cost that changes by a factor of more than 2 asks for
new routes (R300) or a new timing tree (R243). -/
def Block.storeReport (b : Block) (src : Nat) (recs : List (List Byte)) : Block :=
  let before := edgesOf b.linkEnts
  let old := b.linkEnts.filter (fun e => e.src == src)
  let b := b.forEach old (fun b e => b.putTab (linkAt e.idx) (List.replicate 32 0))
  let (start, n) := roomFor b.linksUsed recs.length
  let kept := cheapest n b.recordCost recs
  let b := b.forEach kept.zipIdx (fun b e => b.putLink (start + e.2) src e.1)
  let b := if n < recs.length then b.count R.MSH_LS_FULL_COUNT R.MSH_TROUBLE_LS_FULL else b
  let b := (b.setNode src 48 4 start).setNode src 52 1 kept.length
  let b := b.forEach recs (fun b l => if b.hasNode (leAt l 0 2) then b.setNode (leAt l 0 2) 40 8 (stamp64 b.now) else b)
  let after := edgesOf b.linkEnts
  let moved (f : Edge → Nat) : Bool :=
    (before ++ after).any (fun e =>
      let get (l : List Edge) : Nat := match l.find? (fun x => x.src == e.src && x.peer == e.peer && x.pb == e.pb) with
        | some x => f x | none => 0xFFFFFFFF
      (e.src == src || e.peer == src) && doubled (get before) (get after))
  b.showMesh.setMesh { b.mesh with
    routeDue := b.mesh.routeDue || moved (fun e => e.cost)
    treeDue := b.mesh.treeDue || moved (fun e => e.costT) }

/-- A link report is due (R297): LINK_REPORT_S has passed, or a link has appeared, gone down or changed its cost by a
factor of more than 2 and 1 s has passed. -/
def Block.reportWanted (b : Block) (costs : Tab Nat) : Bool :=
  b.elapsed b.mesh.lastReport 1 &&
    (b.elapsed b.mesh.lastReport (b.get R.MSH_REPORT_CFG_LINK_REPORT_S) || b.mesh.reportDue ||
      costs.any (fun e => let o := Tab.get 0 b.mesh.costs e.1; o == 0 || doubled o e.2))

/-- The counts of RETRY start again with a new reporting interval (R295). -/
def Block.clearSent (b : Block) : Block :=
  { b with phy := { b.phy with links := b.phy.links.map (fun e => (e.1, { e.2 with sent := 0, resent := 0 })) } }

/-- LINK_REPORT_TX (R297): the coordinator enters its own links at once. -/
def Block.linkReportTx (b : Block) : Block :=
  let (recs, b') := Block.ownRecords b.phy.links [] b
  let costs : Tab Nat := recs.map (fun e => (e.1, b'.recordCost e.2))
  if b.hasGrid = false ∨ b.short = 0 ∨ b.reportWanted costs = false then b
  else
    let recs := cheapest (b.get R.MSH_LIMITS_LINK_MAX) (fun e => b'.recordCost e.2) recs
    let b := b'.setMesh { b'.mesh with
      lastReport := some b'.tick, reportDue := false, costs := costs, budgetLeft := [b'.budgetLeft 0, b'.budgetLeft 1] }
    let b := b.clearSent
    if b.short = 1 then b.storeReport 1 (recs.map (fun e => e.2))
    else b.sendCommand 0x10 1 (leBytes recs.length 1 ++ [0] ++ recs.flatMap (fun e => e.2))

/-- LINK_REPORT at the coordinator (R297): a body whose COUNT is above 32 or does not agree with its length is rejected
and counted (R5). -/
def Block.linkReport (b : Block) : Block :=
  match b.takeCommand 0x10 with
  | none => b
  | some (m, b) =>
    let n := leAt m.body 0 1
    if b.coordinator = false then b
    else if 32 < n ∨ m.body.length ≠ 2 + 20 * n then b.bump R.MSH_UNDEF_COUNT
    else if b.hasNode m.origin = false then b
    else b.storeReport m.origin ((List.range n).map (fun i => slice m.body (2 + 20 * i) 20))

/-- ROUTE_SET at a node (R301): the entries wait for the period boundary that the command names. A leaf keeps the uplink
entry alone (R294). -/
def Block.routeSet (b : Block) (seq rev : Nat) (entries : List (Nat × List Byte)) : Block :=
  let b := b.dropCommand 0x11
  if b.role = 0 ∨ b.image.run.isNone then b
  else
    let l := entries.filter (fun e => 1 ≤ e.1 ∧ e.1 ≤ 0x3FFF ∧ e.2.length = 32 ∧ (b.role = 1 ∨ e.1 = 1))
    b.setMesh { b.mesh with pendingRoutes := b.mesh.pendingRoutes ++
      [{ seq := seq % 65536, rev := rev % 2 ^ 32, entries := l }] }

/-- Every NEXT_DOWN and ALT_DOWN mark is cleared (R301). -/
def Block.clearDown (b : Block) : Block :=
  let used := ((b.tables.filter (fun c => 0x40600000 ≤ c.1 ∧ c.1 < 0x40680000)).map (fun c => (c.1 - 0x40600000) / 32)).dedup
  b.forEach used (fun b a => b.setTab (fwdAt a + 4) 1 (b.tab (fwdAt a + 4) 1 % 8))

/-- The uplink shows in MSH_UPLINK and in the node's own entry (R292, R294). -/
def Block.showUplink (b : Block) : Block :=
  if b.role = 0 then (b.set R.MSH_UPLINK_DATA_PARENT 0).set R.MSH_UPLINK_DEPTH_D 0
  else
    let parent := b.tab (fwdAt 1) 2
    let hops := if parent = 0 then 0xFF else b.tab (fwdAt 1 + 5) 1
    let b := (b.set R.MSH_UPLINK_DATA_PARENT parent).set R.MSH_UPLINK_DEPTH_D hops
    if b.hasNode b.short then (b.setNode b.short 14 1 hops).setNode b.short 16 2 parent else b

/-- One epoch is applied (R301): all of its entries together, the DOWN marks cleared. -/
def Block.applyEpoch (b : Block) (r : RouteSet) : Block :=
  if b.flag R.MSH_STAT_ROUTE_VALID ∧ serialAbove 16 r.seq (b.get R.MSH_ROUTE_SEQ) = false then b
  else
    let b := b.forEach r.entries (fun b e => b.putTab (fwdAt e.1) e.2)
    let b := (b.clearDown.set R.MSH_ROUTE_SEQ r.seq).set R.MSH_STAT_ROUTE_VALID 1
    (b.bump R.MSH_ROUTE_SET_COUNT).showUplink

/-- The period boundary `rev` has been reached. -/
def Block.reached (b : Block) (rev : Nat) : Bool := !serialAbove 32 rev (b.get R.GLB_REV)

/-- ROUTE_EPOCH_APPLY (R301): the epochs whose period has come, in the order they were received. -/
def Block.routeApply (b : Block) : Block :=
  if b.hasGrid = false then b
  else
    let due := b.mesh.pendingRoutes.filter (fun r => b.reached r.rev)
    let b := b.setMesh { b.mesh with pendingRoutes := b.mesh.pendingRoutes.filter (fun r => !b.reached r.rev) }
    b.forEach due Block.applyEpoch

/-- ASSIGN at a node (R301). -/
def Block.assign (b : Block) (rev : Nat) (bytes : List Byte) (collector : Nat) : Block :=
  let b := b.dropCommand 0x12
  if b.role = 0 ∨ b.image.run.isNone ∨ bytes.length ≠ 26 then b
  else b.setMesh { b.mesh with pendingAssign := some ⟨rev % 2 ^ 32, bytes, collector % 65536⟩ }

/-- MSH_COLLECT_OWN and MSH_WINDOW follow the node's own entry (R292, R317). -/
def Block.showCollect (b : Block) : Block :=
  let a := b.short
  let cfg := b.node a 36 1
  let b := ((b.set R.MSH_COLLECT_OWN_INDEX (b.node a 33 1)).set R.MSH_COLLECT_OWN_TIER cfg).set R.MSH_COLLECT_OWN_PORT (cfg / 4)
  (b.set R.MSH_COLLECT_OWN_ATTEN (b.node a 37 1)).set R.MSH_WINDOW (b.node a 34 2)

/-- The timing fields of the node's own assignment (R243): a new parent sets PARENT_CHANGE and enters ACQUIRING. -/
def Block.applyTiming (b : Block) : Block :=
  let a := b.short
  let parent := b.node a 18 2
  let cfg := b.node a 22 1
  let depth := b.node a 15 1
  let b := (b.set R.TIM_TREE_DEPTH (if depth = 0xFF then 0x3F else depth)).set R.TIM_TREE_PORT cfg
  let b := (b.set R.TIM_TREE_BAND (cfg / 4)).set R.TIM_TREE_FALLBACK_L (cfg / 8)
  let b := if parent = b.get R.TIM_PARENT_PARENT then b else b.changeParent parent
  b.set R.TIM_PARENT_BACKUP (b.node a 20 2)

/-- The node applies its assignment (R294, R301). -/
def Block.applyAssign (b : Block) (x : Assign) : Block :=
  let a := b.short
  let b := b.setMesh { b.mesh with pendingAssign := none, collector := x.collector }
  let b := (b.setNode a 8 2 a).putTab (nodeAt a + 14) x.bytes
  if b.role = 0 then b.showCollect
  else
    let hop := b.node a 16 2
    let b := if hop ≠ 0 ∧ b.tab (fwdAt 1) 2 ≠ hop then
        (((b.setTab (fwdAt 1) 2 hop).setTab (fwdAt 1 + 5) 1 (b.node a 14 1)).setTab (fwdAt 1 + 4) 1
          (b.linkPort hop (b.bandToward hop) + 4 * b.bandToward hop))
      else b
    (b.applyTiming.showUplink).showCollect

/-- ASSIGNMENT_APPLY (R301, R243): at the period boundary that the assignment names. -/
def Block.assignApply (b : Block) : Block :=
  match b.mesh.pendingAssign with
  | some x => if b.hasGrid ∧ b.short ≠ 0 ∧ b.reached x.rev then b.applyAssign x else b
  | none => b

/-- A sweep begins to wait for its START_REV (R312). -/
def Block.armSweep (b : Block) (id rev windows : Nat) : Block :=
  let b := ((b.set R.MSH_SWEEP_SWEEP_ID id).set R.MSH_SWEEP_REV rev).set R.MSH_SWEEP_STATE 1
  b.setMesh { b.mesh with sweepWindows := windows, window := 0, nextSweep := none, suppressed := [] }

/-- The windows that are assigned (R312). -/
def Block.assignedWindows (b : Block) : Nat :=
  (b.nodes.filterMap (fun a => if b.node a 34 2 = 0xFFFF then none else some (b.node a 34 2 + 1))).foldl max 0

/-- SWEEP_START (R312): a write of MSH_SWEEP_CTRL with START and WINDOWS; refused elsewhere than at the head-end, while a
sweep is pending or running, and where it would name no window. -/
def Block.sweepStart (b : Block) (windows : Nat) : Block :=
  let windows := windows % 65536
  let n := if windows = 0 then b.assignedWindows else windows
  let state := b.get R.MSH_SWEEP_STATE
  if b.coordinator = false ∨ b.hasGrid = false ∨ state = 1 ∨ state = 2 ∨ n = 0 then b
  else
    let id := (b.mesh.sweepId + 1) % 65536
    let rev := (b.get R.MAC_PERIOD_REV + b.get R.MSH_COLLECT_CFG_SWEEP_LEAD * b.get R.MAC_GRID_BP_CYCLES) % 2 ^ 32
    let b := (b.set R.MSH_SWEEP_CTRL_WINDOWS windows).set R.MSH_SWEEP_CTRL_START 1
    let b := b.sendCommand 0x13 0xFFFF (leBytes id 2 ++ leBytes rev 4 ++ leBytes n 2)
    (b.setMesh { b.mesh with sweepId := id }).armSweep id rev n

/-- A sweep that was held back for the end of a window begins to wait (R315). -/
def Block.rollSweep (b : Block) : Block :=
  match b.mesh.nextSweep with
  | some (id, rev, n) => b.armSweep id rev n
  | none => b

/-- SWEEP at a member (R312, R315): one that arrives in a running sweep's window ends it at the end of that window. -/
def Block.sweep (b : Block) : Block :=
  match b.takeCommand 0x13 with
  | none => b
  | some (m, b) =>
    let id := leAt m.body 0 2
    let rev := leAt m.body 2 4
    let n := leAt m.body 6 2
    if m.body.length ≠ 8 then b
    else if n = 0 then b.bump R.MSH_UNDEF_COUNT
    else if b.get R.MSH_SWEEP_STATE = 2 ∧ b.roleAt 0 b.grid.half (b.get R.GLB_GRID_SLOT) = 3 then
      b.setMesh { b.mesh with nextSweep := some (id, rev, n) }
    else b.armSweep id rev n

/-- A running sweep's window met the own transmit suppression in the tick that ended (R135, R315). -/
def Block.noteSuppressed (b : Block) : Block :=
  let quiet := (List.range 4).any (fun p => decide (tickTime (b.tick - 1) < (b.chain 0 p).quietTo))
  if b.get R.MSH_SWEEP_STATE = 2 ∧ quiet ∧ b.mesh.suppressed.contains b.mesh.window = false then
    b.setMesh { b.mesh with suppressed := b.mesh.suppressed ++ [b.mesh.window] }
  else b

/-- The sweep follows the grid (R309, R312): it runs from half-cycle 0 of START_REV, and a window ends with its run of
COLLECT slots. `wasIn`: the tick before lay in a COLLECT slot, in half-cycle `half`. -/
def Block.sweepTick (b : Block) (wasIn : Bool) (half : Nat) : Block :=
  if b.hasGrid = false then b
  else
    let nowIn := b.roleAt 0 b.grid.half (b.get R.GLB_GRID_SLOT) == 3
    let ended := wasIn && (!nowIn || half != b.grid.half)
    let b := if wasIn then b.noteSuppressed else b
    let b :=
      if b.get R.MSH_SWEEP_STATE = 2 ∧ ended then
        let b := b.setMesh { b.mesh with window := b.mesh.window + 1 }
        if b.mesh.nextSweep.isSome then b.rollSweep
        else if b.mesh.sweepWindows ≤ b.mesh.window then (b.set R.MSH_SWEEP_STATE 3).set R.MSH_SWEEP_CTRL_START 0
        else b
      else b
    if b.get R.MSH_SWEEP_STATE = 1 ∧ b.reached (b.get R.MSH_SWEEP_REV) then b.set R.MSH_SWEEP_STATE 2 else b

/-- The REPORT of a member (R310). -/
def Block.collectReport (b : Block) : List Byte × Block :=
  let low := (Tab.get .z b.modl.pins 9) == Level.low
  let flags := (if b.timState = 2 then 1 else 0) + (if b.timState = 4 then 2 else 0) +
    (if b.flag R.MAC_TROUBLE_BEACON_LOST then 4 else 0) + (if low then 8 else 0)
  let parent := b.get R.MSH_UPLINK_DATA_PARENT
  let (temp, b) := b.openRound ((b.sget R.PWR_SUPPLY_BASE_TEMP : Rat) / 10)
  (leBytes (b.get R.MSH_SWEEP_SWEEP_ID) 2 ++ leBytes flags 1 ++ leBytes (b.mode + 16 * b.timState) 1 ++
    leBytes (b.get R.TIM_BOUND) 4 ++ leBytes (b.get R.TIM_OFFSET) 4 ++ leBytes (b.get R.TIM_PARENT_PARENT) 2 ++
    leBytes (b.feedback parent (b.bandToward parent)) 1 ++ leBytes (unsext 8 (max (-128) (min 127 temp))) 1 ++
    leBytes (b.get R.TRB_SUMMARY) 4 ++ leBytes (b.get R.GLB_REV) 4, b)

/-- The collect frame of a member (R309–R312): its REPORT at its attenuation and index. -/
def Block.collectFrame (b : Block) : TxFrame × Block :=
  let (rep, b) := b.collectReport
  ({ band := 0, kind := .collect, payload := rep, port := some (b.get R.MSH_COLLECT_OWN_PORT)
     atten := some (b.get R.MSH_COLLECT_OWN_ATTEN), code := b.get R.MSH_COLLECT_OWN_INDEX
     hdr := { b.newHeader 5 1 b.mesh.collector 0 false with mode := 0x0100 } }, b)

/-- COLLECT_FRAME_TX (R309–R312): in its own window of a running sweep the member makes its frame ready; it sends none
without a current grid, outside the sweep's windows, or where the frame would not end within the run. -/
def Block.collectTx (b : Block) : Block :=
  let w := b.get R.MSH_WINDOW
  if b.mayTransmit = false ∨ b.hasGrid = false ∨ b.get R.MSH_SWEEP_STATE ≠ 2 ∨ w = 0xFFFF ∨ b.mesh.sweepWindows ≤ w ∨
      b.mesh.window ≠ w ∨ b.forbidden 0 then b
  else
    let (f, b) := b.collectFrame
    if b.fitsRun f 3 then b.makeReady f else b

/-- The queue that sweeps are written to (R314, R316). -/
def Block.sweepQueue (b : Block) : Nat := leAt b.tableInit 0x14 2

/-- One decoded collect frame (R311, R313–R315): the REPORT with its sender and SNR, where its MIC passes. -/
def Block.takeCollect (b : Block) (atten : Nat → Nat) (h : Header) (payload : List Byte) (snr : Int) :
    Option (List Byte) × Block :=
  let part : RxPart := { ctr := h.ctr, ackReq := false, sec := h.sec, epoch := h.epoch, payload := payload, ok := true }
  match b.openPart h part true with
  | (none, b) => (none, b)
  | (some (pl, tag), b) =>
    match b.dupCheck h.src 1 h.ctr h.epoch tag true with
    | (.duplicate, b) => (none, b.bump R.MAC_DUP_COUNT)
    | (.replay, b) => (none, b.count R.MAC_REPLAY_COUNT R.MAC_TROUBLE_REPLAY)
    | (_, b) =>
      let b := ((b.markDelivered h.src 1 h.ctr).heard h.src).bump R.MSH_COLLECT_RX_COUNT
      let full : Int := snr + 128 * atten h.src
      let b := b.setMesh { b.mesh with sFull := Tab.set none b.mesh.sFull h.src (some full) }
      let rep := leBytes h.src 2 ++ leBytes (unsext 16 (max (-32767) (min 32767 (nearest ((snr : Rat) / 64))))) 2 ++ pl
      (some rep, b.put ctxMac b.sweepQueue 0 0 rep)

/-- The header and payload of a collect frame where both CRCs pass (R310, R313). -/
def Block.decodeCollect (b : Block) (x : CollectTry) : Option (Header × List Byte) :=
  let head := bytesOf 32 (b.decodeHeader (x.soft.take 544)).bits
  let h := Header.decode head
  if headerCrcOk head = false then none
  else
    let d := decodePayload (b.get R.PHY_DEC_ITER) h.mode h.len true [] (x.soft.drop 544)
    let raw := bytesOf (h.len + 4) d.bits
    let body := raw.take h.len
    if d.fails = 0 ∧ leAt raw h.len 4 = crc32 body then some (h, body) else none

/-- One attempt at an index (R311, R313–R315), where no earlier pass has decoded it: the sender's report, where its frame is
accepted. -/
def Block.tryCollect (b : Block) (atten : Nat → Nat) (x : CollectTry) : Option (List Byte) × Block :=
  match b.decodeCollect x with
  | none => (none, b)
  | some (h, pl) =>
    if h.net ≠ b.netId ∨ h.dst ≠ b.short ∨ h.ftype ≠ 5 then (none, b)
    else
      let (snr, b) := b.streamSnr [{ stream := 0, exp := modeExp h.mode, sig := x.sig, err := x.err }]
      b.takeCollect atten h pl (snr * 256).floor

/-- The attempts of a window in order (R313–R315): the indices decoded, and what was written. -/
def Block.takeWindow (member : Nat → Bool) (atten : Nat → Nat) :
    List CollectTry → List Nat → List (List Byte) → Block → (List Nat × List (List Byte)) × Block
  | [], got, out, b => ((got, out), b)
  | x :: l, got, out, b =>
    if got.contains x.index then Block.takeWindow member atten l got out b
    else match b.tryCollect atten x with
      | (none, b) => Block.takeWindow member atten l got out b
      | (some rep, b) =>
        let b := if member x.index then b else b.bump R.MSH_COLLECT_STRAY_COUNT
        Block.takeWindow member atten l (got ++ [x.index]) (out ++ [rep]) b

/-- The attempts of a window's passes, up to COLLECT_PASSES of them, each in tier order (R313). An index that no member has
comes after the tiers (DESIGN CHOICE, assumption 134). -/
def Block.windowOrder (b : Block) (members : List Nat) (passes : List (List CollectTry)) : List CollectTry :=
  let tier (i : Nat) : Nat := match members.find? (fun a => b.node a 33 1 == i) with
    | some a => b.node a 36 1 % 4
    | none => 4
  (passes.take (b.get R.MSH_COLLECT_CFG_PASSES)).flatMap (fun l => l.mergeSort (fun x y => decide (tier x.index ≤ tier y.index)))

/-- COLLECT_WINDOW_DECODE (R313–R315): the window's number and revolution count, and its attempts pass by pass. A window that met
the own transmit suppression has every index missing. A relay collector sends what it wrote to the coordinator. -/
def Block.windowDecode (b : Block) (window rev : Nat) (passes : List (List CollectTry)) : Block :=
  if b.role = 2 ∨ b.get R.MSH_COLLECT_CFG_CAP = 0 ∨ b.image.run.isNone then b
  else
    let members := b.nodes.filter (fun a => b.node a 34 2 == window)
    let idx := members.map (fun a => b.node a 33 1)
    let atten (a : Nat) : Nat := if b.hasNode a then b.node a 37 1 else 0
    let tries := if b.mesh.suppressed.contains window then [] else b.windowOrder members passes
    let ((got, out), b) := Block.takeWindow idx.contains atten tries [] [] b
    let missed := idx.filter (fun i => !got.contains i)
    let map := ((List.range 256).filter missed.contains).foldl (fun m i => m + 2 ^ i) 0
    let rec40 := leBytes window 2 ++ leBytes members.length 2 ++ leBytes map 32 ++ leBytes rev 4
    let b := b.put ctxMac b.sweepQueue 0 0 rec40
    let b := b.add R.MSH_COLLECT_MISS_COUNT missed.length
    let b := if missed.isEmpty then b else b.stick R.MSH_TROUBLE_SWEEP_MISS
    if b.role = 1 then b.sendMesh 5 0 1 (meshPrefix 1 b.short 0 ++ [0x16, 0] ++ Config.bundleBody (out ++ [rec40])) else b

/-- REPORT_BUNDLE at the coordinator (R314): its reports and window records go to SWEEP_QUEUE; a report renews its
sender's lease (R265, R292). -/
def Block.reportBundle (b : Block) (reports : List (List Byte)) : Block :=
  let b := b.dropCommand 0x16
  if b.coordinator = false then b
  else b.forEach reports (fun b l =>
    (if l.length = 28 then b.heard (leAt l 0 2) else b).put ctxMac b.sweepQueue 0 0 l)

end Sys2Proof.Machine
end

