-- ==== Sys2Proof/Machine/Join.lean ====
section
/-! DEFINITION. Epochs (R485–R487) and the join handshake (R286, R490). -/

namespace Sys2Proof.Machine

/-- Change the SEC block. -/
def Block.setSec (b : Block) (u : SecUnit) : Block := { b with sec := u }

/-- `n` bytes of the part's random source: free values. -/
def Block.random (b : Block) (n : Nat) : List Byte × Block :=
  ((List.range n).map (fun i => BitVec.ofNat 8 (Config.freeValue (b.freeCtr + i))), { b with freeCtr := b.freeCtr + n })

/-- The key check of R485. -/
def keyCheck (k : List Byte) : List Byte := (sha512 k).take 8

/-- ASCII texts of R482 and R490. -/
def txtEnrol : List Byte := ascii [0x4F, 0x53, 0x4C, 0x20, 0x65, 0x6E, 0x72, 0x6F, 0x6C]
def txtRevoke : List Byte := ascii [0x4F, 0x53, 0x4C, 0x20, 0x72, 0x65, 0x76, 0x6F, 0x6B, 0x65]
def txtVendor : List Byte :=
  ascii [0x4F, 0x53, 0x4C, 0x20, 0x76, 0x65, 0x6E, 0x64, 0x6F, 0x72, 0x20, 0x72, 0x65, 0x76, 0x6F, 0x6B, 0x65]
def txtJoin1 : List Byte := ascii [0x4F, 0x53, 0x4C, 0x20, 0x6A, 0x6F, 0x69, 0x6E, 0x20, 0x31]
def txtJoin2 : List Byte := ascii [0x4F, 0x53, 0x4C, 0x20, 0x6A, 0x6F, 0x69, 0x6E, 0x20, 0x32]
def txtJoinKey : List Byte := ascii [0x4F, 0x53, 0x4C, 0x20, 0x6A, 0x6F, 0x69, 0x6E, 0x20, 0x6B, 0x65, 0x79]

/-- A network key comes into force for transmission: the counter and its reservation record start for it (R485). -/
def Block.startEpoch (b : Block) (e : Nat) (k : List Byte) (ctr : Nat) : Block :=
  let b := b.set R.SEC_TX_CTR ctr
  b.setSec { b.sec with cur := some (e, k), reserve := some (b.netId, e, keyCheck k, ctr), keyLowSent := false }

/-- The coordinator's first entry to M6 (R483): K_master and the first network key, epoch 0. -/
def Block.firstKeys (b : Block) : Block :=
  if b.role = 0 ∧ b.sec.master = none then
    let (m, b) := b.random 32
    let (k, b) := b.random 32
    let b := b.setSec { b.sec with master := some m, level16 := b.flag R.SEC_CFG_MIC16, coord := ownEui, advanceTick := b.tick }
    (b.startEpoch 0 k 0).showKeys
  else b

/-- The nonce of a KEY_UPDATE's seal (R486). -/
def updateNonce (coord rev epoch : Nat) : List Byte := beBytes coord 8 ++ beBytes rev 4 ++ [BitVec.ofNat 8 (0x20 ||| epoch)]

/-- The KEY_UPDATE body for one node (R486). -/
def updateBody (master key : List Byte) (epoch rev eui : Nat) : List Byte :=
  let head := leBytes epoch 1 ++ [0, 0, 0] ++ leBytes rev 4
  head ++ ccmSeal (nodeKey master eui) (updateNonce ownEui rev epoch) head key 16

/-- The SWITCH_REV of an advance (R486): KEY_LEAD periods ahead, and later than every dozing node's next wake window. -/
def Block.switchRev (b : Block) : Nat :=
  let wakes := (b.nodes.map (fun a => b.node a 23 1)).foldl max 0
  let periods := max (b.get R.SEC_CFG_KEY_LEAD) (if wakes = 0 then 0 else wakes + 1)
  (b.get R.MAC_PERIOD_REV + periods * b.get R.MAC_GRID_BP_CYCLES) % 2 ^ 32

/-- The coordinator advances the epoch (R486, R487): a new key is pending, and every active node but an excluded one is
sent it. -/
def Block.advance (b : Block) (excluded : Option Nat) : Block :=
  match b.sec.cur, b.sec.master with
  | some (e, _), some master =>
    let (k, b) := b.random 32
    let e' := (e + 1) % 16
    let rev := b.switchRev
    let b := b.setSec { b.sec with next := some (e', k), switchRev := some rev, nextLevel16 := b.flag R.SEC_CFG_MIC16, advanceTick := b.tick }
    let b := b.showKeys
    b.forEach (b.members.filter (fun a => b.active a && some (b.euiOf a) != excluded)) (fun b a =>
      b.sendCommand 0x22 a (updateBody master k e' rev (b.euiOf a)))
  | _, _ => b

/-- KEY_UPDATE at a node (R486, R487): the last one received is kept; one that does not unseal is dropped. -/
def Block.keyUpdate (b : Block) : Block :=
  match b.takeCommand 0x22 with
  | none => b
  | some (m, b) =>
    match b.sec.node with
    | some kn =>
      let e := leAt m.body 0 1
      let rev := leAt m.body 4 4
      if m.body.length ≠ 56 ∨ b.role = 0 then b
      else match ccmOpen kn (updateNonce b.sec.coord rev e) (m.body.take 8) (m.body.drop 8) 16 with
        | some k => (b.setSec { b.sec with next := some (e % 16, k), switchRev := some rev, nextLevel16 := b.sec.level16 }).showKeys
        | none => b
    | none => b

/-- KEY_LOW at the coordinator (R486, R487): ignored while an advance is pending. -/
def Block.keyLowRx (b : Block) : Block :=
  match b.takeCommand 0x24 with
  | none => b
  | some (_, b) => if b.coordinator ∧ b.sec.next.isNone then b.advance none else b

/-- KEY_PERIOD_EXPIRY (R486): KEY_PERIOD hours after the last advance. -/
def Block.keyPeriod (b : Block) : Block :=
  let n := b.get R.SEC_CFG_KEY_PERIOD
  if b.coordinator ∧ n ≠ 0 ∧ b.sec.advanceTick + 90000000 * n ≤ b.tick then b.advance none else b

/-- EPOCH_SWITCH (R487): from half-cycle 0 of SWITCH_REV; without the next key the node stays in its epoch. -/
def Block.epochSwitch (b : Block) : Block :=
  match b.sec.next, b.sec.switchRev with
  | some (e, k), some rev =>
    if b.hasGrid ∧ b.reached rev then
      let b := b.setSec { b.sec with
        prev := b.sec.cur, next := none, switchRev := none, level16 := b.sec.nextLevel16
        switchTick := some b.tick, missed := false }
      ((b.startEpoch e k 0).bump R.SEC_EPOCH_ADVANCE_COUNT).showKeys
    else b
  | _, _ =>
    if b.hasGrid ∧ b.keyed ∧ b.role ≠ 0 then b.setSec { b.sec with switchTick := some b.tick, missed := true } else b

/-- KEY_GRACE_EXPIRY (R487), KEY_GRACE seconds after a switch: the previous key is erased. For a node that lacked the next key
it is the one the node still sends with, and the node rejoins. -/
def Block.keyGrace (b : Block) : Block :=
  if b.sec.switchTick.any (fun t => decide (t + 25000 * b.get R.SEC_CFG_KEY_GRACE ≤ b.tick)) = false then b
  else if b.sec.missed then
    let b := b.setSec { b.sec with prev := none, cur := none, next := none, switchRev := none, switchTick := none, missed := false }
    (b.showKeys.stick R.SEC_TROUBLE_KEY_MISSED).askMode 5
  else (b.setSec { b.sec with prev := none, switchTick := none }).showKeys

/-- A certificate verifies (R480). -/
def certOk (c : List Byte) : Bool :=
  let issuer := Config.issuerKey (leAt c 1 1)
  c.length == 128 && leAt c 0 1 == 1 && decide (leAt c 1 1 ≤ 1) && leAt c 2 2 == 0 && leAt c 4 4 == 0x5120 &&
    leAt c 54 2 == 0 && slice c 56 8 == (sha512 issuer).take 8 && edVerify issuer (c.take 64) (slice c 64 64)

/-- OWNER_FPR of the running image (R490). -/
def Block.ownerFpr (b : Block) : List Byte := match b.image.run with | some i => i.ownerFpr | none => List.replicate 8 0

/-- The digests that the join signatures sign (R490). -/
def joinDigest1 (hello challenge : List Byte) : List Byte := sha512 (txtJoin1 ++ hello ++ challenge.take 196)
def joinDigest2 (hello challenge proof : List Byte) : List Byte := sha512 (txtJoin2 ++ hello ++ challenge ++ proof.take 132)

/-- K_join (R490). -/
def joinKey (nj nc z digest2 : List Byte) : List Byte := hkdf512 (nj ++ nc) z (txtJoinKey ++ digest2) 32

/-- A JOIN frame (R286, R490): class 1, unprotected, acknowledged hop by hop; a joiner sends it from 0x0000. -/
def Block.sendJoin (b : Block) (dst : Nat) (payload : List Byte) : Block :=
  let band := b.bandToward dst
  let h := b.newHeader 7 1 dst band true
  b.submit { band := band, kind := .other, hdr := if b.mode = 5 then { h with src := 0 } else h, payload := payload }

/-- The first delivered JOIN frame of a subtype, acknowledged (R268). -/
def Block.takeJoin (b : Block) (ok : Nat → Bool) : Option (List Byte × Nat × Block) :=
  let pl (d : Delivered) : List Byte := match d.parts with | p :: _ => if p.ok then p.payload else [] | [] => []
  match b.takeDelivered (fun d => d.hdr.ftype == 7 && ok (leAt (pl d) 0 1)) with
  | some (d, b) => some (pl d, d.hdr.src, if d.hdr.ackReq then b.queueAck d d.hdr.ctr else b)
  | none => none

/-- The EUI-64 of the joiner that a JOIN message concerns: in PROOF it stands in the certificate. -/
def joinEui (l : List Byte) : Nat := if leAt l 0 1 = 3 then leAt l 12 8 else leAt l 4 8

/-- The message of a joiner for the coordinator, directly or through a relay: EUI-64, relay (0 direct), message. -/
def Block.takeJoinMsg (b : Block) (subtype : Nat) : Option (Nat × Nat × List Byte × Block) :=
  match b.sec.joinMsgs.find? (fun m => leAt m.2.2 0 1 == subtype) with
  | some m => some (m.1, m.2.1, m.2.2, b.setSec { b.sec with joinMsgs := b.sec.joinMsgs.erase m })
  | none =>
    match b.takeJoin (fun t => t == subtype) with
    | some (l, _, b) => some (joinEui l, 0, l, b)
    | none => none

/-- The coordinator answers a joiner, directly or through the relay that carries it (R490). -/
def Block.replyJoin (b : Block) (eui via : Nat) (payload : List Byte) : Block :=
  if via = 0 then b.sendJoin 0 payload else b.sendCommand 0x23 via (leBytes eui 8 ++ payload)

/-- REFUSE (R490). -/
def Block.refuseJoin (b : Block) (eui via cause : Nat) : Block :=
  (b.replyJoin eui via ([5, BitVec.ofNat 8 cause, 0, 0] ++ leBytes eui 8)).bump R.SEC_JOIN_REFUSED_COUNT

/-- JOIN_RELAY (R490): the coordinator takes the carried message in; a candidate relay carries a joiner's frame on, or the
coordinator's reply down to the joiner. -/
def Block.joinRelay (b : Block) : Block :=
  match b.takeCommand 0x23 with
  | some (m, b) =>
    let eui := leAt m.body 0 8
    let pl := m.body.drop 8
    if m.body.length < 12 then b
    else if b.coordinator then b.setSec { b.sec with joinMsgs := b.sec.joinMsgs ++ [(eui, m.origin, pl)] }
    else if b.role = 1 then b.sendJoin 0 pl
    else b
  | none =>
    if b.role = 1 ∧ b.mode ≠ 5 then
      match b.takeJoin (fun t => t == 1 || t == 3) with
      | some (l, _, b) => b.sendCommand 0x23 1 (leBytes (joinEui l) 8 ++ l)
      | none => b
    else b

/-- The CHALLENGE for a HELLO (R490), with N_C and the ephemeral private key. -/
def Block.challenge (b : Block) (eui : Nat) (hello nc priv : List Byte) : List Byte :=
  let body := [2, 0, 0, 0] ++ leBytes eui 8 ++ nc ++ x25519 priv x25519Base ++ b.ownerFpr ++ Config.certificate
  body ++ edSign Config.deviceKey (joinDigest1 hello body)

/-- The joiner's state at the coordinator. -/
def Block.joiner (b : Block) (eui : Nat) : Option Joiner := b.sec.joiners.find? (fun j => j.eui == eui)

/-- A joiner's state is dropped (R490). -/
def Block.dropJoiner (b : Block) (eui : Nat) : Block :=
  b.setSec { b.sec with joiners := b.sec.joiners.filter (fun j => j.eui != eui) }

/-- A joiner's state is kept. -/
def Block.keepJoiner (b : Block) (j : Joiner) : Block :=
  let b := b.dropJoiner j.eui
  b.setSec { b.sec with joiners := b.sec.joiners ++ [j] }

/-- HELLO at the coordinator (R490). -/
def Block.hello (b : Block) : Block :=
  if b.coordinator = false then b
  else match b.takeJoinMsg 1 with
  | none => b
  | some (eui, via, l, b) =>
    let nj := slice l 12 16
    let fresh (b : Block) : Block :=
      let (nc, b) := b.random 16
      let (priv, b) := b.random 32
      let c := b.challenge eui l nc priv
      (b.keepJoiner { eui := eui, via := via, nj := nj, hello := l, challenge := c, priv := priv, since := b.tick }).replyJoin eui via c
    if l.length ≠ 68 then b
    else match b.joiner eui with
      | some j => if j.nj = nj then b.replyJoin eui via j.challenge else fresh b
      | none => if 64 ≤ b.sec.joiners.length then b.refuseJoin eui via 5 else fresh b

/-- The EUI-64s of SEC_BAR. -/
def Block.barList (b : Block) : List Nat :=
  ((List.range 64).map (fun i => b.get (R.SEC_BAR_LO i) + 2 ^ 32 * b.get (R.SEC_BAR_HI i))).filter (fun e => e != 0)

/-- The EUI-64s that TABLE_INIT presets in the node table (R316, R490). -/
def Block.presetEuis (b : Block) : List Nat :=
  (List.range (leAt b.tableInit 2 2)).map (fun i => leAt b.tableInit (0x40 + 64 * i) 8)

/-- The address for a joiner (R265): the one its EUI-64 holds, else the lowest free one; 0 none. -/
def Block.addressFor (b : Block) (eui : Nat) : Nat :=
  match b.nodes.find? (fun a => a != 1 && b.euiOf a == eui) with
  | some a => a
  | none =>
    let used := b.nodes
    ((List.range (used.length + 1)).map (· + 2)).find? (fun a => decide (a ≤ 0x3FFF) && !used.contains a) |>.getD 0

/-- Why a PROOF is refused (R490); 0: it is not. `z` is the shared secret. -/
def Block.proofCause (b : Block) (j : Joiner) (proof z : List Byte) : Nat :=
  let cert := slice proof 4 128
  if certOk cert = false ∨ leAt cert 8 8 ≠ j.eui ∨
      edVerify (slice cert 16 32) (joinDigest2 j.hello j.challenge proof) (slice proof 132 64) = false then 2
  else if slice j.hello 60 8 ≠ b.ownerFpr then 3
  else if b.barList.contains j.eui ∨ (b.flag R.SEC_CFG_ADMIT_LIST ∧ b.presetEuis.contains j.eui = false) then 1
  else if allZero z then 4
  else if b.addressFor j.eui = 0 then 5
  else 0

/-- The GRANT for a joiner (R490). -/
def Block.grantMsg (b : Block) (j : Joiner) (a epoch : Nat) (key master kj : List Byte) : List Byte :=
  let head := [4, 0, 0, 0] ++ leBytes j.eui 8
  let body := leBytes a 2 ++ leBytes (leAt b.macRole 6 2) 2 ++ [if b.sec.level16 then 1 else 0] ++ leBytes epoch 1 ++
    [0, 0] ++ keyCheck key ++ nodeKey master j.eui ++ key
  head ++ ccmSeal kj (beBytes ownEui 8 ++ beBytes 0 4 ++ [0x20]) head body 16

/-- The coordinator's node-table entry of a granted node (R292): it joins, so routes and tree are due. -/
def Block.enrolNode (b : Block) (eui a : Nat) : Block :=
  let new := b.hasNode a == false
  let b := if new then
      (((b.emptyNode a).setNode a 10 1 0xFF).setNode a 14 2 0xFFFF).setNode a 34 2 0xFFFF
    else b
  let b := ((((b.setNode a 0 8 eui).setNode a 8 2 a).setNode a 11 1 2).setNode a 12 2 0).setNode a 40 8 (stamp64 b.now)
  let b := b.setMesh { b.mesh with routeDue := true, treeDue := true }
  b.showMesh

/-- PROOF at the coordinator (R490). -/
def Block.proof (b : Block) : Block :=
  if b.coordinator = false then b
  else match b.takeJoinMsg 3 with
  | none => b
  | some (eui, via, l, b) =>
    match b.joiner eui, b.sec.cur, b.sec.master with
    | some j, some (e, k), some master =>
      if l.length ≠ 196 then b
      else if j.grant ≠ [] then b.replyJoin eui via j.grant
      else
        let z := x25519 j.priv (slice j.hello 28 32)
        let cause := b.proofCause j l z
        if cause ≠ 0 then (b.refuseJoin eui via cause).dropJoiner eui
        else
          let a := b.addressFor eui
          let kj := joinKey j.nj (slice j.challenge 12 16) z (joinDigest2 j.hello j.challenge l)
          let g := b.grantMsg j a e k master kj
          let b := (b.keepJoiner { j with grant := g }).enrolNode eui a
          (b.replyJoin eui via g).bump R.SEC_JOIN_OK_COUNT
    | _, _, _ => b

/-- JOINER_STATE_EXPIRY (R490): a joiner's state is kept for 30 s. -/
def Block.joinerExpiry (b : Block) (eui : Nat) : Block :=
  if (b.joiner eui).any (fun j => decide (j.since + 750000 ≤ b.tick)) then b.dropJoiner eui else b

/-- A candidate is passed over for 64 beacon periods (R286). When every candidate is, the node returns to M4. -/
def Block.passOver (b : Block) (addr : Nat) : Block :=
  let ticks := match b.grid.cur, b.grid.next with
    | some g, _ => 64 * b.get R.MAC_GRID_BP_CYCLES * g.t / tickLen
    | none, some g => 64 * max 1 b.grid.nextBp * g.t / tickLen
    | none, none => 0
  let l := b.mac.candidates.map (fun c => if c.addr = addr then { c with passed := true, again := b.tick + ticks } else c)
  let b := b.setSec { b.sec with own := none }
  let b := b.setMac { b.mac with candidates := l, candidate := none, beaconFrom := none }
  if l.all (fun c => c.passed) then b.askMode 4 else b

/-- Candidates may be tried again (R286). -/
def Block.freshCandidates (b : Block) : Block :=
  b.setMac { b.mac with candidates := b.mac.candidates.map (fun c =>
    if c.passed ∧ c.again ≤ b.tick then { c with passed := false, tries := 0 } else c) }

/-- The HELLO of a node (R490): it asks for the address it holds. -/
def Block.helloMsg (b : Block) (nj priv : List Byte) : List Byte :=
  [1, if b.sec.reserve.isSome then 1 else 0] ++ leBytes b.short 2 ++ leBytes ownEui 8 ++ nj ++ x25519 priv x25519Base ++
    b.ownerFpr

/-- One attempt more at a candidate. -/
def Block.countTry (b : Block) (addr : Nat) : Block :=
  b.setMac { b.mac with candidates := b.mac.candidates.map (fun c =>
    if c.addr = addr then { c with tries := c.tries + 1 } else c) }

/-- JOIN_TX (R286, R490): in M5 with a candidate's full beacon, HELLO, or the PROOF that was sent last; after JOIN_TRIES
attempts the candidate is passed over. -/
def Block.joinTx (b : Block) : Block :=
  match b.mac.candidate with
  | none => b
  | some c =>
    let tries := match b.mac.candidates.find? (fun x => x.addr == c) with | some x => x.tries | none => 0
    if b.mode ≠ 5 ∨ b.mac.granted then b
    else if leAt b.macRole 0x0F 1 ≤ tries then b.passOver c
    else
      let b := b.countTry c
      match b.sec.own with
      | some o => if o.cand = c then b.sendJoin c (if o.step = 2 then o.proof else o.hello) else b
      | none =>
        let (nj, b) := b.random 16
        let (priv, b) := b.random 32
        let h := b.helloMsg nj priv
        (b.setSec { b.sec with own := some { cand := c, step := 1, nj := nj, priv := priv, hello := h } }).sendJoin c h

/-- CHALLENGE at the joiner (R490): checked, and answered with PROOF. -/
def Block.challengeRx (b : Block) : Block :=
  if b.mode ≠ 5 then b
  else match b.takeJoin (fun t => t == 2), b.sec.own with
  | some (l, _, b), some o =>
    let cert := slice l 68 128
    if l.length ≠ 260 ∨ leAt l 4 8 ≠ ownEui ∨ certOk cert = false ∨
        edVerify (slice cert 16 32) (joinDigest1 o.hello l) (slice l 196 64) = false ∨ slice l 60 8 ≠ b.ownerFpr then b
    else
      let z := x25519 o.priv (slice l 28 32)
      if allZero z then b.setSec { b.sec with own := none }
      else
        let body := [3, 0, 0, 0] ++ Config.certificate
        let d := joinDigest2 o.hello l body
        let p := body ++ edSign Config.deviceKey d
        let b := b.setSec { b.sec with
          own := some { o with step := 2, proof := p, key := joinKey o.nj (slice l 12 16) z d }, coord := leAt cert 8 8 }
        b.sendJoin o.cand p
  | some (_, _, b), none => b
  | none, _ => b

/-- The joiner has its address and has taken the step of R35: the MAC requests M6 (R286). -/
def Block.joinDone (b : Block) : Block :=
  if b.mode = 5 ∧ b.mac.granted ∧ b.flag R.GLB_TICK_STAT_GRID_ALIGNED then b.askMode 6 else b

/-- A granted node's address and entry (R292), with the candidate as its first uplink and timing parent. -/
def Block.takeAddress (b : Block) (a cand : Nat) : Block :=
  let b := b.set R.MAC_ADDR_SHORT a
  let b := if b.hasNode a then b else (b.emptyNode a).setNode a 34 2 0xFFFF
  let b := (((b.setNode a 0 8 ownEui).setNode a 8 2 a).setNode a 10 1 b.role).setNode a 11 1 2
  let band := b.bandToward cand
  let b := if b.hasFwd 1 then b
    else ((b.setTab (fwdAt 1) 2 cand).setTab (fwdAt 1 + 4) 1 (b.linkPort cand band + 4 * band)).showUplink
  if b.get R.TIM_PARENT_PARENT = 0 then
    (((b.setNode a 18 2 cand).set R.TIM_TREE_PORT (b.linkPort cand band)).set R.TIM_TREE_BAND band).changeParent cand
  else b

/-- GRANT at the joiner (R485, R490): the frame counter resumes from the reservation record that matches, else starts
at 0. -/
def Block.grantRx (b : Block) : Block :=
  if b.mode ≠ 5 then b
  else match b.takeJoin (fun t => t == 4), b.sec.own with
  | some (l, _, b), some o =>
    if l.length ≠ 108 ∨ leAt l 4 8 ≠ ownEui ∨ o.step ≠ 2 then b
    else match ccmOpen o.key (beBytes b.sec.coord 8 ++ beBytes 0 4 ++ [0x20]) (l.take 12) (l.drop 12) 16 with
      | none => b
      | some g =>
        let e := leAt g 5 1 % 16
        let k := slice g 48 32
        let ctr := match b.sec.reserve with
          | some (net, e', chk, r) => if net = b.netId ∧ e' = e ∧ chk = slice g 8 8 then r else 0
          | none => 0
        let b := b.setSec { b.sec with
          own := none, prev := none, next := none, switchRev := none, node := some (slice g 16 32)
          level16 := (leAt g 4 1).testBit 0 }
        let b := ((b.startEpoch e k ctr).showKeys).takeAddress (leAt g 0 2) o.cand
        (b.setMac { b.mac with granted := true, lease := leAt g 2 2 }).joinDone
  | some (_, _, b), none => b
  | none, _ => b

/-- REFUSE at the joiner (R490): unauthenticated, so only a failed attempt. -/
def Block.refuseRx (b : Block) : Block :=
  if b.mode ≠ 5 then b
  else match b.takeJoin (fun t => t == 5) with
  | some (l, _, b) =>
    if l.length = 12 ∧ leAt l 4 8 = ownEui ∧ (leAt l 1 1 = 0 ∨ 5 < leAt l 1 1) then b.bump R.SEC_UNDEF_COUNT
    else if l.length = 12 ∧ leAt l 4 8 = ownEui then
      match b.sec.own with
      | some o => (b.setSec { b.sec with own := none }).countTry o.cand
      | none => b
    else b
  | none => b

end Sys2Proof.Machine
end

