-- ==== Sys2Proof/Machine/Content.lean ====
section
/-! DEFINITION. The content checks of an image at load (R92 step 7, R111): the layout rules of every segment payload
(R67, R88, R147, R249, R283, R287, R316, R322, R383, R403, R459), the DDR4 partition (R19), the fabric (R22), the queue
pools (R318) and the supervisor (R26). -/

namespace Sys2Proof.Machine

/-- A field of `n` bytes lies in a range. -/
def inRange (l : List Byte) (o n lo hi : Nat) : Bool := decide (lo ≤ leAt l o n ∧ leAt l o n ≤ hi)

/-- A signed byte lies in a range. -/
def inSigned (l : List Byte) (o n : Nat) (lo hi : Int) : Bool :=
  decide (lo ≤ sext (8 * n) (leAt l o n) ∧ sext (8 * n) (leAt l o n) ≤ hi)

/-- Reserved bytes are zero. -/
def zeroAt (l : List Byte) (o n : Nat) : Bool := allZero (slice l o n)

/-- Every check of a list holds. -/
def every (l : List Bool) : Bool := l.all id

/-- X2 input-only pins, and GPIO0–GPIO7 (R60). -/
def pinInputOnly (pin : Nat) : Bool := [5, 6, 7, 12, 18, 25, 27, 29, 31, 47, 48, 49, 51].contains pin
def pinGpio (pin : Nat) : Bool := decide (33 ≤ pin ∧ pin ≤ 40)

/-- The pins of PIN_PLAN in entry order (R67). -/
def planPins : List Nat :=
  [5, 6, 7, 8, 9, 11, 12, 13, 14, 17, 18, 19, 20, 23, 25, 27, 29, 31, 33, 34, 35, 36, 37, 38, 39, 40, 43, 44, 47, 48, 49,
   50, 51]

/-- PIN_PLAN (R67). -/
def pinPlanOk (l : List Byte) : Bool :=
  l.length == 132 &&
  ((List.range 33).all (fun k =>
    let e := leAt l (4 * k) 4
    let pin := planPins.getD k 0
    every [!(e.testBit 0 && pinInputOnly pin), !(e.testBit 4) || pinGpio pin, bits e 5 2 != 3, e / 128 == 0]))

/-- The permitted centres of R122 in 10 kHz. -/
def centreOk (profile c : Nat) : Bool :=
  match profile with
  | 0 => decide (6580 ≤ c ∧ c ≤ 6600)
  | 1 => decide (3380 ≤ c ∧ c ≤ 9800)
  | 2 => decide (1780 ≤ c ∧ c ≤ 11400)
  | 3 => decide (980 ≤ c ∧ c ≤ 12200)
  | _ => false

/-- One port record of BAND_PLAN (R147). -/
def portPlanOk (l : List Byte) (p : Nat) : Bool :=
  let o := 32 * p
  let h := leAt l o 1
  let lf := leAt l (o + 1) 1
  let gate (w : Nat) : Bool := decide (6 ≤ bits w 2 8 ∧ bits w 2 8 ≤ 80) && bits w 26 6 == 0
  every [h == 0xFF || centreOk h (leAt l (o + 2) 2), lf == 0xFF || (p != 3 && (lf == 4 || lf == 5)),
    inRange l (o + 4) 1 0 127, inRange l (o + 5) 1 0 127, inRange l (o + 6) 1 12 60, inRange l (o + 7) 1 12 60,
    zeroAt l (o + 10) 2, gate (leAt l (o + 12) 4), gate (leAt l (o + 16) 4), zeroAt l (o + 20) 12]

/-- The quiet windows of a band (R283). -/
def quietPlanOk (l : List Byte) (o count : Nat) : Bool :=
  (List.range 64).all (fun w =>
    if w < count then inRange l (o + 8 * w) 4 0 86399999 && inRange l (o + 8 * w + 4) 4 0 86399999 &&
      leAt l (o + 8 * w) 4 != leAt l (o + 8 * w + 4) 4
    else zeroAt l (o + 8 * w) 8)

/-- The budget of a band (R283). -/
def budgetPlanOk (l : List Byte) (o : Nat) : Bool :=
  inRange l (o + 8) 2 1 3600 && inRange l o 4 0 (leAt l (o + 8) 2 * 1000000) && inRange l (o + 4) 4 0 (leAt l o 4) &&
    inRange l (o + 10) 1 0 64

/-- BAND_PLAN (R147, R283). -/
def bandPlanOk (l : List Byte) : Bool :=
  l.length == 1568 && every [
    (List.range 4).all (portPlanOk l),
    leAt l 0x80 2 == 180 || ((List.range 4).all (fun p => leAt l (32 * p) 1 == 0xFF)),
    (List.range (min 8 (leAt l 0xA0 1))).all (fun s => inSigned l (0x82 + 4 * s) 2 (-240) (-80)),
    inRange l 0xA0 1 1 8 || ((List.range 4).all (fun p => leAt l (32 * p) 1 == 0xFF)),
    inRange l 0xA1 1 0 32, inRange l 0xA2 2 160 268, inRange l 0xA4 1 1 8, inRange l 0xA5 1 4 12, inRange l 0xA6 1 0 10,
    zeroAt l 0xA7 89,
    (List.range 32).all (fun n =>
      if n < leAt l 0xA1 1 then inRange l (0x104 + 8 * n) 1 0 1 && zeroAt l (0x105 + 8 * n) 3 &&
        (leAt l (0x104 + 8 * n) 1 == 0 || decide (leAt l (0x100 + 8 * n) 2 + 20 ≤ leAt l (0x102 + 8 * n) 2))
      else zeroAt l (0x100 + 8 * n) 8),
    budgetPlanOk l 0x200, zeroAt l 0x20B 1, budgetPlanOk l 0x20C, inRange l 0x217 1 0 1, inSigned l 0x218 2 (-720) 840,
    zeroAt l 0x21A 6, quietPlanOk l 0x220 (leAt l 0x20A 1), quietPlanOk l 0x420 (leAt l 0x216 1)]

/-- The slot map of a head-end (R256, R257, R287): permitted roles, a BEACON slot in row 0, a Band H CONTENTION slot in
every row. -/
def mapPlanOk (l : List Byte) : Bool :=
  let role (r k : Nat) : Nat := leAt l (0x20 + 8 * r + k) 1
  let n := leAt l 3 1
  (List.range n).all (fun r =>
    (List.range 8).all (fun k => decide (role r k % 16 ≤ 5) && [0, 2, 5].contains (role r k / 16)) &&
      (List.range 8).any (fun k => role r k % 16 == 0)) &&
  (List.range 8).any (fun k => role 0 k % 16 == 1) && zeroAt l (0x20 + 8 * n) (8 * (16 - n))

/-- MAC_ROLE (R287). -/
def macRoleOk (l : List Byte) : Bool :=
  let head := leAt l 0 1 == 0
  let auto := leAt l 0x15 1 == 1
  let m := leAt l 0x1A 2
  l.length == 160 && every [
    inRange l 0 1 0 2,
    if head then inRange l 1 1 1 64 && inRange l 2 1 1 16 && inRange l 3 1 1 16 && mapPlanOk l
      else zeroAt l 1 3 && zeroAt l 6 2 && zeroAt l 0x15 4 && zeroAt l 0x20 128,
    inRange l 4 2 0 0xFFFE, inRange l 8 1 0 15, inRange l 9 1 (leAt l 8 1) 15, inRange l 0xA 1 1 15, inRange l 0xB 1 1 60,
    inRange l 0xC 1 0 15, inRange l 0xE 1 1 255, inRange l 0xF 1 1 15, inRange l 0x10 2 0 0x7FFF, inRange l 0x12 2 0 4095,
    if leAt l 0 1 = 2 then inRange l 0x14 1 0 1 else zeroAt l 0x14 1,
    inRange l 0x15 1 0 1,
    if head && auto then inRange l 0x16 2 10 3600 && inRange l 0x18 1 1 40 else zeroAt l 0x16 3,
    inRange l 0x19 1 45 66, inRange l 0x1C 1 (leAt l 0x19 1) 66, zeroAt l 0x1D 3,
    modeProfile m == 0 && modeStreams m == 1 && modeMod m != 3 && decide (modeRate m < 4 ∧ modeExp m < 13)]

/-- A queue's entry: present and lossy. -/
def lossyQueue (q : List Byte) (n : Nat) : Bool :=
  decide (n < 4096) && leAt q (16 * n) 4 != 0 && !(leAt q (16 * n + 8) 1).testBit 1

/-- One host port of TIMING (R246, R249). -/
def ptpPlanOk (l : List Byte) (j : Nat) : Bool :=
  let o := 0x40 + 16 * j
  let profile := leAt l (o + 1) 1
  every [inRange l o 1 0 2, leAt l o 1 != 2 || leAt l 2 1 == j, inRange l (o + 1) 1 0 2,
    if profile = 2 then zeroAt l (o + 2) 1 && leAt l (o + 3) 1 == 254 else inRange l (o + 2) 1 0 2 && inRange l (o + 3) 1 0 127,
    inSigned l (o + 4) 1 (-7) 4, inSigned l (o + 5) 1 (-3) 4, inSigned l (o + 6) 1 (-7) 6, inRange l (o + 7) 1 0 1,
    zeroAt l (o + 10) 6]

/-- TIMING (R249); `role` is the role of MAC_ROLE, `q` QUEUE_LAYOUT. -/
def timingPlanOk (l : List Byte) (role : Nat) (q : List Byte) : Bool :=
  l.length == 128 && every [
    if role = 0 then inRange l 0 1 0 2 else leAt l 0 1 == 3,
    inRange l 1 1 0 1, inRange l 2 1 0 2 || (leAt l 2 1 == 0xFF && leAt l 0 1 != 1), zeroAt l 3 1, inRange l 4 2 1 1000,
    inRange l 6 2 1 4000, inRange l 8 2 1 1000, inRange l 0xA 2 1 65535, inRange l 0xC 1 1 255, inRange l 0xD 1 1 255,
    inRange l 0xE 1 2 15, inRange l 0xF 1 1 255, inRange l 0x10 2 1 7000, inRange l 0x12 2 1 400, inRange l 0x20 1 1 255,
    inRange l 0x21 1 8 255, inRange l 0x22 1 1 8, inRange l 0x23 1 10 80, inRange l 0x24 1 0 40, inRange l 0x25 1 0 15,
    inRange l 0x2E 1 0 15, zeroAt l 0x2F 1, inRange l 0x30 4 1 500000,
    leAt l 0x2E 1 == 0 || lossyQueue q (leAt l 0x38 2), zeroAt l 0x3A 6, (List.range 3).all (ptpPlanOk l), zeroAt l 0x70 16]

/-- One entry of QUEUE_LAYOUT (R322); `bulk` is the bulk pool in cells. -/
def queueEntryOk (l : List Byte) (bulk n : Nat) : Bool :=
  let o := 16 * n
  let cap := leAt l o 4
  let f := leAt l (o + 8) 1
  let assured := f.testBit 1
  if cap = 0 then zeroAt l o 16
  else every [inRange l o 4 0 (if f.testBit 0 then bulk else 65536), inRange l (o + 8) 1 0 63, f.testBit 2 || f.testBit 3,
    !assured || f.testBit 3, leAt l (o + 9) 1 == 0 || (assured && f.testBit 4),
    if assured then inRange l (o + 10) 2 0 1023 || leAt l (o + 10) 2 == 0xFFFF else leAt l (o + 10) 2 == 0xFFFF,
    zeroAt l (o + 12) 4]

/-- The capacities of one pool (R318). -/
def poolCells (l : List Byte) (bulk : Bool) : Nat :=
  ((List.range 4096).map (fun n => if (leAt l (16 * n + 8) 1).testBit 0 = bulk then leAt l (16 * n) 4 else 0)).sum

/-- QUEUE_LAYOUT (R322, R318, R111). -/
def queuePlanOk (l : List Byte) (bulk : Nat) : Bool :=
  l.length == 65536 && (List.range 4096).all (queueEntryOk l bulk) &&
    decide (poolCells l false ≤ 65536 ∧ poolCells l true ≤ bulk)

/-- The keys of a list rise strictly. -/
def rising : List Nat → Bool
  | a :: c :: l => decide (a < c) && rising (c :: l)
  | _ => true

/-- CUSTODY (R383); `q` is QUEUE_LAYOUT, `window` the size of the custody-window region. -/
def custodyPlanOk (l q : List Byte) (window : Nat) : Bool :=
  if l.isEmpty then true
  else
    let n := leAt l 8 2
    let s := leAt l 0xA 1
    let chan (i : Nat) : Nat := 0x40 + 32 * i
    let stream (i : Nat) : Nat := 0x40 + 32 * n + 8 * i
    let tx (i : Nat) : Nat := leAt l (chan i + 8) 4
    let rx (i : Nat) : Nat := leAt l (chan i + 12) 4
    let qf (k : Nat) : Nat := leAt q (16 * k + 8) 1
    let backed (k i : Nat) : Bool := decide (k < 4096) && (qf k).testBit 1 && leAt q (16 * k + 10) 2 == leAt l (chan i) 2
    let udp := decide (2 ≤ leAt l 1 1)
    decide (n ≤ 1024 ∧ s ≤ 32) && l.length == 0x40 + 32 * n + 8 * s && every [
      leAt l 0 1 == 1, inRange l 1 1 0 7, n == 0 || leAt l 1 1 != 0, inRange l 2 2 0x600 0xFFFF, !udp || leAt l 4 2 != 0,
      inRange l 6 1 0 7, inRange l 7 1 0 7, inRange l 0xB 1 0 7, inRange l 0xC 2 1 60000, inRange l 0xE 2 0 10000,
      inRange l 0x10 2 100 60000, inRange l 0x12 2 0 1000, inRange l 0x14 2 100 60000, zeroAt l 0x16 2, zeroAt l 0x1C 4,
      zeroAt l 0x30 16,
      (List.range n).all (fun i => every [inRange l (chan i) 2 0 1023, inRange l (chan i + 2) 2 1 0x3FFF,
        inRange l (chan i + 4) 2 0 1023, inRange l (chan i + 6) 1 0 1, zeroAt l (chan i + 7) 1, zeroAt l (chan i + 20) 12,
        backed (leAt l (chan i + 16) 2) i && (qf (leAt l (chan i + 16) 2)).testBit 4 &&
          decide (2 * tx i ≤ leAt q (16 * leAt l (chan i + 16) 2) 4),
        backed (leAt l (chan i + 18) 2) i && decide (rx i ≤ leAt q (16 * leAt l (chan i + 18) 2) 4)]),
      rising ((List.range n).map (fun i => leAt l (chan i) 2)),
      decide (((List.range n).flatMap (fun i => [leAt l (chan i + 16) 2, leAt l (chan i + 18) 2])).Nodup),
      decide (((List.range n).map (fun i => tx i + rx i)).sum ≤ min 262144 (window / 128)),
      (List.range s).all (fun i => lossyQueue q (leAt l (stream i) 2) && inRange l (stream i + 2) 1 0 31 &&
        zeroAt l (stream i + 3) 5),
      decide (((List.range s).map (fun i => leAt l (stream i + 2) 1)).Nodup)]

/-- Tables of TABLE_INIT (R316): BASE and end of each, and where the initial contents of each begin. -/
def userTables (l : List Byte) : List (Nat × Nat × Nat × Nat) :=
  let d := 64 + 64 * leAt l 2 2 + 36 * leAt l 4 2
  let n := leAt l 0x1D 1
  ((List.range n).foldl (fun (acc : Nat × List (Nat × Nat × Nat × Nat)) i =>
    let o := d + 16 * i
    let len := leAt l (o + 12) 4
    (acc.1 + len, acc.2 ++ [(leAt l (o + 8) 4, leAt l (o + 8) 4 + leAt l (o + 2) 2 * leAt l (o + 4) 4, acc.1, len)]))
    (d + 16 * n, [])).2

/-- TABLE_INIT (R316). -/
def tablePlanOk (l q : List Byte) : Bool :=
  if l.isEmpty then true
  else
    let nn := leAt l 2 2
    let nf := leAt l 4 2
    let nu := leAt l 0x1D 1
    let d := 64 + 64 * nn + 36 * nf
    let utab := userTables l
    decide (nn ≤ 16383 ∧ nf ≤ 16383 ∧ nu ≤ 16) && every [
      leAt l 0 1 == 1, zeroAt l 1 1, inRange l 0xE 2 1 3600, inRange l 0x10 2 1 65535, inRange l 0x12 1 1 255,
      inRange l 0x13 1 1 32, inRange l 0x16 2 0 256, leAt l 0x16 2 == 0 || lossyQueue q (leAt l 0x14 2),
      inRange l 0x19 1 1 15, inRange l 0x1A 1 1 4, inRange l 0x1B 1 2 15, zeroAt l 0x1E 34,
      (List.range nn).all (fun i => inRange l (64 + 64 * i + 8) 2 1 0x3FFF),
      decide (((List.range nn).map (fun i => leAt l (64 + 64 * i + 8) 2)).Nodup),
      (List.range nf).all (fun i => inRange l (64 + 64 * nn + 36 * i) 2 1 0x3FFF && zeroAt l (64 + 64 * nn + 36 * i + 2) 2),
      decide (((List.range nf).map (fun i => leAt l (64 + 64 * nn + 36 * i) 2)).Nodup),
      (List.range nu).all (fun i =>
        let o := d + 16 * i
        inRange l (o + 2) 2 4 4096 && leAt l (o + 2) 2 % 4 == 0 && leAt l (o + 4) 4 != 0 && leAt l (o + 8) 4 % 64 == 0 &&
          leAt l (o + 12) 4 % 4 == 0 && decide (leAt l (o + 12) 4 ≤ leAt l (o + 2) 2 * leAt l (o + 4) 4)),
      decide (((List.range nu).map (fun i => leAt l (d + 16 * i) 2)).Nodup),
      utab.all (fun (t : Nat × Nat × Nat × Nat) => decide (t.2.1 ≤ 0x180000)),
      decide (utab.Pairwise (fun (t u : Nat × Nat × Nat × Nat) => t.2.1 ≤ u.1 ∨ u.2.1 ≤ t.1)),
      l.length == d + 16 * nu + (utab.map (fun (t : Nat × Nat × Nat × Nat) => t.2.2.2)).sum]

/-- SENSOR_PLAN (R403). -/
def sensorPlanOk (l q : List Byte) : Bool :=
  if l.isEmpty then true
  else
    let n := leAt l 1 1
    decide (n ≤ 32) && l.length == 0x120 + 16 * n && every [
      leAt l 0 1 == 1, inRange l 2 2 0 60000,
      (List.range 8).all (fun c => leAt l (0x20 + 32 * c) 1 == 0) || lossyQueue q (leAt l 4 2), inRange l 6 2 0 600,
      zeroAt l 9 23,
      (List.range 8).all (fun c =>
        let o := 0x20 + 32 * c
        let kind := leAt l o 1
        let rtd := kind == 2 || kind == 3
        every [inRange l o 1 0 4, if rtd then inRange l (o + 1) 1 2 4 && inRange l (o + 2) 1 1 3 else zeroAt l (o + 1) 2,
          decide (leAt l (o + 3) 1 % 8 ≤ 4) && bits (leAt l (o + 3) 1) 5 3 == 0, inRange l (o + 4) 1 0 8, zeroAt l (o + 7) 1,
          leAt l (o + 1) 1 == 2 || zeroAt l (o + 8) 2, zeroAt l (o + 14) 2, kind == 4 || zeroAt l (o + 16) 8,
          zeroAt l (o + 24) 8]),
      (List.range n).all (fun i => let o := 0x120 + 16 * i
        inRange l (o + 8) 1 0 7 && leAt l (o + 9) 1 != 0 && zeroAt l (o + 10) 6)]

/-- SUPERVISOR (R459); `spindles` is the number that STRUCTURE reserves, `role` the role of MAC_ROLE. -/
def supervisorOk (l : List Byte) (spindles role : Nat) : Bool :=
  let n := leAt l 8 1
  let ovl := leAt l 0xC 4
  decide (2 ≤ n ∧ n ≤ 16) && l.length == 64 + 81920 * n + ovl && every [
    slice l 0 4 == [0x53, 0x55, 0x50, 0x56], inRange l 9 1 2 n, inRange l 0xA 1 1 7, zeroAt l 0xB 1,
    decide (ovl % 64 = 0 ∧ ovl ≤ 8388608), zeroAt l 0x10 48,
    decide (leAt l 9 1 ≤ spindles ∧ spindles ≤ n), (leAt l 0xA 1).testBit role]

/-- The header and sections of the node-wide STRUCTURE (R88). -/
def structureOk (l : List Byte) : Bool :=
  let routes := ceilDiv (16 * leAt l 4 2) 64 * 64
  let parts := ceilDiv (16 * leAt l 3 1) 64 * 64
  every [leAt l 0 1 == 1, inRange l 2 1 0 7, inRange l 3 1 1 16, inRange l 4 2 1 1024, inRange l 6 2 0 512, zeroAt l 8 56,
    decide (2112 + routes + (if leAt l 6 2 = 0 then 16 * leAt l 3 1 else parts + 8 * leAt l 6 2) ≤ l.length)]

/-- The reservations per port and direction (R22), dormant routes included. -/
def fabricOk (routes : List (Nat × Nat × Nat × Nat × Bool)) : Bool :=
  let tooMany (fin : Nat × Nat × Nat × Nat × Bool → Nat) (port : Nat) : Bool :=
    decide (31130 < ((routes.filter (fun r => fin r = port)).map (fun (r : Nat × Nat × Nat × Nat × Bool) => r.2.2.1)).sum)
  routes.all (fun r => !(tooMany (fun (x : Nat × Nat × Nat × Nat × Bool) => x.1) r.1) &&
    !(tooMany (fun (x : Nat × Nat × Nat × Nat × Bool) => x.2.1) r.2.1))

/-- The DDR4 partition (R19, R111). -/
def partitionOk (i : Image) : Bool :=
  let p := i.partitions
  every [(p.filter (fun (r : Nat × Nat × Nat) => r.1 = 4)).map (fun (r : Nat × Nat × Nat) => r.2.2) == [0x8000000],
    decide (i.regionSize 0 ≤ 0x200000000), decide ((p.map (fun (r : Nat × Nat × Nat) => r.2.2)).sum ≤ 0x400000000)]

/-- The bulk pool in cells (R318). -/
def Image.bulkCells (i : Image) : Nat := min (i.regionSize 0 / 128) 67108864

/-- The supervisor spindles (R26, R88): 2 to 16, in the slice that STRUCTURE names. -/
def supvOk (i : Image) : Bool :=
  let l := i.supvSpindles
  decide (2 ≤ l.length ∧ l.length ≤ 16) && l.all (fun n => n / 64 == i.supvSlice)

/-- Whether a segment's payload passes the load-time checks of R111. -/
def segContentOk (i : Image) (g : Seg) : Bool :=
  let q := i.payload 4
  let role := leAt (i.payload 7) 0 1
  match g.kind with
  | 1 =>
    if g.slice = 0xFF then structureOk g.data && fabricOk i.routes && partitionOk i && supvOk i && i.placementsOk
    else Config.sliceLayoutOk g.data
  | 2 => g.library || i.scheduleOk g
  | 3 => supervisorOk g.data i.supvSpindles.length role
  | 4 => queuePlanOk g.data i.bulkCells
  | 5 => custodyPlanOk g.data q (i.regionSize 1)
  | 6 => bandPlanOk g.data
  | 7 => macRoleOk g.data
  | 8 => tablePlanOk g.data q
  | 9 => sensorPlanOk g.data q
  | 10 => pinPlanOk g.data
  | 11 => timingPlanOk g.data role q
  | _ => false

/-- Step 7 of R92 for a full image: the schedule count, then the content of every segment. -/
def contentCheck (i : Image) : Option (Nat × Nat) :=
  if i.schedulesOk = false then some (0x06, 0xFF)
  else firstFail ((List.range i.segs.length).map (fun k =>
    (match i.segs[k]? with | some g => segContentOk i g | none => true, ((0x0E : Nat), k))))

end Sys2Proof.Machine
end

