-- ==== Sys2Proof/Machine/Load.lean ====
section
/-! DEFINITION. A load puts an image in force (R100): the image-set fields of every block (R147, R249, R283, R287, R316,
R403), the queues (R322, R343), the tables (R296, R316), and custody (R384). -/

namespace Sys2Proof.Machine

/-- Write a list of fields. -/
def Block.setAll (b : Block) (l : List (Field × Nat)) : Block := l.foldl (fun b e => b.set e.1 e.2) b

/-- A profile byte of BAND_PLAN as LFE_CFG shows it (R148). -/
def profileCode (v : Nat) : Nat := if v = 0xFF then 7 else v

/-- One port's fields from BAND_PLAN (R147, R148). -/
def portFields (l : List Byte) (p : Nat) : List (Field × Nat) :=
  let o := 32 * p
  [(R.LFE_CFG_H_PROFILE p, profileCode (leAt l o 1)), (R.LFE_CFG_L_PROFILE p, profileCode (leAt l (o + 1) 1)),
   (R.LFE_CFG_H_CENTRE p, leAt l (o + 2) 2), (R.LFE_TX_ATTEN_H p, leAt l (o + 4) 1), (R.LFE_TX_ATTEN_L p, leAt l (o + 5) 1),
   (R.LFE_AGC_CFG_TARGET_H p, leAt l (o + 6) 1), (R.LFE_AGC_CFG_TARGET_L p, leAt l (o + 7) 1),
   (R.LFE_AGC_CFG_SAT_LIMIT_H p, leAt l (o + 8) 1), (R.LFE_AGC_CFG_SAT_LIMIT_L p, leAt l (o + 9) 1),
   (R.LFE_GATE_H p, leAt l (o + 12) 4), (R.LFE_GATE_L p, leAt l (o + 16) 4)]

/-- One locked notch from BAND_PLAN (R127, R147, R149). -/
def notchFields (l : List Byte) (n : Nat) : List (Field × Nat) :=
  let o := 0x100 + 8 * n
  [(R.LFE_NOTCH_START n, leAt l o 2), (R.LFE_NOTCH_STOP n, leAt l (o + 2) 2), (R.LFE_NOTCH_VALID n, leAt l (o + 4) 1),
   (R.LFE_NOTCH_LOCKED n, 1)]

/-- BAND_PLAN's fields (R147, R283). -/
def bandFields (l : List Byte) : List (Field × Nat) :=
  (List.range 4).flatMap (portFields l) ++ (List.range (min 32 (leAt l 0xA1 1))).flatMap (notchFields l) ++
  [(R.LFE_NOTCH_STAT_IMAGE_NOTCHES, leAt l 0xA1 1), (R.SPR_FILT_A, leAt l 0xA4 1), (R.SPR_FILT_B, leAt l 0xA5 1),
   (R.SPR_NPP_CTRL_ACC, leAt l 0xA6 1), (R.MAC_BUDGET_H, leAt l 0x200 4), (R.MAC_RESERVE_H, leAt l 0x204 4),
   (R.MAC_BUDGET_L, leAt l 0x20C 4), (R.MAC_RESERVE_L, leAt l 0x210 4)]

/-- TIMING's fields (R249, R250). -/
def timingFields (l : List Byte) : List (Field × Nat) :=
  [(R.TIM_SRC_CFG_SRC, leAt l 0 1), (R.TIM_SRC_CFG_SYSCLK, leAt l 1 1), (R.TIM_SRC_CFG_PTP_SRC_PORT, leAt l 2 1),
   (R.TIM_SERVO_TC_H, leAt l 4 2), (R.TIM_SERVO_TC_L, leAt l 6 2), (R.TIM_SERVO_TC_SRC, leAt l 8 2),
   (R.TIM_LOCK_THRESH_H, leAt l 0xA 2), (R.TIM_LOCK_THRESH_L, leAt l 0xC 1), (R.TIM_LOCK_COUNT, leAt l 0xD 1),
   (R.TIM_LIMITS_OUTLIER_K, leAt l 0xE 1), (R.TIM_PERIODS_HOLD_MISS, leAt l 0xF 1), (R.TIM_LIMITS_Y_LIMIT, leAt l 0x10 2),
   (R.TIM_LIMITS_RELOCK_LIMIT, leAt l 0x12 2), (R.TIM_HOLD_Y, leAt l 0x14 4), (R.TIM_HOLD_D, leAt l 0x18 4),
   (R.TIM_HOLD_T, leAt l 0x1C 4), (R.TIM_PERIODS_L_PERIOD, leAt l 0x20 1), (R.TIM_PERIODS_EFF_WIN, leAt l 0x21 1),
   (R.TIM_OUT_CTRL, leAt l 0x25 1), (R.TIM_EVT_EN, leAt l 0x2E 1), (R.TIM_PPS_WIDTH, leAt l 0x30 4),
   (R.TIM_SQUELCH, leAt l 0x34 4)]

/-- MAC_ROLE's fields (R287, R288, R317). -/
def macFields (l : List Byte) : List (Field × Nat) :=
  [(R.MSH_STAT_ROLE, leAt l 0 1), (R.MAC_ADDR_NET_ID, leAt l 4 2), (R.PHY_NET_SCR, netScramble (leAt l 4 2)), (R.MAC_ACCESS_BE_MIN, leAt l 8 1),
   (R.MAC_ACCESS_BE_MAX, leAt l 9 1), (R.MAC_ACCESS_CA_TRIES, leAt l 0xA 1), (R.MAC_ACCESS_CS_MARGIN, leAt l 0xB 1),
   (R.MAC_ACCESS_RETRY_LIMIT, leAt l 0xC 1), (R.MAC_BA_BA_WAIT, leAt l 0xD 1), (R.MAC_BA_BA_TIMEOUT, leAt l 0xE 1),
   (R.MAC_GROUP_MASK, leAt l 0x10 2), (R.MAC_BA_WAKE_HOLD, leAt l 0x12 2)]

/-- The settings of TABLE_INIT, with the defaults of R316 for a zero length. -/
def meshFields (l : List Byte) : List (Field × Nat) :=
  let v (o n dflt : Nat) : Nat := if l.isEmpty then dflt else leAt l o n
  [(R.MSH_COST_W0_W_BASE, v 6 2 64), (R.MSH_COST_W0_W_MARGIN, v 8 1 4), (R.MSH_COST_W0_W_RETRY, v 9 1 8),
   (R.MSH_COST_W1_W_BUDGET, v 0xA 1 4), (R.MSH_COST_W1_W_TIME, v 0xB 1 1), (R.MSH_COST_W1_M_REF, v 0xC 1 40),
   (R.MSH_COST_W1_M_MIN, v 0xD 1 (unsext 8 (-8))), (R.MSH_REPORT_CFG_LINK_REPORT_S, v 0xE 2 60),
   (R.MSH_REPORT_CFG_LINK_AGE, v 0x10 2 600), (R.MSH_LIMITS_LOST_PERIODS, v 0x12 1 32), (R.MSH_LIMITS_LINK_MAX, v 0x13 1 16),
   (R.MSH_STAT_COLLECTOR, if v 0x16 2 0 = 0 then 0 else 1), (R.MSH_COLLECT_CFG_CAP, v 0x16 2 0),
   (R.MSH_COLLECT_CFG_TARGET, v 0x18 1 (unsext 8 (-20))), (R.MSH_COLLECT_CFG_STEP, v 0x19 1 6),
   (R.MSH_COLLECT_CFG_PASSES, v 0x1A 1 2), (R.MSH_COLLECT_CFG_SWEEP_LEAD, v 0x1B 1 4),
   (R.MSH_LIMITS_RECOMPUTE_MIN, v 0x1C 1 10)]

/-- SENSOR_PLAN's fields (R403, R404); a zero length configures no channel. -/
def sensorFields (l : List Byte) : List (Field × Nat) :=
  let n := leAt l 1 1
  (List.range 8).flatMap (fun c =>
    let o := 0x20 + 32 * c
    let r := leAt l (o + 3) 1
    [(R.SEN_CH_CTRL_RANGE c, bits r 0 3), (R.SEN_CH_CTRL_AUTO c, bits r 3 1), (R.SEN_CH_CTRL_BURNOUT c, bits r 4 1),
     (R.SEN_CH_CTRL_RATE c, leAt l (o + 4) 1), (R.SEN_CH_CTRL_AVG c, leAt l (o + 5) 1),
     (R.SEN_CH_CTRL_SETTLE c, leAt l (o + 6) 1), (R.SEN_CH_CFG_KIND c, leAt l o 1), (R.SEN_CH_CFG_WIRES c, leAt l (o + 1) 1),
     (R.SEN_CH_CFG_EXC c, leAt l (o + 2) 1),
     (R.SEN_CH_CFG_BOUND c,
       if (List.range n).any (fun i => (leAt l (0x129 + 16 * i) 1).testBit c) then 1 else 0)]) ++
  [(R.SEN_SCAN_PERIOD, leAt l 2 2), (R.SEN_IMP_PERIOD, leAt l 6 2)]

/-- The image-set fields of every block (the IMG and "Image" rows of the register tables). -/
def imageFields (i : Image) : List (Field × Nat) :=
  bandFields (i.payload 6) ++ timingFields (i.payload 11) ++ macFields (i.payload 7) ++ meshFields (i.payload 8) ++
    sensorFields (i.payload 9) ++ [(R.QMG_BULK_SIZE, i.bulkCells)]

/-- The queue that a QUEUE_LAYOUT entry describes (R322). -/
def layoutQueue (l : List Byte) (n : Nat) (old : Queue) : Queue :=
  let o := 16 * n
  let f := leAt l (o + 8) 1
  { old with
    capacity := leAt l o 4, thresh := leAt l (o + 4) 4, threshImg := leAt l (o + 4) 4, bulk := f.testBit 0,
    assured := f.testBit 1, ptrDup := f.testBit 2, wordEcc := f.testBit 3, hold := f.testBit 4, pend := f.testBit 5,
    failMax := leAt l (o + 9) 1, journal := leAt l (o + 10) 2 }

/-- The queue manager takes a QUEUE_LAYOUT (R322, R343): with `clear`, every queue starts empty; the counters of a queue
(R344, class A) stay. -/
def Block.loadQueues (b : Block) (l : List Byte) (clear : Bool) : Block :=
  let numbers := (List.range 4096).filter (fun n => leAt l (16 * n) 4 != 0 || (b.q n) != {})
  let queues : Tab Queue := numbers.foldl (fun t n =>
    let q := layoutQueue l n (b.q n)
    let q : Queue := if clear then { q with
      pkts := [], reading := false, refill := false, flushPending := false, headHeld := false, headFails := 0 } else q
    Tab.set {} t n q) []
  { b with queue := { b.queue with queues := queues } }

/-- TABLE_INIT in table memory (R316): the presets, and the image's own tables. -/
def initTables (l : List Byte) : Mem :=
  let nn := leAt l 2 2
  let nf := leAt l 4 2
  let m := (List.range nn).foldl (fun (m : Mem) i =>
    m.store (nodeAt (leAt l (64 + 64 * i + 8) 2)) (slice l (64 + 64 * i) 64)) []
  let m := (List.range nf).foldl (fun (m : Mem) i =>
    let o := 64 + 64 * nn + 36 * i
    m.store (fwdAt (leAt l o 2)) (slice l (o + 4) 32)) m
  (userTables l).foldl (fun (m : Mem) (t : Nat × Nat × Nat × Nat) =>
    m.store (0x40680000 + t.1) (slice l t.2.2.1 t.2.2.2)) m

/-- The slot map of a head-end's MAC_ROLE. -/
def roleMap (l : List Byte) : List Byte := if leAt l 0 1 = 0 then slice l 0x20 (8 * leAt l 3 1) else []

/-- Queues of a kept channel with journal records are to be refilled after their contents went (R384, R368). -/
def Block.refillKept (b : Block) : Block :=
  b.forEach b.custody.chans (fun b e =>
    let b := if e.2.outJ.isEmpty then b else b.modQ e.2.txQueue (fun q => { q with refill := true })
    if e.2.inJ.isEmpty then b else b.modQ e.2.rxQueue (fun q => { q with refill := true }))

/-- The pins that the golden image's PIN_PLAN enables (R67): READY, ALERT_N, SER0_TXD, SER0_DE. -/
def goldenPins : List Nat := [8, 9, 11, 13]

/-- A PIN_PLAN entry as it acts: the golden image enables four outputs and no other, and drives READY low (R67). -/
def planEntry (golden : Bool) (pin e : Nat) : Nat :=
  if golden = false then e
  else
    let e := e / 2 * 2 + (if goldenPins.contains pin then 1 else 0)
    if pin = 8 then e - 2 * bits e 1 1 else e

/-- The slices take a full image (R16, R49, R100): every spindle and slice is restored, every memory loaded. -/
def Block.loadSlices (b : Block) : Block :=
  let fresh (x : SliceState) : SliceState := { spareLoad := x.spareLoad }
  let b : Block := { b with slices := (b.slices.map (fun e => (e.1, fresh e.2))).filter (fun e => e.2 != {}) }
  b.forEach (List.range 8) Block.loadSlice

/-- A verified image comes into force (R100, R101): `i` replaces the running image. -/
def Block.applyImage (b : Block) (i : Image) : Block :=
  let changed := i.digest != b.image.lastDigest
  let b := b.setAll (imageFields i)
  let b := b.showNotches
  let b := b.loadQueues (i.payload 4) changed
  let b : Block := { b with
    mac := { b.mac with order := if changed then b.mac.order.filter (fun f => f.queue.isNone) else b.mac.order }
    tables := if changed then initTables (i.payload 8) else b.tables
    phy := if changed then { b.phy with links := [] } else b.phy
    modl := { b.modl with pinPlan := planPins.zipIdx.map (fun e => planEntry i.golden e.1 (leAt (i.payload 10) (4 * e.2) 4)) } }
  let map := roleMap (i.payload 7)
  let b := if map ≠ [] ∧ b.image.lastMap ≠ [] ∧ map ≠ b.image.lastMap then b.bump R.MAC_GRID_MAP_SEQ else b
  let b : Block := { b with image := { b.image with
    run := some i, lastDigest := i.digest, lastMap := if map = [] then b.image.lastMap else map } }
  let b := ((b.set R.IMG_RUN_DIGEST (leNum i.digest)).set R.IMG_STAT_RUN_MODIFIED 0).loadSlices
  let b := b.custodyLoad
  let b := if changed && !b.custody.restoreDue then b.refillKept.showRefilling else b
  b.showMesh

end Sys2Proof.Machine
end

