-- ==== Sys2Proof/Machine/Reset.lean ====
section
/-! DEFINITION. Resets (R452–R457): what the units hold beside their registers after each, the reset to M2 Boot, power-on,
and M0 Off. -/

namespace Sys2Proof.Machine

/-- Change the image loader. -/
def Block.setImage (b : Block) (u : ImageUnit) : Block := { b with image := u }

/-- The state of a bank (R97). -/
def Block.bankState (b : Block) : Bank → Nat
  | .a => b.get R.IMG_BANK_STATE_STATE_A
  | .b => b.get R.IMG_BANK_STATE_STATE_B
  | .golden => b.get R.IMG_BANK_STATE_STATE_GOLDEN

/-- The field of a bank's state. -/
def Bank.field : Bank → Field
  | .a => R.IMG_BANK_STATE_STATE_A
  | .b => R.IMG_BANK_STATE_STATE_B
  | .golden => R.IMG_BANK_STATE_STATE_GOLDEN

/-- The bytes of a copy of the boot record that its CRC-32 covers (R96; the layout is a DESIGN CHOICE, assumption 114). -/
def BootRecord.bytes (r : BootRecord) : List Byte :=
  leBytes r.seq 4 ++ leBytes r.stateA 1 ++ leBytes r.stateB 1 ++ leBytes r.stateGolden 1 ++ leBytes (if r.trial then 1 else 0) 1

/-- A copy is valid: its CRC-32 agrees. -/
def BootRecord.valid (r : BootRecord) : Bool := r.crc == crc32 r.bytes

/-- The place and content of the copy that the chuck uses: the valid one with the higher sequence (R96). -/
def bootCopy (l : List BootRecord) : Option (Nat × BootRecord) :=
  (l.zipIdx.filter (fun e => e.1.valid)).foldl (fun best e => match best with
    | some (_, r) => if r.seq < e.1.seq then some (e.2, e.1) else best
    | none => some (e.2, e.1)) none

/-- A trial attempt has started and is unconfirmed, by the boot record (R98, R99). -/
def Block.trialStarted (b : Block) : Bool := match bootCopy b.image.records with | some (_, r) => r.trial | none => false

/-- The boot record is updated with the bank states and the trial flag: the older copy is overwritten (R96). -/
def Block.putRecord (b : Block) (trial : Bool) : Block :=
  let used := bootCopy b.image.records
  let seq := match used with | some (_, r) => (r.seq + 1) % 2 ^ 32 | none => 1
  let r : BootRecord := { seq := seq, stateA := b.bankState .a, stateB := b.bankState .b, stateGolden := b.bankState .golden,
                          trial := trial }
  let r := { r with crc := crc32 r.bytes }
  let l := match used with
    | some (0, x) => [x, r]
    | some (_, x) => [r, x]
    | none => [r]
  { b with image := { b.image with records := l } }

/-- The chuck reads the boot record (R98): the bank states are those of the copy it uses. -/
def Block.readRecord (b : Block) : Block :=
  match bootCopy b.image.records with
  | some (_, r) => ((b.set R.IMG_BANK_STATE_STATE_A r.stateA).set R.IMG_BANK_STATE_STATE_B r.stateB).set
      R.IMG_BANK_STATE_STATE_GOLDEN r.stateGolden
  | none => b

/-- A bank's state changes; the boot record is written (R96). -/
def Block.setBank (b : Block) (k : Bank) (v : Nat) : Block := (b.set k.field v).putRecord b.trialStarted

/-- The bytes that a bank holds. -/
def Block.bankBytes (b : Block) : Bank → List Byte
  | .a => b.image.bankA
  | .b => b.image.bankB
  | .golden => b.image.golden.getD Config.goldenImage

/-- A bank becomes EMPTY (R97, R103, R112). -/
def Block.emptyBank (b : Block) (k : Bank) : Block :=
  let b := b.setBank k 0
  match k with
  | .a => { b.set R.IMG_SEQ_A 0 with image := { b.image with bankA := [] } }
  | .b => { b.set R.IMG_SEQ_B 0 with image := { b.image with bankB := [] } }
  | .golden => { b with image := { b.image with golden := some [] } }

/-- The cause recorded for a bank in IMG_BOOT_STAT. -/
def Block.bankCause (b : Block) (k : Bank) (c : Nat) : Block :=
  match k with
  | .a => b.set R.IMG_BOOT_STAT_CAUSE_A c
  | .b => b.set R.IMG_BOOT_STAT_CAUSE_B c
  | .golden => b.set R.IMG_BOOT_STAT_CAUSE_GOLDEN c

/-- The bank of the image on trial, if there is one (R97). -/
def Block.trialBank (b : Block) : Option Bank := [Bank.a, Bank.b].find? (fun k => b.bankState k == 2)

/-- The command that was running ends without result at a reset or loss of power (R103, R110). -/
def Block.dropJob (b : Block) : Block :=
  let b := match b.image.job with
    | .write k => b.emptyBank k
    | _ => b
  { b with image := { b.image with job := .none, verified := none } }

/-- What a calibration record keeps through a reset: the fields of the NAND record (R234, class P of R250). -/
def CalRec.stored (c : CalRec) : CalRec :=
  { inUse := c.inUse, peer := c.peer, port := c.port, band := c.band, mode := c.mode, d0 := c.d0, alpha := c.alpha, t0 := c.t0,
    tSpread := c.tSpread, asym := c.asym, asymUnc := c.asymUnc, residMean := c.residMean, residSd := c.residSd,
    updated := c.updated }

/-- The records of a reset's end. -/
def storedCal (t : Tab CalRec) : Tab CalRec := t.map (fun e => (e.1, e.2.stored))

/-- A slice's spindles under R16 and its retirement in progress outlast the loss of its memories: a full image load ends the
one (R16, R49), the end of the spare's load the other (R15). -/
def keepFailed (t : Tab SliceState) : Tab SliceState :=
  let kept (x : SliceState) : SliceState :=
    { failed := x.failed, stopped := x.stopped, alternate := x.alternate, spareLoad := x.spareLoad.map (fun l => (l.1, 0)) }
  (t.map (fun e => (e.1, kept e.2))).filter (fun e => e.2 != {})

/-- The units beside their registers after a reset to M2 (R457): volatile state starts afresh; what is class A or P, and
what lies in NAND, DDR4 or table memory, stays. -/
def Block.restartUnits (b : Block) : Block :=
  let cages := b.modl.cages.map Cage.off
  { b with
    hostLatch := [], supLatch := []
    modl := { b.modl with pins := [], pinPlan := [], cages := cages }
    power := { b.power with
      txReqs := [], reqs := [], grants := [], heldReq := none, trans := none, sliceReset := none, wdtArmed := false
      ddrTrained := false, ddrAwake := true, wake := false, modeTick := 0 }
    image := { b.image with boot := .start, tried := [], carrierDone := false, run := none, trialTicks := 0 }
    slices := keepFailed b.slices, fabric := {}
    queue := { b.queue with queues := b.queue.queues.map (fun e => (e.1, { e.2 with reading := false })) }
    trouble := { clsWindow := b.trouble.clsWindow, clsThresh := b.trouble.clsThresh, snapId := b.trouble.snapId,
                 scrubs := b.trouble.scrubs }
    time := { cal := storedCal b.time.cal, calSaved := b.time.calSaved }
    grid := { keptAnchor := b.grid.keptAnchor }
    spur := {}, front := {}
    phy := { links := b.phy.links, capture := b.phy.capture }
    mac := { order := b.keptOrder, heardOn := b.mac.heardOn, bseqSeen := b.mac.bseqSeen, bseq := b.mac.bseq, lease := b.mac.lease }
    mesh := { routes := b.mesh.routes, routeSeq := b.mesh.routeSeq, sweepId := b.mesh.sweepId, collector := b.mesh.collector }
    sec := { b.sec with
      joiners := [], own := none, joinMsgs := [], report := none, keyLowSent := false
      advanceTick := 0, switchTick := b.sec.switchTick.map (fun _ => 0) }
    custody := { b.custody with regc := {}, streams := [], resyncPort := none }
    sensor := {}, serial := [{}, {}] }

/-- A watchdog or trial expiry in the tick of a warm reset (R456): one reset, with the expiry's cause. -/
def Block.renameReset (b : Block) (cause : Nat) : Block :=
  let b := b.set R.PWR_WARM_RESET_COUNT ((b.get R.PWR_WARM_RESET_COUNT + 2 ^ 64 - 1) % 2 ^ 64)
  let b := if cause = 4 then (b.stick R.PWR_TROUBLE_WDT_RESET).bump R.PWR_WDT_RESET_COUNT else b
  ({ b with power := { b.power with resetNow := cause } }).set R.PWR_RESET_CAUSE cause

/-- A warm reset was made in this tick (R456). -/
def Block.warmNow (b : Block) : Bool := b.power.resetNow == 2 || b.power.resetNow == 3

/-- The node leaves its mode through a reset to M2 Boot (R452, R453, R456, R457): cause 2 RESET_N, 3 PWR_CMD, 4 watchdog,
5 image trial, 6 image restore. A warm reset in the tick of another reset is one with it. -/
def Block.resetTo2 (b : Block) (cause : Nat) : Block :=
  if b.power.resetNow ≠ 0 ∧ (cause = 2 ∨ cause = 3) then b else
  let prev := b.mode
  let ran := b.power.wdtArmed && decide (3 ≤ b.mode ∧ b.mode ≠ 9)
  let expired := decide (b.mode = 6 ∧ b.get R.IMG_TRIAL_LEFT = 0 ∧ b.get R.IMG_TRIAL_LIMIT ≠ 0) && b.flag R.IMG_STAT_RUN_TRIAL
  let ready := decide (cause ≠ 6 ∧ prev ≠ 9) || b.flag R.PWR_MODE_OCXO_READY
  let failed : Option Bank := if b.trialStarted ∧ cause ≠ 6 then b.trialBank else none
  let b := if cause = 4 then b.stick R.PWR_TROUBLE_WDT_RESET else b
  let b := ((b.rewindAll).abandonTruing false true).dropJob
  let b := match failed with | some k => (b.set k.field 5).putRecord false | none => b
  let b := (b.resetFields lostAtReset).restartUnits
  let b := match failed with | some k => b.bankCause k 0x0F | none => b
  let b := (b.custodyRestart).showKeys
  let b := b.bump R.CUS_EPOCH
  let b := if cause = 4 then b.bump R.PWR_WDT_RESET_COUNT
    else if cause = 2 ∨ cause = 3 then b.bump R.PWR_WARM_RESET_COUNT else b
  let b := ((b.setMode 2).set R.PWR_MODE_PREV prev).setFlag R.PWR_MODE_OCXO_READY ready
  ({ b with power := { b.power with resetNow := cause, wdtRan := ran, trialOver := expired } }).set R.PWR_RESET_CAUSE cause

/-- The keys that outlast a loss of power (R485, R489): the coordinator's, and the reservation record. -/
def SecUnit.kept (s : SecUnit) : SecUnit :=
  match s.master with
  | some m => { master := some m, prev := s.prev, cur := s.cur, next := s.next, reserve := s.reserve, switchRev := s.switchRev,
                level16 := s.level16, nextLevel16 := s.nextLevel16, coord := s.coord, switchTick := s.prev.map (fun _ => 0) }
  | none => { reserve := s.reserve }

/-- A coordinator's frame counter after a loss of power: the reserved value of its current key's record (R485). -/
def Block.resumeCounter (b : Block) : Block :=
  match b.sec.cur, b.sec.reserve with
  | some (e, k), some (_, e', chk, r) => if e = e' ∧ chk = keyCheck k then b.set R.SEC_TX_CTR r else b
  | _, _ => b

/-- POWER_ON (R440, R452, R457): M0 is left for M2 by a power-on reset. -/
def Block.powerOn (b : Block) : Block :=
  if b.mode ≠ 0 then b
  else
    let b := b.resetFields lostAtPowerOn
    let b : Block := { b with
      hostLatch := [], supLatch := []
      modl := { resetN := b.modl.resetN, trstN := b.modl.trstN,
                cages := b.modl.cages.map Cage.off }
      power := { overTemp := b.power.overTemp }
      image := { bankA := b.image.bankA, bankB := b.image.bankB, golden := b.image.golden, records := b.image.records }
      slices := [], fabric := {}, queue := {}, trouble := {}
      time := { cal := storedCal b.time.calSaved, calSaved := b.time.calSaved }
      grid := {}, spur := {}, front := {}, phy := {}, mac := {}, mesh := {}
      sec := b.sec.kept, tables := []
      custody := { slots := b.custody.slots, restoreDue := true, everInForce := b.custody.everInForce }
      sensor := {}, serial := [{}, {}], truing := {} }
    let b := b.resumeCounter.showKeys
    ((b.bump R.CUS_EPOCH).bump R.PWR_POWER_ON_COUNT).set R.PWR_RESET_CAUSE 0

/-- The module enters M0 Off: nothing runs and nothing is driven (R437, R458). -/
def Block.powerOff (b : Block) : Block :=
  let b := b.dropJob.setMode 0
  let b := (((b.set R.PWR_GATES_SLICE_ON 0).set R.PWR_GATES_SLICE_RET 0).set R.PWR_GATES_DRV_H 0).set R.PWR_GATES_DRV_L 0
  { b.pinsOff with
    modl := { b.pinsOff.modl with vauxOn := false, tap := .idcode, boundary := 0, tdo := 0, cages := b.modl.cages.map Cage.off }
    power := { b.power with txReqs := [], reqs := [], grants := [], heldReq := none, trans := none, sliceReset := none,
                            wdtArmed := false, ddrAwake := false, ddrTrained := false, heater := false,
                            thermalOff := b.power.thermalM1, flushing := false } }

end Sys2Proof.Machine
end

