-- ==== Sys2Proof/Machine/Boot.lean ====
section
/-! DEFINITION. The chuck (R65, R92, R98–R101): the choice of a bank, the load, and the entry to M3 Truing or M11
Recovery. -/

namespace Sys2Proof.Machine

/-- The banks that R98 tries after a reset, in order. -/
def Block.bootOrder (b : Block) : List Bank :=
  let having (v : Nat) : List Bank := [Bank.a, Bank.b].filter (fun k => b.bankState k == v)
  having 2 ++ having 3 ++ having 4 ++ [.golden]

/-- A bank failed a verification step: it is marked BAD, with its cause (R98, R113). -/
def Block.failBank (b : Block) (k : Bank) (e : Nat × Nat) : Block :=
  let b := (b.setBank k 5).bankCause k e.1
  let b := if k = .golden then b else b.set R.IMG_BOOT_STAT_FALLBACK 1
  { b with image := { b.image with tried := b.image.tried ++ [k] } }

/-- The use that a bank is verified for (R91). -/
def Bank.use : Bank → ImageUse
  | .golden => .goldenBank
  | _ => .bank

/-- The chuck tries banks in order (R98): the first whose manifest verifies is loaded. -/
def Block.tryBanks (o : Otp) : List Bank → Block → Block
  | [], b => { b with image := { b.image with boot := .stuck } }
  | k :: l, b =>
    if k = .golden ∧ b.bankState .golden = 0 then { b with image := { b.image with boot := .stuck } }
    else
      let b := if b.bankState k = 2 then b.putRecord true else b
      match verifyManifest k.use o (b.bankBytes k) with
      | some e => Block.tryBanks o l (b.failBank k e)
      | none => { b with image := { b.image with boot := .loading k (parseImage (b.bankBytes k)) } }

/-- BOOT_START (R63, R98): the chuck samples BOOT_SEL and chooses a bank. -/
def Block.bootStart (b : Block) (o : Otp) (bootSel : Bool) : Block :=
  if b.mode ≠ 2 ∨ b.image.boot ≠ .start ∨ b.modl.resetN = false then b
  else
    let b : Block := { b with power := { b.power with resetNow := 0 } }
    let b := (b.setFlag R.IMG_BOOT_STAT_BOOT_SEL_SEEN bootSel).readRecord
    let b := b.forEach (List.range 8) (fun b s => b.request (.slice s) none)
    Block.tryBanks o (if bootSel then [.golden] else b.bootOrder) b

/-- CARRIER_ID_READ (R65): 256 bytes of the carrier's EEPROM, or 0xFF where it does not answer. -/
def Block.carrierRead (b : Block) (bytes : Option (List Byte)) : Block :=
  if b.mode ≠ 2 then b
  else
    let b := b.set R.GLB_CARRIER_ID (match bytes with | some l => leAt l 0 256 | none => 2 ^ 2048 - 1)
    { b with image := { b.image with carrierDone := true } }

/-- The head-end and the host ports that the image enables for cages J1 and J2 (R70, R249, R383). -/
def Block.cageEnabled (b : Block) (j : Nat) : Bool :=
  decide (j < 2) && (b.hostPorts.testBit j || b.regPorts.testBit j || leAt b.timingSeg (0x40 + 16 * j) 1 != 0)

/-- A mode in which the cages are supplied (R458). -/
def cageMode (m : Nat) : Bool := decide (3 ≤ m ∧ m ≤ 7 ∨ m = 10)

/-- The enables of the cages that the image uses (R70). -/
def Block.requestCages (b : Block) : Block :=
  b.forEach ((List.range 2).filter (fun j =>
    b.cageEnabled j && (b.modl.cages.getD j {}).present && !(b.modl.cages.getD j {}).refused)) (fun b j => b.request (.cage j) none)

/-- The enables that entry to M3 asks of the ration (R447, R458): slices, cages, the OCXO heater when the OCXO is cold. -/
def Block.requestLoads (b : Block) : Block :=
  let b := b.forEach (List.range 8) (fun b s => b.request (.slice s) none)
  b.requestCages.request .heater none

/-- M3 Truing is entered (R29, R435, R441, R453): the watchdog is armed, every truing block is due, PIN_PLAN drives. -/
def Block.enterM3 (b : Block) : Block :=
  let b := ((b.setMode 3).pinsOn).requestLoads.truingEntry
  let b : Block := { b with power := { b.power with wdtArmed := true } }
  let b := if b.custody.restoreDue then b.set R.CUS_STAT_RESTORE_BUSY 1 else b.showAccept
  b.updateAlert

/-- An image has been loaded and verified: it comes into force, in M3 or, from the golden bank, in M11 (R98, R101). -/
def Block.runImage (b : Block) (k : Bank) (i : Image) : Block :=
  let trial := b.bankState k == 2
  let b := b.applyImage i
  let b := b.set R.IMG_STAT_RUN_BANK (match k with | .a => 0 | .b => 1 | .golden => 2)
  let b := (b.setFlag R.IMG_STAT_RUN_TRIAL trial).set R.IMG_TRIAL_LEFT (if trial then b.get R.IMG_TRIAL_LIMIT else 0)
  let b : Block := { b with image := { b.image with boot := .idle, trialTicks := 0 } }
  if k = .golden then
    let b := (b.setMode 11).pinsOn
    let b : Block := { b with power := { b.power with wdtArmed := true } }
    (b.request .heater none).updateAlert
  else
    ({ b with image := { b.image with copy := some i.runCopy } } : Block).enterM3

/-- IMAGE_LOAD_COMPLETE (R92 steps 6 and 7, R101): the last digest has been compared. `readOk` is false where the NAND read
was uncorrectable. A failed bank sends the chuck to the next one. -/
def Block.loadComplete (b : Block) (o : Otp) (readOk : Bool) : Block :=
  match b.image.boot with
  | .loading k i =>
    if b.mode ≠ 2 ∨ b.image.carrierDone = false then b
    else
      let failed : Option (Nat × Nat) :=
        if readOk = false then some (0x0D, 0xFF)
        else match digestCheck (b.bankBytes k) with
          | some e => some e
          | none => contentCheck i
      match failed with
      | none => b.runImage k i
      | some e =>
        let b := b.failBank k e
        let rest := if b.flag R.IMG_BOOT_STAT_BOOT_SEL_SEEN then [] else b.bootOrder.filter (fun x => !b.image.tried.contains x)
        Block.tryBanks o rest b
  | _ => b

/-- DDR4_TRAINING_DONE (R441): BULK_READY. -/
def Block.ddrTrainingDone (b : Block) : Block :=
  if b.mode = 3 ∨ b.mode = 11 then
    { b.set R.QMG_STAT_BULK_READY 1 with power := { b.power with ddrTrained := true, ddrAwake := true } }
  else b

/-- OCXO_READY (R441): the heater current has settled. -/
def Block.ocxoReady (b : Block) : Block :=
  if 2 ≤ b.mode ∧ b.mode ≠ 9 then { b.set R.PWR_MODE_OCXO_READY 1 with power := { b.power with cold := false } } else b

end Sys2Proof.Machine
end

