-- ==== Sys2Proof/Machine/Modes.lean ====
section
/-! DEFINITION. The mode changes (R437–R451, R453, R459): requests, the transitions of R440, Hold-up, Doze, Standby,
Maintenance, and the warm resets. -/

namespace Sys2Proof.Machine

/-- Change the power manager. -/
def Block.setPower (b : Block) (p : PowerUnit) : Block := { b with power := p }

/-- The running image stops being on trial: its bank becomes ACTIVE, the former ACTIVE bank PREVIOUS (R99). -/
def Block.confirmTrial (b : Block) : Block :=
  match b.trialBank with
  | none => b
  | some k =>
    let b := b.forEach ([Bank.a, Bank.b].filter (fun x => x != k && b.bankState x == 3)) (fun b x => b.setBank x 4)
    let b := (((b.set k.field 3).putRecord false).set R.IMG_STAT_RUN_TRIAL 0).set R.IMG_TRIAL_LEFT 0
    { b with image := { b.image with trialTicks := 0 } }

/-- The association ends (R440, M6 or M7 to M4). -/
def Block.endAssociation (b : Block) : Block :=
  let b := b.set R.MAC_ADDR_SHORT 0
  b.setMac { b.mac with standbyRejoin := false, lease := 0 }

/-- M8 Doze is left for M6 (R440, R448): what Doze held back is requested, in the order of the example of R448. -/
def Block.leaveDoze (b : Block) : Block :=
  let b := (b.setMac { b.mac with wakeOpen := false, holdUntil := none }).set R.MAC_STAT_DOZING 0
  b.requestWake.requestCages

/-- What each mode's entry brings (R437, R440, R447, R458). -/
def Block.enterMode (b : Block) (m : Nat) : Block :=
  let src := b.mode
  let b := (b.setMode m).showMac
  let b := if m = 4 then
      let b := if src = 6 ∨ src = 7 then b.endAssociation else b
      let b := b.setMac { b.mac with candidates := [], candidate := none, granted := false }
      b.driversOff
    else if m = 5 then
      ((b.setMac { b.mac with granted := false }).setSec { b.sec with own := none }).requestDrivers
    else if m = 6 then
      let b := b.firstKeys
      let b := if b.flag R.IMG_STAT_RUN_TRIAL ∧ b.get R.IMG_TRIAL_LIMIT = 0 then b.confirmTrial else b
      if src = 8 then b.leaveDoze else b.requestDrivers
    else if m = 7 then b.driversOff
    else b
  b.showReady

/-- The transitions of R440 between M3 and M10 that are not loads, resets or losses of power. -/
def transitionListed (src dst : Nat) (headEnd : Bool) : Bool :=
  match dst with
  | 4 => !headEnd && (src == 3 || src == 5 || src == 6 || src == 7)
  | 5 => !headEnd && (src == 4 || src == 6 || src == 7)
  | 6 => (src == 3 && headEnd) || src == 5 || src == 7 || src == 8
  | 7 => src == 6
  | 8 => !headEnd && src == 6
  | 9 => src == 6 || src == 7 || src == 8
  | 10 => src == 4 || src == 6 || src == 7
  | _ => false

/-- A pending or executing reload is abandoned (R110): nothing of it stays. A slice that was held takes the content of the
running copy again, and IMG_RELOAD_LAST.TICK_TAG shows the tick of the abandonment (DESIGN CHOICE, assumption 115). -/
def Block.abandonReload (b : Block) : Block :=
  let drop (b : Block) (s : Nat) : Block :=
    let b := (((b.set R.IMG_RELOAD_LAST_SLICE s).set R.IMG_RELOAD_LAST_OK 0).set R.IMG_RELOAD_LAST_TICK_TAG b.tickTag).set
      R.IMG_STAT_STATE 0
    let b : Block := { b with image := { b.image with job := .none } }
    (b.modSlice s (fun x => { x with held := false, moves := [] })).takeDeferred s
  match b.image.job with
  | .reloadPending s _ => drop b s
  | .reloadRunning s _ _ => (drop b s).loadSlice s
  | _ => b

/-- A command of the loader other than a reload that is running when the system clock stops ends as at a reset (R103). -/
def Block.abandonJob (b : Block) : Block := (b.abandonReload.dropJob).set R.IMG_STAT_STATE 0

/-- DOZE_ENTRY (R276, R438): the leaf dozes; the other slices go to retention, DDR4 to self-refresh, the cages off. -/
def Block.enterDoze (b : Block) : Block :=
  let b := ((b.captureEnd true).abortReceptions).abortTx (fun _ => true)
  let b := (b.abandonReload.abandonTruing true false).setMode 8
  let b := (b.showMac.set R.MAC_STAT_DOZING 1).driversOff
  let b := b.setPower { b.power with reqs := b.power.reqs.filter (fun r => match r.load with | .cage _ => false | _ => true) }
  let b := b.forEach (List.range 2) (fun b j => b.modCage j Cage.off)
  (b.setMac { b.mac with wakeOpen := false, holdUntil := none }).retain.showReady.showRation

/-- The registers that the restore from the running copy rewrites (R449). -/
def restoredFields : List Field :=
  [R.IMG_RUN_DIGEST, R.IMG_STAT_RUN_BANK, R.IMG_STAT_RUN_MODIFIED, R.IMG_STAT_RUN_TRIAL, R.IMG_TRIAL_LEFT]

/-- STANDBY_ENTRY (R449, R413, R435, R458): in order, packets, truing, outputs, DDR4, slices, clock. Class W and V fields return
to their reset values (R11, R457). -/
def Block.enterStandby (b : Block) : Block :=
  let b := (b.commitSerial.rewindAll).abandonTruing false false
  let b := ((b.captureEnd true).abandonScan.abortReceptions).abortTx (fun _ => true)
  let b := (b.abandonJob.pinsStandby).set R.TIM_STAT_OUT_ACTIVE 0
  let b := (b.driversOff.set R.PWR_GATES_SLICE_ON 0).set R.PWR_GATES_SLICE_RET 0
  let b := b.forEach (List.range 2) (fun b j => b.modCage j Cage.off)
  let b := b.setPower { b.power with
    ddrAwake := false, wdtArmed := false, heater := false, sliceReset := none, txReqs := [], reqs := [] }
  let prev := b.mode
  let b := b.setImage { b.image with standbyRegs := restoredFields.map b.get }
  let b := b.setMac { b.mac with preNs := some b.sinceResync }
  let b := (((b.resetFields lostAtStandby).setMode 9).set R.PWR_MODE_PREV prev).set R.PWR_MODE_OCXO_READY 0
  { b with trouble := { b.trouble with windows := [] }, slices := keepFailed b.slices, fabric := {} }

/-- The supervisor's records are loaded from the running copy into the first spindles of slice 0 cluster 0 (R109, R459). -/
def Block.loadSupervisor (b : Block) : Block :=
  let l := match b.image.copy with
    | some c => List.range (leAt (c.image.payload 3) 8 1)
    | none => []
  b.modSlice 0 (fun x => { (x.load l) with loaded := x.loaded.filter (fun p => decide (16 ≤ p)), held := false, stopped := false })

/-- A reload or slice reset of the slice that the supervisor moves into ends (R27; DESIGN CHOICE, assumption 116). -/
def Block.freeSlice0 (b : Block) : Block :=
  let b := match b.image.job with
    | .reloadPending 0 _ => b.abandonReload
    | .reloadRunning 0 _ _ => b.abandonReload
    | _ => b
  match b.power.sliceReset with
  | some r => if r.slice = 0 then b.setPower { b.power with sliceReset := none } else b
  | none => b

/-- MAINTENANCE_ENTRY (R26, R459): the supervisor moves to slice 0 cluster 0, every other spindle halts. A verified reload
package for slice 0 is verified no longer (R27). -/
def Block.enterMaintenance (b : Block) : Block :=
  let b := b.freeSlice0.loadSupervisor
  let b := match b.image.verified with
    | some p => if p.reload ∧ p.reloadSlice = 0 then b.setImage { b.image with verified := none } else b
    | none => b
  let b := (b.setMode 10).showMac.driversOff
  (b.abortTx (fun _ => true)).showReady

/-- A change of mode that was permitted takes effect (R440); a listed request that waited for its end is then taken up, and
one that is not listed from the new mode is refused (R442). -/
def Block.completeTransition (b : Block) (m : Nat) : Block :=
  let b := b.setPower { b.power with trans := none }
  let b := if transitionListed b.mode m (b.role == 0) = false then b
    else if m = 8 then b.enterDoze
    else if m = 9 then b.enterStandby
    else if m = 10 then b.enterMaintenance
    else b.enterMode m
  match b.power.heldReq with
  | none => b
  | some r =>
    let b := (b.setPower { b.power with heldReq := none }).set R.PWR_MODE_PENDING 0
    if b.mode = r then b
    else if transitionListed b.mode r (b.role == 0) then b.setPower { b.power with trans := some r }
    else b.refuseMode

/-- The boundary that R440 states for a change to mode `m`: a block boundary from M5 to
M6, a beacon period boundary to M8. -/
def Block.atBoundary (b : Block) (m : Nat) : Bool :=
  if m = 8 then b.grid.cur.isSome && b.grid.half % b.periodHalves == 0 && decide (b.tick = b.grid.anchor)
  else if m = 6 ∧ b.mode = 5 then decide (b.tick % 25 = 0)
  else true

/-- MODE_TRANSITION (R440): the change in progress reaches its stated boundary. -/
def Block.modeTransition (b : Block) : Block :=
  match b.power.trans with
  | some m => if b.atBoundary m then b.completeTransition m else b
  | none => b

/-- DOZE_ENTRY, STANDBY_ENTRY and MAINTENANCE_ENTRY are the ends of a change to that mode. -/
def Block.entryTo (b : Block) (m : Nat) : Block :=
  if b.power.trans = some m ∧ b.atBoundary m then b.completeTransition m else b

/-- A leaf that may doze (R276, R440): MAC_ROLE DOZE is 1 and the node is associated. -/
def Block.dozeOk (b : Block) : Bool := b.role == 2 && leAt b.macRole 0x14 1 == 1 && b.mode == 6

/-- A mode request (R442): carried out, held during a change, or refused. -/
def Block.requestMode (b : Block) (m : Nat) (coord : Bool) : Block :=
  if requestPermitted b.mode m (b.role == 0) b.dozeOk coord then
    match b.power.trans with
    | none => b.setPower { b.power with trans := some m }
    | some _ => (b.setPower { b.power with heldReq := some m }).set R.PWR_MODE_PENDING 1
  else b.refuseMode

/-- MODE_REQUEST (R442): the coordinator's command; another MODE is rejected and counted (R5). -/
def Block.modeRequest (b : Block) : Block :=
  match b.takeCommand 0x20 with
  | none => b
  | some (m, b) =>
    let mode := leAt m.body 0 1
    if m.body.length ≠ 4 ∨ m.origin ≠ 1 then b
    else if [6, 8, 9, 10].contains mode = false then b.bump R.PWR_UNDEF_COUNT
    else
      let dur := leAt m.body 2 2
      let ok := requestPermitted b.mode mode (b.role == 0) b.dozeOk true
      let b := if mode = 9 ∧ dur ≠ 0 ∧ ok then b.set R.PWR_STBY_TIME dur else b
      b.requestMode mode true

/-- The exit conditions of M3 but the head-end's grid (R441). -/
def Block.truingDone (b : Block) : Bool :=
  b.get R.TRU_DUE == 0 && b.get R.TRU_STAT_ACTIVE == 15 && !b.flag R.TRU_STAT_SENSOR_RUNNING &&
    b.flag R.QMG_STAT_BULK_READY && b.flag R.PWR_MODE_OCXO_READY && !b.custody.restoreDue &&
    !b.flag R.CUS_STAT_RESTORE_BUSY

/-- TRUING_EXIT (R441): the head-end enters M6, any other node M4. -/
def Block.truingExit (b : Block) : Block :=
  if b.mode ≠ 3 ∨ b.tick % 25 ≠ 0 ∨ b.truingDone = false then b
  else if b.role = 0 then (if b.flag R.GLB_TICK_STAT_GRID_ALIGNED then b.completeTransition 6 else b)
  else b.completeTransition 4

/-- GRID_STEP (R35, R217, R441): in M3 the head-end steps once the other exit conditions hold; a free-running one without an
edge sets its time scale to 0. -/
def Block.gridStepRow (b : Block) : Block :=
  if b.mode = 3 ∧ b.role = 0 ∧ b.truingDone = false then b
  else
    let free := decide (b.role = 0 ∧ b.get R.TIM_SRC_CFG_SRC = 2)
    let aligned := b.flag R.GLB_TICK_STAT_GRID_ALIGNED
    let b := if free ∧ b.mode = 3 ∧ aligned = false ∧ b.time.step = none then b.wantStep (-(b.now : Int)) else b
    let b := b.gridStep
    if free ∧ aligned = false ∧ b.flag R.GLB_TICK_STAT_GRID_ALIGNED then b.lock else b

/-- M1 Hold-up is entered (R443, R444): every load off the flush path is shed; cause 1 mains loss, 2 over-temperature. -/
def Block.holdUp (b : Block) (cause : Nat) : Block :=
  let word (l : List Field) : Nat := boolsToNat (l.map b.flag)
  let rec' : List Nat := [cause, b.now, b.get R.PWR_SUPPLY_BASE_TEMP, b.get R.SPR_FREQ,
    word [R.PWR_TROUBLE_RATION_DELAY, R.PWR_TROUBLE_MODE_REFUSED, R.PWR_TROUBLE_OVER_TEMP, R.PWR_TROUBLE_VAUX_OVERLOAD,
          R.PWR_TROUBLE_WDT_RESET],
    word [R.SPR_TROUBLE_MAINS_LOSS, R.SPR_TROUBLE_L2_LOST, R.SPR_TROUBLE_L3_LOST, R.SPR_TROUBLE_FREQ_OUT,
          R.SPR_TROUBLE_CROSSING_REJECT]]
  let b := (b.commitSerial.abandonTruing false false).abandonScan
  let b := (((b.captureEnd true).abortReceptions).abortTx (fun _ => true)).abandonReload
  let b := (b.driversOff.set R.PWR_GATES_SLICE_ON 1).set R.PWR_GATES_SLICE_RET 0
  let b := b.forEach (List.range 2) (fun b j => b.modCage j Cage.off)
  let b := ((b.setMode 1).set R.PWR_MODE_PENDING 0).bump R.PWR_HOLDUP_COUNT
  let b := b.pinsOff.set R.TIM_STAT_OUT_ACTIVE 0
  let b : Block := { b with slices := keepFailed b.slices, fabric := {} }
  (b.setPower { b.power with
    txReqs := [], reqs := [], grants := [], heldReq := none, trans := none, sliceReset := none, wdtArmed := false
    ddrAwake := true, m1Rec := rec', thermalM1 := decide (cause = 2), flushing := true, wake := false }).showRation

/-- Mains or temperature ends operation (R440): M1 from M3 to M11, M0 from M2. -/
def Block.loseSupply (b : Block) (cause : Nat) : Block :=
  if 3 ≤ b.mode then b.holdUp cause
  else if b.mode = 2 then (b.setPower { b.power with thermalM1 := decide (cause = 2) }).powerOff
  else b

/-- SPUR_RMS_UPDATE (R144, R440): loss of L1 takes the node to M1, or to M0 from M2; in M9 the computations stand still and
the loss alone is seen. -/
def Block.rmsRow (b : Block) (l1 l2 l3 : List Int) : Block :=
  if b.mode < 2 then b
  else if b.mode = 9 then
    (if rmsBelow l1 (b.phase 0).rmsWindow 70 then ((b.set R.SPR_STAT_L1_PRESENT 0).stick R.SPR_TROUBLE_MAINS_LOSS).loseSupply 1 else b)
  else
    let (lost, b) := b.rmsUpdate l1 l2 l3
    if lost then b.loseSupply 1 else b

/-- FLUSH_COMPLETE (R370, R444): the trailer is written; the module enters M0. -/
def Block.flushComplete (b : Block) (us : Nat) : Block := if b.mode = 1 then (b.writeFlush us).powerOff else b

/-- SUPPLY_STOP (R79): the bulk bus has fallen to 200 V in M1. -/
def Block.supplyStop (b : Block) : Block := if b.mode = 1 then b.powerOff else b

/-- BASEPLATE_OVER_TEMP and BASEPLATE_TEMP_NORMAL (R446). -/
def Block.overTempRow (b : Block) : Block :=
  if b.mode < 2 then b
  else ((b.setPower { b.power with overTemp := true }).stick R.PWR_TROUBLE_OVER_TEMP).evalQuiet
def Block.tempNormal (b : Block) : Block := (b.setPower { b.power with overTemp := false }).evalQuiet

/-- WARM_RESET_PIN (R62, R456): RESET_N low for 1 µs; ignored in M1, and without effect in M0. -/
def Block.resetPin (b : Block) : Block :=
  let b : Block := { b with modl := { b.modl with resetN := false } }
  if b.mode ≤ 1 then b else b.resetTo2 2

/-- RESET_RELEASE (R62): RESET_N returns high. -/
def Block.resetRelease (b : Block) : Block := { b with modl := { b.modl with resetN := true } }

/-- WATCHDOG_EXPIRY (R453); in the tick of a warm reset it names that one (R456). -/
def Block.watchdog (b : Block) : Block :=
  if b.warmNow ∧ b.power.wdtRan then b.renameReset 4
  else if b.power.wdtArmed ∧ 3 ≤ b.mode ∧ b.mode ≠ 9 then b.resetTo2 4 else b

/-- An image-restore reset (R449, R452, R454): a part of the running copy failed its digest. -/
def Block.restoreReset (b : Block) : Block := ((b.resetTo2 6).set R.IMG_ERR_CAUSE 0x0C).set R.IMG_ERR_SEGMENT 0xFF

/-- A wake event (R449): STANDBY_TIMER_EXPIRY, where PWR_STBY_TIME is not 0, and WAKE_N_WAKE; one during Standby entry waits for the entry to complete. -/
def Block.wakeUp (b : Block) : Block :=
  if b.mode = 9 ∨ b.power.trans = some 9 then b.setPower { b.power with wake := true } else b

def Block.timerWake (b : Block) : Block := if b.mode = 9 ∧ b.get R.PWR_STBY_TIME ≠ 0 then b.wakeUp else b

/-- The grid values of an associated node after Standby (R278): the next period by the standby crystal's count, in the time
that starts anew at the exit. -/
def Block.gridAfter (b : Block) (g : GridVals) (now : Nat) : GridVals :=
  let bp := max 1 (b.get R.MAC_GRID_BP_CYCLES)
  let k := if now ≤ g.z ∨ g.t = 0 then 0 else bp * ceilDiv (now - g.z) (bp * g.t)
  ⟨(g.rev + k) % 2 ^ 32, g.z + k * g.t - now, g.t⟩

/-- Class I state is taken again from the running copy (R109, R449): the registers, the queues' thresholds and the memories of
the slices. -/
def Block.restoreCopy (b : Block) (i : Image) : Block :=
  let b := ((b.setAll (imageFields i)).showNotches).forEach (List.range 8) Block.loadSlice
  { b with queue := { b.queue with queues := b.queue.queues.map (fun e => (e.1, { e.2 with thresh := e.2.threshImg })) } }

/-- STANDBY_EXIT (R449, R450, R477): M9 is left for M3; `xtalNs` is the standby crystal's count; a snapshot whose target passed
in M9 is missed. -/
def Block.standbyExit (b : Block) (digestOk : Bool) (xtalNs : Nat) : Block :=
  match b.image.copy.map RunCopy.image with
  | none => b
  | some i =>
    if b.mode ≠ 9 ∨ b.power.wake = false then b
    else if digestOk = false then b.restoreReset
    else
      let now := b.now + xtalNs * 65536
      let rejoin := b.role != 0 && b.get R.MAC_ADDR_SHORT != 0 && decide (xtalNs ≤ b.mac.lease * 1000000000)
      let grid := match b.grid.cur, rejoin with
        | some g, true => some (b.gridAfter g now)
        | _, _ => none
      let old := b
      let b := (b.resetFields lostImage).restartUnits
      let b : Block := { b with
        slices := old.slices
        image := { old.image with job := .none, verified := none }
        modl := { b.modl with pinPlan := old.modl.pinPlan }
        serial := old.serial.map (fun p => { wake := p.wake })
        power := { b.power with cold := true }
        grid := { b.grid with next := grid }
        mac := { b.mac with standbyRejoin := rejoin, xtalNs := old.mac.xtalNs + xtalNs, preNs := old.mac.preNs } }
      let b := ((b.restoreCopy i).setAll (restoredFields.zip old.image.standbyRegs)).custodyRestart
      let b := ((b.bump R.CUS_EPOCH).showKeys).set R.QMG_STAT_BULK_READY 1
      let b := b.setPower { b.power with ddrTrained := true }
      let passed := [old.trouble.netSnap, old.trouble.localSnap].filter (fun q => match q with
        | some q => decide (q.t < now)
        | none => false)
      let b := b.forEach passed (fun b _ => b.count R.TRB_SNAP_MISSED_COUNT R.TRB_TROUBLE_SNAP_MISSED)
      let b := ((b.set R.PWR_MODE_MODE 9).enterM3)
      (b.serDrainWake 0).serDrainWake 1

/-- THERMAL_SHUTDOWN (R73, R446, R456). -/
def Block.thermalShutdown (b : Block) : Block := b.loseSupply 2

/-- The tick number of the first block boundary after the current tick. -/
def Block.nextBlock (b : Block) : Nat := (b.tick / 25 + 1) * 25

/-- The blocks that copying a slice's memories takes (R107): the beats over the unreserved beats per tick. -/
def Block.copyBlocks (b : Block) (s : Nat) : Nat :=
  let beats := if b.flag (R.SLC_SPARE_SPARE_USED s) then 199168 else 196608
  ceilDiv (ceilDiv beats (max 1 (Config.unreservedBeats (b.payload 1))) + 1) 25

/-- A slice reset is refused (R454). -/
def Block.sliceResetRefused (b : Block) (s : Nat) : Bool :=
  let reloading := match b.image.job with
    | .reloadPending _ _ => true
    | .reloadRunning _ _ _ => true
    | _ => false
  s == b.supvSlice || reloading || b.power.sliceReset.isSome || b.mode ≤ 2 || decide (9 ≤ b.mode)

/-- PWR_CMD_SLICE_RESET (R454). -/
def Block.sliceReset (b : Block) (s : Nat) : Block :=
  let s := s % 8
  if b.sliceResetRefused s then b.refuseMode
  else
    let start := b.nextBlock
    (b.setPower { b.power with sliceReset := some {
      slice := s, held := false, startTick := start, releaseTick := start + 25 * b.copyBlocks s } }).bump
        R.PWR_SLICE_RESET_COUNT

/-- The slice of an accepted slice reset is held from its block boundary on (R454): its class W and V fields return, its
fault windows restart (R472). -/
def Block.holdSlice (b : Block) (r : SliceReset) : Block :=
  let b := (b.resetFields (lostAtSliceReset r.slice)).clearSliceWindows r.slice
  let all := spindlesOf r.slice
  let b := b.modSlice r.slice (fun x => { x with
    held := true, pendingFaults := [], halted := [], dbg := [], loaded := [], atEntry := [], sharedLoaded := false
    shown := all, fill := all })
  b.setPower { b.power with sliceReset := some { r with held := true } }

/-- SLICE_RESET_RELEASE (R454): at B + k the slice runs again, or the node makes an image-restore reset. -/
def Block.sliceRelease (b : Block) (digestOk : Bool) : Block :=
  match b.power.sliceReset with
  | none => b
  | some r =>
    if r.held = false ∨ b.tick < r.releaseTick then b
    else if digestOk = false then b.restoreReset
    else
      let b := (b.modSlice r.slice (fun x => { x with held := false })).loadSlice r.slice
      let b := b.modSlice r.slice (fun x => { x with fill := x.lastingInvalid r.slice })
      b.setPower { b.power with sliceReset := none }

end Sys2Proof.Machine
end

