-- ==== Sys2Proof/Machine/ImageCmd.lean ====
section
/-! DEFINITION. The image loader's commands (R94, R99, R102–R110, R112, R113) and their ends: verification, bank writes,
trials, live slice reload. -/

namespace Sys2Proof.Machine

/-- A command fails with a cause of R113 and a segment index. -/
def Block.imgFail (b : Block) (cause seg : Nat) : Block := (b.set R.IMG_ERR_CAUSE cause).set R.IMG_ERR_SEGMENT seg

/-- A command is refused (R104, R113). -/
def Block.imgRefuse (b : Block) (cause : Nat) : Block := b.imgFail cause 0xFF

/-- The loader runs no command (IMG_STAT.STATE 0). -/
def Block.imgIdle (b : Block) : Bool := b.get R.IMG_STAT_STATE == 0

/-- A command of R102 with its permitted modes: busy 0x11, wrong mode 0x12. -/
def Block.imgCommand (b : Block) (modes : List Nat) (f : Block → Block) : Block :=
  if b.imgIdle = false then b.imgRefuse 0x11
  else if modes.contains b.mode then f b
  else b.imgRefuse 0x12

/-- The modes of the staging commands (R102). -/
def stagingModes : List Nat := [6, 7, 10, 11]

/-- IMG_CMD NOP: no effect, but it is refused like any command while one runs (R104). -/
def Block.imgNop (b : Block) : Block := if b.imgIdle then b else b.imgRefuse 0x11

/-- The staged bytes, as long as their header says (R84, R102). -/
def Block.stagedBytes (b : Block) : List Byte :=
  let total := b.image.stage.num 8 4
  b.image.stage.bytes 0 (if total ≤ 0x4000000 then max 128 total else 128)

/-- IMG_CMD VERIFY_STAGED (R102). -/
def Block.verifyStaged (b : Block) : Block :=
  b.imgCommand stagingModes (fun b =>
    ((b.setImage { b.image with job := .verify, verified := none }).set R.IMG_STAT_STATE 1).set R.IMG_PROGRESS 0)

/-- A route joins slice `s` with another slice (R106). -/
def crossesSlice (s : Nat) (r : Nat × Nat × Nat × Nat × Bool) : Bool :=
  (portSlice r.1 == s) != (portSlice r.2.1 == s) && decide (portSlice r.1 < 8 ∧ portSlice r.2.1 < 8)

/-- A route has an end in slice `s`. -/
def touchesSlice (s : Nat) (r : Nat × Nat × Nat × Nat × Bool) : Bool :=
  portSlice r.1 == s || portSlice r.2.1 == s

/-- Producer, consumer, beats and buffer format of a route. -/
def routeShape (r : Nat × Nat × Nat × Nat × Bool) : Nat × Nat × Nat × Nat := (r.1, r.2.1, r.2.2.1, r.2.2.2.1)

/-- The running image with a package's segments in place of the slice's (R105, R106). -/
def Image.reloaded (i p : Image) : Image :=
  { i with segs := i.segs.filter (fun g => !((g.kind == 1 || (g.kind == 2 && !g.library)) && g.slice == p.reloadSlice)) ++ p.segs }

/-- The package passes the content checks of R111 for its slice, in the place it takes in the running image. -/
def Image.packageContentOk (run p : Image) : Bool :=
  p.segs.all (fun g => if g.kind = 1 then Config.sliceLayoutOk g.data else (run.reloaded p).scheduleOk g)

/-- The reload package fits the running image (R106). -/
def Block.packageCheck (b : Block) (p : Image) : Option (Nat × Nat) :=
  match b.image.run with
  | none => some (0x10, 0xFF)
  | some run =>
    let s := p.reloadSlice
    let routes := Config.packageRoutes (p.sliceStructure s)
    let mine := (run.routes.filter (crossesSlice s)).map routeShape
    let theirs := (routes.filter (crossesSlice s)).map routeShape
    firstFail [
      (leNum p.baseDigest == b.get R.IMG_RUN_DIGEST, (0x10, 0xFF)),
      (s != b.supvSlice, (0x10, 0xFF)),
      (mine.all theirs.contains && theirs.all mine.contains, (0x10, 0xFF)),
      (fabricOk (run.routes.filter (fun r => !touchesSlice s r) ++ routes), (0x10, 0xFF)),
      (run.packageContentOk p, (0x0E, 0xFF)),
      (run.planComplete s, (0x10, 0xFF))]

/-- The verdict over staged bytes (R92, R102, R106). -/
def Block.stagedVerdict (b : Block) (o : Otp) (bytes : List Byte) : Option (Nat × Nat) :=
  match verifyManifest .staged o bytes with
  | some e => some e
  | none => match digestCheck bytes with
    | some e => some e
    | none =>
      let i := parseImage bytes
      if i.reload then b.packageCheck i else contentCheck i

/-- VERIFY_STAGED_DONE (R102, R106, R113): `readOk` is false where a DDR4 read was uncorrectable. -/
def Block.verifyDone (b : Block) (o : Otp) (readOk : Bool) : Block :=
  if b.image.job ≠ .verify then b
  else
    let bytes := b.stagedBytes
    let b := ((b.setImage { b.image with job := .none }).set R.IMG_STAT_STATE 0).set R.IMG_PROGRESS bytes.length
    let b := if readOk then b else b.bump R.TRB_DDR_UNCORR_COUNT
    let verdict := if readOk then b.stagedVerdict o bytes else some (0x0D, 0xFF)
    match verdict with
    | some e => b.imgFail e.1 e.2
    | none => b.setImage { b.image with verified := some (parseImage bytes) }

/-- The bank that the running image was loaded from (IMG_STAT.RUN_BANK). -/
def Block.runBank (b : Block) : Bank :=
  match b.get R.IMG_STAT_RUN_BANK with
  | 0 => .a
  | 1 => .b
  | _ => .golden

/-- The bank that WRITE_BANK writes: neither ACTIVE nor running (R102). -/
def Block.freeBank (b : Block) : Option Bank := [Bank.a, Bank.b].find? (fun k => b.bankState k != 3 && k != b.runBank)

/-- A bank write starts. -/
def Block.startWrite (b : Block) (k : Bank) : Block :=
  ((b.setImage { b.image with job := .write k }).set R.IMG_STAT_STATE 2).set R.IMG_PROGRESS 0

/-- IMG_CMD WRITE_BANK (R102–R104). Where several causes hold, none verified is shown before a running trial, and that before the
wrong kind (DESIGN CHOICE, assumption 117). -/
def Block.writeBank (b : Block) : Block :=
  b.imgCommand stagingModes (fun b =>
    match b.image.verified, b.freeBank with
    | none, _ => b.imgRefuse 0x13
    | some i, free =>
      if b.flag R.IMG_STAT_RUN_TRIAL then b.imgRefuse 0x12
      else if i.golden || i.reload then b.imgRefuse 0x04
      else match free with
        | some k => b.startWrite k
        | none => b.imgRefuse 0x12)

/-- IMG_CMD GOLDEN_WRITE (R102, R103). -/
def Block.goldenWrite (b : Block) : Block :=
  b.imgCommand [10] (fun b =>
    match b.image.verified with
    | none => b.imgRefuse 0x13
    | some i => if i.golden then b.startWrite .golden else b.imgRefuse 0x04)

/-- A bank holds new bytes. -/
def Block.storeBank (b : Block) (k : Bank) (bytes : List Byte) : Block :=
  match k with
  | .a => (b.setImage { b.image with bankA := bytes }).set R.IMG_SEQ_A (leAt bytes 0x14 4)
  | .b => (b.setImage { b.image with bankB := bytes }).set R.IMG_SEQ_B (leAt bytes 0x14 4)
  | .golden => b.setImage { b.image with golden := some bytes }

/-- WRITE_BANK_DONE and GOLDEN_WRITE_DONE (R103): the bank is written and read back. -/
def Block.writeDone (b : Block) (golden : Bool) : Block :=
  match b.image.job with
  | .write k =>
    if golden ≠ (k == .golden) then b
    else
      let bytes := b.stagedBytes
      let b := (b.storeBank k bytes).setBank k (if k = .golden then 3 else 1)
      ((b.setImage { b.image with job := .none }).set R.IMG_STAT_STATE 0).set R.IMG_PROGRESS bytes.length
  | _ => b

/-- IMG_CMD ARM_TRIAL (R97, R102). With no STAGED bank it is refused with cause 0x14; with both STAGED it arms bank A (DESIGN
CHOICE, assumption 118). -/
def Block.armTrial (b : Block) : Block :=
  b.imgCommand stagingModes (fun b =>
    match [Bank.a, Bank.b].find? (fun k => b.bankState k == 1) with
    | some k => (b.set k.field 2).putRecord false
    | none => b.imgRefuse 0x14)

/-- IMG_CMD CONFIRM (R99, R104). -/
def Block.confirmCmd (b : Block) : Block :=
  b.imgCommand [6] (fun b => if b.flag R.IMG_STAT_RUN_TRIAL then b.confirmTrial else b.imgRefuse 0x14)

/-- The lowest SEC_VERSION of a class in an image; none without a segment of the class (R93, R94). -/
def Image.lowest (i : Image) (cls : Nat) : Option Nat :=
  ((i.segs.filter (fun g => g.rollbackClass i.golden == cls)).map Seg.secVer).min?

/-- The anti-rollback counters raised to an image (R94): never lowered. -/
def raiseCounters (i : Image) (l : List Nat) : List Nat :=
  l.zipIdx.map (fun e => max e.1 ((i.lowest e.2).getD 0 % 256))

/-- IMG_CMD ROLLBACK_COMMIT (R94, R104). -/
def rollbackCommit (b : Block) (o : Otp) : Block × Otp :=
  match b.image.run with
  | none => (b.imgCommand [6] (fun b => b.imgRefuse 0x12), o)
  | some i =>
    if b.imgIdle = false then (b.imgRefuse 0x11, o)
    else if b.mode ≠ 6 ∨ b.bankState b.runBank ≠ 3 ∨ b.flag R.IMG_STAT_RUN_MODIFIED then (b.imgRefuse 0x12, o)
    else
      let l := raiseCounters i o.rollback
      if l = o.rollback then (b.imgRefuse 0x14, o) else (b, { o with rollback := l })

/-- IMG_CMD SLICE_RELOAD (R102, R107, R112). -/
def Block.sliceReload (b : Block) (s : Nat) : Block :=
  b.imgCommand [6, 7, 10] (fun b =>
    match b.image.verified with
    | none => b.imgRefuse 0x13
    | some p =>
      if p.reload = false then b.imgRefuse 0x04
      else if s ≠ p.reloadSlice ∨ s = b.supvSlice ∨ leNum p.baseDigest ≠ b.get R.IMG_RUN_DIGEST then b.imgRefuse 0x10
      else
        let t := b.get R.IMG_RELOAD_TICK_LO + 2 ^ 32 * b.get R.IMG_RELOAD_TICK_HI
        let start := if t ≤ b.tick then b.nextBlock else ceilDiv t 25 * 25
        ((b.setImage { b.image with job := .reloadPending s start }).set R.IMG_STAT_STATE 3).set R.IMG_PROGRESS 0)

/-- IMG_CMD ABORT (R104). -/
def Block.abortCmd (b : Block) : Block :=
  match b.image.job with
  | .none => b
  | .verify => (b.setImage { b.image with job := .none }).set R.IMG_STAT_STATE 0
  | .write .golden => b.imgRefuse 0x11
  | .write k => ((b.emptyBank k).setImage { (b.emptyBank k).image with job := .none }).set R.IMG_STAT_STATE 0
  | .reloadPending s _ =>
    let b := (b.set R.IMG_RELOAD_LAST_SLICE s).set R.IMG_RELOAD_LAST_OK 0
    (b.setImage { b.image with job := .none }).set R.IMG_STAT_STATE 0
  | .reloadRunning _ _ _ => b.imgRefuse 0x11

/-- A reserved command number (R102): rejected, and counted under R5 in the counter of the IMG window (R496). -/
def Block.imgReserved (b : Block) : Block := (if b.imgIdle then b.imgRefuse 0x12 else b.imgRefuse 0x11).bump R.GLB_UNDEF_COUNT

/-- IMG_STAGE_DATA (R102, R104, R112): refused while a verification or a reload reads the staging area. -/
def Block.stageData (b : Block) (v : Nat) : Block :=
  let reading := match b.image.job with
    | .verify => true
    | .reloadPending _ _ => true
    | .reloadRunning _ _ _ => true
    | _ => false
  if reading then b.bump R.IMG_STAGE_REFUSED
  else
    let off := b.get R.IMG_STAGE_OFFSET / 4 * 4
    let b := b.setImage { b.image with stage := b.image.stage.setNum off v 4, verified := none }
    b.set R.IMG_STAGE_OFFSET (off + 4)

/-- IMG_TRIAL_LEFT follows the time in M6 (R99, R112). -/
def Block.showTrial (b : Block) : Block :=
  if b.flag R.IMG_STAT_RUN_TRIAL then b.set R.IMG_TRIAL_LEFT (b.get R.IMG_TRIAL_LIMIT - b.image.trialTicks / 25000) else b

/-- IMAGE_TRIAL_EXPIRY (R99): the bank becomes BAD, and an image-trial reset follows; in the tick of a warm reset it names that
one (R456). -/
def Block.trialExpiry (b : Block) : Block :=
  if b.warmNow ∧ b.power.trialOver then b.renameReset 5
  else if b.mode = 6 ∧ b.flag R.IMG_STAT_RUN_TRIAL ∧ b.get R.IMG_TRIAL_LEFT = 0 ∧ b.get R.IMG_TRIAL_LIMIT ≠ 0 then b.resetTo2 5 else b

/-- SLICE_RELOAD_START (R107, R110): at tick b the slice is held in slice reset. Its MOVE duties start on their dormant
schedules; consumers of its SUSPEND duties meet invalid buffers from this tick on, and those of every other spindle's old
schedule from the next. -/
def Block.reloadStart (b : Block) : Block :=
  match b.image.job, b.image.run with
  | .reloadPending s t, some run =>
    if b.tick < t then b
    else
      let b := (b.resetFields (lostAtSliceReset s)).clearSliceWindows s
      let b := b.modSlice s (fun x => { x with
        held := true, halted := [], dbg := [], loaded := [], atEntry := [], sharedLoaded := false
        moves := run.moveTargets s, fill := spindlesOf s
        shown := x.shown ++ (run.suspended s).filter (fun n => !x.shown.contains n) })
      ((b.setImage { b.image with job := .reloadRunning s t false }).set R.IMG_STAT_STATE 4).set R.IMG_PROGRESS 0
  | _, _ => b

/-- A reload has ended (R107): the slice runs again with its memories loaded, its MOVE duties return, and faults that waited are
applied (R110). -/
def Block.reloadOver (b : Block) (s : Nat) (ok : Bool) : Block :=
  let b := ((b.set R.IMG_RELOAD_LAST_SLICE s).setFlag R.IMG_RELOAD_LAST_OK ok).set R.IMG_RELOAD_LAST_TICK_TAG b.tickTag
  let b := (b.setImage { b.image with job := .none }).set R.IMG_STAT_STATE 0
  let b := (b.modSlice s (fun x => { x with held := false, moves := [] })).loadSlice s
  (b.modSlice s (fun x => { x with fill := x.lastingInvalid s })).takeDeferred s

/-- SLICE_RELOAD_COMPLETE (R107–R110): at B + k the new schedules start; after a digest failure the old ones, k blocks
later. -/
def Block.reloadComplete (b : Block) (digestOk : Bool) : Block :=
  match b.image.job, b.image.verified, b.image.run with
  | .reloadRunning s t fallback, some p, some run =>
    let k := 25 * b.copyBlocks s
    if b.tick < t + (if fallback then 2 * k else k) then b
    else if fallback then b.reloadOver s false
    else if digestOk = false then -- the cause stands for the whole package, whatever segment failed (assumption 112)
      (b.imgRefuse 0x0C).setImage { (b.imgRefuse 0x0C).image with job := .reloadRunning s t true }
    else
      let digest := sha512 (leBytes (b.get R.IMG_RUN_DIGEST) 64 ++ p.digest)
      let i := run.reloaded p
      let b := (b.setImage { b.image with run := some i, copy := some i.runCopy }).set R.IMG_PROGRESS b.stagedBytes.length
      let b := ((b.set R.IMG_RUN_DIGEST (leNum digest)).set R.IMG_STAT_RUN_MODIFIED 1).bump R.IMG_RELOAD_COUNT
      let b := b.modSlice s (fun x => { x with failed := [], stopped := false, alternate := false })
      b.reloadOver s true
  | _, _, _ => b

end Sys2Proof.Machine
end

