-- ==== Sys2Proof/Machine/Module.lean ====
section
/-! DEFINITION. The rest of the module's operations: VAUX_3V3, the cages and the TAP (R61, R66, R70), load enables and
their grants (R447, R448), PWR_CMD (R455), the spare (R15), memory errors and corrections, port return and DDR4 unmarking
(R468–R471). -/

namespace Sys2Proof.Machine

/-- The power manager runs: M2 to M8, M10 and M11. -/
def Block.running (b : Block) : Bool := decide (2 ≤ b.mode ∧ b.mode ≠ 9)

/-- VAUX_OVERLOAD (R61): the output switches off. It is present in every mode but M0. -/
def Block.vauxOverload (b : Block) : Block :=
  if b.mode = 0 ∨ b.modl.vauxOn = false then b
  else
    let b : Block := { b with modl := { b.modl with vauxOn := false, vauxOverload := true } }
    b.stick R.PWR_TROUBLE_VAUX_OVERLOAD

/-- VAUX_RETRY (R61): a switched-off output is tried again. -/
def Block.vauxRetry (b : Block) : Block :=
  if b.mode = 0 then b else { b with modl := { b.modl with vauxOn := true, vauxOverload := false } }

/-- SFP_INSERT (R70): `declared` is the power level of the identification in mW. -/
def Block.sfpInsert (b : Block) (j declared : Nat) : Block :=
  let refused := decide (1500 < declared)
  let b := b.modCage j (fun _ => { present := true, refused := refused, declared := declared })
  if j < 2 ∧ refused = false ∧ b.cageEnabled j ∧ cageMode b.mode then b.request (.cage j) none else b

/-- SFP_REMOVE (R70): the cage is empty and unpowered; a waiting request for it is withdrawn. -/
def Block.sfpRemove (b : Block) (j : Nat) : Block :=
  let b := b.modCage j (fun _ => {})
  (b.setPower { b.power with reqs := b.power.reqs.filter (fun r => r.load ≠ .cage j) }).showRation

/-- The level of an X2 signal pin (R60, R66): under EXTEST an output follows its bit of the boundary register. -/
def Block.pinLevel (b : Block) (pin : Nat) : Level :=
  if b.modl.tap = .extest ∧ x2Inputs.contains pin = false then
    (if b.modl.boundary.testBit (x2Pins.idxOf pin) then (if b.openDrain pin then .z else .high) else .low)
  else Tab.get .z b.modl.pins pin

/-- What SAMPLE captures (R66): bit i is the pin of PIN_PLAN entry i; a pin that the module does not drive shows the level
outside. -/
def Block.sampled (b : Block) (inputs : Nat) : Nat :=
  boolsToNat (x2Pins.zipIdx.map (fun e => match b.pinLevel e.1 with
    | .high => true
    | .low => false
    | .z => inputs.testBit e.2))

/-- The TAP takes an instruction (R66); it has no supply in M0, and TRST_N low holds it in Test-Logic-Reset. -/
def Block.tapTo (b : Block) (t : TapInstr) (tdo boundary : Nat) : Block :=
  if b.mode = 0 ∨ b.modl.trstN = false then b
  else { b with modl := { b.modl with tap := t, tdo := tdo, boundary := boundary } }

/-- TAP_RESET (R66): TRST_N goes low and the TAP is in Test-Logic-Reset; where it is low it returns high (DESIGN CHOICE,
assumption 142). -/
def Block.tapReset (b : Block) : Block :=
  if b.modl.trstN then { b with modl := { b.modl with trstN := false, tap := .idcode, tdo := 0 } }
  else { b with modl := { b.modl with trstN := true } }

/-- TAP_BYPASS, TAP_SAMPLE_PRELOAD, TAP_EXTEST and TAP_IDCODE (R66). -/
def Block.tapBypass (b : Block) : Block := b.tapTo .bypass 0 b.modl.boundary
def Block.tapSample (b : Block) (inputs preload : Nat) : Block := b.tapTo .sample (b.sampled inputs) (preload % 2 ^ 33)
def Block.tapExtest (b : Block) (inputs : Nat) : Block := b.tapTo .extest (b.sampled inputs) b.modl.boundary
def Block.tapIdcode (b : Block) : Block := b.tapTo .idcode 0x15120C4B b.modl.boundary

/-- A load that exists. -/
def Load.valid : Load → Bool
  | .slice s => decide (s < 8)
  | .cluster s c => decide (s < 8 ∧ c < 4)
  | .drvH p => decide (p < 4)
  | .cage j => decide (j < 2)
  | _ => true

/-- The mode permits the load to be enabled (R55, R70, R458): no line driver in M2 or while RESET_N is low, Band L alone in M11;
a cage only where the image enables it, and not in M2, M8 and M11. -/
def Block.loadAllowed (b : Block) : Load → Bool
  | .drvH _ => decide (3 ≤ b.mode ∧ b.mode ≠ 11) && b.modl.resetN
  | .drvL => decide (3 ≤ b.mode) && b.modl.resetN
  | .cage j => cageMode b.mode && b.cageEnabled j
  | _ => true

/-- LOAD_ENABLE_REQUEST (R447, R448): the request waits for the ration. -/
def Block.loadRequest (b : Block) (l : Load) (deadline : Option Nat) : Block :=
  if b.running && l.valid && b.loadAllowed l then b.request l deadline else b

/-- RATION_GRANT (R448): the grants of this tick boundary; a request that the mode no longer permits is dropped. -/
def Block.rationGrant (b : Block) : Block :=
  if b.running then
    let ok (r : LoadReq) : Bool := b.loadAllowed r.load
    (b.setPower { b.power with txReqs := b.power.txReqs.filter ok, reqs := b.power.reqs.filter ok }).grantLoads
  else b

/-- No register is reachable in M0, M1 and M9 (R497): a command that is a register write then has no effect. -/
def Block.reachable (b : Block) : Bool := decide (2 ≤ b.mode ∧ b.mode ≠ 9)
def Block.viaReg (b : Block) (f : Block → Block) : Block := if b.reachable then f b else b

/-- PWR_CMD without CONFIRM 0xA5C3 (R455). -/
def Block.badConfirm (b : Block) : Block := b.bump R.PWR_UNDEF_COUNT

/-- FAULT_WINDOW_CLOSE (R468): WINDOW ticks after it opened. -/
def Block.windowClose (b : Block) (cls inst : Nat) : Block :=
  match b.trouble.windows.find? (fun w => w.cls = cls ∧ w.inst = inst) with
  | some w => if w.openTick + w.window ≤ b.tick then b.closeWindow cls inst else b
  | none => b

/-- DDR4_CORRECTION (R469 class 4): an error of device 0 to 35. -/
def Block.ddrCorrection (b : Block) (d : Nat) : Block := if d < 36 then b.fault 4 d else b

/-- The period of a scrub in hours (R471): 24, or 1 while a device is marked. -/
def Block.scrubHours (b : Block) : Nat := if b.get R.TRB_DDR_MARKED = 0 then 24 else 1

/-- DDR_SCRUB (R471): all of DDR4 has been scrubbed once, its period after the last time. -/
def Block.ddrScrub (b : Block) : Block :=
  if b.tick < b.trouble.scrubTick + 90000000 * b.scrubHours then b
  else { b with trouble := { b.trouble with scrubs := b.trouble.scrubs + 1, scrubTick := b.tick } }

/-- PORT_RETURN (R470): the ports of the mask return to service and their truing blocks become due. -/
def Block.portReturn (b : Block) (mask : Nat) : Block :=
  let back := (List.range 4).filter (fun p => mask.testBit p && b.bit R.TRB_PORT_FAILED p)
  let b := b.clear R.TRB_PORT_FAILED mask
  let b : Block := { b with front := { b.front with returning := b.front.returning ++ back } }
  (b.makeDue ((back.map (fun p => 2 ^ p + (if p < 3 then 2 ^ (p + 4) else 0))).sum)).truRejoin

/-- DDR_UNMARK (R471): the marks of the mask are removed. -/
def Block.ddrUnmark (b : Block) (mask : Nat) : Block := b.clear R.TRB_DDR_MARKED mask

end Sys2Proof.Machine
end

