-- ==== Sys2Proof/Machine/Words.lean ====
section
/-! DEFINITION. The registers as 32-bit words (R4, R8, R495): which fields a word shows, and what a read gives and a write
changes under the access codes. Words are named by their byte address. -/

namespace Sys2Proof.Machine

/-- The base, in bits from the first instance, of the last instance that starts at or before a distance. -/
def instanceBase : List (Nat × Nat) → Nat → Nat
  | [], _ => 0
  | (s, c) :: l, d =>
    let n := min (d / (8 * s)) (c - 1)
    8 * s * n + instanceBase l (d - 8 * s * n)

/-- The keys of a row's instances that have a bit in the word at `a`; two ladder entries share one word (R208). -/
def RegRow.inWord (r : RegRow) (a : Nat) : List Nat :=
  let first := 8 * r.addr + r.lo
  let at_ (e : Nat) : List Nat :=
    if e < first then []
    else
      let k := first + instanceBase r.dims (e - first)
      if 8 * a < k + r.width then [k] else []
  (at_ (8 * a + 15) ++ at_ (8 * a + 31)).eraseDups

/-- The fields of the word at `a`, each with its row. -/
def wordFields (a : Nat) : List (RegRow × Nat) := regRows.flatMap (fun r => (r.inWord a).map (fun k => (r, k)))

/-- What a field with key `k` and value `v` shows in the word at `a`. -/
def showIn (a k v : Nat) : Nat :=
  if 8 * a ≤ k then v * 2 ^ (k - 8 * a) % 2 ^ 32 else v / 2 ^ (8 * a - k) % 2 ^ 32

/-- A field of key `k` and width `w` has, in the word at `a`, its bits [lo + n - 1 : lo] at bit `pos` of the word. -/
def fieldSpan (a k w : Nat) : Nat × Nat × Nat :=
  if 8 * a ≤ k then (0, min w (32 - (k - 8 * a)), k - 8 * a) else (8 * a - k, min (w - (8 * a - k)) 32, 0)

/-- A number with its bits [lo + n - 1 : lo] replaced. -/
def putBits (v lo n x : Nat) : Nat := v - (v / 2 ^ lo % 2 ^ n) * 2 ^ lo + x % 2 ^ n * 2 ^ lo

/-- The part of a written word that goes to a field, with the field's other bits as they are. -/
def mergeIn (a k w v word : Nat) : Nat :=
  let s := fieldSpan a k w
  putBits v s.1 s.2.1 (word / 2 ^ s.2.2)

/-- The part of a written word that clears bits of a field, as a mask over the field. -/
def clearIn (a k w word : Nat) : Nat :=
  let s := fieldSpan a k w
  word / 2 ^ s.2.2 % 2 ^ s.2.1 * 2 ^ s.1

/-- The word at `a` as its fields hold it; a WO field reads 0 (R495). -/
def Block.wordValue (b : Block) (a : Nat) : Nat :=
  (wordFields a).foldl (fun acc (e : RegRow × Nat) =>
    if e.1.access = .wo then acc else acc ||| showIn a e.2 (Tab.get 0 b.regs e.2)) 0

/-- A write under the access codes (R8): RW fields take the value, W1C bits clear, the others stay. -/
def Block.storeWord (b : Block) (a word : Nat) : Block :=
  (wordFields a).foldl (fun (b : Block) (e : RegRow × Nat) =>
    let f : Field := ⟨e.2, e.1.width⟩
    match e.1.access with
    | .rw => b.set f (mergeIn a e.2 e.1.width (b.get f) word)
    | .w1c => b.clear f (clearIn a e.2 e.1.width word)
    | _ => b) b

/-- A path's latch (R498). -/
def Block.latch (b : Block) : Path → Tab Nat
  | .host => b.hostLatch
  | .sup => b.supLatch

/-- Change an entry of a path's latch. -/
def Block.setLatch (b : Block) (p : Path) (k v : Nat) : Block :=
  match p with
  | .host => { b with hostLatch := Tab.set 0 b.hostLatch k v }
  | .sup => { b with supLatch := Tab.set 0 b.supLatch k v }

/-- The latched field whose later words include the word at `a`, if any: its first word. -/
def latchedBy (a : Nat) : Option Nat :=
  ((wordFields a).find? (fun e => e.1.latched && decide (e.2 + 32 ≤ 8 * a))).map (fun e => e.2 / 8)

/-- Reading the first word of a multi-word value latches its later words (R498). -/
def Block.latchFrom (b : Block) (p : Path) (a : Nat) (shown : Block) : Block :=
  match (wordFields a).find? (fun e => e.1.latched && e.2 == 8 * a) with
  | some e =>
    b.forEach (List.range ((e.1.width + 31) / 32 - 1)) (fun b i =>
      b.setLatch p (a + 4 * (i + 1)) (shown.wordValue (a + 4 * (i + 1))))
  | none => b

end Sys2Proof.Machine
end

