-- ==== Sys2Proof/Machine/Checks.lean ====
section
/-! DEFINITION. Which writes of the register tables are refused (the "refused" entries of R148–R478): a refused write leaves
the whole register unchanged. Where the value is a reserved encoding of an enumerated field, the block counts it (R5). -/

namespace Sys2Proof.Machine

/-- A value lies in a range. -/
def between' (lo x hi : Nat) : Bool := decide (lo ≤ x ∧ x ≤ hi)

/-- PWR, TRB and IMG words. -/
def writeOkPwr (a v : Nat) : Bool :=
  if a = 0x10014 then between' 10 (bits v 0 16) 60000
  else if a = 0x2001C then between' 0 (bits v 0 3) 5
  else if a = 0x20048 then decide (v < 1000000000)
  else true

/-- TIM words (R240, R250). -/
def writeOkTim (a v : Nat) : Bool :=
  if a = 0x40030 then bits v 0 10 != 0 && bits v 10 10 != 0 && between' 1 (bits v 20 12) 4000
  else if a = 0x40034 then bits v 0 16 != 0 && bits v 16 8 != 0 && bits v 24 8 != 0
  else if a = 0x40038 then between' 1 (bits v 0 13) 7000 && between' 1 (bits v 16 9) 400 && decide (2 ≤ bits v 25 4)
  else if a = 0x4004C then bits v 0 8 != 0 && bits v 8 8 != 0 && decide (8 ≤ bits v 16 8)
  else if a = 0x40060 then between' 1 v 500000
  else if a = 0x40064 then decide ((sext 32 v).natAbs ≤ 100000000)
  else if a = 0x40068 then decide ((sext 32 v).natAbs ≤ 50000)
  else if a = 0x4010C then bits v 3 2 != 3
  else true

/-- SPR and LFE words (R148, R150). -/
def writeOkLine (a v : Nat) : Bool :=
  let o := a % 0x1000
  let port := decide (0x60000 ≤ a ∧ a < 0x64000)
  if a = 0x50030 then between' 1 (bits v 0 4) 8 && between' 4 (bits v 4 4) 12
  else if port && o == 0x10 then between' 12 (bits v 0 8) 60 && between' 12 (bits v 8 8) 60
  else if port && (o == 0x18 || o == 0x1C) then between' 6 (bits v 2 8) 80
  else true

/-- A ladder entry (R203): 0xFFFF ends the ladder, but not at entry 0; else profile 0 and a mode that R167 admits. -/
def ladderEntryOk (isL : Bool) (i m : Nat) : Bool :=
  if m = 0xFFFF then i != 0
  else modeProfile m == 0 && modeMod m != 3 && decide (modeRate m < 4) && decide (modeExp m < 13) &&
    (!isL || (decide (modeExp m ≤ 8) && modeStreams m == 1))

/-- PHY words (R203, R208). -/
def writeOkPhy (a v : Nat) : Bool :=
  if a = 0x70100 ∨ a = 0x70104 then bits v 16 3 != 0
  else if a = 0x70108 ∨ a = 0x7010C then
    between' 1 (bits v 0 7) 64 && between' 0 (bits v 7 6) 32 && between' 0 (bits v 13 4) 12 && between' 1 (bits v 17 5) 16
  else if a = 0x70110 then decide (2 ≤ bits v 0 4) && decide (2 ≤ bits v 4 4) && decide (2 ≤ bits v 8 4)
  else if a = 0x70114 then between' 1 (bits v 0 6) 50
  else if a = 0x7011C then between' 0 (bits v 0 4) 8
  else if 0x70140 ≤ a ∧ a < 0x70180 then
    let isL := decide (0x70160 ≤ a)
    let i := (a - (if isL then 0x70160 else 0x70140)) / 2
    ladderEntryOk isL i (bits v 0 16) && ladderEntryOk isL (i + 1) (bits v 16 16)
  else if a = 0x701C0 then between' 0 (bits v 3 3) 5
  else true

/-- MAC words (R282, R288): budgets only fall below BAND_PLAN, and no reserve exceeds its budget. -/
def Block.writeOkMac (b : Block) (a v : Nat) : Bool :=
  let plan (band : Nat) : Nat := leAt b.bandPlan (0x200 + 12 * band) 4
  if a = 0x80018 then decide (bits v 0 4 ≤ bits v 4 4) && bits v 8 4 != 0 && between' 1 (bits v 12 6) 60
  else if a = 0x8001C then bits v 8 8 != 0
  else if a = 0x80028 then decide (v ≤ plan 0 ∧ b.get R.MAC_RESERVE_H ≤ v)
  else if a = 0x8002C then decide (v ≤ b.get R.MAC_BUDGET_H)
  else if a = 0x80030 then decide (v ≤ plan 1 ∧ b.get R.MAC_RESERVE_L ≤ v)
  else if a = 0x80034 then decide (v ≤ b.get R.MAC_BUDGET_L)
  else true

/-- MSH words (R317). -/
def writeOkMsh (a v : Nat) : Bool :=
  if a = 0x90010 then bits v 0 16 != 0
  else if a = 0x90014 then decide (sext 8 (bits v 24 8) ≤ sext 8 (bits v 16 8))
  else if a = 0x90018 then bits v 0 16 != 0 && between' 1 (bits v 16 12) 3600
  else if a = 0x9001C then bits v 0 8 != 0 && between' 1 (bits v 8 6) 32
  else if a = 0x90020 then bits v 17 4 != 0 && between' 1 (bits v 21 3) 4 && decide (2 ≤ bits v 24 4)
  else true

/-- CUS, SEN, SER, TRU and SEC words (R385, R404, R421, R436, R492). -/
def writeOkHost (a v : Nat) : Bool :=
  let o := a % 0x1000
  let ser := decide (0xD0000 ≤ a ∧ a < 0xD2000)
  if a = 0xB0040 then between' 0 (bits v 0 11) 1023
  else if a = 0xC000C then between' 0 (bits v 0 10) 600
  else if a = 0xC0010 then between' 0 (bits v 0 16) 60000
  else if 0xC0020 ≤ a ∧ a < 0xC0040 then between' 0 (bits v 0 3) 4 && between' 0 (bits v 5 4) 8
  else if ser && o == 0 then between' 0 (bits v 0 3) 4 && between' 0 (bits v 3 3) 4
  else if ser && o == 4 then between' 786 (bits v 0 23) 7864320
  else if ser && o == 8 then decide (50 ≤ bits v 0 16)
  else if a = 0xE0030 then between' 0 (bits v 0 4) 10
  else if a = 0xF0010 then bits v 16 8 != 0 && decide (2 ≤ bits v 24 8)
  else true

/-- A write is not refused. -/
def Block.writeOk (b : Block) (a v : Nat) : Bool :=
  if a < 0x40000 then writeOkPwr a v
  else if a < 0x50000 then writeOkTim a v
  else if a < 0x70000 then writeOkLine a v
  else if a < 0x80000 then writeOkPhy a v
  else if a < 0x90000 then b.writeOkMac a v
  else if a < 0xA0000 then writeOkMsh a v
  else writeOkHost a v

/-- A refused write that gives a reserved encoding of an enumerated field (R5): the command codes are counted where they
are refused; here stand the fields PHY_LADDER MOD and RATE, CAP_CTRL.TRIG, TIM record MODE, SEN RANGE, SER DATA and PARITY, and
the nanoseconds of TRB_SNAP_T (R209). -/
def reservedCode (a v : Nat) : Bool :=
  (decide (0x70140 ≤ a ∧ a < 0x70180) && [bits v 0 16, bits v 16 16].any (fun m =>
    m != 0xFFFF && (modeMod m == 3 || decide (4 ≤ modeRate m)))) ||
  (a == 0x20048 && decide (1000000000 ≤ v)) || (a == 0x701C0 && decide (6 ≤ bits v 3 3)) || (a == 0x4010C && bits v 3 2 == 3) ||
  (decide (0xC0020 ≤ a ∧ a < 0xC0040) && decide (5 ≤ bits v 0 3)) ||
  ((a == 0xD0000 || a == 0xD1000) && (decide (5 ≤ bits v 0 3) || decide (5 ≤ bits v 3 3)))

end Sys2Proof.Machine
end

