-- ==== Sys2Proof/Machine/Tick.lean ====
section
/-! DEFINITION. The tick (R31–R42): the time scale and the tick generator, spindles that overrun or are halted, and what
follows a tick boundary in every unit; and the anchor, which opens a half-cycle at a tick (R45). -/

namespace Sys2Proof.Machine

/-- One system clock of the time scale, in 2⁻⁵⁴ ns, under the correction in force in this tick (R212, R213). -/
def Block.clock (b : Block) : Nat := (625 * (2 ^ 48 + b.time.y)).toNat

/-- The system clocks of the tick (R34): 4,096, or one fewer or more where an aligned boundary would lie more than half a
system clock from its instant. -/
def Block.tickClocks (b : Block) : Nat :=
  let err : Int := (b.time.scale + 4096 * b.clock : Nat) - ((b.tick + 1) * 40000 * 2 ^ 54 : Nat)
  let half : Int := b.clock / 2
  if b.flag R.GLB_TICK_STAT_GRID_ALIGNED = false then 4096
  else if half < err then 4095
  else if err < -half then 4097
  else 4096

/-- The next tick begins (R32, R34, R212); a new y applies from it on (R213). -/
def Block.advanceTick (b : Block) : Block :=
  let n := b.tickClocks
  let c := b.clock
  let b := if n = 4096 then b else b.bump R.GLB_TICK_ADJ_COUNT
  { b.set R.GLB_TICK (b.tick + 1) with time := { b.time with scale := b.time.scale + n * c, y := b.sget R.TIM_FREQ } }

/-- The slice is power-gated or held in retention (R438, R447): from M3 to M8. -/
def Block.gated (b : Block) (s : Nat) : Bool :=
  decide (3 ≤ b.mode ∧ b.mode ≤ 8) && (!b.bit R.PWR_GATES_SLICE_ON s || b.bit R.PWR_GATES_SLICE_RET s)

/-- The logical spindle executes its tick schedule (R26, R501). -/
def Block.executes (b : Block) (n : Nat) : Bool :=
  let s := sliceOf n
  let x := b.sliceState s
  if b.mode = 1 ∨ b.mode = 2 ∨ b.mode = 10 ∨ b.mode = 11 then decide (n < 16)
  else if 3 ≤ b.mode ∧ b.mode ≤ 8 then
    let idle := match b.image.run with
      | some i => i.dormant n && !b.slices.any (fun e => e.2.moves.contains n)
      | none => true
    decide (n < 512) && b.spindleRole n != 5 && !idle && !b.gated s && !x.asleep && !x.held && !x.stopped && !x.failed.contains (n % 64) &&
      !x.halted.contains (n % 64) && !(match x.spareLoad with | some (m, _) => m == n | none => false)
  else false

/-- The spindle with physical index `p` of slice `s` executes; a retired one does not (R14, R15). -/
def Block.executesAt (b : Block) (s p : Nat) : Bool :=
  let used := b.flag (R.SLC_SPARE_SPARE_USED s)
  let served := b.get (R.SLC_SPARE_SPARE_FOR s)
  if p < 64 then !(used && served == 64 * s + p) && b.executes (64 * s + p) else used && b.executes served

/-- The double buffers of a slice swap at the tick boundary (R37): consumers see the buffers filled in the tick that ended, with
the valid flags that their producers' slice controller sets. Halts and resumptions of CLC_HALT take effect (R501); the memories
of a spindle that executes are its own from now on. The spindles of a slice that is gated no more restart at a block boundary
(R438). -/
def Block.tickSlice (b : Block) (s : Nat) : Block :=
  let wakes := decide (b.tick % 25 = 0) && !b.gated s
  let halts := (List.range 64).filter (fun p => b.bit (R.CLC_HALT s (p / 16)) (p % 16))
  let resumed (p : Nat) : Bool := (b.sliceState s).halted.contains p && !halts.contains p
  let b := b.modSlice s (fun x =>
    let x := { x with asleep := x.asleep && !wakes, halted := halts, dbg := x.dbg.filter (fun e => !resumed (e.1 / 2 ^ 20)) }
    { x with shown := x.fill, fill := x.lastingInvalid s })
  let runs := ((b.sliceState s).loaded ++ (b.sliceState s).atEntry).filter (b.executesAt s)
  if runs.isEmpty then b
  else b.modSlice s (fun x => { x with
    loaded := x.loaded.filter (fun p => !runs.contains p), atEntry := x.atEntry.filter (fun p => !runs.contains p)
    sharedLoaded := false })

/-- A spindle is restarted at its tick entry point with its registers cleared and its data memory as it left it (R38). -/
def Block.restartSpindle (b : Block) (n : Nat) : Block :=
  let s := sliceOf n
  let p := if b.flag (R.SLC_SPARE_SPARE_USED s) ∧ b.get (R.SLC_SPARE_SPARE_FOR s) = n then 64 else n % 64
  b.modSlice s (fun x => { x with
    atEntry := x.atEntry.filter (fun q => q != p) ++ [p]
    dbg := x.dbg.filter (fun e => !(dbgOf p e.1 && decide (e.1 % 2 ^ 20 < 0x1000))) })

/-- A tick overrun of a logical spindle in the tick that ended, whose tag is `tag` (R38); one that was retired in that tick is
still counted (R42). -/
def Block.overrun (b : Block) (tag n : Nat) : Block :=
  let retired := match (b.sliceState (sliceOf n)).spareLoad with
    | some (m, t) => m == n && t + 1 == b.tick
    | none => false
  if (b.executes n || retired) = false then b
  else
    let s := sliceOf n
    let b := (b.invalidate n).bump (R.SLC_OVR_COUNT s)
    let b := b.stick (R.SLC_OVR_STAT s) (clusterOf n)
    let b := (b.set (R.SLC_OVR_LAST_SPINDLE s) n).set (R.SLC_OVR_LAST_TICK_TAG s) tag
    let b := b.fault 0 n
    let x := b.sliceState s
    if retired ∨ x.failed.contains (n % 64) ∨ (x.spareLoad.map Prod.fst) = some n then b else b.restartSpindle n

/-- A route of the running image carries traffic (R87, R107): a DORMANT one only while a MOVE of its reload plan is active. -/
def Block.routeLive (b : Block) (k : Nat) : Option (Nat × Nat × Nat × Nat × Bool) :=
  match b.image.run with
  | some i => match i.routes[k]? with
    | some r => if r.2.2.2.2 ∧ b.slices.all (fun e => e.2.moves.isEmpty) then none else some r
    | none => none
  | none => none

/-- What a consumer does with an invalid buffer of a route (R40), by the port it stands at: a slice's spindles take their path
for invalid input, and their slice counts it; the queue manager rewinds the route's open packet; a line front end aborts; the
time unit withholds; a DDR4 controller discards the buffer's writes. The other ports' consumers have no stated action. -/
def Block.invalidInput (b : Block) (k port : Nat) : Block :=
  match Config.portKind port with
  | .slice s => b.bump (R.SLC_UPSTREAM_INVALID s)
  | .queue => b.rewind (ctxRoute k)
  | .line p => b.abortTx (fun t => t.ports.contains p)
  | .time => { b with fabric := { b.fabric with timeInvalid := true } }
  | _ => b

/-- A fabric late delivery of a route, charged to the spindle that produced it (R39); the consumer's buffer of the tick is
marked invalid. -/
def Block.lateDelivery (b : Block) (n k : Nat) : Block :=
  match b.executes n, b.routeLive k with
  | true, some r =>
    let s := sliceOf n
    let b : Block := { b with fabric := { b.fabric with late := b.fabric.late ++ [k] } }
    let b := b.invalidInput k r.2.1
    ((b.bump (R.SLC_LATE_COUNT s)).stick (R.SLC_LATE_STAT s) (clusterOf n)).fault 1 n
  | _, _ => b

/-- The averaged idle floor of a port and band takes the mean of the unflagged samples of a slot (R198), referred to the X1 plane
through the gain and the receive gain of truing; it is held in tool rest. P3 has no Band L. `done` tells that the slot has
ended; its samples are forgotten. -/
def Block.idleFloor (b : Block) (band p : Nat) (done : Bool) : Block :=
  let c := b.chain band p
  if done = false ∨ c.idleN = 0 then b
  else
    let b := b.modChain band p (fun c => { c with idle := 0, idleN := 0 })
    if (band = 1 ∧ p = 3) ∨ b.toolRest band p then b
    else
      let mean := c.idle / c.idleN
      let gain : Rat := ((b.tru (p + 4 * band)).inForce.gainRx : Rat) / 100
      let full := ((Config.fullScaleX1 ((b.profile band p).getD 0) p : Rat)) / 256
      let m := (halfDbfs mean / 2 + full - gain) * 256
      let v : Rat := match Tab.get none b.phy.floors (2 * p + band) with
        | some old => average (b.get R.PHY_LQ_CFG_AVG_Q) old m
        | none => m
      let b : Block := { b with phy := { b.phy with floors := Tab.set none b.phy.floors (2 * p + band) (some v) } }
      let (r, b) := b.openRound (v / 128)
      b.ssat (if band = 0 then R.PHY_FLOOR_H p else R.PHY_FLOOR_L p) r

/-- One band of a port at a boundary of its delivery unit (R128–R140, R198, R260): its AGC, its samples, the floor, the idle floor,
and whether the unit was loud. `idle`: the unit lies in a QUIET slot, or in M4; `done`: that slot has ended with it. -/
def Block.bandTick (b : Block) (band p : Nat) (level : Int) (samples : List Sample) (idle done : Bool) : Block :=
  if b.receiving = false then b
  else
    let b := ((b.chainUnit band p samples idle).agcTick band p level).showFloor band p
    let b := b.idleFloor band p done
    let loud := b.unitLoud band p
    b.modAccess band (fun x => { x with overUnits := x.overUnits.modify p (fun k => if loud then k + 1 else 0) })

/-- What of the slot that the last tick lay in its idle floor needs (R198): whether it was QUIET, whether it has ended. -/
def Block.idleNow (b : Block) (was5 ended : Bool) : Bool × Bool :=
  (was5 || b.mode == 4, (was5 && ended) || (b.mode == 4 && (ended || !b.hasGrid)))

/-- One port at a tick boundary: Band H's unit is the tick, Band L's the block. -/
def Block.portTick (b : Block) (p : Nat) (o : PortObs) (quietH quietL : Bool × Bool) : Block :=
  let b := b.bandTick 0 p o.levelH o.samplesH quietH.1 quietH.2
  if b.tick % 25 = 0 then b.bandTick 1 p o.levelL o.samplesL quietL.1 quietL.2 else b.idleFloor 1 p quietL.2

/-- Carrier sense of a band at its unit boundary (R260, R427): the units in a row that found it clear. -/
def Block.noteClear (b : Block) (band : Nat) : Block :=
  let busy := b.busy band
  b.modAccess band (fun a => { a with clearUnits := if busy then 0 else a.clearUnits + 1 })

/-- The ports of an observation, from port 0 on. -/
def Block.portsTick (b : Block) (l : List PortObs) (quietH quietL : Bool × Bool) : Block :=
  let b := (b.forEach ((l.take 4).zipIdx) (fun b e => b.portTick e.2 e.1 quietH quietL)).noteClear 0
  if b.tick % 25 = 0 then b.noteClear 1 else b

/-- The temperature and the bulk voltage are shown (R460), and the bound's largest temperature change noted (R238). -/
def Block.supplyTick (b : Block) (temp : Int) (bulk : Nat) : Block :=
  let b := (b.ssat R.PWR_SUPPLY_BASE_TEMP temp).usat R.PWR_SUPPLY_BULK_V bulk
  let dev := (b.sget R.PWR_SUPPLY_BASE_TEMP - b.time.holdTemp).natAbs
  { b with time := { b.time with holdTempMax := max b.time.holdTempMax dev } }

/-- The output offsets in force follow their registers at each whole second by at most what Y_LIMIT slews in it (R213, R241);
outputs that are not driven start with the registers' values. -/
def Block.slewOutputs (b : Block) : Block :=
  let step := b.get R.TIM_LIMITS_Y_LIMIT * 1000
  let next (x t : Int) : Int := if b.flag R.TIM_STAT_OUT_ACTIVE then slewTo x t step else t
  { b with time := { b.time with
    ppsOfs := next b.time.ppsOfs (b.sget R.TIM_PPS_OUT_OFS), refOfs := next b.time.refOfs (b.sget R.TIM_REF_OUT_OFS) } }

/-- The timing outputs (R69, R240): PPS_OUT and the zero crossing of REF_OUT at a whole second less their offsets; PPS_LV, where its
PIN_PLAN entry has OE, is high from a whole second for PPS_WIDTH. -/
def Block.ppsTick (b : Block) : Block :=
  let whole := decide (b.tick % 25000 = 0)
  let on (i : Nat) : Bool := b.flag R.TIM_STAT_OUT_ACTIVE && b.bit R.TIM_OUT_CTRL i
  let b := if whole then b.slewOutputs else b
  let b := if whole && on 0 then b.emit (.pps (b.tick / 25000) (-b.time.ppsOfs)) else b
  let b := if whole && on 1 then b.emit (.refOut (b.tick / 25000) (-b.time.refOfs)) else b
  if on 2 = false then b.ppsLvOff
  else if whole then b.drive 23 true
  else if Tab.get .z b.modl.pins 23 = .high ∧ b.get R.TIM_PPS_WIDTH ≤ b.tick % 25000 * 40 then b.drive 23 false
  else b

/-- A collect slot has ended: its AGCs are released (R134, R135), but for those of a frame still running (R136). -/
def Block.collectEnd (b : Block) (wasIn : Bool) (half slot : Nat) : Block :=
  if wasIn ∧ (half ≠ b.grid.half ∨ slot ≠ b.get R.GLB_GRID_SLOT) then
    let b : Block := { b with phy := { b.phy with rx := b.phy.rx.map (fun r => { r with held := false }) } }
    b.releaseAgc 0 [0, 1, 2, 3]
  else b

/-- A run of CONTENTION slots of each band is noted from the tick in which it begins (R270). -/
def Block.noteRuns (b : Block) : Block :=
  b.forEach [0, 1] (fun b band =>
    let now := b.slotIs band 0
    b.modAccess band (fun a => { a with runFrom := if now then some (a.runFrom.getD b.tick) else none }))

/-- The age of the bound channels' samples is seen each whole second (R401). -/
def Block.ageTick (b : Block) : Block := if b.tick % 25000 = 0 then b.bindTemps else b

/-- Leases of lost nodes run down each whole second (R265, R292). -/
def Block.leaseTick (b : Block) : Block :=
  if b.tick % 25000 = 0 ∧ b.role = 0 then
    b.forEach (b.nodes.filter (fun a => b.node a 11 1 == 3)) (fun b a => b.setNode a 12 2 (b.node a 12 2 - 1))
  else b

/-- The seconds of a trial in M6 (R99). -/
def Block.trialTick (b : Block) : Block :=
  if b.mode = 6 ∧ b.flag R.IMG_STAT_RUN_TRIAL then
    let b : Block := { b with image := { b.image with trialTicks := b.image.trialTicks + 1 } }
    b.showTrial
  else b

/-- An accepted slice reset reaches its block boundary (R454). -/
def Block.holdTick (b : Block) : Block :=
  match b.power.sliceReset with
  | some r => if r.held = false ∧ r.startTick ≤ b.tick then b.holdSlice r else b
  | none => b

/-- The capture's trigger tick (R207), and a captured unit: a tick's in Band H, a block's in Band L. -/
def Block.captureTick (b : Block) (beats : Bool) : Block :=
  let b := if b.tick = b.get R.PHY_CAP_TICK_LO + 2 ^ 32 * b.get R.PHY_CAP_TICK_HI then b.captureTrigger 4 else b
  if b.get R.PHY_CAP_CTRL_BAND = 0 ∨ b.tick % 25 = 0 then b.captureChain beats else b

/-- The spindles and slices at a tick boundary (R37–R42, R110, R454, R469). -/
def Block.sliceTick (b : Block) (o : TickObs) (tag : Nat) : Block :=
  let b := b.forEach o.overruns (fun b n => b.overrun tag n)
  let b : Block := { b with fabric := { shownTag := b.fabric.fillTag, fillTag := b.tickTag } }
  let b := b.forEach (List.range 8) Block.tickSlice
  let b := b.forEach o.late (fun b e => b.lateDelivery e.1 e.2)
  let b := b.forEach ((o.invalid.take 8).zipIdx) (fun b e => b.add (R.SLC_UPSTREAM_INVALID e.2) e.1)
  let b := b.forEach (List.range 8) Block.takeDeferred
  b.holdTick

/-- TICK (R32, R34, R37–R40): a tick boundary. There is none in M0 and M9 (R31); in M1 only the counter and the time scale
run (R443). -/
def Block.tickRow (b : Block) (o : TickObs) : Block :=
  if b.mode = 0 ∨ b.mode = 9 then b
  else
    let tag := b.tickTag
    let wasIn := b.slotIs 0 3
    let was5H := b.slotIs 0 5
    let was5L := b.slotIs 1 5
    let half := b.grid.half
    let slot := b.get R.GLB_GRID_SLOT
    let b := b.advanceTick
    let b := b.setPower { b.power with resetNow := 0 }
    if b.mode = 1 then b
    else
      let b := ((b.endErased.segmentEnds.supplyTick o.baseTemp o.bulkV).showTemps o.drivers).sliceTick o tag
      let b := (b.showSlot.noteRuns.collectEnd wasIn half slot).sweepTick wasIn half
      let ended := decide (half ≠ b.grid.half ∨ slot ≠ b.get R.GLB_GRID_SLOT)
      let b := b.portsTick o.ports (b.idleNow was5H ended) (b.idleNow was5L ended)
      let b := b.abortTx (fun t => o.transmit.any (fun e => e.1 == t.frame.band && t.ports.contains e.2))
      let b := b.endTransmissions.pastSegments.captureTick o.beats
      let b := (b.showUsed.evalQuiet.showBound.showTime).ppsTick
      let b := (b.slewTick.serStart 0).serStart 1
      let b := (b.freshCandidates.joinDone).leaseTick.ageTick.trialTick
      b.showRation.updateAlert

/-- A half-cycle ends (R145, R177, R270, R277): dispersed frames on the line, frames that wait for a BLOCK_ACK and a search count
it, and with a grid the noise phase profile does. -/
def Block.countHalf (b : Block) : Block :=
  let m := b.mac
  let b : Block := { b with
    phy := { b.phy with tx := b.phy.tx.map (fun t => { t with halves := t.halves + 1 }) }
    mac := { m with
      waiting := m.waiting.map (fun w => { w with anchors := w.anchors + 1 })
      search := if b.get R.MAC_STAT_STATE = 4 then m.search + 1 else 0 } }
  if b.get R.GLB_GRID_N ≠ 0 ∧ 2 ≤ b.mode ∧ b.mode ≠ 9 then
    { b with spur := { b.spur with nppHalf := b.spur.nppHalf + 1 } }
  else b

/-- HALF_CYCLE_ANCHOR (R45, R46): the anchor, and what ends with the half-cycle before it. -/
def Block.anchorRow (b : Block) : Block :=
  let wasIn := b.slotIs 0 3
  let was5H := b.slotIs 0 5
  let was5L := b.slotIs 1 5
  let half := b.grid.half
  let slot := b.get R.GLB_GRID_SLOT
  let b := (((b.halfCycleAnchor).noteRuns.collectEnd wasIn half slot).sweepTick wasIn half).countHalf
  let ended := decide (half ≠ b.grid.half ∨ slot ≠ b.get R.GLB_GRID_SLOT)
  b.forEach [0, 1, 2, 3] (fun b p => (b.idleFloor 0 p (was5H && ended)).idleFloor 1 p (was5L && ended))

end Sys2Proof.Machine
end

