-- ==== Sys2Proof/Machine/Debug.lean ====
section
/-! DEFINITION. The slice windows (R24, R28, R497, R500–R502): which offsets are registers, the debug windows, and halting of
spindles. -/

namespace Sys2Proof.Machine

/-- An address in a slice window: the slice. -/
def sliceAt (a : Nat) : Option Nat := if 0x1000000 ≤ a ∧ a < 0x1800000 then some ((a - 0x1000000) / 0x100000) else none

/-- An address in a debug window (R24): slice, physical index of the spindle, offset. -/
def debugAt (a : Nat) : Option (Nat × Nat × Nat) :=
  match sliceAt a with
  | some s =>
    let o := a % 0x100000
    if 0x80000 ≤ o ∧ o < 0xC1000 then some (s, (o - 0x80000) / 0x1000, o % 0x1000) else none
  | none => none

/-- The conditions of R28: M10, or debug enabled for the slice. -/
def Block.debugAllowed (b : Block) (s : Nat) : Bool :=
  b.mode == 10 || (match b.image.run with | some i => i.debugSlices.testBit s | none => false)

/-- HALTED (R26, R501, R502): in M10 every spindle but the 16 of the supervisor; the spare as the logical spindle it serves. -/
def Block.dbgHalted (b : Block) (s p : Nat) : Bool :=
  let l := (b.sliceState s).halted
  (b.mode == 10 && !(s == 0 && decide (p < 16))) ||
  (if p < 64 then l.contains p
   else b.flag (R.SLC_SPARE_SPARE_USED s) && l.contains (b.get (R.SLC_SPARE_SPARE_FOR s) % 64))

/-- The offsets of a debug window (R502). -/
def debugOffset (o : Nat) : Bool :=
  o == 0 || o == 4 || decide (0x100 ≤ o ∧ o < 0x180) || decide (0x200 ≤ o ∧ o < 0x400) || o == 0x400 || o == 0x404

/-- A word of a spindle: registers gk at k, words of vk at 0x100 + 8k, the pc at 0x200, data memory from 0x1000 on. -/
def dbgKey (p w : Nat) : Nat := p * 2 ^ 20 + w

/-- The logical number of the spindle with physical index `p` of slice `s`; the spare's is the one it serves (R14). -/
def Block.logicalOf (b : Block) (s p : Nat) : Nat := if p < 64 then 64 * s + p else b.get (R.SLC_SPARE_SPARE_FOR s)

/-- What a load or a restart has put into a spindle's word, as long as the spindle has not executed since: the data memory of
the image (R100), and cleared registers at the tick entry point (R38). -/
def Block.dbgKnown (b : Block) (s p w : Nat) : Option Nat :=
  let x := b.sliceState s
  if 0x1000 ≤ w then
    match x.loaded.contains p, b.image.run with
    | true, some i => some (leAt (i.dataOf (b.logicalOf s p)) (4 * (w - 0x1000)) 4)
    | _, _ => none
  else if x.atEntry.contains p then some (if w = 0x200 then (Config.entryPoint (b.logicalOf s p)).toNat else 0)
  else none

/-- The contents of a spindle's word: what a debug window wrote or showed while it is halted, else what a load or a restart
left. A running spindle's contents are a free value at every read; a halted one's stay what they were first read as. -/
def Block.dbgWord (b : Block) (s p w width : Nat) : Nat × Block :=
  let v := Tab.get 0 (b.sliceState s).dbg (dbgKey p w)
  if b.dbgHalted s p && v != 0 then (v - 1, b)
  else if let some k := b.dbgKnown s p w then (k, b)
  else
    let (n, b) := b.fresh
    let x := Config.freeValue n % 2 ^ width
    if b.dbgHalted s p then (x, b.modSlice s (fun y => { y with dbg := Tab.set 0 y.dbg (dbgKey p w) (x + 1) })) else (x, b)

/-- Write a word of a halted spindle. -/
def Block.setDbgWord (b : Block) (s p w v : Nat) : Block :=
  b.modSlice s (fun y => { y with dbg := Tab.set 0 y.dbg (dbgKey p w) (v % 2 ^ 32 + 1) })

/-- Each access of DBG_MEM_DATA advances DBG_MEM_ADDR by 4, within 64 KiB (R502). -/
def Block.dbgAdvance (b : Block) (s p : Nat) : Block :=
  b.set (R.DBG_MEM_ADDR s p) ((b.get (R.DBG_MEM_ADDR s p) / 4 * 4 + 4) % 0x10000)

/-- A read of a debug window's register. -/
def Block.debugRead (b : Block) (s p o : Nat) : Nat × Block :=
  if o = 0 then ((if b.dbgHalted s p then 1 else 0), b)
  else if o = 4 then b.dbgWord s p 0x200 14
  else if o < 0x180 then b.dbgWord s p ((o - 0x100) / 4) 32
  else if o < 0x400 then b.dbgWord s p (0x100 + (o - 0x200) / 4) 32
  else if o = 0x400 then (b.get (R.DBG_MEM_ADDR s p) / 4 * 4, b)
  else
    let (v, b) := b.dbgWord s p (0x1000 + b.get (R.DBG_MEM_ADDR s p) / 4) 32
    (v, b.dbgAdvance s p)

/-- STEP (DEBUG_STEP, R502): one bundle of a halted spindle; its registers, pc and data memory, and the slice's shared
memory, are then free values. -/
def Block.debugStep (b : Block) (s p : Nat) : Block :=
  b.modSlice s (fun y => { y with
    dbg := y.dbg.filter (fun e => !dbgOf p e.1), loaded := y.loaded.filter (fun q => q != p)
    atEntry := y.atEntry.filter (fun q => q != p), sharedLoaded := false })

/-- A write of a debug window's register, of a halted spindle. -/
def Block.debugWrite (b : Block) (s p o v : Nat) : Block :=
  if o = 0 then (if v.testBit 1 then b.debugStep s p else b)
  else if o = 4 then b
  else if o < 0x180 then b.setDbgWord s p ((o - 0x100) / 4) v
  else if o < 0x400 then b.setDbgWord s p (0x100 + (o - 0x200) / 4) v
  else if o = 0x400 then b.set (R.DBG_MEM_ADDR s p) (v % 0x10000 / 4 * 4)
  else (b.setDbgWord s p (0x1000 + b.get (R.DBG_MEM_ADDR s p) / 4) v).dbgAdvance s p

/-- CLC_RUNNING of a cluster (R501). -/
def Block.clcRunning (b : Block) (s c : Nat) : Nat :=
  boolsToNat ((List.range 16).map (fun i => b.executes (64 * s + 16 * c + i)))

/-- CLC_HALT of a cluster, in the word at an address: its slice and cluster. -/
def haltAt (a : Nat) : Option (Nat × Nat) :=
  match sliceAt a with
  | some s => if a % 0x100000 < 0x40000 ∧ a % 0x10000 = 4 then some (s, a % 0x100000 / 0x10000) else none
  | none => none

/-- The first word's mask of W1C bits that a write of SLC_SPINDLE_FAILED clears: not those of spindles that still are failed
under R16 (R49). -/
def Block.clearFailed (b : Block) (s mask : Nat) : Block :=
  let still := ((b.sliceState s).failed.map (fun p => 2 ^ p)).foldl (· ||| ·) 0
  b.clear (R.SLC_SPINDLE_FAILED s) (mask &&& (2 ^ 64 - 1 - still))

end Sys2Proof.Machine
end

