-- ==== Sys2Proof/Machine/SecCmd.lean ====
section
/-! DEFINITION. The commands of SEC_CMD (R482, R486, R488, R491, R492). Those that write OTP answer the new OTP beside the
block. -/

namespace Sys2Proof.Machine

/-- SEC_CMD_STAT after a command: 2 done, 3 refused (R492). -/
def Block.secDone (b : Block) : Block := b.set R.SEC_CMD_STAT_STATE 2
def Block.secRefused (b : Block) : Block := b.set R.SEC_CMD_STAT_STATE 3

/-- A refused OTP change (R482). -/
def Block.otpRefused (b : Block) : Block := (b.stick R.SEC_TROUBLE_OTP_REFUSED).secRefused

/-- The staged statement's bytes. -/
def Block.secStage (b : Block) : List Byte := leBytes (b.get R.SEC_STAGE) 128

/-- The EUI-64 in statements (R482), most significant byte first. -/
def euiBytes : List Byte := beBytes ownEui 8

/-- An enrolled, unrevoked owner slot other than `except` under whose key a signature verifies. -/
def ownerSigned (o : Otp) (except : Nat) (digest sig : List Byte) : Bool :=
  (List.range 4).any (fun s => s != except && (match ownerKeyOf o s with | some k => edVerify k digest sig | none => false))

/-- ENROLL_OWNER is accepted (R482). -/
def Block.enrollOk (b : Block) (o : Otp) (slot confirm : Nat) : Bool :=
  let st := b.secStage
  let digest := sha512 (txtEnrol ++ euiBytes ++ leBytes slot 1 ++ st.take 32)
  confirm == 0xA5C3 && (o.owner.getD slot none).isNone &&
    (if o.owner.all Option.isNone then b.mode == 11 else ownerSigned o 4 digest (slice st 32 64))

/-- SEC_CMD ENROLL_OWNER (R482). -/
def enrollOwner (slot confirm : Nat) (b : Block) (o : Otp) : Block × Otp :=
  let slot := slot % 4
  if b.enrollOk o slot confirm then (b.secDone, { o with owner := o.owner.set slot (some (b.secStage.take 32)) })
  else (b.otpRefused, o)

/-- REVOKE_OWNER is accepted (R482): the signature of another unrevoked slot says at once that one remains. -/
def Block.revokeOwnerOk (b : Block) (o : Otp) (slot confirm : Nat) : Bool :=
  let digest := sha512 (txtRevoke ++ euiBytes ++ leBytes slot 1)
  confirm == 0xA5C3 && (o.owner.getD slot none).isSome && ownerSigned o slot digest (b.secStage.take 64)

/-- SEC_CMD REVOKE_OWNER (R482). -/
def revokeOwner (slot confirm : Nat) (b : Block) (o : Otp) : Block × Otp :=
  let slot := slot % 4
  if b.revokeOwnerOk o slot confirm then (b.secDone, { o with ownerRevoked := o.ownerRevoked.set slot true })
  else (b.otpRefused, o)

/-- REVOKE_VENDOR is accepted (R482). -/
def Block.revokeVendorOk (b : Block) (o : Otp) (key confirm : Nat) : Bool :=
  let digest := sha512 (txtVendor ++ euiBytes ++ leBytes key 1)
  confirm == 0xA5C3 && o.vendorRevoked.getD (1 - key) true == false &&
    edVerify (Config.vendorKey (1 - key)) digest (b.secStage.take 64)

/-- SEC_CMD REVOKE_VENDOR (R482). -/
def revokeVendor (key confirm : Nat) (b : Block) (o : Otp) : Block × Otp :=
  let key := key % 2
  if b.revokeVendorOk o key confirm then (b.secDone, { o with vendorRevoked := o.vendorRevoked.set key true })
  else (b.otpRefused, o)

/-- SEC_CMD EPOCH_ADVANCE (R486): refused except at the coordinator. -/
def Block.epochAdvance (b : Block) : Block := if b.coordinator then (b.advance none).secDone else b.secRefused

/-- The EUI-64 in SEC_STAGE (R488). -/
def Block.stagedEui (b : Block) : Nat := b.get R.SEC_STAGE % 2 ^ 64

/-- Write entry `i` of SEC_BAR. -/
def Block.setBar (b : Block) (i eui : Nat) : Block := (b.set (R.SEC_BAR_LO i) eui).set (R.SEC_BAR_HI i) (eui / 2 ^ 32)

/-- The entry of SEC_BAR that holds an EUI-64; 0 finds the first empty one. -/
def Block.barIndex (b : Block) (eui : Nat) : Option Nat :=
  (List.range 64).find? (fun i => b.get (R.SEC_BAR_LO i) + 2 ^ 32 * b.get (R.SEC_BAR_HI i) == eui)

/-- SEC_CMD BAR (R488): the entry, and an advance that leaves the node out; refused on a full list. -/
def Block.bar (b : Block) : Block :=
  let eui := b.stagedEui
  if b.coordinator = false then b.secRefused
  else if eui = 0 then b.secRefused
  else match b.barIndex eui, b.barIndex 0 with
    | some _, _ => (b.advance (some eui)).secDone
    | none, some i => ((b.setBar i eui).advance (some eui)).secDone
    | none, none => b.otpRefused

/-- SEC_CMD UNBAR (R488). -/
def Block.unbar (b : Block) : Block :=
  let eui := b.stagedEui
  if b.coordinator = false then b.secRefused
  else match b.barIndex eui with
    | some i => (b.setBar i 0).secDone
    | none => b.secDone

/-- The OTP fields of SEC_OTP (R481, R492): owner slots enrolled and revoked, vendor keys revoked. -/
def otpEnrolled (o : Otp) : Nat := boolsToNat (o.owner.map Option.isSome)
def otpOwnerRevoked (o : Otp) : Nat := boolsToNat o.ownerRevoked
def otpVendorRevoked (o : Otp) : Nat := boolsToNat o.vendorRevoked

/-- The attestation report of R491 without its signature: the segments in force, in table order. -/
def Block.attestation (b : Block) (o : Otp) : List Byte :=
  let segs := match b.image.run with | some i => i.segs | none => []
  [0x4F, 0x53, 0x41, 0x54] ++ leBytes 1 2 ++ leBytes segs.length 2 ++ leBytes ownEui 8 ++ leBytes (b.get R.SEC_NONCE) 32 ++
    leBytes (stamp96 b.now) 12 ++ leBytes (b.get R.CUS_EPOCH) 4 ++ leBytes (b.get R.IMG_RUN_DIGEST) 64 ++
    leBytes (b.get R.IMG_STAT_RUN_BANK + 4 * b.get R.IMG_STAT_RUN_MODIFIED + 8 * b.get R.IMG_STAT_RUN_TRIAL) 4 ++
    o.rollback.flatMap (fun v => leBytes v 1) ++ leBytes (otpVendorRevoked o) 1 ++
    leBytes (otpEnrolled o + 16 * otpOwnerRevoked o) 1 ++ [0, 0, 0] ++ b.ownerFpr ++ List.replicate 12 0 ++
    segs.flatMap (fun g => leBytes g.kind 1 ++ leBytes g.signer 1 ++ leBytes g.slice 1 ++ leBytes g.secVer 1 ++
      [0, 0, 0, 0] ++ g.digest)

/-- SEC_CMD ATTEST (R491): the report of this moment is being built; refused before M3 and, with ATTEST_BUSY, while one is
being built. -/
def Block.attest (b : Block) (o : Otp) : Block :=
  if b.mode < 3 then b.secRefused
  else if b.sec.report.isSome then (b.stick R.SEC_TROUBLE_ATTEST_BUSY).secRefused
  else (b.setSec { b.sec with report := some (b.attestation o) }).set R.SEC_CMD_STAT_STATE 1

/-- ATTEST_DONE (R491): the report with its signature stands in SEC_REPORT. -/
def Block.attestDone (b : Block) : Block :=
  match b.sec.report with
  | some r =>
    let l := r ++ edSign Config.deviceKey r
    let b := (b.set R.SEC_REPORT (leNum l)).set R.SEC_REPORT_LEN l.length
    (b.setSec { b.sec with report := none }).secDone
  | none => b

end Sys2Proof.Machine
end

