-- ==== Sys2Proof/Machine/Snapshot.lean ====
section
/-! DEFINITION. Network snapshots and the shadow bank (R473–R477). -/

namespace Sys2Proof.Machine

/-- Registers of 64 bits whose names do not end in _COUNT, by the address of their row. -/
def notCounters : List Nat :=
  [R.GLB_TICK, R.TRB_TAG_TICK, R.LFE_GATE_EVENT_H 0, R.LFE_GATE_EVENT_L 0, R.MAC_LAST_RESYNC, R.SLC_UPSTREAM_INVALID 0,
    R.SLC_SPINDLE_FAILED 0, R.CLC_MEM_CORR_COUNT 0 0].map (fun f => f.key / 8)

/-- A field is a statistics counter of the node-level blocks or the slice controllers (R473, R474), by its key. -/
def isCounter (k : Nat) : Bool :=
  match rowOfKey k with
  | some r => r.width == 64 && r.latched && !notCounters.contains r.addr
  | none => false

/-- Every statistics counter, as it stands, by the address of its low word (R474); a counter at 0 is not listed. -/
def Block.counters (b : Block) : Tab Nat := (b.regs.filter (fun e => isCounter e.1)).map (fun e => (e.1 / 8, e.2))

/-- TRB_SNAP_STAT follows what is scheduled. -/
def Block.showSnap (b : Block) : Block :=
  let b := b.setFlag R.TRB_SNAP_STAT_SCHEDULED (b.trouble.netSnap.isSome || b.trouble.localSnap.isSome)
  match b.trouble.netSnap with
  | some s => b.set R.TRB_SNAP_STAT_SCHED_ID s.id
  | none => b

/-- Change the trouble block. -/
def Block.setTrouble (b : Block) (t : TroubleUnit) : Block := { b with trouble := t }

/-- A snapshot is missed (R477). -/
def Block.snapMissed (b : Block) : Block := b.count R.TRB_SNAP_MISSED_COUNT R.TRB_TROUBLE_SNAP_MISSED

/-- The copy (R474): every counter, with its tag. `id` is none for a local snapshot. -/
def Block.takeSnap (b : Block) (id : Option Nat) (t : Nat) : Block :=
  let bank := b.counters
  let (free, b) := match id with
    | some i => (i, b)
    | none => let (n, b) := b.fresh; (Config.freeValue n, b)
  let b := ((b.set R.TRB_SNAP_TAG_SNAP_ID free).set R.TRB_SNAP_TAG_TIM_STATE b.timState).set R.TRB_TAG_T (stampWords t)
  let b := ((b.set R.TRB_TAG_TICK b.tick).set R.TRB_TAG_BOUND (b.get R.TIM_BOUND)).set R.TRB_TAG_EPOCH (b.get R.CUS_EPOCH)
  let b := (b.set R.TRB_SNAP_STAT_VALID 1).setFlag R.TRB_SNAP_STAT_LOCAL id.isNone
  (b.setTrouble { b.trouble with shadow := bank, taken := match id with | some i => some i | none => b.trouble.taken }).bump
    R.TRB_SNAP_COUNT

/-- The nominal start of the current tick in 2⁻¹⁶ ns (R32, R474): its number's instant once the grid is aligned. -/
def Block.tickStart (b : Block) : Nat := if b.flag R.GLB_TICK_STAT_GRID_ALIGNED then b.tick * tickLen else b.now

/-- The modes in which a snapshot is missed (R477). -/
def Block.snapBlind (b : Block) : Bool := b.mode == 0 || b.mode == 1 || b.mode == 2 || b.mode == 9

/-- One scheduled snapshot at the boundary that ends the current tick: taken when its target lies in the tick, missed
when the target has passed or in the modes of R477; else it stays. In M9 no tick passes, and the event itself says that the
tick of the target has come. -/
def Block.runSnap (b : Block) (s : SnapSched) (net : Bool) : Option SnapSched × Block :=
  if b.mode ≠ 9 ∧ b.tickStart + tickLen ≤ s.t then (some s, b)
  else if b.snapBlind ∨ (s.t ≠ 0 ∧ s.t < b.tickStart) then (none, b.snapMissed)
  else (none, b.takeSnap (if net then some s.id else none) s.t)

/-- SNAPSHOT_TAKE (R474, R477). -/
def Block.snapshotTake (b : Block) : Block :=
  if b.mode = 0 then b
  else
  let b := match b.trouble.netSnap with
    | some s =>
      let (r, b) := b.runSnap s true
      b.setTrouble { b.trouble with netSnap := r }
    | none => b
  let b := match b.trouble.localSnap with
    | some s =>
      let (r, b) := b.runSnap s false
      b.setTrouble { b.trouble with localSnap := r }
    | none => b
  b.showSnap

/-- TRB_SNAP_CMD.LOCAL (R474, R477): at TRB_SNAP_T, or at the end of the current tick. -/
def Block.snapLocal (b : Block) : Block :=
  let t := unstampWords (b.get R.TRB_SNAP_T)
  if t ≠ 0 ∧ t < b.tickStart then b.snapMissed
  else (b.setTrouble { b.trouble with localSnap := some { id := 0, t := t } }).showSnap

/-- A network snapshot is scheduled, replacing another (R477). -/
def Block.schedSnap (b : Block) (id t : Nat) : Block :=
  if b.trouble.taken = some id ∨ b.trouble.netSnap.map (fun s => s.id) = some id then b
  else if t ≠ 0 ∧ t < b.tickStart then b.snapMissed
  else (b.setTrouble { b.trouble with netSnap := some { id := id, t := t } }).showSnap

/-- Two beacon periods in 2⁻¹⁶ ns. -/
def Block.twoPeriods (b : Block) : Nat :=
  match b.grid.cur with | some g => 2 * b.get R.MAC_GRID_BP_CYCLES * g.t | none => 0

/-- TRB_SNAP_CMD.NETWORK (R476): at the coordinator, with a target at least two beacon periods away. -/
def Block.snapNetwork (b : Block) : Block :=
  let t := unstampWords (b.get R.TRB_SNAP_T)
  if b.coordinator = false ∨ t < b.now + b.twoPeriods ∨ t = 0 then b.stick R.TRB_TROUBLE_SNAP_REFUSED
  else
    let id := (b.trouble.snapId + 1) % 65536
    let b := b.setTrouble { b.trouble with snapId := id }
    let b := b.sendCommand 0x21 0xFFFF (leBytes id 2 ++ [0, 0] ++ leBytes (stamp96 t) 12)
    b.schedSnap id t

/-- SNAPSHOT at a node (R476, R477). -/
def Block.snapshotRx (b : Block) : Block :=
  match b.takeCommand 0x21 with
  | none => b
  | some (m, b) =>
    if m.body.length ≠ 16 then b
    else if stamp96Ok (leAt m.body 4 12) = false then b.bump R.TRB_UNDEF_COUNT
    else b.schedSnap (leAt m.body 0 2) (unstamp96 (leAt m.body 4 12))

/-- The view of TRB_SHD_ADDR (R475): the shadow value of the named counter, and NOT_COUNTER. -/
def Block.shadowView (b : Block) (addr : Nat) : List (Nat × Nat) :=
  let ok := isCounter (8 * addr)
  let v := if ok then Tab.get 0 b.trouble.shadow addr else 0
  [(0x20034, v % 2 ^ 32), (0x20038, v / 2 ^ 32), (0x2003C, if ok then 0 else 1)]

end Sys2Proof.Machine
end

