-- ==== Sys2Proof/Machine/Views.lean ====
section
/-! DEFINITION. The views that a select register latches (R498): queues (R344), custody channels (R385), calibration records
(R250), link quality (R208), duplicate records (R288), shadow counters (R475), fault classes (R478) and truing blocks
(R436). A view is a list of words: byte address and value. -/

namespace Sys2Proof.Machine

/-- The low and the high word of a 64-bit value at `a`. -/
def twoWords (a v : Nat) : List (Nat × Nat) := [(a, v % 2 ^ 32), (a + 4, v / 2 ^ 32 % 2 ^ 32)]

/-- The four words of a time (R209). -/
def fourWords (a v : Nat) : List (Nat × Nat) := (List.range 4).map (fun i => (a + 4 * i, v / 2 ^ (32 * i) % 2 ^ 32))

/-- A truth value as a bit. -/
def bitOf (v : Bool) : Nat := if v then 1 else 0

/-- STATE of QMG_Q_STATE (R344). -/
def Queue.stateCode (q : Queue) : Nat := if q.absent then 0 else if q.refill then 2 else if q.flushPending then 3 else 1

/-- The queue view and the per-queue counters (R344). -/
def Block.queueView (b : Block) (n : Nat) : List (Nat × Nat) :=
  let q := b.q n
  [(0xA0014, bitOf q.bulk + 2 * bitOf q.assured + 4 * bitOf q.ptrDup + 8 * bitOf q.wordEcc + 16 * bitOf q.hold + 32 * bitOf q.pend +
      64 * bitOf (!q.absent) + 256 * q.failMax + 65536 * q.journal),
   (0xA0018, q.capacity), (0xA001C, q.thresh), (0xA0020, b.fill n), (0xA0024, q.pkts.length),
   (0xA0028, q.stateCode + 4 * bitOf q.headHeld + 8 * min q.headFails 255)] ++
  twoWords 0xA0030 q.lost ++ twoWords 0xA0038 q.refused ++ twoWords 0xA0040 q.rewound ++ twoWords 0xA0048 q.corrected

/-- The channel view (R385). -/
def Block.chanView (b : Block) (c : Nat) : List (Nat × Nat) :=
  let x := b.cus c
  [(0xB0044, x.peer + 65536 * (x.peerChan % 1024) + 2 ^ 26 * bitOf x.present + 2 ^ 27 * b.chanState c),
   (0xB0048, x.accepted), (0xB004C, x.receipted), (0xB0050, x.journalled), (0xB0054, x.hostAcked), (0xB0058, x.txUsed),
   (0xB005C, x.rxUsed), (0xB0060, x.peerSeq), (0xB0064, x.peerCredit)]

/-- D_MODEL (R231, R250) in ps: with the last valid T; 0 with MODE OFF, and where no T has been valid yet. -/
def CalRec.modelPs (c : CalRec) : Rat :=
  match c.temp with
  | some t => if c.mode = 0 then 0 else (c.d0 : Rat) * (1 + (c.alpha : Rat) / 1000000000 * ((t - c.t0 : Int) : Rat) / 100)
  | none => 0

/-- The calibration record view (R250); the fields of an unused record read 0. -/
def Block.calView (b : Block) (i : Nat) : List (Nat × Nat) × Block :=
  let c := b.calRec i
  let words := (List.range 18).map (fun k => 0x40104 + 4 * k)
  if c.inUse = false then ((0x40100, 0) :: words.map (fun a => (a, 0)), b)
  else
    let (m, b) := b.openRound c.modelPs
    ([(0x40100, 0x100)] ++ twoWords 0x40104 c.peer ++
     [(0x4010C, c.port + 4 * c.band + 8 * c.mode), (0x40110, c.d0), (0x40114, unsext 32 c.alpha), (0x40118, unsext 16 c.t0),
      (0x4011C, unsext 32 c.asym), (0x40120, c.asymUnc), (0x40124, c.dMeas), (0x40128, m.toNat % 2 ^ 32),
      (0x4012C, unsext 32 c.residMean), (0x40130, c.residSd), (0x40134, c.sigma), (0x40138, c.crb),
      (0x4013C, c.eff + 2 ^ 16 * bitOf c.multi + 2 ^ 17 * bitOf c.stale + 2 ^ 18 * bitOf c.tInvalid), (0x40140, c.jitter),
      (0x40144, c.uLink), (0x40148, c.fpOffset + 2 ^ 16 * (c.paths % 16))], b)

/-- The link-quality view (R208): [15:0] ADDR and [16] BAND of PHY_LQ_PEER. -/
def Block.lqView (b : Block) (sel : Nat) : List (Nat × Nat) × Block :=
  let a := sel % 65536
  let band := sel / 65536 % 2
  if b.hasNode a = false then
    ([(0x70184, 0x80008000), (0x70188, 2 ^ 28 + 0x80 * 2 ^ 20), (0x7018C, 0x00FFFFFF), (0x70190, 0)], b)
  else
    let r := b.link a band
    let margin := match r.margin band with
      | some m => unsext 16 (max (-32767) (min 32767 m))
      | none => 0x8000
    let cap := r.capacity
    let (bler, b) := b.openRound (r.bler * 256)
    ([(0x70184, b.snrField a band + 65536 * margin),
      (0x70188, b.peerMode a band + 2 ^ 16 * (b.ladderIdx a band % 16) + 2 ^ 20 * (r.remote % 256) + 2 ^ 29 * bitOf (r.stale || b.linkStale a band)),
      (0x7018C, cap.1 + 2 ^ 16 * cap.2 + 2 ^ 24 * min 255 bler.toNat), (0x70190, min 255 r.epsMax)], b)

/-- The duplicate record view (R288): [15:0] ADDR and [16] CLASS of MAC_PEER_SEL. -/
def Block.peerView (b : Block) (sel : Nat) : List (Nat × Nat) :=
  let a := sel % 65536
  let r := recAt a (sel / 65536 % 2)
  let flags := b.tab (r + 20) 1
  if b.tab (peerAt a) 2 = a ∧ flags.testBit 4 then
    [(0x80084, b.tab r 4), (0x80088, b.tab (r + 4) 4), (0x8008C, b.tab (r + 8) 4),
     (0x80090, flags % 16 + 16 * bitOf (flags.testBit 5))]
  else [(0x80084, 0), (0x80088, 0), (0x8008C, 0), (0x80090, 32)]

/-- TRB_CLASS_WINDOW and TRB_CLASS_THRESH of a class (R478). -/
def Block.classView (b : Block) (c : Nat) : List (Nat × Nat) :=
  [(0x20020, b.trouble.clsWindow.getD c 0), (0x20024, b.trouble.clsThresh.getD c 0)]

/-- The delay of a block still to be applied (R430, R436): of its two corrections, the one further from its target. -/
def TruBlock.pendingSlew (t : TruBlock) : Int :=
  let tx := t.target.txDelay - t.inForce.txDelay
  let rx := t.target.rxDelay - t.inForce.rxDelay
  if rx.natAbs < tx.natAbs then tx else rx

/-- The truing block view (R436). -/
def Block.truView (b : Block) (i : Nat) : List (Nat × Nat) :=
  let t := b.tru i
  let s := t.inForce
  let port := decide (i < 8)
  [(0xE0034, t.count)] ++ fourWords 0xE0038 t.lastTime ++
  [(0xE0048, if port then unsext 32 s.txDelay else 0), (0xE004C, if i < 10 then unsext 32 s.rxDelay else 0),
   (0xE0050, unsext 32 t.pendingSlew),
   (0xE0054, if port then unsext 16 s.gainRx + 65536 * unsext 16 s.gainTx else 0),
   (0xE0058, if port then unsext 16 s.ampl else 0), (0xE005C, unsext 8 (t.temp / 10) + 256 * bitOf t.stale)]

/-- The select registers by address. -/
def selects : List Nat := [0xA0010, 0xB0040, 0x40100, 0x70180, 0x80080, 0x20030, 0x2001C, 0xE0030]

/-- The words of a select register's view. -/
def viewRange (sel : Nat) : List Nat :=
  if sel = 0xA0010 then [0xA0014, 0xA0018, 0xA001C, 0xA0020, 0xA0024, 0xA0028, 0xA0030, 0xA0034, 0xA0038, 0xA003C, 0xA0040, 0xA0044,
    0xA0048, 0xA004C]
  else if sel = 0xB0040 then (List.range 9).map (fun i => 0xB0044 + 4 * i)
  else if sel = 0x40100 then (List.range 18).map (fun i => 0x40104 + 4 * i)
  else if sel = 0x70180 then (List.range 4).map (fun i => 0x70184 + 4 * i)
  else if sel = 0x80080 then (List.range 4).map (fun i => 0x80084 + 4 * i)
  else if sel = 0x20030 then (List.range 3).map (fun i => 0x20034 + 4 * i)
  else if sel = 0x2001C then [0x20020, 0x20024]
  else if sel = 0xE0030 then (List.range 11).map (fun i => 0xE0034 + 4 * i)
  else []

/-- The select register whose view a word belongs to. -/
def viewOf (a : Nat) : Option Nat := selects.find? (fun s => (viewRange s).contains a)

/-- The view that a value of a select register names. -/
def Block.viewWords (b : Block) (sel v : Nat) : List (Nat × Nat) × Block :=
  if sel = 0xA0010 then (b.queueView (v % 4096), b)
  else if sel = 0xB0040 then (b.chanView (v % 2048), b)
  else if sel = 0x40100 then b.calView (v % 256)
  else if sel = 0x70180 then b.lqView v
  else if sel = 0x80080 then (b.peerView v, b)
  else if sel = 0x20030 then (b.shadowView v, b)
  else if sel = 0x2001C then (b.classView (v % 8), b)
  else if sel = 0xE0030 then (b.truView (v % 16), b)
  else ([], b)

/-- A path latches a view (R498): each word is kept with 1 added, so that 0 says that nothing was latched. -/
def Block.latchView (b : Block) (p : Path) (sel v : Nat) : Block :=
  let (l, b) := b.viewWords sel v
  (b.forEach l (fun b e => b.setLatch p e.1 (e.2 % 2 ^ 32 + 1))).setLatch p (sel + 1) (v + 1)

/-- What a path has selected: 0 where it has written the select register of that view at no time since the reset. -/
def Block.selected (b : Block) (p : Path) (sel : Nat) : Nat := Tab.get 0 (b.latch p) (sel + 1) - 1

/-- What a view word reads before its path has written the select register: the Reset columns; entry 0 of the queues and
of the fault classes. -/
def Block.viewReset (b : Block) (a : Nat) : Nat :=
  match ((b.queueView 0 ++ b.classView 0).find? (fun e => e.1 = a)) with
  | some e => e.2
  | none =>
    if a = 0x70184 then 0x80008000 else if a = 0x70188 then 0x80 * 2 ^ 20 else if a = 0x7018C then 0x00FFFFFF else 0

/-- What a path reads of a view word. -/
def Block.viewRead (b : Block) (p : Path) (a : Nat) : Nat :=
  let l := Tab.get 0 (b.latch p) a
  if l = 0 then b.viewReset a else l - 1

/-- A write of a select register: the register holds the value, and the path's view is latched. -/
def Block.selectWrite (b : Block) (p : Path) (sel v : Nat) : Block := (b.storeWord sel v).latchView p sel v

/-- Set the settings of a fault class (R472, R478). -/
def Block.setClass (b : Block) (c : Nat) (word v : Nat) : Block :=
  if word = 0x20020 then b.setTrouble { b.trouble with clsWindow := b.trouble.clsWindow.set c v }
  else b.setTrouble { b.trouble with clsThresh := b.trouble.clsThresh.set c (v % 65536) }

/-- A write of a calibration record's field (R232, R234, R250); it reaches NAND with it. A seeded fit restarts. -/
def Block.writeCal (b : Block) (i a v : Nat) : Block :=
  let put (f : CalRec → CalRec) : Block :=
    let b := b.modCal i f
    { b with time := { b.time with calSaved := Tab.modify {} b.time.calSaved i (fun s => f { s with
        inUse := true, peer := (b.calRec i).peer, port := (b.calRec i).port, band := (b.calRec i).band }) } }
  if (b.calRec i).inUse = false then b
  else if a = 0x4010C then put (fun c => { c with mode := v / 8 % 4 })
  else if a = 0x40110 then put (fun c => if c.mode = 1 then { c with d0 := v, samples := [] } else { c with d0 := v })
  else if a = 0x40114 then put (fun c => { c with alpha := sext 32 v })
  else if a = 0x40118 then put (fun c => { c with t0 := sext 16 v })
  else if a = 0x4011C then put (fun c => { c with asym := sext 32 v })
  else if a = 0x40120 then put (fun c => { c with asymUnc := v })
  else b

/-- A write of a view word: the RW ones change the entry that the path has selected, and show at once in its view. -/
def Block.viewWrite (b : Block) (p : Path) (a v : Nat) : Block :=
  if a = 0xA001C then
    let n := b.selected p 0xA0010 % 4096
    (b.modQ n (fun q => { q with thresh := v % 2 ^ 27 })).setLatch p a (v % 2 ^ 27 + 1)
  else if a = 0x20020 ∨ a = 0x20024 then
    (b.setClass (b.selected p 0x2001C) a v).setLatch p a ((if a = 0x20020 then v else v % 65536) + 1)
  else if 0x4010C ≤ a ∧ a ≤ 0x40120 then
    let i := b.selected p 0x40100 % 256
    let b := b.writeCal i a v
    let (l, _) := b.calView i
    match l.find? (fun e => e.1 = a) with
    | some e => b.setLatch p a (e.2 + 1)
    | none => b
  else b

end Sys2Proof.Machine
end

