-- ==== Sys2Proof/Machine/Bus.lean ====
section
/-! DEFINITION. The register interface (R6, R8, R494–R504): what a read of a word gives and does, and what a write does.
Every access is one of 32 bits at an address with bits [1:0] at 0 (R495). -/

namespace Sys2Proof.Machine

/-- The undefined-access counter that owns an address (R6, R496). -/
def ownerCounter (a : Nat) : Field :=
  if a < 0x100000 then
    match a / 0x10000 with
    | 1 => R.PWR_UNDEF_COUNT
    | 2 => R.TRB_UNDEF_COUNT
    | 4 => R.TIM_UNDEF_COUNT
    | 5 => R.SPR_UNDEF_COUNT
    | 6 => R.LFE_UNDEF_COUNT
    | 7 => R.PHY_UNDEF_COUNT
    | 8 => R.MAC_UNDEF_COUNT
    | 9 => R.MSH_UNDEF_COUNT
    | 10 => R.QMG_UNDEF_COUNT
    | 11 => R.CUS_UNDEF_COUNT
    | 12 => R.SEN_UNDEF_COUNT
    | 13 => R.SER_UNDEF_COUNT (if a / 0x1000 = 0xD1 then 1 else 0)
    | 14 => R.TRU_UNDEF_COUNT
    | 15 => R.SEC_UNDEF_COUNT
    | _ => R.GLB_UNDEF_COUNT
  else match sliceAt a with
    | some s => R.SLC_UNDEF_COUNT s
    | none => if 0x40000000 ≤ a ∧ a < 0x40800000 then R.MSH_UNDEF_COUNT else R.GLB_UNDEF_COUNT

/-- An access to reserved space is counted (R6, R496). -/
def Block.undefined (b : Block) (a : Nat) : Block := b.bump (ownerCounter a)

/-- A register of a gated slice is accessed (R497). -/
def Block.gatedAt (b : Block) (a : Nat) : Bool :=
  match sliceAt a with
  | some s => b.gated s
  | none => false

/-- An address in the table window (R296, R504). -/
def tableAt (a : Nat) : Bool := decide (0x40000000 ≤ a ∧ a < 0x40800000)

/-- A table or an image-defined table lies at a word of the table window (R296, R316, R504). -/
def Block.tableListed (b : Block) (a : Nat) : Bool :=
  decide (a < 0x40680000) ||
    (userTables b.tableInit).any (fun t => decide (0x40680000 + t.1 ≤ a ∧ a + 4 ≤ 0x40680000 + t.2.1))

/-- The registers whose value the module, its OTP or the chuck fixes (R84, R94, R480, R481, R499). -/
def constWord (o : Otp) (a : Nat) : Option Nat :=
  if a = 0 then some 0x5120
  else if a = 4 then some (Config.asicStep % 256 + 256 * (Config.build % 256))
  else if a = 8 then some (Config.chuckVer % 65536)
  else if a = 0x8000C then some (ownEui % 2 ^ 32)
  else if a = 0x80010 then some (ownEui / 2 ^ 32)
  else if a = 0x30088 then some (leNum (o.rollback.map (BitVec.ofNat 8)))
  else if a = 0xF0014 then some (otpEnrolled o + 16 * otpOwnerRevoked o + 256 * otpVendorRevoked o)
  else if 0xF0100 ≤ a ∧ a < 0xF0180 then some (leAt Config.certificate (a - 0xF0100) 4)
  else none

/-- A listed offset (R6, R503) outside the debug windows and the table window. -/
def listed (o : Otp) (a : Nat) : Bool := (constWord o a).isSome || (viewOf a).isSome || !(wordFields a).isEmpty

/-- The registers that show other state as it is now: TIM_NOW, what the queue manager and custody have in work, CLC_RUNNING. -/
def Block.live (b : Block) (a : Nat) : Block :=
  if 0x40010 ≤ a ∧ a < 0x40020 then b.set R.TIM_NOW (stampWords b.now)
  else if a = 0xA0000 then b.showRefilling.setFlag R.QMG_STAT_THR_ANY (b.get R.QMG_THR_STAT != 0)
  else if a = 0xB0000 then
    b.setFlag R.CUS_STAT_RESTORE_BUSY (b.flag R.CUS_STAT_RESTORE_BUSY || b.queue.queues.any (fun e => e.2.refill))
  else if a = 0xA0060 then
    b.set R.QMG_FAST_USED ((b.queue.queues.map (fun e => if e.2.bulk then 0 else b.fill e.1)).sum)
  else if a = 0xA0064 then
    b.set R.QMG_BULK_USED ((b.queue.queues.map (fun e => if e.2.bulk then b.fill e.1 else 0)).sum)
  else match sliceAt a with
    | some s =>
      if a % 0x100000 < 0x40000 ∧ a % 0x10000 = 0 then
        b.set (R.CLC_RUNNING s (a % 0x100000 / 0x10000)) (b.clcRunning s (a % 0x100000 / 0x10000))
      else b
    | none => b

/-- What a path reads of a listed word. -/
def Block.listedValue (b : Block) (o : Otp) (p : Path) (a : Nat) : Nat :=
  match constWord o a, viewOf a with
  | some v, _ => v
  | none, some _ => b.viewRead p a
  | none, none =>
    if (latchedBy a).isSome then Tab.get 0 (b.latch p) a
    else if a = 0x40100 then b.wordValue a ||| (Tab.get 0 (b.latch p) a - 1)
    else if a = 0x80050 ∧ b.coordinator = false then 0
    else if a = 0xF0010 ∧ b.coordinator = false then b.wordValue a / 2 * 2
    else (b.live a).wordValue a

/-- What a read of a listed word does beside: latches, and the two steps of RSC (R8). -/
def Block.readEffect (b : Block) (p : Path) (a : Nat) : Block :=
  let b := b.latchFrom p a (b.live a)
  if a = 0xD0020 then b.serStatRead 0
  else if a = 0xD1020 then b.serStatRead 1
  else if a = 0xD0024 then b.serDataRead 0
  else if a = 0xD1024 then b.serDataRead 1
  else b

/-- A debug window is read (R28, R497, R502). -/
def Block.debugAccess (b : Block) (a s p off : Nat) (act : Block → Nat × Block) : Nat × Block :=
  if b.debugAllowed s = false then (0, b.undefined a)
  else if (b.sliceState s).held then (0, b)
  else if p ≤ 64 ∧ debugOffset off then act b
  else (0, b.undefined a)

/-- A read access: the value, and the block after it. -/
def Block.busRead (b : Block) (o : Otp) (p : Path) (a : Nat) : Nat × Block :=
  if a % 4 ≠ 0 then (0, b.undefined a)
  else if b.gatedAt a then (0, b.bump R.GLB_UNDEF_COUNT)
  else if tableAt a then (if b.tableListed a then (b.tab a 4, b) else (0, b.undefined a))
  else match debugAt a with
    | some (s, q, off) => b.debugAccess a s q off (fun b => b.debugRead s q off)
    | none => if listed o a then (b.listedValue o p a, b.readEffect p a) else (0, b.undefined a)

/-- IMG_CMD (R102). -/
def imgCmd (code slice : Nat) (b : Block) (o : Otp) : Block × Otp :=
  match code with
  | 0 => (b.imgNop, o)
  | 1 => (b.verifyStaged, o)
  | 2 => (b.writeBank, o)
  | 3 => (b.armTrial, o)
  | 4 => (b.confirmCmd, o)
  | 5 => rollbackCommit b o
  | 6 => (b.sliceReload slice, o)
  | 7 => (b.goldenWrite, o)
  | 8 => (b.abortCmd, o)
  | _ => (b.imgReserved, o)

/-- SEC_CMD (R492). -/
def secCmd (code slot confirm : Nat) (b : Block) (o : Otp) : Block × Otp :=
  match code with
  | 0 => (b, o)
  | 1 => (b.attest o, o)
  | 2 => enrollOwner slot confirm b o
  | 3 => revokeOwner slot confirm b o
  | 4 => revokeVendor slot confirm b o
  | 5 => (b.epochAdvance, o)
  | 6 => (b.bar, o)
  | 7 => (b.unbar, o)
  | _ => (b.secRefused.bump R.SEC_UNDEF_COUNT, o)

/-- PWR_CMD (R455, R460). -/
def Block.pwrCmd (b : Block) (v : Nat) : Block :=
  if bits v 16 16 ≠ 0xA5C3 then b.badConfirm
  else match v % 16 with
    | 0 => b
    | 1 => b.resetTo2 3
    | 2 => b.sliceReset (bits v 4 3)
    | _ => b.bump R.PWR_UNDEF_COUNT

/-- TIM_CMD (R250). -/
def Block.timCmd (b : Block) (code : Nat) : Block :=
  match code with
  | 0 => b
  | 1 => b.stepCmd
  | 2 => b.calSave
  | _ => b.bump R.TIM_UNDEF_COUNT

/-- QMG_CMD (R344). -/
def Block.qmgCmd (b : Block) (code n : Nat) : Block :=
  match code with
  | 0 => b
  | 1 => b.flushCmd n
  | 2 => b.forceResetCmd n
  | _ => (b.set R.QMG_CMD_STAT_REFUSED 1).bump R.QMG_UNDEF_COUNT

/-- SEN_CMD (R404); the impedance that an on-demand check measures is a free value. -/
def Block.senCmd (b : Block) (code chan : Nat) : Block :=
  match code with
  | 0 => b
  | 1 =>
    let (n, b) := b.fresh
    b.impCheckCmd chan (Config.freeValue n % 65536)
  | 2 => b.restartScan
  | _ => b.bump R.SEN_UNDEF_COUNT

/-- TRU_CMD (R425, R436). -/
def Block.truCmdRow (b : Block) (mask : Nat) : Block :=
  match b.truCmd mask with
  | some b => b
  | none => b

/-- TRB_SNAP_CMD (R474, R476). -/
def Block.snapCmd (b : Block) (v : Nat) : Block :=
  let b := if v.testBit 0 then b.snapLocal else b
  if v.testBit 1 then b.snapNetwork else b

/-- PHY_CAP_CTRL (R207, R208). -/
def Block.capCtrl (b : Block) (v : Nat) : Block :=
  let b := b.storeWord 0x701C0 v
  let b := if v.testBit 7 then b.captureEnd false else b
  if v.testBit 6 then b.captureArm else b

/-- The command registers of the node: those whose write acts beyond the register. -/
def Block.cmdWrite (b : Block) (a v : Nat) : Block :=
  if a = 0x10008 then b.requestMode (v % 16) false
  else if a = 0x1000C then b.pwrCmd v
  else if a = 0x20010 then b.portReturn (v % 16)
  else if a = 0x20014 then b.ddrUnmark (v % 2 ^ 32)
  else if a = 0x20018 then b.ddrUnmark (v % 16 * 2 ^ 32)
  else if a = 0x20040 then b.snapCmd v
  else if a = 0x30014 then (b.storeWord a v).showTrial
  else if a = 0x30030 then b.set R.IMG_STAGE_OFFSET (v / 4 * 4)
  else if a = 0x30034 then b.stageData v
  else if a = 0x40008 then b.timCmd (v % 16)
  else if a = 0x40058 then
    let b := b.storeWord a v
    if b.outputsOk then b else b.outputsOff
  else if a = 0x40070 then
    let b := b.storeWord a v
    if b.coordinator ∧ b.timState ≠ 0 then b.sourceBound else b
  else if a = 0x40074 then b.armLabel v
  else if a = 0x4007C then (if b.coordinator then b.storeWord a v else b)
  else if a = 0x50034 then nppCtrlWrite v b
  else if a = 0x701C0 then b.capCtrl v
  else if 0x80028 ≤ a ∧ a < 0x80038 then (b.storeWord a v).evalQuiet
  else if a = 0x80050 then (if b.coordinator then b.storeWord a v else b)
  else if a = 0x90034 then (if v.testBit 16 then b.sweepStart v else b.storeWord a v)
  else if a = 0xA0008 then b.qmgCmd (bits v 12 4) (v % 4096)
  else if a = 0xC0008 then b.senCmd (v % 16) (bits v 4 3)
  else if a = 0xE0008 then b.truCmdRow v
  else b

/-- The addresses of `cmdWrite`. -/
def cmdWords : List Nat :=
  [0x10008, 0x1000C, 0x20010, 0x20014, 0x20018, 0x20040, 0x30014, 0x30030, 0x30034, 0x40008, 0x40058, 0x40070, 0x40074, 0x4007C,
   0x50034, 0x701C0, 0x80028, 0x8002C, 0x80030, 0x80034, 0x80050, 0x90034, 0xA0008, 0xC0008, 0xE0008]

/-- The other words whose write is more than the access codes say: gates with reserved bits (R147), notches (R127), serial
ports (R414), SEC_CFG.MIC16 (R492), SEN_CH_CTRL (R402), SLC_SPINDLE_FAILED (R49). -/
def Block.plainWrite (b : Block) (a v : Nat) : Block :=
  let off := a % 0x1000
  if 0x60000 ≤ a ∧ a < 0x64000 ∧ (off = 0x18 ∨ off = 0x1C) then b.storeWord a (v % 2 ^ 26)
  else if 0x64100 ≤ a ∧ a < 0x64200 then
    (if a % 8 = 0 then (if b.flag (R.LFE_NOTCH_LOCKED ((a - 0x64100) / 8)) then b else b.notchWord ((a - 0x64100) / 8) v)
     else b.notchWrite ((a - 0x64100) / 8) v)
  else if 0xD0000 ≤ a ∧ a < 0xD2000 then
    (if off = 0x28 then b.serTxd ((a - 0xD0000) / 0x1000) v
     else ((if off = 0 then b.serKeepFormat ((a - 0xD0000) / 0x1000) else b).storeWord a v).serStart ((a - 0xD0000) / 0x1000))
  else if a = 0xF0010 ∧ b.coordinator = false then b.storeWord a (v / 2 * 2 + b.get R.SEC_CFG_MIC16)
  else if 0xC0020 ≤ a ∧ a < 0xC0040 then
    let b := b.storeWord a v
    if b.sensor.chan = some ((a - 0xC0020) / 4) then b.setSensor { b.sensor with written := true } else b
  else match sliceAt a with
    | some s =>
      if a % 0x100000 = 0x40020 then b.clearFailed s (v % 2 ^ 32)
      else if a % 0x100000 = 0x40024 then b.clearFailed s (v % 2 ^ 32 * 2 ^ 32)
      else b.storeWord a v
    | none => b.storeWord a v

/-- A listed word is written: a refused write leaves the register unchanged (R5). -/
def Block.listedWrite (b : Block) (p : Path) (a v : Nat) : Block :=
  if b.writeOk a v = false then (if reservedCode a v then b.undefined a else b)
  else if cmdWords.contains a then b.cmdWrite a v
  else if selects.contains a then b.selectWrite p a v
  else if (viewOf a).isSome then b.viewWrite p a v
  else b.plainWrite a v

/-- A write of the table window (R296, R504): in M10 only, into a table. -/
def Block.tableWrite (b : Block) (a v : Nat) : Block :=
  if b.mode = 10 ∧ b.tableListed a then (b.setTab a 4 v).showMesh else b.undefined a

/-- CLC_HALT is written (R28, R501). -/
def Block.haltWrite (b : Block) (a s c v : Nat) : Block :=
  if b.debugAllowed s then b.set (R.CLC_HALT s c) v else b.undefined a

/-- A write access. -/
def busWrite (p : Path) (a v : Nat) (b : Block) (o : Otp) : Block × Otp :=
  if a % 4 ≠ 0 then (b.undefined a, o)
  else if b.gatedAt a then (b.bump R.GLB_UNDEF_COUNT, o)
  else if tableAt a then (b.tableWrite a v, o)
  else match debugAt a with
    | some (s, q, off) =>
      ((b.debugAccess a s q off (fun b =>
        if b.dbgHalted s q then (0, b.debugWrite s q off v) else (0, b.undefined a))).2, o)
    | none =>
      match haltAt a with
      | some (s, c) => (b.haltWrite a s c v, o)
      | none =>
        if a = 0x30004 then imgCmd (v % 256) (bits v 8 3) b o
        else if a = 0xF0008 then secCmd (v % 16) (bits v 4 2) (bits v 16 16) b o
        else if listed o a then (b.listedWrite p a v, o)
        else (b.undefined a, o)

/-- A command code that its table calls refused (R5). -/
def refusedCode (a v : Nat) : Bool :=
  (a == 0x1000C && decide (3 ≤ v % 16)) || (a == 0x40008 && decide (3 ≤ v % 16)) || (a == 0xA0008 && decide (3 ≤ bits v 12 4)) ||
  (a == 0xC0008 && decide (3 ≤ v % 16)) || (a == 0xF0008 && decide (8 ≤ v % 16))

/-- Staging writes are refused while the staging area is being read (R104). -/
def Block.staging (b : Block) : Bool :=
  match b.image.job with
  | .verify => false
  | .reloadPending _ _ => false
  | .reloadRunning _ _ _ => false
  | _ => true

/-- A write that the register's own table refuses: the status of a register-channel WRITE (R376). -/
def Block.writeRefused (b : Block) (a v : Nat) : Bool :=
  let v := v % 2 ^ 32
  !b.writeOk a v || refusedCode a v || (a == 0x50034 && decide (11 ≤ v % 16)) ||
  (a == 0x90034 && v.testBit 16 && !b.coordinator) || (a == 0x20040 && v.testBit 1 && !b.coordinator) ||
  (a == 0xE0008 && (b.truCmd v).isNone) || (a == 0xF0008 && decide (5 ≤ v % 16 ∧ v % 16 ≤ 7) && !b.coordinator) ||
  (a == 0x30034 && !b.staging) || (tableAt a && b.mode != 10) ||
  (match debugAt a with
   | some (s, q, _) => !b.debugAllowed s || !b.dbgHalted s q
   | none => match haltAt a with
     | some (s, _) => !b.debugAllowed s
     | none => false)

end Sys2Proof.Machine
end

