-- ==== Sys2Proof/Machine/RegChannel.lean ====
section
/-! DEFINITION. The register channel (R376, R377), and the register commands of the table that name their own access. -/

namespace Sys2Proof.Machine

/-- Read `n` words in order; their bytes, each word big-endian (R376). -/
def readRun (o : Otp) : Nat → Nat → Block → List Byte × Block
  | 0, _, b => ([], b)
  | n + 1, a, b =>
    let (v, b) := b.busRead o .host a
    let (l, b) := readRun o n (a + 4) b
    (beBytes v 4 ++ l, b)

/-- Write words in order, until one is refused: whether all were taken. -/
def writeRun : List Nat → Nat → Block → Otp → Bool × Block × Otp
  | [], _, b, o => (true, b, o)
  | v :: l, a, b, o =>
    let bad := b.writeRefused a v
    let r := busWrite .host a v b o
    if bad then (false, r.1, r.2) else writeRun l (a + 4) r.1 r.2

/-- STAGE: words to the staging area from an offset on, refused under R104. -/
def Block.stageRun (b : Block) (off : Nat) (l : List Nat) : Bool × Block :=
  if b.staging then (true, (b.set R.IMG_STAGE_OFFSET (off / 4 * 4)).forEach l (fun b v => b.stageData v))
  else (false, b.stageData 0)

/-- A reply's head: the status and three reserved bytes. -/
def opStatus (s : Nat) : List Byte := leBytes s 4

/-- The operations of a request (R376): after a refused or malformed one the later ones are reported as 1; one whose
length nothing gives ends the reply. A reset ends it, too. -/
def runOps (fuel : Nat) (l : List Byte) (stopped : Bool) (b : Block) (o : Otp) : List Byte × Block × Otp :=
  match fuel with
  | 0 => ([], b, o)
  | fuel + 1 =>
    if l.isEmpty then ([], b, o)
    else
      let op := leAt l 0 1
      let n := beNum (slice l 2 2)
      let a := beNum (slice l 4 4)
      let len := if op = 1 then 8 else 8 + 4 * n
      if op = 0 ∨ 3 < op ∨ l.length < len then (opStatus (if stopped then 1 else 2), b, o)
      else if n = 0 ∨ 256 < n then
        let r := runOps fuel (l.drop len) true b o
        (opStatus (if stopped then 1 else 2) ++ r.1, r.2)
      else
        let words := (List.range n).map (fun i => beNum (slice l (8 + 4 * i) 4))
        let rest := l.drop len
        if stopped then
          let r := runOps fuel rest true b o
          (opStatus 1 ++ r.1, r.2)
        else
          let (res, ok, b', o') : List Byte × Bool × Block × Otp :=
            if op = 1 then
              let r := readRun o n a b
              (opStatus 0 ++ r.1, true, r.2, o)
            else if op = 2 then
              let r := writeRun words a b o
              (opStatus (if r.1 then 0 else 1), r.1, r.2.1, r.2.2)
            else
              let r := b.stageRun a words
              (opStatus (if r.1 then 0 else 1), r.1, r.2, o)
          if b'.get R.CUS_EPOCH ≠ b.get R.CUS_EPOCH then (res, b', o')
          else
            let r := runOps fuel rest (!ok) b' o'
            (res ++ r.1, r.2)

/-- A pure ACK on the register channel (R354, R376). -/
def Block.regPureAck (b : Block) : Block :=
  b.sendHost b.custody.regc.port 2 0xFFFF 0 b.custody.regc.accepted 0 1 []

/-- REG_REQUEST (R376, R377). A request that resets the node is not answered: the channel's state has gone with it. -/
def regRequest (port : Nat) (msg : List Byte) (b : Block) (o : Otp) : Block × Otp :=
  if b.regTakes port = false then (b, o)
  else match parseHost msg with
  | none => (b.malformed, o)
  | some m =>
    if m.type ≠ 7 then (b, o)
    else
      let b := b.hostCommon port m
      let a := b.custody.regc.accepted
      if serialAbove 32 m.seq a = false then
        let b := b.bump R.CUS_HOST_DUP_COUNT
        match b.custody.regc.replies.find? (fun r => r.1 = m.seq) with
        | some r => (b.sendReply r.2.1 r.2.2, o)
        | none => (b.regPureAck, o)
      else if m.seq ≠ (a + 1) % 2 ^ 32 then ((b.count R.CUS_HOST_GAP_COUNT R.CUS_TROUBLE_HOST_GAP).regPureAck, o)
      else
        let epoch := b.get R.CUS_EPOCH
        let r := runOps (m.payload.length + 1) m.payload false b o
        let b := r.2.1
        let o := r.2.2
        if b.get R.CUS_EPOCH ≠ epoch then (b, o)
        else
          let c := b.custody.regc
          let seq := (c.sent + 1) % 2 ^ 32
          let b := b.setCustody { b.custody with regc := { c with
            accepted := m.seq, sent := seq, replies := (c.replies ++ [(m.seq, seq, r.1)]).drop (c.replies.length - 15) } }
          ((b.bump R.CUS_ACCEPT_COUNT).sendReply seq r.1, o)

/-- No access reaches a register in M0, M1 and M9 (R497). -/
def viaBus (f : Block → Otp → Block × Otp) (b : Block) (o : Otp) : Block × Otp := if b.reachable then f b o else (b, o)

/-- A read access of a path: the value stands in `readData`. -/
def readAccess (p : Path) (a : Nat) (b : Block) (o : Otp) : Block × Otp :=
  let (v, b) := b.busRead o p a
  ({ b with readData := v }, o)

/-- RESERVED_ACCESS (R6, R495): of another width or alignment, or to reserved space; it reads 0. Any other access is none. -/
def reservedAccess (a size : Nat) (write : Bool) (b : Block) (o : Otp) : Block × Otp :=
  let space :=
    if tableAt a then !b.tableListed a
    else match debugAt a with
      | some (s, q, off) => !b.debugAllowed s || (!(b.sliceState s).held && !(decide (q ≤ 64) && debugOffset off))
      | none => !listed o a
  if b.gatedAt a then ((if write then b else { b with readData := 0 }).bump R.GLB_UNDEF_COUNT, o)
  else if a % 4 ≠ 0 ∨ size ≠ 4 ∨ space then ((if write then b else { b with readData := 0 }).undefined a, o)
  else (b, o)

/-- The address of CLC_HALT of a cluster, and of a register of a debug window (R24). -/
def haltAddr (s c : Nat) : Nat := 0x1000004 + 0x100000 * (s % 8) + 0x10000 * (c % 4)
def debugAddr (s p off : Nat) : Nat := 0x1080000 + 0x100000 * (s % 8) + 0x1000 * min p 64 + off

end Sys2Proof.Machine
end

