-- ==== Sys2Proof/Machine/Run.lean ====
section
/-! DEFINITION. How a command acts on the state: on the block, with TRB_SUMMARY and ALERT_N following the sticky bits
(R462, R463) afterwards. -/

namespace Sys2Proof.Machine

/-- A command acts on the block. -/
def State.run (s : State) (f : Block → Block) : State := { s with blk := (f s.blk).updateAlert }

/-- A command of a unit that runs in M2 to M8, M10 and M11 alone (R437); without effect in M0, M1 and M9. -/
def State.runOn (s : State) (f : Block → Block) : State := s.run (fun b => b.whenever b.running f)

/-- A command that is a register access (R497). -/
def State.runReg (s : State) (f : Block → Block) : State := s.run (fun b => b.viaReg f)

/-- A command that reads or writes the OTP beside the block. -/
def State.runOtp (s : State) (f : Block → Otp → Block × Otp) : State :=
  let r := f s.blk s.otp
  { s with blk := r.1.updateAlert, otp := r.2 }

/-- POWER_ON (R73, R440): after a thermal shutdown only once the baseplate is below +95 °C (`temp` in 0.1 °C). -/
def Block.powerOnRow (b : Block) (temp : Int) : Block :=
  if b.power.thermalOff ∧ 950 ≤ temp then b else b.powerOn

/-- DBG_MEM_DATA_ACCESS (R502): a read, or a write of the value given. -/
def memDataAccess (slice spindle : Nat) (value : Option Word) (b : Block) (o : Otp) : Block × Otp :=
  match value with
  | some v => busWrite .host (debugAddr slice spindle 0x404) v.toNat b o
  | none => readAccess .host (debugAddr slice spindle 0x404) b o

end Sys2Proof.Machine
end

