-- ==== Sys2Proof/Machine/ExecFault.lean ====
section
/-! DEFINITION. Commands: Faults, the trouble block and snapshots (R15, R461–R478). -/

namespace Sys2Proof.Machine

/-- SPARE_START, R15: The spare spindle, loaded from the image, starts at the first block boundary after the load and
takes over the logical number. -/
def execSpareStart (slice : Nat) (s : State) : Host.Outcome State Fault Refusal :=
  .next (s.runOn (fun b => b.spareStart slice))

/-- SPINDLE_MEMORY_ERROR, R469: A corrected or uncorrectable error occurs in a spindle memory; an uncorrectable one
invalidates the tick output and is at once a lasting fault. A gated spindle produces none (R472). -/
def execSpindleMemoryError (spindle : Nat) (corrected : Bool) (s : State) : Host.Outcome State Fault Refusal :=
  .next (s.runOn (fun b => if b.gated (sliceOf spindle) then b else b.memoryError spindle corrected))

/-- DDR4_CORRECTION, R469: Chipkill ECC corrects an error attributed to one x4 device and counts it in the device's
window. -/
def execDdr4Correction (device : Nat) (s : State) : Host.Outcome State Fault Refusal :=
  .next (s.runOn (fun b => b.ddrCorrection device))

/-- FAULT_WINDOW_CLOSE, R468: WINDOW ticks after it opened an error window closes and its count returns to 0. -/
def execFaultWindowClose (cls : Nat) (inst : Nat) (s : State) : Host.Outcome State Fault Refusal :=
  .next (s.runOn (fun b => b.windowClose cls inst))

/-- DDR_SCRUB, R471: The DDR4 controllers scrub all of DDR4 once every 24 h, or every hour while a device is marked.
-/
def execDdrScrub (s : State) : Host.Outcome State Fault Refusal :=
  .next (s.runOn (fun b => b.ddrScrub))

/-- PORT_RETURN, R470: Writing 1 to a bit of TRB_PORT_FAILED returns the port to service and makes its truing blocks
due. -/
def execPortReturn (mask : Nat) (s : State) : Host.Outcome State Fault Refusal :=
  .next (s.runReg (fun b => b.portReturn (mask % 16)))

/-- DDR_UNMARK, R471: Writing 1 to a bit of TRB_DDR_MARKED removes the device mark. -/
def execDdrUnmark (mask : Nat) (s : State) : Host.Outcome State Fault Refusal :=
  .next (s.runReg (fun b => b.ddrUnmark (mask % 2 ^ 36)))

/-- SNAP_CMD_LOCAL, R474: Writing TRB_SNAP_CMD.LOCAL schedules a local snapshot at TRB_SNAP_T, or at the end of the
current tick. -/
def execSnapCmdLocal (s : State) : Host.Outcome State Fault Refusal :=
  .next (s.runReg (fun b => b.snapCmd 1))

/-- SNAP_CMD_NETWORK, R476: At the coordinator, NETWORK increments SNAP_ID, broadcasts SNAPSHOT and schedules itself,
or is refused with SNAP_REFUSED. -/
def execSnapCmdNetwork (s : State) : Host.Outcome State Fault Refusal :=
  .next (s.runReg (fun b => b.snapCmd 2))

/-- SNAPSHOT_TAKE, R474: At the tick boundary ending the tick containing T, every statistics counter is copied to the
shadow bank and tagged, or the snapshot is missed. -/
def execSnapshotTake (s : State) : Host.Outcome State Fault Refusal :=
  .next (s.run (fun b => b.snapshotTake))

end Sys2Proof.Machine
end

