-- ==== Sys2Proof/Machine/ExecHost.lean ====
section
/-! DEFINITION. Commands: Custody and the host link (R345–R385). -/

namespace Sys2Proof.Machine

/-- HOST_DATA, R353: A host DATA message is dropped as duplicate or gap, refused with a cause, or journalled,
fragmented into TX_QUEUE and accepted. -/
def execHostData (port : Nat) (msg : List Byte) (s : State) : Host.Outcome State Fault Refusal :=
  .next (s.runOn (fun b => b.hostData port msg))

/-- HOST_ACK, R357: A host ACK advances HOST_ACKED and releases inbound journal records. -/
def execHostAck (port : Nat) (msg : List Byte) (s : State) : Host.Outcome State Fault Refusal :=
  .next (s.runOn (fun b => b.hostPure port 2 msg))

/-- HOST_CREDIT, R355: A host CREDIT (or credit on any message) sets the node-to-host send limit. -/
def execHostCredit (port : Nat) (msg : List Byte) (s : State) : Host.Outcome State Fault Refusal :=
  .next (s.runOn (fun b => b.hostPure port 3 msg))

/-- RESYNC, R374: A host RESYNC is answered with RESYNC_REPLY records, and the node resends DATA above HOST_ACKED. -/
def execResync (port : Nat) (msg : List Byte) (s : State) : Host.Outcome State Fault Refusal :=
  .next (s.runOn (fun b => b.resync port msg))

/-- RUNUDOM_MALFORMED, R349: A Runudom message with a wrong version, type, channel or length is dropped and counted.
-/
def execRunudomMalformed (port : Nat) (msg : List Byte) (s : State) : Host.Outcome State Fault Refusal :=
  .next (s.runOn (fun b => b.hostBad port msg))

/-- REG_REQUEST, R376: A register-channel request is executed operation by operation and answered with REG_REPLY, or
its stored reply resent for a duplicate. -/
def execRegRequest (port : Nat) (msg : List Byte) (s : State) : Host.Outcome State Fault Refusal :=
  .next (s.runOtp (viaBus (fun b o => regRequest port msg b o)))

/-- HOST_ACK_TX, R354: Within ACK_HOLD of an acceptance, a pure ACK with credit is sent to the host if no other
message carried it. -/
def execHostAckTx (channel : Nat) (s : State) : Host.Outcome State Fault Refusal :=
  .next (s.runOn (fun b => b.hostAckTx channel))

/-- HOST_DELIVER, R357: An inbound journalled message is sent to the host as DATA in sequence order. -/
def execHostDeliver (channel : Nat) (s : State) : Host.Outcome State Fault Refusal :=
  .next (s.runOn (fun b => b.hostDeliver channel))

/-- HOST_RETRANSMIT, R357: HOST_RTO passes without the host ACK advancing, and every unacknowledged message is resent
in order. -/
def execHostRetransmit (channel : Nat) (s : State) : Host.Outcome State Fault Refusal :=
  .next (s.runOn (fun b => b.hostRetransmit channel))

/-- CUSTODY_DATA_RX, R361: A custody DATA fragment at the destination is taken as a duplicate, gap, append or refusal,
and a complete message is journalled and committed to RX_QUEUE. -/
def execCustodyDataRx (s : State) : Host.Outcome State Fault Refusal :=
  .next (s.runOn (fun b => b.custodyData))

/-- RECEIPT_TX, R362: A RECEIPT with IN_JOURNALLED and credit is sent within RECEIPT_HOLD, at once on a duplicate, gap
or refusal, or when RX_USED falls by a quarter. -/
def execReceiptTx (channel : Nat) (s : State) : Host.Outcome State Fault Refusal :=
  .next (s.runOn (fun b => b.receiptTx channel))

/-- CUSTODY_RECEIPT_RX, R363: A RECEIPT advances LINE_RECEIPTED, releases outbound records and sends DELIVERED to the
host. -/
def execCustodyReceiptRx (s : State) : Host.Outcome State Fault Refusal :=
  .next (s.runOn (fun b => b.custodyReceipt))

/-- E2E_TIMEOUT, R364: LINE_RECEIPTED has not advanced for E2E_TIMEOUT, so every unreceipted message is resent from
the journal. -/
def execE2eTimeout (channel : Nat) (s : State) : Host.Outcome State Fault Refusal :=
  .next (s.runOn (fun b => b.e2eTimeout channel))

/-- REASSEMBLY_TIMEOUT, R361: A partial message's next fragment does not come within REASM_TIMEOUT and the message is
discarded. -/
def execReassemblyTimeout (channel : Nat) (s : State) : Host.Outcome State Fault Refusal :=
  .next (s.runOn (fun b => b.reasmTimeout channel))

/-- STREAM_TX, R378: A packet of a bound lossy queue is sent to the host as a STREAM message. -/
def execStreamTx (stream : Nat) (s : State) : Host.Outcome State Fault Refusal :=
  .next (s.runOn (fun b => b.streamTx stream))

/-- CUSTODY_RESTORE, R371: After power-on, once DDR4 is trained, the newest complete slot is verified and restored,
channels refilled and the slot marked consumed, or FLUSH_FAIL and RESTORE_FAIL set. -/
def execCustodyRestore (crcOk : Bool) (s : State) : Host.Outcome State Fault Refusal :=
  .next (s.runOn (fun b => b.custodyRestore crcOk))

/-- FLUSH_SLOT_ERASED, R371: The other flush slot has been erased and ACCEPT_READY becomes 1. -/
def execFlushSlotErased (s : State) : Host.Outcome State Fault Refusal :=
  .next (s.runOn (fun b => b.flushSlotErased))

end Sys2Proof.Machine
end

