-- ==== Sys2Proof/Machine/ExecImage.lean ====
section
/-! DEFINITION. Commands: The image loader (R83–R113). -/

namespace Sys2Proof.Machine

/-- IMG_CMD_NOP, R102: IMG_CMD NOP does nothing. -/
def execImgCmdNop (s : State) : Host.Outcome State Fault Refusal :=
  .next (s.runReg (fun b => b.imgNop))

/-- IMG_CMD_VERIFY_STAGED, R102: Verification of the staged image or reload package starts, or the command is refused.
-/
def execImgCmdVerifyStaged (s : State) : Host.Outcome State Fault Refusal :=
  .next (s.runReg (fun b => b.verifyStaged))

/-- VERIFY_STAGED_DONE, R106: Verification of the staged bytes ends with success or a cause in IMG_ERR. -/
def execVerifyStagedDone (readOk : Bool) (s : State) : Host.Outcome State Fault Refusal :=
  .next (s.runOtp (fun b o => (b.whenever b.running (fun b => b.verifyDone o readOk), o)))

/-- IMG_CMD_WRITE_BANK, R102: Writing a verified full image to the free bank starts, or is refused. -/
def execImgCmdWriteBank (s : State) : Host.Outcome State Fault Refusal :=
  .next (s.runReg (fun b => b.writeBank))

/-- WRITE_BANK_DONE, R103: The bank is written and read back and becomes STAGED. -/
def execWriteBankDone (s : State) : Host.Outcome State Fault Refusal :=
  .next (s.runOn (fun b => b.writeDone false))

/-- IMG_CMD_ARM_TRIAL, R102: The STAGED bank becomes TRIAL, effective at the next reset. -/
def execImgCmdArmTrial (s : State) : Host.Outcome State Fault Refusal :=
  .next (s.runReg (fun b => b.armTrial))

/-- IMG_CMD_CONFIRM, R99: In M6 the trial bank becomes ACTIVE and the former ACTIVE bank PREVIOUS. -/
def execImgCmdConfirm (s : State) : Host.Outcome State Fault Refusal :=
  .next (s.runReg (fun b => b.confirmCmd))

/-- IMG_CMD_ROLLBACK_COMMIT, R94: The OTP anti-rollback counters are raised to the lowest SEC_VERSION of the running
image per class. -/
def execImgCmdRollbackCommit (s : State) : Host.Outcome State Fault Refusal :=
  .next (s.runOtp (viaBus (fun b o => imgCmd 5 0 b o)))

/-- IMG_CMD_SLICE_RELOAD, R107: A verified reload package is scheduled for the block boundary B, or refused. -/
def execImgCmdSliceReload (slice : Nat) (s : State) : Host.Outcome State Fault Refusal :=
  .next (s.runReg (fun b => b.sliceReload (slice % 8)))

/-- IMG_CMD_GOLDEN_WRITE, R102: In M10 writing a verified golden image to the golden bank starts. -/
def execImgCmdGoldenWrite (s : State) : Host.Outcome State Fault Refusal :=
  .next (s.runReg (fun b => b.goldenWrite))

/-- GOLDEN_WRITE_DONE, R103: The golden bank is written, read back and becomes ACTIVE. -/
def execGoldenWriteDone (s : State) : Host.Outcome State Fault Refusal :=
  .next (s.runOn (fun b => b.writeDone true))

/-- IMG_CMD_ABORT, R104: ABORT ends a verification, bank write or pending reload, or is refused for a golden write or
executing reload. -/
def execImgCmdAbort (s : State) : Host.Outcome State Fault Refusal :=
  .next (s.runReg (fun b => b.abortCmd))

/-- IMG_STAGE_DATA, R112: A write of IMG_STAGE_DATA stores 4 bytes at IMG_STAGE_OFFSET and advances it, or is refused
during verification or reload. -/
def execImgStageData (value : Word) (s : State) : Host.Outcome State Fault Refusal :=
  .next (s.runReg (fun b => b.stageData value.toNat))

/-- IMAGE_TRIAL_EXPIRY, R99: IMG_TRIAL_LIMIT seconds in M6 pass without confirmation; the bank is marked BAD and a
warm reset with cause image trial follows. -/
def execImageTrialExpiry (s : State) : Host.Outcome State Fault Refusal :=
  .next (s.runOn (fun b => b.trialExpiry))

/-- SLICE_RELOAD_START, R107: At tick b the slice is held in reset, MOVE duties start on dormant schedules and copying
from the staging area begins. -/
def execSliceReloadStart (s : State) : Host.Outcome State Fault Refusal :=
  .next (s.runOn (fun b => b.reloadStart))

/-- SLICE_RELOAD_COMPLETE, R108: At B + k the new schedules start, IMG_RUN_DIGEST is updated and IMG_RELOAD_COUNT
increments, or the slice falls back to its running copy on a digest failure. -/
def execSliceReloadComplete (digestOk : Bool) (s : State) : Host.Outcome State Fault Refusal :=
  .next (s.runOn (fun b => b.reloadComplete digestOk))

end Sys2Proof.Machine
end

