-- ==== Sys2Proof/Machine/ExecJoin.lean ====
section
/-! DEFINITION. Commands: Keys and joining (R486–R490). -/

namespace Sys2Proof.Machine

/-- KEY_UPDATE, R486: A node receives KEY_UPDATE, unseals the next network key and installs it. -/
def execKeyUpdate (s : State) : Host.Outcome State Fault Refusal :=
  .next (s.runOn (fun b => b.keyUpdate))

/-- KEY_LOW, R486: The coordinator receives KEY_LOW and advances the epoch within 60 s. -/
def execKeyLow (s : State) : Host.Outcome State Fault Refusal :=
  .next (s.runOn (fun b => b.keyLowRx))

/-- JOIN_RELAY, R490: A JOIN_RELAY carries a joiner's handshake message between candidate relay and coordinator. -/
def execJoinRelay (s : State) : Host.Outcome State Fault Refusal :=
  .next (s.runOn (fun b => b.joinRelay))

/-- HELLO, R490: The coordinator receives HELLO and answers with CHALLENGE, with the stored CHALLENGE for a repeat, or
with REFUSE. -/
def execHello (s : State) : Host.Outcome State Fault Refusal :=
  .next (s.runOn (fun b => b.hello))

/-- CHALLENGE, R490: The joiner checks the coordinator's certificate, signature and owner fingerprint and sends PROOF.
-/
def execChallenge (s : State) : Host.Outcome State Fault Refusal :=
  .next (s.runOn (fun b => b.challengeRx))

/-- PROOF, R490: The coordinator checks the joiner's certificate, signature, owner, bar list and admit list and sends
a sealed GRANT or REFUSE. -/
def execProof (s : State) : Host.Outcome State Fault Refusal :=
  .next (s.runOn (fun b => b.proof))

/-- GRANT, R490: The joiner unseals GRANT, takes its address, lease, keys and epoch, and resumes or restarts its frame
counter. -/
def execGrant (s : State) : Host.Outcome State Fault Refusal :=
  .next (s.runOn (fun b => b.grantRx))

/-- REFUSE_JOIN, R490: The joiner receives an unauthenticated REFUSE and counts it as a failed attempt. -/
def execRefuseJoin (s : State) : Host.Outcome State Fault Refusal :=
  .next (s.runOn (fun b => b.refuseRx))

/-- JOINER_STATE_EXPIRY, R490: The coordinator drops a joiner's handshake state after 30 s. -/
def execJoinerStateExpiry (eui : Nat) (s : State) : Host.Outcome State Fault Refusal :=
  .next (s.runOn (fun b => b.joinerExpiry eui))

/-- KEY_PERIOD_EXPIRY, R486: KEY_PERIOD hours pass and the coordinator advances the epoch by sending KEY_UPDATE. -/
def execKeyPeriodExpiry (s : State) : Host.Outcome State Fault Refusal :=
  .next (s.runOn (fun b => b.keyPeriod))

/-- EPOCH_SWITCH, R487: At half-cycle 0 of SWITCH_REV nodes send new transmissions in the next epoch, or a node
without the key stays in the old epoch. -/
def execEpochSwitch (s : State) : Host.Outcome State Fault Refusal :=
  .next (s.runOn (fun b => b.epochSwitch))

/-- KEY_GRACE_EXPIRY, R487: KEY_GRACE seconds after the switch the previous key is erased; a node still in the old
epoch sets KEY_MISSED and requests M5. -/
def execKeyGraceExpiry (s : State) : Host.Outcome State Fault Refusal :=
  .next (s.runOn (fun b => b.keyGrace))

end Sys2Proof.Machine
end

