-- ==== Sys2Proof/Machine/ExecLine.lean ====
section
/-! DEFINITION. Commands: The line front end and PHY (R114–R208). -/

namespace Sys2Proof.Machine

/-- FRAME_TX_START, R158: A frame or train starts transmission with ramp, preamble, sync, header and payload; the mode
is checked, the budget charged and foldback and corrections applied at the frame start. -/
def execFrameTxStart (band : Nat) (temps : List Int) (limitNs : List Nat) (s : State) : Host.Outcome State Fault Refusal :=
  .next (s.runOn (fun b => b.startFrame band temps limitNs))

/-- SEGMENT_TX, R177: A continuation segment of a dispersed frame is sent at its tick offset in a later half-cycle, or
omitted and counted. -/
def execSegmentTx (report : SegmentStart) (s : State) : Host.Outcome State Fault Refusal :=
  .next (s.runOn (fun b => b.segmentTx report.band report.limitNs))

/-- DRIVER_THERMAL_SHUTDOWN, R120: A driver junction exceeds +150 °C; the frame ends with a ramp, THERMAL_SHUTDOWN is
set and the driver is disabled. -/
def execDriverThermalShutdown (report : DriverTemp) (s : State) : Host.Outcome State Fault Refusal :=
  .next (s.runOn (fun b => b.thermalDriver report.driver report.temp))

/-- DRIVER_THERMAL_RECOVER, R120: The driver junction falls below +125 °C and a shut-down driver is enabled again. -/
def execDriverThermalRecover (report : DriverTemp) (s : State) : Host.Outcome State Fault Refusal :=
  .next (s.runOn (fun b => b.recoverDriver report.driver report.temp))

/-- FOLDBACK_RELAX, R120: Each second below +125 °C the foldback is lessened by 1 dB, applied at the next frame start.
-/
def execFoldbackRelax (driver : Nat) (s : State) : Host.Outcome State Fault Refusal :=
  .next (s.runOn (fun b => b.relaxDriver driver))

/-- NOTCH_WRITE, R127: Writing VALID to an unlocked notch entry checks and applies START and STOP together, or refuses
the entry and counts it. -/
def execNotchWrite (entry : Nat) (word : Word) (s : State) : Host.Outcome State Fault Refusal :=
  .next (s.runReg (fun b => b.notchWrite entry word.toNat))

/-- PREAMBLE_DECLARE, R184: The correlator statistic passes DET_THRESH at a local maximum; a preamble is declared, the
AGC freezes and PHY_DET_COUNT increments. -/
def execPreambleDeclare (band port : Nat) (report : Declaration) (s : State) : Host.Outcome State Fault Refusal :=
  .next (s.runOn (fun b => b.declare band port report.code report.window report.ports))

/-- SYNC_FOUND, R185: An inverted repetition meets the sync conditions, fixing the header start and coarse timing
mark. -/
def execSyncFound (place : RxPlace) (report : SyncReport) (s : State) : Host.Outcome State Fault Refusal :=
  .next (s.runOn (fun b => b.syncFound place.band place.port place.code report.reps report.start))

/-- SYNC_SEARCH_TIMEOUT, R185: No sync word comes within 8 repetitions; the declaration is false, the AGC releases and
FALSE_DET is counted. -/
def execSyncSearchTimeout (place : RxPlace) (reps : List (List Lane)) (s : State) : Host.Outcome State Fault Refusal :=
  .next (s.runOn (fun b => b.syncTimeout place.band place.port place.code reps))

/-- AGC_SATURATION_RELEASE, R135: AGC_SAT_LIMIT consecutive saturated intervals release a frozen AGC and abort the
frame. -/
def execAgcSaturationRelease (band : Nat) (report : Saturation) (s : State) : Host.Outcome State Fault Refusal :=
  .next (s.runOn (fun b => b.saturationRelease band report.port report.intervals))

/-- HEADER_RECEIVED, R165: The header block is decoded; a CRC failure or rule violation ends reception, otherwise the
hardware filter and the ladder update run. -/
def execHeaderReceived (place : RxPlace) (soft : List SoftBit) (train : List EqStep) (s : State) :
    Host.Outcome State Fault Refusal :=
  .next (s.runOn (fun b => b.headerEvent place.band place.port place.code soft train))

/-- FOLLOW_ON_HEADER, R175: A follow-on header of a train is decoded, or ends the reception when it fails. -/
def execFollowOnHeader (band port : Nat) (soft : List SoftBit) (s : State) : Host.Outcome State Fault Refusal :=
  .next (s.runOn (fun b => b.followOn band port soft))

/-- SEGMENT_SEARCH, R187: At a continuation segment's expected start the receiver searches ±16 chips, and erases the
segment and counts it when it is not found. -/
def execSegmentSearch (band port : Nat) (report : SegmentReport) (s : State) : Host.Outcome State Fault Refusal :=
  .next (s.runOn (fun b => b.segmentSearch band port report.window report.power))

/-- ERASURE_ABORT, R193: A block's erased positions exceed its limit, so the frame is aborted. -/
def execErasureAbort (place : RxPlace) (report : ErasedBlock) (s : State) : Host.Outcome State Fault Refusal :=
  .next (s.runOn (fun b => b.erasureAbort place.band place.port place.code report.block report.erased))

/-- RX_FRAME_END, R194: The last chip is received and the verdict (delivered or failed) is given, with the block and
CRC counters, SNR and timing-withhold evaluation. -/
def execRxFrameEnd (band port : Nat) (report : RxEnd) (s : State) : Host.Outcome State Fault Refusal :=
  .next (s.runOn (fun b => b.rxFrameEnd band port report.code report.report))

/-- CAPTURE_ARM, R207: Setting ARM starts the pre-trigger ring of line capture, or is refused when the region size is
0. -/
def execCaptureArm (port : Nat) (band : Nat) (trig : Nat) (s : State) : Host.Outcome State Fault Refusal :=
  .next (s.runReg (fun b => b.listedWrite .host 0x701C0 (port % 4 + 4 * (band % 2) + 8 * (trig % 8) + 64)))

/-- CAPTURE_TRIGGER, R207: The selected trigger occurs while capture is armed and capture of POST units begins. -/
def execCaptureTrigger (kind : Nat) (s : State) : Host.Outcome State Fault Refusal :=
  .next (s.runOn (fun b => b.captureTrigger kind))

/-- CAPTURE_STOP, R207: Setting STOP ends the capture. -/
def execCaptureStop (s : State) : Host.Outcome State Fault Refusal :=
  .next (s.runReg (fun b => b.captureEnd false))

/-- CAPTURE_END, R207: POST units are written or the region is full, and the capture ends in state done. -/
def execCaptureEnd (s : State) : Host.Outcome State Fault Refusal :=
  .next (s.runOn (fun b => if b.get R.PHY_CAP_STAT_STATE = 2 then b.captureEnd false else b))

end Sys2Proof.Machine
end

