-- ==== Sys2Proof/Machine/ExecMac.lean ====
section
/-! DEFINITION. Commands: Channel access, beacons, timing frames and data frames (R222–R297). -/

namespace Sys2Proof.Machine

/-- BEACON_TX, R255: In its BEACON slot the coordinator or a relay sends a full or short beacon, or nothing when it
does not fit. -/
def execBeaconTx (s : State) : Host.Outcome State Fault Refusal :=
  .next (s.runOn (fun b => b.beaconTx))

/-- BEACON_RX, R252: A received beacon updates the grid values, slot map and MAP_SEQ, or serves only for
resynchronisation and survey records. -/
def execBeaconRx (s : State) : Host.Outcome State Fault Refusal :=
  .next (s.runOn (fun b => b.beaconRx))

/-- TIMING_REQUEST_TX, R222: At its timing opportunity a child sends a TIMING REQUEST with its mark on a tick
boundary. -/
def execTimingRequestTx (s : State) : Host.Outcome State Fault Refusal :=
  .next (s.runOn (fun b => b.timingRequest))

/-- TIMING_REPLY_TX, R224: The parent sends a TIMING REPLY in the same slot or in its next timing slot. -/
def execTimingReplyTx (s : State) : Host.Outcome State Fault Refusal :=
  .next (s.runOn (fun b => b.timingReply))

/-- TIMING_RX, R225: A delivered TIMING frame gives t2 or t4 from the first-path estimate and completes an exchange or
one-way measurement. -/
def execTimingRx (s : State) : Host.Outcome State Fault Refusal :=
  .next (s.runOn (fun b => b.timingRx))

/-- CONTENTION_ACCESS, R261: At a unit boundary the frame at the head of a band's order counts down its backoff,
selects its next hop and starts when clear and granted, or ends with CA_FAIL. -/
def execContentionAccess (band : Nat) (ask : AccessAsk) (s : State) : Host.Outcome State Fault Refusal :=
  .next (s.runOn (fun b => b.contention band ask.random ask.span ask.train))

/-- DATA_RX, R273: A delivered DATA frame is classified as accepted, redelivered, duplicate or replay, and is handed
on, forwarded or dropped. -/
def execDataRx (queue : Nat) (s : State) : Host.Outcome State Fault Refusal :=
  .next (s.runOn (fun b => b.dataRx queue))

/-- ACK_TX, R268: An immediate ACK is sent at the first tick boundary after the verdict, with the pending bit sampled.
-/
def execAckTx (band : Nat) (s : State) : Host.Outcome State Fault Refusal :=
  .next (s.runOn (fun b => b.ackTx band))

/-- ACK_RX, R269: A received ACK acknowledges the frames of the transmission up to its counter. -/
def execAckRx (s : State) : Host.Outcome State Fault Refusal :=
  .next (s.runOn (fun b => b.ackRx))

/-- ACK_TIMEOUT, R269: No matching ACK arrives by the end of the third unit; the transmission is unacknowledged and is
retried or returned as failed. -/
def execAckTimeout (band : Nat) (s : State) : Host.Outcome State Fault Refusal :=
  .next (s.runOn (fun b => b.ackTimeout band))

/-- BLOCK_ACK_TX, R270: A queued BLOCK_ACK is sent in the first qualifying contention run, or blocked and counted. -/
def execBlockAckTx (draw : BandDraw) (s : State) : Host.Outcome State Fault Refusal :=
  .next (s.runOn (fun b => b.blockAckTx draw.band draw.random))

/-- BLOCK_ACK_RX, R270: A received BLOCK_ACK acknowledges the outstanding class 0 frames up to ACKED. -/
def execBlockAckRx (s : State) : Host.Outcome State Fault Refusal :=
  .next (s.runOn (fun b => b.blockAckRx))

/-- BLOCK_ACK_TIMEOUT, R270: No covering BLOCK_ACK by the (BA_TIMEOUT + 1)-th anchor, so the remaining frames are
unacknowledged. -/
def execBlockAckTimeout (band : Nat) (s : State) : Host.Outcome State Fault Refusal :=
  .next (s.runOn (fun b => b.blockAckTimeout band))

/-- POLL_RX, R276: A POLL from the parent keeps a dozing node awake for WAKE_HOLD ticks. -/
def execPollRx (s : State) : Host.Outcome State Fault Refusal :=
  .next (s.runOn (fun b => b.pollRx))

/-- WAKE_WINDOW_OPEN, R276: A dozing leaf opens its receive window, a guard before the expected beacon or wake slot.
-/
def execWakeWindowOpen (s : State) : Host.Outcome State Fault Refusal :=
  .next (s.runOn (fun b => b.wakeOpen))

/-- WAKE_HOLD_EXPIRY, R276: WAKE_HOLD ticks pass without a frame from the parent and the leaf dozes again. -/
def execWakeHoldExpiry (s : State) : Host.Outcome State Fault Refusal :=
  .next (s.runOn (fun b => b.wakeHoldExpiry))

/-- BEACON_MISS, R277: An attended beacon opportunity passes without resynchronisation; the guard widens and at the
third miss BEACON_LOST is set and the search begins. -/
def execBeaconMiss (s : State) : Host.Outcome State Fault Refusal :=
  .next (s.runOn (fun b => b.beaconMiss))

/-- BEACON_SEARCH_TIMEOUT, R277: The search of 8 beacon periods fails and the MAC requests M5 Join. -/
def execBeaconSearchTimeout (s : State) : Host.Outcome State Fault Refusal :=
  .next (s.runOn (fun b => b.searchTimeout))

/-- QUIET_WINDOW_START, R280: A quiet window starts (widened by TIM_BOUND) and the band's budget becomes zero,
requesting M7 when every band is forbidden. -/
def execQuietWindowStart (band : Nat) (s : State) : Host.Outcome State Fault Refusal :=
  .next (s.runOn (fun b => b.quietWindow band true))

/-- QUIET_WINDOW_END, R280: A quiet window ends; the band is permitted again and the return to M6 is requested. -/
def execQuietWindowEnd (band : Nat) (s : State) : Host.Outcome State Fault Refusal :=
  .next (s.runOn (fun b => b.quietWindow band false))

/-- MAP_EVAL, R285: Every MAP_EVAL seconds the coordinator scores slots and re-places the TIMING and COLLECT roles,
publishing a changed map when the gain suffices. -/
def execMapEval (profiles : List (List Nat)) (s : State) : Host.Outcome State Fault Refusal :=
  .next (s.runOn (fun b => b.mapEval profiles))

/-- JOIN_TX, R286: A joining node sends a JOIN frame to its candidate in a CONTENTION slot. -/
def execJoinTx (s : State) : Host.Outcome State Fault Refusal :=
  .next (s.runOn (fun b => b.joinTx))

/-- LEASE_EXPIRY, R265: The lease of a lost node's address expires and the address is released. -/
def execLeaseExpiry (addr : Nat) (s : State) : Host.Outcome State Fault Refusal :=
  .next (s.runOn (fun b => b.leaseExpiry addr))

/-- LINK_REPORT_TX, R297: Every LINK_REPORT_S seconds, or within 1 s of a link change, the node sends LINK_REPORT to
0x0001. -/
def execLinkReportTx (s : State) : Host.Outcome State Fault Refusal :=
  .next (s.runOn (fun b => b.linkReportTx))

end Sys2Proof.Machine
end

