-- ==== Sys2Proof/Machine/ExecMesh.lean ====
section
/-! DEFINITION. Commands: The mesh, the collect method and coordinator commands (R289–R317). -/

namespace Sys2Proof.Machine

/-- LINK_REPORT, R297: The coordinator receives a LINK_REPORT and replaces the reporter's link-state entries. -/
def execLinkReport (s : State) : Host.Outcome State Fault Refusal :=
  .next (s.runOn (fun b => b.linkReport))

/-- ROUTE_SET, R301: A relay receives a ROUTE_SET of a newer epoch and schedules its entries for the named period. -/
def execRouteSet (seq : Nat) (period : Nat) (entries : List (Nat × List Byte)) (s : State) : Host.Outcome State Fault
    Refusal :=
  .next (s.runOn (fun b => b.routeSet seq period entries))

/-- ASSIGN, R301: A node receives its ASSIGN assignment for the named period boundary. -/
def execAssign (period : Nat) (bytes : List Byte) (collector : Nat) (s : State) : Host.Outcome State Fault Refusal :=
  .next (s.runOn (fun b => b.assign period bytes collector))

/-- LINK_DOWN, R306: The coordinator receives LINK_DOWN, recomputes routes, and may declare the named node lost. -/
def execLinkDown (node : Nat) (link : Nat) (reporter : Nat) (s : State) : Host.Outcome State Fault Refusal :=
  .next (s.runOn (fun b => b.linkDown node link reporter))

/-- REPORT_BUNDLE, R314: The coordinator receives a REPORT_BUNDLE from a relay collector and writes its reports to
SWEEP_QUEUE. -/
def execReportBundle (reports : List (List Byte)) (s : State) : Host.Outcome State Fault Refusal :=
  .next (s.runOn (fun b => b.reportBundle reports))

/-- ROUTE_RECOMPUTE, R300: The coordinator recomputes data routes and alternates, increments ROUTE_SEQ and sends
ROUTE_SET. -/
def execRouteRecompute (s : State) : Host.Outcome State Fault Refusal :=
  .next (s.runOn (fun b => b.routeRecompute))

/-- ROUTE_EPOCH_APPLY, R301: At the period boundary a relay applies all entries of an epoch together and clears the
DOWN marks. -/
def execRouteEpochApply (s : State) : Host.Outcome State Fault Refusal :=
  .next (s.runOn (fun b => b.routeApply))

/-- NODE_LOST_TIMEOUT, R306: A node's LAST_HEARD becomes older than LOST_PERIODS; it is declared lost and routes and
the tree are recomputed at once. -/
def execNodeLostTimeout (addr : Nat) (s : State) : Host.Outcome State Fault Refusal :=
  .next (s.runOn (fun b => b.nodeLost addr))

/-- SWEEP_START, R312: Writing MSH_SWEEP_CTRL.START at the head-end broadcasts SWEEP with the next SWEEP_ID, START_REV
and WINDOWS. -/
def execSweepStart (windows : Nat) (s : State) : Host.Outcome State Fault Refusal :=
  .next (s.runReg (fun b => b.listedWrite .host 0x90034 (windows % 65536 + 65536)))

/-- SWEEP, R312: A member receives the SWEEP command and schedules its collect frame for its window. -/
def execSweep (s : State) : Host.Outcome State Fault Refusal :=
  .next (s.runOn (fun b => b.sweep))

/-- COLLECT_FRAME_TX, R310: In its collect window a member sends its REPORT at COLLECT_ATTEN, or does not send it. -/
def execCollectFrameTx (s : State) : Host.Outcome State Fault Refusal :=
  .next (s.runOn (fun b => b.collectTx))

/-- COLLECT_WINDOW_DECODE, R313: After a window the receiver decodes it in tier order with cancellation and writes the
reports and window record, counting misses and strays. -/
def execCollectWindowDecode (window : Nat) (rev : Nat) (passes : List (List CollectTry)) (s : State)
    : Host.Outcome State Fault Refusal :=
  .next (s.runOn (fun b => b.windowDecode window rev passes))

/-- MODE_REQUEST, R442: A node receives the coordinator's MODE_REQUEST command and requests the named mode. -/
def execModeRequest (s : State) : Host.Outcome State Fault Refusal :=
  .next (s.runOn (fun b => b.modeRequest))

/-- SNAPSHOT, R476: A node receives a SNAPSHOT command and schedules, replaces, ignores or misses the snapshot. -/
def execSnapshot (s : State) : Host.Outcome State Fault Refusal :=
  .next (s.runOn (fun b => b.snapshotRx))

end Sys2Proof.Machine
end

