-- ==== Sys2Proof/Machine/ExecModes.lean ====
section
/-! DEFINITION. Commands: Modes and power management (R437–R460). -/

namespace Sys2Proof.Machine

/-- PWR_MODE_REQ, R442: A host mode request is carried out, held during a transition or refused with MODE_REFUSED. -/
def execPwrModeReq (mode : Nat) (s : State) : Host.Outcome State Fault Refusal :=
  .next (s.runReg (fun b => b.cmdWrite 0x10008 mode))

/-- MODE_TRANSITION, R440: A held or permitted mode change takes effect at its stated boundary. -/
def execModeTransition (s : State) : Host.Outcome State Fault Refusal :=
  .next (s.run (fun b => b.modeTransition))

/-- DOZE_ENTRY, R438: At the next beacon period boundary a leaf enters M8; other slices go to retention, DDR4 to
self-refresh and the SFP+ cages off. -/
def execDozeEntry (s : State) : Host.Outcome State Fault Refusal :=
  .next (s.runOn (fun b => b.entryTo 8))

/-- STANDBY_ENTRY, R449: Entry to M9 commits serial packets, rewinds others, abandons truing, sets STBY pin states,
gates slices and stops the system clock. -/
def execStandbyEntry (s : State) : Host.Outcome State Fault Refusal :=
  .next (s.runOn (fun b => b.entryTo 9))

/-- STANDBY_TIMER_EXPIRY, R449: PWR_STBY_TIME seconds in Standby pass and the node wakes. -/
def execStandbyTimerExpiry (s : State) : Host.Outcome State Fault Refusal :=
  .next (s.run (fun b => b.timerWake))

/-- WAKE_N_WAKE, R64: A falling edge on WAKE_N followed by 1 µs low wakes the module from M9. -/
def execWakeNWake (s : State) : Host.Outcome State Fault Refusal :=
  .next (s.run (fun b => b.wakeUp))

/-- STANDBY_EXIT, R449: After a wake the clock restarts, DDR4 exits self-refresh, class I state is restored from the
running copy and M3 is entered, or an image-restore reset follows. -/
def execStandbyExit (digestOk : Bool) (xtalNs : Nat) (s : State) : Host.Outcome State Fault Refusal :=
  .next (s.run (fun b => b.standbyExit digestOk xtalNs))

/-- MAINTENANCE_ENTRY, R459: At M10 entry the supervisor loads its records into slice 0 cluster 0 and moves there;
other spindles halt. -/
def execMaintenanceEntry (s : State) : Host.Outcome State Fault Refusal :=
  .next (s.runOn (fun b => b.entryTo 10))

/-- LOAD_ENABLE_REQUEST, R447: A load enable (slice, driver, DDR4, cage, heater) is requested from the power manager
and queued. -/
def execLoadEnableRequest (load : Load) (deadline : Option Nat) (s : State) : Host.Outcome State Fault Refusal :=
  .next (s.runOn (fun b => b.loadRequest load deadline))

/-- RATION_GRANT, R448: At a tick boundary queued enables are granted within 4.0 W per 25 ticks; a late transmit start
sets RATION_DELAY. -/
def execRationGrant (s : State) : Host.Outcome State Fault Refusal :=
  .next (s.runOn (fun b => b.rationGrant))

/-- PWR_CMD_NOP, R460: PWR_CMD NOP does nothing. -/
def execPwrCmdNop (s : State) : Host.Outcome State Fault Refusal :=
  .next (s.runReg (fun b => b.pwrCmd 0xA5C30000))

/-- PWR_CMD_WARM_RESET, R452: With CONFIRM 0xA5C3 the node performs a warm reset to M2. -/
def execPwrCmdWarmReset (s : State) : Host.Outcome State Fault Refusal :=
  .next (s.runReg (fun b => b.pwrCmd 0xA5C30001))

/-- PWR_CMD_SLICE_RESET, R454: With CONFIRM 0xA5C3 the slice is held in reset from the next block boundary and
restored from the running copy, or the command is refused. -/
def execPwrCmdSliceReset (slice : Nat) (s : State) : Host.Outcome State Fault Refusal :=
  .next (s.runReg (fun b => b.pwrCmd (0xA5C30002 + 16 * (slice % 8))))

/-- PWR_CMD_BAD_CONFIRM, R455: A PWR_CMD write without CONFIRM 0xA5C3 has no effect and counts in PWR_UNDEF_COUNT. -/
def execPwrCmdBadConfirm (value : Word) (s : State) : Host.Outcome State Fault Refusal :=
  .next (s.runReg (fun b => if bits value.toNat 16 16 = 0xA5C3 then b else b.badConfirm))

/-- SLICE_RESET_RELEASE, R454: The slice restore completes and the slice is released at the block boundary B + k. -/
def execSliceResetRelease (digestOk : Bool) (s : State) : Host.Outcome State Fault Refusal :=
  .next (s.runOn (fun b => b.sliceRelease digestOk))

/-- WATCHDOG_EXPIRY, R453: The supervisor watchdog is not serviced within PWR_WDT_TIMEOUT, so a watchdog reset occurs
and WDT_RESET is set. -/
def execWatchdogExpiry (s : State) : Host.Outcome State Fault Refusal :=
  .next (s.runOn (fun b => b.watchdog))

end Sys2Proof.Machine
end

