-- ==== Sys2Proof/Machine/ExecMore.lean ====
section
/-! DEFINITION. Commands: Supply, clamps, serial lines, survey and link ages: the rows that close the table. -/

namespace Sys2Proof.Machine

/-- SUPPLY_STOP, R79: In M1 the bulk bus falls to 200 V and the supply stops, removing power from the module whether
or not the flush has completed. -/
def execSupplyStop (s : State) : Host.Outcome State Fault Refusal :=
  .next (s.run (fun b => b.supplyStop))

/-- CLAMP_END, R395: A channel's input clamp stops conducting, so its CLAMP bit in SEN_STAT returns to 0 and later
samples no longer carry CLAMP. -/
def execClampEnd (channel : Nat) (s : State) : Host.Outcome State Fault Refusal :=
  .next (s.runOn (fun b => b.clampEnd channel))

/-- SUPPRESSION_END, R408: After a BREAK, RXD has been high for one bit time, so SER_STAT.SUPPRESSED clears and the
receiver delivers characters again. -/
def execSuppressionEnd (port : Nat) (s : State) : Host.Outcome State Fault Refusal :=
  .next (s.run (fun b => b.suppressionEnd port))

/-- SURVEY_MIN_EXPIRY, R440: SURVEY_MIN seconds in M4 Survey elapse with a candidate recorded and HOLD_SURVEY 0, so
the node moves to M5 Join. -/
def execSurveyMinExpiry (s : State) : Host.Outcome State Fault Refusal :=
  .next (s.runOn (fun b => b.surveyExpiry))

/-- LINK_AGE_EXPIRY, R295: A link-state entry becomes older than LINK_AGE, so its STALE flag is set, its cost becomes
0xFFFF and it no longer carries a route. -/
def execLinkAgeExpiry (index : Nat) (s : State) : Host.Outcome State Fault Refusal :=
  .next (s.runOn (fun b => b.linkAge index))

end Sys2Proof.Machine
end

