-- ==== Sys2Proof/Machine/ExecPower.lean ====
section
/-! DEFINITION. Commands: Power, boot, the tick and the grid, the spur, thermal limits, the connectors and the TAP
  (R31–R80, R98–R101, R440–R449). -/

namespace Sys2Proof.Machine

/-- POWER_ON, R440: L1–N rises above 85 V rms (and, after a thermal shutdown, the baseplate is below +95 °C), so the
module leaves M0 and reset is released into M2 Boot. -/
def execPowerOn (temp : Int) (s : State) : Host.Outcome State Fault Refusal :=
  .next (s.run (fun b => b.powerOnRow temp))

/-- WARM_RESET_PIN, R62: RESET_N is held low for at least 1 µs and produces a warm reset; it is ignored in M1. -/
def execWarmResetPin (s : State) : Host.Outcome State Fault Refusal :=
  .next (s.run (fun b => b.resetPin))

/-- RESET_RELEASE, R62: RESET_N returns high and the warm reset ends, so the chuck starts. -/
def execResetRelease (s : State) : Host.Outcome State Fault Refusal :=
  .next (s.run (fun b => b.resetRelease))

/-- BOOT_START, R98: At the end of a power-on, warm or watchdog reset the chuck samples BOOT_SEL, reads OTP and the
boot record, and chooses a bank (trial, active, previous or golden). -/
def execBootStart (bootSel : Bool) (s : State) : Host.Outcome State Fault Refusal :=
  .next (s.runOtp (fun b o => (b.bootStart o bootSel, o)))

/-- CARRIER_ID_READ, R65: The read of 256 bytes from the carrier EEPROM at 0x50 completes, or all 0xFF are supplied
when it does not acknowledge; it gates M3 entry. -/
def execCarrierIdRead (bytes : Option (List Byte)) (s : State) : Host.Outcome State Fault Refusal :=
  .next (s.run (fun b => b.carrierRead bytes))

/-- IMAGE_LOAD_COMPLETE, R101: The last digest and the content checks pass, library placements are applied and
PIN_PLAN takes effect; the node enters M3 Truing, or M11 Recovery for the golden image. -/
def execImageLoadComplete (readOk : Bool) (s : State) : Host.Outcome State Fault Refusal :=
  .next (s.runOtp (fun b o => (b.loadComplete o readOk, o)))

/-- DDR4_TRAINING_DONE, R441: DDR4 training completes in M3; BULK_READY is set and bulk queues admit. -/
def execDdr4TrainingDone (s : State) : Host.Outcome State Fault Refusal :=
  .next (s.runOn (fun b => b.ddrTrainingDone))

/-- OCXO_READY, R441: The OCXO heater current settles and OCXO_READY becomes 1. -/
def execOcxoReady (s : State) : Host.Outcome State Fault Refusal :=
  .next (s.runOn (fun b => b.ocxoReady))

/-- TRUING_EXIT, R441: At the first block boundary where truing, DDR4 training, the OCXO, the custody restore and (at
the head-end) grid alignment are all done, the node leaves M3 for M6 (head-end) or M4. -/
def execTruingExit (s : State) : Host.Outcome State Fault Refusal :=
  .next (s.runOn (fun b => b.truingExit))

/-- TICK, R32: A tick boundary: the tick counter advances, valid flags are set, double buffers swap and per-tick
scheduling runs. -/
def execTick (obs : TickObs) (s : State) : Host.Outcome State Fault Refusal :=
  .next (s.run (fun b => b.tickRow obs))

/-- GRID_STEP, R35: At a permitted block boundary with no own transmission, the tick grid (and at the coordinator the
time scale) steps once and the tick counter takes the network tick number. -/
def execGridStep (s : State) : Host.Outcome State Fault Refusal :=
  .next (s.runOn (fun b => b.gridStepRow))

/-- HALF_CYCLE_ANCHOR, R45: An anchor tick starts a half-cycle, sets N, HALF and SLOT, and increments the revolution
count at half-cycle 0. -/
def execHalfCycleAnchor (s : State) : Host.Outcome State Fault Refusal :=
  .next (s.runOn (fun b => b.anchorRow))

/-- L1_CROSSING_TIMEOUT, R47: No valid L1 crossing arrives within 1.5 × T, so the coordinator continues anchors at the
last T and sets GRID_FREE. -/
def execL1CrossingTimeout (s : State) : Host.Outcome State Fault Refusal :=
  .next (s.runOn (fun b => b.gridFree))

/-- SPUR_CROSSING, R142: A rising zero crossing is measured on a phase and fed to the acquisition and tracking filter,
which may reject it or re-acquire. -/
def execSpurCrossing (phase : Nat) (report : CrossReport) (s : State) : Host.Outcome State Fault Refusal :=
  .next (s.runOn (fun b => b.crossing phase report.volts report.mid report.time))

/-- SPUR_RMS_UPDATE, R144: Every 100 µs the spur computes each phase's RMS over T/2 and declares phase loss or
presence. -/
def execSpurRmsUpdate (l1 l2 l3 : List Int) (s : State) : Host.Outcome State Fault Refusal :=
  .next (s.run (fun b => b.rmsRow l1 l2 l3))

/-- FLUSH_COMPLETE, R370: The flush trailer with COMPLETE is written; CUS_FLUSH_LAST is recorded and the module enters
M0. -/
def execFlushComplete (us : Nat) (s : State) : Host.Outcome State Fault Refusal :=
  .next (s.run (fun b => b.flushComplete us))

/-- NPP_SWAP, R146: A noise-phase-profile accumulation of 2^ACC half-cycles completes; the buffers swap and
SPR_NPP_SEQ increments. -/
def execNppSwap (_ : Unit) (s : State) : Host.Outcome State Fault Refusal :=
  .next (s.runOn nppSwap)

/-- SPR_NPP_CTRL_WRITE, R150: A write of ACC to SPR_NPP_CTRL restarts the noise-phase-profile accumulation; values
11–15 are refused. -/
def execSprNppCtrlWrite (value : Word) (s : State) : Host.Outcome State Fault Refusal :=
  .next (s.runReg (fun b => b.listedWrite .host 0x50034 value.toNat))

/-- BASEPLATE_OVER_TEMP, R446: The baseplate reaches +112 °C; all transmit bands get a zero budget and OVER_TEMP is
set. -/
def execBaseplateOverTemp (s : State) : Host.Outcome State Fault Refusal :=
  .next (s.run (fun b => b.overTempRow))

/-- BASEPLATE_TEMP_NORMAL, R446: The baseplate falls below +108 °C and the transmit budgets are restored. -/
def execBaseplateTempNormal (s : State) : Host.Outcome State Fault Refusal :=
  .next (s.run (fun b => b.tempNormal))

/-- THERMAL_SHUTDOWN, R73: The baseplate reaches +118 °C and the node performs the power-fail flush and shutdown
through M1. -/
def execThermalShutdown (s : State) : Host.Outcome State Fault Refusal :=
  .next (s.run (fun b => b.thermalShutdown))

/-- VAUX_OVERLOAD, R61: The VAUX_3V3 current limit stays active for more than 10 ms; the output switches off and
VAUX_OVERLOAD is set. -/
def execVauxOverload (s : State) : Host.Outcome State Fault Refusal :=
  .next (s.run (fun b => b.vauxOverload))

/-- VAUX_RETRY, R61: Every 100 ms a switched-off VAUX_3V3 output is retried. -/
def execVauxRetry (s : State) : Host.Outcome State Fault Refusal :=
  .next (s.run (fun b => b.vauxRetry))

/-- SFP_INSERT, R70: A transceiver is inserted; its identification is read, and one that declares more than 1.5 W is
refused power. -/
def execSfpInsert (cage : Nat) (declared : Nat) (s : State) : Host.Outcome State Fault Refusal :=
  .next (s.run (fun b => b.sfpInsert cage declared))

/-- SFP_REMOVE, R70: A transceiver is removed from a cage. -/
def execSfpRemove (cage : Nat) (s : State) : Host.Outcome State Fault Refusal :=
  .next (s.run (fun b => b.sfpRemove cage))

/-- TAP_RESET, R66: TRST_N low holds the TAP in Test-Logic-Reset. -/
def execTapReset (s : State) : Host.Outcome State Fault Refusal :=
  .next (s.run (fun b => b.tapReset))

/-- TAP_BYPASS, R66: The IEEE 1149.1 BYPASS instruction is executed. -/
def execTapBypass (s : State) : Host.Outcome State Fault Refusal :=
  .next (s.run (fun b => b.tapBypass))

/-- TAP_SAMPLE_PRELOAD, R66: The SAMPLE/PRELOAD instruction captures or preloads the X2 boundary register. -/
def execTapSamplePreload (inputs : Nat) (preload : Nat) (s : State) : Host.Outcome State Fault Refusal :=
  .next (s.run (fun b => b.tapSample inputs preload))

/-- TAP_EXTEST, R66: The EXTEST instruction takes control of the X2 signal pins. -/
def execTapExtest (inputs : Nat) (s : State) : Host.Outcome State Fault Refusal :=
  .next (s.run (fun b => b.tapExtest inputs))

/-- TAP_IDCODE, R66: The IDCODE instruction returns 0x1512_0C4B. -/
def execTapIdcode (s : State) : Host.Outcome State Fault Refusal :=
  .next (s.run (fun b => b.tapIdcode))

end Sys2Proof.Machine
end

