-- ==== Sys2Proof/Machine/ExecQueue.lean ====
section
/-! DEFINITION. Commands: Queues (R318–R344). -/

namespace Sys2Proof.Machine

/-- PACKET_SOP, R325: An SOP word names a queue; admission is decided and cells reserved, or the packet is refused,
absent or in refill, with threshold firing. -/
def execPacketSop (ctx : Nat) (queue : Nat) (maxLen : Nat) (dest : Nat) (tag : Nat) (s : State) : Host.Outcome State
    Fault Refusal :=
  .next (s.runOn (fun b => b.sop ctx queue maxLen dest tag))

/-- PACKET_EOP, R326: The EOP word commits the packet, writes its length and COMMIT, returns unused cells and makes it
visible 4 clocks later. -/
def execPacketEop (ctx : Nat) (data : List Byte) (s : State) : Host.Outcome State Fault Refusal :=
  .next (s.runOn (fun b => b.eop ctx data))

/-- PACKET_REWIND, R327: A BAD word, an invalid buffer, a length overrun or a producer slice reset rewinds the open
packet and returns its cells. -/
def execPacketRewind (ctx : Nat) (overrun : Bool) (s : State) : Host.Outcome State Fault Refusal :=
  .next (s.runOn (fun b => b.rewindFor ctx overrun))

/-- QUEUE_READ, R330: A consumer reads the head packet word by word, with ECC and pointer checks, or gets EMPTY. -/
def execQueueRead (queue : Nat) (check : ReadCheck) (s : State) : Host.Outcome State Fault Refusal :=
  .next (s.runOn (fun b => b.readHead queue check))

/-- QUEUE_RELEASE, R331: The consumer ends a HOLD head packet with RELEASE and its cells are returned. -/
def execQueueRelease (queue : Nat) (s : State) : Host.Outcome State Fault Refusal :=
  .next (s.runOn (fun b => b.release queue))

/-- QUEUE_REREAD, R331: The consumer ends a HOLD head packet with REREAD and it stays at the head to be read again. -/
def execQueueReread (queue : Nat) (s : State) : Host.Outcome State Fault Refusal :=
  .next (s.runOn (fun b => b.reread queue))

/-- QUEUE_FAIL, R332: FAIL removes a lossy packet, or holds an assured head packet and discards it when HEAD_FAILS
reaches FAIL_MAX. -/
def execQueueFail (queue : Nat) (s : State) : Host.Outcome State Fault Refusal :=
  .next (s.runOn (fun b => b.failHead queue))

/-- QMG_CMD_NOP, R344: QMG_CMD NOP does nothing. -/
def execQmgCmdNop (queue : Nat) (s : State) : Host.Outcome State Fault Refusal :=
  .next (s.runReg (fun b => b.qmgCmd 0 queue))

/-- QMG_CMD_FLUSH, R335: FLUSH of a queue is accepted (assured queues only in M10) and waits for its flush point. -/
def execQmgCmdFlush (queue : Nat) (s : State) : Host.Outcome State Fault Refusal :=
  .next (s.runReg (fun b => b.qmgCmd 1 queue))

/-- FLUSH_POINT, R335: At the flush point every packet committed before it is removed and counted. -/
def execFlushPoint (queue : Nat) (s : State) : Host.Outcome State Fault Refusal :=
  .next (s.runOn (fun b => b.flushPoint queue))

/-- QMG_CMD_FORCE_RESET, R340: In M10, FORCE_RESET resets the queue as for a fault. -/
def execQmgCmdForceReset (queue : Nat) (s : State) : Host.Outcome State Fault Refusal :=
  .next (s.runReg (fun b => b.qmgCmd 2 queue))

/-- REFILL_COMPLETE, R368: Custody has rewritten the journalled packets into a queue in REFILL and returns it to
normal. -/
def execRefillComplete (queue : Nat) (s : State) : Host.Outcome State Fault Refusal :=
  .next (s.runOn (fun b => b.refillComplete queue))

end Sys2Proof.Machine
end

