-- ==== Sys2Proof/Machine/ExecReg.lean ====
section
/-! DEFINITION. Commands: The register interface (R494–R504). -/

namespace Sys2Proof.Machine

/-- QMG_SEL_WRITE, R344: A write of QMG_SEL latches the queue view and per-queue counters. -/
def execQmgSelWrite (path : Path) (value : Word) (s : State) : Host.Outcome State Fault Refusal :=
  .next (s.runReg (fun b => b.listedWrite path 0xA0010 value.toNat))

/-- CUS_SEL_WRITE, R385: A write of CUS_SEL latches the channel view. -/
def execCusSelWrite (path : Path) (value : Word) (s : State) : Host.Outcome State Fault Refusal :=
  .next (s.runReg (fun b => b.listedWrite path 0xB0040 value.toNat))

/-- TIM_LINK_SEL_WRITE, R250: A write of TIM_LINK_SEL latches the calibration record view. -/
def execTimLinkSelWrite (path : Path) (value : Word) (s : State) : Host.Outcome State Fault Refusal :=
  .next (s.runReg (fun b => b.listedWrite path 0x40100 value.toNat))

/-- PHY_LQ_PEER_WRITE, R208: A write of PHY_LQ_PEER latches the peer's link-quality record. -/
def execPhyLqPeerWrite (path : Path) (value : Word) (s : State) : Host.Outcome State Fault Refusal :=
  .next (s.runReg (fun b => b.listedWrite path 0x70180 value.toNat))

/-- MAC_PEER_SEL_WRITE, R288: A write of MAC_PEER_SEL latches the peer's duplicate record view. -/
def execMacPeerSelWrite (path : Path) (value : Word) (s : State) : Host.Outcome State Fault Refusal :=
  .next (s.runReg (fun b => b.listedWrite path 0x80080 value.toNat))

/-- TRB_SHD_ADDR_WRITE, R475: A write of TRB_SHD_ADDR latches the shadow value of the named counter, or sets
NOT_COUNTER. -/
def execTrbShdAddrWrite (path : Path) (value : Word) (s : State) : Host.Outcome State Fault Refusal :=
  .next (s.runReg (fun b => b.listedWrite path 0x20030 value.toNat))

/-- TRB_CLASS_SEL_WRITE, R478: A write of TRB_CLASS_SEL latches the WINDOW and THRESH of the selected class. -/
def execTrbClassSelWrite (path : Path) (value : Word) (s : State) : Host.Outcome State Fault Refusal :=
  .next (s.runReg (fun b => b.listedWrite path 0x2001C value.toNat))

/-- TRU_BLK_SEL_WRITE, R436: A write of TRU_BLK_SEL latches the block view. -/
def execTruBlkSelWrite (path : Path) (value : Word) (s : State) : Host.Outcome State Fault Refusal :=
  .next (s.runReg (fun b => b.listedWrite path 0xE0030 value.toNat))

/-- COUNTER_LOW_READ, R473: Reading the low word of a 64-bit counter or multi-word value latches its high words. -/
def execCounterLowRead (path : Path) (addr : Word) (s : State) : Host.Outcome State Fault Refusal :=
  .next (s.runOtp (viaBus (fun b o => readAccess path addr.toNat b o)))

/-- RESERVED_ACCESS, R6: An access to reserved space, or of wrong width or alignment, reads 0, has no effect and
counts in the owning undefined-access counter. -/
def execReservedAccess (addr : Word) (size : Nat) (write : Bool) (s : State) : Host.Outcome State Fault Refusal :=
  .next (s.runOtp (viaBus (fun b o => reservedAccess addr.toNat size write b o)))

/-- REGISTER_WRITE, R8: A write to a register without its own row applies under its access code (RW, W1C, W1S), or is
refused and leaves the register unchanged. -/
def execRegisterWrite (path : Path) (addr : Word) (value : Word) (s : State) : Host.Outcome State Fault Refusal :=
  .next (s.runOtp (viaBus (fun b o => busWrite path addr.toNat value.toNat b o)))

/-- DEBUG_STEP, R502: Setting STEP in DBG_CTRL executes one instruction bundle of a halted spindle. -/
def execDebugStep (slice : Nat) (spindle : Nat) (s : State) : Host.Outcome State Fault Refusal :=
  .next (s.runOtp (viaBus (fun b o => busWrite .host (debugAddr slice spindle 0) 2 b o)))

/-- CLC_HALT_WRITE, R501: Writing CLC_HALT halts spindles at their next tick-end instruction, or resumes them at the
next tick boundary. -/
def execClcHaltWrite (slice : Nat) (cluster : Nat) (value : Word) (s : State) : Host.Outcome State Fault Refusal :=
  .next (s.runOtp (viaBus (fun b o => busWrite .host (haltAddr slice cluster) value.toNat b o)))

/-- DBG_MEM_DATA_ACCESS, R502: An access to DBG_MEM_DATA reads or writes the data-memory word and advances the address
by 4. -/
def execDbgMemDataAccess (slice : Nat) (spindle : Nat) (value : Option Word) (s : State) : Host.Outcome State Fault
    Refusal :=
  .next (s.runOtp (viaBus (fun b o => memDataAccess slice spindle value b o)))

end Sys2Proof.Machine
end

