-- ==== Sys2Proof/Machine/ExecSec.lean ====
section
/-! DEFINITION. Commands: SEC_CMD (R479–R492). -/

namespace Sys2Proof.Machine

/-- SEC_CMD_NOP, R492: SEC_CMD NOP does nothing. -/
def execSecCmdNop (s : State) : Host.Outcome State Fault Refusal :=
  .next (s.runOtp (viaBus (fun b o => secCmd 0 0 0 b o)))

/-- SEC_CMD_ATTEST, R491: A signed attestation report is built into SEC_REPORT, or the command is refused with
ATTEST_BUSY. -/
def execSecCmdAttest (s : State) : Host.Outcome State Fault Refusal :=
  .next (s.runOtp (viaBus (fun b o => secCmd 1 0 0 b o)))

/-- ATTEST_DONE, R491: The attestation report, signed by the device key, is complete within 10 ms. -/
def execAttestDone (s : State) : Host.Outcome State Fault Refusal :=
  .next (s.runOn (fun b => b.attestDone))

/-- SEC_CMD_ENROLL_OWNER, R482: An owner key is enrolled into an OTP slot when the staged statement verifies. -/
def execSecCmdEnrollOwner (slot : Nat) (confirm : Nat) (s : State) : Host.Outcome State Fault Refusal :=
  .next (s.runOtp (viaBus (fun b o => secCmd 2 slot confirm b o)))

/-- SEC_CMD_REVOKE_OWNER, R482: An owner slot is revoked when another unrevoked slot signs the statement. -/
def execSecCmdRevokeOwner (slot : Nat) (confirm : Nat) (s : State) : Host.Outcome State Fault Refusal :=
  .next (s.runOtp (viaBus (fun b o => secCmd 3 slot confirm b o)))

/-- SEC_CMD_REVOKE_VENDOR, R482: A vendor key is revoked when the other vendor key signs the statement. -/
def execSecCmdRevokeVendor (key : Nat) (confirm : Nat) (s : State) : Host.Outcome State Fault Refusal :=
  .next (s.runOtp (viaBus (fun b o => secCmd 4 key confirm b o)))

/-- SEC_CMD_EPOCH_ADVANCE, R486: The coordinator advances the network key epoch by sending KEY_UPDATE. -/
def execSecCmdEpochAdvance (s : State) : Host.Outcome State Fault Refusal :=
  .next (s.runOtp (viaBus (fun b o => secCmd 5 0 0 b o)))

/-- SEC_CMD_BAR, R488: The staged EUI-64 is added to the bar list and an advance that excludes it starts. -/
def execSecCmdBar (s : State) : Host.Outcome State Fault Refusal :=
  .next (s.runOtp (viaBus (fun b o => secCmd 6 0 0 b o)))

/-- SEC_CMD_UNBAR, R488: The staged EUI-64 is removed from the bar list. -/
def execSecCmdUnbar (s : State) : Host.Outcome State Fault Refusal :=
  .next (s.runOtp (viaBus (fun b o => secCmd 7 0 0 b o)))

end Sys2Proof.Machine
end

