-- ==== Sys2Proof/Machine/ExecSensor.lean ====
section
/-! DEFINITION. Commands: Sensor inputs (R386–R404). -/

namespace Sys2Proof.Machine

/-- SCAN_START, R389: A sensor scan starts at the tick boundary after SCAN_PERIOD, or back to back. -/
def execScanStart (s : State) : Host.Outcome State Fault Refusal :=
  .next (s.runOn (fun b => b.scanStart))

/-- SAMPLE_COMPLETE, R390: The last conversion of a sample ends; excitation goes off, the record is written with its
flags and autoranging applied, and the next channel begins. -/
def execSampleComplete (report : SampleReport) (s : State) : Host.Outcome State Fault Refusal :=
  .next (s.runOn (fun b => b.sampleComplete report))

/-- COMPLIANCE_TRIP, R397: An open excitation loop trips the compliance comparator; the conversion aborts and an OPEN
sample is written. -/
def execComplianceTrip (chan : Nat) (s : State) : Host.Outcome State Fault Refusal :=
  .next (s.runOn (fun b => b.complianceTrip chan))

/-- CLAMP_ONSET, R395: A channel's input clamp starts conducting; CLAMP and CLAMP_SEEN are set and counted. -/
def execClampOnset (channel : Nat) (s : State) : Host.Outcome State Fault Refusal :=
  .next (s.runOn (fun b => b.clampOnset channel))

/-- IMP_CHECK_DUE, R396: Every IMP_PERIOD × 100 ms a tone impedance check runs on each enabled channel and sets OPEN
or IMP_FAIL. -/
def execImpCheckDue (impedances : List Nat) (s : State) : Host.Outcome State Fault Refusal :=
  .next (s.runOn (fun b => b.impCheckDue impedances))

/-- SEN_CMD_NOP, R404: SEN_CMD NOP does nothing. -/
def execSenCmdNop (s : State) : Host.Outcome State Fault Refusal :=
  .next (s.runReg (fun b => b.senCmd 0 0))

/-- SEN_CMD_IMP_CHECK, R396: An on-demand impedance check is run on the named channel. -/
def execSenCmdImpCheck (channel : Nat) (impedance : Nat) (s : State) : Host.Outcome State Fault Refusal :=
  .next (s.runReg (fun b => b.impCheckCmd channel impedance))

/-- SEN_CMD_RESTART_SCAN, R404: The sensor scan restarts at the next tick boundary. -/
def execSenCmdRestartScan (s : State) : Host.Outcome State Fault Refusal :=
  .next (s.runReg (fun b => b.senCmd 2 0))

end Sys2Proof.Machine
end

