-- ==== Sys2Proof/Machine/ExecSerial.lean ====
section
/-! DEFINITION. Commands: Serial ports (R405–R421). -/

namespace Sys2Proof.Machine

/-- CHARACTER_RECEIVED, R407: A serial character completes at its first stop-bit centre and enters the holding
register or the mover's packet, with PE, FE, BREAK, glitch and overrun handling. -/
def execCharacterReceived (port : Nat) (report : CharReport) (s : State) : Host.Outcome State Fault Refusal :=
  .next (s.run (fun b => b.charReceived port report))

/-- LINE_STUCK, R408: RXD stays low for STUCK_CHARS character times after a BREAK; LINE_STUCK is set and counted. -/
def execLineStuck (port : Nat) (s : State) : Host.Outcome State Fault Refusal :=
  .next (s.runOn (fun b => b.lineStuck port))

/-- LINE_IDLE, R409: RXD stays high one character time after the last stop bit; IDLE is set and, with CLOSE_IDLE, the
packet closes. -/
def execLineIdle (port : Nat) (s : State) : Host.Outcome State Fault Refusal :=
  .next (s.runOn (fun b => b.lineIdle port))

/-- PACKET_AGE_EXPIRY, R413: PKT_TICKS ticks after the first character the open receive packet is closed and
committed. -/
def execPacketAgeExpiry (port : Nat) (s : State) : Host.Outcome State Fault Refusal :=
  .next (s.runOn (fun b => b.serAge port))

/-- SER_TXD_WRITE, R414: A write of SER_TXD loads a character or break into the transmit holding register, or is
refused. -/
def execSerTxdWrite (port : Nat) (value : Word) (s : State) : Host.Outcome State Fault Refusal :=
  .next (s.runReg (fun b => b.serTxd port value.toNat))

/-- TX_CHARACTER_COMPLETE, R414: A character's stop bits end and the next character from the holding register or
TX_QUEUE is sent, or the DE tail begins. -/
def execTxCharacterComplete (port : Nat) (s : State) : Host.Outcome State Fault Refusal :=
  .next (s.runOn (fun b => b.txCharComplete port))

/-- DE_TAIL_END, R415: TAIL sixteenths after the last stop bit, DE falls, and the echo mask ends one bit later. -/
def execDeTailEnd (report : TailEnd) (s : State) : Host.Outcome State Fault Refusal :=
  .next (s.runOn (fun b => b.deTailEnd report.port report.time))

/-- SER_DATA_READ, R421: Reading SER_DATA after SER_STAT completes the RSC sequence and clears FE, PE and OE. -/
def execSerDataRead (port : Nat) (s : State) : Host.Outcome State Fault Refusal :=
  .next (s.runReg (fun b => b.serDataRead port))

/-- SERIAL_WAKE, R417: In M9 a falling edge on RXD starts the fast oscillator, receives into the wake buffer and
requests exit from Standby. -/
def execSerialWake (port : Nat) (report : CharReport) (s : State) : Host.Outcome State Fault Refusal :=
  .next (s.run (fun b => b.serialWake port report))

end Sys2Proof.Machine
end

