-- ==== Sys2Proof/Machine/ExecTime.lean ====
section
/-! DEFINITION. Commands: Time (R209–R250). -/

namespace Sys2Proof.Machine

/-- EVENT_EDGE, R242: A rising edge on EVT0–EVT3 is timestamped and recorded in TIM_EVT_LAST and the event queue, or
discarded when closer than 100 ns to the previous one. -/
def execEventEdge (input : Nat) (time : Nat) (s : State) : Host.Outcome State Fault Refusal :=
  .next (s.runOn (fun b => b.eventEdge input time))

/-- PPS_IN_EDGE, R218: A PPS_IN rising edge is timestamped and, with an armed label, gives the coordinator's step or a
source measurement, or is rejected. -/
def execPpsInEdge (time : Nat) (s : State) : Host.Outcome State Fault Refusal :=
  .next (s.runOn (fun b => b.ppsEdge time))

/-- PPS_IN_TIMEOUT, R218: No PPS_IN edge arrives for 1.5 s; the source is declared lost and the coordinator enters
holdover. -/
def execPpsInTimeout (s : State) : Host.Outcome State Fault Refusal :=
  .next (s.runOn (fun b => b.ppsTimeout))

/-- REF_IN_LOSS, R219: REF_IN is out of frequency or level for 10 µs; the system clock changes over to the OCXO and
REF_SWITCH is set. -/
def execRefInLoss (offset : Int) (s : State) : Host.Outcome State Fault Refusal :=
  .next (s.runOn (fun b => b.refLoss offset))

/-- TOD_LABEL_ARM, R218: A write to TIM_TOD_SEC_LO arms the seconds label for the next PPS_IN edge. -/
def execTodLabelArm (seconds : Word) (s : State) : Host.Outcome State Fault Refusal :=
  .next (s.runReg (fun b => b.listedWrite .host 0x40074 seconds.toNat))

/-- TIM_CMD_NOP, R250: TIM_CMD NOP does nothing. -/
def execTimCmdNop (s : State) : Host.Outcome State Fault Refusal :=
  .next (s.runReg (fun b => b.timCmd 0))

/-- TIM_CMD_STEP, R220: In M10 at the coordinator, the armed label or PTP time is applied as a step of network time at
the next block boundary and held anchors are rebased. -/
def execTimCmdStep (s : State) : Host.Outcome State Fault Refusal :=
  .next (s.runReg (fun b => b.timCmd 1))

/-- TIM_CMD_CAL_SAVE, R234: Learned values and residual statistics of the calibration records are saved to NAND. -/
def execTimCmdCalSave (s : State) : Host.Outcome State Fault Refusal :=
  .next (s.runReg (fun b => b.timCmd 2))

/-- CAL_RECORD_SAVE, R234: The hourly save writes learned calibration values and residuals to NAND. -/
def execCalRecordSave (s : State) : Host.Outcome State Fault Refusal :=
  .next (s.runOn (fun b => b.calSave))

/-- HOLDOVER_ENTRY, R238: HOLD_MISS opportunities pass without a measurement (or a beacon or source is lost); y
freezes, HOLDOVER is set and the bound starts to grow. -/
def execHoldoverEntry (far : Bool) (s : State) : Host.Outcome State Fault Refusal :=
  .next (s.runOn (fun b => b.holdoverEntry far))

/-- OUTPUT_ENABLE, R69: Once the time unit locks or FORCE applies, PPS_OUT, REF_OUT and PPS_LV start driving at a
whole second or a zero crossing. -/
def execOutputEnable (s : State) : Host.Outcome State Fault Refusal :=
  .next (s.runOn (fun b => b.outputEnable))

/-- OUTPUT_SQUELCH, R241: TIM_BOUND exceeds SQUELCH_BOUND; the outputs go to high impedance and SQUELCH is set, and
they return when the bound falls to half. -/
def execOutputSquelch (s : State) : Host.Outcome State Fault Refusal :=
  .next (s.runOn (fun b => b.outputSquelch))

/-- PTP_MESSAGE_RX, R246: An IEEE 1588 event or general message is received and timestamped on a host port and handled
by the ordinary or boundary clock. -/
def execPtpMessageRx (port portState : Nat) (report : PtpReport) (s : State) : Host.Outcome State Fault Refusal :=
  .next (s.runOn (fun b => b.ptpRx port portState report.sync report.inaccuracy))

/-- PTP_INTERVAL_TX, R246: A PTP sync, announce or delay-request interval expires and the message is sent, as master
advertising the clockClass of R247. -/
def execPtpIntervalTx (port : Nat) (s : State) : Host.Outcome State Fault Refusal :=
  .next (s.runOn (fun b => b.ptpTx port))

/-- TIMING_TREE_RECOMPUTE, R243: The coordinator recomputes the timing tree after a cost change, a join or a loss, at
most once per 10 s. -/
def execTimingTreeRecompute (s : State) : Host.Outcome State Fault Refusal :=
  .next (s.runOn (fun b => b.treeRecompute))

/-- ASSIGNMENT_APPLY, R301: At the named period boundary a node applies its ASSIGN assignment; a new timing parent
sets PARENT_CHANGE and ACQUIRING. -/
def execAssignmentApply (s : State) : Host.Outcome State Fault Refusal :=
  .next (s.runOn (fun b => b.assignApply))

end Sys2Proof.Machine
end

