-- ==== Sys2Proof/Machine/ExecTruing.lean ====
section
/-! DEFINITION. Commands: Truing (R422–R436). -/

namespace Sys2Proof.Machine

/-- TRU_PERIOD_EXPIRY, R425: TRU_PERIOD seconds after a block's last completion the block becomes due. -/
def execTruPeriodExpiry (block : Nat) (s : State) : Host.Outcome State Fault Refusal :=
  .next (s.runOn (fun b => b.truPeriod block))

/-- TEMP_DELTA_TRIGGER, R425: The baseplate temperature moves TEMP_DELTA from a block's last completion and the block
becomes due. -/
def execTempDeltaTrigger (block : Nat) (temp : Int) (s : State) : Host.Outcome State Fault Refusal :=
  .next (s.runOn (fun b => b.truTemp block temp))

/-- TRU_CMD, R425: A write of TRU_CMD makes the blocks of its mask due, or is refused in the listed modes. -/
def execTruCmd (mask : Word) (s : State) : Host.Outcome State Fault Refusal :=
  .next (s.runReg (fun b => b.truCmdRow mask.toNat))

/-- TRUING_PASS, R427: A truing pass runs on a port in an eligible quiet or contention run, suppressing its receive
samples. -/
def execTruingPass (block : Nat) (valid : Bool) (s : State) : Host.Outcome State Fault Refusal :=
  .next (s.runOn (fun b => b.truingPass block valid))

/-- TRUING_BLOCK_COMPLETE, R429: A block's corrections are computed and accepted or rejected, the coupler is checked,
and completion counts and times are recorded. -/
def execTruingBlockComplete (block : Nat) (report : TruReport) (s : State) : Host.Outcome State Fault Refusal :=
  .next (s.runOn (fun b => b.truingComplete block report))

end Sys2Proof.Machine
end

