-- ==== Sys2Proof/Machine/Dispatch.lean ====
section
/-! DEFINITION. The dispatch: every command to its meaning. -/

namespace Sys2Proof.Machine

/-- The effect of a command on everything but the queue. -/
def exec (i : Instr) (s : State) : Host.Outcome State Fault Refusal :=
  match i with
  | .powerOn temp => Sys2Proof.Machine.execPowerOn temp s
  | .warmResetPin => Sys2Proof.Machine.execWarmResetPin s
  | .resetRelease => Sys2Proof.Machine.execResetRelease s
  | .bootStart bootSel => Sys2Proof.Machine.execBootStart bootSel s
  | .carrierIdRead bytes => Sys2Proof.Machine.execCarrierIdRead bytes s
  | .imageLoadComplete readOk => Sys2Proof.Machine.execImageLoadComplete readOk s
  | .ddr4TrainingDone => Sys2Proof.Machine.execDdr4TrainingDone s
  | .ocxoReady => Sys2Proof.Machine.execOcxoReady s
  | .truingExit => Sys2Proof.Machine.execTruingExit s
  | .tick obs => Sys2Proof.Machine.execTick obs s
  | .gridStep => Sys2Proof.Machine.execGridStep s
  | .halfCycleAnchor => Sys2Proof.Machine.execHalfCycleAnchor s
  | .l1CrossingTimeout => Sys2Proof.Machine.execL1CrossingTimeout s
  | .spurCrossing phase report => Sys2Proof.Machine.execSpurCrossing phase report s
  | .spurRmsUpdate l1 l2 l3 => Sys2Proof.Machine.execSpurRmsUpdate l1 l2 l3 s
  | .flushComplete us => Sys2Proof.Machine.execFlushComplete us s
  | .nppSwap sums => Sys2Proof.Machine.execNppSwap sums s
  | .sprNppCtrlWrite value => Sys2Proof.Machine.execSprNppCtrlWrite value s
  | .baseplateOverTemp => Sys2Proof.Machine.execBaseplateOverTemp s
  | .baseplateTempNormal => Sys2Proof.Machine.execBaseplateTempNormal s
  | .thermalShutdown => Sys2Proof.Machine.execThermalShutdown s
  | .vauxOverload => Sys2Proof.Machine.execVauxOverload s
  | .vauxRetry => Sys2Proof.Machine.execVauxRetry s
  | .sfpInsert cage declared => Sys2Proof.Machine.execSfpInsert cage declared s
  | .sfpRemove cage => Sys2Proof.Machine.execSfpRemove cage s
  | .tapReset => Sys2Proof.Machine.execTapReset s
  | .tapBypass => Sys2Proof.Machine.execTapBypass s
  | .tapSamplePreload inputs preload => Sys2Proof.Machine.execTapSamplePreload inputs preload s
  | .tapExtest inputs => Sys2Proof.Machine.execTapExtest inputs s
  | .tapIdcode => Sys2Proof.Machine.execTapIdcode s
  | .eventEdge input time => Sys2Proof.Machine.execEventEdge input time s
  | .ppsInEdge time => Sys2Proof.Machine.execPpsInEdge time s
  | .ppsInTimeout => Sys2Proof.Machine.execPpsInTimeout s
  | .refInLoss offset => Sys2Proof.Machine.execRefInLoss offset s
  | .todLabelArm seconds => Sys2Proof.Machine.execTodLabelArm seconds s
  | .timCmdNop => Sys2Proof.Machine.execTimCmdNop s
  | .timCmdStep => Sys2Proof.Machine.execTimCmdStep s
  | .timCmdCalSave => Sys2Proof.Machine.execTimCmdCalSave s
  | .calRecordSave => Sys2Proof.Machine.execCalRecordSave s
  | .holdoverEntry far => Sys2Proof.Machine.execHoldoverEntry far s
  | .outputEnable => Sys2Proof.Machine.execOutputEnable s
  | .outputSquelch => Sys2Proof.Machine.execOutputSquelch s
  | .ptpMessageRx port portState report => Sys2Proof.Machine.execPtpMessageRx port portState report s
  | .ptpIntervalTx port => Sys2Proof.Machine.execPtpIntervalTx port s
  | .timingTreeRecompute => Sys2Proof.Machine.execTimingTreeRecompute s
  | .assignmentApply => Sys2Proof.Machine.execAssignmentApply s
  | .frameTxStart band temps limitNs => Sys2Proof.Machine.execFrameTxStart band temps limitNs s
  | .segmentTx report => Sys2Proof.Machine.execSegmentTx report s
  | .driverThermalShutdown report => Sys2Proof.Machine.execDriverThermalShutdown report s
  | .driverThermalRecover report => Sys2Proof.Machine.execDriverThermalRecover report s
  | .foldbackRelax driver => Sys2Proof.Machine.execFoldbackRelax driver s
  | .notchWrite entry word => Sys2Proof.Machine.execNotchWrite entry word s
  | .preambleDeclare band port report => Sys2Proof.Machine.execPreambleDeclare band port report s
  | .syncFound place report => Sys2Proof.Machine.execSyncFound place report s
  | .syncSearchTimeout place reps => Sys2Proof.Machine.execSyncSearchTimeout place reps s
  | .agcSaturationRelease band report => Sys2Proof.Machine.execAgcSaturationRelease band report s
  | .headerReceived place soft train => Sys2Proof.Machine.execHeaderReceived place soft train s
  | .followOnHeader band port soft => Sys2Proof.Machine.execFollowOnHeader band port soft s
  | .segmentSearch band port report => Sys2Proof.Machine.execSegmentSearch band port report s
  | .erasureAbort place report => Sys2Proof.Machine.execErasureAbort place report s
  | .rxFrameEnd band port report => Sys2Proof.Machine.execRxFrameEnd band port report s
  | .captureArm port band trig => Sys2Proof.Machine.execCaptureArm port band trig s
  | .captureTrigger kind => Sys2Proof.Machine.execCaptureTrigger kind s
  | .captureStop => Sys2Proof.Machine.execCaptureStop s
  | .captureEnd => Sys2Proof.Machine.execCaptureEnd s
  | .beaconTx => Sys2Proof.Machine.execBeaconTx s
  | .beaconRx => Sys2Proof.Machine.execBeaconRx s
  | .timingRequestTx => Sys2Proof.Machine.execTimingRequestTx s
  | .timingReplyTx => Sys2Proof.Machine.execTimingReplyTx s
  | .timingRx => Sys2Proof.Machine.execTimingRx s
  | .contentionAccess band ask => Sys2Proof.Machine.execContentionAccess band ask s
  | .dataRx queue => Sys2Proof.Machine.execDataRx queue s
  | .ackTx band => Sys2Proof.Machine.execAckTx band s
  | .ackRx => Sys2Proof.Machine.execAckRx s
  | .ackTimeout band => Sys2Proof.Machine.execAckTimeout band s
  | .blockAckTx draw => Sys2Proof.Machine.execBlockAckTx draw s
  | .blockAckRx => Sys2Proof.Machine.execBlockAckRx s
  | .blockAckTimeout band => Sys2Proof.Machine.execBlockAckTimeout band s
  | .pollRx => Sys2Proof.Machine.execPollRx s
  | .wakeWindowOpen => Sys2Proof.Machine.execWakeWindowOpen s
  | .wakeHoldExpiry => Sys2Proof.Machine.execWakeHoldExpiry s
  | .beaconMiss => Sys2Proof.Machine.execBeaconMiss s
  | .beaconSearchTimeout => Sys2Proof.Machine.execBeaconSearchTimeout s
  | .quietWindowStart band => Sys2Proof.Machine.execQuietWindowStart band s
  | .quietWindowEnd band => Sys2Proof.Machine.execQuietWindowEnd band s
  | .mapEval profiles => Sys2Proof.Machine.execMapEval profiles s
  | .joinTx => Sys2Proof.Machine.execJoinTx s
  | .leaseExpiry addr => Sys2Proof.Machine.execLeaseExpiry addr s
  | .linkReportTx => Sys2Proof.Machine.execLinkReportTx s
  | .linkReport => Sys2Proof.Machine.execLinkReport s
  | .routeSet seq period entries => Sys2Proof.Machine.execRouteSet seq period entries s
  | .assign period bytes collector => Sys2Proof.Machine.execAssign period bytes collector s
  | .linkDown node link reporter => Sys2Proof.Machine.execLinkDown node link reporter s
  | .reportBundle reports => Sys2Proof.Machine.execReportBundle reports s
  | .routeRecompute => Sys2Proof.Machine.execRouteRecompute s
  | .routeEpochApply => Sys2Proof.Machine.execRouteEpochApply s
  | .nodeLostTimeout addr => Sys2Proof.Machine.execNodeLostTimeout addr s
  | .sweepStart windows => Sys2Proof.Machine.execSweepStart windows s
  | .sweep => Sys2Proof.Machine.execSweep s
  | .collectFrameTx => Sys2Proof.Machine.execCollectFrameTx s
  | .collectWindowDecode window rev passes => Sys2Proof.Machine.execCollectWindowDecode window rev passes s
  | .modeRequest => Sys2Proof.Machine.execModeRequest s
  | .snapshot => Sys2Proof.Machine.execSnapshot s
  | .keyUpdate => Sys2Proof.Machine.execKeyUpdate s
  | .keyLow => Sys2Proof.Machine.execKeyLow s
  | .joinRelay => Sys2Proof.Machine.execJoinRelay s
  | .hello => Sys2Proof.Machine.execHello s
  | .challenge => Sys2Proof.Machine.execChallenge s
  | .proof => Sys2Proof.Machine.execProof s
  | .grant => Sys2Proof.Machine.execGrant s
  | .refuseJoin => Sys2Proof.Machine.execRefuseJoin s
  | .joinerStateExpiry eui => Sys2Proof.Machine.execJoinerStateExpiry eui s
  | .keyPeriodExpiry => Sys2Proof.Machine.execKeyPeriodExpiry s
  | .epochSwitch => Sys2Proof.Machine.execEpochSwitch s
  | .keyGraceExpiry => Sys2Proof.Machine.execKeyGraceExpiry s
  | .packetSop ctx queue maxLen dest tag => Sys2Proof.Machine.execPacketSop ctx queue maxLen dest tag s
  | .packetEop ctx data => Sys2Proof.Machine.execPacketEop ctx data s
  | .packetRewind ctx overrun => Sys2Proof.Machine.execPacketRewind ctx overrun s
  | .queueRead queue check => Sys2Proof.Machine.execQueueRead queue check s
  | .queueRelease queue => Sys2Proof.Machine.execQueueRelease queue s
  | .queueReread queue => Sys2Proof.Machine.execQueueReread queue s
  | .queueFail queue => Sys2Proof.Machine.execQueueFail queue s
  | .qmgCmdNop queue => Sys2Proof.Machine.execQmgCmdNop queue s
  | .qmgCmdFlush queue => Sys2Proof.Machine.execQmgCmdFlush queue s
  | .flushPoint queue => Sys2Proof.Machine.execFlushPoint queue s
  | .qmgCmdForceReset queue => Sys2Proof.Machine.execQmgCmdForceReset queue s
  | .refillComplete queue => Sys2Proof.Machine.execRefillComplete queue s
  | .hostData port msg => Sys2Proof.Machine.execHostData port msg s
  | .hostAck port msg => Sys2Proof.Machine.execHostAck port msg s
  | .hostCredit port msg => Sys2Proof.Machine.execHostCredit port msg s
  | .resync port msg => Sys2Proof.Machine.execResync port msg s
  | .runudomMalformed port msg => Sys2Proof.Machine.execRunudomMalformed port msg s
  | .regRequest port msg => Sys2Proof.Machine.execRegRequest port msg s
  | .hostAckTx channel => Sys2Proof.Machine.execHostAckTx channel s
  | .hostDeliver channel => Sys2Proof.Machine.execHostDeliver channel s
  | .hostRetransmit channel => Sys2Proof.Machine.execHostRetransmit channel s
  | .custodyDataRx => Sys2Proof.Machine.execCustodyDataRx s
  | .receiptTx channel => Sys2Proof.Machine.execReceiptTx channel s
  | .custodyReceiptRx => Sys2Proof.Machine.execCustodyReceiptRx s
  | .e2eTimeout channel => Sys2Proof.Machine.execE2eTimeout channel s
  | .reassemblyTimeout channel => Sys2Proof.Machine.execReassemblyTimeout channel s
  | .streamTx stream => Sys2Proof.Machine.execStreamTx stream s
  | .custodyRestore crcOk => Sys2Proof.Machine.execCustodyRestore crcOk s
  | .flushSlotErased => Sys2Proof.Machine.execFlushSlotErased s
  | .scanStart => Sys2Proof.Machine.execScanStart s
  | .sampleComplete report => Sys2Proof.Machine.execSampleComplete report s
  | .complianceTrip chan => Sys2Proof.Machine.execComplianceTrip chan s
  | .clampOnset channel => Sys2Proof.Machine.execClampOnset channel s
  | .impCheckDue impedances => Sys2Proof.Machine.execImpCheckDue impedances s
  | .senCmdNop => Sys2Proof.Machine.execSenCmdNop s
  | .senCmdImpCheck channel impedance => Sys2Proof.Machine.execSenCmdImpCheck channel impedance s
  | .senCmdRestartScan => Sys2Proof.Machine.execSenCmdRestartScan s
  | .characterReceived port report => Sys2Proof.Machine.execCharacterReceived port report s
  | .lineStuck port => Sys2Proof.Machine.execLineStuck port s
  | .lineIdle port => Sys2Proof.Machine.execLineIdle port s
  | .packetAgeExpiry port => Sys2Proof.Machine.execPacketAgeExpiry port s
  | .serTxdWrite port value => Sys2Proof.Machine.execSerTxdWrite port value s
  | .txCharacterComplete port => Sys2Proof.Machine.execTxCharacterComplete port s
  | .deTailEnd report => Sys2Proof.Machine.execDeTailEnd report s
  | .serDataRead port => Sys2Proof.Machine.execSerDataRead port s
  | .serialWake port report => Sys2Proof.Machine.execSerialWake port report s
  | .truPeriodExpiry block => Sys2Proof.Machine.execTruPeriodExpiry block s
  | .tempDeltaTrigger block temp => Sys2Proof.Machine.execTempDeltaTrigger block temp s
  | .truCmd mask => Sys2Proof.Machine.execTruCmd mask s
  | .truingPass block valid => Sys2Proof.Machine.execTruingPass block valid s
  | .truingBlockComplete block report => Sys2Proof.Machine.execTruingBlockComplete block report s
  | .pwrModeReq mode => Sys2Proof.Machine.execPwrModeReq mode s
  | .modeTransition => Sys2Proof.Machine.execModeTransition s
  | .dozeEntry => Sys2Proof.Machine.execDozeEntry s
  | .standbyEntry => Sys2Proof.Machine.execStandbyEntry s
  | .standbyTimerExpiry => Sys2Proof.Machine.execStandbyTimerExpiry s
  | .wakeNWake => Sys2Proof.Machine.execWakeNWake s
  | .standbyExit digestOk xtalNs => Sys2Proof.Machine.execStandbyExit digestOk xtalNs s
  | .maintenanceEntry => Sys2Proof.Machine.execMaintenanceEntry s
  | .loadEnableRequest load deadline => Sys2Proof.Machine.execLoadEnableRequest load deadline s
  | .rationGrant => Sys2Proof.Machine.execRationGrant s
  | .pwrCmdNop => Sys2Proof.Machine.execPwrCmdNop s
  | .pwrCmdWarmReset => Sys2Proof.Machine.execPwrCmdWarmReset s
  | .pwrCmdSliceReset slice => Sys2Proof.Machine.execPwrCmdSliceReset slice s
  | .pwrCmdBadConfirm value => Sys2Proof.Machine.execPwrCmdBadConfirm value s
  | .sliceResetRelease digestOk => Sys2Proof.Machine.execSliceResetRelease digestOk s
  | .watchdogExpiry => Sys2Proof.Machine.execWatchdogExpiry s
  | .imgCmdNop => Sys2Proof.Machine.execImgCmdNop s
  | .imgCmdVerifyStaged => Sys2Proof.Machine.execImgCmdVerifyStaged s
  | .verifyStagedDone readOk => Sys2Proof.Machine.execVerifyStagedDone readOk s
  | .imgCmdWriteBank => Sys2Proof.Machine.execImgCmdWriteBank s
  | .writeBankDone => Sys2Proof.Machine.execWriteBankDone s
  | .imgCmdArmTrial => Sys2Proof.Machine.execImgCmdArmTrial s
  | .imgCmdConfirm => Sys2Proof.Machine.execImgCmdConfirm s
  | .imgCmdRollbackCommit => Sys2Proof.Machine.execImgCmdRollbackCommit s
  | .imgCmdSliceReload slice => Sys2Proof.Machine.execImgCmdSliceReload slice s
  | .imgCmdGoldenWrite => Sys2Proof.Machine.execImgCmdGoldenWrite s
  | .goldenWriteDone => Sys2Proof.Machine.execGoldenWriteDone s
  | .imgCmdAbort => Sys2Proof.Machine.execImgCmdAbort s
  | .imgStageData value => Sys2Proof.Machine.execImgStageData value s
  | .imageTrialExpiry => Sys2Proof.Machine.execImageTrialExpiry s
  | .sliceReloadStart => Sys2Proof.Machine.execSliceReloadStart s
  | .sliceReloadComplete digestOk => Sys2Proof.Machine.execSliceReloadComplete digestOk s
  | .spareStart slice => Sys2Proof.Machine.execSpareStart slice s
  | .spindleMemoryError spindle corrected => Sys2Proof.Machine.execSpindleMemoryError spindle corrected s
  | .ddr4Correction device => Sys2Proof.Machine.execDdr4Correction device s
  | .faultWindowClose cls inst => Sys2Proof.Machine.execFaultWindowClose cls inst s
  | .ddrScrub => Sys2Proof.Machine.execDdrScrub s
  | .portReturn mask => Sys2Proof.Machine.execPortReturn mask s
  | .ddrUnmark mask => Sys2Proof.Machine.execDdrUnmark mask s
  | .snapCmdLocal => Sys2Proof.Machine.execSnapCmdLocal s
  | .snapCmdNetwork => Sys2Proof.Machine.execSnapCmdNetwork s
  | .snapshotTake => Sys2Proof.Machine.execSnapshotTake s
  | .secCmdNop => Sys2Proof.Machine.execSecCmdNop s
  | .secCmdAttest => Sys2Proof.Machine.execSecCmdAttest s
  | .attestDone => Sys2Proof.Machine.execAttestDone s
  | .secCmdEnrollOwner slot confirm => Sys2Proof.Machine.execSecCmdEnrollOwner slot confirm s
  | .secCmdRevokeOwner slot confirm => Sys2Proof.Machine.execSecCmdRevokeOwner slot confirm s
  | .secCmdRevokeVendor key confirm => Sys2Proof.Machine.execSecCmdRevokeVendor key confirm s
  | .secCmdEpochAdvance => Sys2Proof.Machine.execSecCmdEpochAdvance s
  | .secCmdBar => Sys2Proof.Machine.execSecCmdBar s
  | .secCmdUnbar => Sys2Proof.Machine.execSecCmdUnbar s
  | .qmgSelWrite path value => Sys2Proof.Machine.execQmgSelWrite path value s
  | .cusSelWrite path value => Sys2Proof.Machine.execCusSelWrite path value s
  | .timLinkSelWrite path value => Sys2Proof.Machine.execTimLinkSelWrite path value s
  | .phyLqPeerWrite path value => Sys2Proof.Machine.execPhyLqPeerWrite path value s
  | .macPeerSelWrite path value => Sys2Proof.Machine.execMacPeerSelWrite path value s
  | .trbShdAddrWrite path value => Sys2Proof.Machine.execTrbShdAddrWrite path value s
  | .trbClassSelWrite path value => Sys2Proof.Machine.execTrbClassSelWrite path value s
  | .truBlkSelWrite path value => Sys2Proof.Machine.execTruBlkSelWrite path value s
  | .counterLowRead path addr => Sys2Proof.Machine.execCounterLowRead path addr s
  | .reservedAccess addr size write => Sys2Proof.Machine.execReservedAccess addr size write s
  | .registerWrite path addr value => Sys2Proof.Machine.execRegisterWrite path addr value s
  | .debugStep slice spindle => Sys2Proof.Machine.execDebugStep slice spindle s
  | .clcHaltWrite slice cluster value => Sys2Proof.Machine.execClcHaltWrite slice cluster value s
  | .dbgMemDataAccess slice spindle value => Sys2Proof.Machine.execDbgMemDataAccess slice spindle value s
  | .supplyStop => Sys2Proof.Machine.execSupplyStop s
  | .clampEnd channel => Sys2Proof.Machine.execClampEnd channel s
  | .suppressionEnd port => Sys2Proof.Machine.execSuppressionEnd port s
  | .surveyMinExpiry => Sys2Proof.Machine.execSurveyMinExpiry s
  | .linkAgeExpiry index => Sys2Proof.Machine.execLinkAgeExpiry index s

end Sys2Proof.Machine
end

