-- ==== Sys2Proof/Safety.lean ====
section
/-! DEFINITION. What a safe step is: the OTP only ever gains (R93, R481), and the sparse tables keep their canonical
form. -/

namespace Sys2Proof.Machine

/-- An OTP that has come from another by programming alone: owner slots once enrolled keep their key, revocations stay,
anti-rollback counters do not fall (R93, R481). -/
def Otp.Grown (o o' : Otp) : Prop :=
  (∀ s k, o.owner.getD s none = some k → o'.owner.getD s none = some k) ∧
  (∀ s, o.ownerRevoked.getD s false = true → o'.ownerRevoked.getD s false = true) ∧
  (∀ v, o.vendorRevoked.getD v false = true → o'.vendorRevoked.getD v false = true) ∧
  (∀ c, o.rollback.getD c 0 ≤ o'.rollback.getD c 0)

/-- The registers, table memory and the staging area are in their canonical form. -/
def Block.Canonical (b : Block) : Prop :=
  Tab.wf 0 b.regs = true ∧ Memory.wf b.tables = true ∧ Memory.wf b.image.stage = true

/-- TRB_SUMMARY shows the sticky bits (R462). -/
def Block.SummaryCurrent (b : Block) : Prop := b.get R.TRB_SUMMARY = b.summary

/-- The parts of the block that a frame names beside the registers. `records` is queue 0x000, to which trouble records go
(R464); `queues` is the rest of the queue manager; `modl` the connectors beside ALERT_N, which follows TRB_SUMMARY. -/
inductive Part where
  | hostLatch | supLatch | power | image | slices | trouble | time | grid | spur | front | phy | mac
  | mesh | sec | tables | custody | sensor | serial | truing | readData | outs | freeCtr | modl | records | queues | fabric
  deriving DecidableEq, Repr

/-- The connectors beside ALERT_N (R463). -/
def ModuleUnit.offAlert (m : ModuleUnit) : ModuleUnit := { m with pins := Tab.erase m.pins 9 }

/-- A part is the same in two blocks. -/
def Part.same (b c : Block) : Part → Prop
  | .hostLatch => c.hostLatch = b.hostLatch
  | .supLatch => c.supLatch = b.supLatch
  | .power => c.power = b.power
  | .image => c.image = b.image
  | .slices => c.slices = b.slices
  | .trouble => c.trouble = b.trouble
  | .time => c.time = b.time
  | .grid => c.grid = b.grid
  | .spur => c.spur = b.spur
  | .front => c.front = b.front
  | .phy => c.phy = b.phy
  | .mac => c.mac = b.mac
  | .mesh => c.mesh = b.mesh
  | .sec => c.sec = b.sec
  | .tables => c.tables = b.tables
  | .custody => c.custody = b.custody
  | .sensor => c.sensor = b.sensor
  | .serial => c.serial = b.serial
  | .truing => c.truing = b.truing
  | .readData => c.readData = b.readData
  | .outs => c.outs = b.outs
  | .freeCtr => c.freeCtr = b.freeCtr
  | .modl => c.modl.offAlert = b.modl.offAlert
  | .records => c.q 0 = b.q 0
  | .fabric => c.fabric = b.fabric
  | .queues => (∀ n, n ≠ 0 → c.q n = b.q n) ∧ c.queue.opened = b.queue.opened ∧ c.queue.status = b.queue.status

/-- The frame of a block: from `b` to `c`, no register field changes but those that `l` names and TRB_SUMMARY, which follows
the sticky bits (R462); no part changes but those that `parts` names. -/
def Block.Keeps (b c : Block) (l : List Field) (parts : List Part) : Prop :=
  (∀ f : Field, f.key ∉ l.map Field.key → f.key ≠ R.TRB_SUMMARY.key → c.get f = b.get f) ∧ ∀ p, p ∉ parts → p.same b c

/-- The frame of a command: the OTP and the queue of commands stay as they are, and the block changes only as named. -/
def State.Keeps (s t : State) (l : List Field) (parts : List Part) : Prop :=
  t.otp = s.otp ∧ t.pending = s.pending ∧ s.blk.Keeps t.blk l parts

/-- The latch of a path (R498). -/
def Path.part (p : Path) : Part := if p = .host then .hostLatch else .supLatch

/-- The fields that writing a trouble record to queue 0x000 may change (R464–R467, R325, R329, R336). -/
def recordFields : List Field :=
  [R.TRB_TROUBLE_REC_DROPPED, R.TRB_REC_DROP_COUNT, R.QMG_ABSENT_COUNT, R.QMG_TROUBLE_ABSENT_WRITE,
   R.QMG_ADMIT_REFUSED_COUNT, R.QMG_TROUBLE_ADMIT_REFUSED, R.QMG_LOST_COUNT, R.QMG_COMMIT_COUNT, R.TRB_RECORD_COUNT,
   R.QMG_TROUBLE_LOST, R.QMG_THR_STAT]

/-- The fields that one packet of an internal producer may change beside its commit or its refusal (R323, R325, R341). -/
def putFields : List Field :=
  [R.QMG_REWIND_COUNT, R.QMG_REFILL_REFUSED_COUNT, R.QMG_TROUBLE_REFILL_REFUSED] ++ recordFields

/-- The bit that shows a frozen AGC of a band and port (R134, R148). -/
def frozenField (band p : Nat) : Field := if band = 0 then R.LFE_STAT_AGC_FROZEN_H p else R.LFE_STAT_AGC_FROZEN_L p

/-- The bit that shows a transmission in a band on a port (R148). -/
def activeField (band p : Nat) : Field := if band = 0 then R.LFE_STAT_TX_ACTIVE_H p else R.LFE_STAT_TX_ACTIVE_L p

/-- The fields that show which keys are held (R492). -/
def secStatFields : List Field :=
  [R.SEC_STAT_CUR_EPOCH, R.SEC_STAT_KEYED, R.SEC_STAT_PREV_HELD, R.SEC_STAT_NEXT_HELD, R.SEC_STAT_MIC16]

/-- The fields that a trigger of line capture may change (R207). -/
def captureFields : List Field := [R.PHY_CAP_STAT_STATE, R.PHY_CAP_STAT_UNITS]

/-- The fields that a sample of channel `c` may change (R389, R392–R398). -/
def sampleFields (c : Nat) : List Field :=
  [R.SEN_LAST c, R.SEN_SAMPLE_COUNT, R.SEN_OPEN_COUNT, R.SEN_OVERRANGE_COUNT, R.SEN_TROUBLE_OPEN_SEEN, R.SEN_TROUBLE_OVERRANGE_SEEN,
   R.SEN_STAT_OPEN, R.SEN_STAT_SCANNING, R.SEN_SCAN_TIME, R.SEN_CH_CTRL_RANGE c, R.SEN_RANGE_CHANGE_COUNT] ++ putFields

/-- The fields that a tone check of the channels `l` may change (R396). -/
def toneFields (l : List Nat) : List Field :=
  [R.SEN_IMP_CHECK_COUNT, R.SEN_STAT_OPEN, R.SEN_STAT_IMP_FAIL, R.SEN_TROUBLE_OPEN_SEEN, R.SEN_TROUBLE_IMP_FAIL_SEEN] ++
    l.map R.SEN_IMP ++ recordFields

/-- The fields that a delivered character may change (R408, R410, R412, R421). -/
def charFields (k : Nat) : List Field :=
  [R.SER_STAT_IDLE k, R.SER_RX_CHAR_COUNT k, R.SER_DATA k, R.SER_STAT_RX_FULL k, R.SER_STAT_FE k, R.SER_FRAMING_COUNT k,
   R.SER_STAT_PE k, R.SER_PARITY_COUNT k, R.SER_BREAK_COUNT k, R.SER_STAT_SUPPRESSED k]

/-- The receiver of a port takes a character of a report (R407, R408, R415, R416, R419): it operates, is neither masked nor suppressed,
and a synchronous port shifts a character. -/
abbrev takesChar (b : Block) (k : Nat) (r : CharReport) (f : SerFormat) : Prop :=
  f = b.rxFormat k r ∧ b.serRxOn k = true ∧ b.serMasked k (r.stamp - f.halves * b.halfBit k f) = false ∧
    b.get (R.SER_STAT_SUPPRESSED k) = 0 ∧ (f.sync = true → (b.ser k).txCur.isSome = true)

/-- The fields that a trigger and the start of truing blocks may change (R400, R425, R426, R433). -/
def truFields (b : Block) : List Field :=
  [R.TRU_DUE, R.TRU_STAT_ACTIVE, R.TRU_STAT_SENSOR_RUNNING, R.SEN_STAT_STALE, R.SEN_STAT_SCANNING] ++
    b.sensor.last.map (fun e => R.SEN_LAST e.1)

end Sys2Proof.Machine
end

