-- ==== Sys2Proof/Certificates/Slice0/Obligations.lean ====
section
/-! DEFINITION. The statements for the provers. Each says that a command answers a next state under conditions on the state and the
operands alone, what that state holds, and its frame: nothing else changes (`State.Keeps`). -/

section

open Sys2Proof Sys2Proof.Machine

/-- A step runs the command at the front of the queue with the rest of the queue, and nothing else; on an empty queue the block idles (the
model's choice, log entry 1). Every command answers a next state and leaves the queue as it is. -/
def Obligations.StepTakesFront : Prop :=
  (∀ (s : State) (c : Instr) (rest : List Instr), s.pending = c :: rest → step s = exec c { s with pending := rest }) ∧
  (∀ s : State, s.pending = [] → step s = .next s) ∧
  (∀ (c : Instr) (s : State), ∃ t, exec c s = .next t ∧ t.pending = s.pending)

/-- R438, R440, R457, R458, R460: the values that reset leaves, no command waiting, and every table of the state in canonical form. -/
def Obligations.ResetState : Prop :=
  State.reset.pending = [] ∧ State.reset.blk.Canonical ∧ State.reset.blk.SummaryCurrent ∧ State.reset.blk.mode = 2 ∧
  (∀ e ∈ [(R.PWR_WDT_TIMEOUT, 1000), (R.TIM_BOUND, 0xFFFFFFFF), (R.TIM_TREE_DEPTH, 0x3F), (R.GLB_TICK, 0), (R.TRB_SUMMARY, 0),
      (R.TIM_SRC_UNC, 1000000), (R.MAC_ADDR_SHORT, 0), (R.CUS_EPOCH, 0), (R.QMG_LOST_COUNT, 0), (R.PHY_LQ_PEER_ADDR, 0),
      (R.SEC_CMD_STAT_STATE, 0), (R.IMG_STAT_STATE, 0), (R.TRB_ALERT_MASK, 0x0FFFFFFF), (R.MSH_STAT_ROLE, 0)], State.reset.blk.get e.1 =
      e.2) ∧
  State.reset.otp.rollback = [0, 0, 0] ∧ State.reset.otp.owner = [none, none, none, none]

/-- R94, R481, R482: whatever the command, a step only ever adds to the OTP: an enrolled owner key stays, a revocation stays, an
anti-rollback counter does not fall. Only the commands that program OTP, and register writes, change it at all. -/
def Obligations.OtpGrows : Prop :=
  (∀ s t : State, step s = .next t → s.otp.Grown t.otp) ∧
  (∀ (c : Instr) (s t : State), exec c s = .next t → t.otp ≠ s.otp →
    c = .imgCmdRollbackCommit ∨ (∃ n k, c = .secCmdEnrollOwner n k) ∨ (∃ n k, c = .secCmdRevokeOwner n k) ∨
    (∃ n k, c = .secCmdRevokeVendor n k) ∨ (∃ p a v, c = .registerWrite p a v) ∨ (∃ p m, c = .regRequest p m))

/-- R462: after every step that runs a command, from any state, TRB_SUMMARY shows exactly the sources with a sticky bit; and a step that
starts with it current ends with it current. -/
def Obligations.SummaryFollows : Prop :=
  (∀ s t : State, s.pending ≠ [] → step s = .next t → t.blk.SummaryCurrent) ∧
  (∀ s t : State, s.blk.SummaryCurrent → step s = .next t → t.blk.SummaryCurrent)

/-- R497: no register is reachable in M0, M1 or M9: there, no register access changes anything but TRB_SUMMARY, which only follows its
sources. -/
def Obligations.UnreachableRegisters : Prop :=
  ∀ (s : State) (c : Instr) (p : Path) (a v : Word) (n k port : Nat) (w : Bool) (x : Option Word) (msg : List Byte),
    s.blk.mode = 0 ∨ s.blk.mode = 1 ∨ s.blk.mode = 9 →
    c ∈ [Instr.registerWrite p a v, .counterLowRead p a, .reservedAccess a n w, .qmgSelWrite p v, .cusSelWrite p v, .timLinkSelWrite p v,
      .phyLqPeerWrite p v, .macPeerSelWrite p v, .trbShdAddrWrite p v, .trbClassSelWrite p v, .truBlkSelWrite p v, .debugStep n k,
      .clcHaltWrite n k v, .dbgMemDataAccess n k x, .regRequest port msg, .pwrModeReq n, .pwrCmdWarmReset, .pwrCmdSliceReset n,
      .pwrCmdBadConfirm v, .imgCmdVerifyStaged, .imgStageData v, .imgCmdAbort, .snapCmdLocal, .snapCmdNetwork, .timCmdStep, .timCmdCalSave,
      .secCmdAttest, .secCmdEnrollOwner n k, .secCmdBar, .portReturn n, .ddrUnmark n] →
    ∃ t, exec c s = .next t ∧ s.Keeps t [] []

/-- R455: PWR_CMD acts only when its CONFIRM field holds 0xA5C3; another write counts and does nothing else. It is stated of each of these
commands that it answers a next state: pwrCmdBadConfirm, registerWrite. -/
def Obligations.PowerCommandConfirm : Prop :=
  (∀ (s : State) (v : Word), s.blk.reachable = true → bits v.toNat 16 16 ≠ 0xA5C3 →
    ∃ t, exec (.pwrCmdBadConfirm v) s = .next t ∧
      t.blk.get R.PWR_UNDEF_COUNT = (s.blk.get R.PWR_UNDEF_COUNT + 1) % 2 ^ 64 ∧ s.Keeps t [R.PWR_UNDEF_COUNT] []) ∧
  (∀ (s : State) (p : Path) (v : Word), s.blk.reachable = true → bits v.toNat 16 16 ≠ 0xA5C3 →
    ∃ t, exec (.registerWrite p 0x1000C v) s = .next t ∧
      t.blk.get R.PWR_UNDEF_COUNT = (s.blk.get R.PWR_UNDEF_COUNT + 1) % 2 ^ 64 ∧ s.Keeps t [R.PWR_UNDEF_COUNT] []) ∧
  (∀ (s : State) (p : Path) (v : Word), s.blk.reachable = true → bits v.toNat 16 16 = 0xA5C3 → v.toNat % 16 = 0 →
    ∃ t, exec (.registerWrite p 0x1000C v) s = .next t ∧ s.Keeps t [] []) ∧
  (∀ (s : State) (p : Path) (v : Word), s.blk.reachable = true → s.blk.mode ≤ 11 → s.blk.power.resetNow = 0 →
      bits v.toNat 16 16 = 0xA5C3 → v.toNat % 16 = 1 →
    ∃ t, exec (.registerWrite p 0x1000C v) s = .next t ∧ t.blk.mode = 2 ∧ t.blk.get R.PWR_RESET_CAUSE = 3 ∧
      t.blk.get R.PWR_MODE_PREV = s.blk.mode ∧ t.otp = s.otp ∧ t.pending = s.pending) ∧
  (∀ (s : State) (p : Path) (v : Word) (n : Nat), s.blk.reachable = true → bits v.toNat 16 16 = 0xA5C3 → v.toNat % 16 = 2 →
      n = bits v.toNat 4 3 → s.blk.sliceResetRefused n = false →
    ∃ t r, exec (.registerWrite p 0x1000C v) s = .next t ∧ t.blk.power.sliceReset = some r ∧ r.slice = n ∧
      s.Keeps t [R.PWR_SLICE_RESET_COUNT] [.power])

/-- R337: a queue of capacity 0 is absent, for writers and readers. It is stated of each of these commands that it answers a next state:
packetSop, queueRead. -/
def Obligations.AbsentQueue : Prop :=
  (∀ (s : State) (ctx n len dest tag : Nat), s.blk.running = true → n < 4096 → (s.blk.q n).capacity = 0 →
    ∃ t, exec (.packetSop ctx n len dest tag) s = .next t ∧ t.blk.statusOf ctx = 2 ∧ t.blk.get R.QMG_TROUBLE_ABSENT_WRITE = 1 ∧
      t.blk.get R.QMG_ABSENT_COUNT = (s.blk.get R.QMG_ABSENT_COUNT +
        (if s.blk.bit R.QMG_TROUBLE_ABSENT_WRITE 0 = false ∧ (s.blk.q 0).capacity = 0 ∧ s.blk.recordsOn = true then 2 else 1)) % 2 ^ 64 ∧
      s.Keeps t ([R.QMG_ABSENT_COUNT, R.QMG_TROUBLE_ABSENT_WRITE, R.QMG_REWIND_COUNT] ++ recordFields) [.queues, .records]) ∧
  (∀ (s : State) (n : Nat) (c : ReadCheck), s.blk.running = true → n < 4096 → (s.blk.q n).capacity = 0 → (s.blk.q n).pkts = [] →
    ∃ t, exec (.queueRead n c) s = .next t ∧ t.blk.outs = s.blk.outs ++ [.empty n] ∧ s.Keeps t [] [.outs]) ∧
  (∀ (s : State) (ctx n len dest tag : Nat) (c : ReadCheck),
    exec (.packetSop ctx n len dest tag) s = exec (.packetSop ctx (n % 4096) len dest tag) s ∧
    exec (.queueRead n c) s = exec (.queueRead (n % 4096) c) s)

/-- R64, R449: WAKE_N wakes the module from M9, and during the entry to it once that is complete; it has no effect in any other mode. It
is stated of each of these commands that it answers a next state: wakeNWake. -/
def Obligations.WakeLine : Prop :=
  (∀ s : State, s.blk.mode = 9 ∨ s.blk.power.trans = some 9 → ∃ t, exec .wakeNWake s = .next t ∧ t.blk.power.wake = true ∧
      s.Keeps t [] [.power]) ∧
  (∀ s : State, s.blk.mode ≠ 9 → s.blk.power.trans ≠ some 9 → ∃ t, exec .wakeNWake s = .next t ∧ s.Keeps t [] [])

/-- R28: a spindle's debug window is accessible only in M10 or with DEBUG_SLICES set for its slice; elsewhere it reads 0, ignores writes
and counts each access. It is stated of each of these commands that it answers a next state: registerWrite, counterLowRead. -/
def Obligations.DebugWindowClosed : Prop :=
  (∀ (s : State) (p : Path) (a v : Word) (n q off : Nat), s.blk.reachable = true → debugAt a.toNat = some (n, q, off) → a.toNat % 4 = 0 →
      s.blk.gated n = false → s.blk.mode ≠ 10 → (∀ i, s.blk.image.run = some i → i.debugSlices.testBit n = false) →
    ∃ t, exec (.registerWrite p a v) s = .next t ∧
      t.blk.get (R.SLC_UNDEF_COUNT n) = (s.blk.get (R.SLC_UNDEF_COUNT n) + 1) % 2 ^ 64 ∧ s.Keeps t [R.SLC_UNDEF_COUNT n] []) ∧
  (∀ (s : State) (p : Path) (a : Word) (n q off : Nat), s.blk.reachable = true → debugAt a.toNat = some (n, q, off) → a.toNat % 4 = 0 →
      s.blk.gated n = false → s.blk.mode ≠ 10 → (∀ i, s.blk.image.run = some i → i.debugSlices.testBit n = false) →
    ∃ t, exec (.counterLowRead p a) s = .next t ∧ t.blk.readData = 0 ∧
      t.blk.get (R.SLC_UNDEF_COUNT n) = (s.blk.get (R.SLC_UNDEF_COUNT n) + 1) % 2 ^ 64 ∧ s.Keeps t [R.SLC_UNDEF_COUNT n] [.readData]) ∧
  (∀ (s : State) (p : Path) (n q : Nat), s.blk.reachable = true → n < 8 → q ≤ 64 → s.blk.gated n = false →
      (s.blk.sliceState n).held = false → s.blk.mode = 10 ∨ (∃ i, s.blk.image.run = some i ∧ i.debugSlices.testBit n = true) →
    ∃ t, exec (.counterLowRead p (BitVec.ofNat 32 (debugAddr n q 0x400))) s = .next t ∧
      t.blk.readData = s.blk.get (R.DBG_MEM_ADDR n q) / 4 * 4 ∧ s.Keeps t [] [.readData])

/-- R440, R456, R457, R62: POWER_ON leaves M0 for M2 by a power-on reset, which keeps NAND contents; RESET_N low is a warm reset in every
mode from M2 on, once in a tick that makes no other reset, and ignored in M1 (and M0); its release shows. It is stated of each of these
commands that it answers a next state: powerOn, warmResetPin, resetRelease. -/
def Obligations.PowerOnAndResetLine : Prop :=
  (∀ (s : State) (temp : Int), s.blk.mode = 0 → (s.blk.power.thermalOff = false ∨ temp < 950) →
    ∃ t, exec (.powerOn temp) s = .next t ∧ t.blk.mode = 2 ∧ t.blk.get R.PWR_RESET_CAUSE = 0 ∧
      t.blk.get R.PWR_POWER_ON_COUNT = (s.blk.get R.PWR_POWER_ON_COUNT + 1) % 2 ^ R.PWR_POWER_ON_COUNT.width ∧
      t.blk.get R.CUS_EPOCH = (s.blk.get R.CUS_EPOCH + 1) % 2 ^ R.CUS_EPOCH.width ∧
      t.blk.image.bankA = s.blk.image.bankA ∧ t.blk.image.bankB = s.blk.image.bankB ∧
      t.blk.image.golden = s.blk.image.golden ∧ t.blk.image.records = s.blk.image.records ∧ t.blk.time.calSaved = s.blk.time.calSaved ∧
      t.blk.custody.slots = s.blk.custody.slots ∧ t.blk.tables = [] ∧ t.otp = s.otp ∧ t.pending = s.pending) ∧
  (∀ s : State, 2 ≤ s.blk.mode → s.blk.power.resetNow = 0 →
    ∃ t, exec .warmResetPin s = .next t ∧ t.blk.mode = 2 ∧ t.blk.get R.PWR_MODE_PREV = s.blk.mode % 16 ∧
      t.blk.get R.PWR_RESET_CAUSE = 2 ∧ t.blk.modl.resetN = false ∧ t.blk.image.run = none ∧
      t.otp = s.otp ∧ t.pending = s.pending) ∧
  (∀ s : State, s.blk.mode ≤ 1 ∨ s.blk.power.resetNow ≠ 0 →
    ∃ t, exec .warmResetPin s = .next t ∧ t.blk.modl.resetN = false ∧ s.Keeps t [] [.modl]) ∧
  (∀ s : State, ∃ t, exec .resetRelease s = .next t ∧ t.blk.modl.resetN = true ∧ s.Keeps t [] [.modl])

/-- R98, R63, R65, R96, R101, R29, R453: the chuck samples BOOT_SEL, reads the boot record and takes the first bank in order whose
manifest verifies (with BOOT_SEL, or where none does, the golden bank alone, or none); the carrier EEPROM is read; a load whose last
checks pass enters M3 (M11 from the golden bank) with the watchdog armed; one whose contents fail, or whose payload cannot be read, marks
its bank BAD. R441: the conditions of Truing's end, one by one, and its end at a block boundary: the head-end enters M6, any other node
M4. It is stated of each of these commands that it answers a next state: bootStart, carrierIdRead, imageLoadComplete, ddr4TrainingDone,
ocxoReady, truingExit. -/
def Obligations.BootAndTruingEnd : Prop :=
  (∀ (s : State) (sel : Bool), s.blk.mode = 2 → s.blk.image.boot = .start → s.blk.modl.resetN = true →
    ∃ t, exec (.bootStart sel) s = .next t ∧ t.blk.get R.IMG_BOOT_STAT_BOOT_SEL_SEEN = (if sel then 1 else 0) ∧
      t.blk.image.boot = (match (if sel then [Bank.golden] else s.blk.readRecord.bootOrder).find? (fun k =>
          decide ((k ≠ .golden ∨ s.blk.readRecord.bankState .golden ≠ 0) ∧ verifyManifest k.use s.otp (s.blk.bankBytes k) = none)) with
        | some k => .loading k (parseImage (s.blk.bankBytes k))
        | none => .stuck) ∧
      t.blk.power.resetNow = 0 ∧
      s.Keeps t [R.IMG_BOOT_STAT_BOOT_SEL_SEEN, R.IMG_BANK_STATE_STATE_A, R.IMG_BANK_STATE_STATE_B, R.IMG_BANK_STATE_STATE_GOLDEN,
        R.IMG_BOOT_STAT_CAUSE_A, R.IMG_BOOT_STAT_CAUSE_B, R.IMG_BOOT_STAT_CAUSE_GOLDEN, R.IMG_BOOT_STAT_FALLBACK,
        R.PWR_RATION_WINDOW, R.PWR_RATION_QUEUED] [.power, .image]) ∧
  (∀ (s : State) (bytes : Option (List Byte)), s.blk.mode = 2 →
    ∃ t, exec (.carrierIdRead bytes) s = .next t ∧
      t.blk.get R.GLB_CARRIER_ID = (match bytes with | some l => leAt l 0 256 % 2 ^ 2048 | none => 2 ^ 2048 - 1) ∧
      t.blk.image = { s.blk.image with carrierDone := true } ∧ s.Keeps t [R.GLB_CARRIER_ID] [.image]) ∧
  (∀ (s : State) (k : Bank) (i : Image), s.blk.mode = 2 → s.blk.image.boot = .loading k i → s.blk.image.carrierDone = true →
      digestCheck (s.blk.bankBytes k) = none →
    ∃ t, exec (.imageLoadComplete true) s = .next t ∧
      (contentCheck i = none → t.blk.mode = (if k = .golden then 11 else 3) ∧ t.blk.image.run = some i ∧
        t.blk.power.wdtArmed = true ∧ t.blk.get R.IMG_STAT_RUN_BANK = (match k with | .a => 0 | .b => 1 | .golden => 2)) ∧
      (contentCheck i ≠ none → t.blk.mode = 2 ∧ t.blk.bankState k = 5 ∧ k ∈ t.blk.image.tried) ∧
      t.otp = s.otp ∧ t.pending = s.pending) ∧
  (∀ (s : State) (k : Bank) (i : Image), s.blk.mode = 2 → s.blk.image.boot = .loading k i → s.blk.image.carrierDone = true →
    ∃ t, exec (.imageLoadComplete false) s = .next t ∧ t.blk.mode = 2 ∧ t.blk.bankState k = 5 ∧ k ∈ t.blk.image.tried ∧
      t.otp = s.otp ∧ t.pending = s.pending) ∧
  (∀ s : State, s.blk.mode = 3 ∨ s.blk.mode = 11 →
    ∃ t, exec .ddr4TrainingDone s = .next t ∧ t.blk.get R.QMG_STAT_BULK_READY = 1 ∧ t.blk.power.ddrTrained = true ∧
      s.Keeps t [R.QMG_STAT_BULK_READY] [.power]) ∧
  (∀ s : State, 2 ≤ s.blk.mode → s.blk.mode ≠ 9 →
    ∃ t, exec .ocxoReady s = .next t ∧ t.blk.get R.PWR_MODE_OCXO_READY = 1 ∧ t.blk.power.cold = false ∧
      s.Keeps t [R.PWR_MODE_OCXO_READY] [.power]) ∧
  (∀ s : State, s.blk.mode = 3 → s.blk.tick % 25 = 0 → s.blk.truingDone = true → s.blk.role = 0 →
      s.blk.get R.GLB_TICK_STAT_GRID_ALIGNED = 1 →
    ∃ t, exec .truingExit s = .next t ∧ t.blk.mode = 6 ∧ t.blk.get R.PWR_MODE_PREV = 3 ∧ t.otp = s.otp ∧
      t.pending = s.pending) ∧
  (∀ s : State, s.blk.mode = 3 → s.blk.tick % 25 = 0 → s.blk.truingDone = true → s.blk.role ≠ 0 →
    ∃ t, exec .truingExit s = .next t ∧ t.blk.mode = 4 ∧ t.blk.get R.PWR_MODE_PREV = 3 ∧ t.otp = s.otp ∧
      t.pending = s.pending)

/-- R32, R34, R35, R45, R46, R47, R443, R456: in M1 a tick advances the tick counter by 1 and the time scale by the tick's clocks, and
nothing else (but the note of a reset made in the tick before); a waiting step at a permitted block boundary makes the tick counter the
network tick number; an anchor starts the next half-cycle; without crossings the coordinator's grid is free. It is stated of each of these
commands that it answers a next state: tick, gridStep, halfCycleAnchor, l1CrossingTimeout. -/
def Obligations.TickAndGrid : Prop :=
  (∀ (s : State) (obs : TickObs), s.blk.mode = 1 →
    ∃ t, exec (.tick obs) s = .next t ∧ t.blk.tick = (s.blk.tick + 1) % 2 ^ 64 ∧
      t.blk.time.scale = s.blk.time.scale + s.blk.tickClocks * s.blk.clock ∧
      t.blk.power = { s.blk.power with resetNow := 0 } ∧ s.Keeps t [R.GLB_TICK, R.GLB_TICK_ADJ_COUNT] [.time, .power]) ∧
  (∀ (s : State) (d : Int), s.blk.mode = 3 ∨ s.blk.mode = 4 ∨ s.blk.mode = 5 → s.blk.role ≠ 0 → s.blk.time.step = some d →
      s.blk.sending 0 = false → s.blk.sending 1 = false → s.blk.txDue = false → s.blk.tick % 25 = 0 →
    ∃ t, exec .gridStep s = .next t ∧
      t.blk.tick = 25 * ceilDiv (s.blk.now + d).toNat (25 * tickLen) % 2 ^ 64 ∧
      t.blk.get R.GLB_TICK_STAT_GRID_ALIGNED = 1 ∧ t.blk.get R.GLB_TICK_STAT_TICK_STEPPED = 1 ∧ t.blk.time.step = none ∧
      t.otp = s.otp ∧ t.pending = s.pending) ∧
  (∀ (s : State) (g : GridVals), 3 ≤ s.blk.mode → s.blk.mode ≠ 9 → s.blk.mode ≠ 11 → s.blk.grid.cur = some g →
      s.blk.grid.next = none → s.blk.anchorDue = true →
    ∃ t, exec .halfCycleAnchor s = .next t ∧ t.blk.grid.half = s.blk.grid.half + 1 ∧
      t.blk.grid.anchor = g.anchor (s.blk.grid.half + 1) ∧
      t.blk.get R.GLB_GRID_HALF = (s.blk.grid.half + 1) % 2 ∧
      t.blk.get R.GLB_REV = (g.rev + (s.blk.grid.half + 1) / 2) % 2 ^ 32 ∧ t.otp = s.otp ∧ t.pending = s.pending) ∧
  (∀ s : State, s.blk.running = true → s.blk.role = 0 → s.blk.grid.cur.isSome = true →
    ∃ t, exec .l1CrossingTimeout s = .next t ∧ t.blk.get R.GLB_GRID_GRID_FREE = 1 ∧ t.blk.grid.valid = 0 ∧
      s.Keeps t [R.GLB_GRID_GRID_FREE] [.grid])

/-- R141, R142, R144, R145, R146, R150: the straight line through the samples around a rising sign change gives the crossing; one starts
acquisition, a second one in the period bounds starts tracking, a tracked phase moves by the filter's shares of the error, and one more
than 0.5 ms off is rejected; samples without a crossing do nothing. A phase below 70 V is lost, and the loss of L1 starts M1; one above 80
V now and T/2 ago is present. A complete noise phase profile swaps; a write of ACC restarts the accumulation and 11 to 15 are refused. It
is stated of each of these commands that it answers a next state: spurCrossing, spurRmsUpdate, nppSwap, sprNppCtrlWrite. -/
def Obligations.SpurAndProfile : Prop :=
  (∀ (s : State) (k : Nat) (volts : List Int) (mid time : Nat) (z : Rat), s.blk.running = true → k < 3 → k < s.blk.spur.phases.length →
      isCrossing volts mid = true → fitZero volts mid = some z → (s.blk.phase k).acq = 0 →
    ∃ t, exec (.spurCrossing k ⟨volts, mid, time⟩) s = .next t ∧ (t.blk.phase k).acq = 1 ∧
      (t.blk.phase k).prev = (s.blk.crossingTime time z).1 ∧ t.otp = s.otp ∧ t.pending = s.pending) ∧
  (∀ (s : State) (k : Nat) (volts : List Int) (mid time : Nat) (z : Rat) (m : Int), s.blk.running = true → k < 3 →
      k < s.blk.spur.phases.length → isCrossing volts mid = true → fitZero volts mid = some z → (s.blk.phase k).acq = 1 →
      m = (s.blk.crossingTime time z).1 → minPeriod ≤ m - (s.blk.phase k).prev → m - (s.blk.phase k).prev ≤ maxPeriod →
    ∃ t, exec (.spurCrossing k ⟨volts, mid, time⟩) s = .next t ∧ (t.blk.phase k).acq = 2 ∧ (t.blk.phase k).z = m ∧
      (t.blk.phase k).t = m - (s.blk.phase k).prev ∧ t.otp = s.otp ∧ t.pending = s.pending) ∧
  (∀ (s : State) (k : Nat) (volts : List Int) (mid time : Nat) (z : Rat) (e : Int), s.blk.running = true → k < 3 →
      k < s.blk.spur.phases.length → isCrossing volts mid = true → fitZero volts mid = some z → (s.blk.phase k).acq = 2 →
      e = (s.blk.crossingTime time z).1 - ((s.blk.phase k).z + (s.blk.phase k).t) → e ≤ 500000 * 65536 → -(500000 * 65536) ≤ e →
    ∃ t, exec (.spurCrossing k ⟨volts, mid, time⟩) s = .next t ∧ (t.blk.phase k).acq = 2 ∧ (t.blk.phase k).rejects = 0 ∧
      (t.blk.phase k).z = (s.blk.phase k).z + (s.blk.phase k).t + e / 2 ^ s.blk.get R.SPR_FILT_A ∧
      (t.blk.phase k).t = (s.blk.phase k).t + e / 2 ^ s.blk.get R.SPR_FILT_B ∧ t.otp = s.otp ∧ t.pending = s.pending) ∧
  (∀ (s : State) (k : Nat) (volts : List Int) (mid time : Nat) (z : Rat) (e : Int), s.blk.running = true → k < 3 →
      k < s.blk.spur.phases.length → isCrossing volts mid = true → fitZero volts mid = some z → (s.blk.phase k).acq = 2 →
      e = (s.blk.crossingTime time z).1 - ((s.blk.phase k).z + (s.blk.phase k).t) → e > 500000 * 65536 ∨ e < -(500000 * 65536) →
      (s.blk.phase k).rejects < 3 →
    ∃ t, exec (.spurCrossing k ⟨volts, mid, time⟩) s = .next t ∧ (t.blk.phase k).acq = 2 ∧
      (t.blk.phase k).rejects = (s.blk.phase k).rejects + 1 ∧ (t.blk.phase k).z = (s.blk.phase k).z + (s.blk.phase k).t ∧
      (t.blk.phase k).t = (s.blk.phase k).t ∧
      t.blk.get R.SPR_REJECT_COUNT = (s.blk.get R.SPR_REJECT_COUNT + 1) % 2 ^ R.SPR_REJECT_COUNT.width ∧
      t.blk.get R.SPR_TROUBLE_CROSSING_REJECT = 1 ∧ t.otp = s.otp ∧ t.pending = s.pending) ∧
  (∀ (s : State) (k : Nat) (volts : List Int) (mid time : Nat), isCrossing volts mid = false →
    ∃ t, exec (.spurCrossing k ⟨volts, mid, time⟩) s = .next t ∧ s.Keeps t [] []) ∧
  (∀ (s : State) (l1 l2 l3 : List Int), 3 ≤ s.blk.mode → rmsBelow l1 (s.blk.phase 0).rmsWindow 70 = true →
      s.blk.mode = 9 ∨ (s.blk.phase 0).low = false →
    ∃ t, exec (.spurRmsUpdate l1 l2 l3) s = .next t ∧ t.blk.mode = 1 ∧ t.blk.get R.SPR_STAT_L1_PRESENT = 0 ∧
      t.blk.get R.SPR_TROUBLE_MAINS_LOSS = 1 ∧ t.otp = s.otp ∧ t.pending = s.pending) ∧
  (∀ (s : State) (l1 l2 l3 : List Int), s.blk.running = true → rmsAbove l1 (s.blk.phase 0).rmsWindow 80 = true →
      ((2 * (s.blk.phase 0).above + 1) % 2 ^ 512).testBit (s.blk.phase 0).rmsSteps = true →
    ∃ t, exec (.spurRmsUpdate l1 l2 l3) s = .next t ∧ t.blk.get R.SPR_STAT_L1_PRESENT = 1 ∧
      s.Keeps t ([R.SPR_STAT_L1_PRESENT, R.SPR_STAT_L2_PRESENT, R.SPR_STAT_L3_PRESENT, R.LFE_STAT_PHASE_PRESENT 0,
        R.LFE_STAT_PHASE_PRESENT 1, R.LFE_STAT_PHASE_PRESENT 2, R.LFE_STAT_PHASE_PRESENT 3, R.SPR_PHASE_L2, R.SPR_PHASE_L3,
        R.SPR_TROUBLE_L2_LOST, R.SPR_TROUBLE_L3_LOST] ++ recordFields) [.spur, .freeCtr, .records]) ∧
  (∀ s : State, s.blk.running = true → s.blk.nppComplete = true →
    ∃ t, exec (.nppSwap ()) s = .next t ∧
      t.blk.get R.SPR_NPP_SEQ = (s.blk.get R.SPR_NPP_SEQ + 1) % 2 ^ R.SPR_NPP_SEQ.width ∧ t.blk.spur.nppHalf = 0 ∧
      t.blk.spur.bins = [] ∧ s.Keeps t [R.SPR_NPP, R.SPR_NPP_SEQ] [.spur, .freeCtr]) ∧
  (∀ s : State, s.blk.nppComplete = false → ∃ t, exec (.nppSwap ()) s = .next t ∧ s.Keeps t [] []) ∧
  (∀ (s : State) (v : Word), s.blk.running = true → v.toNat % 16 < 11 →
    ∃ t, exec (.sprNppCtrlWrite v) s = .next t ∧ t.blk.get R.SPR_NPP_CTRL_ACC = v.toNat % 16 ∧
      t.blk.spur.nppHalf = (if v.toNat % 16 = s.blk.get R.SPR_NPP_CTRL_ACC then s.blk.spur.nppHalf else 0) ∧
      s.Keeps t [R.SPR_NPP_CTRL_ACC] [.spur]) ∧
  (∀ (s : State) (v : Word), s.blk.running = true → 11 ≤ v.toNat % 16 →
    ∃ t, exec (.sprNppCtrlWrite v) s = .next t ∧ s.Keeps t [] [])

/-- R446, R443, R456, R370, R79, R73: the thermal limits, entry to M1 Hold-up and its ends in M0. It is stated of each of these commands
that it answers a next state: baseplateOverTemp, baseplateTempNormal, thermalShutdown, flushComplete, supplyStop. -/
def Obligations.ThermalAndSupply : Prop :=
  (∀ s : State, 2 ≤ s.blk.mode →
    ∃ t, exec .baseplateOverTemp s = .next t ∧ t.blk.power.overTemp = true ∧ t.blk.get R.PWR_TROUBLE_OVER_TEMP = 1 ∧
      t.blk.mode = s.blk.mode ∧ t.otp = s.otp ∧ t.pending = s.pending) ∧
  (∀ s : State, ∃ t, exec .baseplateTempNormal s = .next t ∧ t.blk.power.overTemp = false ∧ t.blk.mode = s.blk.mode ∧
      t.otp = s.otp ∧ t.pending = s.pending) ∧
  (∀ s : State, 3 ≤ s.blk.mode →
    ∃ t, exec .thermalShutdown s = .next t ∧ t.blk.mode = 1 ∧ t.blk.power.thermalM1 = true ∧ t.otp = s.otp ∧
      t.pending = s.pending) ∧
  (∀ s : State, s.blk.mode = 2 →
    ∃ t, exec .thermalShutdown s = .next t ∧ t.blk.mode = 0 ∧ t.blk.power.thermalOff = true ∧ t.otp = s.otp ∧
      t.pending = s.pending) ∧
  (∀ (s : State) (us : Nat), s.blk.mode = 1 →
    ∃ t, exec (.flushComplete us) s = .next t ∧ t.blk.mode = 0 ∧ t.blk.power.thermalOff = s.blk.power.thermalM1 ∧
      t.blk.modl.vauxOn = false ∧ t.otp = s.otp ∧ t.pending = s.pending) ∧
  (∀ s : State, s.blk.mode = 1 →
    ∃ t, exec .supplyStop s = .next t ∧ t.blk.mode = 0 ∧ t.blk.power.thermalOff = s.blk.power.thermalM1 ∧
      t.blk.modl.vauxOn = false ∧ t.otp = s.otp ∧ t.pending = s.pending)

/-- R61, R70: VAUX_3V3's current limit and its retry; a transceiver that declares more than 1.5 W is refused power; its removal. R66: the
TAP's instructions while the module is supplied and TRST_N is high; TRST_N low holds it in Test-Logic-Reset. That a second TAP_RESET
releases TRST_N is the model's choice (log entry 142). It is stated of each of these commands that it answers a next state: vauxOverload,
vauxRetry, sfpInsert, sfpRemove, tapReset, tapBypass, tapSamplePreload, tapExtest, tapIdcode. -/
def Obligations.ConnectorsAndTap : Prop :=
  (∀ s : State, s.blk.mode ≠ 0 → s.blk.modl.vauxOn = true →
    ∃ t, exec .vauxOverload s = .next t ∧ t.blk.modl.vauxOn = false ∧ t.blk.get R.PWR_TROUBLE_VAUX_OVERLOAD = 1 ∧
      s.Keeps t (R.PWR_TROUBLE_VAUX_OVERLOAD :: recordFields) [.modl, .records]) ∧
  (∀ s : State, s.blk.mode ≠ 0 →
    ∃ t, exec .vauxRetry s = .next t ∧ t.blk.modl.vauxOn = true ∧ t.blk.modl.vauxOverload = false ∧ s.Keeps t [] [.modl]) ∧
  (∀ (s : State) (j declared : Nat), j < s.blk.modl.cages.length →
    ∃ t, exec (.sfpInsert j declared) s = .next t ∧
      t.blk.modl.cages.getD j {} = { present := true, refused := decide (1500 < declared), declared := declared } ∧
      s.Keeps t [R.PWR_RATION_WINDOW, R.PWR_RATION_QUEUED] [.modl, .power]) ∧
  (∀ (s : State) (j declared : Nat), j < 2 → j < s.blk.modl.cages.length → declared ≤ 1500 → s.blk.cageEnabled j = true →
      cageMode s.blk.mode = true →
    ∃ t, exec (.sfpInsert j declared) s = .next t ∧ (∃ r ∈ t.blk.power.reqs, r.load = .cage j)) ∧
  (∀ (s : State) (j : Nat), j < s.blk.modl.cages.length →
    ∃ t, exec (.sfpRemove j) s = .next t ∧ t.blk.modl.cages.getD j {} = {} ∧
      s.Keeps t [R.PWR_RATION_WINDOW, R.PWR_RATION_QUEUED] [.modl, .power]) ∧
  ((∀ s : State, s.blk.modl.trstN = true →
    ∃ t, exec .tapReset s = .next t ∧ t.blk.modl.tap = .idcode ∧ t.blk.modl.trstN = false ∧ s.Keeps t [] [.modl]) ∧
  (∀ s : State, s.blk.modl.trstN = false →
    ∃ t, exec .tapReset s = .next t ∧ t.blk.modl.tap = s.blk.modl.tap ∧ t.blk.modl.trstN = true ∧ s.Keeps t [] [.modl]) ∧
  (∀ s : State, s.blk.mode ≠ 0 → s.blk.modl.trstN = true →
    (∃ t, exec .tapBypass s = .next t ∧ t.blk.modl.tap = .bypass ∧ s.Keeps t [] [.modl]) ∧
    (∀ inputs preload : Nat, ∃ t, exec (.tapSamplePreload inputs preload) s = .next t ∧ t.blk.modl.tap = .sample ∧
      t.blk.modl.tdo = s.blk.sampled inputs ∧ t.blk.modl.boundary = preload % 2 ^ 33 ∧ s.Keeps t [] [.modl]) ∧
    (∀ inputs : Nat, ∃ t, exec (.tapExtest inputs) s = .next t ∧ t.blk.modl.tap = .extest ∧
      t.blk.modl.boundary = s.blk.modl.boundary ∧ s.Keeps t [] [.modl]) ∧
    (∃ t, exec .tapIdcode s = .next t ∧ t.blk.modl.tap = .idcode ∧ t.blk.modl.tdo = 0x15120C4B ∧ s.Keeps t [] [.modl])) ∧
  (∀ (s : State) (c : Instr) (inputs preload : Nat), s.blk.mode = 0 ∨ s.blk.modl.trstN = false →
    c ∈ [Instr.tapBypass, .tapSamplePreload inputs preload, .tapExtest inputs, .tapIdcode] → ∃ t, exec c s = .next t ∧ s.Keeps t [] []))

/-- R242, R75: an edge on an enabled event input is counted, stamped and numbered; one closer than 100 ns to the previous edge of its
input is discarded. R220, R234, R250: the commands of TIM_CMD, and the hourly save of the calibration records. It is stated of each of
these commands that it answers a next state: eventEdge, timCmdNop, timCmdStep, timCmdCalSave, calRecordSave. -/
def Obligations.EventInputsAndTimeCommands : Prop :=
  (∀ (s : State) (n edge : Nat), s.blk.running = true → n < 4 → s.blk.bit R.TIM_EVT_EN n = true → s.blk.modl.resetN = true →
      (Tab.get 0 s.blk.time.evtLast n = 0 ∨ Tab.get 0 s.blk.time.evtLast n + 6553600 ≤ edge + 1) →
    ∃ t, exec (.eventEdge n edge) s = .next t ∧
      t.blk.get R.TIM_EVT_COUNT = (s.blk.get R.TIM_EVT_COUNT + 1) % 2 ^ R.TIM_EVT_COUNT.width ∧
      Tab.get 0 t.blk.time.evtSeq n = (Tab.get 0 s.blk.time.evtSeq n + 1) % 65536 ∧
      t.blk.get (R.TIM_EVT_LAST n) / 2 ^ 16 % 2 ^ 16 = (Tab.get 0 s.blk.time.evtSeq n + 1) % 65536 ∧
      s.Keeps t (R.TIM_EVT_COUNT :: R.TIM_EVT_LAST n :: putFields) [.time, .records, .queues]) ∧
  (∀ (s : State) (n edge : Nat), s.blk.running = true → n < 4 → s.blk.bit R.TIM_EVT_EN n = true → s.blk.modl.resetN = true →
      Tab.get 0 s.blk.time.evtLast n ≠ 0 → edge + 1 < Tab.get 0 s.blk.time.evtLast n + 6553600 →
    ∃ t, exec (.eventEdge n edge) s = .next t ∧
      t.blk.get R.TIM_EVT_DISCARD_COUNT = (s.blk.get R.TIM_EVT_DISCARD_COUNT + 1) % 2 ^ R.TIM_EVT_DISCARD_COUNT.width ∧
      t.blk.get R.TIM_TROUBLE_EVT_DISCARD = 1 ∧
      s.Keeps t (R.TIM_EVT_DISCARD_COUNT :: R.TIM_TROUBLE_EVT_DISCARD :: recordFields) [.time, .records]) ∧
  (∀ s : State, ∃ t, exec .timCmdNop s = .next t ∧ s.Keeps t [] []) ∧
  (∀ (s : State) (d : Int), s.blk.mode = 10 → s.blk.role = 0 → s.blk.get R.TIM_SRC_CFG_SRC = 1 → s.blk.time.ptpTime = some d →
    ∃ t, exec .timCmdStep s = .next t ∧ t.blk.time.step = some d ∧ s.Keeps t [] [.time]) ∧
  (∀ (s : State) (d : Int), s.blk.mode = 10 → s.blk.role = 0 → s.blk.get R.TIM_SRC_CFG_SRC ≠ 1 → s.blk.time.armed = true →
      s.blk.time.labelTheta = some d →
    ∃ t, exec .timCmdStep s = .next t ∧ t.blk.time.step = some d ∧ t.blk.time.armed = false ∧ s.Keeps t [] [.time]) ∧
  (∀ s : State, s.blk.mode = 10 → s.blk.role = 0 → s.blk.get R.TIM_SRC_CFG_SRC ≠ 1 → s.blk.time.armed = true →
      s.blk.time.labelTheta = none →
    ∃ t, exec .timCmdStep s = .next t ∧ t.blk.time = { s.blk.time with stepWanted := true } ∧ s.Keeps t [] [.time]) ∧
  (∀ s : State, s.blk.mode ≠ 10 ∨ s.blk.role ≠ 0 → ∃ t, exec .timCmdStep s = .next t ∧ s.Keeps t [] []) ∧
  (∀ s : State, s.blk.reachable = true →
    ∃ t, exec .timCmdCalSave s = .next t ∧ t.blk.time.calSaved = t.blk.time.cal ∧
      t.blk.time.cal.map (fun e => (e.1, { e.2 with updated := 0 })) =
        s.blk.time.cal.map (fun e => (e.1, { e.2 with updated := 0 })) ∧ s.Keeps t [] [.time]) ∧
  (∀ s : State, s.blk.running = true →
    ∃ t, exec .calRecordSave s = .next t ∧ t.blk.time.calSaved = t.blk.time.cal ∧
      t.blk.time.cal.map (fun e => (e.1, { e.2 with updated := 0 })) =
        s.blk.time.cal.map (fun e => (e.1, { e.2 with updated := 0 })) ∧ s.Keeps t [] [.time])

/-- R218, R219: the labelled first edge sets the coordinator's step; an edge more than 1 µs off is rejected; without edges the source is
lost and holdover begins; the loss of REF_IN changes the clock over. It is stated of each of these commands that it answers a next state:
ppsInEdge, ppsInTimeout, refInLoss, todLabelArm. -/
def Obligations.TimeSource : Prop :=
  (∀ (s : State) (edge : Nat), s.blk.running = true → s.blk.role = 0 → s.blk.get R.TIM_SRC_CFG_SRC = 0 →
      s.blk.image.run.isSome = true → s.blk.get R.GLB_TICK_STAT_GRID_ALIGNED = 0 → s.blk.time.armed = true →
    ∃ t, exec (.ppsInEdge edge) s = .next t ∧
      t.blk.time.step = some ((((s.blk.get R.TIM_TOD_SEC_LO + 2 ^ 32 * s.blk.get R.TIM_TOD_SEC_HI) * 1000000000 * 65536 : Nat) : Int) +
        s.blk.sget R.TIM_PPS_IN_DELAY * 65536 / 1000 - edge) ∧
      t.blk.time.armed = false ∧ t.blk.get R.TIM_STAT_SRC_OK = 1 ∧ t.blk.get R.TIM_STAT_STATE = 1 ∧ t.otp = s.otp ∧
      t.pending = s.pending) ∧
  (∀ (s : State) (edge : Nat), s.blk.running = true → s.blk.role = 0 → s.blk.get R.TIM_SRC_CFG_SRC = 0 →
      s.blk.image.run.isSome = true → s.blk.get R.GLB_TICK_STAT_GRID_ALIGNED = 1 → s.blk.time.armed = false →
      s.blk.time.firstLock = true → s.blk.time.srcBad + 1 < 3 →
      65536000 < (((s.blk.time.label + 1) * 1000000000 * 65536 : Nat) : Int) + s.blk.sget R.TIM_PPS_IN_DELAY * 65536 / 1000 - edge →
    ∃ t, exec (.ppsInEdge edge) s = .next t ∧
      t.blk.get R.TIM_PPS_REJECT_COUNT = (s.blk.get R.TIM_PPS_REJECT_COUNT + 1) % 2 ^ R.TIM_PPS_REJECT_COUNT.width ∧
      t.blk.get R.TIM_TROUBLE_PPS_REJECT = 1 ∧
      s.Keeps t (R.TIM_PPS_REJECT_COUNT :: R.TIM_TROUBLE_PPS_REJECT :: recordFields) [.time, .records]) ∧
  (∀ s : State, s.blk.running = true → s.blk.role = 0 → s.blk.get R.TIM_SRC_CFG_SRC = 0 → s.blk.get R.TIM_STAT_SRC_OK = 1 →
      s.blk.image.run.isSome = true → s.blk.get R.TIM_STAT_STATE ≠ 0 → s.blk.get R.TIM_STAT_STATE ≠ 4 →
    ∃ t, exec .ppsInTimeout s = .next t ∧ t.blk.get R.TIM_STAT_SRC_OK = 0 ∧ t.blk.get R.TIM_TROUBLE_SRC_LOST = 1 ∧
      t.blk.get R.TIM_STAT_STATE = 4 ∧ t.blk.get R.TIM_TROUBLE_HOLDOVER = 1 ∧
      t.blk.get R.TIM_FREQ = s.blk.get R.TIM_FREQ_INT % 2 ^ R.TIM_FREQ.width ∧
      s.Keeps t ([R.TIM_STAT_SRC_OK, R.TIM_TROUBLE_SRC_LOST, R.TIM_STAT_STATE, R.TIM_TROUBLE_HOLDOVER, R.TIM_HOLD_COUNT, R.TIM_FREQ,
        R.TIM_STAT_TRACEABLE, R.TIM_PTP_STAT_CLOCK_CLASS] ++ recordFields) [.time, .records]) ∧
  (∀ (s : State) (y : Int), s.blk.running = true → s.blk.get R.TIM_SRC_CFG_SYSCLK = 1 → s.blk.time.onOcxo = false →
      s.blk.image.run.isSome = true → s.blk.role ≠ 0 →
    ∃ t, exec (.refInLoss y) s = .next t ∧ t.blk.time.onOcxo = true ∧ t.blk.get R.TIM_TROUBLE_REF_SWITCH = 1 ∧
      s.Keeps t ([R.TIM_FREQ, R.TIM_FREQ_INT, R.TIM_TROUBLE_REF_SWITCH] ++ recordFields) [.time, .records]) ∧
  (∀ (s : State) (v : Word), s.blk.reachable = true →
    ∃ t, exec (.todLabelArm v) s = .next t ∧ t.blk.get R.TIM_TOD_SEC_LO = v.toNat ∧ t.blk.time.armed = true ∧
      s.Keeps t [R.TIM_TOD_SEC_LO] [.time])

/-- R238, R244, R69, R241: when an event of R238 has occurred, holdover freezes y at y_I, and a node that heard its backup parent moves to
it; the outputs drive once locked, and are squelched while the bound is above the limit. It is stated of each of these commands that it
answers a next state: holdoverEntry, outputEnable, outputSquelch. -/
def Obligations.HoldoverAndOutputs : Prop :=
  (∀ (s : State) (far : Bool), s.blk.running = true → s.blk.get R.TIM_STAT_STATE ≠ 0 → s.blk.get R.TIM_STAT_STATE ≠ 4 →
      s.blk.holdoverDue far = true →
      (s.blk.role = 0 ∨ s.blk.get R.TIM_PARENT_BACKUP = 0 ∨ s.blk.heardLately (s.blk.get R.TIM_PARENT_BACKUP) = false) →
    ∃ t, exec (.holdoverEntry far) s = .next t ∧ t.blk.get R.TIM_STAT_STATE = 4 ∧
      t.blk.get R.TIM_FREQ = s.blk.get R.TIM_FREQ_INT % 2 ^ R.TIM_FREQ.width ∧
      t.blk.get R.TIM_HOLD_COUNT = (s.blk.get R.TIM_HOLD_COUNT + 1) % 2 ^ R.TIM_HOLD_COUNT.width ∧
      t.blk.get R.TIM_TROUBLE_HOLDOVER = 1 ∧ t.blk.time.holdStart = s.blk.now ∧
      s.Keeps t ([R.TIM_STAT_STATE, R.TIM_TROUBLE_HOLDOVER, R.TIM_HOLD_COUNT, R.TIM_FREQ, R.TIM_STAT_TRACEABLE,
        R.TIM_PTP_STAT_CLOCK_CLASS] ++ recordFields) [.time, .records]) ∧
  (∀ (s : State) (far : Bool), s.blk.running = true → s.blk.get R.TIM_STAT_STATE ≠ 0 → s.blk.holdoverDue far = true →
      s.blk.role ≠ 0 → s.blk.get R.TIM_PARENT_BACKUP ≠ 0 → s.blk.heardLately (s.blk.get R.TIM_PARENT_BACKUP) = true →
    ∃ t, exec (.holdoverEntry far) s = .next t ∧ t.blk.get R.TIM_STAT_STATE = 1 ∧
      t.blk.get R.TIM_PARENT_PARENT = s.blk.get R.TIM_PARENT_BACKUP % 2 ^ R.TIM_PARENT_PARENT.width ∧
      t.blk.get R.TIM_PARENT_BACKUP = 0 ∧ t.blk.get R.TIM_TROUBLE_PARENT_CHANGE = 1 ∧ t.otp = s.otp ∧ t.pending = s.pending) ∧
  (∀ (s : State) (far : Bool), s.blk.get R.TIM_STAT_STATE = 0 ∨ s.blk.holdoverDue far = false →
    ∃ t, exec (.holdoverEntry far) s = .next t ∧ s.Keeps t [] []) ∧
  (∀ s : State, s.blk.running = true → s.blk.outputsOk = true →
    ∃ t, exec .outputEnable s = .next t ∧ t.blk.get R.TIM_STAT_OUT_ACTIVE = 1 ∧ s.Keeps t [R.TIM_STAT_OUT_ACTIVE] []) ∧
  (∀ s : State, s.blk.outputsOk = false → ∃ t, exec .outputEnable s = .next t ∧ s.Keeps t [] []) ∧
  (∀ s : State, s.blk.running = true → s.blk.get R.TIM_SQUELCH ≠ 0 → s.blk.get R.TIM_SQUELCH * 1000 < s.blk.get R.TIM_BOUND →
      s.blk.get R.TIM_STAT_SQUELCHED = 0 →
    ∃ t, exec .outputSquelch s = .next t ∧ t.blk.get R.TIM_STAT_SQUELCHED = 1 ∧ t.blk.get R.TIM_STAT_OUT_ACTIVE = 0 ∧
      t.blk.get R.TIM_TROUBLE_SQUELCH = 1 ∧ Tab.get .z t.blk.modl.pins 23 = .z ∧
      s.Keeps t ([R.TIM_STAT_SQUELCHED, R.TIM_STAT_OUT_ACTIVE, R.TIM_TROUBLE_SQUELCH] ++ recordFields) [.modl, .records]) ∧
  (∀ s : State, s.blk.running = true → s.blk.get R.TIM_STAT_SQUELCHED = 1 →
      2 * s.blk.get R.TIM_BOUND ≤ s.blk.get R.TIM_SQUELCH * 1000 →
    ∃ t, exec .outputSquelch s = .next t ∧ t.blk.get R.TIM_STAT_SQUELCHED = 0 ∧
      s.Keeps t [R.TIM_STAT_SQUELCHED, R.TIM_STAT_OUT_ACTIVE] [])

/-- R246, R247, R217, R220, R243, R301: a PTP message sets its port's state, and one that completes a measurement at the coordinator's
source port gives the step of the first setting; a port that runs PTP advertises clockClass, accuracy, offset, leap flags and priorities;
the timing tree's recomputation ends the request for it; an assignment is applied at its period boundary. It is stated of each of these
commands that it answers a next state: ptpMessageRx, ptpIntervalTx, timingTreeRecompute, assignmentApply. -/
def Obligations.PtpAndTree : Prop :=
  (∀ (s : State) (j st : Nat) (inacc : Option Nat), j < 3 → s.blk.ptpRole j ≠ 0 → 3 ≤ s.blk.mode → s.blk.mode ≠ 9 →
    ∃ t, exec (.ptpMessageRx j st ⟨none, inacc⟩) s = .next t ∧
      t.blk.get (ptpStateField j) = st % 2 ^ (ptpStateField j).width ∧ t.blk.time.ptpInacc = inacc.getD s.blk.time.ptpInacc ∧
      t.blk.time = { s.blk.time with ptpInacc := t.blk.time.ptpInacc } ∧ s.Keeps t [ptpStateField j] [.time]) ∧
  (∀ (s : State) (j st : Nat) (t1 t2 trip : Int) (inacc : Option Nat), j < 3 → s.blk.ptpRole j ≠ 0 → 3 ≤ s.blk.mode →
      s.blk.mode ≠ 9 → s.blk.role = 0 → s.blk.get R.TIM_SRC_CFG_SRC = 1 → s.blk.get R.TIM_SRC_CFG_PTP_SRC_PORT = j →
      s.blk.time.firstLock = false → s.blk.get R.GLB_TICK_STAT_GRID_ALIGNED = 0 →
    ∃ t, exec (.ptpMessageRx j st ⟨(some (t1, t2, trip)), inacc⟩) s = .next t ∧
      t.blk.time.ptpTime = some (s.blk.ptpOffset j t1 t2 trip).floor ∧ t.blk.time.step = some (s.blk.ptpOffset j t1 t2 trip).floor ∧
      t.blk.get R.TIM_STAT_SRC_OK = 1 ∧ t.otp = s.otp ∧ t.pending = s.pending) ∧
  (∀ (s : State) (j : Nat), j < 3 → s.blk.ptpRole j ≠ 0 → 3 ≤ s.blk.mode → s.blk.mode ≠ 9 →
    ∃ t, exec (.ptpIntervalTx j) s = .next t ∧
      t.blk.outs = s.blk.outs ++ [.ptp j s.blk.clockClass (ptpAccuracy (s.blk.get R.TIM_BOUND))
        (s.blk.get R.TIM_UTC_UTC_OFFSET) (s.blk.clockClass == 6 || s.blk.clockClass == 7)
        (s.blk.clockClass == 13 || s.blk.clockClass == 14 || s.blk.clockClass == 58)
        (s.blk.flag R.TIM_UTC_LEAP61) (s.blk.flag R.TIM_UTC_LEAP59)
        (leAt s.blk.timingSeg (0x40 + 16 * j + 8) 1) (leAt s.blk.timingSeg (0x40 + 16 * j + 9) 1)
        (if leAt s.blk.timingSeg (0x40 + 16 * j + 1) 1 = 2 then some (s.blk.time.ptpInacc + ceilDiv (s.blk.get R.TIM_BOUND) 1000)
          else none)] ∧
      s.Keeps t [R.TIM_STAT_TRACEABLE, R.TIM_PTP_STAT_CLOCK_CLASS] [.outs]) ∧
  (∀ s : State, s.blk.running = true → s.blk.coordinator = true → s.blk.mesh.treeDue = true →
    ∃ t u, exec .timingTreeRecompute s = .next t ∧ t.blk.mesh.lastTree = some u ∧ t.blk.mesh.treeDue = false ∧
      t.otp = s.otp ∧ t.pending = s.pending) ∧
  (∀ (s : State) (x : Assign), s.blk.running = true → s.blk.mesh.pendingAssign = some x → s.blk.hasGrid = true →
      s.blk.short ≠ 0 → s.blk.reached x.rev = true →
    ∃ t, exec .assignmentApply s = .next t ∧ t.blk.mesh.pendingAssign = none ∧ t.blk.mesh.collector = x.collector ∧
      t.otp = s.otp ∧ t.pending = s.pending)

/-- R158, R167, R263, R120, R121: the ready frame of a band that goes first starts on its ports; a frame whose mode or ports the
transmitter does not admit is refused and counted; a timing frame that may not start is lost and counted. R177, R179: a continuation
segment is sent on its transmission's ports in its tick, or omitted and counted where the band is forbidden. R120: a driver above +150 °C
is disabled, one below +125 °C enabled again, each second below it earns a relaxation, and the junction temperature shows. It is stated of
each of these commands that it answers a next state: frameTxStart, segmentTx, driverThermalShutdown, driverThermalRecover, foldbackRelax.
-/
def Obligations.Transmission : Prop :=
  (∀ (s : State) (band : Nat) (temps : List Int) (limit : List Nat) (f : TxFrame), s.blk.running = true →
      s.blk.firstReady band = some f → (∀ p ∈ s.blk.portsFor f, p < 4) →
      s.blk.mayTransmit = true → s.blk.forbidden band = false → (∀ p ∈ s.blk.portsFor f, s.blk.driverOff band p = false) →
      s.blk.txRefused f (s.blk.portsFor f) = false →
      s.blk.exhausted = false ∨ protectedType f.hdr.ftype = false ∨ f.sealed = true → s.blk.budgetOk f = true →
    ∃ t a, exec (.frameTxStart band temps limit) s = .next t ∧ t.blk.phy.tx = s.blk.phy.tx ++ [a] ∧
      a.ports = s.blk.portsFor f ∧ a.frame.band = band ∧ a.frame.hdr.dst = f.hdr.dst ∧ a.frame.kind = f.kind ∧
      t.blk.outs = s.blk.outs ++ [.frame band 0 (a.frame.bursts a.plan 0)] ∧
      (∀ p ∈ s.blk.portsFor f, t.blk.get (activeField band p) = 1) ∧ t.otp = s.otp ∧ t.pending = s.pending) ∧
  (∀ (s : State) (band : Nat) (temps : List Int) (limit : List Nat) (f : TxFrame), s.blk.running = true →
      s.blk.firstReady band = some f →
      s.blk.mayTransmit = true → s.blk.forbidden band = false → (∀ p ∈ s.blk.portsFor f, s.blk.driverOff band p = false) →
      s.blk.txRefused f (s.blk.portsFor f) = true → f.kind = .beacon →
    ∃ t, exec (.frameTxStart band temps limit) s = .next t ∧ t.blk.mac = { s.blk.mac with ready := s.blk.mac.ready.erase f } ∧
      t.blk.get R.PHY_TX_REFUSED_COUNT = (s.blk.get R.PHY_TX_REFUSED_COUNT + 1) % 2 ^ R.PHY_TX_REFUSED_COUNT.width ∧
      t.blk.get R.PHY_TROUBLE_TX_REFUSED = 1 ∧
      s.Keeps t ([R.PHY_TX_REFUSED_COUNT, R.PHY_TROUBLE_TX_REFUSED, R.LFE_L_TEMP, R.LFE_DRV_TEMP 0, R.LFE_DRV_TEMP 1, R.LFE_DRV_TEMP 2,
        R.LFE_DRV_TEMP 3] ++ recordFields) [.mac, .records]) ∧
  (∀ (s : State) (band : Nat) (temps : List Int) (limit : List Nat) (f : TxFrame), s.blk.running = true →
      s.blk.firstReady band = some f → s.blk.mayTransmit = false ∨ s.blk.forbidden band = true → f.kind = .timing →
    ∃ t, exec (.frameTxStart band temps limit) s = .next t ∧ t.blk.mac = { s.blk.mac with ready := s.blk.mac.ready.erase f } ∧
      t.blk.get R.MAC_SLOT_LOST_COUNT = (s.blk.get R.MAC_SLOT_LOST_COUNT + 1) % 2 ^ R.MAC_SLOT_LOST_COUNT.width ∧
      t.blk.get R.MAC_TROUBLE_SLOT_LOST = 1 ∧
      s.Keeps t ([R.MAC_SLOT_LOST_COUNT, R.MAC_TROUBLE_SLOT_LOST, R.LFE_L_TEMP, R.LFE_DRV_TEMP 0, R.LFE_DRV_TEMP 1, R.LFE_DRV_TEMP 2,
        R.LFE_DRV_TEMP 3] ++ recordFields) [.mac, .records]) ∧
  (∀ (s : State) (band : Nat) (temps : List Int) (limit : List Nat), s.blk.firstReady band = none →
    ∃ t, exec (.frameTxStart band temps limit) s = .next t ∧ s.Keeps t [] []) ∧
  (∀ (s : State) (band : Nat) (limit : List Nat) (x : TxActive), s.blk.running = true → (∀ p ∈ x.ports, p < 4) →
      s.blk.phy.tx.find? (fun t => t.frame.band == band && s.blk.segmentDue t) = some x →
      s.blk.mayTransmit = true → s.blk.forbidden band = false → (∀ p ∈ x.ports, s.blk.driverOff band p = false) →
      s.blk.sending band = false →
    ∃ t, exec (.segmentTx ⟨band, limit⟩) s = .next t ∧
      t.blk.outs = s.blk.outs ++ [.frame band x.nextSegment (x.frame.bursts x.plan x.nextSegment)] ∧
      (∀ p ∈ x.ports, t.blk.get (activeField band p) = 1) ∧ t.blk.phy.tx.length = s.blk.phy.tx.length ∧
      t.otp = s.otp ∧ t.pending = s.pending) ∧
  (∀ (s : State) (band : Nat) (limit : List Nat) (x : TxActive), s.blk.running = true →
      s.blk.phy.tx.find? (fun t => t.frame.band == band && s.blk.segmentDue t) = some x →
      s.blk.mayTransmit = false ∨ s.blk.forbidden band = true →
    ∃ t, exec (.segmentTx ⟨band, limit⟩) s = .next t ∧
      t.blk.get R.PHY_SEG_OMITTED_COUNT = (s.blk.get R.PHY_SEG_OMITTED_COUNT + 1) % 2 ^ R.PHY_SEG_OMITTED_COUNT.width ∧
      t.blk.get R.PHY_TROUBLE_SEG_OMITTED = 1 ∧ t.blk.phy.tx.length = s.blk.phy.tx.length ∧
      s.Keeps t ([R.PHY_SEG_OMITTED_COUNT, R.PHY_TROUBLE_SEG_OMITTED] ++ recordFields) [.phy, .records]) ∧
  (∀ (s : State) (d : Nat) (temp : Int), s.blk.running = true → d < 5 → d < s.blk.front.driverOff.length → 1500 < temp →
    ∃ t, exec (.driverThermalShutdown ⟨d, temp⟩) s = .next t ∧ t.blk.front.driverOff.getD d false = true ∧ t.otp = s.otp ∧
      t.pending = s.pending) ∧
  (∀ (s : State) (d : Nat) (temp : Int), temp ≤ 1500 →
    ∃ t, exec (.driverThermalShutdown ⟨d, temp⟩) s = .next t ∧
      s.Keeps t [R.LFE_L_TEMP, R.LFE_DRV_TEMP 0, R.LFE_DRV_TEMP 1, R.LFE_DRV_TEMP 2, R.LFE_DRV_TEMP 3] []) ∧
  (∀ (s : State) (d : Nat) (temp : Int), s.blk.running = true → temp < 1250 →
    ∃ t, exec (.driverThermalRecover ⟨d, temp⟩) s = .next t ∧
      t.blk.front = { s.blk.front with driverOff := s.blk.front.driverOff.set d false } ∧
      s.Keeps t [R.LFE_L_TEMP, R.LFE_DRV_TEMP 0, R.LFE_DRV_TEMP 1, R.LFE_DRV_TEMP 2, R.LFE_DRV_TEMP 3] [.front]) ∧
  (∀ (s : State) (d : Nat) (temp : Int), 1250 ≤ temp →
    ∃ t, exec (.driverThermalRecover ⟨d, temp⟩) s = .next t ∧
      s.Keeps t [R.LFE_L_TEMP, R.LFE_DRV_TEMP 0, R.LFE_DRV_TEMP 1, R.LFE_DRV_TEMP 2, R.LFE_DRV_TEMP 3] []) ∧
  (∀ (s : State) (d : Nat), s.blk.running = true → d < s.blk.front.relax.length →
    ∃ t, exec (.foldbackRelax d) s = .next t ∧ t.blk.front.relax.getD d 0 = s.blk.front.relax.getD d 0 + 1 ∧
      t.blk.front = { s.blk.front with relax := t.blk.front.relax } ∧ s.Keeps t [] [.front])

/-- R127, R149: VALID 0 takes a notch out of force, an admissible one is put in force with START and STOP together, one narrower than 200
kHz or that leaves less than 75 % of a port's band is refused and counted, and a locked entry or one written in another mode does not
change. It is stated of each of these commands that it answers a next state: notchWrite. -/
def Obligations.NotchWrites : Prop :=
  (∀ (s : State) (n : Nat) (v : Word), s.blk.notchMode = true → n < 32 → s.blk.get (R.LFE_NOTCH_LOCKED n) = 0 → v.toNat % 2 = 0 →
    ∃ t, exec (.notchWrite n v) s = .next t ∧ t.blk.get (R.LFE_NOTCH_VALID n) = 0 ∧
      s.Keeps t [R.LFE_NOTCH_VALID n, R.LFE_NOTCH_STAT_VALID_NOTCHES] []) ∧
  (∀ (s : State) (n start stop : Nat) (v : Word), s.blk.notchMode = true → n < 32 → s.blk.get (R.LFE_NOTCH_LOCKED n) = 0 →
      v.toNat % 2 = 1 → Tab.get 0 s.blk.front.notchWord n = start + 65536 * stop + 1 → start < 65536 → stop < 65536 →
      start + 20 ≤ stop → s.blk.notchesFit ((start, stop) :: (s.blk.set (R.LFE_NOTCH_VALID n) 0).notches) = true →
    ∃ t, exec (.notchWrite n v) s = .next t ∧ t.blk.get (R.LFE_NOTCH_VALID n) = 1 ∧
      t.blk.get (R.LFE_NOTCH_START n) = start ∧ t.blk.get (R.LFE_NOTCH_STOP n) = stop ∧
      s.Keeps t [R.LFE_NOTCH_VALID n, R.LFE_NOTCH_START n, R.LFE_NOTCH_STOP n, R.LFE_NOTCH_STAT_VALID_NOTCHES] [.front]) ∧
  (∀ (s : State) (n start stop : Nat) (v : Word), s.blk.notchMode = true → n < 32 → s.blk.get (R.LFE_NOTCH_LOCKED n) = 0 →
      v.toNat % 2 = 1 → Tab.get 0 s.blk.front.notchWord n = start + 65536 * stop + 1 → start < 65536 → stop < 65536 →
      stop < start + 20 ∨ s.blk.notchesFit ((start, stop) :: (s.blk.set (R.LFE_NOTCH_VALID n) 0).notches) = false →
    ∃ t, exec (.notchWrite n v) s = .next t ∧
      t.blk.get R.LFE_NOTCH_REFUSED_COUNT = (s.blk.get R.LFE_NOTCH_REFUSED_COUNT + 1) % 2 ^ R.LFE_NOTCH_REFUSED_COUNT.width ∧
      t.blk.get R.LFE_NOTCH_STAT_NOTCH_REFUSED = 1 ∧
      s.Keeps t ([R.LFE_NOTCH_REFUSED_COUNT, R.LFE_NOTCH_STAT_NOTCH_REFUSED] ++ recordFields) [.front, .records]) ∧
  (∀ (s : State) (n start stop : Nat) (v : Word), s.blk.notchMode = true → n < 32 → s.blk.get (R.LFE_NOTCH_LOCKED n) = 0 →
      v.toNat % 2 = 1 → Tab.get 0 s.blk.front.notchWord n = 0 → s.blk.get (R.LFE_NOTCH_START n) = start →
      s.blk.get (R.LFE_NOTCH_STOP n) = stop → start < 65536 → stop < 65536 →
      start + 20 ≤ stop → s.blk.notchesFit ((start, stop) :: (s.blk.set (R.LFE_NOTCH_VALID n) 0).notches) = true →
    ∃ t, exec (.notchWrite n v) s = .next t ∧ t.blk.get (R.LFE_NOTCH_VALID n) = 1 ∧
      s.Keeps t [R.LFE_NOTCH_VALID n, R.LFE_NOTCH_STAT_VALID_NOTCHES] [.front]) ∧
  (∀ (s : State) (n : Nat) (v : Word), s.blk.get (R.LFE_NOTCH_LOCKED n) = 1 ∨ s.blk.notchMode = false →
    ∃ t, exec (.notchWrite n v) s = .next t ∧ s.Keeps t [] [])

/-- R134, R184, R185, R186: a preamble whose statistic passes on a port that listens, with a free AGC or in a collect slot for an index
not yet declared, starts a reception and freezes its AGCs; the sync word fixes it; without one within 8 repetitions the declaration is
false, and the AGCs that no other reception holds are released. R135, R193, R194, R195: after AGC_SAT_LIMIT saturated intervals a frozen
AGC is released and counted, and the frame that it was frozen for is aborted; a block with too many erased positions marks its reception
for the abort at the end of the tick, which a frame end in that tick finds. R174, R175, R192, R193, R194: the end of a frame ends its
reception and adds up the blocks that did not converge; the frames up to the first that is not good are handed on, and none where that is
the first. It is stated of each of these commands that it answers a next state: preambleDeclare, syncFound, syncSearchTimeout,
agcSaturationRelease, erasureAbort, rxFrameEnd. -/
def Obligations.ReceptionStartToEnd : Prop :=
  (∀ (s : State) (band p : Nat) (code : Nat × Nat) (window : List Lane) (ports : List (Nat × Nat)) (collect : Bool),
      s.blk.running = true → s.blk.receiving = true → s.blk.listens band p = true → p < 4 → (∀ x ∈ ports, x.1 < 4) →
      collect = (band == 0 && s.blk.inCollect) → s.blk.frozen band p = false ∨ collect = true →
      (collect = true → s.blk.phy.rx.any (fun r => r.collect && r.stage != 3 && r.code == code && r.ports.contains p) = false) →
      s.blk.declares band (if collect then some code else none) window = true →
    ∃ t r, exec (.preambleDeclare band p ⟨code, window, ports⟩) s = .next t ∧ t.blk.phy.rx = s.blk.phy.rx ++ [r] ∧ r.band = band ∧
      r.port = p ∧ r.stage = 0 ∧ r.collect = collect ∧ r.code = code ∧ p ∈ r.ports ∧ t.blk.frozen band p = true ∧
      t.blk.get R.PHY_DET_COUNT = (s.blk.get R.PHY_DET_COUNT + 1) % 2 ^ R.PHY_DET_COUNT.width ∧
      s.Keeps t (R.PHY_DET_COUNT :: captureFields ++ (p :: ports.map Prod.fst).map (frozenField band)) [.phy, .front]) ∧
  (∀ (s : State) (band p : Nat) (code : Nat × Nat) (window : List Lane) (ports : List (Nat × Nat)),
      s.blk.receiving = false ∨ s.blk.listens band p = false ∨
        s.blk.frozen band p = true ∧ (band == 0 && s.blk.inCollect) = false →
    ∃ t, exec (.preambleDeclare band p ⟨code, window, ports⟩) s = .next t ∧ s.Keeps t [] []) ∧
  (∀ (s : State) (band p : Nat) (code : Nat × Nat) (reps : List (List Lane)) (start : EqStart) (r : Reception), s.blk.running = true →
      s.blk.receptionAt band p 0 code = some r → (syncSearch r.seq reps r.corrs r.flags).1 = true → reps.length ≤ 8 →
      (syncSearch r.seq reps r.corrs r.flags).2.1.length + 1 = r.corrs.length + reps.length →
    ∃ t r', exec (.syncFound ⟨band, p, code⟩ ⟨reps, start⟩) s = .next t ∧ r'.stage = 1 ∧
      r'.corrs = (syncSearch r.seq reps r.corrs r.flags).2.1 ∧ r'.ports = r.ports ∧ t.blk.phy.rx = s.blk.phy.rx.replace r r' ∧
      s.Keeps t [] [.phy]) ∧
  (∀ (s : State) (band p : Nat) (code : Nat × Nat) (reps : List (List Lane)) (r : Reception), s.blk.running = true →
      s.blk.receptionAt band p 0 code = some r → reps.length = 8 → (syncSearch r.seq reps r.corrs r.flags).1 = false →
      (∀ q ∈ r.ports, q < 4) →
    ∃ t, exec (.syncSearchTimeout ⟨band, p, code⟩ reps) s = .next t ∧ t.blk.phy.rx = s.blk.phy.rx.erase r ∧
      (∀ q ∈ r.ports, t.blk.holds band q = false → t.blk.get (frozenField band q) = 0) ∧
      t.blk.get R.PHY_FALSE_DET_COUNT = (s.blk.get R.PHY_FALSE_DET_COUNT + 1) % 2 ^ R.PHY_FALSE_DET_COUNT.width ∧
      t.blk.get R.PHY_RX_TROUBLE_FALSE_DET = 1 ∧
      s.Keeps t ([R.PHY_FALSE_DET_COUNT, R.PHY_RX_TROUBLE_FALSE_DET] ++ captureFields ++ r.ports.map (frozenField band) ++
        recordFields) [.phy, .records]) ∧
  (∀ (s : State) (band p n : Nat) (r : Reception), s.blk.running = true → p < 4 → s.blk.frozen band p = true →
      max 1 (s.blk.satLimit band p) ≤ n → (∀ q ∈ r.ports, q < 4) →
      s.blk.phy.rx.filter (fun r => r.band == band && r.ports.contains p && r.stage != 3 && !r.paused) = [r] →
    ∃ t, exec (.agcSaturationRelease band ⟨p, n⟩) s = .next t ∧ t.blk.phy.rx = s.blk.phy.rx.erase r ∧
      t.blk.get (frozenField band p) = 0 ∧
      t.blk.get (R.LFE_AGC_SAT_REL_COUNT p) = (s.blk.get (R.LFE_AGC_SAT_REL_COUNT p) + 1) % 2 ^ (R.LFE_AGC_SAT_REL_COUNT p).width ∧
      t.blk.get R.PHY_ABORT_OTHER_COUNT = (s.blk.get R.PHY_ABORT_OTHER_COUNT + 1) % 2 ^ R.PHY_ABORT_OTHER_COUNT.width ∧
      t.blk.get R.PHY_RX_TROUBLE_ABORT_SAT = 1 ∧ t.otp = s.otp ∧ t.pending = s.pending) ∧
  (∀ (s : State) (band p n : Nat), s.blk.running = true → p < 4 → s.blk.frozen band p = true → max 1 (s.blk.satLimit band p) ≤ n →
      s.blk.phy.rx.filter (fun r => r.band == band && r.ports.contains p && r.stage != 3 && !r.paused) = [] →
    ∃ t, exec (.agcSaturationRelease band ⟨p, n⟩) s = .next t ∧ t.blk.get (frozenField band p) = 0 ∧
      t.blk.get (R.LFE_AGC_SAT_REL_COUNT p) = (s.blk.get (R.LFE_AGC_SAT_REL_COUNT p) + 1) % 2 ^ (R.LFE_AGC_SAT_REL_COUNT p).width ∧
      s.Keeps t ([R.LFE_AGC_SAT_REL_COUNT p, R.LFE_TROUBLE_AGC_SAT_REL_H p, R.LFE_TROUBLE_AGC_SAT_REL_L p, frozenField band p] ++
        captureFields ++ recordFields) [.phy, .records]) ∧
  (∀ (s : State) (band p n : Nat), s.blk.frozen band p = false ∨ n < max 1 (s.blk.satLimit band p) →
    ∃ t, exec (.agcSaturationRelease band ⟨p, n⟩) s = .next t ∧ s.Keeps t [] []) ∧
  (∀ (s : State) (band p k erased : Nat) (code : Nat × Nat) (r : Reception), s.blk.running = true →
      (s.blk.receptionAt band p 1 code).or (s.blk.receptionAt band p 2 code) = some r → s.blk.tooErased r k erased = true →
    ∃ t, exec (.erasureAbort ⟨band, p, code⟩ ⟨k, erased⟩) s = .next t ∧
      t.blk.phy.rx = s.blk.phy.rx.replace r { r with erased := true } ∧ s.Keeps t [] [.phy]) ∧
  (∀ (s : State) (band p k erased : Nat) (code : Nat × Nat) (r : Reception),
      (s.blk.receptionAt band p 1 code).or (s.blk.receptionAt band p 2 code) = some r → s.blk.tooErased r k erased = false →
    ∃ t, exec (.erasureAbort ⟨band, p, code⟩ ⟨k, erased⟩) s = .next t ∧ s.Keeps t [] []) ∧
  (∀ (s : State) (band p : Nat) (code : Nat × Nat) (rep : RxReport) (r : Reception), s.blk.running = true →
      s.blk.receptionAt band p 2 code = some r → r.erased = true → r.hdr.ftype ≠ 4 → (∀ q ∈ r.ports, q < 4) →
    ∃ t, exec (.rxFrameEnd band p ⟨code, rep⟩) s = .next t ∧ t.blk.phy.rx = s.blk.phy.rx.erase r ∧
      t.blk.phy.delivered = s.blk.phy.delivered ∧
      t.blk.get R.PHY_ABORT_ERASE_COUNT = (s.blk.get R.PHY_ABORT_ERASE_COUNT + 1) % 2 ^ R.PHY_ABORT_ERASE_COUNT.width ∧
      t.blk.get R.PHY_RX_TROUBLE_ABORT_ERASE = 1 ∧
      s.Keeps t ([R.PHY_ABORT_ERASE_COUNT, R.PHY_RX_TROUBLE_ABORT_ERASE] ++ captureFields ++ r.ports.map (frozenField band) ++
        recordFields) [.phy, .records]) ∧
  ((∀ (s : State) (band p : Nat) (code : Nat × Nat) (rep : RxReport) (r : Reception) (l : List (RxPart × Decoded)),
      s.blk.running = true → (s.blk.receptionAt band p 2 code).or (s.blk.receptionAt band p 3 code) = some r → (∀ q ∈ r.ports, q < 4) →
      l = s.blk.decodeReception r rep.bits → r.stage = 3 ∨ r.erased = false ∧ l.any (s.blk.frameErased r.hdr) = false →
      (l.head?.map (fun e => e.1.ok)) = some true →
    ∃ t d, exec (.rxFrameEnd band p ⟨code, rep⟩) s = .next t ∧ t.blk.phy.rx = s.blk.phy.rx.erase r ∧
      t.blk.phy.delivered = s.blk.phy.delivered ++ [d] ∧ d.hdr = r.hdr ∧ d.band = band ∧ d.port = p ∧
      d.parts = (l.map Prod.fst).takeWhile (fun x => x.ok) ∧
      t.blk.get R.PHY_BLOCK_FAIL_COUNT =
        (s.blk.get R.PHY_BLOCK_FAIL_COUNT + (l.map (fun e => e.2.fails)).sum) % 2 ^ R.PHY_BLOCK_FAIL_COUNT.width ∧
      t.otp = s.otp ∧ t.pending = s.pending) ∧
  (∀ (s : State) (band p : Nat) (code : Nat × Nat) (rep : RxReport) (r : Reception) (l : List (RxPart × Decoded)),
      s.blk.running = true → (s.blk.receptionAt band p 2 code).or (s.blk.receptionAt band p 3 code) = some r → (∀ q ∈ r.ports, q < 4) →
      l = s.blk.decodeReception r rep.bits → r.stage = 3 ∨ r.erased = false ∧ l.any (s.blk.frameErased r.hdr) = false →
      (l.head?.map (fun e => e.1.ok)) = some false →
    ∃ t, exec (.rxFrameEnd band p ⟨code, rep⟩) s = .next t ∧ t.blk.phy.rx = s.blk.phy.rx.erase r ∧
      t.blk.phy.delivered = s.blk.phy.delivered ∧ t.otp = s.otp ∧ t.pending = s.pending))

/-- R163–R165, R191, R192, R266, R174, R175, R187: the decoded header block with a bad CRC ends the reception; a good one that the filter
keeps stays with it, one that the filter drops is counted, and one whose values are reserved is rejected with its cause; a good follow-on
header lengthens the train and a failed one ends it with the frames before it standing; a missed segment is counted, and a found one
freezes the AGC again. It is stated of each of these commands that it answers a next state: headerReceived, followOnHeader, segmentSearch.
-/
def Obligations.HeadersAndSegments : Prop :=
  (∀ (s : State) (band p : Nat) (code : Nat × Nat) (soft : List SoftBit) (train : List EqStep) (r : Reception) (d : Decoded),
      s.blk.running = true → s.blk.receptionAt band p 1 code = some r → (∀ q ∈ r.ports, q < 4) → d = s.blk.decodeHeader soft →
      headerCrcOk (bytesOf 32 d.bits) = false →
      (s.blk.phy.rx.erase r).find? (fun x => x.band == band && x.ports.contains p && x.stage == 2 && (!x.collect || x.code == code)) = none
      →
    ∃ t, exec (.headerReceived ⟨band, p, code⟩ soft train) s = .next t ∧ t.blk.phy.rx = s.blk.phy.rx.erase r ∧
      t.blk.get R.PHY_BLOCK_FAIL_COUNT = (s.blk.get R.PHY_BLOCK_FAIL_COUNT + d.fails) % 2 ^ R.PHY_BLOCK_FAIL_COUNT.width ∧
      t.blk.get R.PHY_HDR_CRC_FAIL_COUNT = (s.blk.get R.PHY_HDR_CRC_FAIL_COUNT + 1) % 2 ^ R.PHY_HDR_CRC_FAIL_COUNT.width ∧
      t.blk.get R.PHY_RX_TROUBLE_HDR_CRC_FAIL = 1 ∧
      s.Keeps t ([R.PHY_BLOCK_FAIL_COUNT, R.PHY_HDR_CRC_FAIL_COUNT, R.PHY_RX_TROUBLE_HDR_CRC_FAIL] ++ captureFields ++
        r.ports.map (frozenField band) ++ recordFields) [.phy, .records]) ∧
  (∀ (s : State) (band p : Nat) (code : Nat × Nat) (soft : List SoftBit) (train : List EqStep) (r : Reception) (h : Header),
      s.blk.running = true → s.blk.receptionAt band p 1 code = some r → headerCrcOk (bytesOf 32 (s.blk.decodeHeader soft).bits) = true →
      h = Header.decode (bytesOf 32 (s.blk.decodeHeader soft).bits) → headerCause h ((s.blk.profile band p).getD 7) r.collect = 0 →
      s.blk.tooManyStreams h = false → s.blk.filterKeeps h = true →
    ∃ t r', exec (.headerReceived ⟨band, p, code⟩ soft train) s = .next t ∧ r'.stage = 2 ∧ r'.hdr = h ∧ r'.ports = r.ports ∧
      t.blk.phy.rx = s.blk.phy.rx.replace r r' ∧ t.otp = s.otp ∧ t.pending = s.pending) ∧
  (∀ (s : State) (band p : Nat) (code : Nat × Nat) (soft : List SoftBit) (train : List EqStep) (r : Reception) (h : Header),
      s.blk.running = true → s.blk.receptionAt band p 1 code = some r → (∀ q ∈ r.ports, q < 4) →
      headerCrcOk (bytesOf 32 (s.blk.decodeHeader soft).bits) = true →
      h = Header.decode (bytesOf 32 (s.blk.decodeHeader soft).bits) → headerCause h ((s.blk.profile band p).getD 7) r.collect = 0 →
      s.blk.tooManyStreams h = false → s.blk.filterKeeps h = false →
      (s.blk.phy.rx.erase r).find? (fun x => x.band == band && x.ports.contains p && x.stage == 2 && (!x.collect || x.code == code)) = none
      →
    ∃ t, exec (.headerReceived ⟨band, p, code⟩ soft train) s = .next t ∧ t.blk.phy.rx = s.blk.phy.rx.erase r ∧
      t.blk.get R.MAC_FILTER_DROP_COUNT = (s.blk.get R.MAC_FILTER_DROP_COUNT + 1) % 2 ^ R.MAC_FILTER_DROP_COUNT.width ∧
      s.Keeps t ([R.PHY_BLOCK_FAIL_COUNT, R.MAC_FILTER_DROP_COUNT, R.MAC_LAST_FOREIGN_NET] ++ r.ports.map (frozenField band))
        [.phy, .mac]) ∧
  (∀ (s : State) (band p : Nat) (code : Nat × Nat) (soft : List SoftBit) (train : List EqStep) (r : Reception) (h : Header),
      s.blk.running = true → s.blk.receptionAt band p 1 code = some r → (∀ q ∈ r.ports, q < 4) →
      headerCrcOk (bytesOf 32 (s.blk.decodeHeader soft).bits) = true →
      h = Header.decode (bytesOf 32 (s.blk.decodeHeader soft).bits) → headerCause h ((s.blk.profile band p).getD 7) r.collect ≠ 0 →
      (s.blk.phy.rx.erase r).find? (fun x => x.band == band && x.ports.contains p && x.stage == 2 && (!x.collect || x.code == code)) = none
      →
    ∃ t, exec (.headerReceived ⟨band, p, code⟩ soft train) s = .next t ∧ t.blk.phy.rx = s.blk.phy.rx.erase r ∧
      t.blk.get R.PHY_REJECT_LAST_CAUSE =
        headerCause h ((s.blk.profile band p).getD 7) r.collect % 2 ^ R.PHY_REJECT_LAST_CAUSE.width ∧
      t.blk.get R.PHY_HDR_REJECT_COUNT = (s.blk.get R.PHY_HDR_REJECT_COUNT + 1) % 2 ^ R.PHY_HDR_REJECT_COUNT.width ∧
      t.blk.get R.PHY_TROUBLE_HDR_REJECT = 1 ∧
      s.Keeps t ([R.PHY_BLOCK_FAIL_COUNT, R.PHY_REJECT_LAST_CAUSE, R.PHY_REJECT_LAST_PORT, R.PHY_REJECT_LAST_BAND, R.PHY_HDR_REJECT_COUNT,
        R.PHY_TROUBLE_HDR_REJECT] ++ captureFields ++ r.ports.map (frozenField band) ++ recordFields) [.phy, .records]) ∧
  (∀ (s : State) (band p : Nat) (soft : List SoftBit) (r : Reception) (f : FollowOn) (bytes : List Byte), s.blk.running = true →
      s.blk.receptionAt band p 2 (0, 0) = some r → r.expectsFollow = true →
      bytes = bytesOf 10 (decodeCopies (s.blk.get R.PHY_DEC_ITER) 24 0 (modeRep r.hdr.mode) 80 r.hdr.control (s.blk.gateData r) soft).bits →
      f = FollowOn.decode bytes → followCrcOk bytes = true → 0 < f.len → f.len ≤ 4096 →
      (match r.parts.getLast? with | some x => x.ctr | none => r.hdr.ctr) < f.ctr →
    ∃ t y, exec (.followOnHeader band p soft) s = .next t ∧ y.ctr = f.ctr ∧ y.len = f.len ∧ y.more = f.more ∧
      t.blk.phy.rx = s.blk.phy.rx.replace r { r with parts := r.parts ++ [y] } ∧ s.Keeps t [R.PHY_BLOCK_FAIL_COUNT] [.phy]) ∧
  (∀ (s : State) (band p : Nat) (soft : List SoftBit) (r : Reception), s.blk.running = true →
      s.blk.receptionAt band p 2 (0, 0) = some r → r.expectsFollow = true → (∀ q ∈ r.ports, q < 4) →
      followCrcOk (bytesOf 10 (decodeCopies (s.blk.get R.PHY_DEC_ITER) 24 0 (modeRep r.hdr.mode) 80 r.hdr.control (s.blk.gateData r)
        soft).bits) = false →
    ∃ t, exec (.followOnHeader band p soft) s = .next t ∧ t.blk.phy.rx = s.blk.phy.rx.replace r { r with stage := 3 } ∧
      t.blk.get R.PHY_HDR_CRC_FAIL_COUNT = (s.blk.get R.PHY_HDR_CRC_FAIL_COUNT + 1) % 2 ^ R.PHY_HDR_CRC_FAIL_COUNT.width ∧
      s.Keeps t ([R.PHY_BLOCK_FAIL_COUNT, R.PHY_HDR_CRC_FAIL_COUNT, R.PHY_RX_TROUBLE_HDR_CRC_FAIL] ++ captureFields ++
        r.ports.map (frozenField band) ++ recordFields) [.phy, .records]) ∧
  (∀ (s : State) (band p power : Nat) (window : List Lane) (r : Reception), s.blk.running = true →
      s.blk.receptionAt band p 2 (0, 0) = some r → r.seg + 1 < r.hdr.span → (∀ q ∈ r.ports, q < 4) →
      s.blk.listens band p = false ∨ s.blk.findsSegment band window = false →
    ∃ t, exec (.segmentSearch band p ⟨window, power⟩) s = .next t ∧
      t.blk.phy.rx = s.blk.phy.rx.replace r { r with seg := r.seg + 1, paused := true, missed := r.missed ++ [r.seg + 1] } ∧
      t.blk.get R.PHY_SEG_MISSED_COUNT = (s.blk.get R.PHY_SEG_MISSED_COUNT + 1) % 2 ^ R.PHY_SEG_MISSED_COUNT.width ∧
      t.blk.get R.PHY_RX_TROUBLE_SEG_MISSED = 1 ∧
      s.Keeps t ([R.PHY_SEG_MISSED_COUNT, R.PHY_RX_TROUBLE_SEG_MISSED] ++ r.ports.map (frozenField band) ++ recordFields)
        [.phy, .records]) ∧
  (∀ (s : State) (band p power : Nat) (window : List Lane) (r : Reception), s.blk.running = true →
      s.blk.receptionAt band p 2 (0, 0) = some r → r.seg + 1 < r.hdr.span → (∀ q ∈ r.ports, q < 4) →
      s.blk.listens band p = true → s.blk.findsSegment band window = true →
    ∃ t r', exec (.segmentSearch band p ⟨window, power⟩) s = .next t ∧ (∀ q ∈ r.ports, t.blk.frozen band q = true) ∧
      r'.seg = r.seg + 1 ∧ r'.paused = false ∧ r'.missed = r.missed ∧ t.blk.phy.rx = s.blk.phy.rx.replace r r' ∧
      s.Keeps t (r.ports.map (frozenField band)) [.phy, .front])

/-- R207: ARM starts the ring where the region has a size and the mode admits it, and nothing but CAP_CTRL changes elsewhere; the selected
trigger starts the capture; STOP and the last unit end it. It is stated of each of these commands that it answers a next state:
captureArm, captureTrigger, captureStop, captureEnd. -/
def Obligations.LineCapture : Prop :=
  (∀ (s : State) (p band trig : Nat), s.blk.mode = 4 ∨ s.blk.mode = 6 ∨ s.blk.mode = 7 ∨ s.blk.mode = 10 → 1 ≤ trig → trig ≤ 5 →
      s.blk.get R.PHY_CAP_STAT_STATE ≠ 2 →
    ∃ t, exec (.captureArm p band trig) s = .next t ∧ t.blk.get R.PHY_CAP_CTRL_PORT = p % 4 ∧
      t.blk.get R.PHY_CAP_CTRL_BAND = band % 2 ∧ t.blk.get R.PHY_CAP_CTRL_TRIG = trig ∧
      t.blk.get R.PHY_CAP_STAT_STATE = (if s.blk.captureRegion = 0 then s.blk.get R.PHY_CAP_STAT_STATE else 1) ∧
      s.Keeps t [R.PHY_CAP_CTRL_PORT, R.PHY_CAP_CTRL_BAND, R.PHY_CAP_CTRL_TRIG, R.PHY_CAP_STAT_STATE, R.PHY_CAP_STAT_ABORTED,
        R.PHY_CAP_STAT_UNITS] [.phy]) ∧
  (∀ (s : State) (p band trig : Nat), s.blk.reachable = true → trig ≤ 5 →
      ¬(s.blk.mode = 4 ∨ s.blk.mode = 6 ∨ s.blk.mode = 7 ∨ s.blk.mode = 10) →
    ∃ t, exec (.captureArm p band trig) s = .next t ∧
      s.Keeps t [R.PHY_CAP_CTRL_PORT, R.PHY_CAP_CTRL_BAND, R.PHY_CAP_CTRL_TRIG] []) ∧
  (∀ (s : State) (kind : Nat), s.blk.running = true → s.blk.get R.PHY_CAP_STAT_STATE = 1 → s.blk.get R.PHY_CAP_CTRL_TRIG = kind →
    ∃ t, exec (.captureTrigger kind) s = .next t ∧ t.blk.get R.PHY_CAP_STAT_STATE = 2 ∧
      t.blk.get R.PHY_CAP_STAT_UNITS = s.blk.phy.capture.length % 2 ^ R.PHY_CAP_STAT_UNITS.width ∧
      s.Keeps t captureFields [.phy]) ∧
  (∀ s : State, s.blk.reachable = true → s.blk.get R.PHY_CAP_STAT_STATE = 1 ∨ s.blk.get R.PHY_CAP_STAT_STATE = 2 →
    ∃ t, exec .captureStop s = .next t ∧ t.blk.get R.PHY_CAP_STAT_STATE = 3 ∧ t.blk.get R.PHY_CAP_STAT_ABORTED = 0 ∧
      s.Keeps t [R.PHY_CAP_STAT_STATE, R.PHY_CAP_STAT_ABORTED] []) ∧
  (∀ s : State, s.blk.running = true → s.blk.get R.PHY_CAP_STAT_STATE = 2 →
    ∃ t, exec .captureEnd s = .next t ∧ t.blk.get R.PHY_CAP_STAT_STATE = 3 ∧ t.blk.get R.PHY_CAP_STAT_ABORTED = 0 ∧
      s.Keeps t [R.PHY_CAP_STAT_STATE, R.PHY_CAP_STAT_ABORTED] [])

/-- R254, R255, R263: in the node's own BEACON slot the head-end, or a relay that heard its parent's beacon, makes a full beacon ready
where it has the next values and one is due, else a short one; a full one that does not fit gives way to a short one; a slot in a
forbidden band is lost. R5, R252, R253, R277, R286: the parent's full beacon gives the values and the map of the next period, on the
node's own time scale; a surveying node records an own-network beacon that is open to joining as a candidate; a full beacon with a
reserved value is rejected and counted. It is stated of each of these commands that it answers a next state: beaconTx, beaconRx. -/
def Obligations.Beacons : Prop :=
  (∀ (s : State) (g : GridVals), s.blk.running = true → s.blk.mayTransmit = true → s.blk.hasGrid = true → s.blk.beaconSlot = true →
      s.blk.forbidden 0 = false →
      s.blk.role = 0 ∧ s.blk.grid.periodIndex % max 1 s.blk.grid.fullEvery = 0 ∨
        s.blk.role ≠ 0 ∧ s.blk.role ≠ 2 ∧ s.blk.get R.MAC_STAT_STATE ≠ 4 ∧ s.blk.flag R.MAC_TROUBLE_BEACON_LOST = false →
      s.blk.grid.next = some g → s.blk.fitsRun (s.blk.beaconFrame (s.blk.beaconBytes g)) 1 = true →
    ∃ t, exec .beaconTx s = .next t ∧ t.blk.mac.ready = s.blk.mac.ready ++ [s.blk.beaconFrame (s.blk.beaconBytes g)] ∧
      s.Keeps t [] [.mac]) ∧
  (∀ s : State, s.blk.running = true → s.blk.mayTransmit = true → s.blk.hasGrid = true → s.blk.beaconSlot = true →
      s.blk.forbidden 0 = false →
      s.blk.role = 0 ∧ (s.blk.grid.periodIndex % max 1 s.blk.grid.fullEvery ≠ 0 ∨ s.blk.grid.next = none) ∨
        s.blk.role ≠ 0 ∧ s.blk.role ≠ 2 ∧ s.blk.get R.MAC_STAT_STATE ≠ 4 ∧ s.blk.flag R.MAC_TROUBLE_BEACON_LOST = false ∧
          s.blk.grid.next = none →
      s.blk.fitsRun (s.blk.beaconFrame []) 1 = true →
    ∃ t, exec .beaconTx s = .next t ∧ t.blk.mac.ready = s.blk.mac.ready ++ [s.blk.beaconFrame []] ∧ s.Keeps t [] [.mac]) ∧
  (∀ (s : State) (g : GridVals), s.blk.running = true → s.blk.mayTransmit = true → s.blk.hasGrid = true → s.blk.beaconSlot = true →
      s.blk.forbidden 0 = false →
      s.blk.role = 0 ∧ s.blk.grid.periodIndex % max 1 s.blk.grid.fullEvery = 0 ∨
        s.blk.role ≠ 0 ∧ s.blk.role ≠ 2 ∧ s.blk.get R.MAC_STAT_STATE ≠ 4 ∧ s.blk.flag R.MAC_TROUBLE_BEACON_LOST = false →
      s.blk.grid.next = some g → s.blk.fitsRun (s.blk.beaconFrame (s.blk.beaconBytes g)) 1 = false →
      s.blk.fitsRun (s.blk.beaconFrame []) 1 = true →
    ∃ t, exec .beaconTx s = .next t ∧ t.blk.mac.ready = s.blk.mac.ready ++ [s.blk.beaconFrame []] ∧
      t.blk.get R.MAC_SLOT_LOST_COUNT = (s.blk.get R.MAC_SLOT_LOST_COUNT + 1) % 2 ^ R.MAC_SLOT_LOST_COUNT.width ∧
      t.blk.get R.MAC_TROUBLE_SLOT_LOST = 1 ∧
      s.Keeps t ([R.MAC_SLOT_LOST_COUNT, R.MAC_TROUBLE_SLOT_LOST] ++ recordFields) [.mac, .records]) ∧
  (∀ s : State, s.blk.running = true → s.blk.mayTransmit = true → s.blk.hasGrid = true → s.blk.beaconSlot = true →
      s.blk.forbidden 0 = true → s.blk.role ≠ 2 →
    ∃ t, exec .beaconTx s = .next t ∧
      t.blk.get R.MAC_SLOT_LOST_COUNT = (s.blk.get R.MAC_SLOT_LOST_COUNT + 1) % 2 ^ R.MAC_SLOT_LOST_COUNT.width ∧
      t.blk.get R.MAC_TROUBLE_SLOT_LOST = 1 ∧
      s.Keeps t ([R.MAC_SLOT_LOST_COUNT, R.MAC_TROUBLE_SLOT_LOST] ++ recordFields) [.records]) ∧
  ((∀ (s : State) (d : Delivered) (x : RxPart) (l : List RxPart), s.blk.running = true → s.blk.mode ≠ 4 → s.blk.mode ≠ 5 →
      s.blk.phy.delivered.find? (fun d => d.hdr.ftype == 0) = some d → d.parts = x :: l → x.payload ≠ [] →
      beaconOk x.payload = true → d.hdr.net = s.blk.netId → s.blk.get R.MAC_STAT_STATE ≠ 4 → s.blk.macParent d.hdr.src = true →
      s.blk.oneWayOpen = false →
    ∃ t, exec .beaconRx s = .next t ∧ t.blk.phy.delivered = s.blk.phy.delivered.erase d ∧
      t.blk.grid.next = some ⟨leAt x.payload 4 4, (((s.blk.beaconZ x.payload : Nat) : Int) - s.blk.time.coarse).toNat,
        leAt x.payload 16 4 * 1024⟩ ∧
      t.blk.grid.nextMap = x.payload.drop 24 ∧ t.blk.grid.nextBp = leAt x.payload 2 1 ∧ t.blk.grid.nextSeq = leAt x.payload 22 2 ∧
      t.blk.grid.fullEvery = leAt x.payload 21 1 ∧
      t.blk.get R.GLB_GRID_GRID_FREE = (if (leAt x.payload 1 1).testBit 1 then 1 else 0) ∧
      s.Keeps t [R.GLB_GRID_GRID_FREE] [.phy, .grid]) ∧
  (∀ (s : State) (d : Delivered) (x : RxPart) (l : List RxPart), s.blk.running = true → s.blk.mode = 4 →
      s.blk.phy.delivered.find? (fun d => d.hdr.ftype == 0) = some d → d.parts = x :: l → x.payload ≠ [] →
      beaconOk x.payload = true → d.hdr.net = s.blk.netId → (leAt x.payload 1 1).testBit 0 = true → leAt x.payload 3 1 < 32 →
      s.blk.macParent d.hdr.src = false →
    ∃ t c, exec .beaconRx s = .next t ∧ t.blk.phy.delivered = s.blk.phy.delivered.erase d ∧
      t.blk.mac.candidates = s.blk.mac.candidates.filter (fun x => x.addr != d.hdr.src) ++ [c] ∧ c.addr = d.hdr.src ∧
      c.snr = d.snr ∧ c.depth = leAt x.payload 3 1 ∧ c.band = d.band ∧ c.port = d.port ∧ c.passed = false ∧
      s.Keeps t [] [.phy, .mac]) ∧
  (∀ (s : State) (d : Delivered) (x : RxPart) (l : List RxPart), s.blk.running = true →
      s.blk.phy.delivered.find? (fun d => d.hdr.ftype == 0) = some d → d.parts = x :: l → x.payload ≠ [] →
      beaconOk x.payload = false →
    ∃ t, exec .beaconRx s = .next t ∧ t.blk.phy.delivered = s.blk.phy.delivered.erase d ∧
      t.blk.get R.MAC_UNDEF_COUNT = (s.blk.get R.MAC_UNDEF_COUNT + 1) % 2 ^ R.MAC_UNDEF_COUNT.width ∧
      s.Keeps t [R.MAC_UNDEF_COUNT] [.phy]))

/-- R222–R225, R263: a child's request and a parent's reply are made ready with their mark on a tick boundary; a request whose band is
forbidden is lost; a delivered request is kept for its reply with its receive timestamp; a TIMING frame with a value that the format does
not define is rejected and counted. It is stated of each of these commands that it answers a next state: timingRequestTx, timingReplyTx,
timingRx. -/
def Obligations.TimingFrames : Prop :=
  (∀ s : State, s.blk.running = true → s.blk.get R.TIM_PARENT_PARENT ≠ 0 → s.blk.role ≠ 0 → s.blk.mayTransmit = true →
      s.blk.hasGrid = true → s.blk.forbidden s.blk.timingBand = false →
    ∃ t f mark, exec .timingRequestTx s = .next t ∧ t.blk.mac.ready = s.blk.mac.ready ++ [f] ∧ f.kind = .timing ∧
      f.band = s.blk.timingBand ∧ f.hdr.dst = s.blk.get R.TIM_PARENT_PARENT ∧
      mark = (s.blk.tick + 1 + markTicks ((s.blk.profile s.blk.timingBand (s.blk.get R.TIM_TREE_PORT)).getD 0)) * tickLen ∧
      f.payload = s.blk.timingBytes (s.blk.get R.TIM_PARENT_PARENT) 1
        (((s.blk.peerTime (s.blk.get R.TIM_PARENT_PARENT)).seq + 1) % 65536) mark ∧
      (t.blk.peerTime (s.blk.get R.TIM_PARENT_PARENT)).t1 = some mark ∧
      (t.blk.peerTime (s.blk.get R.TIM_PARENT_PARENT)).seq = ((s.blk.peerTime (s.blk.get R.TIM_PARENT_PARENT)).seq + 1) % 65536 ∧
      t.blk.time.misses = s.blk.time.misses + 1 ∧ s.Keeps t [] [.time, .mac]) ∧
  (∀ s : State, s.blk.running = true → s.blk.get R.TIM_PARENT_PARENT ≠ 0 → s.blk.role ≠ 0 → s.blk.mayTransmit = true →
      s.blk.hasGrid = true → s.blk.forbidden s.blk.timingBand = true →
    ∃ t, exec .timingRequestTx s = .next t ∧ t.blk.time.misses = s.blk.time.misses + 1 ∧
      t.blk.get R.MAC_SLOT_LOST_COUNT = (s.blk.get R.MAC_SLOT_LOST_COUNT + 1) % 2 ^ R.MAC_SLOT_LOST_COUNT.width ∧
      t.blk.get R.MAC_TROUBLE_SLOT_LOST = 1 ∧
      s.Keeps t ([R.MAC_SLOT_LOST_COUNT, R.MAC_TROUBLE_SLOT_LOST] ++ recordFields) [.time, .records]) ∧
  (∀ (s : State) (peer : Nat) (pt : PeerTime), s.blk.running = true →
      s.blk.time.peers.find? (fun e => e.2.echo.isSome) = some (peer, pt) → s.blk.mayTransmit = true →
      s.blk.forbidden (bits (Tab.get 0 s.blk.mac.heardOn peer - 1) 2 1) = false →
    ∃ t f mark, exec .timingReplyTx s = .next t ∧ t.blk.mac.ready = s.blk.mac.ready ++ [f] ∧ f.kind = .timing ∧
      f.band = bits (Tab.get 0 s.blk.mac.heardOn peer - 1) 2 1 ∧ f.hdr.dst = peer ∧
      mark = (s.blk.tick + markTicks ((s.blk.profile f.band ((Tab.get 0 s.blk.mac.heardOn peer - 1) % 4)).getD 0)) * tickLen ∧
      f.payload = s.blk.timingBytes peer 2 (pt.echo.getD 0) mark ∧
      (t.blk.peerTime peer).echo = none ∧ s.Keeps t [] [.time, .mac]) ∧
  (∀ (s : State) (d : Delivered) (b1 b2 b3 : Block) (x : RxPart) (l : List RxPart) (pl : List Byte) (tag : Nat),
      s.blk.running = true → s.blk.takeDelivered (fun d => d.hdr.ftype == 4) = some (d, b1) → d.parts = x :: l →
      b1.openPart d.hdr x false = (some (pl, tag), b2) → b2.dupCheck d.hdr.src 1 x.ctr x.epoch tag true = (.accept, b3) →
      pl.length = 24 → leAt pl 0 1 = 1 → stamp64Ok (leAt pl 4 8) = true → stamp64Ok d.hdr.timing = true →
      (leAt pl 1 1).testBit 2 = true ∨ (s.blk.peerTime d.hdr.src).sent = none →
    ∃ t, exec .timingRx s = .next t ∧ t.blk.phy.delivered = s.blk.phy.delivered.erase d ∧
      (t.blk.peerTime d.hdr.src).echo = some (leAt pl 2 2) ∧ (t.blk.peerTime d.hdr.src).lastRx = d.time.stamp ∧
      (t.blk.peerTime d.hdr.src).mark = some (unstamp64 (leAt pl 4 8) s.blk.netNow) ∧
      s.Keeps t [R.TIM_UTC_UTC_OFFSET, R.TIM_UTC_LEAP61, R.TIM_UTC_LEAP59, R.TIM_STAT_TRACEABLE, R.TIM_PTP_STAT_CLOCK_CLASS]
        [.phy, .tables, .time]) ∧
  (∀ (s : State) (d : Delivered) (b1 b2 b3 : Block) (x : RxPart) (l : List RxPart) (pl : List Byte) (tag : Nat),
      s.blk.running = true → s.blk.takeDelivered (fun d => d.hdr.ftype == 4) = some (d, b1) → d.parts = x :: l →
      b1.openPart d.hdr x false = (some (pl, tag), b2) → b2.dupCheck d.hdr.src 1 x.ctr x.epoch tag true = (.accept, b3) →
      pl.length ≠ 24 ∨ leAt pl 0 1 ≠ 1 ∧ leAt pl 0 1 ≠ 2 ∨ stamp64Ok (leAt pl 4 8) = false ∨ stamp64Ok d.hdr.timing = false →
    ∃ t, exec .timingRx s = .next t ∧ t.blk.phy.delivered = s.blk.phy.delivered.erase d ∧
      t.blk.get R.TIM_UNDEF_COUNT = (s.blk.get R.TIM_UNDEF_COUNT + 1) % 2 ^ R.TIM_UNDEF_COUNT.width ∧
      s.Keeps t [R.TIM_UNDEF_COUNT] [.phy, .tables])

/-- R261, R262, R267, R303: at count zero on a clear channel the first frame of the band's order that may go is made ready with the mode
chosen for its peer and leaves the order, alone or with the frames and the interleaving asked for; before that a clear unit counts the
backoff down; a mesh frame without a route is dropped and counted. R268, R270, R273, R302: a delivered frame to this node that asks for an
acknowledgement gets an ACK of its counter, in class 0 a BLOCK_ACK after its wait, a duplicate too; a replay is counted and nothing
acknowledges it; a delivered command for this node is kept for its own operation. It is stated of each of these commands that it answers a
next state: contentionAccess, dataRx. -/
def Obligations.AccessAndDelivery : Prop :=
  (∀ (s : State) (band rng span train : Nat) (f g : TxFrame), s.blk.running = true → s.blk.syncOrder = s.blk →
      (s.blk.access band).forReply = false →
      s.blk.mac.order.find? (fun f => f.band == band && f.kind == .other && !s.blk.peerBusy f && s.blk.queueTurn f) = some f →
      f.final = 0 → g = (s.blk.remode f).1 → s.blk.tooLong g = false → s.blk.permitted g = true → s.blk.budgetOk g = true →
      (s.blk.access band).count = some 0 → s.blk.busy band = false →
      (if f.band = 0 then (s.blk.portsFor g).map Load.drvH else [Load.drvL]).all s.blk.loaded = true →
    ∃ t h, exec (.contentionAccess band ⟨rng, span, train⟩) s = .next t ∧ t.blk.mac.ready = s.blk.mac.ready ++ [h] ∧
      h.payload = f.payload ∧ h.hdr.dst = f.hdr.dst ∧ h.hdr.mode = g.hdr.mode ∧ (h.hdr.span = f.hdr.span ∨ h.hdr.span = span) ∧
      h.follow.length ≤ f.follow.length + min train 255 ∧ (t.blk.access band).count = none ∧
      s.Keeps t [R.MSH_FWD_COUNT] [.mac, .queues, .records]) ∧
  (∀ (s : State) (band rng : Nat) (f g : TxFrame), s.blk.running = true → s.blk.syncOrder = s.blk →
      (s.blk.access band).forReply = false →
      s.blk.mac.order.find? (fun f => f.band == band && f.kind == .other && !s.blk.peerBusy f && s.blk.queueTurn f) = some f →
      f.final = 0 → f.queue = none → g = (s.blk.remode f).1 → s.blk.tooLong g = false → s.blk.permitted g = true →
      s.blk.budgetOk g = true → (s.blk.access band).count = some 0 → s.blk.busy band = false →
      (if f.band = 0 then (s.blk.portsFor g).map Load.drvH else [Load.drvL]).all s.blk.loaded = true →
    ∃ t, exec (.contentionAccess band ⟨rng, 0, 0⟩) s = .next t ∧ t.blk.mac.ready = s.blk.mac.ready ++ [g] ∧
      t.blk.mac.order = (s.blk.remode f).2.mac.order.erase g ∧ (t.blk.access band).count = none ∧ s.Keeps t [] [.mac]) ∧
  (∀ (s : State) (band rng span train n : Nat) (f g : TxFrame), s.blk.running = true → s.blk.syncOrder = s.blk →
      (s.blk.access band).forReply = false →
      s.blk.mac.order.find? (fun f => f.band == band && f.kind == .other && !s.blk.peerBusy f && s.blk.queueTurn f) = some f →
      f.final = 0 → g = (s.blk.remode f).1 → s.blk.tooLong g = false → s.blk.permitted g = true → s.blk.budgetOk g = true →
      (s.blk.access band).count = some (n + 1) → s.blk.busy band = false →
    ∃ t, exec (.contentionAccess band ⟨rng, span, train⟩) s = .next t ∧ (t.blk.access band).count = some n ∧
      t.blk.mac.ready = s.blk.mac.ready ∧ t.blk.mac.order = (s.blk.remode f).2.mac.order ∧ s.Keeps t [] [.mac]) ∧
  (∀ (s : State) (band rng span train : Nat) (f : TxFrame), s.blk.running = true → s.blk.syncOrder = s.blk →
      (s.blk.access band).forReply = false →
      s.blk.mac.order.find? (fun f => f.band == band && f.kind == .other && !s.blk.peerBusy f && s.blk.queueTurn f) = some f →
      f.final ≠ 0 → f.queue = none → f.hdr.hop ≤ 31 → s.blk.role = 2 ∧ f.src ≠ 0 ∨ s.blk.nextHop f.final = none →
    ∃ t, exec (.contentionAccess band ⟨rng, span, train⟩) s = .next t ∧ t.blk.mac.order = s.blk.mac.order.erase f ∧
      t.blk.get R.MSH_NO_ROUTE_COUNT = (s.blk.get R.MSH_NO_ROUTE_COUNT + 1) % 2 ^ R.MSH_NO_ROUTE_COUNT.width ∧
      t.blk.get R.MSH_TROUBLE_NO_ROUTE = 1 ∧
      s.Keeps t ([R.MSH_NO_ROUTE_COUNT, R.MSH_TROUBLE_NO_ROUTE] ++ recordFields) [.mac, .records]) ∧
  (∀ (s : State) (q : Nat) (d : Delivered) (b1 b2 b3 : Block) (x : RxPart) (tag : Nat), s.blk.running = true →
      s.blk.takeDelivered (fun d => d.hdr.ftype == 1 || d.hdr.ftype == 5) = some (d, b1) → d.parts = [x] →
      b1.openPart d.hdr x false = (some ([], tag), b2) → b2.dupCheck d.hdr.src d.hdr.cls x.ctr x.epoch tag true = (.accept, b3) →
      x.ackReq = true → d.hdr.dst = s.blk.short → groupAddr d.hdr.dst = false → d.hdr.cls = 1 →
    ∃ t a, exec (.dataRx q) s = .next t ∧ t.blk.mac.order = s.blk.mac.order ++ [a] ∧ a.kind = .ack ∧ a.band = d.band ∧
      a.hdr.dst = d.hdr.src ∧ a.hdr.ctr = x.ctr ∧ a.after = d.tick ∧ t.blk.phy.delivered = s.blk.phy.delivered.erase d ∧
      s.Keeps t [R.MSH_NODES_ACTIVE, R.MSH_NODES_LOST, R.MSH_LS_USED] [.phy, .mac, .tables, .mesh]) ∧
  (∀ (s : State) (q : Nat) (d : Delivered) (b1 b2 b3 : Block) (x : RxPart) (tag : Nat), s.blk.running = true →
      s.blk.takeDelivered (fun d => d.hdr.ftype == 1 || d.hdr.ftype == 5) = some (d, b1) → d.parts = [x] →
      b1.openPart d.hdr x false = (some ([], tag), b2) → b2.dupCheck d.hdr.src d.hdr.cls x.ctr x.epoch tag true = (.accept, b3) →
      x.ackReq = true → d.hdr.dst = s.blk.short → groupAddr d.hdr.dst = false → d.hdr.cls = 0 →
    ∃ t a, exec (.dataRx q) s = .next t ∧ a.kind = .blockAck ∧ a.band = d.band ∧ a.hdr.dst = d.hdr.src ∧
      a.after = s.blk.tick + max (s.blk.get R.MAC_BA_BA_WAIT) 1 ∧
      t.blk.mac.order =
        s.blk.mac.order.filter (fun g => ¬(g.kind = .blockAck ∧ g.hdr.dst = d.hdr.src ∧ g.band = d.band)) ++ [a] ∧
      t.blk.phy.delivered = s.blk.phy.delivered.erase d ∧
      s.Keeps t [R.MSH_NODES_ACTIVE, R.MSH_NODES_LOST, R.MSH_LS_USED] [.phy, .mac, .tables, .mesh]) ∧
  (∀ (s : State) (q : Nat) (d : Delivered) (b1 b2 b3 : Block) (x : RxPart) (pl : List Byte) (tag : Nat), s.blk.running = true →
      s.blk.takeDelivered (fun d => d.hdr.ftype == 1 || d.hdr.ftype == 5) = some (d, b1) → d.parts = [x] →
      b1.openPart d.hdr x false = (some (pl, tag), b2) →
      b2.dupCheck d.hdr.src d.hdr.cls x.ctr x.epoch tag true = (.duplicate, b3) →
      x.ackReq = true → d.hdr.dst = s.blk.short → groupAddr d.hdr.dst = false → d.hdr.cls = 1 →
    ∃ t a, exec (.dataRx q) s = .next t ∧ t.blk.mac.order = s.blk.mac.order ++ [a] ∧ a.kind = .ack ∧ a.hdr.dst = d.hdr.src ∧
      a.hdr.ctr = x.ctr ∧ t.blk.get R.MAC_DUP_COUNT = (s.blk.get R.MAC_DUP_COUNT + 1) % 2 ^ R.MAC_DUP_COUNT.width ∧
      t.blk.phy.delivered = s.blk.phy.delivered.erase d ∧ s.Keeps t [R.MAC_DUP_COUNT] [.phy, .mac, .tables]) ∧
  (∀ (s : State) (q : Nat) (d : Delivered) (b1 b2 b3 : Block) (x : RxPart) (pl : List Byte) (tag : Nat), s.blk.running = true →
      s.blk.takeDelivered (fun d => d.hdr.ftype == 1 || d.hdr.ftype == 5) = some (d, b1) → d.parts = [x] →
      b1.openPart d.hdr x false = (some (pl, tag), b2) →
      b2.dupCheck d.hdr.src d.hdr.cls x.ctr x.epoch tag true = (.replay, b3) →
    ∃ t, exec (.dataRx q) s = .next t ∧ t.blk.phy.delivered = s.blk.phy.delivered.erase d ∧
      t.blk.get R.MAC_REPLAY_COUNT = (s.blk.get R.MAC_REPLAY_COUNT + 1) % 2 ^ R.MAC_REPLAY_COUNT.width ∧
      t.blk.get R.MAC_TROUBLE_REPLAY = 1 ∧
      s.Keeps t ([R.MAC_REPLAY_COUNT, R.MAC_TROUBLE_REPLAY, R.MAC_ORDER_DROP_COUNT] ++ recordFields) [.phy, .tables, .records]) ∧
  (∀ (s : State) (q : Nat) (d : Delivered) (b1 b2 b3 : Block) (x : RxPart) (pl : List Byte) (tag : Nat), s.blk.running = true →
      s.blk.takeDelivered (fun d => d.hdr.ftype == 1 || d.hdr.ftype == 5) = some (d, b1) → d.parts = [x] →
      b1.openPart d.hdr x false = (some (pl, tag), b2) → b2.dupCheck d.hdr.src d.hdr.cls x.ctr x.epoch tag true = (.accept, b3) →
      d.hdr.ftype = 5 → x.ackReq = false → 8 ≤ pl.length → leAt pl 0 2 = s.blk.short → groupAddr s.blk.short = false →
      commandCode (leAt pl 6 1) = true →
    ∃ t, exec (.dataRx q) s = .next t ∧
      t.blk.mac.commands = s.blk.mac.commands ++ [⟨leAt pl 6 1, leAt pl 2 2, d.hdr.src, d.band, d.port, pl.drop 8⟩] ∧
      t.blk.phy.delivered = s.blk.phy.delivered.erase d ∧
      s.Keeps t [R.MSH_NODES_ACTIVE, R.MSH_NODES_LOST, R.MSH_LS_USED] [.phy, .mac, .tables, .mesh]) ∧
  (∀ (s : State) (q : Nat) (d : Delivered) (b1 b2 b3 : Block) (x : RxPart) (pl : List Byte) (tag : Nat), s.blk.running = true →
      s.blk.takeDelivered (fun d => d.hdr.ftype == 1 || d.hdr.ftype == 5) = some (d, b1) → d.parts = [x] →
      b1.openPart d.hdr x false = (some (pl, tag), b2) → b2.dupCheck d.hdr.src d.hdr.cls x.ctr x.epoch tag true = (.accept, b3) →
      d.hdr.ftype = 1 → x.ackReq = false → 6 ≤ pl.length → leAt pl 0 2 = s.blk.short → groupAddr s.blk.short = false →
      (∀ c, (s.blk.cus c).present = false) → 0 < q → q < 4096 → (s.blk.q q).capacity ≠ 0 → (s.blk.q q).refill = false →
      (s.blk.q q).bulk = false → s.blk.openOf ctxMac = none →
      s.blk.fill q + cellsOf (pl.length - 6) ≤ (s.blk.q q).capacity →
    ∃ t, exec (.dataRx q) s = .next t ∧ (t.blk.q q).pkts = (s.blk.q q).pkts ++ [⟨0, 0, s.blk.tickTag, pl.drop 6⟩] ∧
      t.blk.phy.delivered = s.blk.phy.delivered.erase d ∧ (∀ n, n ≠ q → n ≠ 0 → t.blk.q n = s.blk.q n) ∧
      s.Keeps t ([R.MSH_NODES_ACTIVE, R.MSH_NODES_LOST, R.MSH_LS_USED] ++ recordFields)
        [.phy, .mac, .tables, .mesh, .queues, .records])

/-- R268, R270, R271: a queued ACK that may be sent and ends within its run is made ready with the pending bit sampled; of two due at once
the one whose verdict came first goes and the other is blocked; a BLOCK_ACK that its run serves counts its own backoff down and is made
ready at zero; one that may not be sent is blocked and counted. It is stated of each of these commands that it answers a next state:
ackTx, blockAckTx. -/
def Obligations.AcknowledgementsSent : Prop :=
  (∀ (s : State) (band : Nat) (f g : TxFrame), s.blk.running = true →
      s.blk.mac.order.filter (fun f => f.kind == .ack && f.band == band) = [f] →
      g = { f with hdr := { f.hdr with pending := decide (s.blk.pendingFor f.hdr.dst ≠ 0) } } →
      s.blk.replyOk g = true → s.blk.ackFits g = true →
    ∃ t, exec (.ackTx band) s = .next t ∧ t.blk.mac.ready = s.blk.mac.ready ++ [g] ∧ t.blk.mac.order = s.blk.mac.order.erase f ∧
      s.Keeps t [] [.mac]) ∧
  (∀ (s : State) (band : Nat) (f h first g : TxFrame), s.blk.running = true →
      s.blk.mac.order.filter (fun f => f.kind == .ack && f.band == band) = [f, h] → first = (if ackFirst f h then f else h) →
      g = { first with hdr := { first.hdr with pending := decide (s.blk.pendingFor first.hdr.dst ≠ 0) } } →
      s.blk.replyOk g = true → s.blk.ackFits g = true →
    ∃ t, exec (.ackTx band) s = .next t ∧ t.blk.mac.ready = s.blk.mac.ready ++ [g] ∧
      t.blk.mac.order = (s.blk.mac.order.erase f).erase h ∧
      t.blk.get R.MAC_REPLY_BLOCKED_COUNT = (s.blk.get R.MAC_REPLY_BLOCKED_COUNT + 1) % 2 ^ R.MAC_REPLY_BLOCKED_COUNT.width ∧
      t.blk.get R.MAC_TROUBLE_REPLY_BLOCKED = 1 ∧
      s.Keeps t ([R.MAC_REPLY_BLOCKED_COUNT, R.MAC_TROUBLE_REPLY_BLOCKED] ++ recordFields) [.mac, .records]) ∧
  (∀ (s : State) (band : Nat) (f g : TxFrame), s.blk.running = true →
      s.blk.mac.order.filter (fun f => f.kind == .ack && f.band == band) = [f] →
      g = { f with hdr := { f.hdr with pending := decide (s.blk.pendingFor f.hdr.dst ≠ 0) } } →
      s.blk.replyOk g = false ∨ s.blk.ackFits g = false →
    ∃ t, exec (.ackTx band) s = .next t ∧ t.blk.mac.ready = s.blk.mac.ready ∧ t.blk.mac.order = s.blk.mac.order.erase f ∧
      t.blk.get R.MAC_REPLY_BLOCKED_COUNT = (s.blk.get R.MAC_REPLY_BLOCKED_COUNT + 1) % 2 ^ R.MAC_REPLY_BLOCKED_COUNT.width ∧
      t.blk.get R.MAC_TROUBLE_REPLY_BLOCKED = 1 ∧
      s.Keeps t ([R.MAC_REPLY_BLOCKED_COUNT, R.MAC_TROUBLE_REPLY_BLOCKED] ++ recordFields) [.mac, .records]) ∧
  (∀ (s : State) (band rng : Nat) (f g : TxFrame), s.blk.running = true →
      s.blk.mac.order.find? (fun f => f.kind == .blockAck && f.band == band && s.blk.runServes f) = some f →
      (s.blk.access band).forReply = true → (s.blk.access band).count = some 0 → f.queue = none → f.hdr.span = 0 →
      g = s.blk.blockAckFrame f → s.blk.replyOk g = true → s.blk.permitted g = true → s.blk.busy band = false →
      (if band = 0 then (s.blk.portsFor g).map Load.drvH else [Load.drvL]).all s.blk.loaded = true →
    ∃ t, exec (.blockAckTx ⟨band, rng⟩) s = .next t ∧ t.blk.mac.ready = s.blk.mac.ready ++ [g] ∧
      t.blk.mac.order = (s.blk.mac.order.map (fun x => if x = f then g else x)).erase g ∧ (t.blk.access band).count = none ∧
      (t.blk.access band).forReply = false ∧ s.Keeps t [] [.mac]) ∧
  (∀ (s : State) (band rng n : Nat) (f g : TxFrame), s.blk.running = true →
      s.blk.mac.order.find? (fun f => f.kind == .blockAck && f.band == band && s.blk.runServes f) = some f →
      (s.blk.access band).forReply = true ∧ (s.blk.access band).count = some (n + 1) ∨
        (s.blk.access band).count = none ∧ (s.blk.access band).be = none ∧ band < s.blk.mac.access.length ∧
          rng % 65536 % 2 ^ min (s.blk.get R.MAC_ACCESS_BE_MAX) (s.blk.get R.MAC_ACCESS_BE_MIN + f.retries) = n + 1 →
      g = s.blk.blockAckFrame f → s.blk.replyOk g = true → s.blk.permitted g = true → s.blk.busy band = false →
    ∃ t, exec (.blockAckTx ⟨band, rng⟩) s = .next t ∧ (t.blk.access band).count = some n ∧ (t.blk.access band).forReply = true ∧
      t.blk.mac.ready = s.blk.mac.ready ∧ t.blk.mac.order = s.blk.mac.order.map (fun x => if x = f then g else x) ∧
      s.Keeps t [] [.mac]) ∧
  (∀ (s : State) (band rng : Nat) (f g : TxFrame), s.blk.running = true →
      s.blk.mac.order.find? (fun f => f.kind == .blockAck && f.band == band && s.blk.runServes f) = some f →
      (s.blk.access band).count = none ∨ (s.blk.access band).forReply = true →
      g = s.blk.blockAckFrame f → s.blk.replyOk g = false ∨ s.blk.permitted g = false →
    ∃ t, exec (.blockAckTx ⟨band, rng⟩) s = .next t ∧ t.blk.mac.ready = s.blk.mac.ready ∧ t.blk.mac.order = s.blk.mac.order.erase f ∧
      (t.blk.access band).count = none ∧
      t.blk.get R.MAC_REPLY_BLOCKED_COUNT = (s.blk.get R.MAC_REPLY_BLOCKED_COUNT + 1) % 2 ^ R.MAC_REPLY_BLOCKED_COUNT.width ∧
      t.blk.get R.MAC_TROUBLE_REPLY_BLOCKED = 1 ∧
      s.Keeps t ([R.MAC_REPLY_BLOCKED_COUNT, R.MAC_TROUBLE_REPLY_BLOCKED] ++ recordFields) [.mac, .records])

/-- R269, R270, R272: an acknowledgement of the last counter ends the wait of its transmission; without one in time the transmission goes
back to the front of the order while retries are left; one whose time has not come waits on. It is stated of each of these commands that
it answers a next state: ackRx, ackTimeout, blockAckRx, blockAckTimeout. -/
def Obligations.AcknowledgementsReceived : Prop :=
  (∀ (s : State) (d : Delivered) (b1 : Block) (w : Waiting) (c : Nat), s.blk.running = true →
      s.blk.takeDelivered (fun d => d.hdr.ftype == 2) = some (d, b1) →
      s.blk.mac.waiting.find? (fun w => !w.blockAck && w.frame.hdr.dst == d.hdr.src && w.frame.counters.contains d.hdr.ctr) = some w →
      w.frame.counters.getLast? = some c → c ≤ d.hdr.ctr →
    ∃ t, exec .ackRx s = .next t ∧ t.blk.mac.waiting = s.blk.mac.waiting.erase w ∧ t.blk.mac.order = s.blk.mac.order ∧
      t.blk.phy.delivered = s.blk.phy.delivered.erase d ∧ (t.blk.link d.hdr.src w.frame.band).fails = 0 ∧
      (w.frame.queue = none → s.Keeps t [] [.phy, .mac]) ∧ t.otp = s.otp ∧ t.pending = s.pending) ∧
  (∀ (s : State) (band : Nat) (w : Waiting), s.blk.running = true →
      s.blk.mac.waiting.find? (fun w => !w.blockAck && w.frame.band == band && decide (w.ackBy ≤ s.blk.tick)) = some w →
      w.frame.retries + 1 ≤ s.blk.get R.MAC_ACCESS_RETRY_LIMIT →
    ∃ t, exec (.ackTimeout band) s = .next t ∧ t.blk.mac.waiting = s.blk.mac.waiting.erase w ∧
      t.blk.mac.order = { w.frame with retries := w.frame.retries + 1 } :: s.blk.mac.order ∧
      s.Keeps t (R.PHY_RX_TROUBLE_LADDER_DOWN :: recordFields) [.phy, .mac, .records]) ∧
  (∀ (s : State) (band : Nat), (∀ w ∈ s.blk.mac.waiting, w.blockAck = false → w.frame.band = band → s.blk.tick < w.ackBy) →
    ∃ t, exec (.ackTimeout band) s = .next t ∧ s.Keeps t [] []) ∧
  (∀ (s : State) (d : Delivered) (b1 b2 b3 : Block) (x : RxPart) (l : List RxPart) (pl : List Byte) (tag c : Nat) (w : Waiting),
      s.blk.running = true → s.blk.takeDelivered (fun d => d.hdr.ftype == 3) = some (d, b1) → d.parts = x :: l →
      b1.openPart d.hdr x false = (some (pl, tag), b2) → b2.dupCheck d.hdr.src 1 x.ctr x.epoch tag true = (.accept, b3) →
      (leAt pl 4 1).testBit 1 = false →
      s.blk.mac.waiting.find? (fun w => w.blockAck && w.frame.hdr.dst == d.hdr.src) = some w →
      w.frame.counters.getLast? = some c → c ≤ leAt pl 0 4 →
    ∃ t, exec .blockAckRx s = .next t ∧ t.blk.mac.waiting = s.blk.mac.waiting.erase w ∧ t.blk.mac.order = s.blk.mac.order ∧
      t.blk.phy.delivered = s.blk.phy.delivered.erase d ∧ (w.frame.queue = none → s.Keeps t [] [.phy, .mac, .tables]) ∧
      t.otp = s.otp ∧ t.pending = s.pending) ∧
  (∀ (s : State) (band : Nat) (w : Waiting), s.blk.running = true →
      s.blk.mac.waiting.find? (fun w => w.blockAck && w.frame.band == band &&
        decide (s.blk.get R.MAC_BA_BA_TIMEOUT < w.anchors)) = some w →
      w.frame.retries + 1 ≤ s.blk.get R.MAC_ACCESS_RETRY_LIMIT →
    ∃ t, exec (.blockAckTimeout band) s = .next t ∧ t.blk.mac.waiting = s.blk.mac.waiting.erase w ∧
      t.blk.mac.order = { w.frame with retries := w.frame.retries + 1 } :: s.blk.mac.order ∧
      s.Keeps t (R.PHY_RX_TROUBLE_LADDER_DOWN :: recordFields) [.phy, .mac, .records]) ∧
  (∀ (s : State) (band : Nat), (∀ w ∈ s.blk.mac.waiting, w.blockAck = true → w.frame.band = band →
      w.anchors ≤ s.blk.get R.MAC_BA_BA_TIMEOUT) →
    ∃ t, exec (.blockAckTimeout band) s = .next t ∧ s.Keeps t [] [])

/-- R276, R438, R447: a POLL from the parent keeps a dozing leaf awake for WAKE_HOLD ticks; when its window opens, DDR4 and the slices
that are off are requested; when the hold has run out and its wake slot is over it dozes again, and not before. R277: an attended
opportunity without resynchronisation is a miss; the third in a row sets BEACON_LOST and starts the search; a search of 8 beacon periods
asks for M5. It is stated of each of these commands that it answers a next state: pollRx, wakeWindowOpen, wakeHoldExpiry, beaconMiss,
beaconSearchTimeout. -/
def Obligations.DozeAndBeaconLoss : Prop :=
  (∀ (s : State) (d : Delivered), s.blk.mode = 8 → s.blk.phy.delivered.find? (fun d => d.hdr.ftype == 6) = some d →
      d.hdr.src = s.blk.get R.TIM_PARENT_PARENT →
    ∃ t, exec .pollRx s = .next t ∧ t.blk.mac.holdUntil = some (s.blk.tick + s.blk.get R.MAC_BA_WAKE_HOLD) ∧
      t.blk.phy.delivered = s.blk.phy.delivered.erase d ∧ s.Keeps t [] [.phy, .mac]) ∧
  (∀ s : State, s.blk.mode = 8 →
    ∃ t, exec .wakeWindowOpen s = .next t ∧ t.blk.mac.wakeOpen = true ∧ t.blk.get R.MAC_STAT_DOZING = 0 ∧
      (∀ n ∈ s.blk.otherSlices, s.blk.loaded (.slice n) = false → t.blk.power.reqs.any (fun r => r.load = .slice n) = true) ∧
      (s.blk.loaded .ddr = false → t.blk.power.reqs.any (fun r => r.load = .ddr) = true) ∧
      s.Keeps t [R.MAC_STAT_DOZING, R.MAC_GUARD, R.MAC_STAT_STATE, R.PWR_MODE_PENDING, R.PWR_RATION_WINDOW, R.PWR_RATION_QUEUED]
        [.mac, .power, .freeCtr]) ∧
  (∀ s : State, s.blk.mode = 8 → (∀ n, s.blk.mac.holdUntil = some n → n ≤ s.blk.tick) →
      s.blk.inSlot (s.blk.node s.blk.short 26 2) = false →
    ∃ t, exec .wakeHoldExpiry s = .next t ∧ t.blk.mac.wakeOpen = false ∧ t.blk.mac.holdUntil = none ∧
      t.blk.get R.MAC_STAT_DOZING = 1 ∧ t.blk.power.ddrAwake = false ∧
      s.Keeps t [R.MAC_STAT_DOZING, R.PWR_GATES_SLICE_RET, R.PWR_GATES_DRV_H, R.PWR_GATES_DRV_L] [.mac, .power, .slices]) ∧
  (∀ (s : State) (n : Nat), s.blk.mac.holdUntil = some n → s.blk.tick < n →
    ∃ t, exec .wakeHoldExpiry s = .next t ∧ s.Keeps t [] []) ∧
  (∀ s : State, s.blk.running = true → s.blk.role ≠ 0 → s.blk.mac.resynced = false → s.blk.hasGrid = true →
      s.blk.get R.MAC_STAT_MISSES ≤ 1 → s.blk.mode ≠ 8 →
    ∃ t, exec .beaconMiss s = .next t ∧ t.blk.get R.MAC_STAT_MISSES = s.blk.get R.MAC_STAT_MISSES + 1 ∧
      t.blk.get R.MAC_BEACON_MISS_COUNT = (s.blk.get R.MAC_BEACON_MISS_COUNT + 1) % 2 ^ R.MAC_BEACON_MISS_COUNT.width ∧
      s.Keeps t [R.MAC_STAT_MISSES, R.MAC_BEACON_MISS_COUNT, R.MAC_GUARD] [.freeCtr]) ∧
  (∀ s : State, s.blk.mode = 8 → s.blk.role ≠ 0 → s.blk.mac.resynced = false → s.blk.hasGrid = true →
      s.blk.get R.MAC_STAT_MISSES ≤ 1 → s.blk.mac.holdUntil = none →
    ∃ t, exec .beaconMiss s = .next t ∧ t.blk.get R.MAC_STAT_MISSES = s.blk.get R.MAC_STAT_MISSES + 1 ∧
      t.blk.mac.wakeOpen = false ∧ t.blk.get R.MAC_STAT_DOZING = 1 ∧
      s.Keeps t [R.MAC_STAT_MISSES, R.MAC_BEACON_MISS_COUNT, R.MAC_GUARD, R.MAC_STAT_DOZING, R.PWR_GATES_SLICE_RET,
        R.PWR_GATES_DRV_H, R.PWR_GATES_DRV_L] [.mac, .power, .slices, .freeCtr]) ∧
  (∀ s : State, s.blk.running = true → s.blk.role ≠ 0 → s.blk.mac.resynced = false → s.blk.hasGrid = true →
      s.blk.get R.MAC_STAT_MISSES = 2 →
    ∃ t, exec .beaconMiss s = .next t ∧ t.blk.get R.MAC_STAT_MISSES = 3 ∧ t.blk.get R.MAC_TROUBLE_BEACON_LOST = 1 ∧
      t.blk.get R.MAC_STAT_STATE = 4 ∧ t.blk.mac.search = 0 ∧
      (s.blk.timState ≠ 4 → s.blk.timState ≠ 0 → t.blk.timState = 4) ∧
      s.Keeps t ([R.MAC_BEACON_MISS_COUNT, R.MAC_STAT_MISSES, R.MAC_TROUBLE_BEACON_LOST, R.MAC_STAT_STATE, R.MAC_GUARD,
        R.PWR_MODE_PENDING, R.TIM_FREQ, R.TIM_STAT_STATE, R.TIM_HOLD_COUNT, R.TIM_TROUBLE_HOLDOVER, R.TIM_STAT_TRACEABLE,
        R.TIM_PTP_STAT_CLOCK_CLASS] ++ recordFields) [.mac, .power, .time, .freeCtr, .records]) ∧
  (∀ s : State, s.blk.running = true → s.blk.mac.resynced = true →
    ∃ t, exec .beaconMiss s = .next t ∧ t.blk.mac.resynced = false ∧ s.Keeps t [] [.mac]) ∧
  (∀ s : State, s.blk.get R.MAC_STAT_STATE = 4 → s.blk.mode = 6 ∨ s.blk.mode = 7 →
      8 * s.blk.periodHalves ≤ s.blk.mac.search → s.blk.power.trans = none →
    ∃ t, exec .beaconSearchTimeout s = .next t ∧ t.blk.power.trans = some 5 ∧ s.Keeps t [] [.power]) ∧
  (∀ s : State, s.blk.get R.MAC_STAT_STATE ≠ 4 ∨ s.blk.mac.search < 8 * s.blk.periodHalves →
    ∃ t, exec .beaconSearchTimeout s = .next t ∧ s.Keeps t [] [])

/-- R280, R281: a quiet window forbids its band; outside every window QUIET follows the budget and the clock again; in M6 with every
enabled band forbidden M7 is asked for. R285, R265: the head-end publishes a re-placed map when the gain of the scores suffices and keeps
the old one otherwise; the address of a lost node whose lease has run out is released with its records. It is stated of each of these
commands that it answers a next state: quietWindowStart, quietWindowEnd, mapEval, leaseExpiry. -/
def Obligations.QuietMapAndLeases : Prop :=
  (∀ s : State, s.blk.running = true → s.blk.mac.inQuiet.length = 2 → s.blk.quietFor 0 0 = true →
    ∃ t, exec (.quietWindowStart 0) s = .next t ∧ t.blk.mac.inQuiet.getD 0 false = true ∧ t.blk.get R.MAC_STAT_QUIET_H = 1 ∧
      s.Keeps t [R.MAC_STAT_QUIET_H, R.MAC_STAT_QUIET_L, R.PWR_MODE_PENDING, R.PWR_GATES_DRV_H, R.PWR_GATES_DRV_L,
        R.PWR_RATION_WINDOW, R.PWR_RATION_QUEUED] [.mac, .power]) ∧
  (∀ s : State, s.blk.running = true → s.blk.mac.inQuiet.length = 2 → s.blk.quietFor 1 0 = true →
    ∃ t, exec (.quietWindowStart 1) s = .next t ∧ t.blk.mac.inQuiet.getD 1 false = true ∧ t.blk.get R.MAC_STAT_QUIET_L = 1 ∧
      s.Keeps t [R.MAC_STAT_QUIET_H, R.MAC_STAT_QUIET_L, R.PWR_MODE_PENDING, R.PWR_GATES_DRV_H, R.PWR_GATES_DRV_L,
        R.PWR_RATION_WINDOW, R.PWR_RATION_QUEUED] [.mac, .power]) ∧
  (∀ (s : State), s.blk.mode = 6 → s.blk.mac.inQuiet = [false, true] → s.blk.quietFor 0 0 = true → s.blk.power.trans = none →
    ∃ t, exec (.quietWindowStart 0) s = .next t ∧ t.blk.power.trans = some 7 ∧
      s.Keeps t [R.MAC_STAT_QUIET_H, R.MAC_STAT_QUIET_L, R.PWR_GATES_DRV_H, R.PWR_GATES_DRV_L] [.mac, .power]) ∧
  (∀ (s : State) (band : Nat), s.blk.quietFor band 0 = false →
    ∃ t, exec (.quietWindowStart band) s = .next t ∧ s.Keeps t [] []) ∧
  (∀ (s : State) (band : Nat), s.blk.quietFor band 0 = true →
    ∃ t, exec (.quietWindowEnd band) s = .next t ∧ s.Keeps t [] []) ∧
  (∀ (s : State) (band : Nat), s.blk.running = true → s.blk.quietFor band 0 = false →
    ∃ t, exec (.quietWindowEnd band) s = .next t ∧ t.blk.mac.inQuiet = s.blk.mac.inQuiet.set band false ∧
      s.Keeps t [R.MAC_STAT_QUIET_H, R.MAC_STAT_QUIET_L, R.PWR_MODE_PENDING, R.PWR_GATES_DRV_H, R.PWR_GATES_DRV_L,
        R.PWR_RATION_WINDOW, R.PWR_RATION_QUEUED] [.mac, .power]) ∧
  (∀ (s : State) (profiles : List (List Nat)) (scores : List Nat), s.blk.running = true → s.blk.role = 0 →
      leAt s.blk.macRole 0x15 1 ≠ 0 → s.blk.hasGrid = true → scores = (Block.slotScores profiles 8 0 s.blk).1 →
      ((s.blk.mapRows scores).map (fun r => r.2)).sum ≠ 0 →
      leAt s.blk.macRole 0x18 1 ≤ ((s.blk.mapRows scores).map (fun r => r.2)).sum →
    ∃ t, exec (.mapEval profiles) s = .next t ∧
      t.blk.grid.nextMap = s.blk.mapOfRows ((s.blk.mapRows scores).map (fun r => r.1)) ∧
      t.blk.get R.MAC_GRID_MAP_SEQ = (s.blk.get R.MAC_GRID_MAP_SEQ + 1) % 2 ^ R.MAC_GRID_MAP_SEQ.width ∧
      s.Keeps t [R.MAC_GRID_MAP_SEQ] [.grid, .freeCtr]) ∧
  (∀ (s : State) (profiles : List (List Nat)) (scores : List Nat), scores = (Block.slotScores profiles 8 0 s.blk).1 →
      s.blk.role ≠ 0 ∨ s.blk.hasGrid = false ∨
        ((s.blk.mapRows scores).map (fun r => r.2)).sum < leAt s.blk.macRole 0x18 1 →
    ∃ t, exec (.mapEval profiles) s = .next t ∧ s.Keeps t [] [.freeCtr]) ∧
  (∀ (s : State) (a : Nat), s.blk.running = true → s.blk.role = 0 → s.blk.hasNode a = true → s.blk.node a 11 1 = 3 →
      s.blk.node a 12 2 = 0 →
    ∃ t, exec (.leaseExpiry a) s = .next t ∧ t.blk.hasNode a = false ∧
      s.Keeps t [R.MSH_NODES_ACTIVE, R.MSH_NODES_LOST, R.MSH_LS_USED] [.tables, .phy]) ∧
  (∀ (s : State) (a : Nat), s.blk.role ≠ 0 ∨ s.blk.node a 11 1 ≠ 3 ∨ s.blk.node a 12 2 ≠ 0 →
    ∃ t, exec (.leaseExpiry a) s = .next t ∧ s.Keeps t [] [])

/-- R297: a due link report of the coordinator's own links is entered at once, another node's is sent as a command; either way it is no
longer due. R297, R305, R306, R314: the coordinator takes a link report in, notes a reported dead hop and declares a node lost that two
neighbours report within a period, and writes a bundle's reports to SWEEP_QUEUE. It is stated of each of these commands that it answers a
next state: linkReportTx, linkReport, linkDown, reportBundle. -/
def Obligations.LinkReports : Prop :=
  (∀ s : State, s.blk.running = true → s.blk.hasGrid = true → s.blk.short = 1 → s.blk.elapsed s.blk.mesh.lastReport 1 = true →
      s.blk.mesh.reportDue = true →
    ∃ t, exec .linkReportTx s = .next t ∧ t.blk.mesh.reportDue = false ∧ t.blk.mesh.lastReport = some s.blk.tick ∧
      s.Keeps t ([R.MSH_NODES_ACTIVE, R.MSH_NODES_LOST, R.MSH_LS_USED, R.MSH_LS_FULL_COUNT, R.MSH_TROUBLE_LS_FULL] ++ recordFields)
        [.tables, .mesh, .phy, .freeCtr, .records]) ∧
  (∀ s : State, s.blk.running = true → s.blk.hasGrid = true → 2 ≤ s.blk.short → s.blk.elapsed s.blk.mesh.lastReport 1 = true →
      s.blk.mesh.reportDue = true →
    ∃ t f, exec .linkReportTx s = .next t ∧ t.blk.mesh.reportDue = false ∧ t.blk.mesh.lastReport = some s.blk.tick ∧
      t.blk.mac.order = s.blk.mac.order ++ [f] ∧ f.hdr.ftype = 5 ∧
      s.Keeps t [] [.mac, .mesh, .phy, .freeCtr]) ∧
  (∀ (s : State) (m : CmdMsg), s.blk.running = true → s.blk.coordinator = true →
      s.blk.mac.commands.find? (fun m => m.code == 0x10) = some m → leAt m.body 0 1 ≤ 32 →
      m.body.length = 2 + 20 * leAt m.body 0 1 → s.blk.hasNode m.origin = true →
    ∃ t, exec .linkReport s = .next t ∧ t.blk.mac.commands = s.blk.mac.commands.erase m ∧
      t.blk.node m.origin 52 1 ≤ leAt m.body 0 1 ∧
      s.Keeps t ([R.MSH_NODES_ACTIVE, R.MSH_NODES_LOST, R.MSH_LS_USED, R.MSH_LS_FULL_COUNT, R.MSH_TROUBLE_LS_FULL] ++ recordFields)
        [.mac, .tables, .mesh, .records, .freeCtr]) ∧
  (∀ (s : State) (x link reporter : Nat), s.blk.running = true → s.blk.coordinator = true → s.blk.mesh.downs = [] →
    ∃ t, exec (.linkDown x link reporter) s = .next t ∧ t.blk.mesh.downs = [(x, reporter, s.blk.get R.GLB_REV)] ∧
      s.Keeps t [] [.mac, .mesh, .tables, .freeCtr]) ∧
  (∀ (s : State) (x link reporter other : Nat), s.blk.running = true → s.blk.coordinator = true →
      s.blk.mesh.downs = [(x, other, s.blk.get R.GLB_REV)] → other ≠ reporter → 0 < s.blk.get R.MAC_GRID_BP_CYCLES → x ≠ 1 →
      s.blk.hasNode x = true → s.blk.node x 11 1 = 2 →
    ∃ t, exec (.linkDown x link reporter) s = .next t ∧ t.blk.get R.MSH_TROUBLE_NODE_LOST = 1 ∧
      (leAt s.blk.macRole 6 2 ≠ 0 → x ≤ 0x3FFF → t.blk.node x 11 1 = 3) ∧
      s.Keeps t ([R.MSH_TROUBLE_NODE_LOST, R.MSH_NODES_ACTIVE, R.MSH_NODES_LOST, R.MSH_LS_USED] ++ recordFields)
        [.mac, .mesh, .tables, .phy, .freeCtr, .records]) ∧
  (∀ (s : State) (x link reporter : Nat), s.blk.running = true → s.blk.coordinator = false →
    ∃ t, exec (.linkDown x link reporter) s = .next t ∧ s.Keeps t [] [.mac]) ∧
  (∀ (s : State) (l : List Byte), s.blk.running = true → s.blk.coordinator = true → l.length ≠ 28 → 0 < s.blk.sweepQueue →
      s.blk.sweepQueue < 4096 → (s.blk.q s.blk.sweepQueue).bulk = false → (s.blk.q s.blk.sweepQueue).refill = false →
      (s.blk.q s.blk.sweepQueue).capacity ≠ 0 → s.blk.openOf ctxMac = none →
      s.blk.fill s.blk.sweepQueue + cellsOf l.length ≤ (s.blk.q s.blk.sweepQueue).capacity →
    ∃ t, exec (.reportBundle [l]) s = .next t ∧
      (t.blk.q s.blk.sweepQueue).pkts = (s.blk.q s.blk.sweepQueue).pkts ++ [⟨0, 0, s.blk.tickTag, l⟩] ∧
      s.Keeps t recordFields [.mac, .records, .queues]) ∧
  (∀ (s : State) (l : List Byte), s.blk.running = true → s.blk.coordinator = true → l.length = 28 → 0 < s.blk.sweepQueue →
      s.blk.sweepQueue < 4096 → (s.blk.q s.blk.sweepQueue).bulk = false → (s.blk.q s.blk.sweepQueue).refill = false →
      (s.blk.q s.blk.sweepQueue).capacity ≠ 0 → s.blk.openOf ctxMac = none →
      s.blk.fill s.blk.sweepQueue + 1 ≤ (s.blk.q s.blk.sweepQueue).capacity →
    ∃ t, exec (.reportBundle [l]) s = .next t ∧
      (t.blk.q s.blk.sweepQueue).pkts = (s.blk.q s.blk.sweepQueue).pkts ++ [⟨0, 0, s.blk.tickTag, l⟩] ∧
      (s.blk.hasNode (leAt l 0 2) = true → t.blk.node (leAt l 0 2) 40 8 = stamp64 s.blk.now) ∧
      s.Keeps t ([R.MSH_NODES_ACTIVE, R.MSH_NODES_LOST, R.MSH_LS_USED] ++ recordFields) [.mac, .mesh, .tables, .records, .queues]) ∧
  (∀ (s : State) (l : List (List Byte)), s.blk.running = true → s.blk.coordinator = false →
    ∃ t, exec (.reportBundle l) s = .next t ∧ s.Keeps t [] [.mac])

/-- R301, R294: a node keeps an epoch and an assignment until the period that they name; the epoch is applied there as a whole. R300,
R306: a due recomputation of the routes is made and noted; an active node not heard for LOST_PERIODS is declared lost. It is stated of
each of these commands that it answers a next state: routeSet, assign, routeEpochApply, routeRecompute, nodeLostTimeout. -/
def Obligations.EpochsAndRoutes : Prop :=
  (∀ (s : State) (seq rev : Nat) (l : List (Nat × List Byte)), s.blk.running = true → s.blk.role ≠ 0 → s.blk.image.run.isSome = true →
    ∃ t, exec (.routeSet seq rev l) s = .next t ∧ t.blk.mesh.pendingRoutes = s.blk.mesh.pendingRoutes ++
        [⟨seq % 65536, rev % 2 ^ 32,
          l.filter (fun e => 1 ≤ e.1 ∧ e.1 ≤ 0x3FFF ∧ e.2.length = 32 ∧ (s.blk.role = 1 ∨ e.1 = 1))⟩] ∧
      s.Keeps t [] [.mac, .mesh]) ∧
  (∀ (s : State) (rev col : Nat) (l : List Byte), s.blk.running = true → s.blk.role ≠ 0 → s.blk.image.run.isSome = true →
      l.length = 26 →
    ∃ t, exec (.assign rev l col) s = .next t ∧ t.blk.mesh.pendingAssign = some ⟨rev % 2 ^ 32, l, col % 65536⟩ ∧
      s.Keeps t [] [.mac, .mesh]) ∧
  (∀ (s : State) (r : RouteSet), s.blk.running = true → s.blk.hasGrid = true → s.blk.mesh.pendingRoutes = [r] →
      s.blk.reached r.rev = true → s.blk.get R.MSH_STAT_ROUTE_VALID = 0 →
    ∃ t, exec .routeEpochApply s = .next t ∧ t.blk.mesh.pendingRoutes = [] ∧ t.blk.get R.MSH_STAT_ROUTE_VALID = 1 ∧
      (∀ d l, r.entries = [(d, l)] → l.length = 32 → 1 ≤ d → d ≤ 0x3FFF → t.blk.tab (fwdAt d) 2 = leAt l 0 2) ∧
      t.blk.get R.MSH_ROUTE_SEQ = r.seq % 2 ^ R.MSH_ROUTE_SEQ.width ∧
      t.blk.get R.MSH_ROUTE_SET_COUNT = (s.blk.get R.MSH_ROUTE_SET_COUNT + 1) % 2 ^ R.MSH_ROUTE_SET_COUNT.width ∧
      s.Keeps t [R.MSH_STAT_ROUTE_VALID, R.MSH_ROUTE_SEQ, R.MSH_ROUTE_SET_COUNT, R.MSH_UPLINK_DATA_PARENT, R.MSH_UPLINK_DEPTH_D]
        [.tables, .mesh]) ∧
  (∀ s : State, s.blk.running = true → (∀ r ∈ s.blk.mesh.pendingRoutes, s.blk.reached r.rev = false) →
    ∃ t, exec .routeEpochApply s = .next t ∧ s.Keeps t [] []) ∧
  (∀ s : State, s.blk.running = true → s.blk.coordinator = true → s.blk.mesh.routeDue = true →
      s.blk.elapsed s.blk.mesh.lastRecompute (s.blk.get R.MSH_LIMITS_RECOMPUTE_MIN) = true →
    ∃ t, exec .routeRecompute s = .next t ∧ t.blk.mesh.routeDue = false ∧ t.blk.mesh.lastRecompute = some s.blk.tick ∧
      t.blk.mesh.routes = (s.blk.refreshCosts.dataTree.map (fun p => p.1)).flatMap
        (routesOf s.blk.refreshCosts.edges s.blk.refreshCosts.dataTree s.blk.refreshCosts.forwards) ∧
      (t.blk.mesh.routes ≠ s.blk.mesh.routes → t.blk.mesh.routeSeq = (s.blk.mesh.routeSeq + 1) % 65536) ∧
      s.Keeps t [] [.mac, .mesh, .tables, .freeCtr]) ∧
  (∀ s : State, s.blk.running = true → s.blk.mesh.routeDue = false → ∃ t, exec .routeRecompute s = .next t ∧ s.Keeps t [] []) ∧
  (∀ (s : State) (a : Nat) (g : GridVals), s.blk.running = true → s.blk.coordinator = true → s.blk.grid.cur = some g → a ≠ 1 →
      s.blk.hasNode a = true → s.blk.node a 11 1 = 2 →
      s.blk.get R.MSH_LIMITS_LOST_PERIODS * s.blk.get R.MAC_GRID_BP_CYCLES * g.t < s.blk.now - unstamp64 (s.blk.node a 40 8) s.blk.now →
    ∃ t, exec (.nodeLostTimeout a) s = .next t ∧ t.blk.get R.MSH_TROUBLE_NODE_LOST = 1 ∧
      (leAt s.blk.macRole 6 2 ≠ 0 → a ≤ 0x3FFF → t.blk.node a 11 1 = 3) ∧
      s.Keeps t ([R.MSH_TROUBLE_NODE_LOST, R.MSH_NODES_ACTIVE, R.MSH_NODES_LOST, R.MSH_LS_USED] ++ recordFields)
        [.mac, .mesh, .tables, .phy, .freeCtr, .records]) ∧
  (∀ (s : State) (a : Nat), s.blk.coordinator = false ∨ s.blk.node a 11 1 ≠ 2 →
    ∃ t, exec (.nodeLostTimeout a) s = .next t ∧ s.Keeps t [] [])

/-- R310, R312, R313, R315: the head-end's START names the next sweep, with the windows assigned where it names none; a member takes its
SWEEP, at once or after the running window, and sends its frame in its own window; a decoded collect frame is counted, its SNR kept; the
members of a window that were not decoded are counted. It is stated of each of these commands that it answers a next state: sweepStart,
sweep, collectFrameTx, collectWindowDecode. -/
def Obligations.Sweeps : Prop :=
  (∀ (s : State) (n k : Nat), s.blk.reachable = true → s.blk.coordinator = true → s.blk.hasGrid = true →
      s.blk.get R.MSH_SWEEP_STATE ≠ 1 → s.blk.get R.MSH_SWEEP_STATE ≠ 2 →
      k = (if n % 65536 = 0 then s.blk.assignedWindows else n % 65536) → k ≠ 0 →
    ∃ t, exec (.sweepStart n) s = .next t ∧ t.blk.get R.MSH_SWEEP_STATE = 1 ∧
      t.blk.get R.MSH_SWEEP_SWEEP_ID = (s.blk.mesh.sweepId + 1) % 65536 ∧
      t.blk.get R.MSH_SWEEP_REV =
        (s.blk.get R.MAC_PERIOD_REV + s.blk.get R.MSH_COLLECT_CFG_SWEEP_LEAD * s.blk.get R.MAC_GRID_BP_CYCLES) % 2 ^ 32 ∧
      t.blk.get R.MSH_SWEEP_CTRL_START = 1 ∧ t.blk.get R.MSH_SWEEP_CTRL_WINDOWS = n % 65536 ∧
      t.blk.mesh.sweepWindows = k ∧
      s.Keeps t [R.MSH_SWEEP_STATE, R.MSH_SWEEP_SWEEP_ID, R.MSH_SWEEP_REV, R.MSH_SWEEP_CTRL_START, R.MSH_SWEEP_CTRL_WINDOWS]
        [.mac, .mesh]) ∧
  (∀ (s : State) (n : Nat), s.blk.coordinator = false → ∃ t, exec (.sweepStart n) s = .next t ∧ s.Keeps t [] []) ∧
  (∀ (s : State) (m : CmdMsg), s.blk.running = true → s.blk.mac.commands.find? (fun m => m.code == 0x13) = some m →
      m.body.length = 8 → leAt m.body 6 2 ≠ 0 → s.blk.get R.MSH_SWEEP_STATE ≠ 2 →
    ∃ t, exec .sweep s = .next t ∧ t.blk.get R.MSH_SWEEP_STATE = 1 ∧ t.blk.get R.MSH_SWEEP_SWEEP_ID = leAt m.body 0 2 ∧
      t.blk.get R.MSH_SWEEP_REV = leAt m.body 2 4 ∧ t.blk.mesh.sweepWindows = leAt m.body 6 2 ∧
      t.blk.mac.commands = s.blk.mac.commands.erase m ∧
      s.Keeps t [R.MSH_SWEEP_STATE, R.MSH_SWEEP_SWEEP_ID, R.MSH_SWEEP_REV] [.mac, .mesh]) ∧
  (∀ (s : State) (m : CmdMsg), s.blk.running = true → s.blk.mac.commands.find? (fun m => m.code == 0x13) = some m →
      m.body.length = 8 → leAt m.body 6 2 = 0 →
    ∃ t, exec .sweep s = .next t ∧ t.blk.mac.commands = s.blk.mac.commands.erase m ∧
      t.blk.get R.MSH_UNDEF_COUNT = (s.blk.get R.MSH_UNDEF_COUNT + 1) % 2 ^ R.MSH_UNDEF_COUNT.width ∧
      s.Keeps t [R.MSH_UNDEF_COUNT] [.mac]) ∧
  (∀ (s : State) (m : CmdMsg), s.blk.running = true → s.blk.mac.commands.find? (fun m => m.code == 0x13) = some m →
      m.body.length = 8 → leAt m.body 6 2 ≠ 0 → s.blk.get R.MSH_SWEEP_STATE = 2 →
      s.blk.roleAt 0 s.blk.grid.half (s.blk.get R.GLB_GRID_SLOT) = 3 →
    ∃ t, exec .sweep s = .next t ∧ t.blk.mac.commands = s.blk.mac.commands.erase m ∧
      t.blk.mesh.nextSweep = some (leAt m.body 0 2, leAt m.body 2 4, leAt m.body 6 2) ∧ s.Keeps t [] [.mac, .mesh]) ∧
  (∀ s : State, s.blk.running = true → s.blk.mayTransmit = true → s.blk.hasGrid = true → s.blk.get R.MSH_SWEEP_STATE = 2 →
      s.blk.get R.MSH_WINDOW < s.blk.mesh.sweepWindows → s.blk.get R.MSH_WINDOW ≠ 0xFFFF →
      s.blk.mesh.window = s.blk.get R.MSH_WINDOW → s.blk.forbidden 0 = false → s.blk.fitsRun s.blk.collectFrame.1 3 = true →
    ∃ t, exec .collectFrameTx s = .next t ∧ t.blk.mac.ready = s.blk.mac.ready ++ [s.blk.collectFrame.1] ∧
      s.Keeps t [] [.mac, .freeCtr]) ∧
  (∀ s : State, s.blk.running = true → s.blk.mesh.window ≠ s.blk.get R.MSH_WINDOW →
    ∃ t, exec .collectFrameTx s = .next t ∧ s.Keeps t [] []) ∧
  (∀ (s : State) (w rev : Nat), s.blk.running = true → s.blk.role = 0 → s.blk.get R.MSH_COLLECT_CFG_CAP ≠ 0 →
      s.blk.image.run.isSome = true →
    ∃ t, exec (.collectWindowDecode w rev []) s = .next t ∧
      t.blk.get R.MSH_COLLECT_MISS_COUNT =
        (s.blk.get R.MSH_COLLECT_MISS_COUNT + (s.blk.nodes.filter (fun a => s.blk.node a 34 2 == w)).length) %
          2 ^ R.MSH_COLLECT_MISS_COUNT.width ∧
      s.Keeps t ([R.MSH_COLLECT_MISS_COUNT, R.MSH_TROUBLE_SWEEP_MISS] ++ putFields) [.records, .queues]) ∧
  (∀ (s : State) (w rev : Nat) (x : CollectTry) (h : Header) (pl p : List Byte) (snr : Rat) (tag : Nat) (b1 b2 b3 : Block),
      s.blk.running = true → s.blk.role = 0 → s.blk.get R.MSH_COLLECT_CFG_CAP ≠ 0 → s.blk.image.run.isSome = true →
      1 ≤ s.blk.get R.MSH_COLLECT_CFG_PASSES → s.blk.mesh.suppressed.contains w = false →
      s.blk.decodeCollect x = some (h, pl) → h.net = s.blk.netId → h.dst = s.blk.short → h.ftype = 5 →
      s.blk.streamSnr [{ stream := 0, exp := modeExp h.mode, sig := x.sig, err := x.err }] = (snr, b1) →
      b1.openPart h { ctr := h.ctr, ackReq := false, sec := h.sec, epoch := h.epoch, payload := pl, ok := true } true =
        (some (p, tag), b2) →
      b2.dupCheck h.src 1 h.ctr h.epoch tag true = (.accept, b3) →
    ∃ t, exec (.collectWindowDecode w rev [[x]]) s = .next t ∧
      t.blk.get R.MSH_COLLECT_RX_COUNT = (s.blk.get R.MSH_COLLECT_RX_COUNT + 1) % 2 ^ R.MSH_COLLECT_RX_COUNT.width ∧
      t.blk.get R.MSH_COLLECT_MISS_COUNT =
        (s.blk.get R.MSH_COLLECT_MISS_COUNT +
          (s.blk.nodes.filter (fun a => s.blk.node a 34 2 == w && s.blk.node a 33 1 != x.index)).length) %
          2 ^ R.MSH_COLLECT_MISS_COUNT.width ∧
      Tab.get none t.blk.mesh.sFull h.src =
        some ((snr * 256).floor + 128 * ((if s.blk.hasNode h.src then s.blk.node h.src 37 1 else 0 : Nat) : Int)) ∧
      s.Keeps t ([R.MSH_COLLECT_RX_COUNT, R.MSH_COLLECT_STRAY_COUNT, R.MSH_COLLECT_MISS_COUNT, R.MSH_TROUBLE_SWEEP_MISS,
        R.MSH_NODES_ACTIVE, R.MSH_NODES_LOST, R.MSH_LS_USED] ++ putFields)
        [.mesh, .tables, .freeCtr, .records, .queues]) ∧
  (∀ (s : State) (w rev : Nat) (l : List (List CollectTry)), s.blk.role = 2 →
    ∃ t, exec (.collectWindowDecode w rev l) s = .next t ∧ s.Keeps t [] [])

/-- R286, R490: a node in M5 sends HELLO to its candidate, and passes the candidate over after JOIN_TRIES attempts. R490: a joiner's
message is relayed to the coordinator, which answers HELLO with CHALLENGE, refuses it with no room, and drops a joiner's state after 30 s;
a candidate relay carries both ways. It is stated of each of these commands that it answers a next state: joinTx, joinRelay, hello,
joinerStateExpiry. -/
def Obligations.JoinMessages : Prop :=
  (∀ (s : State) (c : Nat) (x : Candidate), s.blk.mode = 5 → s.blk.mac.candidate = some c → s.blk.mac.granted = false →
      s.blk.mac.candidates.find? (fun x => x.addr == c) = some x → x.tries < leAt s.blk.macRole 0x0F 1 → s.blk.sec.own = none →
    ∃ t f o, exec .joinTx s = .next t ∧ t.blk.mac.order = s.blk.mac.order ++ [f] ∧ f.hdr.ftype = 7 ∧ f.hdr.dst = c ∧ f.hdr.src = 0 ∧
      f.hdr.ackReq = true ∧ f.payload = o.hello ∧ t.blk.sec.own = some o ∧ o.step = 1 ∧ o.cand = c ∧
      s.Keeps t [] [.mac, .sec, .freeCtr]) ∧
  (∀ (s : State) (c : Nat) (x : Candidate), s.blk.mode = 5 → s.blk.mac.candidate = some c → s.blk.mac.granted = false →
      s.blk.mac.candidates.find? (fun x => x.addr == c) = some x → leAt s.blk.macRole 0x0F 1 ≤ x.tries →
    ∃ t, exec .joinTx s = .next t ∧ t.blk.mac.candidate = none ∧ t.blk.sec.own = none ∧
      (t.blk.mac.candidates.find? (fun x => x.addr == c)).any (fun x => x.passed) = true ∧
      s.Keeps t [R.PWR_MODE_PENDING] [.mac, .sec, .power]) ∧
  (∀ (s : State) (m : CmdMsg), s.blk.running = true → s.blk.coordinator = true →
      s.blk.mac.commands.find? (fun m => m.code == 0x23) = some m → 12 ≤ m.body.length →
    ∃ t, exec .joinRelay s = .next t ∧ t.blk.sec.joinMsgs = s.blk.sec.joinMsgs ++ [(leAt m.body 0 8, m.origin, m.body.drop 8)] ∧
      s.Keeps t [] [.mac, .sec]) ∧
  (∀ (s : State) (m : CmdMsg), s.blk.running = true → s.blk.role = 1 →
      s.blk.mac.commands.find? (fun m => m.code == 0x23) = some m → 12 ≤ m.body.length →
    ∃ t f, exec .joinRelay s = .next t ∧ t.blk.mac.order = s.blk.mac.order ++ [f] ∧ f.hdr.ftype = 7 ∧ f.hdr.dst = 0 ∧
      f.payload = m.body.drop 8 ∧ s.Keeps t [] [.mac]) ∧
  (∀ (s : State) (l : List Byte) (src : Nat) (b : Block), s.blk.running = true → s.blk.role = 1 → s.blk.mode ≠ 5 →
      s.blk.mac.commands.find? (fun m => m.code == 0x23) = none →
      s.blk.takeJoin (fun t => t == 1 || t == 3) = some (l, src, b) →
    ∃ t f, exec .joinRelay s = .next t ∧ t.blk.mac.order = b.mac.order ++ [f] ∧ f.hdr.ftype = 5 ∧ f.final = 1 ∧
      f.payload.drop 8 = leBytes (joinEui l) 8 ++ l ∧ s.Keeps t [] [.phy, .mac]) ∧
  (∀ (s : State) (eui via : Nat) (l : List Byte), s.blk.running = true → s.blk.coordinator = true →
      s.blk.sec.joinMsgs.find? (fun m => leAt m.2.2 0 1 == 1) = some (eui, via, l) → l.length = 68 → s.blk.joiner eui = none →
      s.blk.sec.joiners.length < 64 →
    ∃ t j, exec .hello s = .next t ∧ t.blk.joiner eui = some j ∧ j.eui = eui ∧ j.hello = l ∧ j.nj = slice l 12 16 ∧
      j.grant = [] ∧ s.Keeps t [] [.mac, .sec, .freeCtr]) ∧
  (∀ (s : State) (eui via : Nat) (l : List Byte), s.blk.running = true → s.blk.coordinator = true →
      s.blk.sec.joinMsgs.find? (fun m => leAt m.2.2 0 1 == 1) = some (eui, via, l) → l.length = 68 → s.blk.joiner eui = none →
      64 ≤ s.blk.sec.joiners.length →
    ∃ t, exec .hello s = .next t ∧ t.blk.sec.joiners = s.blk.sec.joiners ∧
      t.blk.get R.SEC_JOIN_REFUSED_COUNT = (s.blk.get R.SEC_JOIN_REFUSED_COUNT + 1) % 2 ^ R.SEC_JOIN_REFUSED_COUNT.width ∧
      s.Keeps t [R.SEC_JOIN_REFUSED_COUNT] [.mac, .sec, .freeCtr]) ∧
  (∀ (s : State) (eui : Nat) (j : Joiner), s.blk.running = true → s.blk.joiner eui = some j → j.since + 750000 ≤ s.blk.tick →
    ∃ t, exec (.joinerStateExpiry eui) s = .next t ∧ t.blk.joiner eui = none ∧
      (∀ e, e ≠ eui → t.blk.joiner e = s.blk.joiner e) ∧ s.Keeps t [] [.sec]) ∧
  (∀ (s : State) (eui : Nat) (j : Joiner), s.blk.joiner eui = some j → s.blk.tick < j.since + 750000 →
    ∃ t, exec (.joinerStateExpiry eui) s = .next t ∧ s.Keeps t [] [])

/-- R490: a PROOF that fails a check is refused and counted, one that passes grants the joiner an address, and a repeated one gets the
same GRANT; REFUSE only fails the attempt, and one with a cause that is not defined is rejected and counted. R490, R485: the joiner
answers a CHALLENGE that passes its checks with PROOF, and takes address, lease and keys from a GRANT that unseals. It is stated of each
of these commands that it answers a next state: proof, refuseJoin, challenge, grant. -/
def Obligations.ProofAndGrant : Prop :=
  (∀ (s : State) (eui via e : Nat) (l k master : List Byte) (j : Joiner), s.blk.running = true → s.blk.coordinator = true →
      s.blk.sec.joinMsgs.find? (fun m => leAt m.2.2 0 1 == 3) = some (eui, via, l) → s.blk.joiner eui = some j →
      s.blk.sec.cur = some (e, k) → s.blk.sec.master = some master → l.length = 196 → j.grant = [] → eui < 2 ^ 64 →
    ∃ t, exec .proof s = .next t ∧
      (s.blk.proofCause j l (x25519 j.priv (slice j.hello 28 32)) ≠ 0 →
        t.blk.joiner eui = none ∧ s.Keeps t [R.SEC_JOIN_REFUSED_COUNT] [.mac, .sec, .freeCtr] ∧
        t.blk.get R.SEC_JOIN_REFUSED_COUNT = (s.blk.get R.SEC_JOIN_REFUSED_COUNT + 1) % 2 ^ R.SEC_JOIN_REFUSED_COUNT.width) ∧
      (s.blk.proofCause j l (x25519 j.priv (slice j.hello 28 32)) = 0 →
        t.blk.get R.SEC_JOIN_OK_COUNT = (s.blk.get R.SEC_JOIN_OK_COUNT + 1) % 2 ^ R.SEC_JOIN_OK_COUNT.width ∧
        t.blk.hasNode (s.blk.addressFor eui) = true ∧ t.blk.node (s.blk.addressFor eui) 11 1 = 2 ∧
        t.blk.node (s.blk.addressFor eui) 0 8 = eui ∧ (t.blk.joiner eui).any (fun j => j.grant != []) = true ∧
        t.blk.sec.cur = s.blk.sec.cur ∧
        s.Keeps t [R.SEC_JOIN_OK_COUNT, R.MSH_NODES_ACTIVE, R.MSH_NODES_LOST, R.MSH_LS_USED] [.mac, .sec, .tables, .mesh, .phy])) ∧
  (∀ (s : State) (eui via e : Nat) (l k master : List Byte) (j : Joiner), s.blk.running = true → s.blk.coordinator = true →
      s.blk.sec.joinMsgs.find? (fun m => leAt m.2.2 0 1 == 3) = some (eui, via, l) → s.blk.joiner eui = some j →
      s.blk.sec.cur = some (e, k) → s.blk.sec.master = some master → l.length = 196 → j.grant ≠ [] → via ≠ 0 →
    ∃ t f, exec .proof s = .next t ∧ t.blk.mac.order = s.blk.mac.order ++ [f] ∧ f.payload.drop 8 = leBytes eui 8 ++ j.grant ∧
      t.blk.sec.joiners = s.blk.sec.joiners ∧ s.Keeps t [] [.mac, .sec]) ∧
  (∀ (s : State) (l : List Byte) (src : Nat) (b : Block) (o : OwnJoin), s.blk.mode = 5 →
      s.blk.takeJoin (fun t => t == 5) = some (l, src, b) → s.blk.sec.own = some o →
    ∃ t, exec .refuseJoin s = .next t ∧
      (l.length = 12 ∧ leAt l 4 8 = ownEui ∧ 1 ≤ leAt l 1 1 ∧ leAt l 1 1 ≤ 5 → t.blk.sec.own = none) ∧
      (l.length ≠ 12 ∨ leAt l 4 8 ≠ ownEui ∨ leAt l 1 1 = 0 ∨ 5 < leAt l 1 1 → t.blk.sec.own = some o) ∧
      t.blk.get R.SEC_UNDEF_COUNT =
        (if l.length = 12 ∧ leAt l 4 8 = ownEui ∧ (leAt l 1 1 = 0 ∨ 5 < leAt l 1 1) then
          (s.blk.get R.SEC_UNDEF_COUNT + 1) % 2 ^ R.SEC_UNDEF_COUNT.width
        else s.blk.get R.SEC_UNDEF_COUNT) ∧
      s.Keeps t [R.SEC_UNDEF_COUNT] [.phy, .mac, .sec]) ∧
  (∀ (s : State) (l : List Byte) (src : Nat) (b : Block) (o : OwnJoin), s.blk.mode = 5 →
      s.blk.takeJoin (fun t => t == 2) = some (l, src, b) → s.blk.sec.own = some o →
    ∃ t, exec .challenge s = .next t ∧ s.Keeps t [] [.phy, .mac, .sec] ∧
      (l.length ≠ 260 ∨ leAt l 4 8 ≠ ownEui ∨ certOk (slice l 68 128) = false → t.blk.sec.own = some o) ∧
      (l.length = 260 ∧ leAt l 4 8 = ownEui ∧ certOk (slice l 68 128) = true ∧ slice l 60 8 = s.blk.ownerFpr ∧
          edVerify (slice (slice l 68 128) 16 32) (joinDigest1 o.hello l) (slice l 196 64) = true ∧
          allZero (x25519 o.priv (slice l 28 32)) = false →
        ∃ o' f, t.blk.sec.own = some o' ∧ o'.step = 2 ∧ o'.cand = o.cand ∧ t.blk.sec.coord = leAt (slice l 68 128) 8 8 ∧
          t.blk.mac.order = b.mac.order ++ [f] ∧ f.payload = o'.proof ∧ f.hdr.dst = o.cand)) ∧
  (∀ (s : State) (l : List Byte) (src : Nat) (b : Block) (o : OwnJoin), s.blk.mode = 5 →
      s.blk.takeJoin (fun t => t == 4) = some (l, src, b) → s.blk.sec.own = some o → o.step = 2 → l.length = 108 →
    ∃ t, exec .grant s = .next t ∧ t.otp = s.otp ∧ t.pending = s.pending ∧
      (leAt l 4 8 ≠ ownEui ∨
          ccmOpen o.key (beBytes s.blk.sec.coord 8 ++ beBytes 0 4 ++ [0x20]) (l.take 12) (l.drop 12) 16 = none →
        s.Keeps t [] [.phy, .mac]) ∧
      (∀ g, leAt l 4 8 = ownEui →
        ccmOpen o.key (beBytes s.blk.sec.coord 8 ++ beBytes 0 4 ++ [0x20]) (l.take 12) (l.drop 12) 16 = some g →
        t.blk.get R.MAC_ADDR_SHORT = leAt g 0 2 ∧ t.blk.mac.lease = leAt g 2 2 ∧ t.blk.mac.granted = true ∧
        t.blk.sec.cur = some (leAt g 5 1 % 16, slice g 48 32) ∧ t.blk.sec.node = some (slice g 16 32) ∧ t.blk.sec.own = none ∧
        s.Keeps t ([R.MAC_ADDR_SHORT, R.SEC_TX_CTR, R.MSH_UPLINK_DATA_PARENT, R.MSH_UPLINK_DEPTH_D, R.TIM_TREE_PORT, R.TIM_TREE_BAND,
          R.TIM_PARENT_PARENT, R.TIM_TROUBLE_PARENT_CHANGE, R.TIM_STAT_STATE, R.TIM_STAT_OUT_ACTIVE, R.TIM_TROUBLE_LOCK_LOST,
          R.TIM_STAT_TRACEABLE, R.TIM_PTP_STAT_CLOCK_CLASS, R.PWR_MODE_PENDING] ++ secStatFields ++ recordFields)
          [.phy, .mac, .sec, .tables, .time, .modl, .power, .records]))

/-- R486: KEY_UPDATE that unseals gives the node its next key and the revision to switch at; the coordinator advances the epoch when its
period is over or a node's counter runs low. R487: at SWITCH_REV the next key comes into force with the counter at 0 and the old one is
kept; after the grace time the old one is erased, and a node that lacked the next key loses its own, sets KEY_MISSED and asks for M5. It
is stated of each of these commands that it answers a next state: keyUpdate, keyLow, keyPeriodExpiry, epochSwitch, keyGraceExpiry. -/
def Obligations.KeyEpochs : Prop :=
  (∀ (s : State) (m : CmdMsg) (kn k : List Byte), s.blk.running = true → s.blk.mac.commands.find? (fun m => m.code == 0x22) = some m →
      s.blk.sec.node = some kn → m.body.length = 56 → s.blk.role ≠ 0 →
      ccmOpen kn (updateNonce s.blk.sec.coord (leAt m.body 4 4) (leAt m.body 0 1)) (m.body.take 8) (m.body.drop 8) 16 = some k →
    ∃ t, exec .keyUpdate s = .next t ∧ t.blk.sec.next = some (leAt m.body 0 1 % 16, k) ∧
      t.blk.sec.switchRev = some (leAt m.body 4 4) ∧ t.blk.get R.SEC_STAT_NEXT_HELD = 1 ∧ t.blk.sec.cur = s.blk.sec.cur ∧
      s.Keeps t secStatFields [.mac, .sec]) ∧
  (∀ (s : State) (m : CmdMsg) (e : Nat) (k master : List Byte), s.blk.running = true → s.blk.coordinator = true →
      s.blk.mac.commands.find? (fun m => m.code == 0x24) = some m → s.blk.sec.next = none → s.blk.sec.cur = some (e, k) →
      s.blk.sec.master = some master →
    ∃ t k', exec .keyLow s = .next t ∧ t.blk.sec.next = some ((e + 1) % 16, k') ∧ k'.length = 32 ∧
      t.blk.sec.cur = s.blk.sec.cur ∧ t.blk.sec.switchRev.isSome = true ∧
      s.Keeps t secStatFields [.mac, .sec, .freeCtr]) ∧
  (∀ (s : State) (m : CmdMsg), s.blk.running = true → s.blk.mac.commands.find? (fun m => m.code == 0x24) = some m →
      s.blk.sec.next.isSome = true →
    ∃ t, exec .keyLow s = .next t ∧ s.Keeps t [] [.mac]) ∧
  (∀ (s : State) (e : Nat) (k master : List Byte), s.blk.running = true → s.blk.coordinator = true →
      s.blk.get R.SEC_CFG_KEY_PERIOD ≠ 0 → s.blk.sec.advanceTick + 90000000 * s.blk.get R.SEC_CFG_KEY_PERIOD ≤ s.blk.tick →
      s.blk.sec.cur = some (e, k) → s.blk.sec.master = some master →
    ∃ t k', exec .keyPeriodExpiry s = .next t ∧ t.blk.sec.next = some ((e + 1) % 16, k') ∧ k'.length = 32 ∧
      t.blk.sec.cur = s.blk.sec.cur ∧ t.blk.sec.advanceTick = s.blk.tick ∧ s.Keeps t secStatFields [.mac, .sec, .freeCtr]) ∧
  (∀ s : State, s.blk.coordinator = false ∨ s.blk.get R.SEC_CFG_KEY_PERIOD = 0 ∨
      s.blk.tick < s.blk.sec.advanceTick + 90000000 * s.blk.get R.SEC_CFG_KEY_PERIOD →
    ∃ t, exec .keyPeriodExpiry s = .next t ∧ s.Keeps t [] []) ∧
  (∀ (s : State) (e rev : Nat) (k : List Byte), s.blk.running = true → s.blk.sec.next = some (e, k) →
      s.blk.sec.switchRev = some rev → s.blk.hasGrid = true → s.blk.reached rev = true →
    ∃ t, exec .epochSwitch s = .next t ∧ t.blk.sec.cur = some (e, k) ∧ t.blk.sec.prev = s.blk.sec.cur ∧ t.blk.sec.next = none ∧
      t.blk.get R.SEC_TX_CTR = 0 ∧
      t.blk.get R.SEC_EPOCH_ADVANCE_COUNT = (s.blk.get R.SEC_EPOCH_ADVANCE_COUNT + 1) % 2 ^ R.SEC_EPOCH_ADVANCE_COUNT.width ∧
      s.Keeps t (R.SEC_TX_CTR :: R.SEC_EPOCH_ADVANCE_COUNT :: secStatFields) [.sec]) ∧
  (∀ s : State, s.blk.running = true → s.blk.sec.next = none → s.blk.hasGrid = true → s.blk.keyed = true → s.blk.role ≠ 0 →
    ∃ t, exec .epochSwitch s = .next t ∧ t.blk.sec.cur = s.blk.sec.cur ∧ t.blk.sec.missed = true ∧
      t.blk.sec.switchTick = some s.blk.tick ∧ s.Keeps t [] [.sec]) ∧
  (∀ (s : State) (n : Nat), s.blk.running = true → s.blk.sec.switchTick = some n →
      n + 25000 * s.blk.get R.SEC_CFG_KEY_GRACE ≤ s.blk.tick → s.blk.sec.missed = false →
    ∃ t, exec .keyGraceExpiry s = .next t ∧ t.blk.sec.prev = none ∧ t.blk.get R.SEC_STAT_PREV_HELD = 0 ∧
      t.blk.sec.cur = s.blk.sec.cur ∧ s.Keeps t secStatFields [.sec]) ∧
  (∀ (s : State) (n : Nat), s.blk.running = true → s.blk.sec.switchTick = some n →
      n + 25000 * s.blk.get R.SEC_CFG_KEY_GRACE ≤ s.blk.tick → s.blk.sec.missed = true →
    ∃ t, exec .keyGraceExpiry s = .next t ∧ t.blk.sec.cur = none ∧ t.blk.get R.SEC_TROUBLE_KEY_MISSED = 1 ∧
      t.blk.get R.SEC_STAT_KEYED = 0 ∧ (s.blk.mode ≠ 5 → s.blk.power.trans = none → t.blk.power.trans = some 5) ∧
      s.Keeps t ([R.SEC_TROUBLE_KEY_MISSED, R.PWR_MODE_PENDING] ++ secStatFields ++ recordFields) [.sec, .power, .records]) ∧
  (∀ (s : State) (n : Nat), s.blk.sec.switchTick = some n → s.blk.tick < n + 25000 * s.blk.get R.SEC_CFG_KEY_GRACE →
    ∃ t, exec .keyGraceExpiry s = .next t ∧ s.Keeps t [] [])

/-- R442, R476, R477: MODE_REQUEST asks for the mode it names where that is permitted, is refused and counted where it is not, and
rejected where it names no mode; SNAPSHOT schedules a copy at its target, or misses one that has passed. It is stated of each of these
commands that it answers a next state: modeRequest, snapshot. -/
def Obligations.ModeRequestAndSnapshot : Prop :=
  (∀ (s : State) (m : CmdMsg), s.blk.running = true → s.blk.mac.commands.find? (fun m => m.code == 0x20) = some m →
      s.blk.coordinator = false → m.origin = 1 → m.body.length = 4 → leAt m.body 0 1 = 6 ∨ leAt m.body 0 1 = 8 ∨ leAt m.body 0 1 = 9 ∨
        leAt m.body 0 1 = 10 → requestPermitted s.blk.mode (leAt m.body 0 1) (s.blk.role == 0) s.blk.dozeOk true = true →
      s.blk.power.trans = none →
    ∃ t, exec .modeRequest s = .next t ∧ t.blk.power.trans = some (leAt m.body 0 1) ∧
      s.Keeps t [R.PWR_STBY_TIME] [.mac, .power]) ∧
  (∀ (s : State) (m : CmdMsg), s.blk.running = true → s.blk.mac.commands.find? (fun m => m.code == 0x20) = some m →
      m.origin ≠ 1 →
    ∃ t, exec .modeRequest s = .next t ∧ s.Keeps t [] [.mac]) ∧
  (∀ (s : State) (m : CmdMsg), s.blk.running = true → s.blk.mac.commands.find? (fun m => m.code == 0x20) = some m →
      m.origin = 1 → m.body.length = 4 → [6, 8, 9, 10].contains (leAt m.body 0 1) = false →
    ∃ t, exec .modeRequest s = .next t ∧
      t.blk.get R.PWR_UNDEF_COUNT = (s.blk.get R.PWR_UNDEF_COUNT + 1) % 2 ^ R.PWR_UNDEF_COUNT.width ∧
      s.Keeps t [R.PWR_UNDEF_COUNT] [.mac]) ∧
  (∀ (s : State) (m : CmdMsg), s.blk.running = true → s.blk.mac.commands.find? (fun m => m.code == 0x20) = some m →
      m.origin = 1 → m.body.length = 4 → [6, 8, 9, 10].contains (leAt m.body 0 1) = true →
      requestPermitted s.blk.mode (leAt m.body 0 1) (s.blk.role == 0) s.blk.dozeOk true = false →
    ∃ t, exec .modeRequest s = .next t ∧
      t.blk.get R.PWR_MODE_REFUSED_COUNT = (s.blk.get R.PWR_MODE_REFUSED_COUNT + 1) % 2 ^ R.PWR_MODE_REFUSED_COUNT.width ∧
      t.blk.get R.PWR_TROUBLE_MODE_REFUSED = 1 ∧
      s.Keeps t ([R.PWR_MODE_REFUSED_COUNT, R.PWR_TROUBLE_MODE_REFUSED] ++ recordFields) [.mac, .records]) ∧
  (∀ (s : State) (m : CmdMsg) (x : Nat), s.blk.running = true → s.blk.mac.commands.find? (fun m => m.code == 0x21) = some m →
      m.body.length = 16 → stamp96Ok (leAt m.body 4 12) = true → x = unstamp96 (leAt m.body 4 12) →
      s.blk.trouble.taken ≠ some (leAt m.body 0 2) →
      (∀ q, s.blk.trouble.netSnap = some q → q.id ≠ leAt m.body 0 2) → x = 0 ∨ s.blk.tickStart ≤ x →
    ∃ t, exec .snapshot s = .next t ∧ t.blk.trouble.netSnap = some { id := leAt m.body 0 2, t := x } ∧
      t.blk.get R.TRB_SNAP_STAT_SCHEDULED = 1 ∧ t.blk.get R.TRB_SNAP_STAT_SCHED_ID = leAt m.body 0 2 ∧
      s.Keeps t [R.TRB_SNAP_STAT_SCHEDULED, R.TRB_SNAP_STAT_SCHED_ID] [.mac, .trouble]) ∧
  (∀ (s : State) (m : CmdMsg) (x : Nat), s.blk.running = true → s.blk.mac.commands.find? (fun m => m.code == 0x21) = some m →
      m.body.length = 16 → stamp96Ok (leAt m.body 4 12) = true → x = unstamp96 (leAt m.body 4 12) →
      s.blk.trouble.taken ≠ some (leAt m.body 0 2) →
      (∀ q, s.blk.trouble.netSnap = some q → q.id ≠ leAt m.body 0 2) → x ≠ 0 → x < s.blk.tickStart →
    ∃ t, exec .snapshot s = .next t ∧ t.blk.get R.TRB_TROUBLE_SNAP_MISSED = 1 ∧
      t.blk.trouble.netSnap = s.blk.trouble.netSnap ∧
      s.Keeps t ([R.TRB_TROUBLE_SNAP_MISSED, R.TRB_SNAP_MISSED_COUNT] ++ recordFields) [.mac, .records]) ∧
  (∀ (s : State) (m : CmdMsg), s.blk.running = true → s.blk.mac.commands.find? (fun m => m.code == 0x21) = some m →
      m.body.length = 16 → stamp96Ok (leAt m.body 4 12) = false →
    ∃ t, exec .snapshot s = .next t ∧
      t.blk.get R.TRB_UNDEF_COUNT = (s.blk.get R.TRB_UNDEF_COUNT + 1) % 2 ^ R.TRB_UNDEF_COUNT.width ∧
      s.Keeps t [R.TRB_UNDEF_COUNT] [.mac])

/-- R325, R328, R329, R337, R341: an SOP is admitted with status 0, refused with 1, absent with 2, in refill with 4; a lossy queue
discards its oldest packets for room. That an SOP of a context with an open packet rewinds that packet first is the model's choice
(assumption 135). It is stated of each of these commands that it answers a next state: packetSop. -/
def Obligations.QueueAdmission : Prop :=
  (∀ (s : State) (ctx n len dest tag : Nat), s.blk.running = true → n < 4096 → s.blk.openOf ctx = none → (s.blk.q n).capacity ≠ 0 →
      (s.blk.q n).refill = false →
      (s.blk.q n).bulk = false ∨ s.blk.flag R.QMG_STAT_BULK_READY = true → s.blk.fill n + cellsOf len ≤ (s.blk.q n).capacity →
      crosses (s.blk.q n).thresh (s.blk.fill n) (s.blk.fill n + cellsOf len) = false →
    ∃ t, exec (.packetSop ctx n len dest tag) s = .next t ∧ t.blk.statusOf ctx = 0 ∧
      t.blk.queue.opened = s.blk.queue.opened ++ [⟨ctx, n, len, dest, tag⟩] ∧ t.blk.fill n = s.blk.fill n + cellsOf len ∧
      (∀ m, t.blk.q m = s.blk.q m) ∧ s.Keeps t [] [.queues]) ∧
  (∀ (s : State) (ctx n len dest tag : Nat), s.blk.running = true → n < 4096 → s.blk.openOf ctx = none → (s.blk.q n).capacity ≠ 0 →
      (s.blk.q n).refill = false →
      (s.blk.q n).bulk = false ∨ s.blk.flag R.QMG_STAT_BULK_READY = true → s.blk.fill n + cellsOf len ≤ (s.blk.q n).capacity →
      crosses (s.blk.q n).thresh (s.blk.fill n) (s.blk.fill n + cellsOf len) = true →
    ∃ t, exec (.packetSop ctx n len dest tag) s = .next t ∧ t.blk.statusOf ctx = 0 ∧ t.blk.bit R.QMG_THR_STAT n = true ∧
      s.Keeps t recordFields [.queues, .records]) ∧
  (∀ (s : State) (ctx n len dest tag : Nat), s.blk.running = true → n ≠ 0 → n < 4096 → s.blk.openOf ctx = none → (s.blk.q n).capacity ≠ 0 →
      (s.blk.q n).refill = false → (s.blk.q n).bulk = false ∨ s.blk.flag R.QMG_STAT_BULK_READY = true →
      (s.blk.q n).assured = true ∨ (s.blk.q n).evict (s.blk.fill n) (cellsOf len) = none →
      (s.blk.q n).capacity < s.blk.fill n + cellsOf len →
    ∃ t, exec (.packetSop ctx n len dest tag) s = .next t ∧ t.blk.statusOf ctx = 1 ∧ t.blk.get R.QMG_TROUBLE_ADMIT_REFUSED = 1 ∧
      t.blk.q n = { s.blk.q n with refused := ((s.blk.q n).refused + 1) % 2 ^ 64 } ∧ t.blk.queue.opened = s.blk.queue.opened ∧
      (∀ m, m ≠ n → m ≠ 0 → t.blk.q m = s.blk.q m) ∧ s.Keeps t recordFields [.queues, .records]) ∧
  (∀ (s : State) (ctx n len dest tag gone : Nat) (kept : List Packet), s.blk.running = true → n ≠ 0 → n < 4096 → s.blk.openOf ctx = none →
      (s.blk.q n).capacity ≠ 0 → (s.blk.q n).refill = false → (s.blk.q n).bulk = false ∨ s.blk.flag R.QMG_STAT_BULK_READY = true →
      (s.blk.q n).assured = false →
      (s.blk.q n).capacity < s.blk.fill n + cellsOf len → (s.blk.q n).evict (s.blk.fill n) (cellsOf len) = some (kept, gone) →
    ∃ t, exec (.packetSop ctx n len dest tag) s = .next t ∧ t.blk.statusOf ctx = 0 ∧
      t.blk.q n = { s.blk.q n with pkts := kept, lost := ((s.blk.q n).lost + gone) % 2 ^ 64 } ∧
      t.blk.queue.opened = s.blk.queue.opened ++ [⟨ctx, n, len, dest, tag⟩] ∧ t.blk.get R.QMG_TROUBLE_LOST = 1 ∧
      (∀ m, m ≠ n → m ≠ 0 → t.blk.q m = s.blk.q m) ∧ s.Keeps t recordFields [.queues, .records]) ∧
  (∀ (s : State) (ctx n len dest tag : Nat), s.blk.running = true → n < 4096 → s.blk.openOf ctx = none → (s.blk.q n).capacity = 0 →
    ∃ t, exec (.packetSop ctx n len dest tag) s = .next t ∧ t.blk.statusOf ctx = 2 ∧ t.blk.get R.QMG_TROUBLE_ABSENT_WRITE = 1 ∧
      t.blk.queue.opened = s.blk.queue.opened ∧ s.Keeps t recordFields [.queues, .records]) ∧
  (∀ (s : State) (ctx n len dest tag : Nat), s.blk.running = true → n < 4096 → s.blk.openOf ctx = none → (s.blk.q n).capacity ≠ 0 →
      (s.blk.q n).refill = true →
      ctx ≠ ctxCustody (s.blk.q n).journal →
    ∃ t, exec (.packetSop ctx n len dest tag) s = .next t ∧ t.blk.statusOf ctx = 4 ∧ t.blk.get R.QMG_TROUBLE_REFILL_REFUSED = 1 ∧
      t.blk.get R.QMG_REFILL_REFUSED_COUNT = (s.blk.get R.QMG_REFILL_REFUSED_COUNT + 1) % 2 ^ R.QMG_REFILL_REFUSED_COUNT.width ∧
      t.blk.queue.opened = s.blk.queue.opened ∧
      s.Keeps t (R.QMG_REFILL_REFUSED_COUNT :: R.QMG_TROUBLE_REFILL_REFUSED :: recordFields) [.queues, .records]) ∧
  (∀ (s : State) (ctx n len dest tag : Nat), s.blk.running = true → n ≠ 0 → n < 4096 → s.blk.openOf ctx = none →
      (s.blk.q n).capacity ≠ 0 → (s.blk.q n).refill = false → (s.blk.q n).bulk = true → s.blk.flag R.QMG_STAT_BULK_READY = false →
    ∃ t, exec (.packetSop ctx n len dest tag) s = .next t ∧ t.blk.statusOf ctx = 1 ∧ t.blk.get R.QMG_TROUBLE_ADMIT_REFUSED = 1 ∧
      t.blk.queue.opened = s.blk.queue.opened ∧ s.Keeps t recordFields [.queues, .records]) ∧
  (∀ (s : State) (ctx n len dest tag : Nat) (o : OpenPkt) (b : Block), s.blk.running = true → n < 4096 → s.blk.openOf ctx = some o →
      b = s.blk.rewind ctx → (b.q n).capacity ≠ 0 → (b.q n).refill = false →
      (b.q n).bulk = false ∨ b.flag R.QMG_STAT_BULK_READY = true → b.fill n + cellsOf len ≤ (b.q n).capacity →
      crosses (b.q n).thresh (b.fill n) (b.fill n + cellsOf len) = false →
    ∃ t, exec (.packetSop ctx n len dest tag) s = .next t ∧ t.blk.statusOf ctx = 0 ∧
      t.blk.queue.opened = b.queue.opened ++ [⟨ctx, n, len, dest, tag⟩] ∧
      t.blk.get R.QMG_REWIND_COUNT = (s.blk.get R.QMG_REWIND_COUNT + 1) % 2 ^ R.QMG_REWIND_COUNT.width ∧
      s.Keeps t [R.QMG_REWIND_COUNT] [.queues, .records])

/-- R326, R327: EOP commits the open packet behind the tail with status 7; a rewind or an overrun removes it with status 6 or 5. It is
stated of each of these commands that it answers a next state: packetEop, packetRewind. -/
def Obligations.QueueCommitAndRewind : Prop :=
  (∀ (s : State) (ctx : Nat) (data : List Byte) (o : OpenPkt), s.blk.running = true → s.blk.openOf ctx = some o →
      data.length ≤ o.maxLen →
    ∃ t, exec (.packetEop ctx data) s = .next t ∧ t.blk.statusOf ctx = 7 ∧ t.blk.openOf ctx = none ∧
      t.blk.q o.queue = { s.blk.q o.queue with pkts := (s.blk.q o.queue).pkts ++ [⟨o.dest, o.tag, s.blk.tick % 65536, data⟩] } ∧
      t.blk.get R.QMG_COMMIT_COUNT = (s.blk.get R.QMG_COMMIT_COUNT + 1) % 2 ^ R.QMG_COMMIT_COUNT.width ∧
      (∀ m, m ≠ o.queue → t.blk.q m = s.blk.q m) ∧ s.Keeps t [R.QMG_COMMIT_COUNT] [.queues, .records]) ∧
  (∀ (s : State) (ctx : Nat) (data : List Byte) (o : OpenPkt), s.blk.running = true → s.blk.openOf ctx = some o →
      o.maxLen < data.length →
    ∃ t, exec (.packetEop ctx data) s = .next t ∧ t.blk.statusOf ctx = 5 ∧ t.blk.openOf ctx = none ∧
      t.blk.get R.QMG_TROUBLE_LENGTH_ERR = 1 ∧
      s.Keeps t (R.QMG_REWIND_COUNT :: R.QMG_LENGTH_ERR_COUNT :: R.QMG_TROUBLE_LENGTH_ERR :: recordFields) [.queues, .records]) ∧
  (∀ (s : State) (ctx : Nat) (o : OpenPkt), s.blk.running = true → s.blk.openOf ctx = some o →
    ∃ t, exec (.packetRewind ctx false) s = .next t ∧ t.blk.statusOf ctx = 6 ∧ t.blk.openOf ctx = none ∧
      t.blk.q o.queue = { s.blk.q o.queue with rewound := ((s.blk.q o.queue).rewound + 1) % 2 ^ 64 } ∧
      t.blk.get R.QMG_REWIND_COUNT = (s.blk.get R.QMG_REWIND_COUNT + 1) % 2 ^ R.QMG_REWIND_COUNT.width ∧
      (∀ m, m ≠ o.queue → t.blk.q m = s.blk.q m) ∧ s.Keeps t [R.QMG_REWIND_COUNT] [.queues, .records]) ∧
  (∀ (s : State) (ctx : Nat) (o : OpenPkt), s.blk.running = true → s.blk.openOf ctx = some o → o.queue ≠ 0 →
    ∃ t, exec (.packetRewind ctx true) s = .next t ∧ t.blk.statusOf ctx = 5 ∧ t.blk.openOf ctx = none ∧
      t.blk.q o.queue = { s.blk.q o.queue with rewound := ((s.blk.q o.queue).rewound + 1) % 2 ^ 64 } ∧
      s.Keeps t (R.QMG_REWIND_COUNT :: R.QMG_LENGTH_ERR_COUNT :: R.QMG_TROUBLE_LENGTH_ERR :: recordFields) [.queues, .records])

/-- R330, R331, R332, R338, R339: a read presents the head packet; a HOLD queue keeps it until RELEASE or FAIL, another gives it up; an
uncorrectable word of a lossy queue removes it, of an assured queue resets the queue. R332: FAIL removes the head of a lossy queue, holds
that of an assured one, and discards it at FAIL_MAX. It is stated of each of these commands that it answers a next state: queueRead,
queueRelease, queueReread, queueFail. -/
def Obligations.QueueReads : Prop :=
  (∀ (s : State) (n : Nat) (c : ReadCheck), s.blk.running = true → n < 4096 → (s.blk.q n).pkts = [] →
    ∃ t, exec (.queueRead n c) s = .next t ∧ t.blk.outs = s.blk.outs ++ [.empty n] ∧ s.Keeps t [] [.outs]) ∧
  (∀ (s : State) (n : Nat) (p : Packet) (l : List Packet), s.blk.running = true → n < 4096 → (s.blk.q n).pkts = p :: l →
      (s.blk.q n).hold = false →
    ∃ t, exec (.queueRead n .good) s = .next t ∧ t.blk.outs = s.blk.outs ++ [.packet n p.dest p.tag p.commit p.data] ∧
      (t.blk.q n).pkts = l ∧ (∀ m, m ≠ n → t.blk.q m = s.blk.q m) ∧ s.Keeps t [] [.outs, .queues, .records]) ∧
  (∀ (s : State) (n : Nat) (p : Packet) (l : List Packet), s.blk.running = true → n < 4096 → (s.blk.q n).pkts = p :: l →
      (s.blk.q n).hold = true →
    ∃ t, exec (.queueRead n .good) s = .next t ∧ t.blk.outs = s.blk.outs ++ [.packet n p.dest p.tag p.commit p.data] ∧
      t.blk.q n = { s.blk.q n with reading := true } ∧ (∀ m, m ≠ n → t.blk.q m = s.blk.q m) ∧
      s.Keeps t [] [.outs, .queues, .records]) ∧
  (∀ (s : State) (n : Nat) (p : Packet) (l : List Packet), s.blk.running = true → n ≠ 0 → n < 4096 → (s.blk.q n).pkts = p :: l →
      (s.blk.q n).wordEcc = true → (s.blk.q n).assured = false →
    ∃ t, exec (.queueRead n .uncorrectable) s = .next t ∧ t.blk.outs = s.blk.outs ∧ (t.blk.q n).pkts = l ∧
      t.blk.get R.QMG_TROUBLE_UNCORRECTED = 1 ∧ t.blk.get R.QMG_TROUBLE_LOST = 1 ∧ (∀ m, m ≠ n → m ≠ 0 → t.blk.q m = s.blk.q m) ∧
      s.Keeps t ([R.QMG_UNCORR_COUNT, R.QMG_TROUBLE_UNCORRECTED, R.TRB_DDR_UNCORR_COUNT] ++ recordFields) [.queues, .records]) ∧
  (∀ (s : State) (n : Nat) (p : Packet) (l : List Packet), s.blk.running = true → n < 4096 → (s.blk.q n).pkts = p :: l →
      (s.blk.q n).wordEcc = true →
    ∃ t, exec (.queueRead n .corrected) s = .next t ∧ t.blk.get R.QMG_TROUBLE_CORRECTED = 1 ∧ t.otp = s.otp ∧ t.pending = s.pending ∧
      (t.blk.outs = s.blk.outs ++ [.packet n p.dest p.tag p.commit p.data] ∨ t.blk.outs = s.blk.outs ++ [.reset n])) ∧
  (∀ (s : State) (n : Nat) (p : Packet) (l : List Packet) (c : ReadCheck), s.blk.running = true → n ≠ 0 → n < 4096 →
      (s.blk.q n).pkts = p :: l →
      (c = .uncorrectable ∧ (s.blk.q n).wordEcc = true ∧ (s.blk.q n).assured = true) ∨ (c = .pointers ∧ (s.blk.q n).ptrDup = true) →
    ∃ t, exec (.queueRead n c) s = .next t ∧ t.blk.outs = s.blk.outs ++ [.reset n] ∧ (t.blk.q n).pkts = [] ∧ t.blk.openCells n = 0 ∧
      (t.blk.q n).refill = ((s.blk.q n).assured && (s.blk.q n).journal != 0xFFFF) ∧ t.blk.get R.QMG_TROUBLE_FORCED_RESET = 1 ∧
      (∀ m, m ≠ n → m ≠ 0 → t.blk.q m = s.blk.q m) ∧
      s.Keeps t ([R.QMG_UNCORR_COUNT, R.QMG_TROUBLE_UNCORRECTED, R.TRB_DDR_UNCORR_COUNT, R.QMG_PTR_MISMATCH_COUNT,
        R.QMG_TROUBLE_PTR_MISMATCH, R.QMG_CMD_STAT_PENDING, R.QMG_RESET_LOST_COUNT, R.QMG_FORCED_RESET_COUNT,
        R.QMG_TROUBLE_FORCED_RESET] ++ recordFields) [.outs, .queues, .records]) ∧
  (∀ (s : State) (n : Nat), s.blk.running = true → (s.blk.q n).hold = true → (s.blk.q n).pkts ≠ [] →
    ∃ t, exec (.queueRelease n) s = .next t ∧ (t.blk.q n).pkts = (s.blk.q n).pkts.tail ∧ (t.blk.q n).headFails = 0 ∧
      (∀ m, m ≠ n → t.blk.q m = s.blk.q m) ∧ s.Keeps t [] [.queues, .records]) ∧
  (∀ (s : State) (n : Nat), s.blk.running = true → (s.blk.q n).hold = true → (s.blk.q n).pkts ≠ [] →
    ∃ t, exec (.queueReread n) s = .next t ∧ t.blk.q n = { s.blk.q n with reading := true } ∧
      (∀ m, m ≠ n → t.blk.q m = s.blk.q m) ∧ s.Keeps t [] [.queues, .records]) ∧
  (∀ (s : State) (n : Nat), s.blk.running = true → n ≠ 0 → (s.blk.q n).hold = true → (s.blk.q n).pkts ≠ [] →
      (s.blk.q n).assured = false →
    ∃ t, exec (.queueFail n) s = .next t ∧ (t.blk.q n).pkts = (s.blk.q n).pkts.tail ∧
      (t.blk.q n).lost = ((s.blk.q n).lost + 1) % 2 ^ 64 ∧ t.blk.get R.QMG_TROUBLE_LOST = 1 ∧
      (∀ m, m ≠ n → m ≠ 0 → t.blk.q m = s.blk.q m) ∧ s.Keeps t recordFields [.queues, .records]) ∧
  (∀ (s : State) (n : Nat), s.blk.running = true → (s.blk.q n).hold = true → (s.blk.q n).pkts ≠ [] → (s.blk.q n).assured = true →
      (s.blk.q n).failMax = 0 ∨ (s.blk.q n).headFails + 1 < (s.blk.q n).failMax →
    ∃ t, exec (.queueFail n) s = .next t ∧ (t.blk.q n).pkts = (s.blk.q n).pkts ∧ (t.blk.q n).headHeld = true ∧
      (t.blk.q n).headFails = min 255 ((s.blk.q n).headFails + 1) ∧
      t.blk.get R.QMG_HEAD_FAIL_COUNT = (s.blk.get R.QMG_HEAD_FAIL_COUNT + 1) % 2 ^ R.QMG_HEAD_FAIL_COUNT.width ∧
      (∀ m, m ≠ n → t.blk.q m = s.blk.q m) ∧ s.Keeps t [R.QMG_HEAD_FAIL_COUNT] [.queues, .records]) ∧
  (∀ (s : State) (n : Nat), s.blk.running = true → n ≠ 0 → (s.blk.q n).hold = true → (s.blk.q n).pkts ≠ [] →
      (s.blk.q n).assured = true → (s.blk.q n).failMax ≠ 0 → (s.blk.q n).failMax ≤ (s.blk.q n).headFails + 1 →
    ∃ t, exec (.queueFail n) s = .next t ∧ (t.blk.q n).pkts = (s.blk.q n).pkts.tail ∧ (t.blk.q n).headHeld = false ∧
      (t.blk.q n).headFails = 0 ∧ t.blk.get R.QMG_TROUBLE_HEAD_DISCARD = 1 ∧ (∀ m, m ≠ n → m ≠ 0 → t.blk.q m = s.blk.q m) ∧
      s.Keeps t (R.QMG_HEAD_FAIL_COUNT :: R.QMG_HEAD_DISCARD_COUNT :: R.QMG_TROUBLE_HEAD_DISCARD :: recordFields) [.queues, .records]) ∧
  (∀ (s : State) (n : Nat), s.blk.running = true → (s.blk.q n).hold = false →
    ∃ t, exec (.queueFail n) s = .next t ∧ s.Keeps t [] [])

/-- R335, R340, R368: FLUSH of a lossy queue, or in M10 of an assured one, empties the queue at its flush point; outside M10 an assured
queue's FLUSH and every FORCE_RESET are refused; a refilled queue returns to normal; NOP does nothing. It is stated of each of these
commands that it answers a next state: qmgCmdNop, qmgCmdFlush, flushPoint, qmgCmdForceReset, refillComplete. -/
def Obligations.QueueCommands : Prop :=
  (∀ (s : State) (n : Nat),
    ∃ t, exec (.qmgCmdNop n) s = .next t ∧ s.Keeps t [] []) ∧
  (∀ (s : State) (n : Nat), s.blk.reachable = true → n < 4096 → (s.blk.q n).assured = false ∨ s.blk.mode = 10 →
      (s.blk.q n).reading = false →
    ∃ t, exec (.qmgCmdFlush n) s = .next t ∧ (t.blk.q n).pkts = [] ∧ t.blk.get R.QMG_CMD_STAT_REFUSED = 0 ∧
      t.blk.queue.opened = s.blk.queue.opened ∧
      t.blk.get R.QMG_FLUSH_DROP_COUNT = (s.blk.get R.QMG_FLUSH_DROP_COUNT + (s.blk.q n).pkts.length) % 2 ^ R.QMG_FLUSH_DROP_COUNT.width ∧
      (∀ m, m ≠ n → t.blk.q m = s.blk.q m) ∧
      s.Keeps t [R.QMG_CMD_STAT_REFUSED, R.QMG_CMD_STAT_PENDING, R.QMG_FLUSH_DROP_COUNT] [.queues, .records]) ∧
  (∀ (s : State) (n : Nat), s.blk.reachable = true → n < 4096 → (s.blk.q n).assured = false ∨ s.blk.mode = 10 →
      (s.blk.q n).reading = true →
    ∃ t, exec (.qmgCmdFlush n) s = .next t ∧ t.blk.q n = { s.blk.q n with flushPending := true } ∧
      t.blk.get R.QMG_CMD_STAT_PENDING = 1 ∧ (∀ m, m ≠ n → t.blk.q m = s.blk.q m) ∧
      s.Keeps t [R.QMG_CMD_STAT_REFUSED, R.QMG_CMD_STAT_PENDING] [.queues, .records]) ∧
  (∀ (s : State) (n : Nat), s.blk.reachable = true → n < 4096 → (s.blk.q n).assured = true → s.blk.mode ≠ 10 →
    ∃ t, exec (.qmgCmdFlush n) s = .next t ∧ t.blk.get R.QMG_CMD_STAT_REFUSED = 1 ∧ t.blk.get R.QMG_TROUBLE_FLUSH_REFUSED = 1 ∧
      s.Keeps t (R.QMG_CMD_STAT_REFUSED :: R.QMG_TROUBLE_FLUSH_REFUSED :: recordFields) [.records]) ∧
  (∀ (s : State) (n : Nat), s.blk.running = true → n < 4096 → (s.blk.q n).flushPending = true →
    ∃ t, exec (.flushPoint n) s = .next t ∧ (t.blk.q n).pkts = [] ∧ (t.blk.q n).flushPending = false ∧
      t.blk.get R.QMG_FLUSH_DROP_COUNT = (s.blk.get R.QMG_FLUSH_DROP_COUNT + (s.blk.q n).pkts.length) % 2 ^ R.QMG_FLUSH_DROP_COUNT.width ∧
      (∀ m, m ≠ n → t.blk.q m = s.blk.q m) ∧ s.Keeps t [R.QMG_CMD_STAT_PENDING, R.QMG_FLUSH_DROP_COUNT] [.queues, .records]) ∧
  (∀ (s : State) (n : Nat), s.blk.mode = 10 → n ≠ 0 → n < 4096 →
    ∃ t, exec (.qmgCmdForceReset n) s = .next t ∧ (t.blk.q n).pkts = [] ∧ t.blk.openCells n = 0 ∧
      t.blk.get R.QMG_TROUBLE_FORCED_RESET = 1 ∧ (t.blk.q n).refill = ((s.blk.q n).assured && (s.blk.q n).journal != 0xFFFF) ∧
      (∀ m, m ≠ n → m ≠ 0 → t.blk.q m = s.blk.q m) ∧
      s.Keeps t ([R.QMG_CMD_STAT_REFUSED, R.QMG_CMD_STAT_PENDING, R.QMG_RESET_LOST_COUNT, R.QMG_FORCED_RESET_COUNT,
        R.QMG_TROUBLE_FORCED_RESET] ++ recordFields) [.outs, .queues, .records]) ∧
  (∀ (s : State) (n : Nat), s.blk.reachable = true → s.blk.mode ≠ 10 →
    ∃ t, exec (.qmgCmdForceReset n) s = .next t ∧ t.blk.get R.QMG_CMD_STAT_REFUSED = 1 ∧ s.Keeps t [R.QMG_CMD_STAT_REFUSED] []) ∧
  (∀ (s : State) (n : Nat), s.blk.running = true → (s.blk.q n).refill = true →
    ∃ t, exec (.refillComplete n) s = .next t ∧ (t.blk.q n).refill = false ∧ t.otp = s.otp ∧ t.pending = s.pending) ∧
  (∀ (s : State) (n c : Nat) (m : Nat × List Byte), s.blk.running = true → n < 4096 → (s.blk.q n).refill = true →
      (s.blk.q n).pkts = [] → c = (s.blk.q n).journal → n ≠ (s.blk.cus c).txQueue → (s.blk.cus c).inJ = [m] →
      s.blk.openOf (ctxCustody c) = none → (s.blk.q n).bulk = false → s.blk.fill n + cellsOf m.2.length ≤ (s.blk.q n).capacity →
    ∃ t, exec (.refillComplete n) s = .next t ∧ (t.blk.q n).pkts = [⟨0, 0, s.blk.tickTag, m.2⟩] ∧ (t.blk.q n).refill = false ∧
      (t.blk.cus c).hostSent = (t.blk.cus c).hostAcked ∧
      s.Keeps t ([R.QMG_STAT_REFILLING, R.CUS_WINDOW_USED] ++ putFields) [.custody, .queues, .records])

/-- R349, R353–R357, R374: a host's DATA in sequence is accepted and journalled, or refused with a cause; a duplicate and a gap are
counted and acknowledged; ACK releases inbound records, CREDIT sets the send limit, RESYNC is answered; a malformed message is counted. It
is stated of each of these commands that it answers a next state: hostData, hostAck, hostCredit, resync, runudomMalformed. -/
def Obligations.HostMessages : Prop :=
  (∀ (s : State) (port n : Nat) (msg : List Byte) (m : HostMsg) (ch : Channel), s.blk.hostTakes port = true →
      parseHost msg = some m → m.type = 1 → m.flags = 0 → ch = s.blk.cus m.channel → ch.present = true →
      serialAbove 32 m.seq ch.accepted = true → m.seq = (ch.accepted + 1) % 2 ^ 32 →
      s.blk.refuseCause m.channel m.payload.length = 0 → m.payload.length ≤ 4058 → n = ch.txQueue → n < 4096 →
      (s.blk.q n).capacity ≠ 0 → (s.blk.q n).bulk = false → s.blk.openOf (ctxCustody m.channel) = none →
      s.blk.fill n + cellsOf (m.payload.length + 22) ≤ (s.blk.q n).capacity →
    ∃ t, exec (.hostData port msg) s = .next t ∧ (t.blk.cus m.channel).accepted = m.seq ∧
      (t.blk.cus m.channel).outJ = ch.outJ ++ [(m.seq, m.payload)] ∧
      t.blk.get R.CUS_ACCEPT_COUNT = (s.blk.get R.CUS_ACCEPT_COUNT + 1) % 2 ^ R.CUS_ACCEPT_COUNT.width ∧
      s.Keeps t ([R.CUS_ACCEPT_COUNT, R.CUS_WINDOW_USED, R.CUS_EPOCH_MISMATCH_COUNT] ++ recordFields)
        [.custody, .mac, .queues, .records, .outs]) ∧
  (∀ (s : State) (port n : Nat) (msg : List Byte) (m : HostMsg) (b : Block) (ch : Channel), s.blk.hostTakes port = true →
      parseHost msg = some m → m.type = 1 → b = s.blk.hostCommon port m → ch = b.cus m.channel → ch.present = true →
      serialAbove 32 m.seq ch.accepted = true → m.seq = (ch.accepted + 1) % 2 ^ 32 →
      b.refuseCause m.channel m.payload.length = 0 → m.payload.length ≤ 4058 → n = ch.txQueue → n < 4096 →
      (b.q n).capacity ≠ 0 → b.openOf (ctxCustody m.channel) = none →
      b.fill n + cellsOf (m.payload.length + 22) ≤ (b.q n).capacity → (b.q n).bulk = false ∨ b.flag R.QMG_STAT_BULK_READY = true →
    ∃ t, exec (.hostData port msg) s = .next t ∧ (t.blk.cus m.channel).accepted = m.seq ∧
      (t.blk.cus m.channel).outJ = ch.outJ ++ [(m.seq, m.payload)] ∧ (t.blk.cus m.channel).port = some port ∧
      (m.flags.testBit 0 = true → serialAbove 32 m.ack (s.blk.cus m.channel).hostAcked = true →
        serialAbove 32 m.ack (s.blk.cus m.channel).journalled = false → (t.blk.cus m.channel).hostAcked = m.ack) ∧
      s.Keeps t ([R.CUS_ACCEPT_COUNT, R.CUS_WINDOW_USED, R.CUS_EPOCH_MISMATCH_COUNT, R.CUS_DELIVER_COUNT] ++ recordFields)
        [.custody, .mac, .queues, .records, .outs]) ∧
  (∀ (s : State) (port n : Nat) (msg : List Byte) (m : HostMsg) (ch : Channel), s.blk.hostTakes port = true →
      parseHost msg = some m → m.type = 1 → m.flags = 0 → ch = s.blk.cus m.channel → ch.present = true →
      serialAbove 32 m.seq ch.accepted = true → m.seq = (ch.accepted + 1) % 2 ^ 32 →
      s.blk.refuseCause m.channel m.payload.length = 0 → m.payload.length ≤ 4058 → n = ch.txQueue → n ≠ 0 → n < 4096 →
      (s.blk.q n).capacity ≠ 0 → (s.blk.q n).assured = true → s.blk.openOf (ctxCustody m.channel) = none →
      (s.blk.q n).capacity < s.blk.fill n + cellsOf (m.payload.length + 22) →
    ∃ t l, exec (.hostData port msg) s = .next t ∧
      t.blk.outs = s.blk.outs ++ [.host port (s.blk.ownAddr (port / 4 % 4)) (s.blk.service (port / 4 % 4)) l] ∧
      leAt l 0 1 = 0x14 ∧ beNum (slice l 24 4) = m.seq ∧ leAt l 28 1 = 5 ∧ (t.blk.cus m.channel).accepted = ch.accepted ∧
      (t.blk.cus m.channel).outJ = ch.outJ ∧ t.blk.get R.CUS_TROUBLE_REFUSED = 1 ∧
      s.Keeps t ([R.CUS_REFUSE_COUNT, R.CUS_TROUBLE_REFUSED, R.CUS_WINDOW_USED, R.CUS_EPOCH_MISMATCH_COUNT] ++ recordFields)
        [.custody, .queues, .records, .outs]) ∧
  (∀ (s : State) (port cause : Nat) (msg : List Byte) (m : HostMsg), s.blk.hostTakes port = true → parseHost msg = some m →
      m.type = 1 → m.flags = 0 → (s.blk.cus m.channel).present = false ∨
        (serialAbove 32 m.seq (s.blk.cus m.channel).accepted = true ∧ m.seq = ((s.blk.cus m.channel).accepted + 1) % 2 ^ 32) →
      s.blk.refuseCause m.channel m.payload.length = cause → cause ≠ 0 →
    ∃ t l, exec (.hostData port msg) s = .next t ∧
      t.blk.outs = s.blk.outs ++ [.host port (s.blk.ownAddr (port / 4 % 4)) (s.blk.service (port / 4 % 4)) l] ∧ leAt l 0 1 = 0x14 ∧
      beNum (slice l 24 4) = m.seq ∧ leAt l 28 1 = cause ∧ l.length = 32 ∧
      leAt l 1 1 = (if (s.blk.cus m.channel).present then 3 else 0) ∧
      (t.blk.cus m.channel).accepted = (s.blk.cus m.channel).accepted ∧ t.blk.get R.CUS_TROUBLE_REFUSED = 1 ∧
      s.Keeps t ([R.CUS_REFUSE_COUNT, R.CUS_TROUBLE_REFUSED, R.CUS_WINDOW_USED, R.CUS_EPOCH_MISMATCH_COUNT] ++ recordFields)
        [.custody, .records, .outs]) ∧
  (∀ (s : State) (port : Nat) (msg : List Byte) (m : HostMsg), s.blk.hostTakes port = true → parseHost msg = some m →
      m.type = 1 → m.flags = 0 → (s.blk.cus m.channel).present = true →
      serialAbove 32 m.seq (s.blk.cus m.channel).accepted = false →
    ∃ t l, exec (.hostData port msg) s = .next t ∧
      t.blk.outs = s.blk.outs ++ [.host port (s.blk.ownAddr (port / 4 % 4)) (s.blk.service (port / 4 % 4)) l] ∧ leAt l 0 1 = 0x12 ∧
      (t.blk.cus m.channel).accepted = (s.blk.cus m.channel).accepted ∧
      t.blk.get R.CUS_HOST_DUP_COUNT = (s.blk.get R.CUS_HOST_DUP_COUNT + 1) % 2 ^ R.CUS_HOST_DUP_COUNT.width ∧
      s.Keeps t [R.CUS_HOST_DUP_COUNT, R.CUS_WINDOW_USED, R.CUS_EPOCH_MISMATCH_COUNT] [.custody, .outs]) ∧
  (∀ (s : State) (port : Nat) (msg : List Byte) (m : HostMsg), s.blk.hostTakes port = true → parseHost msg = some m →
      m.type = 1 → m.flags = 0 → (s.blk.cus m.channel).present = true →
      serialAbove 32 m.seq (s.blk.cus m.channel).accepted = true → m.seq ≠ ((s.blk.cus m.channel).accepted + 1) % 2 ^ 32 →
    ∃ t l, exec (.hostData port msg) s = .next t ∧
      t.blk.outs = s.blk.outs ++ [.host port (s.blk.ownAddr (port / 4 % 4)) (s.blk.service (port / 4 % 4)) l] ∧ leAt l 0 1 = 0x12 ∧
      (t.blk.cus m.channel).accepted = (s.blk.cus m.channel).accepted ∧ t.blk.get R.CUS_TROUBLE_HOST_GAP = 1 ∧
      t.blk.get R.CUS_HOST_GAP_COUNT = (s.blk.get R.CUS_HOST_GAP_COUNT + 1) % 2 ^ R.CUS_HOST_GAP_COUNT.width ∧
      s.Keeps t ([R.CUS_HOST_GAP_COUNT, R.CUS_TROUBLE_HOST_GAP, R.CUS_WINDOW_USED, R.CUS_EPOCH_MISMATCH_COUNT] ++ recordFields)
        [.custody, .records, .outs]) ∧
  (∀ (s : State) (port : Nat) (msg : List Byte) (m : HostMsg) (ch : Channel), s.blk.hostTakes port = true →
      parseHost msg = some m → m.type = 2 → m.flags = 1 → m.channel < 0x400 → ch = s.blk.cus m.channel → ch.present = true →
      serialAbove 32 m.ack ch.hostAcked = true → serialAbove 32 m.ack ch.journalled = false →
    ∃ t, exec (.hostAck port msg) s = .next t ∧ (t.blk.cus m.channel).hostAcked = m.ack ∧ (t.blk.cus m.channel).port = some port ∧
      (t.blk.cus m.channel).inJ = ch.inJ.filter (fun x => serialAbove 32 x.1 m.ack) ∧
      s.Keeps t [R.CUS_DELIVER_COUNT, R.CUS_WINDOW_USED, R.CUS_EPOCH_MISMATCH_COUNT] [.custody, .mac, .queues, .records]) ∧
  (∀ (s : State) (port : Nat) (msg : List Byte) (m : HostMsg) (ch : Channel), s.blk.hostTakes port = true →
      parseHost msg = some m → m.type = 2 → m.flags = 1 → m.channel < 0x400 → ch = s.blk.cus m.channel → ch.present = true →
      serialAbove 32 m.ack ch.hostAcked = false ∨ serialAbove 32 m.ack ch.journalled = true →
    ∃ t, exec (.hostAck port msg) s = .next t ∧ t.blk.cus m.channel = { ch with port := some port } ∧
      s.Keeps t [R.CUS_WINDOW_USED, R.CUS_EPOCH_MISMATCH_COUNT] [.custody]) ∧
  (∀ (s : State) (port : Nat) (msg : List Byte) (m : HostMsg) (u : CustodyUnit), (s.blk.regTakes port) = true →
      parseHost msg = some m → m.type = 2 → m.flags = 1 → m.channel = 0xFFFF → u = s.blk.custody →
      serialAbove 32 m.ack u.regc.acked = true → serialAbove 32 m.ack u.regc.sent = false →
    ∃ t, exec (.hostAck port msg) s = .next t ∧
      t.blk.custody = { u with regc := { u.regc with port := some port, acked := m.ack, ackTick := s.blk.tick } } ∧
      s.Keeps t [R.CUS_EPOCH_MISMATCH_COUNT] [.custody]) ∧
  (∀ (s : State) (port a v : Nat) (msg : List Byte) (m : HostMsg) (ch : Channel), s.blk.hostTakes port = true →
      parseHost msg = some m → m.type = 3 → m.flags = 2 → m.channel < 0x400 → ch = s.blk.cus m.channel → ch.present = true →
      ch.hostCredit = some (a, v) → serialAbove 32 m.ack a = false →
    ∃ t, exec (.hostCredit port msg) s = .next t ∧
      (t.blk.cus m.channel).hostCredit = some (a, if m.ack = a then max v m.credit else v) ∧
      s.Keeps t [R.CUS_WINDOW_USED, R.CUS_EPOCH_MISMATCH_COUNT] [.custody]) ∧
  (∀ (s : State) (port : Nat) (msg : List Byte) (m : HostMsg) (ch : Channel), s.blk.hostTakes port = true →
      parseHost msg = some m → m.type = 3 → m.flags = 2 → m.channel < 0x400 → ch = s.blk.cus m.channel → ch.present = true →
      (∀ a v, ch.hostCredit = some (a, v) → serialAbove 32 m.ack a = true) →
    ∃ t, exec (.hostCredit port msg) s = .next t ∧ (t.blk.cus m.channel).hostCredit = some (m.ack, m.credit) ∧
      s.Keeps t [R.CUS_WINDOW_USED, R.CUS_EPOCH_MISMATCH_COUNT] [.custody]) ∧
  (∀ (s : State) (port : Nat) (msg : List Byte) (m : HostMsg), s.blk.hostTakes port = true → parseHost msg = some m →
      m.type = 5 → m.flags = 0 → m.channel < 0x400 → (s.blk.cus m.channel).present = true →
    ∃ t l rest, exec (.resync port msg) s = .next t ∧
      t.blk.outs = s.blk.outs ++ .host port (s.blk.ownAddr (port / 4 % 4)) (s.blk.service (port / 4 % 4)) l :: rest ∧ leAt l 0 1 = 0x16 ∧
      l.drop 24 = s.blk.resyncRecord m.channel ∧ t.blk.custody.resyncPort = some port ∧
      s.Keeps t ([R.CUS_WINDOW_USED, R.CUS_EPOCH_MISMATCH_COUNT, R.CUS_TROUBLE_HOST_OVERSIZE] ++ recordFields)
        [.custody, .records, .outs]) ∧
  (∀ (s : State) (port : Nat) (msg : List Byte), s.blk.portUp port = true → parseHost msg = none →
    ∃ t, exec (.runudomMalformed port msg) s = .next t ∧ t.blk.get R.CUS_TROUBLE_MALFORMED = 1 ∧
      t.blk.get R.CUS_MALFORMED_COUNT = (s.blk.get R.CUS_MALFORMED_COUNT + 1) % 2 ^ R.CUS_MALFORMED_COUNT.width ∧
      s.Keeps t ([R.CUS_MALFORMED_COUNT, R.CUS_TROUBLE_MALFORMED] ++ recordFields) [.records])

/-- R354, R357, R363, R376, R378: what the node sends to a host: an ACK that is due, DELIVERED, the next inbound message, everything
unacknowledged after a timeout, and the packets of a stream. It is stated of each of these commands that it answers a next state:
hostAckTx, hostDeliver, hostRetransmit, streamTx. -/
def Obligations.HostSends : Prop :=
  (∀ (s : State) (c p : Nat) (ch : Channel), ch = s.blk.cus c → ch.ackDue = true → ch.deliveredDue = false → ch.port = some p →
      s.blk.portUp p = true →
    ∃ t, exec (.hostAckTx c) s = .next t ∧ (t.blk.cus c).ackDue = false ∧
      t.blk.outs = s.blk.outs ++ [.host p (s.blk.ownAddr (p / 4 % 4)) (s.blk.service (p / 4 % 4)) (runudom 2 3 c 0 ch.accepted ch.credit 0
      (s.blk.get R.CUS_EPOCH))] ∧
      s.Keeps t [R.CUS_WINDOW_USED] [.custody, .outs]) ∧
  (∀ (s : State) (c p : Nat) (ch : Channel), ch = s.blk.cus c → ch.ackDue = false → ch.deliveredDue = true → ch.port = some p →
      s.blk.portUp p = true →
    ∃ t, exec (.hostAckTx c) s = .next t ∧ (t.blk.cus c).deliveredDue = false ∧
      t.blk.outs = s.blk.outs ++ [.host p (s.blk.ownAddr (p / 4 % 4)) (s.blk.service (p / 4 % 4)) (runudom 10 1 c 0 ch.receipted 0 0
      (s.blk.get R.CUS_EPOCH))] ∧
      s.Keeps t [R.CUS_WINDOW_USED] [.custody, .outs]) ∧
  (∀ (s : State) (c p : Nat) (ch : Channel), ch = s.blk.cus c → ch.ackDue = true → ch.deliveredDue = true → ch.port = some p →
      s.blk.portUp p = true →
    ∃ t, exec (.hostAckTx c) s = .next t ∧ t.blk.cus c = { ch with ackDue := false, deliveredDue := false } ∧
      t.blk.outs = s.blk.outs ++
        [.host p (s.blk.ownAddr (p / 4 % 4)) (s.blk.service (p / 4 % 4)) (runudom 2 3 c 0 ch.accepted ch.credit 0 (s.blk.get R.CUS_EPOCH)),
          .host p (s.blk.ownAddr (p / 4 % 4)) (s.blk.service (p / 4 % 4)) (runudom 10 1 c 0 ch.receipted 0 0 (s.blk.get R.CUS_EPOCH))] ∧
      s.Keeps t [R.CUS_WINDOW_USED] [.custody, .outs]) ∧
  (∀ (s : State) (c p : Nat) (ch : Channel) (m : Nat × List Byte), ch = s.blk.cus c → ch.port = some p → s.blk.portUp p = true →
      ch.inJ.find? (fun m => serialAbove 32 m.1 ch.hostSent) = some m → ch.hostAdmits m.1 = true → m.2.length ≤ s.blk.portLimit p →
    ∃ t, exec (.hostDeliver c) s = .next t ∧ (t.blk.cus c).hostSent = m.1 ∧
      t.blk.outs = s.blk.outs ++
        [.host p (s.blk.ownAddr (p / 4 % 4)) (s.blk.service (p / 4 % 4)) (runudom 1 3 c m.1 ch.accepted ch.credit m.2.length (s.blk.get
        R.CUS_EPOCH) ++ m.2)] ∧
      (t.blk.cus c).ackTick = (if ch.hostSent = ch.hostAcked then s.blk.tick else ch.ackTick) ∧
      (∀ n, n ≠ ch.rxQueue → t.blk.q n = s.blk.q n) ∧ s.Keeps t [R.CUS_WINDOW_USED] [.custody, .outs, .queues, .records]) ∧
  (∀ (s : State) (c p : Nat) (ch : Channel) (m : Nat × List Byte), ch = s.blk.cus c → ch.port = some p →
      ch.inJ.find? (fun m => serialAbove 32 m.1 ch.hostSent) = some m → ch.hostAdmits m.1 = false →
    ∃ t, exec (.hostDeliver c) s = .next t ∧ s.Keeps t [] []) ∧
  (∀ (s : State) (c p : Nat) (ch : Channel) (m : Nat × List Byte), ch = s.blk.cus c → ch.port = some p → s.blk.portUp p = true →
      ch.inJ.find? (fun m => serialAbove 32 m.1 ch.hostSent) = some m → ch.hostAdmits m.1 = true → s.blk.portLimit p < m.2.length →
    ∃ t, exec (.hostDeliver c) s = .next t ∧ t.blk.get R.CUS_TROUBLE_HOST_OVERSIZE = 1 ∧ t.blk.outs = s.blk.outs ∧
      s.Keeps t (R.CUS_TROUBLE_HOST_OVERSIZE :: recordFields) [.records]) ∧
  (∀ (s : State) (c p : Nat) (ch : Channel) (l : List (Nat × List Byte)), c ≠ 0xFFFF → ch = s.blk.cus c → ch.port = some p →
      s.blk.msPassed ch.ackTick s.blk.hostRto = true →
      s.blk.portUp p = true → l = ch.inJ.filter (fun m => !serialAbove 32 m.1 ch.hostSent) → (∀ m ∈ l, m.2.length ≤ s.blk.portLimit p) →
    ∃ t, exec (.hostRetransmit c) s = .next t ∧
      t.blk.outs = s.blk.outs ++ l.map (fun m =>
        .host p (s.blk.ownAddr (p / 4 % 4)) (s.blk.service (p / 4 % 4)) (runudom 1 3 c m.1 ch.accepted ch.credit m.2.length (s.blk.get
        R.CUS_EPOCH) ++ m.2)) ∧
      t.blk.get R.CUS_HOST_RETX_COUNT = (s.blk.get R.CUS_HOST_RETX_COUNT + l.length) % 2 ^ R.CUS_HOST_RETX_COUNT.width ∧
      (t.blk.cus c).ackTick = s.blk.tick ∧ s.Keeps t [R.CUS_HOST_RETX_COUNT, R.CUS_WINDOW_USED] [.custody, .outs]) ∧
  (∀ (s : State) (c : Nat), s.blk.msPassed (if c = 0xFFFF then s.blk.custody.regc.ackTick else (s.blk.cus c).ackTick) s.blk.hostRto
        = false →
    ∃ t, exec (.hostRetransmit c) s = .next t ∧ s.Keeps t [] []) ∧
  (∀ (s : State) (p : Nat) (l : List (Nat × Nat × List Byte)), s.blk.custody.regc.port = some p → s.blk.portUp p = true →
      s.blk.msPassed s.blk.custody.regc.ackTick s.blk.hostRto = true →
      l = s.blk.custody.regc.replies.filter (fun r => serialAbove 32 r.2.1 s.blk.custody.regc.acked) →
      (∀ r ∈ l, r.2.2.length ≤ s.blk.portLimit p) →
    ∃ t, exec (.hostRetransmit 0xFFFF) s = .next t ∧
      t.blk.outs = s.blk.outs ++ l.map (fun r => .host p (s.blk.ownAddr (p / 4 % 4)) (s.blk.service (p / 4 % 4)) (runudom 8 1 0xFFFF r.2.1
      s.blk.custody.regc.accepted 0 r.2.2.length
        (s.blk.get R.CUS_EPOCH) ++ r.2.2)) ∧
      t.blk.custody = { s.blk.custody with regc := { s.blk.custody.regc with ackTick := s.blk.tick } } ∧
      t.blk.get R.CUS_HOST_RETX_COUNT = (s.blk.get R.CUS_HOST_RETX_COUNT + l.length) % 2 ^ R.CUS_HOST_RETX_COUNT.width ∧
      s.Keeps t [R.CUS_HOST_RETX_COUNT] [.custody, .outs]) ∧
  (∀ (s : State) (stream i n p : Nat) (x : Packet) (l : List Packet),
      (List.range (leAt s.blk.cusSeg 0x0A 1)).find? (fun i => leAt s.blk.cusSeg (0x40 + 32 * leAt s.blk.cusSeg 8 2 + 8 * i + 2) 1 == stream)
        = some i → n = leAt s.blk.cusSeg (0x40 + 32 * leAt s.blk.cusSeg 8 2 + 8 * i) 2 → (s.blk.q n).pkts = x :: l →
      s.blk.custody.resyncPort = some p → s.blk.portUp p = true → x.data.length ≤ s.blk.portLimit p →
    ∃ t m, exec (.streamTx stream) s = .next t ∧ (t.blk.q n).pkts = l ∧
      t.blk.outs = s.blk.outs ++ [.host p (s.blk.ownAddr (p / 4 % 4)) (s.blk.service (p / 4 % 4)) m] ∧
      leAt m 0 1 = 0x19 ∧ m.drop 24 = x.data ∧ (∀ k, k ≠ n → t.blk.q k = s.blk.q k) ∧
      s.Keeps t [] [.custody, .outs, .queues, .records])

/-- R361–R364, R369–R371: line custody takes each message once and in order, receipts it, releases what is receipted and resends the rest
after a timeout; after power-on the newest flush slot is restored once. It is stated of each of these commands that it answers a next
state: custodyDataRx, receiptTx, custodyReceiptRx, e2eTimeout, reassemblyTimeout, custodyRestore, flushSlotErased. -/
def Obligations.CustodyFrames : Prop :=
  (∀ (s : State) (k c : Nat) (f : List Byte) (ch : Channel), s.blk.running = true →
      s.blk.custody.inbox.find? (fun e => leAt e.2 2 1 == 1) = some (k, f) → c = leAt f 0 2 → ch = s.blk.cus c → ch.present = true →
      serialAbove 32 (leAt f 4 4) ch.journalled = false →
    ∃ t r, exec .custodyDataRx s = .next t ∧ t.blk.mac.order = s.blk.mac.order ++ [r] ∧ (groupAddr ch.peer = false → r.final = ch.peer) ∧
      (t.blk.cus c).inJ = ch.inJ ∧ t.blk.get R.CUS_LINE_DUP_COUNT = (s.blk.get R.CUS_LINE_DUP_COUNT + 1) % 2 ^ R.CUS_LINE_DUP_COUNT.width ∧
      s.Keeps t [R.CUS_LINE_DUP_COUNT, R.CUS_WINDOW_USED] [.custody, .mac]) ∧
  (∀ (s : State) (k c : Nat) (f : List Byte) (ch : Channel), s.blk.running = true →
      s.blk.custody.inbox.find? (fun e => leAt e.2 2 1 == 1) = some (k, f) → c = leAt f 0 2 → ch = s.blk.cus c → ch.present = true →
      serialAbove 32 (leAt f 4 4) ch.journalled = true → leAt f 4 4 ≠ (ch.journalled + 1) % 2 ^ 32 ∨
        leAt f 3 1 % 16 ≠ (match ch.part with | some p => p.next | none => 0) →
    ∃ t r, exec .custodyDataRx s = .next t ∧ t.blk.mac.order = s.blk.mac.order ++ [r] ∧ (groupAddr ch.peer = false → r.final = ch.peer) ∧
      (t.blk.cus c).inJ = ch.inJ ∧
      t.blk.get R.CUS_LINE_GAP_COUNT = (s.blk.get R.CUS_LINE_GAP_COUNT + 1) % 2 ^ R.CUS_LINE_GAP_COUNT.width ∧
      s.Keeps t [R.CUS_LINE_GAP_COUNT, R.CUS_WINDOW_USED] [.custody, .mac]) ∧
  (∀ (s : State) (k c : Nat) (f : List Byte) (ch : Channel), s.blk.running = true →
      s.blk.custody.inbox.find? (fun e => leAt e.2 2 1 == 1) = some (k, f) → c = leAt f 0 2 → ch = s.blk.cus c → ch.present = true →
      serialAbove 32 (leAt f 4 4) ch.journalled = true → leAt f 4 4 = (ch.journalled + 1) % 2 ^ 32 →
      leAt f 3 1 % 16 = (match ch.part with | some p => p.next | none => 0) →
      ch.rxWindow = 0 ∨ ch.rxWindow - ch.rxUsed < msgCost (leAt f 8 2) →
    ∃ t r, exec .custodyDataRx s = .next t ∧ t.blk.mac.order = s.blk.mac.order ++ [r] ∧ (groupAddr ch.peer = false → r.final = ch.peer) ∧
      (t.blk.cus c).inJ = ch.inJ ∧ (t.blk.cus c).part = ch.part ∧
      t.blk.get R.CUS_LINE_REFUSED_COUNT = (s.blk.get R.CUS_LINE_REFUSED_COUNT + 1) % 2 ^ R.CUS_LINE_REFUSED_COUNT.width ∧
      s.Keeps t [R.CUS_LINE_REFUSED_COUNT, R.CUS_WINDOW_USED] [.custody, .mac]) ∧
  (∀ (s : State) (k c i j : Nat) (f old : List Byte) (ch : Channel), s.blk.running = true →
      s.blk.custody.inbox.find? (fun e => leAt e.2 2 1 == 1) = some (k, f) → c = leAt f 0 2 → ch = s.blk.cus c → ch.present = true →
      serialAbove 32 (leAt f 4 4) ch.journalled = true → leAt f 4 4 = (ch.journalled + 1) % 2 ^ 32 →
      i = leAt f 3 1 % 16 → j = leAt f 3 1 / 16 → i ≠ j → i = (match ch.part with | some p => p.next | none => 0) →
      old = (match ch.part with | some p => p.data | none => []) →
      ch.rxWindow ≠ 0 → msgCost (leAt f 8 2) ≤ ch.rxWindow - ch.rxUsed →
    ∃ t, exec .custodyDataRx s = .next t ∧
      t.blk.cus c = { ch with part := some ⟨leAt f 4 4, leAt f 8 2, j, i + 1, old ++ f.drop 16, s.blk.tick⟩ } ∧
      s.Keeps t [R.CUS_WINDOW_USED] [.custody]) ∧
  (∀ (s : State) (k c : Nat) (f : List Byte) (ch : Channel) (p : Partial), s.blk.running = true →
      s.blk.custody.inbox.find? (fun e => leAt e.2 2 1 == 1) = some (k, f) → c = leAt f 0 2 → ch = s.blk.cus c → ch.present = true →
      serialAbove 32 (leAt f 4 4) ch.journalled = true → leAt f 4 4 = (ch.journalled + 1) % 2 ^ 32 → ch.part = some p →
      leAt f 3 1 % 16 = p.next → leAt f 3 1 / 16 = p.next →
      s.blk.openOf (ctxCustody c) = none → ch.rxWindow ≠ 0 → msgCost (leAt f 8 2) ≤ ch.rxWindow - ch.rxUsed →
    ∃ t, exec .custodyDataRx s = .next t ∧ (t.blk.cus c).journalled = leAt f 4 4 ∧ (t.blk.cus c).part = none ∧
      (t.blk.cus c).inJ = ch.inJ ++ [(leAt f 4 4, p.data ++ f.drop 16)] ∧
      s.Keeps t ([R.CUS_WINDOW_USED, R.QMG_REFILL_REFUSED_COUNT, R.QMG_TROUBLE_REFILL_REFUSED] ++ recordFields)
        [.custody, .mac, .queues, .records]) ∧
  (∀ (s : State) (k c : Nat) (f : List Byte) (ch : Channel), s.blk.running = true →
      s.blk.custody.inbox.find? (fun e => leAt e.2 2 1 == 1) = some (k, f) → c = leAt f 0 2 → ch = s.blk.cus c → ch.present = true →
      serialAbove 32 (leAt f 4 4) ch.journalled = true → leAt f 4 4 = (ch.journalled + 1) % 2 ^ 32 → leAt f 3 1 = 0 →
      s.blk.openOf (ctxCustody c) = none → ch.part = none → ch.rxWindow ≠ 0 → msgCost (leAt f 8 2) ≤ ch.rxWindow - ch.rxUsed →
    ∃ t, exec .custodyDataRx s = .next t ∧ (t.blk.cus c).journalled = leAt f 4 4 ∧
      (t.blk.cus c).inJ = ch.inJ ++ [(leAt f 4 4, f.drop 16)] ∧
      s.Keeps t ([R.CUS_WINDOW_USED, R.QMG_REFILL_REFUSED_COUNT, R.QMG_TROUBLE_REFILL_REFUSED] ++ recordFields)
        [.custody, .mac, .queues, .records]) ∧
  (∀ (s : State) (c : Nat) (ch : Channel), s.blk.running = true → ch = s.blk.cus c → ch.present = true → ch.receiptDue = true →
    ∃ t r, exec (.receiptTx c) s = .next t ∧ t.blk.mac.order = s.blk.mac.order ++ [r] ∧ (groupAddr ch.peer = false → r.final = ch.peer) ∧
      (t.blk.cus c).receiptDue = false ∧ s.Keeps t [R.CUS_WINDOW_USED] [.custody, .mac]) ∧
  (∀ (s : State) (k c : Nat) (f : List Byte) (ch : Channel), s.blk.running = true →
      s.blk.custody.inbox.find? (fun e => leAt e.2 2 1 == 2) = some (k, f) → c = leAt f 0 2 → ch = s.blk.cus c → ch.present = true →
      serialAbove 32 (leAt f 4 4) ch.peerSeq = true → serialAbove 32 (leAt f 4 4) ch.receipted = true →
    ∃ t, exec .custodyReceiptRx s = .next t ∧ (t.blk.cus c).receipted = leAt f 4 4 ∧ (t.blk.cus c).peerSeq = leAt f 4 4 ∧
      (t.blk.cus c).peerCredit = leAt f 12 4 ∧ (t.blk.cus c).outJ = ch.outJ.filter (fun m => serialAbove 32 m.1 (leAt f 4 4)) ∧
      (t.blk.cus c).receiptTick = s.blk.tick ∧ (s.blk.ackHold ≠ 0 → (t.blk.cus c).deliveredDue = true) ∧
      s.Keeps t [R.CUS_WINDOW_USED] [.custody, .mac, .outs]) ∧
  (∀ (s : State) (k c : Nat) (f : List Byte) (ch : Channel), s.blk.running = true →
      s.blk.custody.inbox.find? (fun e => leAt e.2 2 1 == 2) = some (k, f) → c = leAt f 0 2 → ch = s.blk.cus c → ch.present = true →
      leAt f 4 4 = ch.peerSeq → serialAbove 32 (leAt f 4 4) ch.peerSeq = false → serialAbove 32 (leAt f 4 4) ch.receipted = false →
    ∃ t, exec .custodyReceiptRx s = .next t ∧ (t.blk.cus c).peerCredit = max ch.peerCredit (leAt f 12 4) ∧
      (t.blk.cus c).outJ = ch.outJ ∧ s.Keeps t [R.CUS_WINDOW_USED] [.custody, .mac]) ∧
  (∀ (s : State) (c : Nat), s.blk.running = true → (s.blk.cus c).outJ ≠ [] →
      s.blk.msPassed (s.blk.cus c).receiptTick (leAt s.blk.cusSeg 0x10 2) = true → s.blk.openOf (ctxCustody c) = none →
    ∃ t, exec (.e2eTimeout c) s = .next t ∧ (t.blk.cus c).outJ = (s.blk.cus c).outJ ∧ t.blk.get R.CUS_TROUBLE_E2E_RESEND = 1 ∧
      t.blk.get R.CUS_E2E_RESEND_COUNT =
        (s.blk.get R.CUS_E2E_RESEND_COUNT + (s.blk.cus c).outJ.length) % 2 ^ R.CUS_E2E_RESEND_COUNT.width ∧
      s.Keeps t ([R.CUS_WINDOW_USED, R.CUS_E2E_RESEND_COUNT, R.CUS_TROUBLE_E2E_RESEND, R.QMG_REFILL_REFUSED_COUNT,
        R.QMG_TROUBLE_REFILL_REFUSED] ++ recordFields) [.custody, .mac, .queues, .records]) ∧
  (∀ (s : State) (c : Nat), s.blk.running = true → (s.blk.cus c).outJ = [] ∨
        s.blk.msPassed (s.blk.cus c).receiptTick (leAt s.blk.cusSeg 0x10 2) = false →
    ∃ t, exec (.e2eTimeout c) s = .next t ∧ s.Keeps t [] []) ∧
  (∀ (s : State) (c : Nat) (p : Partial), s.blk.running = true → (s.blk.cus c).part = some p →
      s.blk.msPassed p.tick (leAt s.blk.cusSeg 0x14 2) = false →
    ∃ t, exec (.reassemblyTimeout c) s = .next t ∧ s.Keeps t [] []) ∧
  (∀ (s : State) (c : Nat) (p : Partial), s.blk.running = true → (s.blk.cus c).part = some p →
      s.blk.msPassed p.tick (leAt s.blk.cusSeg 0x14 2) = true →
    ∃ t, exec (.reassemblyTimeout c) s = .next t ∧ (t.blk.cus c).part = none ∧ t.blk.get R.CUS_TROUBLE_REASM_DROP = 1 ∧
      s.Keeps t ([R.CUS_WINDOW_USED, R.CUS_REASM_DROP_COUNT, R.CUS_TROUBLE_REASM_DROP] ++ recordFields) [.custody, .records]) ∧
  (∀ (s : State) (ok : Bool), s.blk.mode = 3 → s.blk.custody.restoreDue = true → s.blk.get R.QMG_STAT_BULK_READY = 1 →
      s.blk.custody.slots = [none, none] → s.blk.custody.everInForce = false →
    ∃ t, exec (.custodyRestore ok) s = .next t ∧ t.blk.custody.restoreDue = false ∧ t.blk.get R.CUS_STAT_ACCEPT_READY = 1 ∧
      t.blk.get R.CUS_STAT_RESTORE_BUSY = 0 ∧ s.Keeps t [R.CUS_STAT_RESTORE_BUSY, R.CUS_STAT_ACCEPT_READY] [.custody]) ∧
  (∀ (s : State) (ok : Bool), s.blk.mode = 3 → s.blk.custody.restoreDue = true → s.blk.get R.QMG_STAT_BULK_READY = 1 →
      s.blk.custody.slots = [none, none] → s.blk.custody.everInForce = true →
    ∃ t, exec (.custodyRestore ok) s = .next t ∧ t.blk.custody.restoreDue = false ∧ t.blk.get R.CUS_TROUBLE_FLUSH_FAIL = 1 ∧
      t.blk.get R.CUS_STAT_ACCEPT_READY = 1 ∧ t.blk.get R.CUS_STAT_RESTORE_BUSY = 0 ∧
      s.Keeps t ([R.CUS_STAT_RESTORE_BUSY, R.CUS_STAT_ACCEPT_READY, R.CUS_TROUBLE_FLUSH_FAIL] ++ recordFields)
        [.custody, .records]) ∧
  (∀ (s : State) (ok : Bool) (x : FlushSlot), s.blk.mode = 3 → s.blk.custody.restoreDue = true →
      s.blk.get R.QMG_STAT_BULK_READY = 1 → s.blk.custody.slots = [some x, none] → x.complete = true → x.consumed = false →
    ∃ t, exec (.custodyRestore ok) s = .next t ∧ t.blk.custody.restoreDue = false ∧ t.blk.get R.CUS_STAT_RESTORED = 1 ∧
      t.blk.custody.slots = [some { x with consumed := true }, none] ∧ t.blk.get R.CUS_STAT_ACCEPT_READY = 1 ∧
      (ok = false → t.blk.get R.CUS_TROUBLE_RESTORE_FAIL = 1) ∧ (ok = true → t.blk.get R.PWR_RESET_CAUSE = 1) ∧
      (∀ c, (s.blk.cus c).present = true → (s.blk.cus c).record = (Tab.get {} x.chans c).record →
        (t.blk.cus c).accepted = (Tab.get {} x.chans c).accepted ∧ (t.blk.cus c).journalled = (Tab.get {} x.chans c).journalled ∧
        (t.blk.cus c).hostAcked = (Tab.get {} x.chans c).hostAcked ∧ (t.blk.cus c).receipted = (Tab.get {} x.chans c).receipted ∧
        (ok = true → (t.blk.cus c).outJ = (Tab.get {} x.chans c).outJ ∧ (t.blk.cus c).inJ = (Tab.get {} x.chans c).inJ) ∧
        (ok = false → (t.blk.cus c).empty = true)) ∧
      s.Keeps t ([R.CUS_STAT_RESTORED, R.CUS_STAT_RESTORE_BUSY, R.CUS_STAT_ACCEPT_READY, R.CUS_WINDOW_USED, R.CUS_TROUBLE_RESTORE_FAIL,
          R.CUS_TROUBLE_CHANNEL_DISCARD, R.CUS_DISCARD_COUNT, R.PWR_RESET_CAUSE, R.PWR_TROUBLE_RATION_DELAY,
          R.PWR_TROUBLE_MODE_REFUSED, R.PWR_TROUBLE_OVER_TEMP, R.PWR_TROUBLE_VAUX_OVERLOAD, R.PWR_TROUBLE_WDT_RESET,
          R.SPR_TROUBLE_MAINS_LOSS, R.SPR_TROUBLE_L2_LOST, R.SPR_TROUBLE_L3_LOST, R.SPR_TROUBLE_FREQ_OUT, R.SPR_TROUBLE_CROSSING_REJECT,
          R.QMG_REWIND_COUNT, R.QMG_REFILL_REFUSED_COUNT, R.QMG_TROUBLE_REFILL_REFUSED] ++ recordFields)
        [.custody, .mac, .queues, .records]) ∧
  (∀ (s : State) (x y : FlushSlot), s.blk.running = true → s.blk.custody.slots = [some x, some y] → x.complete = true →
      y.seq ≤ x.seq → s.blk.get R.CUS_STAT_RESTORE_BUSY = 0 →
    ∃ t, exec .flushSlotErased s = .next t ∧ t.blk.custody.slots = [some x, none] ∧ t.blk.get R.CUS_STAT_ACCEPT_READY = 1 ∧
      s.Keeps t [R.CUS_STAT_ACCEPT_READY] [.custody]) ∧
  (∀ (s : State) (x y : FlushSlot), s.blk.running = true → s.blk.custody.slots = [some x, some y] → y.complete = true →
      x.seq < y.seq → s.blk.get R.CUS_STAT_RESTORE_BUSY = 0 →
    ∃ t, exec .flushSlotErased s = .next t ∧ t.blk.custody.slots = [none, some y] ∧ t.blk.get R.CUS_STAT_ACCEPT_READY = 1 ∧
      s.Keeps t [R.CUS_STAT_ACCEPT_READY] [.custody])

/-- R389–R398, R402, R404: a scan begins with the lowest enabled channel under its control of now; each sample is written once its last
conversion has ended, and the next channel begins; an overrange conversion ends its sample, the range steps under AUTO, the burnout and
compliance comparators make a sample OPEN; clamps and tone checks are counted and shown; RESTART_SCAN waits for the next tick boundary.
STAMP and RAW of the sample that a compliance trip writes are free values (assumption 136). It is stated of each of these commands that it
answers a next state: scanStart, sampleComplete, complianceTrip, clampOnset, clampEnd, impCheckDue, senCmdNop, senCmdImpCheck,
senCmdRestartScan. -/
def Obligations.SensorScans : Prop :=
  (∀ (s : State) (c : Nat) (l : List Nat) (u : SensorUnit), s.blk.converting = true → s.blk.enabledFrom 0 = c :: l → u = s.blk.sensor →
      u.restart = true ∨ (s.blk.get R.SEN_STAT_SCANNING = 0 ∧ s.blk.scanDue = true) → s.blk.dueCheck c false = none →
    ∃ t, exec .scanStart s = .next t ∧ t.blk.get R.SEN_STAT_SCANNING = 1 ∧
      t.blk.sensor = { u with scanTick := some s.blk.tick, restart := false, chan := some c, begin := s.blk.tick,
                              clamped := (s.blk.get R.SEN_STAT_CLAMP).testBit c, range := s.blk.get (R.SEN_CH_CTRL_RANGE c),
                              rate := s.blk.get (R.SEN_CH_CTRL_RATE c), avg := s.blk.get (R.SEN_CH_CTRL_AVG c),
                              settle := s.blk.get (R.SEN_CH_CTRL_SETTLE c), auto := s.blk.flag (R.SEN_CH_CTRL_AUTO c),
                              burnout := s.blk.flag (R.SEN_CH_CTRL_BURNOUT c), written := false } ∧
      s.Keeps t [R.SEN_STAT_SCANNING] [.sensor]) ∧
  (∀ (s : State) (c imp : Nat), s.blk.converting = true → s.blk.enabledFrom 0 = [c] → c < 8 →
      s.blk.sensor.restart = true ∨ (s.blk.get R.SEN_STAT_SCANNING = 0 ∧ s.blk.scanDue = true) →
      s.blk.dueCheck c false = some (c, imp, false) →
    ∃ t, exec .scanStart s = .next t ∧ t.blk.get R.SEN_STAT_SCANNING = 0 ∧ t.blk.sensor.chan = none ∧
      t.blk.get (R.SEN_IMP c) = min imp 0xFFFF ∧
      t.blk.get R.SEN_SCAN_TIME = settleTicks (s.blk.get (R.SEN_CH_CTRL_SETTLE c)) + 103 ∧
      t.blk.get R.SEN_IMP_CHECK_COUNT = (s.blk.get R.SEN_IMP_CHECK_COUNT + 1) % 2 ^ R.SEN_IMP_CHECK_COUNT.width ∧
      s.Keeps t ([R.SEN_STAT_SCANNING, R.SEN_SCAN_TIME] ++ toneFields [c]) [.sensor, .records]) ∧
  (∀ s : State, s.blk.running = true → s.blk.sensor.restart = false → s.blk.get R.SEN_STAT_SCANNING = 1 ∨ s.blk.scanDue = false →
    ∃ t, exec .scanStart s = .next t ∧ s.Keeps t [] []) ∧
  (∀ (s : State) (c n k : Nat) (r : SampleReport), s.blk.converting = true → s.blk.sensor.chan = some c → c < 8 →
      s.blk.sensor.checks = [] → s.blk.readings c r = some n → k = ceilDiv (s.blk.convSpan c n (r.codes.getD (n - 1) 0)) 40 →
      s.blk.firstConv + k ≤ s.blk.tick →
    ∃ t, exec (.sampleComplete r) s = .next t ∧
      t.blk.get R.SEN_SAMPLE_COUNT = (s.blk.get R.SEN_SAMPLE_COUNT + 1) % 2 ^ R.SEN_SAMPLE_COUNT.width ∧
      t.blk.sensor.chan = (s.blk.enabledFrom (c + 1)).head? ∧ (s.blk.enabledFrom (c + 1) = [] → t.blk.get R.SEN_STAT_SCANNING = 0) ∧
      (s.blk.enabledFrom (c + 1) ≠ [] → t.blk.sensor.begin = s.blk.firstConv + k) ∧
      s.Keeps t (sampleFields c) [.sensor, .time, .freeCtr, .queues, .records]) ∧
  (∀ (s : State) (c n : Nat) (r : SampleReport), s.blk.running = true → s.blk.sensor.chan = some c → s.blk.readings c r = some n →
      s.blk.tick < s.blk.firstConv + ceilDiv (s.blk.convSpan c n (r.codes.getD (n - 1) 0)) 40 →
    ∃ t, exec (.sampleComplete r) s = .next t ∧ s.Keeps t [] []) ∧
  (∀ (s : State) (c span : Nat) (x v : Int) (l : List Int), s.blk.converting = true → s.blk.sensor.chan = some c → c < 8 →
      s.blk.sensor.checks = [] → s.blk.get (R.SEN_CH_CFG_KIND c) = 1 → s.blk.sensor.avg ≤ 1 →
      s.blk.sensor.impOpen.testBit c = false → -8388607 < x → x < 8388607 → x * fullScale s.blk.sensor.range = 8388608 * v →
      span = convUs s.blk.sensor.rate → s.blk.firstConv + ceilDiv span 40 ≤ s.blk.tick →
    ∃ t, exec (.sampleComplete ⟨[x], l, false⟩) s = .next t ∧
      t.blk.get (R.SEN_LAST c) =
        leNum (sampleRecord (s.blk.centre span) c (s.blk.sampleFlags c) s.blk.sensor.range 1 v x) ∧
      t.blk.sensor.tripOpen.testBit c = false) ∧
  (∀ (s : State) (c span : Nat) (x : Int) (l : List Int), s.blk.converting = true → s.blk.sensor.chan = some c → c < 8 →
      s.blk.sensor.checks = [] → s.blk.get (R.SEN_CH_CFG_KIND c) = 1 → s.blk.sensor.impOpen.testBit c = false →
      8388607 ≤ x ∨ x ≤ -8388607 → span = convUs s.blk.sensor.rate → s.blk.firstConv + ceilDiv span 40 ≤ s.blk.tick →
    ∃ t, exec (.sampleComplete ⟨[x], l, false⟩) s = .next t ∧ t.blk.bit R.SEN_TROUBLE_OVERRANGE_SEEN c = true ∧
      t.blk.get R.SEN_OVERRANGE_COUNT = (s.blk.get R.SEN_OVERRANGE_COUNT + 1) % 2 ^ R.SEN_OVERRANGE_COUNT.width ∧
      t.blk.get (R.SEN_LAST c) / 2 ^ 104 % 256 = s.blk.sampleFlags c + 34 ∧ t.blk.get (R.SEN_LAST c) / 2 ^ 120 % 256 = 1 ∧
      (s.blk.sensor.auto = true → s.blk.sensor.written = false → s.blk.sensor.range < 4 →
        t.blk.get (R.SEN_CH_CTRL_RANGE c) = s.blk.sensor.range + 1 ∧
        t.blk.get R.SEN_RANGE_CHANGE_COUNT = (s.blk.get R.SEN_RANGE_CHANGE_COUNT + 1) % 2 ^ R.SEN_RANGE_CHANGE_COUNT.width) ∧
      (s.blk.sensor.auto = false → t.blk.get (R.SEN_CH_CTRL_RANGE c) = s.blk.get (R.SEN_CH_CTRL_RANGE c))) ∧
  (∀ (s : State) (c n : Nat) (r : SampleReport), s.blk.converting = true → s.blk.sensor.chan = some c → c < 8 →
      s.blk.sensor.checks = [] → s.blk.readings c r = some n → r.burnout = true → s.blk.sensor.burnout = true →
      s.blk.firstConv + ceilDiv (s.blk.convSpan c n (r.codes.getD (n - 1) 0)) 40 ≤ s.blk.tick →
    ∃ t, exec (.sampleComplete r) s = .next t ∧ t.blk.sensor.tripOpen.testBit c = true ∧ t.blk.bit R.SEN_STAT_OPEN c = true ∧
      t.blk.bit R.SEN_TROUBLE_OPEN_SEEN c = true ∧ (t.blk.get (R.SEN_LAST c) / 2 ^ 104).testBit 0 = true ∧
      (t.blk.get (R.SEN_LAST c) / 2 ^ 104).testBit 1 = false ∧ t.blk.get (R.SEN_LAST c) / 2 ^ 128 % 2 ^ 32 = 0x80000000) ∧
  (∀ (s : State) (c : Nat), s.blk.converting = true → s.blk.sensor.chan = some c → c < 8 → s.blk.sensor.checks = [] →
      s.blk.get (R.SEN_CH_CFG_EXC c) ≠ 0 →
    ∃ t, exec (.complianceTrip c) s = .next t ∧ t.blk.sensor.tripOpen.testBit c = true ∧ t.blk.bit R.SEN_STAT_OPEN c = true ∧
      t.blk.bit R.SEN_TROUBLE_OPEN_SEEN c = true ∧ t.blk.sensor.chan = (s.blk.enabledFrom (c + 1)).head? ∧
      t.blk.get R.SEN_SAMPLE_COUNT = (s.blk.get R.SEN_SAMPLE_COUNT + 1) % 2 ^ R.SEN_SAMPLE_COUNT.width ∧
      (t.blk.get (R.SEN_LAST c) / 2 ^ 104).testBit 0 = true ∧ t.blk.get (R.SEN_LAST c) / 2 ^ 120 % 256 = 0 ∧
      t.blk.get (R.SEN_LAST c) / 2 ^ 128 % 2 ^ 32 = 0x80000000 ∧
      (s.blk.enabledFrom (c + 1) ≠ [] → t.blk.sensor.begin = s.blk.tick + 1) ∧
      s.Keeps t (sampleFields c) [.sensor, .time, .freeCtr, .queues, .records]) ∧
  (∀ (s : State) (c : Nat), s.blk.sensor.chan ≠ some c → ∃ t, exec (.complianceTrip c) s = .next t ∧ s.Keeps t [] []) ∧
  (∀ (s : State) (c : Nat), s.blk.running = true → c < 8 →
    ∃ t, exec (.clampOnset c) s = .next t ∧ t.blk.bit R.SEN_STAT_CLAMP c = true ∧ t.blk.bit R.SEN_TROUBLE_CLAMP_SEEN c = true ∧
      (s.blk.sensor.chan = some c → t.blk.sensor.clamped = true) ∧
      t.blk.get R.SEN_CLAMP_COUNT =
        (s.blk.get R.SEN_CLAMP_COUNT + (if s.blk.bit R.SEN_TROUBLE_CLAMP_SEEN c then 0 else 1)) % 2 ^ R.SEN_CLAMP_COUNT.width ∧
      s.Keeps t ([R.SEN_STAT_CLAMP, R.SEN_CLAMP_COUNT, R.SEN_TROUBLE_CLAMP_SEEN] ++ recordFields) [.sensor, .records]) ∧
  (∀ (s : State) (c : Nat), s.blk.running = true → c < 8 →
    ∃ t, exec (.clampEnd c) s = .next t ∧ t.blk.bit R.SEN_STAT_CLAMP c = false ∧
      (∀ i, i < 8 → i ≠ c → t.blk.bit R.SEN_STAT_CLAMP i = s.blk.bit R.SEN_STAT_CLAMP i) ∧ s.Keeps t [R.SEN_STAT_CLAMP] []) ∧
  (∀ (s : State) (imps : List Nat), s.blk.get R.SEN_IMP_PERIOD ≠ 0 → s.blk.converting = true → s.blk.sensor.chan = none →
      (∀ t, s.blk.sensor.impTick = some t → t + 2500 * s.blk.get R.SEN_IMP_PERIOD ≤ s.blk.tick) →
    ∃ t, exec (.impCheckDue imps) s = .next t ∧ t.blk.sensor.impTick = some s.blk.tick ∧
      t.blk.get R.SEN_IMP_CHECK_COUNT =
        (s.blk.get R.SEN_IMP_CHECK_COUNT + (s.blk.enabledFrom 0).length) % 2 ^ R.SEN_IMP_CHECK_COUNT.width ∧
      (∀ c ∈ s.blk.enabledFrom 0, t.blk.get (R.SEN_IMP c) = min (imps.getD c 0xFFFF) 0xFFFF) ∧
      s.Keeps t (toneFields (s.blk.enabledFrom 0)) [.sensor, .records]) ∧
  (∀ (s : State) (d : Nat) (imps : List Nat), s.blk.get R.SEN_IMP_PERIOD ≠ 0 → s.blk.converting = true → s.blk.sensor.chan = some d →
      (∀ t, s.blk.sensor.impTick = some t → t + 2500 * s.blk.get R.SEN_IMP_PERIOD ≤ s.blk.tick) →
    ∃ t, exec (.impCheckDue imps) s = .next t ∧
      t.blk.sensor = { s.blk.sensor with
        impTick := some s.blk.tick,
        checks := s.blk.sensor.checks ++ (s.blk.enabledFrom 0).map (fun c => (c, imps.getD c 0xFFFF, false)) } ∧
      s.Keeps t [] [.sensor]) ∧
  (∀ (s : State) (t0 : Nat) (imps : List Nat), s.blk.running = true → s.blk.sensor.impTick = some t0 →
      s.blk.tick < t0 + 2500 * s.blk.get R.SEN_IMP_PERIOD →
    ∃ t, exec (.impCheckDue imps) s = .next t ∧ s.Keeps t [] []) ∧
  (∀ (s : State),
    ∃ t, exec .senCmdNop s = .next t ∧ s.Keeps t [] []) ∧
  (∀ (s : State) (c imp : Nat), s.blk.converting = true → c < 8 → s.blk.get (R.SEN_CH_CFG_KIND c) ≠ 0 → s.blk.sensor.chan = none →
    ∃ t, exec (.senCmdImpCheck c imp) s = .next t ∧ t.blk.get (R.SEN_IMP c) = min imp 0xFFFF ∧
      (s.blk.chan c 10 2 ≠ 0 → s.blk.chan c 10 2 < imp → t.blk.bit R.SEN_STAT_OPEN c = true) ∧
      (s.blk.chan c 12 2 ≠ 0 → s.blk.chan c 12 2 < imp → imp ≤ s.blk.chan c 10 2 ∨ s.blk.chan c 10 2 = 0 →
        t.blk.bit R.SEN_STAT_IMP_FAIL c = true) ∧
      t.blk.get R.SEN_IMP_CHECK_COUNT = (s.blk.get R.SEN_IMP_CHECK_COUNT + 1) % 2 ^ R.SEN_IMP_CHECK_COUNT.width ∧
      s.Keeps t (toneFields [c]) [.sensor, .records]) ∧
  (∀ (s : State) (c imp d : Nat), s.blk.converting = true → c < 8 → s.blk.get (R.SEN_CH_CFG_KIND c) ≠ 0 → s.blk.sensor.chan = some d →
    ∃ t, exec (.senCmdImpCheck c imp) s = .next t ∧ t.blk.sensor.checks = s.blk.sensor.checks ++ [(c, imp, false)] ∧
      s.Keeps t [] [.sensor]) ∧
  (∀ (s : State) (c imp : Nat), 4 ≤ s.blk.mode → s.blk.reachable = true → c < 8 → s.blk.get (R.SEN_CH_CFG_KIND c) ≠ 0 →
      s.blk.get R.SEN_STAT_STALE = 1 →
    ∃ t, exec (.senCmdImpCheck c imp) s = .next t ∧ t.blk.sensor.checks = s.blk.sensor.checks ++ [(c, imp, true)] ∧
      s.Keeps t [] [.sensor]) ∧
  (∀ s : State, s.blk.reachable = true →
    ∃ t, exec .senCmdRestartScan s = .next t ∧ t.blk.sensor.restart = true ∧ s.Keeps t [] [.sensor])

/-- R407–R413, R417, R421: a received character is sampled and goes to the holding register or the open packet, with its flags; a BREAK
suppresses the receiver; idle line and age close the packet; reading SER_DATA frees the register; in M9 a character wakes the node. It is
stated of each of these commands that it answers a next state: characterReceived, lineStuck, suppressionEnd, lineIdle, packetAgeExpiry,
serDataRead, serialWake. -/
def Obligations.SerialReception : Prop :=
  (∀ (s : State) (k : Nat) (r : CharReport) (f : SerFormat) (e : Nat), s.blk.serial.length = 2 → takesChar s.blk k r f →
      s.blk.serRxQ k = false → (s.blk.ser k).hold = none → r.glitch f = false → f.data ≤ 9 →
      e = (s.blk.ser k).tag (f.decode r false) →
    ∃ t, exec (.characterReceived k r) s = .next t ∧ (t.blk.ser k).hold = some e ∧ t.blk.get (R.SER_STAT_RX_FULL k) = 1 ∧
      (∀ i, i < f.data → e.testBit i = r.bit f.sync (i + (if f.sync then 0 else 1))) ∧
      (e.testBit 13 = (s.blk.ser k).lost) ∧ (t.blk.ser k).lost = false ∧
      t.blk.get (R.SER_RX_CHAR_COUNT k) = (s.blk.get (R.SER_RX_CHAR_COUNT k) + 1) % 2 ^ 64 ∧ t.blk.get (R.SER_STAT_IDLE k) = 0 ∧
      t.blk.get (R.SER_STAT_FE k) = (if e.testBit 10 then 1 else s.blk.get (R.SER_STAT_FE k)) ∧
      t.blk.get (R.SER_STAT_PE k) = (if e.testBit 9 then 1 else s.blk.get (R.SER_STAT_PE k)) ∧
      t.blk.get (R.SER_STAT_SUPPRESSED k) = (if e.testBit 11 then 1 else 0) ∧ s.Keeps t (charFields k) [.serial]) ∧
  (∀ (s : State) (k x : Nat) (r : CharReport) (f : SerFormat), s.blk.serial.length = 2 → takesChar s.blk k r f →
      s.blk.serRxQ k = false → (s.blk.ser k).hold = some x → r.glitch f = false →
    ∃ t, exec (.characterReceived k r) s = .next t ∧ (t.blk.ser k).hold = some x ∧ (t.blk.ser k).lost = true ∧
      t.blk.get (R.SER_STAT_OE k) = 1 ∧ t.blk.get (R.SER_OVERRUN_COUNT k) = (s.blk.get (R.SER_OVERRUN_COUNT k) + 1) % 2 ^ 64 ∧
      s.Keeps t [R.SER_STAT_IDLE k, R.SER_STAT_OE k, R.SER_OVERRUN_COUNT k, R.SER_STAT_SUPPRESSED k] [.serial]) ∧
  (∀ (s : State) (k : Nat) (r : CharReport) (f : SerFormat), takesChar s.blk k r f → r.glitch f = true →
    ∃ t, exec (.characterReceived k r) s = .next t ∧
      t.blk.get (R.SER_GLITCH_COUNT k) = (s.blk.get (R.SER_GLITCH_COUNT k) + 1) % 2 ^ 64 ∧
      s.Keeps t [R.SER_STAT_IDLE k, R.SER_GLITCH_COUNT k] []) ∧
  (∀ (s : State) (k : Nat) (r : CharReport) (f : SerFormat), s.blk.mode ≠ 9 → f = s.blk.rxFormat k r →
      s.blk.serMasked k (r.stamp - f.halves * s.blk.halfBit k f) = true ∨ s.blk.get (R.SER_STAT_SUPPRESSED k) = 1 ∨
        s.blk.serRxOn k = false ∨ (f.sync = true ∧ (s.blk.ser k).txCur = none) →
    ∃ t, exec (.characterReceived k r) s = .next t ∧ s.Keeps t [] []) ∧
  (∀ (s : State) (k : Nat) (r : CharReport) (f : SerFormat) (o : OpenPkt), s.blk.serial.length = 2 → takesChar s.blk k r f →
      s.blk.serRxQ k = true → r.glitch f = false → (f.decode r false).testBit 11 = false → (s.blk.ser k).entries ≠ [] →
      s.blk.openOf (ctxSerial k) = some o → (s.blk.ser k).entries.length + 1 < s.blk.pktChars k →
    ∃ t, exec (.characterReceived k r) s = .next t ∧
      (t.blk.ser k).entries = (s.blk.ser k).entries ++ [(s.blk.ser k).tag (f.decode r false)] ∧ s.Keeps t (charFields k) [.serial]) ∧
  (∀ (s : State) (k n : Nat) (r : CharReport) (f : SerFormat), s.blk.serial.length = 2 → takesChar s.blk k r f →
      s.blk.serRxQ k = true → r.glitch f = false → (f.decode r false).testBit 11 = false → (s.blk.ser k).entries = [] →
      s.blk.openOf (ctxSerial k) = none → 1 < s.blk.pktChars k → n = s.blk.get (R.SER_RX_PKT_RX_QUEUE k) →
      (s.blk.q n).capacity ≠ 0 → (s.blk.q n).refill = false → (s.blk.q n).bulk = false →
      s.blk.fill n + cellsOf (16 + 2 * s.blk.pktChars k) ≤ (s.blk.q n).capacity →
    ∃ t, exec (.characterReceived k r) s = .next t ∧ (t.blk.ser k).entries = [(s.blk.ser k).tag (f.decode r false)] ∧
      (t.blk.ser k).stamp = r.stamp ∧ (t.blk.ser k).first = s.blk.tick ∧
      t.blk.queue.opened = s.blk.queue.opened ++ [⟨ctxSerial k, n, 16 + 2 * s.blk.pktChars k, 0, 0⟩] ∧
      s.Keeps t (charFields k ++ recordFields) [.serial, .queues, .records]) ∧
  (∀ (s : State) (k : Nat) (r : CharReport) (f : SerFormat), s.blk.serial.length = 2 → takesChar s.blk k r f →
      s.blk.serRxQ k = true → r.glitch f = false → (s.blk.ser k).entries = [] →
      s.blk.openOf (ctxSerial k) = none → (s.blk.q (s.blk.get (R.SER_RX_PKT_RX_QUEUE k))).capacity = 0 →
    ∃ t, exec (.characterReceived k r) s = .next t ∧ (t.blk.ser k).entries = [] ∧ (t.blk.ser k).lost = true ∧
      t.blk.get (R.SER_STAT_OE k) = 1 ∧ t.blk.get (R.SER_OVERRUN_COUNT k) = (s.blk.get (R.SER_OVERRUN_COUNT k) + 1) % 2 ^ 64 ∧
      s.Keeps t ([R.SER_STAT_IDLE k, R.SER_STAT_OE k, R.SER_OVERRUN_COUNT k, R.SER_STAT_SUPPRESSED k] ++ recordFields)
        [.serial, .queues, .records]) ∧
  (∀ (s : State) (k : Nat) (r : CharReport) (f : SerFormat) (o : OpenPkt), s.blk.serial.length = 2 → takesChar s.blk k r f →
      s.blk.serRxQ k = true → r.glitch f = false → (f.decode r false).testBit 11 = true ∨
        s.blk.pktChars k ≤ (s.blk.ser k).entries.length + 1 → (s.blk.ser k).entries ≠ [] →
      s.blk.openOf (ctxSerial k) = some o → 18 + 2 * (s.blk.ser k).entries.length ≤ o.maxLen →
    ∃ t p, exec (.characterReceived k r) s = .next t ∧ (t.blk.q o.queue).pkts = (s.blk.q o.queue).pkts ++ [p] ∧
      leAt p.data 13 1 = (if (f.decode r false).testBit 11 then 3 else 1) ∧
      p.data.drop 16 = ((s.blk.ser k).entries ++ [(s.blk.ser k).tag (f.decode r false)]).flatMap (fun e => leBytes e 2) ∧
      (t.blk.ser k).entries = [] ∧ s.Keeps t (charFields k ++ [R.QMG_COMMIT_COUNT]) [.serial, .queues, .records]) ∧
  (∀ (s : State) (k : Nat) (r : CharReport) (f : SerFormat), s.blk.serial.length = 2 → takesChar s.blk k r f → f.sync = false →
      s.blk.serRxQ k = false → (s.blk.ser k).hold = none → (s.blk.ser k).lost = false → (∀ i, r.bit false i = false) →
    ∃ t, exec (.characterReceived k r) s = .next t ∧ (t.blk.ser k).hold = some 0xC00 ∧ t.blk.get (R.SER_STAT_FE k) = 1 ∧
      t.blk.get (R.SER_STAT_SUPPRESSED k) = 1 ∧ t.blk.get (R.SER_BREAK_COUNT k) = (s.blk.get (R.SER_BREAK_COUNT k) + 1) % 2 ^ 64 ∧
      t.blk.get (R.SER_FRAMING_COUNT k) = (s.blk.get (R.SER_FRAMING_COUNT k) + 1) % 2 ^ 64 ∧ s.Keeps t (charFields k) [.serial]) ∧
  (∀ (s : State) (k : Nat), s.blk.running = true → k < 2 → s.blk.get (R.SER_STAT_SUPPRESSED k) = 1 →
      s.blk.get (R.SER_DE_STUCK_CHARS k) ≠ 0 →
    ∃ t, exec (.lineStuck k) s = .next t ∧ t.blk.get (R.SER_TROUBLE_LINE_STUCK k) = 1 ∧
      t.blk.get (R.SER_LINE_STUCK_COUNT k) = (s.blk.get (R.SER_LINE_STUCK_COUNT k) + 1) % 2 ^ 64 ∧
      s.Keeps t (R.SER_LINE_STUCK_COUNT k :: R.SER_TROUBLE_LINE_STUCK k :: recordFields) [.records]) ∧
  (∀ (s : State) (k : Nat), k < 2 → 2 ≤ s.blk.mode →
    ∃ t, exec (.suppressionEnd k) s = .next t ∧ t.blk.get (R.SER_STAT_SUPPRESSED k) = 0 ∧ s.Keeps t [R.SER_STAT_SUPPRESSED k] []) ∧
  (∀ (s : State) (k : Nat), s.blk.serRxOn k = true → s.blk.get (R.SER_STAT_IDLE k) = 0 → s.blk.serRxQ k = false →
    ∃ t, exec (.lineIdle k) s = .next t ∧ t.blk.get (R.SER_STAT_IDLE k) = 1 ∧ s.Keeps t [R.SER_STAT_IDLE k] []) ∧
  (∀ (s : State) (k : Nat) (o : OpenPkt), s.blk.serial.length = 2 → s.blk.serRxOn k = true → s.blk.get (R.SER_STAT_IDLE k) = 0 →
      s.blk.serRxQ k = true → s.blk.get (R.SER_RX_PKT_CLOSE_IDLE k) = 1 → (s.blk.ser k).entries ≠ [] →
      s.blk.openOf (ctxSerial k) = some o → 16 + 2 * (s.blk.ser k).entries.length ≤ o.maxLen →
    ∃ t p, exec (.lineIdle k) s = .next t ∧ (t.blk.q o.queue).pkts = (s.blk.q o.queue).pkts ++ [p] ∧ leAt p.data 13 1 = 2 ∧
      p.data.take 12 = leBytes (stamp96 (s.blk.ser k).stamp) 12 ∧
      p.data.drop 16 = (s.blk.ser k).entries.flatMap (fun e => leBytes e 2) ∧ (t.blk.ser k).entries = [] ∧
      s.Keeps t [R.SER_STAT_IDLE k, R.QMG_COMMIT_COUNT] [.serial, .queues, .records]) ∧
  (∀ (s : State) (k : Nat) (o : OpenPkt), s.blk.running = true → s.blk.serial.length = 2 → k < 2 →
      s.blk.get (R.SER_RX_AGE_PKT_TICKS k) ≠ 0 → (s.blk.ser k).first + s.blk.get (R.SER_RX_AGE_PKT_TICKS k) ≤ s.blk.tick →
      (s.blk.ser k).entries ≠ [] → s.blk.openOf (ctxSerial k) = some o →
      16 + 2 * (s.blk.ser k).entries.length ≤ o.maxLen →
    ∃ t p, exec (.packetAgeExpiry k) s = .next t ∧ (t.blk.q o.queue).pkts = (s.blk.q o.queue).pkts ++ [p] ∧ leAt p.data 13 1 = 4 ∧
      (t.blk.ser k).entries = [] ∧ s.Keeps t [R.QMG_COMMIT_COUNT] [.serial, .queues, .records]) ∧
  (∀ (s : State) (k : Nat), s.blk.running = true → s.blk.get (R.SER_RX_AGE_PKT_TICKS k) = 0 ∨
        s.blk.tick < (s.blk.ser k).first + s.blk.get (R.SER_RX_AGE_PKT_TICKS k) →
    ∃ t, exec (.packetAgeExpiry k) s = .next t ∧ s.Keeps t [] []) ∧
  (∀ (s : State) (k : Nat), s.blk.reachable = true → s.blk.serial.length = 2 → k < 2 →
    ∃ t, exec (.serDataRead k) s = .next t ∧ t.blk.readData = s.blk.get (R.SER_DATA k) ∧ (t.blk.ser k).hold = none ∧
      t.blk.get (R.SER_STAT_RX_FULL k) = 0 ∧
      ((s.blk.ser k).rsc = true → t.blk.get (R.SER_STAT_FE k) = 0 ∧ t.blk.get (R.SER_STAT_PE k) = 0 ∧ t.blk.get (R.SER_STAT_OE k) = 0) ∧
      ((s.blk.ser k).rsc = false → t.blk.get (R.SER_STAT_FE k) = s.blk.get (R.SER_STAT_FE k)) ∧
      s.Keeps t [R.SER_STAT_RX_FULL k, R.SER_STAT_FE k, R.SER_STAT_PE k, R.SER_STAT_OE k] [.serial, .readData]) ∧
  (∀ (s : State) (k e : Nat) (r : CharReport) (fast : Bool), s.blk.serArmed k = true → s.blk.serial.length = 2 →
      fast = decide (655360 < s.blk.get (R.SER_BAUD_INC k)) → r.glitch (s.blk.rxFormat k r) = false ∨ fast = true →
      e = (s.blk.ser k).tag ((s.blk.rxFormat k r).decode r fast) → (s.blk.ser k).wake.length < 32 →
    ∃ t, exec (.serialWake k r) s = .next t ∧ t.blk.power = { s.blk.power with wake := true } ∧
      (t.blk.ser k).wake = (s.blk.ser k).wake ++ [(e, r.stamp)] ∧ s.Keeps t [R.SER_STAT_SUPPRESSED k] [.serial, .power]) ∧
  (∀ (s : State) (k : Nat) (r : CharReport), s.blk.serArmed k = true → s.blk.get (R.SER_BAUD_INC k) ≤ 655360 →
      r.glitch (s.blk.rxFormat k r) = true →
    ∃ t, exec (.serialWake k r) s = .next t ∧
      t.blk.get (R.SER_GLITCH_COUNT k) = (s.blk.get (R.SER_GLITCH_COUNT k) + 1) % 2 ^ 64 ∧ s.Keeps t [R.SER_GLITCH_COUNT k] []) ∧
  (∀ (s : State) (k : Nat) (r : CharReport) (f : SerFormat), s.blk.serArmed k = true → s.blk.serial.length = 2 →
      s.blk.power.wake = true → f = s.blk.rxFormat k r → r.glitch f = false → (s.blk.ser k).wake.length < 32 →
    ∃ t, exec (.characterReceived k r) s = .next t ∧
      (t.blk.ser k).wake = (s.blk.ser k).wake ++ [((s.blk.ser k).tag (f.decode r false), r.stamp)] ∧
      s.Keeps t [R.SER_STAT_SUPPRESSED k] [.serial]) ∧
  (∀ (s : State) (k : Nat) (r : CharReport) (f : SerFormat), s.blk.serArmed k = true → s.blk.serial.length = 2 →
      s.blk.power.wake = true → f = s.blk.rxFormat k r → r.glitch f = false → 32 ≤ (s.blk.ser k).wake.length →
    ∃ t, exec (.characterReceived k r) s = .next t ∧ (t.blk.ser k).wake = (s.blk.ser k).wake ∧ (t.blk.ser k).lost = true ∧
      t.blk.get (R.SER_TROUBLE_WAKE_LOST k) = 1 ∧
      t.blk.get (R.SER_OVERRUN_COUNT k) = (s.blk.get (R.SER_OVERRUN_COUNT k) + 1) % 2 ^ 64 ∧
      s.Keeps t ([R.SER_STAT_SUPPRESSED k, R.SER_OVERRUN_COUNT k, R.SER_TROUBLE_WAKE_LOST k] ++ recordFields) [.serial, .records])

/-- R414, R415: a character written to SER_TXD starts an idle transmitter or waits behind the one being sent; a write over a waiting one,
or in queue mode, is refused; a character goes out in its format where its pin is enabled, and the next one follows, from the holding
register or the packets of TX_QUEUE; after the last character the tail begins, at whose end DE falls. It is stated of each of these
commands that it answers a next state: serTxdWrite, txCharacterComplete, deTailEnd. -/
def Obligations.SerialTransmission : Prop :=
  (∀ (s : State) (k : Nat) (v : Word), s.blk.serial.length = 2 → s.blk.serTxOn k = true → s.blk.serTxQ k = false →
      (s.blk.ser k).txHold = none → (s.blk.ser k).txRest = [] → (s.blk.ser k).txCur = none →
    ∃ t, exec (.serTxdWrite k v) s = .next t ∧ (t.blk.ser k).txCur = some (v.toNat % 1024) ∧ (t.blk.ser k).txHold = none ∧
      (t.blk.ser k).txFormat = s.blk.serFormat k ∧ (t.blk.ser k).de = true ∧ t.blk.get (R.SER_STAT_TX_BUSY k) = 1 ∧
      t.blk.get (R.SER_STAT_TX_EMPTY k) = 1 ∧
      s.Keeps t [R.SER_STAT_TX_BUSY k, R.SER_STAT_TX_EMPTY k] [.serial, .modl]) ∧
  (∀ (s : State) (k x : Nat) (v : Word), s.blk.reachable = true → s.blk.serial.length = 2 → k < 2 → s.blk.serTxQ k = false →
      (s.blk.ser k).txHold = none → (s.blk.ser k).txCur = some x →
    ∃ t, exec (.serTxdWrite k v) s = .next t ∧ (t.blk.ser k).txCur = some x ∧ (t.blk.ser k).txHold = some (v.toNat % 1024) ∧
      t.blk.get (R.SER_STAT_TX_EMPTY k) = 0 ∧ s.Keeps t [R.SER_STAT_TX_EMPTY k] [.serial]) ∧
  (∀ (s : State) (k : Nat) (v : Word), s.blk.reachable = true → k < 2 →
      (s.blk.ser k).txHold.isSome = true ∨ s.blk.serTxQ k = true →
    ∃ t, exec (.serTxdWrite k v) s = .next t ∧ t.blk.get (R.SER_TROUBLE_TX_REFUSED k) = 1 ∧
      s.Keeps t (R.SER_TROUBLE_TX_REFUSED k :: recordFields) [.records]) ∧
  (∀ (s : State) (k e : Nat), s.blk.running = true → s.blk.serial.length = 2 → k < 2 → (s.blk.ser k).txCur = some e →
      (s.blk.ser k).txHold = none → (s.blk.ser k).txRest = [] → s.blk.serTxQ k = false →
    ∃ t, exec (.txCharacterComplete k) s = .next t ∧
      t.blk.outs = s.blk.outs ++
        (if (s.blk.pinEntry (if k = 0 then 11 else 17)).testBit 0 then [.serial k ((s.blk.ser k).txFormat.levels e)] else []) ∧
      (t.blk.ser k).txCur = none ∧ (t.blk.ser k).tail = true ∧
      t.blk.get (R.SER_TX_CHAR_COUNT k) = (s.blk.get (R.SER_TX_CHAR_COUNT k) + 1) % 2 ^ 64 ∧
      s.Keeps t [R.SER_TX_CHAR_COUNT k] [.serial, .outs]) ∧
  (∀ (s : State) (k e x : Nat), s.blk.serial.length = 2 → s.blk.serTxOn k = true → (s.blk.ser k).txCur = some e →
      (s.blk.ser k).txHold = some x → (s.blk.ser k).txRest = [] →
    ∃ t, exec (.txCharacterComplete k) s = .next t ∧
      t.blk.outs = s.blk.outs ++
        (if (s.blk.pinEntry (if k = 0 then 11 else 17)).testBit 0 then [.serial k ((s.blk.ser k).txFormat.levels e)] else []) ∧
      (t.blk.ser k).txCur = some x ∧ (t.blk.ser k).txHold = none ∧ t.blk.get (R.SER_STAT_TX_EMPTY k) = 1 ∧
      s.Keeps t [R.SER_TX_CHAR_COUNT k, R.SER_STAT_TX_EMPTY k, R.SER_STAT_TX_BUSY k] [.serial, .outs, .modl]) ∧
  (∀ (s : State) (k e x : Nat) (l : List Nat), s.blk.serial.length = 2 → s.blk.serTxOn k = true → (s.blk.ser k).txCur = some e →
      (s.blk.ser k).txRest = x :: l →
    ∃ t, exec (.txCharacterComplete k) s = .next t ∧ (t.blk.ser k).txCur = some x ∧ (t.blk.ser k).txRest = l ∧
      (t.blk.ser k).txHold = (s.blk.ser k).txHold ∧
      s.Keeps t [R.SER_TX_CHAR_COUNT k, R.SER_STAT_TX_BUSY k] [.serial, .outs, .modl]) ∧
  (∀ (s : State) (k e n : Nat) (p : Packet) (l : List Packet), s.blk.serial.length = 2 → s.blk.serTxOn k = true →
      (s.blk.ser k).txCur = some e → (s.blk.ser k).txRest = [] → (s.blk.ser k).txHold = none → s.blk.serTxQ k = true →
      n = s.blk.get (R.SER_TX_Q_TX_QUEUE k) → (s.blk.q n).pkts = p :: l → 2 ≤ p.data.length →
    ∃ t, exec (.txCharacterComplete k) s = .next t ∧ (t.blk.ser k).txCur = some (leAt p.data 0 2 % 1024) ∧
      (t.blk.ser k).txRest.length = p.data.length / 2 - 1 ∧ (t.blk.q n).pkts = l ∧ (∀ m, m ≠ n → t.blk.q m = s.blk.q m) ∧
      s.Keeps t [R.SER_TX_CHAR_COUNT k, R.SER_STAT_TX_BUSY k] [.serial, .outs, .modl, .queues, .records]) ∧
  (∀ (s : State) (k time : Nat), s.blk.running = true → s.blk.serial.length = 2 → k < 2 → (s.blk.ser k).tail = true →
    ∃ t, exec (.deTailEnd ⟨k, time⟩) s = .next t ∧ (t.blk.ser k).de = false ∧ (t.blk.ser k).tail = false ∧
      (t.blk.ser k).unmask = time + 2 * s.blk.halfBit k (s.blk.ser k).txFormat ∧
      t.blk.get (R.SER_STAT_TX_BUSY k) = 0 ∧ s.Keeps t [R.SER_STAT_TX_BUSY k] [.serial, .modl])

/-- R423, R425–R430, R433–R435: a trigger makes a block due or starts it; a pass counts where it may be made, loses the reception on its
port and makes carrier sense busy; a result is accepted, rejected once and then taken, or shows an open coupler. It is stated of each of
these commands that it answers a next state: truPeriodExpiry, tempDeltaTrigger, truCmd, truingPass, truingBlockComplete. -/
def Obligations.TruingRuns : Prop :=
  (∀ (s : State) (i t0 : Nat), s.blk.get R.TRU_CFG_PERIOD ≠ 0 → 3 ≤ s.blk.mode → s.blk.mode ≤ 10 → s.blk.mode ≠ 9 → i < 11 →
      (s.blk.tru i).doneTick = some t0 → t0 + 25000 * s.blk.get R.TRU_CFG_PERIOD ≤ s.blk.tick →
      s.blk.truUsed i = true → s.blk.truPending i = false →
    ∃ t, exec (.truPeriodExpiry i) s = .next t ∧ t.blk.truPending i = true ∧ t.blk.truing.sets = s.blk.truing.sets ++ [2 ^ i] ∧
      s.Keeps t (truFields s.blk) [.truing, .phy, .time, .sensor]) ∧
  (∀ (s : State) (i : Nat), s.blk.running = true →
      (∀ t0, (s.blk.tru i).doneTick = some t0 → s.blk.tick < t0 + 25000 * s.blk.get R.TRU_CFG_PERIOD) →
    ∃ t, exec (.truPeriodExpiry i) s = .next t ∧ s.Keeps t [] []) ∧
  (∀ (s : State) (i : Nat) (x : Int), s.blk.get R.TRU_CFG_TEMP_DELTA ≠ 0 → 3 ≤ s.blk.mode → s.blk.mode ≤ 10 → s.blk.mode ≠ 9 →
      i < 11 → (s.blk.tru i).doneTick.isSome = true → farApart x (s.blk.tru i).temp (s.blk.get R.TRU_CFG_TEMP_DELTA) = true →
      s.blk.truUsed i = true → s.blk.truPending i = false →
    ∃ t, exec (.tempDeltaTrigger i x) s = .next t ∧ t.blk.truPending i = true ∧ t.blk.truing.sets = s.blk.truing.sets ++ [2 ^ i] ∧
      s.Keeps t (R.PWR_SUPPLY_BASE_TEMP :: truFields s.blk) [.truing, .phy, .time, .sensor]) ∧
  (∀ (s : State) (i : Nat) (x : Int), s.blk.running = true → (s.blk.tru i).doneTick = none ∨
        farApart x (s.blk.tru i).temp (s.blk.get R.TRU_CFG_TEMP_DELTA) = false →
    ∃ t, exec (.tempDeltaTrigger i x) s = .next t ∧ s.Keeps t [R.PWR_SUPPLY_BASE_TEMP] []) ∧
  (∀ (s : State) (i : Nat) (mask : Word), 3 ≤ s.blk.mode → s.blk.mode ≤ 11 → s.blk.mode ≠ 8 → s.blk.mode ≠ 9 → i < 11 → i ≠ 7 →
      mask.toNat.testBit i = true → s.blk.truUsed i = true →
    ∃ t, exec (.truCmd mask) s = .next t ∧ t.blk.truPending i = true ∧
      s.Keeps t (truFields s.blk) [.truing, .phy, .time, .sensor]) ∧
  (∀ (s : State) (mask : Word), s.blk.mode ≤ 2 ∨ s.blk.mode = 9 ∨ (s.blk.mode = 8 ∧ mask.toNat % 2048 ≠ 1024) →
    ∃ t, exec (.truCmd mask) s = .next t ∧ s.Keeps t [] []) ∧
  (∀ (s : State) (i band p : Nat) (valid : Bool), s.blk.running = true → s.blk.get R.TRU_STAT_ACTIVE = i → i < 7 →
      s.blk.bit R.TRU_DUE 10 = false → (band, p) = truPort i → s.blk.truEligible band = true → s.blk.reception band p = none →
    ∃ t, exec (.truingPass i valid) s = .next t ∧ (t.blk.tru i).passes = (s.blk.tru i).passes + (if valid then 1 else 0) ∧
      (t.blk.tru i).stale = true ∧
      (t.blk.chain band p).quietTo = max (s.blk.chain band p).quietTo (tickTime (s.blk.tick + passTicks band)) ∧
      (band < s.blk.mac.access.length →
        (t.blk.access band).busyUntil = max (s.blk.access band).busyUntil (s.blk.tick + passTicks band)) ∧
      s.Keeps t [] [.truing, .phy, .time, .front, .mac]) ∧
  (∀ (s : State) (i band p : Nat) (r : Reception), s.blk.running = true → s.blk.get R.TRU_STAT_ACTIVE = i → i < 7 →
      s.blk.bit R.TRU_DUE 10 = false → (band, p) = truPort i → s.blk.truEligible band = true →
      s.blk.reception band p = some r → r.stage ≠ 2 →
    ∃ t, exec (.truingPass i true) s = .next t ∧ (t.blk.tru i).passes = (s.blk.tru i).passes + 1 ∧
      t.blk.phy.rx = s.blk.phy.rx.erase r ∧
      t.blk.get R.PHY_ABORT_OTHER_COUNT = (s.blk.get R.PHY_ABORT_OTHER_COUNT + 1) % 2 ^ R.PHY_ABORT_OTHER_COUNT.width ∧
      s.Keeps t (R.PHY_ABORT_OTHER_COUNT :: captureFields ++ r.ports.map (frozenField r.band))
        [.truing, .phy, .time, .front, .mac]) ∧
  (∀ (s : State) (i k : Nat) (valid : Bool), s.blk.running = true → s.blk.get R.TRU_STAT_ACTIVE = i → i < 7 → s.blk.bit R.TRU_DUE 10 = false →
      k ≠ i ∨ s.blk.truEligible (truPort i).1 = false →
    ∃ t, exec (.truingPass k valid) s = .next t ∧ s.Keeps t [] []) ∧
  (∀ (s : State) (i : Nat) (r : TruReport), s.blk.running = true → s.blk.get R.TRU_STAT_ACTIVE = i → i < 7 → s.blk.get R.TRU_DUE = 0 →
      passCount (truPort i).1 ≤ (s.blk.tru i).passes → -200 ≤ (truKeep i r).ampl →
      truFar i (truKeep i r) (s.blk.tru i).inForce = false →
    ∃ t, exec (.truingBlockComplete i r) s = .next t ∧ (t.blk.tru i).target = truKeep i r ∧ (t.blk.tru i).rejected = none ∧
      (t.blk.tru i).count = ((s.blk.tru i).count + 1) % 2 ^ 32 ∧ t.blk.get R.TRU_STAT_ACTIVE = 15 ∧
      t.blk.get (R.LFE_STAT_COUPLER_OPEN (truPort i).2) = 0 ∧ (t.blk.tru i).stale = false ∧
      (t.blk.tru i).doneTick = some s.blk.tick ∧
      (t.blk.tru i).inForce = (if s.blk.mode = 3 then truKeep i r else { (s.blk.tru i).inForce with ampl := (truKeep i r).ampl }) ∧
      s.Keeps t [R.TRU_STAT_ACTIVE, R.TRU_STAT_SLEWING, R.TRU_COUNT, R.TRU_LAST_TIME, R.LFE_STAT_COUPLER_OPEN (truPort i).2]
        [.truing, .phy, .time, .front]) ∧
  (∀ (s : State) (i : Nat) (r : TruReport), s.blk.running = true → s.blk.get R.TRU_STAT_ACTIVE = i → i = 8 ∨ i = 9 →
      s.blk.get R.TRU_DUE = 0 →
    ∃ t, exec (.truingBlockComplete i r) s = .next t ∧ (t.blk.tru i).target = { rxDelay := r.rx } ∧
      (t.blk.tru i).count = ((s.blk.tru i).count + 1) % 2 ^ 32 ∧ t.blk.get R.TRU_STAT_ACTIVE = 15 ∧
      (s.blk.mode = 3 → (t.blk.tru i).inForce = { rxDelay := r.rx }) ∧
      s.Keeps t [R.TRU_STAT_ACTIVE, R.TRU_STAT_SLEWING, R.TRU_COUNT, R.TRU_LAST_TIME] [.truing, .front]) ∧
  (∀ (s : State) (r : TruReport), s.blk.running = true → s.blk.get R.TRU_STAT_SENSOR_RUNNING = 1 → s.blk.get R.TRU_DUE = 0 →
    ∃ t, exec (.truingBlockComplete 10 r) s = .next t ∧ (t.blk.tru 10).inForce = { sensor := r.sensor } ∧
      (t.blk.tru 10).target = { sensor := r.sensor } ∧ t.blk.get R.TRU_STAT_SENSOR_RUNNING = 0 ∧ t.blk.get R.SEN_STAT_STALE = 0 ∧
      t.blk.sensor.restart = true ∧
      s.Keeps t [R.TRU_STAT_SENSOR_RUNNING, R.SEN_STAT_STALE, R.TRU_STAT_SLEWING, R.TRU_COUNT, R.TRU_LAST_TIME]
        [.truing, .front, .sensor]) ∧
  (∀ (s : State) (i : Nat) (r : TruReport), s.blk.running = true → s.blk.get R.TRU_STAT_ACTIVE = i → i < 7 → s.blk.get R.TRU_DUE = 0 →
      (s.blk.tru i).passes < passCount (truPort i).1 →
    ∃ t, exec (.truingBlockComplete i r) s = .next t ∧ s.Keeps t [] []) ∧
  (∀ (s : State) (i : Nat) (r : TruReport), s.blk.running = true → s.blk.get R.TRU_STAT_ACTIVE = i → i < 7 → s.blk.get R.TRU_DUE = 0 →
      passCount (truPort i).1 ≤ (s.blk.tru i).passes → -200 ≤ (truKeep i r).ampl →
      truFar i (truKeep i r) (s.blk.tru i).inForce = true →
      (∀ x, (s.blk.tru i).rejected = some x → truAgrees i (truKeep i r) x = false) →
    ∃ t, exec (.truingBlockComplete i r) s = .next t ∧ (t.blk.tru i).target = (s.blk.tru i).target ∧
      (t.blk.tru i).inForce = (s.blk.tru i).inForce ∧ (t.blk.tru i).rejected = some (truKeep i r) ∧
      t.blk.truPending i = true ∧ t.blk.get R.TRU_TROUBLE_REJECTED = 1 ∧
      t.blk.get R.TRU_REJECT_COUNT = (s.blk.get R.TRU_REJECT_COUNT + 1) % 2 ^ R.TRU_REJECT_COUNT.width ∧
      s.Keeps t ([R.TRU_STAT_ACTIVE, R.TRU_DUE, R.TRU_REJECT_COUNT, R.TRU_TROUBLE_REJECTED, R.LFE_STAT_COUPLER_OPEN (truPort i).2] ++
        recordFields) [.truing, .phy, .time, .front, .records]) ∧
  (∀ (s : State) (i : Nat) (r : TruReport) (x : TruSet), s.blk.running = true → s.blk.get R.TRU_STAT_ACTIVE = i → i < 7 →
      s.blk.get R.TRU_DUE = 0 → passCount (truPort i).1 ≤ (s.blk.tru i).passes → -200 ≤ (truKeep i r).ampl →
      truFar i (truKeep i r) (s.blk.tru i).inForce = true → (s.blk.tru i).rejected = some x →
      truAgrees i (truKeep i r) x = true →
    ∃ t, exec (.truingBlockComplete i r) s = .next t ∧ (t.blk.tru i).target = truKeep i r ∧ (t.blk.tru i).rejected = none ∧
      t.blk.get R.TRU_TROUBLE_LARGE_STEP = 1 ∧
      s.Keeps t ([R.TRU_STAT_ACTIVE, R.TRU_STAT_SLEWING, R.TRU_COUNT, R.TRU_LAST_TIME, R.TRU_TROUBLE_LARGE_STEP,
        R.LFE_STAT_COUPLER_OPEN (truPort i).2] ++ recordFields) [.truing, .phy, .time, .front, .records]) ∧
  (∀ (s : State) (i p : Nat) (r : TruReport), s.blk.running = true → s.blk.get R.TRU_STAT_ACTIVE = i → i < 7 → s.blk.get R.TRU_DUE = 0 →
      p = (truPort i).2 → passCount (truPort i).1 ≤ (s.blk.tru i).passes → (truKeep i r).ampl < -200 →
    ∃ t, exec (.truingBlockComplete i r) s = .next t ∧ t.blk.get (R.LFE_STAT_COUPLER_OPEN p) = 1 ∧
      t.blk.bit R.TRB_PORT_FAILED p = true ∧ t.blk.get (R.LFE_TROUBLE_COUPLER_OPEN p) = 1 ∧
      (t.blk.tru i).inForce = { (s.blk.tru i).inForce with ampl := (truKeep i r).ampl } ∧
      s.Keeps t ([R.TRU_STAT_ACTIVE, R.TRU_STAT_SLEWING, R.TRU_COUNT, R.TRU_LAST_TIME, R.LFE_STAT_COUPLER_OPEN p,
          R.LFE_TROUBLE_COUPLER_OPEN p, R.TRB_PORT_FAILED, R.TRB_TROUBLE_PORT_FAILED, R.PWR_GATES_DRV_H, R.LFE_L_SEL,
          R.LFE_STAT_TX_ACTIVE_H p, R.LFE_STAT_TX_ACTIVE_L p] ++ recordFields) [.truing, .phy, .time, .front, .mesh, .records])

/-- R438–R442, R449, R459: a permitted mode request starts a change or waits for the running one, another is refused; a change takes the
node to its mode with what that mode brings. It is stated of each of these commands that it answers a next state: pwrModeReq,
modeTransition, dozeEntry, standbyEntry, maintenanceEntry, standbyTimerExpiry, wakeNWake, standbyExit. -/
def Obligations.ModeChanges : Prop :=
  (∀ (s : State) (m : Nat), s.blk.reachable = true → m < 16 →
      requestPermitted s.blk.mode m (s.blk.role == 0) s.blk.dozeOk false = true → s.blk.power.trans = none →
    ∃ t, exec (.pwrModeReq m) s = .next t ∧ t.blk.power.trans = some m ∧ s.Keeps t [] [.power]) ∧
  (∀ (s : State) (m x : Nat), s.blk.reachable = true → m < 16 →
      requestPermitted s.blk.mode m (s.blk.role == 0) s.blk.dozeOk false = true → s.blk.power.trans = some x →
    ∃ t, exec (.pwrModeReq m) s = .next t ∧ t.blk.power.trans = some x ∧ t.blk.power.heldReq = some m ∧
      t.blk.get R.PWR_MODE_PENDING = 1 ∧ s.Keeps t [R.PWR_MODE_PENDING] [.power]) ∧
  (∀ (s : State) (m : Nat), s.blk.reachable = true → m < 16 →
      requestPermitted s.blk.mode m (s.blk.role == 0) s.blk.dozeOk false = false →
    ∃ t, exec (.pwrModeReq m) s = .next t ∧ t.blk.get R.PWR_TROUBLE_MODE_REFUSED = 1 ∧
      t.blk.get R.PWR_MODE_REFUSED_COUNT = (s.blk.get R.PWR_MODE_REFUSED_COUNT + 1) % 2 ^ R.PWR_MODE_REFUSED_COUNT.width ∧
      s.Keeps t (R.PWR_MODE_REFUSED_COUNT :: R.PWR_TROUBLE_MODE_REFUSED :: recordFields) [.records]) ∧
  (∀ (s : State) (m : Nat), s.blk.power.trans = some m → s.blk.power.heldReq = none → s.blk.atBoundary m = true →
      transitionListed s.blk.mode m (s.blk.role == 0) = true →
    ∃ t, exec .modeTransition s = .next t ∧ t.blk.mode = m ∧ t.blk.get R.PWR_MODE_PREV = s.blk.mode ∧ t.blk.power.trans = none ∧
      t.otp = s.otp ∧ t.pending = s.pending) ∧
  (∀ s : State, s.blk.power.trans = some 4 → s.blk.power.heldReq = none → s.blk.role ≠ 0 → s.blk.mode ∈ [3, 5, 6, 7] →
    ∃ t, exec .modeTransition s = .next t ∧ t.blk.mode = 4 ∧ t.blk.get R.MAC_STAT_STATE = 1 ∧ t.blk.mac.candidates = [] ∧
      t.blk.get R.PWR_GATES_DRV_H = 0 ∧ t.blk.get R.PWR_GATES_DRV_L = 0 ∧
      (s.blk.mode = 6 ∨ s.blk.mode = 7 → t.blk.get R.MAC_ADDR_SHORT = 0) ∧
      s.Keeps t [R.PWR_MODE_MODE, R.PWR_MODE_PREV, R.MAC_STAT_STATE, R.MAC_ADDR_SHORT, R.PWR_GATES_DRV_H, R.PWR_GATES_DRV_L]
        [.power, .mac, .modl]) ∧
  (∀ s : State, s.blk.power.trans = some 5 → s.blk.power.heldReq = none → s.blk.role ≠ 0 → s.blk.mode ∈ [4, 6, 7] →
    ∃ t, exec .modeTransition s = .next t ∧ t.blk.mode = 5 ∧ t.blk.get R.MAC_STAT_STATE = 2 ∧ t.blk.sec.own = none ∧
      t.blk.mac.granted = false ∧
      s.Keeps t [R.PWR_MODE_MODE, R.PWR_MODE_PREV, R.MAC_STAT_STATE, R.PWR_RATION_WINDOW, R.PWR_RATION_QUEUED]
        [.power, .mac, .sec, .modl]) ∧
  (∀ s : State, s.blk.power.trans = some 6 → s.blk.power.heldReq = none → s.blk.role ≠ 0 → s.blk.mode ∈ [5, 7, 8] →
      (s.blk.mode = 5 → s.blk.tick % 25 = 0) → s.blk.get R.IMG_STAT_RUN_TRIAL = 0 → s.blk.get R.MAC_STAT_STATE ≠ 4 →
    ∃ t, exec .modeTransition s = .next t ∧ t.blk.mode = 6 ∧ t.blk.get R.MAC_STAT_STATE = 3 ∧
      (s.blk.mode = 8 → t.blk.get R.MAC_STAT_DOZING = 0) ∧
      s.Keeps t [R.PWR_MODE_MODE, R.PWR_MODE_PREV, R.MAC_STAT_STATE, R.MAC_STAT_DOZING, R.PWR_RATION_WINDOW, R.PWR_RATION_QUEUED]
        [.power, .mac, .modl]) ∧
  (∀ s : State, s.blk.power.trans = some 7 → s.blk.power.heldReq = none → s.blk.mode = 6 →
    ∃ t, exec .modeTransition s = .next t ∧ t.blk.mode = 7 ∧ t.blk.get R.PWR_GATES_DRV_H = 0 ∧ t.blk.get R.PWR_GATES_DRV_L = 0 ∧
      s.Keeps t [R.PWR_MODE_MODE, R.PWR_MODE_PREV, R.MAC_STAT_STATE, R.PWR_GATES_DRV_H, R.PWR_GATES_DRV_L] [.power, .modl]) ∧
  (∀ (s : State) (m r : Nat), s.blk.power.trans = some m → s.blk.power.heldReq = some r → m ∈ [4, 5, 7] → m ≠ r →
      transitionListed s.blk.mode m (s.blk.role == 0) = true → transitionListed m r (s.blk.role == 0) = true →
    ∃ t, exec .modeTransition s = .next t ∧ t.blk.mode = m ∧ t.blk.power.trans = some r ∧ t.blk.power.heldReq = none ∧
      t.blk.get R.PWR_MODE_PENDING = 0) ∧
  (∀ s : State, (∀ m, s.blk.power.trans = some m → s.blk.atBoundary m = false) →
    ∃ t, exec .modeTransition s = .next t ∧ s.Keeps t [] []) ∧
  (∀ s : State, s.blk.power.trans = some 8 → s.blk.power.heldReq = none → s.blk.mode = 6 → s.blk.role ≠ 0 →
      s.blk.atBoundary 8 = true →
    ∃ t, exec .dozeEntry s = .next t ∧ t.blk.mode = 8 ∧ t.blk.get R.MAC_STAT_DOZING = 1 ∧ t.blk.get R.PWR_GATES_DRV_H = 0 ∧
      (∀ j, j < 2 → (t.blk.modl.cages.getD j {}).powered = false) ∧ t.blk.power.ddrAwake = false ∧ t.otp = s.otp ∧ t.pending = s.pending) ∧
  (∀ s : State, s.blk.power.trans = some 8 → s.blk.power.heldReq = none → s.blk.mode = 6 → s.blk.role ≠ 0 →
      s.blk.atBoundary 8 = true → s.blk.phy.rx = [] → s.blk.phy.tx = [] → s.blk.image.job = .none →
      s.blk.get R.TRU_STAT_ACTIVE = 15 → s.blk.get R.PHY_CAP_STAT_STATE = 0 →
    ∃ t, exec .dozeEntry s = .next t ∧
      (∀ n, n ∈ s.blk.otherSlices → s.blk.bit R.PWR_GATES_SLICE_ON n = true → t.blk.bit R.PWR_GATES_SLICE_RET n = true) ∧
      s.Keeps t [R.PWR_MODE_MODE, R.PWR_MODE_PREV, R.MAC_STAT_STATE, R.MAC_STAT_DOZING, R.PWR_GATES_DRV_H, R.PWR_GATES_DRV_L,
        R.PWR_GATES_SLICE_RET, R.PWR_RATION_WINDOW, R.PWR_RATION_QUEUED] [.power, .mac, .modl, .slices]) ∧
  (∀ s : State, s.blk.running = true → s.blk.power.trans ≠ some 8 ∨ s.blk.atBoundary 8 = false →
    ∃ t, exec .dozeEntry s = .next t ∧ s.Keeps t [] []) ∧
  (∀ s : State, s.blk.power.trans = some 9 → s.blk.power.heldReq = none → s.blk.mode = 6 ∨ s.blk.mode = 7 ∨ s.blk.mode = 8 →
    ∃ t, exec .standbyEntry s = .next t ∧ t.blk.mode = 9 ∧ t.blk.queue.opened = [] ∧ t.blk.get R.PWR_GATES_SLICE_ON = 0 ∧
      t.blk.get R.PWR_GATES_DRV_H = 0 ∧ t.blk.get R.PWR_GATES_DRV_L = 0 ∧ t.blk.power.ddrAwake = false ∧
      t.blk.get R.TIM_STAT_OUT_ACTIVE = 0 ∧
      (∀ f : Field, keepOf f.key = .w ∨ keepOf f.key = .v →
        f.key ∉ [R.PWR_MODE_MODE, R.PWR_MODE_PREV, R.PWR_MODE_OCXO_READY, R.TRB_SUMMARY].map Field.key →
        t.blk.get f = Tab.get 0 resetRegs f.key % 2 ^ f.width) ∧
      t.otp = s.otp ∧ t.pending = s.pending) ∧
  (∀ s : State, s.blk.power.trans = some 10 → s.blk.power.heldReq = none → s.blk.mode = 4 ∨ s.blk.mode = 6 ∨ s.blk.mode = 7 →
    ∃ t, exec .maintenanceEntry s = .next t ∧ t.blk.mode = 10 ∧ t.blk.get R.PWR_GATES_DRV_H = 0 ∧ t.blk.get R.PWR_GATES_DRV_L = 0 ∧
      (∀ p, t.blk.image.verified = some p → p.reload = true → p.reloadSlice ≠ 0) ∧ t.otp = s.otp ∧ t.pending = s.pending) ∧
  (∀ s : State, s.blk.power.trans = some 10 → s.blk.power.heldReq = none → s.blk.mode = 4 ∨ s.blk.mode = 6 ∨ s.blk.mode = 7 →
      s.blk.phy.tx = [] → s.blk.image.job = .none → s.blk.power.sliceReset = none →
    ∃ t, exec .maintenanceEntry s = .next t ∧ (t.blk.sliceState 0).held = false ∧
      (∀ n, n ≠ 0 → t.blk.sliceState n = s.blk.sliceState n) ∧
      s.Keeps t [R.PWR_MODE_MODE, R.PWR_MODE_PREV, R.MAC_STAT_STATE, R.PWR_GATES_DRV_H, R.PWR_GATES_DRV_L]
        [.power, .modl, .slices, .image]) ∧
  (∀ s : State, s.blk.mode = 9 → s.blk.get R.PWR_STBY_TIME = 0 →
    ∃ t, exec .standbyTimerExpiry s = .next t ∧ s.Keeps t [] []) ∧
  (∀ s : State, s.blk.mode = 9 → s.blk.get R.PWR_STBY_TIME ≠ 0 →
    ∃ t, exec .standbyTimerExpiry s = .next t ∧ t.blk.power.wake = true ∧ s.Keeps t [] [.power]) ∧
  (∀ s : State, s.blk.mode = 9 ∨ s.blk.power.trans = some 9 →
    ∃ t, exec .wakeNWake s = .next t ∧ t.blk.power.wake = true ∧ s.Keeps t [] [.power]) ∧
  (∀ (s : State) (i : RunCopy) (ns : Nat), s.blk.image.copy = some i → s.blk.mode = 9 → s.blk.power.wake = true →
    ∃ t, exec (.standbyExit true ns) s = .next t ∧ t.blk.mode = 3 ∧ t.blk.get R.PWR_MODE_PREV = 9 ∧ t.blk.power.wake = false ∧
      t.blk.power.wdtArmed = true ∧ t.blk.get R.QMG_STAT_BULK_READY = 1 ∧
      t.blk.get R.CUS_EPOCH = (s.blk.get R.CUS_EPOCH + 1) % 2 ^ R.CUS_EPOCH.width ∧
      (∀ c, (t.blk.cus c).outJ = (s.blk.cus c).outJ ∧ (t.blk.cus c).inJ = (s.blk.cus c).inJ) ∧ t.otp = s.otp ∧
      t.pending = s.pending) ∧
  (∀ (s : State) (ok : Bool) (ns : Nat), s.blk.mode ≠ 9 ∨ s.blk.power.wake = false →
    ∃ t, exec (.standbyExit ok ns) s = .next t ∧ s.Keeps t [] []) ∧
  (∀ (s : State) (i : RunCopy) (ns : Nat), s.blk.image.copy = some i → s.blk.mode = 9 → s.blk.power.wake = true →
    ∃ t, exec (.standbyExit false ns) s = .next t ∧ t.blk.mode = 2 ∧ t.blk.get R.PWR_RESET_CAUSE = 6 ∧
      t.blk.get R.IMG_ERR_CAUSE = 0x0C ∧ t.otp = s.otp ∧ t.pending = s.pending)

/-- R447, R448: an enable is queued and granted at a tick boundary while 4.0 W in 25 ticks allow it; a transmit start that is late sets
RATION_DELAY. It is stated of each of these commands that it answers a next state: loadEnableRequest, rationGrant. -/
def Obligations.LoadRation : Prop :=
  (∀ (s : State) (l : Load), s.blk.running = true → l.valid = true → s.blk.loaded l = false → s.blk.loadAllowed l = true →
      s.blk.power.reqs.any (fun x => x.load = l) = false →
    ∃ t, exec (.loadEnableRequest l none) s = .next t ∧ t.blk.power.reqs = s.blk.power.reqs ++ [⟨l, none, false⟩] ∧
      t.blk.power.txReqs = s.blk.power.txReqs ∧ s.Keeps t [R.PWR_RATION_WINDOW, R.PWR_RATION_QUEUED] [.power]) ∧
  (∀ (s : State) (l : Load) (d : Nat), s.blk.running = true → l.valid = true → s.blk.loaded l = false →
      s.blk.loadAllowed l = true →
    ∃ t, exec (.loadEnableRequest l (some d)) s = .next t ∧ t.blk.power.txReqs = insertReq ⟨l, some d, false⟩ s.blk.power.txReqs ∧
      t.blk.power.reqs = s.blk.power.reqs ∧ s.Keeps t [R.PWR_RATION_WINDOW, R.PWR_RATION_QUEUED] [.power]) ∧
  (∀ (s : State) (l : Load) (d : Option Nat), s.blk.running = true → s.blk.loaded l = true ∨ s.blk.loadAllowed l = false →
    ∃ t, exec (.loadEnableRequest l d) s = .next t ∧ s.Keeps t [] []) ∧
  (∀ (s : State), s.blk.running = true → s.blk.power.txReqs = [] → s.blk.power.reqs = [⟨.drvL, none, false⟩] →
      s.blk.get R.PWR_GATES_DRV_L = 0 → s.blk.loadAllowed .drvL = true → s.blk.granted + 20 ≤ 40 →
    ∃ t, exec .rationGrant s = .next t ∧ t.blk.get R.PWR_GATES_DRV_L = 1 ∧ t.blk.power.reqs = [] ∧
      (s.blk.tick, 20) ∈ t.blk.power.grants ∧
      s.Keeps t [R.PWR_GATES_DRV_L, R.PWR_RATION_WINDOW, R.PWR_RATION_QUEUED] [.power]) ∧
  (∀ (s : State) (l : Load), s.blk.running = true → s.blk.power.txReqs = [] → s.blk.power.reqs = [⟨l, none, false⟩] → l.valid = true →
      l = .ddr ∨ l = .heater ∨ (∃ n, l = .slice n) → s.blk.loaded l = false → s.blk.granted + l.cost ≤ 40 →
    ∃ t, exec .rationGrant s = .next t ∧ t.blk.loaded l = true ∧ t.blk.power.reqs = [] ∧ (s.blk.tick, l.cost) ∈ t.blk.power.grants ∧
      s.Keeps t [R.PWR_GATES_SLICE_ON, R.PWR_GATES_SLICE_RET, R.PWR_RATION_WINDOW, R.PWR_RATION_QUEUED] [.power]) ∧
  (∀ (s : State) (r : LoadReq), s.blk.running = true → s.blk.power.txReqs = [] → s.blk.power.reqs = [r] →
      s.blk.loadAllowed r.load = false →
    ∃ t, exec .rationGrant s = .next t ∧ t.blk.power.reqs = [] ∧ s.Keeps t [R.PWR_RATION_WINDOW, R.PWR_RATION_QUEUED] [.power]) ∧
  (∀ (s : State) (r : LoadReq) (l : List LoadReq), s.blk.running = true → s.blk.power.txReqs = [] → s.blk.power.reqs = r :: l →
      s.blk.loaded r.load = false → (∀ x ∈ r :: l, s.blk.loadAllowed x.load = true) → 40 < s.blk.granted + r.load.cost →
    ∃ t, exec .rationGrant s = .next t ∧ t.blk.power.reqs = (r :: l).filter (fun x => !s.blk.loaded x.load) ∧
      s.Keeps t [R.PWR_RATION_WINDOW, R.PWR_RATION_QUEUED] [.power]) ∧
  (∀ (s : State) (l : Load) (d : Nat), s.blk.running = true → s.blk.power.txReqs = [⟨l, some d, false⟩] → s.blk.loaded l = false →
      s.blk.loadAllowed l = true → s.blk.power.reqs = [] → 40 < s.blk.granted + l.cost → d + 1 ≤ s.blk.tick →
    ∃ t, exec .rationGrant s = .next t ∧ t.blk.power.txReqs = [⟨l, some d, true⟩] ∧ t.blk.power.reqs = [] ∧
      t.blk.get R.PWR_TROUBLE_RATION_DELAY = 1 ∧
      s.Keeps t ([R.PWR_RATION_DELAY_COUNT, R.PWR_TROUBLE_RATION_DELAY, R.PWR_RATION_WINDOW, R.PWR_RATION_QUEUED] ++ recordFields)
        [.power, .records])

/-- R452–R455: PWR_CMD without CONFIRM only counts; WARM_RESET and a watchdog expiry take the node to M2 with their causes; a slice reset
is taken up, or refused, and released at its block boundary. It is stated of each of these commands that it answers a next state:
pwrCmdNop, pwrCmdBadConfirm, pwrCmdWarmReset, watchdogExpiry, pwrCmdSliceReset, sliceResetRelease. -/
def Obligations.ResetCommands : Prop :=
  (∀ s : State, 
    ∃ t, exec .pwrCmdNop s = .next t ∧ s.Keeps t [] []) ∧
  (∀ (s : State) (v : Word), s.blk.reachable = true → bits v.toNat 16 16 ≠ 0xA5C3 →
    ∃ t, exec (.pwrCmdBadConfirm v) s = .next t ∧
      t.blk.get R.PWR_UNDEF_COUNT = (s.blk.get R.PWR_UNDEF_COUNT + 1) % 2 ^ R.PWR_UNDEF_COUNT.width ∧
      s.Keeps t [R.PWR_UNDEF_COUNT] []) ∧
  (∀ s : State, s.blk.reachable = true → s.blk.power.resetNow ≠ 0 →
    ∃ t, exec .pwrCmdWarmReset s = .next t ∧ s.Keeps t [] []) ∧
  (∀ s : State, s.blk.reachable = true → s.blk.mode ≤ 11 → s.blk.power.resetNow = 0 →
    ∃ t, exec .pwrCmdWarmReset s = .next t ∧ t.blk.mode = 2 ∧ t.blk.get R.PWR_MODE_PREV = s.blk.mode ∧
      t.blk.get R.PWR_RESET_CAUSE = 3 ∧ t.otp = s.otp ∧ t.pending = s.pending) ∧
  (∀ s : State, s.blk.power.wdtArmed = true → 3 ≤ s.blk.mode → s.blk.mode ≤ 11 → s.blk.mode ≠ 9 →
      s.blk.warmNow = false →
    ∃ t, exec .watchdogExpiry s = .next t ∧ t.blk.mode = 2 ∧ t.blk.get R.PWR_MODE_PREV = s.blk.mode ∧
      t.blk.get R.PWR_RESET_CAUSE = 4 ∧ t.blk.get R.PWR_TROUBLE_WDT_RESET = 1 ∧ t.blk.power.wdtArmed = false ∧ t.otp = s.otp ∧
      t.pending = s.pending) ∧
  (∀ s : State, s.blk.running = true → s.blk.warmNow = true → s.blk.power.wdtRan = true →
    ∃ t, exec .watchdogExpiry s = .next t ∧ t.blk.get R.PWR_RESET_CAUSE = 4 ∧ t.blk.get R.PWR_TROUBLE_WDT_RESET = 1 ∧
      t.blk.get R.PWR_WDT_RESET_COUNT = (s.blk.get R.PWR_WDT_RESET_COUNT + 1) % 2 ^ R.PWR_WDT_RESET_COUNT.width ∧
      (t.blk.get R.PWR_WARM_RESET_COUNT + 1) % 2 ^ 64 = s.blk.get R.PWR_WARM_RESET_COUNT ∧
      s.Keeps t ([R.PWR_RESET_CAUSE, R.PWR_TROUBLE_WDT_RESET, R.PWR_WDT_RESET_COUNT, R.PWR_WARM_RESET_COUNT] ++ recordFields)
        [.power, .records]) ∧
  (∀ s : State, s.blk.running = true → s.blk.power.wdtArmed = false → s.blk.warmNow = false ∨ s.blk.power.wdtRan = false →
    ∃ t, exec .watchdogExpiry s = .next t ∧ s.Keeps t [] []) ∧
  (∀ (s : State) (n : Nat), s.blk.reachable = true → n < 8 → s.blk.sliceResetRefused n = false →
    ∃ t r, exec (.pwrCmdSliceReset n) s = .next t ∧ t.blk.power.sliceReset = some r ∧ r.slice = n ∧ r.held = false ∧
      r.startTick = (s.blk.tick / 25 + 1) * 25 ∧
      t.blk.get R.PWR_SLICE_RESET_COUNT = (s.blk.get R.PWR_SLICE_RESET_COUNT + 1) % 2 ^ R.PWR_SLICE_RESET_COUNT.width ∧
      s.Keeps t [R.PWR_SLICE_RESET_COUNT] [.power]) ∧
  (∀ (s : State) (n : Nat), s.blk.reachable = true → n < 8 → s.blk.sliceResetRefused n = true →
    ∃ t, exec (.pwrCmdSliceReset n) s = .next t ∧ t.blk.get R.PWR_TROUBLE_MODE_REFUSED = 1 ∧
      s.Keeps t (R.PWR_MODE_REFUSED_COUNT :: R.PWR_TROUBLE_MODE_REFUSED :: recordFields) [.records]) ∧
  (∀ (s : State) (r : SliceReset), s.blk.running = true → s.blk.power.sliceReset = some r → r.held = true →
      r.releaseTick ≤ s.blk.tick →
    ∃ t, exec (.sliceResetRelease true) s = .next t ∧ t.blk.power.sliceReset = none ∧ (t.blk.sliceState r.slice).held = false ∧
      s.Keeps t [] [.power, .slices]) ∧
  (∀ (s : State) (r : SliceReset) (ok : Bool), s.blk.running = true → s.blk.power.sliceReset = some r →
      r.held = false ∨ s.blk.tick < r.releaseTick →
    ∃ t, exec (.sliceResetRelease ok) s = .next t ∧ s.Keeps t [] []) ∧
  (∀ (s : State) (r : SliceReset), s.blk.running = true → s.blk.power.sliceReset = some r → r.held = true →
      r.releaseTick ≤ s.blk.tick →
    ∃ t, exec (.sliceResetRelease false) s = .next t ∧ t.blk.mode = 2 ∧ t.blk.get R.PWR_RESET_CAUSE = 6 ∧
      t.blk.get R.IMG_ERR_CAUSE = 0x0C ∧ t.otp = s.otp ∧ t.pending = s.pending)

/-- R94, R97, R99, R102–R104, R113: a loader command is refused while another runs, in the wrong mode, with nothing verified and for the
wrong kind of image; verification, bank writes, trials, confirmation and ABORT have their stated effects; staged words are stored at the
offset, which moves on. It is stated of each of these commands that it answers a next state: imgCmdNop, imgCmdVerifyStaged,
verifyStagedDone, imgCmdWriteBank, writeBankDone, imgCmdGoldenWrite, goldenWriteDone, imgCmdArmTrial, imgCmdConfirm, imgCmdRollbackCommit,
imgCmdAbort, imgStageData. -/
def Obligations.ImageCommands : Prop :=
  (∀ (s : State) (c : Instr), c ∈ [Instr.imgCmdNop, .imgCmdVerifyStaged, .imgCmdWriteBank, .imgCmdArmTrial, .imgCmdConfirm,
        .imgCmdRollbackCommit, .imgCmdGoldenWrite] ∨ (∃ n, c = .imgCmdSliceReload n) → s.blk.reachable = true →
      s.blk.get R.IMG_STAT_STATE ≠ 0 →
    ∃ t, exec c s = .next t ∧ t.blk.get R.IMG_ERR_CAUSE = 0x11 ∧ t.blk.get R.IMG_ERR_SEGMENT = 0xFF ∧
      s.Keeps t [R.IMG_ERR_CAUSE, R.IMG_ERR_SEGMENT] []) ∧
  (∀ (s : State) (c : Instr), s.blk.reachable = true → s.blk.get R.IMG_STAT_STATE = 0 →
      (c ∈ [Instr.imgCmdVerifyStaged, .imgCmdWriteBank, .imgCmdArmTrial] ∧ s.blk.mode ∉ [6, 7, 10, 11]) ∨
        (c ∈ [Instr.imgCmdConfirm, .imgCmdRollbackCommit] ∧ s.blk.mode ≠ 6) ∨
        ((∃ n, c = .imgCmdSliceReload n) ∧ s.blk.mode ∉ [6, 7, 10]) ∨ (c = .imgCmdGoldenWrite ∧ s.blk.mode ≠ 10) →
    ∃ t, exec c s = .next t ∧ t.blk.get R.IMG_ERR_CAUSE = 0x12 ∧ t.blk.get R.IMG_ERR_SEGMENT = 0xFF ∧
      s.Keeps t [R.IMG_ERR_CAUSE, R.IMG_ERR_SEGMENT] []) ∧
  (∀ (s : State) (c : Instr), s.blk.get R.IMG_STAT_STATE = 0 → s.blk.image.verified = none →
      (c = .imgCmdWriteBank ∧ s.blk.mode ∈ [6, 7, 10, 11]) ∨ ((∃ n, c = .imgCmdSliceReload n) ∧ s.blk.mode ∈ [6, 7, 10]) ∨
        (c = .imgCmdGoldenWrite ∧ s.blk.mode = 10) →
    ∃ t, exec c s = .next t ∧ t.blk.get R.IMG_ERR_CAUSE = 0x13 ∧ t.blk.get R.IMG_ERR_SEGMENT = 0xFF ∧
      s.Keeps t [R.IMG_ERR_CAUSE, R.IMG_ERR_SEGMENT] []) ∧
  (∀ s : State, s.blk.reachable = true → s.blk.get R.IMG_STAT_STATE = 0 →
    ∃ t, exec .imgCmdNop s = .next t ∧ s.Keeps t [] []) ∧
  (∀ s : State, s.blk.mode ∈ [6, 7, 10, 11] → s.blk.get R.IMG_STAT_STATE = 0 →
    ∃ t, exec .imgCmdVerifyStaged s = .next t ∧ t.blk.image = { s.blk.image with job := .verify, verified := none } ∧
      t.blk.get R.IMG_STAT_STATE = 1 ∧ t.blk.get R.IMG_PROGRESS = 0 ∧
      s.Keeps t [R.IMG_STAT_STATE, R.IMG_PROGRESS] [.image]) ∧
  (∀ s : State, s.blk.running = true → s.blk.image.job = .verify →
    ∃ t, exec (.verifyStagedDone true) s = .next t ∧ t.blk.get R.IMG_STAT_STATE = 0 ∧ t.blk.image.job = .none ∧
      (s.blk.stagedVerdict s.otp s.blk.stagedBytes = none →
        t.blk.image = { s.blk.image with job := .none, verified := some (parseImage s.blk.stagedBytes) } ∧
        t.blk.get R.IMG_PROGRESS = s.blk.stagedBytes.length % 2 ^ R.IMG_PROGRESS.width ∧
        s.Keeps t [R.IMG_STAT_STATE, R.IMG_PROGRESS] [.image]) ∧
      s.Keeps t [R.IMG_STAT_STATE, R.IMG_PROGRESS, R.IMG_ERR_CAUSE, R.IMG_ERR_SEGMENT] [.image]) ∧
  (∀ (s : State) (cause seg : Nat), s.blk.running = true → s.blk.image.job = .verify →
      s.blk.stagedVerdict s.otp s.blk.stagedBytes = some (cause, seg) → cause < 256 → seg < 256 →
    ∃ t, exec (.verifyStagedDone true) s = .next t ∧ t.blk.get R.IMG_STAT_STATE = 0 ∧
      t.blk.image = { s.blk.image with job := .none } ∧ t.blk.get R.IMG_ERR_CAUSE = cause ∧ t.blk.get R.IMG_ERR_SEGMENT = seg ∧
      s.Keeps t [R.IMG_STAT_STATE, R.IMG_PROGRESS, R.IMG_ERR_CAUSE, R.IMG_ERR_SEGMENT] [.image]) ∧
  (∀ s : State, s.blk.running = true → s.blk.image.job = .verify →
    ∃ t, exec (.verifyStagedDone false) s = .next t ∧ t.blk.get R.IMG_STAT_STATE = 0 ∧
      t.blk.image = { s.blk.image with job := .none } ∧ t.blk.get R.IMG_ERR_CAUSE = 0x0D ∧ t.blk.get R.IMG_ERR_SEGMENT = 0xFF ∧
      t.blk.get R.TRB_DDR_UNCORR_COUNT = (s.blk.get R.TRB_DDR_UNCORR_COUNT + 1) % 2 ^ R.TRB_DDR_UNCORR_COUNT.width ∧
      s.Keeps t [R.IMG_STAT_STATE, R.IMG_PROGRESS, R.IMG_ERR_CAUSE, R.IMG_ERR_SEGMENT, R.TRB_DDR_UNCORR_COUNT] [.image]) ∧
  (∀ (s : State) (i : Image) (k : Bank), s.blk.mode ∈ [6, 7, 10, 11] → s.blk.get R.IMG_STAT_STATE = 0 →
      s.blk.image.verified = some i → i.golden = false → i.reload = false → s.blk.get R.IMG_STAT_RUN_TRIAL = 0 →
      s.blk.freeBank = some k →
    ∃ t, exec .imgCmdWriteBank s = .next t ∧ t.blk.image = { s.blk.image with job := .write k } ∧
      t.blk.get R.IMG_STAT_STATE = 2 ∧ t.blk.get R.IMG_PROGRESS = 0 ∧ s.Keeps t [R.IMG_STAT_STATE, R.IMG_PROGRESS] [.image]) ∧
  (∀ (s : State) (i : Image), s.blk.mode ∈ [6, 7, 10, 11] → s.blk.get R.IMG_STAT_STATE = 0 → s.blk.image.verified = some i →
      s.blk.get R.IMG_STAT_RUN_TRIAL = 1 →
    ∃ t, exec .imgCmdWriteBank s = .next t ∧ t.blk.get R.IMG_ERR_CAUSE = 0x12 ∧ s.Keeps t [R.IMG_ERR_CAUSE, R.IMG_ERR_SEGMENT] []) ∧
  (∀ (s : State) (i : Image), s.blk.mode ∈ [6, 7, 10, 11] → s.blk.get R.IMG_STAT_STATE = 0 → s.blk.image.verified = some i →
      s.blk.get R.IMG_STAT_RUN_TRIAL = 0 → i.golden = true ∨ i.reload = true →
    ∃ t, exec .imgCmdWriteBank s = .next t ∧ t.blk.get R.IMG_ERR_CAUSE = 0x04 ∧ s.Keeps t [R.IMG_ERR_CAUSE, R.IMG_ERR_SEGMENT] []) ∧
  (∀ (s : State) (k : Bank), s.blk.running = true → s.blk.image.job = .write k → k = .a ∨ k = .b →
    ∃ t, exec .writeBankDone s = .next t ∧ t.blk.bankBytes k = s.blk.stagedBytes ∧ t.blk.bankState k = 1 ∧
      (∀ j, j ≠ k → t.blk.bankBytes j = s.blk.bankBytes j ∧ t.blk.bankState j = s.blk.bankState j) ∧
      t.blk.get (if k = .a then R.IMG_SEQ_A else R.IMG_SEQ_B) = leAt s.blk.stagedBytes 0x14 4 ∧
      t.blk.get (if k = .a then R.IMG_SEQ_B else R.IMG_SEQ_A) = s.blk.get (if k = .a then R.IMG_SEQ_B else R.IMG_SEQ_A) ∧
      t.blk.get R.IMG_STAT_STATE = 0 ∧ t.blk.image.job = .none ∧ t.blk.trialStarted = s.blk.trialStarted ∧
      s.Keeps t [R.IMG_SEQ_A, R.IMG_SEQ_B, R.IMG_BANK_STATE_STATE_A, R.IMG_BANK_STATE_STATE_B, R.IMG_STAT_STATE, R.IMG_PROGRESS]
        [.image]) ∧
  (∀ (s : State) (i : Image), s.blk.mode = 10 → s.blk.get R.IMG_STAT_STATE = 0 → s.blk.image.verified = some i → i.golden = true →
    ∃ t, exec .imgCmdGoldenWrite s = .next t ∧ t.blk.image = { s.blk.image with job := .write .golden } ∧
      t.blk.get R.IMG_STAT_STATE = 2 ∧ t.blk.get R.IMG_PROGRESS = 0 ∧ s.Keeps t [R.IMG_STAT_STATE, R.IMG_PROGRESS] [.image]) ∧
  (∀ (s : State) (i : Image), s.blk.mode = 10 → s.blk.get R.IMG_STAT_STATE = 0 → s.blk.image.verified = some i → i.golden = false →
    ∃ t, exec .imgCmdGoldenWrite s = .next t ∧ t.blk.get R.IMG_ERR_CAUSE = 0x04 ∧ s.Keeps t [R.IMG_ERR_CAUSE, R.IMG_ERR_SEGMENT] []) ∧
  (∀ s : State, s.blk.running = true → s.blk.image.job = .write .golden →
    ∃ t, exec .goldenWriteDone s = .next t ∧ t.blk.bankBytes .golden = s.blk.stagedBytes ∧ t.blk.image.bankA = s.blk.image.bankA ∧
      t.blk.image.bankB = s.blk.image.bankB ∧ t.blk.get R.IMG_BANK_STATE_STATE_GOLDEN = 3 ∧ t.blk.get R.IMG_STAT_STATE = 0 ∧
      t.blk.image.job = .none ∧ s.Keeps t [R.IMG_BANK_STATE_STATE_GOLDEN, R.IMG_STAT_STATE, R.IMG_PROGRESS] [.image]) ∧
  (∀ (s : State) (c : Instr), s.blk.running = true → s.blk.image.job = .none →
      c ∈ [Instr.verifyStagedDone true, .verifyStagedDone false, .writeBankDone, .goldenWriteDone] →
    ∃ t, exec c s = .next t ∧ s.Keeps t [] []) ∧
  (∀ (s : State) (k : Bank), s.blk.mode ∈ [6, 7, 10, 11] → s.blk.get R.IMG_STAT_STATE = 0 →
      (k = .a ∧ s.blk.bankState .a = 1) ∨ (k = .b ∧ s.blk.bankState .b = 1 ∧ s.blk.bankState .a ≠ 1) →
      (∀ r ∈ s.blk.image.records, r.seq + 1 < 2 ^ 32) →
    ∃ t, exec .imgCmdArmTrial s = .next t ∧ t.blk.bankState k = 2 ∧ (∀ j, j ≠ k → t.blk.bankState j = s.blk.bankState j) ∧
      t.blk.trialStarted = false ∧ t.blk.image.job = s.blk.image.job ∧ (∀ j, t.blk.bankBytes j = s.blk.bankBytes j) ∧
      s.Keeps t [R.IMG_BANK_STATE_STATE_A, R.IMG_BANK_STATE_STATE_B] [.image]) ∧
  (∀ s : State, s.blk.mode ∈ [6, 7, 10, 11] → s.blk.get R.IMG_STAT_STATE = 0 → s.blk.bankState .a ≠ 1 → s.blk.bankState .b ≠ 1 →
    ∃ t, exec .imgCmdArmTrial s = .next t ∧ t.blk.get R.IMG_ERR_CAUSE = 0x14 ∧ s.Keeps t [R.IMG_ERR_CAUSE, R.IMG_ERR_SEGMENT] []) ∧
  (∀ (s : State) (k : Bank), s.blk.mode = 6 → s.blk.get R.IMG_STAT_STATE = 0 → s.blk.get R.IMG_STAT_RUN_TRIAL = 1 →
      s.blk.trialBank = some k → (∀ r ∈ s.blk.image.records, r.seq + 3 < 2 ^ 32) →
    ∃ t, exec .imgCmdConfirm s = .next t ∧ t.blk.bankState k = 3 ∧
      (∀ j, j ≠ k → j ≠ .golden → t.blk.bankState j = if s.blk.bankState j = 3 then 4 else s.blk.bankState j) ∧
      t.blk.get R.IMG_STAT_RUN_TRIAL = 0 ∧ t.blk.get R.IMG_TRIAL_LEFT = 0 ∧ t.blk.trialStarted = false ∧
      s.Keeps t [R.IMG_BANK_STATE_STATE_A, R.IMG_BANK_STATE_STATE_B, R.IMG_STAT_RUN_TRIAL, R.IMG_TRIAL_LEFT] [.image]) ∧
  (∀ s : State, s.blk.mode = 6 → s.blk.get R.IMG_STAT_STATE = 0 → s.blk.get R.IMG_STAT_RUN_TRIAL = 0 →
    ∃ t, exec .imgCmdConfirm s = .next t ∧ t.blk.get R.IMG_ERR_CAUSE = 0x14 ∧ s.Keeps t [R.IMG_ERR_CAUSE, R.IMG_ERR_SEGMENT] []) ∧
  (∀ (s : State) (i : Image), s.blk.mode = 6 → s.blk.get R.IMG_STAT_STATE = 0 → s.blk.image.run = some i →
      s.blk.bankState s.blk.runBank = 3 → s.blk.get R.IMG_STAT_RUN_MODIFIED = 0 → raiseCounters i s.otp.rollback ≠ s.otp.rollback →
    ∃ t, exec .imgCmdRollbackCommit s = .next t ∧ t.otp = { s.otp with rollback := raiseCounters i s.otp.rollback } ∧
      t.pending = s.pending ∧ s.blk.Keeps t.blk [] []) ∧
  (∀ (s : State) (i : Image), s.blk.mode = 6 → s.blk.get R.IMG_STAT_STATE = 0 → s.blk.image.run = some i →
      s.blk.bankState s.blk.runBank ≠ 3 ∨ s.blk.get R.IMG_STAT_RUN_MODIFIED = 1 →
    ∃ t, exec .imgCmdRollbackCommit s = .next t ∧ t.blk.get R.IMG_ERR_CAUSE = 0x12 ∧
      s.Keeps t [R.IMG_ERR_CAUSE, R.IMG_ERR_SEGMENT] []) ∧
  (∀ (s : State) (i : Image), s.blk.mode = 6 → s.blk.get R.IMG_STAT_STATE = 0 → s.blk.image.run = some i →
      s.blk.bankState s.blk.runBank = 3 → s.blk.get R.IMG_STAT_RUN_MODIFIED = 0 → raiseCounters i s.otp.rollback = s.otp.rollback →
    ∃ t, exec .imgCmdRollbackCommit s = .next t ∧ t.blk.get R.IMG_ERR_CAUSE = 0x14 ∧
      s.Keeps t [R.IMG_ERR_CAUSE, R.IMG_ERR_SEGMENT] []) ∧
  (∀ s : State, s.blk.reachable = true → s.blk.image.job = .none →
    ∃ t, exec .imgCmdAbort s = .next t ∧ s.Keeps t [] []) ∧
  (∀ s : State, s.blk.reachable = true → s.blk.image.job = .verify →
    ∃ t, exec .imgCmdAbort s = .next t ∧ t.blk.image = { s.blk.image with job := .none } ∧ t.blk.get R.IMG_STAT_STATE = 0 ∧
      s.Keeps t [R.IMG_STAT_STATE] [.image]) ∧
  (∀ (s : State) (k : Bank), s.blk.reachable = true → s.blk.image.job = .write k → k = .a ∨ k = .b →
    ∃ t, exec .imgCmdAbort s = .next t ∧ t.blk.bankBytes k = [] ∧ t.blk.bankState k = 0 ∧
      (∀ j, j ≠ k → t.blk.bankBytes j = s.blk.bankBytes j ∧ t.blk.bankState j = s.blk.bankState j) ∧
      t.blk.image.job = .none ∧ t.blk.get R.IMG_STAT_STATE = 0 ∧
      t.blk.get (if k = .a then R.IMG_SEQ_A else R.IMG_SEQ_B) = 0 ∧
      t.blk.get (if k = .a then R.IMG_SEQ_B else R.IMG_SEQ_A) = s.blk.get (if k = .a then R.IMG_SEQ_B else R.IMG_SEQ_A) ∧
      s.Keeps t [R.IMG_SEQ_A, R.IMG_SEQ_B, R.IMG_BANK_STATE_STATE_A, R.IMG_BANK_STATE_STATE_B, R.IMG_STAT_STATE] [.image]) ∧
  (∀ (s : State) (n k : Nat), s.blk.reachable = true → s.blk.image.job = .reloadPending n k → n < 8 →
    ∃ t, exec .imgCmdAbort s = .next t ∧ t.blk.image = { s.blk.image with job := .none } ∧ t.blk.get R.IMG_STAT_STATE = 0 ∧
      t.blk.get R.IMG_RELOAD_LAST_SLICE = n ∧ t.blk.get R.IMG_RELOAD_LAST_OK = 0 ∧
      s.Keeps t [R.IMG_STAT_STATE, R.IMG_RELOAD_LAST_SLICE, R.IMG_RELOAD_LAST_OK] [.image]) ∧
  (∀ s : State, s.blk.reachable = true → s.blk.image.job = .write .golden ∨ (∃ n k f, s.blk.image.job = .reloadRunning n k f) →
    ∃ t, exec .imgCmdAbort s = .next t ∧ t.blk.get R.IMG_ERR_CAUSE = 0x11 ∧ t.blk.get R.IMG_ERR_SEGMENT = 0xFF ∧
      s.Keeps t [R.IMG_ERR_CAUSE, R.IMG_ERR_SEGMENT] []) ∧
  (∀ (s : State) (v : Word), s.blk.reachable = true → s.blk.image.job = .none ∨ (∃ k, s.blk.image.job = .write k) →
    ∃ t, exec (.imgStageData v) s = .next t ∧ t.blk.image = { s.blk.image with
        stage := s.blk.image.stage.setNum (s.blk.get R.IMG_STAGE_OFFSET / 4 * 4) v.toNat 4, verified := none } ∧
      t.blk.get R.IMG_STAGE_OFFSET = (s.blk.get R.IMG_STAGE_OFFSET / 4 * 4 + 4) % 2 ^ R.IMG_STAGE_OFFSET.width ∧
      s.Keeps t [R.IMG_STAGE_OFFSET] [.image]) ∧
  (∀ (s : State) (v : Word), s.blk.reachable = true → s.blk.image.job = .verify ∨ (∃ n k, s.blk.image.job = .reloadPending n k) ∨
        (∃ n k f, s.blk.image.job = .reloadRunning n k f) →
    ∃ t, exec (.imgStageData v) s = .next t ∧
      t.blk.get R.IMG_STAGE_REFUSED = (s.blk.get R.IMG_STAGE_REFUSED + 1) % 2 ^ R.IMG_STAGE_REFUSED.width ∧
      s.Keeps t [R.IMG_STAGE_REFUSED] [])

/-- R99, R107–R110: a slice reload waits for its block boundary, holds the slice, and ends with the new schedules, or after a digest
failure with the old ones; faults of the slice wait for its end; a trial whose time is over ends in a reset with cause 5. It is stated of
each of these commands that it answers a next state: imgCmdSliceReload, sliceReloadStart, sliceReloadComplete, imageTrialExpiry. -/
def Obligations.ReloadsAndTrials : Prop :=
  (∀ (s : State) (p : Image), s.blk.mode ∈ [6, 7, 10] → s.blk.get R.IMG_STAT_STATE = 0 → s.blk.image.verified = some p →
      p.reload = true → p.reloadSlice < 8 → p.reloadSlice ≠ s.blk.supvSlice → leNum p.baseDigest = s.blk.get R.IMG_RUN_DIGEST →
      s.blk.get R.IMG_RELOAD_TICK_LO + 2 ^ 32 * s.blk.get R.IMG_RELOAD_TICK_HI ≤ s.blk.tick →
    ∃ t, exec (.imgCmdSliceReload p.reloadSlice) s = .next t ∧ t.blk.get R.IMG_STAT_STATE = 3 ∧ t.blk.get R.IMG_PROGRESS = 0 ∧
      t.blk.image = { s.blk.image with job := .reloadPending p.reloadSlice ((s.blk.tick / 25 + 1) * 25) } ∧
      s.Keeps t [R.IMG_STAT_STATE, R.IMG_PROGRESS] [.image]) ∧
  (∀ (s : State) (p : Image) (x : Nat), s.blk.mode ∈ [6, 7, 10] → s.blk.get R.IMG_STAT_STATE = 0 → s.blk.image.verified = some p →
      p.reload = true → p.reloadSlice < 8 → p.reloadSlice ≠ s.blk.supvSlice → leNum p.baseDigest = s.blk.get R.IMG_RUN_DIGEST →
      x = s.blk.get R.IMG_RELOAD_TICK_LO + 2 ^ 32 * s.blk.get R.IMG_RELOAD_TICK_HI → s.blk.tick < x →
    ∃ t k, exec (.imgCmdSliceReload p.reloadSlice) s = .next t ∧ t.blk.get R.IMG_STAT_STATE = 3 ∧ t.blk.get R.IMG_PROGRESS = 0 ∧
      t.blk.image = { s.blk.image with job := .reloadPending p.reloadSlice k } ∧ k % 25 = 0 ∧ x ≤ k ∧ k < x + 25 ∧
      s.Keeps t [R.IMG_STAT_STATE, R.IMG_PROGRESS] [.image]) ∧
  (∀ (s : State) (p : Image) (n : Nat), s.blk.mode ∈ [6, 7, 10] → s.blk.get R.IMG_STAT_STATE = 0 → s.blk.image.verified = some p →
      p.reload = false →
    ∃ t, exec (.imgCmdSliceReload n) s = .next t ∧ t.blk.get R.IMG_ERR_CAUSE = 0x04 ∧
      s.Keeps t [R.IMG_ERR_CAUSE, R.IMG_ERR_SEGMENT] []) ∧
  (∀ (s : State) (p : Image) (n : Nat), s.blk.mode ∈ [6, 7, 10] → s.blk.get R.IMG_STAT_STATE = 0 → s.blk.image.verified = some p →
      p.reload = true → n < 8 → n ≠ p.reloadSlice ∨ n = s.blk.supvSlice ∨ leNum p.baseDigest ≠ s.blk.get R.IMG_RUN_DIGEST →
    ∃ t, exec (.imgCmdSliceReload n) s = .next t ∧ t.blk.get R.IMG_ERR_CAUSE = 0x10 ∧
      s.Keeps t [R.IMG_ERR_CAUSE, R.IMG_ERR_SEGMENT] []) ∧
  (∀ (s : State) (n k : Nat) (i : Image), s.blk.running = true → s.blk.image.job = .reloadPending n k → s.blk.image.run = some i →
      k ≤ s.blk.tick → n < 8 →
    ∃ t, exec .sliceReloadStart s = .next t ∧ t.blk.image = { s.blk.image with job := .reloadRunning n k false } ∧
      t.blk.get R.IMG_STAT_STATE = 4 ∧ t.blk.get R.IMG_PROGRESS = 0 ∧ (t.blk.sliceState n).held = true ∧
      (t.blk.sliceState n).moves = i.moveTargets n ∧ (t.blk.sliceState n).fill = spindlesOf n ∧
      (∀ x ∈ i.suspended n, x ∈ (t.blk.sliceState n).shown) ∧ (∀ m, m ≠ n → t.blk.sliceState m = s.blk.sliceState m) ∧
      t.blk.trouble = { s.blk.trouble with
        windows := s.blk.trouble.windows.filter (fun w => ¬(w.cls ≤ 2 ∧ sliceOf w.inst = n)) } ∧
      (∀ f : Field, lostAtSliceReset n f.key (keepOf f.key) = true → t.blk.get f = Tab.get 0 resetRegs f.key % 2 ^ f.width) ∧
      (∀ f : Field, lostAtSliceReset n f.key (keepOf f.key) = false →
        f.key ∉ [R.IMG_STAT_STATE, R.IMG_PROGRESS, R.TRB_SUMMARY].map Field.key → t.blk.get f = s.blk.get f) ∧
      (∀ p, p ∉ [Part.image, .slices, .trouble] → p.same s.blk t.blk) ∧ t.otp = s.otp ∧ t.pending = s.pending) ∧
  (∀ (s : State) (n k : Nat), s.blk.running = true → s.blk.image.job = .reloadPending n k → s.blk.tick < k →
    ∃ t, exec .sliceReloadStart s = .next t ∧ s.Keeps t [] []) ∧
  (∀ (s : State) (n k : Nat) (p i : Image), s.blk.running = true → s.blk.image.job = .reloadRunning n k false →
      s.blk.image.verified = some p → s.blk.image.run = some i → k + 25 * s.blk.copyBlocks n ≤ s.blk.tick → n < 8 →
      (s.blk.sliceState n).pendingFaults = [] →
    ∃ t, exec (.sliceReloadComplete true) s = .next t ∧
      t.blk.image = { s.blk.image with job := .none, run := some (i.reloaded p), copy := some (i.reloaded p).runCopy } ∧
      t.blk.get R.IMG_STAT_STATE = 0 ∧
      t.blk.get R.IMG_RUN_DIGEST = leNum (sha512 (leBytes (s.blk.get R.IMG_RUN_DIGEST) 64 ++ p.digest)) % 2 ^ R.IMG_RUN_DIGEST.width ∧
      t.blk.get R.IMG_STAT_RUN_MODIFIED = 1 ∧ t.blk.get R.IMG_RELOAD_LAST_SLICE = n ∧ t.blk.get R.IMG_RELOAD_LAST_OK = 1 ∧
      t.blk.get R.IMG_RELOAD_COUNT = (s.blk.get R.IMG_RELOAD_COUNT + 1) % 2 ^ R.IMG_RELOAD_COUNT.width ∧
      t.blk.get R.IMG_RELOAD_LAST_TICK_TAG = s.blk.tickTag % 2 ^ R.IMG_RELOAD_LAST_TICK_TAG.width ∧
      (t.blk.sliceState n).held = false ∧ (t.blk.sliceState n).failed = [] ∧ (t.blk.sliceState n).stopped = false ∧
      (t.blk.sliceState n).moves = [] ∧ (∀ m, m ≠ n → t.blk.sliceState m = s.blk.sliceState m) ∧
      s.Keeps t [R.IMG_RUN_DIGEST, R.IMG_STAT_RUN_MODIFIED, R.IMG_RELOAD_COUNT, R.IMG_RELOAD_LAST_SLICE, R.IMG_RELOAD_LAST_OK,
        R.IMG_RELOAD_LAST_TICK_TAG, R.IMG_STAT_STATE, R.IMG_PROGRESS] [.image, .slices]) ∧
  (∀ (s : State) (n k c x : Nat) (p i : Image), s.blk.running = true → s.blk.image.job = .reloadRunning n k false →
      s.blk.image.verified = some p → s.blk.image.run = some i → k + 25 * s.blk.copyBlocks n ≤ s.blk.tick → n < 8 →
      (s.blk.sliceState n).pendingFaults = [(c, x)] → c ≤ 2 → x < 512 → sliceOf x = n →
      s.blk.get (R.SLC_SPARE_SPARE_USED n) = 0 → (s.blk.sliceState n).spareLoad = none →
    ∃ t, exec (.sliceReloadComplete true) s = .next t ∧ t.blk.image.job = .none ∧
      (t.blk.sliceState n).spareLoad = some (x, s.blk.tick) ∧ x ∈ (t.blk.sliceState n).fill ∧
      (t.blk.sliceState n).pendingFaults = [] ∧ t.blk.get R.TRB_TROUBLE_SPINDLE_RETIRED = 1 ∧
      s.Keeps t ([R.IMG_RUN_DIGEST, R.IMG_STAT_RUN_MODIFIED, R.IMG_RELOAD_COUNT, R.IMG_RELOAD_LAST_SLICE, R.IMG_RELOAD_LAST_OK,
        R.IMG_RELOAD_LAST_TICK_TAG, R.IMG_STAT_STATE, R.IMG_PROGRESS, R.TRB_TROUBLE_SPINDLE_RETIRED] ++ recordFields)
        [.image, .slices, .records]) ∧
  (∀ (s : State) (n k : Nat) (p i : Image), s.blk.running = true → s.blk.image.job = .reloadRunning n k false →
      s.blk.image.verified = some p → s.blk.image.run = some i → k + 25 * s.blk.copyBlocks n ≤ s.blk.tick →
    ∃ t, exec (.sliceReloadComplete false) s = .next t ∧ t.blk.image = { s.blk.image with job := .reloadRunning n k true } ∧
      t.blk.get R.IMG_ERR_CAUSE = 0x0C ∧ s.Keeps t [R.IMG_ERR_CAUSE, R.IMG_ERR_SEGMENT] [.image]) ∧
  (∀ (s : State) (n k : Nat) (p i : Image) (ok : Bool), s.blk.running = true → s.blk.image.job = .reloadRunning n k true →
      s.blk.image.verified = some p → s.blk.image.run = some i → k + 2 * (25 * s.blk.copyBlocks n) ≤ s.blk.tick → n < 8 →
      (s.blk.sliceState n).pendingFaults = [] →
    ∃ t, exec (.sliceReloadComplete ok) s = .next t ∧ t.blk.image = { s.blk.image with job := .none } ∧
      t.blk.get R.IMG_STAT_STATE = 0 ∧ t.blk.get R.IMG_RELOAD_LAST_SLICE = n ∧ t.blk.get R.IMG_RELOAD_LAST_OK = 0 ∧
      (t.blk.sliceState n).held = false ∧ (t.blk.sliceState n).moves = [] ∧
      (∀ m, m ≠ n → t.blk.sliceState m = s.blk.sliceState m) ∧
      s.Keeps t [R.IMG_RELOAD_LAST_SLICE, R.IMG_RELOAD_LAST_OK, R.IMG_RELOAD_LAST_TICK_TAG, R.IMG_STAT_STATE] [.image, .slices]) ∧
  (∀ (s : State) (n k : Nat) (f ok : Bool), s.blk.running = true → s.blk.image.job = .reloadRunning n k f →
      s.blk.tick < k + (if f then 2 * (25 * s.blk.copyBlocks n) else 25 * s.blk.copyBlocks n) →
    ∃ t, exec (.sliceReloadComplete ok) s = .next t ∧ s.Keeps t [] []) ∧
  (∀ s : State, s.blk.mode = 6 → s.blk.get R.IMG_STAT_RUN_TRIAL = 1 → s.blk.get R.IMG_TRIAL_LEFT = 0 → s.blk.get R.IMG_TRIAL_LIMIT ≠ 0 →
      s.blk.warmNow = false ∨ s.blk.power.trialOver = false →
    ∃ t, exec .imageTrialExpiry s = .next t ∧ t.blk.mode = 2 ∧ t.blk.get R.PWR_MODE_PREV = 6 ∧ t.blk.get R.PWR_RESET_CAUSE = 5 ∧
      (∀ k, s.blk.trialBank = some k → s.blk.trialStarted = true → t.blk.bankState k = 5) ∧ t.otp = s.otp ∧
      t.pending = s.pending) ∧
  (∀ s : State, s.blk.running = true → s.blk.warmNow = true → s.blk.power.trialOver = true →
    ∃ t, exec .imageTrialExpiry s = .next t ∧ t.blk.get R.PWR_RESET_CAUSE = 5 ∧
      (t.blk.get R.PWR_WARM_RESET_COUNT + 1) % 2 ^ 64 = s.blk.get R.PWR_WARM_RESET_COUNT ∧
      s.Keeps t [R.PWR_RESET_CAUSE, R.PWR_WARM_RESET_COUNT] [.power]) ∧
  (∀ s : State, s.blk.running = true → s.blk.warmNow = false ∨ s.blk.power.trialOver = false →
      s.blk.mode ≠ 6 ∨ s.blk.get R.IMG_STAT_RUN_TRIAL = 0 ∨ s.blk.get R.IMG_TRIAL_LEFT ≠ 0 ∨ s.blk.get R.IMG_TRIAL_LIMIT = 0 →
    ∃ t, exec .imageTrialExpiry s = .next t ∧ s.Keeps t [] [])

/-- R14–R16, R468–R472: errors are counted in windows; one beyond the threshold is a lasting fault with its class action; the spare takes
over at a block boundary; ports return and DDR4 marks go on command. It is stated of each of these commands that it answers a next state:
ddr4Correction, spindleMemoryError, faultWindowClose, spareStart, ddrScrub, portReturn, ddrUnmark. -/
def Obligations.FaultActions : Prop :=
  (∀ (s : State) (d : Nat), s.blk.running = true → d < 36 →
      s.blk.trouble.windows.find? (fun w => w.cls = 4 ∧ w.inst = d) = none → 2 ≤ s.blk.trouble.clsWindow.getD 4 0 →
      1 ≤ s.blk.trouble.clsThresh.getD 4 0 →
    ∃ t, exec (.ddr4Correction d) s = .next t ∧ t.blk.trouble = { s.blk.trouble with windows := s.blk.trouble.windows ++
        [⟨4, d, 1, s.blk.tick, s.blk.trouble.clsWindow.getD 4 0, s.blk.trouble.clsThresh.getD 4 0⟩] } ∧ s.Keeps t [] [.trouble]) ∧
  (∀ (s : State) (d : Nat) (w : FaultWindow), s.blk.running = true → d < 36 →
      s.blk.trouble.windows.find? (fun w => w.cls = 4 ∧ w.inst = d) = some w → w.window ≠ 0 → w.thresh < w.count + 1 →
    ∃ t, exec (.ddr4Correction d) s = .next t ∧ t.blk.bit R.TRB_DDR_MARKED d = true ∧
      (∀ e, e < 36 → e ≠ d → t.blk.bit R.TRB_DDR_MARKED e = s.blk.bit R.TRB_DDR_MARKED e) ∧ t.blk.get R.TRB_TROUBLE_LASTING = 1 ∧
      t.blk.get R.TRB_TROUBLE_DDR_MARKED = 1 ∧ t.blk.get R.TRB_LAST_FAULT_CLASS = 4 ∧ t.blk.get R.TRB_LAST_FAULT_INSTANCE = d ∧
      t.blk.get R.TRB_LASTING_COUNT = (s.blk.get R.TRB_LASTING_COUNT + 1) % 2 ^ R.TRB_LASTING_COUNT.width ∧
      t.blk.trouble.windows.find? (fun w => w.cls = 4 ∧ w.inst = d) = none ∧
      s.Keeps t ([R.TRB_DDR_MARKED, R.TRB_TROUBLE_DDR_MARKED, R.TRB_LASTING_COUNT, R.TRB_TROUBLE_LASTING, R.TRB_LAST_FAULT_CLASS,
        R.TRB_LAST_FAULT_INSTANCE, R.TRB_LAST_FAULT_TICK_TAG] ++ recordFields) [.trouble, .records]) ∧
  (∀ (s : State) (d : Nat), s.blk.running = true → 36 ≤ d ∨ s.blk.trouble.windows.find? (fun w => w.cls = 4 ∧ w.inst = d) = none ∧
        s.blk.trouble.clsWindow.getD 4 0 = 0 →
    ∃ t, exec (.ddr4Correction d) s = .next t ∧ s.Keeps t [] []) ∧
  (∀ (s : State) (n : Nat), s.blk.running = true → n < 512 → s.blk.gated (sliceOf n) = false →
      s.blk.trouble.windows.find? (fun w => w.cls = 2 ∧ w.inst = n) = none → 2 ≤ s.blk.trouble.clsWindow.getD 2 0 →
      1 ≤ s.blk.trouble.clsThresh.getD 2 0 →
    ∃ t, exec (.spindleMemoryError n true) s = .next t ∧
      t.blk.get (R.CLC_MEM_CORR_COUNT (sliceOf n) (clusterOf n)) =
        (s.blk.get (R.CLC_MEM_CORR_COUNT (sliceOf n) (clusterOf n)) + 1) % 2 ^ 64 ∧
      t.blk.trouble = { s.blk.trouble with windows := s.blk.trouble.windows ++
        [⟨2, n, 1, s.blk.tick, s.blk.trouble.clsWindow.getD 2 0, s.blk.trouble.clsThresh.getD 2 0⟩] } ∧
      s.Keeps t [R.CLC_MEM_CORR_COUNT (sliceOf n) (clusterOf n)] [.trouble]) ∧
  (∀ (s : State) (n : Nat) (w : FaultWindow), s.blk.running = true → n < 512 → s.blk.gated (sliceOf n) = false →
      s.blk.trouble.windows.find? (fun w => w.cls = 2 ∧ w.inst = n) = some w → w.window ≠ 0 → w.thresh < w.count + 1 →
      s.blk.underReload (sliceOf n) = false → (s.blk.sliceState (sliceOf n)).spareLoad = none →
      n % 64 ∉ (s.blk.sliceState (sliceOf n)).failed → s.blk.get (R.SLC_SPARE_SPARE_USED (sliceOf n)) = 0 →
    ∃ t, exec (.spindleMemoryError n true) s = .next t ∧ (t.blk.sliceState (sliceOf n)).spareLoad = some (n, s.blk.tick) ∧
      n ∈ (t.blk.sliceState (sliceOf n)).fill ∧ t.blk.get R.TRB_TROUBLE_SPINDLE_RETIRED = 1 ∧ t.blk.get R.TRB_TROUBLE_LASTING = 1 ∧
      t.blk.get R.TRB_LAST_FAULT_CLASS = 2 ∧ t.blk.get R.TRB_LAST_FAULT_INSTANCE = n ∧
      t.blk.trouble.windows.find? (fun w => w.cls = 2 ∧ w.inst = n) = none ∧
      s.Keeps t ([R.CLC_MEM_CORR_COUNT (sliceOf n) (clusterOf n), R.TRB_TROUBLE_SPINDLE_RETIRED, R.TRB_LASTING_COUNT,
        R.TRB_TROUBLE_LASTING, R.TRB_LAST_FAULT_CLASS, R.TRB_LAST_FAULT_INSTANCE, R.TRB_LAST_FAULT_TICK_TAG] ++ recordFields)
        [.trouble, .slices, .records]) ∧
  (∀ (s : State) (n : Nat) (w : FaultWindow), s.blk.running = true → n < 512 → s.blk.gated (sliceOf n) = false →
      s.blk.trouble.windows.find? (fun w => w.cls = 2 ∧ w.inst = n) = some w → w.window ≠ 0 → w.thresh < w.count + 1 →
      s.blk.underReload (sliceOf n) = false → (s.blk.sliceState (sliceOf n)).spareLoad = none →
      n % 64 ∉ (s.blk.sliceState (sliceOf n)).failed → s.blk.get (R.SLC_SPARE_SPARE_USED (sliceOf n)) = 1 →
    ∃ t, exec (.spindleMemoryError n true) s = .next t ∧ t.blk.bit (R.SLC_SPINDLE_FAILED (sliceOf n)) (n % 64) = true ∧
      n % 64 ∈ (t.blk.sliceState (sliceOf n)).failed ∧ n ∈ (t.blk.sliceState (sliceOf n)).fill ∧
      (s.blk.altStructure (sliceOf n) = true → (t.blk.sliceState (sliceOf n)).alternate = true ∧
        (t.blk.sliceState (sliceOf n)).stopped = (s.blk.sliceState (sliceOf n)).stopped) ∧
      (s.blk.altStructure (sliceOf n) = false → (t.blk.sliceState (sliceOf n)).stopped = true ∧
        (t.blk.sliceState (sliceOf n)).fill = spindlesOf (sliceOf n) ∧ t.blk.get R.TRB_TROUBLE_SLICE_STOPPED = 1) ∧
      s.Keeps t ([R.CLC_MEM_CORR_COUNT (sliceOf n) (clusterOf n), R.SLC_SPINDLE_FAILED (sliceOf n), R.TRB_TROUBLE_SLICE_STOPPED,
        R.TRB_LASTING_COUNT, R.TRB_TROUBLE_LASTING, R.TRB_LAST_FAULT_CLASS, R.TRB_LAST_FAULT_INSTANCE, R.TRB_LAST_FAULT_TICK_TAG] ++
        recordFields) [.trouble, .slices, .records]) ∧
  (∀ (s : State) (n : Nat), s.blk.running = true → n < 512 → s.blk.gated (sliceOf n) = false →
    ∃ t, exec (.spindleMemoryError n false) s = .next t ∧ n ∈ (t.blk.sliceState (sliceOf n)).fill ∧
      (t.blk.sliceState (sliceOf n)).pendingFaults = (s.blk.sliceState (sliceOf n)).pendingFaults ++ [(2, n)] ∧
      t.blk.get R.TRB_TROUBLE_LASTING = 1 ∧ t.blk.get R.TRB_LAST_FAULT_INSTANCE = n ∧ t.blk.get R.TRB_LAST_FAULT_CLASS = 2 ∧
      t.blk.trouble.windows.find? (fun w => w.cls = 2 ∧ w.inst = n) = none ∧
      s.Keeps t ([R.TRB_LASTING_COUNT, R.TRB_TROUBLE_LASTING, R.TRB_LAST_FAULT_CLASS, R.TRB_LAST_FAULT_INSTANCE,
        R.TRB_LAST_FAULT_TICK_TAG] ++ recordFields) [.trouble, .slices, .records]) ∧
  (∀ (s : State) (n : Nat) (corrected : Bool), s.blk.running = true → s.blk.gated (sliceOf n) = true →
    ∃ t, exec (.spindleMemoryError n corrected) s = .next t ∧ s.Keeps t [] []) ∧
  (∀ (s : State) (c n : Nat) (w : FaultWindow), s.blk.running = true →
      s.blk.trouble.windows.find? (fun x => x.cls = c ∧ x.inst = n) = some w → w.openTick + w.window ≤ s.blk.tick →
    ∃ t, exec (.faultWindowClose c n) s = .next t ∧ t.blk.trouble = { s.blk.trouble with
        windows := s.blk.trouble.windows.filter (fun x => ¬(x.cls = c ∧ x.inst = n)) } ∧ s.Keeps t [] [.trouble]) ∧
  (∀ (s : State) (c n : Nat), s.blk.running = true → (∀ w,
        s.blk.trouble.windows.find? (fun x => x.cls = c ∧ x.inst = n) = some w → s.blk.tick < w.openTick + w.window) →
    ∃ t, exec (.faultWindowClose c n) s = .next t ∧ s.Keeps t [] []) ∧
  (∀ (s : State) (n m k : Nat), s.blk.running = true → n < 8 → (s.blk.sliceState n).spareLoad = some (m, k) → s.blk.tick % 25 = 0 →
      k < s.blk.tick →
    ∃ t, exec (.spareStart n) s = .next t ∧ (t.blk.sliceState n).spareLoad = none ∧ m ∉ (t.blk.sliceState n).fill ∧
      64 ∈ (t.blk.sliceState n).loaded ∧ (∀ e ∈ (t.blk.sliceState n).dbg, dbgOf 64 e.1 = false) ∧
      (∀ j, j ≠ n → t.blk.sliceState j = s.blk.sliceState j) ∧ t.blk.get (R.SLC_SPARE_SPARE_USED n) = 1 ∧
      t.blk.get (R.SLC_SPARE_SPARE_FOR n) = m % 2 ^ (R.SLC_SPARE_SPARE_FOR n).width ∧
      (∀ w ∈ t.blk.trouble.windows, w.cls ≤ 2 → w.inst ≠ m) ∧
      s.Keeps t [R.SLC_SPARE_SPARE_USED n, R.SLC_SPARE_SPARE_FOR n] [.slices, .trouble]) ∧
  (∀ (s : State) (n : Nat), s.blk.running = true →
      (∀ m k, (s.blk.sliceState n).spareLoad = some (m, k) → s.blk.tick % 25 ≠ 0 ∨ s.blk.tick ≤ k) →
    ∃ t, exec (.spareStart n) s = .next t ∧ s.Keeps t [] []) ∧
  (∀ s : State, s.blk.running = true →
      s.blk.trouble.scrubTick + 90000000 * (if s.blk.get R.TRB_DDR_MARKED = 0 then 24 else 1) ≤ s.blk.tick →
    ∃ t, exec .ddrScrub s = .next t ∧
      t.blk.trouble = { s.blk.trouble with scrubs := s.blk.trouble.scrubs + 1, scrubTick := s.blk.tick } ∧ s.Keeps t [] [.trouble]) ∧
  (∀ s : State, s.blk.running = true →
      s.blk.tick < s.blk.trouble.scrubTick + 90000000 * (if s.blk.get R.TRB_DDR_MARKED = 0 then 24 else 1) →
    ∃ t, exec .ddrScrub s = .next t ∧ s.Keeps t [] []) ∧
  (∀ (s : State) (mask : Nat), s.blk.reachable = true →
    ∃ t, exec (.portReturn mask) s = .next t ∧
      (∀ p, p < 4 → t.blk.bit R.TRB_PORT_FAILED p = (s.blk.bit R.TRB_PORT_FAILED p && !mask.testBit p)) ∧
      (∀ p, p < 4 → mask.testBit p = true → s.blk.bit R.TRB_PORT_FAILED p = true →
        (s.blk.truUsed p = true → s.blk.truRunning p = false → t.blk.bit R.TRU_DUE p = true) ∧
        (p < 3 → s.blk.truUsed (p + 4) = true → s.blk.truRunning (p + 4) = false → t.blk.bit R.TRU_DUE (p + 4) = true) ∧
        (p ∈ t.blk.front.returning ↔ t.blk.truPending p = true ∨ t.blk.truPending (p + 4) = true)) ∧
      s.Keeps t [R.TRB_PORT_FAILED, R.TRU_DUE] [.front, .truing]) ∧
  (∀ (s : State) (mask : Nat), s.blk.reachable = true →
    ∃ t, exec (.ddrUnmark mask) s = .next t ∧
      (∀ d, d < 36 → t.blk.bit R.TRB_DDR_MARKED d = (s.blk.bit R.TRB_DDR_MARKED d && !mask.testBit d)) ∧
      s.Keeps t [R.TRB_DDR_MARKED] [])

/-- R474, R476, R477: a local snapshot is scheduled or missed; a network one is refused except at the coordinator and far enough ahead; at
its boundary the counters and the tag are copied, or it is missed. It is stated of each of these commands that it answers a next state:
snapCmdLocal, snapCmdNetwork, snapshotTake. -/
def Obligations.Snapshots : Prop :=
  (∀ (s : State) (x : Nat), s.blk.reachable = true → x = unstampWords (s.blk.get R.TRB_SNAP_T) → x = 0 ∨ s.blk.tickStart ≤ x →
    ∃ t, exec .snapCmdLocal s = .next t ∧ t.blk.trouble = { s.blk.trouble with localSnap := some { id := 0, t := x } } ∧
      t.blk.get R.TRB_SNAP_STAT_SCHEDULED = 1 ∧ s.Keeps t [R.TRB_SNAP_STAT_SCHEDULED, R.TRB_SNAP_STAT_SCHED_ID] [.trouble]) ∧
  (∀ (s : State) (x : Nat), s.blk.reachable = true → x = unstampWords (s.blk.get R.TRB_SNAP_T) → x ≠ 0 → x < s.blk.tickStart →
    ∃ t, exec .snapCmdLocal s = .next t ∧ t.blk.get R.TRB_TROUBLE_SNAP_MISSED = 1 ∧
      t.blk.get R.TRB_SNAP_MISSED_COUNT = (s.blk.get R.TRB_SNAP_MISSED_COUNT + 1) % 2 ^ R.TRB_SNAP_MISSED_COUNT.width ∧
      s.Keeps t (R.TRB_SNAP_MISSED_COUNT :: R.TRB_TROUBLE_SNAP_MISSED :: recordFields) [.records]) ∧
  (∀ (s : State) (x : Nat), s.blk.reachable = true → x = unstampWords (s.blk.get R.TRB_SNAP_T) →
      s.blk.coordinator = false ∨ x = 0 ∨ x < s.blk.now + s.blk.twoPeriods →
    ∃ t, exec .snapCmdNetwork s = .next t ∧ t.blk.get R.TRB_TROUBLE_SNAP_REFUSED = 1 ∧
      s.Keeps t (R.TRB_TROUBLE_SNAP_REFUSED :: recordFields) [.records]) ∧
  (∀ (s : State) (x : Nat), s.blk.coordinator = true → s.blk.mode ≠ 9 → x = unstampWords (s.blk.get R.TRB_SNAP_T) → x ≠ 0 →
      s.blk.now + s.blk.twoPeriods ≤ x → s.blk.tickStart ≤ x → s.blk.trouble.taken = none → s.blk.trouble.netSnap = none →
    ∃ t f, exec .snapCmdNetwork s = .next t ∧ t.blk.trouble.netSnap = some { id := (s.blk.trouble.snapId + 1) % 65536, t := x } ∧
      t.blk.trouble.snapId = (s.blk.trouble.snapId + 1) % 65536 ∧ t.blk.get R.TRB_SNAP_STAT_SCHEDULED = 1 ∧
      t.blk.get R.TRB_SNAP_STAT_SCHED_ID = (s.blk.trouble.snapId + 1) % 65536 ∧
      t.blk.mac.order = s.blk.mac.order ++ [f] ∧ f.hdr.dst = 0xFFFF ∧
      f.payload.drop 6 = [0x21, 0] ++ leBytes ((s.blk.trouble.snapId + 1) % 65536) 2 ++
        [0, 0] ++ leBytes (stamp96 x) 12 ∧
      s.Keeps t [R.TRB_SNAP_STAT_SCHEDULED, R.TRB_SNAP_STAT_SCHED_ID] [.trouble, .mac]) ∧
  (∀ (s : State) (q : SnapSched), s.blk.running = true → s.blk.mode ≠ 2 → s.blk.trouble.netSnap = some q →
      s.blk.trouble.localSnap = none → q.t < s.blk.tickStart + tickLen → s.blk.tickStart ≤ q.t ∨ q.t = 0 →
    ∃ t, exec .snapshotTake s = .next t ∧
      t.blk.trouble = { s.blk.trouble with netSnap := none, shadow := s.blk.counters, taken := some q.id } ∧
      t.blk.get R.TRB_SNAP_STAT_VALID = 1 ∧ t.blk.get R.TRB_SNAP_STAT_LOCAL = 0 ∧ t.blk.get R.TRB_SNAP_STAT_SCHEDULED = 0 ∧
      t.blk.get R.TRB_SNAP_TAG_SNAP_ID = q.id % 2 ^ R.TRB_SNAP_TAG_SNAP_ID.width ∧
      t.blk.get R.TRB_SNAP_TAG_TIM_STATE = s.blk.get R.TIM_STAT_STATE % 2 ^ R.TRB_SNAP_TAG_TIM_STATE.width ∧
      t.blk.get R.TRB_TAG_T = stampWords q.t % 2 ^ R.TRB_TAG_T.width ∧
      t.blk.get R.TRB_TAG_TICK = s.blk.tick % 2 ^ R.TRB_TAG_TICK.width ∧ t.blk.get R.TRB_TAG_BOUND = s.blk.get R.TIM_BOUND ∧
      t.blk.get R.TRB_TAG_EPOCH = s.blk.get R.CUS_EPOCH ∧
      t.blk.get R.TRB_SNAP_COUNT = (s.blk.get R.TRB_SNAP_COUNT + 1) % 2 ^ R.TRB_SNAP_COUNT.width ∧
      s.Keeps t [R.TRB_SNAP_TAG_SNAP_ID, R.TRB_SNAP_TAG_TIM_STATE, R.TRB_TAG_T, R.TRB_TAG_TICK, R.TRB_TAG_BOUND, R.TRB_TAG_EPOCH,
        R.TRB_SNAP_STAT_VALID, R.TRB_SNAP_STAT_LOCAL, R.TRB_SNAP_COUNT, R.TRB_SNAP_STAT_SCHEDULED] [.trouble]) ∧
  (∀ (s : State) (q : SnapSched), s.blk.running = true → s.blk.mode ≠ 2 → s.blk.trouble.localSnap = some q →
      s.blk.trouble.netSnap = none → q.t < s.blk.tickStart + tickLen → s.blk.tickStart ≤ q.t ∨ q.t = 0 →
    ∃ t, exec .snapshotTake s = .next t ∧
      t.blk.trouble = { s.blk.trouble with localSnap := none, shadow := s.blk.counters } ∧
      t.blk.get R.TRB_SNAP_STAT_VALID = 1 ∧ t.blk.get R.TRB_SNAP_STAT_LOCAL = 1 ∧ t.blk.get R.TRB_SNAP_STAT_SCHEDULED = 0 ∧
      t.blk.get R.TRB_TAG_T = stampWords q.t % 2 ^ R.TRB_TAG_T.width ∧
      s.Keeps t [R.TRB_SNAP_TAG_SNAP_ID, R.TRB_SNAP_TAG_TIM_STATE, R.TRB_TAG_T, R.TRB_TAG_TICK, R.TRB_TAG_BOUND, R.TRB_TAG_EPOCH,
        R.TRB_SNAP_STAT_VALID, R.TRB_SNAP_STAT_LOCAL, R.TRB_SNAP_COUNT, R.TRB_SNAP_STAT_SCHEDULED] [.trouble, .freeCtr]) ∧
  (∀ (s : State) (q : SnapSched), s.blk.running = true → s.blk.trouble.netSnap = some q → s.blk.trouble.localSnap = none →
      s.blk.tickStart + tickLen ≤ q.t →
    ∃ t, exec .snapshotTake s = .next t ∧ t.blk.get R.TRB_SNAP_STAT_SCHEDULED = 1 ∧
      s.Keeps t [R.TRB_SNAP_STAT_SCHEDULED, R.TRB_SNAP_STAT_SCHED_ID] []) ∧
  (∀ (s : State) (q : SnapSched), s.blk.trouble.netSnap = some q → s.blk.trouble.localSnap = none →
      s.blk.mode = 9 ∨ (s.blk.mode = 1 ∨ s.blk.mode = 2) ∧ q.t < s.blk.tickStart + tickLen →
    ∃ t, exec .snapshotTake s = .next t ∧ t.blk.trouble = { s.blk.trouble with netSnap := none } ∧
      t.blk.get R.TRB_TROUBLE_SNAP_MISSED = 1 ∧
      t.blk.get R.TRB_SNAP_MISSED_COUNT = (s.blk.get R.TRB_SNAP_MISSED_COUNT + 1) % 2 ^ R.TRB_SNAP_MISSED_COUNT.width ∧
      s.Keeps t ([R.TRB_SNAP_MISSED_COUNT, R.TRB_TROUBLE_SNAP_MISSED, R.TRB_SNAP_STAT_SCHEDULED] ++ recordFields)
        [.trouble, .records])

/-- R482, R486, R488, R491, R492: an OTP command writes OTP only when it is accepted and is refused otherwise; BAR and UNBAR change the
bar list at the coordinator alone; ATTEST builds one report at a time. It is stated of each of these commands that it answers a next
state: secCmdNop, secCmdEnrollOwner, secCmdRevokeOwner, secCmdRevokeVendor, secCmdEpochAdvance, secCmdBar, secCmdUnbar, secCmdAttest,
attestDone. -/
def Obligations.SecurityCommands : Prop :=
  (∀ s : State,
    ∃ t, exec .secCmdNop s = .next t ∧ s.Keeps t [] []) ∧
  (∀ (s : State) (n c : Nat), s.blk.reachable = true → n < 4 →
    ∃ t, exec (.secCmdEnrollOwner n c) s = .next t ∧
      (s.blk.enrollOk s.otp n c = true → t.otp = { s.otp with owner := s.otp.owner.set n (some (s.blk.secStage.take 32)) } ∧
        t.blk.get R.SEC_CMD_STAT_STATE = 2 ∧ s.blk.Keeps t.blk [R.SEC_CMD_STAT_STATE] []) ∧
      (s.blk.enrollOk s.otp n c = false → t.blk.get R.SEC_CMD_STAT_STATE = 3 ∧ t.blk.get R.SEC_TROUBLE_OTP_REFUSED = 1 ∧
        s.Keeps t (R.SEC_CMD_STAT_STATE :: R.SEC_TROUBLE_OTP_REFUSED :: recordFields) [.records])) ∧
  (∀ (s : State) (n c : Nat), s.blk.reachable = true → n < 4 →
    ∃ t, exec (.secCmdRevokeOwner n c) s = .next t ∧
      (s.blk.revokeOwnerOk s.otp n c = true → t.otp = { s.otp with ownerRevoked := s.otp.ownerRevoked.set n true } ∧
        t.blk.get R.SEC_CMD_STAT_STATE = 2 ∧ s.blk.Keeps t.blk [R.SEC_CMD_STAT_STATE] []) ∧
      (s.blk.revokeOwnerOk s.otp n c = false → t.blk.get R.SEC_CMD_STAT_STATE = 3 ∧ t.blk.get R.SEC_TROUBLE_OTP_REFUSED = 1 ∧
        s.Keeps t (R.SEC_CMD_STAT_STATE :: R.SEC_TROUBLE_OTP_REFUSED :: recordFields) [.records])) ∧
  (∀ (s : State) (n c : Nat), s.blk.reachable = true → n < 2 →
    ∃ t, exec (.secCmdRevokeVendor n c) s = .next t ∧
      (s.blk.revokeVendorOk s.otp n c = true → t.otp = { s.otp with vendorRevoked := s.otp.vendorRevoked.set n true } ∧
        t.blk.get R.SEC_CMD_STAT_STATE = 2 ∧ s.blk.Keeps t.blk [R.SEC_CMD_STAT_STATE] []) ∧
      (s.blk.revokeVendorOk s.otp n c = false → t.blk.get R.SEC_CMD_STAT_STATE = 3 ∧ t.blk.get R.SEC_TROUBLE_OTP_REFUSED = 1 ∧
        s.Keeps t (R.SEC_CMD_STAT_STATE :: R.SEC_TROUBLE_OTP_REFUSED :: recordFields) [.records])) ∧
  (∀ (s : State) (n c : Nat), c ≠ 0xA5C3 → s.blk.enrollOk s.otp n c = false ∧ s.blk.revokeOwnerOk s.otp n c = false ∧
      s.blk.revokeVendorOk s.otp n c = false) ∧
  (∀ (s : State) (e : Nat) (k master : List Byte), s.blk.coordinator = true → s.blk.mode ≠ 9 → s.blk.sec.cur = some (e, k) →
      s.blk.sec.master = some master →
    ∃ t k', exec .secCmdEpochAdvance s = .next t ∧ t.blk.sec.next = some ((e + 1) % 16, k') ∧ t.blk.get R.SEC_CMD_STAT_STATE = 2 ∧
      t.blk.sec.cur = s.blk.sec.cur ∧ t.blk.sec.prev = s.blk.sec.prev ∧ t.blk.sec.advanceTick = s.blk.tick ∧
      t.blk.sec.switchRev = some s.blk.switchRev ∧ s.Keeps t (R.SEC_CMD_STAT_STATE :: secStatFields) [.mac, .sec, .freeCtr]) ∧
  (∀ (s : State) (c : Instr), c ∈ [Instr.secCmdEpochAdvance, .secCmdBar, .secCmdUnbar] → s.blk.reachable = true →
      s.blk.coordinator = false →
    ∃ t, exec c s = .next t ∧ t.blk.get R.SEC_CMD_STAT_STATE = 3 ∧ s.Keeps t [R.SEC_CMD_STAT_STATE] []) ∧
  (∀ (s : State) (i e : Nat) (k master : List Byte), s.blk.coordinator = true → s.blk.mode ≠ 9 → s.blk.stagedEui ≠ 0 →
      s.blk.barIndex s.blk.stagedEui = none → s.blk.barIndex 0 = some i → s.blk.sec.cur = some (e, k) → s.blk.sec.master = some master →
    ∃ t, exec .secCmdBar s = .next t ∧ t.blk.get (R.SEC_BAR_LO i) + 2 ^ 32 * t.blk.get (R.SEC_BAR_HI i) = s.blk.stagedEui ∧
      (∃ k', t.blk.sec.next = some ((e + 1) % 16, k')) ∧ t.blk.get R.SEC_CMD_STAT_STATE = 2 ∧
      s.Keeps t (R.SEC_BAR_LO i :: R.SEC_BAR_HI i :: R.SEC_CMD_STAT_STATE :: secStatFields) [.mac, .sec, .freeCtr]) ∧
  (∀ (s : State) (i : Nat), s.blk.coordinator = true → s.blk.mode ≠ 9 → s.blk.barIndex s.blk.stagedEui = some i →
    ∃ t, exec .secCmdUnbar s = .next t ∧ t.blk.get (R.SEC_BAR_LO i) = 0 ∧ t.blk.get (R.SEC_BAR_HI i) = 0 ∧
      t.blk.get R.SEC_CMD_STAT_STATE = 2 ∧ s.Keeps t [R.SEC_BAR_LO i, R.SEC_BAR_HI i, R.SEC_CMD_STAT_STATE] []) ∧
  (∀ s : State, s.blk.coordinator = true → s.blk.mode ≠ 9 → s.blk.stagedEui ≠ 0 → s.blk.barIndex s.blk.stagedEui = none →
      s.blk.barIndex 0 = none →
    ∃ t, exec .secCmdBar s = .next t ∧ t.blk.get R.SEC_CMD_STAT_STATE = 3 ∧ t.blk.get R.SEC_TROUBLE_OTP_REFUSED = 1 ∧
      s.Keeps t (R.SEC_CMD_STAT_STATE :: R.SEC_TROUBLE_OTP_REFUSED :: recordFields) [.records]) ∧
  (∀ s : State, 3 ≤ s.blk.mode → s.blk.mode ≠ 9 → s.blk.sec.report = none →
    ∃ t, exec .secCmdAttest s = .next t ∧ t.blk.sec.report = some (s.blk.attestation s.otp) ∧ t.blk.get R.SEC_CMD_STAT_STATE = 1 ∧
      s.Keeps t [R.SEC_CMD_STAT_STATE] [.sec]) ∧
  (∀ s : State, s.blk.mode = 2 →
    ∃ t, exec .secCmdAttest s = .next t ∧ t.blk.get R.SEC_CMD_STAT_STATE = 3 ∧ s.Keeps t [R.SEC_CMD_STAT_STATE] []) ∧
  (∀ s : State, 3 ≤ s.blk.mode → s.blk.mode ≠ 9 → s.blk.sec.report.isSome = true →
    ∃ t, exec .secCmdAttest s = .next t ∧ t.blk.get R.SEC_CMD_STAT_STATE = 3 ∧ t.blk.get R.SEC_TROUBLE_ATTEST_BUSY = 1 ∧
      s.Keeps t (R.SEC_CMD_STAT_STATE :: R.SEC_TROUBLE_ATTEST_BUSY :: recordFields) [.records]) ∧
  (∀ (s : State) (r : List Byte), s.blk.running = true → s.blk.sec.report = some r →
    ∃ t, exec .attestDone s = .next t ∧ t.blk.sec = { s.blk.sec with report := none } ∧ t.blk.get R.SEC_CMD_STAT_STATE = 2 ∧
      t.blk.get R.SEC_REPORT = leNum (r ++ edSign Config.deviceKey r) % 2 ^ R.SEC_REPORT.width ∧
      t.blk.get R.SEC_REPORT_LEN = (r ++ edSign Config.deviceKey r).length % 2 ^ R.SEC_REPORT_LEN.width ∧
      s.Keeps t [R.SEC_REPORT, R.SEC_REPORT_LEN, R.SEC_CMD_STAT_STATE] [.sec])

/-- R250, R344, R385, R436, R475, R478, R498: a write of a select register latches the view of the entry that it names, for the path that
writes it; R208, R288 likewise. A value that its table refuses changes nothing. It is stated of each of these commands that it answers a
next state: qmgSelWrite, cusSelWrite, timLinkSelWrite, phyLqPeerWrite, macPeerSelWrite, trbShdAddrWrite, trbClassSelWrite, truBlkSelWrite.
-/
def Obligations.ViewLatches : Prop :=
  (∀ (s : State) (p : Path) (v : Word), s.blk.reachable = true →
    ∃ t, exec (.qmgSelWrite p v) s = .next t ∧ t.blk.get R.QMG_SEL = v.toNat % 4096 ∧
      (∀ e ∈ s.blk.queueView (v.toNat % 4096), t.blk.viewRead p e.1 = e.2 % 2 ^ 32) ∧ s.Keeps t [R.QMG_SEL] [p.part]) ∧
  (∀ (s : State) (p : Path) (v : Word), s.blk.reachable = true → v.toNat % 2048 ≤ 1023 →
    ∃ t, exec (.cusSelWrite p v) s = .next t ∧ t.blk.get R.CUS_SEL = v.toNat % 2048 ∧
      (∀ e ∈ s.blk.chanView (v.toNat % 2048), t.blk.viewRead p e.1 = e.2 % 2 ^ 32) ∧ s.Keeps t [R.CUS_SEL] [p.part]) ∧
  (∀ (s : State) (p : Path) (v : Word), 1023 < v.toNat % 2048 →
    ∃ t, exec (.cusSelWrite p v) s = .next t ∧ s.Keeps t [] []) ∧
  (∀ (s : State) (p : Path) (v : Word), s.blk.reachable = true → (s.blk.calRec (v.toNat % 256)).inUse = false →
    ∃ t, exec (.timLinkSelWrite p v) s = .next t ∧ t.blk.get R.TIM_LINK_SEL_INDEX = v.toNat % 256 ∧
      (∀ k, k < 18 → t.blk.viewRead p (0x40104 + 4 * k) = 0) ∧ s.Keeps t [R.TIM_LINK_SEL_INDEX] [p.part]) ∧
  (∀ (s : State) (p : Path) (v : Word) (c : CalRec), s.blk.reachable = true → s.blk.calRec (v.toNat % 256) = c → c.inUse = true →
    ∃ t, exec (.timLinkSelWrite p v) s = .next t ∧ t.blk.get R.TIM_LINK_SEL_INDEX = v.toNat % 256 ∧
      t.blk.viewRead p 0x40104 = c.peer % 2 ^ 32 ∧ t.blk.viewRead p 0x40108 = c.peer / 2 ^ 32 % 2 ^ 32 ∧
      (∀ e ∈ (s.blk.calView (v.toNat % 256)).1, e.1 ≠ 0x40128 → t.blk.viewRead p e.1 = e.2 % 2 ^ 32) ∧
      s.Keeps t [R.TIM_LINK_SEL_INDEX] [p.part, .freeCtr]) ∧
  (∀ (s : State) (p : Path) (v : Word), s.blk.reachable = true → s.blk.hasNode (v.toNat % 65536) = false →
    ∃ t, exec (.phyLqPeerWrite p v) s = .next t ∧ t.blk.viewRead p 0x70184 = 0x80008000 ∧ t.blk.viewRead p 0x7018C = 0x00FFFFFF ∧
      t.blk.get R.PHY_LQ_PEER_ADDR = v.toNat % 65536 ∧ s.Keeps t [R.PHY_LQ_PEER_ADDR, R.PHY_LQ_PEER_BAND] [p.part]) ∧
  (∀ (s : State) (p : Path) (v : Word), s.blk.reachable = true → s.blk.hasNode (v.toNat % 65536) = true →
    ∃ t, exec (.phyLqPeerWrite p v) s = .next t ∧ t.blk.get R.PHY_LQ_PEER_ADDR = v.toNat % 65536 ∧
      t.blk.get R.PHY_LQ_PEER_BAND = v.toNat / 65536 % 2 ∧
      (∀ e ∈ (s.blk.lqView v.toNat).1, e.1 ≠ 0x7018C → t.blk.viewRead p e.1 = e.2 % 2 ^ 32) ∧
      s.Keeps t [R.PHY_LQ_PEER_ADDR, R.PHY_LQ_PEER_BAND] [p.part, .freeCtr]) ∧
  (∀ (s : State) (p : Path) (v : Word), s.blk.reachable = true →
    ∃ t, exec (.macPeerSelWrite p v) s = .next t ∧ t.blk.get R.MAC_PEER_SEL_ADDR = v.toNat % 65536 ∧
      (∀ e ∈ s.blk.peerView v.toNat, t.blk.viewRead p e.1 = e.2 % 2 ^ 32) ∧
      s.Keeps t [R.MAC_PEER_SEL_ADDR, R.MAC_PEER_SEL_CLASS] [p.part]) ∧
  (∀ (s : State) (p : Path) (v : Word), s.blk.reachable = true →
    ∃ t, exec (.trbShdAddrWrite p v) s = .next t ∧ t.blk.get R.TRB_SHD_ADDR = v.toNat ∧
      (isCounter (8 * v.toNat) = true → t.blk.viewRead p 0x20034 = Tab.get 0 s.blk.trouble.shadow v.toNat % 2 ^ 32 ∧
        t.blk.viewRead p 0x2003C = 0) ∧
      (isCounter (8 * v.toNat) = false → t.blk.viewRead p 0x20034 = 0 ∧ t.blk.viewRead p 0x2003C = 1) ∧
      s.Keeps t [R.TRB_SHD_ADDR] [p.part]) ∧
  (∀ (s : State) (p : Path) (v : Word), s.blk.reachable = true → v.toNat % 8 ≤ 5 →
    ∃ t, exec (.trbClassSelWrite p v) s = .next t ∧ t.blk.get R.TRB_CLASS_SEL = v.toNat % 8 ∧
      t.blk.viewRead p 0x20020 = s.blk.trouble.clsWindow.getD (v.toNat % 8) 0 % 2 ^ 32 ∧
      t.blk.viewRead p 0x20024 = s.blk.trouble.clsThresh.getD (v.toNat % 8) 0 % 2 ^ 32 ∧ s.Keeps t [R.TRB_CLASS_SEL] [p.part]) ∧
  (∀ (s : State) (p : Path) (v : Word), s.blk.reachable = true → v.toNat % 16 ≤ 10 →
    ∃ t, exec (.truBlkSelWrite p v) s = .next t ∧ t.blk.get R.TRU_BLK_SEL = v.toNat % 16 ∧
      (∀ e ∈ s.blk.truView (v.toNat % 16), t.blk.viewRead p e.1 = e.2 % 2 ^ 32) ∧ s.Keeps t [R.TRU_BLK_SEL] [p.part]) ∧
  (∀ (s : State) (p : Path) (v : Word), 5 < v.toNat % 8 →
    ∃ t, exec (.trbClassSelWrite p v) s = .next t ∧ s.Keeps t [] []) ∧
  (∀ (s : State) (p : Path) (v : Word), 10 < v.toNat % 16 →
    ∃ t, exec (.truBlkSelWrite p v) s = .next t ∧ s.Keeps t [] []) ∧
  (∀ (s : State) (p : Path) (v : Word), s.blk.reachable = false →
    ∃ t, exec (.qmgSelWrite p v) s = .next t ∧ s.Keeps t [] [])

/-- R5, R6, R8, R473, R496–R498, R501, R502: a counter's low word latches its high word; reserved space reads 0 and is counted; a write
acts under its access code, is refused, or does not reach a gated slice; halting and the debug windows. It is stated of each of these
commands that it answers a next state: counterLowRead, reservedAccess, registerWrite, clcHaltWrite, debugStep, dbgMemDataAccess. -/
def Obligations.RegisterAccesses : Prop :=
  (∀ (s : State) (p : Path) (f : Field), s.blk.reachable = true → f ∈ [R.TRB_RECORD_COUNT, R.PWR_WDT_RESET_COUNT, R.QMG_LOST_COUNT] →
    ∃ t, exec (.counterLowRead p (BitVec.ofNat 32 (f.key / 8))) s = .next t ∧ t.blk.readData = s.blk.get f % 2 ^ 32 ∧
      t.blk.listedValue t.otp p (f.key / 8 + 4) = s.blk.get f / 2 ^ 32 % 2 ^ 32 ∧ s.Keeps t [] [.readData, p.part]) ∧
  (∀ (s : State) (a : Word) (n : Nat), s.blk.reachable = true → s.blk.gatedAt a.toNat = false → n ≠ 4 ∨ a.toNat % 4 ≠ 0 →
    ∃ t, exec (.reservedAccess a n false) s = .next t ∧ t.blk.readData = 0 ∧
      t.blk.get (ownerCounter a.toNat) = (s.blk.get (ownerCounter a.toNat) + 1) % 2 ^ (ownerCounter a.toNat).width ∧
      s.Keeps t [ownerCounter a.toNat] [.readData]) ∧
  (∀ (s : State) (n : Nat), s.blk.reachable = true →
    ∃ t, exec (.reservedAccess 0xB3000 n true) s = .next t ∧
      t.blk.get R.CUS_UNDEF_COUNT = (s.blk.get R.CUS_UNDEF_COUNT + 1) % 2 ^ 64 ∧ s.Keeps t [R.CUS_UNDEF_COUNT] []) ∧
  (∀ (s : State) (a : Word) (n : Nat) (w : Bool), s.blk.reachable = false →
    ∃ t, exec (.reservedAccess a n w) s = .next t ∧ s.Keeps t [] []) ∧
  (∀ (s : State) (p : Path) (v : Word), s.blk.reachable = true →
    ∃ t, exec (.registerWrite p 0x20004 v) s = .next t ∧ t.blk.get R.TRB_ALERT_MASK = v.toNat % 2 ^ 28 ∧
      s.Keeps t [R.TRB_ALERT_MASK] []) ∧
  (∀ (s : State) (p : Path) (v : Word), s.blk.reachable = true →
    ∃ t, exec (.registerWrite p 0x10004 v) s = .next t ∧
      t.blk.get R.PWR_TROUBLE_RATION_DELAY = (if v.toNat.testBit 0 then 0 else s.blk.get R.PWR_TROUBLE_RATION_DELAY % 2) ∧
      t.blk.get R.PWR_TROUBLE_MODE_REFUSED = (if v.toNat.testBit 1 then 0 else s.blk.get R.PWR_TROUBLE_MODE_REFUSED % 2) ∧
      t.blk.get R.PWR_TROUBLE_OVER_TEMP = (if v.toNat.testBit 2 then 0 else s.blk.get R.PWR_TROUBLE_OVER_TEMP % 2) ∧
      t.blk.get R.PWR_TROUBLE_VAUX_OVERLOAD = (if v.toNat.testBit 3 then 0 else s.blk.get R.PWR_TROUBLE_VAUX_OVERLOAD % 2) ∧
      t.blk.get R.PWR_TROUBLE_WDT_RESET = (if v.toNat.testBit 4 then 0 else s.blk.get R.PWR_TROUBLE_WDT_RESET % 2) ∧
      s.Keeps t [R.PWR_TROUBLE_RATION_DELAY, R.PWR_TROUBLE_MODE_REFUSED, R.PWR_TROUBLE_OVER_TEMP, R.PWR_TROUBLE_VAUX_OVERLOAD,
        R.PWR_TROUBLE_WDT_RESET] []) ∧
  (∀ (s : State) (p : Path) (v : Word), s.blk.reachable = true → 10 ≤ v.toNat % 65536 → v.toNat % 65536 ≤ 60000 →
    ∃ t, exec (.registerWrite p 0x10014 v) s = .next t ∧ t.blk.get R.PWR_WDT_TIMEOUT = v.toNat % 65536 ∧
      s.Keeps t [R.PWR_WDT_TIMEOUT] []) ∧
  (∀ (s : State) (p : Path) (v : Word), v.toNat % 65536 < 10 ∨ 60000 < v.toNat % 65536 →
    ∃ t, exec (.registerWrite p 0x10014 v) s = .next t ∧ s.Keeps t [] []) ∧
  (∀ (s : State) (p : Path) (v : Word), s.blk.reachable = true →
    ∃ t, exec (.registerWrite p 0x20000 v) s = .next t ∧ s.Keeps t [] []) ∧
  (∀ (s : State) (p : Path) (v : Word), s.blk.reachable = true → 1000000000 ≤ v.toNat →
    ∃ t, exec (.registerWrite p 0x20048 v) s = .next t ∧
      t.blk.get R.TRB_UNDEF_COUNT = (s.blk.get R.TRB_UNDEF_COUNT + 1) % 2 ^ R.TRB_UNDEF_COUNT.width ∧ s.Keeps t [R.TRB_UNDEF_COUNT] []) ∧
  (∀ (s : State) (p : Path) (a v : Word), s.blk.reachable = true → s.blk.mode ≠ 10 → a.toNat % 4 = 0 → tableAt a.toNat = true →
    ∃ t, exec (.registerWrite p a v) s = .next t ∧
      t.blk.get R.MSH_UNDEF_COUNT = (s.blk.get R.MSH_UNDEF_COUNT + 1) % 2 ^ R.MSH_UNDEF_COUNT.width ∧ s.Keeps t [R.MSH_UNDEF_COUNT] []) ∧
  (∀ (s : State) (p : Path) (a v : Word), s.blk.reachable = false →
    ∃ t, exec (.registerWrite p a v) s = .next t ∧ s.Keeps t [] []) ∧
  (∀ (s : State) (p : Path) (a v : Word), s.blk.reachable = true → a.toNat % 4 = 0 → s.blk.gatedAt a.toNat = true →
    ∃ t, exec (.registerWrite p a v) s = .next t ∧
      t.blk.get R.GLB_UNDEF_COUNT = (s.blk.get R.GLB_UNDEF_COUNT + 1) % 2 ^ R.GLB_UNDEF_COUNT.width ∧ s.Keeps t [R.GLB_UNDEF_COUNT] []) ∧
  (∀ (s : State) (n k : Nat) (v : Word), s.blk.reachable = true → n < 8 → k < 4 → s.blk.gated n = false → s.blk.debugAllowed n = true →
    ∃ t, exec (.clcHaltWrite n k v) s = .next t ∧ t.blk.get (R.CLC_HALT n k) = v.toNat % 65536 ∧ s.Keeps t [R.CLC_HALT n k] []) ∧
  (∀ (s : State) (n k : Nat) (v : Word), s.blk.reachable = true → n < 8 → k < 4 → s.blk.gated n = false → s.blk.debugAllowed n = false →
    ∃ t, exec (.clcHaltWrite n k v) s = .next t ∧
      t.blk.get (R.SLC_UNDEF_COUNT n) = (s.blk.get (R.SLC_UNDEF_COUNT n) + 1) % 2 ^ 64 ∧ s.Keeps t [R.SLC_UNDEF_COUNT n] []) ∧
  (∀ (s : State) (n q : Nat), s.blk.reachable = true → n < 8 → q ≤ 64 → s.blk.gated n = false → s.blk.debugAllowed n = true →
      (s.blk.sliceState n).held = false → s.blk.dbgHalted n q = true →
    ∃ t, exec (.debugStep n q) s = .next t ∧
      (∀ w, w < 2 ^ 20 → Tab.get 0 (t.blk.sliceState n).dbg (dbgKey q w) = 0) ∧ q ∉ (t.blk.sliceState n).loaded ∧
      q ∉ (t.blk.sliceState n).atEntry ∧ (t.blk.sliceState n).sharedLoaded = false ∧
      (∀ r w, r ≠ q → w < 2 ^ 20 → Tab.get 0 (t.blk.sliceState n).dbg (dbgKey r w) = Tab.get 0 (s.blk.sliceState n).dbg (dbgKey r w)) ∧
      s.Keeps t [] [.slices]) ∧
  (∀ (s : State) (n q : Nat), s.blk.reachable = true → n < 8 → q ≤ 64 → s.blk.gated n = false →
      (s.blk.sliceState n).held = false → s.blk.debugAllowed n = false ∨ s.blk.dbgHalted n q = false →
    ∃ t, exec (.debugStep n q) s = .next t ∧
      t.blk.get (R.SLC_UNDEF_COUNT n) = (s.blk.get (R.SLC_UNDEF_COUNT n) + 1) % 2 ^ 64 ∧ s.Keeps t [R.SLC_UNDEF_COUNT n] []) ∧
  (∀ (s : State) (n q : Nat) (v : Word), s.blk.reachable = true → n < 8 → q ≤ 64 → s.blk.gated n = false → s.blk.debugAllowed n = true →
      (s.blk.sliceState n).held = false → s.blk.dbgHalted n q = true →
    ∃ t, exec (.dbgMemDataAccess n q (some v)) s = .next t ∧
      Tab.get 0 (t.blk.sliceState n).dbg (dbgKey q (0x1000 + s.blk.get (R.DBG_MEM_ADDR n q) / 4)) = v.toNat + 1 ∧
      t.blk.get (R.DBG_MEM_ADDR n q) = (s.blk.get (R.DBG_MEM_ADDR n q) / 4 * 4 + 4) % 65536 ∧
      s.Keeps t [R.DBG_MEM_ADDR n q] [.slices]) ∧
  (∀ (s : State) (n q v : Nat), s.blk.reachable = true → n < 8 → q ≤ 64 → s.blk.gated n = false → s.blk.debugAllowed n = true →
      (s.blk.sliceState n).held = false → s.blk.dbgHalted n q = true →
      Tab.get 0 (s.blk.sliceState n).dbg (dbgKey q (0x1000 + s.blk.get (R.DBG_MEM_ADDR n q) / 4)) = v + 1 →
    ∃ t, exec (.dbgMemDataAccess n q none) s = .next t ∧ t.blk.readData = v ∧
      t.blk.get (R.DBG_MEM_ADDR n q) = (s.blk.get (R.DBG_MEM_ADDR n q) / 4 * 4 + 4) % 65536 ∧
      s.Keeps t [R.DBG_MEM_ADDR n q] [.readData]) ∧
  (∀ (s : State) (n q : Nat) (i : Image), s.blk.reachable = true → n < 8 → q ≤ 64 → s.blk.gated n = false →
      s.blk.debugAllowed n = true → (s.blk.sliceState n).held = false → q ∈ (s.blk.sliceState n).loaded → s.blk.image.run = some i →
      Tab.get 0 (s.blk.sliceState n).dbg (dbgKey q (0x1000 + s.blk.get (R.DBG_MEM_ADDR n q) / 4)) = 0 →
    ∃ t, exec (.dbgMemDataAccess n q none) s = .next t ∧
      t.blk.readData = leAt (i.dataOf (s.blk.logicalOf n q)) (s.blk.get (R.DBG_MEM_ADDR n q) / 4 * 4) 4 ∧
      t.blk.get (R.DBG_MEM_ADDR n q) = (s.blk.get (R.DBG_MEM_ADDR n q) / 4 * 4 + 4) % 65536 ∧
      s.Keeps t [R.DBG_MEM_ADDR n q] [.readData]) ∧
  (∀ (s : State) (n q : Nat) (v : Option Word), s.blk.reachable = true → n < 8 → q ≤ 64 → s.blk.gated n = false →
      s.blk.debugAllowed n = false → (s.blk.sliceState n).held = false →
    ∃ t, exec (.dbgMemDataAccess n q v) s = .next t ∧
      t.blk.get (R.SLC_UNDEF_COUNT n) = (s.blk.get (R.SLC_UNDEF_COUNT n) + 1) % 2 ^ 64 ∧
      (v = none → t.blk.readData = 0) ∧ s.Keeps t [R.SLC_UNDEF_COUNT n] [.readData])

/-- R376, R377: a register request in sequence is executed, answered once and kept; a repeated one is not executed again; one after a gap
is not taken. R295, R440: a stale link loses its routes; SURVEY_MIN ends M4 once a candidate is there. It is stated of each of these
commands that it answers a next state: regRequest, surveyMinExpiry, linkAgeExpiry. -/
def Obligations.RequestsAndAges : Prop :=
  (∀ (s : State) (port : Nat) (msg : List Byte) (m : HostMsg), s.blk.regTakes port = true → s.blk.reachable = true →
      parseHost msg = some m → m.type = 7 → m.channel = 0xFFFF →
      serialAbove 32 m.seq s.blk.custody.regc.accepted = true → m.seq = (s.blk.custody.regc.accepted + 1) % 2 ^ 32 →
      m.payload = [1, 0, 0, 1, 0, 2, 0, 4] →
    ∃ t, exec (.regRequest port msg) s = .next t ∧ t.blk.custody.regc.accepted = m.seq ∧
      t.blk.custody.regc.sent = (s.blk.custody.regc.sent + 1) % 2 ^ 32 ∧
      t.blk.custody.regc.replies = (s.blk.custody.regc.replies ++ [(m.seq, (s.blk.custody.regc.sent + 1) % 2 ^ 32, [0, 0, 0, 0] ++ beBytes
      (s.blk.get R.TRB_ALERT_MASK % 2 ^ 32) 4)]).drop
        (s.blk.custody.regc.replies.length - 15) ∧
      t.blk.outs = s.blk.outs ++ [.host port (s.blk.ownAddr (port / 4 % 4)) (s.blk.service (port / 4 % 4)) (runudom 8 1 0xFFFF
      ((s.blk.custody.regc.sent + 1) % 2 ^ 32) m.seq 0
        8 (s.blk.get R.CUS_EPOCH) ++ [0, 0, 0, 0] ++ beBytes (s.blk.get R.TRB_ALERT_MASK % 2 ^ 32) 4)] ∧
      t.blk.get R.CUS_ACCEPT_COUNT = (s.blk.get R.CUS_ACCEPT_COUNT + 1) % 2 ^ R.CUS_ACCEPT_COUNT.width ∧
      t.blk.get R.CUS_EPOCH_MISMATCH_COUNT = (s.blk.get R.CUS_EPOCH_MISMATCH_COUNT +
        (if m.epoch = s.blk.get R.CUS_EPOCH then 0 else 1)) % 2 ^ 64 ∧
      s.Keeps t [R.CUS_ACCEPT_COUNT, R.CUS_EPOCH_MISMATCH_COUNT] [.custody, .outs]) ∧
  (∀ (s : State) (port : Nat) (msg : List Byte) (m : HostMsg) (v : Word), s.blk.regTakes port = true → s.blk.reachable = true →
      parseHost msg = some m → m.type = 7 → m.channel = 0xFFFF →
      serialAbove 32 m.seq s.blk.custody.regc.accepted = true → m.seq = (s.blk.custody.regc.accepted + 1) % 2 ^ 32 →
      m.payload = [2, 0, 0, 1, 0, 2, 0, 4] ++ beBytes v.toNat 4 →
    ∃ t, exec (.regRequest port msg) s = .next t ∧ t.blk.custody.regc.accepted = m.seq ∧
      t.blk.custody.regc.sent = (s.blk.custody.regc.sent + 1) % 2 ^ 32 ∧
      t.blk.custody.regc.replies = (s.blk.custody.regc.replies ++ [(m.seq, (s.blk.custody.regc.sent + 1) % 2 ^ 32, [0, 0, 0, 0])]).drop
        (s.blk.custody.regc.replies.length - 15) ∧
      t.blk.outs = s.blk.outs ++ [.host port (s.blk.ownAddr (port / 4 % 4)) (s.blk.service (port / 4 % 4)) (runudom 8 1 0xFFFF
      ((s.blk.custody.regc.sent + 1) % 2 ^ 32) m.seq 0
        4 (s.blk.get R.CUS_EPOCH) ++ [0, 0, 0, 0])] ∧
      t.blk.get R.CUS_ACCEPT_COUNT = (s.blk.get R.CUS_ACCEPT_COUNT + 1) % 2 ^ R.CUS_ACCEPT_COUNT.width ∧
      t.blk.get R.CUS_EPOCH_MISMATCH_COUNT = (s.blk.get R.CUS_EPOCH_MISMATCH_COUNT +
        (if m.epoch = s.blk.get R.CUS_EPOCH then 0 else 1)) % 2 ^ 64 ∧
      t.blk.get R.TRB_ALERT_MASK = v.toNat % 2 ^ 28 ∧
      s.Keeps t [R.TRB_ALERT_MASK, R.CUS_ACCEPT_COUNT, R.CUS_EPOCH_MISMATCH_COUNT] [.custody, .outs]) ∧
  (∀ (s : State) (port : Nat) (msg : List Byte) (m : HostMsg) (o v : Word), s.blk.regTakes port = true → s.blk.reachable = true →
      parseHost msg = some m → m.type = 7 → m.channel = 0xFFFF →
      serialAbove 32 m.seq s.blk.custody.regc.accepted = true → m.seq = (s.blk.custody.regc.accepted + 1) % 2 ^ 32 →
      m.payload = [3, 0, 0, 1] ++ beBytes o.toNat 4 ++ beBytes v.toNat 4 →
      s.blk.image.job = .none →
    ∃ t, exec (.regRequest port msg) s = .next t ∧ t.blk.custody.regc.accepted = m.seq ∧
      t.blk.custody.regc.sent = (s.blk.custody.regc.sent + 1) % 2 ^ 32 ∧
      t.blk.custody.regc.replies = (s.blk.custody.regc.replies ++ [(m.seq, (s.blk.custody.regc.sent + 1) % 2 ^ 32, [0, 0, 0, 0])]).drop
        (s.blk.custody.regc.replies.length - 15) ∧
      t.blk.outs = s.blk.outs ++ [.host port (s.blk.ownAddr (port / 4 % 4)) (s.blk.service (port / 4 % 4)) (runudom 8 1 0xFFFF
      ((s.blk.custody.regc.sent + 1) % 2 ^ 32) m.seq 0
        4 (s.blk.get R.CUS_EPOCH) ++ [0, 0, 0, 0])] ∧
      t.blk.get R.CUS_ACCEPT_COUNT = (s.blk.get R.CUS_ACCEPT_COUNT + 1) % 2 ^ R.CUS_ACCEPT_COUNT.width ∧
      t.blk.get R.CUS_EPOCH_MISMATCH_COUNT = (s.blk.get R.CUS_EPOCH_MISMATCH_COUNT +
        (if m.epoch = s.blk.get R.CUS_EPOCH then 0 else 1)) % 2 ^ 64 ∧
      t.blk.image = { s.blk.image with
        stage := s.blk.image.stage.setNum (o.toNat / 4 * 4 % 2 ^ R.IMG_STAGE_OFFSET.width / 4 * 4) v.toNat 4, verified := none } ∧
      t.blk.get R.IMG_STAGE_OFFSET = (o.toNat / 4 * 4 + 4) % 2 ^ R.IMG_STAGE_OFFSET.width ∧
      s.Keeps t [R.IMG_STAGE_OFFSET, R.CUS_ACCEPT_COUNT, R.CUS_EPOCH_MISMATCH_COUNT] [.image, .custody, .outs]) ∧
  (∀ (s : State) (port : Nat) (msg : List Byte) (m : HostMsg) (x : Byte), s.blk.regTakes port = true → s.blk.reachable = true →
      parseHost msg = some m → m.type = 7 → m.channel = 0xFFFF →
      serialAbove 32 m.seq s.blk.custody.regc.accepted = true → m.seq = (s.blk.custody.regc.accepted + 1) % 2 ^ 32 →
      m.payload = [x, 0, 0, 1, 0, 2, 0, 4] →
      x.toNat = 0 ∨ 3 < x.toNat →
    ∃ t, exec (.regRequest port msg) s = .next t ∧ t.blk.custody.regc.accepted = m.seq ∧
      t.blk.custody.regc.sent = (s.blk.custody.regc.sent + 1) % 2 ^ 32 ∧
      t.blk.custody.regc.replies = (s.blk.custody.regc.replies ++ [(m.seq, (s.blk.custody.regc.sent + 1) % 2 ^ 32, [2, 0, 0, 0])]).drop
        (s.blk.custody.regc.replies.length - 15) ∧
      t.blk.outs = s.blk.outs ++ [.host port (s.blk.ownAddr (port / 4 % 4)) (s.blk.service (port / 4 % 4)) (runudom 8 1 0xFFFF
      ((s.blk.custody.regc.sent + 1) % 2 ^ 32) m.seq 0
        4 (s.blk.get R.CUS_EPOCH) ++ [2, 0, 0, 0])] ∧
      t.blk.get R.CUS_ACCEPT_COUNT = (s.blk.get R.CUS_ACCEPT_COUNT + 1) % 2 ^ R.CUS_ACCEPT_COUNT.width ∧
      t.blk.get R.CUS_EPOCH_MISMATCH_COUNT = (s.blk.get R.CUS_EPOCH_MISMATCH_COUNT +
        (if m.epoch = s.blk.get R.CUS_EPOCH then 0 else 1)) % 2 ^ 64 ∧
      s.Keeps t [R.CUS_ACCEPT_COUNT, R.CUS_EPOCH_MISMATCH_COUNT] [.custody, .outs]) ∧
  (∀ (s : State) (port : Nat) (msg : List Byte) (m : HostMsg) (r : Nat × Nat × List Byte), s.blk.regTakes port = true →
      s.blk.reachable = true →
      parseHost msg = some m → m.type = 7 → m.channel = 0xFFFF →
      serialAbove 32 m.seq s.blk.custody.regc.accepted = false →
      s.blk.custody.regc.replies.find? (fun r => r.1 = m.seq) = some r → r.2.2.length ≤ s.blk.portLimit port →
    ∃ t, exec (.regRequest port msg) s = .next t ∧ t.blk.custody.regc.accepted = s.blk.custody.regc.accepted ∧
      t.blk.custody.regc.replies = s.blk.custody.regc.replies ∧
      t.blk.outs = s.blk.outs ++ [.host port (s.blk.ownAddr (port / 4 % 4)) (s.blk.service (port / 4 % 4)) (runudom 8 1 0xFFFF r.2.1
      s.blk.custody.regc.accepted 0
        r.2.2.length (s.blk.get R.CUS_EPOCH) ++ r.2.2)] ∧
      t.blk.get R.CUS_HOST_DUP_COUNT = (s.blk.get R.CUS_HOST_DUP_COUNT + 1) % 2 ^ R.CUS_HOST_DUP_COUNT.width ∧
      t.blk.get R.CUS_EPOCH_MISMATCH_COUNT = (s.blk.get R.CUS_EPOCH_MISMATCH_COUNT +
        (if m.epoch = s.blk.get R.CUS_EPOCH then 0 else 1)) % 2 ^ 64 ∧
      s.Keeps t [R.CUS_HOST_DUP_COUNT, R.CUS_EPOCH_MISMATCH_COUNT] [.custody, .outs]) ∧
  (∀ (s : State) (port : Nat) (msg : List Byte) (m : HostMsg), s.blk.regTakes port = true → s.blk.reachable = true →
      parseHost msg = some m → m.type = 7 → m.channel = 0xFFFF →
      serialAbove 32 m.seq s.blk.custody.regc.accepted = false →
      s.blk.custody.regc.replies.find? (fun r => r.1 = m.seq) = none →
    ∃ t, exec (.regRequest port msg) s = .next t ∧ t.blk.custody.regc.accepted = s.blk.custody.regc.accepted ∧
      t.blk.custody.regc.replies = s.blk.custody.regc.replies ∧
      t.blk.outs = s.blk.outs ++ [.host port (s.blk.ownAddr (port / 4 % 4)) (s.blk.service (port / 4 % 4)) (runudom 2 1 0xFFFF 0
      s.blk.custody.regc.accepted 0 0
        (s.blk.get R.CUS_EPOCH))] ∧
      t.blk.get R.CUS_HOST_DUP_COUNT = (s.blk.get R.CUS_HOST_DUP_COUNT + 1) % 2 ^ R.CUS_HOST_DUP_COUNT.width ∧
      t.blk.get R.CUS_EPOCH_MISMATCH_COUNT = (s.blk.get R.CUS_EPOCH_MISMATCH_COUNT +
        (if m.epoch = s.blk.get R.CUS_EPOCH then 0 else 1)) % 2 ^ 64 ∧
      s.Keeps t [R.CUS_HOST_DUP_COUNT, R.CUS_EPOCH_MISMATCH_COUNT] [.custody, .outs]) ∧
  (∀ (s : State) (port : Nat) (msg : List Byte) (m : HostMsg), s.blk.regTakes port = true → s.blk.reachable = true →
      parseHost msg = some m → m.type = 7 → m.channel = 0xFFFF →
      serialAbove 32 m.seq s.blk.custody.regc.accepted = true → m.seq ≠ (s.blk.custody.regc.accepted + 1) % 2 ^ 32 →
    ∃ t, exec (.regRequest port msg) s = .next t ∧ t.blk.custody.regc.accepted = s.blk.custody.regc.accepted ∧
      t.blk.custody.regc.replies = s.blk.custody.regc.replies ∧ t.blk.get R.CUS_TROUBLE_HOST_GAP = 1 ∧
      t.blk.get R.CUS_HOST_GAP_COUNT = (s.blk.get R.CUS_HOST_GAP_COUNT + 1) % 2 ^ R.CUS_HOST_GAP_COUNT.width ∧
      t.blk.outs = s.blk.outs ++ [.host port (s.blk.ownAddr (port / 4 % 4)) (s.blk.service (port / 4 % 4)) (runudom 2 1 0xFFFF 0
      s.blk.custody.regc.accepted 0 0
        (s.blk.get R.CUS_EPOCH))] ∧
      s.Keeps t ([R.CUS_HOST_GAP_COUNT, R.CUS_TROUBLE_HOST_GAP, R.CUS_EPOCH_MISMATCH_COUNT] ++ recordFields)
        [.custody, .outs, .records]) ∧
  (∀ (s : State) (port : Nat) (msg : List Byte), s.blk.regTakes port = false →
    ∃ t, exec (.regRequest port msg) s = .next t ∧ s.Keeps t [] []) ∧
  (∀ (s : State), s.blk.mode = 4 → s.blk.flag R.PWR_CFG_HOLD_SURVEY = false → s.blk.mac.candidates ≠ [] → s.blk.power.trans = none →
      s.blk.power.modeTick + 25000 * s.blk.get R.PWR_CFG_SURVEY_MIN ≤ s.blk.tick →
    ∃ t, exec .surveyMinExpiry s = .next t ∧ t.blk.power = { s.blk.power with trans := some 5 } ∧ s.Keeps t [] [.power]) ∧
  (∀ (s : State) (x : Nat), s.blk.mode = 4 → s.blk.flag R.PWR_CFG_HOLD_SURVEY = false → s.blk.mac.candidates ≠ [] →
      s.blk.power.trans = some x → x ≠ 5 → s.blk.power.modeTick + 25000 * s.blk.get R.PWR_CFG_SURVEY_MIN ≤ s.blk.tick →
    ∃ t, exec .surveyMinExpiry s = .next t ∧ t.blk.power = { s.blk.power with heldReq := some 5 } ∧
      t.blk.get R.PWR_MODE_PENDING = 1 ∧ s.Keeps t [R.PWR_MODE_PENDING] [.power]) ∧
  (∀ (s : State), s.blk.running = true → s.blk.mode ≠ 4 ∨ s.blk.flag R.PWR_CFG_HOLD_SURVEY = true ∨ s.blk.mac.candidates = [] ∨
        s.blk.tick < s.blk.power.modeTick + 25000 * s.blk.get R.PWR_CFG_SURVEY_MIN →
    ∃ t, exec .surveyMinExpiry s = .next t ∧ s.Keeps t [] []) ∧
  (∀ (s : State) (i : Nat), s.blk.running = true → i < linkSlots → s.blk.coordinator = true → s.blk.tab (linkAt i) 2 ≠ 0 →
      s.blk.get R.MSH_REPORT_CFG_LINK_AGE ≤ (timeSec s.blk.now + 2 ^ 32 - s.blk.tab (linkAt i + 28) 4) % 2 ^ 32 →
    ∃ t, exec (.linkAgeExpiry i) s = .next t ∧ t.blk.tab (linkAt i + 20) 2 = 0xFFFF ∧ (t.blk.tab (linkAt i + 22) 1).testBit 0 = true ∧
      t.blk.mesh = { s.blk.mesh with routeDue := true, treeDue := true } ∧
      (∀ a, a < linkAt i + 20 ∨ linkAt i + 23 ≤ a → t.blk.tab a 1 = s.blk.tab a 1) ∧ s.Keeps t [] [.tables, .mesh]) ∧
  (∀ (s : State) (i : Nat), s.blk.running = true → linkSlots ≤ i ∨ s.blk.coordinator = false ∨ s.blk.tab (linkAt i) 2 = 0 ∨
      (timeSec s.blk.now + 2 ^ 32 - s.blk.tab (linkAt i + 28) 4) % 2 ^ 32 < s.blk.get R.MSH_REPORT_CFG_LINK_AGE →
    ∃ t, exec (.linkAgeExpiry i) s = .next t ∧ s.Keeps t [] [])

end
end

