-- ==== Sys2Proof/Laws/Crypto.lean ====
section
/-! SUPPORT. The constants of SHA-512 are what FIPS 180-4 says they are. -/

namespace Sys2Proof.Laws

open Sys2Proof.Machine

/-- The first 80 primes. -/
def firstPrimes : List Nat := (List.range 410).filter (fun n => decide (2 ≤ n) && (List.range n).all (fun d => decide (d < 2) || n % d != 0))

/-- `w` is the fraction, to 64 places, of the `k`-th root of `p`: the root is at least its cut value and below the next. -/
def fractionOfRoot (k p : Nat) (w : BitVec 64) : Bool :=
  (List.range 22).any (fun a => decide ((a * 2 ^ 64 + w.toNat) ^ k ≤ p * 2 ^ (64 * k) ∧
    p * 2 ^ (64 * k) < (a * 2 ^ 64 + w.toNat + 1) ^ k))

/-- FIPS 180-4, 4.2.3: the round constants are the fractions of the cube roots of the first 80 primes. -/
theorem sha512K_cube_roots : firstPrimes.length = 80 ∧ sha512K.length = 80 ∧
    (List.zipWith (fractionOfRoot 3) firstPrimes sha512K).all id = true := by decide +kernel

/-- FIPS 180-4, 5.3.5: the initial hash value is the fractions of the square roots of the first eight primes. -/
theorem sha512Init_square_roots : sha512Init.length = 8 ∧
    (List.zipWith (fractionOfRoot 2) firstPrimes sha512Init).all id = true := by decide +kernel

end Sys2Proof.Laws
end

