-- ==== Sys2Proof/Laws/Tab.lean ====
section
/-! SUPPORT. The laws of sparse storage: what a read after a write gives, and that every operation keeps the canonical
form. -/

namespace Sys2Proof.Machine

variable {α : Type}

theorem Tab.get_erase_self (d : α) (t : Tab α) (k : Nat) : Tab.get d (Tab.erase t k) k = d := by
  induction t with
  | nil => rfl
  | cons p t ih =>
    obtain ⟨a, v⟩ := p
    by_cases h : k = a
    · simpa [Tab.erase, h] using h ▸ ih
    · simp [Tab.erase, h, Tab.get, ih]

theorem Tab.get_erase_ne (d : α) (t : Tab α) (k j : Nat) (h : j ≠ k) :
    Tab.get d (Tab.erase t k) j = Tab.get d t j := by
  induction t with
  | nil => rfl
  | cons p t ih =>
    obtain ⟨a, v⟩ := p
    by_cases h2 : k = a
    · subst h2; simp [Tab.erase, Tab.get, h, ih]
    · simp [Tab.erase, h2, Tab.get, ih]

theorem Tab.get_insert_self (d : α) (t : Tab α) (k : Nat) (v : α) : Tab.get d (Tab.insert t k v) k = v := by
  induction t with
  | nil => simp [Tab.insert, Tab.get]
  | cons p t ih =>
    obtain ⟨a, w⟩ := p
    by_cases h1 : k < a
    · simp [Tab.insert, h1, Tab.get]
    · by_cases h2 : k = a
      · subst h2; simp [Tab.insert, Tab.get]
      · simp [Tab.insert, h1, h2, Tab.get, ih]

theorem Tab.get_insert_ne (d : α) (t : Tab α) (k j : Nat) (v : α) (h : j ≠ k) :
    Tab.get d (Tab.insert t k v) j = Tab.get d t j := by
  induction t with
  | nil => simp [Tab.insert, Tab.get, h]
  | cons p t ih =>
    obtain ⟨a, w⟩ := p
    by_cases h1 : k < a
    · simp [Tab.insert, h1, Tab.get, h]
    · by_cases h2 : k = a
      · subst h2; simp [Tab.insert, Tab.get, h]
      · simp [Tab.insert, h1, h2, Tab.get, ih]

theorem Tab.erase_erase (t : Tab α) (k : Nat) : Tab.erase (Tab.erase t k) k = Tab.erase t k := by
  induction t with
  | nil => rfl
  | cons p t ih =>
    obtain ⟨a, v⟩ := p
    by_cases h : k = a <;> simp [Tab.erase, h]
    · exact h ▸ ih
    · exact ih

theorem Tab.erase_insert (t : Tab α) (k : Nat) (v : α) : Tab.erase (Tab.insert t k v) k = Tab.erase t k := by
  induction t with
  | nil => simp [Tab.insert, Tab.erase]
  | cons p t ih =>
    obtain ⟨a, w⟩ := p
    by_cases h1 : k < a
    · simp [Tab.insert, h1, Tab.erase]
    · by_cases h2 : k = a
      · subst h2; simp [Tab.insert, Tab.erase]
      · simp [Tab.insert, h1, h2, Tab.erase, ih]

/-- Beside key `k`, a write of key `k` changes nothing. -/
theorem Tab.erase_set_self [DecidableEq α] (d : α) (t : Tab α) (k : Nat) (v : α) :
    Tab.erase (Tab.set d t k v) k = Tab.erase t k := by
  unfold Tab.set
  split
  · exact Tab.erase_erase t k
  · exact Tab.erase_insert t k v

/-- Read after write, the same key. -/
theorem Tab.get_set_self [DecidableEq α] (d : α) (t : Tab α) (k : Nat) (v : α) :
    Tab.get d (Tab.set d t k v) k = v := by
  unfold Tab.set
  split
  · next e => rw [e]; exact Tab.get_erase_self d t k
  · exact Tab.get_insert_self d t k v

/-- Read after write, another key. -/
theorem Tab.get_set_ne [DecidableEq α] (d : α) (t : Tab α) (k j : Nat) (v : α) (h : j ≠ k) :
    Tab.get d (Tab.set d t k v) j = Tab.get d t j := by
  unfold Tab.set
  split
  · exact Tab.get_erase_ne d t k j h
  · exact Tab.get_insert_ne d t k j v h

theorem Tab.wfFrom_mono [DecidableEq α] (d : α) (n m : Nat) (t : Tab α) (h : Tab.wfFrom d m t) (hn : n ≤ m) :
    Tab.wfFrom d n t := by
  cases t with
  | nil => rfl
  | cons p t =>
    obtain ⟨a, v⟩ := p
    simp only [Tab.wfFrom, Bool.and_eq_true, decide_eq_true_eq] at h ⊢
    exact ⟨⟨by omega, h.1.2⟩, h.2⟩

theorem Tab.wfFrom_erase [DecidableEq α] (d : α) (n : Nat) (t : Tab α) (k : Nat) (h : Tab.wfFrom d n t) :
    Tab.wfFrom d n (Tab.erase t k) := by
  induction t generalizing n with
  | nil => rfl
  | cons p t ih =>
    obtain ⟨a, v⟩ := p
    simp only [Tab.wfFrom, Bool.and_eq_true, decide_eq_true_eq] at h
    by_cases h2 : k = a
    · subst h2
      simpa [Tab.erase] using Tab.wfFrom_mono d n (k + 1) _ (ih (k + 1) h.2) (by omega)
    · simp only [Tab.erase, h2, if_false, Tab.wfFrom, Bool.and_eq_true, decide_eq_true_eq]
      exact ⟨h.1, ih (a + 1) h.2⟩

theorem Tab.wfFrom_insert [DecidableEq α] (d : α) (n : Nat) (t : Tab α) (k : Nat) (v : α) (hk : n ≤ k) (hv : v ≠ d)
    (h : Tab.wfFrom d n t) : Tab.wfFrom d n (Tab.insert t k v) := by
  induction t generalizing n with
  | nil => simp [Tab.insert, Tab.wfFrom, hk, hv]
  | cons p t ih =>
    obtain ⟨a, w⟩ := p
    simp only [Tab.wfFrom, Bool.and_eq_true, decide_eq_true_eq] at h
    by_cases h1 : k < a
    · simp only [Tab.insert, h1, if_true, Tab.wfFrom, Bool.and_eq_true, decide_eq_true_eq]
      exact ⟨⟨hk, hv⟩, ⟨by omega, h.1.2⟩, h.2⟩
    · by_cases h2 : k = a
      · subst h2
        simp only [Tab.insert, lt_irrefl, if_false, if_true, Tab.wfFrom, Bool.and_eq_true, decide_eq_true_eq]
        exact ⟨⟨hk, hv⟩, h.2⟩
      · simp only [Tab.insert, h1, h2, if_false, Tab.wfFrom, Bool.and_eq_true, decide_eq_true_eq]
        exact ⟨h.1, ih (a + 1) (by omega) h.2⟩

/-- Every write keeps the canonical form. -/
theorem Tab.wf_set [DecidableEq α] (d : α) (t : Tab α) (k : Nat) (v : α) (h : Tab.wf d t) :
    Tab.wf d (Tab.set d t k v) := by
  unfold Tab.wf Tab.set at *
  split
  · exact Tab.wfFrom_erase d 0 t k h
  · next hv => exact Tab.wfFrom_insert d 0 t k v (Nat.zero_le k) hv h

theorem Tab.wf_modify [DecidableEq α] (d : α) (t : Tab α) (k : Nat) (f : α → α) (h : Tab.wf d t) :
    Tab.wf d (Tab.modify d t k f) := Tab.wf_set d t k _ h

/-- Every memory operation keeps the canonical form: one byte. -/
theorem Mem.wf_write (m : Mem) (a : Nat) (v : BitVec 8) (h : Memory.wf m) : Memory.wf (Mem.write m a v) :=
  Tab.wf_set 0 m a v h

/-- Every memory operation keeps the canonical form: a run of bytes. -/
theorem Mem.wf_store (m : Mem) (a : Nat) (bs : List (BitVec 8)) (h : Memory.wf m) : Memory.wf (Mem.store m a bs) := by
  induction bs generalizing m a with
  | nil => exact h
  | cons b bs ih => exact ih _ _ (Mem.wf_write m a b h)

/-- Every memory operation keeps the canonical form: a little-endian number. -/
theorem Mem.wf_setNum (m : Mem) (a v n : Nat) (h : Memory.wf m) : Memory.wf (Mem.setNum m a v n) := by
  induction n generalizing m a v with
  | zero => exact h
  | succ n ih => exact ih _ _ _ (Mem.wf_write m a _ h)

theorem Mem.read_write_self (m : Mem) (a : Nat) (v : BitVec 8) :
    Mem.read (Mem.write m a v) a = v := Tab.get_set_self 0 m a v

theorem Mem.read_write_ne (m : Mem) (a b : Nat) (v : BitVec 8) (h : b ≠ a) :
    Mem.read (Mem.write m a v) b = Mem.read m b := Tab.get_set_ne 0 m a b v h

/-- A store leaves every byte outside it as it was. -/
theorem Mem.read_store_outside (m : Mem) (a b : Nat) (bs : List (BitVec 8)) (h : b < a ∨ a + bs.length ≤ b) :
    Mem.read (Mem.store m a bs) b = Mem.read m b := by
  induction bs generalizing m a with
  | nil => rfl
  | cons c bs ih =>
    simp only [Mem.store, List.length_cons] at *
    rw [ih (Mem.write m a c) (a + 1) (by omega)]
    exact Mem.read_write_ne m a b c (by omega)

end Sys2Proof.Machine
end

