-- ==== Sys2Proof/Laws/State.lean ====
section
/-! SUPPORT. The laws of the state's updates: what each shared update gives for each part of the block, so that no proof
unfolds a record update. -/

namespace Sys2Proof.Machine

/-- Reading a register field after a write of a field. -/
theorem Block.get_set (b : Block) (f g : Field) (v : Nat) :
    (b.set f v).get g = if g.key = f.key then v % 2 ^ f.width % 2 ^ g.width else b.get g := by
  unfold Block.get Block.set
  split
  · next h => rw [h]; exact congrArg (· % 2 ^ g.width) (Tab.get_set_self 0 b.regs f.key _)
  · next h => exact congrArg (· % 2 ^ g.width) (Tab.get_set_ne 0 b.regs f.key g.key _ h)

/-- A register field never shows more than its width. -/
theorem Block.get_lt (b : Block) (f : Field) : b.get f < 2 ^ f.width := Nat.mod_lt _ (Nat.two_pow_pos _)

@[simp] theorem Block.get_set_self (b : Block) (f : Field) (v : Nat) : (b.set f v).get f = v % 2 ^ f.width := by
  simp [Block.get_set]

theorem Block.get_set_ne (b : Block) (f g : Field) (v : Nat) (h : g.key ≠ f.key) : (b.set f v).get g = b.get g := by
  simp [Block.get_set, h]

/-! The other register updates are writes. -/

theorem Block.setFlag_eq (b : Block) (f : Field) (v : Bool) : b.setFlag f v = b.set f (if v then 1 else 0) := rfl
theorem Block.add_eq (b : Block) (f : Field) (n : Nat) : b.add f n = b.set f (b.get f + n) := rfl
theorem Block.bump_eq (b : Block) (f : Field) : b.bump f = b.set f (b.get f + 1) := rfl
theorem Block.raise_eq (b : Block) (f : Field) (i : Nat) : b.raise f i = b.set f (b.get f ||| 2 ^ i) := rfl
theorem Block.clear_eq (b : Block) (f : Field) (m : Nat) :
    b.clear f m = b.set f (b.get f &&& (2 ^ f.width - 1 - m % 2 ^ f.width)) := rfl
theorem Block.sset_eq (b : Block) (f : Field) (v : Int) : b.sset f v = b.set f (BitVec.ofInt f.width v).toNat := rfl
theorem Block.ssat_eq (b : Block) (f : Field) (v : Int) :
    b.ssat f v = b.sset f (max (-(2 ^ (f.width - 1))) (min (2 ^ (f.width - 1) - 1) v)) := rfl
theorem Block.usat_eq (b : Block) (f : Field) (v : Nat) : b.usat f v = b.set f (min v (2 ^ f.width - 1)) := rfl

/-! A register write changes no other part. -/

@[simp] theorem Block.set_hostLatch (b : Block) (f : Field) (v : Nat) : (b.set f v).hostLatch = b.hostLatch := rfl
@[simp] theorem Block.set_supLatch (b : Block) (f : Field) (v : Nat) : (b.set f v).supLatch = b.supLatch := rfl
@[simp] theorem Block.set_modl (b : Block) (f : Field) (v : Nat) : (b.set f v).modl = b.modl := rfl
@[simp] theorem Block.set_power (b : Block) (f : Field) (v : Nat) : (b.set f v).power = b.power := rfl
@[simp] theorem Block.set_image (b : Block) (f : Field) (v : Nat) : (b.set f v).image = b.image := rfl
@[simp] theorem Block.set_slices (b : Block) (f : Field) (v : Nat) : (b.set f v).slices = b.slices := rfl
@[simp] theorem Block.set_fabric (b : Block) (f : Field) (v : Nat) : (b.set f v).fabric = b.fabric := rfl
@[simp] theorem Block.set_queue (b : Block) (f : Field) (v : Nat) : (b.set f v).queue = b.queue := rfl
@[simp] theorem Block.set_trouble (b : Block) (f : Field) (v : Nat) : (b.set f v).trouble = b.trouble := rfl
@[simp] theorem Block.set_time (b : Block) (f : Field) (v : Nat) : (b.set f v).time = b.time := rfl
@[simp] theorem Block.set_grid (b : Block) (f : Field) (v : Nat) : (b.set f v).grid = b.grid := rfl
@[simp] theorem Block.set_spur (b : Block) (f : Field) (v : Nat) : (b.set f v).spur = b.spur := rfl
@[simp] theorem Block.set_front (b : Block) (f : Field) (v : Nat) : (b.set f v).front = b.front := rfl
@[simp] theorem Block.set_phy (b : Block) (f : Field) (v : Nat) : (b.set f v).phy = b.phy := rfl
@[simp] theorem Block.set_mac (b : Block) (f : Field) (v : Nat) : (b.set f v).mac = b.mac := rfl
@[simp] theorem Block.set_mesh (b : Block) (f : Field) (v : Nat) : (b.set f v).mesh = b.mesh := rfl
@[simp] theorem Block.set_sec (b : Block) (f : Field) (v : Nat) : (b.set f v).sec = b.sec := rfl
@[simp] theorem Block.set_tables (b : Block) (f : Field) (v : Nat) : (b.set f v).tables = b.tables := rfl
@[simp] theorem Block.set_custody (b : Block) (f : Field) (v : Nat) : (b.set f v).custody = b.custody := rfl
@[simp] theorem Block.set_sensor (b : Block) (f : Field) (v : Nat) : (b.set f v).sensor = b.sensor := rfl
@[simp] theorem Block.set_serial (b : Block) (f : Field) (v : Nat) : (b.set f v).serial = b.serial := rfl
@[simp] theorem Block.set_truing (b : Block) (f : Field) (v : Nat) : (b.set f v).truing = b.truing := rfl
@[simp] theorem Block.set_readData (b : Block) (f : Field) (v : Nat) : (b.set f v).readData = b.readData := rfl
@[simp] theorem Block.set_outs (b : Block) (f : Field) (v : Nat) : (b.set f v).outs = b.outs := rfl
@[simp] theorem Block.set_freeCtr (b : Block) (f : Field) (v : Nat) : (b.set f v).freeCtr = b.freeCtr := rfl

/-! An output changes no other part. -/

@[simp] theorem Block.emit_hostLatch (b : Block) (o : Out) : (b.emit o).hostLatch = b.hostLatch := rfl
@[simp] theorem Block.emit_supLatch (b : Block) (o : Out) : (b.emit o).supLatch = b.supLatch := rfl
@[simp] theorem Block.emit_modl (b : Block) (o : Out) : (b.emit o).modl = b.modl := rfl
@[simp] theorem Block.emit_power (b : Block) (o : Out) : (b.emit o).power = b.power := rfl
@[simp] theorem Block.emit_image (b : Block) (o : Out) : (b.emit o).image = b.image := rfl
@[simp] theorem Block.emit_slices (b : Block) (o : Out) : (b.emit o).slices = b.slices := rfl
@[simp] theorem Block.emit_fabric (b : Block) (o : Out) : (b.emit o).fabric = b.fabric := rfl
@[simp] theorem Block.emit_queue (b : Block) (o : Out) : (b.emit o).queue = b.queue := rfl
@[simp] theorem Block.emit_trouble (b : Block) (o : Out) : (b.emit o).trouble = b.trouble := rfl
@[simp] theorem Block.emit_time (b : Block) (o : Out) : (b.emit o).time = b.time := rfl
@[simp] theorem Block.emit_grid (b : Block) (o : Out) : (b.emit o).grid = b.grid := rfl
@[simp] theorem Block.emit_spur (b : Block) (o : Out) : (b.emit o).spur = b.spur := rfl
@[simp] theorem Block.emit_front (b : Block) (o : Out) : (b.emit o).front = b.front := rfl
@[simp] theorem Block.emit_phy (b : Block) (o : Out) : (b.emit o).phy = b.phy := rfl
@[simp] theorem Block.emit_mac (b : Block) (o : Out) : (b.emit o).mac = b.mac := rfl
@[simp] theorem Block.emit_mesh (b : Block) (o : Out) : (b.emit o).mesh = b.mesh := rfl
@[simp] theorem Block.emit_sec (b : Block) (o : Out) : (b.emit o).sec = b.sec := rfl
@[simp] theorem Block.emit_tables (b : Block) (o : Out) : (b.emit o).tables = b.tables := rfl
@[simp] theorem Block.emit_custody (b : Block) (o : Out) : (b.emit o).custody = b.custody := rfl
@[simp] theorem Block.emit_sensor (b : Block) (o : Out) : (b.emit o).sensor = b.sensor := rfl
@[simp] theorem Block.emit_serial (b : Block) (o : Out) : (b.emit o).serial = b.serial := rfl
@[simp] theorem Block.emit_truing (b : Block) (o : Out) : (b.emit o).truing = b.truing := rfl
@[simp] theorem Block.emit_readData (b : Block) (o : Out) : (b.emit o).readData = b.readData := rfl
@[simp] theorem Block.emit_freeCtr (b : Block) (o : Out) : (b.emit o).freeCtr = b.freeCtr := rfl
@[simp] theorem Block.emit_get (b : Block) (o : Out) (g : Field) : (b.emit o).get g = b.get g := rfl

/-! A change of a queue changes no other part. -/

@[simp] theorem Block.modQ_hostLatch (b : Block) (n : Nat) (h : Queue → Queue) : (b.modQ n h).hostLatch = b.hostLatch := rfl
@[simp] theorem Block.modQ_supLatch (b : Block) (n : Nat) (h : Queue → Queue) : (b.modQ n h).supLatch = b.supLatch := rfl
@[simp] theorem Block.modQ_modl (b : Block) (n : Nat) (h : Queue → Queue) : (b.modQ n h).modl = b.modl := rfl
@[simp] theorem Block.modQ_power (b : Block) (n : Nat) (h : Queue → Queue) : (b.modQ n h).power = b.power := rfl
@[simp] theorem Block.modQ_image (b : Block) (n : Nat) (h : Queue → Queue) : (b.modQ n h).image = b.image := rfl
@[simp] theorem Block.modQ_slices (b : Block) (n : Nat) (h : Queue → Queue) : (b.modQ n h).slices = b.slices := rfl
@[simp] theorem Block.modQ_fabric (b : Block) (n : Nat) (h : Queue → Queue) : (b.modQ n h).fabric = b.fabric := rfl
@[simp] theorem Block.modQ_trouble (b : Block) (n : Nat) (h : Queue → Queue) : (b.modQ n h).trouble = b.trouble := rfl
@[simp] theorem Block.modQ_time (b : Block) (n : Nat) (h : Queue → Queue) : (b.modQ n h).time = b.time := rfl
@[simp] theorem Block.modQ_grid (b : Block) (n : Nat) (h : Queue → Queue) : (b.modQ n h).grid = b.grid := rfl
@[simp] theorem Block.modQ_spur (b : Block) (n : Nat) (h : Queue → Queue) : (b.modQ n h).spur = b.spur := rfl
@[simp] theorem Block.modQ_front (b : Block) (n : Nat) (h : Queue → Queue) : (b.modQ n h).front = b.front := rfl
@[simp] theorem Block.modQ_phy (b : Block) (n : Nat) (h : Queue → Queue) : (b.modQ n h).phy = b.phy := rfl
@[simp] theorem Block.modQ_mac (b : Block) (n : Nat) (h : Queue → Queue) : (b.modQ n h).mac = b.mac := rfl
@[simp] theorem Block.modQ_mesh (b : Block) (n : Nat) (h : Queue → Queue) : (b.modQ n h).mesh = b.mesh := rfl
@[simp] theorem Block.modQ_sec (b : Block) (n : Nat) (h : Queue → Queue) : (b.modQ n h).sec = b.sec := rfl
@[simp] theorem Block.modQ_tables (b : Block) (n : Nat) (h : Queue → Queue) : (b.modQ n h).tables = b.tables := rfl
@[simp] theorem Block.modQ_custody (b : Block) (n : Nat) (h : Queue → Queue) : (b.modQ n h).custody = b.custody := rfl
@[simp] theorem Block.modQ_sensor (b : Block) (n : Nat) (h : Queue → Queue) : (b.modQ n h).sensor = b.sensor := rfl
@[simp] theorem Block.modQ_serial (b : Block) (n : Nat) (h : Queue → Queue) : (b.modQ n h).serial = b.serial := rfl
@[simp] theorem Block.modQ_truing (b : Block) (n : Nat) (h : Queue → Queue) : (b.modQ n h).truing = b.truing := rfl
@[simp] theorem Block.modQ_readData (b : Block) (n : Nat) (h : Queue → Queue) : (b.modQ n h).readData = b.readData := rfl
@[simp] theorem Block.modQ_outs (b : Block) (n : Nat) (h : Queue → Queue) : (b.modQ n h).outs = b.outs := rfl
@[simp] theorem Block.modQ_freeCtr (b : Block) (n : Nat) (h : Queue → Queue) : (b.modQ n h).freeCtr = b.freeCtr := rfl
@[simp] theorem Block.modQ_get (b : Block) (n : Nat) (h : Queue → Queue) (g : Field) : (b.modQ n h).get g = b.get g := rfl

/-! A change of a slice changes no other part. -/

@[simp] theorem Block.modSlice_hostLatch (b : Block) (n : Nat) (h : SliceState → SliceState) : (b.modSlice n h).hostLatch = b.hostLatch := rfl
@[simp] theorem Block.modSlice_supLatch (b : Block) (n : Nat) (h : SliceState → SliceState) : (b.modSlice n h).supLatch = b.supLatch := rfl
@[simp] theorem Block.modSlice_modl (b : Block) (n : Nat) (h : SliceState → SliceState) : (b.modSlice n h).modl = b.modl := rfl
@[simp] theorem Block.modSlice_power (b : Block) (n : Nat) (h : SliceState → SliceState) : (b.modSlice n h).power = b.power := rfl
@[simp] theorem Block.modSlice_image (b : Block) (n : Nat) (h : SliceState → SliceState) : (b.modSlice n h).image = b.image := rfl
@[simp] theorem Block.modSlice_fabric (b : Block) (n : Nat) (h : SliceState → SliceState) : (b.modSlice n h).fabric = b.fabric := rfl
@[simp] theorem Block.modSlice_queue (b : Block) (n : Nat) (h : SliceState → SliceState) : (b.modSlice n h).queue = b.queue := rfl
@[simp] theorem Block.modSlice_trouble (b : Block) (n : Nat) (h : SliceState → SliceState) : (b.modSlice n h).trouble = b.trouble := rfl
@[simp] theorem Block.modSlice_time (b : Block) (n : Nat) (h : SliceState → SliceState) : (b.modSlice n h).time = b.time := rfl
@[simp] theorem Block.modSlice_grid (b : Block) (n : Nat) (h : SliceState → SliceState) : (b.modSlice n h).grid = b.grid := rfl
@[simp] theorem Block.modSlice_spur (b : Block) (n : Nat) (h : SliceState → SliceState) : (b.modSlice n h).spur = b.spur := rfl
@[simp] theorem Block.modSlice_front (b : Block) (n : Nat) (h : SliceState → SliceState) : (b.modSlice n h).front = b.front := rfl
@[simp] theorem Block.modSlice_phy (b : Block) (n : Nat) (h : SliceState → SliceState) : (b.modSlice n h).phy = b.phy := rfl
@[simp] theorem Block.modSlice_mac (b : Block) (n : Nat) (h : SliceState → SliceState) : (b.modSlice n h).mac = b.mac := rfl
@[simp] theorem Block.modSlice_mesh (b : Block) (n : Nat) (h : SliceState → SliceState) : (b.modSlice n h).mesh = b.mesh := rfl
@[simp] theorem Block.modSlice_sec (b : Block) (n : Nat) (h : SliceState → SliceState) : (b.modSlice n h).sec = b.sec := rfl
@[simp] theorem Block.modSlice_tables (b : Block) (n : Nat) (h : SliceState → SliceState) : (b.modSlice n h).tables = b.tables := rfl
@[simp] theorem Block.modSlice_custody (b : Block) (n : Nat) (h : SliceState → SliceState) : (b.modSlice n h).custody = b.custody := rfl
@[simp] theorem Block.modSlice_sensor (b : Block) (n : Nat) (h : SliceState → SliceState) : (b.modSlice n h).sensor = b.sensor := rfl
@[simp] theorem Block.modSlice_serial (b : Block) (n : Nat) (h : SliceState → SliceState) : (b.modSlice n h).serial = b.serial := rfl
@[simp] theorem Block.modSlice_truing (b : Block) (n : Nat) (h : SliceState → SliceState) : (b.modSlice n h).truing = b.truing := rfl
@[simp] theorem Block.modSlice_readData (b : Block) (n : Nat) (h : SliceState → SliceState) : (b.modSlice n h).readData = b.readData := rfl
@[simp] theorem Block.modSlice_outs (b : Block) (n : Nat) (h : SliceState → SliceState) : (b.modSlice n h).outs = b.outs := rfl
@[simp] theorem Block.modSlice_freeCtr (b : Block) (n : Nat) (h : SliceState → SliceState) : (b.modSlice n h).freeCtr = b.freeCtr := rfl
@[simp] theorem Block.modSlice_get (b : Block) (n : Nat) (h : SliceState → SliceState) (g : Field) : (b.modSlice n h).get g = b.get g := rfl

/-! `setPower` changes its unit alone. -/

@[simp] theorem Block.setPower_hostLatch (b : Block) (u : PowerUnit) : (b.setPower u).hostLatch = b.hostLatch := rfl
@[simp] theorem Block.setPower_supLatch (b : Block) (u : PowerUnit) : (b.setPower u).supLatch = b.supLatch := rfl
@[simp] theorem Block.setPower_modl (b : Block) (u : PowerUnit) : (b.setPower u).modl = b.modl := rfl
@[simp] theorem Block.setPower_image (b : Block) (u : PowerUnit) : (b.setPower u).image = b.image := rfl
@[simp] theorem Block.setPower_slices (b : Block) (u : PowerUnit) : (b.setPower u).slices = b.slices := rfl
@[simp] theorem Block.setPower_fabric (b : Block) (u : PowerUnit) : (b.setPower u).fabric = b.fabric := rfl
@[simp] theorem Block.setPower_queue (b : Block) (u : PowerUnit) : (b.setPower u).queue = b.queue := rfl
@[simp] theorem Block.setPower_trouble (b : Block) (u : PowerUnit) : (b.setPower u).trouble = b.trouble := rfl
@[simp] theorem Block.setPower_time (b : Block) (u : PowerUnit) : (b.setPower u).time = b.time := rfl
@[simp] theorem Block.setPower_grid (b : Block) (u : PowerUnit) : (b.setPower u).grid = b.grid := rfl
@[simp] theorem Block.setPower_spur (b : Block) (u : PowerUnit) : (b.setPower u).spur = b.spur := rfl
@[simp] theorem Block.setPower_front (b : Block) (u : PowerUnit) : (b.setPower u).front = b.front := rfl
@[simp] theorem Block.setPower_phy (b : Block) (u : PowerUnit) : (b.setPower u).phy = b.phy := rfl
@[simp] theorem Block.setPower_mac (b : Block) (u : PowerUnit) : (b.setPower u).mac = b.mac := rfl
@[simp] theorem Block.setPower_mesh (b : Block) (u : PowerUnit) : (b.setPower u).mesh = b.mesh := rfl
@[simp] theorem Block.setPower_sec (b : Block) (u : PowerUnit) : (b.setPower u).sec = b.sec := rfl
@[simp] theorem Block.setPower_tables (b : Block) (u : PowerUnit) : (b.setPower u).tables = b.tables := rfl
@[simp] theorem Block.setPower_custody (b : Block) (u : PowerUnit) : (b.setPower u).custody = b.custody := rfl
@[simp] theorem Block.setPower_sensor (b : Block) (u : PowerUnit) : (b.setPower u).sensor = b.sensor := rfl
@[simp] theorem Block.setPower_serial (b : Block) (u : PowerUnit) : (b.setPower u).serial = b.serial := rfl
@[simp] theorem Block.setPower_truing (b : Block) (u : PowerUnit) : (b.setPower u).truing = b.truing := rfl
@[simp] theorem Block.setPower_readData (b : Block) (u : PowerUnit) : (b.setPower u).readData = b.readData := rfl
@[simp] theorem Block.setPower_outs (b : Block) (u : PowerUnit) : (b.setPower u).outs = b.outs := rfl
@[simp] theorem Block.setPower_freeCtr (b : Block) (u : PowerUnit) : (b.setPower u).freeCtr = b.freeCtr := rfl
@[simp] theorem Block.setPower_get (b : Block) (u : PowerUnit) (g : Field) : (b.setPower u).get g = b.get g := rfl

@[simp] theorem Block.setPower_power (b : Block) (u : PowerUnit) : (b.setPower u).power = u := rfl

/-! `setMac` changes its unit alone. -/

@[simp] theorem Block.setMac_hostLatch (b : Block) (u : MacUnit) : (b.setMac u).hostLatch = b.hostLatch := rfl
@[simp] theorem Block.setMac_supLatch (b : Block) (u : MacUnit) : (b.setMac u).supLatch = b.supLatch := rfl
@[simp] theorem Block.setMac_modl (b : Block) (u : MacUnit) : (b.setMac u).modl = b.modl := rfl
@[simp] theorem Block.setMac_power (b : Block) (u : MacUnit) : (b.setMac u).power = b.power := rfl
@[simp] theorem Block.setMac_image (b : Block) (u : MacUnit) : (b.setMac u).image = b.image := rfl
@[simp] theorem Block.setMac_slices (b : Block) (u : MacUnit) : (b.setMac u).slices = b.slices := rfl
@[simp] theorem Block.setMac_fabric (b : Block) (u : MacUnit) : (b.setMac u).fabric = b.fabric := rfl
@[simp] theorem Block.setMac_queue (b : Block) (u : MacUnit) : (b.setMac u).queue = b.queue := rfl
@[simp] theorem Block.setMac_trouble (b : Block) (u : MacUnit) : (b.setMac u).trouble = b.trouble := rfl
@[simp] theorem Block.setMac_time (b : Block) (u : MacUnit) : (b.setMac u).time = b.time := rfl
@[simp] theorem Block.setMac_grid (b : Block) (u : MacUnit) : (b.setMac u).grid = b.grid := rfl
@[simp] theorem Block.setMac_spur (b : Block) (u : MacUnit) : (b.setMac u).spur = b.spur := rfl
@[simp] theorem Block.setMac_front (b : Block) (u : MacUnit) : (b.setMac u).front = b.front := rfl
@[simp] theorem Block.setMac_phy (b : Block) (u : MacUnit) : (b.setMac u).phy = b.phy := rfl
@[simp] theorem Block.setMac_mesh (b : Block) (u : MacUnit) : (b.setMac u).mesh = b.mesh := rfl
@[simp] theorem Block.setMac_sec (b : Block) (u : MacUnit) : (b.setMac u).sec = b.sec := rfl
@[simp] theorem Block.setMac_tables (b : Block) (u : MacUnit) : (b.setMac u).tables = b.tables := rfl
@[simp] theorem Block.setMac_custody (b : Block) (u : MacUnit) : (b.setMac u).custody = b.custody := rfl
@[simp] theorem Block.setMac_sensor (b : Block) (u : MacUnit) : (b.setMac u).sensor = b.sensor := rfl
@[simp] theorem Block.setMac_serial (b : Block) (u : MacUnit) : (b.setMac u).serial = b.serial := rfl
@[simp] theorem Block.setMac_truing (b : Block) (u : MacUnit) : (b.setMac u).truing = b.truing := rfl
@[simp] theorem Block.setMac_readData (b : Block) (u : MacUnit) : (b.setMac u).readData = b.readData := rfl
@[simp] theorem Block.setMac_outs (b : Block) (u : MacUnit) : (b.setMac u).outs = b.outs := rfl
@[simp] theorem Block.setMac_freeCtr (b : Block) (u : MacUnit) : (b.setMac u).freeCtr = b.freeCtr := rfl
@[simp] theorem Block.setMac_get (b : Block) (u : MacUnit) (g : Field) : (b.setMac u).get g = b.get g := rfl

@[simp] theorem Block.setMac_mac (b : Block) (u : MacUnit) : (b.setMac u).mac = u := rfl

/-! `setMesh` changes its unit alone. -/

@[simp] theorem Block.setMesh_hostLatch (b : Block) (u : MeshUnit) : (b.setMesh u).hostLatch = b.hostLatch := rfl
@[simp] theorem Block.setMesh_supLatch (b : Block) (u : MeshUnit) : (b.setMesh u).supLatch = b.supLatch := rfl
@[simp] theorem Block.setMesh_modl (b : Block) (u : MeshUnit) : (b.setMesh u).modl = b.modl := rfl
@[simp] theorem Block.setMesh_power (b : Block) (u : MeshUnit) : (b.setMesh u).power = b.power := rfl
@[simp] theorem Block.setMesh_image (b : Block) (u : MeshUnit) : (b.setMesh u).image = b.image := rfl
@[simp] theorem Block.setMesh_slices (b : Block) (u : MeshUnit) : (b.setMesh u).slices = b.slices := rfl
@[simp] theorem Block.setMesh_fabric (b : Block) (u : MeshUnit) : (b.setMesh u).fabric = b.fabric := rfl
@[simp] theorem Block.setMesh_queue (b : Block) (u : MeshUnit) : (b.setMesh u).queue = b.queue := rfl
@[simp] theorem Block.setMesh_trouble (b : Block) (u : MeshUnit) : (b.setMesh u).trouble = b.trouble := rfl
@[simp] theorem Block.setMesh_time (b : Block) (u : MeshUnit) : (b.setMesh u).time = b.time := rfl
@[simp] theorem Block.setMesh_grid (b : Block) (u : MeshUnit) : (b.setMesh u).grid = b.grid := rfl
@[simp] theorem Block.setMesh_spur (b : Block) (u : MeshUnit) : (b.setMesh u).spur = b.spur := rfl
@[simp] theorem Block.setMesh_front (b : Block) (u : MeshUnit) : (b.setMesh u).front = b.front := rfl
@[simp] theorem Block.setMesh_phy (b : Block) (u : MeshUnit) : (b.setMesh u).phy = b.phy := rfl
@[simp] theorem Block.setMesh_mac (b : Block) (u : MeshUnit) : (b.setMesh u).mac = b.mac := rfl
@[simp] theorem Block.setMesh_sec (b : Block) (u : MeshUnit) : (b.setMesh u).sec = b.sec := rfl
@[simp] theorem Block.setMesh_tables (b : Block) (u : MeshUnit) : (b.setMesh u).tables = b.tables := rfl
@[simp] theorem Block.setMesh_custody (b : Block) (u : MeshUnit) : (b.setMesh u).custody = b.custody := rfl
@[simp] theorem Block.setMesh_sensor (b : Block) (u : MeshUnit) : (b.setMesh u).sensor = b.sensor := rfl
@[simp] theorem Block.setMesh_serial (b : Block) (u : MeshUnit) : (b.setMesh u).serial = b.serial := rfl
@[simp] theorem Block.setMesh_truing (b : Block) (u : MeshUnit) : (b.setMesh u).truing = b.truing := rfl
@[simp] theorem Block.setMesh_readData (b : Block) (u : MeshUnit) : (b.setMesh u).readData = b.readData := rfl
@[simp] theorem Block.setMesh_outs (b : Block) (u : MeshUnit) : (b.setMesh u).outs = b.outs := rfl
@[simp] theorem Block.setMesh_freeCtr (b : Block) (u : MeshUnit) : (b.setMesh u).freeCtr = b.freeCtr := rfl
@[simp] theorem Block.setMesh_get (b : Block) (u : MeshUnit) (g : Field) : (b.setMesh u).get g = b.get g := rfl

@[simp] theorem Block.setMesh_mesh (b : Block) (u : MeshUnit) : (b.setMesh u).mesh = u := rfl

/-! `setSec` changes its unit alone. -/

@[simp] theorem Block.setSec_hostLatch (b : Block) (u : SecUnit) : (b.setSec u).hostLatch = b.hostLatch := rfl
@[simp] theorem Block.setSec_supLatch (b : Block) (u : SecUnit) : (b.setSec u).supLatch = b.supLatch := rfl
@[simp] theorem Block.setSec_modl (b : Block) (u : SecUnit) : (b.setSec u).modl = b.modl := rfl
@[simp] theorem Block.setSec_power (b : Block) (u : SecUnit) : (b.setSec u).power = b.power := rfl
@[simp] theorem Block.setSec_image (b : Block) (u : SecUnit) : (b.setSec u).image = b.image := rfl
@[simp] theorem Block.setSec_slices (b : Block) (u : SecUnit) : (b.setSec u).slices = b.slices := rfl
@[simp] theorem Block.setSec_fabric (b : Block) (u : SecUnit) : (b.setSec u).fabric = b.fabric := rfl
@[simp] theorem Block.setSec_queue (b : Block) (u : SecUnit) : (b.setSec u).queue = b.queue := rfl
@[simp] theorem Block.setSec_trouble (b : Block) (u : SecUnit) : (b.setSec u).trouble = b.trouble := rfl
@[simp] theorem Block.setSec_time (b : Block) (u : SecUnit) : (b.setSec u).time = b.time := rfl
@[simp] theorem Block.setSec_grid (b : Block) (u : SecUnit) : (b.setSec u).grid = b.grid := rfl
@[simp] theorem Block.setSec_spur (b : Block) (u : SecUnit) : (b.setSec u).spur = b.spur := rfl
@[simp] theorem Block.setSec_front (b : Block) (u : SecUnit) : (b.setSec u).front = b.front := rfl
@[simp] theorem Block.setSec_phy (b : Block) (u : SecUnit) : (b.setSec u).phy = b.phy := rfl
@[simp] theorem Block.setSec_mac (b : Block) (u : SecUnit) : (b.setSec u).mac = b.mac := rfl
@[simp] theorem Block.setSec_mesh (b : Block) (u : SecUnit) : (b.setSec u).mesh = b.mesh := rfl
@[simp] theorem Block.setSec_tables (b : Block) (u : SecUnit) : (b.setSec u).tables = b.tables := rfl
@[simp] theorem Block.setSec_custody (b : Block) (u : SecUnit) : (b.setSec u).custody = b.custody := rfl
@[simp] theorem Block.setSec_sensor (b : Block) (u : SecUnit) : (b.setSec u).sensor = b.sensor := rfl
@[simp] theorem Block.setSec_serial (b : Block) (u : SecUnit) : (b.setSec u).serial = b.serial := rfl
@[simp] theorem Block.setSec_truing (b : Block) (u : SecUnit) : (b.setSec u).truing = b.truing := rfl
@[simp] theorem Block.setSec_readData (b : Block) (u : SecUnit) : (b.setSec u).readData = b.readData := rfl
@[simp] theorem Block.setSec_outs (b : Block) (u : SecUnit) : (b.setSec u).outs = b.outs := rfl
@[simp] theorem Block.setSec_freeCtr (b : Block) (u : SecUnit) : (b.setSec u).freeCtr = b.freeCtr := rfl
@[simp] theorem Block.setSec_get (b : Block) (u : SecUnit) (g : Field) : (b.setSec u).get g = b.get g := rfl

@[simp] theorem Block.setSec_sec (b : Block) (u : SecUnit) : (b.setSec u).sec = u := rfl

/-! `setGrid` changes its unit alone. -/

@[simp] theorem Block.setGrid_hostLatch (b : Block) (u : GridUnit) : (b.setGrid u).hostLatch = b.hostLatch := rfl
@[simp] theorem Block.setGrid_supLatch (b : Block) (u : GridUnit) : (b.setGrid u).supLatch = b.supLatch := rfl
@[simp] theorem Block.setGrid_modl (b : Block) (u : GridUnit) : (b.setGrid u).modl = b.modl := rfl
@[simp] theorem Block.setGrid_power (b : Block) (u : GridUnit) : (b.setGrid u).power = b.power := rfl
@[simp] theorem Block.setGrid_image (b : Block) (u : GridUnit) : (b.setGrid u).image = b.image := rfl
@[simp] theorem Block.setGrid_slices (b : Block) (u : GridUnit) : (b.setGrid u).slices = b.slices := rfl
@[simp] theorem Block.setGrid_fabric (b : Block) (u : GridUnit) : (b.setGrid u).fabric = b.fabric := rfl
@[simp] theorem Block.setGrid_queue (b : Block) (u : GridUnit) : (b.setGrid u).queue = b.queue := rfl
@[simp] theorem Block.setGrid_trouble (b : Block) (u : GridUnit) : (b.setGrid u).trouble = b.trouble := rfl
@[simp] theorem Block.setGrid_time (b : Block) (u : GridUnit) : (b.setGrid u).time = b.time := rfl
@[simp] theorem Block.setGrid_spur (b : Block) (u : GridUnit) : (b.setGrid u).spur = b.spur := rfl
@[simp] theorem Block.setGrid_front (b : Block) (u : GridUnit) : (b.setGrid u).front = b.front := rfl
@[simp] theorem Block.setGrid_phy (b : Block) (u : GridUnit) : (b.setGrid u).phy = b.phy := rfl
@[simp] theorem Block.setGrid_mac (b : Block) (u : GridUnit) : (b.setGrid u).mac = b.mac := rfl
@[simp] theorem Block.setGrid_mesh (b : Block) (u : GridUnit) : (b.setGrid u).mesh = b.mesh := rfl
@[simp] theorem Block.setGrid_sec (b : Block) (u : GridUnit) : (b.setGrid u).sec = b.sec := rfl
@[simp] theorem Block.setGrid_tables (b : Block) (u : GridUnit) : (b.setGrid u).tables = b.tables := rfl
@[simp] theorem Block.setGrid_custody (b : Block) (u : GridUnit) : (b.setGrid u).custody = b.custody := rfl
@[simp] theorem Block.setGrid_sensor (b : Block) (u : GridUnit) : (b.setGrid u).sensor = b.sensor := rfl
@[simp] theorem Block.setGrid_serial (b : Block) (u : GridUnit) : (b.setGrid u).serial = b.serial := rfl
@[simp] theorem Block.setGrid_truing (b : Block) (u : GridUnit) : (b.setGrid u).truing = b.truing := rfl
@[simp] theorem Block.setGrid_readData (b : Block) (u : GridUnit) : (b.setGrid u).readData = b.readData := rfl
@[simp] theorem Block.setGrid_outs (b : Block) (u : GridUnit) : (b.setGrid u).outs = b.outs := rfl
@[simp] theorem Block.setGrid_freeCtr (b : Block) (u : GridUnit) : (b.setGrid u).freeCtr = b.freeCtr := rfl
@[simp] theorem Block.setGrid_get (b : Block) (u : GridUnit) (g : Field) : (b.setGrid u).get g = b.get g := rfl

@[simp] theorem Block.setGrid_grid (b : Block) (u : GridUnit) : (b.setGrid u).grid = u := rfl

/-! `setImage` changes its unit alone. -/

@[simp] theorem Block.setImage_hostLatch (b : Block) (u : ImageUnit) : (b.setImage u).hostLatch = b.hostLatch := rfl
@[simp] theorem Block.setImage_supLatch (b : Block) (u : ImageUnit) : (b.setImage u).supLatch = b.supLatch := rfl
@[simp] theorem Block.setImage_modl (b : Block) (u : ImageUnit) : (b.setImage u).modl = b.modl := rfl
@[simp] theorem Block.setImage_power (b : Block) (u : ImageUnit) : (b.setImage u).power = b.power := rfl
@[simp] theorem Block.setImage_slices (b : Block) (u : ImageUnit) : (b.setImage u).slices = b.slices := rfl
@[simp] theorem Block.setImage_fabric (b : Block) (u : ImageUnit) : (b.setImage u).fabric = b.fabric := rfl
@[simp] theorem Block.setImage_queue (b : Block) (u : ImageUnit) : (b.setImage u).queue = b.queue := rfl
@[simp] theorem Block.setImage_trouble (b : Block) (u : ImageUnit) : (b.setImage u).trouble = b.trouble := rfl
@[simp] theorem Block.setImage_time (b : Block) (u : ImageUnit) : (b.setImage u).time = b.time := rfl
@[simp] theorem Block.setImage_grid (b : Block) (u : ImageUnit) : (b.setImage u).grid = b.grid := rfl
@[simp] theorem Block.setImage_spur (b : Block) (u : ImageUnit) : (b.setImage u).spur = b.spur := rfl
@[simp] theorem Block.setImage_front (b : Block) (u : ImageUnit) : (b.setImage u).front = b.front := rfl
@[simp] theorem Block.setImage_phy (b : Block) (u : ImageUnit) : (b.setImage u).phy = b.phy := rfl
@[simp] theorem Block.setImage_mac (b : Block) (u : ImageUnit) : (b.setImage u).mac = b.mac := rfl
@[simp] theorem Block.setImage_mesh (b : Block) (u : ImageUnit) : (b.setImage u).mesh = b.mesh := rfl
@[simp] theorem Block.setImage_sec (b : Block) (u : ImageUnit) : (b.setImage u).sec = b.sec := rfl
@[simp] theorem Block.setImage_tables (b : Block) (u : ImageUnit) : (b.setImage u).tables = b.tables := rfl
@[simp] theorem Block.setImage_custody (b : Block) (u : ImageUnit) : (b.setImage u).custody = b.custody := rfl
@[simp] theorem Block.setImage_sensor (b : Block) (u : ImageUnit) : (b.setImage u).sensor = b.sensor := rfl
@[simp] theorem Block.setImage_serial (b : Block) (u : ImageUnit) : (b.setImage u).serial = b.serial := rfl
@[simp] theorem Block.setImage_truing (b : Block) (u : ImageUnit) : (b.setImage u).truing = b.truing := rfl
@[simp] theorem Block.setImage_readData (b : Block) (u : ImageUnit) : (b.setImage u).readData = b.readData := rfl
@[simp] theorem Block.setImage_outs (b : Block) (u : ImageUnit) : (b.setImage u).outs = b.outs := rfl
@[simp] theorem Block.setImage_freeCtr (b : Block) (u : ImageUnit) : (b.setImage u).freeCtr = b.freeCtr := rfl
@[simp] theorem Block.setImage_get (b : Block) (u : ImageUnit) (g : Field) : (b.setImage u).get g = b.get g := rfl

@[simp] theorem Block.setImage_image (b : Block) (u : ImageUnit) : (b.setImage u).image = u := rfl

/-! `setCustody` changes its unit alone. -/

@[simp] theorem Block.setCustody_hostLatch (b : Block) (u : CustodyUnit) : (b.setCustody u).hostLatch = b.hostLatch := rfl
@[simp] theorem Block.setCustody_supLatch (b : Block) (u : CustodyUnit) : (b.setCustody u).supLatch = b.supLatch := rfl
@[simp] theorem Block.setCustody_modl (b : Block) (u : CustodyUnit) : (b.setCustody u).modl = b.modl := rfl
@[simp] theorem Block.setCustody_power (b : Block) (u : CustodyUnit) : (b.setCustody u).power = b.power := rfl
@[simp] theorem Block.setCustody_image (b : Block) (u : CustodyUnit) : (b.setCustody u).image = b.image := rfl
@[simp] theorem Block.setCustody_slices (b : Block) (u : CustodyUnit) : (b.setCustody u).slices = b.slices := rfl
@[simp] theorem Block.setCustody_fabric (b : Block) (u : CustodyUnit) : (b.setCustody u).fabric = b.fabric := rfl
@[simp] theorem Block.setCustody_queue (b : Block) (u : CustodyUnit) : (b.setCustody u).queue = b.queue := rfl
@[simp] theorem Block.setCustody_trouble (b : Block) (u : CustodyUnit) : (b.setCustody u).trouble = b.trouble := rfl
@[simp] theorem Block.setCustody_time (b : Block) (u : CustodyUnit) : (b.setCustody u).time = b.time := rfl
@[simp] theorem Block.setCustody_grid (b : Block) (u : CustodyUnit) : (b.setCustody u).grid = b.grid := rfl
@[simp] theorem Block.setCustody_spur (b : Block) (u : CustodyUnit) : (b.setCustody u).spur = b.spur := rfl
@[simp] theorem Block.setCustody_front (b : Block) (u : CustodyUnit) : (b.setCustody u).front = b.front := rfl
@[simp] theorem Block.setCustody_phy (b : Block) (u : CustodyUnit) : (b.setCustody u).phy = b.phy := rfl
@[simp] theorem Block.setCustody_mac (b : Block) (u : CustodyUnit) : (b.setCustody u).mac = b.mac := rfl
@[simp] theorem Block.setCustody_mesh (b : Block) (u : CustodyUnit) : (b.setCustody u).mesh = b.mesh := rfl
@[simp] theorem Block.setCustody_sec (b : Block) (u : CustodyUnit) : (b.setCustody u).sec = b.sec := rfl
@[simp] theorem Block.setCustody_tables (b : Block) (u : CustodyUnit) : (b.setCustody u).tables = b.tables := rfl
@[simp] theorem Block.setCustody_sensor (b : Block) (u : CustodyUnit) : (b.setCustody u).sensor = b.sensor := rfl
@[simp] theorem Block.setCustody_serial (b : Block) (u : CustodyUnit) : (b.setCustody u).serial = b.serial := rfl
@[simp] theorem Block.setCustody_truing (b : Block) (u : CustodyUnit) : (b.setCustody u).truing = b.truing := rfl
@[simp] theorem Block.setCustody_readData (b : Block) (u : CustodyUnit) : (b.setCustody u).readData = b.readData := rfl
@[simp] theorem Block.setCustody_outs (b : Block) (u : CustodyUnit) : (b.setCustody u).outs = b.outs := rfl
@[simp] theorem Block.setCustody_freeCtr (b : Block) (u : CustodyUnit) : (b.setCustody u).freeCtr = b.freeCtr := rfl
@[simp] theorem Block.setCustody_get (b : Block) (u : CustodyUnit) (g : Field) : (b.setCustody u).get g = b.get g := rfl

@[simp] theorem Block.setCustody_custody (b : Block) (u : CustodyUnit) : (b.setCustody u).custody = u := rfl

/-! `setSensor` changes its unit alone. -/

@[simp] theorem Block.setSensor_hostLatch (b : Block) (u : SensorUnit) : (b.setSensor u).hostLatch = b.hostLatch := rfl
@[simp] theorem Block.setSensor_supLatch (b : Block) (u : SensorUnit) : (b.setSensor u).supLatch = b.supLatch := rfl
@[simp] theorem Block.setSensor_modl (b : Block) (u : SensorUnit) : (b.setSensor u).modl = b.modl := rfl
@[simp] theorem Block.setSensor_power (b : Block) (u : SensorUnit) : (b.setSensor u).power = b.power := rfl
@[simp] theorem Block.setSensor_image (b : Block) (u : SensorUnit) : (b.setSensor u).image = b.image := rfl
@[simp] theorem Block.setSensor_slices (b : Block) (u : SensorUnit) : (b.setSensor u).slices = b.slices := rfl
@[simp] theorem Block.setSensor_fabric (b : Block) (u : SensorUnit) : (b.setSensor u).fabric = b.fabric := rfl
@[simp] theorem Block.setSensor_queue (b : Block) (u : SensorUnit) : (b.setSensor u).queue = b.queue := rfl
@[simp] theorem Block.setSensor_trouble (b : Block) (u : SensorUnit) : (b.setSensor u).trouble = b.trouble := rfl
@[simp] theorem Block.setSensor_time (b : Block) (u : SensorUnit) : (b.setSensor u).time = b.time := rfl
@[simp] theorem Block.setSensor_grid (b : Block) (u : SensorUnit) : (b.setSensor u).grid = b.grid := rfl
@[simp] theorem Block.setSensor_spur (b : Block) (u : SensorUnit) : (b.setSensor u).spur = b.spur := rfl
@[simp] theorem Block.setSensor_front (b : Block) (u : SensorUnit) : (b.setSensor u).front = b.front := rfl
@[simp] theorem Block.setSensor_phy (b : Block) (u : SensorUnit) : (b.setSensor u).phy = b.phy := rfl
@[simp] theorem Block.setSensor_mac (b : Block) (u : SensorUnit) : (b.setSensor u).mac = b.mac := rfl
@[simp] theorem Block.setSensor_mesh (b : Block) (u : SensorUnit) : (b.setSensor u).mesh = b.mesh := rfl
@[simp] theorem Block.setSensor_sec (b : Block) (u : SensorUnit) : (b.setSensor u).sec = b.sec := rfl
@[simp] theorem Block.setSensor_tables (b : Block) (u : SensorUnit) : (b.setSensor u).tables = b.tables := rfl
@[simp] theorem Block.setSensor_custody (b : Block) (u : SensorUnit) : (b.setSensor u).custody = b.custody := rfl
@[simp] theorem Block.setSensor_serial (b : Block) (u : SensorUnit) : (b.setSensor u).serial = b.serial := rfl
@[simp] theorem Block.setSensor_truing (b : Block) (u : SensorUnit) : (b.setSensor u).truing = b.truing := rfl
@[simp] theorem Block.setSensor_readData (b : Block) (u : SensorUnit) : (b.setSensor u).readData = b.readData := rfl
@[simp] theorem Block.setSensor_outs (b : Block) (u : SensorUnit) : (b.setSensor u).outs = b.outs := rfl
@[simp] theorem Block.setSensor_freeCtr (b : Block) (u : SensorUnit) : (b.setSensor u).freeCtr = b.freeCtr := rfl
@[simp] theorem Block.setSensor_get (b : Block) (u : SensorUnit) (g : Field) : (b.setSensor u).get g = b.get g := rfl

@[simp] theorem Block.setSensor_sensor (b : Block) (u : SensorUnit) : (b.setSensor u).sensor = u := rfl

/-! `setTrouble` changes its unit alone. -/

@[simp] theorem Block.setTrouble_hostLatch (b : Block) (u : TroubleUnit) : (b.setTrouble u).hostLatch = b.hostLatch := rfl
@[simp] theorem Block.setTrouble_supLatch (b : Block) (u : TroubleUnit) : (b.setTrouble u).supLatch = b.supLatch := rfl
@[simp] theorem Block.setTrouble_modl (b : Block) (u : TroubleUnit) : (b.setTrouble u).modl = b.modl := rfl
@[simp] theorem Block.setTrouble_power (b : Block) (u : TroubleUnit) : (b.setTrouble u).power = b.power := rfl
@[simp] theorem Block.setTrouble_image (b : Block) (u : TroubleUnit) : (b.setTrouble u).image = b.image := rfl
@[simp] theorem Block.setTrouble_slices (b : Block) (u : TroubleUnit) : (b.setTrouble u).slices = b.slices := rfl
@[simp] theorem Block.setTrouble_fabric (b : Block) (u : TroubleUnit) : (b.setTrouble u).fabric = b.fabric := rfl
@[simp] theorem Block.setTrouble_queue (b : Block) (u : TroubleUnit) : (b.setTrouble u).queue = b.queue := rfl
@[simp] theorem Block.setTrouble_time (b : Block) (u : TroubleUnit) : (b.setTrouble u).time = b.time := rfl
@[simp] theorem Block.setTrouble_grid (b : Block) (u : TroubleUnit) : (b.setTrouble u).grid = b.grid := rfl
@[simp] theorem Block.setTrouble_spur (b : Block) (u : TroubleUnit) : (b.setTrouble u).spur = b.spur := rfl
@[simp] theorem Block.setTrouble_front (b : Block) (u : TroubleUnit) : (b.setTrouble u).front = b.front := rfl
@[simp] theorem Block.setTrouble_phy (b : Block) (u : TroubleUnit) : (b.setTrouble u).phy = b.phy := rfl
@[simp] theorem Block.setTrouble_mac (b : Block) (u : TroubleUnit) : (b.setTrouble u).mac = b.mac := rfl
@[simp] theorem Block.setTrouble_mesh (b : Block) (u : TroubleUnit) : (b.setTrouble u).mesh = b.mesh := rfl
@[simp] theorem Block.setTrouble_sec (b : Block) (u : TroubleUnit) : (b.setTrouble u).sec = b.sec := rfl
@[simp] theorem Block.setTrouble_tables (b : Block) (u : TroubleUnit) : (b.setTrouble u).tables = b.tables := rfl
@[simp] theorem Block.setTrouble_custody (b : Block) (u : TroubleUnit) : (b.setTrouble u).custody = b.custody := rfl
@[simp] theorem Block.setTrouble_sensor (b : Block) (u : TroubleUnit) : (b.setTrouble u).sensor = b.sensor := rfl
@[simp] theorem Block.setTrouble_serial (b : Block) (u : TroubleUnit) : (b.setTrouble u).serial = b.serial := rfl
@[simp] theorem Block.setTrouble_truing (b : Block) (u : TroubleUnit) : (b.setTrouble u).truing = b.truing := rfl
@[simp] theorem Block.setTrouble_readData (b : Block) (u : TroubleUnit) : (b.setTrouble u).readData = b.readData := rfl
@[simp] theorem Block.setTrouble_outs (b : Block) (u : TroubleUnit) : (b.setTrouble u).outs = b.outs := rfl
@[simp] theorem Block.setTrouble_freeCtr (b : Block) (u : TroubleUnit) : (b.setTrouble u).freeCtr = b.freeCtr := rfl
@[simp] theorem Block.setTrouble_get (b : Block) (u : TroubleUnit) (g : Field) : (b.setTrouble u).get g = b.get g := rfl

@[simp] theorem Block.setTrouble_trouble (b : Block) (u : TroubleUnit) : (b.setTrouble u).trouble = u := rfl

/-! A change of one queue, of one slice: read after write. -/

@[simp] theorem Block.q_modQ_self (b : Block) (n : Nat) (h : Queue → Queue) : (b.modQ n h).q n = h (b.q n) :=
  Tab.get_set_self _ _ _ _

theorem Block.q_modQ_ne (b : Block) (n m : Nat) (h : Queue → Queue) (e : m ≠ n) : (b.modQ n h).q m = b.q m :=
  Tab.get_set_ne _ _ _ _ _ e

@[simp] theorem Block.sliceState_modSlice_self (b : Block) (n : Nat) (h : SliceState → SliceState) :
    (b.modSlice n h).sliceState n = h (b.sliceState n) := Tab.get_set_self _ _ _ _

theorem Block.sliceState_modSlice_ne (b : Block) (n m : Nat) (h : SliceState → SliceState) (e : m ≠ n) :
    (b.modSlice n h).sliceState m = b.sliceState m := Tab.get_set_ne _ _ _ _ _ e

/-! TRB_SUMMARY and ALERT_N follow (R462, R463): nothing but TRB_SUMMARY and X2 pin 9 changes. -/

theorem Block.driveAlert_get (b : Block) (g : Field) : b.driveAlert.get g = b.get g := by
  unfold Block.driveAlert; split <;> rfl

theorem Block.updateAlert_get (b : Block) (g : Field) (h : g.key ≠ R.TRB_SUMMARY.key) : b.updateAlert.get g = b.get g := by
  rw [Block.updateAlert, Block.driveAlert_get, Block.get_set_ne b _ g _ h]

theorem Block.updateAlert_summary (b : Block) : b.updateAlert.get R.TRB_SUMMARY = b.summary % 2 ^ R.TRB_SUMMARY.width := by
  rw [Block.updateAlert, Block.driveAlert_get, Block.get_set_self]

theorem Block.driveAlert_hostLatch (b : Block) : b.driveAlert.hostLatch = b.hostLatch := by unfold Block.driveAlert; split <;> rfl
theorem Block.driveAlert_supLatch (b : Block) : b.driveAlert.supLatch = b.supLatch := by unfold Block.driveAlert; split <;> rfl
theorem Block.driveAlert_power (b : Block) : b.driveAlert.power = b.power := by unfold Block.driveAlert; split <;> rfl
theorem Block.driveAlert_image (b : Block) : b.driveAlert.image = b.image := by unfold Block.driveAlert; split <;> rfl
theorem Block.driveAlert_slices (b : Block) : b.driveAlert.slices = b.slices := by unfold Block.driveAlert; split <;> rfl
theorem Block.driveAlert_fabric (b : Block) : b.driveAlert.fabric = b.fabric := by unfold Block.driveAlert; split <;> rfl
theorem Block.driveAlert_queue (b : Block) : b.driveAlert.queue = b.queue := by unfold Block.driveAlert; split <;> rfl
theorem Block.driveAlert_trouble (b : Block) : b.driveAlert.trouble = b.trouble := by unfold Block.driveAlert; split <;> rfl
theorem Block.driveAlert_time (b : Block) : b.driveAlert.time = b.time := by unfold Block.driveAlert; split <;> rfl
theorem Block.driveAlert_grid (b : Block) : b.driveAlert.grid = b.grid := by unfold Block.driveAlert; split <;> rfl
theorem Block.driveAlert_spur (b : Block) : b.driveAlert.spur = b.spur := by unfold Block.driveAlert; split <;> rfl
theorem Block.driveAlert_front (b : Block) : b.driveAlert.front = b.front := by unfold Block.driveAlert; split <;> rfl
theorem Block.driveAlert_phy (b : Block) : b.driveAlert.phy = b.phy := by unfold Block.driveAlert; split <;> rfl
theorem Block.driveAlert_mac (b : Block) : b.driveAlert.mac = b.mac := by unfold Block.driveAlert; split <;> rfl
theorem Block.driveAlert_mesh (b : Block) : b.driveAlert.mesh = b.mesh := by unfold Block.driveAlert; split <;> rfl
theorem Block.driveAlert_sec (b : Block) : b.driveAlert.sec = b.sec := by unfold Block.driveAlert; split <;> rfl
theorem Block.driveAlert_tables (b : Block) : b.driveAlert.tables = b.tables := by unfold Block.driveAlert; split <;> rfl
theorem Block.driveAlert_custody (b : Block) : b.driveAlert.custody = b.custody := by unfold Block.driveAlert; split <;> rfl
theorem Block.driveAlert_sensor (b : Block) : b.driveAlert.sensor = b.sensor := by unfold Block.driveAlert; split <;> rfl
theorem Block.driveAlert_serial (b : Block) : b.driveAlert.serial = b.serial := by unfold Block.driveAlert; split <;> rfl
theorem Block.driveAlert_truing (b : Block) : b.driveAlert.truing = b.truing := by unfold Block.driveAlert; split <;> rfl
theorem Block.driveAlert_readData (b : Block) : b.driveAlert.readData = b.readData := by unfold Block.driveAlert; split <;> rfl
theorem Block.driveAlert_outs (b : Block) : b.driveAlert.outs = b.outs := by unfold Block.driveAlert; split <;> rfl
theorem Block.driveAlert_freeCtr (b : Block) : b.driveAlert.freeCtr = b.freeCtr := by unfold Block.driveAlert; split <;> rfl

@[simp] theorem Block.updateAlert_hostLatch (b : Block) : b.updateAlert.hostLatch = b.hostLatch := by
  rw [Block.updateAlert, Block.driveAlert_hostLatch, Block.set_hostLatch]
@[simp] theorem Block.updateAlert_supLatch (b : Block) : b.updateAlert.supLatch = b.supLatch := by
  rw [Block.updateAlert, Block.driveAlert_supLatch, Block.set_supLatch]
@[simp] theorem Block.updateAlert_power (b : Block) : b.updateAlert.power = b.power := by
  rw [Block.updateAlert, Block.driveAlert_power, Block.set_power]
@[simp] theorem Block.updateAlert_image (b : Block) : b.updateAlert.image = b.image := by
  rw [Block.updateAlert, Block.driveAlert_image, Block.set_image]
@[simp] theorem Block.updateAlert_slices (b : Block) : b.updateAlert.slices = b.slices := by
  rw [Block.updateAlert, Block.driveAlert_slices, Block.set_slices]
@[simp] theorem Block.updateAlert_fabric (b : Block) : b.updateAlert.fabric = b.fabric := by
  rw [Block.updateAlert, Block.driveAlert_fabric, Block.set_fabric]
@[simp] theorem Block.updateAlert_queue (b : Block) : b.updateAlert.queue = b.queue := by
  rw [Block.updateAlert, Block.driveAlert_queue, Block.set_queue]
@[simp] theorem Block.updateAlert_trouble (b : Block) : b.updateAlert.trouble = b.trouble := by
  rw [Block.updateAlert, Block.driveAlert_trouble, Block.set_trouble]
@[simp] theorem Block.updateAlert_time (b : Block) : b.updateAlert.time = b.time := by
  rw [Block.updateAlert, Block.driveAlert_time, Block.set_time]
@[simp] theorem Block.updateAlert_grid (b : Block) : b.updateAlert.grid = b.grid := by
  rw [Block.updateAlert, Block.driveAlert_grid, Block.set_grid]
@[simp] theorem Block.updateAlert_spur (b : Block) : b.updateAlert.spur = b.spur := by
  rw [Block.updateAlert, Block.driveAlert_spur, Block.set_spur]
@[simp] theorem Block.updateAlert_front (b : Block) : b.updateAlert.front = b.front := by
  rw [Block.updateAlert, Block.driveAlert_front, Block.set_front]
@[simp] theorem Block.updateAlert_phy (b : Block) : b.updateAlert.phy = b.phy := by
  rw [Block.updateAlert, Block.driveAlert_phy, Block.set_phy]
@[simp] theorem Block.updateAlert_mac (b : Block) : b.updateAlert.mac = b.mac := by
  rw [Block.updateAlert, Block.driveAlert_mac, Block.set_mac]
@[simp] theorem Block.updateAlert_mesh (b : Block) : b.updateAlert.mesh = b.mesh := by
  rw [Block.updateAlert, Block.driveAlert_mesh, Block.set_mesh]
@[simp] theorem Block.updateAlert_sec (b : Block) : b.updateAlert.sec = b.sec := by
  rw [Block.updateAlert, Block.driveAlert_sec, Block.set_sec]
@[simp] theorem Block.updateAlert_tables (b : Block) : b.updateAlert.tables = b.tables := by
  rw [Block.updateAlert, Block.driveAlert_tables, Block.set_tables]
@[simp] theorem Block.updateAlert_custody (b : Block) : b.updateAlert.custody = b.custody := by
  rw [Block.updateAlert, Block.driveAlert_custody, Block.set_custody]
@[simp] theorem Block.updateAlert_sensor (b : Block) : b.updateAlert.sensor = b.sensor := by
  rw [Block.updateAlert, Block.driveAlert_sensor, Block.set_sensor]
@[simp] theorem Block.updateAlert_serial (b : Block) : b.updateAlert.serial = b.serial := by
  rw [Block.updateAlert, Block.driveAlert_serial, Block.set_serial]
@[simp] theorem Block.updateAlert_truing (b : Block) : b.updateAlert.truing = b.truing := by
  rw [Block.updateAlert, Block.driveAlert_truing, Block.set_truing]
@[simp] theorem Block.updateAlert_readData (b : Block) : b.updateAlert.readData = b.readData := by
  rw [Block.updateAlert, Block.driveAlert_readData, Block.set_readData]
@[simp] theorem Block.updateAlert_outs (b : Block) : b.updateAlert.outs = b.outs := by
  rw [Block.updateAlert, Block.driveAlert_outs, Block.set_outs]
@[simp] theorem Block.updateAlert_freeCtr (b : Block) : b.updateAlert.freeCtr = b.freeCtr := by
  rw [Block.updateAlert, Block.driveAlert_freeCtr, Block.set_freeCtr]

theorem Block.driveAlert_pin (b : Block) (n : Nat) (h : n ≠ 9) :
    Tab.get .z b.driveAlert.modl.pins n = Tab.get .z b.modl.pins n := by
  unfold Block.driveAlert; split
  · exact Tab.get_set_ne _ _ _ _ _ h
  · rfl

theorem Block.updateAlert_pin (b : Block) (n : Nat) (h : n ≠ 9) :
    Tab.get .z b.updateAlert.modl.pins n = Tab.get .z b.modl.pins n := by
  rw [Block.updateAlert, Block.driveAlert_pin _ n h, Block.set_modl]

theorem Block.driveAlert_modl (b : Block) : b.driveAlert.modl.offAlert = b.modl.offAlert := by
  unfold Block.driveAlert; split
  · simp [ModuleUnit.offAlert, Tab.erase_set_self]
  · rfl

theorem Block.updateAlert_modl (b : Block) : b.updateAlert.modl.offAlert = b.modl.offAlert := by
  rw [Block.updateAlert, Block.driveAlert_modl, Block.set_modl]

theorem Block.driveAlert_modl_pins (b : Block) : b.driveAlert.modl = { b.modl with pins := b.driveAlert.modl.pins } := by
  unfold Block.driveAlert; split <;> rfl

theorem Block.updateAlert_modl_pins (b : Block) :
    b.updateAlert.modl = { b.modl with pins := b.updateAlert.modl.pins } := by
  conv_lhs => rw [Block.updateAlert, Block.driveAlert_modl_pins]
  rw [Block.set_modl]; simp only [Block.updateAlert]

@[simp] theorem Block.updateAlert_modl_pinPlan (b : Block) : b.updateAlert.modl.pinPlan = b.modl.pinPlan := by
  rw [Block.updateAlert_modl_pins]
@[simp] theorem Block.updateAlert_modl_resetN (b : Block) : b.updateAlert.modl.resetN = b.modl.resetN := by
  rw [Block.updateAlert_modl_pins]
@[simp] theorem Block.updateAlert_modl_vauxOn (b : Block) : b.updateAlert.modl.vauxOn = b.modl.vauxOn := by
  rw [Block.updateAlert_modl_pins]
@[simp] theorem Block.updateAlert_modl_vauxOverload (b : Block) : b.updateAlert.modl.vauxOverload = b.modl.vauxOverload := by
  rw [Block.updateAlert_modl_pins]
@[simp] theorem Block.updateAlert_modl_cages (b : Block) : b.updateAlert.modl.cages = b.modl.cages := by
  rw [Block.updateAlert_modl_pins]
@[simp] theorem Block.updateAlert_modl_j3 (b : Block) : b.updateAlert.modl.j3 = b.modl.j3 := by
  rw [Block.updateAlert_modl_pins]
@[simp] theorem Block.updateAlert_modl_tap (b : Block) : b.updateAlert.modl.tap = b.modl.tap := by
  rw [Block.updateAlert_modl_pins]
@[simp] theorem Block.updateAlert_modl_boundary (b : Block) : b.updateAlert.modl.boundary = b.modl.boundary := by
  rw [Block.updateAlert_modl_pins]
@[simp] theorem Block.updateAlert_modl_tdo (b : Block) : b.updateAlert.modl.tdo = b.modl.tdo := by
  rw [Block.updateAlert_modl_pins]

/-- Every command leaves the queue as it finds it, and answers a next state: the form of `State.run`. -/
@[simp] theorem State.run_pending (s : State) (f : Block → Block) : (s.run f).pending = s.pending := rfl
@[simp] theorem State.run_otp (s : State) (f : Block → Block) : (s.run f).otp = s.otp := rfl
@[simp] theorem State.run_blk (s : State) (f : Block → Block) : (s.run f).blk = (f s.blk).updateAlert := rfl

theorem State.runOn_of_running (s : State) (f : Block → Block) (h : s.blk.running = true) : s.runOn f = s.run f := by
  simp [State.runOn, State.run, Block.whenever, h]

theorem State.runOn_of_not_running (s : State) (f : Block → Block) (h : s.blk.running = false) :
    s.runOn f = s.run id := by
  simp [State.runOn, State.run, Block.whenever, h]

theorem State.runReg_of_running (s : State) (f : Block → Block) (h : s.blk.running = true) : s.runReg f = s.run f := by
  unfold Block.running at h
  simp [State.runReg, State.run, Block.viaReg, Block.reachable, h]

end Sys2Proof.Machine
end

