-- ==== Sys2Proof/Laws/Record.lean ====
section
/-! SUPPORT. The frame calculus: how frames compose, and what a trouble record, a sticky bit and a counted event may
change (R461–R467). -/

namespace Sys2Proof.Machine

theorem Part.same_refl (b : Block) (p : Part) : p.same b b := by
  cases p <;> simp [Part.same]

theorem Part.same_trans {b c d : Block} {p : Part} (h : p.same b c) (k : p.same c d) : p.same b d := by
  cases p <;> simp only [Part.same] at * <;> first
    | exact k.trans h
    | exact ⟨fun n e => (k.1 n e).trans (h.1 n e), k.2.1.trans h.2.1, k.2.2.trans h.2.2⟩

theorem Block.Keeps.refl (b : Block) (l : List Field) (ps : List Part) : b.Keeps b l ps :=
  ⟨fun _ _ _ => rfl, fun p _ => Part.same_refl b p⟩

theorem Block.Keeps.trans {b c d : Block} {l : List Field} {ps : List Part} (h : b.Keeps c l ps) (k : c.Keeps d l ps) :
    b.Keeps d l ps :=
  ⟨fun f m n => (k.1 f m n).trans (h.1 f m n), fun p m => Part.same_trans (h.2 p m) (k.2 p m)⟩

theorem Block.Keeps.mono {b c : Block} {l l' : List Field} {ps ps' : List Part} (h : b.Keeps c l ps)
    (hl : ∀ f ∈ l, f.key ∈ l'.map Field.key) (hp : ∀ p ∈ ps, p ∈ ps') : b.Keeps c l' ps' := by
  refine ⟨fun f m n => h.1 f (fun q => m ?_) n, fun p m => h.2 p (fun q => m (hp p q))⟩
  obtain ⟨g, hg, e⟩ := List.mem_map.1 q
  exact e ▸ hl g hg

/-- A register write keeps everything but its field. -/
theorem Block.keeps_set (b : Block) (f : Field) (v : Nat) (l : List Field) (ps : List Part)
    (h : f.key ∈ l.map Field.key) : b.Keeps (b.set f v) l ps := by
  refine ⟨fun g m _ => Block.get_set_ne b f g v (fun e => m (e ▸ h)), fun p _ => ?_⟩
  cases p <;> simp only [Part.same, Block.set_modl] <;> first | rfl | exact ⟨fun _ _ => rfl, rfl, rfl⟩

/-- A change of one queue keeps everything but the queue manager's part that the queue belongs to. -/
theorem Block.keeps_modQ_zero (b : Block) (h : Queue → Queue) (l : List Field) (ps : List Part) (m : .records ∈ ps) :
    b.Keeps (b.modQ 0 h) l ps := by
  refine ⟨fun g _ _ => rfl, fun p n => ?_⟩
  cases p <;> simp only [Part.same] <;> first
    | rfl
    | exact absurd m n
    | exact ⟨fun k e => Block.q_modQ_ne b 0 k h e, rfl, rfl⟩

/-- The same, for a queue other than queue 0x000. -/
theorem Block.keeps_modQ_ne (b : Block) (n : Nat) (h : Queue → Queue) (l : List Field) (ps : List Part) (hn : n ≠ 0)
    (m : .queues ∈ ps) : b.Keeps (b.modQ n h) l ps := by
  refine ⟨fun g _ _ => rfl, fun p k => ?_⟩
  cases p <;> simp only [Part.same] <;> first
    | rfl
    | exact absurd m k
    | exact Block.q_modQ_ne b n 0 h (Ne.symm hn)

/-- TRB_SUMMARY and ALERT_N follow, and nothing else changes. -/
theorem Block.keeps_updateAlert (b : Block) (l : List Field) (ps : List Part) : b.Keeps b.updateAlert l ps := by
  refine ⟨fun g _ n => Block.updateAlert_get b g n, fun p _ => ?_⟩
  cases p <;> simp [Part.same, Block.q, Block.updateAlert_modl]

/-- The frame of a command that acts on the block. -/
theorem State.keeps_run (s : State) (f : Block → Block) (l : List Field) (ps : List Part)
    (h : s.blk.Keeps (f s.blk) l ps) : s.Keeps (s.run f) l ps :=
  ⟨rfl, rfl, h.trans (Block.keeps_updateAlert _ l ps)⟩

theorem Block.keeps_dropRecord (b : Block) (ps : List Part) : b.Keeps b.dropRecord recordFields ps :=
  (Block.keeps_set b R.TRB_TROUBLE_REC_DROPPED 1 _ _ (by decide)).trans (Block.keeps_set _ R.TRB_REC_DROP_COUNT _ _ _ (by decide))

/-- Writing a trouble record changes queue 0x000 and the fields of `recordFields` alone. -/
theorem Block.keeps_record (fuel : Nat) (b : Block) (block code inst detail : Nat) (ext : Option Nat) :
    b.Keeps (b.record fuel block code inst detail ext) recordFields [.records] := by
  induction fuel generalizing b block code inst detail ext with
  | zero => exact Block.keeps_dropRecord b _
  | succ n ih =>
    have step (c : Block) (f : Field) (v : Nat) (h : f.key ∈ recordFields.map Field.key) :
        c.Keeps (c.set f v) recordFields [.records] := Block.keeps_set c f v _ _ h
    unfold Block.record
    split
    · dsimp only
      split
      · exact ((step b R.QMG_ABSENT_COUNT _ (by decide)).trans (step _ R.QMG_TROUBLE_ABSENT_WRITE _ (by decide))).trans
          (Block.keeps_dropRecord _ _)
      · split
        · exact (((step b R.QMG_ADMIT_REFUSED_COUNT _ (by decide)).trans (Block.keeps_modQ_zero _ _ _ _ (by simp))).trans
            (step _ R.QMG_TROUBLE_ADMIT_REFUSED _ (by decide))).trans (Block.keeps_dropRecord _ _)
        · next kept gone _ =>
          generalize e1 : b.modQ 0 _ = b1
          have h1 : b.Keeps b1 recordFields [.records] := e1 ▸ Block.keeps_modQ_zero _ _ _ _ (by simp)
          generalize e2 : ((b1.add R.QMG_LOST_COUNT gone).bump R.QMG_COMMIT_COUNT).bump R.TRB_RECORD_COUNT = b2
          have h2 : b.Keeps b2 recordFields [.records] := e2 ▸ ((h1.trans (step _ R.QMG_LOST_COUNT _ (by decide))).trans
            (step _ R.QMG_COMMIT_COUNT _ (by decide))).trans (step _ R.TRB_RECORD_COUNT _ (by decide))
          generalize e3 : (if gone ≠ 0 ∧ b.flag R.QMG_TROUBLE_LOST = false then
              Block.record n (b2.set R.QMG_TROUBLE_LOST 1) 11 1 0 0 none else b2) = b3
          have h3 : b.Keeps b3 recordFields [.records] := by
            rw [← e3]; split
            · exact (h2.trans (step _ R.QMG_TROUBLE_LOST _ (by decide))).trans (ih _ _ _ _ _ _)
            · exact h2
          split
          · exact (h3.trans (step _ R.QMG_THR_STAT _ (by decide))).trans (ih _ _ _ _ _ _)
          · exact h3
    · exact Block.keeps_dropRecord b _

/-- A named record changes queue 0x000 and the fields of `recordFields` alone. -/
theorem Block.keeps_event (b : Block) (block code inst detail : Nat) (ext : Option Nat) :
    b.Keeps (b.event block code inst detail ext) recordFields [.records] := Block.keeps_record 4 b _ _ _ _ _

/-- A sticky bit: its field, and what its record changes. -/
theorem Block.keeps_stick (b : Block) (f : Field) (i : Nat) :
    b.Keeps (b.stick f i) (f :: recordFields) [.records] := by
  have hs : b.Keeps (b.raise f i) (f :: recordFields) [.records] := Block.keeps_set b f _ _ _ (by simp)
  unfold Block.stick
  split
  · exact Block.Keeps.refl b _ _
  · dsimp only
    split
    · exact hs.trans ((Block.keeps_event _ _ _ _ _ _).mono (fun g m => List.mem_map.2 ⟨g, List.mem_cons_of_mem _ m, rfl⟩)
        (fun _ m => m))
    · exact hs

/-- A counted event: its counter, its sticky field, and what its record changes. -/
theorem Block.keeps_count (b : Block) (c f : Field) :
    b.Keeps (b.count c f) (c :: f :: recordFields) [.records] :=
  (Block.keeps_set b c _ _ _ (by simp)).trans ((Block.keeps_stick _ f 0).mono
    (fun g m => List.mem_map.2 ⟨g, List.mem_cons_of_mem _ m, rfl⟩) (fun _ m => m))

/-- What a record leaves of any other field. -/
theorem Block.event_get (b : Block) (block code inst detail : Nat) (ext : Option Nat) (g : Field)
    (h : g.key ∉ recordFields.map Field.key) (hs : g.key ≠ R.TRB_SUMMARY.key) :
    (b.event block code inst detail ext).get g = b.get g := (Block.keeps_event b _ _ _ _ _).1 g h hs

/-- After `stick` the bit is 1, where the field is no field that the record itself writes. -/
theorem Block.stick_bit (b : Block) (f : Field) (i : Nat) (hi : i < f.width) (h : f.key ∉ recordFields.map Field.key)
    (hs : f.key ≠ R.TRB_SUMMARY.key) : (b.stick f i).bit f i = true := by
  unfold Block.stick
  split
  · assumption
  · have hr : (b.raise f i).bit f i = true := by
      unfold Block.bit Block.raise
      rw [Block.get_set_self]
      simp [Nat.testBit_mod_two_pow, hi, Nat.testBit_or]
    dsimp only
    split
    · unfold Block.bit at *
      rw [Block.event_get _ _ _ _ _ _ _ h hs]; exact hr
    · exact hr

/-- What `stick` leaves of any other field. -/
theorem Block.stick_get (b : Block) (f g : Field) (i : Nat) (h : g.key ≠ f.key)
    (hr : g.key ∉ recordFields.map Field.key) (hs : g.key ≠ R.TRB_SUMMARY.key) : (b.stick f i).get g = b.get g :=
  (Block.keeps_stick b f i).1 g (by simpa [h] using hr) hs

end Sys2Proof.Machine
end

