-- ==== Sys2Proof/Laws/Reset.lean ====
section
/-! SUPPORT. What a reset of whole retention classes gives for one register field (R10, R457). -/

namespace Sys2Proof.Machine

theorem Tab.get_filter_keys (p : Nat → Bool) (t : Tab Nat) (k : Nat) :
    Tab.get 0 (t.filter (fun e => p e.1)) k = if p k then Tab.get 0 t k else 0 := by
  induction t with
  | nil => simp [Tab.get]
  | cons e t ih =>
    obtain ⟨a, v⟩ := e
    by_cases h : k = a
    · subst h; by_cases hp : p k <;> simp [hp, Tab.get, ih]
    · by_cases hp : p a <;> simp [hp, Tab.get, ih, h]

theorem Tab.get_zero_of_wfFrom (n : Nat) (t : Tab Nat) (k : Nat) (h : Tab.wfFrom 0 n t = true) (hk : k < n) :
    Tab.get 0 t k = 0 := by
  induction t generalizing n with
  | nil => rfl
  | cons e t ih =>
    obtain ⟨a, v⟩ := e
    simp only [Tab.wfFrom, Bool.and_eq_true, decide_eq_true_eq] at h
    have : k ≠ a := by omega
    simp [Tab.get, this, ih (a + 1) h.2 (by omega)]

/-- Storing the entries of a canonical table one after another. -/
theorem Tab.get_foldl_set (n : Nat) (l : Tab Nat) (t : Tab Nat) (k : Nat) (h : Tab.wfFrom 0 n l = true) :
    Tab.get 0 (l.foldl (fun t e => Tab.set 0 t e.1 e.2) t) k = if Tab.get 0 l k = 0 then Tab.get 0 t k else Tab.get 0 l k := by
  induction l generalizing n t with
  | nil => simp [Tab.get]
  | cons e l ih =>
    obtain ⟨a, v⟩ := e
    simp only [Tab.wfFrom, Bool.and_eq_true, decide_eq_true_eq] at h
    rw [List.foldl_cons, ih (a + 1) _ h.2]
    by_cases hk : k = a
    · subst hk
      have h0 := Tab.get_zero_of_wfFrom (k + 1) l k h.2 (by omega)
      simp [Tab.get, h0, Tab.get_set_self, h.1.2]
    · simp [Tab.get, hk, Tab.get_set_ne]

theorem Tab.wfFrom_filter (p : Nat → Bool) (n : Nat) (t : Tab Nat) (h : Tab.wfFrom 0 n t = true) :
    Tab.wfFrom 0 n (t.filter (fun e => p e.1)) = true := by
  induction t generalizing n with
  | nil => rfl
  | cons e t ih =>
    obtain ⟨a, v⟩ := e
    simp only [Tab.wfFrom, Bool.and_eq_true, decide_eq_true_eq] at h
    by_cases hp : p a
    · simp [hp, Tab.wfFrom, h.1, ih (a + 1) h.2]
    · simpa [hp] using Tab.wfFrom_mono 0 n (a + 1) _ (ih (a + 1) h.2) (by omega)

theorem resetRegs_wf : Tab.wf 0 resetRegs = true := by decide +kernel

/-- A field after a reset of the classes that `drop` selects: its reset value, or as it was. -/
theorem Block.resetFields_get (b : Block) (drop : Nat → Keep → Bool) (f : Field) :
    (b.resetFields drop).get f = if drop f.key (keepOf f.key) then Tab.get 0 resetRegs f.key % 2 ^ f.width else b.get f := by
  unfold Block.get Block.resetFields
  dsimp only
  rw [Tab.get_foldl_set 0 _ _ _ (Tab.wfFrom_filter (fun k => drop k (keepOf k)) 0 _ resetRegs_wf),
    Tab.get_filter_keys (fun k => drop k (keepOf k)), Tab.get_filter_keys (fun k => !drop k (keepOf k))]
  by_cases h : drop f.key (keepOf f.key) = true
  · simp only [h, if_true]; split <;> simp_all
  · simp [h]

end Sys2Proof.Machine
end

