-- ==== Sys2Proof/WellFormed.lean ====
section
/-! DEFINITION. Well-formed commands: every operand lies in the range of the field or index that it stands for. -/

namespace Sys2Proof

/-- A band, a port and, in a collect slot, a spreading exponent and collect index (R161). -/
def placeOk (r : Machine.RxPlace) : Bool :=
  decide (r.band < 2) && decide (r.port < 4) && decide (r.code.1 < 8) && decide (r.code.2 < 2 ^ r.code.1)

/-- The operands of a command are in range. -/
def Instr.wf : Instr → Bool
  | .powerOn _ => true
  | .warmResetPin => true
  | .resetRelease => true
  | .bootStart _ => true
  | .carrierIdRead bytes => bytes.all (fun l => l.length == 256)
  | .imageLoadComplete _ => true
  | .ddr4TrainingDone => true
  | .ocxoReady => true
  | .truingExit => true
  | .tick obs => obs.ports.length == 4
  | .gridStep => true
  | .halfCycleAnchor => true
  | .l1CrossingTimeout => true
  | .spurCrossing phase r => decide (phase < 3) && decide (r.mid < r.volts.length)
  | .spurRmsUpdate _ _ _ => true
  | .flushComplete _ => true
  | .nppSwap _ => true
  | .sprNppCtrlWrite _ => true
  | .baseplateOverTemp => true
  | .baseplateTempNormal => true
  | .thermalShutdown => true
  | .vauxOverload => true
  | .vauxRetry => true
  | .sfpInsert cage _ => decide (cage < 2)
  | .sfpRemove cage => decide (cage < 2)
  | .tapReset => true
  | .tapBypass => true
  | .tapSamplePreload inputs preload => decide (inputs < 2 ^ 33) && decide (preload < 2 ^ 33)
  | .tapExtest inputs => decide (inputs < 2 ^ 33)
  | .tapIdcode => true
  | .eventEdge input _ => decide (input < 4)
  | .ppsInEdge _ => true
  | .ppsInTimeout => true
  | .refInLoss _ => true
  | .todLabelArm _ => true
  | .timCmdNop => true
  | .timCmdStep => true
  | .timCmdCalSave => true
  | .calRecordSave => true
  | .holdoverEntry _ => true
  | .outputEnable => true
  | .outputSquelch => true
  | .ptpMessageRx port portState _ => decide (port < 3) && decide (portState < 16)
  | .ptpIntervalTx port => decide (port < 3)
  | .timingTreeRecompute => true
  | .assignmentApply => true
  | .frameTxStart band temps limitNs => decide (band < 2) && temps.length == 5 && limitNs.length == 5
  | .segmentTx r => decide (r.band < 2) && r.limitNs.length == 5
  | .driverThermalShutdown r => decide (r.driver < 5)
  | .driverThermalRecover r => decide (r.driver < 5)
  | .foldbackRelax driver => decide (driver < 5)
  | .notchWrite entry _ => decide (entry < 32)
  | .preambleDeclare band port r => placeOk ⟨band, port, r.code⟩ && r.ports.all (fun p => decide (p.1 < 4))
  | .syncFound place r => placeOk place && decide (r.reps.length ≤ 8)
  | .syncSearchTimeout place reps => placeOk place && decide (reps.length ≤ 8)
  | .agcSaturationRelease band r => decide (band < 2) && decide (r.port < 4)
  | .headerReceived place soft _ => placeOk place && decide (soft.length ≤ 544)
  | .followOnHeader band port _ => decide (band < 2) && decide (port < 4)
  | .segmentSearch band port _ => decide (band < 2) && decide (port < 4)
  | .erasureAbort place _ => placeOk place
  | .rxFrameEnd band port r => placeOk ⟨band, port, r.code⟩
  | .captureArm port band trig => decide (port < 4) && decide (band < 2) && decide (trig < 8)
  | .captureTrigger kind => decide (kind < 6)
  | .captureStop => true
  | .captureEnd => true
  | .beaconTx => true
  | .beaconRx => true
  | .timingRequestTx => true
  | .timingReplyTx => true
  | .timingRx => true
  | .contentionAccess band ask => decide (band < 2) && decide (ask.span < 8) && decide (ask.train < 256)
  | .dataRx queue => decide (queue < 4096)
  | .ackTx band => decide (band < 2)
  | .ackRx => true
  | .ackTimeout band => decide (band < 2)
  | .blockAckTx draw => decide (draw.band < 2)
  | .blockAckRx => true
  | .blockAckTimeout band => decide (band < 2)
  | .pollRx => true
  | .wakeWindowOpen => true
  | .wakeHoldExpiry => true
  | .beaconMiss => true
  | .beaconSearchTimeout => true
  | .quietWindowStart band => decide (band < 2)
  | .quietWindowEnd band => decide (band < 2)
  | .mapEval profiles => profiles.all (fun l => l.length == 64)
  | .joinTx => true
  | .leaseExpiry addr => decide (addr < 0x4000)
  | .linkReportTx => true
  | .linkReport => true
  | .routeSet seq period entries => decide (seq < 65536) && decide (period < 2 ^ 32) &&
      entries.all (fun e => decide (e.1 < 0x4000) && e.2.length == 32)
  | .assign period bytes collector => decide (period < 2 ^ 32) && bytes.length == 26 && decide (collector < 0x4000)
  | .linkDown node link reporter => decide (node < 0x4000) && decide (link < 8) && decide (reporter < 0x4000)
  | .reportBundle _ => true
  | .routeRecompute => true
  | .routeEpochApply => true
  | .nodeLostTimeout addr => decide (addr < 0x4000)
  | .sweepStart windows => decide (windows < 65536)
  | .sweep => true
  | .collectFrameTx => true
  | .collectWindowDecode window rev _ => decide (window < 65536) && decide (rev < 2 ^ 32)
  | .modeRequest => true
  | .snapshot => true
  | .keyUpdate => true
  | .keyLow => true
  | .joinRelay => true
  | .hello => true
  | .challenge => true
  | .proof => true
  | .grant => true
  | .refuseJoin => true
  | .joinerStateExpiry eui => decide (eui < 2 ^ 64)
  | .keyPeriodExpiry => true
  | .epochSwitch => true
  | .keyGraceExpiry => true
  | .packetSop _ queue maxLen dest _ => decide (queue < 4096) && decide (maxLen < 65536) && decide (dest < 65536)
  | .packetEop _ _ => true
  | .packetRewind _ _ => true
  | .queueRead queue _ => decide (queue < 4096)
  | .queueRelease queue => decide (queue < 4096)
  | .queueReread queue => decide (queue < 4096)
  | .queueFail queue => decide (queue < 4096)
  | .qmgCmdNop queue => decide (queue < 4096)
  | .qmgCmdFlush queue => decide (queue < 4096)
  | .flushPoint queue => decide (queue < 4096)
  | .qmgCmdForceReset queue => decide (queue < 4096)
  | .refillComplete queue => decide (queue < 4096)
  | .hostData port _ => decide (port / 4 % 4 < 3)
  | .hostAck port _ => decide (port / 4 % 4 < 3)
  | .hostCredit port _ => decide (port / 4 % 4 < 3)
  | .resync port _ => decide (port / 4 % 4 < 3)
  | .runudomMalformed port _ => decide (port / 4 % 4 < 3)
  | .regRequest port _ => decide (port / 4 % 4 < 3)
  | .hostAckTx channel => decide (channel < 1024)
  | .hostDeliver channel => decide (channel < 1024)
  | .hostRetransmit channel => decide (channel < 1024 ∨ channel = 0xFFFF)
  | .custodyDataRx => true
  | .receiptTx channel => decide (channel < 1024)
  | .custodyReceiptRx => true
  | .e2eTimeout channel => decide (channel < 1024)
  | .reassemblyTimeout channel => decide (channel < 1024)
  | .streamTx stream => decide (stream < 256)
  | .custodyRestore _ => true
  | .flushSlotErased => true
  | .scanStart => true
  | .sampleComplete _ => true
  | .complianceTrip chan => decide (chan < 8)
  | .clampOnset channel => decide (channel < 8)
  | .impCheckDue impedances => impedances.length == 8
  | .senCmdNop => true
  | .senCmdImpCheck channel _ => decide (channel < 8)
  | .senCmdRestartScan => true
  | .characterReceived port _ => decide (port < 2)
  | .lineStuck port => decide (port < 2)
  | .lineIdle port => decide (port < 2)
  | .packetAgeExpiry port => decide (port < 2)
  | .serTxdWrite port _ => decide (port < 2)
  | .txCharacterComplete port => decide (port < 2)
  | .deTailEnd r => decide (r.port < 2)
  | .serDataRead port => decide (port < 2)
  | .serialWake port _ => decide (port < 2)
  | .truPeriodExpiry block => decide (block < 11)
  | .tempDeltaTrigger block _ => decide (block < 11)
  | .truCmd _ => true
  | .truingPass block _ => decide (block < 7)
  | .truingBlockComplete block _ => decide (block < 11)
  | .pwrModeReq mode => decide (mode < 16)
  | .modeTransition => true
  | .dozeEntry => true
  | .standbyEntry => true
  | .standbyTimerExpiry => true
  | .wakeNWake => true
  | .standbyExit _ _ => true
  | .maintenanceEntry => true
  | .loadEnableRequest _ _ => true
  | .rationGrant => true
  | .pwrCmdNop => true
  | .pwrCmdWarmReset => true
  | .pwrCmdSliceReset slice => decide (slice < 8)
  | .pwrCmdBadConfirm value => decide (value.toNat / 65536 ≠ 0xA5C3)
  | .sliceResetRelease _ => true
  | .watchdogExpiry => true
  | .imgCmdNop => true
  | .imgCmdVerifyStaged => true
  | .verifyStagedDone _ => true
  | .imgCmdWriteBank => true
  | .writeBankDone => true
  | .imgCmdArmTrial => true
  | .imgCmdConfirm => true
  | .imgCmdRollbackCommit => true
  | .imgCmdSliceReload slice => decide (slice < 8)
  | .imgCmdGoldenWrite => true
  | .goldenWriteDone => true
  | .imgCmdAbort => true
  | .imgStageData _ => true
  | .imageTrialExpiry => true
  | .sliceReloadStart => true
  | .sliceReloadComplete _ => true
  | .spareStart slice => decide (slice < 8)
  | .spindleMemoryError spindle _ => decide (spindle < 512)
  | .ddr4Correction device => decide (device < 36)
  | .faultWindowClose cls _ => decide (cls < 6)
  | .ddrScrub => true
  | .portReturn mask => decide (mask < 16)
  | .ddrUnmark mask => decide (mask < 2 ^ 36)
  | .snapCmdLocal => true
  | .snapCmdNetwork => true
  | .snapshotTake => true
  | .secCmdNop => true
  | .secCmdAttest => true
  | .attestDone => true
  | .secCmdEnrollOwner slot confirm => decide (slot < 4) && decide (confirm < 65536)
  | .secCmdRevokeOwner slot confirm => decide (slot < 4) && decide (confirm < 65536)
  | .secCmdRevokeVendor key confirm => decide (key < 2) && decide (confirm < 65536)
  | .secCmdEpochAdvance => true
  | .secCmdBar => true
  | .secCmdUnbar => true
  | .qmgSelWrite _ _ => true
  | .cusSelWrite _ _ => true
  | .timLinkSelWrite _ _ => true
  | .phyLqPeerWrite _ _ => true
  | .macPeerSelWrite _ _ => true
  | .trbShdAddrWrite _ _ => true
  | .trbClassSelWrite _ _ => true
  | .truBlkSelWrite _ _ => true
  | .counterLowRead _ _ => true
  | .reservedAccess _ _ _ => true
  | .registerWrite _ _ _ => true
  | .debugStep slice spindle => decide (slice < 8) && decide (spindle ≤ 64)
  | .clcHaltWrite slice cluster _ => decide (slice < 8) && decide (cluster < 4)
  | .dbgMemDataAccess slice spindle _ => decide (slice < 8) && decide (spindle ≤ 64)
  | .supplyStop => true
  | .clampEnd channel => decide (channel < 8)
  | .suppressionEnd port => decide (port < 2)
  | .surveyMinExpiry => true
  | .linkAgeExpiry index => decide (index < 131072)

end Sys2Proof
end

