-- ==== Sys2Proof/Tests/Slice0.lean ====
section
/-! SUPPORT. Tests of the model on small states, and for every statement with hypotheses (each clause of it) a state that meets them
all; a test's expected values come from the rule it names. -/

namespace Sys2Proof.Machine

set_option Elab.async false

/-- A state with the given register fields, every other one at 0, and its block changed. -/
def at_ (l : List (Field × Nat)) (f : Block → Block := id) : State := ⟨f (({ Block.reset with regs := [] } : Block).setAll l), {}, []⟩

/-- The state after a command. -/
def after (c : Instr) (s : State) : State := match exec c s with | .next t => t | _ => s

/-- The block after a command in mode `m` with some register fields. -/
abbrev inMode (m : Nat) (l : List (Field × Nat) := []) (f : Block → Block := id) : State := at_ ((R.PWR_MODE_MODE, m) :: l) f

/-! The machine as a whole. -/

/-- An image of version 7 that runs confirmed from bank A, with a command waiting that raises the OTP counter. -/
def committing : State := { inMode 6 [(R.IMG_BANK_STATE_STATE_A, 3)] (fun b => { b with image := { b.image with
  run := some { segs := [⟨1, 0, 0xFF, 0, 7, 0, [], []⟩] } } }) with pending := [.imgCmdRollbackCommit] }

theorem test_step : let s : State := ⟨Block.reset, {}, [.wakeNWake, .tapReset]⟩;
    (match step s with | .next t => t.pending | _ => []) = [.tapReset] ∧ State.reset.pending = [] := by decide +kernel
theorem test_reset : Tab.wf 0 State.reset.blk.regs = true ∧ Memory.wf State.reset.blk.tables = true ∧
    Memory.wf State.reset.blk.image.stage = true ∧ State.reset.blk.get R.TRB_SUMMARY = State.reset.blk.summary ∧ State.reset.blk.mode = 2 ∧
    State.reset.blk.get R.PWR_WDT_TIMEOUT = 1000 ∧ State.reset.blk.get R.TIM_BOUND = 0xFFFFFFFF ∧
    State.reset.blk.get R.TIM_TREE_DEPTH = 0x3F ∧ State.reset.blk.get R.TIM_SRC_UNC = 1000000 ∧ State.reset.blk.get R.MSH_STAT_ROLE = 0 := by
  decide +kernel
theorem test_otp : (match step committing with | .next t => t.otp.rollback.getD 2 0 | _ => 9) = 7 ∧
    (after .imgCmdRollbackCommit committing).otp ≠ committing.otp := by decide +kernel
theorem test_summary : let s : State := { inMode 6 [(R.PWR_TROUBLE_WDT_RESET, 1)] with pending := [.tapReset] }; s.pending ≠ [] ∧
    (match step s with | .next t => t.blk.get R.TRB_SUMMARY | _ => 0) = 1 ∧ (inMode 6).blk.get R.TRB_SUMMARY = (inMode 6).blk.summary := by
  decide +kernel
theorem test_unreachable : let s := inMode 1; s.blk.mode = 1 ∧ (after (.registerWrite .host 0x20004 5) s).blk.get R.TRB_ALERT_MASK = 0 ∧
    (after (.registerWrite .host 0x20004 5) (inMode 2)).blk.get R.TRB_ALERT_MASK = 5 := by decide +kernel
theorem test_pwrCmd : let s := inMode 6; s.blk.reachable = true ∧ s.blk.mode ≤ 11 ∧ bits (0xA5C20001 : Word).toNat 16 16 ≠ 0xA5C3 ∧
    bits (0xA5C30000 : Word).toNat 16 16 = 0xA5C3 ∧ (0xA5C30000 : Word).toNat % 16 = 0 ∧
    (after (.registerWrite .host 0x1000C 0xA5C20001) s).blk.get R.PWR_UNDEF_COUNT = 1 ∧
    (after (.registerWrite .host 0x1000C 0xA5C20001) s).blk.mode = 6 := by decide +kernel
theorem test_pwrCmd_reset : bits (0xA5C30001 : Word).toNat 16 16 = 0xA5C3 ∧ (0xA5C30001 : Word).toNat % 16 = 1 := by decide +kernel
theorem test_pwrCmd_slice : let s := inMode 6 [(R.PWR_GATES_SLICE_ON, 255)]; bits (0xA5C30032 : Word).toNat 16 16 = 0xA5C3 ∧
    (0xA5C30032 : Word).toNat % 16 = 2 ∧ bits (0xA5C30032 : Word).toNat 4 3 = 3 ∧ s.blk.sliceResetRefused 3 = false ∧
    (after (.registerWrite .host 0x1000C 0xA5C30032) s).blk.power.sliceReset.isSome = true := by decide +kernel
theorem test_absent : let s := inMode 6; s.blk.running = true ∧ (s.blk.q 5).capacity = 0 ∧ (s.blk.q 5).pkts = [] ∧
    (after (.packetSop 20 5 9 0 0) s).blk.statusOf 20 = 2 ∧ (after (.packetSop 20 5 9 0 0) s).blk.get R.QMG_ABSENT_COUNT = 2 ∧
    s.blk.bit R.QMG_TROUBLE_ABSENT_WRITE 0 = false ∧ (s.blk.q 0).capacity = 0 ∧ s.blk.recordsOn = true ∧
    (after (.packetSop 20 5 9 0 0) (after (.packetSop 20 5 9 0 0) s)).blk.get R.QMG_ABSENT_COUNT = 3 := by decide +kernel
theorem test_debugWindow : debugAt (0x1380404 : Word).toNat = some (3, 0, 0x404) ∧ (inMode 2).blk.reachable = true ∧
    (inMode 2).blk.gated 3 = false ∧ (inMode 2).blk.mode ≠ 10 ∧ (inMode 2).blk.image.run = none ∧
    (after (.counterLowRead .host 0x1380404) (inMode 2)).blk.get (R.SLC_UNDEF_COUNT 3) = 1 ∧
    (after (.counterLowRead .host 0x1380400) (inMode 10 [(R.DBG_MEM_ADDR 3 0, 0x4567)])).blk.readData = 0x4564 ∧
    ((inMode 10).blk.sliceState 3).held = false ∧ debugAddr 3 0 0x400 = 0x1380400 := by decide +kernel

/-! Witnesses: for each clause of the statements above with hypotheses, a state and operands that meet them all. -/

theorem wit_unreachableRegisters :
    ∃ (s : State) (c : Instr) (p : Path) (a : Word) (v : Word) (n : Nat) (k : Nat) (port : Nat) (w : Bool) (x : Option Word) (msg :
      List Byte), (s.blk.mode = 0 ∨ s.blk.mode = 1 ∨ s.blk.mode = 9) ∧ c ∈ [Instr.registerWrite p a v, .counterLowRead p a,
      .reservedAccess a n w, .qmgSelWrite p v, .cusSelWrite p v, .timLinkSelWrite p v, .phyLqPeerWrite p v, .macPeerSelWrite p v,
      .trbShdAddrWrite p v, .trbClassSelWrite p v, .truBlkSelWrite p v, .debugStep n k, .clcHaltWrite n k v, .dbgMemDataAccess n k x,
      .regRequest port msg, .pwrModeReq n, .pwrCmdWarmReset, .pwrCmdSliceReset n, .pwrCmdBadConfirm v, .imgCmdVerifyStaged,
      .imgStageData v, .imgCmdAbort, .snapCmdLocal, .snapCmdNetwork, .timCmdStep, .timCmdCalSave, .secCmdAttest, .secCmdEnrollOwner n
      k, .secCmdBar, .portReturn n, .ddrUnmark n] :=
  ⟨inMode 9 [(R.TRB_TROUBLE_REC_DROPPED, 1)], .clcHaltWrite 3 1 5, .host, 5, 5, 3, 1, 2, true, none, [], by decide +kernel⟩
theorem wit_powerCommandConfirm :
    (∃ (s : State) (v : Word), s.blk.reachable = true ∧ bits v.toNat 16 16 ≠ 0xA5C3) ∧
    (∃ (s : State) (v : Word), s.blk.reachable = true ∧ bits v.toNat 16 16 ≠ 0xA5C3) ∧
    (∃ (s : State) (v : Word), s.blk.reachable = true ∧ bits v.toNat 16 16 = 0xA5C3 ∧ v.toNat % 16 = 0) ∧
    (∃ (s : State) (v : Word), s.blk.reachable = true ∧ s.blk.mode ≤ 11 ∧ s.blk.power.resetNow = 0 ∧ bits v.toNat 16 16 = 0xA5C3 ∧
      v.toNat % 16 = 1) ∧
    (∃ (s : State) (v : Word) (n : Nat), s.blk.reachable = true ∧ bits v.toNat 16 16 = 0xA5C3 ∧ v.toNat % 16 = 2 ∧ n = bits v.toNat 4 3
      ∧ s.blk.sliceResetRefused n = false) :=
  ⟨⟨inMode 6, 0xA5C20001, by decide +kernel⟩,
    ⟨inMode 6, 0xA5C20001, by decide +kernel⟩,
    ⟨inMode 6, 0xA5C3FFF0, by decide +kernel⟩,
    ⟨inMode 6, 0xA5C30001, by decide +kernel⟩,
    ⟨inMode 6 [(R.PWR_GATES_SLICE_ON, 255)], 0xA5C30032, 3, by decide +kernel⟩⟩
theorem wit_absentQueue :
    (∃ (s : State) (n : Nat), s.blk.running = true ∧ n < 4096 ∧ (s.blk.q n).capacity = 0) ∧
    (∃ (s : State) (n : Nat), s.blk.running = true ∧ n < 4096 ∧ (s.blk.q n).capacity = 0 ∧ (s.blk.q n).pkts = []) :=
  ⟨⟨inMode 6, 5, by decide +kernel⟩,
    ⟨inMode 6, 5, by decide +kernel⟩⟩
theorem wit_wakeLine :
    (∃ (s : State), (s.blk.mode = 9 ∨ s.blk.power.trans = some 9)) ∧
    (∃ (s : State), s.blk.mode ≠ 9 ∧ s.blk.power.trans ≠ some 9) :=
  ⟨⟨inMode 6 [] (fun b => b.setPower { b.power with trans := some 9 }), by decide +kernel⟩,
    ⟨inMode 6, by decide +kernel⟩⟩
theorem wit_debugWindowClosed :
    (∃ (s : State) (a : Word) (n : Nat) (q : Nat) (off : Nat), s.blk.reachable = true ∧ debugAt a.toNat = some (n, q, off) ∧ a.toNat %
      4 = 0 ∧ s.blk.gated n = false ∧ s.blk.mode ≠ 10 ∧ ((∀ i, s.blk.image.run = some i → i.debugSlices.testBit n = false))) ∧
    (∃ (s : State) (a : Word) (n : Nat) (q : Nat) (off : Nat), s.blk.reachable = true ∧ debugAt a.toNat = some (n, q, off) ∧ a.toNat %
      4 = 0 ∧ s.blk.gated n = false ∧ s.blk.mode ≠ 10 ∧ ((∀ i, s.blk.image.run = some i → i.debugSlices.testBit n = false))) ∧
    (∃ (s : State) (n : Nat) (q : Nat), s.blk.reachable = true ∧ n < 8 ∧ q ≤ 64 ∧ s.blk.gated n = false ∧ (s.blk.sliceState n).held =
      false ∧ (s.blk.mode = 10 ∨ (∃ i, s.blk.image.run = some i ∧ i.debugSlices.testBit n = true))) :=
  ⟨⟨inMode 2, 0x1380404, 3, 0, 0x404, by decide +kernel⟩,
    ⟨inMode 2, 0x1380404, 3, 0, 0x404, by decide +kernel⟩,
    ⟨inMode 10 [(R.DBG_MEM_ADDR 3 0, 0x4567)], 3, 0, by decide +kernel⟩⟩

/-! Power-on, boot and truing's end. -/

/-- Truing done: every condition of R441. -/
def truedAt (l : List (Field × Nat)) : State :=
  inMode 3 ([(R.TRU_STAT_ACTIVE, 15), (R.QMG_STAT_BULK_READY, 1), (R.PWR_MODE_OCXO_READY, 1)] ++ l)
def quiet : TickObs := ⟨[], [], [], [], [], true, [], 250, 390⟩
def gridAt (m : Nat) (l : List (Field × Nat)) : State :=
  inMode m l (fun b => b.setGrid { b.grid with cur := some ⟨7, 0, 20000000 * 65536⟩, half := 4 })
/-- A rising edge of the mains: 20 samples at −25 V, then 20 at +25 V. -/
def wave0 : List Int := List.replicate 20 (-250) ++ List.replicate 20 250
def spurAt (p : SpurPhase) (l : List (Field × Nat) := []) : State :=
  inMode 6 l (fun b => { b with spur := { b.spur with phases := [p, {}, {}] } })
/-- An image whose CUSTODY segment enables the host channel on J1 and J2 too. -/
def hostBoth (b : Block) : Block := b.setImage { b.image with
  run := some { segs := [⟨5, 0, 0xFF, 0, 0, 0, [], [0, 1, 0, 0, 0, 0, 7, 7]⟩] } }

theorem test_powerOn : let s := inMode 0; s.blk.mode = 0 ∧ s.blk.power.thermalOff = false ∧
    (after (.powerOn 0) s).blk.mode = 2 ∧ (after (.powerOn 0) s).blk.get R.PWR_POWER_ON_COUNT = 1 := by decide +kernel
/-- R440: after a thermal shutdown the supply stays off until the baseplate is below +95 °C. -/
theorem test_powerOn_hot : let s := inMode 0 [] (fun b => b.setPower { b.power with thermalOff := true });
    (after (.powerOn 950) s).blk.mode = 0 := by decide +kernel
theorem test_warmResetPin : let s := inMode 6; 2 ≤ s.blk.mode ∧ (after .warmResetPin s).blk.mode = 2 ∧
    (after .warmResetPin s).blk.get R.PWR_RESET_CAUSE = 2 ∧ (after .warmResetPin s).blk.get R.PWR_MODE_PREV = 6 := by decide +kernel
theorem test_warmResetPin_m1 : let s := inMode 1; s.blk.mode ≤ 1 ∧ (after .warmResetPin s).blk.mode = 1 := by decide +kernel
theorem test_resetRelease :
    (after .resetRelease (inMode 6 [] (fun b => { b with modl := { b.modl with resetN := false } }))).blk.modl.resetN = true := by decide +kernel
theorem test_bootStart : let s := inMode 2 [(R.IMG_BANK_STATE_STATE_GOLDEN, 0)]; s.blk.mode = 2 ∧ s.blk.image.boot = .start ∧ s.blk.modl.resetN = true ∧
    (after (.bootStart true) s).blk.get R.IMG_BOOT_STAT_BOOT_SEL_SEEN = 1 ∧ (after (.bootStart true) s).blk.image.boot = .stuck := by
  decide +kernel
/-- R98: the trial bank comes before the active one. -/
theorem test_bootStart_order : let s := inMode 2 [(R.IMG_BANK_STATE_STATE_A, 3), (R.IMG_BANK_STATE_STATE_B, 2)];
    s.blk.mode = 2 ∧ s.blk.image.boot = .start ∧ s.blk.modl.resetN = true ∧ s.blk.bootOrder.head? = some .b ∧ Bank.b ≠ .golden ∧
    s.blk.bootOrder = [.b, .a, .golden] := by decide +kernel
theorem test_carrierIdRead : let s := inMode 2; s.blk.mode = 2 ∧
    (after (.carrierIdRead none) s).blk.get R.GLB_CARRIER_ID = 2 ^ 2048 - 1 ∧
    (after (.carrierIdRead (some [0x5A])) s).blk.get R.GLB_CARRIER_ID = 0x5A := by decide +kernel
theorem test_imageLoadComplete : let s := inMode 2 [(R.IMG_BANK_STATE_STATE_GOLDEN, 0)] (fun b => b.setImage { b.image with boot := .loading .a {}, carrierDone := true });
    s.blk.mode = 2 ∧ s.blk.image.boot = .loading .a {} ∧ s.blk.image.carrierDone = true ∧
    (after (.imageLoadComplete false) s).blk.get R.IMG_BANK_STATE_STATE_A = 5 ∧
    (after (.imageLoadComplete false) s).blk.get R.IMG_BOOT_STAT_CAUSE_A = 0x0D := by decide +kernel
theorem test_ddr4TrainingDone : let s := inMode 3; s.blk.mode = 3 ∧
    (after .ddr4TrainingDone s).blk.get R.QMG_STAT_BULK_READY = 1 := by decide +kernel
theorem test_ocxoReady : let s := inMode 6; 2 ≤ s.blk.mode ∧ s.blk.mode ≠ 9 ∧
    (after .ocxoReady s).blk.get R.PWR_MODE_OCXO_READY = 1 := by decide +kernel
theorem test_truingExit_head : let s := truedAt [(R.GLB_TICK_STAT_GRID_ALIGNED, 1)];
    s.blk.mode = 3 ∧ s.blk.tick % 25 = 0 ∧ s.blk.truingDone = true ∧ s.blk.role = 0 ∧
    s.blk.get R.GLB_TICK_STAT_GRID_ALIGNED = 1 ∧ (after .truingExit s).blk.mode = 6 := by decide +kernel
theorem test_truingExit_leaf : let s := truedAt [(R.MSH_STAT_ROLE, 2)];
    s.blk.mode = 3 ∧ s.blk.tick % 25 = 0 ∧ s.blk.truingDone = true ∧ s.blk.role ≠ 0 ∧ (after .truingExit s).blk.mode = 4 := by
  decide +kernel

/-! The tick, the grid and the spur. -/
theorem test_tick_holdUp : let s := inMode 1; s.blk.mode = 1 ∧ (after (.tick quiet) s).blk.tick = 1 := by decide +kernel
theorem test_tick : let s := inMode 6 [(R.GLB_TICK, 24)]; (after (.tick quiet) s).blk.tick = 25 ∧
    (after (.tick quiet) s).blk.time.scale = 4096 * 625 * 2 ^ 48 := by decide +kernel
theorem test_gridStep : let s := inMode 4 [(R.MSH_STAT_ROLE, 2)] (fun b => { b with time := { b.time with step := some (100 * 65536 * 1000000) } });
    s.blk.mode = 4 ∧ s.blk.role ≠ 0 ∧ s.blk.time.step = some (100 * 65536 * 1000000) ∧ s.blk.sending 0 = false ∧
    s.blk.sending 1 = false ∧ s.blk.tick % 25 = 0 ∧ (after .gridStep s).blk.tick = 2500 ∧
    (after .gridStep s).blk.get R.GLB_TICK_STAT_TICK_STEPPED = 1 := by decide +kernel
theorem test_halfCycleAnchor : let s := gridAt 6 []; 3 ≤ s.blk.mode ∧ s.blk.mode ≠ 9 ∧ s.blk.mode ≠ 11 ∧
    s.blk.grid.cur = some ⟨7, 0, 20000000 * 65536⟩ ∧ s.blk.grid.next = none ∧
    (after .halfCycleAnchor s).blk.get R.GLB_REV = 9 ∧ (after .halfCycleAnchor s).blk.get R.GLB_GRID_HALF = 1 ∧
    (after .halfCycleAnchor s).blk.get R.GLB_GRID_N = 250 := by decide +kernel
theorem test_l1CrossingTimeout : let s := gridAt 6 []; s.blk.running = true ∧ s.blk.role = 0 ∧ s.blk.grid.cur.isSome = true ∧
    (after .l1CrossingTimeout s).blk.get R.GLB_GRID_GRID_FREE = 1 := by decide +kernel
/-- R141: the line fitted to the samples around a crossing meets zero half a sample before its middle one, which is 3.125 µs. -/
theorem test_spurCrossing_first : fitZero wave0 20 = some (-1 / 2) ∧
    ((after (.spurCrossing 0 ⟨wave0, 20, (100 * 65536 * 1000 + 20480000)⟩) (spurAt {})).blk.phase 0).prev = 100 * 65536 * 1000 := by decide +kernel
theorem test_spurCrossing_second : let s := spurAt { acq := 1, prev := 0 }; let m := 20000000 * 65536 + 20480000;
    ((after (.spurCrossing 0 ⟨wave0, 20, m⟩) s).blk.phase 0).t = 20000000 * 65536 ∧
    (after (.spurCrossing 0 ⟨wave0, 20, m⟩) s).blk.get R.SPR_FREQ = 50000 := by decide +kernel

/-- R144: 70 V is 700 in 0.1 V; a mean square just below it is a loss. -/
theorem test_spurRmsUpdate : rmsBelow (List.replicate 20 699) 20 70 = true ∧ rmsBelow (List.replicate 20 700) 20 70 = false ∧
    rmsAbove (List.replicate 20 800) 20 80 = false ∧ rmsAbove (List.replicate 20 801) 20 80 = true ∧
    (after (.spurRmsUpdate [] (List.replicate 20 2300) []) (inMode 6)).blk.mode = 1 := by decide +kernel
/-- R145: with ACC 0 a profile is complete after 2 ^ 0 half-cycles. -/
theorem test_nppSwap : (inMode 6 [(R.SPR_NPP_CTRL_ACC, 0)] (fun b => { b with spur := { b.spur with nppHalf := 1 } })).blk.nppComplete = true ∧
    (inMode 6).blk.nppComplete = false ∧ (after (.nppSwap ()) (inMode 6)).blk.get R.SPR_NPP_SEQ = 0 := by decide +kernel
theorem test_sprNppCtrlWrite : let s := inMode 6 [(R.SPR_NPP_CTRL_ACC, 6)]; s.blk.running = true ∧
    (after (.sprNppCtrlWrite 10) s).blk.get R.SPR_NPP_CTRL_ACC = 10 ∧
    (after (.sprNppCtrlWrite 11) s).blk.get R.SPR_NPP_CTRL_ACC = 6 := by decide +kernel

/-! Thermal limits, supply, connectors, TAP. -/
theorem test_baseplateOverTemp : let s := inMode 6; 2 ≤ s.blk.mode ∧ (after .baseplateOverTemp s).blk.power.overTemp = true ∧
    (after .baseplateOverTemp s).blk.get R.PWR_TROUBLE_OVER_TEMP = 1 := by decide +kernel
theorem test_baseplateTempNormal : (after .baseplateTempNormal (after .baseplateOverTemp (inMode 6))).blk.power.overTemp = false := by
  decide +kernel
theorem test_thermalShutdown : let s := inMode 6; 3 ≤ s.blk.mode ∧ (after .thermalShutdown s).blk.mode = 1 := by decide +kernel
theorem test_flushComplete : let s := inMode 1; s.blk.mode = 1 ∧ (after (.flushComplete 900) s).blk.mode = 0 := by decide +kernel
theorem test_supplyStop : let s := inMode 1; s.blk.mode = 1 ∧ (after .supplyStop s).blk.mode = 0 := by decide +kernel
theorem test_vauxOverload : let s := inMode 6; s.blk.mode ≠ 0 ∧ s.blk.modl.vauxOn = true ∧
    (after .vauxOverload s).blk.modl.vauxOn = false ∧ (after .vauxOverload s).blk.get R.PWR_TROUBLE_VAUX_OVERLOAD = 1 := by decide +kernel
theorem test_vauxRetry : (after .vauxRetry (after .vauxOverload (inMode 6))).blk.modl.vauxOn = true := by decide +kernel
theorem test_sfpInsert : let s := inMode 6; 1 < s.blk.modl.cages.length ∧
    ((after (.sfpInsert 1 1501) s).blk.modl.cages.getD 1 {}).refused = true ∧
    ((after (.sfpInsert 1 1500) s).blk.modl.cages.getD 1 {}).refused = false := by decide +kernel
theorem test_sfpRemove : ((after (.sfpRemove 1) (after (.sfpInsert 1 1000) (inMode 6))).blk.modl.cages.getD 1 {}).present = false := by
  decide +kernel
theorem test_tap : let s := inMode 6; (after .tapIdcode s).blk.modl.tdo = 0x15120C4B ∧
    (after .tapBypass s).blk.modl.tap = .bypass ∧ (after .tapReset (after .tapBypass s)).blk.modl.tap = .idcode ∧
    (after (.tapSamplePreload 5 3) s).blk.modl.tdo = 5 ∧ (after (.tapExtest 0) s).blk.modl.tap = .extest ∧
    (after .tapBypass (after .tapReset s)).blk.modl.tap = .idcode := by decide +kernel

/-! Witnesses: for each clause of the statements above with hypotheses, a state and operands that meet them all. -/

theorem wit_powerOnAndResetLine :
    (∃ (s : State) (temp : Int), s.blk.mode = 0 ∧ ((s.blk.power.thermalOff = false ∨ temp < 950))) ∧
    (∃ (s : State), 2 ≤ s.blk.mode ∧ s.blk.power.resetNow = 0) ∧
    (∃ (s : State), (s.blk.mode ≤ 1 ∨ s.blk.power.resetNow ≠ 0)) :=
  ⟨⟨inMode 0, 0, by decide +kernel⟩,
    ⟨inMode 6, by decide +kernel⟩,
    ⟨inMode 1, by decide +kernel⟩⟩
theorem wit_bootAndLoad :
    (∃ (s : State), s.blk.mode = 2 ∧ s.blk.image.boot = .start ∧ s.blk.modl.resetN = true) ∧
    (∃ (s : State), s.blk.mode = 2) ∧
    (∃ (s : State) (k : Bank) (i : Image), s.blk.mode = 2 ∧ s.blk.image.boot = .loading k i ∧ s.blk.image.carrierDone = true ∧
      digestCheck (s.blk.bankBytes k) = none) ∧
    (∃ (s : State) (k : Bank) (i : Image), s.blk.mode = 2 ∧ s.blk.image.boot = .loading k i ∧ s.blk.image.carrierDone = true) :=
  ⟨⟨inMode 2 [(R.IMG_BANK_STATE_STATE_GOLDEN, 0)], by decide +kernel⟩,
    ⟨inMode 2, by decide +kernel⟩,
    ⟨inMode 2 [] (fun b => b.setImage { b.image with boot := .loading .a {}, carrierDone := true }), .a, {}, by decide +kernel⟩,
    ⟨inMode 2 [(R.IMG_BANK_STATE_STATE_GOLDEN, 0)] (fun b => b.setImage { b.image with boot := .loading .a {}, carrierDone := true }),
      .a, {}, by decide +kernel⟩⟩
theorem wit_truingEnds :
    (∃ (s : State), (s.blk.mode = 3 ∨ s.blk.mode = 11)) ∧
    (∃ (s : State), 2 ≤ s.blk.mode ∧ s.blk.mode ≠ 9) ∧
    (∃ (s : State), s.blk.mode = 3 ∧ s.blk.tick % 25 = 0 ∧ s.blk.truingDone = true ∧ s.blk.role = 0 ∧ s.blk.get
      R.GLB_TICK_STAT_GRID_ALIGNED = 1) ∧
    (∃ (s : State), s.blk.mode = 3 ∧ s.blk.tick % 25 = 0 ∧ s.blk.truingDone = true ∧ s.blk.role ≠ 0) :=
  ⟨⟨inMode 3, by decide +kernel⟩,
    ⟨inMode 6, by decide +kernel⟩,
    ⟨truedAt [(R.GLB_TICK_STAT_GRID_ALIGNED, 1)], by decide +kernel⟩,
    ⟨truedAt [(R.MSH_STAT_ROLE, 2)], by decide +kernel⟩⟩
theorem wit_tickAndGrid :
    (∃ (s : State), s.blk.mode = 1) ∧
    (∃ (s : State) (d : Int), (s.blk.mode = 3 ∨ s.blk.mode = 4 ∨ s.blk.mode = 5) ∧ s.blk.role ≠ 0 ∧ s.blk.time.step = some d ∧
      s.blk.sending 0 = false ∧ s.blk.sending 1 = false ∧ s.blk.txDue = false ∧ s.blk.tick % 25 = 0) ∧
    (∃ (s : State) (g : GridVals), 3 ≤ s.blk.mode ∧ s.blk.mode ≠ 9 ∧ s.blk.mode ≠ 11 ∧ s.blk.grid.cur = some g ∧ s.blk.grid.next = none
      ∧ s.blk.anchorDue = true) ∧
    (∃ (s : State), s.blk.running = true ∧ s.blk.role = 0 ∧ s.blk.grid.cur.isSome = true) :=
  ⟨⟨inMode 1, by decide +kernel⟩,
    ⟨inMode 4 [(R.MSH_STAT_ROLE, 2)] (fun b => { b with time := { b.time with step := some (100 * 65536 * 1000000) } }), 100 * 65536 *
      1000000, by decide +kernel⟩,
    ⟨gridAt 6 [], ⟨7, 0, 20000000 * 65536⟩, by decide +kernel⟩,
    ⟨gridAt 6 [], by decide +kernel⟩⟩
theorem wit_spurAndProfile_1 :
    (∃ (s : State) (k : Nat) (volts : List Int) (mid : Nat) (z : Rat), s.blk.running = true ∧ k < 3 ∧ k < s.blk.spur.phases.length ∧
      isCrossing volts mid = true ∧ fitZero volts mid = some z ∧ (s.blk.phase k).acq = 0) ∧
    (∃ (s : State) (k : Nat) (volts : List Int) (mid : Nat) (time : Nat) (z : Rat) (m : Int), s.blk.running = true ∧ k < 3 ∧ k <
      s.blk.spur.phases.length ∧ isCrossing volts mid = true ∧ fitZero volts mid = some z ∧ (s.blk.phase k).acq = 1 ∧ m =
      (s.blk.crossingTime time z).1 ∧ minPeriod ≤ m - (s.blk.phase k).prev ∧ m - (s.blk.phase k).prev ≤ maxPeriod) ∧
    (∃ (s : State) (k : Nat) (volts : List Int) (mid : Nat) (time : Nat) (z : Rat) (e : Int), s.blk.running = true ∧ k < 3 ∧ k <
      s.blk.spur.phases.length ∧ isCrossing volts mid = true ∧ fitZero volts mid = some z ∧ (s.blk.phase k).acq = 2 ∧ e =
      (s.blk.crossingTime time z).1 - ((s.blk.phase k).z + (s.blk.phase k).t) ∧ e ≤ 500000 * 65536 ∧ -(500000 * 65536) ≤ e) ∧
    (∃ (s : State) (k : Nat) (volts : List Int) (mid : Nat) (time : Nat) (z : Rat) (e : Int), s.blk.running = true ∧ k < 3 ∧ k <
      s.blk.spur.phases.length ∧ isCrossing volts mid = true ∧ fitZero volts mid = some z ∧ (s.blk.phase k).acq = 2 ∧ e =
      (s.blk.crossingTime time z).1 - ((s.blk.phase k).z + (s.blk.phase k).t) ∧ (e > 500000 * 65536 ∨ e < -(500000 * 65536)) ∧
      (s.blk.phase k).rejects < 3) ∧
    (∃ (volts : List Int) (mid : Nat), isCrossing volts mid = false) ∧
    (∃ (s : State) (l1 : List Int), 3 ≤ s.blk.mode ∧ rmsBelow l1 (s.blk.phase 0).rmsWindow 70 = true ∧ (s.blk.mode = 9 ∨ (s.blk.phase
      0).low = false)) ∧
    (∃ (s : State) (l1 : List Int), s.blk.running = true ∧ rmsAbove l1 (s.blk.phase 0).rmsWindow 80 = true ∧ ((2 * (s.blk.phase
      0).above + 1) % 2 ^ 512).testBit (s.blk.phase 0).rmsSteps = true) ∧
    (∃ (s : State), s.blk.running = true ∧ s.blk.nppComplete = true) ∧
    (∃ (s : State), s.blk.nppComplete = false) ∧
    (∃ (s : State) (v : Word), s.blk.running = true ∧ v.toNat % 16 < 11) :=
  ⟨⟨spurAt {}, 0, wave0, 20, (fitZero wave0 20).getD 0, by decide +kernel⟩,
    ⟨spurAt { acq := 1, prev := 0 }, 0, wave0, 20, 20000000 * 65536 + 20480000, (fitZero wave0 20).getD 0, ((spurAt
      { acq := 1, prev := 0 }).blk.crossingTime (20000000 * 65536 + 20480000) ((fitZero wave0 20).getD 0)).1, by decide +kernel⟩,
    ⟨spurAt { acq := 2, z := 0, t := 20000000 * 65536 } [(R.SPR_FILT_A, 3), (R.SPR_FILT_B, 7)], 0, wave0, 20, 20001000 * 65536 +
      20480000, (fitZero wave0 20).getD 0, ((spurAt { acq := 2, z := 0, t := 20000000 * 65536 } [(R.SPR_FILT_A, 3), (R.SPR_FILT_B,
      7)]).blk.crossingTime (20001000 * 65536 + 20480000) ((fitZero wave0 20).getD 0)).1 - (((spurAt
      { acq := 2, z := 0, t := 20000000 * 65536 } [(R.SPR_FILT_A, 3), (R.SPR_FILT_B, 7)]).blk.phase (0)).z + ((spurAt
      { acq := 2, z := 0, t := 20000000 * 65536 } [(R.SPR_FILT_A, 3), (R.SPR_FILT_B, 7)]).blk.phase (0)).t), by decide +kernel⟩,
    ⟨spurAt { acq := 2, z := 0, t := 20000000 * 65536 } [(R.SPR_FILT_A, 3), (R.SPR_FILT_B, 7)], 0, wave0, 20, 21000000 * 65536 +
      20480000, (fitZero wave0 20).getD 0, ((spurAt { acq := 2, z := 0, t := 20000000 * 65536 } [(R.SPR_FILT_A, 3), (R.SPR_FILT_B,
      7)]).blk.crossingTime (21000000 * 65536 + 20480000) ((fitZero wave0 20).getD 0)).1 - (((spurAt
      { acq := 2, z := 0, t := 20000000 * 65536 } [(R.SPR_FILT_A, 3), (R.SPR_FILT_B, 7)]).blk.phase (0)).z + ((spurAt
      { acq := 2, z := 0, t := 20000000 * 65536 } [(R.SPR_FILT_A, 3), (R.SPR_FILT_B, 7)]).blk.phase (0)).t), by decide +kernel⟩,
    ⟨[], 0, by decide +kernel⟩,
    ⟨inMode 6, [], by decide +kernel⟩,
    ⟨spurAt { above := 1, acq := 2, t := 16 * 1250 * 65536 }, List.replicate 16 2300, by decide +kernel⟩,
    ⟨inMode 6 [(R.SPR_NPP_CTRL_ACC, 0)] (fun b => { b with spur := { b.spur with nppHalf := 1 } }), by decide +kernel⟩,
    ⟨inMode 6, by decide +kernel⟩,
    ⟨inMode 6 [(R.SPR_NPP_CTRL_ACC, 6)], 10, by decide +kernel⟩⟩
theorem wit_spurAndProfile_2 :
    ∃ (s : State) (v : Word), s.blk.running = true ∧ 11 ≤ v.toNat % 16 :=
  ⟨inMode 6 [(R.SPR_NPP_CTRL_ACC, 6)], 11, by decide +kernel⟩
theorem wit_thermalAndSupply :
    (∃ (s : State), 2 ≤ s.blk.mode) ∧
    (∃ (s : State), 3 ≤ s.blk.mode) ∧
    (∃ (s : State), s.blk.mode = 2) ∧
    (∃ (s : State), s.blk.mode = 1) ∧
    (∃ (s : State), s.blk.mode = 1) :=
  ⟨⟨inMode 6, by decide +kernel⟩,
    ⟨inMode 6, by decide +kernel⟩,
    ⟨inMode 2, by decide +kernel⟩,
    ⟨inMode 1, by decide +kernel⟩,
    ⟨inMode 1, by decide +kernel⟩⟩
theorem wit_vauxAndCages :
    (∃ (s : State), s.blk.mode ≠ 0 ∧ s.blk.modl.vauxOn = true) ∧
    (∃ (s : State), s.blk.mode ≠ 0) ∧
    (∃ (s : State) (j : Nat), j < s.blk.modl.cages.length) ∧
    (∃ (s : State) (j : Nat) (declared : Nat), j < 2 ∧ j < s.blk.modl.cages.length ∧ declared ≤ 1500 ∧ s.blk.cageEnabled j = true ∧
      cageMode s.blk.mode = true) ∧
    (∃ (s : State) (j : Nat), j < s.blk.modl.cages.length) :=
  ⟨⟨inMode 6, by decide +kernel⟩,
    ⟨inMode 6, by decide +kernel⟩,
    ⟨inMode 6, 1, by decide +kernel⟩,
    ⟨inMode 6 [] hostBoth, 1, 1000, by decide +kernel⟩,
    ⟨inMode 6, 1, by decide +kernel⟩⟩
theorem wit_tapInstructions :
    (∃ (s : State), s.blk.modl.trstN = true) ∧
    (∃ (s : State), s.blk.modl.trstN = false) ∧
    (∃ (s : State), s.blk.mode ≠ 0 ∧ s.blk.modl.trstN = true) ∧
    (∃ (s : State) (c : Instr) (inputs : Nat) (preload : Nat), (s.blk.mode = 0 ∨ s.blk.modl.trstN = false) ∧ c ∈ [Instr.tapBypass,
      .tapSamplePreload inputs preload, .tapExtest inputs, .tapIdcode]) :=
  ⟨⟨inMode 6, by decide +kernel⟩,
    ⟨inMode 6 [] (fun b => { b with modl := { b.modl with trstN := false } }), by decide +kernel⟩,
    ⟨inMode 6, by decide +kernel⟩,
    ⟨inMode 0, .tapBypass, 1, 2, by decide +kernel⟩⟩

/-! The time unit. -/

/-- A state in mode `m` with some fields, its time unit changed, and an image with an empty timing segment whose PTP roles are 1. -/
def timAt (m : Nat) (l : List (Field × Nat)) (f : TimeUnit → TimeUnit := id) : State :=
  inMode m l (fun b => { b with
    time := f b.time
    image := { b.image with run := some { segs := [⟨11, 0, 0xFF, 0, 0, 0, [], List.replicate 64 0 ++ [1]⟩] } } })
/-- A synchronised node whose backup parent 6 was heard in this tick and whose parent is missed. -/
def backupAt : State := timAt 6 [(R.TIM_STAT_STATE, 2), (R.MSH_STAT_ROLE, 1), (R.TIM_PARENT_BACKUP, 6), (R.MAC_GRID_BP_CYCLES, 50)]
  (fun t => { t with misses := 8 }) |> fun s => { s with blk := { s.blk with
    grid := { s.blk.grid with cur := some ⟨0, 0, 20000000 * 65536⟩ }, mac := { s.blk.mac with heardTick := [(6, 1)] } } }
def treeAt : State := { timAt 6 [] with blk := { (timAt 6 []).blk with mesh := { treeDue := true } } }
def joinedAt (l : List (Field × Nat)) (f : MeshUnit → MeshUnit := id) : State :=
  inMode 6 ([(R.MAC_ADDR_SHORT, 9), (R.MSH_STAT_ROLE, 1), (R.GLB_REV, 100), (R.MAC_GRID_MAP_LEN, 4), (R.GLB_GRID_N, 250)] ++ l) (fun b => { b with
    mesh := f b.mesh, grid := { b.grid with cur := some ⟨100, 0, 20000000 * 65536⟩ }, image := { b.image with run := some {} } })

theorem test_eventEdge : let s := timAt 6 [(R.TIM_EVT_EN, 8)];
    s.blk.running = true ∧ s.blk.bit R.TIM_EVT_EN 3 = true ∧ s.blk.modl.resetN = true ∧ Tab.get 0 s.blk.time.evtLast 3 = 0 ∧
    (after (.eventEdge 3 65536) s).blk.get (R.TIM_EVT_LAST 3) = 2 ^ 112 * 7 + 2 ^ 32 + 2 ^ 16 := by decide +kernel
theorem test_eventEdge_close : let s := timAt 6 [(R.TIM_EVT_EN, 8)] (fun t => { t with evtLast := [(3, 1)] });
    s.blk.bit R.TIM_EVT_EN 3 = true ∧ Tab.get 0 s.blk.time.evtLast 3 = 1 ∧
    (after (.eventEdge 3 6553599) s).blk.get R.TIM_EVT_DISCARD_COUNT = 1 ∧
    (after (.eventEdge 3 6553600) s).blk.get R.TIM_EVT_DISCARD_COUNT = 0 := by decide +kernel
theorem test_ppsInEdge_label : let s := timAt 6 [(R.TIM_TOD_SEC_LO, 2)] (fun t => { t with armed := true });
    s.blk.running = true ∧ s.blk.role = 0 ∧ s.blk.get R.TIM_SRC_CFG_SRC = 0 ∧ s.blk.image.run.isSome = true ∧
    s.blk.get R.GLB_TICK_STAT_GRID_ALIGNED = 0 ∧ s.blk.time.armed = true ∧
    (after (.ppsInEdge (1000000000 * 65536)) s).blk.time.step = some (1000000000 * 65536) := by decide +kernel
theorem test_ppsInEdge_reject : let s := timAt 6 [(R.GLB_TICK_STAT_GRID_ALIGNED, 1)] (fun t => { t with firstLock := true });
    s.blk.time.armed = false ∧ s.blk.time.firstLock = true ∧ s.blk.time.srcBad + 1 < 3 ∧
    (after (.ppsInEdge (999998999 * 65536)) s).blk.get R.TIM_PPS_REJECT_COUNT = 1 := by decide +kernel
theorem test_ppsInTimeout : let s := timAt 6 [(R.TIM_STAT_SRC_OK, 1), (R.TIM_STAT_STATE, 2), (R.TIM_FREQ_INT, 9)];
    s.blk.running = true ∧ s.blk.role = 0 ∧ s.blk.get R.TIM_SRC_CFG_SRC = 0 ∧ s.blk.get R.TIM_STAT_SRC_OK = 1 ∧
    s.blk.image.run.isSome = true ∧ s.blk.get R.TIM_STAT_STATE ≠ 0 ∧ s.blk.get R.TIM_STAT_STATE ≠ 4 ∧
    (after .ppsInTimeout s).blk.get R.TIM_STAT_STATE = 4 ∧ (after .ppsInTimeout s).blk.get R.TIM_FREQ = 9 := by decide +kernel
theorem test_refInLoss : let s := timAt 6 [(R.TIM_SRC_CFG_SYSCLK, 1), (R.MSH_STAT_ROLE, 1)];
    s.blk.running = true ∧ s.blk.get R.TIM_SRC_CFG_SYSCLK = 1 ∧ s.blk.time.onOcxo = false ∧ s.blk.image.run.isSome = true ∧
    s.blk.role ≠ 0 ∧ (after (.refInLoss 5) s).blk.get R.TIM_TROUBLE_REF_SWITCH = 1 ∧
    (after (.refInLoss 5) s).blk.get R.TIM_FREQ = 5 := by decide +kernel
theorem test_todLabelArm : let s := timAt 6 []; s.blk.reachable = true ∧
    (after (.todLabelArm 77) s).blk.get R.TIM_TOD_SEC_LO = 77 ∧ (after (.todLabelArm 77) s).blk.time.armed = true := by decide +kernel
theorem test_timCmdStep_ptp : let s := timAt 10 [(R.TIM_SRC_CFG_SRC, 1)] (fun t => { t with ptpTime := some (-9) });
    s.blk.mode = 10 ∧ s.blk.role = 0 ∧ s.blk.get R.TIM_SRC_CFG_SRC = 1 ∧ s.blk.time.ptpTime = some (-9) ∧
    (after .timCmdStep s).blk.time.step = some (-9) := by decide +kernel
theorem test_timCmdStep_label : let s := timAt 10 [] (fun t => { t with armed := true, labelTheta := some 5 });
    s.blk.mode = 10 ∧ s.blk.role = 0 ∧ s.blk.get R.TIM_SRC_CFG_SRC ≠ 1 ∧ s.blk.time.armed = true ∧
    s.blk.time.labelTheta = some 5 ∧ (after .timCmdStep s).blk.time.step = some 5 := by decide +kernel
theorem test_timCmdStep_elsewhere : let s := timAt 6 [(R.TIM_SRC_CFG_SRC, 1)] (fun t => { t with ptpTime := some (-9) });
    s.blk.mode ≠ 10 ∧ (after .timCmdStep s).blk.time.step = none := by decide +kernel
theorem test_calSave : let s := timAt 6 [] (fun t => { t with cal := [(4, { peer := 7 })] }); s.blk.reachable = true ∧
    s.blk.running = true ∧ (Tab.get {} (after .timCmdCalSave s).blk.time.calSaved 4).peer = 7 ∧
    (Tab.get {} (after .calRecordSave s).blk.time.calSaved 4).peer = 7 := by decide +kernel
theorem test_holdoverEntry : let s := timAt 6 [(R.TIM_STAT_STATE, 2), (R.TIM_FREQ_INT, 9), (R.TIM_FREQ, 8)] (fun t => { t with srcLost := true });
    (after (.holdoverEntry false) s).blk.get R.TIM_FREQ = 9 ∧ (after (.holdoverEntry false) s).blk.get R.TIM_STAT_STATE = 4 := by decide +kernel
theorem test_holdoverEntry_backup : backupAt.blk.get R.TIM_PARENT_BACKUP = 6 ∧
    (after (.holdoverEntry false) backupAt).blk.get R.TIM_PARENT_PARENT = 6 := by decide +kernel
theorem test_outputEnable : let s := timAt 6 [(R.TIM_STAT_STATE, 2), (R.TIM_OUT_CTRL, 1)];
    s.blk.running = true ∧ s.blk.outputsOk = true ∧ (after .outputEnable s).blk.get R.TIM_STAT_OUT_ACTIVE = 1 := by decide +kernel
theorem test_outputSquelch : let s := timAt 6 [(R.TIM_SQUELCH, 10), (R.TIM_BOUND, 10001), (R.TIM_STAT_OUT_ACTIVE, 1)];
    s.blk.running = true ∧ s.blk.get R.TIM_SQUELCH ≠ 0 ∧ s.blk.get R.TIM_SQUELCH * 1000 < s.blk.get R.TIM_BOUND ∧
    s.blk.get R.TIM_STAT_SQUELCHED = 0 ∧ (after .outputSquelch s).blk.get R.TIM_STAT_OUT_ACTIVE = 0 := by decide +kernel
theorem test_outputSquelch_back : let s := timAt 6 [(R.TIM_SQUELCH, 10), (R.TIM_BOUND, 5000), (R.TIM_STAT_SQUELCHED, 1)];
    s.blk.running = true ∧ s.blk.get R.TIM_STAT_SQUELCHED = 1 ∧
    2 * s.blk.get R.TIM_BOUND ≤ s.blk.get R.TIM_SQUELCH * 1000 ∧
    (after .outputSquelch s).blk.get R.TIM_STAT_SQUELCHED = 0 := by decide +kernel
theorem test_ptp : let s := timAt 6 [(R.TIM_STAT_STATE, 2), (R.TIM_STAT_SRC_OK, 1), (R.TIM_BOUND, 26)];
    (after (.ptpMessageRx 0 6 ⟨none, none⟩) s).blk.get R.TIM_PTP_STAT_STATE_J1 = 6 ∧
    (after (.ptpIntervalTx 0) s).blk.outs.length = 1 := by decide +kernel
theorem test_timingTreeRecompute : let s := timAt 6 []; let s := { s with blk := { s.blk with mesh := { treeDue := true } } };
    s.blk.running = true ∧ s.blk.coordinator = true ∧ s.blk.mesh.treeDue = true ∧
    (after .timingTreeRecompute s).blk.mesh.treeDue = false := by decide +kernel
theorem test_assignmentApply : let s := joinedAt [] (fun m => { m with pendingAssign := some ⟨100, List.replicate 26 0, 4⟩ });
    s.blk.running = true ∧ s.blk.mesh.pendingAssign = some ⟨100, List.replicate 26 0, 4⟩ ∧ s.blk.hasGrid = true ∧
    s.blk.short ≠ 0 ∧ s.blk.reached 100 = true ∧ (after .assignmentApply s).blk.mesh.collector = 4 := by decide +kernel

/-! Witnesses: for each clause of the statements above with hypotheses, a state and operands that meet them all. -/

theorem wit_eventInputs :
    (∃ (s : State) (n : Nat) (edge : Nat), s.blk.running = true ∧ n < 4 ∧ s.blk.bit R.TIM_EVT_EN n = true ∧ s.blk.modl.resetN = true ∧
      ((Tab.get 0 s.blk.time.evtLast n = 0 ∨ Tab.get 0 s.blk.time.evtLast n + 6553600 ≤ edge + 1))) ∧
    (∃ (s : State) (n : Nat) (edge : Nat), s.blk.running = true ∧ n < 4 ∧ s.blk.bit R.TIM_EVT_EN n = true ∧ s.blk.modl.resetN = true ∧
      Tab.get 0 s.blk.time.evtLast n ≠ 0 ∧ edge + 1 < Tab.get 0 s.blk.time.evtLast n + 6553600) :=
  ⟨⟨timAt 6 [(R.TIM_EVT_EN, 8)], 3, 65536, by decide +kernel⟩,
    ⟨timAt 6 [(R.TIM_EVT_EN, 8)] (fun t => { t with evtLast := [(3, 1)] }), 3, 6553599, by decide +kernel⟩⟩
theorem wit_timeSource :
    (∃ (s : State), s.blk.running = true ∧ s.blk.role = 0 ∧ s.blk.get R.TIM_SRC_CFG_SRC = 0 ∧ s.blk.image.run.isSome = true ∧ s.blk.get
      R.GLB_TICK_STAT_GRID_ALIGNED = 0 ∧ s.blk.time.armed = true) ∧
    (∃ (s : State) (edge : Nat), s.blk.running = true ∧ s.blk.role = 0 ∧ s.blk.get R.TIM_SRC_CFG_SRC = 0 ∧ s.blk.image.run.isSome =
      true ∧ s.blk.get R.GLB_TICK_STAT_GRID_ALIGNED = 1 ∧ s.blk.time.armed = false ∧ s.blk.time.firstLock = true ∧ s.blk.time.srcBad +
      1 < 3 ∧ 65536000 < (((s.blk.time.label + 1) * 1000000000 * 65536 : Nat) : Int) + s.blk.sget R.TIM_PPS_IN_DELAY * 65536 / 1000 -
      edge) ∧
    (∃ (s : State), s.blk.running = true ∧ s.blk.role = 0 ∧ s.blk.get R.TIM_SRC_CFG_SRC = 0 ∧ s.blk.get R.TIM_STAT_SRC_OK = 1 ∧
      s.blk.image.run.isSome = true ∧ s.blk.get R.TIM_STAT_STATE ≠ 0 ∧ s.blk.get R.TIM_STAT_STATE ≠ 4) ∧
    (∃ (s : State), s.blk.running = true ∧ s.blk.get R.TIM_SRC_CFG_SYSCLK = 1 ∧ s.blk.time.onOcxo = false ∧ s.blk.image.run.isSome =
      true ∧ s.blk.role ≠ 0) ∧
    (∃ (s : State), s.blk.reachable = true) :=
  ⟨⟨timAt 6 [(R.TIM_TOD_SEC_LO, 2)] (fun t => { t with armed := true }), by decide +kernel⟩,
    ⟨timAt 6 [(R.GLB_TICK_STAT_GRID_ALIGNED, 1)] (fun t => { t with firstLock := true }), 999998999 * 65536, by decide +kernel⟩,
    ⟨timAt 6 [(R.TIM_STAT_SRC_OK, 1), (R.TIM_STAT_STATE, 2), (R.TIM_FREQ_INT, 9)], by decide +kernel⟩,
    ⟨timAt 6 [(R.TIM_SRC_CFG_SYSCLK, 1), (R.MSH_STAT_ROLE, 1)], by decide +kernel⟩,
    ⟨timAt 6 [], by decide +kernel⟩⟩
theorem wit_timeCommands :
    (∃ (s : State) (d : Int), s.blk.mode = 10 ∧ s.blk.role = 0 ∧ s.blk.get R.TIM_SRC_CFG_SRC = 1 ∧ s.blk.time.ptpTime = some d) ∧
    (∃ (s : State) (d : Int), s.blk.mode = 10 ∧ s.blk.role = 0 ∧ s.blk.get R.TIM_SRC_CFG_SRC ≠ 1 ∧ s.blk.time.armed = true ∧
      s.blk.time.labelTheta = some d) ∧
    (∃ (s : State), s.blk.mode = 10 ∧ s.blk.role = 0 ∧ s.blk.get R.TIM_SRC_CFG_SRC ≠ 1 ∧ s.blk.time.armed = true ∧
      s.blk.time.labelTheta = none) ∧
    (∃ (s : State), (s.blk.mode ≠ 10 ∨ s.blk.role ≠ 0)) ∧
    (∃ (s : State), s.blk.reachable = true) ∧
    (∃ (s : State), s.blk.running = true) :=
  ⟨⟨timAt 10 [(R.TIM_SRC_CFG_SRC, 1)] (fun t => { t with ptpTime := some (-9) }), -9, by decide +kernel⟩,
    ⟨timAt 10 [] (fun t => { t with armed := true, labelTheta := some 5 }), 5, by decide +kernel⟩,
    ⟨timAt 10 [] (fun t => { t with armed := true }), by decide +kernel⟩,
    ⟨timAt 6 [(R.TIM_SRC_CFG_SRC, 1)] (fun t => { t with ptpTime := some (-9) }), by decide +kernel⟩,
    ⟨timAt 6 [] (fun t => { t with cal := [(4, { peer := 7 })] }), by decide +kernel⟩,
    ⟨timAt 6 [] (fun t => { t with cal := [(4, { peer := 7 })] }), by decide +kernel⟩⟩
theorem wit_holdoverAndOutputs :
    (∃ (s : State) (far : Bool), s.blk.running = true ∧ s.blk.get R.TIM_STAT_STATE ≠ 0 ∧ s.blk.get R.TIM_STAT_STATE ≠ 4 ∧
      s.blk.holdoverDue far = true ∧ ((s.blk.role = 0 ∨ s.blk.get R.TIM_PARENT_BACKUP = 0 ∨ s.blk.heardLately (s.blk.get
      R.TIM_PARENT_BACKUP) = false))) ∧
    (∃ (s : State) (far : Bool), s.blk.running = true ∧ s.blk.get R.TIM_STAT_STATE ≠ 0 ∧ s.blk.holdoverDue far = true ∧ s.blk.role ≠ 0
      ∧ s.blk.get R.TIM_PARENT_BACKUP ≠ 0 ∧ s.blk.heardLately (s.blk.get R.TIM_PARENT_BACKUP) = true) ∧
    (∃ (s : State) (far : Bool), (s.blk.get R.TIM_STAT_STATE = 0 ∨ s.blk.holdoverDue far = false)) ∧
    (∃ (s : State), s.blk.running = true ∧ s.blk.outputsOk = true) ∧
    (∃ (s : State), s.blk.outputsOk = false) ∧
    (∃ (s : State), s.blk.running = true ∧ s.blk.get R.TIM_SQUELCH ≠ 0 ∧ s.blk.get R.TIM_SQUELCH * 1000 < s.blk.get R.TIM_BOUND ∧
      s.blk.get R.TIM_STAT_SQUELCHED = 0) ∧
    (∃ (s : State), s.blk.running = true ∧ s.blk.get R.TIM_STAT_SQUELCHED = 1 ∧ 2 * s.blk.get R.TIM_BOUND ≤ s.blk.get R.TIM_SQUELCH *
      1000) :=
  ⟨⟨timAt 6 [(R.TIM_STAT_STATE, 2), (R.TIM_FREQ_INT, 9), (R.TIM_FREQ, 8)] (fun t => { t with srcLost := true }), false,
      by decide +kernel⟩,
    ⟨backupAt, false, by decide +kernel⟩,
    ⟨timAt 6 [], false, by decide +kernel⟩,
    ⟨timAt 6 [(R.TIM_STAT_STATE, 2), (R.TIM_OUT_CTRL, 1)], by decide +kernel⟩,
    ⟨timAt 6 [], by decide +kernel⟩,
    ⟨timAt 6 [(R.TIM_SQUELCH, 10), (R.TIM_BOUND, 10001), (R.TIM_STAT_OUT_ACTIVE, 1)], by decide +kernel⟩,
    ⟨timAt 6 [(R.TIM_SQUELCH, 10), (R.TIM_BOUND, 5000), (R.TIM_STAT_SQUELCHED, 1)], by decide +kernel⟩⟩
theorem wit_ptpAndTree :
    (∃ (s : State) (j : Nat), j < 3 ∧ s.blk.ptpRole j ≠ 0 ∧ 3 ≤ s.blk.mode ∧ s.blk.mode ≠ 9) ∧
    (∃ (s : State) (j : Nat), j < 3 ∧ s.blk.ptpRole j ≠ 0 ∧ 3 ≤ s.blk.mode ∧ s.blk.mode ≠ 9 ∧ s.blk.role = 0 ∧ s.blk.get
      R.TIM_SRC_CFG_SRC = 1 ∧ s.blk.get R.TIM_SRC_CFG_PTP_SRC_PORT = j ∧ s.blk.time.firstLock = false ∧ s.blk.get
      R.GLB_TICK_STAT_GRID_ALIGNED = 0) ∧
    (∃ (s : State) (j : Nat), j < 3 ∧ s.blk.ptpRole j ≠ 0 ∧ 3 ≤ s.blk.mode ∧ s.blk.mode ≠ 9) ∧
    (∃ (s : State), s.blk.running = true ∧ s.blk.coordinator = true ∧ s.blk.mesh.treeDue = true) ∧
    (∃ (s : State) (x : Assign), s.blk.running = true ∧ s.blk.mesh.pendingAssign = some x ∧ s.blk.hasGrid = true ∧ s.blk.short ≠ 0 ∧
      s.blk.reached x.rev = true) :=
  ⟨⟨timAt 6 [(R.TIM_STAT_STATE, 2)], 0, by decide +kernel⟩,
    ⟨timAt 6 [(R.TIM_SRC_CFG_SRC, 1)], 0, by decide +kernel⟩,
    ⟨timAt 6 [(R.TIM_STAT_STATE, 2), (R.TIM_STAT_SRC_OK, 1), (R.TIM_BOUND, 26)], 0, by decide +kernel⟩,
    ⟨treeAt, by decide +kernel⟩,
    ⟨joinedAt [] (fun m => { m with pendingAssign := some ⟨100, List.replicate 26 0, 4⟩ }), ⟨100, List.replicate 26 0, 4⟩,
      by decide +kernel⟩⟩

/-! The line front end. -/

/-- A state in mode 6 with permitted bands, its line front end, PHY and MAC changed. -/
def lineAt (l : List (Field × Nat)) (f : Block → Block := id) : State :=
  inMode 6 ([(R.MAC_BUDGET_H, 1000000), (R.MAC_BUDGET_L, 1000000), (R.GLB_GRID_N, 250), (R.LFE_CFG_H_PROFILE 0, 0),
    (R.LFE_CFG_H_CENTRE 0, 1000), (R.MAC_ADDR_SHORT, 9)] ++ l) f
def frameOf (mode : Nat) : TxFrame := { band := 0, kind := .beacon, hdr := { mode := mode, dst := 0xFFFF }, port := some 0, payload := [1, 2] }
def readyAt (f : TxFrame) : State := lineAt [] (fun b => b.setMac { b.mac with ready := [f] })
/-- A dispersed frame of two segments, its first one sent, its second due in this tick. -/
def dueAt (l : List (Field × Nat) := []) : State := lineAt l (fun b => { b with phy := { b.phy with
  tx := [{ frame := { frameOf 64 with hdr := { mode := 64, span := 2 } }, ports := [0], endTick := 0, segments := 1, halves := 1 }] } })
def dispersedAt (l : List (Field × Nat)) : State := lineAt l (fun b => { b with phy := { b.phy with
  tx := [{ frame := { frameOf 64 with hdr := { mode := 64, span := 2 } }, ports := [0], endTick := 0, segments := 1 }] } })
def notchAt (w : Nat) : State := lineAt [] (fun b => b.notchWord 5 w)

theorem test_frameTxStart : let t := after (.frameTxStart 0 [500, 0, 0, 0, 0] [0, 0, 0, 0, 0]) (readyAt (frameOf 64));
    t.blk.phy.tx.length = 1 ∧ t.blk.get (R.LFE_STAT_TX_ACTIVE_H 0) = 1 ∧ t.blk.mac.ready = [] := by decide +kernel
/-- Modulation 3 is no mode (R167). -/
theorem test_frameTxStart_refused : let s := readyAt (frameOf (3 * 8)); s.blk.txRefused (frameOf (3 * 8)) [0] = true ∧
    (after (.frameTxStart 0 [500, 0, 0, 0, 0] [0, 0, 0, 0, 0]) s).blk.get R.PHY_TX_REFUSED_COUNT = 1 := by decide +kernel
theorem test_segmentTx : (after (.segmentTx ⟨0, [0, 0, 0, 0, 0]⟩) dueAt).blk.outs.length = 1 ∧
    (after (.segmentTx ⟨0, [0, 0, 0, 0, 0]⟩) dueAt).blk.get (R.LFE_STAT_TX_ACTIVE_H 0) = 1 := by decide +kernel
theorem test_segmentTx_omitted : (after (.segmentTx ⟨0, []⟩) (dueAt [(R.MAC_BUDGET_H, 0)])).blk.get R.PHY_SEG_OMITTED_COUNT = 1 := by decide +kernel
/-- R120: +150 °C is 1500 in 0.1 °C; the shutdown is above it. -/
theorem test_driverThermalShutdown : let s := lineAt []; (after (.driverThermalShutdown ⟨1, 1501⟩) s).blk.front.driverOff.getD 1 false = true ∧
    (after (.driverThermalShutdown ⟨1, 1501⟩) s).blk.get (R.LFE_TROUBLE_THERMAL_SHUTDOWN 1) = 1 ∧
    (after (.driverThermalShutdown ⟨1, 1500⟩) s).blk.front.driverOff.getD 1 false = false := by decide +kernel
theorem test_driverThermalRecover : let s := after (.driverThermalShutdown ⟨1, 1501⟩) (lineAt []);
    (after (.driverThermalRecover ⟨1, 1249⟩) s).blk.front.driverOff = [false, false, false, false, false] ∧
    (after (.driverThermalRecover ⟨1, 1250⟩) s).blk.front.driverOff.getD 1 false = true := by decide +kernel
theorem test_foldbackRelax : let s := lineAt []; s.blk.running = true ∧ 4 < s.blk.front.relax.length ∧
    (after (.foldbackRelax 4) s).blk.front.relax = [0, 0, 0, 0, 1] := by decide +kernel
theorem test_notchWrite_off : let s := lineAt [(R.LFE_NOTCH_VALID 5, 1)]; s.blk.mode = 6 ∧ s.blk.get (R.LFE_NOTCH_LOCKED 5) = 0 ∧
    (after (.notchWrite 5 0) s).blk.get (R.LFE_NOTCH_VALID 5) = 0 := by decide +kernel
theorem test_notchWrite : let s := notchAt (200 + 65536 * 220); s.blk.get (R.LFE_NOTCH_LOCKED 5) = 0 ∧
    Tab.get 0 s.blk.front.notchWord 5 = 200 + 65536 * 220 + 1 ∧
    s.blk.notchesFit ((200, 220) :: (s.blk.set (R.LFE_NOTCH_VALID 5) 0).notches) = true ∧
    (after (.notchWrite 5 1) s).blk.get (R.LFE_NOTCH_STOP 5) = 220 ∧
    (after (.notchWrite 5 1) s).blk.get R.LFE_NOTCH_STAT_VALID_NOTCHES = 1 := by decide +kernel
theorem test_notchWrite_narrow : let s := notchAt (200 + 65536 * 219); Tab.get 0 s.blk.front.notchWord 5 = 200 + 65536 * 219 + 1 ∧
    (after (.notchWrite 5 1) s).blk.get R.LFE_NOTCH_REFUSED_COUNT = 1 := by decide +kernel
theorem test_notchWrite_locked : let s := lineAt [(R.LFE_NOTCH_LOCKED 5, 1), (R.LFE_NOTCH_VALID 5, 1)];
    s.blk.get (R.LFE_NOTCH_LOCKED 5) = 1 ∧ (after (.notchWrite 5 0) s).blk.get (R.LFE_NOTCH_VALID 5) = 1 := by decide +kernel

/-! Witnesses: for each clause of the statements above with hypotheses, a state and operands that meet them all. -/

theorem wit_frameStart :
    (∃ (s : State) (band : Nat) (f : TxFrame), s.blk.running = true ∧ s.blk.firstReady band = some f ∧ ((∀ p ∈ s.blk.portsFor f, p <
      4)) ∧ s.blk.mayTransmit = true ∧ s.blk.forbidden band = false ∧ ((∀ p ∈ s.blk.portsFor f, s.blk.driverOff band p = false)) ∧
      s.blk.txRefused f (s.blk.portsFor f) = false ∧ (s.blk.exhausted = false ∨ protectedType f.hdr.ftype = false ∨ f.sealed = true) ∧
      s.blk.budgetOk f = true) ∧
    (∃ (s : State) (band : Nat) (f : TxFrame), s.blk.running = true ∧ s.blk.firstReady band = some f ∧ s.blk.mayTransmit = true ∧
      s.blk.forbidden band = false ∧ ((∀ p ∈ s.blk.portsFor f, s.blk.driverOff band p = false)) ∧ s.blk.txRefused f (s.blk.portsFor f)
      = true ∧ f.kind = .beacon) ∧
    (∃ (s : State) (band : Nat) (f : TxFrame), s.blk.running = true ∧ s.blk.firstReady band = some f ∧ (s.blk.mayTransmit = false ∨
      s.blk.forbidden band = true) ∧ f.kind = .timing) ∧
    (∃ (s : State) (band : Nat), s.blk.firstReady band = none) :=
  ⟨⟨readyAt (frameOf 64), 0, frameOf 64, by decide +kernel⟩,
    ⟨readyAt (frameOf (3 * 8)), 0, frameOf (3 * 8), by decide +kernel⟩,
    ⟨lineAt [(R.MAC_BUDGET_H, 0)] (fun b => b.setMac { b.mac with ready := [{ frameOf 64 with kind := .timing }] }), 0,
      { frameOf 64 with kind := .timing }, by decide +kernel⟩,
    ⟨lineAt [], 0, by decide +kernel⟩⟩
theorem wit_segmentsSent :
    (∃ (s : State) (band : Nat) (x : TxActive), s.blk.running = true ∧ ((∀ p ∈ x.ports, p < 4)) ∧ s.blk.phy.tx.find? (fun t =>
      t.frame.band == band && s.blk.segmentDue t) = some x ∧ s.blk.mayTransmit = true ∧ s.blk.forbidden band = false ∧ ((∀ p ∈ x.ports,
      s.blk.driverOff band p = false)) ∧ s.blk.sending band = false) ∧
    (∃ (s : State) (band : Nat) (x : TxActive), s.blk.running = true ∧ s.blk.phy.tx.find? (fun t => t.frame.band == band &&
      s.blk.segmentDue t) = some x ∧ (s.blk.mayTransmit = false ∨ s.blk.forbidden band = true)) :=
  ⟨⟨dueAt, 0,
      { frame := { frameOf 64 with hdr := { mode := 64, span := 2 } }, ports := [0], endTick := 0, segments := 1, halves := 1 },
      by decide +kernel⟩,
    ⟨dueAt [(R.MAC_BUDGET_H, 0)], 0,
      { frame := { frameOf 64 with hdr := { mode := 64, span := 2 } }, ports := [0], endTick := 0, segments := 1, halves := 1 },
      by decide +kernel⟩⟩
theorem wit_driverTemperature :
    (∃ (s : State) (d : Nat) (temp : Int), s.blk.running = true ∧ d < 5 ∧ d < s.blk.front.driverOff.length ∧ 1500 < temp) ∧
    (∃ (temp : Int), temp ≤ 1500) ∧
    (∃ (s : State) (temp : Int), s.blk.running = true ∧ temp < 1250) ∧
    (∃ (temp : Int), 1250 ≤ temp) ∧
    (∃ (s : State) (d : Nat), s.blk.running = true ∧ d < s.blk.front.relax.length) :=
  ⟨⟨lineAt [], 1, 1501, by decide +kernel⟩,
    ⟨1500, by decide +kernel⟩,
    ⟨lineAt [] (fun b => { b with front := { b.front with driverOff := [false, true, false, false, false] } }), 1249,
      by decide +kernel⟩,
    ⟨1250, by decide +kernel⟩,
    ⟨lineAt [], 4, by decide +kernel⟩⟩
theorem wit_notchWrites :
    (∃ (s : State) (n : Nat) (v : Word), s.blk.notchMode = true ∧ n < 32 ∧ s.blk.get (R.LFE_NOTCH_LOCKED n) = 0 ∧ v.toNat % 2 = 0) ∧
    (∃ (s : State) (n : Nat) (start : Nat) (stop : Nat) (v : Word), s.blk.notchMode = true ∧ n < 32 ∧ s.blk.get (R.LFE_NOTCH_LOCKED n)
      = 0 ∧ v.toNat % 2 = 1 ∧ Tab.get 0 s.blk.front.notchWord n = start + 65536 * stop + 1 ∧ start < 65536 ∧ stop < 65536 ∧ start + 20
      ≤ stop ∧ s.blk.notchesFit ((start, stop) :: (s.blk.set (R.LFE_NOTCH_VALID n) 0).notches) = true) ∧
    (∃ (s : State) (n : Nat) (start : Nat) (stop : Nat) (v : Word), s.blk.notchMode = true ∧ n < 32 ∧ s.blk.get (R.LFE_NOTCH_LOCKED n)
      = 0 ∧ v.toNat % 2 = 1 ∧ Tab.get 0 s.blk.front.notchWord n = start + 65536 * stop + 1 ∧ start < 65536 ∧ stop < 65536 ∧ (stop <
      start + 20 ∨ s.blk.notchesFit ((start, stop) :: (s.blk.set (R.LFE_NOTCH_VALID n) 0).notches) = false)) ∧
    (∃ (s : State) (n : Nat) (start : Nat) (stop : Nat) (v : Word), s.blk.notchMode = true ∧ n < 32 ∧ s.blk.get (R.LFE_NOTCH_LOCKED n)
      = 0 ∧ v.toNat % 2 = 1 ∧ Tab.get 0 s.blk.front.notchWord n = 0 ∧ s.blk.get (R.LFE_NOTCH_START n) = start ∧ s.blk.get
      (R.LFE_NOTCH_STOP n) = stop ∧ start < 65536 ∧ stop < 65536 ∧ start + 20 ≤ stop ∧ s.blk.notchesFit ((start, stop) :: (s.blk.set
      (R.LFE_NOTCH_VALID n) 0).notches) = true) ∧
    (∃ (s : State) (n : Nat), (s.blk.get (R.LFE_NOTCH_LOCKED n) = 1 ∨ s.blk.notchMode = false)) :=
  ⟨⟨lineAt [(R.LFE_NOTCH_VALID 5, 1)], 5, 0, by decide +kernel⟩,
    ⟨notchAt (200 + 65536 * 220), 5, 200, 220, 1, by decide +kernel⟩,
    ⟨notchAt (200 + 65536 * 219), 5, 200, 219, 1, by decide +kernel⟩,
    ⟨lineAt [(R.LFE_NOTCH_START 5, 200), (R.LFE_NOTCH_STOP 5, 220)], 5, 200, 220, 1, by decide +kernel⟩,
    ⟨lineAt [(R.LFE_NOTCH_LOCKED 5, 1), (R.LFE_NOTCH_VALID 5, 1)], 5, by decide +kernel⟩⟩

/-! The receiver and line capture. -/

def rxAt (r : Reception) (l : List (Field × Nat) := []) : State :=
  inMode 6 ([(R.LFE_CFG_H_PROFILE 0, 0), (R.MAC_ADDR_SHORT, 9), (R.LFE_STAT_AGC_FROZEN_H 0, 1)] ++ l)
    (fun b => { b with phy := { b.phy with rx := [r] } })
def rec_ (stage : Nat) (hdr : Header := {}) (parts : List RxPart := []) : Reception := { band := 0, port := 0, ports := [0], stage := stage, hdr := hdr, parts := parts }
/-- The preamble sequence of Band L at 1000, each chip followed by a zero sample; with the sign turned, the sync word. -/
def seqL (a : Int) : List Lane := (goldBits 0 128).map (fun c => ⟨if c then -a else a, 0, false, false⟩)
def lane0 : Lane := ⟨0, 0, false, false⟩
def halves (l : List Lane) : List Lane := l.flatMap (fun x => [x, lane0])
/-- The window of a declaration after one repetition, and that of a continuation segment. -/
def windowL : List Lane := [lane0, lane0] ++ halves (seqL 1000) ++ [lane0]
def segmentL : List Lane := halves (seqL 1000 ++ seqL 1000 ++ seqL (-1000))
/-- A node that listens on Band L of port 1 with one repetition and threshold 1/2. -/
def listenL (l : List (Field × Nat)) (rx : List Reception) : State :=
  inMode 6 ([(R.LFE_CFG_L_PROFILE 1, 4), (R.PHY_DET_L_REPS, 1), (R.PHY_DET_L_THRESH, 32768), (R.MAC_ADDR_SHORT, 9)] ++ l)
    (fun b => { b with phy := { b.phy with rx := rx } })
def recL (stage : Nat) : Reception := { band := 1, port := 1, ports := [1], stage := stage, corrs := [(128000, 0)] }
/-- The copies of coded bits without noise. -/
def softOf (l : List Bool) : List SoftBit := l.map (fun c => { soft := if c then -7 else 7 })
/-- An ACK to node 9, and one to node 8. -/
def ackTo (dst : Nat) : List Byte := ({ ftype := 2, mode := 64, dst := dst, src := 5, cls := 1 } : Header).encode
def part0 : RxPart := { ctr := 7, ackReq := false, sec := false, epoch := 0, payload := [1], ok := true, len := 1 }
def follow8 : List Byte := ({ len := 2, ctr := 8, ackReq := false, sec := false, epoch := 0, more := false } : FollowOn).encode
/-- A header-only frame. -/
def badReport : RxReport := ⟨[softOf (List.replicate 8 false)], [], [], 0, 1, none, 0, none, 0⟩
def emptyReport : RxReport := ⟨[], [], [], 0, 1, none, 0, none, 0⟩
/-- A transmission of one frame so far with More set. -/
def train1 : Reception := rec_ 2 { ftype := 1, mode := 64, len := 1, ctr := 7 } [{ part0 with more := true }]

theorem test_preambleDeclare : let t := after (.preambleDeclare 1 1 ⟨(0, 0), windowL, [(2, 5)]⟩) (listenL [] []);
    (t.blk.phy.rx.map (fun r => (r.band, r.port, r.stage))) = [(1, 1, 0)] ∧ t.blk.get (R.LFE_STAT_AGC_FROZEN_L 1) = 1 ∧
    t.blk.get R.PHY_DET_COUNT = 1 := by decide +kernel
theorem test_syncFound : let c := Instr.syncFound ⟨1, 1, (0, 0)⟩ ⟨[seqL (-1000)], ⟨[[(1, 0)]], [[(1, 0)]], [[(1, 0)]]⟩⟩;
    ((after c (listenL [] [recL 0])).blk.phy.rx.map (fun r => r.stage)) = [1] := by decide +kernel
theorem test_syncSearchTimeout : let t := after (.syncSearchTimeout ⟨1, 1, (0, 0)⟩ (List.replicate 8 [])) (listenL [(R.LFE_STAT_AGC_FROZEN_L 1, 1)] [recL 0]);
    t.blk.phy.rx = [] ∧ t.blk.get (frozenField 1 1) = 0 ∧ t.blk.get R.PHY_FALSE_DET_COUNT = 1 := by decide +kernel
theorem test_agcSaturationRelease : let t := after (.agcSaturationRelease 1 ⟨1, 1⟩) (listenL [(R.LFE_STAT_AGC_FROZEN_L 1, 1)] [recL 1]);
    t.blk.phy.rx = [] ∧ t.blk.get (R.LFE_AGC_SAT_REL_COUNT 1) = 1 ∧ t.blk.get (frozenField 1 1) = 0 := by decide +kernel
theorem test_agcSaturationRelease_alone : (after (.agcSaturationRelease 1 ⟨1, 1⟩) (listenL [(R.LFE_STAT_AGC_FROZEN_L 1, 1)] [])).blk.get
    (frozenField 1 1) = 0 := by decide +kernel
/-- R193: a Band L header that is erased by half is given up; one erased to a quarter goes on. -/

theorem test_headerReceived : let s := rxAt (rec_ 1) [(R.PHY_DEC_ITER, 1)]; headerCrcOk (ackTo 9) = true ∧
    ((after (.headerReceived ⟨0, 0, (0, 0)⟩ (softOf (headerBits (ackTo 9))) []) s).blk.phy.rx.map (fun r => (r.stage, r.hdr.dst))) = [(2, 9)] := by
  decide +kernel
theorem test_headerReceived_drop : let s := rxAt (rec_ 1) [(R.PHY_DEC_ITER, 1)];
    (after (.headerReceived ⟨0, 0, (0, 0)⟩ (softOf (headerBits (ackTo 8))) []) s).blk.get R.MAC_FILTER_DROP_COUNT = 1 := by decide +kernel
theorem test_headerReceived_crc : let s := rxAt (rec_ 1) [(R.PHY_DEC_ITER, 1)]; headerCrcOk (1 :: ackTo 9) = false ∧
    (after (.headerReceived ⟨0, 0, (0, 0)⟩ (softOf (headerBits (1 :: ackTo 9))) []) s).blk.get R.PHY_HDR_CRC_FAIL_COUNT = 1 := by decide +kernel
theorem test_followOnHeader : let s := rxAt train1 [(R.PHY_DEC_ITER, 1)]; followCrcOk follow8 = true ∧
    (FollowOn.decode follow8).len = 2 ∧ (FollowOn.decode follow8).ctr = 8 ∧
    ((after (.followOnHeader 0 0 (softOf (ldpcEncode 24 0 (bitsOf follow8)))) s).blk.phy.rx.map (fun r => r.parts.length)) = [2] := by
  decide +kernel
theorem test_followOnHeader_crc : let s := rxAt train1 [(R.PHY_DEC_ITER, 1)]; followCrcOk (1 :: follow8) = false ∧
    ((after (.followOnHeader 0 0 (softOf (ldpcEncode 24 0 (bitsOf (1 :: follow8))))) s).blk.phy.rx.map (fun r => r.stage)) = [3] := by
  decide +kernel
theorem test_segmentSearch : (after (.segmentSearch 0 0 ⟨[], 0⟩) (rxAt (rec_ 2 { span := 2 }))).blk.get R.PHY_SEG_MISSED_COUNT = 1 := by
  decide +kernel
theorem test_rxFrameEnd : let s := rxAt (rec_ 2 { ftype := 2, src := 5 }) [(R.PHY_DEC_ITER, 1)];
    ((after (.rxFrameEnd 0 0 ⟨(0, 0), emptyReport⟩) s).blk.phy.delivered.map (fun d => d.hdr.src)) = [5] ∧
    (after (.rxFrameEnd 0 0 ⟨(0, 0), emptyReport⟩) s).blk.get R.PHY_FRAMES_OK_COUNT = 1 := by decide +kernel
theorem test_captureArm : let s := inMode 6; s.blk.mode = 6 ∧ s.blk.get R.PHY_CAP_STAT_STATE ≠ 2 := by decide +kernel
theorem test_captureArm_mode : let s := inMode 3; s.blk.reachable = true ∧ s.blk.mode = 3 ∧
    (after (.captureArm 2 1 3) s).blk.get R.PHY_CAP_STAT_STATE = 0 ∧ (after (.captureArm 2 1 3) s).blk.get R.PHY_CAP_CTRL_TRIG = 3 := by decide +kernel
theorem test_capture : let s := inMode 6 [(R.PHY_CAP_STAT_STATE, 1), (R.PHY_CAP_CTRL_TRIG, 4)]; s.blk.running = true ∧
    (after (.captureTrigger 3) s).blk.get R.PHY_CAP_STAT_STATE = 1 ∧ (after (.captureTrigger 4) s).blk.get R.PHY_CAP_STAT_STATE = 2 ∧
    (after .captureStop s).blk.get R.PHY_CAP_STAT_STATE = 3 ∧
    (after .captureEnd (after (.captureTrigger 4) s)).blk.get R.PHY_CAP_STAT_STATE = 3 := by decide +kernel

/-! Witnesses: for each clause of the statements above with hypotheses, a state and operands that meet them all. -/

theorem wit_receptionStart :
    (∃ (s : State) (band : Nat) (p : Nat) (code : Nat × Nat) (window : List Lane) (ports : List (Nat × Nat)) (collect : Bool),
      s.blk.running = true ∧ s.blk.receiving = true ∧ s.blk.listens band p = true ∧ p < 4 ∧ ((∀ x ∈ ports, x.1 < 4)) ∧ collect = (band
      == 0 && s.blk.inCollect) ∧ (s.blk.frozen band p = false ∨ collect = true) ∧ ((collect = true → s.blk.phy.rx.any (fun r =>
      r.collect && r.stage != 3 && r.code == code && r.ports.contains p) = false)) ∧ s.blk.declares band (if collect then some code
      else none) window = true) ∧
    (∃ (s : State) (band : Nat) (p : Nat), (s.blk.receiving = false ∨ s.blk.listens band p = false ∨ s.blk.frozen band p = true ∧ (band
      == 0 && s.blk.inCollect) = false)) ∧
    (∃ (s : State) (band : Nat) (p : Nat) (code : Nat × Nat) (reps : List (List Lane)) (r : Reception), s.blk.running = true ∧
      s.blk.receptionAt band p 0 code = some r ∧ (syncSearch r.seq reps r.corrs r.flags).1 = true ∧ reps.length ≤ 8 ∧ (syncSearch r.seq
      reps r.corrs r.flags).2.1.length + 1 = r.corrs.length + reps.length) ∧
    (∃ (s : State) (band : Nat) (p : Nat) (code : Nat × Nat) (reps : List (List Lane)) (r : Reception), s.blk.running = true ∧
      s.blk.receptionAt band p 0 code = some r ∧ reps.length = 8 ∧ (syncSearch r.seq reps r.corrs r.flags).1 = false ∧ ((∀ q ∈ r.ports,
      q < 4))) :=
  ⟨⟨listenL [] [], 1, 1, (0, 0), windowL, [(2, 5)], false, by decide +kernel⟩,
    ⟨listenL [(R.LFE_STAT_TX_ACTIVE_L 1, 1)] [], 1, 1, by decide +kernel⟩,
    ⟨listenL [] [recL 0], 1, 1, (0, 0), [seqL (-1000)], recL 0, by decide +kernel⟩,
    ⟨listenL [(R.LFE_STAT_AGC_FROZEN_L 1, 1)] [recL 0], 1, 1, (0, 0), List.replicate 8 [], recL 0, by decide +kernel⟩⟩
theorem wit_receptionAborts_1 :
    (∃ (s : State) (band : Nat) (p : Nat) (n : Nat) (r : Reception), s.blk.running = true ∧ p < 4 ∧ s.blk.frozen band p = true ∧ max 1
      (s.blk.satLimit band p) ≤ n ∧ ((∀ q ∈ r.ports, q < 4)) ∧ s.blk.phy.rx.filter (fun r => r.band == band && r.ports.contains p &&
      r.stage != 3 && !r.paused) = [r]) ∧
    (∃ (s : State) (band : Nat) (p : Nat) (n : Nat), s.blk.running = true ∧ p < 4 ∧ s.blk.frozen band p = true ∧ max 1 (s.blk.satLimit
      band p) ≤ n ∧ s.blk.phy.rx.filter (fun r => r.band == band && r.ports.contains p && r.stage != 3 && !r.paused) = []) ∧
    (∃ (s : State) (band : Nat) (p : Nat) (n : Nat), (s.blk.frozen band p = false ∨ n < max 1 (s.blk.satLimit band p))) ∧
    (∃ (s : State) (band : Nat) (p : Nat) (k : Nat) (erased : Nat) (code : Nat × Nat) (r : Reception), s.blk.running = true ∧
      (s.blk.receptionAt band p 1 code).or (s.blk.receptionAt band p 2 code) = some r ∧ s.blk.tooErased r k erased = true) :=
  ⟨⟨listenL [(R.LFE_STAT_AGC_FROZEN_L 1, 1)] [recL 1], 1, 1, 1, recL 1, by decide +kernel⟩,
    ⟨listenL [(R.LFE_STAT_AGC_FROZEN_L 1, 1)] [], 1, 1, 1, by decide +kernel⟩,
    ⟨listenL [] [recL 1], 1, 1, 1, by decide +kernel⟩,
    ⟨listenL [(R.PHY_DET_COUNT, 0)] [recL 1], 1, 1, 0, 544, (0, 0), recL 1, by decide +kernel⟩⟩
theorem wit_receptionAborts_2 :
    (∃ (s : State) (band : Nat) (p : Nat) (k : Nat) (erased : Nat) (code : Nat × Nat) (r : Reception), (s.blk.receptionAt band p 1
      code).or (s.blk.receptionAt band p 2 code) = some r ∧ s.blk.tooErased r k erased = false) ∧
    (∃ (s : State) (band : Nat) (p : Nat) (code : Nat × Nat) (r : Reception), s.blk.running = true ∧ s.blk.receptionAt band p 2 code =
      some r ∧ r.erased = true ∧ r.hdr.ftype ≠ 4 ∧ ((∀ q ∈ r.ports, q < 4))) :=
  ⟨⟨listenL [(R.PHY_DET_COUNT, 0)] [recL 1], 1, 1, 1, 544, (0, 0), recL 1, by decide +kernel⟩,
    ⟨rxAt { rec_ 2 { ftype := 1 } with erased := true }, 0, 0, (0, 0), { rec_ 2 { ftype := 1 } with erased := true },
      by decide +kernel⟩⟩
theorem wit_headersAndSegments_1 :
    (∃ (s : State) (band : Nat) (p : Nat) (code : Nat × Nat) (soft : List SoftBit) (r : Reception) (d : Decoded), s.blk.running = true
      ∧ s.blk.receptionAt band p 1 code = some r ∧ ((∀ q ∈ r.ports, q < 4)) ∧ d = s.blk.decodeHeader soft ∧ headerCrcOk (bytesOf 32
      d.bits) = false ∧ (s.blk.phy.rx.erase r).find? (fun x => x.band == band && x.ports.contains p && x.stage == 2 && (!x.collect ||
      x.code == code)) = none) ∧
    (∃ (s : State) (band : Nat) (p : Nat) (code : Nat × Nat) (soft : List SoftBit) (r : Reception) (h : Header), s.blk.running = true ∧
      s.blk.receptionAt band p 1 code = some r ∧ headerCrcOk (bytesOf 32 (s.blk.decodeHeader soft).bits) = true ∧ h = Header.decode
      (bytesOf 32 (s.blk.decodeHeader soft).bits) ∧ headerCause h ((s.blk.profile band p).getD 7) r.collect = 0 ∧ s.blk.tooManyStreams
      h = false ∧ s.blk.filterKeeps h = true) ∧
    (∃ (s : State) (band : Nat) (p : Nat) (code : Nat × Nat) (soft : List SoftBit) (r : Reception) (h : Header), s.blk.running = true ∧
      s.blk.receptionAt band p 1 code = some r ∧ ((∀ q ∈ r.ports, q < 4)) ∧ headerCrcOk (bytesOf 32 (s.blk.decodeHeader soft).bits) =
      true ∧ h = Header.decode (bytesOf 32 (s.blk.decodeHeader soft).bits) ∧ headerCause h ((s.blk.profile band p).getD 7) r.collect =
      0 ∧ s.blk.tooManyStreams h = false ∧ s.blk.filterKeeps h = false ∧ (s.blk.phy.rx.erase r).find? (fun x => x.band == band &&
      x.ports.contains p && x.stage == 2 && (!x.collect || x.code == code)) = none) ∧
    (∃ (s : State) (band : Nat) (p : Nat) (code : Nat × Nat) (soft : List SoftBit) (r : Reception) (h : Header), s.blk.running = true ∧
      s.blk.receptionAt band p 1 code = some r ∧ ((∀ q ∈ r.ports, q < 4)) ∧ headerCrcOk (bytesOf 32 (s.blk.decodeHeader soft).bits) =
      true ∧ h = Header.decode (bytesOf 32 (s.blk.decodeHeader soft).bits) ∧ headerCause h ((s.blk.profile band p).getD 7) r.collect ≠
      0 ∧ (s.blk.phy.rx.erase r).find? (fun x => x.band == band && x.ports.contains p && x.stage == 2 && (!x.collect || x.code ==
      code)) = none) :=
  ⟨⟨rxAt (rec_ 1) [(R.PHY_DEC_ITER, 1)], 0, 0, (0, 0), softOf (headerBits (1 :: ackTo 9)), rec_ 1, (rxAt (rec_ 1) [(R.PHY_DEC_ITER,
      1)]).blk.decodeHeader (softOf (headerBits (1 :: ackTo 9))), by decide +kernel, by decide +kernel, by decide +kernel, rfl,
      by decide +kernel, by decide +kernel⟩,
    ⟨rxAt (rec_ 1) [(R.PHY_DEC_ITER, 1)], 0, 0, (0, 0), softOf (headerBits (ackTo 9)), rec_ 1, Header.decode (ackTo 9),
      by decide +kernel⟩,
    ⟨rxAt (rec_ 1) [(R.PHY_DEC_ITER, 1)], 0, 0, (0, 0), softOf (headerBits (ackTo 8)), rec_ 1, Header.decode (ackTo 8),
      by decide +kernel⟩,
    ⟨rxAt (rec_ 1) [(R.PHY_DEC_ITER, 1)], 0, 0, (0, 0), softOf (headerBits ({ ftype := 8, dst := 9 } : Header).encode), rec_ 1,
      { ftype := 8, dst := 9 }, by decide +kernel⟩⟩
theorem wit_headersAndSegments_2 :
    (∃ (s : State) (band : Nat) (p : Nat) (soft : List SoftBit) (r : Reception) (f : FollowOn) (bytes : List Byte), s.blk.running =
      true ∧ s.blk.receptionAt band p 2 (0, 0) = some r ∧ r.expectsFollow = true ∧ bytes = bytesOf 10 (decodeCopies (s.blk.get
      R.PHY_DEC_ITER) 24 0 (modeRep r.hdr.mode) 80 r.hdr.control (s.blk.gateData r) soft).bits ∧ f = FollowOn.decode bytes ∧
      followCrcOk bytes = true ∧ 0 < f.len ∧ f.len ≤ 4096 ∧ (match r.parts.getLast? with | some x => x.ctr | none => r.hdr.ctr) <
      f.ctr) ∧
    (∃ (s : State) (band : Nat) (p : Nat) (soft : List SoftBit) (r : Reception), s.blk.running = true ∧ s.blk.receptionAt band p 2 (0,
      0) = some r ∧ r.expectsFollow = true ∧ ((∀ q ∈ r.ports, q < 4)) ∧ followCrcOk (bytesOf 10 (decodeCopies (s.blk.get
      R.PHY_DEC_ITER) 24 0 (modeRep r.hdr.mode) 80 r.hdr.control (s.blk.gateData r) soft).bits) = false) ∧
    (∃ (s : State) (band : Nat) (p : Nat) (window : List Lane) (r : Reception), s.blk.running = true ∧ s.blk.receptionAt band p 2 (0,
      0) = some r ∧ r.seg + 1 < r.hdr.span ∧ ((∀ q ∈ r.ports, q < 4)) ∧ (s.blk.listens band p = false ∨ s.blk.findsSegment band window
      = false)) ∧
    (∃ (s : State) (band : Nat) (p : Nat) (window : List Lane) (r : Reception), s.blk.running = true ∧ s.blk.receptionAt band p 2 (0,
      0) = some r ∧ r.seg + 1 < r.hdr.span ∧ ((∀ q ∈ r.ports, q < 4)) ∧ s.blk.listens band p = true ∧ s.blk.findsSegment band window =
      true) :=
  ⟨⟨rxAt train1 [(R.PHY_DEC_ITER, 1)], 0, 0, softOf (ldpcEncode 24 0 (bitsOf follow8)), train1,
      { len := 2, ctr := 8, ackReq := false, sec := false, epoch := 0, more := false }, follow8, by decide +kernel⟩,
    ⟨rxAt train1 [(R.PHY_DEC_ITER, 1)], 0, 0, softOf (ldpcEncode 24 0 (bitsOf (1 :: follow8))), train1, by decide +kernel⟩,
    ⟨rxAt (rec_ 2 { span := 2 }), 0, 0, [], rec_ 2 { span := 2 }, by decide +kernel⟩,
    ⟨listenL [] [{ recL 2 with hdr := { span := 2 } }], 1, 1, segmentL, { recL 2 with hdr := { span := 2 } }, by decide +kernel⟩⟩
theorem wit_frameEnd :
    (∃ (s : State) (band : Nat) (p : Nat) (code : Nat × Nat) (rep : RxReport) (r : Reception) (l : List (RxPart × Decoded)),
      s.blk.running = true ∧ (s.blk.receptionAt band p 2 code).or (s.blk.receptionAt band p 3 code) = some r ∧ ((∀ q ∈ r.ports, q < 4))
      ∧ l = s.blk.decodeReception r rep.bits ∧ (r.stage = 3 ∨ r.erased = false ∧ l.any (s.blk.frameErased r.hdr) = false) ∧
      (l.head?.map (fun e => e.1.ok)) = some true) ∧
    (∃ (s : State) (band : Nat) (p : Nat) (code : Nat × Nat) (rep : RxReport) (r : Reception) (l : List (RxPart × Decoded)),
      s.blk.running = true ∧ (s.blk.receptionAt band p 2 code).or (s.blk.receptionAt band p 3 code) = some r ∧ ((∀ q ∈ r.ports, q < 4))
      ∧ l = s.blk.decodeReception r rep.bits ∧ (r.stage = 3 ∨ r.erased = false ∧ l.any (s.blk.frameErased r.hdr) = false) ∧
      (l.head?.map (fun e => e.1.ok)) = some false) :=
  ⟨⟨rxAt (rec_ 2 { ftype := 2, src := 5 }) [(R.PHY_DEC_ITER, 1)], 0, 0, (0, 0), emptyReport, rec_ 2 { ftype := 2, src := 5 }, (rxAt
      (rec_ 2 { ftype := 2, src := 5 }) [(R.PHY_DEC_ITER, 1)]).blk.decodeReception (rec_ 2 { ftype := 2, src := 5 })
      (emptyReport).bits, by decide +kernel, by decide +kernel, by decide +kernel, rfl, by decide +kernel, by decide +kernel⟩,
    ⟨rxAt (rec_ 3 { ftype := 1, src := 5, len := 1 }) [(R.PHY_DEC_ITER, 1)], 0, 0, (0, 0), badReport, rec_ 3
      { ftype := 1, src := 5, len := 1 }, (rxAt (rec_ 3 { ftype := 1, src := 5, len := 1 }) [(R.PHY_DEC_ITER, 1)]).blk.decodeReception
      (rec_ 3 { ftype := 1, src := 5, len := 1 }) (badReport).bits, by decide +kernel, by decide +kernel, by decide +kernel, rfl,
      by decide +kernel, by decide +kernel⟩⟩
theorem wit_lineCapture_1 :
    (∃ (s : State) (trig : Nat), (s.blk.mode = 4 ∨ s.blk.mode = 6 ∨ s.blk.mode = 7 ∨ s.blk.mode = 10) ∧ 1 ≤ trig ∧ trig ≤ 5 ∧ s.blk.get
      R.PHY_CAP_STAT_STATE ≠ 2) ∧
    (∃ (s : State) (trig : Nat), s.blk.reachable = true ∧ trig ≤ 5 ∧ (¬(s.blk.mode = 4 ∨ s.blk.mode = 6 ∨ s.blk.mode = 7 ∨ s.blk.mode =
      10))) ∧
    (∃ (s : State) (kind : Nat), s.blk.running = true ∧ s.blk.get R.PHY_CAP_STAT_STATE = 1 ∧ s.blk.get R.PHY_CAP_CTRL_TRIG = kind) ∧
    (∃ (s : State), s.blk.reachable = true ∧ (s.blk.get R.PHY_CAP_STAT_STATE = 1 ∨ s.blk.get R.PHY_CAP_STAT_STATE = 2)) :=
  ⟨⟨inMode 6, 3, by decide +kernel⟩,
    ⟨inMode 3, 3, by decide +kernel⟩,
    ⟨inMode 6 [(R.PHY_CAP_STAT_STATE, 1), (R.PHY_CAP_CTRL_TRIG, 4)], 4, by decide +kernel⟩,
    ⟨inMode 6 [(R.PHY_CAP_STAT_STATE, 1), (R.PHY_CAP_CTRL_TRIG, 4)], by decide +kernel⟩⟩
theorem wit_lineCapture_2 :
    ∃ (s : State), s.blk.running = true ∧ s.blk.get R.PHY_CAP_STAT_STATE = 2 :=
  ⟨inMode 6 [(R.PHY_CAP_STAT_STATE, 2)], by decide +kernel⟩

/-! The MAC: beacons and TIMING frames. -/

/-- A node on a grid in mode `m`, its first port on Band H, permitted to send; CONTENTION and BEACON slots throughout. -/
def gridNode (m : Nat) (l : List (Field × Nat)) (f : Block → Block := id) : State :=
  inMode m ([(R.MAC_ADDR_SHORT, 9), (R.MAC_BUDGET_H, 1000000), (R.MAC_BUDGET_L, 1000000), (R.GLB_GRID_N, 250), (R.MAC_GRID_MAP_LEN, 1),
    (R.MAC_GRID_BP_CYCLES, 1), (R.LFE_CFG_H_PROFILE 0, 0), (R.LFE_STAT_PHASE_PRESENT 0, 1), (R.PWR_GATES_DRV_H, 15),
    (R.PHY_LADDER_H 0, 64)] ++ l)
    (fun b => f { b with grid := { b.grid with cur := some ⟨100, 0, 20000000 * 65536⟩ } })
/-- A full beacon of one row: GRID_FREE, BP_CYCLES 3, PERIOD_REV 6, MAP_SEQ 0x0102, BEACON in slot 0. -/
def beacon1 : List Byte := [1, 2, 3, 0, 6, 0, 0, 0] ++ List.replicate 8 0 ++ [0, 0, 0, 0, 1, 1, 2, 1] ++ [1, 0, 0, 0, 0, 0, 0, 0]
def part (l : List Byte) : RxPart := { ctr := 7, ackReq := false, sec := false, epoch := 0, payload := l, ok := true, len := l.length }
def heardAs (h : Header) (l : List Byte) : Delivered := ⟨0, 0, h, [part l], 2560, { stamp := some 77 }, 0⟩
def rxNode (m : Nat) (d : Delivered) (l : List (Field × Nat) := []) (f : Block → Block := id) : State :=
  gridNode m ([(R.MSH_STAT_ROLE, 1), (R.TIM_PARENT_PARENT, 5)] ++ l) (fun b => f { b with phy := { b.phy with delivered := [d] } })
/-- The first delivered frame of some types, taken. -/
def took (sel : Delivered → Bool) (b : Block) : Delivered × Block := (b.takeDelivered sel).getD (⟨0, 0, {}, [], 0, {}, 0⟩, b)
/-- What a delivered first frame of some types comes to: its plain payload, where it is new. -/
def opened (sel : Delivered → Bool) (pos0 : Bool) (cls : Nat) (b : Block) : Option (List Byte) :=
  match b.takeDelivered sel with
  | some (d, b1) => match d.parts with
    | x :: _ => match b1.openPart d.hdr x false with
      | (some (pl, _), b2) =>
        if (b2.dupCheck d.hdr.src cls x.ctr x.epoch (match (b1.openPart d.hdr x false).1 with | some p => p.2 | none => 0) pos0).1 = .accept
        then some pl else none
      | _ => none
    | [] => none
  | none => none
/-- A request of node 6, and a TIMING frame that is too short. -/
def timingPl : List Byte := [1, 0, 9, 0] ++ List.replicate 20 0
def timing1 : Delivered := heardAs { ftype := 4, src := 6 } timingPl
def timing2 : Delivered := heardAs { ftype := 4, src := 6 } [1, 2, 3]
/-- The head-end's next values, and a beacon mode of spreading exponent 8, with which only a short beacon fits its slot. -/
def slowBeacon : State := gridNode 6 [(R.MAC_ROW_H 0, 1)] (fun b => (b.setGrid { b.grid with next := some ⟨5, 0, 20000000 * 65536⟩ }).setImage
  { b.image with run := some { segs := [⟨7, 0, 0xFF, 0, 0, 0, [], List.replicate 0x1A 0 ++ [0, 1]⟩] } })

theorem test_beaconTx_full : let g : GridVals := ⟨5, 0, 20000000 * 65536⟩;
    let s := gridNode 6 [(R.MAC_ROW_H 0, 0x11111111)] (fun b => b.setGrid { b.grid with next := some g });
    s.blk.running = true ∧ s.blk.mayTransmit = true ∧ s.blk.hasGrid = true ∧ s.blk.forbidden 0 = false ∧ s.blk.role = 0 ∧
    s.blk.grid.periodIndex % max 1 s.blk.grid.fullEvery = 0 ∧
    s.blk.fitsRun (s.blk.beaconFrame (s.blk.beaconBytes g)) 1 = true ∧
    ((after .beaconTx s).blk.mac.ready.map (fun f => leAt f.payload 4 4)) = [5] := by decide +kernel
theorem test_beaconTx_short : let s := gridNode 6 [(R.MAC_ROW_H 0, 0x11111111)]; s.blk.grid.next = none ∧
    s.blk.fitsRun (s.blk.beaconFrame []) 1 = true ∧
    ((after .beaconTx s).blk.mac.ready.map (fun f => f.payload)) = [[]] := by decide +kernel
theorem test_beaconTx_lost : (after .beaconTx (gridNode 6 [(R.MAC_BUDGET_H, 0), (R.MAC_ROW_H 0, 0x11111111)])).blk.get
    R.MAC_SLOT_LOST_COUNT = 1 := by decide +kernel
theorem test_beaconRx : let d := heardAs { ftype := 0, src := 5 } beacon1; let s := rxNode 6 d;
    s.blk.running = true ∧ s.blk.mode ≠ 4 ∧ s.blk.mode ≠ 5 ∧ s.blk.phy.delivered.find? (fun d => d.hdr.ftype == 0) = some d ∧
    beaconOk beacon1 = true ∧ d.hdr.net = s.blk.netId ∧ s.blk.get R.MAC_STAT_STATE ≠ 4 ∧ s.blk.macParent d.hdr.src = true ∧ s.blk.oneWayOpen = false ∧
    (after .beaconRx s).blk.grid.next = some ⟨6, 0, 0⟩ ∧ (after .beaconRx s).blk.grid.nextSeq = 0x0102 ∧
    (after .beaconRx s).blk.get R.GLB_GRID_GRID_FREE = 1 := by decide +kernel
theorem test_timingRequestTx : let s := rxNode 6 (heardAs {} []); s.blk.get R.TIM_PARENT_PARENT ≠ 0 ∧ s.blk.role ≠ 0 ∧
    s.blk.mayTransmit = true ∧ s.blk.hasGrid = true ∧ s.blk.forbidden s.blk.timingBand = false ∧
    ((after .timingRequestTx s).blk.mac.ready.map (fun f => (f.hdr.dst, leAt f.payload 0 1))) = [(5, 1)] := by decide +kernel
theorem test_timingReplyTx : let s := rxNode 6 (heardAs {} []) [] (fun b => b.modPeer 6 (fun p => { p with echo := some 3 }));
    (s.blk.time.peers.find? (fun e => e.2.echo.isSome)).isSome = true ∧ s.blk.mayTransmit = true ∧
    s.blk.forbidden (bits (Tab.get 0 s.blk.mac.heardOn 6 - 1) 2 1) = false ∧
    ((after .timingReplyTx s).blk.mac.ready.map (fun f => (f.hdr.dst, leAt f.payload 0 1, leAt f.payload 2 2))) = [(6, 2, 3)] := by
  decide +kernel
theorem test_timingRx : let d := heardAs { ftype := 4, src := 6 } ([1, 0, 9, 0] ++ List.replicate 20 0); let s := rxNode 6 d;
    opened (fun d => d.hdr.ftype == 4) true 1 s.blk = some ([1, 0, 9, 0] ++ List.replicate 20 0) ∧
    (s.blk.peerTime 6).sent = none ∧ ((after .timingRx s).blk.peerTime 6).echo = some 9 ∧ ((after .timingRx s).blk.peerTime 6).lastRx = some 77 := by decide +kernel

/-! Witnesses: for each clause of the statements above with hypotheses, a state and operands that meet them all. -/

theorem wit_beaconSent :
    (∃ (s : State) (g : GridVals), s.blk.running = true ∧ s.blk.mayTransmit = true ∧ s.blk.hasGrid = true ∧ s.blk.beaconSlot = true ∧
      s.blk.forbidden 0 = false ∧ (s.blk.role = 0 ∧ s.blk.grid.periodIndex % max 1 s.blk.grid.fullEvery = 0 ∨ s.blk.role ≠ 0 ∧
      s.blk.role ≠ 2 ∧ s.blk.get R.MAC_STAT_STATE ≠ 4 ∧ s.blk.flag R.MAC_TROUBLE_BEACON_LOST = false) ∧ s.blk.grid.next = some g ∧
      s.blk.fitsRun (s.blk.beaconFrame (s.blk.beaconBytes g)) 1 = true) ∧
    (∃ (s : State), s.blk.running = true ∧ s.blk.mayTransmit = true ∧ s.blk.hasGrid = true ∧ s.blk.beaconSlot = true ∧ s.blk.forbidden
      0 = false ∧ (s.blk.role = 0 ∧ (s.blk.grid.periodIndex % max 1 s.blk.grid.fullEvery ≠ 0 ∨ s.blk.grid.next = none) ∨ s.blk.role ≠ 0
      ∧ s.blk.role ≠ 2 ∧ s.blk.get R.MAC_STAT_STATE ≠ 4 ∧ s.blk.flag R.MAC_TROUBLE_BEACON_LOST = false ∧ s.blk.grid.next = none) ∧
      s.blk.fitsRun (s.blk.beaconFrame []) 1 = true) ∧
    (∃ (s : State) (g : GridVals), s.blk.running = true ∧ s.blk.mayTransmit = true ∧ s.blk.hasGrid = true ∧ s.blk.beaconSlot = true ∧
      s.blk.forbidden 0 = false ∧ (s.blk.role = 0 ∧ s.blk.grid.periodIndex % max 1 s.blk.grid.fullEvery = 0 ∨ s.blk.role ≠ 0 ∧
      s.blk.role ≠ 2 ∧ s.blk.get R.MAC_STAT_STATE ≠ 4 ∧ s.blk.flag R.MAC_TROUBLE_BEACON_LOST = false) ∧ s.blk.grid.next = some g ∧
      s.blk.fitsRun (s.blk.beaconFrame (s.blk.beaconBytes g)) 1 = false ∧ s.blk.fitsRun (s.blk.beaconFrame []) 1 = true) ∧
    (∃ (s : State), s.blk.running = true ∧ s.blk.mayTransmit = true ∧ s.blk.hasGrid = true ∧ s.blk.beaconSlot = true ∧ s.blk.forbidden
      0 = true ∧ s.blk.role ≠ 2) :=
  ⟨⟨gridNode 6 [(R.MAC_ROW_H 0, 0x11111111)] (fun b => b.setGrid { b.grid with next := some ⟨5, 0, 20000000 * 65536⟩ }), ⟨5, 0,
      20000000 * 65536⟩, by decide +kernel⟩,
    ⟨gridNode 6 [(R.MAC_ROW_H 0, 0x11111111)], by decide +kernel⟩,
    ⟨slowBeacon, ⟨5, 0, 20000000 * 65536⟩, by decide +kernel⟩,
    ⟨gridNode 6 [(R.MAC_BUDGET_H, 0), (R.MAC_ROW_H 0, 0x11111111)], by decide +kernel⟩⟩
theorem wit_beaconAdopted :
    (∃ (s : State) (d : Delivered) (x : RxPart) (l : List RxPart), s.blk.running = true ∧ s.blk.mode ≠ 4 ∧ s.blk.mode ≠ 5 ∧
      s.blk.phy.delivered.find? (fun d => d.hdr.ftype == 0) = some d ∧ d.parts = x :: l ∧ x.payload ≠ [] ∧ beaconOk x.payload = true ∧
      d.hdr.net = s.blk.netId ∧ s.blk.get R.MAC_STAT_STATE ≠ 4 ∧ s.blk.macParent d.hdr.src = true ∧ s.blk.oneWayOpen = false) ∧
    (∃ (s : State) (d : Delivered) (x : RxPart) (l : List RxPart), s.blk.running = true ∧ s.blk.mode = 4 ∧ s.blk.phy.delivered.find?
      (fun d => d.hdr.ftype == 0) = some d ∧ d.parts = x :: l ∧ x.payload ≠ [] ∧ beaconOk x.payload = true ∧ d.hdr.net = s.blk.netId ∧
      (leAt x.payload 1 1).testBit 0 = true ∧ leAt x.payload 3 1 < 32 ∧ s.blk.macParent d.hdr.src = false) ∧
    (∃ (s : State) (d : Delivered) (x : RxPart) (l : List RxPart), s.blk.running = true ∧ s.blk.phy.delivered.find? (fun d =>
      d.hdr.ftype == 0) = some d ∧ d.parts = x :: l ∧ x.payload ≠ [] ∧ beaconOk x.payload = false) :=
  ⟨⟨rxNode 6 (heardAs { ftype := 0, src := 5 } beacon1), heardAs { ftype := 0, src := 5 } beacon1, part beacon1, [],
      by decide +kernel⟩,
    ⟨rxNode 4 (heardAs { ftype := 0, src := 6 } (1 :: 1 :: beacon1.drop 2)), heardAs { ftype := 0, src := 6 } (1 :: 1 :: beacon1.drop
      2), part (1 :: 1 :: beacon1.drop 2), [], by decide +kernel⟩,
    ⟨rxNode 6 (heardAs { ftype := 0, src := 5 } (2 :: beacon1)), heardAs { ftype := 0, src := 5 } (2 :: beacon1), part (2 :: beacon1),
      [], by decide +kernel⟩⟩
theorem wit_timingFrames :
    (∃ (s : State), s.blk.running = true ∧ s.blk.get R.TIM_PARENT_PARENT ≠ 0 ∧ s.blk.role ≠ 0 ∧ s.blk.mayTransmit = true ∧
      s.blk.hasGrid = true ∧ s.blk.forbidden s.blk.timingBand = false) ∧
    (∃ (s : State), s.blk.running = true ∧ s.blk.get R.TIM_PARENT_PARENT ≠ 0 ∧ s.blk.role ≠ 0 ∧ s.blk.mayTransmit = true ∧
      s.blk.hasGrid = true ∧ s.blk.forbidden s.blk.timingBand = true) ∧
    (∃ (s : State) (peer : Nat) (pt : PeerTime), s.blk.running = true ∧ s.blk.time.peers.find? (fun e => e.2.echo.isSome) = some (peer,
      pt) ∧ s.blk.mayTransmit = true ∧ s.blk.forbidden (bits (Tab.get 0 s.blk.mac.heardOn peer - 1) 2 1) = false) ∧
    (∃ (s : State) (d : Delivered) (b1 : Block) (b2 : Block) (b3 : Block) (x : RxPart) (l : List RxPart) (pl : List Byte) (tag : Nat),
      s.blk.running = true ∧ s.blk.takeDelivered (fun d => d.hdr.ftype == 4) = some (d, b1) ∧ d.parts = x :: l ∧ b1.openPart d.hdr x
      false = (some (pl, tag), b2) ∧ b2.dupCheck d.hdr.src 1 x.ctr x.epoch tag true = (.accept, b3) ∧ pl.length = 24 ∧ leAt pl 0 1 = 1
      ∧ stamp64Ok (leAt pl 4 8) = true ∧ stamp64Ok d.hdr.timing = true ∧ ((leAt pl 1 1).testBit 2 = true ∨ (s.blk.peerTime
      d.hdr.src).sent = none)) ∧
    (∃ (s : State) (d : Delivered) (b1 : Block) (b2 : Block) (b3 : Block) (x : RxPart) (l : List RxPart) (pl : List Byte) (tag : Nat),
      s.blk.running = true ∧ s.blk.takeDelivered (fun d => d.hdr.ftype == 4) = some (d, b1) ∧ d.parts = x :: l ∧ b1.openPart d.hdr x
      false = (some (pl, tag), b2) ∧ b2.dupCheck d.hdr.src 1 x.ctr x.epoch tag true = (.accept, b3) ∧ (pl.length ≠ 24 ∨ leAt pl 0 1 ≠ 1
      ∧ leAt pl 0 1 ≠ 2 ∨ stamp64Ok (leAt pl 4 8) = false ∨ stamp64Ok d.hdr.timing = false)) :=
  ⟨⟨rxNode 6 (heardAs {} []), by decide +kernel⟩,
    ⟨rxNode 6 (heardAs {} []) [(R.MAC_BUDGET_H, 0)], by decide +kernel⟩,
    ⟨rxNode 6 (heardAs {} []) [] (fun b => b.modPeer 6 (fun p => { p with echo := some 3 })), 6, ((rxNode 6 (heardAs {} []) [] (fun b
      => b.modPeer 6 (fun p => { p with echo := some 3 }))).blk.peerTime 6), by decide +kernel⟩,
    ⟨rxNode 6 timing1, timing1, (took (fun d => d.hdr.ftype == 4) (rxNode 6 timing1).blk).2, ((took (fun d => d.hdr.ftype == 4) (rxNode
      6 timing1).blk).2), ((((took (fun d => d.hdr.ftype == 4) (rxNode 6 timing1).blk).2)).dupCheck 6 1 7 0 (crc32 timingPl) true).2,
      part timingPl, [], timingPl, crc32 timingPl, by decide +kernel⟩,
    ⟨rxNode 6 timing2, timing2, (took (fun d => d.hdr.ftype == 4) (rxNode 6 timing2).blk).2, ((took (fun d => d.hdr.ftype == 4) (rxNode
      6 timing2).blk).2), ((((took (fun d => d.hdr.ftype == 4) (rxNode 6 timing2).blk).2)).dupCheck 6 1 7 0 (crc32 [1, 2, 3]) true).2,
      part [1, 2, 3], [], [1, 2, 3], crc32 [1, 2, 3], by decide +kernel⟩⟩

/-! The MAC: access, delivery, acknowledgement. -/

def dataTo (dst : Nat) (kind : TxKind := .other) : TxFrame :=
  { band := 0, kind := kind, hdr := { ftype := 1, mode := 64, dst := dst, cls := 1 }, port := some 0, payload := [1, 2] }
def orderNode (f : TxFrame) (count : Option Nat) (m : Nat := 6) : State :=
  gridNode m [(R.MAC_RUN_MAX, 1000), (R.GLB_GRID_SLOT, 0)]
    (fun b => b.setMac { b.mac with order := [f], access := [{ count := count }, {}] })
/-- A command for node 9 from node 5: code 0x24. -/
def cmdPayload : List Byte := [9, 0, 5, 0, 0, 0, 0x24, 0]
def waitFor (ba : Bool) : Waiting := ⟨{ dataTo 5 with hdr := { ftype := 1, mode := 64, dst := 5, cls := if ba then 0 else 1, ctr := 7 } }, ba, 0, 0⟩
def waitNode (w : Waiting) (d : Delivered) : State := rxNode 6 d [(R.MAC_ACCESS_RETRY_LIMIT, 1)] (fun b => b.setMac { b.mac with waiting := [w] })
def askPart (l : List Byte) : RxPart := { part l with ackReq := true }
def dataTypes (d : Delivered) : Bool := d.hdr.ftype == 1 || d.hdr.ftype == 5
def data1 : Delivered := ⟨0, 0, { ftype := 1, src := 5, dst := 9, ackReq := true, cls := 1 }, [askPart []], 2560, {}, 0⟩
def data0 : Delivered := ⟨0, 0, { ftype := 1, src := 5, dst := 9, ackReq := true, cls := 0 }, [askPart []], 2560, {}, 0⟩
def cmd1 : Delivered := heardAs { ftype := 5, src := 5, dst := 9, cls := 1 } cmdPayload
def userPl : List Byte := [9, 0, 5, 0, 0, 0, 1, 2, 3]
def user1 : Delivered := heardAs { ftype := 1, src := 5, dst := 9, cls := 1 } userPl
def orderTwo : State := gridNode 6 [(R.MAC_RUN_MAX, 1000)] (fun b => b.setMac { b.mac with order := [dataTo 5 .ack, dataTo 4 .ack] })
def baNode (count : Option Nat) (reply : Bool) (m : Nat) : State := gridNode m [(R.MAC_RUN_MAX, 1000)]
  (fun b => b.setMac { b.mac with order := [dataTo 5 .blockAck], access := [{ count := count, forReply := reply, runFrom := some 0 }, {}] })
def ba1Pl : List Byte := [7, 0, 0, 0, 0, 0, 0, 0]
def ba1 : Delivered := heardAs { ftype := 3, src := 5 } ba1Pl
def at80 (s : State) : State := { s with blk := s.blk.set R.GLB_TICK 80 }

theorem test_contentionAccess : let t := after (.contentionAccess 0 ⟨0, 0, 0⟩) (orderNode (dataTo 5) (some 0));
    (t.blk.mac.ready.map (fun f => f.hdr.dst)) = [5] ∧ t.blk.mac.order = [] := by decide +kernel
theorem test_contentionAccess_count : let s := orderNode (dataTo 5) (some 3);
    ((after (.contentionAccess 0 ⟨0, 0, 0⟩) s).blk.access 0).count = some 2 ∧ (after (.contentionAccess 0 ⟨0, 0, 0⟩) s).blk.mac.ready = [] := by
  decide +kernel
theorem test_dataRx_ack : ((after (.dataRx 1) (rxNode 6 data1)).blk.mac.order.map (fun f => (f.kind, f.hdr.dst, f.hdr.ctr))) =
    [(.ack, 5, 7)] := by decide +kernel
theorem test_dataRx_command : let d := heardAs { ftype := 5, src := 5, dst := 9, cls := 1 } cmdPayload; let s := rxNode 6 d;
    opened (fun d => d.hdr.ftype == 1 || d.hdr.ftype == 5) true 1 s.blk = some cmdPayload ∧ leAt cmdPayload 0 2 = s.blk.short ∧
    groupAddr s.blk.short = false ∧ commandCode (leAt cmdPayload 6 1) = true ∧
    (after (.dataRx 1) s).blk.mac.commands = [⟨0x24, 5, 5, 0, 0, []⟩] := by decide +kernel
theorem test_ackTx : let f := dataTo 5 .ack; let s := orderNode f none;
    s.blk.mac.order.filter (fun f => f.kind == .ack && f.band == 0) = [f] ∧ s.blk.replyOk f = true ∧
    ((after (.ackTx 0) s).blk.mac.ready.map (fun f => f.hdr.dst)) = [5] := by decide +kernel
theorem test_ackTx_blocked : let f := dataTo 5 .ack; let s := orderNode f none 10;
    s.blk.mac.order.filter (fun f => f.kind == .ack && f.band == 0) = [f] ∧ s.blk.mayTransmit = false ∧
    (after (.ackTx 0) s).blk.get R.MAC_REPLY_BLOCKED_COUNT = 1 := by decide +kernel
/-- R264: the FRAMES mask of a run whose counter 7 came alone. -/
theorem test_blockAckTx : ((after (.blockAckTx ⟨0, 0⟩) (baNode (some 0) true 6)).blk.mac.ready.map (fun f => f.kind)) = [.blockAck] := by
  decide +kernel
theorem test_blockAckTx_blocked : (after (.blockAckTx ⟨0, 0⟩) (baNode none false 10)).blk.get R.MAC_REPLY_BLOCKED_COUNT = 1 := by decide +kernel
theorem test_ackRx : let w := waitFor false; let d := heardAs { ftype := 2, src := 5, ctr := 7 } []; let s := waitNode w d;
    (s.blk.takeDelivered (fun d => d.hdr.ftype == 2)).isSome = true ∧
    s.blk.mac.waiting.find? (fun w => !w.blockAck && w.frame.hdr.dst == d.hdr.src && w.frame.counters.contains d.hdr.ctr) = some w ∧
    w.frame.counters.getLast? = some 7 ∧ (after .ackRx s).blk.mac.waiting = [] := by decide +kernel
theorem test_ackTimeout : let s := at80 (waitNode (waitFor false) (heardAs {} []));
    ((after (.ackTimeout 0) s).blk.mac.order.map (fun f => f.retries)) = [1] ∧
    (after (.ackTimeout 0) (waitNode (waitFor false) (heardAs {} []))).blk.mac.order = [] := by decide +kernel
theorem test_blockAckRx : let w := waitFor true; let d := heardAs { ftype := 3, src := 5 } [7, 0, 0, 0, 0, 0, 0, 0]; let s := waitNode w d;
    opened (fun d => d.hdr.ftype == 3) true 1 s.blk = some [7, 0, 0, 0, 0, 0, 0, 0] ∧
    s.blk.mac.waiting.find? (fun w => w.blockAck && w.frame.hdr.dst == d.hdr.src) = some w ∧
    w.frame.counters.getLast? = some 7 ∧ (after .blockAckRx s).blk.mac.waiting = [] := by decide +kernel
theorem test_blockAckTimeout : let s := waitNode { waitFor true with anchors := 1 } (heardAs {} []);
    ((after (.blockAckTimeout 0) s).blk.mac.order.map (fun f => f.retries)) = [1] := by decide +kernel

/-! Deliveries that ask for an acknowledgement, a command, and user data; a node with an acknowledgement to send. -/

/-! Witnesses: for each clause of the statements above with hypotheses, a state and operands that meet them all. -/

theorem wit_contentionAccess :
    (∃ (s : State) (band : Nat) (f : TxFrame) (g : TxFrame), s.blk.running = true ∧ s.blk.syncOrder = s.blk ∧ (s.blk.access
      band).forReply = false ∧ s.blk.mac.order.find? (fun f => f.band == band && f.kind == .other && !s.blk.peerBusy f &&
      s.blk.queueTurn f) = some f ∧ f.final = 0 ∧ g = (s.blk.remode f).1 ∧ s.blk.tooLong g = false ∧ s.blk.permitted g = true ∧
      s.blk.budgetOk g = true ∧ (s.blk.access band).count = some 0 ∧ s.blk.busy band = false ∧ (if f.band = 0 then (s.blk.portsFor
      g).map Load.drvH else [Load.drvL]).all s.blk.loaded = true) ∧
    (∃ (s : State) (band : Nat) (f : TxFrame) (g : TxFrame), s.blk.running = true ∧ s.blk.syncOrder = s.blk ∧ (s.blk.access
      band).forReply = false ∧ s.blk.mac.order.find? (fun f => f.band == band && f.kind == .other && !s.blk.peerBusy f &&
      s.blk.queueTurn f) = some f ∧ f.final = 0 ∧ f.queue = none ∧ g = (s.blk.remode f).1 ∧ s.blk.tooLong g = false ∧ s.blk.permitted g
      = true ∧ s.blk.budgetOk g = true ∧ (s.blk.access band).count = some 0 ∧ s.blk.busy band = false ∧ (if f.band = 0 then
      (s.blk.portsFor g).map Load.drvH else [Load.drvL]).all s.blk.loaded = true) ∧
    (∃ (s : State) (band : Nat) (n : Nat) (f : TxFrame) (g : TxFrame), s.blk.running = true ∧ s.blk.syncOrder = s.blk ∧ (s.blk.access
      band).forReply = false ∧ s.blk.mac.order.find? (fun f => f.band == band && f.kind == .other && !s.blk.peerBusy f &&
      s.blk.queueTurn f) = some f ∧ f.final = 0 ∧ g = (s.blk.remode f).1 ∧ s.blk.tooLong g = false ∧ s.blk.permitted g = true ∧
      s.blk.budgetOk g = true ∧ (s.blk.access band).count = some (n + 1) ∧ s.blk.busy band = false) ∧
    (∃ (s : State) (band : Nat) (f : TxFrame), s.blk.running = true ∧ s.blk.syncOrder = s.blk ∧ (s.blk.access band).forReply = false ∧
      s.blk.mac.order.find? (fun f => f.band == band && f.kind == .other && !s.blk.peerBusy f && s.blk.queueTurn f) = some f ∧ f.final
      ≠ 0 ∧ f.queue = none ∧ f.hdr.hop ≤ 31 ∧ (s.blk.role = 2 ∧ f.src ≠ 0 ∨ s.blk.nextHop f.final = none)) :=
  ⟨⟨orderNode (dataTo 5) (some 0), 0, dataTo 5, ((orderNode (dataTo 5) (some 0)).blk.remode (dataTo 5)).1, by decide +kernel⟩,
    ⟨orderNode (dataTo 5) (some 0), 0, dataTo 5, ((orderNode (dataTo 5) (some 0)).blk.remode (dataTo 5)).1, by decide +kernel⟩,
    ⟨orderNode (dataTo 5) (some 3), 0, 2, dataTo 5, ((orderNode (dataTo 5) (some 3)).blk.remode (dataTo 5)).1, by decide +kernel⟩,
    ⟨orderNode { dataTo 5 with final := 77 } (some 3), 0, { dataTo 5 with final := 77 }, by decide +kernel⟩⟩
theorem wit_dataDelivered :
    (∃ (s : State) (d : Delivered) (b1 : Block) (b2 : Block) (b3 : Block) (x : RxPart) (tag : Nat), s.blk.running = true ∧
      s.blk.takeDelivered (fun d => d.hdr.ftype == 1 || d.hdr.ftype == 5) = some (d, b1) ∧ d.parts = [x] ∧ b1.openPart d.hdr x false =
      (some ([], tag), b2) ∧ b2.dupCheck d.hdr.src d.hdr.cls x.ctr x.epoch tag true = (.accept, b3) ∧ x.ackReq = true ∧ d.hdr.dst =
      s.blk.short ∧ groupAddr d.hdr.dst = false ∧ d.hdr.cls = 1) ∧
    (∃ (s : State) (d : Delivered) (b1 : Block) (b2 : Block) (b3 : Block) (x : RxPart) (tag : Nat), s.blk.running = true ∧
      s.blk.takeDelivered (fun d => d.hdr.ftype == 1 || d.hdr.ftype == 5) = some (d, b1) ∧ d.parts = [x] ∧ b1.openPart d.hdr x false =
      (some ([], tag), b2) ∧ b2.dupCheck d.hdr.src d.hdr.cls x.ctr x.epoch tag true = (.accept, b3) ∧ x.ackReq = true ∧ d.hdr.dst =
      s.blk.short ∧ groupAddr d.hdr.dst = false ∧ d.hdr.cls = 0) ∧
    (∃ (s : State) (d : Delivered) (b1 : Block) (b2 : Block) (b3 : Block) (x : RxPart) (pl : List Byte) (tag : Nat), s.blk.running =
      true ∧ s.blk.takeDelivered (fun d => d.hdr.ftype == 1 || d.hdr.ftype == 5) = some (d, b1) ∧ d.parts = [x] ∧ b1.openPart d.hdr x
      false = (some (pl, tag), b2) ∧ b2.dupCheck d.hdr.src d.hdr.cls x.ctr x.epoch tag true = (.duplicate, b3) ∧ x.ackReq = true ∧
      d.hdr.dst = s.blk.short ∧ groupAddr d.hdr.dst = false ∧ d.hdr.cls = 1) ∧
    (∃ (s : State) (d : Delivered) (b1 : Block) (b2 : Block) (b3 : Block) (x : RxPart) (pl : List Byte) (tag : Nat), s.blk.running =
      true ∧ s.blk.takeDelivered (fun d => d.hdr.ftype == 1 || d.hdr.ftype == 5) = some (d, b1) ∧ d.parts = [x] ∧ b1.openPart d.hdr x
      false = (some (pl, tag), b2) ∧ b2.dupCheck d.hdr.src d.hdr.cls x.ctr x.epoch tag true = (.replay, b3)) ∧
    (∃ (s : State) (d : Delivered) (b1 : Block) (b2 : Block) (b3 : Block) (x : RxPart) (pl : List Byte) (tag : Nat), s.blk.running =
      true ∧ s.blk.takeDelivered (fun d => d.hdr.ftype == 1 || d.hdr.ftype == 5) = some (d, b1) ∧ d.parts = [x] ∧ b1.openPart d.hdr x
      false = (some (pl, tag), b2) ∧ b2.dupCheck d.hdr.src d.hdr.cls x.ctr x.epoch tag true = (.accept, b3) ∧ d.hdr.ftype = 5 ∧
      x.ackReq = false ∧ 8 ≤ pl.length ∧ leAt pl 0 2 = s.blk.short ∧ groupAddr s.blk.short = false ∧ commandCode (leAt pl 6 1) = true) ∧
    (∃ (s : State) (q : Nat) (d : Delivered) (b1 : Block) (b2 : Block) (b3 : Block) (x : RxPart) (pl : List Byte) (tag : Nat),
      s.blk.running = true ∧ s.blk.takeDelivered (fun d => d.hdr.ftype == 1 || d.hdr.ftype == 5) = some (d, b1) ∧ d.parts = [x] ∧
      b1.openPart d.hdr x false = (some (pl, tag), b2) ∧ b2.dupCheck d.hdr.src d.hdr.cls x.ctr x.epoch tag true = (.accept, b3) ∧
      d.hdr.ftype = 1 ∧ x.ackReq = false ∧ 6 ≤ pl.length ∧ leAt pl 0 2 = s.blk.short ∧ groupAddr s.blk.short = false ∧ ((∀ c,
      (s.blk.cus c).present = false)) ∧ 0 < q ∧ q < 4096 ∧ (s.blk.q q).capacity ≠ 0 ∧ (s.blk.q q).refill = false ∧ (s.blk.q q).bulk =
      false ∧ s.blk.openOf ctxMac = none ∧ s.blk.fill q + cellsOf (pl.length - 6) ≤ (s.blk.q q).capacity) :=
  ⟨⟨rxNode 6 data1, data1, (took dataTypes (rxNode 6 data1).blk).2, ((took dataTypes (rxNode 6 data1).blk).2), ((((took dataTypes
      (rxNode 6 data1).blk).2)).dupCheck 5 1 7 0 0 true).2, askPart [], 0, by decide +kernel⟩,
    ⟨rxNode 6 data0, data0, (took dataTypes (rxNode 6 data0).blk).2, ((took dataTypes (rxNode 6 data0).blk).2), ((((took dataTypes
      (rxNode 6 data0).blk).2)).dupCheck 5 0 7 0 0 true).2, askPart [], 0, by decide +kernel⟩,
    ⟨rxNode 6 data1 [] (fun b => (b.dupCheck 5 1 7 0 0 true).2.markDelivered 5 1 7), data1, (took dataTypes (rxNode 6 data1 [] (fun b
      => (b.dupCheck 5 1 7 0 0 true).2.markDelivered 5 1 7)).blk).2, ((took dataTypes (rxNode 6 data1 [] (fun b => (b.dupCheck 5 1 7 0
      0 true).2.markDelivered 5 1 7)).blk).2), ((((took dataTypes (rxNode 6 data1 [] (fun b => (b.dupCheck 5 1 7 0 0
      true).2.markDelivered 5 1 7)).blk).2)).dupCheck 5 1 7 0 0 true).2, askPart [], [], 0, by decide +kernel⟩,
    ⟨rxNode 6 data1 [] (fun b => (b.dupCheck 5 1 8 0 0 true).2), data1, (took dataTypes (rxNode 6 data1 [] (fun b => (b.dupCheck 5 1 8
      0 0 true).2)).blk).2, ((took dataTypes (rxNode 6 data1 [] (fun b => (b.dupCheck 5 1 8 0 0 true).2)).blk).2), ((((took dataTypes
      (rxNode 6 data1 [] (fun b => (b.dupCheck 5 1 8 0 0 true).2)).blk).2)).dupCheck 5 1 7 0 0 true).2, askPart [], [], 0,
      by decide +kernel⟩,
    ⟨rxNode 6 cmd1, cmd1, (took dataTypes (rxNode 6 cmd1).blk).2, ((took dataTypes (rxNode 6 cmd1).blk).2), ((((took dataTypes (rxNode
      6 cmd1).blk).2)).dupCheck 5 1 7 0 (crc32 cmdPayload) true).2, part cmdPayload, cmdPayload, crc32 cmdPayload, by decide +kernel⟩,
    ⟨rxNode 6 user1 [] (fun b => { b with queue := { b.queue with queues := [(5, { capacity := 9 })] } }), 5, user1, (took dataTypes
      (rxNode 6 user1 [] (fun b => { b with queue := { b.queue with queues := [(5, { capacity := 9 })] } })).blk).2, ((took dataTypes
      (rxNode 6 user1 [] (fun b => { b with queue := { b.queue with queues := [(5, { capacity := 9 })] } })).blk).2), ((((took
      dataTypes (rxNode 6 user1 [] (fun b =>
      { b with queue := { b.queue with queues := [(5, { capacity := 9 })] } })).blk).2)).dupCheck 5 1 7 0 (crc32 userPl) true).2, part
      userPl, userPl, crc32 userPl, by decide +kernel, by decide +kernel, by decide +kernel, by decide +kernel, by decide +kernel,
      by decide +kernel, by decide +kernel, by decide +kernel, by decide +kernel, by decide +kernel, fun _ => rfl, by decide +kernel,
      by decide +kernel, by decide +kernel, by decide +kernel, by decide +kernel, by decide +kernel, by decide +kernel⟩⟩
theorem wit_acknowledgementsSent :
    (∃ (s : State) (band : Nat) (f : TxFrame) (g : TxFrame), s.blk.running = true ∧ s.blk.mac.order.filter (fun f => f.kind == .ack &&
      f.band == band) = [f] ∧ g = { f with hdr := { f.hdr with pending := decide (s.blk.pendingFor f.hdr.dst ≠ 0) } } ∧ s.blk.replyOk g
      = true ∧ s.blk.ackFits g = true) ∧
    (∃ (s : State) (band : Nat) (f : TxFrame) (h : TxFrame) (first : TxFrame) (g : TxFrame), s.blk.running = true ∧
      s.blk.mac.order.filter (fun f => f.kind == .ack && f.band == band) = [f, h] ∧ first = (if ackFirst f h then f else h) ∧ g =
      { first with hdr := { first.hdr with pending := decide (s.blk.pendingFor first.hdr.dst ≠ 0) } } ∧ s.blk.replyOk g = true ∧
      s.blk.ackFits g = true) ∧
    (∃ (s : State) (band : Nat) (f : TxFrame) (g : TxFrame), s.blk.running = true ∧ s.blk.mac.order.filter (fun f => f.kind == .ack &&
      f.band == band) = [f] ∧ g = { f with hdr := { f.hdr with pending := decide (s.blk.pendingFor f.hdr.dst ≠ 0) } } ∧ (s.blk.replyOk
      g = false ∨ s.blk.ackFits g = false)) ∧
    (∃ (s : State) (band : Nat) (f : TxFrame) (g : TxFrame), s.blk.running = true ∧ s.blk.mac.order.find? (fun f => f.kind == .blockAck
      && f.band == band && s.blk.runServes f) = some f ∧ (s.blk.access band).forReply = true ∧ (s.blk.access band).count = some 0 ∧
      f.queue = none ∧ f.hdr.span = 0 ∧ g = s.blk.blockAckFrame f ∧ s.blk.replyOk g = true ∧ s.blk.permitted g = true ∧ s.blk.busy band
      = false ∧ (if band = 0 then (s.blk.portsFor g).map Load.drvH else [Load.drvL]).all s.blk.loaded = true) ∧
    (∃ (s : State) (band : Nat) (rng : Nat) (n : Nat) (f : TxFrame) (g : TxFrame), s.blk.running = true ∧ s.blk.mac.order.find? (fun f
      => f.kind == .blockAck && f.band == band && s.blk.runServes f) = some f ∧ ((s.blk.access band).forReply = true ∧ (s.blk.access
      band).count = some (n + 1) ∨ (s.blk.access band).count = none ∧ (s.blk.access band).be = none ∧ band < s.blk.mac.access.length ∧
      rng % 65536 % 2 ^ min (s.blk.get R.MAC_ACCESS_BE_MAX) (s.blk.get R.MAC_ACCESS_BE_MIN + f.retries) = n + 1) ∧ g =
      s.blk.blockAckFrame f ∧ s.blk.replyOk g = true ∧ s.blk.permitted g = true ∧ s.blk.busy band = false) ∧
    (∃ (s : State) (band : Nat) (f : TxFrame) (g : TxFrame), s.blk.running = true ∧ s.blk.mac.order.find? (fun f => f.kind == .blockAck
      && f.band == band && s.blk.runServes f) = some f ∧ ((s.blk.access band).count = none ∨ (s.blk.access band).forReply = true) ∧ g =
      s.blk.blockAckFrame f ∧ (s.blk.replyOk g = false ∨ s.blk.permitted g = false)) :=
  ⟨⟨orderNode (dataTo 5 .ack) none, 0, dataTo 5 .ack, dataTo 5 .ack, by decide +kernel⟩,
    ⟨orderTwo, 0, dataTo 5 .ack, dataTo 4 .ack, dataTo 4 .ack, dataTo 4 .ack, by decide +kernel⟩,
    ⟨orderNode (dataTo 5 .ack) none 10, 0, dataTo 5 .ack, dataTo 5 .ack, by decide +kernel⟩,
    ⟨baNode (some 0) true 6, 0, dataTo 5 .blockAck, (baNode (some 0) true 6).blk.blockAckFrame (dataTo 5 .blockAck), by decide +kernel⟩,
    ⟨baNode (some 3) true 6, 0, 0, 2, dataTo 5 .blockAck, (baNode (some 3) true 6).blk.blockAckFrame (dataTo 5 .blockAck),
      by decide +kernel⟩,
    ⟨baNode none false 10, 0, dataTo 5 .blockAck, (baNode none false 10).blk.blockAckFrame (dataTo 5 .blockAck), by decide +kernel⟩⟩
theorem wit_acknowledgementsReceived :
    (∃ (s : State) (d : Delivered) (b1 : Block) (w : Waiting) (c : Nat), s.blk.running = true ∧ s.blk.takeDelivered (fun d =>
      d.hdr.ftype == 2) = some (d, b1) ∧ s.blk.mac.waiting.find? (fun w => !w.blockAck && w.frame.hdr.dst == d.hdr.src &&
      w.frame.counters.contains d.hdr.ctr) = some w ∧ w.frame.counters.getLast? = some c ∧ c ≤ d.hdr.ctr) ∧
    (∃ (s : State) (band : Nat) (w : Waiting), s.blk.running = true ∧ s.blk.mac.waiting.find? (fun w => !w.blockAck && w.frame.band ==
      band && decide (w.ackBy ≤ s.blk.tick)) = some w ∧ w.frame.retries + 1 ≤ s.blk.get R.MAC_ACCESS_RETRY_LIMIT) ∧
    (∃ (s : State) (band : Nat), ((∀ w ∈ s.blk.mac.waiting, w.blockAck = false → w.frame.band = band → s.blk.tick < w.ackBy))) ∧
    (∃ (s : State) (d : Delivered) (b1 : Block) (b2 : Block) (b3 : Block) (x : RxPart) (l : List RxPart) (pl : List Byte) (tag : Nat)
      (c : Nat) (w : Waiting), s.blk.running = true ∧ s.blk.takeDelivered (fun d => d.hdr.ftype == 3) = some (d, b1) ∧ d.parts = x :: l
      ∧ b1.openPart d.hdr x false = (some (pl, tag), b2) ∧ b2.dupCheck d.hdr.src 1 x.ctr x.epoch tag true = (.accept, b3) ∧ (leAt pl 4
      1).testBit 1 = false ∧ s.blk.mac.waiting.find? (fun w => w.blockAck && w.frame.hdr.dst == d.hdr.src) = some w ∧
      w.frame.counters.getLast? = some c ∧ c ≤ leAt pl 0 4) ∧
    (∃ (s : State) (band : Nat) (w : Waiting), s.blk.running = true ∧ s.blk.mac.waiting.find? (fun w => w.blockAck && w.frame.band ==
      band && decide (s.blk.get R.MAC_BA_BA_TIMEOUT < w.anchors)) = some w ∧ w.frame.retries + 1 ≤ s.blk.get R.MAC_ACCESS_RETRY_LIMIT) ∧
    (∃ (s : State) (band : Nat), ((∀ w ∈ s.blk.mac.waiting, w.blockAck = true → w.frame.band = band → w.anchors ≤ s.blk.get
      R.MAC_BA_BA_TIMEOUT))) :=
  ⟨⟨waitNode (waitFor false) (heardAs { ftype := 2, src := 5, ctr := 7 } []), heardAs { ftype := 2, src := 5, ctr := 7 } [], (took
      (fun d => d.hdr.ftype == 2) (waitNode (waitFor false) (heardAs { ftype := 2, src := 5, ctr := 7 } [])).blk).2, waitFor false, 7,
      by decide +kernel⟩,
    ⟨at80 (waitNode (waitFor false) (heardAs {} [])), 0, waitFor false, by decide +kernel⟩,
    ⟨waitNode (waitFor false) (heardAs {} []), 0, by decide +kernel⟩,
    ⟨waitNode (waitFor true) ba1, ba1, (took (fun d => d.hdr.ftype == 3) (waitNode (waitFor true) ba1).blk).2, ((took (fun d =>
      d.hdr.ftype == 3) (waitNode (waitFor true) ba1).blk).2), ((((took (fun d => d.hdr.ftype == 3) (waitNode (waitFor true)
      ba1).blk).2)).dupCheck 5 1 7 0 (crc32 ba1Pl) true).2, part ba1Pl, [], ba1Pl, crc32 ba1Pl, 7, waitFor true, by decide +kernel⟩,
    ⟨waitNode { waitFor true with anchors := 1 } (heardAs {} []), 0, { waitFor true with anchors := 1 }, by decide +kernel⟩,
    ⟨waitNode (waitFor true) (heardAs {} []), 0, by decide +kernel⟩⟩

/-! The MAC: doze, search, quiet windows, map, leases, link reports. -/

def missNode (n : Nat) (b : Bool := false) : State :=
  gridNode 6 [(R.MSH_STAT_ROLE, 1), (R.MAC_STAT_STATE, 3), (R.MAC_STAT_MISSES, n)] (fun x => x.setMac { x.mac with resynced := b })
/-- A head-end with AUTO_MAP, MAP_GAIN 2, one row: TIMING in slot 0, CONTENTION in the others. -/
def mapNode : State := gridNode 6 [(R.MAC_ROW_H 0, 2)] (fun b => b.setImage { b.image with
  run := some { segs := [⟨7, 0, 0xFF, 0, 0, 0, [], List.replicate 0x15 0 ++ [1, 0, 0, 2]⟩] } })
/-- A head-end on a grid in mode 6 with an image, nodes 7 and 8 in its table. -/
def headEnd (l : List (Field × Nat) := []) (f : Block → Block := id) : State :=
  gridNode 6 ([(R.MAC_ADDR_SHORT, 1), (R.GLB_REV, 100)] ++ l) (fun b =>
    f ((((({ b with image := { b.image with run := some {} } }).setNode 7 8 2 7).setNode 7 11 1 2).setNode 8 8 2 8).setNode 8 11 1 2))
/-- A node with one quiet window on each band whose bound of time is unknown: every moment counts as quiet (R281). -/
def quietNode (q : List Bool) : State := gridNode 6 [(R.TIM_BOUND, 0xFFFFFFFF)] (fun b => (b.setMac { b.mac with inQuiet := q }).setImage
  { b.image with run := some { segs := [⟨6, 0, 0xFF, 0, 0, 0, [], List.replicate 0x20A 0 ++ [1] ++ List.replicate 11 0 ++ [1]⟩] } })
/-- A noise phase profile: slot 0 noisy, slot 2 quiet. -/
def profiles1 : List (List Nat) := [[9, 7, 5, 7, 7, 7, 7, 7].flatMap (List.replicate 8)]

theorem test_pollRx : let d := heardAs { ftype := 6, src := 5 } []; let s := rxNode 8 d; s.blk.mode = 8 ∧
    s.blk.phy.delivered.find? (fun d => d.hdr.ftype == 6) = some d ∧ d.hdr.src = s.blk.get R.TIM_PARENT_PARENT ∧
    (after .pollRx s).blk.mac.holdUntil = some (s.blk.get R.MAC_BA_WAKE_HOLD) := by decide +kernel
theorem test_wakeWindowOpen : let s := gridNode 8 [(R.MAC_STAT_DOZING, 1)]; s.blk.mode = 8 ∧
    (after .wakeWindowOpen s).blk.mac.wakeOpen = true ∧ (after .wakeWindowOpen s).blk.get R.MAC_STAT_DOZING = 0 := by decide +kernel
theorem test_wakeHoldExpiry : let s := gridNode 8 []; s.blk.mode = 8 ∧ (after .wakeHoldExpiry s).blk.get R.MAC_STAT_DOZING = 1 ∧
    (after .wakeHoldExpiry s).blk.power.ddrAwake = false := by decide +kernel
theorem test_beaconMiss : let s := missNode 1; s.blk.running = true ∧ s.blk.role ≠ 0 ∧ s.blk.mac.resynced = false ∧
    s.blk.hasGrid = true ∧ s.blk.mode ≠ 8 ∧ s.blk.get R.MAC_STAT_MISSES = 1 ∧ (after .beaconMiss s).blk.get R.MAC_STAT_MISSES = 2 := by decide +kernel
theorem test_beaconMiss_doze : let s := gridNode 8 [(R.MSH_STAT_ROLE, 2)] (fun x => x.setMac { x.mac with wakeOpen := true });
    s.blk.mode = 8 ∧ s.blk.role ≠ 0 ∧ s.blk.mac.resynced = false ∧ s.blk.hasGrid = true ∧ s.blk.get R.MAC_STAT_MISSES ≤ 1 ∧
    s.blk.mac.holdUntil = none ∧ (after .beaconMiss s).blk.mac.wakeOpen = false := by decide +kernel
theorem test_beaconMiss_third : let s := missNode 2; s.blk.get R.MAC_STAT_MISSES = 2 ∧
    (after .beaconMiss s).blk.get R.MAC_TROUBLE_BEACON_LOST = 1 ∧ (after .beaconMiss s).blk.get R.MAC_STAT_STATE = 4 := by decide +kernel
theorem test_beaconMiss_resynced : let s := missNode 2 true; s.blk.mac.resynced = true ∧
    (after .beaconMiss s).blk.get R.MAC_STAT_MISSES = 2 := by decide +kernel
theorem test_beaconSearchTimeout : let f (n : Nat) := inMode 6 [(R.MAC_STAT_STATE, 4), (R.MAC_GRID_BP_CYCLES, 1)] (fun b => b.setMac { b.mac with search := n });
    (after .beaconSearchTimeout (f 16)).blk.power.trans = some 5 ∧ (after .beaconSearchTimeout (f 15)).blk.power.trans = none := by
  decide +kernel

theorem test_quietWindowStart_all : (after (.quietWindowStart 0) (quietNode [false, true])).blk.power.trans = some 7 := by decide +kernel
theorem test_mapEval : (after (.mapEval profiles1) mapNode).blk.get R.MAC_GRID_MAP_SEQ = 1 := by decide +kernel
theorem test_mapEval_low : (after (.mapEval profiles1) (gridNode 6 [(R.MSH_STAT_ROLE, 1)])).blk.get R.MAC_GRID_MAP_SEQ = 0 := by
  decide +kernel
theorem test_leaseExpiry : let s := inMode 6 [] (fun b => (b.setNode 7 8 2 7).setNode 7 11 1 3); s.blk.running = true ∧ s.blk.role = 0 ∧
    s.blk.hasNode 7 = true ∧ s.blk.node 7 11 1 = 3 ∧ (after (.leaseExpiry 7) s).blk.hasNode 7 = false := by decide +kernel
theorem test_leaseExpiry_active : let s := inMode 6 [] (fun b => (b.setNode 7 8 2 7).setNode 7 11 1 2); s.blk.node 7 11 1 ≠ 3 ∧
    (after (.leaseExpiry 7) s).blk.hasNode 7 = true := by decide +kernel
theorem test_linkReportTx : let s := gridNode 6 [] (fun b => b.setMesh { b.mesh with reportDue := true }); s.blk.running = true ∧
    s.blk.hasGrid = true ∧ 2 ≤ s.blk.short ∧ s.blk.elapsed s.blk.mesh.lastReport 1 = true ∧ s.blk.mesh.reportDue = true ∧
    (after .linkReportTx s).blk.mesh.reportDue = false ∧
    ((after .linkReportTx s).blk.mac.order.map (fun f => f.payload)) = [[1, 0, 9, 0, 0, 0, 0x10, 0, 0, 0]] := by decide +kernel

/-! Witnesses: for each clause of the statements above with hypotheses, a state and operands that meet them all. -/

theorem wit_dozeWindows :
    (∃ (s : State) (d : Delivered), s.blk.mode = 8 ∧ s.blk.phy.delivered.find? (fun d => d.hdr.ftype == 6) = some d ∧ d.hdr.src =
      s.blk.get R.TIM_PARENT_PARENT) ∧
    (∃ (s : State), s.blk.mode = 8) ∧
    (∃ (s : State), s.blk.mode = 8 ∧ ((∀ n, s.blk.mac.holdUntil = some n → n ≤ s.blk.tick)) ∧ s.blk.inSlot (s.blk.node s.blk.short 26
      2) = false) ∧
    (∃ (s : State) (n : Nat), s.blk.mac.holdUntil = some n ∧ s.blk.tick < n) :=
  ⟨⟨rxNode 8 (heardAs { ftype := 6, src := 5 } []), heardAs { ftype := 6, src := 5 } [], by decide +kernel⟩,
    ⟨gridNode 8 [(R.MAC_STAT_DOZING, 1)], by decide +kernel⟩,
    ⟨gridNode 8 [] (fun b => b.setMac { b.mac with holdUntil := some 0 }), by decide +kernel⟩,
    ⟨gridNode 8 [] (fun b => b.setMac { b.mac with holdUntil := some 9 }), 9, by decide +kernel⟩⟩
theorem wit_beaconLoss :
    (∃ (s : State), s.blk.running = true ∧ s.blk.role ≠ 0 ∧ s.blk.mac.resynced = false ∧ s.blk.hasGrid = true ∧ s.blk.get
      R.MAC_STAT_MISSES ≤ 1 ∧ s.blk.mode ≠ 8) ∧
    (∃ (s : State), s.blk.mode = 8 ∧ s.blk.role ≠ 0 ∧ s.blk.mac.resynced = false ∧ s.blk.hasGrid = true ∧ s.blk.get R.MAC_STAT_MISSES ≤
      1 ∧ s.blk.mac.holdUntil = none) ∧
    (∃ (s : State), s.blk.running = true ∧ s.blk.role ≠ 0 ∧ s.blk.mac.resynced = false ∧ s.blk.hasGrid = true ∧ s.blk.get
      R.MAC_STAT_MISSES = 2) ∧
    (∃ (s : State), s.blk.running = true ∧ s.blk.mac.resynced = true) ∧
    (∃ (s : State), s.blk.get R.MAC_STAT_STATE = 4 ∧ (s.blk.mode = 6 ∨ s.blk.mode = 7) ∧ 8 * s.blk.periodHalves ≤ s.blk.mac.search ∧
      s.blk.power.trans = none) ∧
    (∃ (s : State), (s.blk.get R.MAC_STAT_STATE ≠ 4 ∨ s.blk.mac.search < 8 * s.blk.periodHalves)) :=
  ⟨⟨missNode 1, by decide +kernel⟩,
    ⟨gridNode 8 [(R.MSH_STAT_ROLE, 2)] (fun x => x.setMac { x.mac with wakeOpen := true }), by decide +kernel⟩,
    ⟨missNode 2, by decide +kernel⟩,
    ⟨missNode 2 true, by decide +kernel⟩,
    ⟨inMode 6 [(R.MAC_STAT_STATE, 4), (R.MAC_GRID_BP_CYCLES, 1)] (fun b => b.setMac { b.mac with search := 16 }), by decide +kernel⟩,
    ⟨inMode 6 [(R.MAC_STAT_STATE, 4), (R.MAC_GRID_BP_CYCLES, 1)] (fun b => b.setMac { b.mac with search := 15 }), by decide +kernel⟩⟩
theorem wit_quietWindows :
    (∃ (s : State), s.blk.running = true ∧ s.blk.mac.inQuiet.length = 2 ∧ s.blk.quietFor 0 0 = true) ∧
    (∃ (s : State), s.blk.running = true ∧ s.blk.mac.inQuiet.length = 2 ∧ s.blk.quietFor 1 0 = true) ∧
    (∃ (s : State), s.blk.mode = 6 ∧ s.blk.mac.inQuiet = [false, true] ∧ s.blk.quietFor 0 0 = true ∧ s.blk.power.trans = none) ∧
    (∃ (s : State) (band : Nat), s.blk.quietFor band 0 = false) ∧
    (∃ (s : State) (band : Nat), s.blk.quietFor band 0 = true) ∧
    (∃ (s : State) (band : Nat), s.blk.running = true ∧ s.blk.quietFor band 0 = false) :=
  ⟨⟨quietNode [false, false], by decide +kernel⟩,
    ⟨quietNode [false, false], by decide +kernel⟩,
    ⟨quietNode [false, true], by decide +kernel⟩,
    ⟨gridNode 6 [], 0, by decide +kernel⟩,
    ⟨quietNode [true, true], 0, by decide +kernel⟩,
    ⟨gridNode 6 [] (fun b => b.setMac { b.mac with inQuiet := [true, false] }), 0, by decide +kernel⟩⟩
theorem wit_mapAndLeases :
    (∃ (s : State) (profiles : List (List Nat)) (scores : List Nat), s.blk.running = true ∧ s.blk.role = 0 ∧ leAt s.blk.macRole 0x15 1
      ≠ 0 ∧ s.blk.hasGrid = true ∧ scores = (Block.slotScores profiles 8 0 s.blk).1 ∧ ((s.blk.mapRows scores).map (fun r => r.2)).sum ≠
      0 ∧ leAt s.blk.macRole 0x18 1 ≤ ((s.blk.mapRows scores).map (fun r => r.2)).sum) ∧
    (∃ (s : State) (profiles : List (List Nat)) (scores : List Nat), scores = (Block.slotScores profiles 8 0 s.blk).1 ∧ (s.blk.role ≠ 0
      ∨ s.blk.hasGrid = false ∨ ((s.blk.mapRows scores).map (fun r => r.2)).sum < leAt s.blk.macRole 0x18 1)) ∧
    (∃ (s : State) (a : Nat), s.blk.running = true ∧ s.blk.role = 0 ∧ s.blk.hasNode a = true ∧ s.blk.node a 11 1 = 3 ∧ s.blk.node a 12
      2 = 0) ∧
    (∃ (s : State) (a : Nat), (s.blk.role ≠ 0 ∨ s.blk.node a 11 1 ≠ 3 ∨ s.blk.node a 12 2 ≠ 0)) :=
  ⟨⟨mapNode, profiles1, (Block.slotScores profiles1 8 0 (mapNode).blk).1, by decide +kernel⟩,
    ⟨gridNode 6 [(R.MSH_STAT_ROLE, 1)], profiles1, (Block.slotScores profiles1 8 0 (gridNode 6 [(R.MSH_STAT_ROLE, 1)]).blk).1,
      by decide +kernel⟩,
    ⟨inMode 6 [] (fun b => (b.setNode 7 8 2 7).setNode 7 11 1 3), 7, by decide +kernel⟩,
    ⟨inMode 6 [] (fun b => (b.setNode 7 8 2 7).setNode 7 11 1 2), 7, by decide +kernel⟩⟩
theorem wit_linkReportSent :
    (∃ (s : State), s.blk.running = true ∧ s.blk.hasGrid = true ∧ s.blk.short = 1 ∧ s.blk.elapsed s.blk.mesh.lastReport 1 = true ∧
      s.blk.mesh.reportDue = true) ∧
    (∃ (s : State), s.blk.running = true ∧ s.blk.hasGrid = true ∧ 2 ≤ s.blk.short ∧ s.blk.elapsed s.blk.mesh.lastReport 1 = true ∧
      s.blk.mesh.reportDue = true) :=
  ⟨⟨headEnd [] (fun b => b.setMesh { b.mesh with reportDue := true }), by decide +kernel⟩,
    ⟨gridNode 6 [] (fun b => b.setMesh { b.mesh with reportDue := true }), by decide +kernel⟩⟩

/-! The mesh. -/

/-- The head-end alone. -/
def loneHead (f : MeshUnit → MeshUnit) : State := gridNode 6 [(R.MAC_ADDR_SHORT, 1), (R.GLB_REV, 100)]
  (fun b => { b with image := { b.image with run := some {} }, mesh := f b.mesh })
def withCommand (m : CmdMsg) (b : Block) : Block := b.setMac { b.mac with commands := [m] }
/-- A link report of node 7 with one record: peer 8, port 0 band H, margin 6 dB. -/
def report1 : CmdMsg := ⟨0x10, 7, 7, 0, 0, [1, 0] ++ [8, 0, 8, 0, 0, 0, 0x18, 0, 0, 0, 0, 255] ++ List.replicate 8 0xFF⟩
/-- A SWEEP command, and one that stops a sweep; a node with such a command. -/
def sweep1 (w : Nat) : CmdMsg := ⟨0x13, 1, 1, 0, 0, [2, 1, 9, 0, 0, 0] ++ leBytes w 2⟩
def sweepAt (w : Nat) (l : List (Field × Nat) := []) : State := { joinedAt l with blk := withCommand (sweep1 w) (joinedAt l).blk }
/-- A report of node 8 as a collect frame: a command of no use to any operation, of 24 bytes. -/
def colPl : List Byte := [1, 0, 8, 0, 0, 0, 0x18, 0] ++ List.replicate 16 0
def colHdr : Header := { ftype := 5, mode := 0x0100, len := 24, dst := 1, src := 8, cls := 1, ctr := 3 }
def colTry : CollectTry := ⟨3, softOf (headerBits colHdr.encode ++ payloadBits 0x0100 colPl), 100, 10⟩
/-- A head-end whose SWEEP_QUEUE is queue 3, of 10 cells. -/
def sweepHead (f : Block → Block := id) : State := headEnd [(R.MSH_COLLECT_CFG_CAP, 8)] (fun b => f (({ b with image := { b.image with
  run := some { segs := [⟨8, 0, 0xFF, 0, 0, 0, [], List.replicate 0x14 0 ++ [3, 0]⟩] } } }).modQ 3 (fun q => { q with capacity := 10 })))
/-- A member in its own window, in a run of COLLECT slots. -/
def memberAt (w : Nat) : State := gridNode 6 [(R.MSH_STAT_ROLE, 1), (R.MAC_ROW_H 0, 0x33333333), (R.MSH_SWEEP_STATE, 2), (R.MSH_WINDOW, 0)]
  (fun b => b.setMesh { b.mesh with sweepWindows := 2, window := w })

theorem test_linkReport : let s := headEnd [] (withCommand report1); s.blk.running = true ∧ s.blk.coordinator = true ∧
    s.blk.mac.commands.find? (fun m => m.code == 0x10) = some report1 ∧ leAt report1.body 0 1 = 1 ∧ report1.body.length = 22 ∧
    s.blk.hasNode report1.origin = true ∧ (after .linkReport s).blk.node 7 52 1 = 1 ∧
    (after .linkReport s).blk.get R.MSH_LS_USED = 1 := by decide +kernel
theorem test_linkDown : let s := loneHead id; s.blk.mesh.downs = [] ∧ s.blk.get R.GLB_REV = 100 ∧
    (after (.linkDown 7 0 8) s).blk.mesh.downs = [(7, 8, 100)] := by decide +kernel
theorem test_linkDown_second : let s := headEnd [] (fun b => b.setMesh { b.mesh with downs := [(7, 9, 100)] });
    s.blk.mesh.downs = [(7, 9, 100)] ∧ 0 < s.blk.get R.MAC_GRID_BP_CYCLES ∧ s.blk.hasNode 7 = true ∧ s.blk.node 7 11 1 = 2 ∧
    (after (.linkDown 7 0 8) s).blk.get R.MSH_TROUBLE_NODE_LOST = 1 := by decide +kernel
theorem test_reportBundle : let s := sweepHead; s.blk.coordinator = true ∧ s.blk.sweepQueue = 3 ∧
    (s.blk.q 3).bulk = false ∧ (s.blk.q 3).refill = false ∧ (s.blk.q 3).capacity ≠ 0 ∧ s.blk.openOf ctxMac = none ∧
    s.blk.fill 3 + cellsOf 2 ≤ (s.blk.q 3).capacity ∧ (after (.reportBundle [[1, 2]]) s).blk.q 3 =
      { s.blk.q 3 with pkts := [⟨0, 0, 0, [1, 2]⟩] } := by decide +kernel
theorem test_reportBundle_node : let s := joinedAt []; s.blk.running = true ∧ s.blk.coordinator = false ∧
    (after (.reportBundle [[1, 2]]) s).blk.queue = s.blk.queue := by decide +kernel
theorem test_routeSet : let s := joinedAt []; s.blk.role ≠ 0 ∧ s.blk.image.run.isSome = true ∧
    (after (.routeSet 65537 5 [(1, List.replicate 32 0), (2, [0])]) s).blk.mesh.pendingRoutes =
      [⟨1, 5, [(1, List.replicate 32 0)]⟩] := by decide +kernel
theorem test_assign : let s := joinedAt []; (after (.assign 5 (List.replicate 26 0) 4) s).blk.mesh.pendingAssign =
    some ⟨5, List.replicate 26 0, 4⟩ := by decide +kernel
theorem test_routeEpochApply : let r : RouteSet := ⟨3, 100, [(1, [6, 0] ++ List.replicate 30 0)]⟩;
    let s := joinedAt [] (fun m => { m with pendingRoutes := [r] }); s.blk.hasGrid = true ∧ s.blk.mesh.pendingRoutes = [r] ∧
    s.blk.reached 100 = true ∧ s.blk.get R.MSH_STAT_ROUTE_VALID = 0 ∧ (after .routeEpochApply s).blk.get R.MSH_ROUTE_SEQ = 3 ∧
    (after .routeEpochApply s).blk.get R.MSH_UPLINK_DATA_PARENT = 6 := by decide +kernel
theorem test_routeEpochApply_early : let s := joinedAt [] (fun m => { m with pendingRoutes := [⟨3, 101, []⟩] });
    s.blk.reached 101 = false ∧ (after .routeEpochApply s).blk.get R.MSH_STAT_ROUTE_VALID = 0 := by decide +kernel
theorem test_routeRecompute : let s := loneHead (fun m => { m with routeDue := true }); s.blk.coordinator = true ∧ s.blk.mesh.routeDue = true ∧
    s.blk.elapsed s.blk.mesh.lastRecompute (s.blk.get R.MSH_LIMITS_RECOMPUTE_MIN) = true ∧
    (after .routeRecompute s).blk.mesh.routeDue = false ∧
    (after .routeRecompute (loneHead id)).blk.mesh.lastRecompute = none := by decide +kernel
theorem test_nodeLostTimeout : let s := headEnd [(R.MSH_LIMITS_LOST_PERIODS, 2)] (fun b => { b with time := { b.time with scale := 102400000 * 625 * 2 ^ 48 } }); let g : GridVals := ⟨100, 0, 20000000 * 65536⟩;
    s.blk.coordinator = true ∧ s.blk.grid.cur = some g ∧ s.blk.hasNode 7 = true ∧ s.blk.node 7 11 1 = 2 ∧
    s.blk.get R.MSH_LIMITS_LOST_PERIODS * s.blk.get R.MAC_GRID_BP_CYCLES * g.t < s.blk.now - unstamp64 (s.blk.node 7 40 8) s.blk.now ∧
    (after (.nodeLostTimeout 7) s).blk.get R.MSH_TROUBLE_NODE_LOST = 1 := by decide +kernel
theorem test_sweepStart : let s := headEnd; s.blk.reachable = true ∧ s.blk.coordinator = true ∧ s.blk.hasGrid = true ∧
    s.blk.get R.MSH_SWEEP_STATE = 0 ∧ (after (.sweepStart 5) s).blk.get R.MSH_SWEEP_STATE = 1 ∧
    (after (.sweepStart 5) s).blk.mesh.sweepWindows = 5 := by decide +kernel
theorem test_sweepStart_node : let s := joinedAt []; s.blk.coordinator = false ∧
    (after (.sweepStart 5) s).blk.get R.MSH_SWEEP_STATE = 0 := by decide +kernel
theorem test_sweep : let m : CmdMsg := ⟨0x13, 1, 1, 0, 0, [2, 1, 9, 0, 0, 0, 4, 0]⟩;
    let s := joinedAt []; let s := { s with blk := withCommand m s.blk }; s.blk.running = true ∧
    s.blk.mac.commands.find? (fun m => m.code == 0x13) = some m ∧ m.body.length = 8 ∧ leAt m.body 6 2 = 4 ∧
    s.blk.get R.MSH_SWEEP_STATE ≠ 2 ∧ (after .sweep s).blk.get R.MSH_SWEEP_SWEEP_ID = 0x0102 ∧
    (after .sweep s).blk.get R.MSH_SWEEP_REV = 9 := by decide +kernel
theorem test_collectFrameTx : let s := memberAt 0; s.blk.running = true ∧ s.blk.mayTransmit = true ∧ s.blk.hasGrid = true ∧
    s.blk.get R.MSH_SWEEP_STATE = 2 ∧ s.blk.get R.MSH_WINDOW = 0 ∧ s.blk.mesh.sweepWindows = 2 ∧ s.blk.mesh.window = 0 ∧
    s.blk.forbidden 0 = false ∧ s.blk.fitsRun s.blk.collectFrame.1 3 = true ∧
    ((after .collectFrameTx s).blk.mac.ready.map (fun f => (f.kind, f.payload.length))) = [(.collect, 24)] := by decide +kernel
theorem test_collectFrameTx_other : let s := memberAt 1; s.blk.mesh.window ≠ s.blk.get R.MSH_WINDOW ∧
    (after .collectFrameTx s).blk.mac.ready = [] := by decide +kernel
theorem test_collectWindowDecode : let s := sweepHead (fun b => b.setNode 8 34 2 5); s.blk.role = 0 ∧ s.blk.get R.MSH_COLLECT_CFG_CAP ≠ 0 ∧
    s.blk.image.run.isSome = true ∧ (after (.collectWindowDecode 5 9 []) s).blk.get R.MSH_COLLECT_MISS_COUNT = 1 ∧
    ((after (.collectWindowDecode 5 9 []) s).blk.q 3).pkts.length = 1 := by decide +kernel
theorem test_collectWindowDecode_leaf : let s := joinedAt [(R.MSH_STAT_ROLE, 2)]; s.blk.running = true ∧ s.blk.role = 2 ∧
    (after (.collectWindowDecode 5 9 []) s).blk.get R.MSH_COLLECT_MISS_COUNT = 0 := by decide +kernel

/-! Witnesses: for each clause of the statements above with hypotheses, a state and operands that meet them all. -/

theorem wit_coordinatorReports :
    (∃ (s : State) (m : CmdMsg), s.blk.running = true ∧ s.blk.coordinator = true ∧ s.blk.mac.commands.find? (fun m => m.code == 0x10) =
      some m ∧ leAt m.body 0 1 ≤ 32 ∧ m.body.length = 2 + 20 * leAt m.body 0 1 ∧ s.blk.hasNode m.origin = true) ∧
    (∃ (s : State), s.blk.running = true ∧ s.blk.coordinator = true ∧ s.blk.mesh.downs = []) ∧
    (∃ (s : State) (x : Nat) (reporter : Nat) (other : Nat), s.blk.running = true ∧ s.blk.coordinator = true ∧ s.blk.mesh.downs = [(x,
      other, s.blk.get R.GLB_REV)] ∧ other ≠ reporter ∧ 0 < s.blk.get R.MAC_GRID_BP_CYCLES ∧ x ≠ 1 ∧ s.blk.hasNode x = true ∧
      s.blk.node x 11 1 = 2) ∧
    (∃ (s : State), s.blk.running = true ∧ s.blk.coordinator = false) ∧
    (∃ (s : State) (l : List Byte), s.blk.running = true ∧ s.blk.coordinator = true ∧ l.length ≠ 28 ∧ 0 < s.blk.sweepQueue ∧
      s.blk.sweepQueue < 4096 ∧ (s.blk.q s.blk.sweepQueue).bulk = false ∧ (s.blk.q s.blk.sweepQueue).refill = false ∧ (s.blk.q
      s.blk.sweepQueue).capacity ≠ 0 ∧ s.blk.openOf ctxMac = none ∧ s.blk.fill s.blk.sweepQueue + cellsOf l.length ≤ (s.blk.q
      s.blk.sweepQueue).capacity) ∧
    (∃ (s : State) (l : List Byte), s.blk.running = true ∧ s.blk.coordinator = true ∧ l.length = 28 ∧ 0 < s.blk.sweepQueue ∧
      s.blk.sweepQueue < 4096 ∧ (s.blk.q s.blk.sweepQueue).bulk = false ∧ (s.blk.q s.blk.sweepQueue).refill = false ∧ (s.blk.q
      s.blk.sweepQueue).capacity ≠ 0 ∧ s.blk.openOf ctxMac = none ∧ s.blk.fill s.blk.sweepQueue + 1 ≤ (s.blk.q
      s.blk.sweepQueue).capacity) ∧
    (∃ (s : State), s.blk.running = true ∧ s.blk.coordinator = false) :=
  ⟨⟨headEnd [] (withCommand report1), report1, by decide +kernel⟩,
    ⟨loneHead id, by decide +kernel⟩,
    ⟨headEnd [] (fun b => b.setMesh { b.mesh with downs := [(7, 9, 100)] }), 7, 8, 9, by decide +kernel⟩,
    ⟨joinedAt [], by decide +kernel⟩,
    ⟨sweepHead, [1, 2], by decide +kernel⟩,
    ⟨sweepHead, List.replicate 28 3, by decide +kernel⟩,
    ⟨joinedAt [], by decide +kernel⟩⟩
theorem wit_epochsAndAssignments :
    (∃ (s : State), s.blk.running = true ∧ s.blk.role ≠ 0 ∧ s.blk.image.run.isSome = true) ∧
    (∃ (s : State) (l : List Byte), s.blk.running = true ∧ s.blk.role ≠ 0 ∧ s.blk.image.run.isSome = true ∧ l.length = 26) ∧
    (∃ (s : State) (r : RouteSet), s.blk.running = true ∧ s.blk.hasGrid = true ∧ s.blk.mesh.pendingRoutes = [r] ∧ s.blk.reached r.rev =
      true ∧ s.blk.get R.MSH_STAT_ROUTE_VALID = 0) ∧
    (∃ (s : State), s.blk.running = true ∧ ((∀ r ∈ s.blk.mesh.pendingRoutes, s.blk.reached r.rev = false))) :=
  ⟨⟨joinedAt [], by decide +kernel⟩,
    ⟨joinedAt [], List.replicate 26 0, by decide +kernel⟩,
    ⟨joinedAt [] (fun m => { m with pendingRoutes := [⟨3, 100, [(1, [6, 0] ++ List.replicate 30 0)]⟩] }), ⟨3, 100, [(1, [6, 0] ++
      List.replicate 30 0)]⟩, by decide +kernel⟩,
    ⟨joinedAt [] (fun m => { m with pendingRoutes := [⟨3, 101, []⟩] }), by decide +kernel⟩⟩
theorem wit_routesAndLosses :
    (∃ (s : State), s.blk.running = true ∧ s.blk.coordinator = true ∧ s.blk.mesh.routeDue = true ∧ s.blk.elapsed
      s.blk.mesh.lastRecompute (s.blk.get R.MSH_LIMITS_RECOMPUTE_MIN) = true) ∧
    (∃ (s : State), s.blk.running = true ∧ s.blk.mesh.routeDue = false) ∧
    (∃ (s : State) (a : Nat) (g : GridVals), s.blk.running = true ∧ s.blk.coordinator = true ∧ s.blk.grid.cur = some g ∧ a ≠ 1 ∧
      s.blk.hasNode a = true ∧ s.blk.node a 11 1 = 2 ∧ s.blk.get R.MSH_LIMITS_LOST_PERIODS * s.blk.get R.MAC_GRID_BP_CYCLES * g.t <
      s.blk.now - unstamp64 (s.blk.node a 40 8) s.blk.now) ∧
    (∃ (s : State) (a : Nat), (s.blk.coordinator = false ∨ s.blk.node a 11 1 ≠ 2)) :=
  ⟨⟨loneHead (fun m => { m with routeDue := true }), by decide +kernel⟩,
    ⟨loneHead id, by decide +kernel⟩,
    ⟨headEnd [(R.MSH_LIMITS_LOST_PERIODS, 2)] (fun b => { b with time := { b.time with scale := 102400000 * 625 * 2 ^ 48 } }), 7, ⟨100,
      0, 20000000 * 65536⟩, by decide +kernel⟩,
    ⟨joinedAt [], 7, by decide +kernel⟩⟩
theorem wit_sweeps :
    (∃ (s : State) (n : Nat) (k : Nat), s.blk.reachable = true ∧ s.blk.coordinator = true ∧ s.blk.hasGrid = true ∧ s.blk.get
      R.MSH_SWEEP_STATE ≠ 1 ∧ s.blk.get R.MSH_SWEEP_STATE ≠ 2 ∧ k = (if n % 65536 = 0 then s.blk.assignedWindows else n % 65536) ∧ k ≠
      0) ∧
    (∃ (s : State), s.blk.coordinator = false) ∧
    (∃ (s : State) (m : CmdMsg), s.blk.running = true ∧ s.blk.mac.commands.find? (fun m => m.code == 0x13) = some m ∧ m.body.length = 8
      ∧ leAt m.body 6 2 ≠ 0 ∧ s.blk.get R.MSH_SWEEP_STATE ≠ 2) ∧
    (∃ (s : State) (m : CmdMsg), s.blk.running = true ∧ s.blk.mac.commands.find? (fun m => m.code == 0x13) = some m ∧ m.body.length = 8
      ∧ leAt m.body 6 2 = 0) ∧
    (∃ (s : State) (m : CmdMsg), s.blk.running = true ∧ s.blk.mac.commands.find? (fun m => m.code == 0x13) = some m ∧ m.body.length = 8
      ∧ leAt m.body 6 2 ≠ 0 ∧ s.blk.get R.MSH_SWEEP_STATE = 2 ∧ s.blk.roleAt 0 s.blk.grid.half (s.blk.get R.GLB_GRID_SLOT) = 3) ∧
    (∃ (s : State), s.blk.running = true ∧ s.blk.mayTransmit = true ∧ s.blk.hasGrid = true ∧ s.blk.get R.MSH_SWEEP_STATE = 2 ∧
      s.blk.get R.MSH_WINDOW < s.blk.mesh.sweepWindows ∧ s.blk.get R.MSH_WINDOW ≠ 0xFFFF ∧ s.blk.mesh.window = s.blk.get R.MSH_WINDOW ∧
      s.blk.forbidden 0 = false ∧ s.blk.fitsRun s.blk.collectFrame.1 3 = true) ∧
    (∃ (s : State), s.blk.running = true ∧ s.blk.mesh.window ≠ s.blk.get R.MSH_WINDOW) ∧
    (∃ (s : State), s.blk.running = true ∧ s.blk.role = 0 ∧ s.blk.get R.MSH_COLLECT_CFG_CAP ≠ 0 ∧ s.blk.image.run.isSome = true) ∧
    (∃ (s : State) (w : Nat) (x : CollectTry) (h : Header) (pl : List Byte) (p : List Byte) (snr : Rat) (tag : Nat) (b1 : Block) (b2 :
      Block) (b3 : Block), s.blk.running = true ∧ s.blk.role = 0 ∧ s.blk.get R.MSH_COLLECT_CFG_CAP ≠ 0 ∧ s.blk.image.run.isSome = true
      ∧ 1 ≤ s.blk.get R.MSH_COLLECT_CFG_PASSES ∧ s.blk.mesh.suppressed.contains w = false ∧ s.blk.decodeCollect x = some (h, pl) ∧
      h.net = s.blk.netId ∧ h.dst = s.blk.short ∧ h.ftype = 5 ∧ s.blk.streamSnr
      [{ stream := 0, exp := modeExp h.mode, sig := x.sig, err := x.err }] = (snr, b1) ∧ b1.openPart h
      { ctr := h.ctr, ackReq := false, sec := h.sec, epoch := h.epoch, payload := pl, ok := true } true = (some (p, tag), b2) ∧
      b2.dupCheck h.src 1 h.ctr h.epoch tag true = (.accept, b3)) ∧
    (∃ (s : State), s.blk.role = 2) :=
  ⟨⟨headEnd, 5, 5, by decide +kernel⟩,
    ⟨joinedAt [], by decide +kernel⟩,
    ⟨sweepAt 4, sweep1 4, by decide +kernel⟩,
    ⟨sweepAt 0, sweep1 0, by decide +kernel⟩,
    ⟨sweepAt 4 [(R.MSH_SWEEP_STATE, 2), (R.MAC_ROW_H 0, 0x33333333), (R.MAC_GRID_BP_CYCLES, 1)], sweep1 4, by decide +kernel⟩,
    ⟨memberAt 0, by decide +kernel⟩,
    ⟨memberAt 1, by decide +kernel⟩,
    ⟨sweepHead (fun b => b.setNode 8 34 2 5), by decide +kernel⟩,
    ⟨sweepHead (fun b => b.setAll [(R.MSH_COLLECT_CFG_PASSES, 1), (R.PHY_DEC_ITER, 1)]), 5, colTry, colHdr, colPl, colPl, (((sweepHead
      (fun b => b.setAll [(R.MSH_COLLECT_CFG_PASSES, 1), (R.PHY_DEC_ITER, 1)])).blk.streamSnr
      [{ stream := 0, exp := 8, sig := 100, err := 10 }]).1), crc32 colPl, (sweepHead (fun b => b.setAll [(R.MSH_COLLECT_CFG_PASSES,
      1), (R.PHY_DEC_ITER, 1)])).blk, (sweepHead (fun b => b.setAll [(R.MSH_COLLECT_CFG_PASSES, 1), (R.PHY_DEC_ITER, 1)])).blk,
      ((sweepHead (fun b => b.setAll [(R.MSH_COLLECT_CFG_PASSES, 1), (R.PHY_DEC_ITER, 1)])).blk.dupCheck 8 1 3 0 (crc32 colPl) true).2,
      by decide +kernel⟩,
    ⟨joinedAt [(R.MSH_STAT_ROLE, 2)], by decide +kernel⟩⟩

/-! Keys and joining. -/

/-- A joining node in M5 with candidate 5, tried `n` times of JOIN_TRIES 3. -/
def joining (n : Nat) (f : SecUnit → SecUnit := id) (d : List Delivered := []) : State :=
  gridNode 5 [(R.MSH_STAT_ROLE, 1)] (fun b => { b with
    image := { b.image with run := some { segs := [⟨7, 0, 0xFF, 0, 0, 0, [], List.replicate 0x0F 0 ++ [3]⟩] } }
    sec := f b.sec, phy := { b.phy with delivered := d }
    mac := { b.mac with candidate := some 5, candidates := [{ addr := 5, snr := 9, depth := 0, band := 0, port := 0, tries := n }] } })
def relayed (sub : Byte) (n : Nat) : List Byte := sub :: List.replicate n 0
def relay1 : CmdMsg := ⟨0x23, 7, 7, 0, 0, leBytes 12 8 ++ [1, 0, 0, 0]⟩
/-- The head-end with a message of joiner 12, which node 7 relayed. -/
def joinHead (l : List Byte) (js : List Joiner := []) (f : SecUnit → SecUnit := id) : State :=
  headEnd [] (fun b => b.setSec (f { b.sec with joinMsgs := [(12, 7, l)], joiners := js }))
def joiner1 (e : Nat) : Joiner := { eui := e, via := 7, nj := [], hello := [], challenge := [], priv := [] }
def own1 (n : Nat) : OwnJoin := { cand := 5, step := n, nj := [], priv := [], hello := [] }
def heardJoin (l : List Byte) (n : Nat) : State := joining 0 (fun u => { u with own := some (own1 n) }) [heardAs { ftype := 7, src := 5 } l]
/-- A KEY_UPDATE: epoch 3, SWITCH_REV 9, under the node key of zeros from coordinator 12. -/
def update1 : CmdMsg := ⟨0x22, 1, 1, 0, 0, [3, 0, 0, 0, 9, 0, 0, 0] ++ [152, 237, 147, 245, 63, 157, 172, 93, 186, 162, 52, 9, 239, 176, 193, 239, 157, 116, 98, 6, 92, 165, 209, 107, 211,
  160, 73, 236, 196, 133, 185, 100, 210, 4, 18, 60, 191, 46, 202, 61, 241, 30, 232, 80, 18, 172, 124, 123]⟩
def keyHead (f : SecUnit → SecUnit := id) (l : List (Field × Nat) := []) : State :=
  headEnd l (fun b => withCommand ⟨0x24, 7, 7, 0, 0, []⟩ (b.setSec (f { b.sec with cur := some (15, []), master := some [] })))
def request1 (origin : Nat) (b : Byte) : CmdMsg := ⟨0x20, origin, 1, 0, 0, [b, 0, 3, 0]⟩
def snap1 (t : Nat) : CmdMsg := ⟨0x21, 1, 1, 0, 0, [5, 0, 0, 0] ++ leBytes (stamp96 t) 12⟩
def snapNode (t : Nat) : State := rxNode 6 (heardAs {} []) [] (fun b => withCommand (snap1 t)
  { b with time := { b.time with scale := 25000 * 4096 * 625 * 2 ^ 48 } })
/-- The block after a join message is taken. -/
def tookJoin (f : Nat → Bool) (b : Block) : Block := match b.takeJoin f with | some x => x.2.2 | none => b
/-- A joining node in M6 with a node key and the KEY_UPDATE `update1`. -/
def updated : State := { joining 0 (fun u => { u with coord := 12, node := some (List.replicate 32 0) }) with
  blk := withCommand update1 ((joining 0 (fun u => { u with coord := 12, node := some (List.replicate 32 0) })).blk.set R.PWR_MODE_MODE 6) }
/-- A relay that heard a HELLO of a joiner. -/
def relayNode : State := rxNode 6 (heardAs { ftype := 7, src := 0 } (relayed 1 67))
def candidate1 (n : Nat) : Candidate := { addr := 5, snr := 9, depth := 0, band := 0, port := 0, tries := n }
def noOwn : OwnJoin := { cand := 0, step := 0, nj := [], priv := [], hello := [] }
/-- A keyed member of a network in M6 without the next key. -/
def keyedNode : State := { joining 0 (fun u => { u with cur := some (1, []) }) with
  blk := (joining 0 (fun u => { u with cur := some (1, []) })).blk.set R.PWR_MODE_MODE 6 }
def grace (missed : Bool) (l : List (Field × Nat) := []) : State := keyHead (fun u => { u with prev := some (14, []), switchTick := some 0, missed := missed }) l

theorem test_joinTx : let s := joining 2; s.blk.mode = 5 ∧ s.blk.mac.candidate = some 5 ∧ s.blk.mac.granted = false ∧
    (s.blk.mac.candidates.find? (fun x => x.addr == 5)).map (fun x => x.tries) = some 2 ∧ leAt s.blk.macRole 0x0F 1 = 3 ∧
    s.blk.sec.own = none ∧ ((after .joinTx s).blk.mac.order.map (fun f => (f.hdr.ftype, f.hdr.dst, f.hdr.src))) = [(7, 5, 0)] ∧
    ((after .joinTx s).blk.mac.candidates.map (fun x => x.tries)) = [3] := by decide +kernel
theorem test_joinTx_passed : let s := joining 3; (s.blk.mac.candidates.find? (fun x => x.addr == 5)).map (fun x => x.tries) = some 3 ∧
    (after .joinTx s).blk.mac.candidate = none ∧ ((after .joinTx s).blk.mac.candidates.map (fun x => x.passed)) = [true] ∧
    (after .joinTx s).blk.power.trans = some 4 := by decide +kernel
theorem test_joinRelay : let s := headEnd [] (withCommand relay1); s.blk.running = true ∧ s.blk.coordinator = true ∧
    s.blk.mac.commands.find? (fun m => m.code == 0x23) = some relay1 ∧ 12 ≤ relay1.body.length ∧
    (after .joinRelay s).blk.sec.joinMsgs = [(12, 7, [1, 0, 0, 0])] := by decide +kernel
theorem test_joinRelay_down : let s := rxNode 6 (heardAs {} []) [] (withCommand relay1); s.blk.running = true ∧ s.blk.role = 1 ∧
    s.blk.mac.commands.find? (fun m => m.code == 0x23) = some relay1 ∧
    ((after .joinRelay s).blk.mac.order.map (fun f => (f.hdr.ftype, f.hdr.dst, f.payload))) = [(7, 0, [1, 0, 0, 0])] := by
  decide +kernel
theorem test_hello : let l := relayed 1 67; let s := joinHead l; s.blk.running = true ∧ s.blk.coordinator = true ∧
    s.blk.sec.joinMsgs.find? (fun m => leAt m.2.2 0 1 == 1) = some (12, 7, l) ∧ l.length = 68 ∧ s.blk.joiner 12 = none ∧
    s.blk.sec.joiners.length < 64 ∧ ((after .hello s).blk.sec.joiners.map (fun j => (j.eui, j.hello))) = [(12, l)] := by decide +kernel
theorem test_hello_full : let l := relayed 1 67; let s := joinHead l ((List.range 64).map (fun i => joiner1 (i + 100)));
    s.blk.sec.joinMsgs.find? (fun m => leAt m.2.2 0 1 == 1) = some (12, 7, l) ∧ l.length = 68 ∧ s.blk.joiner 12 = none ∧
    64 ≤ s.blk.sec.joiners.length ∧ (after .hello s).blk.get R.SEC_JOIN_REFUSED_COUNT = 1 := by decide +kernel
/-- R484: 30 s are 750000 ticks. -/
theorem test_joinerStateExpiry : let s := joinHead [] [joiner1 12, joiner1 13]; let f (n : Nat) : State := { s with blk := s.blk.set R.GLB_TICK n };
    (after (.joinerStateExpiry 12) (f 750000)).blk.sec.joiners = [joiner1 13] ∧
    (after (.joinerStateExpiry 12) (f 749999)).blk.sec.joiners = [joiner1 12, joiner1 13] := by decide +kernel
theorem test_proof : let l := relayed 3 195;
    let s := joinHead l [joiner1 12] (fun u => { u with cur := some (0, []), master := some [] });
    s.blk.running = true ∧ s.blk.coordinator = true ∧
    s.blk.sec.joinMsgs.find? (fun m => leAt m.2.2 0 1 == 3) = some (12, 7, l) ∧ s.blk.joiner 12 = some (joiner1 12) ∧
    l.length = 196 ∧ (joiner1 12).grant = [] ∧ s.blk.sec.cur = some (0, []) ∧ s.blk.sec.master = some [] ∧
    (after .proof s).blk.sec.joiners = [] ∧ (after .proof s).blk.get R.SEC_JOIN_REFUSED_COUNT = 1 := by decide +kernel
theorem test_refuseJoin : let l := relayed 5 10; let s := heardJoin l 1; s.blk.mode = 5 ∧
    (s.blk.takeJoin (fun t => t == 5)).map (fun x => (x.1, x.2.1)) = some (l, 5) ∧ s.blk.sec.own = some (own1 1) ∧ l.length ≠ 12 ∧
    (after .refuseJoin s).blk.sec.own = some (own1 1) := by decide +kernel
theorem test_challenge : let l := relayed 2 99; let s := heardJoin l 1; s.blk.mode = 5 ∧
    (s.blk.takeJoin (fun t => t == 2)).map (fun x => (x.1, x.2.1)) = some (l, 5) ∧ s.blk.sec.own = some (own1 1) ∧ l.length ≠ 260 ∧
    (after .challenge s).blk.sec.own = some (own1 1) := by decide +kernel
theorem test_grant : let l := relayed 4 107; let s := heardJoin l 2; s.blk.mode = 5 ∧
    (s.blk.takeJoin (fun t => t == 4)).map (fun x => (x.1, x.2.1)) = some (l, 5) ∧ s.blk.sec.own = some (own1 2) ∧
    (own1 2).step = 2 ∧ l.length = 108 := by decide +kernel
theorem test_keyUpdate_opens : update1.body.length = 56 ∧ leAt update1.body 0 1 = 3 ∧ leAt update1.body 4 4 = 9 ∧
    ccmOpen (List.replicate 32 0) (updateNonce 12 9 3) (update1.body.take 8) (update1.body.drop 8) 16 =
      some (List.replicate 32 0x11) := by decide +kernel
theorem test_keyUpdate : let s := joining 0 (fun u => { u with coord := 12, node := some (List.replicate 32 0) });
    let s : State := { s with blk := withCommand update1 (s.blk.set R.PWR_MODE_MODE 6) }; s.blk.running = true ∧ s.blk.role ≠ 0 ∧
    s.blk.mac.commands.map (fun m => m.code) = [0x22] ∧ s.blk.sec.node = some (List.replicate 32 0) ∧ s.blk.sec.coord = 12 := by decide +kernel
theorem test_keyLow : let s := keyHead; s.blk.running = true ∧ s.blk.coordinator = true ∧ s.blk.sec.next = none ∧
    (s.blk.mac.commands.find? (fun m => m.code == 0x24)).isSome = true ∧ s.blk.sec.cur = some (15, []) ∧ s.blk.sec.master = some [] ∧
    ((after .keyLow s).blk.sec.next.map (fun k => k.1)) = some 0 := by decide +kernel
theorem test_keyLow_pending : let s := keyHead (fun u => { u with next := some (0, [1]) }); s.blk.sec.next.isSome = true ∧
    (s.blk.mac.commands.find? (fun m => m.code == 0x24)).isSome = true ∧ (after .keyLow s).blk.sec.next = some (0, [1]) := by
  decide +kernel
/-- R486: four hours are 360000000 ticks. -/
theorem test_keyPeriodExpiry : let f (n : Nat) := keyHead id [(R.SEC_CFG_KEY_PERIOD, 4), (R.GLB_TICK, n)];
    ((after .keyPeriodExpiry (f 360000000)).blk.sec.next.map (fun k => k.1)) = some 0 ∧
    (after .keyPeriodExpiry (f 359999999)).blk.sec.next = none := by decide +kernel
theorem test_epochSwitch : let s := keyHead (fun u => { u with next := some (0, [1]), switchRev := some 100 }) [(R.SEC_TX_CTR, 9)];
    s.blk.running = true ∧ s.blk.sec.next = some (0, [1]) ∧ s.blk.sec.switchRev = some 100 ∧ s.blk.hasGrid = true ∧
    s.blk.reached 100 = true ∧ (after .epochSwitch s).blk.sec.cur = some (0, [1]) ∧ (after .epochSwitch s).blk.sec.prev = some (15, []) ∧
    (after .epochSwitch s).blk.get R.SEC_TX_CTR = 0 ∧ (after .epochSwitch s).blk.get R.SEC_STAT_PREV_HELD = 1 := by decide +kernel
theorem test_epochSwitch_none : keyHead.blk.running = true ∧ keyHead.blk.sec.next = none ∧
    (after .epochSwitch keyHead).blk.sec.cur = some (15, []) := by decide +kernel
theorem test_modeRequest : let s := rxNode 6 (heardAs {} []) [] (withCommand (request1 1 9)); s.blk.running = true ∧
    s.blk.coordinator = false ∧ s.blk.mac.commands.find? (fun m => m.code == 0x20) = some (request1 1 9) ∧
    requestPermitted s.blk.mode 9 (s.blk.role == 0) s.blk.dozeOk true = true ∧ s.blk.power.trans = none ∧
    (after .modeRequest s).blk.power.trans = some 9 ∧ (after .modeRequest s).blk.get R.PWR_STBY_TIME = 3 := by decide +kernel
theorem test_modeRequest_origin : let s := rxNode 6 (heardAs {} []) [] (withCommand (request1 2 9)); s.blk.running = true ∧
    s.blk.mac.commands.find? (fun m => m.code == 0x20) = some (request1 2 9) ∧ (request1 2 9).origin ≠ 1 ∧
    (after .modeRequest s).blk.power.trans = none := by decide +kernel
theorem test_snapshot : let t := 2000000000 * 65536; let s := snapNode t; s.blk.running = true ∧
    s.blk.mac.commands.find? (fun m => m.code == 0x21) = some (snap1 t) ∧ (snap1 t).body.length = 16 ∧
    leAt (snap1 t).body 0 2 = 5 ∧ unstamp96 (leAt (snap1 t).body 4 12) = t ∧ s.blk.trouble.taken = none ∧
    s.blk.trouble.netSnap = none ∧ s.blk.tickStart ≤ t ∧ (after .snapshot s).blk.trouble.netSnap = some { id := 5, t := t } ∧
    (after .snapshot s).blk.get R.TRB_SNAP_STAT_SCHED_ID = 5 := by decide +kernel
theorem test_snapshot_missed : let t := 500000000 * 65536; let s := snapNode t; unstamp96 (leAt (snap1 t).body 4 12) = t ∧
    t ≠ 0 ∧ t < s.blk.tickStart ∧ s.blk.trouble.netSnap = none ∧ (after .snapshot s).blk.get R.TRB_TROUBLE_SNAP_MISSED = 1 := by
  decide +kernel

/-! Witnesses: for each clause of the statements above with hypotheses, a state and operands that meet them all. -/

theorem wit_joinAttempts :
    (∃ (s : State) (c : Nat) (x : Candidate), s.blk.mode = 5 ∧ s.blk.mac.candidate = some c ∧ s.blk.mac.granted = false ∧
      s.blk.mac.candidates.find? (fun x => x.addr == c) = some x ∧ x.tries < leAt s.blk.macRole 0x0F 1 ∧ s.blk.sec.own = none) ∧
    (∃ (s : State) (c : Nat) (x : Candidate), s.blk.mode = 5 ∧ s.blk.mac.candidate = some c ∧ s.blk.mac.granted = false ∧
      s.blk.mac.candidates.find? (fun x => x.addr == c) = some x ∧ leAt s.blk.macRole 0x0F 1 ≤ x.tries) :=
  ⟨⟨joining 2, 5, candidate1 2, by decide +kernel⟩,
    ⟨joining 3, 5, candidate1 3, by decide +kernel⟩⟩
theorem wit_joinRelayAndHello :
    (∃ (s : State) (m : CmdMsg), s.blk.running = true ∧ s.blk.coordinator = true ∧ s.blk.mac.commands.find? (fun m => m.code == 0x23) =
      some m ∧ 12 ≤ m.body.length) ∧
    (∃ (s : State) (m : CmdMsg), s.blk.running = true ∧ s.blk.role = 1 ∧ s.blk.mac.commands.find? (fun m => m.code == 0x23) = some m ∧
      12 ≤ m.body.length) ∧
    (∃ (s : State) (l : List Byte) (src : Nat) (b : Block), s.blk.running = true ∧ s.blk.role = 1 ∧ s.blk.mode ≠ 5 ∧
      s.blk.mac.commands.find? (fun m => m.code == 0x23) = none ∧ s.blk.takeJoin (fun t => t == 1 || t == 3) = some (l, src, b)) ∧
    (∃ (s : State) (eui : Nat) (via : Nat) (l : List Byte), s.blk.running = true ∧ s.blk.coordinator = true ∧ s.blk.sec.joinMsgs.find?
      (fun m => leAt m.2.2 0 1 == 1) = some (eui, via, l) ∧ l.length = 68 ∧ s.blk.joiner eui = none ∧ s.blk.sec.joiners.length < 64) ∧
    (∃ (s : State) (eui : Nat) (via : Nat) (l : List Byte), s.blk.running = true ∧ s.blk.coordinator = true ∧ s.blk.sec.joinMsgs.find?
      (fun m => leAt m.2.2 0 1 == 1) = some (eui, via, l) ∧ l.length = 68 ∧ s.blk.joiner eui = none ∧ 64 ≤ s.blk.sec.joiners.length) ∧
    (∃ (s : State) (eui : Nat) (j : Joiner), s.blk.running = true ∧ s.blk.joiner eui = some j ∧ j.since + 750000 ≤ s.blk.tick) ∧
    (∃ (s : State) (eui : Nat) (j : Joiner), s.blk.joiner eui = some j ∧ s.blk.tick < j.since + 750000) :=
  ⟨⟨headEnd [] (withCommand relay1), relay1, by decide +kernel⟩,
    ⟨rxNode 6 (heardAs {} []) [] (withCommand relay1), relay1, by decide +kernel⟩,
    ⟨relayNode, relayed 1 67, 0, tookJoin (fun t => t == 1 || t == 3) (relayNode).blk, by decide +kernel⟩,
    ⟨joinHead (relayed 1 67), 12, 7, relayed 1 67, by decide +kernel⟩,
    ⟨joinHead (relayed 1 67) ((List.range 64).map (fun i => joiner1 (i + 100))), 12, 7, relayed 1 67, by decide +kernel⟩,
    ⟨{ joinHead [] [joiner1 12, joiner1 13] with blk := (joinHead [] [joiner1 12, joiner1 13]).blk.set R.GLB_TICK 750000 }, 12, joiner1
      12, by decide +kernel⟩,
    ⟨joinHead [] [joiner1 12, joiner1 13], 12, joiner1 12, by decide +kernel⟩⟩
theorem wit_proofAndRefusal :
    (∃ (s : State) (eui : Nat) (via : Nat) (e : Nat) (l : List Byte) (k : List Byte) (master : List Byte) (j : Joiner), s.blk.running =
      true ∧ s.blk.coordinator = true ∧ s.blk.sec.joinMsgs.find? (fun m => leAt m.2.2 0 1 == 3) = some (eui, via, l) ∧ s.blk.joiner eui
      = some j ∧ s.blk.sec.cur = some (e, k) ∧ s.blk.sec.master = some master ∧ l.length = 196 ∧ j.grant = [] ∧ eui < 2 ^ 64) ∧
    (∃ (s : State) (eui : Nat) (via : Nat) (e : Nat) (l : List Byte) (k : List Byte) (master : List Byte) (j : Joiner), s.blk.running =
      true ∧ s.blk.coordinator = true ∧ s.blk.sec.joinMsgs.find? (fun m => leAt m.2.2 0 1 == 3) = some (eui, via, l) ∧ s.blk.joiner eui
      = some j ∧ s.blk.sec.cur = some (e, k) ∧ s.blk.sec.master = some master ∧ l.length = 196 ∧ j.grant ≠ [] ∧ via ≠ 0) ∧
    (∃ (s : State) (l : List Byte) (src : Nat) (b : Block) (o : OwnJoin), s.blk.mode = 5 ∧ s.blk.takeJoin (fun t => t == 5) = some (l,
      src, b) ∧ s.blk.sec.own = some o) :=
  ⟨⟨joinHead (relayed 3 195) [joiner1 12] (fun u => { u with cur := some (0, []), master := some [] }), 12, 7, 0, relayed 3 195, [],
      [], joiner1 12, by decide +kernel⟩,
    ⟨joinHead (relayed 3 195) [{ joiner1 12 with grant := [1] }] (fun u => { u with cur := some (0, []), master := some [] }), 12, 7,
      0, relayed 3 195, [], [], { joiner1 12 with grant := [1] }, by decide +kernel⟩,
    ⟨heardJoin (relayed 5 10) 1, relayed 5 10, 5, tookJoin (fun t => t == 5) (heardJoin (relayed 5 10) 1).blk, own1 1,
      by decide +kernel⟩⟩
theorem wit_challengeAndGrant :
    (∃ (s : State) (l : List Byte) (src : Nat) (b : Block) (o : OwnJoin), s.blk.mode = 5 ∧ s.blk.takeJoin (fun t => t == 2) = some (l,
      src, b) ∧ s.blk.sec.own = some o) ∧
    (∃ (s : State) (l : List Byte) (src : Nat) (b : Block) (o : OwnJoin), s.blk.mode = 5 ∧ s.blk.takeJoin (fun t => t == 4) = some (l,
      src, b) ∧ s.blk.sec.own = some o ∧ o.step = 2 ∧ l.length = 108) :=
  ⟨⟨heardJoin (relayed 2 99) 1, relayed 2 99, 5, tookJoin (fun t => t == 2) (heardJoin (relayed 2 99) 1).blk, own1 1,
      by decide +kernel⟩,
    ⟨heardJoin (relayed 4 107) 2, relayed 4 107, 5, tookJoin (fun t => t == 4) (heardJoin (relayed 4 107) 2).blk, own1 2,
      by decide +kernel⟩⟩
theorem wit_keyAdvance :
    (∃ (s : State) (m : CmdMsg) (kn : List Byte) (k : List Byte), s.blk.running = true ∧ s.blk.mac.commands.find? (fun m => m.code ==
      0x22) = some m ∧ s.blk.sec.node = some kn ∧ m.body.length = 56 ∧ s.blk.role ≠ 0 ∧ ccmOpen kn (updateNonce s.blk.sec.coord (leAt
      m.body 4 4) (leAt m.body 0 1)) (m.body.take 8) (m.body.drop 8) 16 = some k) ∧
    (∃ (s : State) (m : CmdMsg) (e : Nat) (k : List Byte) (master : List Byte), s.blk.running = true ∧ s.blk.coordinator = true ∧
      s.blk.mac.commands.find? (fun m => m.code == 0x24) = some m ∧ s.blk.sec.next = none ∧ s.blk.sec.cur = some (e, k) ∧
      s.blk.sec.master = some master) ∧
    (∃ (s : State) (m : CmdMsg), s.blk.running = true ∧ s.blk.mac.commands.find? (fun m => m.code == 0x24) = some m ∧
      s.blk.sec.next.isSome = true) ∧
    (∃ (s : State) (e : Nat) (k : List Byte) (master : List Byte), s.blk.running = true ∧ s.blk.coordinator = true ∧ s.blk.get
      R.SEC_CFG_KEY_PERIOD ≠ 0 ∧ s.blk.sec.advanceTick + 90000000 * s.blk.get R.SEC_CFG_KEY_PERIOD ≤ s.blk.tick ∧ s.blk.sec.cur = some
      (e, k) ∧ s.blk.sec.master = some master) ∧
    (∃ (s : State), (s.blk.coordinator = false ∨ s.blk.get R.SEC_CFG_KEY_PERIOD = 0 ∨ s.blk.tick < s.blk.sec.advanceTick + 90000000 *
      s.blk.get R.SEC_CFG_KEY_PERIOD)) :=
  ⟨⟨updated, update1, List.replicate 32 0, List.replicate 32 0x11, by decide +kernel⟩,
    ⟨keyHead, ⟨0x24, 7, 7, 0, 0, []⟩, 15, [], [], by decide +kernel⟩,
    ⟨keyHead (fun u => { u with next := some (0, [1]) }), ⟨0x24, 7, 7, 0, 0, []⟩, by decide +kernel⟩,
    ⟨keyHead id [(R.SEC_CFG_KEY_PERIOD, 4), (R.GLB_TICK, 360000000)], 15, [], [], by decide +kernel⟩,
    ⟨keyHead id [(R.SEC_CFG_KEY_PERIOD, 4), (R.GLB_TICK, 359999999)], by decide +kernel⟩⟩
theorem wit_epochSwitches :
    (∃ (s : State) (e : Nat) (rev : Nat) (k : List Byte), s.blk.running = true ∧ s.blk.sec.next = some (e, k) ∧ s.blk.sec.switchRev =
      some rev ∧ s.blk.hasGrid = true ∧ s.blk.reached rev = true) ∧
    (∃ (s : State), s.blk.running = true ∧ s.blk.sec.next = none ∧ s.blk.hasGrid = true ∧ s.blk.keyed = true ∧ s.blk.role ≠ 0) ∧
    (∃ (s : State) (n : Nat), s.blk.running = true ∧ s.blk.sec.switchTick = some n ∧ n + 25000 * s.blk.get R.SEC_CFG_KEY_GRACE ≤
      s.blk.tick ∧ s.blk.sec.missed = false) ∧
    (∃ (s : State) (n : Nat), s.blk.running = true ∧ s.blk.sec.switchTick = some n ∧ n + 25000 * s.blk.get R.SEC_CFG_KEY_GRACE ≤
      s.blk.tick ∧ s.blk.sec.missed = true) ∧
    (∃ (s : State) (n : Nat), s.blk.sec.switchTick = some n ∧ s.blk.tick < n + 25000 * s.blk.get R.SEC_CFG_KEY_GRACE) :=
  ⟨⟨keyHead (fun u => { u with next := some (0, [1]), switchRev := some 100 }) [(R.SEC_TX_CTR, 9)], 0, 100, [1], by decide +kernel⟩,
    ⟨keyedNode, by decide +kernel⟩,
    ⟨grace false, 0, by decide +kernel⟩,
    ⟨grace true, 0, by decide +kernel⟩,
    ⟨grace false [(R.SEC_CFG_KEY_GRACE, 2)], 0, by decide +kernel⟩⟩
theorem wit_modeRequestAndSnapshot :
    (∃ (s : State) (m : CmdMsg), s.blk.running = true ∧ s.blk.mac.commands.find? (fun m => m.code == 0x20) = some m ∧ s.blk.coordinator
      = false ∧ m.origin = 1 ∧ m.body.length = 4 ∧ (leAt m.body 0 1 = 6 ∨ leAt m.body 0 1 = 8 ∨ leAt m.body 0 1 = 9 ∨ leAt m.body 0 1 =
      10) ∧ requestPermitted s.blk.mode (leAt m.body 0 1) (s.blk.role == 0) s.blk.dozeOk true = true ∧ s.blk.power.trans = none) ∧
    (∃ (s : State) (m : CmdMsg), s.blk.running = true ∧ s.blk.mac.commands.find? (fun m => m.code == 0x20) = some m ∧ m.origin ≠ 1) ∧
    (∃ (s : State) (m : CmdMsg), s.blk.running = true ∧ s.blk.mac.commands.find? (fun m => m.code == 0x20) = some m ∧ m.origin = 1 ∧
      m.body.length = 4 ∧ [6, 8, 9, 10].contains (leAt m.body 0 1) = false) ∧
    (∃ (s : State) (m : CmdMsg), s.blk.running = true ∧ s.blk.mac.commands.find? (fun m => m.code == 0x20) = some m ∧ m.origin = 1 ∧
      m.body.length = 4 ∧ [6, 8, 9, 10].contains (leAt m.body 0 1) = true ∧ requestPermitted s.blk.mode (leAt m.body 0 1) (s.blk.role
      == 0) s.blk.dozeOk true = false) ∧
    (∃ (s : State) (m : CmdMsg) (x : Nat), s.blk.running = true ∧ s.blk.mac.commands.find? (fun m => m.code == 0x21) = some m ∧
      m.body.length = 16 ∧ stamp96Ok (leAt m.body 4 12) = true ∧ x = unstamp96 (leAt m.body 4 12) ∧ s.blk.trouble.taken ≠ some (leAt
      m.body 0 2) ∧ ((∀ q, s.blk.trouble.netSnap = some q → q.id ≠ leAt m.body 0 2)) ∧ (x = 0 ∨ s.blk.tickStart ≤ x)) ∧
    (∃ (s : State) (m : CmdMsg) (x : Nat), s.blk.running = true ∧ s.blk.mac.commands.find? (fun m => m.code == 0x21) = some m ∧
      m.body.length = 16 ∧ stamp96Ok (leAt m.body 4 12) = true ∧ x = unstamp96 (leAt m.body 4 12) ∧ s.blk.trouble.taken ≠ some (leAt
      m.body 0 2) ∧ ((∀ q, s.blk.trouble.netSnap = some q → q.id ≠ leAt m.body 0 2)) ∧ x ≠ 0 ∧ x < s.blk.tickStart) ∧
    (∃ (s : State) (m : CmdMsg), s.blk.running = true ∧ s.blk.mac.commands.find? (fun m => m.code == 0x21) = some m ∧ m.body.length =
      16 ∧ stamp96Ok (leAt m.body 4 12) = false) :=
  ⟨⟨rxNode 6 (heardAs {} []) [] (withCommand (request1 1 9)), request1 1 9, by decide +kernel⟩,
    ⟨rxNode 6 (heardAs {} []) [] (withCommand (request1 2 9)), request1 2 9, by decide +kernel⟩,
    ⟨rxNode 6 (heardAs {} []) [] (withCommand (request1 1 7)), request1 1 7, by decide +kernel⟩,
    ⟨rxNode 10 (heardAs {} []) [] (withCommand (request1 1 8)), request1 1 8, by decide +kernel⟩,
    ⟨snapNode (2000000000 * 65536), snap1 (2000000000 * 65536), 2000000000 * 65536, by decide +kernel⟩,
    ⟨snapNode (500000000 * 65536), snap1 (500000000 * 65536), 500000000 * 65536, by decide +kernel⟩,
    ⟨rxNode 6 (heardAs {} []) [] (withCommand ⟨0x21, 1, 1, 0, 0, List.replicate 16 255⟩), ⟨0x21, 1, 1, 0, 0, List.replicate 16 255⟩,
      by decide +kernel⟩⟩

/-! Queues. -/

def pk (n : Nat) : Packet := ⟨0, 0, 0, List.replicate n 0⟩
/-- Queue 5 in mode `m` with some registers. -/
def qState (m : Nat) (q : Queue) (l : List (Field × Nat) := []) (o : List OpenPkt := []) : State :=
  inMode m l (fun b => { b with queue := { b.queue with queues := [(5, q)], opened := o } })
def opened20 : State := qState 6 { capacity := 3, pkts := [pk 1] } [(R.GLB_TICK, 65539)] [⟨20, 5, 2, 7, 8⟩]
def twoPkts (q : Queue) (m : Nat := 6) : State := qState m { q with capacity := 3, pkts := [pk 2, pk 1] }
/-- Queue 5 to be refilled from channel 7, whose inbound journal holds one message. -/
def refillAt : State := inMode 6 [] (fun b => { b with
  queue := { b.queue with queues := [(5, { capacity := 3, refill := true, journal := 7 })] }
  custody := { b.custody with chans := [(7, { inJ := [(4, [1, 2])] })] } })

theorem test_packetSop : let s := qState 6 { capacity := 3, thresh := 3, assured := true }; s.blk.running = true ∧
    (s.blk.q 5).capacity ≠ 0 ∧ (s.blk.q 5).refill = false ∧ (s.blk.q 5).bulk = false ∧ cellsOf 113 = 2 ∧
    s.blk.fill 5 + cellsOf 113 ≤ (s.blk.q 5).capacity ∧ crosses (s.blk.q 5).thresh (s.blk.fill 5) (s.blk.fill 5 + cellsOf 113) = false ∧
    (after (.packetSop 20 5 113 1 2) s).blk.fill 5 = 2 ∧ (after (.packetSop 20 5 113 1 2) s).blk.statusOf 20 = 0 := by decide +kernel
theorem test_packetSop_thresh : let s := qState 6 { capacity := 3, thresh := 2, assured := true };
    crosses (s.blk.q 5).thresh (s.blk.fill 5) (s.blk.fill 5 + cellsOf 113) = true ∧
    (after (.packetSop 20 5 113 1 2) s).blk.get R.QMG_THR_STAT = 32 := by decide +kernel
theorem test_packetSop_full : let s := qState 6 { capacity := 3, assured := true, pkts := [pk 112, pk 1] }; (s.blk.q 5).assured = true ∧
    (s.blk.q 5).capacity < s.blk.fill 5 + cellsOf 113 ∧ (after (.packetSop 20 5 113 1 2) s).blk.statusOf 20 = 1 ∧
    ((after (.packetSop 20 5 113 1 2) s).blk.q 5).refused = 1 := by decide +kernel
theorem test_packetSop_evict : let s := qState 6 { capacity := 3, pkts := [pk 112, pk 1] }; (s.blk.q 5).assured = false ∧
    (s.blk.q 5).capacity < s.blk.fill 5 + cellsOf 113 ∧ (s.blk.q 5).evict (s.blk.fill 5) (cellsOf 113) = some ([pk 1], 1) ∧
    (after (.packetSop 20 5 113 1 2) s).blk.fill 5 = 3 ∧ ((after (.packetSop 20 5 113 1 2) s).blk.q 5).lost = 1 := by decide +kernel
theorem test_packetSop_absent : let s := qState 6 {}; s.blk.running = true ∧ (s.blk.q 5).capacity = 0 ∧
    (after (.packetSop 20 5 1 1 2) s).blk.statusOf 20 = 2 := by decide +kernel
theorem test_packetSop_refill : let s := qState 6 { capacity := 3, refill := true, journal := 7 }; (s.blk.q 5).refill = true ∧
    20 ≠ ctxCustody (s.blk.q 5).journal ∧ (after (.packetSop 20 5 1 1 2) s).blk.statusOf 20 = 4 ∧
    (after (.packetSop (ctxCustody 7) 5 1 1 2) s).blk.statusOf (ctxCustody 7) = 0 := by decide +kernel
theorem test_packetEop : let s := opened20; s.blk.running = true ∧ s.blk.openOf 20 = some ⟨20, 5, 2, 7, 8⟩ ∧
    ((after (.packetEop 20 [1, 2]) s).blk.q 5).pkts = [pk 1, ⟨7, 8, 3, [1, 2]⟩] ∧
    (after (.packetEop 20 [1, 2]) s).blk.statusOf 20 = 7 ∧ (after (.packetEop 20 [1, 2, 3]) s).blk.statusOf 20 = 5 := by decide +kernel
theorem test_packetRewind : let s := opened20; s.blk.openOf 20 = some ⟨20, 5, 2, 7, 8⟩ ∧
    (after (.packetRewind 20 false) s).blk.statusOf 20 = 6 ∧ (after (.packetRewind 20 false) s).blk.fill 5 = 1 ∧
    (after (.packetRewind 20 true) s).blk.statusOf 20 = 5 ∧ ((after (.packetRewind 20 true) s).blk.q 5).rewound = 1 := by decide +kernel
theorem test_queueRead : let s := twoPkts {}; s.blk.running = true ∧ (s.blk.q 4).pkts = [] ∧ (s.blk.q 5).pkts = [pk 2, pk 1] ∧
    (s.blk.q 5).hold = false ∧ (after (.queueRead 4 .good) s).blk.outs = [.empty 4] ∧
    (after (.queueRead 5 .good) s).blk.outs = [.packet 5 0 0 0 [0, 0]] ∧ ((after (.queueRead 5 .good) s).blk.q 5).pkts = [pk 1] := by
  decide +kernel
theorem test_queueRead_hold : let s := twoPkts { hold := true }; (s.blk.q 5).hold = true ∧
    ((after (.queueRead 5 .good) s).blk.q 5).pkts.length = 2 ∧ (after (.queueReread 5) s).blk.q 5 =
      { s.blk.q 5 with reading := true } ∧ ((after (.queueRelease 5) s).blk.q 5).pkts = [pk 1] := by decide +kernel
theorem test_queueRead_ecc : let s := twoPkts { wordEcc := true }; (s.blk.q 5).wordEcc = true ∧ (s.blk.q 5).assured = false ∧
    ((after (.queueRead 5 .uncorrectable) s).blk.q 5).pkts = [pk 1] ∧
    (after (.queueRead 5 .uncorrectable) s).blk.get R.QMG_TROUBLE_LOST = 1 := by decide +kernel
theorem test_queueRead_reset : let s := twoPkts { wordEcc := true, ptrDup := true, assured := true, journal := 2 };
    (s.blk.q 5).wordEcc = true ∧ (s.blk.q 5).assured = true ∧ (s.blk.q 5).ptrDup = true ∧
    ((after (.queueRead 5 .uncorrectable) s).blk.q 5).refill = true ∧ ((after (.queueRead 5 .pointers) s).blk.q 5).pkts = [] ∧
    (after (.queueRead 5 .pointers) s).blk.outs = [.reset 5] := by
  decide +kernel
theorem test_queueFail : let s := twoPkts { hold := true }; s.blk.running = true ∧ (s.blk.q 5).hold = true ∧ (s.blk.q 5).pkts ≠ [] ∧ (s.blk.q 5).assured = false ∧
    ((after (.queueFail 5) s).blk.q 5).pkts = [pk 1] := by decide +kernel
theorem test_queueFail_assured : let s := twoPkts { hold := true, assured := true, failMax := 2, headFails := 0 };
    let t := twoPkts { hold := true, assured := true, failMax := 2, headFails := 1 }; (s.blk.q 5).headFails + 1 < (s.blk.q 5).failMax ∧
    ((after (.queueFail 5) s).blk.q 5).headFails = 1 ∧ (t.blk.q 5).failMax ≤ (t.blk.q 5).headFails + 1 ∧
    ((after (.queueFail 5) t).blk.q 5).pkts = [pk 1] ∧ (after (.queueFail 5) t).blk.get R.QMG_TROUBLE_HEAD_DISCARD = 1 := by
  decide +kernel
theorem test_qmgCmdFlush : let s := twoPkts {}; s.blk.reachable = true ∧ (s.blk.q 5).assured = false ∧ (s.blk.q 5).reading = false ∧
    ((after (.qmgCmdFlush 5) s).blk.q 5).pkts = [] ∧ (after (.qmgCmdFlush 5) s).blk.get R.QMG_FLUSH_DROP_COUNT = 2 := by decide +kernel
theorem test_qmgCmdFlush_reading : let s := twoPkts { reading := true }; (s.blk.q 5).reading = true ∧ (s.blk.q 5).assured = false ∧
    ((after (.qmgCmdFlush 5) s).blk.q 5).flushPending = true ∧ (after (.qmgCmdFlush 5) s).blk.get R.QMG_CMD_STAT_PENDING = 1 ∧
    ((after (.flushPoint 5) (after (.qmgCmdFlush 5) s)).blk.q 5).pkts = [] := by decide +kernel
theorem test_qmgCmdFlush_assured : let s := twoPkts { assured := true }; s.blk.reachable = true ∧ s.blk.mode ≠ 10 ∧
    (s.blk.q 5).assured = true ∧ (after (.qmgCmdFlush 5) s).blk.get R.QMG_TROUBLE_FLUSH_REFUSED = 1 ∧
    (after (.qmgCmdForceReset 5) s).blk.get R.QMG_CMD_STAT_REFUSED = 1 := by decide +kernel
theorem test_flushPoint : let s := twoPkts { flushPending := true }; s.blk.running = true ∧ (s.blk.q 5).flushPending = true ∧
    (after (.flushPoint 5) s).blk.get R.QMG_FLUSH_DROP_COUNT = 2 := by decide +kernel
theorem test_qmgCmdForceReset : let s := twoPkts { assured := true, journal := 0xFFFF } 10; s.blk.mode = 10 ∧
    ((after (.qmgCmdForceReset 5) s).blk.q 5).pkts = [] ∧ ((after (.qmgCmdForceReset 5) s).blk.q 5).refill = false ∧
    (after (.qmgCmdForceReset 5) s).blk.get R.QMG_RESET_LOST_COUNT = 2 := by decide +kernel
theorem test_refillComplete : let s := qState 6 { capacity := 3, refill := true, journal := 7 }; s.blk.running = true ∧
    (s.blk.q 5).refill = true ∧ ((after (.refillComplete 5) s).blk.q 5).refill = false := by decide +kernel

/-! Witnesses: for each clause of the statements above with hypotheses, a state and operands that meet them all. -/

theorem wit_queueAdmission :
    (∃ (s : State) (ctx : Nat) (n : Nat) (len : Nat), s.blk.running = true ∧ n < 4096 ∧ s.blk.openOf ctx = none ∧ (s.blk.q n).capacity
      ≠ 0 ∧ (s.blk.q n).refill = false ∧ ((s.blk.q n).bulk = false ∨ s.blk.flag R.QMG_STAT_BULK_READY = true) ∧ s.blk.fill n + cellsOf
      len ≤ (s.blk.q n).capacity ∧ crosses (s.blk.q n).thresh (s.blk.fill n) (s.blk.fill n + cellsOf len) = false) ∧
    (∃ (s : State) (ctx : Nat) (n : Nat) (len : Nat), s.blk.running = true ∧ n < 4096 ∧ s.blk.openOf ctx = none ∧ (s.blk.q n).capacity
      ≠ 0 ∧ (s.blk.q n).refill = false ∧ ((s.blk.q n).bulk = false ∨ s.blk.flag R.QMG_STAT_BULK_READY = true) ∧ s.blk.fill n + cellsOf
      len ≤ (s.blk.q n).capacity ∧ crosses (s.blk.q n).thresh (s.blk.fill n) (s.blk.fill n + cellsOf len) = true) ∧
    (∃ (s : State) (ctx : Nat) (n : Nat) (len : Nat), s.blk.running = true ∧ n ≠ 0 ∧ n < 4096 ∧ s.blk.openOf ctx = none ∧ (s.blk.q
      n).capacity ≠ 0 ∧ (s.blk.q n).refill = false ∧ ((s.blk.q n).bulk = false ∨ s.blk.flag R.QMG_STAT_BULK_READY = true) ∧ ((s.blk.q
      n).assured = true ∨ (s.blk.q n).evict (s.blk.fill n) (cellsOf len) = none) ∧ (s.blk.q n).capacity < s.blk.fill n + cellsOf len) ∧
    (∃ (s : State) (ctx : Nat) (n : Nat) (len : Nat) (gone : Nat) (kept : List Packet), s.blk.running = true ∧ n ≠ 0 ∧ n < 4096 ∧
      s.blk.openOf ctx = none ∧ (s.blk.q n).capacity ≠ 0 ∧ (s.blk.q n).refill = false ∧ ((s.blk.q n).bulk = false ∨ s.blk.flag
      R.QMG_STAT_BULK_READY = true) ∧ (s.blk.q n).assured = false ∧ (s.blk.q n).capacity < s.blk.fill n + cellsOf len ∧ (s.blk.q
      n).evict (s.blk.fill n) (cellsOf len) = some (kept, gone)) ∧
    (∃ (s : State) (ctx : Nat) (n : Nat), s.blk.running = true ∧ n < 4096 ∧ s.blk.openOf ctx = none ∧ (s.blk.q n).capacity = 0) ∧
    (∃ (s : State) (ctx : Nat) (n : Nat), s.blk.running = true ∧ n < 4096 ∧ s.blk.openOf ctx = none ∧ (s.blk.q n).capacity ≠ 0 ∧
      (s.blk.q n).refill = true ∧ ctx ≠ ctxCustody (s.blk.q n).journal) ∧
    (∃ (s : State) (ctx : Nat) (n : Nat), s.blk.running = true ∧ n ≠ 0 ∧ n < 4096 ∧ s.blk.openOf ctx = none ∧ (s.blk.q n).capacity ≠ 0
      ∧ (s.blk.q n).refill = false ∧ (s.blk.q n).bulk = true ∧ s.blk.flag R.QMG_STAT_BULK_READY = false) ∧
    (∃ (s : State) (ctx : Nat) (n : Nat) (len : Nat) (o : OpenPkt) (b : Block), s.blk.running = true ∧ n < 4096 ∧ s.blk.openOf ctx =
      some o ∧ b = s.blk.rewind ctx ∧ (b.q n).capacity ≠ 0 ∧ (b.q n).refill = false ∧ ((b.q n).bulk = false ∨ b.flag
      R.QMG_STAT_BULK_READY = true) ∧ b.fill n + cellsOf len ≤ (b.q n).capacity ∧ crosses (b.q n).thresh (b.fill n) (b.fill n + cellsOf
      len) = false) :=
  ⟨⟨qState 6 { capacity := 3, thresh := 3, assured := true }, 20, 5, 113, by decide +kernel⟩,
    ⟨qState 6 { capacity := 3, thresh := 2, assured := true }, 20, 5, 113, by decide +kernel⟩,
    ⟨qState 6 { capacity := 3, assured := true, pkts := [pk 112, pk 1] }, 20, 5, 113, by decide +kernel⟩,
    ⟨qState 6 { capacity := 3, pkts := [pk 112, pk 1] }, 20, 5, 113, 1, [pk 1], by decide +kernel⟩,
    ⟨qState 6 {}, 20, 5, by decide +kernel⟩,
    ⟨qState 6 { capacity := 3, refill := true, journal := 7 }, 20, 5, by decide +kernel⟩,
    ⟨qState 6 { capacity := 3, bulk := true }, 20, 5, by decide +kernel⟩,
    ⟨opened20, 20, 5, 1, ⟨20, 5, 2, 7, 8⟩, (opened20).blk.rewind 20, by decide +kernel⟩⟩
theorem wit_queueCommitAndRewind :
    (∃ (s : State) (ctx : Nat) (data : List Byte) (o : OpenPkt), s.blk.running = true ∧ s.blk.openOf ctx = some o ∧ data.length ≤
      o.maxLen) ∧
    (∃ (s : State) (ctx : Nat) (data : List Byte) (o : OpenPkt), s.blk.running = true ∧ s.blk.openOf ctx = some o ∧ o.maxLen <
      data.length) ∧
    (∃ (s : State) (ctx : Nat) (o : OpenPkt), s.blk.running = true ∧ s.blk.openOf ctx = some o) ∧
    (∃ (s : State) (ctx : Nat) (o : OpenPkt), s.blk.running = true ∧ s.blk.openOf ctx = some o ∧ o.queue ≠ 0) :=
  ⟨⟨opened20, 20, [1, 2], ⟨20, 5, 2, 7, 8⟩, by decide +kernel⟩,
    ⟨opened20, 20, [1, 2, 3], ⟨20, 5, 2, 7, 8⟩, by decide +kernel⟩,
    ⟨opened20, 20, ⟨20, 5, 2, 7, 8⟩, by decide +kernel⟩,
    ⟨opened20, 20, ⟨20, 5, 2, 7, 8⟩, by decide +kernel⟩⟩
theorem wit_queueReads :
    (∃ (s : State) (n : Nat), s.blk.running = true ∧ n < 4096 ∧ (s.blk.q n).pkts = []) ∧
    (∃ (s : State) (n : Nat) (p : Packet) (l : List Packet), s.blk.running = true ∧ n < 4096 ∧ (s.blk.q n).pkts = p :: l ∧ (s.blk.q
      n).hold = false) ∧
    (∃ (s : State) (n : Nat) (p : Packet) (l : List Packet), s.blk.running = true ∧ n < 4096 ∧ (s.blk.q n).pkts = p :: l ∧ (s.blk.q
      n).hold = true) ∧
    (∃ (s : State) (n : Nat) (p : Packet) (l : List Packet), s.blk.running = true ∧ n ≠ 0 ∧ n < 4096 ∧ (s.blk.q n).pkts = p :: l ∧
      (s.blk.q n).wordEcc = true ∧ (s.blk.q n).assured = false) ∧
    (∃ (s : State) (n : Nat) (p : Packet) (l : List Packet), s.blk.running = true ∧ n < 4096 ∧ (s.blk.q n).pkts = p :: l ∧ (s.blk.q
      n).wordEcc = true) ∧
    (∃ (s : State) (n : Nat) (p : Packet) (l : List Packet) (c : ReadCheck), s.blk.running = true ∧ n ≠ 0 ∧ n < 4096 ∧ (s.blk.q n).pkts
      = p :: l ∧ ((c = .uncorrectable ∧ (s.blk.q n).wordEcc = true ∧ (s.blk.q n).assured = true) ∨ (c = .pointers ∧ (s.blk.q n).ptrDup
      = true))) ∧
    (∃ (s : State) (n : Nat), s.blk.running = true ∧ (s.blk.q n).hold = true ∧ (s.blk.q n).pkts ≠ []) ∧
    (∃ (s : State) (n : Nat), s.blk.running = true ∧ (s.blk.q n).hold = true ∧ (s.blk.q n).pkts ≠ []) :=
  ⟨⟨twoPkts {}, 4, by decide +kernel⟩,
    ⟨twoPkts {}, 5, pk 2, [pk 1], by decide +kernel⟩,
    ⟨twoPkts { hold := true }, 5, pk 2, [pk 1], by decide +kernel⟩,
    ⟨twoPkts { wordEcc := true }, 5, pk 2, [pk 1], by decide +kernel⟩,
    ⟨twoPkts { wordEcc := true }, 5, pk 2, [pk 1], by decide +kernel⟩,
    ⟨twoPkts { ptrDup := true, assured := true, journal := 2 }, 5, pk 2, [pk 1], .pointers, by decide +kernel⟩,
    ⟨twoPkts { hold := true }, 5, by decide +kernel⟩,
    ⟨twoPkts { hold := true }, 5, by decide +kernel⟩⟩
theorem wit_queueFails :
    (∃ (s : State) (n : Nat), s.blk.running = true ∧ n ≠ 0 ∧ (s.blk.q n).hold = true ∧ (s.blk.q n).pkts ≠ [] ∧ (s.blk.q n).assured =
      false) ∧
    (∃ (s : State) (n : Nat), s.blk.running = true ∧ (s.blk.q n).hold = true ∧ (s.blk.q n).pkts ≠ [] ∧ (s.blk.q n).assured = true ∧
      ((s.blk.q n).failMax = 0 ∨ (s.blk.q n).headFails + 1 < (s.blk.q n).failMax)) ∧
    (∃ (s : State) (n : Nat), s.blk.running = true ∧ n ≠ 0 ∧ (s.blk.q n).hold = true ∧ (s.blk.q n).pkts ≠ [] ∧ (s.blk.q n).assured =
      true ∧ (s.blk.q n).failMax ≠ 0 ∧ (s.blk.q n).failMax ≤ (s.blk.q n).headFails + 1) ∧
    (∃ (s : State) (n : Nat), s.blk.running = true ∧ (s.blk.q n).hold = false) :=
  ⟨⟨twoPkts { hold := true }, 5, by decide +kernel⟩,
    ⟨twoPkts { hold := true, assured := true, failMax := 2, headFails := 0 }, 5, by decide +kernel⟩,
    ⟨twoPkts { hold := true, assured := true, failMax := 2, headFails := 1 }, 5, by decide +kernel⟩,
    ⟨twoPkts {}, 5, by decide +kernel⟩⟩
theorem wit_queueCommands :
    (∃ (s : State) (n : Nat), s.blk.reachable = true ∧ n < 4096 ∧ ((s.blk.q n).assured = false ∨ s.blk.mode = 10) ∧ (s.blk.q n).reading
      = false) ∧
    (∃ (s : State) (n : Nat), s.blk.reachable = true ∧ n < 4096 ∧ ((s.blk.q n).assured = false ∨ s.blk.mode = 10) ∧ (s.blk.q n).reading
      = true) ∧
    (∃ (s : State) (n : Nat), s.blk.reachable = true ∧ n < 4096 ∧ (s.blk.q n).assured = true ∧ s.blk.mode ≠ 10) ∧
    (∃ (s : State) (n : Nat), s.blk.running = true ∧ n < 4096 ∧ (s.blk.q n).flushPending = true) ∧
    (∃ (s : State) (n : Nat), s.blk.mode = 10 ∧ n ≠ 0 ∧ n < 4096) ∧
    (∃ (s : State), s.blk.reachable = true ∧ s.blk.mode ≠ 10) ∧
    (∃ (s : State) (n : Nat), s.blk.running = true ∧ (s.blk.q n).refill = true) ∧
    (∃ (s : State) (n : Nat) (c : Nat) (m : Nat × List Byte), s.blk.running = true ∧ n < 4096 ∧ (s.blk.q n).refill = true ∧ (s.blk.q
      n).pkts = [] ∧ c = (s.blk.q n).journal ∧ n ≠ (s.blk.cus c).txQueue ∧ (s.blk.cus c).inJ = [m] ∧ s.blk.openOf (ctxCustody c) = none
      ∧ (s.blk.q n).bulk = false ∧ s.blk.fill n + cellsOf m.2.length ≤ (s.blk.q n).capacity) :=
  ⟨⟨twoPkts {}, 5, by decide +kernel⟩,
    ⟨twoPkts { reading := true }, 5, by decide +kernel⟩,
    ⟨twoPkts { assured := true }, 5, by decide +kernel⟩,
    ⟨twoPkts { flushPending := true }, 5, by decide +kernel⟩,
    ⟨twoPkts { assured := true, journal := 0xFFFF } 10, 5, by decide +kernel⟩,
    ⟨twoPkts {}, by decide +kernel⟩,
    ⟨qState 6 { capacity := 3, refill := true, journal := 7 }, 5, by decide +kernel⟩,
    ⟨refillAt, 5, 7, (4, [1, 2]), by decide +kernel⟩⟩

/-! Custody and the host link. -/

/-- Channel 3 to peer 7, windows of 100 cells, TX_QUEUE 5 and RX_QUEUE 6. -/
def rec3 : List Byte := [3, 0, 7, 0, 1, 0, 0, 0, 100, 0, 0, 0, 100, 0, 0, 0, 5, 0, 6, 0] ++ List.replicate 12 0
def cusSeg1 : List Byte := [0, 1, 0, 0, 0, 0, 4, 4, 0, 0, 1, 0, 100, 0, 100, 0, 100, 0, 9, 0, 9, 0] ++ List.replicate 42 0 ++ [5, 0, 9, 0, 0, 0, 0, 0]
/-- A node in mode `m` with J3 active and channel 3. -/
def hostAt (c : Channel) (m : Nat := 6) (l : List (Field × Nat) := []) (f : Block → Block := id) : State :=
  inMode m ([(R.MAC_ADDR_SHORT, 9), (R.CUS_STAT_ACCEPT_READY, 1)] ++ l) (fun b => f { b with
    image := { b.image with run := some { segs := [⟨5, 0, 0xFF, 0, 0, 0, [], cusSeg1⟩] } }
    modl := { b.modl with j3 := true }
    queue := { b.queue with queues := [(5, { capacity := 50, assured := true }), (6, { capacity := 50, assured := true })] }
    custody := { b.custody with chans := [(3, { c with record := rec3 })] } })
/-- A message on channel 3 from the host, and what it parses to. -/
def hostMsg (type flags seq ack credit : Nat) (l : List Byte) : List Byte := runudom type flags 3 seq ack credit l.length 0 ++ l
def parsed (type flags seq ack credit : Nat) (l : List Byte) : HostMsg := ⟨type, flags, 3, seq, ack, credit, 0, l⟩
def inbound : Channel := { journalled := 5, hostAcked := 3, inJ := [(4, [1]), (5, [2])] }
/-- A custody frame on channel 3: kind, fragment, SEQ, TOTAL, credit, data. -/
def lineFrame (kind frag seq total credit : Nat) (l : List Byte) : List Byte := custodyHeader 3 kind frag seq total credit ++ l
def custodyAt (c : Channel) (f : List Byte) : State := hostAt c 6 [] (fun b => b.setCustody { b.custody with inbox := [(7, f)] })
def outbound : Channel := { accepted := 9, receipted := 7, peerSeq := 7, outJ := [(8, [1]), (9, [2])], lineSent := 9 }
def restoring (x : Option FlushSlot) : State := hostAt {} 3 [(R.QMG_STAT_BULK_READY, 1), (R.CUS_STAT_ACCEPT_READY, 0)] (fun b => b.setCustody
  { b.custody with restoreDue := true, slots := [x, none] })
def slot1 (n : Nat) : FlushSlot := { seq := n, epoch := 4, cells := 1, complete := true, consumed := false, chans := [(3, { accepted := 6, record := rec3 })] }
/-- The last message that went to a host after a command. -/
def hostOut (s t : State) : List Byte := match t.blk.outs[s.blk.outs.length]? with | some (.host _ _ _ l) => l | _ => []
/-- Two register replies, one of them acknowledged; a stream with one message; two complete flush slots. -/
def registerAt : State := hostAt {} 6 [] (fun b => b.setCustody { b.custody with
  regc := { port := some 2, acked := 1, sent := 2, replies := [(7, 1, [9]), (8, 2, [8])] } })
def streamAt : State := hostAt {} 6 [] (fun b => (b.modQ 5 (fun q => { q with pkts := [pk 2] })).setCustody { b.custody with resyncPort := some 2 })
def slotsAt (n k : Nat) : State := hostAt {} 6 [] (fun b => b.setCustody { b.custody with slots := [some (slot1 n), some (slot1 k)] })

theorem test_hostData : let s := hostAt { accepted := 8 }; let msg := hostMsg 1 0 9 0 0 [1, 2]; let m := parsed 1 0 9 0 0 [1, 2];
    s.blk.hostTakes 2 = true ∧ parseHost msg = some m ∧ (s.blk.cus 3).present = true ∧ (s.blk.cus 3).accepted = 8 ∧
    serialAbove 32 9 8 = true ∧ s.blk.refuseCause 3 2 = 0 ∧ (s.blk.cus 3).txQueue = 5 ∧ (s.blk.q 5).capacity ≠ 0 ∧
    (s.blk.q 5).bulk = false ∧ s.blk.openOf (ctxCustody 3) = none ∧ s.blk.fill 5 + cellsOf 24 ≤ (s.blk.q 5).capacity ∧
    ((after (.hostData 2 msg) s).blk.cus 3).accepted = 9 ∧ ((after (.hostData 2 msg) s).blk.cus 3).outJ = [(9, [1, 2])] ∧
    ((after (.hostData 2 msg) s).blk.q 5).pkts.length = 1 := by decide +kernel
theorem test_hostData_refused : let s := hostAt { accepted := 8 } 6 [(R.CUS_STAT_ACCEPT_READY, 0)]; let msg := hostMsg 1 0 9 0 0 [1];
    s.blk.refuseCause 3 1 = 3 ∧ (after (.hostData 2 msg) s).blk.get R.CUS_TROUBLE_REFUSED = 1 ∧
    hostOut s (after (.hostData 2 msg) s) = runudom 4 3 3 0 8 100 8 0 ++ [0, 0, 0, 9, 3, 0, 0, 0] := by decide +kernel
theorem test_hostData_dup : let s := hostAt { accepted := 8 }; let t := after (.hostData 2 (hostMsg 1 0 8 0 0 [1])) s;
    t.blk.get R.CUS_HOST_DUP_COUNT = 1 ∧ hostOut s t = runudom 2 3 3 0 8 100 0 0 := by decide +kernel
theorem test_hostData_gap : let s := hostAt { accepted := 8 }; let msg := hostMsg 1 0 10 0 0 [1];
    parseHost msg = some (parsed 1 0 10 0 0 [1]) ∧ serialAbove 32 10 (s.blk.cus 3).accepted = true ∧
    (after (.hostData 2 msg) s).blk.get R.CUS_TROUBLE_HOST_GAP = 1 := by decide +kernel
theorem test_hostAck : let s := hostAt inbound; let msg := hostMsg 2 1 0 4 0 []; s.blk.hostTakes 2 = true ∧
    parseHost msg = some (parsed 2 1 0 4 0 []) ∧ serialAbove 32 4 (s.blk.cus 3).hostAcked = true ∧
    serialAbove 32 4 (s.blk.cus 3).journalled = false ∧ ((after (.hostAck 2 msg) s).blk.cus 3).inJ = [(5, [2])] ∧
    (after (.hostAck 2 msg) s).blk.get R.CUS_DELIVER_COUNT = 1 := by decide +kernel
theorem test_hostCredit : let s := hostAt inbound; let msg := hostMsg 3 2 0 4 7 []; parseHost msg = some (parsed 3 2 0 4 7 []) ∧
    (s.blk.cus 3).hostCredit = none ∧ ((after (.hostCredit 2 msg) s).blk.cus 3).hostCredit = some (4, 7) := by decide +kernel
theorem test_resync : let s := hostAt inbound; hostOut s (after (.resync 2 (hostMsg 5 0 0 0 0 [])) s) =
    runudom 6 4 0xFFFE 0 0 0 16 0 ++ s.blk.resyncRecord 3 := by decide +kernel
theorem test_runudomMalformed : let s := hostAt inbound; s.blk.portUp 2 = true ∧ parseHost [0x21] = none ∧
    (after (.runudomMalformed 2 [0x21]) s).blk.get R.CUS_MALFORMED_COUNT = 1 := by decide +kernel
theorem test_hostAckTx : let s := hostAt { port := some 2, ackDue := true, accepted := 8 };
    hostOut s (after (.hostAckTx 3) s) = runudom 2 3 3 0 8 100 0 0 := by decide +kernel
theorem test_hostAckTx_delivered : let s := hostAt { port := some 2, deliveredDue := true, receipted := 8 };
    hostOut s (after (.hostAckTx 3) s) = runudom 10 1 3 0 8 0 0 0 := by decide +kernel
theorem test_hostDeliver : let s := hostAt { inbound with port := some 2, hostSent := 4 };
    ((after (.hostDeliver 3) s).blk.cus 3).hostSent = 5 ∧ hostOut s (after (.hostDeliver 3) s) = runudom 1 3 3 5 0 100 1 0 ++ [2] := by
  decide +kernel
theorem test_hostDeliver_oversize : let s := hostAt { inJ := [(5, List.replicate 1500 0)], port := some 2, hostSent := 4 };
    ((s.blk.cus 3).inJ.find? (fun m => serialAbove 32 m.1 (s.blk.cus 3).hostSent)).map (fun m => m.1) = some 5 ∧
    (s.blk.cus 3).hostAdmits 5 = true ∧ s.blk.portLimit 2 < 1500 ∧
    (after (.hostDeliver 3) s).blk.get R.CUS_TROUBLE_HOST_OVERSIZE = 1 := by decide +kernel
/-- R374: 100 ms are 2500 ticks. -/
theorem test_hostRetransmit : let f (n : Nat) := hostAt { inbound with port := some 2, hostSent := 4 } 6 [(R.GLB_TICK, n)];
    hostOut (f 2500) (after (.hostRetransmit 3) (f 2500)) = runudom 1 3 3 4 0 100 1 0 ++ [1] ∧
    (after (.hostRetransmit 3) (f 2500)).blk.get R.CUS_HOST_RETX_COUNT = 1 ∧
    (after (.hostRetransmit 3) (f 2499)).blk.get R.CUS_HOST_RETX_COUNT = 0 := by decide +kernel
theorem test_hostRetransmit_register : let s : State := { registerAt with blk := registerAt.blk.set R.GLB_TICK 2500 };
    hostOut s (after (.hostRetransmit 0xFFFF) s) = runudom 8 1 0xFFFF 2 0 0 1 0 ++ [8] := by decide +kernel
theorem test_streamTx : hostOut streamAt (after (.streamTx 9) streamAt) = runudom 9 0 0x8009 1 0 0 2 0 ++ [0, 0] := by decide +kernel
theorem test_custodyDataRx : let f := lineFrame 1 0 6 2 0 [7, 8]; let s := custodyAt { inbound with inJ := [] } f; s.blk.running = true ∧
    s.blk.custody.inbox.find? (fun e => leAt e.2 2 1 == 1) = some (7, f) ∧ leAt f 0 2 = 3 ∧ leAt f 4 4 = 6 ∧ leAt f 3 1 = 0 ∧
    leAt f 8 2 = 2 ∧ serialAbove 32 6 (s.blk.cus 3).journalled = true ∧ s.blk.openOf (ctxCustody 3) = none ∧
    (s.blk.cus 3).part = none ∧ (s.blk.cus 3).rxWindow ≠ 0 ∧ msgCost 2 ≤ (s.blk.cus 3).rxWindow - (s.blk.cus 3).rxUsed ∧
    ((after .custodyDataRx s).blk.cus 3).inJ = [(6, [7, 8])] ∧ ((after .custodyDataRx s).blk.q 6).pkts.length = 1 := by decide +kernel
theorem test_custodyDataRx_dup : let f := lineFrame 1 0 5 2 0 [7, 8]; let s := custodyAt inbound f;
    s.blk.custody.inbox.find? (fun e => leAt e.2 2 1 == 1) = some (7, f) ∧ serialAbove 32 (leAt f 4 4) (s.blk.cus 3).journalled = false ∧
    (after .custodyDataRx s).blk.get R.CUS_LINE_DUP_COUNT = 1 ∧
    ((after .custodyDataRx s).blk.mac.order.map (fun f => f.final)) = [7] := by decide +kernel
theorem test_custodyDataRx_gap : let f := lineFrame 1 0 7 2 0 [7, 8]; let s := custodyAt inbound f; leAt f 4 4 = 7 ∧
    serialAbove 32 7 (s.blk.cus 3).journalled = true ∧ (after .custodyDataRx s).blk.get R.CUS_LINE_GAP_COUNT = 1 := by decide +kernel
theorem test_receiptTx : let s := hostAt { inbound with receiptDue := true }; s.blk.running = true ∧ (s.blk.cus 3).present = true ∧
    (s.blk.cus 3).receiptDue = true ∧ groupAddr (s.blk.cus 3).peer = false ∧
    ((after (.receiptTx 3) s).blk.mac.order.map (fun f => leAt (f.payload.drop 6) 4 4)) = [5] := by decide +kernel
theorem test_custodyReceiptRx : let f := lineFrame 2 0 8 0 50 []; let s := custodyAt outbound f;
    s.blk.custody.inbox.find? (fun e => leAt e.2 2 1 == 2) = some (7, f) ∧ serialAbove 32 (leAt f 4 4) (s.blk.cus 3).peerSeq = true ∧
    serialAbove 32 (leAt f 4 4) (s.blk.cus 3).receipted = true ∧ ((after .custodyReceiptRx s).blk.cus 3).outJ = [(9, [2])] ∧
    ((after .custodyReceiptRx s).blk.cus 3).peerCredit = 50 := by decide +kernel
theorem test_e2eTimeout : let f (n : Nat) := hostAt outbound 6 [(R.GLB_TICK, n)];
    (after (.e2eTimeout 3) (f 2500)).blk.mac.order ≠ [] ∧ (after (.e2eTimeout 3) (f 2499)).blk.mac.order = [] := by decide +kernel
theorem test_reassemblyTimeout : let f (n : Nat) := hostAt { part := some ⟨5, 9000, 2, 1, [], 0⟩ } 6 [(R.GLB_TICK, n)];
    (after (.reassemblyTimeout 3) (f 225)).blk.get R.CUS_TROUBLE_REASM_DROP = 1 ∧
    ((after (.reassemblyTimeout 3) (f 0)).blk.cus 3).part.isSome = true := by decide +kernel
theorem test_custodyRestore_none : let s := restoring none; s.blk.mode = 3 ∧ s.blk.custody.restoreDue = true ∧
    s.blk.get R.QMG_STAT_BULK_READY = 1 ∧ s.blk.custody.slots = [none, none] ∧ s.blk.custody.everInForce = false ∧
    (after (.custodyRestore true) s).blk.get R.CUS_STAT_ACCEPT_READY = 1 := by decide +kernel
theorem test_custodyRestore : let s := restoring (some (slot1 2)); s.blk.custody.slots = [some (slot1 2), none] ∧
    s.blk.custody.restoreDue = true ∧ ((after (.custodyRestore true) s).blk.cus 3).accepted = 6 ∧
    ((after (.custodyRestore false) s).blk.cus 3).empty = true ∧ (after (.custodyRestore true) s).blk.get R.PWR_RESET_CAUSE = 1 := by
  decide +kernel
theorem test_flushSlotErased : let s := hostAt {} 6 [] (fun b => b.setCustody { b.custody with slots := [some (slot1 4), some (slot1 3)] });
    s.blk.running = true ∧ s.blk.custody.slots = [some (slot1 4), some (slot1 3)] ∧ s.blk.get R.CUS_STAT_RESTORE_BUSY = 0 ∧
    (after .flushSlotErased s).blk.custody.slots = [some (slot1 4), none] := by decide +kernel

/-! Witnesses: for each clause of the statements above with hypotheses, a state and operands that meet them all. -/

theorem wit_hostMessages_1 :
    (∃ (s : State) (port : Nat) (n : Nat) (msg : List Byte) (m : HostMsg) (ch : Channel), s.blk.hostTakes port = true ∧ parseHost msg =
      some m ∧ m.type = 1 ∧ m.flags = 0 ∧ ch = s.blk.cus m.channel ∧ ch.present = true ∧ serialAbove 32 m.seq ch.accepted = true ∧
      m.seq = (ch.accepted + 1) % 2 ^ 32 ∧ s.blk.refuseCause m.channel m.payload.length = 0 ∧ m.payload.length ≤ 4058 ∧ n = ch.txQueue
      ∧ n < 4096 ∧ (s.blk.q n).capacity ≠ 0 ∧ (s.blk.q n).bulk = false ∧ s.blk.openOf (ctxCustody m.channel) = none ∧ s.blk.fill n +
      cellsOf (m.payload.length + 22) ≤ (s.blk.q n).capacity) ∧
    (∃ (s : State) (port : Nat) (n : Nat) (msg : List Byte) (m : HostMsg) (b : Block) (ch : Channel), s.blk.hostTakes port = true ∧
      parseHost msg = some m ∧ m.type = 1 ∧ b = s.blk.hostCommon port m ∧ ch = b.cus m.channel ∧ ch.present = true ∧ serialAbove 32
      m.seq ch.accepted = true ∧ m.seq = (ch.accepted + 1) % 2 ^ 32 ∧ b.refuseCause m.channel m.payload.length = 0 ∧ m.payload.length ≤
      4058 ∧ n = ch.txQueue ∧ n < 4096 ∧ (b.q n).capacity ≠ 0 ∧ b.openOf (ctxCustody m.channel) = none ∧ b.fill n + cellsOf
      (m.payload.length + 22) ≤ (b.q n).capacity ∧ ((b.q n).bulk = false ∨ b.flag R.QMG_STAT_BULK_READY = true)) ∧
    (∃ (s : State) (port : Nat) (n : Nat) (msg : List Byte) (m : HostMsg) (ch : Channel), s.blk.hostTakes port = true ∧ parseHost msg =
      some m ∧ m.type = 1 ∧ m.flags = 0 ∧ ch = s.blk.cus m.channel ∧ ch.present = true ∧ serialAbove 32 m.seq ch.accepted = true ∧
      m.seq = (ch.accepted + 1) % 2 ^ 32 ∧ s.blk.refuseCause m.channel m.payload.length = 0 ∧ m.payload.length ≤ 4058 ∧ n = ch.txQueue
      ∧ n ≠ 0 ∧ n < 4096 ∧ (s.blk.q n).capacity ≠ 0 ∧ (s.blk.q n).assured = true ∧ s.blk.openOf (ctxCustody m.channel) = none ∧
      (s.blk.q n).capacity < s.blk.fill n + cellsOf (m.payload.length + 22)) ∧
    (∃ (s : State) (port : Nat) (cause : Nat) (msg : List Byte) (m : HostMsg), s.blk.hostTakes port = true ∧ parseHost msg = some m ∧
      m.type = 1 ∧ m.flags = 0 ∧ ((s.blk.cus m.channel).present = false ∨ (serialAbove 32 m.seq (s.blk.cus m.channel).accepted = true ∧
      m.seq = ((s.blk.cus m.channel).accepted + 1) % 2 ^ 32)) ∧ s.blk.refuseCause m.channel m.payload.length = cause ∧ cause ≠ 0) ∧
    (∃ (s : State) (port : Nat) (msg : List Byte) (m : HostMsg), s.blk.hostTakes port = true ∧ parseHost msg = some m ∧ m.type = 1 ∧
      m.flags = 0 ∧ (s.blk.cus m.channel).present = true ∧ serialAbove 32 m.seq (s.blk.cus m.channel).accepted = false) ∧
    (∃ (s : State) (port : Nat) (msg : List Byte) (m : HostMsg), s.blk.hostTakes port = true ∧ parseHost msg = some m ∧ m.type = 1 ∧
      m.flags = 0 ∧ (s.blk.cus m.channel).present = true ∧ serialAbove 32 m.seq (s.blk.cus m.channel).accepted = true ∧ m.seq ≠
      ((s.blk.cus m.channel).accepted + 1) % 2 ^ 32) ∧
    (∃ (s : State) (port : Nat) (msg : List Byte) (m : HostMsg) (ch : Channel), s.blk.hostTakes port = true ∧ parseHost msg = some m ∧
      m.type = 2 ∧ m.flags = 1 ∧ m.channel < 0x400 ∧ ch = s.blk.cus m.channel ∧ ch.present = true ∧ serialAbove 32 m.ack ch.hostAcked =
      true ∧ serialAbove 32 m.ack ch.journalled = false) ∧
    (∃ (s : State) (port : Nat) (msg : List Byte) (m : HostMsg) (ch : Channel), s.blk.hostTakes port = true ∧ parseHost msg = some m ∧
      m.type = 2 ∧ m.flags = 1 ∧ m.channel < 0x400 ∧ ch = s.blk.cus m.channel ∧ ch.present = true ∧ (serialAbove 32 m.ack ch.hostAcked
      = false ∨ serialAbove 32 m.ack ch.journalled = true)) ∧
    (∃ (s : State) (port : Nat) (msg : List Byte) (m : HostMsg) (u : CustodyUnit), (s.blk.regTakes port) = true ∧ parseHost msg = some
      m ∧ m.type = 2 ∧ m.flags = 1 ∧ m.channel = 0xFFFF ∧ u = s.blk.custody ∧ serialAbove 32 m.ack u.regc.acked = true ∧ serialAbove 32
      m.ack u.regc.sent = false) ∧
    (∃ (s : State) (port : Nat) (a : Nat) (v : Nat) (msg : List Byte) (m : HostMsg) (ch : Channel), s.blk.hostTakes port = true ∧
      parseHost msg = some m ∧ m.type = 3 ∧ m.flags = 2 ∧ m.channel < 0x400 ∧ ch = s.blk.cus m.channel ∧ ch.present = true ∧
      ch.hostCredit = some (a, v) ∧ serialAbove 32 m.ack a = false) :=
  ⟨⟨hostAt { accepted := 8 }, 2, 5, hostMsg 1 0 9 0 0 [1, 2], parsed 1 0 9 0 0 [1, 2], (hostAt { accepted := 8 }).blk.cus 3,
      by decide +kernel⟩,
    ⟨hostAt { accepted := 8 }, 2, 5, hostMsg 1 0 9 0 0 [1, 2], parsed 1 0 9 0 0 [1, 2], (hostAt { accepted := 8 }).blk.hostCommon 2
      (parsed 1 0 9 0 0 [1, 2]), ((hostAt { accepted := 8 }).blk.hostCommon 2 (parsed 1 0 9 0 0 [1, 2])).cus 3, by decide +kernel⟩,
    ⟨hostAt { accepted := 8 } 6 [] (fun b => b.modQ 5 (fun q => { q with capacity := 1, pkts := [pk 1] })), 2, 5, hostMsg 1 0 9 0 0 [1,
      2], parsed 1 0 9 0 0 [1, 2], (hostAt { accepted := 8 } 6 [] (fun b => b.modQ 5 (fun q =>
      { q with capacity := 1, pkts := [pk 1] }))).blk.cus 3, by decide +kernel⟩,
    ⟨hostAt { accepted := 8 } 6 [(R.CUS_STAT_ACCEPT_READY, 0)], 2, 3, hostMsg 1 0 9 0 0 [1], parsed 1 0 9 0 0 [1], by decide +kernel⟩,
    ⟨hostAt { accepted := 8 }, 2, hostMsg 1 0 8 0 0 [1], parsed 1 0 8 0 0 [1], by decide +kernel⟩,
    ⟨hostAt { accepted := 8 }, 2, hostMsg 1 0 10 0 0 [1], parsed 1 0 10 0 0 [1], by decide +kernel⟩,
    ⟨hostAt inbound, 2, hostMsg 2 1 0 4 0 [], parsed 2 1 0 4 0 [], (hostAt inbound).blk.cus 3, by decide +kernel⟩,
    ⟨hostAt inbound, 2, hostMsg 2 1 0 3 0 [], parsed 2 1 0 3 0 [], (hostAt inbound).blk.cus 3, by decide +kernel⟩,
    ⟨registerAt, 2, runudom 2 1 0xFFFF 0 2 0 0 0, ⟨2, 1, 0xFFFF, 0, 2, 0, 0, []⟩, (registerAt).blk.custody, by decide +kernel⟩,
    ⟨hostAt { inbound with hostCredit := some (4, 7) }, 2, 4, 7, hostMsg 3 2 0 4 9 [], parsed 3 2 0 4 9 [], (hostAt
      { inbound with hostCredit := some (4, 7) }).blk.cus 3, by decide +kernel⟩⟩
theorem wit_hostMessages_2 :
    (∃ (s : State) (port : Nat) (msg : List Byte) (m : HostMsg) (ch : Channel), s.blk.hostTakes port = true ∧ parseHost msg = some m ∧
      m.type = 3 ∧ m.flags = 2 ∧ m.channel < 0x400 ∧ ch = s.blk.cus m.channel ∧ ch.present = true ∧ ((∀ a v, ch.hostCredit = some (a,
      v) → serialAbove 32 m.ack a = true))) ∧
    (∃ (s : State) (port : Nat) (msg : List Byte) (m : HostMsg), s.blk.hostTakes port = true ∧ parseHost msg = some m ∧ m.type = 5 ∧
      m.flags = 0 ∧ m.channel < 0x400 ∧ (s.blk.cus m.channel).present = true) ∧
    (∃ (s : State) (port : Nat) (msg : List Byte), s.blk.portUp port = true ∧ parseHost msg = none) :=
  ⟨⟨hostAt inbound, 2, hostMsg 3 2 0 4 7 [], parsed 3 2 0 4 7 [], (hostAt inbound).blk.cus 3, by decide +kernel, by decide +kernel,
      by decide +kernel, by decide +kernel, by decide +kernel, by decide +kernel, by decide +kernel, fun _ _ h => by cases h⟩,
    ⟨hostAt inbound, 2, hostMsg 5 0 0 0 0 [], parsed 5 0 0 0 0 [], by decide +kernel⟩,
    ⟨hostAt inbound, 2, [0x21], by decide +kernel⟩⟩
theorem wit_hostSends :
    (∃ (s : State) (c : Nat) (p : Nat) (ch : Channel), ch = s.blk.cus c ∧ ch.ackDue = true ∧ ch.deliveredDue = false ∧ ch.port = some p
      ∧ s.blk.portUp p = true) ∧
    (∃ (s : State) (c : Nat) (p : Nat) (ch : Channel), ch = s.blk.cus c ∧ ch.ackDue = false ∧ ch.deliveredDue = true ∧ ch.port = some p
      ∧ s.blk.portUp p = true) ∧
    (∃ (s : State) (c : Nat) (p : Nat) (ch : Channel), ch = s.blk.cus c ∧ ch.ackDue = true ∧ ch.deliveredDue = true ∧ ch.port = some p
      ∧ s.blk.portUp p = true) ∧
    (∃ (s : State) (c : Nat) (p : Nat) (ch : Channel) (m : Nat × List Byte), ch = s.blk.cus c ∧ ch.port = some p ∧ s.blk.portUp p =
      true ∧ ch.inJ.find? (fun m => serialAbove 32 m.1 ch.hostSent) = some m ∧ ch.hostAdmits m.1 = true ∧ m.2.length ≤ s.blk.portLimit
      p) ∧
    (∃ (s : State) (c : Nat) (p : Nat) (ch : Channel) (m : Nat × List Byte), ch = s.blk.cus c ∧ ch.port = some p ∧ ch.inJ.find? (fun m
      => serialAbove 32 m.1 ch.hostSent) = some m ∧ ch.hostAdmits m.1 = false) ∧
    (∃ (s : State) (c : Nat) (p : Nat) (ch : Channel) (m : Nat × List Byte), ch = s.blk.cus c ∧ ch.port = some p ∧ s.blk.portUp p =
      true ∧ ch.inJ.find? (fun m => serialAbove 32 m.1 ch.hostSent) = some m ∧ ch.hostAdmits m.1 = true ∧ s.blk.portLimit p <
      m.2.length) ∧
    (∃ (s : State) (c : Nat) (p : Nat) (ch : Channel) (l : List (Nat × List Byte)), c ≠ 0xFFFF ∧ ch = s.blk.cus c ∧ ch.port = some p ∧
      s.blk.msPassed ch.ackTick s.blk.hostRto = true ∧ s.blk.portUp p = true ∧ l = ch.inJ.filter (fun m => !serialAbove 32 m.1
      ch.hostSent) ∧ ((∀ m ∈ l, m.2.length ≤ s.blk.portLimit p))) ∧
    (∃ (s : State) (c : Nat), s.blk.msPassed (if c = 0xFFFF then s.blk.custody.regc.ackTick else (s.blk.cus c).ackTick) s.blk.hostRto =
      false) ∧
    (∃ (s : State) (p : Nat) (l : List (Nat × Nat × List Byte)), s.blk.custody.regc.port = some p ∧ s.blk.portUp p = true ∧
      s.blk.msPassed s.blk.custody.regc.ackTick s.blk.hostRto = true ∧ l = s.blk.custody.regc.replies.filter (fun r => serialAbove 32
      r.2.1 s.blk.custody.regc.acked) ∧ ((∀ r ∈ l, r.2.2.length ≤ s.blk.portLimit p))) ∧
    (∃ (s : State) (stream : Nat) (i : Nat) (n : Nat) (p : Nat) (x : Packet) (l : List Packet), (List.range (leAt s.blk.cusSeg 0x0A
      1)).find? (fun i => leAt s.blk.cusSeg (0x40 + 32 * leAt s.blk.cusSeg 8 2 + 8 * i + 2) 1 == stream) = some i ∧ n = leAt
      s.blk.cusSeg (0x40 + 32 * leAt s.blk.cusSeg 8 2 + 8 * i) 2 ∧ (s.blk.q n).pkts = x :: l ∧ s.blk.custody.resyncPort = some p ∧
      s.blk.portUp p = true ∧ x.data.length ≤ s.blk.portLimit p) :=
  ⟨⟨hostAt { port := some 2, ackDue := true, accepted := 8 }, 3, 2, (hostAt { port := some 2, ackDue := true, accepted := 8 }).blk.cus
      3, by decide +kernel⟩,
    ⟨hostAt { port := some 2, deliveredDue := true, receipted := 8 }, 3, 2, (hostAt
      { port := some 2, deliveredDue := true, receipted := 8 }).blk.cus 3, by decide +kernel⟩,
    ⟨hostAt { port := some 2, ackDue := true, deliveredDue := true, receipted := 8, accepted := 9 }, 3, 2, (hostAt
      { port := some 2, ackDue := true, deliveredDue := true, receipted := 8, accepted := 9 }).blk.cus 3, by decide +kernel⟩,
    ⟨hostAt { inbound with port := some 2, hostSent := 4 }, 3, 2, (hostAt { inbound with port := some 2, hostSent := 4 }).blk.cus 3,
      (5, [2]), by decide +kernel⟩,
    ⟨hostAt { inbound with port := some 2, hostSent := 4, hostCredit := some (4, 0) }, 3, 2, (hostAt
      { inbound with port := some 2, hostSent := 4, hostCredit := some (4, 0) }).blk.cus 3, (5, [2]), by decide +kernel⟩,
    ⟨hostAt { inJ := [(5, List.replicate 1500 0)], port := some 2, hostSent := 4 }, 3, 2, (hostAt
      { inJ := [(5, List.replicate 1500 0)], port := some 2, hostSent := 4 }).blk.cus 3, (5, List.replicate 1500 0), by decide +kernel⟩,
    ⟨hostAt { inbound with port := some 2, hostSent := 4 } 6 [(R.GLB_TICK, 2500)], 3, 2, (hostAt
      { inbound with port := some 2, hostSent := 4 } 6 [(R.GLB_TICK, 2500)]).blk.cus 3, [(4, [1])], by decide +kernel⟩,
    ⟨hostAt { inbound with port := some 2, hostSent := 4 } 6 [(R.GLB_TICK, 2499)], 3, by decide +kernel⟩,
    ⟨{ registerAt with blk := registerAt.blk.set R.GLB_TICK 2500 }, 2, [(8, 2, [8])], by decide +kernel⟩,
    ⟨streamAt, 9, 0, 5, 2, pk 2, [], by decide +kernel⟩⟩
theorem wit_custodyFrames_1 :
    (∃ (s : State) (k : Nat) (c : Nat) (f : List Byte) (ch : Channel), s.blk.running = true ∧ s.blk.custody.inbox.find? (fun e => leAt
      e.2 2 1 == 1) = some (k, f) ∧ c = leAt f 0 2 ∧ ch = s.blk.cus c ∧ ch.present = true ∧ serialAbove 32 (leAt f 4 4) ch.journalled =
      false) ∧
    (∃ (s : State) (k : Nat) (c : Nat) (f : List Byte) (ch : Channel), s.blk.running = true ∧ s.blk.custody.inbox.find? (fun e => leAt
      e.2 2 1 == 1) = some (k, f) ∧ c = leAt f 0 2 ∧ ch = s.blk.cus c ∧ ch.present = true ∧ serialAbove 32 (leAt f 4 4) ch.journalled =
      true ∧ (leAt f 4 4 ≠ (ch.journalled + 1) % 2 ^ 32 ∨ leAt f 3 1 % 16 ≠ (match ch.part with | some p => p.next | none => 0))) ∧
    (∃ (s : State) (k : Nat) (c : Nat) (f : List Byte) (ch : Channel), s.blk.running = true ∧ s.blk.custody.inbox.find? (fun e => leAt
      e.2 2 1 == 1) = some (k, f) ∧ c = leAt f 0 2 ∧ ch = s.blk.cus c ∧ ch.present = true ∧ serialAbove 32 (leAt f 4 4) ch.journalled =
      true ∧ leAt f 4 4 = (ch.journalled + 1) % 2 ^ 32 ∧ leAt f 3 1 % 16 = (match ch.part with | some p => p.next | none => 0) ∧
      (ch.rxWindow = 0 ∨ ch.rxWindow - ch.rxUsed < msgCost (leAt f 8 2))) ∧
    (∃ (s : State) (k : Nat) (c : Nat) (i : Nat) (j : Nat) (f : List Byte) (old : List Byte) (ch : Channel), s.blk.running = true ∧
      s.blk.custody.inbox.find? (fun e => leAt e.2 2 1 == 1) = some (k, f) ∧ c = leAt f 0 2 ∧ ch = s.blk.cus c ∧ ch.present = true ∧
      serialAbove 32 (leAt f 4 4) ch.journalled = true ∧ leAt f 4 4 = (ch.journalled + 1) % 2 ^ 32 ∧ i = leAt f 3 1 % 16 ∧ j = leAt f 3
      1 / 16 ∧ i ≠ j ∧ i = (match ch.part with | some p => p.next | none => 0) ∧ old =
      (match ch.part with | some p => p.data | none => []) ∧ ch.rxWindow ≠ 0 ∧ msgCost (leAt f 8 2) ≤ ch.rxWindow - ch.rxUsed) ∧
    (∃ (s : State) (k : Nat) (c : Nat) (f : List Byte) (ch : Channel) (p : Partial), s.blk.running = true ∧ s.blk.custody.inbox.find?
      (fun e => leAt e.2 2 1 == 1) = some (k, f) ∧ c = leAt f 0 2 ∧ ch = s.blk.cus c ∧ ch.present = true ∧ serialAbove 32 (leAt f 4 4)
      ch.journalled = true ∧ leAt f 4 4 = (ch.journalled + 1) % 2 ^ 32 ∧ ch.part = some p ∧ leAt f 3 1 % 16 = p.next ∧ leAt f 3 1 / 16
      = p.next ∧ s.blk.openOf (ctxCustody c) = none ∧ ch.rxWindow ≠ 0 ∧ msgCost (leAt f 8 2) ≤ ch.rxWindow - ch.rxUsed) ∧
    (∃ (s : State) (k : Nat) (c : Nat) (f : List Byte) (ch : Channel), s.blk.running = true ∧ s.blk.custody.inbox.find? (fun e => leAt
      e.2 2 1 == 1) = some (k, f) ∧ c = leAt f 0 2 ∧ ch = s.blk.cus c ∧ ch.present = true ∧ serialAbove 32 (leAt f 4 4) ch.journalled =
      true ∧ leAt f 4 4 = (ch.journalled + 1) % 2 ^ 32 ∧ leAt f 3 1 = 0 ∧ s.blk.openOf (ctxCustody c) = none ∧ ch.part = none ∧
      ch.rxWindow ≠ 0 ∧ msgCost (leAt f 8 2) ≤ ch.rxWindow - ch.rxUsed) ∧
    (∃ (s : State) (c : Nat) (ch : Channel), s.blk.running = true ∧ ch = s.blk.cus c ∧ ch.present = true ∧ ch.receiptDue = true) ∧
    (∃ (s : State) (k : Nat) (c : Nat) (f : List Byte) (ch : Channel), s.blk.running = true ∧ s.blk.custody.inbox.find? (fun e => leAt
      e.2 2 1 == 2) = some (k, f) ∧ c = leAt f 0 2 ∧ ch = s.blk.cus c ∧ ch.present = true ∧ serialAbove 32 (leAt f 4 4) ch.peerSeq =
      true ∧ serialAbove 32 (leAt f 4 4) ch.receipted = true) ∧
    (∃ (s : State) (k : Nat) (c : Nat) (f : List Byte) (ch : Channel), s.blk.running = true ∧ s.blk.custody.inbox.find? (fun e => leAt
      e.2 2 1 == 2) = some (k, f) ∧ c = leAt f 0 2 ∧ ch = s.blk.cus c ∧ ch.present = true ∧ leAt f 4 4 = ch.peerSeq ∧ serialAbove 32
      (leAt f 4 4) ch.peerSeq = false ∧ serialAbove 32 (leAt f 4 4) ch.receipted = false) ∧
    (∃ (s : State) (c : Nat), s.blk.running = true ∧ (s.blk.cus c).outJ ≠ [] ∧ s.blk.msPassed (s.blk.cus c).receiptTick (leAt
      s.blk.cusSeg 0x10 2) = true ∧ s.blk.openOf (ctxCustody c) = none) :=
  ⟨⟨custodyAt inbound (lineFrame 1 0 5 2 0 [7, 8]), 7, 3, lineFrame 1 0 5 2 0 [7, 8], (custodyAt inbound (lineFrame 1 0 5 2 0 [7,
      8])).blk.cus 3, by decide +kernel⟩,
    ⟨custodyAt inbound (lineFrame 1 0 7 2 0 [7, 8]), 7, 3, lineFrame 1 0 7 2 0 [7, 8], (custodyAt inbound (lineFrame 1 0 7 2 0 [7,
      8])).blk.cus 3, by decide +kernel⟩,
    ⟨custodyAt inbound (lineFrame 1 0 6 60000 0 [7, 8]), 7, 3, lineFrame 1 0 6 60000 0 [7, 8], (custodyAt inbound (lineFrame 1 0 6
      60000 0 [7, 8])).blk.cus 3, by decide +kernel⟩,
    ⟨custodyAt inbound (lineFrame 1 0x10 6 4 0 [7, 8]), 7, 3, 0, 1, lineFrame 1 0x10 6 4 0 [7, 8], [], (custodyAt inbound (lineFrame 1
      0x10 6 4 0 [7, 8])).blk.cus 3, by decide +kernel⟩,
    ⟨custodyAt { inbound with part := some ⟨6, 4, 1, 1, [5, 6], 0⟩ } (lineFrame 1 0x11 6 4 0 [7, 8]), 7, 3, lineFrame 1 0x11 6 4 0 [7,
      8], (custodyAt { inbound with part := some ⟨6, 4, 1, 1, [5, 6], 0⟩ } (lineFrame 1 0x11 6 4 0 [7, 8])).blk.cus 3, ⟨6, 4, 1, 1, [5,
      6], 0⟩, by decide +kernel⟩,
    ⟨custodyAt { inbound with inJ := [] } (lineFrame 1 0 6 2 0 [7, 8]), 7, 3, lineFrame 1 0 6 2 0 [7, 8], (custodyAt
      { inbound with inJ := [] } (lineFrame 1 0 6 2 0 [7, 8])).blk.cus 3, by decide +kernel⟩,
    ⟨hostAt { inbound with receiptDue := true }, 3, (hostAt { inbound with receiptDue := true }).blk.cus 3, by decide +kernel⟩,
    ⟨custodyAt outbound (lineFrame 2 0 8 0 50 []), 7, 3, lineFrame 2 0 8 0 50 [], (custodyAt outbound (lineFrame 2 0 8 0 50
      [])).blk.cus 3, by decide +kernel⟩,
    ⟨custodyAt outbound (lineFrame 2 0 7 0 50 []), 7, 3, lineFrame 2 0 7 0 50 [], (custodyAt outbound (lineFrame 2 0 7 0 50
      [])).blk.cus 3, by decide +kernel⟩,
    ⟨hostAt outbound 6 [(R.GLB_TICK, 2500)], 3, by decide +kernel⟩⟩
theorem wit_custodyFrames_2 :
    (∃ (s : State) (c : Nat), s.blk.running = true ∧ ((s.blk.cus c).outJ = [] ∨ s.blk.msPassed (s.blk.cus c).receiptTick (leAt
      s.blk.cusSeg 0x10 2) = false)) ∧
    (∃ (s : State) (c : Nat) (p : Partial), s.blk.running = true ∧ (s.blk.cus c).part = some p ∧ s.blk.msPassed p.tick (leAt
      s.blk.cusSeg 0x14 2) = false) ∧
    (∃ (s : State) (c : Nat) (p : Partial), s.blk.running = true ∧ (s.blk.cus c).part = some p ∧ s.blk.msPassed p.tick (leAt
      s.blk.cusSeg 0x14 2) = true) ∧
    (∃ (s : State), s.blk.mode = 3 ∧ s.blk.custody.restoreDue = true ∧ s.blk.get R.QMG_STAT_BULK_READY = 1 ∧ s.blk.custody.slots =
      [none, none] ∧ s.blk.custody.everInForce = false) ∧
    (∃ (s : State), s.blk.mode = 3 ∧ s.blk.custody.restoreDue = true ∧ s.blk.get R.QMG_STAT_BULK_READY = 1 ∧ s.blk.custody.slots =
      [none, none] ∧ s.blk.custody.everInForce = true) ∧
    (∃ (s : State) (x : FlushSlot), s.blk.mode = 3 ∧ s.blk.custody.restoreDue = true ∧ s.blk.get R.QMG_STAT_BULK_READY = 1 ∧
      s.blk.custody.slots = [some x, none] ∧ x.complete = true ∧ x.consumed = false) ∧
    (∃ (s : State) (x : FlushSlot) (y : FlushSlot), s.blk.running = true ∧ s.blk.custody.slots = [some x, some y] ∧ x.complete = true ∧
      y.seq ≤ x.seq ∧ s.blk.get R.CUS_STAT_RESTORE_BUSY = 0) ∧
    (∃ (s : State) (x : FlushSlot) (y : FlushSlot), s.blk.running = true ∧ s.blk.custody.slots = [some x, some y] ∧ y.complete = true ∧
      x.seq < y.seq ∧ s.blk.get R.CUS_STAT_RESTORE_BUSY = 0) :=
  ⟨⟨hostAt outbound 6 [(R.GLB_TICK, 2499)], 3, by decide +kernel⟩,
    ⟨hostAt { part := some ⟨5, 9000, 2, 1, [], 0⟩ }, 3, ⟨5, 9000, 2, 1, [], 0⟩, by decide +kernel⟩,
    ⟨hostAt { part := some ⟨5, 9000, 2, 1, [], 0⟩ } 6 [(R.GLB_TICK, 225)], 3, ⟨5, 9000, 2, 1, [], 0⟩, by decide +kernel⟩,
    ⟨restoring none, by decide +kernel⟩,
    ⟨restoring none |> fun s => { s with blk := s.blk.setCustody { s.blk.custody with everInForce := true } }, by decide +kernel⟩,
    ⟨restoring (some (slot1 2)), slot1 2, by decide +kernel⟩,
    ⟨slotsAt 4 3, slot1 4, slot1 3, by decide +kernel⟩,
    ⟨slotsAt 3 4, slot1 3, slot1 4, by decide +kernel⟩⟩

/-! Sensor inputs, serial ports, truing. -/

/-- Channels 2 and 5 are voltages; channel 5's tone limits are 100 and 50. -/
def sensing (l : List (Field × Nat)) (f : SensorUnit → SensorUnit := id) : State :=
  inMode 6 ([(R.SEN_CH_CFG_KIND 2, 1), (R.SEN_CH_CFG_KIND 5, 1), (R.SEN_IMP_PERIOD, 1)] ++ l) (fun b => { b with
    sensor := f b.sensor
    image := { b.image with run := some { segs := [⟨9, 0, 0xFF, 0, 0, 0, [], List.replicate 0xCA 0 ++ [100, 0, 50, 0]⟩] } } })
/-- A channel sampled at 4 kHz whose conversions are over. -/
def sampled (l : List (Field × Nat)) (c : Nat) (f : SensorUnit → SensorUnit := id) : State :=
  sensing ((R.GLB_TICK, 1000000) :: l) (fun u => f { u with chan := some c, range := 1, rate := 8 })
/-- Serial port 1 enabled, 8 data bits without parity. -/
def serAt (l : List (Field × Nat)) (p : SerialPort) (m : Nat := 6) : State :=
  inMode m ([(R.SER_CFG_RX_EN 1, 1), (R.SER_CFG_TX_EN 1, 1), (R.SER_CFG_DATA 1, 3)] ++ l) (fun b => { b with serial := [{}, p] })
def frame1 (n : Nat) : List (List Bool) := [[false, false, false]] ++ (List.range 8).map (fun i => [n.testBit i, n.testBit i, n.testBit i]) ++ [[true, true, true]]
def char1 (n : Nat) : CharReport := ⟨frame1 n, 0, false⟩
/-- A character of zeros with no stop bit, one whose start bit is high, and one with a parity-free frame. -/
def break1 : CharReport := ⟨List.replicate 10 [false, false, false], 0, false⟩
def glitch1 : CharReport := ⟨List.replicate 10 [true, true, true], 0, false⟩
/-- Serial port 1 armed for wake in M9. -/
def armed1 (n : Nat) (wake : Bool := false) (l : List (Field × Nat) := []) : State :=
  serAt ((R.SER_CFG_WAKE_EN 1, 1) :: l) { wake := (List.range n).map (fun i => (i, 0)) } 9 |> fun s => { s with blk := s.blk.setPower { s.blk.power with wake := wake } }
/-- Port 1 in queue mode with an open packet of one entry for queue 5. -/
def serQ : State := let s := serAt [(R.SER_RX_PKT_RX_Q_EN 1, 1), (R.SER_RX_PKT_PKT_CHARS 1, 8), (R.SER_RX_PKT_CLOSE_IDLE 1, 1),
  (R.SER_RX_AGE_PKT_TICKS 1, 4)] { entries := [65] };
  { s with blk := { s.blk with queue := { s.blk.queue with queues := [(5, { capacity := 4 })], opened := [⟨ctxSerial 1, 5, 32, 0, 0⟩] } } }
/-- Truing in mode `m`: port 0 on Band H. -/
def truAt (m : Nat) (l : List (Field × Nat)) (f : TruBlock → TruBlock := id) : State :=
  gridNode m ([(R.TRU_STAT_ACTIVE, 15), (R.TRU_CFG_PERIOD, 9), (R.TRU_CFG_TEMP_DELTA, 50), (R.TRU_CFG_USE_CONTENTION, 1)] ++ l)
    (fun b => { b with truing := { b.truing with blocks := [(0, f {})] } })
def truResult (d a : Int) : TruReport := ⟨d, 1, 2, 3, a, 0, 0, 0, []⟩
/-- A queue for port 1's receiver, with nothing open yet; port 1 in queue mode whose queue is absent; transmission from queue 5. -/
def serQ0 (cap : Nat) : State := serAt [(R.SER_RX_PKT_RX_Q_EN 1, 1), (R.SER_RX_PKT_PKT_CHARS 1, 8), (R.SER_RX_PKT_RX_QUEUE 1, 5)] {} |> fun s =>
  { s with blk := { s.blk with queue := { s.blk.queue with queues := [(5, { capacity := cap })] } } }
def serQ8 : State := { serQ with blk := { serQ.blk with serial := [{}, { entries := [65, 65, 65, 65, 65, 65, 65] }] } }
def serTx : State := serAt [(R.SER_TX_Q_TX_Q_EN 1, 1), (R.SER_TX_Q_TX_QUEUE 1, 5)] { txCur := some 1, de := true } |> fun s =>
  { s with blk := { s.blk with queue := { s.blk.queue with queues := [(5, { capacity := 4, pkts := [⟨0, 0, 0, [65, 0, 66, 0]⟩] })] } } }
/-- A report that truing's factory values turn into a result of zeros but for the loop delay and the amplitude. -/
def truZero (d a : Int) : TruReport := ⟨d - (Config.truFactory 0).2.1 - (Config.truFactory 0).1, -(Config.truFactory 0).2.1, 0, 0, a + (Config.truFactory 0).2.2, 0, 0, 0, []⟩
def truOver (n : Nat) (f : TruBlock → TruBlock := id) : State := truAt 6 [(R.TRU_STAT_ACTIVE, 0)] (fun x => f { x with passes := n })
def truSerial : State := truAt 6 [(R.TRU_STAT_ACTIVE, 8)]
theorem truKeep_zero (d a : Int) : truKeep 0 (truZero d a) = { txDelay := d, ampl := a } := by
  simp only [truKeep, truZero]; norm_num; ring
theorem break1_low (i : Nat) : break1.bit false i = false := by
  rcases Nat.lt_or_ge i 10 with h | h
  · interval_cases i <;> rfl
  · simp [CharReport.bit, break1, h]

theorem test_scanStart : let s := sensing []; s.blk.converting = true ∧ s.blk.enabledFrom 0 = [2, 5] ∧
    s.blk.get R.SEN_STAT_SCANNING = 0 ∧ (after .scanStart s).blk.sensor.chan = some 2 := by decide +kernel
theorem test_sampleComplete : let s := sampled [] 2; (after (.sampleComplete ⟨[-2097152], [], false⟩) s).blk.get R.SEN_SAMPLE_COUNT = 1 := by
  decide +kernel
theorem test_complianceTrip : let s := sensing [(R.SEN_CH_CFG_EXC 5, 1)] (fun u => { u with chan := some 5 }); s.blk.converting = true ∧
    s.blk.sensor.chan = some 5 ∧ s.blk.sensor.checks = [] ∧ s.blk.get (R.SEN_CH_CFG_EXC 5) ≠ 0 :=
  by decide +kernel
theorem test_clampOnset : let s := sensing [] (fun u => { u with chan := some 2 }); s.blk.running = true ∧
    (after (.clampOnset 2) s).blk.sensor.clamped = true ∧ (after (.clampOnset 2) s).blk.get R.SEN_STAT_CLAMP = 4 ∧
    (after (.clampEnd 2) (after (.clampOnset 2) s)).blk.get R.SEN_STAT_CLAMP = 0 := by decide +kernel
theorem test_impCheckDue : let s := sensing []; s.blk.get R.SEN_IMP_PERIOD ≠ 0 ∧ s.blk.converting = true ∧ s.blk.sensor.chan = none ∧
    (after (.impCheckDue [0, 0, 70, 0, 0, 120]) s).blk.get R.SEN_IMP_CHECK_COUNT = 2 ∧
    (after (.impCheckDue [0, 0, 70, 0, 0, 120]) s).blk.get (R.SEN_IMP 5) = 120 ∧
    (after (.impCheckDue [0, 0, 70, 0, 0, 120]) s).blk.get R.SEN_STAT_OPEN = 32 := by decide +kernel
theorem test_senCmdImpCheck : let s := sensing []; s.blk.get (R.SEN_CH_CFG_KIND 5) ≠ 0 ∧ s.blk.chan 5 10 2 = 100 ∧
    s.blk.chan 5 12 2 = 50 ∧ (after (.senCmdImpCheck 5 60) s).blk.get R.SEN_STAT_IMP_FAIL = 32 ∧
    (after (.senCmdImpCheck 5 101) s).blk.get R.SEN_STAT_OPEN = 32 ∧
    (after (.senCmdImpCheck 5 60) (sensing [] (fun u => { u with chan := some 2 }))).blk.sensor.checks = [(5, 60)] := by decide +kernel
theorem test_senCmdRestartScan : let s := sensing [(R.SEN_STAT_SCANNING, 1)]; s.blk.reachable = true ∧
    (after .senCmdRestartScan s).blk.sensor.restart = true ∧
    (after .scanStart (after .senCmdRestartScan s)).blk.sensor.chan = some 2 ∧ (after .scanStart s).blk.sensor.chan = none := by
  decide +kernel
theorem test_characterReceived : let s := serAt [(R.SER_STAT_IDLE 1, 1)] { lost := true };
    ((after (.characterReceived 1 (char1 0x41)) s).blk.ser 1).hold = some 0x2041 := by decide +kernel
theorem test_characterReceived_overrun : let t := after (.characterReceived 1 (char1 9)) (serAt [] { hold := some 7 });
    (t.blk.ser 1).hold = some 7 ∧ t.blk.get (R.SER_STAT_OE 1) = 1 ∧
    (after (.characterReceived 1 glitch1) (serAt [] {})).blk.get (R.SER_GLITCH_COUNT 1) = 1 := by decide +kernel
theorem test_characterReceived_ignored : let s := serAt [(R.SER_STAT_SUPPRESSED 1, 1)] {}; s.blk.mode ≠ 9 ∧
    s.blk.get (R.SER_STAT_SUPPRESSED 1) = 1 ∧ ((after (.characterReceived 1 (char1 9)) s).blk.ser 1).hold = none ∧
    (after (.suppressionEnd 1) s).blk.get (R.SER_STAT_SUPPRESSED 1) = 0 := by decide +kernel
theorem test_characterReceived_break : let t := after (.characterReceived 1 break1) (serAt [] {});
    (t.blk.ser 1).hold = some 0xC00 ∧ t.blk.get (R.SER_STAT_SUPPRESSED 1) = 1 := by decide +kernel
theorem test_characterReceived_queue : let s := serQ; s.blk.serRxOn 1 = true ∧ s.blk.serRxQ 1 = true ∧ (s.blk.ser 1).entries ≠ [] ∧
    s.blk.openOf (ctxSerial 1) = some ⟨ctxSerial 1, 5, 32, 0, 0⟩ ∧ (s.blk.ser 1).entries.length + 1 < s.blk.pktChars 1 ∧
    ((after (.characterReceived 1 (char1 66)) s).blk.ser 1).entries = [65, 66] := by decide +kernel
theorem test_lineIdle : let f (t : State) := ((t.blk.q 5).pkts.map (fun p => p.data.drop 12));
    f (after (.lineIdle 1) serQ) = [[1, 2, 0, 0, 65, 0]] ∧
    f (after (.packetAgeExpiry 1) { serQ with blk := serQ.blk.set R.GLB_TICK 4 }) = [[1, 4, 0, 0, 65, 0]] := by decide +kernel
theorem test_lineIdle_hold : let s := serAt [] {}; s.blk.serRxOn 1 = true ∧ s.blk.get (R.SER_STAT_IDLE 1) = 0 ∧ s.blk.serRxQ 1 = false ∧
    (after (.lineIdle 1) s).blk.get (R.SER_STAT_IDLE 1) = 1 := by decide +kernel
theorem test_lineStuck : let s := serAt [(R.SER_STAT_SUPPRESSED 1, 1), (R.SER_DE_STUCK_CHARS 1, 9)] {}; s.blk.running = true ∧
    s.blk.get (R.SER_STAT_SUPPRESSED 1) = 1 ∧ s.blk.get (R.SER_DE_STUCK_CHARS 1) ≠ 0 ∧
    (after (.lineStuck 1) s).blk.get (R.SER_LINE_STUCK_COUNT 1) = 1 := by decide +kernel
theorem test_serDataRead : let l := [(R.SER_DATA 1, 65), (R.SER_STAT_FE 1, 1), (R.SER_STAT_RX_FULL 1, 1)];
    let s := serAt l { hold := some 65, rsc := true }; let s' := serAt l { hold := some 65 }; s.blk.reachable = true ∧
    (s.blk.ser 1).rsc = true ∧ (after (.serDataRead 1) s).blk.readData = 65 ∧ (after (.serDataRead 1) s).blk.get (R.SER_STAT_FE 1) = 0 ∧
    (s'.blk.ser 1).rsc = false ∧ (after (.serDataRead 1) s').blk.get (R.SER_STAT_FE 1) = 1 := by decide +kernel
theorem test_serTxdWrite : let s := serAt [] {}; s.blk.serTxOn 1 = true ∧ s.blk.serTxQ 1 = false ∧ (s.blk.ser 1).txHold = none ∧
    (s.blk.ser 1).txRest = [] ∧ (s.blk.ser 1).txCur = none ∧ ((after (.serTxdWrite 1 0x441) s).blk.ser 1).txCur = some 0x41 ∧
    ((after (.serTxdWrite 1 0x441) s).blk.ser 1).de = true := by decide +kernel
theorem test_serTxdWrite_busy : let s := serAt [] { txCur := some 1 }; let s' := serAt [] { txCur := some 1, txHold := some 2 };
    s.blk.reachable = true ∧ (s.blk.ser 1).txHold = none ∧ ((after (.serTxdWrite 1 3) s).blk.ser 1).txHold = some 3 ∧
    (s'.blk.ser 1).txHold.isSome = true ∧ ((after (.serTxdWrite 1 3) s').blk.ser 1).txHold = some 2 ∧
    (after (.serTxdWrite 1 3) s').blk.get (R.SER_TROUBLE_TX_REFUSED 1) = 1 := by decide +kernel
theorem test_txCharacterComplete : let t := after (.txCharacterComplete 1) (serAt [] { txCur := some 5, de := true });
    (t.blk.ser 1).txCur = none ∧ (t.blk.ser 1).tail = true := by decide +kernel
theorem test_txCharacterComplete_next : let s := serAt [] { txCur := some 1, txHold := some 2, de := true }; s.blk.serTxOn 1 = true ∧
    (s.blk.ser 1).txHold = some 2 ∧ ((after (.txCharacterComplete 1) s).blk.ser 1).txCur = some 2 ∧
    ((after (.txCharacterComplete 1) s).blk.ser 1).tail = false := by decide +kernel
/-- R421: PERIOD counts in 10 min, 225000 ticks apiece in the test's setting. -/
theorem test_truPeriodExpiry : let f (n : Nat) := truAt 6 [(R.GLB_TICK, n)] (fun x => { x with doneTick := some 0 });
    (after (.truPeriodExpiry 0) (f 225000)).blk.truing.sets = [1] ∧ (after (.truPeriodExpiry 0) (f 224999)).blk.truing.sets = [] := by
  decide +kernel
theorem test_tempDeltaTrigger : let s := truAt 6 [] (fun x => { x with doneTick := some 0 });
    (after (.tempDeltaTrigger 0 51) s).blk.truing.sets = [1] ∧ (after (.tempDeltaTrigger 0 50) s).blk.truing.sets = [] := by decide +kernel
theorem test_truCmd : let s := truAt 6 []; (1 : Word).toNat.testBit 0 = true ∧ s.blk.truUsed 0 = true ∧
    (after (.truCmd 1) s).blk.truPending 0 = true ∧ (after (.truCmd 1) (truAt 8 [])).blk.truPending 0 = false := by decide +kernel

/-! Witnesses: for each clause of the statements above with hypotheses, a state and operands that meet them all. -/

theorem wit_sensorScans_1 :
    (∃ (s : State) (c : Nat) (l : List Nat) (u : SensorUnit), s.blk.converting = true ∧ s.blk.enabledFrom 0 = c :: l ∧ u = s.blk.sensor
      ∧ (u.restart = true ∨ (s.blk.get R.SEN_STAT_SCANNING = 0 ∧ s.blk.scanDue = true)) ∧ s.blk.dueCheck c false = none) ∧
    (∃ (s : State) (c : Nat) (imp : Nat), s.blk.converting = true ∧ s.blk.enabledFrom 0 = [c] ∧ c < 8 ∧ (s.blk.sensor.restart = true ∨
      (s.blk.get R.SEN_STAT_SCANNING = 0 ∧ s.blk.scanDue = true)) ∧ s.blk.dueCheck c false = some (c, imp, false)) ∧
    (∃ (s : State), s.blk.running = true ∧ s.blk.sensor.restart = false ∧ (s.blk.get R.SEN_STAT_SCANNING = 1 ∨ s.blk.scanDue = false)) ∧
    (∃ (s : State) (c : Nat) (n : Nat) (k : Nat) (r : SampleReport), s.blk.converting = true ∧ s.blk.sensor.chan = some c ∧ c < 8 ∧
      s.blk.sensor.checks = [] ∧ s.blk.readings c r = some n ∧ k = ceilDiv (s.blk.convSpan c n (r.codes.getD (n - 1) 0)) 40 ∧
      s.blk.firstConv + k ≤ s.blk.tick) ∧
    (∃ (s : State) (c : Nat) (n : Nat) (r : SampleReport), s.blk.running = true ∧ s.blk.sensor.chan = some c ∧ s.blk.readings c r =
      some n ∧ s.blk.tick < s.blk.firstConv + ceilDiv (s.blk.convSpan c n (r.codes.getD (n - 1) 0)) 40) ∧
    (∃ (s : State) (c : Nat) (span : Nat) (x : Int) (v : Int), s.blk.converting = true ∧ s.blk.sensor.chan = some c ∧ c < 8 ∧
      s.blk.sensor.checks = [] ∧ s.blk.get (R.SEN_CH_CFG_KIND c) = 1 ∧ s.blk.sensor.avg ≤ 1 ∧ s.blk.sensor.impOpen.testBit c = false ∧
      -8388607 < x ∧ x < 8388607 ∧ x * fullScale s.blk.sensor.range = 8388608 * v ∧ span = convUs s.blk.sensor.rate ∧ s.blk.firstConv +
      ceilDiv span 40 ≤ s.blk.tick) ∧
    (∃ (s : State) (c : Nat) (span : Nat) (x : Int), s.blk.converting = true ∧ s.blk.sensor.chan = some c ∧ c < 8 ∧ s.blk.sensor.checks
      = [] ∧ s.blk.get (R.SEN_CH_CFG_KIND c) = 1 ∧ s.blk.sensor.impOpen.testBit c = false ∧ (8388607 ≤ x ∨ x ≤ -8388607) ∧ span =
      convUs s.blk.sensor.rate ∧ s.blk.firstConv + ceilDiv span 40 ≤ s.blk.tick) ∧
    (∃ (s : State) (c : Nat) (n : Nat) (r : SampleReport), s.blk.converting = true ∧ s.blk.sensor.chan = some c ∧ c < 8 ∧
      s.blk.sensor.checks = [] ∧ s.blk.readings c r = some n ∧ r.burnout = true ∧ s.blk.sensor.burnout = true ∧ s.blk.firstConv +
      ceilDiv (s.blk.convSpan c n (r.codes.getD (n - 1) 0)) 40 ≤ s.blk.tick) ∧
    (∃ (s : State) (c : Nat), s.blk.converting = true ∧ s.blk.sensor.chan = some c ∧ c < 8 ∧ s.blk.sensor.checks = [] ∧ s.blk.get
      (R.SEN_CH_CFG_EXC c) ≠ 0) ∧
    (∃ (s : State) (c : Nat), s.blk.sensor.chan ≠ some c) :=
  ⟨⟨sensing [], 2, [5], (sensing []).blk.sensor, by decide +kernel⟩,
    ⟨{ sensing [(R.SEN_CH_CFG_KIND 2, 0)] with blk := (sensing [(R.SEN_CH_CFG_KIND 2, 0)]).blk.setSensor { ({} : SensorUnit) with checks := [(5, 60, false)] } },
      5, 60, by decide +kernel⟩,
    ⟨sensing [(R.SEN_STAT_SCANNING, 1)], by decide +kernel⟩,
    ⟨sampled [] 2, 2, 1, 7, ⟨[-2097152], [], false⟩, by decide +kernel⟩,
    ⟨sensing [] (fun u => { u with chan := some 2, range := 1, rate := 8 }), 2, 1, ⟨[-2097152], [], false⟩, by decide +kernel⟩,
    ⟨sampled [] 2, 2, 250, -2097152, -390625, by decide +kernel⟩,
    ⟨sampled [] 2, 2, 250, 8388607, by decide +kernel⟩,
    ⟨sampled [] 2 (fun u => { u with burnout := true }), 2, 1, ⟨[5], [], true⟩, by decide +kernel⟩,
    ⟨sensing [(R.SEN_CH_CFG_EXC 5, 1)] (fun u => { u with chan := some 5 }), 5, by decide +kernel⟩,
    ⟨sensing [], 2, by decide +kernel⟩⟩
theorem wit_sensorScans_2 :
    (∃ (s : State) (c : Nat), s.blk.running = true ∧ c < 8) ∧
    (∃ (s : State) (c : Nat), s.blk.running = true ∧ c < 8) ∧
    (∃ (s : State), s.blk.get R.SEN_IMP_PERIOD ≠ 0 ∧ s.blk.converting = true ∧ s.blk.sensor.chan = none ∧ ((∀ t, s.blk.sensor.impTick =
      some t → t + 2500 * s.blk.get R.SEN_IMP_PERIOD ≤ s.blk.tick))) ∧
    (∃ (s : State) (d : Nat), s.blk.get R.SEN_IMP_PERIOD ≠ 0 ∧ s.blk.converting = true ∧ s.blk.sensor.chan = some d ∧ ((∀ t,
      s.blk.sensor.impTick = some t → t + 2500 * s.blk.get R.SEN_IMP_PERIOD ≤ s.blk.tick))) ∧
    (∃ (s : State) (t0 : Nat), s.blk.running = true ∧ s.blk.sensor.impTick = some t0 ∧ s.blk.tick < t0 + 2500 * s.blk.get
      R.SEN_IMP_PERIOD) ∧
    (∃ (s : State) (c : Nat), s.blk.converting = true ∧ c < 8 ∧ s.blk.get (R.SEN_CH_CFG_KIND c) ≠ 0 ∧ s.blk.sensor.chan = none) ∧
    (∃ (s : State) (c : Nat) (d : Nat), s.blk.converting = true ∧ c < 8 ∧ s.blk.get (R.SEN_CH_CFG_KIND c) ≠ 0 ∧ s.blk.sensor.chan =
      some d) ∧
    (∃ (s : State) (c : Nat), 4 ≤ s.blk.mode ∧ s.blk.reachable = true ∧ c < 8 ∧ s.blk.get (R.SEN_CH_CFG_KIND c) ≠ 0 ∧ s.blk.get
      R.SEN_STAT_STALE = 1) ∧
    (∃ (s : State), s.blk.reachable = true) :=
  ⟨⟨sensing [] (fun u => { u with chan := some 2 }), 2, by decide +kernel⟩,
    ⟨sensing [] (fun u => { u with chan := some 2 }), 2, by decide +kernel⟩,
    ⟨sensing [], by decide +kernel⟩,
    ⟨sensing [] (fun u => { u with chan := some 2 }), 2, by decide +kernel⟩,
    ⟨sensing [] (fun u => { u with impTick := some 0 }), 0, by decide +kernel⟩,
    ⟨sensing [], 5, by decide +kernel⟩,
    ⟨sensing [] (fun u => { u with chan := some 2 }), 5, 2, by decide +kernel⟩,
    ⟨sensing [(R.SEN_STAT_STALE, 1)], 5, by decide +kernel⟩,
    ⟨sensing [], by decide +kernel⟩⟩
theorem wit_serialReception_1 :
    (∃ (s : State) (k : Nat) (r : CharReport) (f : SerFormat) (e : Nat), s.blk.serial.length = 2 ∧ takesChar s.blk k r f ∧ s.blk.serRxQ
      k = false ∧ (s.blk.ser k).hold = none ∧ r.glitch f = false ∧ f.data ≤ 9 ∧ e = (s.blk.ser k).tag (f.decode r false)) ∧
    (∃ (s : State) (k : Nat) (x : Nat) (r : CharReport) (f : SerFormat), s.blk.serial.length = 2 ∧ takesChar s.blk k r f ∧ s.blk.serRxQ
      k = false ∧ (s.blk.ser k).hold = some x ∧ r.glitch f = false) ∧
    (∃ (s : State) (k : Nat) (r : CharReport) (f : SerFormat), takesChar s.blk k r f ∧ r.glitch f = true) ∧
    (∃ (s : State) (k : Nat) (r : CharReport) (f : SerFormat), s.blk.mode ≠ 9 ∧ f = s.blk.rxFormat k r ∧ (s.blk.serMasked k (r.stamp -
      f.halves * s.blk.halfBit k f) = true ∨ s.blk.get (R.SER_STAT_SUPPRESSED k) = 1 ∨ s.blk.serRxOn k = false ∨ (f.sync = true ∧
      (s.blk.ser k).txCur = none))) ∧
    (∃ (s : State) (k : Nat) (r : CharReport) (f : SerFormat) (o : OpenPkt), s.blk.serial.length = 2 ∧ takesChar s.blk k r f ∧
      s.blk.serRxQ k = true ∧ r.glitch f = false ∧ (f.decode r false).testBit 11 = false ∧ (s.blk.ser k).entries ≠ [] ∧ s.blk.openOf
      (ctxSerial k) = some o ∧ (s.blk.ser k).entries.length + 1 < s.blk.pktChars k) ∧
    (∃ (s : State) (k : Nat) (n : Nat) (r : CharReport) (f : SerFormat), s.blk.serial.length = 2 ∧ takesChar s.blk k r f ∧ s.blk.serRxQ
      k = true ∧ r.glitch f = false ∧ (f.decode r false).testBit 11 = false ∧ (s.blk.ser k).entries = [] ∧ s.blk.openOf (ctxSerial k) =
      none ∧ 1 < s.blk.pktChars k ∧ n = s.blk.get (R.SER_RX_PKT_RX_QUEUE k) ∧ (s.blk.q n).capacity ≠ 0 ∧ (s.blk.q n).refill = false ∧
      (s.blk.q n).bulk = false ∧ s.blk.fill n + cellsOf (16 + 2 * s.blk.pktChars k) ≤ (s.blk.q n).capacity) ∧
    (∃ (s : State) (k : Nat) (r : CharReport) (f : SerFormat), s.blk.serial.length = 2 ∧ takesChar s.blk k r f ∧ s.blk.serRxQ k = true
      ∧ r.glitch f = false ∧ (s.blk.ser k).entries = [] ∧ s.blk.openOf (ctxSerial k) = none ∧ (s.blk.q (s.blk.get
      (R.SER_RX_PKT_RX_QUEUE k))).capacity = 0) ∧
    (∃ (s : State) (k : Nat) (r : CharReport) (f : SerFormat) (o : OpenPkt), s.blk.serial.length = 2 ∧ takesChar s.blk k r f ∧
      s.blk.serRxQ k = true ∧ r.glitch f = false ∧ ((f.decode r false).testBit 11 = true ∨ s.blk.pktChars k ≤ (s.blk.ser
      k).entries.length + 1) ∧ (s.blk.ser k).entries ≠ [] ∧ s.blk.openOf (ctxSerial k) = some o ∧ 18 + 2 * (s.blk.ser k).entries.length
      ≤ o.maxLen) ∧
    (∃ (s : State) (k : Nat) (r : CharReport) (f : SerFormat), s.blk.serial.length = 2 ∧ takesChar s.blk k r f ∧ f.sync = false ∧
      s.blk.serRxQ k = false ∧ (s.blk.ser k).hold = none ∧ (s.blk.ser k).lost = false ∧ ((∀ i, r.bit false i = false))) ∧
    (∃ (s : State) (k : Nat), s.blk.running = true ∧ k < 2 ∧ s.blk.get (R.SER_STAT_SUPPRESSED k) = 1 ∧ s.blk.get (R.SER_DE_STUCK_CHARS
      k) ≠ 0) :=
  ⟨⟨serAt [(R.SER_STAT_IDLE 1, 1)] { lost := true }, 1, char1 0x41, {}, 0x2041, by decide +kernel⟩,
    ⟨serAt [] { hold := some 7 }, 1, 7, char1 9, {}, by decide +kernel⟩,
    ⟨serAt [] {}, 1, glitch1, {}, by decide +kernel⟩,
    ⟨serAt [(R.SER_STAT_SUPPRESSED 1, 1)] {}, 1, char1 9, {}, by decide +kernel⟩,
    ⟨serQ, 1, char1 0x41, {}, ⟨ctxSerial 1, 5, 32, 0, 0⟩, by decide +kernel⟩,
    ⟨serQ0 4, 1, 5, char1 0x41, {}, by decide +kernel⟩,
    ⟨serQ0 0, 1, char1 0x41, {}, by decide +kernel⟩,
    ⟨serQ8, 1, char1 0x41, {}, ⟨ctxSerial 1, 5, 32, 0, 0⟩, by decide +kernel⟩,
    ⟨serAt [] {}, 1, break1, {}, by decide +kernel, by decide +kernel, by decide +kernel, by decide +kernel, by decide +kernel,
      by decide +kernel, break1_low⟩,
    ⟨serAt [(R.SER_STAT_SUPPRESSED 1, 1), (R.SER_DE_STUCK_CHARS 1, 3)] {}, 1, by decide +kernel⟩⟩
theorem wit_serialReception_2 :
    (∃ (s : State) (k : Nat), k < 2 ∧ 2 ≤ s.blk.mode) ∧
    (∃ (s : State) (k : Nat), s.blk.serRxOn k = true ∧ s.blk.get (R.SER_STAT_IDLE k) = 0 ∧ s.blk.serRxQ k = false) ∧
    (∃ (s : State) (k : Nat) (o : OpenPkt), s.blk.serial.length = 2 ∧ s.blk.serRxOn k = true ∧ s.blk.get (R.SER_STAT_IDLE k) = 0 ∧
      s.blk.serRxQ k = true ∧ s.blk.get (R.SER_RX_PKT_CLOSE_IDLE k) = 1 ∧ (s.blk.ser k).entries ≠ [] ∧ s.blk.openOf (ctxSerial k) =
      some o ∧ 16 + 2 * (s.blk.ser k).entries.length ≤ o.maxLen) ∧
    (∃ (s : State) (k : Nat) (o : OpenPkt), s.blk.running = true ∧ s.blk.serial.length = 2 ∧ k < 2 ∧ s.blk.get (R.SER_RX_AGE_PKT_TICKS
      k) ≠ 0 ∧ (s.blk.ser k).first + s.blk.get (R.SER_RX_AGE_PKT_TICKS k) ≤ s.blk.tick ∧ (s.blk.ser k).entries ≠ [] ∧ s.blk.openOf
      (ctxSerial k) = some o ∧ 16 + 2 * (s.blk.ser k).entries.length ≤ o.maxLen) ∧
    (∃ (s : State) (k : Nat), s.blk.running = true ∧ (s.blk.get (R.SER_RX_AGE_PKT_TICKS k) = 0 ∨ s.blk.tick < (s.blk.ser k).first +
      s.blk.get (R.SER_RX_AGE_PKT_TICKS k))) ∧
    (∃ (s : State) (k : Nat), s.blk.reachable = true ∧ s.blk.serial.length = 2 ∧ k < 2) ∧
    (∃ (s : State) (k : Nat) (e : Nat) (r : CharReport) (fast : Bool), s.blk.serArmed k = true ∧ s.blk.serial.length = 2 ∧ fast =
      decide (655360 < s.blk.get (R.SER_BAUD_INC k)) ∧ (r.glitch (s.blk.rxFormat k r) = false ∨ fast = true) ∧ e = (s.blk.ser k).tag
      ((s.blk.rxFormat k r).decode r fast) ∧ (s.blk.ser k).wake.length < 32) ∧
    (∃ (s : State) (k : Nat) (r : CharReport), s.blk.serArmed k = true ∧ s.blk.get (R.SER_BAUD_INC k) ≤ 655360 ∧ r.glitch
      (s.blk.rxFormat k r) = true) ∧
    (∃ (s : State) (k : Nat) (r : CharReport) (f : SerFormat), s.blk.serArmed k = true ∧ s.blk.serial.length = 2 ∧ s.blk.power.wake =
      true ∧ f = s.blk.rxFormat k r ∧ r.glitch f = false ∧ (s.blk.ser k).wake.length < 32) ∧
    (∃ (s : State) (k : Nat) (r : CharReport) (f : SerFormat), s.blk.serArmed k = true ∧ s.blk.serial.length = 2 ∧ s.blk.power.wake =
      true ∧ f = s.blk.rxFormat k r ∧ r.glitch f = false ∧ 32 ≤ (s.blk.ser k).wake.length) :=
  ⟨⟨serAt [(R.SER_STAT_SUPPRESSED 1, 1)] {}, 1, by decide +kernel⟩,
    ⟨serAt [] {}, 1, by decide +kernel⟩,
    ⟨serQ, 1, ⟨ctxSerial 1, 5, 32, 0, 0⟩, by decide +kernel⟩,
    ⟨{ serQ with blk := serQ.blk.set R.GLB_TICK 4 }, 1, ⟨ctxSerial 1, 5, 32, 0, 0⟩, by decide +kernel⟩,
    ⟨serQ, 1, by decide +kernel⟩,
    ⟨serAt [] { hold := some 7 }, 1, by decide +kernel⟩,
    ⟨armed1 3, 1, ((armed1 3).blk.ser 1).tag 0x41, char1 0x41, false, by decide +kernel⟩,
    ⟨armed1 3, 1, glitch1, by decide +kernel⟩,
    ⟨armed1 3 true, 1, char1 0x41, {}, by decide +kernel⟩,
    ⟨armed1 32 true, 1, char1 0x41, {}, by decide +kernel⟩⟩
theorem wit_serialTransmission :
    (∃ (s : State) (k : Nat), s.blk.serial.length = 2 ∧ s.blk.serTxOn k = true ∧ s.blk.serTxQ k = false ∧ (s.blk.ser k).txHold = none ∧
      (s.blk.ser k).txRest = [] ∧ (s.blk.ser k).txCur = none) ∧
    (∃ (s : State) (k : Nat) (x : Nat), s.blk.reachable = true ∧ s.blk.serial.length = 2 ∧ k < 2 ∧ s.blk.serTxQ k = false ∧ (s.blk.ser
      k).txHold = none ∧ (s.blk.ser k).txCur = some x) ∧
    (∃ (s : State) (k : Nat), s.blk.reachable = true ∧ k < 2 ∧ ((s.blk.ser k).txHold.isSome = true ∨ s.blk.serTxQ k = true)) ∧
    (∃ (s : State) (k : Nat) (e : Nat), s.blk.running = true ∧ s.blk.serial.length = 2 ∧ k < 2 ∧ (s.blk.ser k).txCur = some e ∧
      (s.blk.ser k).txHold = none ∧ (s.blk.ser k).txRest = [] ∧ s.blk.serTxQ k = false) ∧
    (∃ (s : State) (k : Nat) (e : Nat) (x : Nat), s.blk.serial.length = 2 ∧ s.blk.serTxOn k = true ∧ (s.blk.ser k).txCur = some e ∧
      (s.blk.ser k).txHold = some x ∧ (s.blk.ser k).txRest = []) ∧
    (∃ (s : State) (k : Nat) (e : Nat) (x : Nat) (l : List Nat), s.blk.serial.length = 2 ∧ s.blk.serTxOn k = true ∧ (s.blk.ser k).txCur
      = some e ∧ (s.blk.ser k).txRest = x :: l) ∧
    (∃ (s : State) (k : Nat) (e : Nat) (n : Nat) (p : Packet) (l : List Packet), s.blk.serial.length = 2 ∧ s.blk.serTxOn k = true ∧
      (s.blk.ser k).txCur = some e ∧ (s.blk.ser k).txRest = [] ∧ (s.blk.ser k).txHold = none ∧ s.blk.serTxQ k = true ∧ n = s.blk.get
      (R.SER_TX_Q_TX_QUEUE k) ∧ (s.blk.q n).pkts = p :: l ∧ 2 ≤ p.data.length) ∧
    (∃ (s : State) (k : Nat), s.blk.running = true ∧ s.blk.serial.length = 2 ∧ k < 2 ∧ (s.blk.ser k).tail = true) :=
  ⟨⟨serAt [] {}, 1, by decide +kernel⟩,
    ⟨serAt [] { txCur := some 5 }, 1, 5, by decide +kernel⟩,
    ⟨serAt [] { txCur := some 5, txHold := some 6 }, 1, by decide +kernel⟩,
    ⟨serAt [] { txCur := some 5, de := true }, 1, 5, by decide +kernel⟩,
    ⟨serAt [] { txCur := some 1, txHold := some 2, de := true }, 1, 1, 2, by decide +kernel⟩,
    ⟨serAt [] { txCur := some 1, txRest := [2, 3], de := true }, 1, 1, 2, [3], by decide +kernel⟩,
    ⟨serTx, 1, 1, 5, ⟨0, 0, 0, [65, 0, 66, 0]⟩, [], by decide +kernel⟩,
    ⟨serAt [] { tail := true, de := true }, 1, by decide +kernel⟩⟩
theorem wit_truingRuns_1 :
    (∃ (s : State) (i : Nat) (t0 : Nat), s.blk.get R.TRU_CFG_PERIOD ≠ 0 ∧ 3 ≤ s.blk.mode ∧ s.blk.mode ≤ 10 ∧ s.blk.mode ≠ 9 ∧ i < 11 ∧
      (s.blk.tru i).doneTick = some t0 ∧ t0 + 25000 * s.blk.get R.TRU_CFG_PERIOD ≤ s.blk.tick ∧ s.blk.truUsed i = true ∧
      s.blk.truPending i = false) ∧
    (∃ (s : State) (i : Nat), s.blk.running = true ∧ ((∀ t0, (s.blk.tru i).doneTick = some t0 → s.blk.tick < t0 + 25000 * s.blk.get
      R.TRU_CFG_PERIOD))) ∧
    (∃ (s : State) (i : Nat) (x : Int), s.blk.get R.TRU_CFG_TEMP_DELTA ≠ 0 ∧ 3 ≤ s.blk.mode ∧ s.blk.mode ≤ 10 ∧ s.blk.mode ≠ 9 ∧ i < 11
      ∧ (s.blk.tru i).doneTick.isSome = true ∧ farApart x (s.blk.tru i).temp (s.blk.get R.TRU_CFG_TEMP_DELTA) = true ∧ s.blk.truUsed i
      = true ∧ s.blk.truPending i = false) ∧
    (∃ (s : State) (i : Nat) (x : Int), s.blk.running = true ∧ ((s.blk.tru i).doneTick = none ∨ farApart x (s.blk.tru i).temp
      (s.blk.get R.TRU_CFG_TEMP_DELTA) = false)) ∧
    (∃ (s : State) (i : Nat) (mask : Word), 3 ≤ s.blk.mode ∧ s.blk.mode ≤ 11 ∧ s.blk.mode ≠ 8 ∧ s.blk.mode ≠ 9 ∧ i < 11 ∧ i ≠ 7 ∧
      mask.toNat.testBit i = true ∧ s.blk.truUsed i = true) ∧
    (∃ (s : State) (mask : Word), (s.blk.mode ≤ 2 ∨ s.blk.mode = 9 ∨ (s.blk.mode = 8 ∧ mask.toNat % 2048 ≠ 1024))) ∧
    (∃ (s : State) (i : Nat) (band : Nat) (p : Nat), s.blk.running = true ∧ s.blk.get R.TRU_STAT_ACTIVE = i ∧ i < 7 ∧ s.blk.bit
      R.TRU_DUE 10 = false ∧ (band, p) = truPort i ∧ s.blk.truEligible band = true ∧ s.blk.reception band p = none) ∧
    (∃ (s : State) (i : Nat) (band : Nat) (p : Nat) (r : Reception), s.blk.running = true ∧ s.blk.get R.TRU_STAT_ACTIVE = i ∧ i < 7 ∧
      s.blk.bit R.TRU_DUE 10 = false ∧ (band, p) = truPort i ∧ s.blk.truEligible band = true ∧ s.blk.reception band p = some r ∧
      r.stage ≠ 2) ∧
    (∃ (s : State) (i : Nat) (k : Nat), s.blk.running = true ∧ s.blk.get R.TRU_STAT_ACTIVE = i ∧ i < 7 ∧ s.blk.bit R.TRU_DUE 10 = false
      ∧ (k ≠ i ∨ s.blk.truEligible (truPort i).1 = false)) ∧
    (∃ (s : State) (i : Nat) (r : TruReport), s.blk.running = true ∧ s.blk.get R.TRU_STAT_ACTIVE = i ∧ i < 7 ∧ s.blk.get R.TRU_DUE = 0
      ∧ passCount (truPort i).1 ≤ (s.blk.tru i).passes ∧ -200 ≤ (truKeep i r).ampl ∧ truFar i (truKeep i r) (s.blk.tru i).inForce =
      false) :=
  ⟨⟨truAt 6 [(R.GLB_TICK, 225000)] (fun x => { x with doneTick := some 0 }), 0, 0, by decide +kernel⟩,
    ⟨truAt 6 [(R.GLB_TICK, 224999)] (fun x => { x with doneTick := some 0 }), 0, by decide +kernel⟩,
    ⟨truAt 6 [] (fun x => { x with doneTick := some 0 }), 0, 51, by decide +kernel⟩,
    ⟨truAt 6 [] (fun x => { x with doneTick := some 0 }), 0, 50, by decide +kernel⟩,
    ⟨truAt 6 [], 0, 1, by decide +kernel⟩,
    ⟨truAt 8 [], 1, by decide +kernel⟩,
    ⟨truAt 3 [(R.TRU_STAT_ACTIVE, 0)], 0, 0, 0, by decide +kernel⟩,
    ⟨{ truAt 3 [(R.TRU_STAT_ACTIVE, 0)] with blk := { (truAt 3 [(R.TRU_STAT_ACTIVE, 0)]).blk with phy := { (truAt 3 []).blk.phy with rx := [rec_ 0] } } },
      0, 0, 0, rec_ 0, by decide +kernel⟩,
    ⟨truOver 0, 0, 3, by decide +kernel⟩,
    ⟨truOver 16, 0, truZero 500 (-200), by decide +kernel, by decide +kernel, by decide +kernel, by decide +kernel, by decide +kernel,
      by rw [truKeep_zero], by rw [truKeep_zero]; decide +kernel⟩⟩
theorem wit_truingRuns_2 :
    (∃ (s : State) (i : Nat), s.blk.running = true ∧ s.blk.get R.TRU_STAT_ACTIVE = i ∧ (i = 8 ∨ i = 9) ∧ s.blk.get R.TRU_DUE = 0) ∧
    (∃ (s : State), s.blk.running = true ∧ s.blk.get R.TRU_STAT_SENSOR_RUNNING = 1 ∧ s.blk.get R.TRU_DUE = 0) ∧
    (∃ (s : State) (i : Nat), s.blk.running = true ∧ s.blk.get R.TRU_STAT_ACTIVE = i ∧ i < 7 ∧ s.blk.get R.TRU_DUE = 0 ∧ (s.blk.tru
      i).passes < passCount (truPort i).1) ∧
    (∃ (s : State) (i : Nat) (r : TruReport), s.blk.running = true ∧ s.blk.get R.TRU_STAT_ACTIVE = i ∧ i < 7 ∧ s.blk.get R.TRU_DUE = 0
      ∧ passCount (truPort i).1 ≤ (s.blk.tru i).passes ∧ -200 ≤ (truKeep i r).ampl ∧ truFar i (truKeep i r) (s.blk.tru i).inForce =
      true ∧ ((∀ x, (s.blk.tru i).rejected = some x → truAgrees i (truKeep i r) x = false))) ∧
    (∃ (s : State) (i : Nat) (r : TruReport) (x : TruSet), s.blk.running = true ∧ s.blk.get R.TRU_STAT_ACTIVE = i ∧ i < 7 ∧ s.blk.get
      R.TRU_DUE = 0 ∧ passCount (truPort i).1 ≤ (s.blk.tru i).passes ∧ -200 ≤ (truKeep i r).ampl ∧ truFar i (truKeep i r) (s.blk.tru
      i).inForce = true ∧ (s.blk.tru i).rejected = some x ∧ truAgrees i (truKeep i r) x = true) ∧
    (∃ (s : State) (i : Nat) (p : Nat) (r : TruReport), s.blk.running = true ∧ s.blk.get R.TRU_STAT_ACTIVE = i ∧ i < 7 ∧ s.blk.get
      R.TRU_DUE = 0 ∧ p = (truPort i).2 ∧ passCount (truPort i).1 ≤ (s.blk.tru i).passes ∧ (truKeep i r).ampl < -200) :=
  ⟨⟨truSerial, 8, by decide +kernel⟩,
    ⟨truAt 6 [(R.TRU_STAT_SENSOR_RUNNING, 1)], by decide +kernel⟩,
    ⟨truOver 15, 0, by decide +kernel⟩,
    ⟨truOver 16, 0, truZero 501 (-200), by decide +kernel, by decide +kernel, by decide +kernel, by decide +kernel, by decide +kernel,
      by rw [truKeep_zero], by rw [truKeep_zero]; decide +kernel, fun _ h => by cases h⟩,
    ⟨truOver 16 (fun x => { x with rejected := some { txDelay := 511 } }), 0, truZero 501 (-200), { txDelay := 511 },
      by decide +kernel, by decide +kernel, by decide +kernel, by decide +kernel, by decide +kernel, by rw [truKeep_zero],
      by rw [truKeep_zero]; decide +kernel, by decide +kernel, by rw [truKeep_zero]; decide +kernel⟩,
    ⟨truOver 16, 0, 0, truZero 0 (-201), by decide +kernel, by decide +kernel, by decide +kernel, by decide +kernel, by decide +kernel,
      by decide +kernel, by rw [truKeep_zero]; decide +kernel⟩⟩

/-! Modes, power and resets. -/

/-- A node of role `r` in mode `m`, with the power manager changed. -/
def powAt (m r : Nat) (f : PowerUnit → PowerUnit := id) (l : List (Field × Nat) := []) : State :=
  gridNode m ((R.MSH_STAT_ROLE, r) :: l) (fun b => { b with power := f b.power })
/-- A node in M9 Standby whose running copy is there and a wake waiting. -/
def asleep : State := inMode 9 [(R.MAC_ADDR_SHORT, 9), (R.MSH_STAT_ROLE, 1)] (fun b => { b with
  power := { b.power with wake := true }, image := { b.image with run := some {}, copy := some ⟨{}, []⟩ } })
/-- A slice reset of slice 3, held until tick 50. -/
def reset3 (tick : Nat) : State := powAt 6 1 (fun p => { p with
  sliceReset := some { slice := 3, held := true, startTick := 0, releaseTick := 50 } }) [(R.GLB_TICK, tick)]

theorem test_pwrModeReq : let s := powAt 6 1; s.blk.reachable = true ∧
    requestPermitted s.blk.mode 9 (s.blk.role == 0) s.blk.dozeOk false = true ∧ s.blk.power.trans = none ∧
    requestPermitted s.blk.mode 7 (s.blk.role == 0) s.blk.dozeOk false = false ∧ (after (.pwrModeReq 9) s).blk.power.trans = some 9 ∧
    (after (.pwrModeReq 7) s).blk.get R.PWR_MODE_REFUSED_COUNT = 1 := by decide +kernel
theorem test_pwrModeReq_held : let s := powAt 6 1 (fun p => { p with trans := some 5 }); s.blk.power.trans = some 5 ∧
    (after (.pwrModeReq 9) s).blk.power.heldReq = some 9 ∧ (after (.pwrModeReq 9) s).blk.get R.PWR_MODE_PENDING = 1 := by decide +kernel
theorem test_modeTransition : let s := powAt 6 1 (fun p => { p with trans := some 7 }); s.blk.power.heldReq = none ∧
    transitionListed s.blk.mode 7 (s.blk.role == 0) = true ∧ (after .modeTransition s).blk.mode = 7 ∧
    (after .modeTransition s).blk.get R.PWR_MODE_PREV = 6 := by decide +kernel
theorem test_modeTransition_held : let s := powAt 6 1 (fun p => { p with trans := some 5, heldReq := some 10 });
    (after .modeTransition s).blk.mode = 5 ∧ (after .modeTransition s).blk.get R.PWR_MODE_REFUSED_COUNT = 1 := by decide +kernel
theorem test_dozeEntry : let s := powAt 6 2 (fun p => { p with trans := some 8 }); s.blk.power.heldReq = none ∧ s.blk.role ≠ 0 ∧
    s.blk.get R.PWR_GATES_DRV_H = 15 ∧ (after .dozeEntry s).blk.mode = 8 ∧ (after .dozeEntry s).blk.get R.PWR_GATES_DRV_H = 0 ∧
    (after .standbyEntry s).blk.mode = 6 := by decide +kernel
theorem test_standbyEntry : let s := powAt 6 1 (fun p => { p with trans := some 9 }) [(R.PWR_GATES_SLICE_ON, 255)];
    s.blk.running = true ∧ s.blk.power.trans ≠ some 8 ∧ s.blk.power.heldReq = none ∧ (after .standbyEntry s).blk.mode = 9 ∧
    (after .standbyEntry s).blk.get R.PWR_GATES_SLICE_ON = 0 := by decide +kernel
theorem test_maintenanceEntry : let s := powAt 7 1 (fun p => { p with trans := some 10 }); s.blk.power.heldReq = none ∧
    (after .maintenanceEntry s).blk.mode = 10 := by decide +kernel
theorem test_wakes : (after .standbyTimerExpiry (powAt 9 1)).blk.power.wake = false ∧
    (after .standbyTimerExpiry (powAt 9 1 id [(R.PWR_STBY_TIME, 5)])).blk.power.wake = true ∧
    (after .wakeNWake (powAt 9 1)).blk.power.wake = true ∧ (after .wakeNWake (powAt 6 1)).blk.power.wake = false := by decide +kernel
theorem test_loadEnableRequest : let s := powAt 6 1; s.blk.running = true ∧ Load.drvL.valid = true ∧ s.blk.loaded .drvL = false ∧
    s.blk.power.reqs.any (fun x => x.load = .drvL) = false ∧ (after (.loadEnableRequest .drvL none) s).blk.power.reqs = [⟨.drvL, none, false⟩] ∧
    (after (.loadEnableRequest .drvL (some 7)) s).blk.power.txReqs = [⟨.drvL, some 7, false⟩] ∧ s.blk.loaded (.drvH 1) = true ∧
    (after (.loadEnableRequest (.drvH 1) none) s).blk.power.reqs = [] := by decide +kernel
theorem test_rationGrant : let s := powAt 6 1 (fun p => { p with reqs := [⟨.drvL, none, false⟩], grants := [(0, 20)] });
    s.blk.power.txReqs = [] ∧ s.blk.get R.PWR_GATES_DRV_L = 0 ∧ s.blk.granted + 20 ≤ 40 ∧
    (after .rationGrant s).blk.get R.PWR_GATES_DRV_L = 1 ∧ (after .rationGrant s).blk.get R.PWR_RATION_WINDOW = 40 := by decide +kernel
theorem test_rationGrant_over : let s := powAt 6 1 (fun p => { p with reqs := [⟨.drvL, none, false⟩], grants := [(0, 21)] });
    s.blk.loaded .drvL = false ∧ 40 < s.blk.granted + Load.drvL.cost ∧ (after .rationGrant s).blk.get R.PWR_GATES_DRV_L = 0 ∧
    (after .rationGrant s).blk.power.reqs = [⟨.drvL, none, false⟩] := by decide +kernel
theorem test_rationGrant_late : let s := powAt 6 1 (fun p => { p with txReqs := [⟨.drvL, some 4, false⟩], grants := [(5, 21)] }) [(R.GLB_TICK, 5)];
    s.blk.loaded .drvL = false ∧ 40 < s.blk.granted + Load.drvL.cost ∧ 4 + 1 ≤ s.blk.tick ∧
    (after .rationGrant s).blk.get R.PWR_TROUBLE_RATION_DELAY = 1 := by decide +kernel
theorem test_pwrCmdWarmReset : let s := powAt 6 1; s.blk.reachable = true ∧ (after .pwrCmdWarmReset s).blk.mode = 2 ∧
    (after .pwrCmdWarmReset s).blk.get R.PWR_WARM_RESET_COUNT = 1 ∧ bits (0xA5C2FFF1 : Word).toNat 16 16 ≠ 0xA5C3 ∧
    (after (.pwrCmdBadConfirm 0xA5C2FFF1) s).blk.get R.PWR_UNDEF_COUNT = 1 := by decide +kernel
theorem test_watchdogExpiry : let s := powAt 6 1 (fun p => { p with wdtArmed := true }); s.blk.power.wdtArmed = true ∧
    (after .watchdogExpiry s).blk.get R.PWR_RESET_CAUSE = 4 ∧ (after .watchdogExpiry s).blk.get R.PWR_TROUBLE_WDT_RESET = 1 ∧
    (after .watchdogExpiry (powAt 6 1)).blk.mode = 6 := by decide +kernel
theorem test_pwrCmdSliceReset : let s := powAt 6 1 id [(R.GLB_TICK, 51)]; let s' := powAt 2 1; s.blk.sliceResetRefused 3 = false ∧
    ((after (.pwrCmdSliceReset 3) s).blk.power.sliceReset.map (fun r => (r.slice, r.startTick))) = some (3, 75) ∧
    s'.blk.reachable = true ∧ s'.blk.sliceResetRefused 3 = true ∧ (after (.pwrCmdSliceReset 3) s').blk.power.sliceReset = none := by
  decide +kernel
theorem test_sliceResetRelease : let r : SliceReset := { slice := 3, held := true, startTick := 0, releaseTick := 50 };
    let s := powAt 6 1 (fun p => { p with sliceReset := some r }) [(R.GLB_TICK, 50)]; s.blk.running = true ∧
    s.blk.power.sliceReset = some r ∧ r.releaseTick ≤ s.blk.tick ∧ (after (.sliceResetRelease true) s).blk.power.sliceReset = none := by decide +kernel

/-! Witnesses: for each clause of the statements above with hypotheses, a state and operands that meet them all. -/

theorem wit_modeChanges_1 :
    (∃ (s : State) (m : Nat), s.blk.reachable = true ∧ m < 16 ∧ requestPermitted s.blk.mode m (s.blk.role == 0) s.blk.dozeOk false =
      true ∧ s.blk.power.trans = none) ∧
    (∃ (s : State) (m : Nat) (x : Nat), s.blk.reachable = true ∧ m < 16 ∧ requestPermitted s.blk.mode m (s.blk.role == 0) s.blk.dozeOk
      false = true ∧ s.blk.power.trans = some x) ∧
    (∃ (s : State) (m : Nat), s.blk.reachable = true ∧ m < 16 ∧ requestPermitted s.blk.mode m (s.blk.role == 0) s.blk.dozeOk false =
      false) ∧
    (∃ (s : State) (m : Nat), s.blk.power.trans = some m ∧ s.blk.power.heldReq = none ∧ s.blk.atBoundary m = true ∧ transitionListed
      s.blk.mode m (s.blk.role == 0) = true) ∧
    (∃ (s : State), s.blk.power.trans = some 4 ∧ s.blk.power.heldReq = none ∧ s.blk.role ≠ 0 ∧ s.blk.mode ∈ [3, 5, 6, 7]) ∧
    (∃ (s : State), s.blk.power.trans = some 5 ∧ s.blk.power.heldReq = none ∧ s.blk.role ≠ 0 ∧ s.blk.mode ∈ [4, 6, 7]) ∧
    (∃ (s : State), s.blk.power.trans = some 6 ∧ s.blk.power.heldReq = none ∧ s.blk.role ≠ 0 ∧ s.blk.mode ∈ [5, 7, 8] ∧ ((s.blk.mode =
      5 → s.blk.tick % 25 = 0)) ∧ s.blk.get R.IMG_STAT_RUN_TRIAL = 0 ∧ s.blk.get R.MAC_STAT_STATE ≠ 4) ∧
    (∃ (s : State), s.blk.power.trans = some 7 ∧ s.blk.power.heldReq = none ∧ s.blk.mode = 6) ∧
    (∃ (s : State) (m : Nat) (r : Nat), s.blk.power.trans = some m ∧ s.blk.power.heldReq = some r ∧ m ∈ [4, 5, 7] ∧ m ≠ r ∧
      transitionListed s.blk.mode m (s.blk.role == 0) = true ∧ transitionListed m r (s.blk.role == 0) = true) ∧
    (∃ (s : State), ((∀ m, s.blk.power.trans = some m → s.blk.atBoundary m = false))) :=
  ⟨⟨powAt 6 1, 9, by decide +kernel⟩,
    ⟨powAt 6 1 (fun p => { p with trans := some 5 }), 9, 5, by decide +kernel⟩,
    ⟨powAt 6 1, 7, by decide +kernel⟩,
    ⟨powAt 6 1 (fun p => { p with trans := some 7 }), 7, by decide +kernel⟩,
    ⟨powAt 6 1 (fun p => { p with trans := some 4 }), by decide +kernel⟩,
    ⟨powAt 6 1 (fun p => { p with trans := some 5 }), by decide +kernel⟩,
    ⟨powAt 5 1 (fun p => { p with trans := some 6 }), by decide +kernel⟩,
    ⟨powAt 6 1 (fun p => { p with trans := some 7 }), by decide +kernel⟩,
    ⟨powAt 6 1 (fun p => { p with trans := some 7, heldReq := some 10 }), 7, 10, by decide +kernel⟩,
    ⟨powAt 6 1, by decide +kernel⟩⟩
theorem wit_modeChanges_2 :
    (∃ (s : State), s.blk.power.trans = some 8 ∧ s.blk.power.heldReq = none ∧ s.blk.mode = 6 ∧ s.blk.role ≠ 0 ∧ s.blk.atBoundary 8 =
      true) ∧
    (∃ (s : State), s.blk.power.trans = some 8 ∧ s.blk.power.heldReq = none ∧ s.blk.mode = 6 ∧ s.blk.role ≠ 0 ∧ s.blk.atBoundary 8 =
      true ∧ s.blk.phy.rx = [] ∧ s.blk.phy.tx = [] ∧ s.blk.image.job = .none ∧ s.blk.get R.TRU_STAT_ACTIVE = 15 ∧ s.blk.get
      R.PHY_CAP_STAT_STATE = 0) ∧
    (∃ (s : State), s.blk.running = true ∧ (s.blk.power.trans ≠ some 8 ∨ s.blk.atBoundary 8 = false)) ∧
    (∃ (s : State), s.blk.power.trans = some 9 ∧ s.blk.power.heldReq = none ∧ (s.blk.mode = 6 ∨ s.blk.mode = 7 ∨ s.blk.mode = 8)) ∧
    (∃ (s : State), s.blk.power.trans = some 10 ∧ s.blk.power.heldReq = none ∧ (s.blk.mode = 4 ∨ s.blk.mode = 6 ∨ s.blk.mode = 7)) ∧
    (∃ (s : State), s.blk.power.trans = some 10 ∧ s.blk.power.heldReq = none ∧ (s.blk.mode = 4 ∨ s.blk.mode = 6 ∨ s.blk.mode = 7) ∧
      s.blk.phy.tx = [] ∧ s.blk.image.job = .none ∧ s.blk.power.sliceReset = none) ∧
    (∃ (s : State), s.blk.mode = 9 ∧ s.blk.get R.PWR_STBY_TIME = 0) ∧
    (∃ (s : State), s.blk.mode = 9 ∧ s.blk.get R.PWR_STBY_TIME ≠ 0) ∧
    (∃ (s : State), (s.blk.mode = 9 ∨ s.blk.power.trans = some 9)) ∧
    (∃ (s : State) (i : RunCopy), s.blk.image.copy = some i ∧ s.blk.mode = 9 ∧ s.blk.power.wake = true) :=
  ⟨⟨powAt 6 2 (fun p => { p with trans := some 8 }), by decide +kernel⟩,
    ⟨powAt 6 2 (fun p => { p with trans := some 8 }) [(R.PWR_GATES_SLICE_ON, 255), (R.TRU_STAT_ACTIVE, 15)], by decide +kernel⟩,
    ⟨powAt 6 2, by decide +kernel⟩,
    ⟨powAt 6 1 (fun p => { p with trans := some 9 }) [(R.PWR_GATES_SLICE_ON, 255)], by decide +kernel⟩,
    ⟨powAt 7 1 (fun p => { p with trans := some 10 }), by decide +kernel⟩,
    ⟨powAt 7 1 (fun p => { p with trans := some 10 }), by decide +kernel⟩,
    ⟨powAt 9 1, by decide +kernel⟩,
    ⟨powAt 9 1 id [(R.PWR_STBY_TIME, 5)], by decide +kernel⟩,
    ⟨powAt 9 1, by decide +kernel⟩,
    ⟨asleep, ⟨{}, []⟩, by decide +kernel⟩⟩
theorem wit_modeChanges_3 :
    (∃ (s : State), (s.blk.mode ≠ 9 ∨ s.blk.power.wake = false)) ∧
    (∃ (s : State) (i : RunCopy), s.blk.image.copy = some i ∧ s.blk.mode = 9 ∧ s.blk.power.wake = true) :=
  ⟨⟨powAt 9 1, by decide +kernel⟩,
    ⟨asleep, ⟨{}, []⟩, by decide +kernel⟩⟩
theorem wit_loadRation :
    (∃ (s : State) (l : Load), s.blk.running = true ∧ l.valid = true ∧ s.blk.loaded l = false ∧ s.blk.loadAllowed l = true ∧
      s.blk.power.reqs.any (fun x => x.load = l) = false) ∧
    (∃ (s : State) (l : Load), s.blk.running = true ∧ l.valid = true ∧ s.blk.loaded l = false ∧ s.blk.loadAllowed l = true) ∧
    (∃ (s : State) (l : Load), s.blk.running = true ∧ (s.blk.loaded l = true ∨ s.blk.loadAllowed l = false)) ∧
    (∃ (s : State), s.blk.running = true ∧ s.blk.power.txReqs = [] ∧ s.blk.power.reqs = [⟨.drvL, none, false⟩] ∧ s.blk.get
      R.PWR_GATES_DRV_L = 0 ∧ s.blk.loadAllowed .drvL = true ∧ s.blk.granted + 20 ≤ 40) ∧
    (∃ (s : State) (l : Load), s.blk.running = true ∧ s.blk.power.txReqs = [] ∧ s.blk.power.reqs = [⟨l, none, false⟩] ∧ l.valid = true
      ∧ (l = .ddr ∨ l = .heater ∨ (∃ n, l = .slice n)) ∧ s.blk.loaded l = false ∧ s.blk.granted + l.cost ≤ 40) ∧
    (∃ (s : State) (r : LoadReq), s.blk.running = true ∧ s.blk.power.txReqs = [] ∧ s.blk.power.reqs = [r] ∧ s.blk.loadAllowed r.load =
      false) ∧
    (∃ (s : State) (r : LoadReq) (l : List LoadReq), s.blk.running = true ∧ s.blk.power.txReqs = [] ∧ s.blk.power.reqs = r :: l ∧
      s.blk.loaded r.load = false ∧ ((∀ x ∈ r :: l, s.blk.loadAllowed x.load = true)) ∧ 40 < s.blk.granted + r.load.cost) ∧
    (∃ (s : State) (l : Load) (d : Nat), s.blk.running = true ∧ s.blk.power.txReqs = [⟨l, some d, false⟩] ∧ s.blk.loaded l = false ∧
      s.blk.loadAllowed l = true ∧ s.blk.power.reqs = [] ∧ 40 < s.blk.granted + l.cost ∧ d + 1 ≤ s.blk.tick) :=
  ⟨⟨powAt 6 1, .drvL, by decide +kernel⟩,
    ⟨powAt 6 1, .drvL, by decide +kernel⟩,
    ⟨powAt 6 1, .drvH 1, by decide +kernel⟩,
    ⟨powAt 6 1 (fun p => { p with reqs := [⟨.drvL, none, false⟩], grants := [(0, 20)] }), by decide +kernel⟩,
    ⟨powAt 6 1 (fun p => { p with reqs := [⟨.slice 3, none, false⟩] }), .slice 3, by decide +kernel, by decide +kernel,
      by decide +kernel, by decide +kernel, .inr (.inr ⟨3, rfl⟩), by decide +kernel, by decide +kernel⟩,
    ⟨powAt 2 1 (fun p => { p with reqs := [⟨.drvL, none, false⟩] }), ⟨.drvL, none, false⟩, by decide +kernel⟩,
    ⟨powAt 6 1 (fun p => { p with reqs := [⟨.drvL, none, false⟩, ⟨.drvH 0, none, false⟩], grants := [(0, 21)] }), ⟨.drvL, none, false⟩,
      [⟨.drvH 0, none, false⟩], by decide +kernel⟩,
    ⟨powAt 6 1 (fun p => { p with txReqs := [⟨.drvL, some 4, false⟩], grants := [(5, 21)] }) [(R.GLB_TICK, 5)], .drvL, 4,
      by decide +kernel⟩⟩
theorem wit_resetCommands_1 :
    (∃ (s : State) (v : Word), s.blk.reachable = true ∧ bits v.toNat 16 16 ≠ 0xA5C3) ∧
    (∃ (s : State), s.blk.reachable = true ∧ s.blk.power.resetNow ≠ 0) ∧
    (∃ (s : State), s.blk.reachable = true ∧ s.blk.mode ≤ 11 ∧ s.blk.power.resetNow = 0) ∧
    (∃ (s : State), s.blk.power.wdtArmed = true ∧ 3 ≤ s.blk.mode ∧ s.blk.mode ≤ 11 ∧ s.blk.mode ≠ 9 ∧ s.blk.warmNow = false) ∧
    (∃ (s : State), s.blk.running = true ∧ s.blk.warmNow = true ∧ s.blk.power.wdtRan = true) ∧
    (∃ (s : State), s.blk.running = true ∧ s.blk.power.wdtArmed = false ∧ (s.blk.warmNow = false ∨ s.blk.power.wdtRan = false)) ∧
    (∃ (s : State) (n : Nat), s.blk.reachable = true ∧ n < 8 ∧ s.blk.sliceResetRefused n = false) ∧
    (∃ (s : State) (n : Nat), s.blk.reachable = true ∧ n < 8 ∧ s.blk.sliceResetRefused n = true) ∧
    (∃ (s : State) (r : SliceReset), s.blk.running = true ∧ s.blk.power.sliceReset = some r ∧ r.held = true ∧ r.releaseTick ≤
      s.blk.tick) ∧
    (∃ (s : State) (r : SliceReset), s.blk.running = true ∧ s.blk.power.sliceReset = some r ∧ (r.held = false ∨ s.blk.tick <
      r.releaseTick)) :=
  ⟨⟨powAt 6 1, 0xA5C2FFF1, by decide +kernel⟩,
    ⟨powAt 6 1 (fun p => { p with resetNow := 2 }), by decide +kernel⟩,
    ⟨powAt 6 1, by decide +kernel⟩,
    ⟨powAt 6 1 (fun p => { p with wdtArmed := true }), by decide +kernel⟩,
    ⟨powAt 2 1 (fun p => { p with resetNow := 2, wdtRan := true }) [(R.PWR_WARM_RESET_COUNT, 1)], by decide +kernel⟩,
    ⟨powAt 6 1, by decide +kernel⟩,
    ⟨powAt 6 1 id [(R.GLB_TICK, 51)], 3, by decide +kernel⟩,
    ⟨powAt 2 1, 3, by decide +kernel⟩,
    ⟨reset3 50, { slice := 3, held := true, startTick := 0, releaseTick := 50 }, by decide +kernel⟩,
    ⟨reset3 49, { slice := 3, held := true, startTick := 0, releaseTick := 50 }, by decide +kernel⟩⟩
theorem wit_resetCommands_2 :
    ∃ (s : State) (r : SliceReset), s.blk.running = true ∧ s.blk.power.sliceReset = some r ∧ r.held = true ∧ r.releaseTick ≤ s.blk.tick :=
  ⟨reset3 50, { slice := 3, held := true, startTick := 0, releaseTick := 50 }, by decide +kernel⟩

/-! The image loader, faults and snapshots, security commands. -/

/-- A node in mode `m` with the loader changed. -/
def imgAt (m : Nat) (l : List (Field × Nat)) (f : ImageUnit → ImageUnit := id) : State := inMode m l (fun b => { b with image := f b.image })
/-- An image with one segment of anti-rollback class 0 and SEC_VERSION 7. -/
def versioned : Image := { segs := [⟨1, 0, 0xFF, 0, 7, 0, [], []⟩] }
def package1 : Image := { reload := true, reloadSlice := 3, digest := [] }
def reloading : State := imgAt 6 [(R.GLB_TICK, 1000000)] (fun u => { u with
  job := .reloadRunning 3 75 false, verified := some package1, run := some {} })
theorem copyBlocks_le (b : Block) (n : Nat) : b.copyBlocks n ≤ 7968 := by
  unfold Block.copyBlocks
  have h (a m : Nat) (hm : 1 ≤ m) : ceilDiv a m ≤ a := by
    unfold ceilDiv
    rcases Nat.eq_zero_or_pos a with h0 | h0
    · subst h0; rw [Nat.div_eq_of_lt (by omega)]
    · refine Nat.div_le_of_le_mul ?_
      obtain ⟨k, rfl⟩ : ∃ k, a = k + 1 := ⟨a - 1, by omega⟩
      obtain ⟨j, rfl⟩ : ∃ j, m = j + 1 := ⟨m - 1, by omega⟩
      have : (j + 1) * (k + 1) = j * k + j + k + 1 := by ring
      omega
  have g (x : Nat) (hx : x ≤ 199168) : ceilDiv (ceilDiv x (max 1 (Config.unreservedBeats (b.payload 1))) + 1) 25 ≤ 7968 := by
    have := h x (max 1 (Config.unreservedBeats (b.payload 1))) (by omega)
    generalize ceilDiv x _ = y at *
    unfold ceilDiv; omega
  split <;> exact g _ (by omega)
/-- A node in M6 with open fault windows. -/
def faultsAt (l : List FaultWindow) (r : List (Field × Nat) := []) : State :=
  inMode 6 r (fun b => { b with trouble := { b.trouble with windows := l } })
def tenTicks (b : Block) : Block := { b with time := { b.time with scale := 25000 * 4096 * 625 * 2 ^ 48 } }
def securing (l : List (Field × Nat)) : State :=
  headEnd l (fun b => b.setSec { b.sec with cur := some (15, []), master := some [] })
/-- A reload of slice 3 begun at tick 75, with faults that wait for its end, at a tick. -/
def reloadAt (fallback : Bool) (tick : Nat) (l : List (Nat × Nat)) : State := { imgAt 6 [] with
  blk := ((imgAt 6 [(R.GLB_TICK, tick)] (fun u => { u with
    job := .reloadRunning 3 75 fallback, verified := some package1, run := some {} })).blk.modSlice 3 (fun x => { x with pendingFaults := l })) }
/-- A node in M6 with a snapshot scheduled. -/
def snapAt (m : Nat) (net : Option SnapSched) (loc : Option SnapSched) : State :=
  inMode m [(R.QMG_LOST_COUNT, 4)] (fun b => tenTicks { b with trouble := { b.trouble with netSnap := net, localSnap := loc } })
/-- The head-end with a staged identity and a bar list that is full. -/
def barFull : State := securing ((R.SEC_STAGE, 99) :: (List.range 64).map (fun i => (R.SEC_BAR_LO i, i + 1)))
theorem reloadAt_copied (f : Bool) (l : List (Nat × Nat)) : 75 + 2 * (25 * (reloadAt f 1000000 l).blk.copyBlocks 3) ≤ 1000000 := by
  have := copyBlocks_le (reloadAt f 1000000 l).blk 3
  omega
theorem reloadAt_first : 75 + 25 * (reloadAt false 1000000 []).blk.copyBlocks 3 ≤ (reloadAt false 1000000 []).blk.tick := by
  have := reloadAt_copied false []
  rw [show (reloadAt false 1000000 []).blk.tick = 1000000 by decide +kernel]; omega
theorem reloadAt_fault : 75 + 25 * (reloadAt false 1000000 [(2, 200)]).blk.copyBlocks 3 ≤ (reloadAt false 1000000 [(2, 200)]).blk.tick := by
  have := reloadAt_copied false [(2, 200)]
  rw [show (reloadAt false 1000000 [(2, 200)]).blk.tick = 1000000 by decide +kernel]; omega
theorem reloadAt_fallback : 75 + 2 * (25 * (reloadAt true 1000000 []).blk.copyBlocks 3) ≤ (reloadAt true 1000000 []).blk.tick := by
  rw [show (reloadAt true 1000000 []).blk.tick = 1000000 by decide +kernel]; exact reloadAt_copied true []
theorem reloadAt_early : (reloadAt true 74 []).blk.tick < 75 +
    (if true = true then 2 * (25 * (reloadAt true 74 []).blk.copyBlocks 3) else 25 * (reloadAt true 74 []).blk.copyBlocks 3) := by
  rw [show (reloadAt true 74 []).blk.tick = 74 by decide +kernel]; omega

theorem test_img_busy : let s := imgAt 6 [(R.IMG_STAT_STATE, 2)]; s.blk.reachable = true ∧ s.blk.get R.IMG_STAT_STATE ≠ 0 ∧
    (after .imgCmdNop s).blk.get R.IMG_ERR_CAUSE = 0x11 ∧ (after .imgCmdRollbackCommit s).blk.get R.IMG_ERR_CAUSE = 0x11 := by
  decide +kernel
theorem test_img_mode : let s := imgAt 4 []; s.blk.mode = 4 ∧ s.blk.get R.IMG_STAT_STATE = 0 ∧ s.blk.reachable = true ∧
    (after .imgCmdConfirm s).blk.get R.IMG_ERR_CAUSE = 0x12 ∧ (after .imgCmdVerifyStaged s).blk.image.job = .none ∧
    (after .imgCmdNop s).blk.get R.IMG_ERR_CAUSE = 0 := by decide +kernel
theorem test_imgCmdVerifyStaged : let s := imgAt 7 []; s.blk.mode = 7 ∧ s.blk.get R.IMG_STAT_STATE = 0 ∧
    (after .imgCmdVerifyStaged s).blk.image.job = .verify ∧
    (after (.verifyStagedDone false) (after .imgCmdVerifyStaged s)).blk.get R.IMG_ERR_CAUSE = 13 := by decide +kernel
theorem test_verifyStagedDone : let s := imgAt 7 [] (fun u => { u with job := .verify }); s.blk.running = true ∧ s.blk.image.job = .verify ∧
    s.blk.stagedVerdict s.otp s.blk.stagedBytes = some (1, 255) ∧ (after (.verifyStagedDone true) s).blk.get R.IMG_ERR_CAUSE = 1 := by
  decide +kernel
theorem test_imgCmdWriteBank : let s := imgAt 6 [(R.IMG_BANK_STATE_STATE_A, 3)] (fun u => { u with verified := some {} });
    s.blk.image.verified = some {} ∧ s.blk.get R.IMG_STAT_RUN_TRIAL = 0 ∧ s.blk.freeBank = some .b ∧
    (after .imgCmdWriteBank s).blk.image.job = .write .b ∧ (after .imgCmdWriteBank (imgAt 6 [])).blk.get R.IMG_ERR_CAUSE = 0x13 := by
  decide +kernel
theorem test_writeBankDone : let s := imgAt 6 [] (fun u => { u with job := .write .a }); s.blk.running = true ∧
    s.blk.image.job = .write .a ∧ (after .writeBankDone s).blk.image.bankA.length = 128 ∧
    (after .writeBankDone s).blk.get R.IMG_BANK_STATE_STATE_A = 1 := by decide +kernel
theorem test_imgCmdGoldenWrite : let s := imgAt 10 [] (fun u => { u with verified := some { golden := true } }); s.blk.mode = 10 ∧
    (after .imgCmdGoldenWrite s).blk.image.job = .write .golden ∧
    (after .goldenWriteDone (after .imgCmdGoldenWrite s)).blk.get R.IMG_BANK_STATE_STATE_GOLDEN = 3 ∧
    (after .imgCmdAbort (after .imgCmdGoldenWrite s)).blk.get R.IMG_ERR_CAUSE = 0x11 := by decide +kernel
theorem test_goldenWriteDone : let s := imgAt 10 [] (fun u => { u with job := .write .golden }); s.blk.running = true ∧
    s.blk.reachable = true ∧ s.blk.image.job = .write .golden ∧ (after .goldenWriteDone s).blk.image.golden.isSome = true := by decide +kernel
theorem test_imgCmdArmTrial : let s := imgAt 6 [(R.IMG_BANK_STATE_STATE_A, 1)]; s.blk.get R.IMG_BANK_STATE_STATE_A = 1 ∧
    s.blk.get R.IMG_STAT_STATE = 0 ∧ (after .imgCmdArmTrial s).blk.get R.IMG_BANK_STATE_STATE_A = 2 := by decide +kernel
theorem test_imgCmdConfirm : let s := imgAt 6 [(R.IMG_BANK_STATE_STATE_A, 2), (R.IMG_BANK_STATE_STATE_B, 3), (R.IMG_STAT_RUN_TRIAL, 1)];
    s.blk.get R.IMG_STAT_RUN_TRIAL = 1 ∧ s.blk.get R.IMG_BANK_STATE_STATE_B = 3 ∧
    (after .imgCmdConfirm s).blk.get R.IMG_BANK_STATE_STATE_A = 3 ∧ (after .imgCmdConfirm s).blk.get R.IMG_BANK_STATE_STATE_B = 4 := by
  decide +kernel
theorem test_imgCmdRollbackCommit : let s := imgAt 6 [(R.IMG_BANK_STATE_STATE_A, 3)] (fun u => { u with run := some versioned });
    s.blk.image.run = some versioned ∧ s.blk.bankState s.blk.runBank = 3 ∧ s.blk.get R.IMG_STAT_RUN_MODIFIED = 0 ∧
    raiseCounters versioned s.otp.rollback ≠ s.otp.rollback ∧
    (after .imgCmdRollbackCommit s).otp.rollback = raiseCounters versioned [0, 0, 0] := by decide +kernel
theorem test_imgCmdAbort : let s := imgAt 6 [(R.IMG_STAT_STATE, 1)] (fun u => { u with job := .verify }); s.blk.reachable = true ∧
    (after .imgCmdAbort s).blk.get R.IMG_STAT_STATE = 0 ∧ (after (.imgStageData 5) s).blk.get R.IMG_STAGE_REFUSED = 1 := by decide +kernel
theorem test_imgStageData : let s := imgAt 6 [(R.IMG_STAGE_OFFSET, 8)]; s.blk.image.job = .none ∧ s.blk.reachable = true ∧
    (after (.imgStageData 0x01020304) s).blk.image.stage = [(8, 4), (9, 3), (10, 2), (11, 1)] ∧
    (after (.imgStageData 0x01020304) s).blk.get R.IMG_STAGE_OFFSET = 12 := by decide +kernel
theorem test_imgCmdSliceReload : let s := imgAt 6 [(R.GLB_TICK, 51)] (fun u => { u with verified := some package1 }); s.blk.mode = 6 ∧
    s.blk.image.verified = some package1 ∧ leNum package1.baseDigest = s.blk.get R.IMG_RUN_DIGEST ∧
    (after (.imgCmdSliceReload 3) s).blk.image.job = .reloadPending 3 75 := by decide +kernel
theorem test_sliceReloadStart : let f (n : Nat) := imgAt 6 [(R.GLB_TICK, n)] (fun u => { u with job := .reloadPending 3 75, run := some {} });
    (after .sliceReloadStart (f 75)).blk.image.job = .reloadRunning 3 75 false ∧
    (after .sliceReloadStart (f 74)).blk.image.job = .reloadPending 3 75 := by decide +kernel
theorem test_sliceReloadComplete : reloading.blk.running = true ∧ reloading.blk.image.job = .reloadRunning 3 75 false ∧
    reloading.blk.image.verified = some package1 ∧ reloading.blk.image.run = some {} ∧
    (reloading.blk.sliceState 3).pendingFaults = [] ∧ 75 + 25 * reloading.blk.copyBlocks 3 ≤ reloading.blk.tick := by
  refine ⟨by decide +kernel, by decide +kernel, by decide +kernel, by decide +kernel, by decide +kernel, ?_⟩
  have h : reloading.blk.tick = 1000000 := by decide +kernel
  have := copyBlocks_le reloading.blk 3
  omega
theorem test_imageTrialExpiry : let s := imgAt 6 [(R.IMG_STAT_RUN_TRIAL, 1), (R.IMG_TRIAL_LIMIT, 5)]; s.blk.mode = 6 ∧
    s.blk.get R.IMG_STAT_RUN_TRIAL = 1 ∧ s.blk.get R.IMG_TRIAL_LEFT = 0 ∧ s.blk.get R.IMG_TRIAL_LIMIT ≠ 0 ∧
    (after .imageTrialExpiry (imgAt 6 [])).blk.mode = 6 := by decide +kernel
theorem test_ddr4Correction : let s := faultsAt []; let w : FaultWindow := ⟨4, 9, 63, 0, 90000000, 63⟩; let s' := faultsAt [w];
    s.blk.running = true ∧ s.blk.trouble.windows.find? (fun w => w.cls = 4 ∧ w.inst = 9) = none ∧
    2 ≤ s.blk.trouble.clsWindow.getD 4 0 ∧ 1 ≤ s.blk.trouble.clsThresh.getD 4 0 ∧ ((after (.ddr4Correction 9) s).blk.trouble.windows.length) = 1 ∧
    s'.blk.trouble.windows.find? (fun w => w.cls = 4 ∧ w.inst = 9) = some w ∧ w.window ≠ 0 ∧ w.thresh < w.count + 1 ∧
    (after (.ddr4Correction 9) s').blk.get R.TRB_DDR_MARKED = 512 := by decide +kernel
theorem test_spindleMemoryError : let s := faultsAt [] [(R.PWR_GATES_SLICE_ON, 255)];
    (after (.spindleMemoryError 85 true) s).blk.get (R.CLC_MEM_CORR_COUNT 1 1) = 1 ∧
    ((after (.spindleMemoryError 85 false) s).blk.sliceState 1).pendingFaults = [(2, 85)] := by decide +kernel
theorem test_faultWindowClose : let w : FaultWindow := ⟨4, 9, 1, 0, 90, 63⟩; let s := faultsAt [w] [(R.GLB_TICK, 90)];
    s.blk.trouble.windows.find? (fun x => x.cls = w.cls ∧ x.inst = w.inst) = some w ∧ w.openTick + w.window ≤ s.blk.tick ∧
    (after (.faultWindowClose 4 9) s).blk.trouble.windows = [] := by decide +kernel
theorem test_spareStart : let s := inMode 6 [(R.GLB_TICK, 50)] (fun b => b.modSlice 1 (fun x => { x with spareLoad := some (85, 3), fill := [85] }));
    (after (.spareStart 1) s).blk.get (R.SLC_SPARE_SPARE_FOR 1) = 85 := by decide +kernel
/-- R471: every 24 hours are 24 × 90000000 ticks. -/
theorem test_ddrScrub : let f (n : Nat) := faultsAt [] [(R.GLB_TICK, n)]; (after .ddrScrub (f (24 * 90000000))).blk.trouble.scrubs = 1 ∧
    (after .ddrScrub (f (24 * 90000000 - 1))).blk.trouble.scrubs = 0 := by decide +kernel
theorem test_portReturn : let s := faultsAt [] [(R.TRB_PORT_FAILED, 7), (R.TRB_DDR_MARKED, 7)]; s.blk.reachable = true ∧
    (2 : Nat).testBit 1 = true ∧ (after (.portReturn 2) s).blk.get R.TRB_PORT_FAILED = 5 ∧
    (after (.ddrUnmark 4) s).blk.get R.TRB_DDR_MARKED = 3 := by decide +kernel
theorem test_snapCmdLocal : let s := inMode 6 [] tenTicks; let s' := inMode 6 [(R.TRB_SNAP_T, stampWords 65536)] tenTicks;
    s.blk.reachable = true ∧ unstampWords (s.blk.get R.TRB_SNAP_T) = 0 ∧ (after .snapCmdLocal s).blk.get R.TRB_SNAP_STAT_SCHEDULED = 1 ∧
    unstampWords (s'.blk.get R.TRB_SNAP_T) = 65536 ∧ 65536 < s'.blk.tickStart ∧
    (after .snapCmdLocal s').blk.get R.TRB_TROUBLE_SNAP_MISSED = 1 := by decide +kernel
theorem test_snapCmdNetwork_refused : let s := inMode 6 []; s.blk.reachable = true ∧ s.blk.coordinator = false ∧
    (after .snapCmdNetwork s).blk.get R.TRB_TROUBLE_SNAP_REFUSED = 1 := by decide +kernel
theorem test_snapCmdNetwork : let x := 5000000000 * 65536;
    let s := gridNode 6 [(R.MAC_ADDR_SHORT, 1), (R.TRB_SNAP_T, stampWords x)] (fun b => { b with image := { b.image with run := some {} } });
    s.blk.coordinator = true ∧ s.blk.mode ≠ 9 ∧ unstampWords (s.blk.get R.TRB_SNAP_T) = x ∧ s.blk.now + s.blk.twoPeriods ≤ x ∧
    s.blk.trouble.taken = none ∧ s.blk.trouble.netSnap = none ∧
    (after .snapCmdNetwork s).blk.trouble.netSnap = some { id := 1, t := x } := by decide +kernel
theorem test_snapshotTake : let s := inMode 6 [(R.QMG_LOST_COUNT, 4)] (fun b => tenTicks { b with trouble := { b.trouble with
      netSnap := some { id := 5, t := 1000000000 * 65536 } } });
    s.blk.running = true ∧ s.blk.trouble.netSnap = some { id := 5, t := 1000000000 * 65536 } ∧ s.blk.trouble.localSnap = none ∧
    1000000000 * 65536 < s.blk.tickStart + tickLen ∧ s.blk.tickStart ≤ 1000000000 * 65536 ∧
    Tab.get 0 (after .snapshotTake s).blk.trouble.shadow (R.QMG_LOST_COUNT.key / 8) = 4 ∧
    (after .snapshotTake s).blk.trouble.taken = some 5 := by decide +kernel
theorem test_secCmd_refused : let s := inMode 6 []; s.blk.reachable = true ∧ s.blk.enrollOk s.otp 0 0xA5C3 = false ∧
    s.blk.revokeOwnerOk s.otp 0 0xA5C3 = false ∧ (after (.secCmdEnrollOwner 0 0xA5C3) s).otp = {} ∧
    (after (.secCmdRevokeOwner 0 0xA5C3) s).blk.get R.SEC_CMD_STAT_STATE = 3 ∧
    (after (.secCmdRevokeVendor 0 1) s).blk.get R.SEC_TROUBLE_OTP_REFUSED = 1 ∧ (1 : Nat) ≠ 0xA5C3 := by decide +kernel
theorem test_secCmdEnrollOwner_first : let s := inMode 11 [(R.SEC_STAGE, 5)]; s.blk.reachable = true ∧
    s.blk.enrollOk s.otp 2 0xA5C3 = true ∧
    (after (.secCmdEnrollOwner 2 0xA5C3) s).otp.owner = [none, none, some (leBytes 5 32), none] := by decide +kernel
theorem test_secCmdEpochAdvance : let s := securing []; s.blk.coordinator = true ∧ s.blk.mode ≠ 9 ∧ s.blk.sec.cur = some (15, []) ∧
    s.blk.sec.master = some [] ∧ ((after .secCmdEpochAdvance s).blk.sec.next.map (fun k => k.1)) = some 0 ∧
    (after .secCmdBar (inMode 6 [])).blk.get R.SEC_CMD_STAT_STATE = 3 := by decide +kernel
theorem test_secCmdBar : let s := securing [(R.SEC_STAGE, 2 ^ 64 + 2 ^ 32 * 7 + 9), (R.SEC_BAR_LO 0, 1)]; s.blk.stagedEui = 2 ^ 32 * 7 + 9 ∧
    s.blk.barIndex s.blk.stagedEui = none ∧ s.blk.barIndex 0 = some 1 ∧ (after .secCmdBar s).blk.get (R.SEC_BAR_HI 1) = 7 ∧
    (after .secCmdBar s).blk.get R.SEC_CMD_STAT_STATE = 2 := by decide +kernel
theorem test_secCmdUnbar : let s := securing [(R.SEC_STAGE, 9), (R.SEC_BAR_LO 3, 9)]; s.blk.barIndex s.blk.stagedEui = some 3 ∧
    s.blk.coordinator = true ∧ (after .secCmdUnbar s).blk.get (R.SEC_BAR_LO 3) = 0 := by decide +kernel
theorem test_secCmdAttest : let s := inMode 6 []; let s' := inMode 6 [] (fun b => b.setSec { b.sec with report := some [1] });
    3 ≤ s.blk.mode ∧ s.blk.mode ≠ 9 ∧ s.blk.sec.report = none ∧ (after .secCmdAttest s).blk.get R.SEC_CMD_STAT_STATE = 1 ∧
    s'.blk.sec.report.isSome = true ∧ (after .secCmdAttest s').blk.get R.SEC_TROUBLE_ATTEST_BUSY = 1 := by decide +kernel
theorem test_attestDone : let s := inMode 6 [] (fun b => b.setSec { b.sec with report := some [1] }); s.blk.running = true ∧
    s.blk.sec.report = some [1] := by decide +kernel

/-! Witnesses: for each clause of the statements above with hypotheses, a state and operands that meet them all. -/

theorem wit_imageCommands_1 :
    (∃ (s : State) (c : Instr), (c ∈ [Instr.imgCmdNop, .imgCmdVerifyStaged, .imgCmdWriteBank, .imgCmdArmTrial, .imgCmdConfirm,
      .imgCmdRollbackCommit, .imgCmdGoldenWrite] ∨ (∃ n, c = .imgCmdSliceReload n)) ∧ s.blk.reachable = true ∧ s.blk.get
      R.IMG_STAT_STATE ≠ 0) ∧
    (∃ (s : State) (c : Instr), s.blk.reachable = true ∧ s.blk.get R.IMG_STAT_STATE = 0 ∧ ((c ∈ [Instr.imgCmdVerifyStaged,
      .imgCmdWriteBank, .imgCmdArmTrial] ∧ s.blk.mode ∉ [6, 7, 10, 11]) ∨ (c ∈ [Instr.imgCmdConfirm, .imgCmdRollbackCommit] ∧
      s.blk.mode ≠ 6) ∨ ((∃ n, c = .imgCmdSliceReload n) ∧ s.blk.mode ∉ [6, 7, 10]) ∨ (c = .imgCmdGoldenWrite ∧ s.blk.mode ≠ 10))) ∧
    (∃ (s : State) (c : Instr), s.blk.get R.IMG_STAT_STATE = 0 ∧ s.blk.image.verified = none ∧ ((c = .imgCmdWriteBank ∧ s.blk.mode ∈
      [6, 7, 10, 11]) ∨ ((∃ n, c = .imgCmdSliceReload n) ∧ s.blk.mode ∈ [6, 7, 10]) ∨ (c = .imgCmdGoldenWrite ∧ s.blk.mode = 10))) ∧
    (∃ (s : State), s.blk.reachable = true ∧ s.blk.get R.IMG_STAT_STATE = 0) ∧
    (∃ (s : State), s.blk.mode ∈ [6, 7, 10, 11] ∧ s.blk.get R.IMG_STAT_STATE = 0) ∧
    (∃ (s : State), s.blk.running = true ∧ s.blk.image.job = .verify) ∧
    (∃ (s : State) (cause : Nat) (seg : Nat), s.blk.running = true ∧ s.blk.image.job = .verify ∧ s.blk.stagedVerdict s.otp
      s.blk.stagedBytes = some (cause, seg) ∧ cause < 256 ∧ seg < 256) ∧
    (∃ (s : State), s.blk.running = true ∧ s.blk.image.job = .verify) ∧
    (∃ (s : State) (i : Image) (k : Bank), s.blk.mode ∈ [6, 7, 10, 11] ∧ s.blk.get R.IMG_STAT_STATE = 0 ∧ s.blk.image.verified = some i
      ∧ i.golden = false ∧ i.reload = false ∧ s.blk.get R.IMG_STAT_RUN_TRIAL = 0 ∧ s.blk.freeBank = some k) ∧
    (∃ (s : State) (i : Image), s.blk.mode ∈ [6, 7, 10, 11] ∧ s.blk.get R.IMG_STAT_STATE = 0 ∧ s.blk.image.verified = some i ∧
      s.blk.get R.IMG_STAT_RUN_TRIAL = 1) :=
  ⟨⟨imgAt 6 [(R.IMG_STAT_STATE, 2)], .imgCmdSliceReload 3, .inr ⟨3, rfl⟩, by decide +kernel, by decide +kernel⟩,
    ⟨imgAt 4 [], .imgCmdConfirm, by decide +kernel, by decide +kernel, .inr (.inl (by decide +kernel))⟩,
    ⟨imgAt 6 [], .imgCmdWriteBank, by decide +kernel, by decide +kernel, .inl (by decide +kernel)⟩,
    ⟨imgAt 6 [], by decide +kernel⟩,
    ⟨imgAt 7 [], by decide +kernel⟩,
    ⟨imgAt 7 [] (fun u => { u with job := .verify }), by decide +kernel⟩,
    ⟨imgAt 7 [] (fun u => { u with job := .verify }), 1, 255, by decide +kernel⟩,
    ⟨imgAt 7 [] (fun u => { u with job := .verify }), by decide +kernel⟩,
    ⟨imgAt 6 [(R.IMG_BANK_STATE_STATE_A, 3)] (fun u => { u with verified := some {} }), {}, .b, by decide +kernel⟩,
    ⟨imgAt 6 [(R.IMG_STAT_RUN_TRIAL, 1)] (fun u => { u with verified := some {} }), {}, by decide +kernel⟩⟩
theorem wit_imageCommands_2 :
    (∃ (s : State) (i : Image), s.blk.mode ∈ [6, 7, 10, 11] ∧ s.blk.get R.IMG_STAT_STATE = 0 ∧ s.blk.image.verified = some i ∧
      s.blk.get R.IMG_STAT_RUN_TRIAL = 0 ∧ (i.golden = true ∨ i.reload = true)) ∧
    (∃ (s : State) (k : Bank), s.blk.running = true ∧ s.blk.image.job = .write k ∧ (k = .a ∨ k = .b)) ∧
    (∃ (s : State) (i : Image), s.blk.mode = 10 ∧ s.blk.get R.IMG_STAT_STATE = 0 ∧ s.blk.image.verified = some i ∧ i.golden = true) ∧
    (∃ (s : State) (i : Image), s.blk.mode = 10 ∧ s.blk.get R.IMG_STAT_STATE = 0 ∧ s.blk.image.verified = some i ∧ i.golden = false) ∧
    (∃ (s : State), s.blk.running = true ∧ s.blk.image.job = .write .golden) ∧
    (∃ (s : State) (c : Instr), s.blk.running = true ∧ s.blk.image.job = .none ∧ c ∈ [Instr.verifyStagedDone true, .verifyStagedDone
      false, .writeBankDone, .goldenWriteDone]) ∧
    (∃ (s : State) (k : Bank), s.blk.mode ∈ [6, 7, 10, 11] ∧ s.blk.get R.IMG_STAT_STATE = 0 ∧ ((k = .a ∧ s.blk.bankState .a = 1) ∨ (k =
      .b ∧ s.blk.bankState .b = 1 ∧ s.blk.bankState .a ≠ 1)) ∧ ((∀ r ∈ s.blk.image.records, r.seq + 1 < 2 ^ 32))) ∧
    (∃ (s : State), s.blk.mode ∈ [6, 7, 10, 11] ∧ s.blk.get R.IMG_STAT_STATE = 0 ∧ s.blk.bankState .a ≠ 1 ∧ s.blk.bankState .b ≠ 1) ∧
    (∃ (s : State) (k : Bank), s.blk.mode = 6 ∧ s.blk.get R.IMG_STAT_STATE = 0 ∧ s.blk.get R.IMG_STAT_RUN_TRIAL = 1 ∧ s.blk.trialBank =
      some k ∧ ((∀ r ∈ s.blk.image.records, r.seq + 3 < 2 ^ 32))) ∧
    (∃ (s : State), s.blk.mode = 6 ∧ s.blk.get R.IMG_STAT_STATE = 0 ∧ s.blk.get R.IMG_STAT_RUN_TRIAL = 0) :=
  ⟨⟨imgAt 6 [] (fun u => { u with verified := some package1 }), package1, by decide +kernel⟩,
    ⟨imgAt 6 [] (fun u => { u with job := .write .a }), .a, by decide +kernel⟩,
    ⟨imgAt 10 [] (fun u => { u with verified := some { golden := true } }), { golden := true }, by decide +kernel⟩,
    ⟨imgAt 10 [] (fun u => { u with verified := some {} }), {}, by decide +kernel⟩,
    ⟨imgAt 10 [] (fun u => { u with job := .write .golden }), by decide +kernel⟩,
    ⟨imgAt 10 [], .writeBankDone, by decide +kernel⟩,
    ⟨imgAt 6 [(R.IMG_BANK_STATE_STATE_A, 1)], .a, by decide +kernel⟩,
    ⟨imgAt 6 [], by decide +kernel⟩,
    ⟨imgAt 6 [(R.IMG_BANK_STATE_STATE_A, 2), (R.IMG_BANK_STATE_STATE_B, 3), (R.IMG_STAT_RUN_TRIAL, 1)], .a, by decide +kernel⟩,
    ⟨imgAt 6 [], by decide +kernel⟩⟩
theorem wit_imageCommands_3 :
    (∃ (s : State) (i : Image), s.blk.mode = 6 ∧ s.blk.get R.IMG_STAT_STATE = 0 ∧ s.blk.image.run = some i ∧ s.blk.bankState
      s.blk.runBank = 3 ∧ s.blk.get R.IMG_STAT_RUN_MODIFIED = 0 ∧ raiseCounters i s.otp.rollback ≠ s.otp.rollback) ∧
    (∃ (s : State) (i : Image), s.blk.mode = 6 ∧ s.blk.get R.IMG_STAT_STATE = 0 ∧ s.blk.image.run = some i ∧ (s.blk.bankState
      s.blk.runBank ≠ 3 ∨ s.blk.get R.IMG_STAT_RUN_MODIFIED = 1)) ∧
    (∃ (s : State) (i : Image), s.blk.mode = 6 ∧ s.blk.get R.IMG_STAT_STATE = 0 ∧ s.blk.image.run = some i ∧ s.blk.bankState
      s.blk.runBank = 3 ∧ s.blk.get R.IMG_STAT_RUN_MODIFIED = 0 ∧ raiseCounters i s.otp.rollback = s.otp.rollback) ∧
    (∃ (s : State), s.blk.reachable = true ∧ s.blk.image.job = .none) ∧
    (∃ (s : State), s.blk.reachable = true ∧ s.blk.image.job = .verify) ∧
    (∃ (s : State) (k : Bank), s.blk.reachable = true ∧ s.blk.image.job = .write k ∧ (k = .a ∨ k = .b)) ∧
    (∃ (s : State) (n : Nat) (k : Nat), s.blk.reachable = true ∧ s.blk.image.job = .reloadPending n k ∧ n < 8) ∧
    (∃ (s : State), s.blk.reachable = true ∧ (s.blk.image.job = .write .golden ∨ (∃ n k f, s.blk.image.job = .reloadRunning n k f))) ∧
    (∃ (s : State), s.blk.reachable = true ∧ (s.blk.image.job = .none ∨ (∃ k, s.blk.image.job = .write k))) ∧
    (∃ (s : State), s.blk.reachable = true ∧ (s.blk.image.job = .verify ∨ (∃ n k, s.blk.image.job = .reloadPending n k) ∨ (∃ n k f,
      s.blk.image.job = .reloadRunning n k f))) :=
  ⟨⟨imgAt 6 [(R.IMG_BANK_STATE_STATE_A, 3)] (fun u => { u with run := some versioned }), versioned, by decide +kernel⟩,
    ⟨imgAt 6 [(R.IMG_BANK_STATE_STATE_A, 2)] (fun u => { u with run := some versioned }), versioned, by decide +kernel⟩,
    ⟨imgAt 6 [(R.IMG_BANK_STATE_STATE_A, 3)] (fun u => { u with run := some {} }), {}, by decide +kernel⟩,
    ⟨imgAt 6 [], by decide +kernel⟩,
    ⟨imgAt 6 [(R.IMG_STAT_STATE, 1)] (fun u => { u with job := .verify }), by decide +kernel⟩,
    ⟨imgAt 6 [(R.IMG_STAT_STATE, 2), (R.IMG_SEQ_A, 4), (R.IMG_SEQ_B, 5)] (fun u => { u with job := .write .a, bankA := [1] }), .a,
      by decide +kernel⟩,
    ⟨imgAt 6 [(R.IMG_STAT_STATE, 3)] (fun u => { u with job := .reloadPending 3 75 }), 3, 75, by decide +kernel⟩,
    ⟨imgAt 10 [] (fun u => { u with job := .write .golden }), by decide +kernel, .inl rfl⟩,
    ⟨imgAt 6 [(R.IMG_STAGE_OFFSET, 8)], by decide +kernel, .inl rfl⟩,
    ⟨imgAt 6 [(R.IMG_STAGE_OFFSET, 8)] (fun u => { u with job := .verify }), by decide +kernel, .inl rfl⟩⟩
theorem wit_reloadsAndTrials_1 :
    (∃ (s : State) (p : Image), s.blk.mode ∈ [6, 7, 10] ∧ s.blk.get R.IMG_STAT_STATE = 0 ∧ s.blk.image.verified = some p ∧ p.reload =
      true ∧ p.reloadSlice < 8 ∧ p.reloadSlice ≠ s.blk.supvSlice ∧ leNum p.baseDigest = s.blk.get R.IMG_RUN_DIGEST ∧ s.blk.get
      R.IMG_RELOAD_TICK_LO + 2 ^ 32 * s.blk.get R.IMG_RELOAD_TICK_HI ≤ s.blk.tick) ∧
    (∃ (s : State) (p : Image) (x : Nat), s.blk.mode ∈ [6, 7, 10] ∧ s.blk.get R.IMG_STAT_STATE = 0 ∧ s.blk.image.verified = some p ∧
      p.reload = true ∧ p.reloadSlice < 8 ∧ p.reloadSlice ≠ s.blk.supvSlice ∧ leNum p.baseDigest = s.blk.get R.IMG_RUN_DIGEST ∧ x =
      s.blk.get R.IMG_RELOAD_TICK_LO + 2 ^ 32 * s.blk.get R.IMG_RELOAD_TICK_HI ∧ s.blk.tick < x) ∧
    (∃ (s : State) (p : Image), s.blk.mode ∈ [6, 7, 10] ∧ s.blk.get R.IMG_STAT_STATE = 0 ∧ s.blk.image.verified = some p ∧ p.reload =
      false) ∧
    (∃ (s : State) (p : Image) (n : Nat), s.blk.mode ∈ [6, 7, 10] ∧ s.blk.get R.IMG_STAT_STATE = 0 ∧ s.blk.image.verified = some p ∧
      p.reload = true ∧ n < 8 ∧ (n ≠ p.reloadSlice ∨ n = s.blk.supvSlice ∨ leNum p.baseDigest ≠ s.blk.get R.IMG_RUN_DIGEST)) ∧
    (∃ (s : State) (n : Nat) (k : Nat) (i : Image), s.blk.running = true ∧ s.blk.image.job = .reloadPending n k ∧ s.blk.image.run =
      some i ∧ k ≤ s.blk.tick ∧ n < 8) ∧
    (∃ (s : State) (n : Nat) (k : Nat), s.blk.running = true ∧ s.blk.image.job = .reloadPending n k ∧ s.blk.tick < k) ∧
    (∃ (s : State) (n : Nat) (k : Nat) (p : Image) (i : Image), s.blk.running = true ∧ s.blk.image.job = .reloadRunning n k false ∧
      s.blk.image.verified = some p ∧ s.blk.image.run = some i ∧ k + 25 * s.blk.copyBlocks n ≤ s.blk.tick ∧ n < 8 ∧ (s.blk.sliceState
      n).pendingFaults = []) ∧
    (∃ (s : State) (n : Nat) (k : Nat) (c : Nat) (x : Nat) (p : Image) (i : Image), s.blk.running = true ∧ s.blk.image.job =
      .reloadRunning n k false ∧ s.blk.image.verified = some p ∧ s.blk.image.run = some i ∧ k + 25 * s.blk.copyBlocks n ≤ s.blk.tick ∧
      n < 8 ∧ (s.blk.sliceState n).pendingFaults = [(c, x)] ∧ c ≤ 2 ∧ x < 512 ∧ sliceOf x = n ∧ s.blk.get (R.SLC_SPARE_SPARE_USED n) =
      0 ∧ (s.blk.sliceState n).spareLoad = none) ∧
    (∃ (s : State) (n : Nat) (k : Nat) (p : Image) (i : Image), s.blk.running = true ∧ s.blk.image.job = .reloadRunning n k false ∧
      s.blk.image.verified = some p ∧ s.blk.image.run = some i ∧ k + 25 * s.blk.copyBlocks n ≤ s.blk.tick) ∧
    (∃ (s : State) (n : Nat) (k : Nat) (p : Image) (i : Image), s.blk.running = true ∧ s.blk.image.job = .reloadRunning n k true ∧
      s.blk.image.verified = some p ∧ s.blk.image.run = some i ∧ k + 2 * (25 * s.blk.copyBlocks n) ≤ s.blk.tick ∧ n < 8 ∧
      (s.blk.sliceState n).pendingFaults = []) :=
  ⟨⟨imgAt 6 [(R.GLB_TICK, 51)] (fun u => { u with verified := some package1 }), package1, by decide +kernel⟩,
    ⟨imgAt 6 [(R.GLB_TICK, 51), (R.IMG_RELOAD_TICK_LO, 101)] (fun u => { u with verified := some package1 }), package1, 101,
      by decide +kernel⟩,
    ⟨imgAt 6 [] (fun u => { u with verified := some {} }), {}, by decide +kernel⟩,
    ⟨imgAt 6 [] (fun u => { u with verified := some package1 }), package1, 4, by decide +kernel⟩,
    ⟨imgAt 6 [(R.GLB_TICK, 75)] (fun u => { u with job := .reloadPending 3 75, run := some {} }), 3, 75, {}, by decide +kernel⟩,
    ⟨imgAt 6 [(R.GLB_TICK, 74)] (fun u => { u with job := .reloadPending 3 75, run := some {} }), 3, 75, by decide +kernel⟩,
    ⟨reloadAt false 1000000 [], 3, 75, package1, {}, by decide +kernel, by decide +kernel, by decide +kernel, by decide +kernel,
      reloadAt_first, by decide +kernel, by decide +kernel⟩,
    ⟨reloadAt false 1000000 [(2, 200)], 3, 75, 2, 200, package1, {}, by decide +kernel, by decide +kernel, by decide +kernel,
      by decide +kernel, reloadAt_fault, by decide +kernel, by decide +kernel, by decide +kernel, by decide +kernel, by decide +kernel,
      by decide +kernel, by decide +kernel⟩,
    ⟨reloadAt false 1000000 [], 3, 75, package1, {}, by decide +kernel, by decide +kernel, by decide +kernel, by decide +kernel,
      reloadAt_first⟩,
    ⟨reloadAt true 1000000 [], 3, 75, package1, {}, by decide +kernel, by decide +kernel, by decide +kernel, by decide +kernel,
      reloadAt_fallback, by decide +kernel, by decide +kernel⟩⟩
theorem wit_reloadsAndTrials_2 :
    (∃ (s : State) (n : Nat) (k : Nat) (f : Bool), s.blk.running = true ∧ s.blk.image.job = .reloadRunning n k f ∧ s.blk.tick < k + (if
      f then 2 * (25 * s.blk.copyBlocks n) else 25 * s.blk.copyBlocks n)) ∧
    (∃ (s : State), s.blk.mode = 6 ∧ s.blk.get R.IMG_STAT_RUN_TRIAL = 1 ∧ s.blk.get R.IMG_TRIAL_LEFT = 0 ∧ s.blk.get R.IMG_TRIAL_LIMIT
      ≠ 0 ∧ (s.blk.warmNow = false ∨ s.blk.power.trialOver = false)) ∧
    (∃ (s : State), s.blk.running = true ∧ s.blk.warmNow = true ∧ s.blk.power.trialOver = true) ∧
    (∃ (s : State), s.blk.running = true ∧ (s.blk.warmNow = false ∨ s.blk.power.trialOver = false) ∧ (s.blk.mode ≠ 6 ∨ s.blk.get
      R.IMG_STAT_RUN_TRIAL = 0 ∨ s.blk.get R.IMG_TRIAL_LEFT ≠ 0 ∨ s.blk.get R.IMG_TRIAL_LIMIT = 0)) :=
  ⟨⟨reloadAt true 74 [], 3, 75, true, by decide +kernel, by decide +kernel, reloadAt_early⟩,
    ⟨imgAt 6 [(R.IMG_STAT_RUN_TRIAL, 1), (R.IMG_TRIAL_LIMIT, 5)], by decide +kernel⟩,
    ⟨inMode 2 [(R.PWR_WARM_RESET_COUNT, 1)] (fun b => b.setPower { b.power with resetNow := 2, trialOver := true }), by decide +kernel⟩,
    ⟨imgAt 6 [], by decide +kernel⟩⟩
theorem wit_faultActions_1 :
    (∃ (s : State) (d : Nat), s.blk.running = true ∧ d < 36 ∧ (s.blk.trouble.windows.find? (fun w => w.cls = 4 ∧ w.inst = d) = none) ∧
      2 ≤ s.blk.trouble.clsWindow.getD 4 0 ∧ 1 ≤ s.blk.trouble.clsThresh.getD 4 0) ∧
    (∃ (s : State) (d : Nat) (w : FaultWindow), s.blk.running = true ∧ d < 36 ∧ (s.blk.trouble.windows.find? (fun w => w.cls = 4 ∧
      w.inst = d) = some w) ∧ w.window ≠ 0 ∧ w.thresh < w.count + 1) ∧
    (∃ (s : State) (d : Nat), s.blk.running = true ∧ (36 ≤ d ∨ s.blk.trouble.windows.find? (fun w => w.cls = 4 ∧ w.inst = d) = none ∧
      s.blk.trouble.clsWindow.getD 4 0 = 0)) ∧
    (∃ (s : State) (n : Nat), s.blk.running = true ∧ n < 512 ∧ s.blk.gated (sliceOf n) = false ∧ (s.blk.trouble.windows.find? (fun w =>
      w.cls = 2 ∧ w.inst = n) = none) ∧ 2 ≤ s.blk.trouble.clsWindow.getD 2 0 ∧ 1 ≤ s.blk.trouble.clsThresh.getD 2 0) ∧
    (∃ (s : State) (n : Nat) (w : FaultWindow), s.blk.running = true ∧ n < 512 ∧ s.blk.gated (sliceOf n) = false ∧
      (s.blk.trouble.windows.find? (fun w => w.cls = 2 ∧ w.inst = n) = some w) ∧ w.window ≠ 0 ∧ w.thresh < w.count + 1 ∧
      s.blk.underReload (sliceOf n) = false ∧ (s.blk.sliceState (sliceOf n)).spareLoad = none ∧ n % 64 ∉ (s.blk.sliceState (sliceOf
      n)).failed ∧ s.blk.get (R.SLC_SPARE_SPARE_USED (sliceOf n)) = 0) ∧
    (∃ (s : State) (n : Nat) (w : FaultWindow), s.blk.running = true ∧ n < 512 ∧ s.blk.gated (sliceOf n) = false ∧
      (s.blk.trouble.windows.find? (fun w => w.cls = 2 ∧ w.inst = n) = some w) ∧ w.window ≠ 0 ∧ w.thresh < w.count + 1 ∧
      s.blk.underReload (sliceOf n) = false ∧ (s.blk.sliceState (sliceOf n)).spareLoad = none ∧ n % 64 ∉ (s.blk.sliceState (sliceOf
      n)).failed ∧ s.blk.get (R.SLC_SPARE_SPARE_USED (sliceOf n)) = 1) ∧
    (∃ (s : State) (n : Nat), s.blk.running = true ∧ n < 512 ∧ s.blk.gated (sliceOf n) = false) ∧
    (∃ (s : State) (n : Nat), s.blk.running = true ∧ s.blk.gated (sliceOf n) = true) ∧
    (∃ (s : State) (c : Nat) (n : Nat) (w : FaultWindow), s.blk.running = true ∧ (s.blk.trouble.windows.find? (fun x => x.cls = c ∧
      x.inst = n) = some w) ∧ w.openTick + w.window ≤ s.blk.tick) ∧
    (∃ (s : State) (c : Nat) (n : Nat), s.blk.running = true ∧ ((∀ w, s.blk.trouble.windows.find? (fun x => x.cls = c ∧ x.inst = n) =
      some w → s.blk.tick < w.openTick + w.window))) :=
  ⟨⟨faultsAt [], 9, by decide +kernel⟩,
    ⟨faultsAt [⟨4, 9, 63, 0, 90000000, 63⟩], 9, ⟨4, 9, 63, 0, 90000000, 63⟩, by decide +kernel⟩,
    ⟨faultsAt [], 36, by decide +kernel⟩,
    ⟨faultsAt [] [(R.PWR_GATES_SLICE_ON, 255)], 85, by decide +kernel⟩,
    ⟨faultsAt [⟨2, 85, 63, 0, 90000000, 63⟩] [(R.PWR_GATES_SLICE_ON, 255)], 85, ⟨2, 85, 63, 0, 90000000, 63⟩, by decide +kernel⟩,
    ⟨faultsAt [⟨2, 85, 63, 0, 90000000, 63⟩] [(R.PWR_GATES_SLICE_ON, 255), (R.SLC_SPARE_SPARE_USED 1, 1)], 85, ⟨2, 85, 63, 0, 90000000,
      63⟩, by decide +kernel⟩,
    ⟨faultsAt [] [(R.PWR_GATES_SLICE_ON, 255)], 85, by decide +kernel⟩,
    ⟨faultsAt [], 85, by decide +kernel⟩,
    ⟨faultsAt [⟨4, 9, 1, 0, 90, 63⟩] [(R.GLB_TICK, 90)], 4, 9, ⟨4, 9, 1, 0, 90, 63⟩, by decide +kernel⟩,
    ⟨faultsAt [⟨4, 9, 1, 0, 90, 63⟩] [(R.GLB_TICK, 89)], 4, 9, by decide +kernel⟩⟩
theorem wit_faultActions_2 :
    (∃ (s : State) (n : Nat) (m : Nat) (k : Nat), s.blk.running = true ∧ n < 8 ∧ (s.blk.sliceState n).spareLoad = some (m, k) ∧
      s.blk.tick % 25 = 0 ∧ k < s.blk.tick) ∧
    (∃ (s : State) (n : Nat), s.blk.running = true ∧ ((∀ m k, (s.blk.sliceState n).spareLoad = some (m, k) → s.blk.tick % 25 ≠ 0 ∨
      s.blk.tick ≤ k))) ∧
    (∃ (s : State), s.blk.running = true ∧ s.blk.trouble.scrubTick + 90000000 * (if s.blk.get R.TRB_DDR_MARKED = 0 then 24 else 1) ≤
      s.blk.tick) ∧
    (∃ (s : State), s.blk.running = true ∧ s.blk.tick < s.blk.trouble.scrubTick + 90000000 * (if s.blk.get R.TRB_DDR_MARKED = 0 then 24
      else 1)) ∧
    (∃ (s : State), s.blk.reachable = true) ∧
    (∃ (s : State), s.blk.reachable = true) :=
  ⟨⟨inMode 6 [(R.GLB_TICK, 50)] (fun b => b.modSlice 1 (fun x => { x with spareLoad := some (85, 3), fill := [85] })), 1, 85, 3,
      by decide +kernel⟩,
    ⟨inMode 6 [(R.GLB_TICK, 51)] (fun b => b.modSlice 1 (fun x => { x with spareLoad := some (85, 3) })), 1, by decide +kernel, fun _ _
      _ => .inl (by decide +kernel)⟩,
    ⟨faultsAt [] [(R.GLB_TICK, 24 * 90000000)], by decide +kernel⟩,
    ⟨faultsAt [] [(R.GLB_TICK, 24 * 90000000 - 1)], by decide +kernel⟩,
    ⟨faultsAt [] [(R.TRB_PORT_FAILED, 7), (R.TRB_DDR_MARKED, 7)], by decide +kernel⟩,
    ⟨faultsAt [] [(R.TRB_PORT_FAILED, 7), (R.TRB_DDR_MARKED, 7)], by decide +kernel⟩⟩
theorem wit_snapshots :
    (∃ (s : State) (x : Nat), s.blk.reachable = true ∧ x = unstampWords (s.blk.get R.TRB_SNAP_T) ∧ (x = 0 ∨ s.blk.tickStart ≤ x)) ∧
    (∃ (s : State) (x : Nat), s.blk.reachable = true ∧ x = unstampWords (s.blk.get R.TRB_SNAP_T) ∧ x ≠ 0 ∧ x < s.blk.tickStart) ∧
    (∃ (s : State) (x : Nat), s.blk.reachable = true ∧ x = unstampWords (s.blk.get R.TRB_SNAP_T) ∧ (s.blk.coordinator = false ∨ x = 0 ∨
      x < s.blk.now + s.blk.twoPeriods)) ∧
    (∃ (s : State) (x : Nat), s.blk.coordinator = true ∧ s.blk.mode ≠ 9 ∧ x = unstampWords (s.blk.get R.TRB_SNAP_T) ∧ x ≠ 0 ∧ s.blk.now
      + s.blk.twoPeriods ≤ x ∧ s.blk.tickStart ≤ x ∧ s.blk.trouble.taken = none ∧ s.blk.trouble.netSnap = none) ∧
    (∃ (s : State) (q : SnapSched), s.blk.running = true ∧ s.blk.mode ≠ 2 ∧ s.blk.trouble.netSnap = some q ∧ s.blk.trouble.localSnap =
      none ∧ q.t < s.blk.tickStart + tickLen ∧ (s.blk.tickStart ≤ q.t ∨ q.t = 0)) ∧
    (∃ (s : State) (q : SnapSched), s.blk.running = true ∧ s.blk.mode ≠ 2 ∧ s.blk.trouble.localSnap = some q ∧ s.blk.trouble.netSnap =
      none ∧ q.t < s.blk.tickStart + tickLen ∧ (s.blk.tickStart ≤ q.t ∨ q.t = 0)) ∧
    (∃ (s : State) (q : SnapSched), s.blk.running = true ∧ s.blk.trouble.netSnap = some q ∧ s.blk.trouble.localSnap = none ∧
      s.blk.tickStart + tickLen ≤ q.t) ∧
    (∃ (s : State) (q : SnapSched), s.blk.trouble.netSnap = some q ∧ s.blk.trouble.localSnap = none ∧ (s.blk.mode = 9 ∨ (s.blk.mode = 1
      ∨ s.blk.mode = 2) ∧ q.t < s.blk.tickStart + tickLen)) :=
  ⟨⟨inMode 6 [] tenTicks, 0, by decide +kernel⟩,
    ⟨inMode 6 [(R.TRB_SNAP_T, stampWords 65536)] tenTicks, 65536, by decide +kernel⟩,
    ⟨inMode 6 [] tenTicks, 0, by decide +kernel⟩,
    ⟨gridNode 6 [(R.MAC_ADDR_SHORT, 1), (R.TRB_SNAP_T, stampWords (5000000000 * 65536))] (fun b =>
      { b with image := { b.image with run := some {} } }), 5000000000 * 65536, by decide +kernel⟩,
    ⟨snapAt 6 (some { id := 5, t := 1000000000 * 65536 }) none, { id := 5, t := 1000000000 * 65536 }, by decide +kernel⟩,
    ⟨snapAt 6 none (some { id := 5, t := 1000000000 * 65536 }), { id := 5, t := 1000000000 * 65536 }, by decide +kernel⟩,
    ⟨snapAt 6 (some { id := 5, t := 2000000000 * 65536 }) none, { id := 5, t := 2000000000 * 65536 }, by decide +kernel⟩,
    ⟨snapAt 9 (some { id := 5, t := 2000000000 * 65536 }) none, { id := 5, t := 2000000000 * 65536 }, by decide +kernel⟩⟩
theorem wit_securityCommands_1 :
    (∃ (s : State) (n : Nat), s.blk.reachable = true ∧ n < 4) ∧
    (∃ (s : State) (n : Nat), s.blk.reachable = true ∧ n < 4) ∧
    (∃ (s : State) (n : Nat), s.blk.reachable = true ∧ n < 2) ∧
    (∃ (s : State) (e : Nat) (k : List Byte) (master : List Byte), s.blk.coordinator = true ∧ s.blk.mode ≠ 9 ∧ s.blk.sec.cur = some (e,
      k) ∧ s.blk.sec.master = some master) ∧
    (∃ (s : State) (c : Instr), c ∈ [Instr.secCmdEpochAdvance, .secCmdBar, .secCmdUnbar] ∧ s.blk.reachable = true ∧ s.blk.coordinator =
      false) ∧
    (∃ (s : State) (i : Nat) (e : Nat) (k : List Byte) (master : List Byte), s.blk.coordinator = true ∧ s.blk.mode ≠ 9 ∧
      s.blk.stagedEui ≠ 0 ∧ s.blk.barIndex s.blk.stagedEui = none ∧ s.blk.barIndex 0 = some i ∧ s.blk.sec.cur = some (e, k) ∧
      s.blk.sec.master = some master) ∧
    (∃ (s : State) (i : Nat), s.blk.coordinator = true ∧ s.blk.mode ≠ 9 ∧ s.blk.barIndex s.blk.stagedEui = some i) ∧
    (∃ (s : State), s.blk.coordinator = true ∧ s.blk.mode ≠ 9 ∧ s.blk.stagedEui ≠ 0 ∧ s.blk.barIndex s.blk.stagedEui = none ∧
      s.blk.barIndex 0 = none) ∧
    (∃ (s : State), 3 ≤ s.blk.mode ∧ s.blk.mode ≠ 9 ∧ s.blk.sec.report = none) ∧
    (∃ (s : State), s.blk.mode = 2) :=
  ⟨⟨inMode 11 [(R.SEC_STAGE, 5)], 2, by decide +kernel⟩,
    ⟨inMode 6, 0, by decide +kernel⟩,
    ⟨inMode 6, 0, by decide +kernel⟩,
    ⟨securing [], 15, [], [], by decide +kernel⟩,
    ⟨inMode 6, .secCmdBar, by decide +kernel⟩,
    ⟨securing [(R.SEC_STAGE, 2 ^ 64 + 2 ^ 32 * 7 + 9), (R.SEC_BAR_LO 0, 1)], 1, 15, [], [], by decide +kernel⟩,
    ⟨securing [(R.SEC_STAGE, 9), (R.SEC_BAR_LO 3, 9)], 3, by decide +kernel⟩,
    ⟨barFull, by decide +kernel⟩,
    ⟨inMode 6, by decide +kernel⟩,
    ⟨inMode 2, by decide +kernel⟩⟩
theorem wit_securityCommands_2 :
    (∃ (s : State), 3 ≤ s.blk.mode ∧ s.blk.mode ≠ 9 ∧ s.blk.sec.report.isSome = true) ∧
    (∃ (s : State) (r : List Byte), s.blk.running = true ∧ s.blk.sec.report = some r) :=
  ⟨⟨inMode 6 [] (fun b => b.setSec { b.sec with report := some [1] }), by decide +kernel⟩,
    ⟨inMode 6 [] (fun b => b.setSec { b.sec with report := some [1] }), [1], by decide +kernel⟩⟩

/-! The register interface. -/

def calibrated : State := inMode 6 [] (fun b => { b with time := { b.time with cal := [(4, { inUse := true, peer := 2 ^ 32 + 7, d0 := 66 })] } })
def withNode : State := inMode 6 [] (fun b => b.setNode 9 8 2 9)
/-- Maintenance, with spindle 7 of slice 3 halted by the mode and one data-memory word known. -/
def debugging : State := inMode 10 [(R.DBG_MEM_ADDR 3 7, 0xFFFC)] (fun b => b.setDbgWord 3 7 (0x1000 + 0x3FFF) 45)
/-- A node whose register channel has taken request 4, and a request. -/
def regAt : State := inMode 6 [(R.TRB_ALERT_MASK, 0x1234)] (fun b => { b with
  modl := { b.modl with j3 := true }, custody := { b.custody with regc := { b.custody.regc with accepted := 4 } } })
def regMsg (seq : Nat) (l : List Byte) : List Byte := runudom 7 0 0xFFFF seq 0 0 l.length 0 ++ l
def regParsed (seq : Nat) (l : List Byte) : HostMsg := ⟨7, 0, 0xFFFF, seq, 0, 0, 0, l⟩
def linked : State := headEnd [(R.MSH_REPORT_CFG_LINK_AGE, 10)] (fun b =>
  ((b.setTab (linkAt 3) 2 9).setTab (linkAt 3 + 20) 2 200).setTab (linkAt 3 + 28) 4 (2 ^ 32 - 10))
/-- A node whose register channel keeps the reply to request 4. -/
def regKept : State := { regAt with blk := { regAt.blk with custody := { regAt.blk.custody with
  regc := { regAt.blk.custody.regc with replies := [(4, 1, [0, 0, 0, 0])] } } } }
/-- Spindle 7 of slice 3 as the load left it. -/
def loaded7 : State := inMode 10 [(R.DBG_MEM_ADDR 3 7, 4)] (fun b => (b.setImage { b.image with run := some {} }).modSlice 3
  (fun x => { x with loaded := [7] }))
/-- A node in M4 with a candidate, and its mode change. -/
def surveying (x : Option Nat) (l : List (Field × Nat) := []) : State := inMode 4 l (fun b => { b with
  mac := { b.mac with candidates := [{ addr := 1, snr := 40, depth := 0, band := 0, port := 0 }] }, power := { b.power with trans := x } })

theorem test_qmgSelWrite : let s := inMode 6 [] (fun b => { b with queue := { b.queue with queues := [(5, { capacity := 50 })] } });
    s.blk.reachable = true ∧ (after (.qmgSelWrite .host 5) s).blk.viewRead .host 0xA0018 = 50 ∧
    (after (.qmgSelWrite .host 5) s).blk.viewRead .sup 0xA0018 = 0 ∧ (inMode 1).blk.reachable = false := by decide +kernel
theorem test_cusSelWrite : let s := inMode 6 [] (fun b => { b with custody := { b.custody with chans := [(3, { accepted := 8 })] } });
    s.blk.reachable = true ∧ (3 : Word).toNat % 2048 ≤ 1023 ∧ 1023 < (1024 : Word).toNat % 2048 ∧
    (after (.cusSelWrite .sup 3) s).blk.viewRead .sup 0xB0048 = 8 ∧ (after (.cusSelWrite .sup 1024) s).blk.get R.CUS_SEL = 0 := by
  decide +kernel
theorem test_timLinkSelWrite : calibrated.blk.reachable = true ∧ (calibrated.blk.calRec 0).inUse = false ∧
    (calibrated.blk.calRec 4).inUse = true ∧ (after (.timLinkSelWrite .host 0) calibrated).blk.viewRead .host 0x40104 = 0 := by decide +kernel
theorem test_timLinkSelWrite_view : ((after (.timLinkSelWrite .host 4) calibrated).blk.viewRead .host 0x40104) = 7 := by decide +kernel
theorem test_phyLqPeerWrite : let s := inMode 6 []; s.blk.reachable = true ∧ s.blk.hasNode 9 = false ∧
    (after (.phyLqPeerWrite .host 9) s).blk.viewRead .host 0x70188 = 0x18000000 := by decide +kernel
theorem test_phyLqPeerWrite_node : withNode.blk.reachable = true ∧ withNode.blk.hasNode 9 = true := by decide +kernel
theorem test_macPeerSelWrite : let s := inMode 6 []; s.blk.reachable = true ∧
    (after (.macPeerSelWrite .host 9) s).blk.viewRead .host 0x80090 = 32 ∧
    (after (.macPeerSelWrite .host 0x10009) s).blk.get R.MAC_PEER_SEL_CLASS = 1 := by decide +kernel
theorem test_trbShdAddrWrite : let s := inMode 6 [] (fun b => { b with trouble := { b.trouble with shadow := [(0x20108, 2 ^ 32 + 4)] } });
    s.blk.reachable = true ∧ isCounter (8 * (0x20108 : Word).toNat) = true ∧ isCounter (8 * (0x20000 : Word).toNat) = false ∧
    (after (.trbShdAddrWrite .host 0x20108) s).blk.viewRead .host 0x20038 = 1 ∧
    (after (.trbShdAddrWrite .host 0x20000) s).blk.viewRead .host 0x2003C = 1 := by decide +kernel
theorem test_trbClassSelWrite : let s := inMode 6 []; s.blk.reachable = true ∧ (4 : Word).toNat % 8 ≤ 5 ∧
    (after (.trbClassSelWrite .host 4) s).blk.viewRead .host 0x20024 = 63 ∧ (after (.trbClassSelWrite .host 6) s).blk.get R.TRB_CLASS_SEL = 0 := by
  decide +kernel
theorem test_truBlkSelWrite : let s := inMode 6 []; s.blk.reachable = true ∧ (10 : Word).toNat % 16 ≤ 10 ∧
    (after (.truBlkSelWrite .host 10) s).blk.get R.TRU_BLK_SEL = 10 ∧ (after (.truBlkSelWrite .host 11) s).blk.get R.TRU_BLK_SEL = 0 := by
  decide +kernel
theorem test_counterLowRead : let s := inMode 6 [(R.TRB_RECORD_COUNT, 3 * 2 ^ 32 + 5)]; s.blk.reachable = true ∧
    R.TRB_RECORD_COUNT.key / 8 = 0x20108 ∧ (after (.counterLowRead .host 0x20108) s).blk.readData = 5 ∧
    (after (.counterLowRead .host 0x2010C) (after (.counterLowRead .host 0x20108) s)).blk.readData = 3 := by decide +kernel
theorem test_reservedAccess : let s := inMode 6 [] (fun b => { b with readData := 9 }); s.blk.reachable = true ∧ s.blk.gatedAt 0xB0002 = false ∧
    (0xB0002 : Word).toNat % 4 ≠ 0 ∧ (after (.reservedAccess 0xB0002 4 false) s).blk.get R.CUS_UNDEF_COUNT = 1 ∧
    (after (.reservedAccess 0xB0002 4 false) s).blk.readData = 0 ∧ (after (.reservedAccess 0xB0000 4 false) s).blk.readData = 9 := by
  decide +kernel
theorem test_registerWrite : let s := inMode 6 [(R.PWR_TROUBLE_WDT_RESET, 1), (R.PWR_TROUBLE_OVER_TEMP, 1)]; s.blk.reachable = true ∧
    (after (.registerWrite .host 0x20004 0xFFFFFFFF) s).blk.get R.TRB_ALERT_MASK = 0x0FFFFFFF ∧
    (after (.registerWrite .host 0x10004 16) s).blk.get R.PWR_TROUBLE_WDT_RESET = 0 ∧
    (after (.registerWrite .host 0x10004 16) s).blk.get R.PWR_TROUBLE_OVER_TEMP = 1 := by decide +kernel
theorem test_registerWrite_refused : let s := inMode 6 [(R.PWR_WDT_TIMEOUT, 60000)]; 10 ≤ (10 : Word).toNat % 65536 ∧
    (9 : Word).toNat % 65536 < 10 ∧ 60000 < (60001 : Word).toNat % 65536 ∧ (60000 : Word).toNat % 65536 ≤ 60000 ∧
    (after (.registerWrite .host 0x10014 9) s).blk.get R.PWR_WDT_TIMEOUT = 60000 ∧
    (after (.registerWrite .host 0x10014 10) s).blk.get R.PWR_WDT_TIMEOUT = 10 ∧
    s.blk.gatedAt 0x1100000 = true ∧ (0x1100000 : Word).toNat % 4 = 0 ∧
    (after (.registerWrite .host 0x1100000 1) s).blk.get R.GLB_UNDEF_COUNT = 1 := by decide +kernel
theorem test_clcHaltWrite : let s := inMode 2; debugging.blk.reachable = true ∧ debugging.blk.gated 3 = false ∧
    debugging.blk.debugAllowed 3 = true ∧ s.blk.reachable = true ∧ s.blk.gated 3 = false ∧ s.blk.debugAllowed 3 = false ∧
    (after (.clcHaltWrite 3 2 0x18000) debugging).blk.get (R.CLC_HALT 3 2) = 0x8000 ∧
    (after (.clcHaltWrite 3 2 1) s).blk.get (R.SLC_UNDEF_COUNT 3) = 1 := by decide +kernel
theorem test_debugStep : (debugging.blk.sliceState 3).held = false ∧ debugging.blk.dbgHalted 3 7 = true ∧
    (after (.debugStep 3 7) debugging).blk.slices ≠ debugging.blk.slices ∧
    (after (.debugStep 3 8) debugging).blk.slices = debugging.blk.slices ∧
    debugging.blk.dbgHalted 0 7 = false ∧ debugging.blk.gated 0 = false ∧
    (after (.debugStep 0 7) debugging).blk.get (R.SLC_UNDEF_COUNT 0) = 1 := by decide +kernel
theorem test_dbgMemDataAccess : Tab.get 0 (debugging.blk.sliceState 3).dbg (dbgKey 7 (0x1000 + debugging.blk.get (R.DBG_MEM_ADDR 3 7) / 4)) =
      45 + 1 ∧ (after (.dbgMemDataAccess 3 7 none) debugging).blk.readData = 45 ∧
    (after (.dbgMemDataAccess 3 7 none) debugging).blk.get (R.DBG_MEM_ADDR 3 7) = 0 ∧
    (after (.dbgMemDataAccess 3 7 none) (after (.registerWrite .host 0x1387400 0xFFFC) (after (.dbgMemDataAccess 3 7 (some 6)) debugging))).blk.readData = 6 := by
  decide +kernel
theorem test_regRequest : let l : List Byte := [1, 0, 0, 1, 0, 2, 0, 4]; let t := after (.regRequest 2 (regMsg 5 l)) regAt;
    (t.blk.custody.regc.replies.map (fun r => r.2.2)) = [[0, 0, 0, 0, 0, 0, 0x12, 0x34]] ∧
    hostOut regAt t = runudom 8 1 0xFFFF 1 5 0 8 0 ++ [0, 0, 0, 0, 0, 0, 0x12, 0x34] ∧
    (after (.regRequest 2 (regMsg 5 l)) t).blk.get R.CUS_HOST_DUP_COUNT = 1 := by decide +kernel
theorem test_regRequest_gap : parseHost (regMsg 4 []) = some (regParsed 4 []) ∧ serialAbove 32 4 4 = false ∧
    parseHost (regMsg 6 []) = some (regParsed 6 []) ∧ serialAbove 32 6 4 = true ∧
    (after (.regRequest 2 (regMsg 6 [])) regAt).blk.custody.regc.accepted = 4 ∧
    (after (.regRequest 2 (regMsg 6 [])) regAt).blk.get R.CUS_TROUBLE_HOST_GAP = 1 := by decide +kernel
theorem test_regRequest_write : let l : List Byte := [2, 0, 0, 1, 0, 1, 0, 0x14, 0, 0, 0, 5, 1, 0, 0, 1, 0, 2, 0, 4];
    ((after (.regRequest 2 (regMsg 5 l)) regAt).blk.custody.regc.replies.map (fun r => r.2.2)) = [[1, 0, 0, 0, 1, 0, 0, 0]] := by decide +kernel
theorem test_surveyMinExpiry : let s := inMode 4 [] (fun b => { b with mac := { b.mac with candidates := [{ addr := 1, snr := 40, depth := 0, band := 0, port := 0 }] } });
    s.blk.mode = 4 ∧ s.blk.flag R.PWR_CFG_HOLD_SURVEY = false ∧ s.blk.mac.candidates ≠ [] ∧ s.blk.power.trans = none ∧
    (after .surveyMinExpiry s).blk.power.trans = some 5 ∧
    (after .surveyMinExpiry (inMode 4 [(R.PWR_CFG_HOLD_SURVEY, 1)])).blk.power.trans = none ∧
    (inMode 4 [(R.PWR_CFG_HOLD_SURVEY, 1)]).blk.flag R.PWR_CFG_HOLD_SURVEY = true := by decide +kernel
theorem test_linkAgeExpiry : linked.blk.running = true ∧ 3 < linkSlots ∧ linked.blk.coordinator = true ∧
    linked.blk.tab (linkAt 3) 2 ≠ 0 ∧ linked.blk.get R.MSH_REPORT_CFG_LINK_AGE ≤
      (timeSec linked.blk.now + 2 ^ 32 - linked.blk.tab (linkAt 3 + 28) 4) % 2 ^ 32 ∧
    (timeSec linked.blk.now + 2 ^ 32 - linked.blk.tab (linkAt 4 + 28) 4) % 2 ^ 32 < linked.blk.get R.MSH_REPORT_CFG_LINK_AGE ∧
    (after (.linkAgeExpiry 3) linked).blk.tab (linkAt 3 + 20) 2 = 0xFFFF := by decide +kernel

/-! Witnesses: for each clause of the statements above with hypotheses, a state and operands that meet them all. -/

theorem wit_viewLatches_1 :
    (∃ (s : State), s.blk.reachable = true) ∧
    (∃ (s : State) (v : Word), s.blk.reachable = true ∧ v.toNat % 2048 ≤ 1023) ∧
    (∃ (v : Word), 1023 < v.toNat % 2048) ∧
    (∃ (s : State) (v : Word), s.blk.reachable = true ∧ (s.blk.calRec (v.toNat % 256)).inUse = false) ∧
    (∃ (s : State) (v : Word) (c : CalRec), s.blk.reachable = true ∧ s.blk.calRec (v.toNat % 256) = c ∧ c.inUse = true) ∧
    (∃ (s : State) (v : Word), s.blk.reachable = true ∧ s.blk.hasNode (v.toNat % 65536) = false) ∧
    (∃ (s : State) (v : Word), s.blk.reachable = true ∧ s.blk.hasNode (v.toNat % 65536) = true) ∧
    (∃ (s : State), s.blk.reachable = true) ∧
    (∃ (s : State), s.blk.reachable = true) ∧
    (∃ (s : State) (v : Word), s.blk.reachable = true ∧ v.toNat % 8 ≤ 5) :=
  ⟨⟨inMode 6 [] (fun b => { b with queue := { b.queue with queues := [(5, { capacity := 50 })] } }), by decide +kernel⟩,
    ⟨inMode 6 [] (fun b => { b with custody := { b.custody with chans := [(3, { accepted := 8 })] } }), 3, by decide +kernel⟩,
    ⟨1024, by decide +kernel⟩,
    ⟨calibrated, 0, by decide +kernel⟩,
    ⟨calibrated, 4, calibrated.blk.calRec 4, by decide +kernel⟩,
    ⟨inMode 6, 9, by decide +kernel⟩,
    ⟨withNode, 9, by decide +kernel⟩,
    ⟨inMode 6, by decide +kernel⟩,
    ⟨inMode 6 [] (fun b => { b with trouble := { b.trouble with shadow := [(0x20108, 2 ^ 32 + 4)] } }), by decide +kernel⟩,
    ⟨inMode 6, 4, by decide +kernel⟩⟩
theorem wit_viewLatches_2 :
    (∃ (s : State) (v : Word), s.blk.reachable = true ∧ v.toNat % 16 ≤ 10) ∧
    (∃ (v : Word), 5 < v.toNat % 8) ∧
    (∃ (v : Word), 10 < v.toNat % 16) ∧
    (∃ (s : State), s.blk.reachable = false) :=
  ⟨⟨inMode 6, 10, by decide +kernel⟩,
    ⟨6, by decide +kernel⟩,
    ⟨11, by decide +kernel⟩,
    ⟨inMode 1, by decide +kernel⟩⟩
theorem wit_registerAccesses_1 :
    (∃ (s : State) (f : Field), s.blk.reachable = true ∧ f ∈ [R.TRB_RECORD_COUNT, R.PWR_WDT_RESET_COUNT, R.QMG_LOST_COUNT]) ∧
    (∃ (s : State) (a : Word) (n : Nat), s.blk.reachable = true ∧ s.blk.gatedAt a.toNat = false ∧ (n ≠ 4 ∨ a.toNat % 4 ≠ 0)) ∧
    (∃ (s : State), s.blk.reachable = true) ∧
    (∃ (s : State), s.blk.reachable = false) ∧
    (∃ (s : State), s.blk.reachable = true) ∧
    (∃ (s : State), s.blk.reachable = true) ∧
    (∃ (s : State) (v : Word), s.blk.reachable = true ∧ 10 ≤ v.toNat % 65536 ∧ v.toNat % 65536 ≤ 60000) ∧
    (∃ (v : Word), (v.toNat % 65536 < 10 ∨ 60000 < v.toNat % 65536)) ∧
    (∃ (s : State), s.blk.reachable = true) ∧
    (∃ (s : State) (v : Word), s.blk.reachable = true ∧ 1000000000 ≤ v.toNat) :=
  ⟨⟨inMode 6 [(R.TRB_RECORD_COUNT, 3 * 2 ^ 32 + 5)], R.TRB_RECORD_COUNT, by decide +kernel⟩,
    ⟨inMode 6 [] (fun b => { b with readData := 9 }), 0xB0002, 4, by decide +kernel⟩,
    ⟨inMode 6, by decide +kernel⟩,
    ⟨inMode 1, by decide +kernel⟩,
    ⟨inMode 6, by decide +kernel⟩,
    ⟨inMode 6 [(R.PWR_TROUBLE_WDT_RESET, 1), (R.PWR_TROUBLE_OVER_TEMP, 1)], by decide +kernel⟩,
    ⟨inMode 6, 10, by decide +kernel⟩,
    ⟨60001, by decide +kernel⟩,
    ⟨inMode 6, by decide +kernel⟩,
    ⟨inMode 6, 1000000000, by decide +kernel⟩⟩
theorem wit_registerAccesses_2 :
    (∃ (s : State) (a : Word), s.blk.reachable = true ∧ s.blk.mode ≠ 10 ∧ a.toNat % 4 = 0 ∧ tableAt a.toNat = true) ∧
    (∃ (s : State), s.blk.reachable = false) ∧
    (∃ (s : State) (a : Word), s.blk.reachable = true ∧ a.toNat % 4 = 0 ∧ s.blk.gatedAt a.toNat = true) ∧
    (∃ (s : State) (n : Nat) (k : Nat), s.blk.reachable = true ∧ n < 8 ∧ k < 4 ∧ s.blk.gated n = false ∧ s.blk.debugAllowed n = true) ∧
    (∃ (s : State) (n : Nat) (k : Nat), s.blk.reachable = true ∧ n < 8 ∧ k < 4 ∧ s.blk.gated n = false ∧ s.blk.debugAllowed n = false) ∧
    (∃ (s : State) (n : Nat) (q : Nat), s.blk.reachable = true ∧ n < 8 ∧ q ≤ 64 ∧ s.blk.gated n = false ∧ s.blk.debugAllowed n = true ∧
      (s.blk.sliceState n).held = false ∧ s.blk.dbgHalted n q = true) ∧
    (∃ (s : State) (n : Nat) (q : Nat), s.blk.reachable = true ∧ n < 8 ∧ q ≤ 64 ∧ s.blk.gated n = false ∧ (s.blk.sliceState n).held =
      false ∧ (s.blk.debugAllowed n = false ∨ s.blk.dbgHalted n q = false)) ∧
    (∃ (s : State) (n : Nat) (q : Nat), s.blk.reachable = true ∧ n < 8 ∧ q ≤ 64 ∧ s.blk.gated n = false ∧ s.blk.debugAllowed n = true ∧
      (s.blk.sliceState n).held = false ∧ s.blk.dbgHalted n q = true) ∧
    (∃ (s : State) (n : Nat) (q : Nat) (v : Nat), s.blk.reachable = true ∧ n < 8 ∧ q ≤ 64 ∧ s.blk.gated n = false ∧ s.blk.debugAllowed
      n = true ∧ (s.blk.sliceState n).held = false ∧ s.blk.dbgHalted n q = true ∧ Tab.get 0 (s.blk.sliceState n).dbg (dbgKey q (0x1000
      + s.blk.get (R.DBG_MEM_ADDR n q) / 4)) = v + 1) ∧
    (∃ (s : State) (n : Nat) (q : Nat) (i : Image), s.blk.reachable = true ∧ n < 8 ∧ q ≤ 64 ∧ s.blk.gated n = false ∧
      s.blk.debugAllowed n = true ∧ (s.blk.sliceState n).held = false ∧ q ∈ (s.blk.sliceState n).loaded ∧ s.blk.image.run = some i ∧
      Tab.get 0 (s.blk.sliceState n).dbg (dbgKey q (0x1000 + s.blk.get (R.DBG_MEM_ADDR n q) / 4)) = 0) :=
  ⟨⟨inMode 6, 0x40000010, by decide +kernel⟩,
    ⟨inMode 1, by decide +kernel⟩,
    ⟨inMode 6, 0x1100000, by decide +kernel⟩,
    ⟨debugging, 3, 2, by decide +kernel⟩,
    ⟨inMode 2, 3, 2, by decide +kernel⟩,
    ⟨debugging, 3, 7, by decide +kernel⟩,
    ⟨debugging, 0, 7, by decide +kernel⟩,
    ⟨debugging, 3, 7, by decide +kernel⟩,
    ⟨debugging, 3, 7, 45, by decide +kernel⟩,
    ⟨loaded7, 3, 7, {}, by decide +kernel⟩⟩
theorem wit_registerAccesses_3 :
    ∃ (s : State) (n : Nat) (q : Nat), s.blk.reachable = true ∧ n < 8 ∧ q ≤ 64 ∧ s.blk.gated n = false ∧ s.blk.debugAllowed n = false ∧
      (s.blk.sliceState n).held = false :=
  ⟨inMode 2, 3, 7, by decide +kernel⟩
theorem wit_requestsAndAges_1 :
    (∃ (s : State) (port : Nat) (msg : List Byte) (m : HostMsg), s.blk.regTakes port = true ∧ s.blk.reachable = true ∧ parseHost msg =
      some m ∧ m.type = 7 ∧ m.channel = 0xFFFF ∧ serialAbove 32 m.seq s.blk.custody.regc.accepted = true ∧ m.seq =
      (s.blk.custody.regc.accepted + 1) % 2 ^ 32 ∧ m.payload = [1, 0, 0, 1, 0, 2, 0, 4]) ∧
    (∃ (s : State) (port : Nat) (msg : List Byte) (m : HostMsg) (v : Word), s.blk.regTakes port = true ∧ s.blk.reachable = true ∧
      parseHost msg = some m ∧ m.type = 7 ∧ m.channel = 0xFFFF ∧ serialAbove 32 m.seq s.blk.custody.regc.accepted = true ∧ m.seq =
      (s.blk.custody.regc.accepted + 1) % 2 ^ 32 ∧ m.payload = [2, 0, 0, 1, 0, 2, 0, 4] ++ beBytes v.toNat 4) ∧
    (∃ (s : State) (port : Nat) (msg : List Byte) (m : HostMsg) (o : Word) (v : Word), s.blk.regTakes port = true ∧ s.blk.reachable =
      true ∧ parseHost msg = some m ∧ m.type = 7 ∧ m.channel = 0xFFFF ∧ serialAbove 32 m.seq s.blk.custody.regc.accepted = true ∧ m.seq
      = (s.blk.custody.regc.accepted + 1) % 2 ^ 32 ∧ m.payload = [3, 0, 0, 1] ++ beBytes o.toNat 4 ++ beBytes v.toNat 4 ∧
      s.blk.image.job = .none) ∧
    (∃ (s : State) (port : Nat) (msg : List Byte) (m : HostMsg) (x : Byte), s.blk.regTakes port = true ∧ s.blk.reachable = true ∧
      parseHost msg = some m ∧ m.type = 7 ∧ m.channel = 0xFFFF ∧ serialAbove 32 m.seq s.blk.custody.regc.accepted = true ∧ m.seq =
      (s.blk.custody.regc.accepted + 1) % 2 ^ 32 ∧ m.payload = [x, 0, 0, 1, 0, 2, 0, 4] ∧ (x.toNat = 0 ∨ 3 < x.toNat)) ∧
    (∃ (s : State) (port : Nat) (msg : List Byte) (m : HostMsg) (r : Nat × Nat × List Byte), s.blk.regTakes port = true ∧
      s.blk.reachable = true ∧ parseHost msg = some m ∧ m.type = 7 ∧ m.channel = 0xFFFF ∧ serialAbove 32 m.seq
      s.blk.custody.regc.accepted = false ∧ s.blk.custody.regc.replies.find? (fun r => r.1 = m.seq) = some r ∧ r.2.2.length ≤
      s.blk.portLimit port) ∧
    (∃ (s : State) (port : Nat) (msg : List Byte) (m : HostMsg), s.blk.regTakes port = true ∧ s.blk.reachable = true ∧ parseHost msg =
      some m ∧ m.type = 7 ∧ m.channel = 0xFFFF ∧ serialAbove 32 m.seq s.blk.custody.regc.accepted = false ∧
      s.blk.custody.regc.replies.find? (fun r => r.1 = m.seq) = none) ∧
    (∃ (s : State) (port : Nat) (msg : List Byte) (m : HostMsg), s.blk.regTakes port = true ∧ s.blk.reachable = true ∧ parseHost msg =
      some m ∧ m.type = 7 ∧ m.channel = 0xFFFF ∧ serialAbove 32 m.seq s.blk.custody.regc.accepted = true ∧ m.seq ≠
      (s.blk.custody.regc.accepted + 1) % 2 ^ 32) ∧
    (∃ (s : State) (port : Nat), s.blk.regTakes port = false) ∧
    (∃ (s : State), s.blk.mode = 4 ∧ s.blk.flag R.PWR_CFG_HOLD_SURVEY = false ∧ s.blk.mac.candidates ≠ [] ∧ s.blk.power.trans = none ∧
      s.blk.power.modeTick + 25000 * s.blk.get R.PWR_CFG_SURVEY_MIN ≤ s.blk.tick) ∧
    (∃ (s : State) (x : Nat), s.blk.mode = 4 ∧ s.blk.flag R.PWR_CFG_HOLD_SURVEY = false ∧ s.blk.mac.candidates ≠ [] ∧ s.blk.power.trans
      = some x ∧ x ≠ 5 ∧ s.blk.power.modeTick + 25000 * s.blk.get R.PWR_CFG_SURVEY_MIN ≤ s.blk.tick) :=
  ⟨⟨regAt, 2, regMsg 5 [1, 0, 0, 1, 0, 2, 0, 4], regParsed 5 [1, 0, 0, 1, 0, 2, 0, 4], by decide +kernel⟩,
    ⟨regAt, 2, regMsg 5 [2, 0, 0, 1, 0, 2, 0, 4, 0, 0, 0, 9], regParsed 5 [2, 0, 0, 1, 0, 2, 0, 4, 0, 0, 0, 9], 9, by decide +kernel⟩,
    ⟨regAt, 2, regMsg 5 [3, 0, 0, 1, 0, 0, 0, 8, 0, 0, 0, 9], regParsed 5 [3, 0, 0, 1, 0, 0, 0, 8, 0, 0, 0, 9], 8, 9,
      by decide +kernel⟩,
    ⟨regAt, 2, regMsg 5 [4, 0, 0, 1, 0, 2, 0, 4], regParsed 5 [4, 0, 0, 1, 0, 2, 0, 4], 4, by decide +kernel⟩,
    ⟨regKept, 2, regMsg 4 [], regParsed 4 [], (4, 1, [0, 0, 0, 0]), by decide +kernel⟩,
    ⟨regAt, 2, regMsg 4 [], regParsed 4 [], by decide +kernel⟩,
    ⟨regAt, 2, regMsg 6 [], regParsed 6 [], by decide +kernel⟩,
    ⟨regAt, 0, by decide +kernel⟩,
    ⟨surveying none, by decide +kernel⟩,
    ⟨surveying (some 4), 4, by decide +kernel⟩⟩
theorem wit_requestsAndAges_2 :
    (∃ (s : State), s.blk.running = true ∧ (s.blk.mode ≠ 4 ∨ s.blk.flag R.PWR_CFG_HOLD_SURVEY = true ∨ s.blk.mac.candidates = [] ∨
      s.blk.tick < s.blk.power.modeTick + 25000 * s.blk.get R.PWR_CFG_SURVEY_MIN)) ∧
    (∃ (s : State) (i : Nat), s.blk.running = true ∧ i < linkSlots ∧ s.blk.coordinator = true ∧ s.blk.tab (linkAt i) 2 ≠ 0 ∧ s.blk.get
      R.MSH_REPORT_CFG_LINK_AGE ≤ (timeSec s.blk.now + 2 ^ 32 - s.blk.tab (linkAt i + 28) 4) % 2 ^ 32) ∧
    (∃ (s : State) (i : Nat), s.blk.running = true ∧ (linkSlots ≤ i ∨ s.blk.coordinator = false ∨ s.blk.tab (linkAt i) 2 = 0 ∨ (timeSec
      s.blk.now + 2 ^ 32 - s.blk.tab (linkAt i + 28) 4) % 2 ^ 32 < s.blk.get R.MSH_REPORT_CFG_LINK_AGE)) :=
  ⟨⟨inMode 4, by decide +kernel⟩,
    ⟨linked, 3, by decide +kernel⟩,
    ⟨linked, 4, by decide +kernel⟩⟩

/-! Well-formedness: one ill-formed command for each check. -/

theorem test_wf_refuses_1 : ([.spurCrossing 3 ⟨[0], 0, 0⟩, .spurCrossing 0 ⟨[0], 1, 0⟩, .sfpInsert 2 0, .sfpRemove 2, .tapSamplePreload (2 ^ 33) 0,
    .tapSamplePreload 0 (2 ^ 33), .tapExtest (2 ^ 33), .eventEdge 4 0, .ptpMessageRx 3 0 ⟨none, none⟩, .ptpMessageRx 0 16 ⟨none, none⟩,
    .ptpIntervalTx 3, .frameTxStart 2 [0, 0, 0, 0, 0] [0, 0, 0, 0, 0], .frameTxStart 0 [] [0, 0, 0, 0, 0], .frameTxStart 0 [0, 0, 0, 0, 0] [],
    .segmentTx ⟨2, [0, 0, 0, 0, 0]⟩, .segmentTx ⟨0, []⟩, .driverThermalShutdown ⟨5, 0⟩, .driverThermalRecover ⟨5, 0⟩, .foldbackRelax 5, .notchWrite 32 0,
    .preambleDeclare 2 0 ⟨(0, 0), [], []⟩, .preambleDeclare 0 4 ⟨(0, 0), [], []⟩, .preambleDeclare 0 0 ⟨(8, 0), [], []⟩, .preambleDeclare 0 0 ⟨(3, 8), [], []⟩,
    .preambleDeclare 0 0 ⟨(0, 0), [], [(4, 0)]⟩, .syncFound ⟨2, 0, (0, 0)⟩ ⟨[], ⟨[], [], []⟩⟩, .syncFound ⟨0, 0, (0, 0)⟩ ⟨(List.replicate 9 []), ⟨[], [], []⟩⟩,
    .syncSearchTimeout ⟨0, 4, (0, 0)⟩ [], .syncSearchTimeout ⟨0, 0, (0, 0)⟩ (List.replicate 9 []), .agcSaturationRelease 2 ⟨0, 1⟩,
    .agcSaturationRelease 0 ⟨4, 1⟩, .headerReceived ⟨2, 0, (0, 0)⟩ [] [], .headerReceived ⟨0, 0, (0, 0)⟩ (List.replicate 545 { soft := 0 }) [],
    .followOnHeader 2 0 [], .followOnHeader 0 4 [], .segmentSearch 2 0 ⟨[], 0⟩, .segmentSearch 0 4 ⟨[], 0⟩, .erasureAbort ⟨2, 0, (0, 0)⟩ ⟨0, 0⟩,
    .rxFrameEnd 0 4 ⟨(0, 0), emptyReport⟩] : List Instr).all (fun c => !c.wf) = true := by decide +kernel
theorem test_wf_refuses_2 : ([.captureArm 4 0 0, .captureArm 0 2 0, .captureArm 0 0 8, .captureTrigger 6, .contentionAccess 2 ⟨0, 0, 0⟩, .contentionAccess 0 ⟨0, 8, 0⟩,
    .contentionAccess 0 ⟨0, 0, 256⟩, .dataRx 4096, .ackTx 2, .ackTimeout 2, .blockAckTx ⟨2, 0⟩, .blockAckTimeout 2, .mapEval [[1]],
    .quietWindowStart 2, .quietWindowEnd 2, .leaseExpiry 0x4000,
    .routeSet 65536 0 [], .routeSet 0 (2 ^ 32) [], .assign (2 ^ 32) (List.replicate 26 0) 0, .assign 0 (List.replicate 26 0) 0x4000,
    .linkDown 0x4000 0 0, .linkDown 0 8 0, .linkDown 0 0 0x4000, .nodeLostTimeout 0x4000, .sweepStart 65536,
    .collectWindowDecode 65536 0 [], .collectWindowDecode 0 (2 ^ 32) [], .joinerStateExpiry (2 ^ 64), .packetSop 0 4096 0 0 0,
    .packetSop 0 0 65536 0 0, .packetSop 0 0 0 65536 0, .queueRead 4096 .good, .queueRelease 4096, .queueReread 4096,
    .queueFail 4096, .qmgCmdNop 4096, .qmgCmdFlush 4096] : List Instr).all (fun c => !c.wf) = true := by decide +kernel
theorem test_wf_refuses_3 : ([.flushPoint 4096, .qmgCmdForceReset 4096, .refillComplete 4096, .hostData 12 [], .hostAck 12 [], .hostCredit 12 [],
    .resync 12 [], .runudomMalformed 12 [], .regRequest 12 [], .hostAckTx 1024, .hostDeliver 1024, .hostRetransmit 1024,
    .receiptTx 1024, .e2eTimeout 1024, .reassemblyTimeout 1024, .streamTx 256, .clampOnset 8, .senCmdImpCheck 8 0,
    .characterReceived 2 break1, .lineStuck 2, .lineIdle 2, .packetAgeExpiry 2, .serTxdWrite 2 0,
    .txCharacterComplete 2, .deTailEnd ⟨2, 0⟩, .serDataRead 2, .serialWake 2 break1, .truPeriodExpiry 11,
    .tempDeltaTrigger 11 0, .truingBlockComplete 11 (truZero 0 0), .pwrModeReq 16, .pwrCmdSliceReset 8, .imgCmdSliceReload 8,
    .spareStart 8] : List Instr).all (fun c => !c.wf) = true := by decide +kernel
theorem test_wf_refuses_4 : ([.spindleMemoryError 512 true, .ddr4Correction 36, .faultWindowClose 6 0, .portReturn 16, .ddrUnmark (2 ^ 36),
    .secCmdEnrollOwner 4 0, .secCmdEnrollOwner 0 65536, .secCmdRevokeOwner 4 0, .secCmdRevokeOwner 0 65536, .secCmdRevokeVendor 2 0,
    .secCmdRevokeVendor 0 65536, .debugStep 8 0, .debugStep 0 65, .clcHaltWrite 8 0 0, .clcHaltWrite 0 4 0,
    .dbgMemDataAccess 8 0 none, .dbgMemDataAccess 0 65 none, .clampEnd 8, .suppressionEnd 2, .linkAgeExpiry 131072,
    .carrierIdRead (some []), .tick { quiet with ports := [] }, .routeSet 0 0 [(0x4000, List.replicate 32 0)], .routeSet 0 0 [(1, [])], .assign 0 [] 0, .impCheckDue [],
    .pwrCmdBadConfirm 0xA5C30001] : List Instr).all (fun c => !c.wf) = true := by decide +kernel
theorem test_wf_admits : ([.debugStep 7 64, .linkAgeExpiry 131071, .spindleMemoryError 511 true, .hostRetransmit 0xFFFF, .queueRead 4095 .good,
    .pwrCmdBadConfirm 0xA5C20001, .carrierIdRead none, .carrierIdRead (some (List.replicate 256 0)), .preambleDeclare 1 3 ⟨(7, 127), [], [(3, 0)]⟩, .deTailEnd ⟨1, 5⟩] :
    List Instr).all Instr.wf = true := by decide +kernel

/-! The algorithms of R479–R491 on the worked examples of the standards that the rules name: FIPS 197 C.3, FIPS 180-4 ("abc"),
RFC 8032 7.1 test 1. -/

theorem test_aes256 : aes256 ((List.range 32).map (BitVec.ofNat 8)) ((List.range 16).map (fun i => BitVec.ofNat 8 (17 * i))) =
    beBytes 0x8ea2b7ca516745bfeafc49904b496089 16 := by decide +kernel
theorem test_sha512 : (sha512 [0x61, 0x62, 0x63]).take 8 = beBytes 0xddaf35a193617aba 8 := by decide +kernel
theorem test_edPublic : edPublic (beBytes 0x9d61b19deffd5a60ba844af492ec2cc44449c5697b326919703bac031cae7f60 32) =
    beBytes 0xd75a980182b10ab7d54bfed3c964073a0ee172f3daa62325af021a68f707511a 32 := by decide +kernel

end Sys2Proof.Machine
end

section
/-! What sits beneath the proofs: how frames compose beside the laws of `Laws/`, what a command leaves, and what a counted event leaves. -/

namespace Sys2Proof.Machine

/-! A change of one unit keeps everything else. -/

theorem Block.keeps_setMac (b : Block) (u : MacUnit) (l : List Field) (ps : List Part) (h : .mac ∈ ps) :
    b.Keeps (b.setMac u) l ps := by
  refine ⟨fun _ _ _ => rfl, fun p hp => ?_⟩
  cases p with
  | mac => exact absurd h hp
  | queues => exact ⟨fun _ _ => rfl, rfl, rfl⟩
  | _ => rfl

theorem Block.keeps_setGrid (b : Block) (u : GridUnit) (l : List Field) (ps : List Part) (h : .grid ∈ ps) :
    b.Keeps (b.setGrid u) l ps := by
  refine ⟨fun _ _ _ => rfl, fun p hp => ?_⟩
  cases p with
  | grid => exact absurd h hp
  | queues => exact ⟨fun _ _ => rfl, rfl, rfl⟩
  | _ => rfl

theorem Block.keeps_phy (b : Block) (u : PhyUnit) (l : List Field) (ps : List Part) (h : .phy ∈ ps) :
    b.Keeps { b with phy := u } l ps := by
  refine ⟨fun _ _ _ => rfl, fun p hp => ?_⟩
  cases p with
  | phy => exact absurd h hp
  | queues => exact ⟨fun _ _ => rfl, rfl, rfl⟩
  | _ => rfl

theorem Block.keeps_readData (b : Block) (v : Nat) (l : List Field) (ps : List Part) (h : .readData ∈ ps) :
    b.Keeps { b with readData := v } l ps := by
  refine ⟨fun _ _ _ => rfl, fun p hp => ?_⟩
  cases p with
  | readData => exact absurd h hp
  | queues => exact ⟨fun _ _ => rfl, rfl, rfl⟩
  | _ => rfl

theorem Block.keeps_modSlice (b : Block) (n : Nat) (f : SliceState → SliceState) (l : List Field) (ps : List Part)
    (h : .slices ∈ ps) : b.Keeps (b.modSlice n f) l ps := by
  refine ⟨fun _ _ _ => rfl, fun p hp => ?_⟩
  cases p with
  | slices => exact absurd h hp
  | queues => exact ⟨fun _ _ => rfl, rfl, rfl⟩
  | _ => rfl

/-- A latch of a path keeps everything but that path's latches. -/
theorem Block.keeps_setLatch (b : Block) (p : Path) (k v : Nat) (l : List Field) (ps : List Part) (h : p.part ∈ ps) :
    b.Keeps (b.setLatch p k v) l ps := by
  cases p with
  | host =>
    refine ⟨fun _ _ _ => rfl, fun q hq => ?_⟩
    cases q with
    | hostLatch => exact absurd h hq
    | queues => exact ⟨fun _ _ => rfl, rfl, rfl⟩
    | _ => rfl
  | sup =>
    refine ⟨fun _ _ _ => rfl, fun q hq => ?_⟩
    cases q with
    | supLatch => exact absurd h hq
    | queues => exact ⟨fun _ _ => rfl, rfl, rfl⟩
    | _ => rfl

@[simp] theorem Block.latch_setLatch_self (b : Block) (p : Path) (k v : Nat) : Tab.get 0 ((b.setLatch p k v).latch p) k = v := by
  cases p <;> exact Tab.get_set_self _ _ _ _

@[simp] theorem Block.updateAlert_latch (b : Block) (p : Path) : b.updateAlert.latch p = b.latch p := by
  cases p
  · exact Block.updateAlert_hostLatch b
  · exact Block.updateAlert_supLatch b

@[simp] theorem Block.updateAlert_sliceState (b : Block) (n : Nat) : b.updateAlert.sliceState n = b.sliceState n := by
  rw [Block.sliceState, Block.updateAlert_slices, Block.sliceState]

/-! What a command leaves. -/

theorem State.run_get (s : State) (f : Block → Block) (g : Field) (h : g.key ≠ R.TRB_SUMMARY.key) :
    (s.run f).blk.get g = (f s.blk).get g := Block.updateAlert_get _ g h

/-- A command of a unit that runs, by what it makes of the block. -/
theorem State.runOn_eq (s : State) (f : Block → Block) (c : Block) (h : s.blk.running = true) (e : f s.blk = c) :
    s.runOn f = s.run (fun _ => c) := by
  rw [State.runOn_of_running s f h, State.run, e, State.run]

/-- A command of the register interface, where it is reachable and leaves the OTP alone (R497). -/
theorem State.runOtp_viaBus (s : State) (f : Block → Otp → Block × Otp) (c : Block) (h : s.blk.reachable = true)
    (e : f s.blk s.otp = (c, s.otp)) : s.runOtp (viaBus f) = s.run (fun _ => c) := by
  simp [State.runOtp, State.run, viaBus, h, e]

/-- No register is reachable: the access is without effect (R497). -/
theorem State.runOtp_viaBus_unreachable (s : State) (f : Block → Otp → Block × Otp) (h : s.blk.reachable = false) :
    s.runOtp (viaBus f) = s.run id := by
  simp [State.runOtp, State.run, viaBus, h]

theorem State.keeps_run_id (s : State) (l : List Field) (ps : List Part) : s.Keeps (s.run id) l ps :=
  State.keeps_run s id l ps (Block.Keeps.refl _ l ps)

/-! A counted event (R461, R473): its counter and its sticky bit. -/

theorem Block.bump_get (b : Block) (f : Field) : (b.bump f).get f = (b.get f + 1) % 2 ^ f.width := Block.get_set_self b f _

theorem Block.keeps_bump (b : Block) (f : Field) (l : List Field) (ps : List Part) (h : f.key ∈ l.map Field.key) :
    b.Keeps (b.bump f) l ps := Block.keeps_set b f _ l ps h

theorem Block.count_get_counter (b : Block) (c f : Field) (hf : c.key ≠ f.key) (hr : c.key ∉ recordFields.map Field.key)
    (hs : c.key ≠ R.TRB_SUMMARY.key) : (b.count c f).get c = (b.get c + 1) % 2 ^ c.width := by
  rw [Block.count, Block.stick_get _ f c 0 hf hr hs, Block.bump_get]

theorem Block.count_get_sticky (b : Block) (c f : Field) (hw : f.width = 1) (hr : f.key ∉ recordFields.map Field.key)
    (hs : f.key ≠ R.TRB_SUMMARY.key) : (b.count c f).get f = 1 := by
  have hbit : (b.count c f).bit f 0 = true := Block.stick_bit _ f 0 (by omega) hr hs
  have hlt : (b.count c f).get f < 2 ^ f.width := Block.get_lt _ f
  rw [hw] at hlt
  simp only [Block.bit, Nat.testBit_zero, decide_eq_true_eq] at hbit
  omega

end Sys2Proof.Machine
end

section
/-! Beacons (R252–R255, R277, R286): what a lost slot leaves of the grid, and what sending and taking a beacon do in each case. -/

namespace Sys2Proof.Machine

/-! A lost slot (R254) is a counted event; it changes nothing that a run of slots or an airtime is read from. -/

/-- The fields that a lost slot may change. -/
def slotLostFields : List Field := [R.MAC_SLOT_LOST_COUNT, R.MAC_TROUBLE_SLOT_LOST] ++ recordFields

theorem Block.keeps_slotLost (b : Block) : b.Keeps b.slotLost slotLostFields [.records] := Block.keeps_count b _ _

theorem Block.slotLost_get (b : Block) (g : Field) (h : g.key ∉ slotLostFields.map Field.key) (hs : g.key ≠ R.TRB_SUMMARY.key) :
    b.slotLost.get g = b.get g := b.keeps_slotLost.1 g h hs

theorem Block.slotLost_grid (b : Block) : b.slotLost.grid = b.grid := b.keeps_slotLost.2 .grid (by decide)
theorem Block.slotLost_sec (b : Block) : b.slotLost.sec = b.sec := b.keeps_slotLost.2 .sec (by decide)
theorem Block.slotLost_mac (b : Block) : b.slotLost.mac = b.mac := b.keeps_slotLost.2 .mac (by decide)

theorem Block.slotLost_count (b : Block) :
    b.slotLost.get R.MAC_SLOT_LOST_COUNT = (b.get R.MAC_SLOT_LOST_COUNT + 1) % 2 ^ R.MAC_SLOT_LOST_COUNT.width :=
  Block.count_get_counter b _ _ (by decide) (by decide) (by decide)

theorem Block.slotLost_sticky (b : Block) : b.slotLost.get R.MAC_TROUBLE_SLOT_LOST = 1 :=
  Block.count_get_sticky b _ _ rfl (by decide) (by decide)

/-- The map's rows (R256) are 31 at most: none shares a key with a field that a lost slot changes. -/
theorem mapRow_not_slotLost (r : Nat) (h : r < 32) :
    (R.MAC_ROW_H r).key ∉ slotLostFields.map Field.key ∧ (R.MAC_ROW_L r).key ∉ slotLostFields.map Field.key ∧
      (R.MAC_ROW_H r).key ≠ R.TRB_SUMMARY.key ∧ (R.MAC_ROW_L r).key ≠ R.TRB_SUMMARY.key := by
  interval_cases r <;> decide

theorem Block.slotLost_periodHalves (b : Block) : b.slotLost.periodHalves = b.periodHalves := by
  rw [Block.periodHalves, Block.slotLost_get b _ (by decide) (by decide)]; rfl

theorem Block.slotLost_roleAt (b : Block) (band h k : Nat) : b.slotLost.roleAt band h k = b.roleAt band h k := by
  have hlen : b.slotLost.get R.MAC_GRID_MAP_LEN = b.get R.MAC_GRID_MAP_LEN := Block.slotLost_get b _ (by decide) (by decide)
  have hlt : b.get R.MAC_GRID_MAP_LEN < 32 := Block.get_lt b _
  have hr : h % b.periodHalves % max 1 (b.get R.MAC_GRID_MAP_LEN) < 32 :=
    lt_of_lt_of_le (Nat.mod_lt _ (by omega)) (by omega)
  obtain ⟨hH, hL, hHs, hLs⟩ := mapRow_not_slotLost _ hr
  simp only [Block.roleAt, Block.slotLost_periodHalves, hlen, Block.slotLost_get b _ hH hHs, Block.slotLost_get b _ hL hLs]

theorem Block.slotLost_runEndFrom (b : Block) (g : GridVals) (band : Nat) (ok : Nat → Bool) (n h k : Nat) :
    b.slotLost.runEndFrom g band ok n h k = b.runEndFrom g band ok n h k := by
  induction n generalizing h k with
  | zero => rfl
  | succ n ih => simp only [Block.runEndFrom, Block.slotLost_roleAt, ih]

theorem Block.slotLost_tick (b : Block) : b.slotLost.tick = b.tick := Block.slotLost_get b _ (by decide) (by decide)

theorem Block.slotLost_runEnd (b : Block) (band : Nat) (ok : Nat → Bool) : b.slotLost.runEnd band ok = b.runEnd band ok := by
  have hslot : b.slotLost.get R.GLB_GRID_SLOT = b.get R.GLB_GRID_SLOT := Block.slotLost_get b _ (by decide) (by decide)
  unfold Block.runEnd
  rw [Block.slotLost_grid, hslot, Block.slotLost_tick, Block.slotLost_roleAt]
  simp only [Block.slotLost_runEndFrom]

theorem Block.slotLost_airtimeOf (b : Block) (f : TxFrame) : b.slotLost.airtimeOf f = b.airtimeOf f := by
  unfold Block.airtimeOf Block.lens Block.keyed Block.micLen
  rw [Block.slotLost_sec]

theorem Block.slotLost_fitsRun (b : Block) (f : TxFrame) (role : Nat) : b.slotLost.fitsRun f role = b.fitsRun f role := by
  simp only [Block.fitsRun, Block.slotLost_tick, Block.slotLost_airtimeOf, Block.slotLost_runEnd]

/-! Sending a beacon (R254). -/

theorem Block.keeps_makeReady (b : Block) (f : TxFrame) : b.Keeps (b.makeReady f) [] [.mac] :=
  Block.keeps_setMac b _ _ _ (by decide)

theorem Block.makeReady_ready (b : Block) (f : TxFrame) : (b.makeReady f).mac.ready = b.mac.ready ++ [f] := rfl

theorem Block.sendBeacon_full (b : Block) (g : GridVals) (h : b.fitsRun (b.beaconFrame (b.beaconBytes g)) 1 = true) :
    b.sendBeacon (some g) = b.makeReady (b.beaconFrame (b.beaconBytes g)) := by
  simp [Block.sendBeacon, h]

theorem Block.sendBeacon_short (b : Block) (h : b.fitsRun (b.beaconFrame []) 1 = true) :
    b.sendBeacon none = b.makeReady (b.beaconFrame []) := by
  simp [Block.sendBeacon, h]

/-- A full beacon that does not fit costs a lost slot and gives way to the short one. -/
theorem Block.sendBeacon_giveWay (b : Block) (g : GridVals) (hfull : b.fitsRun (b.beaconFrame (b.beaconBytes g)) 1 = false)
    (hshort : b.fitsRun (b.beaconFrame []) 1 = true) :
    b.sendBeacon (some g) = b.slotLost.makeReady (b.beaconFrame []) := by
  simp [Block.sendBeacon, hfull, hshort, Block.slotLost_fitsRun]

/-- The conditions of BEACON_TX that hold in every node: it may send, on a grid, in its own BEACON slot. -/
structure Block.InBeaconSlot (b : Block) : Prop where
  may : b.mayTransmit = true
  grid : b.hasGrid = true
  slot : b.beaconSlot = true

/-- A relay that heard its parent's beacon sends its own (R255). -/
structure Block.RelayOnAir (b : Block) : Prop where
  notHead : b.role ≠ 0
  notLeaf : b.role ≠ 2
  found : b.get R.MAC_STAT_STATE ≠ 4
  heard : b.flag R.MAC_TROUBLE_BEACON_LOST = false

theorem Block.beaconTx_head (b : Block) (h : b.InBeaconSlot) (hf : b.forbidden 0 = false) (hr : b.role = 0) :
    b.beaconTx = b.sendBeacon (if b.grid.periodIndex % max 1 b.grid.fullEvery = 0 then b.grid.next else none) := by
  simp [Block.beaconTx, h.may, h.grid, h.slot, hf, hr]

theorem Block.beaconTx_relay (b : Block) (h : b.InBeaconSlot) (hf : b.forbidden 0 = false) (hr : b.RelayOnAir) :
    b.beaconTx = b.sendBeacon b.grid.next := by
  simp [Block.beaconTx, h.may, h.grid, h.slot, hf, hr.notHead, hr.notLeaf, hr.found, hr.heard]

/-- A beacon slot in a forbidden band is lost (R263). -/
theorem Block.beaconTx_forbidden (b : Block) (h : b.InBeaconSlot) (hf : b.forbidden 0 = true) (hr : b.role ≠ 2) :
    b.beaconTx = b.slotLost := by
  simp [Block.beaconTx, h.may, h.grid, h.slot, hf, hr]

/-- A full beacon is sent where one is due and the next values are there. -/
theorem Block.beaconTx_due (b : Block) (g : GridVals) (h : b.InBeaconSlot) (hf : b.forbidden 0 = false)
    (hwho : b.role = 0 ∧ b.grid.periodIndex % max 1 b.grid.fullEvery = 0 ∨ b.RelayOnAir) (hn : b.grid.next = some g) :
    b.beaconTx = b.sendBeacon (some g) := by
  obtain ⟨hr, hdue⟩ | hr := hwho
  · rw [Block.beaconTx_head b h hf hr, if_pos hdue, hn]
  · rw [Block.beaconTx_relay b h hf hr, hn]

/-- A short beacon is sent where none is due or the next values are missing. -/
theorem Block.beaconTx_notDue (b : Block) (h : b.InBeaconSlot) (hf : b.forbidden 0 = false)
    (hwho : b.role = 0 ∧ (b.grid.periodIndex % max 1 b.grid.fullEvery ≠ 0 ∨ b.grid.next = none) ∨
      b.RelayOnAir ∧ b.grid.next = none) : b.beaconTx = b.sendBeacon none := by
  obtain ⟨hr, hdue | hn⟩ | ⟨hr, hn⟩ := hwho
  · rw [Block.beaconTx_head b h hf hr, if_neg hdue]
  · rw [Block.beaconTx_head b h hf hr, hn, ite_self]
  · rw [Block.beaconTx_relay b h hf hr, hn]

theorem exec_beaconTx_eq (s : State) (c : Block) (h : s.blk.running = true) (e : s.blk.beaconTx = c) :
    exec .beaconTx s = .next (s.run fun _ => c) :=
  congrArg Host.Outcome.next (State.runOn_eq s _ c h e)

/-! Taking a beacon (R252, R253, R286). -/

theorem exec_beaconRx_eq (s : State) (c : Block) (h : s.blk.running = true) (e : s.blk.beaconRx = c) :
    exec .beaconRx s = .next (s.run fun _ => c) :=
  congrArg Host.Outcome.next (State.runOn_eq s _ c h e)

/-- The block without a delivered transmission that an operation has taken. -/
def Block.dropDelivered (b : Block) (d : Delivered) : Block :=
  { b with phy := { b.phy with delivered := b.phy.delivered.erase d } }

theorem Block.takeDelivered_eq (b : Block) (t : Delivered → Bool) (d : Delivered) (h : b.phy.delivered.find? t = some d) :
    b.takeDelivered t = some (d, b.dropDelivered d) := by
  simp only [Block.takeDelivered, h]; rfl

theorem Block.keeps_dropDelivered (b : Block) (d : Delivered) (l : List Field) (ps : List Part) (h : .phy ∈ ps) :
    b.Keeps (b.dropDelivered d) l ps := Block.keeps_phy b _ l ps h

/-- The first delivered BEACON is `d`, a full one: its first frame `x` has a payload (R254). -/
structure Block.HeardBeacon (b : Block) (d : Delivered) (x : RxPart) (xs : List RxPart) : Prop where
  first : b.phy.delivered.find? (fun d => d.hdr.ftype == 0) = some d
  parts : d.parts = x :: xs
  full : x.payload ≠ []

/-- A full beacon with a reserved value is rejected and counted (R5). -/
theorem Block.beaconRx_reserved (b : Block) (d : Delivered) (x : RxPart) (xs : List RxPart) (h : b.HeardBeacon d x xs)
    (hok : beaconOk x.payload = false) :
    b.beaconRx = (b.dropDelivered d).bump R.MAC_UNDEF_COUNT := by
  simp [Block.beaconRx, Block.takeDelivered_eq b _ d h.first, h.parts, h.full, hok]

/-- Surveying, an own-network beacon open to joining is recorded (R286). -/
theorem Block.beaconRx_survey (b : Block) (d : Delivered) (x : RxPart) (xs : List RxPart) (h : b.HeardBeacon d x xs)
    (hok : beaconOk x.payload = true)
    (hm : b.mode = 4) (hnet : d.hdr.net = b.netId) (hopen : (leAt x.payload 1 1).testBit 0 = true) (hdepth : leAt x.payload 3 1 < 32)
    (hpar : b.macParent d.hdr.src = false) : b.beaconRx = (b.dropDelivered d).noteCandidate d (leAt x.payload 3 1) := by
  have hm' : (b.dropDelivered d).mode = 4 := hm
  have hnet' : d.hdr.net = (b.dropDelivered d).netId := hnet
  have hpar' : ((b.dropDelivered d).noteCandidate d (leAt x.payload 3 1)).macParent d.hdr.src = false := hpar
  simp [Block.beaconRx, Block.takeDelivered_eq b _ d h.first, h.parts, h.full, hok, hm', ← hnet', hopen, hdepth, hpar']

/-- No one-way measurement is made while one-way measurements are not in use (R215, R235). -/
theorem Block.beaconOneWay_shut (b : Block) (d : Delivered) (h : b.oneWayOpen = false) : b.beaconOneWay d = b := by
  unfold Block.beaconOneWay Block.oneWay
  simp only [h, true_or, if_true]
  split
  · split
    · split <;> rfl
    · rfl
  · rfl

/-- The parent's full beacon is adopted outside survey, joining and search (R252, R253). -/
theorem Block.beaconRx_parent (b : Block) (d : Delivered) (x : RxPart) (xs : List RxPart) (h : b.HeardBeacon d x xs)
    (hok : beaconOk x.payload = true)
    (hm4 : b.mode ≠ 4) (hm5 : b.mode ≠ 5) (hnet : d.hdr.net = b.netId) (hst : b.get R.MAC_STAT_STATE ≠ 4)
    (hpar : b.macParent d.hdr.src = true) (hshut : b.oneWayOpen = false) :
    b.beaconRx = (b.dropDelivered d).adoptBeacon x.payload := by
  have hm4' : (b.dropDelivered d).mode ≠ 4 := hm4
  have hm5' : (b.dropDelivered d).mode ≠ 5 := hm5
  have hnet' : d.hdr.net = (b.dropDelivered d).netId := hnet
  have hst' : (b.dropDelivered d).get R.MAC_STAT_STATE ≠ 4 := hst
  have hpar' : (b.dropDelivered d).macParent d.hdr.src = true := hpar
  have hone : (b.dropDelivered d).beaconOneWay d = b.dropDelivered d := Block.beaconOneWay_shut _ d hshut
  simp [Block.beaconRx, Block.takeDelivered_eq b _ d h.first, h.parts, h.full, hok, hm4', hm5', ← hnet', hst', hpar', hone]

theorem Block.keeps_noteCandidate (b : Block) (d : Delivered) (depth : Nat) (l : List Field) (ps : List Part) (h : .mac ∈ ps) :
    b.Keeps (b.noteCandidate d depth) l ps := Block.keeps_setMac b _ l ps h

theorem Block.keeps_adoptBeacon (b : Block) (l : List Byte) (ps : List Part) (h : .grid ∈ ps) :
    b.Keeps (b.adoptBeacon l) [R.GLB_GRID_GRID_FREE] ps :=
  (Block.keeps_setGrid b _ _ ps h).trans (Block.keeps_set _ _ _ _ ps (by simp))

theorem Block.adoptBeacon_gridFree (b : Block) (l : List Byte) :
    (b.adoptBeacon l).get R.GLB_GRID_GRID_FREE = if (leAt l 1 1).testBit 1 then 1 else 0 := by
  simp only [Block.adoptBeacon, Block.setFlag_eq, Block.get_set_self]
  split <;> rfl

/-! The cases of the two commands as `Obligations.Beacons` states them. -/

theorem beaconTx_sends_full (s : State) (g : GridVals) (hrun : s.blk.running = true) (h : s.blk.InBeaconSlot)
    (hf : s.blk.forbidden 0 = false)
    (hwho : s.blk.role = 0 ∧ s.blk.grid.periodIndex % max 1 s.blk.grid.fullEvery = 0 ∨ s.blk.RelayOnAir)
    (hn : s.blk.grid.next = some g) (hfit : s.blk.fitsRun (s.blk.beaconFrame (s.blk.beaconBytes g)) 1 = true) :
    ∃ t, exec .beaconTx s = .next t ∧ t.blk.mac.ready = s.blk.mac.ready ++ [s.blk.beaconFrame (s.blk.beaconBytes g)] ∧
      s.Keeps t [] [.mac] :=
  have e := (s.blk.beaconTx_due g h hf hwho hn).trans (s.blk.sendBeacon_full g hfit)
  ⟨_, exec_beaconTx_eq s _ hrun e, by rw [State.run_blk, Block.updateAlert_mac, Block.makeReady_ready],
    State.keeps_run s _ _ _ (Block.keeps_makeReady _ _)⟩

theorem beaconTx_sends_short (s : State) (hrun : s.blk.running = true) (h : s.blk.InBeaconSlot) (hf : s.blk.forbidden 0 = false)
    (hwho : s.blk.role = 0 ∧ (s.blk.grid.periodIndex % max 1 s.blk.grid.fullEvery ≠ 0 ∨ s.blk.grid.next = none) ∨
      s.blk.RelayOnAir ∧ s.blk.grid.next = none) (hfit : s.blk.fitsRun (s.blk.beaconFrame []) 1 = true) :
    ∃ t, exec .beaconTx s = .next t ∧ t.blk.mac.ready = s.blk.mac.ready ++ [s.blk.beaconFrame []] ∧ s.Keeps t [] [.mac] :=
  have e := (s.blk.beaconTx_notDue h hf hwho).trans (s.blk.sendBeacon_short hfit)
  ⟨_, exec_beaconTx_eq s _ hrun e, by rw [State.run_blk, Block.updateAlert_mac, Block.makeReady_ready],
    State.keeps_run s _ _ _ (Block.keeps_makeReady _ _)⟩

theorem beaconTx_gives_way (s : State) (g : GridVals) (hrun : s.blk.running = true) (h : s.blk.InBeaconSlot)
    (hf : s.blk.forbidden 0 = false)
    (hwho : s.blk.role = 0 ∧ s.blk.grid.periodIndex % max 1 s.blk.grid.fullEvery = 0 ∨ s.blk.RelayOnAir)
    (hn : s.blk.grid.next = some g) (hfull : s.blk.fitsRun (s.blk.beaconFrame (s.blk.beaconBytes g)) 1 = false)
    (hshort : s.blk.fitsRun (s.blk.beaconFrame []) 1 = true) :
    ∃ t, exec .beaconTx s = .next t ∧ t.blk.mac.ready = s.blk.mac.ready ++ [s.blk.beaconFrame []] ∧
      t.blk.get R.MAC_SLOT_LOST_COUNT = (s.blk.get R.MAC_SLOT_LOST_COUNT + 1) % 2 ^ R.MAC_SLOT_LOST_COUNT.width ∧
      t.blk.get R.MAC_TROUBLE_SLOT_LOST = 1 ∧ s.Keeps t slotLostFields [.mac, .records] := by
  have e := (s.blk.beaconTx_due g h hf hwho hn).trans (s.blk.sendBeacon_giveWay g hfull hshort)
  refine ⟨_, exec_beaconTx_eq s _ hrun e, ?_, ?_, ?_, State.keeps_run s _ _ _ ?_⟩
  · rw [State.run_blk, Block.updateAlert_mac, Block.makeReady_ready, Block.slotLost_mac]
  · exact (State.run_get s _ _ (by decide)).trans s.blk.slotLost_count
  · exact (State.run_get s _ _ (by decide)).trans s.blk.slotLost_sticky
  · exact (s.blk.keeps_slotLost.mono (fun f hm => List.mem_map_of_mem hm) (by decide)).trans
      ((Block.keeps_makeReady _ _).mono (by simp) (by decide))

theorem beaconTx_loses_slot (s : State) (hrun : s.blk.running = true) (h : s.blk.InBeaconSlot) (hf : s.blk.forbidden 0 = true)
    (hr : s.blk.role ≠ 2) :
    ∃ t, exec .beaconTx s = .next t ∧
      t.blk.get R.MAC_SLOT_LOST_COUNT = (s.blk.get R.MAC_SLOT_LOST_COUNT + 1) % 2 ^ R.MAC_SLOT_LOST_COUNT.width ∧
      t.blk.get R.MAC_TROUBLE_SLOT_LOST = 1 ∧ s.Keeps t slotLostFields [.records] :=
  ⟨_, exec_beaconTx_eq s _ hrun (s.blk.beaconTx_forbidden h hf hr), (State.run_get s _ _ (by decide)).trans s.blk.slotLost_count,
    (State.run_get s _ _ (by decide)).trans s.blk.slotLost_sticky, State.keeps_run s _ _ _ s.blk.keeps_slotLost⟩

theorem beaconRx_adopts (s : State) (d : Delivered) (x : RxPart) (xs : List RxPart) (hrun : s.blk.running = true)
    (h : s.blk.HeardBeacon d x xs) (hok : beaconOk x.payload = true) (hm4 : s.blk.mode ≠ 4) (hm5 : s.blk.mode ≠ 5)
    (hnet : d.hdr.net = s.blk.netId) (hst : s.blk.get R.MAC_STAT_STATE ≠ 4) (hpar : s.blk.macParent d.hdr.src = true)
    (hshut : s.blk.oneWayOpen = false) :
    ∃ t, exec .beaconRx s = .next t ∧ t.blk.phy.delivered = s.blk.phy.delivered.erase d ∧
      t.blk.grid.next = some ⟨leAt x.payload 4 4, (((s.blk.beaconZ x.payload : Nat) : Int) - s.blk.time.coarse).toNat,
        leAt x.payload 16 4 * 1024⟩ ∧
      t.blk.grid.nextMap = x.payload.drop 24 ∧ t.blk.grid.nextBp = leAt x.payload 2 1 ∧ t.blk.grid.nextSeq = leAt x.payload 22 2 ∧
      t.blk.grid.fullEvery = leAt x.payload 21 1 ∧
      t.blk.get R.GLB_GRID_GRID_FREE = (if (leAt x.payload 1 1).testBit 1 then 1 else 0) ∧
      s.Keeps t [R.GLB_GRID_GRID_FREE] [.phy, .grid] := by
  have hgrid := Block.updateAlert_grid ((s.blk.dropDelivered d).adoptBeacon x.payload)
  refine ⟨_, exec_beaconRx_eq s _ hrun (s.blk.beaconRx_parent d x xs h hok hm4 hm5 hnet hst hpar hshut), ?_, ?_, ?_, ?_, ?_, ?_, ?_,
    State.keeps_run s _ _ _ ?_⟩
  · exact congrArg PhyUnit.delivered (Block.updateAlert_phy _)
  · exact congrArg GridUnit.next hgrid
  · exact congrArg GridUnit.nextMap hgrid
  · exact congrArg GridUnit.nextBp hgrid
  · exact congrArg GridUnit.nextSeq hgrid
  · exact congrArg GridUnit.fullEvery hgrid
  · exact (State.run_get s _ _ (by decide)).trans (Block.adoptBeacon_gridFree _ _)
  · exact (s.blk.keeps_dropDelivered d _ _ (by decide)).trans (Block.keeps_adoptBeacon _ _ _ (by decide))

theorem beaconRx_records_candidate (s : State) (d : Delivered) (x : RxPart) (xs : List RxPart) (hrun : s.blk.running = true)
    (h : s.blk.HeardBeacon d x xs) (hok : beaconOk x.payload = true) (hm : s.blk.mode = 4) (hnet : d.hdr.net = s.blk.netId)
    (hopen : (leAt x.payload 1 1).testBit 0 = true) (hdepth : leAt x.payload 3 1 < 32) (hpar : s.blk.macParent d.hdr.src = false) :
    ∃ t c, exec .beaconRx s = .next t ∧ t.blk.phy.delivered = s.blk.phy.delivered.erase d ∧
      t.blk.mac.candidates = s.blk.mac.candidates.filter (fun x => x.addr != d.hdr.src) ++ [c] ∧ c.addr = d.hdr.src ∧
      c.snr = d.snr ∧ c.depth = leAt x.payload 3 1 ∧ c.band = d.band ∧ c.port = d.port ∧ c.passed = false ∧
      s.Keeps t [] [.phy, .mac] :=
  ⟨_, { addr := d.hdr.src, snr := d.snr, depth := leAt x.payload 3 1, band := d.band, port := d.port },
    exec_beaconRx_eq s _ hrun (s.blk.beaconRx_survey d x xs h hok hm hnet hopen hdepth hpar),
    congrArg PhyUnit.delivered (Block.updateAlert_phy _), congrArg MacUnit.candidates (Block.updateAlert_mac _),
    rfl, rfl, rfl, rfl, rfl, rfl,
    State.keeps_run s _ _ _ ((s.blk.keeps_dropDelivered d _ _ (by decide)).trans (Block.keeps_noteCandidate _ _ _ _ _ (by decide)))⟩

theorem beaconRx_rejects (s : State) (d : Delivered) (x : RxPart) (xs : List RxPart) (hrun : s.blk.running = true)
    (h : s.blk.HeardBeacon d x xs) (hok : beaconOk x.payload = false) :
    ∃ t, exec .beaconRx s = .next t ∧ t.blk.phy.delivered = s.blk.phy.delivered.erase d ∧
      t.blk.get R.MAC_UNDEF_COUNT = (s.blk.get R.MAC_UNDEF_COUNT + 1) % 2 ^ R.MAC_UNDEF_COUNT.width ∧
      s.Keeps t [R.MAC_UNDEF_COUNT] [.phy] :=
  ⟨_, exec_beaconRx_eq s _ hrun (s.blk.beaconRx_reserved d x xs h hok), congrArg PhyUnit.delivered (Block.updateAlert_phy _),
    (State.run_get s _ _ (by decide)).trans (Block.bump_get _ _),
    State.keeps_run s _ _ _ ((s.blk.keeps_dropDelivered d _ _ (by decide)).trans (Block.keeps_bump _ _ _ _ (by decide)))⟩

/-- Settles O25: one case of BEACON_TX or BEACON_RX after another. -/
theorem beacons : Obligations.Beacons := by
  unfold Obligations.Beacons
  refine ⟨?_, ?_, ?_, ?_, ?_, ?_, ?_⟩
  · intro s g hrun hmay hgrid hslot hf hwho hn hfit
    exact beaconTx_sends_full s g hrun ⟨hmay, hgrid, hslot⟩ hf
      (hwho.imp_right fun ⟨h0, h2, hst, hl⟩ => ⟨h0, h2, hst, hl⟩) hn hfit
  · intro s hrun hmay hgrid hslot hf hwho hfit
    exact beaconTx_sends_short s hrun ⟨hmay, hgrid, hslot⟩ hf
      (hwho.imp_right fun ⟨h0, h2, hst, hl, hn⟩ => ⟨⟨h0, h2, hst, hl⟩, hn⟩) hfit
  · intro s g hrun hmay hgrid hslot hf hwho hn hfull hshort
    exact beaconTx_gives_way s g hrun ⟨hmay, hgrid, hslot⟩ hf
      (hwho.imp_right fun ⟨h0, h2, hst, hl⟩ => ⟨h0, h2, hst, hl⟩) hn hfull hshort
  · intro s hrun hmay hgrid hslot hf hr
    exact beaconTx_loses_slot s hrun ⟨hmay, hgrid, hslot⟩ hf hr
  · intro s d x xs hrun hm4 hm5 hd hp hne hok hnet hst hpar hshut
    exact beaconRx_adopts s d x xs hrun ⟨hd, hp, hne⟩ hok hm4 hm5 hnet hst hpar hshut
  · intro s d x xs hrun hm hd hp hne hok hnet hopen hdepth hpar
    exact beaconRx_records_candidate s d x xs hrun ⟨hd, hp, hne⟩ hok hm hnet hopen hdepth hpar
  · intro s d x xs hrun hd hp hne hok
    exact beaconRx_rejects s d x xs hrun ⟨hd, hp, hne⟩ hok

end Sys2Proof.Machine
end

section
/-! The register bus (R6, R8, R494–R504): where an address lies, what an access to each region does, and the words of plain registers. -/

namespace Sys2Proof.Machine

/-! Where an address lies. -/

/-- Below the slice windows there is no slice, no debug window and no CLC_HALT. -/
theorem sliceAt_node (a : Nat) (h : a < 0x1000000) : sliceAt a = none := by
  simp [sliceAt, Nat.not_le.2 h]

theorem debugAt_node (a : Nat) (h : a < 0x1000000) : debugAt a = none := by
  simp [debugAt, sliceAt_node a h]

theorem haltAt_node (a : Nat) (h : a < 0x1000000) : haltAt a = none := by
  simp [haltAt, sliceAt_node a h]

theorem tableAt_node (a : Nat) (h : a < 0x1000000) : tableAt a = false := by
  simp only [tableAt, decide_eq_false_iff_not]; omega

theorem Block.gatedAt_node (b : Block) (a : Nat) (h : a < 0x1000000) : b.gatedAt a = false := by
  simp [Block.gatedAt, sliceAt_node a h]

/-- The table window lies in no slice. -/
theorem sliceAt_table (a : Nat) (h : tableAt a = true) : sliceAt a = none := by
  simp only [tableAt, decide_eq_true_eq] at h
  rw [sliceAt, if_neg (by omega)]

/-- A register of a debug window or CLC_HALT lies in its slice, at its offset. -/
theorem sliceAt_offset (n o : Nat) (hn : n < 8) (ho : o < 0x100000) : sliceAt (0x1000000 + 0x100000 * n + o) = some n := by
  unfold sliceAt
  rw [if_pos (by omega)]
  congr 1; omega

theorem offset_in_slice (n o : Nat) (ho : o < 0x100000) : (0x1000000 + 0x100000 * n + o) % 0x100000 = o := by omega

theorem debugAddr_eq (n q off : Nat) (hn : n < 8) (hq : q ≤ 64) :
    debugAddr n q off = 0x1000000 + 0x100000 * n + (0x80000 + 0x1000 * q + off) := by
  unfold debugAddr; omega

theorem haltAddr_eq (n k : Nat) (hn : n < 8) (hk : k < 4) : haltAddr n k = 0x1000000 + 0x100000 * n + (0x10000 * k + 4) := by
  unfold haltAddr; omega

section
variable (n q off : Nat) (hn : n < 8) (hq : q ≤ 64) (ho : off < 0x1000)
include hn hq ho

theorem sliceAt_debugAddr : sliceAt (debugAddr n q off) = some n := by
  rw [debugAddr_eq n q off hn hq, sliceAt_offset n _ hn (by omega)]

theorem debugAt_debugAddr : debugAt (debugAddr n q off) = some (n, q, off) := by
  have hs := sliceAt_debugAddr n q off hn hq ho
  rw [debugAddr_eq n q off hn hq] at hs ⊢
  simp only [debugAt, hs, offset_in_slice n (0x80000 + 0x1000 * q + off) (by omega)]
  rw [if_pos (by omega), show (0x80000 + 0x1000 * q + off - 0x80000) / 0x1000 = q by omega,
    show (0x80000 + 0x1000 * q + off) % 0x1000 = off by omega]

theorem tableAt_debugAddr : tableAt (debugAddr n q off) = false := by
  rw [debugAddr_eq n q off hn hq]; simp only [tableAt, decide_eq_false_iff_not]; omega

theorem ownerCounter_debugAddr : ownerCounter (debugAddr n q off) = R.SLC_UNDEF_COUNT n := by
  have hs := sliceAt_debugAddr n q off hn hq ho
  have hge : ¬ debugAddr n q off < 0x100000 := by rw [debugAddr_eq n q off hn hq]; omega
  simp only [ownerCounter, hs, if_neg hge]

theorem Block.gatedAt_debugAddr (b : Block) : b.gatedAt (debugAddr n q off) = b.gated n := by
  simp only [Block.gatedAt, sliceAt_debugAddr n q off hn hq ho]

end

section
variable (n k : Nat) (hn : n < 8) (hk : k < 4)
include hn hk

theorem sliceAt_haltAddr : sliceAt (haltAddr n k) = some n := by
  rw [haltAddr_eq n k hn hk, sliceAt_offset n _ hn (by omega)]

theorem debugAt_haltAddr : debugAt (haltAddr n k) = none := by
  have hs := sliceAt_haltAddr n k hn hk
  rw [haltAddr_eq n k hn hk] at hs ⊢
  simp only [debugAt, hs, offset_in_slice n (0x10000 * k + 4) (by omega)]
  rw [if_neg (by omega)]

theorem haltAt_haltAddr : haltAt (haltAddr n k) = some (n, k) := by
  have hs := sliceAt_haltAddr n k hn hk
  rw [haltAddr_eq n k hn hk] at hs ⊢
  simp only [haltAt, hs, offset_in_slice n (0x10000 * k + 4) (by omega)]
  rw [if_pos (by omega)]
  congr 2; omega

theorem tableAt_haltAddr : tableAt (haltAddr n k) = false := by
  rw [haltAddr_eq n k hn hk]; simp only [tableAt, decide_eq_false_iff_not]; omega

theorem ownerCounter_haltAddr : ownerCounter (haltAddr n k) = R.SLC_UNDEF_COUNT n := by
  have hs := sliceAt_haltAddr n k hn hk
  have hge : ¬ haltAddr n k < 0x100000 := by rw [haltAddr_eq n k hn hk]; omega
  simp only [ownerCounter, hs, if_neg hge]

theorem Block.gatedAt_haltAddr (b : Block) : b.gatedAt (haltAddr n k) = b.gated n := by
  simp only [Block.gatedAt, sliceAt_haltAddr n k hn hk]

end

/-! An undefined access (R6, R496). -/

theorem SLC_UNDEF_COUNT_ne_summary (n : Nat) : (R.SLC_UNDEF_COUNT n).key ≠ R.TRB_SUMMARY.key := by
  simp only [R.SLC_UNDEF_COUNT, R.TRB_SUMMARY]; omega

theorem ownerCounter_ne_summary (a : Nat) : (ownerCounter a).key ≠ R.TRB_SUMMARY.key := by
  unfold ownerCounter
  split
  · split
    case h_12 => split <;> decide
    all_goals decide
  · split
    · exact SLC_UNDEF_COUNT_ne_summary _
    · split <;> decide

/-- The table window is counted by MSH. -/
theorem ownerCounter_table (a : Nat) (h : tableAt a = true) : ownerCounter a = R.MSH_UNDEF_COUNT := by
  have hs := sliceAt_table a h
  simp only [tableAt, decide_eq_true_eq] at h
  simp only [ownerCounter, hs, if_neg (show ¬ a < 0x100000 by omega), if_pos h]

theorem Block.undefined_get (b : Block) (a : Nat) :
    (b.undefined a).get (ownerCounter a) = (b.get (ownerCounter a) + 1) % 2 ^ (ownerCounter a).width := Block.bump_get b _

theorem Block.keeps_undefined (b : Block) (a : Nat) (ps : List Part) : b.Keeps (b.undefined a) [ownerCounter a] ps :=
  Block.keeps_bump b _ _ _ (by simp)

theorem Block.undefined_readData (b : Block) (a v : Nat) :
    ({ b.undefined a with readData := v } : Block) = ({ b with readData := v } : Block).undefined a := rfl

/-! What an access does, region by region. -/

theorem busWrite_gated (p : Path) (a v : Nat) (b : Block) (o : Otp) (h4 : a % 4 = 0) (hg : b.gatedAt a = true) :
    busWrite p a v b o = (b.bump R.GLB_UNDEF_COUNT, o) := by
  simp [busWrite, h4, hg]

/-- Outside M10 a write of the table window is undefined (R296, R504). -/
theorem busWrite_table (p : Path) (a v : Nat) (b : Block) (o : Otp) (h4 : a % 4 = 0) (ht : tableAt a = true) (hm : b.mode ≠ 10) :
    busWrite p a v b o = (b.undefined a, o) := by
  have hg : b.gatedAt a = false := by simp [Block.gatedAt, sliceAt_table a ht]
  simp [busWrite, h4, hg, ht, Block.tableWrite, hm]

theorem busWrite_debug (p : Path) (n q off v : Nat) (b : Block) (o : Otp) (hn : n < 8) (hq : q ≤ 64) (ho : off < 0x1000)
    (h4 : off % 4 = 0) (hg : b.gated n = false) :
    busWrite p (debugAddr n q off) v b o = ((b.debugAccess (debugAddr n q off) n q off fun b =>
      if b.dbgHalted n q then (0, b.debugWrite n q off v) else (0, b.undefined (debugAddr n q off))).2, o) := by
  have ha : debugAddr n q off % 4 = 0 := by rw [debugAddr_eq n q off hn hq]; omega
  simp [busWrite, ha, Block.gatedAt_debugAddr n q off hn hq ho, hg, tableAt_debugAddr n q off hn hq ho,
    debugAt_debugAddr n q off hn hq ho]

theorem Block.busRead_debug (b : Block) (o : Otp) (p : Path) (n q off : Nat) (hn : n < 8) (hq : q ≤ 64) (ho : off < 0x1000)
    (h4 : off % 4 = 0) (hg : b.gated n = false) :
    b.busRead o p (debugAddr n q off) = b.debugAccess (debugAddr n q off) n q off fun b => b.debugRead n q off := by
  have ha : debugAddr n q off % 4 = 0 := by rw [debugAddr_eq n q off hn hq]; omega
  simp [Block.busRead, ha, Block.gatedAt_debugAddr n q off hn hq ho, hg, tableAt_debugAddr n q off hn hq ho,
    debugAt_debugAddr n q off hn hq ho]

theorem busWrite_halt (p : Path) (n k v : Nat) (b : Block) (o : Otp) (hn : n < 8) (hk : k < 4) (hg : b.gated n = false) :
    busWrite p (haltAddr n k) v b o = (b.haltWrite (haltAddr n k) n k v, o) := by
  have ha : haltAddr n k % 4 = 0 := by rw [haltAddr_eq n k hn hk]; omega
  simp [busWrite, ha, Block.gatedAt_haltAddr n k hn hk, hg, tableAt_haltAddr n k hn hk, debugAt_haltAddr n k hn hk,
    haltAt_haltAddr n k hn hk]

/-- A debug window is shut outside the conditions of R28. -/
theorem Block.debugAccess_shut (b : Block) (a n q off : Nat) (act : Block → Nat × Block) (h : b.debugAllowed n = false) :
    b.debugAccess a n q off act = (0, b.undefined a) := by
  simp [Block.debugAccess, h]

theorem Block.debugAccess_open (b : Block) (a n q off : Nat) (act : Block → Nat × Block) (h : b.debugAllowed n = true)
    (hh : (b.sliceState n).held = false) (hq : q ≤ 64) (ho : debugOffset off = true) : b.debugAccess a n q off act = act b := by
  simp [Block.debugAccess, h, hh, hq, ho]

/-- A read access by what the bus gives. -/
theorem readAccess_eq (p : Path) (a v : Nat) (b c : Block) (o : Otp) (h : b.busRead o p a = (v, c)) :
    readAccess p a b o = ({ c with readData := v }, o) := by
  simp only [readAccess, h]

/-! Listed words outside the windows. -/

/-- A register of the node-level blocks that no command of its own answers. -/
theorem busWrite_listed (p : Path) (a v : Nat) (b : Block) (o : Otp) (h4 : a % 4 = 0) (ha : a < 0x1000000) (himg : a ≠ 0x30004)
    (hsec : a ≠ 0xF0008) (hl : listed o a = true) : busWrite p a v b o = (b.listedWrite p a v, o) := by
  simp [busWrite, h4, Block.gatedAt_node b a ha, tableAt_node a ha, debugAt_node a ha, haltAt_node a ha, himg, hsec, hl]

theorem listed_of_wordFields (o : Otp) (a : Nat) (h : wordFields a ≠ []) : listed o a = true := by
  simp [listed, h]

/-- A word that is stored under the access codes alone (R8): no command, no select register, no view. -/
structure PlainWord (a : Nat) : Prop where
  aligned : a % 4 = 0
  low : a < 0x60000
  img : a ≠ 0x30004
  fields : wordFields a ≠ []
  cmd : cmdWords.contains a = false
  select : selects.contains a = false
  view : viewOf a = none

theorem Block.plainWrite_low (b : Block) (a v : Nat) (h : a < 0x60000) : b.plainWrite a v = b.storeWord a v := by
  have hs : sliceAt a = none := sliceAt_node a (by omega)
  unfold Block.plainWrite
  rw [if_neg (by omega), if_neg (by omega), if_neg (by omega), if_neg (by omega), if_neg (by omega), hs]

theorem PlainWord.busWrite_eq {a : Nat} (h : PlainWord a) (p : Path) (v : Nat) (b : Block) (o : Otp) :
    busWrite p a v b o = (b.listedWrite p a v, o) := by
  have := h.low
  exact busWrite_listed p a v b o h.aligned (by omega) h.img (by omega) (listed_of_wordFields o a h.fields)

theorem PlainWord.listedWrite_ok {a : Nat} (h : PlainWord a) (b : Block) (p : Path) (v : Nat) (hok : b.writeOk a v = true) :
    b.listedWrite p a v = b.storeWord a v := by
  rw [← Block.plainWrite_low b a v h.low]
  simp [Block.listedWrite, hok, h.cmd, h.select, h.view, -List.contains_eq_mem]

/-- A refused write leaves the register; a reserved encoding is counted (R5). -/
theorem Block.listedWrite_refused (b : Block) (p : Path) (a v : Nat) (h : b.writeOk a v = false) :
    b.listedWrite p a v = if reservedCode a v then b.undefined a else b := by
  simp [Block.listedWrite, h]

end Sys2Proof.Machine
end

section
/-! Words of plain registers under the access codes (R8), and counters read word by word (R473, R498). -/

namespace Sys2Proof.Machine

/-! A write of one field of a word. -/

/-- What a written word makes of one field of the word at `a`. -/
def Block.storeField (a word : Nat) (b : Block) (e : RegRow × Nat) : Block :=
  let f : Field := ⟨e.2, e.1.width⟩
  match e.1.access with
  | .rw => b.set f (mergeIn a e.2 e.1.width (b.get f) word)
  | .w1c => b.clear f (clearIn a e.2 e.1.width word)
  | _ => b

/-- The value that a field with value `x` has after a write of its word. -/
def storedValue (a word : Nat) (e : RegRow × Nat) (x : Nat) : Nat :=
  match e.1.access with
  | .rw => mergeIn a e.2 e.1.width x word % 2 ^ e.1.width
  | .w1c => (x &&& (2 ^ e.1.width - 1 - clearIn a e.2 e.1.width word % 2 ^ e.1.width)) % 2 ^ e.1.width
  | _ => x

theorem Block.storeWord_eq (b : Block) (a word : Nat) : b.storeWord a word = (wordFields a).foldl (Block.storeField a word) b := rfl

theorem Block.storeField_get_self (b : Block) (a word : Nat) (e : RegRow × Nat) :
    (b.storeField a word e).get ⟨e.2, e.1.width⟩ = storedValue a word e (b.get ⟨e.2, e.1.width⟩) := by
  unfold Block.storeField storedValue
  split <;> simp [Block.clear_eq]

theorem Block.keeps_storeField (b : Block) (a word : Nat) (e : RegRow × Nat) (l : List Field) (ps : List Part)
    (h : e.1.access = .rw ∨ e.1.access = .w1c → e.2 ∈ l.map Field.key) : b.Keeps (b.storeField a word e) l ps := by
  unfold Block.storeField
  split
  · next hrw => exact Block.keeps_set b _ _ l ps (h (.inl hrw))
  · next hw1c => exact Block.keeps_set b _ _ l ps (h (.inr hw1c))
  · exact Block.Keeps.refl b l ps

theorem Block.storeField_get_ne (b : Block) (a word : Nat) (e : RegRow × Nat) (g : Field) (h : g.key ≠ e.2) :
    (b.storeField a word e).get g = b.get g := by
  unfold Block.storeField
  split
  · exact Block.get_set_ne b _ g _ h
  · exact Block.get_set_ne b _ g _ h
  · rfl

theorem Block.foldl_storeField_get_ne (a word : Nat) (l : List (RegRow × Nat)) (b : Block) (g : Field)
    (h : g.key ∉ l.map Prod.snd) : (l.foldl (Block.storeField a word) b).get g = b.get g := by
  induction l generalizing b with
  | nil => rfl
  | cons e l ih =>
    simp only [List.map_cons, List.mem_cons, not_or] at h
    rw [List.foldl_cons, ih _ h.2, Block.storeField_get_ne b a word e g h.1]

theorem Block.foldl_storeField_get (a word : Nat) (l : List (RegRow × Nat)) (b : Block) (e : RegRow × Nat) (he : e ∈ l)
    (hl : (l.map Prod.snd).Nodup) : (l.foldl (Block.storeField a word) b).get ⟨e.2, e.1.width⟩ =
      storedValue a word e (b.get ⟨e.2, e.1.width⟩) := by
  induction l generalizing b with
  | nil => cases he
  | cons x l ih =>
    rw [List.map_cons, List.nodup_cons] at hl
    rw [List.foldl_cons]
    obtain rfl | he := List.mem_cons.1 he
    · rw [Block.foldl_storeField_get_ne a word l _ _ hl.1, Block.storeField_get_self]
    · have hne : e.2 ≠ x.2 := fun h => hl.1 (h ▸ List.mem_map_of_mem he)
      rw [ih _ he hl.2, Block.storeField_get_ne b a word x _ hne]

/-- What a written word makes of each of its fields. -/
theorem Block.storeWord_get (b : Block) (a word : Nat) (e : RegRow × Nat) (he : e ∈ wordFields a)
    (hl : ((wordFields a).map Prod.snd).Nodup) :
    (b.storeWord a word).get ⟨e.2, e.1.width⟩ = storedValue a word e (b.get ⟨e.2, e.1.width⟩) :=
  Block.foldl_storeField_get a word (wordFields a) b e he hl

/-- A written word changes its writable fields alone. -/
theorem Block.keeps_storeWord (b : Block) (a word : Nat) (l : List Field) (ps : List Part)
    (h : ∀ e ∈ wordFields a, e.1.access = .rw ∨ e.1.access = .w1c → e.2 ∈ l.map Field.key) : b.Keeps (b.storeWord a word) l ps := by
  rw [Block.storeWord_eq]
  revert h
  generalize wordFields a = es
  intro h
  induction es generalizing b with
  | nil => exact Block.Keeps.refl b l ps
  | cons e es ih =>
    exact (Block.keeps_storeField b a word e l ps (h e (by simp))).trans (ih _ fun x hx => h x (List.mem_cons_of_mem e hx))

/-- An RW field of 32 bits or fewer at bit 0 takes the low bits of the word. -/
theorem storedValue_rw (a word : Nat) (e : RegRow × Nat) (x : Nat) (hacc : e.1.access = .rw) (hk : e.2 = 8 * a)
    (hw : e.1.width ≤ 32) (hx : x < 2 ^ e.1.width) : storedValue a word e x = word % 2 ^ e.1.width := by
  simp [storedValue, hacc, hk, mergeIn, fieldSpan, putBits, Nat.min_eq_left hw, Nat.mod_eq_of_lt hx]

/-- A W1C bit goes where the word has a 1 at its place. -/
theorem storedValue_w1c (a word i : Nat) (e : RegRow × Nat) (x : Nat) (hacc : e.1.access = .w1c) (hk : e.2 = 8 * a + i)
    (hw : e.1.width = 1) (hi : i < 32) : storedValue a word e x = if word.testBit i then 0 else x % 2 := by
  have hmin : min 1 (32 - i) = 1 := by omega
  have hbit : word.testBit i = decide (word / 2 ^ i % 2 = 1) := by rw [Nat.testBit_eq_decide_div_mod_eq]
  simp only [storedValue, hacc, hk, hw, clearIn, fieldSpan, hbit, decide_eq_true_eq, Nat.le_add_right, if_true,
    Nat.add_sub_cancel_left, hmin]
  obtain h | h := Nat.mod_two_eq_zero_or_one (word / 2 ^ i) <;> simp [h]

/-- The RW field that fills a word from bit 0 on takes the low bits of what is written. -/
theorem Block.storeWord_get_rw (b : Block) (a word : Nat) (f : Field) (r : RegRow) (h : wordFields a = [(r, f.key)])
    (hacc : r.access = .rw) (hk : f.key = 8 * a) (hr : r.width = f.width) (hw : f.width ≤ 32) :
    (b.storeWord a word).get f = word % 2 ^ f.width := by
  obtain ⟨k, w⟩ := f
  subst hr
  exact (Block.storeWord_get b a word (r, k) (by simp [h]) (by simp [h])).trans
    (storedValue_rw a word (r, k) _ hacc hk hw (Block.get_lt _ _))

/-- A W1C bit of a word is cleared by a 1 at its place and stays otherwise. -/
theorem Block.storeWord_get_w1c (b : Block) (a word i : Nat) (f : Field) (r : RegRow) (h : (r, f.key) ∈ wordFields a)
    (hl : ((wordFields a).map Prod.snd).Nodup) (hacc : r.access = .w1c) (hk : f.key = 8 * a + i) (hr : r.width = f.width)
    (hw : f.width = 1) (hi : i < 32) : (b.storeWord a word).get f = if word.testBit i then 0 else b.get f % 2 := by
  obtain ⟨k, w⟩ := f
  subst hr
  exact (Block.storeWord_get b a word (r, k) h hl).trans (storedValue_w1c a word i (r, k) _ hacc hk hw hi)

/-! The words that the statement names. -/

theorem wordFields_alertMask : wordFields 0x20004 = [(⟨0x20004, [], 0, 28, .rw, 0x0FFFFFFF, .a, false⟩, R.TRB_ALERT_MASK.key)] := by
  decide +kernel

theorem wordFields_pwrTrouble : wordFields 0x10004 =
    [(⟨0x10004, [], 0, 1, .w1c, 0, .w, false⟩, R.PWR_TROUBLE_RATION_DELAY.key),
     (⟨0x10004, [], 1, 1, .w1c, 0, .w, false⟩, R.PWR_TROUBLE_MODE_REFUSED.key),
     (⟨0x10004, [], 2, 1, .w1c, 0, .a, false⟩, R.PWR_TROUBLE_OVER_TEMP.key),
     (⟨0x10004, [], 3, 1, .w1c, 0, .a, false⟩, R.PWR_TROUBLE_VAUX_OVERLOAD.key),
     (⟨0x10004, [], 4, 1, .w1c, 0, .a, false⟩, R.PWR_TROUBLE_WDT_RESET.key)] := by
  decide +kernel

theorem wordFields_wdtTimeout : wordFields 0x10014 = [(⟨0x10014, [], 0, 16, .rw, 1000, .a, false⟩, R.PWR_WDT_TIMEOUT.key)] := by
  decide +kernel

theorem wordFields_summary : wordFields 0x20000 = [(⟨0x20000, [], 0, 28, .ro, 0, .v, false⟩, R.TRB_SUMMARY.key)] := by
  decide +kernel

theorem wordFields_snapT : wordFields 0x20048 = [(⟨0x20044, [], 0, 128, .rw, 0, .v, true⟩, R.TRB_SNAP_T.key)] := by
  decide +kernel

theorem plainWord_alertMask : PlainWord 0x20004 :=
  ⟨by decide, by decide, by decide, by rw [wordFields_alertMask]; simp, by decide, by decide, by decide⟩
theorem plainWord_pwrTrouble : PlainWord 0x10004 :=
  ⟨by decide, by decide, by decide, by rw [wordFields_pwrTrouble]; simp, by decide, by decide, by decide⟩
theorem plainWord_wdtTimeout : PlainWord 0x10014 :=
  ⟨by decide, by decide, by decide, by rw [wordFields_wdtTimeout]; simp, by decide, by decide, by decide⟩
theorem plainWord_summary : PlainWord 0x20000 :=
  ⟨by decide, by decide, by decide, by rw [wordFields_summary]; simp, by decide, by decide, by decide⟩
theorem plainWord_snapT : PlainWord 0x20048 :=
  ⟨by decide, by decide, by decide, by rw [wordFields_snapT]; simp, by decide, by decide, by decide⟩

/-! A counter read word by word (R473, R498). -/

/-- A 64-bit counter at the word of its key that no command, view, constant or live register shares. -/
structure CounterField (f : Field) (r : RegRow) : Prop where
  whole : 8 * (f.key / 8) = f.key
  width : f.width = 64
  aligned : f.key / 8 % 4 = 0
  low : f.key / 8 < 0x1000000
  lowWord : wordFields (f.key / 8) = [(r, f.key)]
  highWord : wordFields (f.key / 8 + 4) = [(r, f.key)]
  latched : r.latched = true
  rowWidth : r.width = 64
  readable : r.access ≠ .wo
  fixed : ∀ o, constWord o (f.key / 8) = none ∧ constWord o (f.key / 8 + 4) = none
  view : viewOf (f.key / 8) = none ∧ viewOf (f.key / 8 + 4) = none
  live : ∀ b : Block, b.live (f.key / 8) = b
  own : f.key / 8 ∉ [0x40100, 0x80050, 0xF0010, 0xD0020, 0xD1020, 0xD0024, 0xD1024]

theorem Block.wordValue_single (b : Block) (a k : Nat) (r : RegRow) (h : wordFields a = [(r, k)]) (hr : r.access ≠ .wo) :
    b.wordValue a = showIn a k (Tab.get 0 b.regs k) := by
  simp [Block.wordValue, h, hr]

section
variable {f : Field} {r : RegRow} (h : CounterField f r)
include h

theorem CounterField.wordValue_low (b : Block) : b.wordValue (f.key / 8) = b.get f % 2 ^ 32 := by
  rw [Block.wordValue_single b _ _ r h.lowWord h.readable, Block.get, h.width, showIn, if_pos (le_of_eq h.whole), h.whole,
    Nat.sub_self, pow_zero, mul_one, Nat.mod_mod_of_dvd _ (by decide)]

theorem CounterField.wordValue_high (b : Block) : b.wordValue (f.key / 8 + 4) = b.get f / 2 ^ 32 % 2 ^ 32 := by
  have hw := h.whole
  rw [Block.wordValue_single b _ _ r h.highWord h.readable, Block.get, h.width, showIn, if_neg (by omega),
    show 8 * (f.key / 8 + 4) - f.key = 32 by omega]
  omega

theorem CounterField.listedValue_low (b : Block) (o : Otp) (p : Path) : b.listedValue o p (f.key / 8) = b.get f % 2 ^ 32 := by
  have hlatch : latchedBy (f.key / 8) = none := by simp [latchedBy, h.lowWord, h.whole]
  have hown := h.own
  simp only [List.mem_cons, not_or] at hown
  obtain ⟨h1, h2, h3, -⟩ := hown
  simp [Block.listedValue, (h.fixed o).1, h.view.1, hlatch, h1, h2, h3, h.live, h.wordValue_low]

theorem CounterField.listedValue_high (b : Block) (o : Otp) (p : Path) :
    b.listedValue o p (f.key / 8 + 4) = Tab.get 0 (b.latch p) (f.key / 8 + 4) := by
  have hw := h.whole
  have hle : f.key + 32 ≤ 8 * (f.key / 8 + 4) := by omega
  have hlatch : latchedBy (f.key / 8 + 4) = some (f.key / 8) := by simp [latchedBy, h.highWord, h.latched, hle]
  simp [Block.listedValue, (h.fixed o).2, h.view.2, hlatch]

/-- The read of the low word latches the high one. -/
theorem CounterField.readEffect_eq (b : Block) (p : Path) :
    b.readEffect p (f.key / 8) = b.setLatch p (f.key / 8 + 4) (b.get f / 2 ^ 32 % 2 ^ 32) := by
  have hown := h.own
  simp only [List.mem_cons, not_or] at hown
  obtain ⟨-, -, -, h1, h2, h3, h4, -⟩ := hown
  have hlatch : b.latchFrom p (f.key / 8) b = b.setLatch p (f.key / 8 + 4) (b.get f / 2 ^ 32 % 2 ^ 32) := by
    simp [Block.latchFrom, h.lowWord, h.latched, h.whole, h.rowWidth, Block.forEach, h.wordValue_high]
  simp [Block.readEffect, h.live, hlatch, h1, h2, h3, h4]

theorem CounterField.busRead_eq (b : Block) (o : Otp) (p : Path) :
    b.busRead o p (f.key / 8) = (b.get f % 2 ^ 32, b.setLatch p (f.key / 8 + 4) (b.get f / 2 ^ 32 % 2 ^ 32)) := by
  have hl : listed o (f.key / 8) = true := listed_of_wordFields o _ (by rw [h.lowWord]; simp)
  simp [Block.busRead, h.aligned, Block.gatedAt_node b _ h.low, tableAt_node _ h.low, debugAt_node _ h.low, hl,
    h.listedValue_low, h.readEffect_eq]

end

/-- The row of a counter at `a`. -/
def counterRow (a : Nat) : RegRow := ⟨a, [], 0, 64, .ro, 0, .a, true⟩

theorem counterField_recordCount : CounterField R.TRB_RECORD_COUNT (counterRow 0x20108) :=
  ⟨by decide, rfl, by decide, by decide, by decide +kernel, by decide +kernel, rfl, rfl, by decide, fun _ => ⟨rfl, rfl⟩,
    by decide, fun _ => rfl, by decide⟩
theorem counterField_wdtResetCount : CounterField R.PWR_WDT_RESET_COUNT (counterRow 0x10118) :=
  ⟨by decide, rfl, by decide, by decide, by decide +kernel, by decide +kernel, rfl, rfl, by decide, fun _ => ⟨rfl, rfl⟩,
    by decide, fun _ => rfl, by decide⟩
theorem counterField_lostCount : CounterField R.QMG_LOST_COUNT (counterRow 0xA0318) :=
  ⟨by decide, rfl, by decide, by decide, by decide +kernel, by decide +kernel, rfl, rfl, by decide, fun _ => ⟨rfl, rfl⟩,
    by decide, fun _ => rfl, by decide⟩

end Sys2Proof.Machine
end

section
/-! Register accesses as commands (R5, R6, R8, R473, R497, R501, R502), and the settlement of `Obligations.RegisterAccesses`. -/

namespace Sys2Proof.Machine

/-! The commands of the register interface, by what the bus makes of the block. -/

theorem exec_registerWrite_eq (s : State) (p : Path) (a v : Word) (c : Block) (h : s.blk.reachable = true)
    (e : busWrite p a.toNat v.toNat s.blk s.otp = (c, s.otp)) : exec (.registerWrite p a v) s = .next (s.run fun _ => c) :=
  congrArg Host.Outcome.next (State.runOtp_viaBus s _ c h e)

theorem exec_counterLowRead_eq (s : State) (p : Path) (a : Word) (c : Block) (h : s.blk.reachable = true)
    (e : readAccess p a.toNat s.blk s.otp = (c, s.otp)) : exec (.counterLowRead p a) s = .next (s.run fun _ => c) :=
  congrArg Host.Outcome.next (State.runOtp_viaBus s _ c h e)

theorem exec_reservedAccess_eq (s : State) (a : Word) (n : Nat) (w : Bool) (c : Block) (h : s.blk.reachable = true)
    (e : reservedAccess a.toNat n w s.blk s.otp = (c, s.otp)) : exec (.reservedAccess a n w) s = .next (s.run fun _ => c) :=
  congrArg Host.Outcome.next (State.runOtp_viaBus s _ c h e)

theorem exec_clcHaltWrite_eq (s : State) (n k : Nat) (v : Word) (c : Block) (h : s.blk.reachable = true)
    (e : busWrite .host (haltAddr n k) v.toNat s.blk s.otp = (c, s.otp)) :
    exec (.clcHaltWrite n k v) s = .next (s.run fun _ => c) :=
  congrArg Host.Outcome.next (State.runOtp_viaBus s _ c h e)

theorem exec_debugStep_eq (s : State) (n q : Nat) (c : Block) (h : s.blk.reachable = true)
    (e : busWrite .host (debugAddr n q 0) 2 s.blk s.otp = (c, s.otp)) : exec (.debugStep n q) s = .next (s.run fun _ => c) :=
  congrArg Host.Outcome.next (State.runOtp_viaBus s _ c h e)

theorem exec_dbgMemDataAccess_eq (s : State) (n q : Nat) (v : Option Word) (c : Block) (h : s.blk.reachable = true)
    (e : memDataAccess n q v s.blk s.otp = (c, s.otp)) : exec (.dbgMemDataAccess n q v) s = .next (s.run fun _ => c) :=
  congrArg Host.Outcome.next (State.runOtp_viaBus s _ c h e)

/-! Counters and reserved space. -/

/-- Reading a counter's low word gives it, and latches the high word for the path that read (R473). -/
theorem counterLowRead_latches (s : State) (p : Path) (f : Field) (r : RegRow) (h : CounterField f r) (hr : s.blk.reachable = true) :
    ∃ t, exec (.counterLowRead p (BitVec.ofNat 32 (f.key / 8))) s = .next t ∧ t.blk.readData = s.blk.get f % 2 ^ 32 ∧
      t.blk.listedValue t.otp p (f.key / 8 + 4) = s.blk.get f / 2 ^ 32 % 2 ^ 32 ∧ s.Keeps t [] [.readData, p.part] := by
  have hlow := h.low
  have ha : (BitVec.ofNat 32 (f.key / 8)).toNat = f.key / 8 := by
    rw [BitVec.toNat_ofNat, Nat.mod_eq_of_lt (by omega)]
  refine ⟨_, exec_counterLowRead_eq s p _ _ hr (by rw [ha, readAccess_eq p _ _ s.blk _ s.otp (h.busRead_eq s.blk s.otp p)]),
    ?_, ?_, State.keeps_run s _ _ _ ?_⟩
  · exact Block.updateAlert_readData _
  · rw [h.listedValue_high, State.run_blk, Block.updateAlert_latch]
    exact Block.latch_setLatch_self _ _ _ _
  · exact (Block.keeps_setLatch _ p _ _ _ _ (by simp)).trans (Block.keeps_readData _ _ _ _ (by simp))

/-- A misaligned or narrow read reads 0 and is counted (R6, R495). -/
theorem reservedAccess_reads_zero (s : State) (a : Word) (n : Nat) (hr : s.blk.reachable = true)
    (hg : s.blk.gatedAt a.toNat = false) (hbad : n ≠ 4 ∨ a.toNat % 4 ≠ 0) :
    ∃ t, exec (.reservedAccess a n false) s = .next t ∧ t.blk.readData = 0 ∧
      t.blk.get (ownerCounter a.toNat) = (s.blk.get (ownerCounter a.toNat) + 1) % 2 ^ (ownerCounter a.toNat).width ∧
      s.Keeps t [ownerCounter a.toNat] [.readData] := by
  have e : reservedAccess a.toNat n false s.blk s.otp = (({ s.blk with readData := 0 } : Block).undefined a.toNat, s.otp) := by
    have hany : a.toNat % 4 ≠ 0 ∨ n ≠ 4 := hbad.symm
    simp only [reservedAccess, hg, ← or_assoc, hany, true_or, if_true, Bool.false_eq_true, if_false]
  refine ⟨_, exec_reservedAccess_eq s a n false _ hr e, Block.updateAlert_readData _, ?_, State.keeps_run s _ _ _ ?_⟩
  · exact (State.run_get s _ _ (ownerCounter_ne_summary _)).trans (Block.undefined_get _ _)
  · exact (Block.keeps_readData _ _ _ _ (by simp)).trans (Block.keeps_undefined _ _ _)

/-- A write of the reserved space of CUS is counted and nothing else (R6). -/
theorem reservedAccess_counts_write (s : State) (n : Nat) (hr : s.blk.reachable = true) :
    ∃ t, exec (.reservedAccess 0xB3000 n true) s = .next t ∧
      t.blk.get R.CUS_UNDEF_COUNT = (s.blk.get R.CUS_UNDEF_COUNT + 1) % 2 ^ 64 ∧ s.Keeps t [R.CUS_UNDEF_COUNT] [] := by
  have hfields : wordFields 0xB3000 = [] := by decide +kernel
  have hview : viewOf 0xB3000 = none := by decide
  have hl : listed s.otp 0xB3000 = false := by simp [listed, constWord, hfields, hview]
  have e : reservedAccess (0xB3000 : Word).toNat n true s.blk s.otp = (s.blk.undefined 0xB3000, s.otp) := by
    simp [reservedAccess, Block.gatedAt_node, tableAt_node, debugAt_node, hl]
  exact ⟨_, exec_reservedAccess_eq s _ n true _ hr e, (State.run_get s _ _ (by decide)).trans (Block.undefined_get _ 0xB3000),
    State.keeps_run s _ _ _ (Block.keeps_undefined _ _ _)⟩

theorem reservedAccess_unreachable (s : State) (a : Word) (n : Nat) (w : Bool) (h : s.blk.reachable = false) :
    ∃ t, exec (.reservedAccess a n w) s = .next t ∧ s.Keeps t [] [] :=
  ⟨_, congrArg Host.Outcome.next (State.runOtp_viaBus_unreachable s _ h), State.keeps_run_id s _ _⟩

/-! Writes of registers (R8). -/

/-- A write of a plain word that its table does not refuse acts under the access codes. -/
theorem exec_registerWrite_plain (s : State) (p : Path) (a v : Word) (h : PlainWord a.toNat) (hr : s.blk.reachable = true)
    (hok : s.blk.writeOk a.toNat v.toNat = true) :
    exec (.registerWrite p a v) s = .next (s.run fun _ => s.blk.storeWord a.toNat v.toNat) :=
  exec_registerWrite_eq s p a v _ hr (by rw [h.busWrite_eq, h.listedWrite_ok _ _ _ hok])

theorem registerWrite_unreachable (s : State) (p : Path) (a v : Word) (h : s.blk.reachable = false) :
    ∃ t, exec (.registerWrite p a v) s = .next t ∧ s.Keeps t [] [] :=
  ⟨_, congrArg Host.Outcome.next (State.runOtp_viaBus_unreachable s _ h), State.keeps_run_id s _ _⟩

theorem registerWrite_alertMask (s : State) (p : Path) (v : Word) (hr : s.blk.reachable = true) :
    ∃ t, exec (.registerWrite p 0x20004 v) s = .next t ∧ t.blk.get R.TRB_ALERT_MASK = v.toNat % 2 ^ 28 ∧
      s.Keeps t [R.TRB_ALERT_MASK] [] :=
  ⟨_, exec_registerWrite_plain s p _ v plainWord_alertMask hr (by simp [Block.writeOk, writeOkPwr]),
    (State.run_get s _ _ (by decide)).trans (Block.storeWord_get_rw _ 0x20004 _ _ _ wordFields_alertMask rfl rfl rfl (by decide)),
    State.keeps_run s _ _ _ (Block.keeps_storeWord _ 0x20004 _ _ _ (by rw [wordFields_alertMask]; decide))⟩

/-- A 1 clears a sticky bit of the power manager's word, a 0 leaves it (R8, R461). -/
theorem pwrTrouble_get (b : Block) (word i : Nat) (f : Field) (r : RegRow) (h : (r, f.key) ∈ wordFields 0x10004)
    (hacc : r.access = .w1c) (hk : f.key = 8 * 0x10004 + i) (hr : r.width = f.width) (hw : f.width = 1) (hi : i < 32) :
    (b.storeWord 0x10004 word).get f = if word.testBit i then 0 else b.get f % 2 :=
  b.storeWord_get_w1c 0x10004 word i f r h (by rw [wordFields_pwrTrouble]; decide) hacc hk hr hw hi

theorem registerWrite_pwrTrouble (s : State) (p : Path) (v : Word) (hr : s.blk.reachable = true) :
    ∃ t, exec (.registerWrite p 0x10004 v) s = .next t ∧
      t.blk.get R.PWR_TROUBLE_RATION_DELAY = (if v.toNat.testBit 0 then 0 else s.blk.get R.PWR_TROUBLE_RATION_DELAY % 2) ∧
      t.blk.get R.PWR_TROUBLE_MODE_REFUSED = (if v.toNat.testBit 1 then 0 else s.blk.get R.PWR_TROUBLE_MODE_REFUSED % 2) ∧
      t.blk.get R.PWR_TROUBLE_OVER_TEMP = (if v.toNat.testBit 2 then 0 else s.blk.get R.PWR_TROUBLE_OVER_TEMP % 2) ∧
      t.blk.get R.PWR_TROUBLE_VAUX_OVERLOAD = (if v.toNat.testBit 3 then 0 else s.blk.get R.PWR_TROUBLE_VAUX_OVERLOAD % 2) ∧
      t.blk.get R.PWR_TROUBLE_WDT_RESET = (if v.toNat.testBit 4 then 0 else s.blk.get R.PWR_TROUBLE_WDT_RESET % 2) ∧
      s.Keeps t [R.PWR_TROUBLE_RATION_DELAY, R.PWR_TROUBLE_MODE_REFUSED, R.PWR_TROUBLE_OVER_TEMP, R.PWR_TROUBLE_VAUX_OVERLOAD,
        R.PWR_TROUBLE_WDT_RESET] [] := by
  refine ⟨_, exec_registerWrite_plain s p _ v plainWord_pwrTrouble hr (by simp [Block.writeOk, writeOkPwr]), ?_, ?_, ?_, ?_, ?_,
    State.keeps_run s _ _ _ (Block.keeps_storeWord _ 0x10004 _ _ _ (by rw [wordFields_pwrTrouble]; decide))⟩
  · exact (State.run_get s _ _ (by decide)).trans (pwrTrouble_get _ _ 0 _ ⟨0x10004, [], 0, 1, .w1c, 0, .w, false⟩
      (by rw [wordFields_pwrTrouble]; decide) rfl rfl rfl rfl (by decide))
  · exact (State.run_get s _ _ (by decide)).trans (pwrTrouble_get _ _ 1 _ ⟨0x10004, [], 1, 1, .w1c, 0, .w, false⟩
      (by rw [wordFields_pwrTrouble]; decide) rfl rfl rfl rfl (by decide))
  · exact (State.run_get s _ _ (by decide)).trans (pwrTrouble_get _ _ 2 _ ⟨0x10004, [], 2, 1, .w1c, 0, .a, false⟩
      (by rw [wordFields_pwrTrouble]; decide) rfl rfl rfl rfl (by decide))
  · exact (State.run_get s _ _ (by decide)).trans (pwrTrouble_get _ _ 3 _ ⟨0x10004, [], 3, 1, .w1c, 0, .a, false⟩
      (by rw [wordFields_pwrTrouble]; decide) rfl rfl rfl rfl (by decide))
  · exact (State.run_get s _ _ (by decide)).trans (pwrTrouble_get _ _ 4 _ ⟨0x10004, [], 4, 1, .w1c, 0, .a, false⟩
      (by rw [wordFields_pwrTrouble]; decide) rfl rfl rfl rfl (by decide))

/-- PWR_WDT_TIMEOUT takes 10 to 60000 ms and refuses any other value (R453, R460). -/
theorem Block.writeOk_wdtTimeout (b : Block) (v : Nat) :
    b.writeOk 0x10014 v = decide (10 ≤ v % 65536 ∧ v % 65536 ≤ 60000) := by
  simp [Block.writeOk, writeOkPwr, between', bits]

theorem registerWrite_wdtTimeout (s : State) (p : Path) (v : Word) (hr : s.blk.reachable = true) (hlo : 10 ≤ v.toNat % 65536)
    (hhi : v.toNat % 65536 ≤ 60000) :
    ∃ t, exec (.registerWrite p 0x10014 v) s = .next t ∧ t.blk.get R.PWR_WDT_TIMEOUT = v.toNat % 65536 ∧
      s.Keeps t [R.PWR_WDT_TIMEOUT] [] :=
  ⟨_, exec_registerWrite_plain s p _ v plainWord_wdtTimeout hr
      ((Block.writeOk_wdtTimeout _ _).trans (decide_eq_true ⟨hlo, hhi⟩)),
    (State.run_get s _ _ (by decide)).trans (Block.storeWord_get_rw _ 0x10014 _ _ _ wordFields_wdtTimeout rfl rfl rfl (by decide)),
    State.keeps_run s _ _ _ (Block.keeps_storeWord _ 0x10014 _ _ _ (by rw [wordFields_wdtTimeout]; decide))⟩

theorem registerWrite_wdtTimeout_refused (s : State) (p : Path) (v : Word)
    (h : v.toNat % 65536 < 10 ∨ 60000 < v.toNat % 65536) :
    ∃ t, exec (.registerWrite p 0x10014 v) s = .next t ∧ s.Keeps t [] [] := by
  cases hr : s.blk.reachable with
  | false => exact registerWrite_unreachable s p _ v hr
  | true =>
    have hok : s.blk.writeOk 0x10014 v.toNat = false :=
      (Block.writeOk_wdtTimeout _ _).trans (decide_eq_false (by omega))
    have e : busWrite p 0x10014 v.toNat s.blk s.otp = (s.blk, s.otp) := by
      rw [plainWord_wdtTimeout.busWrite_eq, Block.listedWrite_refused _ _ _ _ hok]
      simp [reservedCode]
    exact ⟨_, exec_registerWrite_eq s p 0x10014 v _ hr e, State.keeps_run s _ _ _ (Block.Keeps.refl _ _ _)⟩

/-- A read-only word takes nothing (R8). -/
theorem registerWrite_summary (s : State) (p : Path) (v : Word) (hr : s.blk.reachable = true) :
    ∃ t, exec (.registerWrite p 0x20000 v) s = .next t ∧ s.Keeps t [] [] :=
  ⟨_, exec_registerWrite_plain s p _ v plainWord_summary hr (by simp [Block.writeOk, writeOkPwr]),
    State.keeps_run s _ _ _ (Block.keeps_storeWord _ 0x20000 _ _ _ (by rw [wordFields_summary]; decide))⟩

/-- Nanoseconds of a second or more are a reserved encoding: refused and counted (R5, R209). -/
theorem registerWrite_snapT_reserved (s : State) (p : Path) (v : Word) (hr : s.blk.reachable = true) (h : 1000000000 ≤ v.toNat) :
    ∃ t, exec (.registerWrite p 0x20048 v) s = .next t ∧
      t.blk.get R.TRB_UNDEF_COUNT = (s.blk.get R.TRB_UNDEF_COUNT + 1) % 2 ^ R.TRB_UNDEF_COUNT.width ∧
      s.Keeps t [R.TRB_UNDEF_COUNT] [] := by
  have hok : s.blk.writeOk 0x20048 v.toNat = false := by simp [Block.writeOk, writeOkPwr, h]
  have e : busWrite p 0x20048 v.toNat s.blk s.otp = (s.blk.undefined 0x20048, s.otp) := by
    rw [plainWord_snapT.busWrite_eq, Block.listedWrite_refused _ _ _ _ hok]
    simp [reservedCode, h]
  exact ⟨_, exec_registerWrite_eq s p 0x20048 v _ hr e,
    (State.run_get s _ _ (by decide)).trans (Block.undefined_get _ 0x20048),
    State.keeps_run s _ _ _ (Block.keeps_undefined _ 0x20048 _)⟩

theorem registerWrite_table (s : State) (p : Path) (a v : Word) (hr : s.blk.reachable = true) (hm : s.blk.mode ≠ 10)
    (h4 : a.toNat % 4 = 0) (ht : tableAt a.toNat = true) :
    ∃ t, exec (.registerWrite p a v) s = .next t ∧
      t.blk.get R.MSH_UNDEF_COUNT = (s.blk.get R.MSH_UNDEF_COUNT + 1) % 2 ^ R.MSH_UNDEF_COUNT.width ∧
      s.Keeps t [R.MSH_UNDEF_COUNT] [] := by
  have hget := Block.undefined_get s.blk a.toNat
  have hkeeps := Block.keeps_undefined s.blk a.toNat []
  rw [ownerCounter_table _ ht] at hget hkeeps
  exact ⟨_, exec_registerWrite_eq s p a v _ hr (busWrite_table p _ _ _ _ h4 ht hm), (State.run_get s _ _ (by decide)).trans hget,
    State.keeps_run s _ _ _ hkeeps⟩

/-- A register of a gated slice is not reached (R497). -/
theorem registerWrite_gated (s : State) (p : Path) (a v : Word) (hr : s.blk.reachable = true) (h4 : a.toNat % 4 = 0)
    (hg : s.blk.gatedAt a.toNat = true) :
    ∃ t, exec (.registerWrite p a v) s = .next t ∧
      t.blk.get R.GLB_UNDEF_COUNT = (s.blk.get R.GLB_UNDEF_COUNT + 1) % 2 ^ R.GLB_UNDEF_COUNT.width ∧
      s.Keeps t [R.GLB_UNDEF_COUNT] [] :=
  ⟨_, exec_registerWrite_eq s p a v _ hr (busWrite_gated p _ _ _ _ h4 hg),
    (State.run_get s _ _ (by decide)).trans (Block.bump_get _ _), State.keeps_run s _ _ _ (Block.keeps_bump _ _ _ _ (by simp))⟩

/-! Halting and the debug windows (R28, R501, R502). -/

/-- An undefined access within slice `n` is counted by the slice's own counter (R496). -/
theorem State.run_undefined_slice (s : State) (c : Block) (a n : Nat) (h : ownerCounter a = R.SLC_UNDEF_COUNT n)
    (hc : c.get (R.SLC_UNDEF_COUNT n) = s.blk.get (R.SLC_UNDEF_COUNT n)) :
    (s.run fun _ => c.undefined a).blk.get (R.SLC_UNDEF_COUNT n) = (s.blk.get (R.SLC_UNDEF_COUNT n) + 1) % 2 ^ 64 := by
  have hget := Block.undefined_get c a
  rw [h, hc] at hget
  exact (State.run_get s _ _ (SLC_UNDEF_COUNT_ne_summary n)).trans hget

theorem Block.keeps_undefined_slice (b : Block) (a n : Nat) (ps : List Part) (h : ownerCounter a = R.SLC_UNDEF_COUNT n) :
    b.Keeps (b.undefined a) [R.SLC_UNDEF_COUNT n] ps := h ▸ b.keeps_undefined a ps

section
variable (s : State) (n : Nat) (hr : s.blk.reachable = true) (hn : n < 8) (hg : s.blk.gated n = false)
include hr hn hg

theorem clcHaltWrite_takes (k : Nat) (v : Word) (hk : k < 4) (hd : s.blk.debugAllowed n = true) :
    ∃ t, exec (.clcHaltWrite n k v) s = .next t ∧ t.blk.get (R.CLC_HALT n k) = v.toNat % 65536 ∧ s.Keeps t [R.CLC_HALT n k] [] := by
  have e : busWrite .host (haltAddr n k) v.toNat s.blk s.otp = (s.blk.set (R.CLC_HALT n k) v.toNat, s.otp) := by
    rw [busWrite_halt _ n k _ _ _ hn hk hg, Block.haltWrite, if_pos hd]
  have hkey : (R.CLC_HALT n k).key ≠ R.TRB_SUMMARY.key := by simp only [R.CLC_HALT, R.TRB_SUMMARY]; omega
  exact ⟨_, exec_clcHaltWrite_eq s n k v _ hr e, (State.run_get s _ _ hkey).trans (Block.get_set_self _ _ _),
    State.keeps_run s _ _ _ (Block.keeps_set _ _ _ _ _ (by simp))⟩

theorem clcHaltWrite_shut (k : Nat) (v : Word) (hk : k < 4) (hd : s.blk.debugAllowed n = false) :
    ∃ t, exec (.clcHaltWrite n k v) s = .next t ∧
      t.blk.get (R.SLC_UNDEF_COUNT n) = (s.blk.get (R.SLC_UNDEF_COUNT n) + 1) % 2 ^ 64 ∧ s.Keeps t [R.SLC_UNDEF_COUNT n] [] := by
  have hown := ownerCounter_haltAddr n k hn hk
  have e : busWrite .host (haltAddr n k) v.toNat s.blk s.otp = (s.blk.undefined (haltAddr n k), s.otp) := by
    rw [busWrite_halt _ n k _ _ _ hn hk hg, Block.haltWrite, if_neg (by simp [hd])]
  exact ⟨_, exec_clcHaltWrite_eq s n k v _ hr e, State.run_undefined_slice s _ _ n hown rfl,
    State.keeps_run s _ _ _ (Block.keeps_undefined_slice _ _ n _ hown)⟩

end

end Sys2Proof.Machine
end

section
/-! The debug windows (R28, R501, R502): STEP, the data memory, and a window that is shut or whose spindle runs. -/

namespace Sys2Proof.Machine

/-! Words of a spindle, by key. -/

/-- Every word of a spindle, and no other's, belongs to it. -/
theorem dbgOf_dbgKey (q r w : Nat) (hw : w < 2 ^ 20) : dbgOf q (dbgKey r w) = (r == q) := by
  rw [dbgOf, dbgKey, show (r * 2 ^ 20 + w) / 2 ^ 20 = r by omega]

/-- What is left of the words that debug windows know when those of one spindle go. -/
theorem Tab.get_filter_dbgOf (t : Tab Nat) (q r w : Nat) (hw : w < 2 ^ 20) :
    Tab.get 0 (t.filter fun e => !dbgOf q e.1) (dbgKey r w) = if r = q then 0 else Tab.get 0 t (dbgKey r w) := by
  rw [Tab.get_filter_keys (fun k => !dbgOf q k), dbgOf_dbgKey q r w hw]
  by_cases h : r = q <;> simp [h]

/-! STEP (R502). -/

theorem Block.keeps_debugStep (b : Block) (n q : Nat) : b.Keeps (b.debugStep n q) [] [.slices] :=
  Block.keeps_modSlice b n _ _ _ (by simp)

theorem Block.debugStep_dbg (b : Block) (n q r w : Nat) (hw : w < 2 ^ 20) :
    Tab.get 0 ((b.debugStep n q).sliceState n).dbg (dbgKey r w) =
      if r = q then 0 else Tab.get 0 (b.sliceState n).dbg (dbgKey r w) := by
  rw [Block.debugStep, Block.sliceState_modSlice_self, Tab.get_filter_dbgOf _ q r w hw]

theorem Block.debugStep_loaded (b : Block) (n q : Nat) : q ∉ ((b.debugStep n q).sliceState n).loaded := by
  simp [Block.debugStep]

theorem Block.debugStep_atEntry (b : Block) (n q : Nat) : q ∉ ((b.debugStep n q).sliceState n).atEntry := by
  simp [Block.debugStep]

theorem Block.debugStep_sharedLoaded (b : Block) (n q : Nat) : ((b.debugStep n q).sliceState n).sharedLoaded = false := by
  simp [Block.debugStep]

/-! DBG_MEM_DATA (R502): offset 0x404 of a window; DBG_MEM_ADDR names the word. -/

theorem DBG_MEM_ADDR_ne_summary (n q : Nat) : (R.DBG_MEM_ADDR n q).key ≠ R.TRB_SUMMARY.key := by
  simp only [R.DBG_MEM_ADDR, R.TRB_SUMMARY]; omega

theorem Block.keeps_dbgAdvance (b : Block) (n q : Nat) (ps : List Part) : b.Keeps (b.dbgAdvance n q) [R.DBG_MEM_ADDR n q] ps :=
  Block.keeps_set b _ _ _ ps (by simp)

theorem Block.dbgAdvance_get (b : Block) (n q : Nat) :
    (b.dbgAdvance n q).get (R.DBG_MEM_ADDR n q) = (b.get (R.DBG_MEM_ADDR n q) / 4 * 4 + 4) % 65536 := by
  rw [Block.dbgAdvance, Block.get_set_self]
  exact Nat.mod_mod _ _

theorem Block.debugWrite_memData (b : Block) (n q v : Nat) :
    b.debugWrite n q 0x404 v = (b.setDbgWord n q (0x1000 + b.get (R.DBG_MEM_ADDR n q) / 4) v).dbgAdvance n q := rfl

theorem Block.debugRead_memData (b c : Block) (n q x : Nat)
    (h : b.dbgWord n q (0x1000 + b.get (R.DBG_MEM_ADDR n q) / 4) 32 = (x, c)) :
    b.debugRead n q 0x404 = (x, c.dbgAdvance n q) := by
  simp [Block.debugRead, h]

theorem Block.setDbgWord_dbg (b : Block) (n q w v : Nat) :
    Tab.get 0 ((b.setDbgWord n q w v).sliceState n).dbg (dbgKey q w) = v % 2 ^ 32 + 1 := by
  rw [Block.setDbgWord, Block.sliceState_modSlice_self]
  dsimp only
  rw [Tab.get_set_self]

/-- A halted spindle's word that a window wrote or showed reads as that. -/
theorem Block.dbgWord_known (b : Block) (n q w width x : Nat) (hh : b.dbgHalted n q = true)
    (h : Tab.get 0 (b.sliceState n).dbg (dbgKey q w) = x + 1) : b.dbgWord n q w width = (x, b) := by
  simp [Block.dbgWord, hh, h]

/-- A word of data memory that no window has touched reads as the image loaded it (R100). -/
theorem Block.dbgWord_loaded (b : Block) (n q m width : Nat) (i : Image) (hl : q ∈ (b.sliceState n).loaded)
    (hi : b.image.run = some i) (h : Tab.get 0 (b.sliceState n).dbg (dbgKey q (0x1000 + m)) = 0) :
    b.dbgWord n q (0x1000 + m) width = (leAt (i.dataOf (b.logicalOf n q)) (m * 4) 4, b) := by
  have hk : b.dbgKnown n q (0x1000 + m) = some (leAt (i.dataOf (b.logicalOf n q)) (m * 4) 4) := by
    have hc : (b.sliceState n).loaded.contains q = true := List.contains_iff_mem.2 hl
    simp only [Block.dbgKnown, Nat.le_add_right, if_true, hc, hi, Nat.add_sub_cancel_left, Nat.mul_comm 4 m]
  simp [Block.dbgWord, h, hk]

/-! The commands on a debug window of a slice that is not gated. -/

section
variable (s : State) (n q : Nat) (hn : n < 8) (hq : q ≤ 64) (hg : s.blk.gated n = false)
include hn hq hg

/-- A write through an open window acts on a halted spindle. -/
theorem busWrite_halted (p : Path) (off v : Nat) (ho : off < 0x1000) (h4 : off % 4 = 0) (hoff : debugOffset off = true)
    (hd : s.blk.debugAllowed n = true) (hheld : (s.blk.sliceState n).held = false) (hh : s.blk.dbgHalted n q = true) :
    busWrite p (debugAddr n q off) v s.blk s.otp = (s.blk.debugWrite n q off v, s.otp) := by
  rw [busWrite_debug p n q off v _ _ hn hq ho h4 hg, Block.debugAccess_open _ _ n q off _ hd hheld hq hoff, if_pos hh]

/-- A write is undefined where the window is shut or the spindle runs. -/
theorem busWrite_notHalted (p : Path) (off v : Nat) (ho : off < 0x1000) (h4 : off % 4 = 0) (hoff : debugOffset off = true)
    (hheld : (s.blk.sliceState n).held = false) (h : s.blk.debugAllowed n = false ∨ s.blk.dbgHalted n q = false) :
    busWrite p (debugAddr n q off) v s.blk s.otp = (s.blk.undefined (debugAddr n q off), s.otp) := by
  rw [busWrite_debug p n q off v _ _ hn hq ho h4 hg]
  cases hd : s.blk.debugAllowed n with
  | false => rw [Block.debugAccess_shut _ _ n q off _ hd]
  | true =>
    have hh : s.blk.dbgHalted n q = false := h.resolve_left (by simp [hd])
    rw [Block.debugAccess_open _ _ n q off _ hd hheld hq hoff, if_neg (by simp [hh])]

variable (hr : s.blk.reachable = true)
include hr

theorem debugStep_steps (hd : s.blk.debugAllowed n = true) (hheld : (s.blk.sliceState n).held = false)
    (hh : s.blk.dbgHalted n q = true) :
    ∃ t, exec (.debugStep n q) s = .next t ∧
      (∀ w, w < 2 ^ 20 → Tab.get 0 (t.blk.sliceState n).dbg (dbgKey q w) = 0) ∧ q ∉ (t.blk.sliceState n).loaded ∧
      q ∉ (t.blk.sliceState n).atEntry ∧ (t.blk.sliceState n).sharedLoaded = false ∧
      (∀ r w, r ≠ q → w < 2 ^ 20 → Tab.get 0 (t.blk.sliceState n).dbg (dbgKey r w) = Tab.get 0 (s.blk.sliceState n).dbg (dbgKey r w)) ∧
      s.Keeps t [] [.slices] := by
  have e : busWrite .host (debugAddr n q 0) 2 s.blk s.otp = (s.blk.debugStep n q, s.otp) :=
    busWrite_halted s n q hn hq hg .host 0 2 (by decide) rfl rfl hd hheld hh
  have hslice : (s.run fun _ => s.blk.debugStep n q).blk.sliceState n = (s.blk.debugStep n q).sliceState n :=
    Block.updateAlert_sliceState _ n
  refine ⟨_, exec_debugStep_eq s n q _ hr e, ?_, ?_, ?_, ?_, ?_, State.keeps_run s _ _ _ (Block.keeps_debugStep _ n q)⟩
  · intro w hw
    rw [hslice, Block.debugStep_dbg _ n q q w hw, if_pos rfl]
  · rw [hslice]; exact Block.debugStep_loaded _ n q
  · rw [hslice]; exact Block.debugStep_atEntry _ n q
  · rw [hslice]; exact Block.debugStep_sharedLoaded _ n q
  · intro r w hne hw
    rw [hslice, Block.debugStep_dbg _ n q r w hw, if_neg hne]

theorem debugStep_refused (hheld : (s.blk.sliceState n).held = false)
    (h : s.blk.debugAllowed n = false ∨ s.blk.dbgHalted n q = false) :
    ∃ t, exec (.debugStep n q) s = .next t ∧
      t.blk.get (R.SLC_UNDEF_COUNT n) = (s.blk.get (R.SLC_UNDEF_COUNT n) + 1) % 2 ^ 64 ∧ s.Keeps t [R.SLC_UNDEF_COUNT n] [] := by
  have hown := ownerCounter_debugAddr n q 0 hn hq (by decide)
  exact ⟨_, exec_debugStep_eq s n q _ hr (busWrite_notHalted s n q hn hq hg .host 0 2 (by decide) rfl rfl hheld h),
    State.run_undefined_slice s _ _ n hown rfl, State.keeps_run s _ _ _ (Block.keeps_undefined_slice _ _ n _ hown)⟩

theorem dbgMemDataAccess_writes (v : Word) (hd : s.blk.debugAllowed n = true) (hheld : (s.blk.sliceState n).held = false)
    (hh : s.blk.dbgHalted n q = true) :
    ∃ t, exec (.dbgMemDataAccess n q (some v)) s = .next t ∧
      Tab.get 0 (t.blk.sliceState n).dbg (dbgKey q (0x1000 + s.blk.get (R.DBG_MEM_ADDR n q) / 4)) = v.toNat + 1 ∧
      t.blk.get (R.DBG_MEM_ADDR n q) = (s.blk.get (R.DBG_MEM_ADDR n q) / 4 * 4 + 4) % 65536 ∧
      s.Keeps t [R.DBG_MEM_ADDR n q] [.slices] := by
  have e := busWrite_halted s n q hn hq hg .host 0x404 v.toNat (by decide) rfl rfl hd hheld hh
  rw [Block.debugWrite_memData] at e
  refine ⟨_, exec_dbgMemDataAccess_eq s n q (some v) _ hr e, ?_, ?_, State.keeps_run s _ _ _ ?_⟩
  · rw [State.run_blk, Block.updateAlert_sliceState]
    exact (Block.setDbgWord_dbg s.blk n q _ v.toNat).trans (by rw [Nat.mod_eq_of_lt v.isLt])
  · exact (State.run_get s _ _ (DBG_MEM_ADDR_ne_summary n q)).trans (Block.dbgAdvance_get _ n q)
  · exact (Block.keeps_modSlice _ n _ _ _ (by simp)).trans (Block.keeps_dbgAdvance _ n q _)

/-- A read of DBG_MEM_DATA whose word is settled: it shows the word, and DBG_MEM_ADDR moves on. -/
theorem dbgMemDataAccess_reads (x : Nat) (hd : s.blk.debugAllowed n = true) (hheld : (s.blk.sliceState n).held = false)
    (hw : s.blk.dbgWord n q (0x1000 + s.blk.get (R.DBG_MEM_ADDR n q) / 4) 32 = (x, s.blk)) :
    ∃ t, exec (.dbgMemDataAccess n q none) s = .next t ∧ t.blk.readData = x ∧
      t.blk.get (R.DBG_MEM_ADDR n q) = (s.blk.get (R.DBG_MEM_ADDR n q) / 4 * 4 + 4) % 65536 ∧
      s.Keeps t [R.DBG_MEM_ADDR n q] [.readData] := by
  have hread : s.blk.busRead s.otp .host (debugAddr n q 0x404) = (x, s.blk.dbgAdvance n q) := by
    rw [Block.busRead_debug _ _ _ n q 0x404 hn hq (by decide) rfl hg, Block.debugAccess_open _ _ n q 0x404 _ hd hheld hq rfl,
      Block.debugRead_memData _ _ n q x hw]
  have e := readAccess_eq .host _ x s.blk _ s.otp hread
  exact ⟨_, exec_dbgMemDataAccess_eq s n q none _ hr e, Block.updateAlert_readData _,
    (State.run_get s _ _ (DBG_MEM_ADDR_ne_summary n q)).trans (Block.dbgAdvance_get _ n q),
    State.keeps_run s _ _ _ ((Block.keeps_dbgAdvance _ n q _).trans (Block.keeps_readData _ _ _ _ (by simp)))⟩

theorem dbgMemDataAccess_shut (v : Option Word) (hd : s.blk.debugAllowed n = false) (hheld : (s.blk.sliceState n).held = false) :
    ∃ t, exec (.dbgMemDataAccess n q v) s = .next t ∧
      t.blk.get (R.SLC_UNDEF_COUNT n) = (s.blk.get (R.SLC_UNDEF_COUNT n) + 1) % 2 ^ 64 ∧
      (v = none → t.blk.readData = 0) ∧ s.Keeps t [R.SLC_UNDEF_COUNT n] [.readData] := by
  have hown := ownerCounter_debugAddr n q 0x404 hn hq (by decide)
  have hkeeps := Block.keeps_undefined_slice s.blk _ n [.readData] hown
  cases v with
  | some v =>
    have e := busWrite_notHalted s n q hn hq hg .host 0x404 v.toNat (by decide) rfl rfl hheld (.inl hd)
    exact ⟨_, exec_dbgMemDataAccess_eq s n q (some v) _ hr e, State.run_undefined_slice s _ _ n hown rfl, nofun,
      State.keeps_run s _ _ _ hkeeps⟩
  | none =>
    have hread : s.blk.busRead s.otp .host (debugAddr n q 0x404) = (0, s.blk.undefined (debugAddr n q 0x404)) := by
      rw [Block.busRead_debug _ _ _ n q 0x404 hn hq (by decide) rfl hg, Block.debugAccess_shut _ _ n q 0x404 _ hd]
    have e := readAccess_eq .host _ 0 s.blk _ s.otp hread
    rw [Block.undefined_readData] at e
    exact ⟨_, exec_dbgMemDataAccess_eq s n q none _ hr e, State.run_undefined_slice s _ _ n hown rfl,
      fun _ => Block.updateAlert_readData _,
      State.keeps_run s _ _ _ ((Block.keeps_readData _ _ _ _ (by simp)).trans (Block.keeps_undefined_slice _ _ n _ hown))⟩

end

/-- Settles O59: one case of a register access after another. -/
theorem registerAccesses : Obligations.RegisterAccesses := by
  unfold Obligations.RegisterAccesses
  refine ⟨?_, reservedAccess_reads_zero, reservedAccess_counts_write, reservedAccess_unreachable, registerWrite_alertMask,
    registerWrite_pwrTrouble, registerWrite_wdtTimeout, registerWrite_wdtTimeout_refused, registerWrite_summary,
    registerWrite_snapT_reserved, registerWrite_table, registerWrite_unreachable, registerWrite_gated, ?_, ?_, ?_, ?_, ?_, ?_, ?_, ?_⟩
  · intro s p f hr hf
    simp only [List.mem_cons, List.not_mem_nil, or_false] at hf
    obtain rfl | rfl | rfl := hf
    · exact counterLowRead_latches s p _ _ counterField_recordCount hr
    · exact counterLowRead_latches s p _ _ counterField_wdtResetCount hr
    · exact counterLowRead_latches s p _ _ counterField_lostCount hr
  · intro s n k v hr hn hk hg hd
    exact clcHaltWrite_takes s n hr hn hg k v hk hd
  · intro s n k v hr hn hk hg hd
    exact clcHaltWrite_shut s n hr hn hg k v hk hd
  · intro s n q hr hn hq hg hd hheld hh
    exact debugStep_steps s n q hn hq hg hr hd hheld hh
  · intro s n q hr hn hq hg hheld h
    exact debugStep_refused s n q hn hq hg hr hheld h
  · intro s n q v hr hn hq hg hd hheld hh
    exact dbgMemDataAccess_writes s n q hn hq hg hr v hd hheld hh
  · intro s n q v hr hn hq hg hd hheld hh hword
    exact dbgMemDataAccess_reads s n q hn hq hg hr v hd hheld (Block.dbgWord_known _ n q _ 32 v hh hword)
  · intro s n q i hr hn hq hg hd hheld hl hi hword
    exact dbgMemDataAccess_reads s n q hn hq hg hr _ hd hheld (Block.dbgWord_loaded _ n q _ 32 i hl hi hword)
  · intro s n q v hr hn hq hg hd hheld
    exact dbgMemDataAccess_shut s n q hn hq hg hr v hd hheld

end Sys2Proof.Machine
end

section
/-! The debug windows (R28) at any address of theirs, and the settlement of `Obligations.DebugWindowClosed`. -/

namespace Sys2Proof.Machine

/-! An address of a debug window lies in its slice, above the node's blocks and below the table window. -/

section
variable {a n q off : Nat} (h : debugAt a = some (n, q, off))
include h

theorem sliceAt_of_debugAt : sliceAt a = some n := by
  unfold debugAt at h
  split at h
  case h_1 m hm =>
    dsimp only at h
    split at h
    · obtain ⟨rfl, -⟩ := Prod.mk.inj (Option.some.inj h)
      exact hm
    · cases h
  case h_2 => cases h

theorem debugAt_bounds : 0x1000000 ≤ a ∧ a < 0x1800000 := by
  have hs := sliceAt_of_debugAt h
  unfold sliceAt at hs
  split at hs
  case isTrue hb => exact hb
  case isFalse => cases hs

theorem tableAt_of_debugAt : tableAt a = false := by
  have := debugAt_bounds h
  simp only [tableAt, decide_eq_false_iff_not]; omega

theorem ownerCounter_of_debugAt : ownerCounter a = R.SLC_UNDEF_COUNT n := by
  have hb := debugAt_bounds h
  simp only [ownerCounter, sliceAt_of_debugAt h, if_neg (show ¬ a < 0x100000 by omega)]

theorem Block.gatedAt_of_debugAt (b : Block) : b.gatedAt a = b.gated n := by
  simp only [Block.gatedAt, sliceAt_of_debugAt h]

/-- A write into a shut window is undefined (R28). -/
theorem busWrite_debugAt_shut (p : Path) (v : Nat) (b : Block) (o : Otp) (h4 : a % 4 = 0) (hg : b.gated n = false)
    (hd : b.debugAllowed n = false) : busWrite p a v b o = (b.undefined a, o) := by
  simp [busWrite, h4, Block.gatedAt_of_debugAt h, hg, tableAt_of_debugAt h, h, Block.debugAccess_shut _ _ n q off _ hd]

/-- A read from a shut window gives 0 and is undefined (R28). -/
theorem Block.busRead_debugAt_shut (b : Block) (p : Path) (o : Otp) (h4 : a % 4 = 0) (hg : b.gated n = false)
    (hd : b.debugAllowed n = false) : b.busRead o p a = (0, b.undefined a) := by
  simp [Block.busRead, h4, Block.gatedAt_of_debugAt h, hg, tableAt_of_debugAt h, h, Block.debugAccess_shut _ _ n q off _ hd]

end

/-! The conditions of R28. -/

theorem Block.debugAllowed_eq_false (b : Block) (n : Nat) (hm : b.mode ≠ 10)
    (hi : ∀ i, b.image.run = some i → i.debugSlices.testBit n = false) : b.debugAllowed n = false := by
  unfold Block.debugAllowed
  cases hrun : b.image.run with
  | none => simp [hm]
  | some i => simp [hm, hi i hrun]

theorem Block.debugAllowed_eq_true (b : Block) (n : Nat)
    (h : b.mode = 10 ∨ ∃ i, b.image.run = some i ∧ i.debugSlices.testBit n = true) : b.debugAllowed n = true := by
  unfold Block.debugAllowed
  obtain hm | ⟨i, hrun, hbit⟩ := h
  · simp [hm]
  · simp [hrun, hbit]

/-- DBG_MEM_ADDR reads as the address of the word that it names (R502). -/
theorem Block.debugRead_memAddr (b : Block) (n q : Nat) :
    b.debugRead n q 0x400 = (b.get (R.DBG_MEM_ADDR n q) / 4 * 4, b) := rfl

/-! The three cases of `Obligations.DebugWindowClosed`. -/

section
variable (s : State) (p : Path) (a : Word) (n q off : Nat) (hr : s.blk.reachable = true)
  (h : debugAt a.toNat = some (n, q, off)) (h4 : a.toNat % 4 = 0) (hg : s.blk.gated n = false)
  (hd : s.blk.debugAllowed n = false)
include hr h h4 hg hd

theorem registerWrite_debug_shut (v : Word) :
    ∃ t, exec (.registerWrite p a v) s = .next t ∧
      t.blk.get (R.SLC_UNDEF_COUNT n) = (s.blk.get (R.SLC_UNDEF_COUNT n) + 1) % 2 ^ 64 ∧ s.Keeps t [R.SLC_UNDEF_COUNT n] [] :=
  have hown := ownerCounter_of_debugAt h
  ⟨_, exec_registerWrite_eq s p a v _ hr (busWrite_debugAt_shut h p _ s.blk s.otp h4 hg hd),
    State.run_undefined_slice s _ _ n hown rfl, State.keeps_run s _ _ _ (Block.keeps_undefined_slice _ _ n _ hown)⟩

theorem counterLowRead_debug_shut :
    ∃ t, exec (.counterLowRead p a) s = .next t ∧ t.blk.readData = 0 ∧
      t.blk.get (R.SLC_UNDEF_COUNT n) = (s.blk.get (R.SLC_UNDEF_COUNT n) + 1) % 2 ^ 64 ∧
      s.Keeps t [R.SLC_UNDEF_COUNT n] [.readData] := by
  have hown := ownerCounter_of_debugAt h
  have e := readAccess_eq p _ _ s.blk _ s.otp (Block.busRead_debugAt_shut h s.blk p s.otp h4 hg hd)
  rw [Block.undefined_readData] at e
  exact ⟨_, exec_counterLowRead_eq s p a _ hr e, Block.updateAlert_readData _, State.run_undefined_slice s _ _ n hown rfl,
    State.keeps_run s _ _ _ ((Block.keeps_readData _ _ _ _ (by simp)).trans (Block.keeps_undefined_slice _ _ n _ hown))⟩

end

theorem counterLowRead_dbgMemAddr (s : State) (p : Path) (n q : Nat) (hr : s.blk.reachable = true) (hn : n < 8) (hq : q ≤ 64)
    (hg : s.blk.gated n = false) (hheld : (s.blk.sliceState n).held = false) (hd : s.blk.debugAllowed n = true) :
    ∃ t, exec (.counterLowRead p (BitVec.ofNat 32 (debugAddr n q 0x400))) s = .next t ∧
      t.blk.readData = s.blk.get (R.DBG_MEM_ADDR n q) / 4 * 4 ∧ s.Keeps t [] [.readData] := by
  have ha : (BitVec.ofNat 32 (debugAddr n q 0x400)).toNat = debugAddr n q 0x400 := by
    rw [BitVec.toNat_ofNat, Nat.mod_eq_of_lt (by rw [debugAddr_eq n q _ hn hq]; omega)]
  have hread : s.blk.busRead s.otp p (debugAddr n q 0x400) = (s.blk.get (R.DBG_MEM_ADDR n q) / 4 * 4, s.blk) := by
    rw [Block.busRead_debug _ _ p n q 0x400 hn hq (by decide) rfl hg, Block.debugAccess_open _ _ n q 0x400 _ hd hheld hq rfl,
      Block.debugRead_memAddr]
  have e := readAccess_eq p _ _ s.blk _ s.otp hread
  rw [← ha] at e
  exact ⟨_, exec_counterLowRead_eq s p _ _ hr e, Block.updateAlert_readData _,
    State.keeps_run s _ _ _ (Block.keeps_readData _ _ _ _ (by simp))⟩

/-- Settles O9: outside the conditions of R28 a write and a read are undefined; under them DBG_MEM_ADDR is read. -/
theorem debugWindowClosed : Obligations.DebugWindowClosed := by
  unfold Obligations.DebugWindowClosed
  refine ⟨?_, ?_, ?_⟩
  · intro s p a v n q off hr h h4 hg hm hi
    exact registerWrite_debug_shut s p a n q off hr h h4 hg (s.blk.debugAllowed_eq_false n hm hi) v
  · intro s p a n q off hr h h4 hg hm hi
    exact counterLowRead_debug_shut s p a n q off hr h h4 hg (s.blk.debugAllowed_eq_false n hm hi)
  · intro s p n q hr hn hq hg hheld h
    exact counterLowRead_dbgMemAddr s p n q hr hn hq hg hheld (s.blk.debugAllowed_eq_true n h)

end Sys2Proof.Machine
end

section
/-! Frames of shared operations: a change of one unit, and an operation for every element of a list. -/

namespace Sys2Proof.Machine

theorem Block.keeps_setPower (b : Block) (u : PowerUnit) (l : List Field) (ps : List Part) (h : .power ∈ ps) :
    b.Keeps (b.setPower u) l ps :=
  ⟨fun _ _ _ => rfl, fun p hp => by cases p <;> simp_all [Part.same, Block.q]⟩

theorem Block.keeps_setMesh (b : Block) (u : MeshUnit) (l : List Field) (ps : List Part) (h : .mesh ∈ ps) :
    b.Keeps (b.setMesh u) l ps :=
  ⟨fun _ _ _ => rfl, fun p hp => by cases p <;> simp_all [Part.same, Block.q]⟩

theorem Block.keeps_time (b : Block) (u : TimeUnit) (l : List Field) (ps : List Part) (h : .time ∈ ps) :
    b.Keeps { b with time := u } l ps :=
  ⟨fun _ _ _ => rfl, fun p hp => by cases p <;> simp_all [Part.same, Block.q]⟩

theorem Block.keeps_spur (b : Block) (u : SpurUnit) (l : List Field) (ps : List Part) (h : .spur ∈ ps) :
    b.Keeps { b with spur := u } l ps :=
  ⟨fun _ _ _ => rfl, fun p hp => by cases p <;> simp_all [Part.same, Block.q]⟩

theorem Block.keeps_front (b : Block) (u : FrontUnit) (l : List Field) (ps : List Part) (h : .front ∈ ps) :
    b.Keeps { b with front := u } l ps :=
  ⟨fun _ _ _ => rfl, fun p hp => by cases p <;> simp_all [Part.same, Block.q]⟩

theorem Block.keeps_trouble (b : Block) (u : TroubleUnit) (l : List Field) (ps : List Part) (h : .trouble ∈ ps) :
    b.Keeps { b with trouble := u } l ps :=
  ⟨fun _ _ _ => rfl, fun p hp => by cases p <;> simp_all [Part.same, Block.q]⟩

theorem Block.keeps_truing (b : Block) (u : TruUnit) (l : List Field) (ps : List Part) (h : .truing ∈ ps) :
    b.Keeps { b with truing := u } l ps :=
  ⟨fun _ _ _ => rfl, fun p hp => by cases p <;> simp_all [Part.same, Block.q]⟩

theorem Block.keeps_freeCtr (b : Block) (u : Nat) (l : List Field) (ps : List Part) (h : .freeCtr ∈ ps) :
    b.Keeps { b with freeCtr := u } l ps :=
  ⟨fun _ _ _ => rfl, fun p hp => by cases p <;> simp_all [Part.same, Block.q]⟩

theorem Block.keeps_pins (b : Block) (u : Tab Level) (l : List Field) (ps : List Part) (h : .modl ∈ ps) :
    b.Keeps { b with modl := { b.modl with pins := u } } l ps :=
  ⟨fun _ _ _ => rfl, fun p hp => by cases p <;> simp_all [Part.same, Block.q]⟩

/-- A step of a longer frame: its fields and parts are among those of the whole. -/
theorem Block.Keeps.widen {b c : Block} {l : List Field} {ps : List Part} (h : b.Keeps c l ps) (l' : List Field)
    (ps' : List Part) (hl : l ⊆ l') (hp : ps ⊆ ps') : b.Keeps c l' ps' :=
  h.mono (fun _ m => List.mem_map_of_mem (hl m)) fun _ m => hp m

theorem Block.keeps_forEach {α : Type} (b : Block) (xs : List α) (f : Block → α → Block) (l : List Field) (ps : List Part)
    (h : ∀ (c : Block) (x : α), x ∈ xs → c.Keeps (f c x) l ps) : b.Keeps (b.forEach xs f) l ps := by
  unfold Block.forEach
  induction xs generalizing b with
  | nil => exact Block.Keeps.refl b l ps
  | cons x xs ih =>
    exact (h b x (by simp)).trans (ih (f b x) fun c y hy => h c y (List.mem_cons_of_mem x hy))

theorem Block.keeps_ite {b c d : Block} {l : List Field} {ps : List Part} {k : Prop} [Decidable k] (hc : b.Keeps c l ps)
    (hd : b.Keeps d l ps) : b.Keeps (if k then c else d) l ps := by
  split
  · exact hc
  · exact hd

theorem Block.keeps_when {b c : Block} {l : List Field} {ps : List Part} {k : Prop} [Decidable k] (h : b.Keeps c l ps) :
    b.Keeps (if k then c else b) l ps := Block.keeps_ite h (Block.Keeps.refl b l ps)

/-- A sticky field of one bit is 1 after `stick`. -/
theorem Block.stick_get_one (b : Block) (f : Field) (hw : f.width = 1) (hr : f.key ∉ recordFields.map Field.key)
    (hs : f.key ≠ R.TRB_SUMMARY.key) : (b.stick f).get f = 1 := by
  have hbit : (b.stick f).bit f 0 = true := Block.stick_bit b f 0 (by omega) hr hs
  have hlt : (b.stick f).get f < 2 ^ f.width := Block.get_lt _ f
  rw [hw] at hlt
  simp only [Block.bit, Nat.testBit_zero, decide_eq_true_eq] at hbit
  omega

end Sys2Proof.Machine
end

section
/-! The tick and the grid (R32, R34, R35, R45–R47, R443): the tick of M1, the anchor that opens a half-cycle, the step of the tick
grid, and the settlement of `Obligations.TickAndGrid`. -/

namespace Sys2Proof.Machine

/-! The tick of M1 (R32, R34, R443). -/

theorem Block.keeps_advanceTick (b : Block) : b.Keeps b.advanceTick [R.GLB_TICK, R.GLB_TICK_ADJ_COUNT] [.time] := by
  have hadj : b.Keeps (if b.tickClocks = 4096 then b else b.bump R.GLB_TICK_ADJ_COUNT) [R.GLB_TICK, R.GLB_TICK_ADJ_COUNT]
      [.time] := Block.keeps_ite (Block.Keeps.refl b _ _) (Block.keeps_bump b _ _ _ (by decide))
  exact (hadj.trans (Block.keeps_set _ R.GLB_TICK _ _ _ (by decide))).trans (Block.keeps_time _ _ _ _ (by simp))

theorem Block.advanceTick_tick (b : Block) : b.advanceTick.tick = (b.tick + 1) % 2 ^ 64 := by
  have htick : (if b.tickClocks = 4096 then b else b.bump R.GLB_TICK_ADJ_COUNT).tick = b.tick := by
    split
    · rfl
    · exact Block.get_set_ne b _ _ _ (by decide)
  exact (Block.get_set_self _ R.GLB_TICK _).trans (by rw [htick]; rfl)

theorem Block.advanceTick_scale (b : Block) : b.advanceTick.time.scale = b.time.scale + b.tickClocks * b.clock := by
  have htime : (if b.tickClocks = 4096 then b else b.bump R.GLB_TICK_ADJ_COUNT).time = b.time := by
    split <;> rfl
  exact congrArg (fun u => u.scale + b.tickClocks * b.clock) htime

theorem Block.advanceTick_mode (b : Block) : b.advanceTick.mode = b.mode :=
  b.keeps_advanceTick.1 R.PWR_MODE_MODE (by decide) (by decide)

theorem Block.advanceTick_power (b : Block) : b.advanceTick.power = b.power := b.keeps_advanceTick.2 .power (by decide)

/-- In M1 a tick runs the counter and the time scale alone, and forgets the reset of the tick before (R443, R456). -/
theorem Block.tickRow_m1 (b : Block) (o : TickObs) (h : b.mode = 1) :
    b.tickRow o = b.advanceTick.setPower { b.power with resetNow := 0 } := by
  have hm : (b.advanceTick.setPower { b.advanceTick.power with resetNow := 0 }).mode = 1 := by
    rw [← h]; exact b.advanceTick_mode
  unfold Block.tickRow
  rw [if_neg (by omega), ← b.advanceTick_power]
  exact if_pos hm

theorem tick_m1 (s : State) (o : TickObs) (h : s.blk.mode = 1) :
    ∃ t, exec (.tick o) s = .next t ∧ t.blk.tick = (s.blk.tick + 1) % 2 ^ 64 ∧
      t.blk.time.scale = s.blk.time.scale + s.blk.tickClocks * s.blk.clock ∧
      t.blk.power = { s.blk.power with resetNow := 0 } ∧ s.Keeps t [R.GLB_TICK, R.GLB_TICK_ADJ_COUNT] [.time, .power] := by
  refine ⟨s.run fun b => b.tickRow o, rfl, ?_, ?_, ?_, State.keeps_run s _ _ _ ?_⟩
  · exact (State.run_get s _ R.GLB_TICK (by decide)).trans (by rw [Block.tickRow_m1 _ o h]; exact s.blk.advanceTick_tick)
  · rw [State.run_blk, Block.updateAlert_time, Block.tickRow_m1 _ o h]; exact s.blk.advanceTick_scale
  · rw [State.run_blk, Block.updateAlert_power, Block.tickRow_m1 _ o h, Block.setPower_power]
  · rw [Block.tickRow_m1 _ o h]
    exact (s.blk.keeps_advanceTick.widen _ _ (by simp) (by simp)).trans
      (Block.keeps_setPower _ _ _ _ (by simp))

/-! The anchor (R45, R46): the half-cycle that begins, without values for a next period. -/

theorem Block.nextHalf_continues (b : Block) (g : GridVals) (hcur : b.grid.cur = some g) (hnext : b.grid.next = none) :
    b.nextHalf g = ((b.setGrid { b.grid with half := b.grid.half + 1 }).setAnchors g (b.grid.half + 1)).showGrid := by
  simp [Block.nextHalf, hcur, hnext]

theorem Block.halfCycleAnchor_due (b : Block) (g : GridVals) (h3 : 3 ≤ b.mode) (h9 : b.mode ≠ 9) (h11 : b.mode ≠ 11)
    (hcur : b.grid.cur = some g) (hdue : b.anchorDue = true) : b.halfCycleAnchor = b.nextHalf g := by
  simp [Block.halfCycleAnchor, hcur, hdue, h9, h11, Nat.not_lt.2 h3]

theorem Block.showGrid_grid (b : Block) : b.showGrid.grid = b.grid := by
  unfold Block.showGrid
  split
  · rfl
  · simp [Block.showNppGrid, Block.setFlag_eq, Block.showLength]

theorem Block.showGrid_half (b : Block) (g : GridVals) (hcur : b.grid.cur = some g) :
    b.showGrid.get R.GLB_GRID_HALF = b.grid.half % 2 := by
  simp only [Block.showGrid, hcur, Block.showNppGrid, Block.setFlag_eq, Block.showLength]
  rw [Block.get_set_ne _ _ _ _ (by decide), Block.get_set_ne _ _ _ _ (by decide), Block.get_set_ne _ _ _ _ (by decide),
    Block.get_set_self]
  exact Nat.mod_mod _ _

theorem Block.showGrid_rev (b : Block) (g : GridVals) (hcur : b.grid.cur = some g) :
    b.showGrid.get R.GLB_REV = g.revAt b.grid.half := by
  simp only [Block.showGrid, hcur, Block.showNppGrid, Block.setFlag_eq, Block.showLength]
  rw [Block.get_set_ne _ _ _ _ (by decide), Block.get_set_ne _ _ _ _ (by decide), Block.get_set_ne _ _ _ _ (by decide),
    Block.get_set_ne _ _ _ _ (by decide), Block.get_set_self]
  exact Nat.mod_mod _ _

/-! What ends with a half-cycle, and what it may change. -/

theorem Block.keeps_noteRuns (b : Block) : b.Keeps b.noteRuns [] [.mac] :=
  Block.keeps_forEach b _ _ _ _ fun c _ _ => Block.keeps_setMac c _ _ _ (by simp)

/-- The bits that show the frozen AGCs of Band H (R148). -/
def frozenHFields : List Field := [0, 1, 2, 3].map R.LFE_STAT_AGC_FROZEN_H

theorem Block.keeps_releaseAgc_bandH (b : Block) : b.Keeps (b.releaseAgc 0 [0, 1, 2, 3]) frozenHFields [] :=
  Block.keeps_forEach b _ _ _ _ fun c p hp => Block.keeps_set c (R.LFE_STAT_AGC_FROZEN_H p) 0 _ _
    (List.mem_map_of_mem (List.mem_map_of_mem (List.mem_filter.1 hp).1))

theorem Block.keeps_collectEnd (b : Block) (wasIn : Bool) (half slot : Nat) :
    b.Keeps (b.collectEnd wasIn half slot) frozenHFields [.phy] := by
  exact Block.keeps_when ((Block.keeps_phy b _ _ _ (by simp)).trans
    ((Block.keeps_releaseAgc_bandH _).widen _ _ (List.Subset.refl _) (by simp)))

/-- The fields that show a sweep (R312). -/
def sweepFields : List Field := [R.MSH_SWEEP_SWEEP_ID, R.MSH_SWEEP_REV, R.MSH_SWEEP_STATE, R.MSH_SWEEP_CTRL_START]

theorem Block.keeps_set_sweep (b : Block) (f : Field) (v : Nat) (h : f ∈ sweepFields) : b.Keeps (b.set f v) sweepFields [.mesh] :=
  Block.keeps_set b f v _ _ (List.mem_map_of_mem h)

theorem Block.keeps_noteSuppressed (b : Block) : b.Keeps b.noteSuppressed sweepFields [.mesh] :=
  Block.keeps_when (Block.keeps_setMesh b _ _ _ (by simp))

theorem Block.keeps_rollSweep (b : Block) : b.Keeps b.rollSweep sweepFields [.mesh] := by
  unfold Block.rollSweep
  split
  · exact (((b.keeps_set_sweep _ _ (by decide)).trans (Block.keeps_set_sweep _ _ _ (by decide))).trans
      (Block.keeps_set_sweep _ _ _ (by decide))).trans (Block.keeps_setMesh _ _ _ _ (by simp))
  · exact Block.Keeps.refl b _ _

/-- A window of a running sweep has ended (R312, R315). -/
def Block.sweepWindowEnd (b : Block) : Block :=
  let b := b.setMesh { b.mesh with window := b.mesh.window + 1 }
  if b.mesh.nextSweep.isSome then b.rollSweep
  else if b.mesh.sweepWindows ≤ b.mesh.window then (b.set R.MSH_SWEEP_STATE 3).set R.MSH_SWEEP_CTRL_START 0
  else b

theorem Block.keeps_sweepWindowEnd (b : Block) : b.Keeps b.sweepWindowEnd sweepFields [.mesh] := by
  have hstop (c : Block) : c.Keeps ((c.set R.MSH_SWEEP_STATE 3).set R.MSH_SWEEP_CTRL_START 0) sweepFields [.mesh] :=
    (c.keeps_set_sweep _ _ (by decide)).trans (Block.keeps_set_sweep _ _ _ (by decide))
  exact (b.keeps_setMesh _ sweepFields _ (by simp)).trans (Block.keeps_ite (Block.keeps_rollSweep _) (Block.keeps_when (hstop _)))

/-- The sweep follows the grid in three steps: the window's suppression, the window's end, the start (R312, R315). -/
theorem Block.keeps_sweepTick (b : Block) (wasIn : Bool) (half : Nat) : b.Keeps (b.sweepTick wasIn half) sweepFields [.mesh] := by
  have hnote : b.Keeps (if wasIn then b.noteSuppressed else b) sweepFields [.mesh] := Block.keeps_when b.keeps_noteSuppressed
  exact Block.keeps_ite (Block.Keeps.refl b _ _) ((hnote.trans (Block.keeps_when (Block.keeps_sweepWindowEnd _))).trans
    (Block.keeps_when (Block.keeps_set_sweep _ _ _ (by decide))))

theorem Block.keeps_countHalf (b : Block) : b.Keeps b.countHalf [] [.phy, .mac, .spur] := by
  have hcount (u : PhyUnit) (m : MacUnit) : b.Keeps { b with phy := u, mac := m } [] [.phy, .mac, .spur] :=
    (Block.keeps_phy b u _ _ (by simp)).trans (Block.keeps_setMac { b with phy := u } m _ _ (by simp))
  exact (hcount _ _).trans (Block.keeps_when (Block.keeps_spur _ _ _ _ (by simp)))

/-- The idle floors of the ports (R198, R208). -/
def floorFields : List Field := [0, 1, 2, 3].map R.PHY_FLOOR_H ++ [0, 1, 2, 3].map R.PHY_FLOOR_L

theorem Block.keeps_openRound (b : Block) (x : Rat) (l : List Field) (ps : List Part) (h : .freeCtr ∈ ps) :
    b.Keeps (b.openRound x).2 l ps := by
  unfold Block.openRound
  split
  · exact Block.Keeps.refl b _ _
  · exact Block.keeps_freeCtr b _ _ _ h

theorem Block.keeps_idleFloor (b : Block) (band p : Nat) (done : Bool) (hp : p ∈ [0, 1, 2, 3]) :
    b.Keeps (b.idleFloor band p done) floorFields [.front, .phy, .freeCtr] := by
  have hshow (c : Block) (v : Int) : c.Keeps (c.ssat (if band = 0 then R.PHY_FLOOR_H p else R.PHY_FLOOR_L p) v) floorFields
      [.front, .phy, .freeCtr] := by
    refine Block.keeps_set c _ _ _ _ (List.mem_map_of_mem ?_)
    split
    · exact List.mem_append_left _ (List.mem_map_of_mem hp)
    · exact List.mem_append_right _ (List.mem_map_of_mem hp)
  have hchain (f : Chain → Chain) : b.Keeps (b.modChain band p f) floorFields [.front, .phy, .freeCtr] :=
    Block.keeps_front b _ _ _ (by simp)
  exact Block.keeps_ite (Block.Keeps.refl b _ _) ((hchain _).trans (Block.keeps_ite (Block.Keeps.refl _ _ _)
    (((Block.keeps_phy _ _ _ _ (by simp)).trans (Block.keeps_openRound _ _ _ _ (by simp))).trans
      (hshow _ _))))

/-- What an anchor does beside the half-cycle's own registers. -/
theorem Block.keeps_anchorRow (b : Block) :
    b.halfCycleAnchor.Keeps b.anchorRow (frozenHFields ++ sweepFields ++ floorFields)
      [.phy, .mac, .mesh, .spur, .front, .freeCtr] := by
  have hruns (c : Block) := c.keeps_noteRuns.widen (frozenHFields ++ sweepFields ++ floorFields)
    [.phy, .mac, .mesh, .spur, .front, .freeCtr] (by simp) (by simp)
  have hcollect (c : Block) (w h k) := (c.keeps_collectEnd w h k).widen (frozenHFields ++ sweepFields ++ floorFields)
    [.phy, .mac, .mesh, .spur, .front, .freeCtr] (by simp) (by simp)
  have hsweep (c : Block) (w h) := (c.keeps_sweepTick w h).widen (frozenHFields ++ sweepFields ++ floorFields)
    [.phy, .mac, .mesh, .spur, .front, .freeCtr] (by simp) (by simp)
  have hcount (c : Block) := c.keeps_countHalf.widen (frozenHFields ++ sweepFields ++ floorFields)
    [.phy, .mac, .mesh, .spur, .front, .freeCtr] (by simp) (by simp)
  have hfloor (c : Block) (band p d hp) := (c.keeps_idleFloor band p d hp).widen (frozenHFields ++ sweepFields ++ floorFields)
    [.phy, .mac, .mesh, .spur, .front, .freeCtr] (by simp) (by simp)
  exact ((((hruns _).trans (hcollect _ _ _ _)).trans (hsweep _ _ _)).trans (hcount _)).trans
    (Block.keeps_forEach _ _ _ _ _ fun c p hp => (hfloor c 0 p _ hp).trans (hfloor _ 1 p _ hp))

theorem halfCycleAnchor_continues (s : State) (g : GridVals) (h3 : 3 ≤ s.blk.mode) (h9 : s.blk.mode ≠ 9) (h11 : s.blk.mode ≠ 11)
    (hcur : s.blk.grid.cur = some g) (hnext : s.blk.grid.next = none) (hdue : s.blk.anchorDue = true) :
    ∃ t, exec .halfCycleAnchor s = .next t ∧ t.blk.grid.half = s.blk.grid.half + 1 ∧
      t.blk.grid.anchor = g.anchor (s.blk.grid.half + 1) ∧ t.blk.get R.GLB_GRID_HALF = (s.blk.grid.half + 1) % 2 ∧
      t.blk.get R.GLB_REV = (g.rev + (s.blk.grid.half + 1) / 2) % 2 ^ 32 ∧ t.otp = s.otp ∧ t.pending = s.pending := by
  have hrun : s.blk.running = true := by simp only [Block.running, decide_eq_true_eq]; omega
  have ehalf := (s.blk.halfCycleAnchor_due g h3 h9 h11 hcur hdue).trans (s.blk.nextHalf_continues g hcur hnext)
  generalize ec : (s.blk.setGrid { s.blk.grid with half := s.blk.grid.half + 1 }).setAnchors g (s.blk.grid.half + 1) = c at ehalf
  have hccur : c.grid.cur = some g := by rw [← ec]; exact hcur
  have hchalf : c.grid.half = s.blk.grid.half + 1 := by rw [← ec]; rfl
  have hcanchor : c.grid.anchor = g.anchor (s.blk.grid.half + 1) := by rw [← ec]; rfl
  obtain ⟨hget, hpart⟩ := s.blk.keeps_anchorRow
  have hgrid : s.blk.anchorRow.grid = c.grid := by
    rw [show s.blk.anchorRow.grid = s.blk.halfCycleAnchor.grid from hpart .grid (by decide), ehalf, Block.showGrid_grid]
  refine ⟨_, congrArg Host.Outcome.next (State.runOn_eq s _ _ hrun rfl), ?_, ?_, ?_, ?_, State.run_otp _ _, State.run_pending _ _⟩
  · rw [State.run_blk, Block.updateAlert_grid, hgrid, hchalf]
  · rw [State.run_blk, Block.updateAlert_grid, hgrid, hcanchor]
  · rw [State.run_get s _ _ (by decide), hget _ (by decide) (by decide), ehalf, Block.showGrid_half c g hccur, hchalf]
  · rw [State.run_get s _ _ (by decide), hget _ (by decide) (by decide), ehalf, Block.showGrid_rev c g hccur, hchalf]
    rfl

/-! The step of the tick grid (R35, R44). -/

/-- The fields that follow what a step moves: the half-cycle's length and the crossings of the phases (R44, R142). -/
def movedFields : List Field := R.GLB_GRID_N :: ([0, 1, 2].map R.SPR_ZC_NS ++ [0, 1, 2].map R.SPR_ZC_SEC)

/-- Everything that holds a tick number or a network time, moved by a step of `d` to the tick number `n`. -/
def Block.moved (b : Block) (d : Int) (n : Nat) : Block :=
  ((((b.moveTicks1 ((n : Int) - b.tick)).moveTicks2 ((n : Int) - b.tick)).moveTime d).moveGrid d).stepSpur d

theorem Block.moveGrid_get (b : Block) (d : Int) (f : Field) (h : f.key ≠ R.GLB_GRID_N.key) : (b.moveGrid d).get f = b.get f := by
  unfold Block.moveGrid
  dsimp only
  split
  · exact Block.get_set_ne _ _ _ _ h
  · rfl

theorem Block.showZc_get (b : Block) (k : Nat) (f : Field) (hns : f.key ≠ (R.SPR_ZC_NS k).key)
    (hsec : f.key ≠ (R.SPR_ZC_SEC k).key) : (b.showZc k).get f = b.get f := by
  unfold Block.showZc
  dsimp only
  split
  · rw [Block.get_set_ne _ _ _ _ hsec, Block.get_set_ne _ _ _ _ hns]
  · rfl

theorem Block.moved_get (b : Block) (d : Int) (n : Nat) (f : Field) (h : f.key ∉ movedFields.map Field.key) :
    (b.moved d n).get f = b.get f := by
  simp only [movedFields, List.map_cons, List.map_append, List.map_nil, List.mem_cons, List.mem_append, List.not_mem_nil,
    or_false, not_or] at h
  obtain ⟨hn, ⟨h0, h1, h2⟩, k0, k1, k2⟩ := h
  simp only [Block.moved, Block.stepSpur, Block.forEach, List.foldl_cons, List.foldl_nil]
  rw [Block.showZc_get _ 2 f h2 k2, Block.showZc_get _ 1 f h1 k1, Block.showZc_get _ 0 f h0 k0]
  exact Block.moveGrid_get _ d f hn

/-- The new tick number and the new time scale, on an aligned grid. -/
def Block.onGrid (b : Block) (n : Nat) : Block :=
  ((b.setScale (n * tickLen)).set R.GLB_TICK n).set R.GLB_TICK_STAT_GRID_ALIGNED 1

theorem Block.setScale_step (b : Block) (t : Nat) : (b.setScale t).time.step = none := by
  unfold Block.setScale
  dsimp only
  split <;> rfl

theorem Block.setScale_get (b : Block) (t : Nat) (f : Field) (h : f.key ≠ R.MAC_LAST_RESYNC.key) :
    (b.setScale t).get f = b.get f := by
  unfold Block.setScale
  dsimp only
  split
  · rfl
  · exact Block.get_set_ne _ _ _ _ h

theorem Block.onGrid_step (b : Block) (n : Nat) : (b.onGrid n).time.step = none := b.setScale_step _

theorem Block.onGrid_tick (b : Block) (n : Nat) : (b.onGrid n).tick = n % 2 ^ 64 :=
  (Block.get_set_ne _ _ _ _ (by decide)).trans (Block.get_set_self _ R.GLB_TICK _)

theorem Block.onGrid_aligned (b : Block) (n : Nat) : (b.onGrid n).get R.GLB_TICK_STAT_GRID_ALIGNED = 1 := Block.get_set_self _ _ _

theorem Block.onGrid_role (b : Block) (n : Nat) : (b.onGrid n).role = b.role :=
  (Block.get_set_ne _ _ _ _ (by decide)).trans ((Block.get_set_ne _ _ _ _ (by decide)).trans (b.setScale_get _ _ (by decide)))

/-- The fields that entry to ACQUIRING may change (R214, R241, R250). -/
def acquireFields : List Field :=
  [R.TIM_STAT_STATE, R.TIM_STAT_OUT_ACTIVE, R.TIM_STAT_TRACEABLE, R.TIM_PTP_STAT_CLOCK_CLASS, R.TIM_TROUBLE_LOCK_LOST] ++ recordFields

theorem Block.keeps_setTimState (b : Block) (k : Nat) : b.Keeps (b.setTimState k) acquireFields [.modl, .records] := by
  have hset (c : Block) (f : Field) (v : Nat) (h : f ∈ acquireFields) : c.Keeps (c.set f v) acquireFields [.modl, .records] :=
    Block.keeps_set c f v _ _ (List.mem_map_of_mem h)
  have hoff (c : Block) : c.Keeps c.outputsOff acquireFields [.modl, .records] :=
    (Block.keeps_pins c _ _ _ (by simp)).trans (hset _ _ _ (by decide))
  have hlost (c : Block) : c.Keeps (c.stick R.TIM_TROUBLE_LOCK_LOST) acquireFields [.modl, .records] :=
    (c.keeps_stick _ 0).widen _ _ (by decide) (by simp)
  have hshow (c : Block) : c.Keeps c.showTime acquireFields [.modl, .records] :=
    (hset c _ _ (by decide)).trans (hset _ _ _ (by decide))
  exact (((hset b _ _ (by decide)).trans (Block.keeps_ite (Block.Keeps.refl _ _ _) (hoff _))).trans
    (Block.keeps_when (hlost _))).trans (hshow _)

theorem Block.keeps_acquire (b : Block) : b.Keeps b.acquire acquireFields [.modl, .records, .time] :=
  ((b.keeps_setTimState 1).widen _ _ (List.Subset.refl _) (by simp)).trans
    (Block.keeps_time _ _ _ _ (by simp))

theorem Block.acquire_step (b : Block) : b.acquire.time.step = b.time.step := by
  have htime : (b.setTimState 1).time = b.time := (b.keeps_setTimState 1).2 .time (by decide)
  unfold Block.acquire
  rw [← htime]

/-- What a step leaves to the time unit: a node without time enters ACQUIRING, and the slot follows (R45, R215). -/
def Block.resumeAcquiring (b : Block) : Block := (if b.timState = 0 then b.acquire else b).showSlot

theorem Block.keeps_showSlot (b : Block) : b.Keeps b.showSlot [R.GLB_GRID_SLOT] [] :=
  Block.keeps_ite (Block.Keeps.refl b _ _) (Block.keeps_set b _ _ _ _ (by simp))

theorem Block.keeps_resumeAcquiring (b : Block) :
    b.Keeps b.resumeAcquiring (R.GLB_GRID_SLOT :: acquireFields) [.modl, .records, .time] :=
  (Block.keeps_when (b.keeps_acquire.widen _ _ (by simp) (List.Subset.refl _))).trans
    ((Block.keeps_showSlot _).widen _ _ (by simp) (by simp))

theorem Block.resumeAcquiring_step (b : Block) : b.resumeAcquiring.time.step = b.time.step := by
  have hslot (c : Block) : c.showSlot.time = c.time := c.keeps_showSlot.2 .time (by decide)
  unfold Block.resumeAcquiring
  rw [hslot]
  split
  · exact b.acquire_step
  · rfl

/-- The conditions of a step (R35). -/
structure Block.MayStep (b : Block) : Prop where
  allowed : b.stepAllowed = true
  idleH : b.sending 0 = false
  idleL : b.sending 1 = false
  noneDue : b.txDue = false
  boundary : b.tick % 25 = 0

/-- The network tick number of the boundary that a step of `d` leads to (R35). -/
def Block.stepTarget (b : Block) (d : Int) : Nat := 25 * ceilDiv (b.now + d).toNat (25 * tickLen)

/-- The step of a node that is not the coordinator. -/
theorem Block.gridStep_eq (b : Block) (d : Int) (hd : b.time.step = some d) (h : b.MayStep) (hr : b.role ≠ 0) :
    b.gridStep = (((b.moved d (b.stepTarget d)).onGrid (b.stepTarget d)).stick R.GLB_TICK_STAT_TICK_STEPPED).resumeAcquiring := by
  generalize ec : ((b.moved d (b.stepTarget d)).onGrid (b.stepTarget d)).stick R.GLB_TICK_STAT_TICK_STEPPED = c
  have hrole : (if c.timState = 0 then c.acquire else c).role ≠ 0 := by
    have hacq : c.Keeps (if c.timState = 0 then c.acquire else c) acquireFields [.modl, .records, .time] :=
      Block.keeps_when c.keeps_acquire
    have hstick : c.role = ((b.moved d (b.stepTarget d)).onGrid (b.stepTarget d)).role := by
      rw [← ec]; exact Block.stick_get _ _ _ 0 (by decide) (by decide) (by decide)
    rw [show Block.role _ = c.role from hacq.1 _ (by decide) (by decide), hstick, Block.onGrid_role]
    exact fun e => hr ((b.moved_get d _ R.MSH_STAT_ROLE (by decide)).symm.trans e)
  have hshut : ¬ (b.stepAllowed = false ∨ b.sending 0 = true ∨ b.sending 1 = true ∨ b.txDue = true ∨ b.tick % 25 ≠ 0) := by
    simp [h.allowed, h.idleH, h.idleL, h.noneDue, h.boundary]
  unfold Block.gridStep
  rw [hd]
  refine (if_neg hshut).trans ?_
  subst ec
  exact congrArg Block.showSlot (if_neg hrole)

theorem Block.gridStepRow_eq (b : Block) (hr : b.role ≠ 0) : b.gridStepRow = b.gridStep := by
  simp [Block.gridStepRow, hr]

/-- What is left of a field of the stepped block once the step is recorded and the time unit goes on. -/
theorem Block.resumed_get (b : Block) (f : Field) (h : f.key ≠ R.GLB_TICK_STAT_TICK_STEPPED.key)
    (hr : f.key ∉ recordFields.map Field.key) (hs : f.key ≠ R.TRB_SUMMARY.key)
    (hk : f.key ∉ (R.GLB_GRID_SLOT :: acquireFields).map Field.key) :
    (b.stick R.GLB_TICK_STAT_TICK_STEPPED).resumeAcquiring.get f = b.get f :=
  ((b.stick R.GLB_TICK_STAT_TICK_STEPPED).keeps_resumeAcquiring.1 f hk hs).trans (Block.stick_get b _ f 0 h hr hs)

theorem Block.resumed_stepped (b : Block) :
    (b.stick R.GLB_TICK_STAT_TICK_STEPPED).resumeAcquiring.get R.GLB_TICK_STAT_TICK_STEPPED = 1 :=
  ((b.stick R.GLB_TICK_STAT_TICK_STEPPED).keeps_resumeAcquiring.1 _ (by decide) (by decide)).trans
    (Block.stick_get_one b _ rfl (by decide) (by decide))

theorem Block.resumed_step (b : Block) : (b.stick R.GLB_TICK_STAT_TICK_STEPPED).resumeAcquiring.time.step = b.time.step := by
  have htime : (b.stick R.GLB_TICK_STAT_TICK_STEPPED).time = b.time := (b.keeps_stick _ 0).2 .time (by decide)
  rw [Block.resumeAcquiring_step, htime]

theorem exec_gridStep_eq (s : State) (c : Block) (hrun : s.blk.running = true) (e : s.blk.gridStepRow = c) :
    exec .gridStep s = .next (s.run fun _ => c) :=
  congrArg Host.Outcome.next (State.runOn_eq s _ c hrun e)

theorem gridStep_steps (s : State) (d : Int) (hrun : s.blk.running = true) (hr : s.blk.role ≠ 0) (hd : s.blk.time.step = some d)
    (h : s.blk.MayStep) :
    ∃ t, exec .gridStep s = .next t ∧ t.blk.tick = s.blk.stepTarget d % 2 ^ 64 ∧ t.blk.get R.GLB_TICK_STAT_GRID_ALIGNED = 1 ∧
      t.blk.get R.GLB_TICK_STAT_TICK_STEPPED = 1 ∧ t.blk.time.step = none ∧ t.otp = s.otp ∧ t.pending = s.pending := by
  have e := (s.blk.gridStepRow_eq hr).trans (s.blk.gridStep_eq d hd h hr)
  generalize s.blk.stepTarget d = n at e ⊢
  refine ⟨_, exec_gridStep_eq s _ hrun e, ?_, ?_, ?_, ?_, State.run_otp _ _, State.run_pending _ _⟩
  · rw [Block.tick, State.run_get s _ _ (by decide), Block.resumed_get _ _ (by decide) (by decide) (by decide) (by decide)]
    exact Block.onGrid_tick _ n
  · rw [State.run_get s _ _ (by decide), Block.resumed_get _ _ (by decide) (by decide) (by decide) (by decide),
      Block.onGrid_aligned]
  · rw [State.run_get s _ _ (by decide), Block.resumed_stepped]
  · rw [State.run_blk, Block.updateAlert_time, Block.resumed_step, Block.onGrid_step]

/-! Without crossings the coordinator's grid is free (R47). -/

theorem l1CrossingTimeout_frees (s : State) (hrun : s.blk.running = true) (hr : s.blk.role = 0)
    (hcur : s.blk.grid.cur.isSome = true) :
    ∃ t, exec .l1CrossingTimeout s = .next t ∧ t.blk.get R.GLB_GRID_GRID_FREE = 1 ∧ t.blk.grid.valid = 0 ∧
      s.Keeps t [R.GLB_GRID_GRID_FREE] [.grid] :=
  have e : s.blk.gridFree = (s.blk.set R.GLB_GRID_GRID_FREE 1).setGrid { s.blk.grid with valid := 0, flagFree := false } := by
    simp [Block.gridFree, hr, hcur]
  ⟨_, congrArg Host.Outcome.next (State.runOn_eq s _ _ hrun e),
    (State.run_get s _ _ (by decide)).trans (Block.get_set_self s.blk R.GLB_GRID_GRID_FREE 1),
    congrArg GridUnit.valid (Block.updateAlert_grid _),
    State.keeps_run s _ _ _ ((Block.keeps_set _ _ _ _ _ (by simp)).trans (Block.keeps_setGrid _ _ _ _ (by simp)))⟩

theorem Block.stepAllowed_of_mode (b : Block) (h : b.mode = 3 ∨ b.mode = 4 ∨ b.mode = 5) : b.stepAllowed = true := by
  obtain h | h | h := h <;> simp [Block.stepAllowed, h]

theorem Block.running_of_mode (b : Block) (h : b.mode = 3 ∨ b.mode = 4 ∨ b.mode = 5) : b.running = true := by
  simp only [Block.running, decide_eq_true_eq]; omega

/-- Settles O12: the tick of M1, the step, the anchor and the free grid one after another. -/
theorem tickAndGrid : Obligations.TickAndGrid := by
  unfold Obligations.TickAndGrid
  refine ⟨tick_m1, ?_, halfCycleAnchor_continues, l1CrossingTimeout_frees⟩
  intro s d hm hr hd hH hL hdue hblock
  exact gridStep_steps s d (s.blk.running_of_mode hm) hr hd ⟨s.blk.stepAllowed_of_mode hm, hH, hL, hdue, hblock⟩

end Sys2Proof.Machine
end

section
/-! Error windows and lasting faults (R468), and those of DDR4 devices (R469 class 4, R471). -/

namespace Sys2Proof.Machine

/-! Bits of a register field. -/

theorem Block.raise_bit (b : Block) (f : Field) (i j : Nat) (hi : i < f.width) :
    (b.raise f i).bit f j = (b.bit f j || decide (i = j)) := by
  have hmod : (b.get f ||| 2 ^ i) % 2 ^ f.width = b.get f ||| 2 ^ i :=
    Nat.mod_eq_of_lt (Nat.or_lt_two_pow (b.get_lt f) (Nat.pow_lt_pow_right (by omega) hi))
  rw [Block.bit, Block.raise_eq, Block.get_set_self, hmod, Nat.testBit_or, Nat.testBit_two_pow, Block.bit]

theorem Block.clear_bit (b : Block) (f : Field) (mask i : Nat) (hi : i < f.width) :
    (b.clear f mask).bit f i = (b.bit f i && !mask.testBit i) := by
  have hm : mask % 2 ^ f.width < 2 ^ f.width := Nat.mod_lt _ (Nat.two_pow_pos _)
  rw [Block.bit, Block.clear_eq, Block.get_set_self, Nat.testBit_mod_two_pow, Nat.testBit_and, Nat.sub_sub, Nat.add_comm 1,
    Nat.testBit_two_pow_sub_succ hm, Nat.testBit_mod_two_pow, Block.bit]
  simp [hi]

/-- A mask of bits names the bits that it is the sum of. -/
theorem testBit_sum_two_pow (l : List Nat) (h : l.Nodup) (i : Nat) : (l.map (fun k => 2 ^ k)).sum.testBit i = decide (i ∈ l) := by
  have hsum : (l.map (fun k => 2 ^ k)).sum = ∑ k ∈ l.toFinset, 2 ^ k := (List.sum_toFinset _ h).symm
  rw [Bool.eq_iff_iff, ← Nat.mem_bitIndices, hsum, ← List.mem_toFinset, Finset.toFinset_bitIndices_sum_two_pow, List.mem_toFinset,
    decide_eq_true_eq]

/-! Registers of a slice: none is among the fields of the node that a record or a lasting fault changes. -/

/-- The fields that a lasting fault changes beside its class action (R468). -/
def lastingFields : List Field :=
  [R.TRB_LASTING_COUNT, R.TRB_TROUBLE_LASTING, R.TRB_LAST_FAULT_CLASS, R.TRB_LAST_FAULT_INSTANCE, R.TRB_LAST_FAULT_TICK_TAG] ++
    recordFields

theorem recordFields_subset_lastingFields : recordFields ⊆ lastingFields := List.subset_append_right _ _

/-- The slice windows begin at bit address 0x8000000, above every register of the node (R24). -/
theorem sliceKey_not_lasting (f : Field) (h : 0x8000000 ≤ f.key) :
    f.key ∉ lastingFields.map Field.key ∧ f.key ∉ recordFields.map Field.key ∧ f.key ≠ R.TRB_SUMMARY.key := by
  have hlast : ∀ k ∈ lastingFields.map Field.key, k < 0x8000000 := by decide
  have hrec : ∀ k ∈ recordFields.map Field.key, k < 0x8000000 := by decide
  have hsum : R.TRB_SUMMARY.key < 0x8000000 := by decide
  exact ⟨fun m => absurd (hlast _ m) (by omega), fun m => absurd (hrec _ m) (by omega), by omega⟩

/-! What a frame says of a slice. -/

theorem Block.Keeps.sliceState_eq {b c : Block} {l : List Field} {ps : List Part} (h : b.Keeps c l ps) (hp : .slices ∉ ps) (n : Nat) :
    c.sliceState n = b.sliceState n :=
  congrArg (fun t : Tab SliceState => Tab.get ({} : SliceState) t n) (h.2 .slices hp : c.slices = b.slices)

theorem Block.invalidate_sliceState (b : Block) (n : Nat) :
    (b.invalidate n).sliceState (sliceOf n) =
      { b.sliceState (sliceOf n) with
        fill := if n ∈ (b.sliceState (sliceOf n)).fill then (b.sliceState (sliceOf n)).fill
          else (b.sliceState (sliceOf n)).fill ++ [n] } := by
  rw [Block.invalidate, Block.sliceState_modSlice_self]
  split <;> rfl

theorem Block.invalidate_fill (b : Block) (n : Nat) : n ∈ ((b.invalidate n).sliceState (sliceOf n)).fill := by
  rw [Block.invalidate_sliceState]
  dsimp only
  split
  · assumption
  · simp

/-! Error windows (R468). -/

/-- The error window of a class and a unit. -/
def Block.windowOf (b : Block) (cls inst : Nat) : Option FaultWindow :=
  b.trouble.windows.find? (fun w => w.cls = cls ∧ w.inst = inst)

theorem Block.closeWindow_of_none (b : Block) (cls inst : Nat) (h : b.windowOf cls inst = none) : b.closeWindow cls inst = b := by
  have hall : ∀ w ∈ b.trouble.windows, decide (¬(w.cls = cls ∧ w.inst = inst)) = true := by
    simpa [Block.windowOf, imp_iff_not_or] using h
  unfold Block.closeWindow
  rw [List.filter_eq_self.2 hall]

theorem Block.windowOf_closeWindow (b : Block) (cls inst : Nat) : (b.closeWindow cls inst).windowOf cls inst = none := by
  simp only [Block.windowOf, Block.closeWindow, List.find?_eq_none, List.mem_filter]
  rintro w ⟨-, hw⟩
  simpa [imp_iff_not_or] using hw

theorem Block.keeps_closeWindow (b : Block) (cls inst : Nat) (l : List Field) (ps : List Part) (h : .trouble ∈ ps) :
    b.Keeps (b.closeWindow cls inst) l ps := Block.keeps_trouble b _ l ps h

/-- The first error of a unit opens its window. -/
theorem Block.fault_opens (b : Block) (cls inst : Nat) (h : b.windowOf cls inst = none)
    (hw : b.trouble.clsWindow.getD cls 0 ≠ 0) (ht : 1 ≤ b.trouble.clsThresh.getD cls 0) :
    b.fault cls inst = { b with trouble := { b.trouble with windows := b.trouble.windows ++
      [⟨cls, inst, 1, b.tick, b.trouble.clsWindow.getD cls 0, b.trouble.clsThresh.getD cls 0⟩] } } := by
  have hclose := b.closeWindow_of_none cls inst h
  unfold Block.windowOf at h
  simp only [Block.fault, h]
  rw [if_neg hw, if_neg (by omega), hclose]

/-- A class without a window counts nothing. -/
theorem Block.fault_unwatched (b : Block) (cls inst : Nat) (h : b.windowOf cls inst = none)
    (hw : b.trouble.clsWindow.getD cls 0 = 0) : b.fault cls inst = b := by
  unfold Block.windowOf at h
  simp only [Block.fault, h]
  exact if_pos hw

/-! A lasting fault (R468): its class action, and what is recorded of it. -/

/-- What is recorded of a lasting fault after its class action. -/
def Block.noteLasting (b : Block) (cls inst n : Nat) : Block :=
  let b := b.count R.TRB_LASTING_COUNT R.TRB_TROUBLE_LASTING
  let b := ((b.set R.TRB_LAST_FAULT_CLASS cls).set R.TRB_LAST_FAULT_INSTANCE inst).set R.TRB_LAST_FAULT_TICK_TAG b.tickTag
  (b.event 17 0x80 inst (cls + 256 * (n % 2 ^ 24))).closeWindow cls inst

theorem Block.lasting_eq (b : Block) (cls inst n : Nat) (action : Block → Nat → Nat → Block) :
    b.lasting cls inst n action = (action b cls inst).noteLasting cls inst n := rfl

/-- An error beyond the threshold is a lasting fault. -/
theorem Block.fault_lasting (b : Block) (cls inst : Nat) (w : FaultWindow) (h : b.windowOf cls inst = some w) (hw : w.window ≠ 0)
    (ht : w.thresh < w.count + 1) : b.fault cls inst = (b.classAction cls inst).noteLasting cls inst (w.count + 1) := by
  unfold Block.windowOf at h
  simp only [Block.fault, h]
  rw [if_neg hw, if_pos ht, Block.lasting_eq]

theorem Block.keeps_noteLasting (b : Block) (cls inst n : Nat) :
    b.Keeps (b.noteLasting cls inst n) lastingFields [.trouble, .records] := by
  have hset (c : Block) (f : Field) (v : Nat) (h : f ∈ lastingFields) : c.Keeps (c.set f v) lastingFields [.trouble, .records] :=
    Block.keeps_set c f v _ _ (List.mem_map_of_mem h)
  have hcount (c : Block) : c.Keeps (c.count R.TRB_LASTING_COUNT R.TRB_TROUBLE_LASTING) lastingFields [.trouble, .records] :=
    (c.keeps_count _ _).widen _ _ (by decide) (by simp)
  have hevent (c : Block) (k : Nat) : c.Keeps (c.event 17 0x80 inst k) lastingFields [.trouble, .records] :=
    (c.keeps_event _ _ _ _ _).widen _ _ recordFields_subset_lastingFields (by simp)
  exact (((((hcount b).trans (hset _ _ _ (by decide))).trans (hset _ _ _ (by decide))).trans (hset _ _ _ (by decide))).trans
    (hevent _ _)).trans (Block.keeps_closeWindow _ _ _ _ _ (by simp))

theorem Block.noteLasting_windowOf (b : Block) (cls inst n : Nat) : (b.noteLasting cls inst n).windowOf cls inst = none :=
  Block.windowOf_closeWindow _ _ _

section
variable (b : Block) (cls inst n : Nat)

/-- A field that the fault's own record leaves has the value written before it. -/
theorem Block.noteLasting_get (f : Field) (hr : f.key ∉ recordFields.map Field.key) (hs : f.key ≠ R.TRB_SUMMARY.key)
    (ht : f.key ≠ R.TRB_LAST_FAULT_TICK_TAG.key) :
    (b.noteLasting cls inst n).get f =
      (((b.count R.TRB_LASTING_COUNT R.TRB_TROUBLE_LASTING).set R.TRB_LAST_FAULT_CLASS cls).set R.TRB_LAST_FAULT_INSTANCE inst).get f :=
  (Block.event_get _ 17 0x80 inst _ none f hr hs).trans (Block.get_set_ne _ _ _ _ ht)

theorem Block.noteLasting_class : (b.noteLasting cls inst n).get R.TRB_LAST_FAULT_CLASS = cls % 2 ^ 4 := by
  rw [Block.noteLasting_get b cls inst n _ (by decide) (by decide) (by decide), Block.get_set_ne _ _ _ _ (by decide),
    Block.get_set_self]
  rfl

theorem Block.noteLasting_inst : (b.noteLasting cls inst n).get R.TRB_LAST_FAULT_INSTANCE = inst % 2 ^ 12 := by
  rw [Block.noteLasting_get b cls inst n _ (by decide) (by decide) (by decide), Block.get_set_self]
  rfl

theorem Block.noteLasting_sticky : (b.noteLasting cls inst n).get R.TRB_TROUBLE_LASTING = 1 := by
  rw [Block.noteLasting_get b cls inst n _ (by decide) (by decide) (by decide), Block.get_set_ne _ _ _ _ (by decide),
    Block.get_set_ne _ _ _ _ (by decide), Block.count_get_sticky _ _ _ rfl (by decide) (by decide)]

theorem Block.noteLasting_count : (b.noteLasting cls inst n).get R.TRB_LASTING_COUNT =
    (b.get R.TRB_LASTING_COUNT + 1) % 2 ^ R.TRB_LASTING_COUNT.width := by
  rw [Block.noteLasting_get b cls inst n _ (by decide) (by decide) (by decide), Block.get_set_ne _ _ _ _ (by decide),
    Block.get_set_ne _ _ _ _ (by decide), Block.count_get_counter _ _ _ (by decide) (by decide) (by decide)]

theorem Block.noteLasting_sliceState (k : Nat) : (b.noteLasting cls inst n).sliceState k = b.sliceState k :=
  (b.keeps_noteLasting cls inst n).sliceState_eq (by decide) k

/-- A field of a slice is left as it was. -/
theorem Block.noteLasting_get_slice (f : Field) (h : 0x8000000 ≤ f.key) : (b.noteLasting cls inst n).get f = b.get f :=
  have hk := sliceKey_not_lasting f h
  (b.keeps_noteLasting cls inst n).1 f hk.1 hk.2.2

end

/-! Commands of a unit that runs, and of the register interface. -/

theorem State.runReg_eq (s : State) (f : Block → Block) (c : Block) (h : s.blk.reachable = true) (e : f s.blk = c) :
    s.runReg f = s.run (fun _ => c) := by
  simp [State.runReg, State.run, Block.viaReg, h, e]

@[simp] theorem State.run_sliceState (s : State) (c : Block) (n : Nat) : (s.run fun _ => c).blk.sliceState n = c.sliceState n :=
  Block.updateAlert_sliceState c n

theorem State.run_trouble (s : State) (c : Block) : (s.run fun _ => c).blk.trouble = c.trouble := Block.updateAlert_trouble c

theorem State.run_bit (s : State) (c : Block) (f : Field) (i : Nat) (h : f.key ≠ R.TRB_SUMMARY.key) :
    (s.run fun _ => c).blk.bit f i = c.bit f i := by rw [Block.bit, State.run_get s _ f h, Block.bit]

/-- A command that finds nothing to do. -/
theorem State.runOn_idle (s : State) (f : Block → Block) (h : s.blk.running = true) (e : f s.blk = s.blk) :
    ∃ t, (.next (s.runOn f) : Host.Outcome State Fault Refusal) = .next t ∧ s.Keeps t [] [] :=
  ⟨_, congrArg Host.Outcome.next (s.runOn_eq f _ h e), State.keeps_run s _ _ _ (Block.Keeps.refl _ _ _)⟩

/-! DDR4 corrections and marks (R469 class 4, R471). -/

theorem Block.keeps_markDdr (b : Block) (d : Nat) :
    b.Keeps (b.markDdr d) (R.TRB_DDR_MARKED :: R.TRB_TROUBLE_DDR_MARKED :: recordFields) [.records] :=
  (Block.keeps_set b R.TRB_DDR_MARKED _ _ _ (by simp)).trans
    ((Block.keeps_stick _ R.TRB_TROUBLE_DDR_MARKED 0).widen _ _ (List.subset_cons_self _ _) (by simp))

theorem Block.markDdr_bit (b : Block) (d e : Nat) (hd : d < 36) :
    (b.markDdr d).bit R.TRB_DDR_MARKED e = (b.bit R.TRB_DDR_MARKED e || decide (d = e)) := by
  rw [Block.bit, Block.markDdr, Block.stick_get _ _ _ _ (by decide) (by decide) (by decide), ← Block.bit,
    Block.raise_bit _ _ _ _ hd]

theorem Block.markDdr_sticky (b : Block) (d : Nat) : (b.markDdr d).get R.TRB_TROUBLE_DDR_MARKED = 1 :=
  Block.stick_get_one _ _ rfl (by decide) (by decide)

section
variable (s : State) (d : Nat) (hrun : s.blk.running = true)
include hrun

theorem ddr4Correction_opens (hd : d < 36) (hw : s.blk.windowOf 4 d = none) (h2 : 2 ≤ s.blk.trouble.clsWindow.getD 4 0)
    (h1 : 1 ≤ s.blk.trouble.clsThresh.getD 4 0) :
    ∃ t, exec (.ddr4Correction d) s = .next t ∧ t.blk.trouble = { s.blk.trouble with windows := s.blk.trouble.windows ++
      [⟨4, d, 1, s.blk.tick, s.blk.trouble.clsWindow.getD 4 0, s.blk.trouble.clsThresh.getD 4 0⟩] } ∧ s.Keeps t [] [.trouble] :=
  have e := (if_pos hd).trans (s.blk.fault_opens 4 d hw (by omega) h1)
  ⟨_, congrArg Host.Outcome.next (State.runOn_eq s _ _ hrun e), Block.updateAlert_trouble _,
    State.keeps_run s _ _ _ (Block.keeps_trouble _ _ _ _ (by simp))⟩

theorem ddr4Correction_ignored (h : 36 ≤ d ∨ s.blk.windowOf 4 d = none ∧ s.blk.trouble.clsWindow.getD 4 0 = 0) :
    ∃ t, exec (.ddr4Correction d) s = .next t ∧ s.Keeps t [] [] := by
  refine State.runOn_idle s _ hrun ?_
  by_cases hd : d < 36
  · obtain ⟨hw, h0⟩ := h.resolve_left (by omega)
    exact (if_pos hd).trans (s.blk.fault_unwatched 4 d hw h0)
  · exact if_neg hd

theorem ddr4Correction_marks (w : FaultWindow) (hd : d < 36) (hw : s.blk.windowOf 4 d = some w) (h0 : w.window ≠ 0)
    (ht : w.thresh < w.count + 1) :
    ∃ t, exec (.ddr4Correction d) s = .next t ∧ t.blk.bit R.TRB_DDR_MARKED d = true ∧
      (∀ e, e < 36 → e ≠ d → t.blk.bit R.TRB_DDR_MARKED e = s.blk.bit R.TRB_DDR_MARKED e) ∧
      t.blk.get R.TRB_TROUBLE_LASTING = 1 ∧ t.blk.get R.TRB_TROUBLE_DDR_MARKED = 1 ∧ t.blk.get R.TRB_LAST_FAULT_CLASS = 4 ∧
      t.blk.get R.TRB_LAST_FAULT_INSTANCE = d ∧ t.blk.get R.TRB_LASTING_COUNT = (s.blk.get R.TRB_LASTING_COUNT + 1) % 2 ^ R.TRB_LASTING_COUNT.width ∧
      t.blk.windowOf 4 d = none ∧
      s.Keeps t (R.TRB_DDR_MARKED :: R.TRB_TROUBLE_DDR_MARKED :: lastingFields) [.trouble, .records] := by
  have e : s.blk.ddrCorrection d = (s.blk.markDdr d).noteLasting 4 d (w.count + 1) :=
    (if_pos hd).trans (s.blk.fault_lasting 4 d w hw h0 ht)
  obtain ⟨hget, -⟩ := (s.blk.markDdr d).keeps_noteLasting 4 d (w.count + 1)
  have hbit (k : Nat) : ((s.blk.markDdr d).noteLasting 4 d (w.count + 1)).bit R.TRB_DDR_MARKED k =
      (s.blk.bit R.TRB_DDR_MARKED k || decide (d = k)) := by
    rw [Block.bit, hget _ (by decide) (by decide), ← Block.bit, Block.markDdr_bit _ _ _ hd]
  refine ⟨_, congrArg Host.Outcome.next (s.runOn_eq _ _ hrun e), ?_, ?_, ?_, ?_, ?_, ?_, ?_, ?_, State.keeps_run s _ _ _ ?_⟩
  · rw [State.run_bit _ _ _ _ (by decide), hbit]; simp
  · intro k _ hk
    rw [State.run_bit _ _ _ _ (by decide), hbit]; simp [hk.symm]
  · rw [State.run_get s _ _ (by decide), Block.noteLasting_sticky]
  · rw [State.run_get s _ _ (by decide), hget _ (by decide) (by decide), Block.markDdr_sticky]
  · rw [State.run_get s _ _ (by decide), Block.noteLasting_class]; rfl
  · rw [State.run_get s _ _ (by decide), Block.noteLasting_inst, Nat.mod_eq_of_lt (by omega)]
  · rw [State.run_get s _ _ (by decide), Block.noteLasting_count, (s.blk.keeps_markDdr d).1 _ (by decide) (by decide)]
  · rw [Block.windowOf, State.run_trouble]; exact Block.noteLasting_windowOf _ _ _ _
  · exact ((s.blk.keeps_markDdr d).widen _ _ (List.cons_subset_cons _ (List.cons_subset_cons _ recordFields_subset_lastingFields))
      (by simp)).trans ((Block.keeps_noteLasting _ _ _ _).widen _ _ (fun _ m => by simp [m]) (by simp))

end

end Sys2Proof.Machine
end

section
/-! Spindles (R15, R16, R469 class 2): retirement, a failure that no spare can hide, and errors of a spindle's memory. -/

namespace Sys2Proof.Machine

/-! Retirement and failure. -/

/-- The spare is being loaded for a spindle whose output is invalid now (R15). -/
def Block.loadSpare (b : Block) (n : Nat) : Block :=
  (b.modSlice (sliceOf n) (fun x => { x with spareLoad := some (n, b.tick) })).invalidate n

/-- A spindle that the spare cannot replace, before what its slice does about it (R16). -/
def Block.markFailed (b : Block) (n : Nat) : Block :=
  let c := ((b.stick (R.SLC_SPINDLE_FAILED (sliceOf n)) (n % 64)).invalidate n).modSlice (sliceOf n)
    (fun x => { x with failed := x.failed ++ [n % 64] })
  c.event 17 0x84 n (sliceOf n)

theorem Block.keeps_invalidate (b : Block) (n : Nat) (l : List Field) (ps : List Part) (h : .slices ∈ ps) :
    b.Keeps (b.invalidate n) l ps := Block.keeps_modSlice b _ _ l ps h

theorem Block.keeps_loadSpare (b : Block) (n : Nat) (l : List Field) (ps : List Part) (h : .slices ∈ ps) :
    b.Keeps (b.loadSpare n) l ps :=
  (Block.keeps_modSlice b _ _ l ps h).trans (Block.keeps_invalidate _ n l ps h)

theorem Block.loadSpare_sliceState (b : Block) (n : Nat) :
    ((b.loadSpare n).sliceState (sliceOf n)).spareLoad = some (n, b.tick) := by
  rw [Block.loadSpare, Block.invalidate_sliceState, Block.sliceState_modSlice_self]

theorem Block.loadSpare_fill (b : Block) (n : Nat) : n ∈ ((b.loadSpare n).sliceState (sliceOf n)).fill :=
  Block.invalidate_fill _ n

theorem SLC_SPINDLE_FAILED_key (k : Nat) : 0x8000000 ≤ (R.SLC_SPINDLE_FAILED k).key := by
  simp only [R.SLC_SPINDLE_FAILED]; omega

theorem SLC_SPARE_SPARE_USED_key (k : Nat) : 0x8000000 ≤ (R.SLC_SPARE_SPARE_USED k).key := by
  simp only [R.SLC_SPARE_SPARE_USED]; omega

theorem CLC_MEM_CORR_COUNT_key (k c : Nat) : 0x8000000 ≤ (R.CLC_MEM_CORR_COUNT k c).key := by
  simp only [R.CLC_MEM_CORR_COUNT]; omega

section
variable (b : Block) (n : Nat)

theorem Block.keeps_markFailed :
    b.Keeps (b.markFailed n) (R.SLC_SPINDLE_FAILED (sliceOf n) :: recordFields) [.slices, .records] := by
  have hevent (c : Block) : c.Keeps (c.event 17 0x84 n (sliceOf n)) (R.SLC_SPINDLE_FAILED (sliceOf n) :: recordFields)
      [.slices, .records] := (c.keeps_event _ _ _ _ _).widen _ _ (List.subset_cons_self _ _) (by simp)
  exact ((((b.keeps_stick _ _).widen _ _ (List.Subset.refl _) (by simp)).trans (Block.keeps_invalidate _ n _ _ (by simp))).trans
    (Block.keeps_modSlice _ _ _ _ _ (by simp))).trans (hevent _)

theorem Block.markFailed_sliceState :
    (b.markFailed n).sliceState (sliceOf n) =
      { (b.invalidate n).sliceState (sliceOf n) with failed := (b.sliceState (sliceOf n)).failed ++ [n % 64] } := by
  have hstick := (b.keeps_stick (R.SLC_SPINDLE_FAILED (sliceOf n)) (n % 64)).sliceState_eq (by simp) (sliceOf n)
  rw [Block.markFailed, (Block.keeps_event _ 17 0x84 n _ none).sliceState_eq (by simp), Block.sliceState_modSlice_self,
    Block.invalidate_sliceState, hstick, Block.invalidate_sliceState]

theorem Block.markFailed_bit : (b.markFailed n).bit (R.SLC_SPINDLE_FAILED (sliceOf n)) (n % 64) = true := by
  obtain ⟨-, hrec, hsum⟩ := sliceKey_not_lasting _ (SLC_SPINDLE_FAILED_key (sliceOf n))
  have hbit := Block.stick_bit b (R.SLC_SPINDLE_FAILED (sliceOf n)) (n % 64) (Nat.mod_lt _ (by decide)) hrec hsum
  rw [Block.bit, Block.markFailed, Block.event_get _ _ _ _ _ _ _ hrec hsum]
  exact hbit

theorem Block.markFailed_altStructure (k : Nat) : (b.markFailed n).altStructure k = b.altStructure k := by
  rw [Block.altStructure, show (b.markFailed n).image = b.image from (b.keeps_markFailed n).2 .image (by simp), Block.altStructure]

theorem Block.failSpindle_eq : b.failSpindle n =
    if (b.markFailed n).altStructure (sliceOf n) then (b.markFailed n).modSlice (sliceOf n) (fun x => { x with alternate := true })
    else ((b.markFailed n).modSlice (sliceOf n) (fun x => { x with stopped := true, fill := spindlesOf (sliceOf n) })).stick
      R.TRB_TROUBLE_SLICE_STOPPED := rfl

/-- The alternate allocation is applied where the image has one (R16). -/
theorem Block.failSpindle_alternate (h : b.altStructure (sliceOf n) = true) :
    b.failSpindle n = (b.markFailed n).modSlice (sliceOf n) (fun x => { x with alternate := true }) := by
  rw [Block.failSpindle_eq, Block.markFailed_altStructure, if_pos h]

/-- The slice is stopped where the image has none (R16). -/
theorem Block.failSpindle_stops (h : b.altStructure (sliceOf n) = false) :
    b.failSpindle n = ((b.markFailed n).modSlice (sliceOf n)
      (fun x => { x with stopped := true, fill := spindlesOf (sliceOf n) })).stick R.TRB_TROUBLE_SLICE_STOPPED := by
  rw [Block.failSpindle_eq, Block.markFailed_altStructure, if_neg (by simp [h])]

theorem Block.keeps_failSpindle : b.Keeps (b.failSpindle n)
    (R.SLC_SPINDLE_FAILED (sliceOf n) :: R.TRB_TROUBLE_SLICE_STOPPED :: recordFields) [.slices, .records] := by
  have hstop (c : Block) : c.Keeps (c.stick R.TRB_TROUBLE_SLICE_STOPPED)
      (R.SLC_SPINDLE_FAILED (sliceOf n) :: R.TRB_TROUBLE_SLICE_STOPPED :: recordFields) [.slices, .records] :=
    (c.keeps_stick _ 0).widen _ _ (List.subset_cons_self _ _) (by simp)
  have hmark := (b.keeps_markFailed n).widen (R.SLC_SPINDLE_FAILED (sliceOf n) :: R.TRB_TROUBLE_SLICE_STOPPED :: recordFields)
    [.slices, .records] (List.cons_subset_cons _ (List.subset_cons_self _ _)) (List.Subset.refl _)
  rw [Block.failSpindle_eq]
  exact Block.keeps_ite (hmark.trans (Block.keeps_modSlice _ _ _ _ _ (by simp)))
    ((hmark.trans (Block.keeps_modSlice _ _ _ _ _ (by simp))).trans (hstop _))

theorem Block.failSpindle_bit : (b.failSpindle n).bit (R.SLC_SPINDLE_FAILED (sliceOf n)) (n % 64) = true := by
  obtain ⟨-, hrec, hsum⟩ := sliceKey_not_lasting _ (SLC_SPINDLE_FAILED_key (sliceOf n))
  have hne : (R.SLC_SPINDLE_FAILED (sliceOf n)).key ≠ R.TRB_TROUBLE_SLICE_STOPPED.key := by
    simp only [R.SLC_SPINDLE_FAILED, R.TRB_TROUBLE_SLICE_STOPPED]; omega
  rw [Block.failSpindle_eq]
  split
  · exact b.markFailed_bit n
  · rw [Block.bit, Block.stick_get _ _ _ _ hne hrec hsum]
    exact b.markFailed_bit n

/-- The slice after a failed spindle has its alternate allocation applied. -/
theorem Block.failSpindle_sliceState_alternate (h : b.altStructure (sliceOf n) = true) :
    (b.failSpindle n).sliceState (sliceOf n) =
      { (b.invalidate n).sliceState (sliceOf n) with failed := (b.sliceState (sliceOf n)).failed ++ [n % 64], alternate := true } := by
  rw [Block.failSpindle_alternate b n h, Block.sliceState_modSlice_self, Block.markFailed_sliceState]

/-- The slice after a failed spindle is stopped. -/
theorem Block.failSpindle_sliceState_stopped (h : b.altStructure (sliceOf n) = false) :
    (b.failSpindle n).sliceState (sliceOf n) =
      { (b.invalidate n).sliceState (sliceOf n) with
        failed := (b.sliceState (sliceOf n)).failed ++ [n % 64], stopped := true, fill := spindlesOf (sliceOf n) } := by
  rw [Block.failSpindle_stops b n h, (Block.keeps_stick _ _ _).sliceState_eq (by simp), Block.sliceState_modSlice_self,
    Block.markFailed_sliceState]

theorem Block.failSpindle_stopped_sticky (h : b.altStructure (sliceOf n) = false) :
    (b.failSpindle n).get R.TRB_TROUBLE_SLICE_STOPPED = 1 := by
  rw [Block.failSpindle_stops b n h]
  exact Block.stick_get_one _ _ rfl (by decide) (by decide)

end

section
variable (b : Block) (n : Nat)

theorem Block.failSpindle_failed : n % 64 ∈ ((b.failSpindle n).sliceState (sliceOf n)).failed := by
  cases h : b.altStructure (sliceOf n) with
  | true => rw [Block.failSpindle_sliceState_alternate b n h]; simp
  | false => rw [Block.failSpindle_sliceState_stopped b n h]; simp

theorem mem_spindlesOf_sliceOf (hn : n < 512) : n ∈ spindlesOf (sliceOf n) :=
  List.mem_map.2 ⟨n % 64, List.mem_range.2 (Nat.mod_lt _ (by decide)), by unfold sliceOf; omega⟩

theorem Block.failSpindle_fill (hn : n < 512) : n ∈ ((b.failSpindle n).sliceState (sliceOf n)).fill := by
  cases h : b.altStructure (sliceOf n) with
  | true => rw [Block.failSpindle_sliceState_alternate b n h]; exact b.invalidate_fill n
  | false => rw [Block.failSpindle_sliceState_stopped b n h]; exact mem_spindlesOf_sliceOf n hn

end

/-- A spindle that is neither failed nor being replaced, in a slice that no reload holds. -/
structure Block.Retirable (b : Block) (n : Nat) : Prop where
  noReload : b.underReload (sliceOf n) = false
  noLoad : (b.sliceState (sliceOf n)).spareLoad = none
  sound : n % 64 ∉ (b.sliceState (sliceOf n)).failed

/-- A spindle's class action is its retirement: the spare is loaded if it is free (R15). -/
theorem Block.classAction_spare (b : Block) (n : Nat) (h : b.Retirable n) (hu : b.get (R.SLC_SPARE_SPARE_USED (sliceOf n)) = 0) :
    b.classAction 2 n = (b.loadSpare n).stick R.TRB_TROUBLE_SPINDLE_RETIRED := by
  simp [Block.classAction, Block.retire, h.noReload, h.noLoad, h.sound, Block.flag, hu]; rfl

/-- Where the spare is in use the spindle is failed (R16). -/
theorem Block.classAction_fail (b : Block) (n : Nat) (h : b.Retirable n) (hu : b.get (R.SLC_SPARE_SPARE_USED (sliceOf n)) = 1) :
    b.classAction 2 n = b.failSpindle n := by
  simp [Block.classAction, Block.retire, h.noReload, h.noLoad, h.sound, Block.flag, hu]

/-! Errors of a spindle's memory (R469 class 2). -/

/-- A corrected error is counted in its cluster (R501). -/
def Block.countCorrected (b : Block) (n : Nat) : Block := b.bump (R.CLC_MEM_CORR_COUNT (sliceOf n) (clusterOf n))

theorem Block.keeps_countCorrected (b : Block) (n : Nat) (ps : List Part) :
    b.Keeps (b.countCorrected n) [R.CLC_MEM_CORR_COUNT (sliceOf n) (clusterOf n)] ps := Block.keeps_bump b _ _ _ (by simp)

theorem Block.countCorrected_tick (b : Block) (n : Nat) : (b.countCorrected n).tick = b.tick :=
  Block.get_set_ne b _ _ _ (by simp only [R.GLB_TICK, R.CLC_MEM_CORR_COUNT]; omega)

theorem Block.countCorrected_retirable (b : Block) (n : Nat) (h : b.Retirable n) : (b.countCorrected n).Retirable n :=
  ⟨h.noReload, h.noLoad, h.sound⟩

theorem sliceOf_lt (n : Nat) : sliceOf n < 8 := Nat.mod_lt _ (by decide)
theorem clusterOf_lt (n : Nat) : clusterOf n < 4 := Nat.mod_lt _ (by decide)

theorem Block.countCorrected_spareUsed (b : Block) (n : Nat) :
    (b.countCorrected n).get (R.SLC_SPARE_SPARE_USED (sliceOf n)) = b.get (R.SLC_SPARE_SPARE_USED (sliceOf n)) := by
  have hs := sliceOf_lt n
  have hc := clusterOf_lt n
  exact Block.get_set_ne b _ _ _ (by simp only [R.SLC_SPARE_SPARE_USED, R.CLC_MEM_CORR_COUNT]; omega)

/-- The first corrected error of a spindle opens its window. -/
theorem Block.memoryError_opens (b : Block) (n : Nat) (hw : b.windowOf 2 n = none) (h2 : b.trouble.clsWindow.getD 2 0 ≠ 0)
    (h1 : 1 ≤ b.trouble.clsThresh.getD 2 0) :
    b.memoryError n true = { b.countCorrected n with trouble := { b.trouble with windows := b.trouble.windows ++
      [⟨2, n, 1, b.tick, b.trouble.clsWindow.getD 2 0, b.trouble.clsThresh.getD 2 0⟩] } } := by
  rw [← b.countCorrected_tick n]
  exact (b.countCorrected n).fault_opens 2 n hw h2 h1

section
variable (b : Block) (n : Nat) (w : FaultWindow) (hw : b.windowOf 2 n = some w) (h0 : w.window ≠ 0) (ht : w.thresh < w.count + 1)
  (hret : b.Retirable n)
include hw h0 ht hret

theorem Block.memoryError_retires (hu : b.get (R.SLC_SPARE_SPARE_USED (sliceOf n)) = 0) : b.memoryError n true =
    (((b.countCorrected n).loadSpare n).stick R.TRB_TROUBLE_SPINDLE_RETIRED).noteLasting 2 n (w.count + 1) := by
  rw [← Block.classAction_spare _ n (b.countCorrected_retirable n hret) ((b.countCorrected_spareUsed n).trans hu)]
  exact (b.countCorrected n).fault_lasting 2 n w hw h0 ht

theorem Block.memoryError_fails (hu : b.get (R.SLC_SPARE_SPARE_USED (sliceOf n)) = 1) : b.memoryError n true =
    ((b.countCorrected n).failSpindle n).noteLasting 2 n (w.count + 1) := by
  rw [← Block.classAction_fail _ n (b.countCorrected_retirable n hret) ((b.countCorrected_spareUsed n).trans hu)]
  exact (b.countCorrected n).fault_lasting 2 n w hw h0 ht

end

/-- An uncorrectable error: the tick's output is invalid, and the class action waits for the tick boundary. -/
def Block.deferMemoryFault (b : Block) (n : Nat) : Block := (b.invalidate n).deferAction 2 n

theorem Block.memoryError_uncorrected (b : Block) (n : Nat) :
    ∃ k, b.memoryError n false = (b.deferMemoryFault n).noteLasting 2 n k := ⟨_, Block.lasting_eq _ _ _ _ _⟩

theorem Block.keeps_deferMemoryFault (b : Block) (n : Nat) (l : List Field) (ps : List Part) (h : .slices ∈ ps) :
    b.Keeps (b.deferMemoryFault n) l ps :=
  (b.keeps_invalidate n l ps h).trans (Block.keeps_modSlice _ _ _ l ps h)

theorem Block.deferMemoryFault_sliceState (b : Block) (n : Nat) :
    (b.deferMemoryFault n).sliceState (sliceOf n) =
      { (b.invalidate n).sliceState (sliceOf n) with
        pendingFaults := (b.sliceState (sliceOf n)).pendingFaults ++ [(2, n)] } := by
  rw [Block.deferMemoryFault, Block.deferAction, Block.sliceState_modSlice_self, Block.invalidate_sliceState]

section
variable (s : State) (n : Nat) (hrun : s.blk.running = true)
include hrun

theorem exec_spindleMemoryError_eq (k : Bool) (c : Block) (hg : s.blk.gated (sliceOf n) = false) (e : s.blk.memoryError n k = c) :
    exec (.spindleMemoryError n k) s = .next (s.run fun _ => c) :=
  congrArg Host.Outcome.next (State.runOn_eq s _ c hrun ((if_neg (by simp [hg])).trans e))

/-- A gated spindle produces no errors (R472). -/
theorem spindleMemoryError_gated (k : Bool) (hg : s.blk.gated (sliceOf n) = true) :
    ∃ t, exec (.spindleMemoryError n k) s = .next t ∧ s.Keeps t [] [] := s.runOn_idle _ hrun (if_pos hg)

variable (hg : s.blk.gated (sliceOf n) = false)
include hg

theorem spindleMemoryError_opens (hw : s.blk.windowOf 2 n = none) (h2 : 2 ≤ s.blk.trouble.clsWindow.getD 2 0)
    (h1 : 1 ≤ s.blk.trouble.clsThresh.getD 2 0) :
    ∃ t, exec (.spindleMemoryError n true) s = .next t ∧
      t.blk.get (R.CLC_MEM_CORR_COUNT (sliceOf n) (clusterOf n)) =
        (s.blk.get (R.CLC_MEM_CORR_COUNT (sliceOf n) (clusterOf n)) + 1) % 2 ^ 64 ∧
      t.blk.trouble = { s.blk.trouble with windows := s.blk.trouble.windows ++
        [⟨2, n, 1, s.blk.tick, s.blk.trouble.clsWindow.getD 2 0, s.blk.trouble.clsThresh.getD 2 0⟩] } ∧
      s.Keeps t [R.CLC_MEM_CORR_COUNT (sliceOf n) (clusterOf n)] [.trouble] := by
  have e := s.blk.memoryError_opens n hw (by omega) h1
  obtain ⟨-, -, hsum⟩ := sliceKey_not_lasting _ (CLC_MEM_CORR_COUNT_key (sliceOf n) (clusterOf n))
  exact ⟨_, exec_spindleMemoryError_eq s n hrun true _ hg e, (State.run_get s _ _ hsum).trans (Block.bump_get s.blk _),
    Block.updateAlert_trouble _,
    State.keeps_run s _ _ _ ((s.blk.keeps_countCorrected n _).trans (Block.keeps_trouble _ _ _ _ (by simp)))⟩

section
variable (w : FaultWindow) (hw : s.blk.windowOf 2 n = some w) (h0 : w.window ≠ 0) (ht : w.thresh < w.count + 1) (hret : s.blk.Retirable n)
include hw h0 ht hret

theorem spindleMemoryError_retires (hn : n < 512) (hu : s.blk.get (R.SLC_SPARE_SPARE_USED (sliceOf n)) = 0) :
    ∃ t, exec (.spindleMemoryError n true) s = .next t ∧ (t.blk.sliceState (sliceOf n)).spareLoad = some (n, s.blk.tick) ∧
      n ∈ (t.blk.sliceState (sliceOf n)).fill ∧ t.blk.get R.TRB_TROUBLE_SPINDLE_RETIRED = 1 ∧ t.blk.get R.TRB_TROUBLE_LASTING = 1 ∧
      t.blk.get R.TRB_LAST_FAULT_CLASS = 2 ∧ t.blk.get R.TRB_LAST_FAULT_INSTANCE = n ∧ t.blk.windowOf 2 n = none ∧
      s.Keeps t (R.CLC_MEM_CORR_COUNT (sliceOf n) (clusterOf n) :: R.TRB_TROUBLE_SPINDLE_RETIRED :: lastingFields)
        [.trouble, .slices, .records] := by
  have e := s.blk.memoryError_retires n w hw h0 ht hret hu
  have htick := s.blk.countCorrected_tick n
  have hcount := s.blk.keeps_countCorrected n [.trouble, .slices, .records]
  generalize s.blk.countCorrected n = b at e htick hcount
  have hslice : (((b.loadSpare n).stick R.TRB_TROUBLE_SPINDLE_RETIRED).noteLasting 2 n (w.count + 1)).sliceState (sliceOf n) =
      (b.loadSpare n).sliceState (sliceOf n) :=
    (Block.noteLasting_sliceState _ _ _ _ _).trans ((Block.keeps_stick _ _ _).sliceState_eq (by simp) _)
  obtain ⟨hget, -⟩ := ((b.loadSpare n).stick R.TRB_TROUBLE_SPINDLE_RETIRED).keeps_noteLasting 2 n (w.count + 1)
  have hstick := ((b.loadSpare n).keeps_stick R.TRB_TROUBLE_SPINDLE_RETIRED 0).widen
    (R.CLC_MEM_CORR_COUNT (sliceOf n) (clusterOf n) :: R.TRB_TROUBLE_SPINDLE_RETIRED :: lastingFields) [.trouble, .slices, .records]
    (List.Subset.trans (List.cons_subset_cons _ recordFields_subset_lastingFields) (List.subset_cons_self _ _)) (by simp)
  refine ⟨_, exec_spindleMemoryError_eq s n hrun true _ hg e, ?_, ?_, ?_, ?_, ?_, ?_, ?_, State.keeps_run s _ _ _ ?_⟩
  · rw [State.run_sliceState, hslice, Block.loadSpare_sliceState, htick]
  · rw [State.run_sliceState, hslice]; exact b.loadSpare_fill n
  · rw [State.run_get s _ _ (by decide), hget _ (by decide) (by decide)]
    exact Block.stick_get_one _ _ rfl (by decide) (by decide)
  · rw [State.run_get s _ _ (by decide), Block.noteLasting_sticky]
  · rw [State.run_get s _ _ (by decide), Block.noteLasting_class]; rfl
  · rw [State.run_get s _ _ (by decide), Block.noteLasting_inst, Nat.mod_eq_of_lt (by omega)]
  · rw [Block.windowOf, State.run_trouble]; exact Block.noteLasting_windowOf _ _ _ _
  · exact (((hcount.widen _ _ (by simp) (List.Subset.refl _)).trans (b.keeps_loadSpare n _ _ (by simp))).trans hstick).trans
      ((Block.keeps_noteLasting _ _ _ _).widen _ _ (fun _ m => by simp [m]) (by simp))

theorem spindleMemoryError_fails (hn : n < 512) (hu : s.blk.get (R.SLC_SPARE_SPARE_USED (sliceOf n)) = 1) :
    ∃ t, exec (.spindleMemoryError n true) s = .next t ∧ t.blk.bit (R.SLC_SPINDLE_FAILED (sliceOf n)) (n % 64) = true ∧
      n % 64 ∈ (t.blk.sliceState (sliceOf n)).failed ∧ n ∈ (t.blk.sliceState (sliceOf n)).fill ∧
      (s.blk.altStructure (sliceOf n) = true → (t.blk.sliceState (sliceOf n)).alternate = true ∧
        (t.blk.sliceState (sliceOf n)).stopped = (s.blk.sliceState (sliceOf n)).stopped) ∧
      (s.blk.altStructure (sliceOf n) = false → (t.blk.sliceState (sliceOf n)).stopped = true ∧
        (t.blk.sliceState (sliceOf n)).fill = spindlesOf (sliceOf n) ∧ t.blk.get R.TRB_TROUBLE_SLICE_STOPPED = 1) ∧
      s.Keeps t (R.CLC_MEM_CORR_COUNT (sliceOf n) (clusterOf n) :: R.SLC_SPINDLE_FAILED (sliceOf n) ::
        R.TRB_TROUBLE_SLICE_STOPPED :: lastingFields) [.trouble, .slices, .records] := by
  have e := s.blk.memoryError_fails n w hw h0 ht hret hu
  have halt : (s.blk.countCorrected n).altStructure (sliceOf n) = s.blk.altStructure (sliceOf n) := rfl
  have hold : (s.blk.countCorrected n).sliceState (sliceOf n) = s.blk.sliceState (sliceOf n) := rfl
  have hcount := s.blk.keeps_countCorrected n [.trouble, .slices, .records]
  generalize s.blk.countCorrected n = b at e halt hold hcount
  rw [← halt, ← hold]
  obtain ⟨-, -, hsum⟩ := sliceKey_not_lasting _ (SLC_SPINDLE_FAILED_key (sliceOf n))
  have hslice := Block.noteLasting_sliceState (b.failSpindle n) 2 n (w.count + 1) (sliceOf n)
  obtain ⟨hget, -⟩ := (b.failSpindle n).keeps_noteLasting 2 n (w.count + 1)
  refine ⟨_, exec_spindleMemoryError_eq s n hrun true _ hg e, ?_, ?_, ?_, ?_, ?_, State.keeps_run s _ _ _ ?_⟩
  · rw [State.run_bit _ _ _ _ hsum, Block.bit, Block.noteLasting_get_slice _ _ _ _ _ (SLC_SPINDLE_FAILED_key _)]
    exact b.failSpindle_bit n
  · rw [State.run_sliceState, hslice]; exact b.failSpindle_failed n
  · rw [State.run_sliceState, hslice]; exact b.failSpindle_fill n hn
  · intro h
    rw [State.run_sliceState, hslice, Block.failSpindle_sliceState_alternate b n h, Block.invalidate_sliceState]
    exact ⟨rfl, rfl⟩
  · intro h
    rw [State.run_sliceState, hslice, Block.failSpindle_sliceState_stopped b n h, State.run_get s _ _ (by decide),
      hget _ (by decide) (by decide), Block.failSpindle_stopped_sticky b n h]
    exact ⟨rfl, rfl, rfl⟩
  · exact ((hcount.widen _ _ (by simp) (List.Subset.refl _)).trans ((b.keeps_failSpindle n).widen _ _
      (List.Subset.trans (List.cons_subset_cons _ (List.cons_subset_cons _ recordFields_subset_lastingFields))
        (List.subset_cons_self _ _)) (by simp))).trans
      ((Block.keeps_noteLasting _ _ _ _).widen _ _ (fun _ m => by simp [m]) (by simp))

end

theorem spindleMemoryError_uncorrected (hn : n < 512) :
    ∃ t, exec (.spindleMemoryError n false) s = .next t ∧ n ∈ (t.blk.sliceState (sliceOf n)).fill ∧
      (t.blk.sliceState (sliceOf n)).pendingFaults = (s.blk.sliceState (sliceOf n)).pendingFaults ++ [(2, n)] ∧
      t.blk.get R.TRB_TROUBLE_LASTING = 1 ∧ t.blk.get R.TRB_LAST_FAULT_INSTANCE = n ∧ t.blk.get R.TRB_LAST_FAULT_CLASS = 2 ∧
      t.blk.windowOf 2 n = none ∧ s.Keeps t lastingFields [.trouble, .slices, .records] := by
  obtain ⟨k, e⟩ := s.blk.memoryError_uncorrected n
  have hslice : ((s.blk.deferMemoryFault n).noteLasting 2 n k).sliceState (sliceOf n) =
      { (s.blk.invalidate n).sliceState (sliceOf n) with
        pendingFaults := (s.blk.sliceState (sliceOf n)).pendingFaults ++ [(2, n)] } :=
    (Block.noteLasting_sliceState _ _ _ _ _).trans (s.blk.deferMemoryFault_sliceState n)
  refine ⟨_, exec_spindleMemoryError_eq s n hrun false _ hg e, ?_, ?_, ?_, ?_, ?_, ?_, State.keeps_run s _ _ _ ?_⟩
  · rw [State.run_sliceState, hslice]; exact s.blk.invalidate_fill n
  · rw [State.run_sliceState, hslice]
  · rw [State.run_get s _ _ (by decide), Block.noteLasting_sticky]
  · rw [State.run_get s _ _ (by decide), Block.noteLasting_inst, Nat.mod_eq_of_lt (by omega)]
  · rw [State.run_get s _ _ (by decide), Block.noteLasting_class]; rfl
  · rw [Block.windowOf, State.run_trouble]; exact Block.noteLasting_windowOf _ _ _ _
  · exact (s.blk.keeps_deferMemoryFault n _ _ (by simp)).trans
      ((Block.keeps_noteLasting _ _ _ _).widen _ _ (List.Subset.refl _) (by simp))

end

end Sys2Proof.Machine
end

section
/-! Windows that close, the scrub, the spare's start, returned ports and removed marks (R14, R15, R468, R470, R471), and the settlement of
`Obligations.FaultActions`. -/

namespace Sys2Proof.Machine

/-! Windows that close, and the scrub of DDR4. -/

section
variable (s : State) (hrun : s.blk.running = true)
include hrun

theorem faultWindowClose_closes (c n : Nat) (w : FaultWindow) (hw : s.blk.windowOf c n = some w)
    (ht : w.openTick + w.window ≤ s.blk.tick) :
    ∃ t, exec (.faultWindowClose c n) s = .next t ∧ t.blk.trouble = { s.blk.trouble with
      windows := s.blk.trouble.windows.filter (fun x => ¬(x.cls = c ∧ x.inst = n)) } ∧ s.Keeps t [] [.trouble] := by
  have e : s.blk.windowClose c n = s.blk.closeWindow c n := by
    unfold Block.windowOf at hw
    simp only [Block.windowClose, hw]
    exact if_pos ht
  exact ⟨_, congrArg Host.Outcome.next (s.runOn_eq _ _ hrun e), Block.updateAlert_trouble _,
    State.keeps_run s _ _ _ (Block.keeps_closeWindow _ _ _ _ _ (by simp))⟩

theorem faultWindowClose_waits (c n : Nat) (h : ∀ w, s.blk.windowOf c n = some w → s.blk.tick < w.openTick + w.window) :
    ∃ t, exec (.faultWindowClose c n) s = .next t ∧ s.Keeps t [] [] := by
  refine s.runOn_idle _ hrun ?_
  unfold Block.windowOf at h
  unfold Block.windowClose
  split
  · next w hw => exact if_neg (Nat.not_le.2 (h w hw))
  · rfl

theorem ddrScrub_due (h : s.blk.trouble.scrubTick + 90000000 * s.blk.scrubHours ≤ s.blk.tick) :
    ∃ t, exec .ddrScrub s = .next t ∧
      t.blk.trouble = { s.blk.trouble with scrubs := s.blk.trouble.scrubs + 1, scrubTick := s.blk.tick } ∧ s.Keeps t [] [.trouble] :=
  ⟨_, congrArg Host.Outcome.next (s.runOn_eq _ _ hrun (if_neg (Nat.not_lt.2 h))), Block.updateAlert_trouble _,
    State.keeps_run s _ _ _ (Block.keeps_trouble _ _ _ _ (by simp))⟩

theorem ddrScrub_waits (h : s.blk.tick < s.blk.trouble.scrubTick + 90000000 * s.blk.scrubHours) :
    ∃ t, exec .ddrScrub s = .next t ∧ s.Keeps t [] [] := s.runOn_idle _ hrun (if_pos h)

end

/-! The spare takes over at a block boundary (R14, R15). -/

/-- A slice whose spare's memories are loaded, and whose spindle `m` is no longer invalid. -/
def SliceState.startSpare (x : SliceState) (m : Nat) : SliceState :=
  { x.load [64] with spareLoad := none, fill := x.fill.filter (fun k => k ≠ m) }

/-- The spare of slice `n` serves the logical spindle `m`. -/
def Block.startSpare (b : Block) (n m : Nat) : Block :=
  ((b.modSlice n (fun x => x.startSpare m)).set (R.SLC_SPARE_SPARE_USED n) 1).set (R.SLC_SPARE_SPARE_FOR n) m

/-- A spindle has no windows of its own any more (R468, classes 0 to 2). -/
def Block.closeSpindleWindows (b : Block) (m : Nat) : Block := ((b.closeWindow 0 m).closeWindow 1 m).closeWindow 2 m

theorem Block.spareStart_starts (b : Block) (n m k : Nat) (h : (b.sliceState n).spareLoad = some (m, k)) (h25 : b.tick % 25 = 0)
    (hk : k < b.tick) : b.spareStart n = (b.startSpare n m).closeSpindleWindows m := by
  simp only [Block.spareStart, h, h25, hk, and_self, if_true]
  rfl

theorem Block.spareStart_waits (b : Block) (n : Nat)
    (h : ∀ m k, (b.sliceState n).spareLoad = some (m, k) → b.tick % 25 ≠ 0 ∨ b.tick ≤ k) : b.spareStart n = b := by
  unfold Block.spareStart
  split
  · rfl
  · next m k hload =>
    have := h m k hload
    exact if_neg (by omega)

theorem Block.mem_closeWindow {b : Block} {cls inst : Nat} {w : FaultWindow} :
    w ∈ (b.closeWindow cls inst).trouble.windows ↔ w ∈ b.trouble.windows ∧ (w.cls = cls → w.inst ≠ inst) := by
  simp [Block.closeWindow, imp_iff_not_or]

theorem Block.closeSpindleWindows_inst (b : Block) (m : Nat) (w : FaultWindow) (hw : w ∈ (b.closeSpindleWindows m).trouble.windows)
    (hc : w.cls ≤ 2) : w.inst ≠ m := by
  rw [Block.closeSpindleWindows, Block.mem_closeWindow, Block.mem_closeWindow, Block.mem_closeWindow] at hw
  obtain ⟨⟨⟨-, h0⟩, h1⟩, h2⟩ := hw
  interval_cases hcls : w.cls
  · exact h0 rfl
  · exact h1 rfl
  · exact h2 rfl

section
variable (b : Block) (n m : Nat)

theorem Block.keeps_startSpare : b.Keeps (b.startSpare n m) [R.SLC_SPARE_SPARE_USED n, R.SLC_SPARE_SPARE_FOR n] [.slices, .trouble] :=
  ((Block.keeps_modSlice b _ _ _ _ (by simp)).trans (Block.keeps_set _ _ _ _ _ (by simp))).trans (Block.keeps_set _ _ _ _ _ (by simp))

theorem Block.keeps_closeSpindleWindows (l : List Field) (ps : List Part) (h : .trouble ∈ ps) :
    b.Keeps (b.closeSpindleWindows m) l ps :=
  ((Block.keeps_closeWindow b _ _ l ps h).trans (Block.keeps_closeWindow _ _ _ l ps h)).trans (Block.keeps_closeWindow _ _ _ l ps h)

theorem Block.startSpare_sliceState : (b.startSpare n m).sliceState n = (b.sliceState n).startSpare m :=
  Block.sliceState_modSlice_self b n (fun x => x.startSpare m)

theorem Block.startSpare_sliceState_ne (j : Nat) (h : j ≠ n) : (b.startSpare n m).sliceState j = b.sliceState j :=
  Block.sliceState_modSlice_ne b n j (fun x => x.startSpare m) h

theorem Block.startSpare_used : (b.startSpare n m).get (R.SLC_SPARE_SPARE_USED n) = 1 := by
  rw [Block.startSpare, Block.get_set_ne _ _ _ _ (by simp only [R.SLC_SPARE_SPARE_USED, R.SLC_SPARE_SPARE_FOR]; omega),
    Block.get_set_self]
  rfl

theorem Block.startSpare_for : (b.startSpare n m).get (R.SLC_SPARE_SPARE_FOR n) = m % 2 ^ (R.SLC_SPARE_SPARE_FOR n).width :=
  Block.get_set_self _ _ _

end

/-- What a debug window wrote into the memories of a loaded spindle is gone (R100). -/
theorem SliceState.load_dbg (x : SliceState) (q : Nat) (e : Nat × Nat) (h : e ∈ (x.load [q]).dbg) : dbgOf q e.1 = false := by
  simp only [SliceState.load, List.mem_filter, List.any_cons, List.any_nil, Bool.or_false, Bool.not_eq_true'] at h
  exact h.2

theorem spareStart_starts (s : State) (n m k : Nat) (hrun : s.blk.running = true)
    (hload : (s.blk.sliceState n).spareLoad = some (m, k)) (h25 : s.blk.tick % 25 = 0) (hk : k < s.blk.tick) :
    ∃ t, exec (.spareStart n) s = .next t ∧ (t.blk.sliceState n).spareLoad = none ∧ m ∉ (t.blk.sliceState n).fill ∧
      64 ∈ (t.blk.sliceState n).loaded ∧ (∀ e ∈ (t.blk.sliceState n).dbg, dbgOf 64 e.1 = false) ∧
      (∀ j, j ≠ n → t.blk.sliceState j = s.blk.sliceState j) ∧ t.blk.get (R.SLC_SPARE_SPARE_USED n) = 1 ∧
      t.blk.get (R.SLC_SPARE_SPARE_FOR n) = m % 2 ^ (R.SLC_SPARE_SPARE_FOR n).width ∧
      (∀ w ∈ t.blk.trouble.windows, w.cls ≤ 2 → w.inst ≠ m) ∧
      s.Keeps t [R.SLC_SPARE_SPARE_USED n, R.SLC_SPARE_SPARE_FOR n] [.slices, .trouble] := by
  have e := s.blk.spareStart_starts n m k hload h25 hk
  have hslice : ((s.blk.startSpare n m).closeSpindleWindows m).sliceState n = (s.blk.sliceState n).startSpare m :=
    s.blk.startSpare_sliceState n m
  obtain ⟨-, -, hused⟩ := sliceKey_not_lasting _ (SLC_SPARE_SPARE_USED_key n)
  have hfor : (R.SLC_SPARE_SPARE_FOR n).key ≠ R.TRB_SUMMARY.key := by simp only [R.SLC_SPARE_SPARE_FOR, R.TRB_SUMMARY]; omega
  refine ⟨_, congrArg Host.Outcome.next (s.runOn_eq _ _ hrun e), ?_, ?_, ?_, ?_, ?_, ?_, ?_, ?_, State.keeps_run s _ _ _ ?_⟩
  · rw [State.run_sliceState, hslice]; rfl
  · rw [State.run_sliceState, hslice]; simp [SliceState.startSpare]
  · rw [State.run_sliceState, hslice]; simp [SliceState.startSpare, SliceState.load]
  · rw [State.run_sliceState, hslice]; exact (s.blk.sliceState n).load_dbg 64
  · intro j hj
    rw [State.run_sliceState]; exact s.blk.startSpare_sliceState_ne n m j hj
  · exact (State.run_get s _ _ hused).trans (s.blk.startSpare_used n m)
  · exact (State.run_get s _ _ hfor).trans (s.blk.startSpare_for n m)
  · rw [State.run_trouble]; exact Block.closeSpindleWindows_inst _ m
  · exact (s.blk.keeps_startSpare n m).trans (Block.keeps_closeSpindleWindows _ m _ _ (by simp))

/-! Ports that return to service, and marks that are removed (R470, R471). -/

/-- The ports of a mask that are failed. -/
def Block.returnedPorts (b : Block) (mask : Nat) : List Nat :=
  (List.range 4).filter (fun p => mask.testBit p && b.bit R.TRB_PORT_FAILED p)

/-- The truing blocks of some ports (R425): Band H's, and Band L's but for P3. -/
def portBlocks (back : List Nat) : Nat := (back.map (fun p => 2 ^ p + (if p < 3 then 2 ^ (p + 4) else 0))).sum

/-- The ports are in service, before their truing. -/
def Block.restorePorts (b : Block) (mask : Nat) : Block :=
  { b.clear R.TRB_PORT_FAILED mask with front := { b.front with returning := b.front.returning ++ b.returnedPorts mask } }

theorem Block.portReturn_eq (b : Block) (mask : Nat) :
    b.portReturn mask = ((b.restorePorts mask).makeDue (portBlocks (b.returnedPorts mask))).truRejoin := rfl

theorem Block.mem_returnedPorts (b : Block) (mask p : Nat) (hp : p < 4) (hm : mask.testBit p = true)
    (hf : b.bit R.TRB_PORT_FAILED p = true) : p ∈ b.returnedPorts mask :=
  List.mem_filter.2 ⟨List.mem_range.2 hp, by rw [hm, hf]; rfl⟩

theorem portBlocks_testBit (b : Block) (mask p : Nat) (hp : p < 4) (h : p ∈ b.returnedPorts mask) :
    (portBlocks (b.returnedPorts mask)).testBit p = true ∧
      (p < 3 → (portBlocks (b.returnedPorts mask)).testBit (p + 4) = true) := by
  have hall : ∀ back ∈ [0, 1, 2, 3].sublists, ∀ p < 4, p ∈ back →
      (portBlocks back).testBit p = true ∧ (p < 3 → (portBlocks back).testBit (p + 4) = true) := by decide
  exact hall _ (List.mem_sublists.2 List.filter_sublist) p hp h

/-- The blocks that a mask makes due. -/
def Block.newlyDue (b : Block) (mask : Nat) : List Nat :=
  (List.range 11).filter (fun i => mask.testBit i && b.truUsed i && !b.bit R.TRU_DUE i && !b.truRunning i)

theorem Block.makeDue_bit (b : Block) (mask i : Nat) (hi : i < 11) :
    (b.makeDue mask).bit R.TRU_DUE i = (b.bit R.TRU_DUE i || decide (i ∈ b.newlyDue mask)) := by
  have hnodup : (b.newlyDue mask).Nodup := List.nodup_range.filter _
  by_cases h : (b.newlyDue mask).isEmpty = true
  · rw [List.isEmpty_iff.1 h, show b.makeDue mask = b from if_pos h]
    simp
  · rw [show b.makeDue mask = { b.set R.TRU_DUE (b.get R.TRU_DUE ||| ((b.newlyDue mask).map (fun i => 2 ^ i)).sum) with
      truing := { b.truing with sets := b.truing.sets ++ [((b.newlyDue mask).map (fun i => 2 ^ i)).sum] } } from if_neg h]
    refine (congrArg (fun v => Nat.testBit v i) (Block.get_set_self b R.TRU_DUE _)).trans ?_
    rw [Nat.testBit_mod_two_pow, Nat.testBit_or, testBit_sum_two_pow _ hnodup, Block.bit]
    simp [R.TRU_DUE, hi]

/-- A used block that the mask names is due, unless it runs. -/
theorem Block.makeDue_due (b : Block) (mask i : Nat) (hi : i < 11) (hm : mask.testBit i = true) (hu : b.truUsed i = true)
    (hr : b.truRunning i = false) : (b.makeDue mask).bit R.TRU_DUE i = true := by
  rw [Block.makeDue_bit b mask i hi]
  cases hd : b.bit R.TRU_DUE i with
  | true => rfl
  | false => simp [Block.newlyDue, hi, hm, hu, hd, hr]

theorem Block.keeps_makeDue (b : Block) (mask : Nat) : b.Keeps (b.makeDue mask) [R.TRU_DUE] [.truing] :=
  Block.keeps_ite (Block.Keeps.refl b _ _)
    ((Block.keeps_set b _ _ _ _ (by simp)).trans (Block.keeps_truing _ _ _ _ (by simp)))

theorem Block.keeps_restorePorts (b : Block) (mask : Nat) : b.Keeps (b.restorePorts mask) [R.TRB_PORT_FAILED] [.front] :=
  (Block.keeps_set b R.TRB_PORT_FAILED _ _ _ (by simp)).trans (Block.keeps_front _ _ _ _ (by simp))

theorem Block.keeps_portReturn (b : Block) (mask : Nat) :
    b.Keeps (b.portReturn mask) [R.TRB_PORT_FAILED, R.TRU_DUE] [.front, .truing] :=
  (((b.keeps_restorePorts mask).widen _ _ (by simp) (by simp)).trans ((Block.keeps_makeDue _ _).widen _ _ (by simp) (by simp))).trans
    (Block.keeps_front _ _ _ _ (by simp))

/-- Which truing blocks run is read from registers that a frame may name. -/
theorem Block.Keeps.truRunning_eq {b c : Block} {l : List Field} {ps : List Part} (h : b.Keeps c l ps)
    (ha : R.TRU_STAT_ACTIVE.key ∉ l.map Field.key) (hs : R.TRU_STAT_SENSOR_RUNNING.key ∉ l.map Field.key) (i : Nat) :
    c.truRunning i = b.truRunning i := by
  simp only [Block.truRunning, Block.flag, h.1 _ ha (by decide), h.1 _ hs (by decide)]

theorem Block.restorePorts_truUsed (b : Block) (mask i : Nat) (hi : i < 7) : (b.restorePorts mask).truUsed i = b.truUsed i := by
  have hH (p : Nat) : (b.restorePorts mask).get (R.LFE_CFG_H_PROFILE p) = b.get (R.LFE_CFG_H_PROFILE p) :=
    Block.get_set_ne b R.TRB_PORT_FAILED _ _ (by simp only [R.LFE_CFG_H_PROFILE, R.TRB_PORT_FAILED]; omega)
  have hL (p : Nat) : (b.restorePorts mask).get (R.LFE_CFG_L_PROFILE p) = b.get (R.LFE_CFG_L_PROFILE p) :=
    Block.get_set_ne b R.TRB_PORT_FAILED _ _ (by simp only [R.LFE_CFG_L_PROFILE, R.TRB_PORT_FAILED]; omega)
  simp only [Block.truUsed, Block.profile, hH, hL, hi, if_true]

/-- A used block of a returned port that does not run is due (R470). -/
theorem Block.portReturn_due (b : Block) (mask i : Nat) (hi : i < 7) (hm : (portBlocks (b.returnedPorts mask)).testBit i = true)
    (hu : b.truUsed i = true) (hr : b.truRunning i = false) : (b.portReturn mask).bit R.TRU_DUE i = true :=
  Block.makeDue_due _ _ i (by omega) hm ((b.restorePorts_truUsed mask i hi).trans hu)
    (((b.keeps_restorePorts mask).truRunning_eq (by decide) (by decide) i).trans hr)

/-- A port stays out of the transmit sets as long as one of its blocks is due or runs (R470). -/
theorem Block.portReturn_returning (b : Block) (mask p : Nat) (h : p ∈ b.returnedPorts mask) :
    p ∈ (b.portReturn mask).front.returning ↔
      (b.portReturn mask).truPending p = true ∨ (b.portReturn mask).truPending (p + 4) = true := by
  have hmem : p ∈ ((b.restorePorts mask).makeDue (portBlocks (b.returnedPorts mask))).front.returning := by
    rw [(Block.keeps_makeDue _ _).2 .front (by simp)]
    exact List.mem_append_right _ h
  rw [Block.portReturn_eq, Block.truRejoin]
  simp only [List.mem_filter, hmem, true_and, Bool.or_eq_true]
  exact Iff.rfl

theorem Block.updateAlert_truPending (b : Block) (i : Nat) : b.updateAlert.truPending i = b.truPending i := by
  have hrun := (Block.keeps_updateAlert b [] []).truRunning_eq (by decide) (by decide) i
  rw [Block.truPending, hrun, Block.bit, Block.updateAlert_get b _ (by decide), Block.truPending, Block.bit]

theorem portReturn_returns (s : State) (mask : Nat) (h : s.blk.reachable = true) :
    ∃ t, exec (.portReturn mask) s = .next t ∧
      (∀ p, p < 4 → t.blk.bit R.TRB_PORT_FAILED p = (s.blk.bit R.TRB_PORT_FAILED p && !mask.testBit p)) ∧
      (∀ p, p < 4 → mask.testBit p = true → s.blk.bit R.TRB_PORT_FAILED p = true →
        (s.blk.truUsed p = true → s.blk.truRunning p = false → t.blk.bit R.TRU_DUE p = true) ∧
        (p < 3 → s.blk.truUsed (p + 4) = true → s.blk.truRunning (p + 4) = false → t.blk.bit R.TRU_DUE (p + 4) = true) ∧
        (p ∈ t.blk.front.returning ↔ t.blk.truPending p = true ∨ t.blk.truPending (p + 4) = true)) ∧
      s.Keeps t [R.TRB_PORT_FAILED, R.TRU_DUE] [.front, .truing] := by
  have hmask (p : Nat) (hp : p < 4) : (mask % 16).testBit p = mask.testBit p := by
    rw [show 16 = 2 ^ 4 from rfl, Nat.testBit_mod_two_pow, decide_eq_true hp, Bool.true_and]
  refine ⟨_, congrArg Host.Outcome.next (s.runReg_eq _ _ h rfl), ?_, ?_,
    State.keeps_run s _ _ _ (s.blk.keeps_portReturn (mask % 16))⟩
  · intro p hp
    rw [State.run_bit _ _ _ _ (by decide), Block.bit, Block.portReturn_eq]
    refine (congrArg (fun v => Nat.testBit v p) ((Block.keeps_makeDue (s.blk.restorePorts (mask % 16)) _).1
      R.TRB_PORT_FAILED (by decide) (by decide))).trans ((s.blk.clear_bit R.TRB_PORT_FAILED (mask % 16) p hp).trans ?_)
    rw [hmask p hp]
  · intro p hp hm hf
    have hback := s.blk.mem_returnedPorts (mask % 16) p hp ((hmask p hp).trans hm) hf
    obtain ⟨hH, hL⟩ := portBlocks_testBit s.blk (mask % 16) p hp hback
    refine ⟨fun hu hr => ?_, fun h3 hu hr => ?_, ?_⟩
    · rw [State.run_bit _ _ _ _ (by decide)]; exact s.blk.portReturn_due _ p (by omega) hH hu hr
    · rw [State.run_bit _ _ _ _ (by decide)]; exact s.blk.portReturn_due _ (p + 4) (by omega) (hL h3) hu hr
    · rw [State.run_blk, Block.updateAlert_front, Block.updateAlert_truPending, Block.updateAlert_truPending]
      exact s.blk.portReturn_returning _ p hback

theorem ddrUnmark_unmarks (s : State) (mask : Nat) (h : s.blk.reachable = true) :
    ∃ t, exec (.ddrUnmark mask) s = .next t ∧
      (∀ d, d < 36 → t.blk.bit R.TRB_DDR_MARKED d = (s.blk.bit R.TRB_DDR_MARKED d && !mask.testBit d)) ∧
      s.Keeps t [R.TRB_DDR_MARKED] [] := by
  refine ⟨_, congrArg Host.Outcome.next (s.runReg_eq _ _ h rfl), ?_,
    State.keeps_run s _ _ _ (Block.keeps_set _ R.TRB_DDR_MARKED _ _ _ (by simp))⟩
  intro d hd
  rw [State.run_bit _ _ _ _ (by decide), Block.ddrUnmark, Block.clear_bit _ _ _ _ hd, Nat.testBit_mod_two_pow, decide_eq_true hd,
    Bool.true_and]

/-- Settles O55: the errors, the windows, the spare, the scrub, the ports and the marks one after another. -/
theorem faultActions : Obligations.FaultActions := by
  unfold Obligations.FaultActions
  refine ⟨?_, ?_, ?_, ?_, ?_, ?_, ?_, ?_, ?_, ?_, ?_, ?_, ?_, ?_, portReturn_returns, ddrUnmark_unmarks⟩
  · intro s d hrun hd hw h2 h1
    exact ddr4Correction_opens s d hrun hd hw h2 h1
  · intro s d w hrun hd hw h0 ht
    exact ddr4Correction_marks s d hrun w hd hw h0 ht
  · intro s d hrun h
    exact ddr4Correction_ignored s d hrun h
  · intro s n hrun _ hg hw h2 h1
    exact spindleMemoryError_opens s n hrun hg hw h2 h1
  · intro s n w hrun hn hg hw h0 ht hload hspare hsound hu
    exact spindleMemoryError_retires s n hrun hg w hw h0 ht ⟨hload, hspare, hsound⟩ hn hu
  · intro s n w hrun hn hg hw h0 ht hload hspare hsound hu
    exact spindleMemoryError_fails s n hrun hg w hw h0 ht ⟨hload, hspare, hsound⟩ hn hu
  · intro s n hrun hn hg
    exact spindleMemoryError_uncorrected s n hrun hg hn
  · intro s n k hrun hg
    exact spindleMemoryError_gated s n hrun k hg
  · intro s c n w hrun hw ht
    exact faultWindowClose_closes s hrun c n w hw ht
  · intro s c n hrun h
    exact faultWindowClose_waits s hrun c n h
  · intro s n m k hrun _ hload h25 hk
    exact spareStart_starts s n m k hrun hload h25 hk
  · intro s n hrun h
    exact s.runOn_idle _ hrun (s.blk.spareStart_waits n h)
  · intro s hrun h
    exact ddrScrub_due s hrun h
  · intro s hrun h
    exact ddrScrub_waits s hrun h

end Sys2Proof.Machine
end

section
/-! WAKE_N (R64, R449), and the settlement of `Obligations.WakeLine`. -/

namespace Sys2Proof.Machine

theorem Block.wakeUp_eq (b : Block) (h : b.mode = 9 ∨ b.power.trans = some 9) :
    b.wakeUp = b.setPower { b.power with wake := true } := if_pos h

/-- A wake event outside M9, and outside the entry to it, is no event. -/
theorem Block.wakeUp_idle (b : Block) (hm : b.mode ≠ 9) (ht : b.power.trans ≠ some 9) : b.wakeUp = b :=
  if_neg (not_or.2 ⟨hm, ht⟩)

theorem wakeNWake_wakes (s : State) (h : s.blk.mode = 9 ∨ s.blk.power.trans = some 9) :
    ∃ t, exec .wakeNWake s = .next t ∧ t.blk.power.wake = true ∧ s.Keeps t [] [.power] := by
  refine ⟨s.run fun b => b.wakeUp, rfl, ?_, State.keeps_run s _ _ _ ?_⟩
  · rw [State.run_blk, Block.updateAlert_power, Block.wakeUp_eq _ h, Block.setPower_power]
  · rw [Block.wakeUp_eq _ h]
    exact Block.keeps_setPower _ _ _ _ (by simp)

theorem wakeNWake_idle (s : State) (hm : s.blk.mode ≠ 9) (ht : s.blk.power.trans ≠ some 9) :
    ∃ t, exec .wakeNWake s = .next t ∧ s.Keeps t [] [] := by
  refine ⟨s.run fun b => b.wakeUp, rfl, State.keeps_run s _ _ _ ?_⟩
  rw [Block.wakeUp_idle _ hm ht]
  exact Block.Keeps.refl _ _ _

/-- Settles O8: WAKE_N acts in M9 and on the way there, and nowhere else. -/
theorem wakeLine : Obligations.WakeLine := by
  unfold Obligations.WakeLine
  exact ⟨wakeNWake_wakes, wakeNWake_idle⟩

end Sys2Proof.Machine
end

section
/-! VAUX_3V3 (R61) and the transceiver cages (R70): what switching the output, filling a cage and emptying it do. -/

namespace Sys2Proof.Machine

theorem Block.keeps_modl (b : Block) (u : ModuleUnit) (l : List Field) (ps : List Part) (h : .modl ∈ ps) :
    b.Keeps { b with modl := u } l ps := by
  refine ⟨fun _ _ _ => rfl, fun p hp => ?_⟩
  cases p with
  | modl => exact absurd h hp
  | queues => exact ⟨fun _ _ => rfl, rfl, rfl⟩
  | _ => rfl

/-! VAUX_3V3. -/

/-- The output is off after an overload. -/
def Block.cutVaux (b : Block) : Block := { b with modl := { b.modl with vauxOn := false, vauxOverload := true } }

theorem Block.vauxOverload_eq (b : Block) (hm : b.mode ≠ 0) (hv : b.modl.vauxOn = true) :
    b.vauxOverload = b.cutVaux.stick R.PWR_TROUBLE_VAUX_OVERLOAD :=
  if_neg (not_or.2 ⟨hm, by simp [hv]⟩)

theorem Block.vauxRetry_eq (b : Block) (hm : b.mode ≠ 0) :
    b.vauxRetry = { b with modl := { b.modl with vauxOn := true, vauxOverload := false } } := if_neg hm

/-- A frame without the connectors keeps the output as it is. -/
theorem Block.Keeps.vauxOn_eq {b c : Block} {l : List Field} {ps : List Part} (h : b.Keeps c l ps) (hp : .modl ∉ ps) :
    c.modl.vauxOn = b.modl.vauxOn := by
  have hoff : c.modl.offAlert.vauxOn = b.modl.offAlert.vauxOn := congrArg ModuleUnit.vauxOn (h.2 .modl hp)
  exact hoff

theorem vauxOverload_switches_off (s : State) (hm : s.blk.mode ≠ 0) (hv : s.blk.modl.vauxOn = true) :
    ∃ t, exec .vauxOverload s = .next t ∧ t.blk.modl.vauxOn = false ∧ t.blk.get R.PWR_TROUBLE_VAUX_OVERLOAD = 1 ∧
      s.Keeps t (R.PWR_TROUBLE_VAUX_OVERLOAD :: recordFields) [.modl, .records] := by
  have hstick := s.blk.cutVaux.keeps_stick R.PWR_TROUBLE_VAUX_OVERLOAD 0
  refine ⟨s.run fun b => b.vauxOverload, rfl, ?_, ?_, State.keeps_run s _ _ _ ?_⟩
  · rw [State.run_blk, Block.updateAlert_modl_vauxOn, Block.vauxOverload_eq _ hm hv]
    exact hstick.vauxOn_eq (by decide)
  · rw [State.run_get _ _ _ (by decide), Block.vauxOverload_eq _ hm hv]
    exact Block.stick_get_one _ _ rfl (by decide) (by decide)
  · rw [Block.vauxOverload_eq _ hm hv]
    exact (Block.keeps_modl _ _ _ _ (by simp)).trans (hstick.widen _ _ (List.Subset.refl _) (by simp))

theorem vauxRetry_switches_on (s : State) (hm : s.blk.mode ≠ 0) :
    ∃ t, exec .vauxRetry s = .next t ∧ t.blk.modl.vauxOn = true ∧ t.blk.modl.vauxOverload = false ∧ s.Keeps t [] [.modl] := by
  refine ⟨s.run fun b => b.vauxRetry, rfl, ?_, ?_, State.keeps_run s _ _ _ ?_⟩
  · rw [State.run_blk, Block.updateAlert_modl_vauxOn, Block.vauxRetry_eq _ hm]
  · rw [State.run_blk, Block.updateAlert_modl_vauxOverload, Block.vauxRetry_eq _ hm]
  · rw [Block.vauxRetry_eq _ hm]
    exact Block.keeps_modl _ _ _ _ (by simp)

/-! The ration's queue of enable requests (R448, R460). -/

/-- The registers that show the ration. -/
def rationFields : List Field := [R.PWR_RATION_WINDOW, R.PWR_RATION_QUEUED]

@[simp] theorem Block.showRation_modl (b : Block) : b.showRation.modl = b.modl := rfl
@[simp] theorem Block.showRation_power (b : Block) : b.showRation.power = b.power := rfl

theorem Block.keeps_showRation (b : Block) (ps : List Part) : b.Keeps b.showRation rationFields ps :=
  (Block.keeps_set b R.PWR_RATION_WINDOW _ _ _ (by decide)).trans (Block.keeps_set _ R.PWR_RATION_QUEUED _ _ _ (by decide))

/-- The requests other than transmit starts, with one for the load. -/
def Block.queueLoad (b : Block) (l : Load) : Block :=
  if b.power.reqs.any (fun x => x.load = l) then b
  else b.setPower { b.power with reqs := b.power.reqs ++ [{ load := l, deadline := none }] }

theorem Block.request_eq (b : Block) (l : Load) : b.request l none = if b.loaded l then b else (b.queueLoad l).showRation := rfl

theorem Block.queueLoad_modl (b : Block) (l : Load) : (b.queueLoad l).modl = b.modl := by
  unfold Block.queueLoad
  split
  · rfl
  · exact Block.setPower_modl b _

theorem Block.request_modl (b : Block) (l : Load) : (b.request l none).modl = b.modl := by
  rw [Block.request_eq]
  split
  · rfl
  · rw [Block.showRation_modl, Block.queueLoad_modl]

theorem Block.keeps_request (b : Block) (l : Load) : b.Keeps (b.request l none) rationFields [.power] := by
  have hq : b.Keeps (b.queueLoad l) rationFields [.power] :=
    Block.keeps_ite (Block.Keeps.refl _ _ _) (Block.keeps_setPower _ _ _ _ (by simp))
  rw [Block.request_eq]
  exact Block.keeps_ite (Block.Keeps.refl _ _ _) (hq.trans (Block.keeps_showRation _ _))

/-- Either a request for the load waits already, or the new one does. -/
theorem Block.queueLoad_waits (b : Block) (l : Load) : ∃ r ∈ (b.queueLoad l).power.reqs, r.load = l := by
  unfold Block.queueLoad
  split
  · next h => simpa using h
  · exact ⟨{ load := l, deadline := none }, by simp, rfl⟩

theorem Block.request_waits (b : Block) (l : Load) (h : b.loaded l = false) : ∃ r ∈ (b.request l none).power.reqs, r.load = l := by
  rw [Block.request_eq, h, if_neg Bool.false_ne_true, Block.showRation_power]
  exact b.queueLoad_waits l

/-! The cages. -/

theorem Block.modCage_getD (b : Block) (j : Nat) (f : Cage → Cage) (h : j < b.modl.cages.length) :
    (b.modCage j f).modl.cages.getD j {} = f (b.modl.cages.getD j {}) := by
  simp [Block.modCage, List.getD, h]

theorem Block.keeps_modCage (b : Block) (j : Nat) (f : Cage → Cage) (l : List Field) (ps : List Part) (h : .modl ∈ ps) :
    b.Keeps (b.modCage j f) l ps := Block.keeps_modl b _ l ps h

/-- A cage that holds a transceiver just inserted: unpowered, and refused if it declares more than 1.5 W (R70). -/
def Cage.inserted (declared : Nat) : Cage := { present := true, refused := decide (1500 < declared), declared := declared }

/-- The cage takes the transceiver, before its power is asked for. -/
def Block.fillCage (b : Block) (j declared : Nat) : Block := b.modCage j (fun _ => Cage.inserted declared)

theorem Block.sfpInsert_eq (b : Block) (j declared : Nat) :
    b.sfpInsert j declared =
      if j < 2 ∧ (Cage.inserted declared).refused = false ∧ b.cageEnabled j ∧ cageMode b.mode then
        (b.fillCage j declared).request (.cage j) none
      else b.fillCage j declared := rfl

theorem Block.sfpInsert_modl (b : Block) (j declared : Nat) : (b.sfpInsert j declared).modl = (b.fillCage j declared).modl := by
  rw [Block.sfpInsert_eq]
  split
  · exact Block.request_modl _ _
  · rfl

theorem Block.keeps_sfpInsert (b : Block) (j declared : Nat) : b.Keeps (b.sfpInsert j declared) rationFields [.modl, .power] := by
  rw [Block.sfpInsert_eq]
  have hfill : b.Keeps (b.fillCage j declared) rationFields [.modl, .power] := Block.keeps_modCage _ _ _ _ _ (by simp)
  exact Block.keeps_ite (hfill.trans ((Block.keeps_request _ _).widen _ _ (List.Subset.refl _) (by simp))) hfill

/-- The cage is empty and no request for it waits, before the ration is shown. -/
def Block.emptyCage (b : Block) (j : Nat) : Block :=
  (b.modCage j (fun _ => {})).setPower { b.power with reqs := b.power.reqs.filter (fun r => r.load ≠ .cage j) }

theorem Block.sfpRemove_eq (b : Block) (j : Nat) : b.sfpRemove j = (b.emptyCage j).showRation := rfl

theorem Block.keeps_sfpRemove (b : Block) (j : Nat) : b.Keeps (b.sfpRemove j) rationFields [.modl, .power] :=
  ((Block.keeps_modCage _ _ _ _ _ (by simp)).trans (Block.keeps_setPower _ _ _ _ (by simp))).trans (Block.keeps_showRation _ _)

theorem sfpInsert_fills (s : State) (j declared : Nat) (h : j < s.blk.modl.cages.length) :
    ∃ t, exec (.sfpInsert j declared) s = .next t ∧ t.blk.modl.cages.getD j {} = Cage.inserted declared ∧
      s.Keeps t rationFields [.modl, .power] := by
  refine ⟨s.run fun b => b.sfpInsert j declared, rfl, ?_, State.keeps_run s _ _ _ (s.blk.keeps_sfpInsert j declared)⟩
  rw [State.run_blk, Block.updateAlert_modl_cages, Block.sfpInsert_modl]
  exact s.blk.modCage_getD j _ h

/-- The cage has no power yet, so the request is not idle. -/
theorem sfpInsert_requests (s : State) (j declared : Nat) (hj : j < 2) (h : j < s.blk.modl.cages.length) (hd : declared ≤ 1500)
    (he : s.blk.cageEnabled j = true) (hm : cageMode s.blk.mode = true) :
    ∃ t, exec (.sfpInsert j declared) s = .next t ∧ ∃ r ∈ t.blk.power.reqs, r.load = .cage j := by
  have hunpowered : (s.blk.fillCage j declared).loaded (.cage j) = false :=
    congrArg Cage.powered (s.blk.modCage_getD j (fun _ => Cage.inserted declared) h)
  have hadmitted : (Cage.inserted declared).refused = false := decide_eq_false (Nat.not_lt.2 hd)
  refine ⟨s.run fun b => b.sfpInsert j declared, rfl, ?_⟩
  rw [State.run_blk, Block.updateAlert_power, Block.sfpInsert_eq, if_pos ⟨hj, hadmitted, he, hm⟩]
  exact Block.request_waits _ _ hunpowered

theorem sfpRemove_empties (s : State) (j : Nat) (h : j < s.blk.modl.cages.length) :
    ∃ t, exec (.sfpRemove j) s = .next t ∧ t.blk.modl.cages.getD j {} = {} ∧ s.Keeps t rationFields [.modl, .power] := by
  refine ⟨s.run fun b => b.sfpRemove j, rfl, ?_, State.keeps_run s _ _ _ (s.blk.keeps_sfpRemove j)⟩
  rw [State.run_blk, Block.updateAlert_modl_cages, Block.sfpRemove_eq, Block.showRation_modl]
  exact s.blk.modCage_getD j _ h

end Sys2Proof.Machine
end

section
/-! The TAP (R66): TRST_N and the instructions; and the settlement of `Obligations.ConnectorsAndTap`. -/

namespace Sys2Proof.Machine

@[simp] theorem Block.updateAlert_modl_trstN (b : Block) : b.updateAlert.modl.trstN = b.modl.trstN := by
  rw [Block.updateAlert_modl_pins]

/-! TRST_N. -/

theorem Block.tapReset_low (b : Block) (h : b.modl.trstN = true) :
    b.tapReset = { b with modl := { b.modl with trstN := false, tap := .idcode, tdo := 0 } } := if_pos h

theorem Block.tapReset_high (b : Block) (h : b.modl.trstN = false) :
    b.tapReset = { b with modl := { b.modl with trstN := true } } := if_neg (by simp [h])

theorem tapReset_holds (s : State) (h : s.blk.modl.trstN = true) :
    ∃ t, exec .tapReset s = .next t ∧ t.blk.modl.tap = .idcode ∧ t.blk.modl.trstN = false ∧ s.Keeps t [] [.modl] := by
  refine ⟨s.run fun b => b.tapReset, rfl, ?_, ?_, State.keeps_run s _ _ _ ?_⟩
  · rw [State.run_blk, Block.updateAlert_modl_tap, Block.tapReset_low _ h]
  · rw [State.run_blk, Block.updateAlert_modl_trstN, Block.tapReset_low _ h]
  · rw [Block.tapReset_low _ h]
    exact Block.keeps_modl _ _ _ _ (by simp)

theorem tapReset_releases (s : State) (h : s.blk.modl.trstN = false) :
    ∃ t, exec .tapReset s = .next t ∧ t.blk.modl.tap = s.blk.modl.tap ∧ t.blk.modl.trstN = true ∧ s.Keeps t [] [.modl] := by
  refine ⟨s.run fun b => b.tapReset, rfl, ?_, ?_, State.keeps_run s _ _ _ ?_⟩
  · rw [State.run_blk, Block.updateAlert_modl_tap, Block.tapReset_high _ h]
  · rw [State.run_blk, Block.updateAlert_modl_trstN, Block.tapReset_high _ h]
  · rw [Block.tapReset_high _ h]
    exact Block.keeps_modl _ _ _ _ (by simp)

/-! The four instructions are `tapTo` with their own values. -/

theorem Block.tapTo_eq (b : Block) (i : TapInstr) (tdo boundary : Nat) (hm : b.mode ≠ 0) (ht : b.modl.trstN = true) :
    b.tapTo i tdo boundary = { b with modl := { b.modl with tap := i, tdo := tdo, boundary := boundary } } :=
  if_neg (not_or.2 ⟨hm, by simp [ht]⟩)

theorem Block.tapTo_idle (b : Block) (i : TapInstr) (tdo boundary : Nat) (h : b.mode = 0 ∨ b.modl.trstN = false) :
    b.tapTo i tdo boundary = b := if_pos h

/-- The TAP is given an instruction, with the values that TDO and the boundary register take for it. -/
def State.tapTo (s : State) (i : TapInstr) (tdo boundary : Nat) : State := s.run fun _ => s.blk.tapTo i tdo boundary

/-- A command that acts on the block acts on the block of its own state. -/
theorem State.run_const (s : State) (f : Block → Block) : s.run f = s.run fun _ => f s.blk := rfl

theorem exec_tapBypass (s : State) : exec .tapBypass s = .next (s.tapTo .bypass 0 s.blk.modl.boundary) :=
  congrArg Host.Outcome.next (s.run_const fun b => b.tapBypass)

theorem exec_tapSamplePreload (s : State) (inputs preload : Nat) :
    exec (.tapSamplePreload inputs preload) s = .next (s.tapTo .sample (s.blk.sampled inputs) (preload % 2 ^ 33)) :=
  congrArg Host.Outcome.next (s.run_const fun b => b.tapSample inputs preload)

theorem exec_tapExtest (s : State) (inputs : Nat) :
    exec (.tapExtest inputs) s = .next (s.tapTo .extest (s.blk.sampled inputs) s.blk.modl.boundary) :=
  congrArg Host.Outcome.next (s.run_const fun b => b.tapExtest inputs)

theorem exec_tapIdcode (s : State) : exec .tapIdcode s = .next (s.tapTo .idcode 0x15120C4B s.blk.modl.boundary) :=
  congrArg Host.Outcome.next (s.run_const fun b => b.tapIdcode)

section
variable (s : State) (i : TapInstr) (tdo boundary : Nat)

/-- Without supply, or with TRST_N low, no instruction is taken. -/
theorem State.keeps_tapTo_idle (h : s.blk.mode = 0 ∨ s.blk.modl.trstN = false) : s.Keeps (s.tapTo i tdo boundary) [] [] := by
  refine State.keeps_run s _ _ _ ?_
  rw [Block.tapTo_idle _ i tdo boundary h]
  exact Block.Keeps.refl _ _ _

variable (hm : s.blk.mode ≠ 0) (ht : s.blk.modl.trstN = true)
include hm ht

theorem State.tapTo_tap : (s.tapTo i tdo boundary).blk.modl.tap = i := by
  rw [State.tapTo, State.run_blk, Block.updateAlert_modl_tap, Block.tapTo_eq _ i tdo boundary hm ht]

theorem State.tapTo_tdo : (s.tapTo i tdo boundary).blk.modl.tdo = tdo := by
  rw [State.tapTo, State.run_blk, Block.updateAlert_modl_tdo, Block.tapTo_eq _ i tdo boundary hm ht]

theorem State.tapTo_boundary : (s.tapTo i tdo boundary).blk.modl.boundary = boundary := by
  rw [State.tapTo, State.run_blk, Block.updateAlert_modl_boundary, Block.tapTo_eq _ i tdo boundary hm ht]

theorem State.keeps_tapTo : s.Keeps (s.tapTo i tdo boundary) [] [.modl] := by
  refine State.keeps_run s _ _ _ ?_
  rw [Block.tapTo_eq _ i tdo boundary hm ht]
  exact Block.keeps_modl _ _ _ _ (by simp)

end

theorem tapInstruction_idle (s : State) (c : Instr) (inputs preload : Nat) (h : s.blk.mode = 0 ∨ s.blk.modl.trstN = false)
    (hc : c ∈ [Instr.tapBypass, .tapSamplePreload inputs preload, .tapExtest inputs, .tapIdcode]) :
    ∃ t, exec c s = .next t ∧ s.Keeps t [] [] := by
  have hidle (i : TapInstr) (tdo boundary : Nat) := s.keeps_tapTo_idle i tdo boundary h
  simp only [List.mem_cons, List.not_mem_nil, or_false] at hc
  obtain rfl | rfl | rfl | rfl := hc
  · exact ⟨_, exec_tapBypass s, hidle _ _ _⟩
  · exact ⟨_, exec_tapSamplePreload s inputs preload, hidle _ _ _⟩
  · exact ⟨_, exec_tapExtest s inputs, hidle _ _ _⟩
  · exact ⟨_, exec_tapIdcode s, hidle _ _ _⟩

/-- Settles O15: VAUX_3V3, then the cages, then TRST_N and the TAP's instructions. -/
theorem connectorsAndTap : Obligations.ConnectorsAndTap := by
  unfold Obligations.ConnectorsAndTap
  refine ⟨vauxOverload_switches_off, vauxRetry_switches_on, sfpInsert_fills, sfpInsert_requests, sfpRemove_empties,
    tapReset_holds, tapReset_releases, fun s hm ht => ⟨?_, ?_, ?_, ?_⟩, tapInstruction_idle⟩
  · exact ⟨_, exec_tapBypass s, s.tapTo_tap _ _ _ hm ht, s.keeps_tapTo _ _ _ hm ht⟩
  · intro inputs preload
    exact ⟨_, exec_tapSamplePreload s inputs preload, s.tapTo_tap _ _ _ hm ht, s.tapTo_tdo _ _ _ hm ht,
      s.tapTo_boundary _ _ _ hm ht, s.keeps_tapTo _ _ _ hm ht⟩
  · intro inputs
    exact ⟨_, exec_tapExtest s inputs, s.tapTo_tap _ _ _ hm ht, s.tapTo_boundary _ _ _ hm ht, s.keeps_tapTo _ _ _ hm ht⟩
  · exact ⟨_, exec_tapIdcode s, s.tapTo_tap _ _ _ hm ht, s.tapTo_tdo _ _ _ hm ht, s.keeps_tapTo _ _ _ hm ht⟩

end Sys2Proof.Machine
end

section
/-! The OTP (R94, R481, R482): what each command makes of it, that programming only adds to it, and the settlement of
`Obligations.OtpGrows`. -/

namespace Sys2Proof.Machine

/-! `Otp.Grown` is a preorder. -/

theorem Otp.Grown.refl (o : Otp) : o.Grown o := ⟨fun _ _ h => h, fun _ h => h, fun _ h => h, fun _ => Nat.le_refl _⟩

theorem Otp.Grown.trans {o p q : Otp} (h : o.Grown p) (k : p.Grown q) : o.Grown q := by
  obtain ⟨howner, horev, hvrev, hroll⟩ := h
  obtain ⟨kowner, korev, kvrev, kroll⟩ := k
  exact ⟨fun s x e => kowner s x (howner s x e), fun s e => korev s (horev s e), fun v e => kvrev v (hvrev v e),
    fun c => (hroll c).trans (kroll c)⟩

/-! The commands that program OTP. -/

/-- A revocation leaves those made before. -/
theorem getD_set_true (l : List Bool) (i j : Nat) (h : l.getD j false = true) : (l.set i true).getD j false = true := by
  rw [List.getD_eq_getElem?_getD] at *
  rw [List.getElem?_set]
  split
  · split
    · rfl
    · simp_all
  · exact h

theorem enrollOwner_grown (slot confirm : Nat) (b : Block) (o : Otp) : o.Grown (enrollOwner slot confirm b o).2 := by
  unfold enrollOwner
  dsimp only
  split
  case isTrue h =>
    have hblank : o.owner.getD (slot % 4) none = none := by
      simp only [Block.enrollOk, Bool.and_eq_true, Option.isNone_iff_eq_none] at h
      obtain ⟨⟨-, hblank⟩, -⟩ := h
      exact hblank
    refine ⟨fun s k hs => ?_, fun _ h => h, fun _ h => h, fun _ => Nat.le_refl _⟩
    have hne : slot % 4 ≠ s := by
      rintro rfl
      rw [hblank] at hs
      cases hs
    rw [List.getD_eq_getElem?_getD, List.getElem?_set_ne hne, ← List.getD_eq_getElem?_getD]
    exact hs
  case isFalse => exact Otp.Grown.refl o

theorem revokeOwner_grown (slot confirm : Nat) (b : Block) (o : Otp) : o.Grown (revokeOwner slot confirm b o).2 := by
  unfold revokeOwner
  dsimp only
  split
  · exact ⟨fun _ _ h => h, fun s => getD_set_true _ _ s, fun _ h => h, fun _ => Nat.le_refl _⟩
  · exact Otp.Grown.refl o

theorem revokeVendor_grown (key confirm : Nat) (b : Block) (o : Otp) : o.Grown (revokeVendor key confirm b o).2 := by
  unfold revokeVendor
  dsimp only
  split
  · exact ⟨fun _ _ h => h, fun _ h => h, fun v => getD_set_true _ _ v, fun _ => Nat.le_refl _⟩
  · exact Otp.Grown.refl o

/-- The counters are never lowered (R94). -/
theorem raiseCounters_ge (i : Image) (l : List Nat) (c : Nat) : l.getD c 0 ≤ (raiseCounters i l).getD c 0 := by
  rw [List.getD_eq_getElem?_getD, List.getD_eq_getElem?_getD, raiseCounters, List.getElem?_map, List.getElem?_zipIdx]
  cases l[c]? with
  | none => exact Nat.zero_le _
  | some x => exact Nat.le_max_left _ _

theorem rollbackCommit_grown (b : Block) (o : Otp) : o.Grown (rollbackCommit b o).2 := by
  unfold rollbackCommit
  split
  · exact Otp.Grown.refl o
  · next i _ =>
    dsimp only
    split_ifs
    · exact Otp.Grown.refl o
    · exact Otp.Grown.refl o
    · exact Otp.Grown.refl o
    · exact ⟨fun _ _ h => h, fun _ h => h, fun _ h => h, raiseCounters_ge i o.rollback⟩

/-! The register interface: IMG_CMD and SEC_CMD alone program OTP (R102, R492). -/

theorem imgCmd_grown (code slice : Nat) (b : Block) (o : Otp) : o.Grown (imgCmd code slice b o).2 := by
  unfold imgCmd
  split
  case h_6 => exact rollbackCommit_grown b o
  all_goals exact Otp.Grown.refl o

theorem secCmd_grown (code slot confirm : Nat) (b : Block) (o : Otp) : o.Grown (secCmd code slot confirm b o).2 := by
  unfold secCmd
  split
  case h_3 => exact enrollOwner_grown slot confirm b o
  case h_4 => exact revokeOwner_grown slot confirm b o
  case h_5 => exact revokeVendor_grown slot confirm b o
  all_goals exact Otp.Grown.refl o

theorem busWrite_grown (p : Path) (a v : Nat) (b : Block) (o : Otp) : o.Grown (busWrite p a v b o).2 := by
  unfold busWrite
  split
  · exact Otp.Grown.refl o
  split
  · exact Otp.Grown.refl o
  split
  · exact Otp.Grown.refl o
  split
  · exact Otp.Grown.refl o
  split
  · exact Otp.Grown.refl o
  · exact iteInduction (motive := fun r : Block × Otp => o.Grown r.2) (fun _ => imgCmd_grown _ _ b o) fun _ =>
      iteInduction (motive := fun r : Block × Otp => o.Grown r.2) (fun _ => secCmd_grown _ _ _ b o) fun _ =>
        iteInduction (motive := fun r : Block × Otp => o.Grown r.2) (fun _ => Otp.Grown.refl o) fun _ => Otp.Grown.refl o

/-- A write above the node's own blocks leaves the OTP alone. -/
theorem busWrite_otp (p : Path) (a v : Nat) (b : Block) (o : Otp) (h : 0x1000000 ≤ a) : (busWrite p a v b o).2 = o := by
  have himg : a ≠ 0x30004 := by omega
  have hsec : a ≠ 0xF0008 := by omega
  unfold busWrite
  split
  · rfl
  split
  · rfl
  split
  · rfl
  split
  · rfl
  split
  · rfl
  split <;> rfl

theorem writeRun_grown (l : List Nat) (a : Nat) (b : Block) (o : Otp) : o.Grown (writeRun l a b o).2.2 := by
  induction l generalizing a b o with
  | nil => exact Otp.Grown.refl o
  | cons v l ih =>
    have hv := busWrite_grown .host a v b o
    unfold writeRun
    dsimp only
    split
    · exact hv
    · exact hv.trans (ih _ _ _)

/-- What one operation of a request answers, whether it was taken, and what it makes of the block and the OTP (R376): READ, WRITE, STAGE. -/
def opResult (op n a : Nat) (words : List Nat) (b : Block) (o : Otp) : List Byte × Bool × Block × Otp :=
  if op = 1 then (opStatus 0 ++ (readRun o n a b).1, true, (readRun o n a b).2, o)
  else if op = 2 then
    (opStatus (if (writeRun words a b o).1 then 0 else 1), (writeRun words a b o).1, (writeRun words a b o).2.1,
      (writeRun words a b o).2.2)
  else (opStatus (if (b.stageRun a words).1 then 0 else 1), (b.stageRun a words).1, (b.stageRun a words).2, o)

theorem opResult_grown (op n a : Nat) (words : List Nat) (b : Block) (o : Otp) : o.Grown (opResult op n a words b o).2.2.2 := by
  unfold opResult
  split
  · exact Otp.Grown.refl o
  split
  · exact writeRun_grown words a b o
  · exact Otp.Grown.refl o

theorem runOps_grown (fuel : Nat) (l : List Byte) (stopped : Bool) (b : Block) (o : Otp) :
    o.Grown (runOps fuel l stopped b o).2.2 := by
  induction fuel generalizing l stopped b o with
  | zero => exact Otp.Grown.refl o
  | succ n ih =>
    unfold runOps
    refine iteInduction (motive := fun r : List Byte × Block × Otp => o.Grown r.2.2) (fun _ => Otp.Grown.refl o) fun _ => ?_
    refine iteInduction (motive := fun r : List Byte × Block × Otp => o.Grown r.2.2) (fun _ => Otp.Grown.refl o) fun _ => ?_
    refine iteInduction (motive := fun r : List Byte × Block × Otp => o.Grown r.2.2) (fun _ => ih _ _ _ _) fun _ => ?_
    refine iteInduction (motive := fun r : List Byte × Block × Otp => o.Grown r.2.2) (fun _ => ih _ _ _ _) fun _ => ?_
    have hop := opResult_grown (leAt l 0 1) (beNum (slice l 2 2)) (beNum (slice l 4 4))
      ((List.range (beNum (slice l 2 2))).map (fun i => beNum (slice l (8 + 4 * i) 4))) b o
    unfold opResult at hop
    refine iteInduction (motive := fun r : List Byte × Block × Otp => o.Grown r.2.2) (fun _ => hop) fun _ => ?_
    exact hop.trans (ih _ _ _ _)

theorem regRequest_grown (port : Nat) (msg : List Byte) (b : Block) (o : Otp) : o.Grown (regRequest port msg b o).2 := by
  generalize h : regRequest port msg b o = r
  unfold regRequest at h
  split at h
  · exact h ▸ Otp.Grown.refl o
  split at h
  · exact h ▸ Otp.Grown.refl o
  split at h
  · exact h ▸ Otp.Grown.refl o
  dsimp only at h
  split at h
  · split at h <;> exact h ▸ Otp.Grown.refl o
  split at h
  · exact h ▸ Otp.Grown.refl o
  split at h <;> exact h ▸ runOps_grown _ _ _ _ o

/-- An access that is not taken leaves the OTP alone (R497). -/
theorem viaBus_grown (f : Block → Otp → Block × Otp) (b : Block) (o : Otp) (h : o.Grown (f b o).2) :
    o.Grown (viaBus f b o).2 := by
  unfold viaBus
  split
  · exact h
  · exact Otp.Grown.refl o

theorem viaBus_otp (f : Block → Otp → Block × Otp) (b : Block) (o : Otp) (h : (f b o).2 = o) : (viaBus f b o).2 = o := by
  unfold viaBus
  split
  · exact h
  · rfl

/-! What each command makes of the OTP. -/

/-- The OTP after a command: six commands alone can change it. -/
def otpAfter (c : Instr) (b : Block) (o : Otp) : Otp :=
  match c with
  | .imgCmdRollbackCommit => (viaBus (imgCmd 5 0) b o).2
  | .secCmdEnrollOwner slot confirm => (viaBus (secCmd 2 slot confirm) b o).2
  | .secCmdRevokeOwner slot confirm => (viaBus (secCmd 3 slot confirm) b o).2
  | .secCmdRevokeVendor key confirm => (viaBus (secCmd 4 key confirm) b o).2
  | .registerWrite p a v => (viaBus (busWrite p a.toNat v.toNat) b o).2
  | .regRequest port msg => (viaBus (regRequest port msg) b o).2
  | _ => o

theorem otpAfter_grown (c : Instr) (b : Block) (o : Otp) : o.Grown (otpAfter c b o) := by
  unfold otpAfter
  split
  · exact viaBus_grown _ b o (imgCmd_grown 5 0 b o)
  · exact viaBus_grown _ b o (secCmd_grown 2 _ _ b o)
  · exact viaBus_grown _ b o (secCmd_grown 3 _ _ b o)
  · exact viaBus_grown _ b o (secCmd_grown 4 _ _ b o)
  · exact viaBus_grown _ b o (busWrite_grown _ _ _ b o)
  · exact viaBus_grown _ b o (regRequest_grown _ _ b o)
  · exact Otp.Grown.refl o

theorem readAccess_otp (p : Path) (a : Nat) (b : Block) (o : Otp) : (readAccess p a b o).2 = o := rfl

theorem reservedAccess_otp (a size : Nat) (write : Bool) (b : Block) (o : Otp) : (reservedAccess a size write b o).2 = o :=
  iteInduction (motive := fun r : Block × Otp => r.2 = o) (fun _ => rfl) fun _ =>
    iteInduction (motive := fun r : Block × Otp => r.2 = o) (fun _ => rfl) fun _ => rfl

theorem memDataAccess_otp (slice spindle : Nat) (value : Option Word) (b : Block) (o : Otp) :
    (memDataAccess slice spindle value b o).2 = o := by
  unfold memDataAccess
  cases value with
  | none => rfl
  | some v => exact busWrite_otp .host _ _ b o (by unfold debugAddr; omega)

theorem exec_otp (c : Instr) (s t : State) (h : exec c s = .next t) : t.otp = otpAfter c s.blk s.otp := by
  cases c with
  | verifyStagedDone readOk => cases h; rfl
  | counterLowRead p a => cases h; exact viaBus_otp _ _ _ (readAccess_otp p _ _ _)
  | reservedAccess a size write => cases h; exact viaBus_otp _ _ _ (reservedAccess_otp _ size write _ _)
  | debugStep slice spindle => cases h; exact viaBus_otp _ _ _ (busWrite_otp .host _ _ _ _ (by unfold debugAddr; omega))
  | clcHaltWrite slice cluster value => cases h; exact viaBus_otp _ _ _ (busWrite_otp .host _ _ _ _ (by unfold haltAddr; omega))
  | dbgMemDataAccess slice spindle value => cases h; exact viaBus_otp _ _ _ (memDataAccess_otp slice spindle value _ _)
  | secCmdNop => cases h; exact viaBus_otp _ _ _ rfl
  | secCmdAttest => cases h; exact viaBus_otp _ _ _ rfl
  | secCmdEpochAdvance => cases h; exact viaBus_otp _ _ _ rfl
  | secCmdBar => cases h; exact viaBus_otp _ _ _ rfl
  | secCmdUnbar => cases h; exact viaBus_otp _ _ _ rfl
  | _ => cases h; rfl

/-- Settles O3: each command answers the OTP of `otpAfter`, which has grown from the one before. -/
theorem otpGrows : Obligations.OtpGrows := by
  unfold Obligations.OtpGrows
  refine ⟨fun s t h => ?_, fun c s t h hne => ?_⟩
  · unfold step at h
    split at h
    · cases h
      exact Otp.Grown.refl _
    · next c rest _ =>
      rw [exec_otp c _ t h]
      exact otpAfter_grown c _ _
  · rw [exec_otp c s t h] at hne
    unfold otpAfter at hne
    split at hne
    · exact .inl rfl
    · exact .inr (.inl ⟨_, _, rfl⟩)
    · exact .inr (.inr (.inl ⟨_, _, rfl⟩))
    · exact .inr (.inr (.inr (.inl ⟨_, _, rfl⟩)))
    · exact .inr (.inr (.inr (.inr (.inl ⟨_, _, _, rfl⟩))))
    · exact .inr (.inr (.inr (.inr (.inr ⟨_, _, rfl⟩))))
    · exact absurd rfl hne

end Sys2Proof.Machine
end

section
/-! The image loader's shared operations (R96–R98, R103, R104, R113): a change of the loader alone, the boot record, the state and bytes of
a bank, and a command that fails. -/

namespace Sys2Proof.Machine

theorem Block.keeps_setImage (b : Block) (u : ImageUnit) (l : List Field) (ps : List Part) (h : .image ∈ ps) :
    b.Keeps (b.setImage u) l ps :=
  ⟨fun _ _ _ => rfl, fun p hp => by cases p <;> simp_all [Part.same, Block.q]⟩

theorem Block.Keeps.image_eq {b c : Block} {l : List Field} {ps : List Part} (h : b.Keeps c l ps) (hp : .image ∉ ps) :
    c.image = b.image := h.2 .image hp

/-! The boot record (R96): the copy in use is valid, and the one written next comes after it. -/

theorem bootCopy_fold_mem (l : List (BootRecord × Nat)) (best : Option (Nat × BootRecord)) (n : Nat) (r : BootRecord)
    (h : l.foldl (fun best e => match best with
      | some (_, r) => if r.seq < e.1.seq then some (e.2, e.1) else best
      | none => some (e.2, e.1)) best = some (n, r)) : best = some (n, r) ∨ (r, n) ∈ l := by
  induction l generalizing best with
  | nil => exact .inl h
  | cons e l ih =>
    obtain hbest | hmem := ih _ h
    · cases best with
      | none =>
        obtain ⟨rfl, rfl⟩ := Prod.mk.inj (Option.some.inj hbest)
        exact .inr (by simp)
      | some x =>
        dsimp only at hbest
        split at hbest
        · obtain ⟨rfl, rfl⟩ := Prod.mk.inj (Option.some.inj hbest)
          exact .inr (by simp)
        · exact .inl hbest
    · exact .inr (List.mem_cons_of_mem _ hmem)

theorem bootCopy_some (l : List BootRecord) (n : Nat) (r : BootRecord) (h : bootCopy l = some (n, r)) : r.valid = true ∧ r ∈ l := by
  obtain h | h := bootCopy_fold_mem _ _ _ _ h
  · cases h
  · obtain ⟨hmem, hvalid⟩ := List.mem_filter.1 h
    exact ⟨hvalid, (List.mem_zipIdx' hmem).2 ▸ List.getElem_mem _⟩

theorem bootCopy_single (r : BootRecord) (h : r.valid = true) : bootCopy [r] = some (0, r) := by
  simp [bootCopy, h]

/-- Of two valid copies the one with the higher sequence is used, the first where they agree. -/
theorem bootCopy_pair (x y : BootRecord) (hx : x.valid = true) (hy : y.valid = true) :
    bootCopy [x, y] = if x.seq < y.seq then some (1, y) else some (0, x) := by
  simp [bootCopy, hx, hy]

/-- The copy that an update writes (R96). -/
def Block.nextRecord (b : Block) (trial : Bool) : BootRecord :=
  let r : BootRecord := { seq := match bootCopy b.image.records with | some (_, r) => (r.seq + 1) % 2 ^ 32 | none => 1,
                          stateA := b.bankState .a, stateB := b.bankState .b, stateGolden := b.bankState .golden, trial := trial }
  { r with crc := crc32 r.bytes }

/-- The copies after an update: the new one, and the one that was in use. -/
def Block.nextRecords (b : Block) (trial : Bool) : List BootRecord :=
  match bootCopy b.image.records with
  | some (0, x) => [x, b.nextRecord trial]
  | some (_, x) => [b.nextRecord trial, x]
  | none => [b.nextRecord trial]

theorem Block.putRecord_eq (b : Block) (trial : Bool) :
    b.putRecord trial = b.setImage { b.image with records := b.nextRecords trial } := rfl

theorem Block.nextRecord_valid (b : Block) (trial : Bool) : (b.nextRecord trial).valid = true := by
  simp [BootRecord.valid, Block.nextRecord, BootRecord.bytes]

/-- Which copies an update leaves, by the one that was in use. -/
theorem Block.nextRecords_cases (b : Block) (trial : Bool) :
    (bootCopy b.image.records = none ∧ b.nextRecords trial = [b.nextRecord trial]) ∨
      ∃ n x, bootCopy b.image.records = some (n, x) ∧ x ∈ b.image.records ∧ x.valid = true ∧
        (b.nextRecords trial = [x, b.nextRecord trial] ∨ b.nextRecords trial = [b.nextRecord trial, x]) := by
  unfold Block.nextRecords
  cases h : bootCopy b.image.records with
  | none => exact .inl ⟨rfl, rfl⟩
  | some e =>
    obtain ⟨n, x⟩ := e
    obtain ⟨hvalid, hmem⟩ := bootCopy_some _ _ _ h
    refine .inr ⟨n, x, rfl, hmem, hvalid, ?_⟩
    cases n with
    | zero => exact .inl rfl
    | succ n => exact .inr rfl

/-- The trial flag of the copy in use (R98, R99). -/
def trialFlag (l : List BootRecord) : Bool := match bootCopy l with | some (_, r) => r.trial | none => false

theorem Block.trialStarted_eq (b : Block) : b.trialStarted = trialFlag b.image.records := rfl

theorem trialFlag_single (r : BootRecord) (h : r.valid = true) : trialFlag [r] = r.trial := by
  rw [trialFlag, bootCopy_single r h]

theorem trialFlag_pair (x y : BootRecord) (hx : x.valid = true) (hy : y.valid = true) :
    trialFlag [x, y] = if x.seq < y.seq then y.trial else x.trial := by
  rw [trialFlag, bootCopy_pair x y hx hy]
  by_cases h : x.seq < y.seq
  · rw [if_pos h, if_pos h]
  · rw [if_neg h, if_neg h]

theorem Block.nextRecord_trial (b : Block) (trial : Bool) : (b.nextRecord trial).trial = trial := rfl

/-- An update that repeats the trial flag leaves it, even where the sequence wraps. -/
theorem Block.putRecord_trialStarted_same (b : Block) : (b.putRecord b.trialStarted).trialStarted = b.trialStarted := by
  have hnew := b.nextRecord_valid b.trialStarted
  rw [Block.putRecord_eq, Block.trialStarted_eq, Block.setImage_image]
  obtain ⟨-, hl⟩ | ⟨n, x, hsome, -, hvalid, hl⟩ := b.nextRecords_cases b.trialStarted
  · rw [hl, trialFlag_single _ hnew, Block.nextRecord_trial]
  · have hx : x.trial = b.trialStarted := by rw [Block.trialStarted, hsome]
    obtain hl | hl := hl
    · rw [hl, trialFlag_pair _ _ hvalid hnew, Block.nextRecord_trial, hx, ite_self]
    · rw [hl, trialFlag_pair _ _ hnew hvalid, Block.nextRecord_trial, hx, ite_self]

theorem Block.nextRecord_seq (b : Block) (trial : Bool) (n : Nat) (x : BootRecord) (h : bootCopy b.image.records = some (n, x)) :
    (b.nextRecord trial).seq = (x.seq + 1) % 2 ^ 32 := by
  simp [Block.nextRecord, h]

/-- Short of the sequence's wrap, an update shows its own trial flag. -/
theorem Block.putRecord_trialStarted (b : Block) (trial : Bool) (h : ∀ r ∈ b.image.records, r.seq + 1 < 2 ^ 32) :
    (b.putRecord trial).trialStarted = trial := by
  have hnew := b.nextRecord_valid trial
  rw [Block.putRecord_eq, Block.trialStarted_eq, Block.setImage_image]
  obtain ⟨-, hl⟩ | ⟨n, x, hsome, hmem, hvalid, hl⟩ := b.nextRecords_cases trial
  · rw [hl, trialFlag_single _ hnew, Block.nextRecord_trial]
  · have hseq : (b.nextRecord trial).seq = x.seq + 1 := by
      rw [b.nextRecord_seq trial n x hsome, Nat.mod_eq_of_lt (h x hmem)]
    obtain hl | hl := hl
    · rw [hl, trialFlag_pair _ _ hvalid hnew, if_pos (by omega), Block.nextRecord_trial]
    · rw [hl, trialFlag_pair _ _ hnew hvalid, if_neg (by omega), Block.nextRecord_trial]

/-- An update moves the sequences on by one at most. -/
theorem Block.nextRecords_seq (b : Block) (trial : Bool) (m : Nat) (h : ∀ r ∈ b.image.records, r.seq + 1 < m) (hm : 1 < m) :
    ∀ r ∈ b.nextRecords trial, r.seq < m := by
  have hx (x : BootRecord) (hmem : x ∈ b.image.records) : x.seq < m := by have := h x hmem; omega
  obtain ⟨hnone, hl⟩ | ⟨n, x, hsome, hmem, -, hl⟩ := b.nextRecords_cases trial
  · have hseq : (b.nextRecord trial).seq = 1 := by simp [Block.nextRecord, hnone]
    simp [hl, hseq, hm]
  · have hseq : (b.nextRecord trial).seq < m := by
      rw [b.nextRecord_seq trial n x hsome]
      exact lt_of_le_of_lt (Nat.mod_le _ _) (h x hmem)
    obtain hl | hl := hl <;> simp [hl, hseq, hx x hmem]

/-- The boot record holds nothing else of the loader. -/
theorem Block.keeps_putRecord (b : Block) (trial : Bool) (l : List Field) (ps : List Part) (h : .image ∈ ps) :
    b.Keeps (b.putRecord trial) l ps := b.keeps_setImage _ l ps h

@[simp] theorem Block.putRecord_bankState (b : Block) (trial : Bool) (k : Bank) : (b.putRecord trial).bankState k = b.bankState k := by
  cases k <;> rfl
@[simp] theorem Block.putRecord_bankBytes (b : Block) (trial : Bool) (k : Bank) : (b.putRecord trial).bankBytes k = b.bankBytes k := by
  cases k <;> rfl

/-! The state and the bytes of a bank (R97). -/

theorem Block.bankState_eq (b : Block) (k : Bank) : b.bankState k = b.get k.field := by cases k <;> rfl

theorem Bank.field_width (k : Bank) : k.field.width = 4 := by cases k <;> rfl

theorem Bank.field_key_ne {j k : Bank} (h : j ≠ k) : j.field.key ≠ k.field.key := by
  revert h
  cases j <;> cases k <;> decide

/-- The fields of the banks' states. -/
def bankFields : List Field := [R.IMG_BANK_STATE_STATE_A, R.IMG_BANK_STATE_STATE_B, R.IMG_BANK_STATE_STATE_GOLDEN]

theorem Bank.field_mem (k : Bank) : k.field ∈ bankFields := by cases k <;> simp [bankFields, Bank.field]

theorem Block.set_bankState_self (b : Block) (k : Bank) (v : Nat) : (b.set k.field v).bankState k = v % 16 := by
  rw [Block.bankState_eq, Block.get_set_self, k.field_width]; rfl

theorem Block.set_bankState_ne (b : Block) {j k : Bank} (v : Nat) (h : j ≠ k) : (b.set k.field v).bankState j = b.bankState j := by
  rw [Block.bankState_eq, Block.bankState_eq, Block.get_set_ne _ _ _ _ (Bank.field_key_ne h)]

theorem Block.Keeps.bankState_eq {b c : Block} {l : List Field} {ps : List Part} (h : b.Keeps c l ps) (k : Bank)
    (hk : k.field.key ∉ l.map Field.key) : c.bankState k = b.bankState k := by
  rw [Block.bankState_eq, Block.bankState_eq]
  exact h.1 _ hk (by cases k <;> decide)

/-- The bytes of the banks are read from the loader alone. -/
theorem Block.bankBytes_congr {b c : Block} (h : c.image = b.image) (k : Bank) : c.bankBytes k = b.bankBytes k := by
  cases k <;> simp only [Block.bankBytes, h]

theorem Block.setBank_bankState_self (b : Block) (k : Bank) (v : Nat) : (b.setBank k v).bankState k = v % 16 := by
  rw [Block.setBank, Block.putRecord_bankState, Block.set_bankState_self]

theorem Block.setBank_bankState_ne (b : Block) {j k : Bank} (v : Nat) (h : j ≠ k) : (b.setBank k v).bankState j = b.bankState j := by
  rw [Block.setBank, Block.putRecord_bankState, Block.set_bankState_ne b v h]

@[simp] theorem Block.setBank_bankBytes (b : Block) (j k : Bank) (v : Nat) : (b.setBank k v).bankBytes j = b.bankBytes j := by
  rw [Block.setBank, Block.putRecord_bankBytes, Block.bankBytes_congr (Block.set_image b _ _)]

theorem Block.setBank_get (b : Block) (k : Bank) (v : Nat) (f : Field) (h : f.key ≠ k.field.key) : (b.setBank k v).get f = b.get f :=
  Block.get_set_ne b _ f _ h

theorem Block.setBank_trialStarted (b : Block) (k : Bank) (v : Nat) : (b.setBank k v).trialStarted = b.trialStarted :=
  Block.putRecord_trialStarted_same (b.set k.field v)

theorem Block.keeps_setBank (b : Block) (k : Bank) (v : Nat) (l : List Field) (ps : List Part) (hl : k.field.key ∈ l.map Field.key)
    (hp : .image ∈ ps) : b.Keeps (b.setBank k v) l ps :=
  (b.keeps_set _ v l ps hl).trans (Block.keeps_putRecord _ _ l ps hp)

/-! A command that fails, and one that is refused (R104, R113). -/

def failFields : List Field := [R.IMG_ERR_CAUSE, R.IMG_ERR_SEGMENT]

theorem Block.keeps_imgFail (b : Block) (cause seg : Nat) (ps : List Part) : b.Keeps (b.imgFail cause seg) failFields ps :=
  (b.keeps_set _ _ _ ps (by simp [failFields])).trans (Block.keeps_set _ _ _ _ ps (by simp [failFields]))

theorem Block.imgFail_cause (b : Block) (cause seg : Nat) : (b.imgFail cause seg).get R.IMG_ERR_CAUSE = cause % 256 := by
  rw [Block.imgFail, Block.get_set_ne _ _ _ _ (by decide), Block.get_set_self]; rfl

theorem Block.imgFail_segment (b : Block) (cause seg : Nat) : (b.imgFail cause seg).get R.IMG_ERR_SEGMENT = seg % 256 :=
  Block.get_set_self _ _ _

@[simp] theorem Block.imgFail_image (b : Block) (cause seg : Nat) : (b.imgFail cause seg).image = b.image := rfl

/-! The modes and the state in which a command is taken (R102, R104). -/

section
variable (b : Block) (modes : List Nat) (f : Block → Block)

theorem Block.imgCommand_busy (h : b.get R.IMG_STAT_STATE ≠ 0) : b.imgCommand modes f = b.imgRefuse 0x11 := by
  simp [Block.imgCommand, Block.imgIdle, h]

theorem Block.imgCommand_wrongMode (h : b.get R.IMG_STAT_STATE = 0) (hm : b.mode ∉ modes) : b.imgCommand modes f = b.imgRefuse 0x12 := by
  simp [Block.imgCommand, Block.imgIdle, h, hm]

theorem Block.imgCommand_taken (h : b.get R.IMG_STAT_STATE = 0) (hm : b.mode ∈ modes) : b.imgCommand modes f = f b := by
  simp [Block.imgCommand, Block.imgIdle, h, hm]

end

theorem Block.reachable_of_mode {b : Block} {modes : List Nat} (h : ∀ m ∈ modes, 2 ≤ m ∧ m ≠ 9) (hm : b.mode ∈ modes) :
    b.reachable = true := decide_eq_true (h _ hm)

theorem Block.reachable_of_staging {b : Block} (hm : b.mode ∈ [6, 7, 10, 11]) : b.reachable = true :=
  Block.reachable_of_mode (by decide) hm

theorem State.run_image (s : State) (c : Block) : (s.run fun _ => c).blk.image = c.image := Block.updateAlert_image c

theorem State.run_bankState (s : State) (c : Block) (k : Bank) : (s.run fun _ => c).blk.bankState k = c.bankState k :=
  (Block.keeps_updateAlert c [] []).bankState_eq k (by simp)

theorem State.run_bankBytes (s : State) (c : Block) (k : Bank) : (s.run fun _ => c).blk.bankBytes k = c.bankBytes k :=
  Block.bankBytes_congr (Block.updateAlert_image c) k

theorem State.run_trialStarted (s : State) (c : Block) : (s.run fun _ => c).blk.trialStarted = c.trialStarted := by
  rw [Block.trialStarted_eq, State.run_image]; rfl

end Sys2Proof.Machine
end

section
/-! The loader's commands (R94, R102–R104, R113): in which states each is refused, and what a verification makes of the loader. -/

namespace Sys2Proof.Machine

/-! Refusals. -/

/-- A command has been refused with a cause of R113: IMG_ERR says so, and nothing else changes. -/
structure State.Refused (s t : State) (cause : Nat) : Prop where
  cause : t.blk.get R.IMG_ERR_CAUSE = cause
  segment : t.blk.get R.IMG_ERR_SEGMENT = 0xFF
  frame : s.Keeps t failFields []

theorem State.run_refused (s : State) (cause : Nat) (h : cause < 256) : s.Refused (s.run fun _ => s.blk.imgRefuse cause) cause := by
  refine ⟨?_, ?_, State.keeps_run s _ _ _ (s.blk.keeps_imgFail cause 0xFF [])⟩
  · rw [State.run_get s _ _ (by decide), Block.imgRefuse, Block.imgFail_cause, Nat.mod_eq_of_lt h]
  · rw [State.run_get s _ _ (by decide), Block.imgRefuse, Block.imgFail_segment]

/-- The outcome of a refused command. -/
abbrev Refuses (c : Instr) (s : State) (cause : Nat) : Prop := ∃ t, exec c s = .next t ∧ s.Refused t cause

theorem Refuses.cause {c : Instr} {s : State} {cause : Nat} (h : Refuses c s cause) :
    ∃ t, exec c s = .next t ∧ t.blk.get R.IMG_ERR_CAUSE = cause ∧ s.Keeps t [R.IMG_ERR_CAUSE, R.IMG_ERR_SEGMENT] [] := by
  obtain ⟨t, e, h⟩ := h
  exact ⟨t, e, h.cause, h.frame⟩

/-- The refusal as R104 and R113 state it, its segment included. -/
theorem Refuses.segment {c : Instr} {s : State} {cause : Nat} (h : Refuses c s cause) :
    ∃ t, exec c s = .next t ∧ t.blk.get R.IMG_ERR_CAUSE = cause ∧ t.blk.get R.IMG_ERR_SEGMENT = 0xFF ∧
      s.Keeps t [R.IMG_ERR_CAUSE, R.IMG_ERR_SEGMENT] [] := by
  obtain ⟨t, e, h⟩ := h
  exact ⟨t, e, h.cause, h.segment, h.frame⟩

/-- A command of the register interface whose block operation refuses. -/
theorem refuses_of_runReg {c : Instr} {s : State} (f : Block → Block) (he : exec c s = .next (s.runReg f)) (cause : Nat)
    (hr : s.blk.reachable = true) (e : f s.blk = s.blk.imgRefuse cause) (h : cause < 256 := by decide) : Refuses c s cause :=
  ⟨_, he.trans (congrArg Host.Outcome.next (s.runReg_eq f _ hr e)), s.run_refused cause h⟩

theorem refuses_rollbackCommit {s : State} (cause : Nat) (hr : s.blk.reachable = true)
    (e : rollbackCommit s.blk s.otp = (s.blk.imgRefuse cause, s.otp)) (h : cause < 256 := by decide) :
    Refuses .imgCmdRollbackCommit s cause :=
  ⟨_, congrArg Host.Outcome.next (s.runOtp_viaBus _ _ hr e), s.run_refused cause h⟩

theorem rollbackCommit_busy (b : Block) (o : Otp) (h : b.get R.IMG_STAT_STATE ≠ 0) : rollbackCommit b o = (b.imgRefuse 0x11, o) := by
  unfold rollbackCommit
  cases b.image.run with
  | none => dsimp only; rw [Block.imgCommand_busy b _ _ h]
  | some i => simp [Block.imgIdle, h]

theorem rollbackCommit_wrongMode (b : Block) (o : Otp) (h : b.get R.IMG_STAT_STATE = 0) (hm : b.mode ≠ 6) :
    rollbackCommit b o = (b.imgRefuse 0x12, o) := by
  unfold rollbackCommit
  cases b.image.run with
  | none => dsimp only; rw [Block.imgCommand_wrongMode b _ _ h (by simpa using hm)]
  | some i => simp [Block.imgIdle, h, hm]

/-- While a command runs no other is taken (R104). -/
theorem imgCommands_busy (s : State) (c : Instr)
    (hc : c ∈ [Instr.imgCmdNop, .imgCmdVerifyStaged, .imgCmdWriteBank, .imgCmdArmTrial, .imgCmdConfirm, .imgCmdRollbackCommit,
      .imgCmdGoldenWrite] ∨ ∃ n, c = .imgCmdSliceReload n) (hr : s.blk.reachable = true) (hb : s.blk.get R.IMG_STAT_STATE ≠ 0) :
    Refuses c s 0x11 := by
  have hbusy (modes : List Nat) (f : Block → Block) : s.blk.imgCommand modes f = s.blk.imgRefuse 0x11 := s.blk.imgCommand_busy _ _ hb
  simp only [List.mem_cons, List.not_mem_nil, or_false] at hc
  obtain (rfl | rfl | rfl | rfl | rfl | rfl | rfl) | ⟨n, rfl⟩ := hc
  · exact refuses_of_runReg _ rfl 0x11 hr (by simp [Block.imgNop, Block.imgIdle, hb])
  · exact refuses_of_runReg _ rfl 0x11 hr (hbusy _ _)
  · exact refuses_of_runReg _ rfl 0x11 hr (hbusy _ _)
  · exact refuses_of_runReg _ rfl 0x11 hr (hbusy _ _)
  · exact refuses_of_runReg _ rfl 0x11 hr (hbusy _ _)
  · exact refuses_rollbackCommit 0x11 hr (rollbackCommit_busy _ _ hb)
  · exact refuses_of_runReg _ rfl 0x11 hr (hbusy _ _)
  · exact refuses_of_runReg _ rfl 0x11 hr (hbusy _ _)

/-- Each command has its modes (R102). -/
theorem imgCommands_wrongMode (s : State) (c : Instr) (hr : s.blk.reachable = true) (h0 : s.blk.get R.IMG_STAT_STATE = 0)
    (hc : (c ∈ [Instr.imgCmdVerifyStaged, .imgCmdWriteBank, .imgCmdArmTrial] ∧ s.blk.mode ∉ [6, 7, 10, 11]) ∨
      (c ∈ [Instr.imgCmdConfirm, .imgCmdRollbackCommit] ∧ s.blk.mode ≠ 6) ∨
      ((∃ n, c = .imgCmdSliceReload n) ∧ s.blk.mode ∉ [6, 7, 10]) ∨ (c = .imgCmdGoldenWrite ∧ s.blk.mode ≠ 10)) :
    Refuses c s 0x12 := by
  have hwrong (modes : List Nat) (f : Block → Block) (hm : s.blk.mode ∉ modes) :
      s.blk.imgCommand modes f = s.blk.imgRefuse 0x12 := s.blk.imgCommand_wrongMode _ _ h0 hm
  simp only [List.mem_cons, List.not_mem_nil, or_false] at hc
  obtain ⟨rfl | rfl | rfl, hm⟩ | ⟨rfl | rfl, hm⟩ | ⟨⟨n, rfl⟩, hm⟩ | ⟨rfl, hm⟩ := hc
  · exact refuses_of_runReg _ rfl 0x12 hr (hwrong _ _ (by simpa [stagingModes] using hm))
  · exact refuses_of_runReg _ rfl 0x12 hr (hwrong _ _ (by simpa [stagingModes] using hm))
  · exact refuses_of_runReg _ rfl 0x12 hr (hwrong _ _ (by simpa [stagingModes] using hm))
  · exact refuses_of_runReg _ rfl 0x12 hr (hwrong _ _ (by simpa using hm))
  · exact refuses_rollbackCommit 0x12 hr (rollbackCommit_wrongMode _ _ h0 hm)
  · exact refuses_of_runReg _ rfl 0x12 hr (hwrong _ _ (by simpa using hm))
  · exact refuses_of_runReg _ rfl 0x12 hr (hwrong _ _ (by simpa using hm))

/-- Without a verified image nothing is written or reloaded (R102, R113). -/
theorem imgCommands_unverified (s : State) (c : Instr) (h0 : s.blk.get R.IMG_STAT_STATE = 0) (hv : s.blk.image.verified = none)
    (hc : (c = .imgCmdWriteBank ∧ s.blk.mode ∈ [6, 7, 10, 11]) ∨ ((∃ n, c = .imgCmdSliceReload n) ∧ s.blk.mode ∈ [6, 7, 10]) ∨
      (c = .imgCmdGoldenWrite ∧ s.blk.mode = 10)) : Refuses c s 0x13 := by
  obtain ⟨rfl, hm⟩ | ⟨⟨n, rfl⟩, hm⟩ | ⟨rfl, hm⟩ := hc
  · refine refuses_of_runReg _ rfl 0x13 (Block.reachable_of_staging hm) ?_
    rw [Block.writeBank, stagingModes, Block.imgCommand_taken _ _ _ h0 hm, hv]
  · refine refuses_of_runReg _ rfl 0x13 (Block.reachable_of_mode (by decide) hm) ?_
    rw [Block.sliceReload, Block.imgCommand_taken _ _ _ h0 hm, hv]
  · have hm : s.blk.mode ∈ [10] := by simpa using hm
    refine refuses_of_runReg _ rfl 0x13 (Block.reachable_of_mode (by decide) hm) ?_
    rw [Block.goldenWrite, Block.imgCommand_taken _ _ _ h0 hm, hv]

/-! Commands that start or change something. -/

/-- A command of the register interface, by what it makes of the block. -/
theorem exec_of_runReg {c : Instr} {s : State} (f : Block → Block) (he : exec c s = .next (s.runReg f)) (d : Block)
    (hr : s.blk.reachable = true) (e : f s.blk = d) : exec c s = .next (s.run fun _ => d) :=
  he.trans (congrArg Host.Outcome.next (s.runReg_eq f d hr e))

/-- The end of a running command, by what it makes of the block. -/
theorem exec_of_runOn {c : Instr} {s : State} (f : Block → Block) (he : exec c s = .next (s.runOn f)) (d : Block)
    (hr : s.blk.running = true) (e : f s.blk = d) : exec c s = .next (s.run fun _ => d) :=
  he.trans (congrArg Host.Outcome.next (s.runOn_eq f d hr e))

/-- A command that leaves the block as it is. -/
theorem keeps_of_same {c : Instr} {s : State} (e : exec c s = .next (s.run fun _ => s.blk)) : ∃ t, exec c s = .next t ∧ s.Keeps t [] [] :=
  ⟨_, e, State.keeps_run s _ _ _ (Block.Keeps.refl _ _ _)⟩

theorem imgCmdNop_idle (s : State) (hr : s.blk.reachable = true) (h0 : s.blk.get R.IMG_STAT_STATE = 0) :
    ∃ t, exec .imgCmdNop s = .next t ∧ s.Keeps t [] [] :=
  keeps_of_same (exec_of_runReg _ rfl _ hr (by simp [Block.imgNop, Block.imgIdle, h0]))

/-- A command has started: what the loader then holds, with IMG_STAT.STATE `st` and no progress yet (R112). -/
def Block.startJob (b : Block) (u : ImageUnit) (st : Nat) : Block := ((b.setImage u).set R.IMG_STAT_STATE st).set R.IMG_PROGRESS 0

theorem Block.keeps_startJob (b : Block) (u : ImageUnit) (st : Nat) :
    b.Keeps (b.startJob u st) [R.IMG_STAT_STATE, R.IMG_PROGRESS] [.image] :=
  ((b.keeps_setImage u _ _ (by simp)).trans (Block.keeps_set _ _ _ _ _ (by simp))).trans (Block.keeps_set _ _ _ _ _ (by simp))

theorem State.run_startJob (s : State) (u : ImageUnit) (st : Nat) (h : st < 8) (t : State) (ht : t = s.run fun _ => s.blk.startJob u st) :
    t.blk.image = u ∧ t.blk.get R.IMG_STAT_STATE = st ∧ t.blk.get R.IMG_PROGRESS = 0 ∧
      s.Keeps t [R.IMG_STAT_STATE, R.IMG_PROGRESS] [.image] := by
  subst ht
  refine ⟨State.run_image s _, ?_, ?_, State.keeps_run s _ _ _ (s.blk.keeps_startJob u st)⟩
  · rw [State.run_get s _ _ (by decide), Block.startJob, Block.get_set_ne _ _ _ _ (by decide), Block.get_set_self]
    exact Nat.mod_eq_of_lt h
  · rw [State.run_get s _ _ (by decide), Block.startJob, Block.get_set_self]; rfl

/-- The outcome of a command that has started. -/
theorem starts_of_runReg {c : Instr} {s : State} (f : Block → Block) (he : exec c s = .next (s.runReg f)) (u : ImageUnit) (st : Nat)
    (hr : s.blk.reachable = true) (e : f s.blk = s.blk.startJob u st) (h : st < 8 := by decide) :
    ∃ t, exec c s = .next t ∧ t.blk.image = u ∧ t.blk.get R.IMG_STAT_STATE = st ∧ t.blk.get R.IMG_PROGRESS = 0 ∧
      s.Keeps t [R.IMG_STAT_STATE, R.IMG_PROGRESS] [.image] :=
  ⟨_, exec_of_runReg f he _ hr e, s.run_startJob u st h _ rfl⟩

theorem imgCmdVerifyStaged_starts (s : State) (hm : s.blk.mode ∈ [6, 7, 10, 11]) (h0 : s.blk.get R.IMG_STAT_STATE = 0) :
    ∃ t, exec .imgCmdVerifyStaged s = .next t ∧ t.blk.image = { s.blk.image with job := .verify, verified := none } ∧
      t.blk.get R.IMG_STAT_STATE = 1 ∧ t.blk.get R.IMG_PROGRESS = 0 ∧ s.Keeps t [R.IMG_STAT_STATE, R.IMG_PROGRESS] [.image] :=
  starts_of_runReg _ rfl _ 1 (Block.reachable_of_staging hm) (Block.imgCommand_taken _ _ _ h0 hm)

/-! The end of a verification (R102, R106, R113). -/

/-- The running command has ended (R104, R112). -/
def Block.endJob (b : Block) : Block := (b.setImage { b.image with job := .none }).set R.IMG_STAT_STATE 0

theorem Block.keeps_endJob (b : Block) : b.Keeps b.endJob [R.IMG_STAT_STATE] [.image] :=
  (b.keeps_setImage _ _ _ (by simp)).trans (Block.keeps_set _ _ _ _ _ (by simp))

theorem Block.endJob_image (b : Block) : b.endJob.image = { b.image with job := .none } := rfl

theorem Block.endJob_state (b : Block) : b.endJob.get R.IMG_STAT_STATE = 0 := Block.get_set_self _ _ _

@[simp] theorem Block.endJob_bankBytes (b : Block) (k : Bank) : b.endJob.bankBytes k = b.bankBytes k := by cases k <;> rfl

theorem Block.endJob_bankState (b : Block) (k : Bank) : b.endJob.bankState k = b.bankState k :=
  b.keeps_endJob.bankState_eq k (by cases k <;> decide)

/-- The verification no longer runs; IMG_PROGRESS shows the staged bytes. -/
def Block.endVerify (b : Block) : Block := b.endJob.set R.IMG_PROGRESS b.stagedBytes.length

theorem Block.keeps_endVerify (b : Block) : b.Keeps b.endVerify [R.IMG_STAT_STATE, R.IMG_PROGRESS] [.image] :=
  (b.keeps_endJob.widen _ _ (by simp) (by simp)).trans (Block.keeps_set _ _ _ _ _ (by simp))

theorem Block.endVerify_image (b : Block) : b.endVerify.image = { b.image with job := .none } := rfl

theorem Block.endVerify_state (b : Block) : b.endVerify.get R.IMG_STAT_STATE = 0 := by
  rw [Block.endVerify, Block.get_set_ne _ _ _ _ (by decide), Block.endJob_state]

theorem Block.endVerify_progress (b : Block) :
    b.endVerify.get R.IMG_PROGRESS = b.stagedBytes.length % 2 ^ R.IMG_PROGRESS.width := Block.get_set_self _ _ _

/-- The verdict reads the running image, its digest and the mode alone. -/
theorem Block.stagedVerdict_congr {b c : Block} (hrun : c.image.run = b.image.run) (hmode : c.mode = b.mode)
    (hdigest : c.get R.IMG_RUN_DIGEST = b.get R.IMG_RUN_DIGEST) (o : Otp) (bytes : List Byte) :
    c.stagedVerdict o bytes = b.stagedVerdict o bytes := by
  have hpackage (p : Image) : c.packageCheck p = b.packageCheck p := by
    simp only [Block.packageCheck, Block.supvSlice, hrun, hmode, hdigest]
  simp only [Block.stagedVerdict, hpackage]

theorem Block.endVerify_stagedVerdict (b : Block) (o : Otp) (bytes : List Byte) :
    b.endVerify.stagedVerdict o bytes = b.stagedVerdict o bytes :=
  Block.stagedVerdict_congr (by rw [b.endVerify_image]) (b.keeps_endVerify.1 R.PWR_MODE_MODE (by decide) (by decide))
    (b.keeps_endVerify.1 R.IMG_RUN_DIGEST (by decide) (by decide)) o bytes

section
variable (b : Block) (o : Otp) (h : b.image.job = .verify)
include h

theorem Block.verifyDone_good (hv : b.stagedVerdict o b.stagedBytes = none) :
    b.verifyDone o true = b.endVerify.setImage { b.image with job := .none, verified := some (parseImage b.stagedBytes) } := by
  have hv' := (b.endVerify_stagedVerdict o b.stagedBytes).trans hv
  unfold Block.endVerify Block.endJob at hv'
  simp [Block.verifyDone, h, hv']; rfl

theorem Block.verifyDone_bad (cause seg : Nat) (hv : b.stagedVerdict o b.stagedBytes = some (cause, seg)) :
    b.verifyDone o true = b.endVerify.imgFail cause seg := by
  have hv' := (b.endVerify_stagedVerdict o b.stagedBytes).trans hv
  unfold Block.endVerify Block.endJob at hv'
  simp [Block.verifyDone, h, hv']; rfl

/-- A DDR4 word that cannot be read fails the verification and is counted. -/
theorem Block.verifyDone_unread : b.verifyDone o false = (b.endVerify.bump R.TRB_DDR_UNCORR_COUNT).imgFail 0x0D 0xFF := by
  simp [Block.verifyDone, h]; rfl

end

theorem exec_verifyStagedDone_eq (s : State) (ok : Bool) (c : Block) (hr : s.blk.running = true) (e : s.blk.verifyDone s.otp ok = c) :
    exec (.verifyStagedDone ok) s = .next (s.run fun _ => c) := by
  refine (congrArg Host.Outcome.next ?_ : Host.Outcome.next (s.runOtp _) = _)
  simp [State.runOtp, State.run, Block.whenever, hr, e]

section
variable (s : State) (hr : s.blk.running = true) (hj : s.blk.image.job = .verify)
include hr hj

theorem verifyStagedDone_good (hv : s.blk.stagedVerdict s.otp s.blk.stagedBytes = none) :
    ∃ t, exec (.verifyStagedDone true) s = .next t ∧ t.blk.get R.IMG_STAT_STATE = 0 ∧
      t.blk.image = { s.blk.image with job := .none, verified := some (parseImage s.blk.stagedBytes) } ∧
      t.blk.get R.IMG_PROGRESS = s.blk.stagedBytes.length % 2 ^ R.IMG_PROGRESS.width ∧
      s.Keeps t [R.IMG_STAT_STATE, R.IMG_PROGRESS] [.image] := by
  refine ⟨_, exec_verifyStagedDone_eq s true _ hr (s.blk.verifyDone_good s.otp hj hv), ?_, State.run_image s _, ?_,
    State.keeps_run s _ _ _ (s.blk.keeps_endVerify.trans (Block.keeps_setImage _ _ _ _ (by simp)))⟩
  · rw [State.run_get s _ _ (by decide), Block.setImage_get, Block.endVerify_state]
  · rw [State.run_get s _ _ (by decide), Block.setImage_get, Block.endVerify_progress]

theorem verifyStagedDone_bad (cause seg : Nat) (hv : s.blk.stagedVerdict s.otp s.blk.stagedBytes = some (cause, seg)) :
    ∃ t, exec (.verifyStagedDone true) s = .next t ∧ t.blk.get R.IMG_STAT_STATE = 0 ∧ t.blk.image = { s.blk.image with job := .none } ∧
      t.blk.get R.IMG_ERR_CAUSE = cause % 256 ∧ t.blk.get R.IMG_ERR_SEGMENT = seg % 256 ∧
      s.Keeps t [R.IMG_STAT_STATE, R.IMG_PROGRESS, R.IMG_ERR_CAUSE, R.IMG_ERR_SEGMENT] [.image] := by
  have hfail := Block.keeps_imgFail s.blk.endVerify cause seg []
  refine ⟨_, exec_verifyStagedDone_eq s true _ hr (s.blk.verifyDone_bad s.otp hj cause seg hv), ?_, State.run_image s _, ?_, ?_,
    State.keeps_run s _ _ _ ((s.blk.keeps_endVerify.widen _ _ (by simp) (by simp)).trans (hfail.widen _ _ (by simp [failFields]) (by simp)))⟩
  · rw [State.run_get s _ _ (by decide), hfail.1 _ (by decide) (by decide), Block.endVerify_state]
  · rw [State.run_get s _ _ (by decide), Block.imgFail_cause]
  · rw [State.run_get s _ _ (by decide), Block.imgFail_segment]

/-- Whatever the verdict. -/
theorem verifyStagedDone_ends :
    ∃ t, exec (.verifyStagedDone true) s = .next t ∧ t.blk.get R.IMG_STAT_STATE = 0 ∧ t.blk.image.job = .none ∧
      (s.blk.stagedVerdict s.otp s.blk.stagedBytes = none →
        t.blk.image = { s.blk.image with job := .none, verified := some (parseImage s.blk.stagedBytes) } ∧
        t.blk.get R.IMG_PROGRESS = s.blk.stagedBytes.length % 2 ^ R.IMG_PROGRESS.width ∧
        s.Keeps t [R.IMG_STAT_STATE, R.IMG_PROGRESS] [.image]) ∧
      s.Keeps t [R.IMG_STAT_STATE, R.IMG_PROGRESS, R.IMG_ERR_CAUSE, R.IMG_ERR_SEGMENT] [.image] := by
  cases hv : s.blk.stagedVerdict s.otp s.blk.stagedBytes with
  | none =>
    obtain ⟨t, e, hstate, himage, hprogress, hotp, hpending, hkeeps⟩ := verifyStagedDone_good s hr hj hv
    exact ⟨t, e, hstate, by rw [himage], fun _ => ⟨himage, hprogress, hotp, hpending, hkeeps⟩, hotp, hpending,
      hkeeps.widen _ _ (by simp) (by simp)⟩
  | some e =>
    obtain ⟨t, e, hstate, himage, -, -, hkeeps⟩ := verifyStagedDone_bad s hr hj e.1 e.2 hv
    exact ⟨t, e, hstate, by rw [himage], nofun, hkeeps⟩

theorem verifyStagedDone_unread :
    ∃ t, exec (.verifyStagedDone false) s = .next t ∧ t.blk.get R.IMG_STAT_STATE = 0 ∧ t.blk.image = { s.blk.image with job := .none } ∧
      t.blk.get R.IMG_ERR_CAUSE = 0x0D ∧ t.blk.get R.IMG_ERR_SEGMENT = 0xFF ∧
      t.blk.get R.TRB_DDR_UNCORR_COUNT = (s.blk.get R.TRB_DDR_UNCORR_COUNT + 1) % 2 ^ R.TRB_DDR_UNCORR_COUNT.width ∧
      s.Keeps t [R.IMG_STAT_STATE, R.IMG_PROGRESS, R.IMG_ERR_CAUSE, R.IMG_ERR_SEGMENT, R.TRB_DDR_UNCORR_COUNT] [.image] := by
  have hcount := s.blk.endVerify.keeps_bump R.TRB_DDR_UNCORR_COUNT [R.TRB_DDR_UNCORR_COUNT] [] (by simp)
  have hfail := Block.keeps_imgFail (s.blk.endVerify.bump R.TRB_DDR_UNCORR_COUNT) 0x0D 0xFF []
  refine ⟨_, exec_verifyStagedDone_eq s false _ hr (s.blk.verifyDone_unread s.otp hj), ?_, State.run_image s _, ?_, ?_, ?_,
    State.keeps_run s _ _ _ (((s.blk.keeps_endVerify.widen _ _ (by simp) (by simp)).trans (hcount.widen _ _ (by simp) (by simp))).trans
      (hfail.widen _ _ (by simp [failFields]) (by simp)))⟩
  · rw [State.run_get s _ _ (by decide), hfail.1 _ (by decide) (by decide), hcount.1 _ (by decide) (by decide), Block.endVerify_state]
  · rw [State.run_get s _ _ (by decide), Block.imgFail_cause]
  · rw [State.run_get s _ _ (by decide), Block.imgFail_segment]
  · rw [State.run_get s _ _ (by decide), hfail.1 _ (by decide) (by decide), Block.bump_get,
      s.blk.keeps_endVerify.1 _ (by decide) (by decide)]

end

end Sys2Proof.Machine
end

section
/-! Bank writes and the golden write (R97, R102, R103): their refusals, their start, and what a bank holds at their end. -/

namespace Sys2Proof.Machine

/-! A one-bit field as a truth value. -/

theorem Block.flag_of_zero {b : Block} {f : Field} (h : b.get f = 0) : b.flag f = false := by simp [Block.flag, h]
theorem Block.flag_of_one {b : Block} {f : Field} (h : b.get f = 1) : b.flag f = true := by simp [Block.flag, h]

/-! WRITE_BANK and GOLDEN_WRITE (R102, R103). -/

/-- The loader waits for a command of these modes with a verified image (R102, R104). -/
structure Block.Offers (b : Block) (modes : List Nat) (i : Image) : Prop where
  mode : b.mode ∈ modes
  idle : b.get R.IMG_STAT_STATE = 0
  verified : b.image.verified = some i

section
variable (s : State) (i : Image)

section
variable (h : s.blk.Offers [6, 7, 10, 11] i)
include h

theorem imgCmdWriteBank_starts (k : Bank) (hg : i.golden = false) (hreload : i.reload = false)
    (htrial : s.blk.get R.IMG_STAT_RUN_TRIAL = 0) (hfree : s.blk.freeBank = some k) :
    ∃ t, exec .imgCmdWriteBank s = .next t ∧ t.blk.image = { s.blk.image with job := .write k } ∧
      t.blk.get R.IMG_STAT_STATE = 2 ∧ t.blk.get R.IMG_PROGRESS = 0 ∧ s.Keeps t [R.IMG_STAT_STATE, R.IMG_PROGRESS] [.image] := by
  refine starts_of_runReg _ rfl _ 2 (Block.reachable_of_staging h.mode) ?_
  rw [Block.writeBank, stagingModes, Block.imgCommand_taken _ _ _ h.idle h.mode, h.verified, hfree]
  simp [Block.flag_of_zero htrial, hg, hreload, Block.startWrite, Block.startJob]

theorem imgCmdWriteBank_onTrial (htrial : s.blk.get R.IMG_STAT_RUN_TRIAL = 1) : Refuses .imgCmdWriteBank s 0x12 := by
  refine refuses_of_runReg _ rfl 0x12 (Block.reachable_of_staging h.mode) ?_
  rw [Block.writeBank, stagingModes, Block.imgCommand_taken _ _ _ h.idle h.mode, h.verified]
  simp [Block.flag_of_one htrial]

theorem imgCmdWriteBank_wrongKind (htrial : s.blk.get R.IMG_STAT_RUN_TRIAL = 0) (hkind : i.golden = true ∨ i.reload = true) :
    Refuses .imgCmdWriteBank s 0x04 := by
  refine refuses_of_runReg _ rfl 0x04 (Block.reachable_of_staging h.mode) ?_
  rw [Block.writeBank, stagingModes, Block.imgCommand_taken _ _ _ h.idle h.mode, h.verified]
  simp [Block.flag_of_zero htrial, hkind]

end

section
variable (h : s.blk.Offers [10] i)
include h

theorem imgCmdGoldenWrite_starts (hg : i.golden = true) :
    ∃ t, exec .imgCmdGoldenWrite s = .next t ∧ t.blk.image = { s.blk.image with job := .write .golden } ∧
      t.blk.get R.IMG_STAT_STATE = 2 ∧ t.blk.get R.IMG_PROGRESS = 0 ∧ s.Keeps t [R.IMG_STAT_STATE, R.IMG_PROGRESS] [.image] := by
  refine starts_of_runReg _ rfl _ 2 (Block.reachable_of_mode (by decide) h.mode) ?_
  rw [Block.goldenWrite, Block.imgCommand_taken _ _ _ h.idle h.mode, h.verified]
  simp [hg, Block.startWrite, Block.startJob]

theorem imgCmdGoldenWrite_wrongKind (hg : i.golden = false) : Refuses .imgCmdGoldenWrite s 0x04 := by
  refine refuses_of_runReg _ rfl 0x04 (Block.reachable_of_mode (by decide) h.mode) ?_
  rw [Block.goldenWrite, Block.imgCommand_taken _ _ _ h.idle h.mode, h.verified]
  simp [hg]

end

end

/-! The end of a write (R103): the bank holds the staged bytes. -/

section
variable (b : Block) (k : Bank) (bytes : List Byte)

theorem Block.storeBank_bankBytes_self : (b.storeBank k bytes).bankBytes k = bytes := by cases k <;> rfl

theorem Block.storeBank_bankBytes_ne {j k : Bank} (h : j ≠ k) : (b.storeBank k bytes).bankBytes j = b.bankBytes j := by
  cases k with
  | a => cases j with
    | a => exact absurd rfl h
    | _ => rfl
  | b => cases j with
    | b => exact absurd rfl h
    | _ => rfl
  | golden => cases j with
    | golden => exact absurd rfl h
    | _ => rfl

theorem Block.storeBank_trialStarted : (b.storeBank k bytes).trialStarted = b.trialStarted := by cases k <;> rfl

theorem Block.keeps_storeBank : b.Keeps (b.storeBank k bytes) [R.IMG_SEQ_A, R.IMG_SEQ_B] [.image] := by
  cases k with
  | golden => exact b.keeps_setImage _ _ _ (by simp)
  | _ => exact (b.keeps_setImage _ _ _ (by simp)).trans (Block.keeps_set _ _ _ _ _ (by simp))

theorem Block.keeps_storeBank_golden : b.Keeps (b.storeBank .golden bytes) [] [.image] := b.keeps_setImage _ _ _ (by simp)

theorem Block.storeBank_bankState (j : Bank) : (b.storeBank k bytes).bankState j = b.bankState j :=
  (b.keeps_storeBank k bytes).bankState_eq j (by cases j <;> decide)

end

/-- The bank with the staged bytes, and its state: STAGED, the golden bank ACTIVE. -/
def Block.written (b : Block) (k : Bank) : Block := (b.storeBank k b.stagedBytes).setBank k (if k = .golden then 3 else 1)

/-- The write no longer runs; IMG_PROGRESS shows the bytes. -/
def Block.endWrite (b : Block) (k : Bank) : Block := (b.written k).endJob.set R.IMG_PROGRESS b.stagedBytes.length

theorem Block.writeDone_eq (b : Block) (k : Bank) (hj : b.image.job = .write k) : b.writeDone (k == .golden) = b.endWrite k := by
  simp [Block.writeDone, hj]; rfl

section
variable (b : Block) (k : Bank)

theorem Block.endWrite_bankBytes (j : Bank) : (b.endWrite k).bankBytes j = if j = k then b.stagedBytes else b.bankBytes j := by
  rw [Block.endWrite, Block.bankBytes_congr (Block.set_image _ _ _), Block.endJob_bankBytes, Block.written, Block.setBank_bankBytes]
  split
  case isTrue h => rw [h, Block.storeBank_bankBytes_self]
  case isFalse h => rw [Block.storeBank_bankBytes_ne _ _ h]

theorem Block.endWrite_bankState (j : Bank) :
    (b.endWrite k).bankState j = if j = k then (if k = .golden then 3 else 1) else b.bankState j := by
  rw [Block.endWrite, (Block.keeps_set _ R.IMG_PROGRESS _ [R.IMG_PROGRESS] [] (by simp)).bankState_eq j (by cases j <;> decide),
    Block.endJob_bankState, Block.written]
  by_cases h : j = k
  · rw [if_pos h, h, Block.setBank_bankState_self]
    by_cases hg : k = .golden
    · rw [if_pos hg]
    · rw [if_neg hg]
  · rw [if_neg h, Block.setBank_bankState_ne _ _ h, Block.storeBank_bankState]

theorem Block.endWrite_image : (b.endWrite k).image = { (b.written k).image with job := .none } := by
  rw [Block.endWrite, Block.set_image, Block.endJob_image]

theorem Block.endWrite_state : (b.endWrite k).get R.IMG_STAT_STATE = 0 := by
  rw [Block.endWrite, Block.get_set_ne _ _ _ _ (by decide), Block.endJob_state]

theorem Block.endWrite_trialStarted : (b.endWrite k).trialStarted = b.trialStarted := by
  rw [Block.trialStarted_eq, Block.endWrite_image, ← Block.trialStarted_eq, Block.written, Block.setBank_trialStarted,
    Block.storeBank_trialStarted]

theorem Block.endWrite_get (f : Field) (hk : f.key ≠ k.field.key) (hs : f.key ≠ R.IMG_STAT_STATE.key) (hp : f.key ≠ R.IMG_PROGRESS.key) :
    (b.endWrite k).get f = (b.storeBank k b.stagedBytes).get f := by
  rw [Block.endWrite, Block.get_set_ne _ _ _ _ hp, Block.endJob, Block.get_set_ne _ _ _ _ hs, Block.setImage_get, Block.written,
    Block.setBank_get _ _ _ _ hk]

theorem Block.keeps_endWrite (l : List Field) (hstore : b.Keeps (b.storeBank k b.stagedBytes) l [.image]) (hk : k.field ∈ l)
    (hs : R.IMG_STAT_STATE ∈ l) (hp : R.IMG_PROGRESS ∈ l) : b.Keeps (b.endWrite k) l [.image] :=
  ((hstore.trans (Block.keeps_setBank _ k _ _ _ (List.mem_map_of_mem hk) (by simp))).trans
    ((Block.keeps_endJob _).widen _ _ (List.cons_subset.2 ⟨hs, List.nil_subset _⟩) (by simp))).trans
    (Block.keeps_set _ _ _ _ _ (List.mem_map_of_mem hp))

end

theorem leAt_lt (l : List Byte) (o n : Nat) : leAt l o n < 256 ^ n := by
  induction n generalizing o with
  | zero => simp [leAt]
  | succ n ih =>
    have hrest := ih (o + 1)
    have hbyte := (l.getD o 0).isLt
    rw [leAt, pow_succ]
    omega

section
variable (b : Block) (bytes : List Byte) (k : Bank) (hk : k = .a ∨ k = .b)
include hk

/-- IMG_SEQ shows the sequence of the new bytes. -/
theorem Block.storeBank_seq : (b.storeBank k bytes).get (if k = .a then R.IMG_SEQ_A else R.IMG_SEQ_B) = leAt bytes 0x14 4 := by
  have hlt : leAt bytes 0x14 4 < 2 ^ 32 := leAt_lt bytes 0x14 4
  obtain rfl | rfl := hk <;> exact (Block.get_set_self _ _ _).trans (Nat.mod_eq_of_lt hlt)

theorem Block.storeBank_seq_other : (b.storeBank k bytes).get (if k = .a then R.IMG_SEQ_B else R.IMG_SEQ_A) =
    b.get (if k = .a then R.IMG_SEQ_B else R.IMG_SEQ_A) := by
  obtain rfl | rfl := hk <;> exact Block.get_set_ne _ _ _ _ (by decide)

end

section
variable (s : State) (hr : s.blk.running = true)
include hr

theorem writeBankDone_stores (k : Bank) (hj : s.blk.image.job = .write k) (hk : k = .a ∨ k = .b) :
    ∃ t, exec .writeBankDone s = .next t ∧ t.blk.bankBytes k = s.blk.stagedBytes ∧ t.blk.bankState k = 1 ∧
      (∀ j, j ≠ k → t.blk.bankBytes j = s.blk.bankBytes j ∧ t.blk.bankState j = s.blk.bankState j) ∧
      t.blk.get (if k = .a then R.IMG_SEQ_A else R.IMG_SEQ_B) = leAt s.blk.stagedBytes 0x14 4 ∧
      t.blk.get (if k = .a then R.IMG_SEQ_B else R.IMG_SEQ_A) = s.blk.get (if k = .a then R.IMG_SEQ_B else R.IMG_SEQ_A) ∧
      t.blk.get R.IMG_STAT_STATE = 0 ∧ t.blk.image.job = .none ∧ t.blk.trialStarted = s.blk.trialStarted ∧
      s.Keeps t [R.IMG_SEQ_A, R.IMG_SEQ_B, R.IMG_BANK_STATE_STATE_A, R.IMG_BANK_STATE_STATE_B, R.IMG_STAT_STATE, R.IMG_PROGRESS]
        [.image] := by
  have hgolden : k ≠ .golden := by obtain rfl | rfl := hk <;> decide
  have hfield : k.field ∈ [R.IMG_BANK_STATE_STATE_A, R.IMG_BANK_STATE_STATE_B] := by obtain rfl | rfl := hk <;> simp [Bank.field]
  have hseq (f : Field) (hf : f ∈ [R.IMG_SEQ_A, R.IMG_SEQ_B]) :
      (s.run fun _ => s.blk.endWrite k).blk.get f = (s.blk.storeBank k s.blk.stagedBytes).get f := by
    simp only [List.mem_cons, List.not_mem_nil, or_false] at hf
    obtain rfl | rfl := hf <;> obtain rfl | rfl := hk <;>
      exact (State.run_get s _ _ (by decide)).trans (Block.endWrite_get _ _ _ (by decide) (by decide) (by decide))
  refine ⟨_, exec_of_runOn _ rfl (s.blk.endWrite k) hr ?_, ?_, ?_, fun j hne => ⟨?_, ?_⟩, ?_, ?_, ?_, ?_, ?_, State.keeps_run s _ _ _ ?_⟩
  · rw [← Block.writeDone_eq _ _ hj, beq_false_of_ne hgolden]
  · rw [State.run_bankBytes, Block.endWrite_bankBytes, if_pos rfl]
  · rw [State.run_bankState, Block.endWrite_bankState, if_pos rfl, if_neg hgolden]
  · rw [State.run_bankBytes, Block.endWrite_bankBytes, if_neg hne]
  · rw [State.run_bankState, Block.endWrite_bankState, if_neg hne]
  · rw [hseq _ (by split <;> simp), Block.storeBank_seq _ _ _ hk]
  · rw [hseq _ (by split <;> simp), Block.storeBank_seq_other _ _ _ hk]
  · rw [State.run_get s _ _ (by decide), Block.endWrite_state]
  · rw [State.run_image, Block.endWrite_image]
  · rw [State.run_trialStarted, Block.endWrite_trialStarted]
  · exact Block.keeps_endWrite _ _ _ ((Block.keeps_storeBank _ _ _).widen _ _ (by simp) (by simp))
      (List.mem_append_right [R.IMG_SEQ_A, R.IMG_SEQ_B] (List.mem_append_left [R.IMG_STAT_STATE, R.IMG_PROGRESS] hfield)) (by simp) (by simp)

theorem goldenWriteDone_stores (hj : s.blk.image.job = .write .golden) :
    ∃ t, exec .goldenWriteDone s = .next t ∧ t.blk.bankBytes .golden = s.blk.stagedBytes ∧ t.blk.image.bankA = s.blk.image.bankA ∧
      t.blk.image.bankB = s.blk.image.bankB ∧ t.blk.get R.IMG_BANK_STATE_STATE_GOLDEN = 3 ∧ t.blk.get R.IMG_STAT_STATE = 0 ∧
      t.blk.image.job = .none ∧ s.Keeps t [R.IMG_BANK_STATE_STATE_GOLDEN, R.IMG_STAT_STATE, R.IMG_PROGRESS] [.image] := by
  have hbytes (j : Bank) : (s.run fun _ => s.blk.endWrite .golden).blk.bankBytes j =
      if j = .golden then s.blk.stagedBytes else s.blk.bankBytes j := by rw [State.run_bankBytes, Block.endWrite_bankBytes]
  refine ⟨_, exec_of_runOn _ rfl (s.blk.endWrite .golden) hr (Block.writeDone_eq _ _ hj), hbytes .golden, hbytes .a, hbytes .b, ?_, ?_,
    ?_, State.keeps_run s _ _ _ ?_⟩
  · exact (State.run_bankState s _ .golden).trans (Block.endWrite_bankState _ _ _)
  · rw [State.run_get s _ _ (by decide), Block.endWrite_state]
  · rw [State.run_image, Block.endWrite_image]
  · exact Block.keeps_endWrite _ _ _ ((s.blk.keeps_storeBank_golden _).widen _ _ (by simp) (by simp)) (by simp [Bank.field]) (by simp)
      (by simp)

/-- No command runs: the end of one is without effect. -/
theorem imageDone_idle (c : Instr) (hj : s.blk.image.job = .none)
    (hc : c ∈ [Instr.verifyStagedDone true, .verifyStagedDone false, .writeBankDone, .goldenWriteDone]) :
    ∃ t, exec c s = .next t ∧ s.Keeps t [] [] := by
  have hverify (ok : Bool) : exec (.verifyStagedDone ok) s = .next (s.run fun _ => s.blk) :=
    exec_verifyStagedDone_eq s ok _ hr (by simp [Block.verifyDone, hj])
  simp only [List.mem_cons, List.not_mem_nil, or_false] at hc
  obtain rfl | rfl | rfl | rfl := hc
  · exact keeps_of_same (hverify true)
  · exact keeps_of_same (hverify false)
  · exact keeps_of_same (exec_of_runOn _ rfl _ hr (by simp [Block.writeDone, hj]))
  · exact keeps_of_same (exec_of_runOn _ rfl _ hr (by simp [Block.writeDone, hj]))

end

end Sys2Proof.Machine
end

section
/-! Trials, their confirmation and ROLLBACK_COMMIT (R94, R97, R99, R104). -/

namespace Sys2Proof.Machine

/-! ARM_TRIAL (R97, R102). -/

section
variable (s : State) (hm : s.blk.mode ∈ [6, 7, 10, 11]) (h0 : s.blk.get R.IMG_STAT_STATE = 0)
include hm h0

theorem imgCmdArmTrial_arms (k : Bank)
    (hk : (k = .a ∧ s.blk.bankState .a = 1) ∨ (k = .b ∧ s.blk.bankState .b = 1 ∧ s.blk.bankState .a ≠ 1))
    (hseq : ∀ r ∈ s.blk.image.records, r.seq + 1 < 2 ^ 32) :
    ∃ t, exec .imgCmdArmTrial s = .next t ∧ t.blk.bankState k = 2 ∧ (∀ j, j ≠ k → t.blk.bankState j = s.blk.bankState j) ∧
      t.blk.trialStarted = false ∧ t.blk.image.job = s.blk.image.job ∧ (∀ j, t.blk.bankBytes j = s.blk.bankBytes j) ∧
      s.Keeps t [R.IMG_BANK_STATE_STATE_A, R.IMG_BANK_STATE_STATE_B] [.image] := by
  have himage : (s.blk.set k.field 2).image = s.blk.image := Block.set_image _ _ _
  have hfield : k.field ∈ [R.IMG_BANK_STATE_STATE_A, R.IMG_BANK_STATE_STATE_B] := by
    obtain ⟨rfl, -⟩ | ⟨rfl, -⟩ := hk <;> simp [Bank.field]
  refine ⟨_, exec_of_runReg _ rfl ((s.blk.set k.field 2).putRecord false) (Block.reachable_of_staging hm) ?_, ?_, fun j hj => ?_, ?_, ?_,
    fun j => ?_, State.keeps_run s _ _ _ ?_⟩
  · rw [Block.armTrial, stagingModes, Block.imgCommand_taken _ _ _ h0 hm]
    obtain ⟨rfl, ha⟩ | ⟨rfl, hb, ha⟩ := hk
    · simp [ha]
    · simp [ha, hb]
  · rw [State.run_bankState, Block.putRecord_bankState, Block.set_bankState_self]
  · rw [State.run_bankState, Block.putRecord_bankState, Block.set_bankState_ne _ _ hj]
  · rw [State.run_trialStarted, Block.putRecord_trialStarted _ _ (by rwa [himage])]
  · rw [State.run_image, Block.putRecord_eq, Block.setImage_image, himage]
  · rw [State.run_bankBytes, Block.putRecord_bankBytes, Block.bankBytes_congr himage]
  · exact (s.blk.keeps_set _ _ _ _ (List.mem_map_of_mem hfield)).trans (Block.keeps_putRecord _ _ _ _ (by simp))

theorem imgCmdArmTrial_none (ha : s.blk.bankState .a ≠ 1) (hb : s.blk.bankState .b ≠ 1) : Refuses .imgCmdArmTrial s 0x14 := by
  refine refuses_of_runReg _ rfl 0x14 (Block.reachable_of_staging hm) ?_
  rw [Block.armTrial, stagingModes, Block.imgCommand_taken _ _ _ h0 hm]
  simp [ha, hb]

end

/-! CONFIRM (R99). -/

/-- The other of the banks A and B. -/
def Bank.other : Bank → Bank
  | .a => .b
  | _ => .a

/-- The former ACTIVE bank is PREVIOUS. -/
def Block.retireActive (b : Block) (k : Bank) : Block := if b.bankState k.other = 3 then b.setBank k.other 4 else b

/-- Bank `k` is ACTIVE, and no image is on trial. -/
def Block.confirmed (b : Block) (k : Bank) : Block :=
  let c := ((((b.retireActive k).set k.field 3).putRecord false).set R.IMG_STAT_RUN_TRIAL 0).set R.IMG_TRIAL_LEFT 0
  c.setImage { c.image with trialTicks := 0 }

theorem Block.trialBank_mem {b : Block} {k : Bank} (h : b.trialBank = some k) : k = .a ∨ k = .b := by
  simpa using List.mem_of_find?_eq_some h

theorem Block.confirmTrial_eq (b : Block) (k : Bank) (h : b.trialBank = some k) : b.confirmTrial = b.confirmed k := by
  have hforEach (l : List Bank) (hl : l = if b.bankState k.other = 3 then [k.other] else []) :
      b.forEach l (fun b x => b.setBank x 4) = b.retireActive k := by
    rw [hl, Block.retireActive]
    split <;> rfl
  rw [Block.confirmTrial, h]
  dsimp only
  rw [hforEach _ (by obtain rfl | rfl := Block.trialBank_mem h <;> (simp [List.filter_cons, Bank.other]; rfl))]
  rfl

section
variable (b : Block) (k : Bank)

theorem Bank.eq_other {j k : Bank} (hk : k = .a ∨ k = .b) (hj : j ≠ k) (hg : j ≠ .golden) : j = k.other := by
  obtain rfl | rfl := hk
  · cases j with
    | b => rfl
    | a => exact absurd rfl hj
    | golden => exact absurd rfl hg
  · cases j with
    | a => rfl
    | b => exact absurd rfl hj
    | golden => exact absurd rfl hg

theorem Block.retireActive_bankState {j : Bank} (hk : k = .a ∨ k = .b) (hj : j ≠ k) (hg : j ≠ .golden) :
    (b.retireActive k).bankState j = if b.bankState j = 3 then 4 else b.bankState j := by
  obtain rfl := Bank.eq_other hk hj hg
  rw [Block.retireActive]
  by_cases h : b.bankState k.other = 3
  · rw [if_pos h, if_pos h, Block.setBank_bankState_self]
  · rw [if_neg h, if_neg h]

theorem Block.keeps_retireActive : b.Keeps (b.retireActive k) [R.IMG_BANK_STATE_STATE_A, R.IMG_BANK_STATE_STATE_B] [.image] := by
  rw [Block.retireActive]
  split
  · exact b.keeps_setBank _ _ _ _ (by cases k <;> decide) (by simp)
  · exact Block.Keeps.refl _ _ _

theorem Block.retireActive_seq (h : ∀ r ∈ b.image.records, r.seq + 3 < 2 ^ 32) :
    ∀ r ∈ (b.retireActive k).image.records, r.seq + 1 < 2 ^ 32 := by
  rw [Block.retireActive]
  split
  · have hnext := (b.set k.other.field 4).nextRecords_seq b.trialStarted (2 ^ 32 - 1)
      (fun r hr => by have := h r (by rwa [Block.set_image] at hr); omega) (by decide)
    intro r hr
    rw [Block.setBank, Block.putRecord_eq, Block.setImage_image] at hr
    have := hnext r hr
    omega
  · intro r hr
    have := h r hr
    omega

theorem Block.confirmed_bankState (j : Bank) :
    (b.confirmed k).bankState j = if j = k then 3 else (b.retireActive k).bankState j := by
  rw [Block.confirmed, (Block.keeps_setImage _ _ [] [.image] (by simp)).bankState_eq j (by simp),
    (Block.keeps_set _ R.IMG_TRIAL_LEFT _ [R.IMG_TRIAL_LEFT] [] (by simp)).bankState_eq j (by cases j <;> decide),
    (Block.keeps_set _ R.IMG_STAT_RUN_TRIAL _ [R.IMG_STAT_RUN_TRIAL] [] (by simp)).bankState_eq j (by cases j <;> decide),
    Block.putRecord_bankState]
  by_cases h : j = k
  · rw [if_pos h, h, Block.set_bankState_self]
  · rw [if_neg h, Block.set_bankState_ne _ _ h]

theorem Block.confirmed_trialStarted (h : ∀ r ∈ b.image.records, r.seq + 3 < 2 ^ 32) : (b.confirmed k).trialStarted = false := by
  have hset := Block.putRecord_trialStarted ((b.retireActive k).set k.field 3) false
    (by rw [Block.set_image]; exact b.retireActive_seq k h)
  rw [Block.trialStarted_eq] at hset ⊢
  rw [Block.confirmed, Block.setImage_image, Block.set_image, Block.set_image]
  exact hset

theorem Block.keeps_confirmed (hk : k = .a ∨ k = .b) : b.Keeps (b.confirmed k)
    [R.IMG_BANK_STATE_STATE_A, R.IMG_BANK_STATE_STATE_B, R.IMG_STAT_RUN_TRIAL, R.IMG_TRIAL_LEFT] [.image] := by
  refine (((((b.keeps_retireActive k).widen _ _ (by simp) (by simp)).trans (Block.keeps_set _ _ _ _ _ ?_)).trans
    (Block.keeps_putRecord _ _ _ _ (by simp))).trans (Block.keeps_set _ _ _ _ _ (by simp))).trans (Block.keeps_set _ _ _ _ _ (by simp))
    |>.trans (Block.keeps_setImage _ _ _ _ (by simp))
  obtain rfl | rfl := hk <;> simp [Bank.field]

end

/-- In M6 the loader waits for a command while bank `k` is on trial, its boot record far from the sequence's wrap (R96, R99). -/
structure Block.OnTrial (b : Block) (k : Bank) : Prop where
  mode : b.mode = 6
  idle : b.get R.IMG_STAT_STATE = 0
  trial : b.get R.IMG_STAT_RUN_TRIAL = 1
  bank : b.trialBank = some k
  seq : ∀ r ∈ b.image.records, r.seq + 3 < 2 ^ 32

theorem Block.reachable_of_six {b : Block} (hm : b.mode = 6) : b.reachable = true :=
  Block.reachable_of_mode (modes := [6]) (by decide) (by simpa using hm)

theorem imgCmdConfirm_confirms (s : State) (k : Bank) (h : s.blk.OnTrial k) :
    ∃ t, exec .imgCmdConfirm s = .next t ∧ t.blk.bankState k = 3 ∧
      (∀ j, j ≠ k → j ≠ .golden → t.blk.bankState j = if s.blk.bankState j = 3 then 4 else s.blk.bankState j) ∧
      t.blk.get R.IMG_STAT_RUN_TRIAL = 0 ∧ t.blk.get R.IMG_TRIAL_LEFT = 0 ∧ t.blk.trialStarted = false ∧
      s.Keeps t [R.IMG_BANK_STATE_STATE_A, R.IMG_BANK_STATE_STATE_B, R.IMG_STAT_RUN_TRIAL, R.IMG_TRIAL_LEFT] [.image] := by
  have hbank := Block.trialBank_mem h.bank
  refine ⟨_, exec_of_runReg _ rfl (s.blk.confirmed k) (Block.reachable_of_six h.mode) ?_, ?_, fun j hj hg => ?_, ?_, ?_, ?_,
    State.keeps_run s _ _ _ (s.blk.keeps_confirmed k hbank)⟩
  · rw [Block.confirmCmd, Block.imgCommand_taken _ _ _ h.idle (by simp [h.mode]), if_pos (Block.flag_of_one h.trial),
      s.blk.confirmTrial_eq k h.bank]
  · rw [State.run_bankState, Block.confirmed_bankState, if_pos rfl]
  · rw [State.run_bankState, Block.confirmed_bankState, if_neg hj, Block.retireActive_bankState _ _ hbank hj hg]
  · rw [State.run_get s _ _ (by decide), Block.confirmed, Block.setImage_get, Block.get_set_ne _ _ _ _ (by decide), Block.get_set_self]
    rfl
  · rw [State.run_get s _ _ (by decide), Block.confirmed, Block.setImage_get, Block.get_set_self]
    rfl
  · rw [State.run_trialStarted, Block.confirmed_trialStarted _ _ h.seq]

theorem imgCmdConfirm_noTrial (s : State) (hm : s.blk.mode = 6) (h0 : s.blk.get R.IMG_STAT_STATE = 0)
    (ht : s.blk.get R.IMG_STAT_RUN_TRIAL = 0) : Refuses .imgCmdConfirm s 0x14 := by
  refine refuses_of_runReg _ rfl 0x14 (Block.reachable_of_six hm) ?_
  rw [Block.confirmCmd, Block.imgCommand_taken _ _ _ h0 (by simp [hm])]
  simp [Block.flag_of_zero ht]

/-! ROLLBACK_COMMIT (R94). -/

theorem imgCmdRollbackCommit_unfit (s : State) (hm : s.blk.mode = 6) (h0 : s.blk.get R.IMG_STAT_STATE = 0) (i : Image)
    (hi : s.blk.image.run = some i) (hunfit : s.blk.bankState s.blk.runBank ≠ 3 ∨ s.blk.get R.IMG_STAT_RUN_MODIFIED = 1) :
    Refuses .imgCmdRollbackCommit s 0x12 := by
  have hunfit : s.blk.bankState s.blk.runBank ≠ 3 ∨ s.blk.flag R.IMG_STAT_RUN_MODIFIED = true := hunfit.imp_right Block.flag_of_one
  refine refuses_rollbackCommit 0x12 (Block.reachable_of_six hm) ?_
  simp [rollbackCommit, hi, Block.imgIdle, h0, hunfit]

/-- In M6 the loader waits for a command; the image that runs is that of an ACTIVE bank, whole (R94). -/
structure Block.Committable (b : Block) (i : Image) : Prop where
  mode : b.mode = 6
  idle : b.get R.IMG_STAT_STATE = 0
  run : b.image.run = some i
  active : b.bankState b.runBank = 3
  whole : b.get R.IMG_STAT_RUN_MODIFIED = 0

theorem rollbackCommit_eq {b : Block} {i : Image} (h : b.Committable i) (o : Otp) : rollbackCommit b o =
    if raiseCounters i o.rollback = o.rollback then (b.imgRefuse 0x14, o) else (b, { o with rollback := raiseCounters i o.rollback }) := by
  simp [rollbackCommit, h.run, Block.imgIdle, h.idle, h.mode, h.active, Block.flag_of_zero h.whole]

section
variable (s : State) (i : Image) (h : s.blk.Committable i)
include h

theorem imgCmdRollbackCommit_raises (hup : raiseCounters i s.otp.rollback ≠ s.otp.rollback) :
    ∃ t, exec .imgCmdRollbackCommit s = .next t ∧ t.otp = { s.otp with rollback := raiseCounters i s.otp.rollback } ∧
      t.pending = s.pending ∧ s.blk.Keeps t.blk [] [] := by
  have hexec : exec .imgCmdRollbackCommit s = .next (s.runOtp (viaBus rollbackCommit)) := rfl
  have e : viaBus rollbackCommit s.blk s.otp = (s.blk, { s.otp with rollback := raiseCounters i s.otp.rollback }) := by
    rw [viaBus, if_pos (Block.reachable_of_six h.mode), rollbackCommit_eq h, if_neg hup]
  refine ⟨_, hexec, ?_, rfl, ?_⟩
  · rw [State.runOtp, e]
  · rw [State.runOtp, e]
    exact Block.keeps_updateAlert _ _ _

theorem imgCmdRollbackCommit_unchanged (hsame : raiseCounters i s.otp.rollback = s.otp.rollback) :
    Refuses .imgCmdRollbackCommit s 0x14 :=
  refuses_rollbackCommit 0x14 (Block.reachable_of_six h.mode) ((rollbackCommit_eq h s.otp).trans (if_pos hsame))

end

end Sys2Proof.Machine
end

section
/-! ABORT and the staged words (R104, R112), and the settlement of `Obligations.ImageCommands`. -/

namespace Sys2Proof.Machine

/-! ABORT (R104). -/

section
variable (b : Block) (k : Bank)

theorem Block.emptyBank_bankBytes (j : Bank) : (b.emptyBank k).bankBytes j = if j = k then [] else b.bankBytes j := by
  have hset (i : Bank) (v : Nat) : (b.setBank i v).bankBytes j = b.bankBytes j := b.setBank_bankBytes j i v
  cases k with
  | a => cases j with
    | a => rfl
    | b => exact hset .a 0
    | golden => exact hset .a 0
  | b => cases j with
    | a => exact hset .b 0
    | b => rfl
    | golden => exact hset .b 0
  | golden => cases j with
    | a => exact hset .golden 0
    | b => exact hset .golden 0
    | golden => rfl

/-- The field that shows the sequence of a bank's image, where it has one. -/
def Bank.seqFields : Bank → List Field
  | .a => [R.IMG_SEQ_A]
  | .b => [R.IMG_SEQ_B]
  | .golden => []

theorem Block.keeps_emptyBank_setBank (l : List Field) (hl : k.seqFields ⊆ l) : (b.setBank k 0).Keeps (b.emptyBank k) l [.image] := by
  cases k with
  | a =>
    have hseq : R.IMG_SEQ_A ∈ l := hl (by simp [Bank.seqFields])
    exact (Block.keeps_set _ R.IMG_SEQ_A 0 _ _ (List.mem_map_of_mem hseq)).trans (Block.keeps_setImage _ _ _ _ (by simp))
  | b =>
    have hseq : R.IMG_SEQ_B ∈ l := hl (by simp [Bank.seqFields])
    exact (Block.keeps_set _ R.IMG_SEQ_B 0 _ _ (List.mem_map_of_mem hseq)).trans (Block.keeps_setImage _ _ _ _ (by simp))
  | golden => exact Block.keeps_setImage _ _ _ _ (by simp)

theorem Block.keeps_emptyBank (l : List Field) (hk : k.field ∈ l) (hl : k.seqFields ⊆ l) : b.Keeps (b.emptyBank k) l [.image] :=
  (b.keeps_setBank k 0 _ _ (List.mem_map_of_mem hk) (by simp)).trans (b.keeps_emptyBank_setBank k l hl)

theorem Block.emptyBank_bankState (j : Bank) : (b.emptyBank k).bankState j = if j = k then 0 else b.bankState j := by
  rw [(b.keeps_emptyBank_setBank k _ (List.Subset.refl _)).bankState_eq j (by cases k <;> cases j <;> decide)]
  by_cases h : j = k
  · rw [if_pos h, h, Block.setBank_bankState_self]
  · rw [if_neg h, Block.setBank_bankState_ne _ _ h]

section
variable {k} (hk : k = .a ∨ k = .b)
include hk

theorem Block.emptyBank_seq : (b.emptyBank k).get (if k = .a then R.IMG_SEQ_A else R.IMG_SEQ_B) = 0 := by
  obtain rfl | rfl := hk <;> exact (Block.get_set_self _ _ _).trans (Nat.zero_mod _)

theorem Block.emptyBank_seq_other : (b.emptyBank k).get (if k = .a then R.IMG_SEQ_B else R.IMG_SEQ_A) =
    b.get (if k = .a then R.IMG_SEQ_B else R.IMG_SEQ_A) := by
  obtain rfl | rfl := hk <;> exact (b.keeps_emptyBank _ _ (List.mem_cons_self ..) (List.subset_cons_self _ _)).1 _ (by decide) (by decide)

end

end

section
variable (s : State) (hr : s.blk.reachable = true)
include hr

theorem imgCmdAbort_idle (hj : s.blk.image.job = .none) : ∃ t, exec .imgCmdAbort s = .next t ∧ s.Keeps t [] [] :=
  keeps_of_same (exec_of_runReg _ rfl _ hr (by simp [Block.abortCmd, hj]))

theorem imgCmdAbort_verify (hj : s.blk.image.job = .verify) :
    ∃ t, exec .imgCmdAbort s = .next t ∧ t.blk.image = { s.blk.image with job := .none } ∧ t.blk.get R.IMG_STAT_STATE = 0 ∧
      s.Keeps t [R.IMG_STAT_STATE] [.image] := by
  refine ⟨_, exec_of_runReg _ rfl s.blk.endJob hr (by rw [Block.abortCmd, hj]; rfl), ?_, ?_, State.keeps_run s _ _ _ s.blk.keeps_endJob⟩
  · rw [State.run_image, Block.endJob_image]
  · rw [State.run_get s _ _ (by decide), Block.endJob_state]

theorem imgCmdAbort_write (k : Bank) (hj : s.blk.image.job = .write k) (hk : k = .a ∨ k = .b) :
    ∃ t, exec .imgCmdAbort s = .next t ∧ t.blk.bankBytes k = [] ∧ t.blk.bankState k = 0 ∧
      (∀ j, j ≠ k → t.blk.bankBytes j = s.blk.bankBytes j ∧ t.blk.bankState j = s.blk.bankState j) ∧
      t.blk.image.job = .none ∧ t.blk.get R.IMG_STAT_STATE = 0 ∧
      t.blk.get (if k = .a then R.IMG_SEQ_A else R.IMG_SEQ_B) = 0 ∧
      t.blk.get (if k = .a then R.IMG_SEQ_B else R.IMG_SEQ_A) = s.blk.get (if k = .a then R.IMG_SEQ_B else R.IMG_SEQ_A) ∧
      s.Keeps t [R.IMG_SEQ_A, R.IMG_SEQ_B, R.IMG_BANK_STATE_STATE_A, R.IMG_BANK_STATE_STATE_B, R.IMG_STAT_STATE] [.image] := by
  have hseq (f : Field) (hf : f ∈ [R.IMG_SEQ_A, R.IMG_SEQ_B]) :
      (s.run fun _ => (s.blk.emptyBank k).endJob).blk.get f = (s.blk.emptyBank k).get f := by
    simp only [List.mem_cons, List.not_mem_nil, or_false] at hf
    obtain rfl | rfl := hf <;>
      exact (State.run_get s _ _ (by decide)).trans ((Block.keeps_endJob _).1 _ (by decide) (by decide))
  refine ⟨_, exec_of_runReg _ rfl (s.blk.emptyBank k).endJob hr ?_, ?_, ?_, fun j hne => ⟨?_, ?_⟩, ?_, ?_, ?_, ?_,
    State.keeps_run s _ _ _ (Block.Keeps.trans ?_ ((Block.keeps_endJob _).widen _ _ (by simp) (by simp)))⟩
  · rw [Block.abortCmd, hj]
    obtain rfl | rfl := hk <;> rfl
  · rw [State.run_bankBytes, Block.endJob_bankBytes, Block.emptyBank_bankBytes, if_pos rfl]
  · rw [State.run_bankState, Block.endJob_bankState, Block.emptyBank_bankState, if_pos rfl]
  · rw [State.run_bankBytes, Block.endJob_bankBytes, Block.emptyBank_bankBytes, if_neg hne]
  · rw [State.run_bankState, Block.endJob_bankState, Block.emptyBank_bankState, if_neg hne]
  · rw [State.run_image, Block.endJob_image]
  · rw [State.run_get s _ _ (by decide), Block.endJob_state]
  · rw [hseq _ (by split <;> simp), Block.emptyBank_seq _ hk]
  · rw [hseq _ (by split <;> simp), Block.emptyBank_seq_other _ hk]
  · obtain rfl | rfl := hk <;> exact s.blk.keeps_emptyBank _ _ (by simp [Bank.field]) (by simp [Bank.seqFields])

theorem imgCmdAbort_reloadPending (n k : Nat) (hj : s.blk.image.job = .reloadPending n k) (hn : n < 8) :
    ∃ t, exec .imgCmdAbort s = .next t ∧ t.blk.image = { s.blk.image with job := .none } ∧ t.blk.get R.IMG_STAT_STATE = 0 ∧
      t.blk.get R.IMG_RELOAD_LAST_SLICE = n ∧ t.blk.get R.IMG_RELOAD_LAST_OK = 0 ∧
      s.Keeps t [R.IMG_STAT_STATE, R.IMG_RELOAD_LAST_SLICE, R.IMG_RELOAD_LAST_OK] [.image] := by
  have hend := Block.keeps_endJob ((s.blk.set R.IMG_RELOAD_LAST_SLICE n).set R.IMG_RELOAD_LAST_OK 0)
  refine ⟨_, exec_of_runReg _ rfl ((s.blk.set R.IMG_RELOAD_LAST_SLICE n).set R.IMG_RELOAD_LAST_OK 0).endJob hr
    (by rw [Block.abortCmd, hj]; rfl), ?_, ?_, ?_, ?_,
    State.keeps_run s _ _ _ (((s.blk.keeps_set _ _ _ _ (by simp)).trans (Block.keeps_set _ _ _ _ _ (by simp))).trans
      (hend.widen _ _ (by simp) (by simp)))⟩
  · rw [State.run_image, Block.endJob_image, Block.set_image, Block.set_image]
  · rw [State.run_get s _ _ (by decide), Block.endJob_state]
  · rw [State.run_get s _ _ (by decide), hend.1 _ (by decide) (by decide), Block.get_set_ne _ _ _ _ (by decide), Block.get_set_self]
    exact Nat.mod_eq_of_lt hn
  · rw [State.run_get s _ _ (by decide), hend.1 _ (by decide) (by decide), Block.get_set_self]
    rfl

theorem imgCmdAbort_refused (hj : s.blk.image.job = .write .golden ∨ ∃ n k f, s.blk.image.job = .reloadRunning n k f) :
    Refuses .imgCmdAbort s 0x11 := by
  refine refuses_of_runReg _ rfl 0x11 hr ?_
  obtain hj | ⟨n, k, f, hj⟩ := hj <;> rw [Block.abortCmd, hj]

/-! Staged words (R102, R104, R112). -/

theorem imgStageData_stores (v : Word) (hj : s.blk.image.job = .none ∨ ∃ k, s.blk.image.job = .write k) :
    ∃ t, exec (.imgStageData v) s = .next t ∧ t.blk.image = { s.blk.image with
        stage := s.blk.image.stage.setNum (s.blk.get R.IMG_STAGE_OFFSET / 4 * 4) v.toNat 4, verified := none } ∧
      t.blk.get R.IMG_STAGE_OFFSET = (s.blk.get R.IMG_STAGE_OFFSET / 4 * 4 + 4) % 2 ^ R.IMG_STAGE_OFFSET.width ∧
      s.Keeps t [R.IMG_STAGE_OFFSET] [.image] := by
  have e : s.blk.stageData v.toNat = (s.blk.setImage { s.blk.image with
      stage := s.blk.image.stage.setNum (s.blk.get R.IMG_STAGE_OFFSET / 4 * 4) v.toNat 4, verified := none }).set R.IMG_STAGE_OFFSET
        (s.blk.get R.IMG_STAGE_OFFSET / 4 * 4 + 4) := by
    obtain hj | ⟨k, hj⟩ := hj <;> simp [Block.stageData, hj]
  refine ⟨_, exec_of_runReg _ rfl _ hr e, ?_, ?_, State.keeps_run s _ _ _ ?_⟩
  · rw [State.run_image, Block.set_image, Block.setImage_image]
  · rw [State.run_get s _ _ (by decide), Block.get_set_self]
  · exact (s.blk.keeps_setImage _ _ _ (by simp)).trans (Block.keeps_set _ _ _ _ _ (by simp))

theorem imgStageData_refused (v : Word) (hj : s.blk.image.job = .verify ∨ (∃ n k, s.blk.image.job = .reloadPending n k) ∨
      ∃ n k f, s.blk.image.job = .reloadRunning n k f) :
    ∃ t, exec (.imgStageData v) s = .next t ∧
      t.blk.get R.IMG_STAGE_REFUSED = (s.blk.get R.IMG_STAGE_REFUSED + 1) % 2 ^ R.IMG_STAGE_REFUSED.width ∧
      s.Keeps t [R.IMG_STAGE_REFUSED] [] := by
  have e : s.blk.stageData v.toNat = s.blk.bump R.IMG_STAGE_REFUSED := by
    obtain hj | ⟨n, k, hj⟩ | ⟨n, k, f, hj⟩ := hj <;> simp [Block.stageData, hj]
  refine ⟨_, exec_of_runReg _ rfl _ hr e, ?_, State.keeps_run s _ _ _ (s.blk.keeps_bump _ _ _ (by simp))⟩
  rw [State.run_get s _ _ (by decide), Block.bump_get]

end

/-- Settles O53: one lemma for each clause, by what the block operation of the command makes of the loader. -/
theorem imageCommands : Obligations.ImageCommands :=
  ⟨fun s c hc hr hb => (imgCommands_busy s c hc hr hb).segment,
    fun s c hr h0 hc => (imgCommands_wrongMode s c hr h0 hc).segment,
    fun s c h0 hv hc => (imgCommands_unverified s c h0 hv hc).segment,
    imgCmdNop_idle,
    imgCmdVerifyStaged_starts,
    verifyStagedDone_ends,
    fun s cause seg hr hj hv hcause hseg => by
      simpa only [Nat.mod_eq_of_lt hcause, Nat.mod_eq_of_lt hseg] using verifyStagedDone_bad s hr hj cause seg hv,
    verifyStagedDone_unread,
    fun s i k hm h0 hv hg hreload htrial hfree => imgCmdWriteBank_starts s i ⟨hm, h0, hv⟩ k hg hreload htrial hfree,
    fun s i hm h0 hv htrial => (imgCmdWriteBank_onTrial s i ⟨hm, h0, hv⟩ htrial).cause,
    fun s i hm h0 hv htrial hkind => (imgCmdWriteBank_wrongKind s i ⟨hm, h0, hv⟩ htrial hkind).cause,
    fun s k hr hj hk => writeBankDone_stores s hr k hj hk,
    fun s i hm h0 hv hg => imgCmdGoldenWrite_starts s i ⟨by simpa using hm, h0, hv⟩ hg,
    fun s i hm h0 hv hg => (imgCmdGoldenWrite_wrongKind s i ⟨by simpa using hm, h0, hv⟩ hg).cause,
    goldenWriteDone_stores,
    fun s c hr hj hc => imageDone_idle s hr c hj hc,
    fun s k hm h0 hk hseq => imgCmdArmTrial_arms s hm h0 k hk hseq,
    fun s hm h0 ha hb => (imgCmdArmTrial_none s hm h0 ha hb).cause,
    fun s k hm h0 ht hk hseq => imgCmdConfirm_confirms s k ⟨hm, h0, ht, hk, hseq⟩,
    fun s hm h0 ht => (imgCmdConfirm_noTrial s hm h0 ht).cause,
    fun s i hm h0 hi hactive hwhole hup => imgCmdRollbackCommit_raises s i ⟨hm, h0, hi, hactive, hwhole⟩ hup,
    fun s i hm h0 hi hunfit => (imgCmdRollbackCommit_unfit s hm h0 i hi hunfit).cause,
    fun s i hm h0 hi hactive hwhole hsame => (imgCmdRollbackCommit_unchanged s i ⟨hm, h0, hi, hactive, hwhole⟩ hsame).cause,
    imgCmdAbort_idle,
    imgCmdAbort_verify,
    fun s k hr hj hk => imgCmdAbort_write s hr k hj hk,
    fun s n k hr hj hn => imgCmdAbort_reloadPending s hr n k hj hn,
    fun s hr hj => (imgCmdAbort_refused s hr hj).segment,
    fun s v hr hj => imgStageData_stores s hr v hj,
    fun s v hr hj => imgStageData_refused s hr v hj⟩

end Sys2Proof.Machine
end

section
/-! Live slice reloads (R102, R107, R110): the command, and the slice held in slice reset. -/

namespace Sys2Proof.Machine

/-! SLICE_RELOAD (R102, R107). -/

section
variable (s : State) (p : Image) (h : s.blk.Offers [6, 7, 10] p)
include h

/-- A package for slice `p.reloadSlice` waits for the tick that IMG_RELOAD_TICK and the block boundaries give. -/
theorem imgCmdSliceReload_waits (hreload : p.reload = true) (hn : p.reloadSlice < 8) (hsup : p.reloadSlice ≠ s.blk.supvSlice)
    (hbase : leNum p.baseDigest = s.blk.get R.IMG_RUN_DIGEST) (x start : Nat)
    (hx : x = s.blk.get R.IMG_RELOAD_TICK_LO + 2 ^ 32 * s.blk.get R.IMG_RELOAD_TICK_HI)
    (hstart : (if x ≤ s.blk.tick then s.blk.nextBlock else ceilDiv x 25 * 25) = start) :
    ∃ t, exec (.imgCmdSliceReload p.reloadSlice) s = .next t ∧ t.blk.get R.IMG_STAT_STATE = 3 ∧ t.blk.get R.IMG_PROGRESS = 0 ∧
      t.blk.image = { s.blk.image with job := .reloadPending p.reloadSlice start } ∧
      s.Keeps t [R.IMG_STAT_STATE, R.IMG_PROGRESS] [.image] := by
  have e : s.blk.sliceReload (p.reloadSlice % 8) =
      s.blk.startJob { s.blk.image with job := .reloadPending p.reloadSlice start } 3 := by
    rw [Nat.mod_eq_of_lt hn, Block.sliceReload, Block.imgCommand_taken _ _ _ h.idle h.mode, h.verified]
    dsimp only
    rw [if_neg (by simp [hreload]), if_neg (by simp [hsup, hbase]), ← hx, hstart]
    rfl
  obtain ⟨t, e, himage, hstate, hprogress, hkeeps⟩ :=
    starts_of_runReg (c := .imgCmdSliceReload p.reloadSlice) _ rfl _ 3 (Block.reachable_of_mode (by decide) h.mode) e
  exact ⟨t, e, hstate, hprogress, himage, hkeeps⟩

theorem imgCmdSliceReload_wrongKind (n : Nat) (hreload : p.reload = false) : Refuses (.imgCmdSliceReload n) s 0x04 := by
  refine refuses_of_runReg _ rfl 0x04 (Block.reachable_of_mode (by decide) h.mode) ?_
  rw [Block.sliceReload, Block.imgCommand_taken _ _ _ h.idle h.mode, h.verified]
  simp [hreload]

theorem imgCmdSliceReload_wrongSlice (n : Nat) (hreload : p.reload = true) (hn : n < 8)
    (hwrong : n ≠ p.reloadSlice ∨ n = s.blk.supvSlice ∨ leNum p.baseDigest ≠ s.blk.get R.IMG_RUN_DIGEST) :
    Refuses (.imgCmdSliceReload n) s 0x10 := by
  refine refuses_of_runReg _ rfl 0x10 (Block.reachable_of_mode (by decide) h.mode) ?_
  rw [Nat.mod_eq_of_lt hn, Block.sliceReload, Block.imgCommand_taken _ _ _ h.idle h.mode, h.verified]
  dsimp only
  rw [if_neg (by simp [hreload]), if_pos hwrong]

end

/-- The first block boundary at or after a tick number. -/
theorem ceilDiv_block (x : Nat) : ceilDiv x 25 * 25 % 25 = 0 ∧ x ≤ ceilDiv x 25 * 25 ∧ ceilDiv x 25 * 25 < x + 25 := by
  unfold ceilDiv
  omega

/-! SLICE_RELOAD_START (R107, R110). -/

/-- A slice as its reload starts: held, its MOVE duties on their dormant schedules, its SUSPEND duties invalid. -/
def SliceState.reloading (x : SliceState) (i : Image) (n : Nat) : SliceState :=
  { x with held := true, halted := [], dbg := [], loaded := [], atEntry := [], sharedLoaded := false
           moves := i.moveTargets n, fill := spindlesOf n
           shown := x.shown ++ (i.suspended n).filter (fun m => !x.shown.contains m) }

/-- The slice is in slice reset, its fault windows are gone. -/
def Block.holdForReload (b : Block) (i : Image) (n : Nat) : Block :=
  ((b.resetFields (lostAtSliceReset n)).clearSliceWindows n).modSlice n (fun x => x.reloading i n)

/-- The reload runs from tick number `k`. -/
def Block.startReload (b : Block) (i : Image) (n k : Nat) : Block :=
  (b.holdForReload i n).startJob { b.image with job := .reloadRunning n k false } 4

section
variable (b : Block) (i : Image) (n k : Nat)

theorem Block.reloadStart_due (hj : b.image.job = .reloadPending n k) (hi : b.image.run = some i) (hk : k ≤ b.tick) :
    b.reloadStart = b.startReload i n k := by
  rw [Block.reloadStart, hj, hi]
  dsimp only
  rw [if_neg (by omega)]
  rfl

theorem Block.reloadStart_early (hj : b.image.job = .reloadPending n k) (hk : b.tick < k) : b.reloadStart = b := by
  rw [Block.reloadStart, hj]
  cases b.image.run with
  | none => rfl
  | some i => exact if_pos hk

theorem SliceState.reloading_shown (x : SliceState) : ∀ m ∈ i.suspended n, m ∈ (x.reloading i n).shown := by
  intro m hm
  by_cases h : m ∈ x.shown
  · exact List.mem_append_left _ h
  · exact List.mem_append_right _ (List.mem_filter.2 ⟨hm, by simpa using h⟩)

/-- Only fields of the slice's own window are lost. -/
theorem lostAtSliceReset_key {n key : Nat} {keep : Keep} (h : lostAtSliceReset n key keep = true) : 0x8000000 ≤ key := by
  have hwindow (hin : inSlice n key = true) : 0x8000000 ≤ key := by
    have := (of_decide_eq_true hin).1
    omega
  cases keep with
  | w => exact hwindow h
  | v => exact hwindow h
  | _ => cases h

theorem Block.holdForReload_get (f : Field) :
    (b.holdForReload i n).get f =
      if lostAtSliceReset n f.key (keepOf f.key) then Tab.get 0 resetRegs f.key % 2 ^ f.width else b.get f :=
  Block.resetFields_get b _ f

theorem Block.holdForReload_sliceState_self : (b.holdForReload i n).sliceState n = (b.sliceState n).reloading i n :=
  Block.sliceState_modSlice_self _ _ _

theorem Block.holdForReload_sliceState_ne {m : Nat} (h : m ≠ n) : (b.holdForReload i n).sliceState m = b.sliceState m :=
  Block.sliceState_modSlice_ne _ _ _ _ h

theorem Block.holdForReload_same (p : Part) (hs : p ≠ .slices) (ht : p ≠ .trouble) : p.same b (b.holdForReload i n) := by
  cases p with
  | slices => exact absurd rfl hs
  | trouble => exact absurd rfl ht
  | queues => exact ⟨fun _ _ => rfl, rfl, rfl⟩
  | _ => rfl

end

section
variable (s : State) (hr : s.blk.running = true)
include hr

theorem sliceReloadStart_starts (n k : Nat) (i : Image) (hj : s.blk.image.job = .reloadPending n k) (hi : s.blk.image.run = some i)
    (hk : k ≤ s.blk.tick) :
    ∃ t, exec .sliceReloadStart s = .next t ∧ t.blk.image = { s.blk.image with job := .reloadRunning n k false } ∧
      t.blk.get R.IMG_STAT_STATE = 4 ∧ t.blk.get R.IMG_PROGRESS = 0 ∧ (t.blk.sliceState n).held = true ∧
      (t.blk.sliceState n).moves = i.moveTargets n ∧ (t.blk.sliceState n).fill = spindlesOf n ∧
      (∀ x ∈ i.suspended n, x ∈ (t.blk.sliceState n).shown) ∧ (∀ m, m ≠ n → t.blk.sliceState m = s.blk.sliceState m) ∧
      t.blk.trouble = { s.blk.trouble with
        windows := s.blk.trouble.windows.filter (fun w => ¬(w.cls ≤ 2 ∧ sliceOf w.inst = n)) } ∧
      (∀ f : Field, lostAtSliceReset n f.key (keepOf f.key) = true → t.blk.get f = Tab.get 0 resetRegs f.key % 2 ^ f.width) ∧
      (∀ f : Field, lostAtSliceReset n f.key (keepOf f.key) = false →
        f.key ∉ [R.IMG_STAT_STATE, R.IMG_PROGRESS, R.TRB_SUMMARY].map Field.key → t.blk.get f = s.blk.get f) ∧
      (∀ p, p ∉ [Part.image, .slices, .trouble] → p.same s.blk t.blk) ∧ t.otp = s.otp ∧ t.pending = s.pending := by
  obtain ⟨himage, hstate, hprogress, -, -, hkeeps⟩ := State.run_startJob { s with blk := s.blk.holdForReload i n }
    { s.blk.image with job := .reloadRunning n k false } 4 (by decide) _ rfl
  have hslice : ∀ m, ({ s with blk := s.blk.holdForReload i n }.run fun _ => s.blk.startReload i n k).blk.sliceState m =
      (s.blk.holdForReload i n).sliceState m := hkeeps.sliceState_eq (by simp)
  have hself := (hslice n).trans (s.blk.holdForReload_sliceState_self i n)
  have htrouble := hkeeps.2 .trouble (by simp)
  refine ⟨_, exec_of_runOn _ rfl _ hr (s.blk.reloadStart_due i n k hj hi hk), himage, hstate, hprogress, ?_, ?_, ?_, ?_, fun m hm => ?_,
    htrouble, fun f hf => ?_, fun f hf hne => ?_, fun p hp => ?_, rfl, rfl⟩
  · exact congrArg SliceState.held hself
  · exact congrArg SliceState.moves hself
  · exact congrArg SliceState.fill hself
  · exact (congrArg SliceState.shown hself).symm ▸ SliceState.reloading_shown i n _
  · exact (hslice m).trans (s.blk.holdForReload_sliceState_ne i n hm)
  · have hkey := lostAtSliceReset_key hf
    refine (hkeeps.1 f ?_ ?_).trans ((s.blk.holdForReload_get i n f).trans (if_pos hf))
    · simp [R.IMG_STAT_STATE, R.IMG_PROGRESS]; omega
    · simp [R.TRB_SUMMARY]; omega
  · simp only [List.map_cons, List.map_nil, List.mem_cons, List.not_mem_nil, or_false, not_or] at hne
    obtain ⟨hne_state, hne_progress, hne_summary⟩ := hne
    exact (hkeeps.1 f (by simp [hne_state, hne_progress]) hne_summary).trans ((s.blk.holdForReload_get i n f).trans (if_neg (by simp [hf])))
  · simp only [List.mem_cons, List.not_mem_nil, or_false, not_or] at hp
    obtain ⟨hne_image, hne_slices, hne_trouble⟩ := hp
    exact Part.same_trans (s.blk.holdForReload_same i n p hne_slices hne_trouble) (hkeeps.2 p (by simpa using hne_image))

theorem sliceReloadStart_early (n k : Nat) (hj : s.blk.image.job = .reloadPending n k) (hk : s.blk.tick < k) :
    ∃ t, exec .sliceReloadStart s = .next t ∧ s.Keeps t [] [] :=
  keeps_of_same (exec_of_runOn _ rfl _ hr (s.blk.reloadStart_early n k hj hk))

end

end Sys2Proof.Machine
end

section
/-! The end of a live reload (R107–R110): with the new schedules, or after a digest failure with the old ones; faults of the slice that
waited are then acted on. -/

namespace Sys2Proof.Machine

/-! The slice runs again (R107, R110). -/

/-- A slice as its reload ends: its memories `l` are loaded, its duties run in it, and no fault waits. -/
def SliceState.released (x : SliceState) (l : List Nat) (n : Nat) : SliceState :=
  let y := { ({ x with held := false, moves := [] } : SliceState).load l with sharedLoaded := true }
  { y with fill := y.lastingInvalid n, pendingFaults := [] }

/-- The fields that show the last reload (R112). -/
def reloadShownFields : List Field := [R.IMG_RELOAD_LAST_SLICE, R.IMG_RELOAD_LAST_OK, R.IMG_RELOAD_LAST_TICK_TAG]

def Block.showReload (b : Block) (n : Nat) (ok : Bool) : Block :=
  ((b.set R.IMG_RELOAD_LAST_SLICE n).setFlag R.IMG_RELOAD_LAST_OK ok).set R.IMG_RELOAD_LAST_TICK_TAG b.tickTag

/-- A reload has ended, before the faults that waited are acted on. -/
def Block.endReload (b : Block) (n : Nat) (ok : Bool) : Block :=
  let c := ((b.showReload n ok).endJob.modSlice n (fun x => { x with held := false, moves := [] })).loadSlice n
  (c.modSlice n (fun x => { x with fill := x.lastingInvalid n })).modSlice n (fun x => { x with pendingFaults := [] })

section
variable (b : Block) (n : Nat) (ok : Bool)

theorem Block.keeps_showReload : b.Keeps (b.showReload n ok) reloadShownFields [] :=
  ((b.keeps_set _ _ _ _ (by simp [reloadShownFields])).trans (Block.keeps_set _ _ _ _ _ (by simp [reloadShownFields]))).trans
    (Block.keeps_set _ _ _ _ _ (by simp [reloadShownFields]))

theorem Block.showReload_slice (hn : n < 8) : (b.showReload n ok).get R.IMG_RELOAD_LAST_SLICE = n := by
  rw [Block.showReload, Block.get_set_ne _ _ _ _ (by decide), Block.setFlag_eq, Block.get_set_ne _ _ _ _ (by decide), Block.get_set_self]
  exact Nat.mod_eq_of_lt hn

theorem Block.showReload_ok : (b.showReload n ok).get R.IMG_RELOAD_LAST_OK = if ok then 1 else 0 := by
  rw [Block.showReload, Block.get_set_ne _ _ _ _ (by decide), Block.setFlag_eq, Block.get_set_self]
  cases ok <;> rfl

theorem Block.showReload_tag :
    (b.showReload n ok).get R.IMG_RELOAD_LAST_TICK_TAG = b.tickTag % 2 ^ R.IMG_RELOAD_LAST_TICK_TAG.width := Block.get_set_self _ _ _

theorem Block.keeps_endReload_endJob : (b.showReload n ok).endJob.Keeps (b.endReload n ok) [] [.slices] :=
  (((Block.keeps_modSlice _ _ _ _ _ (by simp)).trans (Block.keeps_modSlice _ _ _ _ _ (by simp))).trans
    (Block.keeps_modSlice _ _ _ _ _ (by simp))).trans (Block.keeps_modSlice _ _ _ _ _ (by simp))

theorem Block.endReload_image : (b.endReload n ok).image = { b.image with job := .none } := by
  rw [(b.keeps_endReload_endJob n ok).image_eq (by simp), Block.endJob_image, (b.keeps_showReload n ok).image_eq (by simp)]

theorem Block.endReload_state : (b.endReload n ok).get R.IMG_STAT_STATE = 0 := by
  rw [(b.keeps_endReload_endJob n ok).1 _ (by simp) (by decide), Block.endJob_state]

/-- What the end of a reload shows stays. -/
theorem Block.endReload_get (f : Field) (h : f.key ≠ R.IMG_STAT_STATE.key) (hs : f.key ≠ R.TRB_SUMMARY.key) :
    (b.endReload n ok).get f = (b.showReload n ok).get f := by
  rw [(b.keeps_endReload_endJob n ok).1 f (by simp) hs, (Block.keeps_endJob _).1 f (by simpa using h) hs]

theorem Block.keeps_endReload : b.Keeps (b.endReload n ok) (R.IMG_STAT_STATE :: reloadShownFields) [.image, .slices] :=
  (((b.keeps_showReload n ok).widen _ _ (by simp) (by simp)).trans ((Block.keeps_endJob _).widen _ _ (by simp) (by simp))).trans
    ((b.keeps_endReload_endJob n ok).widen _ _ (by simp) (by simp))

theorem Block.endReload_endJob_sliceState (m : Nat) : (b.showReload n ok).endJob.sliceState m = b.sliceState m := by
  rw [(Block.keeps_endJob _).sliceState_eq (by simp), (b.keeps_showReload n ok).sliceState_eq (by simp)]

theorem Block.endReload_sliceState_self : ∃ l, (b.endReload n ok).sliceState n = (b.sliceState n).released l n := by
  refine ⟨if (b.showReload n ok).endJob.flag (R.SLC_SPARE_SPARE_USED n) then List.range 65 else List.range 64, ?_⟩
  rw [Block.endReload, Block.loadSlice, Block.sliceState_modSlice_self, Block.sliceState_modSlice_self, Block.sliceState_modSlice_self,
    Block.sliceState_modSlice_self, b.endReload_endJob_sliceState n ok]
  rfl

theorem Block.endReload_sliceState_ne {m : Nat} (h : m ≠ n) : (b.endReload n ok).sliceState m = b.sliceState m := by
  rw [Block.endReload, Block.loadSlice, Block.sliceState_modSlice_ne _ _ _ _ h, Block.sliceState_modSlice_ne _ _ _ _ h,
    Block.sliceState_modSlice_ne _ _ _ _ h, Block.sliceState_modSlice_ne _ _ _ _ h, b.endReload_endJob_sliceState n ok]

/-- The faults that waited are acted on once the slice is released. -/
theorem Block.reloadOver_eq :
    b.reloadOver n ok = (b.endReload n ok).forEach (b.sliceState n).pendingFaults (fun c e => c.classAction e.1 e.2) := by
  have hfaults : (((((b.showReload n ok).endJob.modSlice n (fun x => { x with held := false, moves := [] })).loadSlice n).modSlice n
      (fun x => { x with fill := x.lastingInvalid n })).sliceState n).pendingFaults = (b.sliceState n).pendingFaults := by
    rw [Block.loadSlice, Block.sliceState_modSlice_self, Block.sliceState_modSlice_self, Block.sliceState_modSlice_self,
      b.endReload_endJob_sliceState n ok]
    rfl
  rw [← hfaults]
  rfl

end

/-! The new schedules start (R108). -/

/-- The image, its digest and the count of reloads. -/
def Block.showSchedules (b : Block) (p i : Image) : Block :=
  let c := (b.setImage { b.image with run := some (i.reloaded p), copy := some (i.reloaded p).runCopy }).set R.IMG_PROGRESS
    b.stagedBytes.length
  ((c.set R.IMG_RUN_DIGEST (leNum (sha512 (leBytes (b.get R.IMG_RUN_DIGEST) 64 ++ p.digest)))).set R.IMG_STAT_RUN_MODIFIED 1).bump
    R.IMG_RELOAD_COUNT

/-- The slice starts without failed spindles. -/
def Block.newSchedules (b : Block) (n : Nat) (p i : Image) : Block :=
  (b.showSchedules p i).modSlice n (fun x => { x with failed := [], stopped := false, alternate := false })

/-- The fields that show the new schedules. -/
def newScheduleFields : List Field := [R.IMG_PROGRESS, R.IMG_RUN_DIGEST, R.IMG_STAT_RUN_MODIFIED, R.IMG_RELOAD_COUNT]

section
variable (b : Block) (n : Nat) (p i : Image)

theorem Block.keeps_showSchedules : b.Keeps (b.showSchedules p i) newScheduleFields [.image] :=
  ((((b.keeps_setImage _ _ _ (by simp)).trans (Block.keeps_set _ _ _ _ _ (by simp [newScheduleFields]))).trans
    (Block.keeps_set _ _ _ _ _ (by simp [newScheduleFields]))).trans (Block.keeps_set _ _ _ _ _ (by simp [newScheduleFields]))).trans
    (Block.keeps_bump _ _ _ _ (by simp [newScheduleFields]))

theorem Block.keeps_newSchedules : b.Keeps (b.newSchedules n p i) newScheduleFields [.image, .slices] :=
  ((b.keeps_showSchedules p i).widen _ _ (List.Subset.refl _) (by simp)).trans (Block.keeps_modSlice _ _ _ _ _ (by simp))

theorem Block.newSchedules_image :
    (b.newSchedules n p i).image = { b.image with run := some (i.reloaded p), copy := some (i.reloaded p).runCopy } := by
  rw [Block.newSchedules, Block.modSlice_image, Block.showSchedules, Block.bump_eq, Block.set_image, Block.set_image, Block.set_image,
    Block.set_image, Block.setImage_image]

theorem Block.newSchedules_digest : (b.newSchedules n p i).get R.IMG_RUN_DIGEST =
    leNum (sha512 (leBytes (b.get R.IMG_RUN_DIGEST) 64 ++ p.digest)) % 2 ^ R.IMG_RUN_DIGEST.width := by
  rw [Block.newSchedules, Block.modSlice_get, Block.showSchedules, Block.bump_eq, Block.get_set_ne _ _ _ _ (by decide),
    Block.get_set_ne _ _ _ _ (by decide), Block.get_set_self]

theorem Block.newSchedules_modified : (b.newSchedules n p i).get R.IMG_STAT_RUN_MODIFIED = 1 := by
  rw [Block.newSchedules, Block.modSlice_get, Block.showSchedules, Block.bump_eq, Block.get_set_ne _ _ _ _ (by decide), Block.get_set_self]
  rfl

theorem Block.newSchedules_count : (b.newSchedules n p i).get R.IMG_RELOAD_COUNT =
    (b.get R.IMG_RELOAD_COUNT + 1) % 2 ^ R.IMG_RELOAD_COUNT.width := by
  rw [Block.newSchedules, Block.modSlice_get, Block.showSchedules, Block.bump_get, Block.get_set_ne _ _ _ _ (by decide),
    Block.get_set_ne _ _ _ _ (by decide), Block.get_set_ne _ _ _ _ (by decide), Block.setImage_get]

theorem Block.newSchedules_sliceState_self : (b.newSchedules n p i).sliceState n =
    { b.sliceState n with failed := [], stopped := false, alternate := false } := by
  rw [Block.newSchedules, Block.sliceState_modSlice_self, (b.keeps_showSchedules p i).sliceState_eq (by simp)]

theorem Block.newSchedules_sliceState_ne {m : Nat} (h : m ≠ n) : (b.newSchedules n p i).sliceState m = b.sliceState m := by
  rw [Block.newSchedules, Block.sliceState_modSlice_ne _ _ _ _ h, (b.keeps_showSchedules p i).sliceState_eq (by simp)]

end

end Sys2Proof.Machine
end

section
/-! SLICE_RELOAD_COMPLETE (R107–R110), by what its digest check found and by what waited for it. -/

namespace Sys2Proof.Machine

/-- The reload of slice `n` with package `p` runs from tick number `k`, after a digest failure with the old schedules (`fallback`). -/
structure Block.Reloading (b : Block) (n k : Nat) (p i : Image) (fallback : Bool) : Prop where
  running : b.running = true
  job : b.image.job = .reloadRunning n k fallback
  verified : b.image.verified = some p
  run : b.image.run = some i

section
variable {b : Block} {n k : Nat} {p i : Image}

theorem Block.reloadComplete_good (h : b.Reloading n k p i false) (hk : k + 25 * b.copyBlocks n ≤ b.tick) :
    b.reloadComplete true = (b.newSchedules n p i).reloadOver n true := by
  rw [Block.reloadComplete, h.job, h.verified, h.run]
  dsimp only
  rw [if_neg (by simpa using hk), if_neg (by decide), if_neg (by decide)]
  rfl

theorem Block.reloadComplete_bad (h : b.Reloading n k p i false) (hk : k + 25 * b.copyBlocks n ≤ b.tick) :
    b.reloadComplete false = (b.imgRefuse 0x0C).setImage { b.image with job := .reloadRunning n k true } := by
  simp [Block.reloadComplete, h.job, h.verified, h.run, Nat.not_lt.2 hk, Block.imgRefuse]

theorem Block.reloadComplete_fallback (h : b.Reloading n k p i true) (ok : Bool) (hk : k + 2 * (25 * b.copyBlocks n) ≤ b.tick) :
    b.reloadComplete ok = b.reloadOver n false := by
  simp [Block.reloadComplete, h.job, h.verified, h.run, Nat.not_lt.2 hk]

end

theorem Block.reloadComplete_early (b : Block) (n k : Nat) (f ok : Bool) (hj : b.image.job = .reloadRunning n k f)
    (hk : b.tick < k + (if f then 2 * (25 * b.copyBlocks n) else 25 * b.copyBlocks n)) : b.reloadComplete ok = b := by
  rw [Block.reloadComplete, hj]
  cases b.image.verified with
  | none => rfl
  | some p => cases b.image.run with
    | none => rfl
    | some i => exact if_pos hk

/-- A class action for a spindle does not depend on which of the spindle classes it has (R469). -/
theorem Block.classAction_spindle (b : Block) {c : Nat} (x : Nat) (h : c ≤ 2) (hr : b.underReload (sliceOf x) = false) :
    b.classAction c x = b.classAction 2 x := by
  simp [Block.classAction, h, hr]

section
variable (b : Block) (n : Nat) (ok : Bool)

theorem Block.reloadOver_noFault (h : (b.sliceState n).pendingFaults = []) : b.reloadOver n ok = b.endReload n ok := by
  rw [Block.reloadOver_eq, h]; rfl

/-- A single fault that waited retires its spindle where the spare is free (R15, R110). -/
theorem Block.reloadOver_oneFault {c x : Nat} (h : (b.sliceState n).pendingFaults = [(c, x)]) (hc : c ≤ 2) (hx : sliceOf x = n)
    (hfree : b.get (R.SLC_SPARE_SPARE_USED n) = 0) (hload : (b.sliceState n).spareLoad = none) (hsound : (b.sliceState n).failed = []) :
    b.reloadOver n ok = ((b.endReload n ok).loadSpare x).stick R.TRB_TROUBLE_SPINDLE_RETIRED := by
  obtain ⟨l, hslice⟩ := b.endReload_sliceState_self n ok
  have hkey := SLC_SPARE_SPARE_USED_key n
  have hretirable : (b.endReload n ok).Retirable x := by
    refine ⟨by simp [Block.underReload, Block.endReload_image], ?_, ?_⟩
    · rw [hx, hslice]; exact hload
    · rw [hx, hslice]; simp [SliceState.released, SliceState.load, hsound]
  have hused : (b.endReload n ok).get (R.SLC_SPARE_SPARE_USED (sliceOf x)) = 0 := by
    rw [hx, (b.keeps_endReload n ok).1 _ ?_ ?_, hfree]
    · simp only [reloadShownFields, List.map_cons, List.map_nil, List.mem_cons, List.not_mem_nil, or_false, R.IMG_STAT_STATE,
        R.IMG_RELOAD_LAST_SLICE, R.IMG_RELOAD_LAST_OK, R.IMG_RELOAD_LAST_TICK_TAG]
      omega
    · simp only [R.TRB_SUMMARY]; omega
  rw [Block.reloadOver_eq, h]
  exact (Block.classAction_spindle _ x hc hretirable.noReload).trans (Block.classAction_spare _ x hretirable hused)

end

section
variable (s : State) (n k : Nat) (p i : Image) (h : s.blk.Reloading n k p i false) (hk : k + 25 * s.blk.copyBlocks n ≤ s.blk.tick)
include h hk

theorem sliceReloadComplete_good (hn : n < 8) (hfaults : (s.blk.sliceState n).pendingFaults = []) :
    ∃ t, exec (.sliceReloadComplete true) s = .next t ∧
      t.blk.image = { s.blk.image with job := .none, run := some (i.reloaded p), copy := some (i.reloaded p).runCopy } ∧
      t.blk.get R.IMG_STAT_STATE = 0 ∧
      t.blk.get R.IMG_RUN_DIGEST = leNum (sha512 (leBytes (s.blk.get R.IMG_RUN_DIGEST) 64 ++ p.digest)) % 2 ^ R.IMG_RUN_DIGEST.width ∧
      t.blk.get R.IMG_STAT_RUN_MODIFIED = 1 ∧ t.blk.get R.IMG_RELOAD_LAST_SLICE = n ∧ t.blk.get R.IMG_RELOAD_LAST_OK = 1 ∧
      t.blk.get R.IMG_RELOAD_COUNT = (s.blk.get R.IMG_RELOAD_COUNT + 1) % 2 ^ R.IMG_RELOAD_COUNT.width ∧
      t.blk.get R.IMG_RELOAD_LAST_TICK_TAG = s.blk.tickTag % 2 ^ R.IMG_RELOAD_LAST_TICK_TAG.width ∧
      (t.blk.sliceState n).held = false ∧ (t.blk.sliceState n).failed = [] ∧ (t.blk.sliceState n).stopped = false ∧
      (t.blk.sliceState n).moves = [] ∧ (∀ m, m ≠ n → t.blk.sliceState m = s.blk.sliceState m) ∧
      s.Keeps t [R.IMG_RUN_DIGEST, R.IMG_STAT_RUN_MODIFIED, R.IMG_RELOAD_COUNT, R.IMG_RELOAD_LAST_SLICE, R.IMG_RELOAD_LAST_OK,
        R.IMG_RELOAD_LAST_TICK_TAG, R.IMG_STAT_STATE, R.IMG_PROGRESS] [.image, .slices] := by
  have hnew := s.blk.keeps_newSchedules n p i
  have hend := (s.blk.newSchedules n p i).keeps_endReload n true
  have hself := s.blk.newSchedules_sliceState_self n p i
  have e : s.blk.reloadComplete true = (s.blk.newSchedules n p i).endReload n true := by
    rw [Block.reloadComplete_good h hk, Block.reloadOver_noFault _ _ _ (by rw [hself]; exact hfaults)]
  have htag : (s.blk.newSchedules n p i).tickTag = s.blk.tickTag :=
    congrArg (· % 65536) (hnew.1 R.GLB_TICK (by decide) (by decide))
  obtain ⟨l, hslice⟩ := (s.blk.newSchedules n p i).endReload_sliceState_self n true
  refine ⟨_, exec_of_runOn _ rfl _ h.running e, ?_, ?_, ?_, ?_, ?_, ?_, ?_, ?_, ?_, ?_, ?_, ?_, fun m hm => ?_, State.keeps_run s _ _ _ ?_⟩
  · rw [State.run_image, Block.endReload_image, Block.newSchedules_image]
  · rw [State.run_get s _ _ (by decide), Block.endReload_state]
  · rw [State.run_get s _ _ (by decide), hend.1 _ (by decide) (by decide), Block.newSchedules_digest]
  · rw [State.run_get s _ _ (by decide), hend.1 _ (by decide) (by decide), Block.newSchedules_modified]
  · rw [State.run_get s _ _ (by decide), Block.endReload_get _ _ _ _ (by decide) (by decide), Block.showReload_slice _ _ _ hn]
  · rw [State.run_get s _ _ (by decide), Block.endReload_get _ _ _ _ (by decide) (by decide), Block.showReload_ok, if_pos rfl]
  · rw [State.run_get s _ _ (by decide), hend.1 _ (by decide) (by decide), Block.newSchedules_count]
  · rw [State.run_get s _ _ (by decide), Block.endReload_get _ _ _ _ (by decide) (by decide), Block.showReload_tag, htag]
  · rw [State.run_sliceState, hslice]; rfl
  · rw [State.run_sliceState, hslice, hself]; rfl
  · rw [State.run_sliceState, hslice, hself]; rfl
  · rw [State.run_sliceState, hslice]; rfl
  · rw [State.run_sliceState, Block.endReload_sliceState_ne _ _ _ hm, Block.newSchedules_sliceState_ne _ _ _ _ hm]
  · exact (hnew.widen _ _ (by simp [newScheduleFields]) (by simp)).trans (hend.widen _ _ (by simp [reloadShownFields]) (by simp))

theorem sliceReloadComplete_oneFault (c x : Nat) (hfaults : (s.blk.sliceState n).pendingFaults = [(c, x)]) (hc : c ≤ 2)
    (hx : sliceOf x = n) (hfree : s.blk.get (R.SLC_SPARE_SPARE_USED n) = 0) (hload : (s.blk.sliceState n).spareLoad = none) :
    ∃ t, exec (.sliceReloadComplete true) s = .next t ∧ t.blk.image.job = .none ∧
      (t.blk.sliceState n).spareLoad = some (x, s.blk.tick) ∧ x ∈ (t.blk.sliceState n).fill ∧
      (t.blk.sliceState n).pendingFaults = [] ∧ t.blk.get R.TRB_TROUBLE_SPINDLE_RETIRED = 1 ∧
      s.Keeps t ([R.IMG_RUN_DIGEST, R.IMG_STAT_RUN_MODIFIED, R.IMG_RELOAD_COUNT, R.IMG_RELOAD_LAST_SLICE, R.IMG_RELOAD_LAST_OK,
        R.IMG_RELOAD_LAST_TICK_TAG, R.IMG_STAT_STATE, R.IMG_PROGRESS, R.TRB_TROUBLE_SPINDLE_RETIRED] ++ recordFields)
        [.image, .slices, .records] := by
  have hnew := s.blk.keeps_newSchedules n p i
  have hend := (s.blk.newSchedules n p i).keeps_endReload n true
  have hself := s.blk.newSchedules_sliceState_self n p i
  have hkey := SLC_SPARE_SPARE_USED_key n
  have hused : (s.blk.newSchedules n p i).get (R.SLC_SPARE_SPARE_USED n) = 0 := by
    rw [hnew.1 _ ?_ ?_, hfree]
    · simp only [newScheduleFields, List.map_cons, List.map_nil, List.mem_cons, List.not_mem_nil, or_false, R.IMG_PROGRESS,
        R.IMG_RUN_DIGEST, R.IMG_STAT_RUN_MODIFIED, R.IMG_RELOAD_COUNT]
      omega
    · simp only [R.TRB_SUMMARY]; omega
  have e : s.blk.reloadComplete true =
      (((s.blk.newSchedules n p i).endReload n true).loadSpare x).stick R.TRB_TROUBLE_SPINDLE_RETIRED := by
    rw [Block.reloadComplete_good h hk]
    exact Block.reloadOver_oneFault _ _ _ (by rw [hself]; exact hfaults) hc hx hused (by rw [hself]; exact hload) (by rw [hself])
  have htick : ((s.blk.newSchedules n p i).endReload n true).tick = s.blk.tick :=
    (hend.1 R.GLB_TICK (by decide) (by decide)).trans (hnew.1 R.GLB_TICK (by decide) (by decide))
  obtain ⟨l, hslice⟩ := (s.blk.newSchedules n p i).endReload_sliceState_self n true
  have hstick := Block.keeps_stick (((s.blk.newSchedules n p i).endReload n true).loadSpare x) R.TRB_TROUBLE_SPINDLE_RETIRED 0
  have hspare := Block.keeps_loadSpare ((s.blk.newSchedules n p i).endReload n true) x [] [.slices] (by simp)
  refine ⟨_, exec_of_runOn _ rfl _ h.running e, ?_, ?_, ?_, ?_, ?_, State.keeps_run s _ _ _ ?_⟩
  · rw [State.run_image, hstick.image_eq (by simp), hspare.image_eq (by simp), Block.endReload_image]
  · rw [State.run_sliceState, hstick.sliceState_eq (by simp), ← hx, Block.loadSpare_sliceState, hx, htick]
  · rw [State.run_sliceState, hstick.sliceState_eq (by simp), ← hx]
    exact Block.loadSpare_fill _ x
  · rw [State.run_sliceState, hstick.sliceState_eq (by simp), ← hx, Block.loadSpare, Block.invalidate_sliceState,
      Block.sliceState_modSlice_self, hx, hslice]
    rfl
  · rw [State.run_get s _ _ (by decide), Block.stick_get_one _ _ rfl (by decide) (by decide)]
  · exact (((hnew.widen _ _ (by simp [newScheduleFields]) (by simp)).trans (hend.widen _ _ (by simp [reloadShownFields]) (by simp))).trans
      (hspare.widen _ _ (by simp) (by simp))).trans
        (hstick.widen _ _ (List.cons_subset.2 ⟨by simp, List.subset_append_right _ _⟩) (by simp))

theorem sliceReloadComplete_bad :
    ∃ t, exec (.sliceReloadComplete false) s = .next t ∧ t.blk.image = { s.blk.image with job := .reloadRunning n k true } ∧
      t.blk.get R.IMG_ERR_CAUSE = 0x0C ∧ s.Keeps t [R.IMG_ERR_CAUSE, R.IMG_ERR_SEGMENT] [.image] := by
  refine ⟨_, exec_of_runOn _ rfl _ h.running (Block.reloadComplete_bad h hk), State.run_image s _, ?_,
    State.keeps_run s _ _ _ ((s.blk.keeps_imgFail 0x0C 0xFF _).trans (Block.keeps_setImage _ _ _ _ (by simp)))⟩
  rw [State.run_get s _ _ (by decide), Block.setImage_get, Block.imgFail_cause]

end

theorem sliceReloadComplete_fallback (s : State) (n k : Nat) (p i : Image) (h : s.blk.Reloading n k p i true) (ok : Bool)
    (hk : k + 2 * (25 * s.blk.copyBlocks n) ≤ s.blk.tick) (hn : n < 8) (hfaults : (s.blk.sliceState n).pendingFaults = []) :
    ∃ t, exec (.sliceReloadComplete ok) s = .next t ∧ t.blk.image = { s.blk.image with job := .none } ∧
      t.blk.get R.IMG_STAT_STATE = 0 ∧ t.blk.get R.IMG_RELOAD_LAST_SLICE = n ∧ t.blk.get R.IMG_RELOAD_LAST_OK = 0 ∧
      (t.blk.sliceState n).held = false ∧ (t.blk.sliceState n).moves = [] ∧
      (∀ m, m ≠ n → t.blk.sliceState m = s.blk.sliceState m) ∧
      s.Keeps t [R.IMG_RELOAD_LAST_SLICE, R.IMG_RELOAD_LAST_OK, R.IMG_RELOAD_LAST_TICK_TAG, R.IMG_STAT_STATE] [.image, .slices] := by
  have e : s.blk.reloadComplete ok = s.blk.endReload n false := by
    rw [Block.reloadComplete_fallback h ok hk, Block.reloadOver_noFault _ _ _ hfaults]
  obtain ⟨l, hslice⟩ := s.blk.endReload_sliceState_self n false
  refine ⟨_, exec_of_runOn _ rfl _ h.running e, ?_, ?_, ?_, ?_, ?_, ?_, fun m hm => ?_, State.keeps_run s _ _ _ ?_⟩
  · rw [State.run_image, Block.endReload_image]
  · rw [State.run_get s _ _ (by decide), Block.endReload_state]
  · rw [State.run_get s _ _ (by decide), Block.endReload_get _ _ _ _ (by decide) (by decide), Block.showReload_slice _ _ _ hn]
  · rw [State.run_get s _ _ (by decide), Block.endReload_get _ _ _ _ (by decide) (by decide), Block.showReload_ok, if_neg (by decide)]
  · rw [State.run_sliceState, hslice]; rfl
  · rw [State.run_sliceState, hslice]; rfl
  · rw [State.run_sliceState, Block.endReload_sliceState_ne _ _ _ hm]
  · exact (s.blk.keeps_endReload n false).widen _ _ (by simp [reloadShownFields]) (by simp)

theorem sliceReloadComplete_early (s : State) (hr : s.blk.running = true) (n k : Nat) (f ok : Bool)
    (hj : s.blk.image.job = .reloadRunning n k f)
    (hk : s.blk.tick < k + (if f then 2 * (25 * s.blk.copyBlocks n) else 25 * s.blk.copyBlocks n)) :
    ∃ t, exec (.sliceReloadComplete ok) s = .next t ∧ s.Keeps t [] [] :=
  keeps_of_same (exec_of_runOn _ rfl _ hr (s.blk.reloadComplete_early n k f ok hj hk))

end Sys2Proof.Machine
end

section
/-! IMAGE_TRIAL_EXPIRY (R99, R456): the reset that ends a trial, and the settlement of `Obligations.ReloadsAndTrials`. -/

namespace Sys2Proof.Machine

/-! A reset to M2 with cause 5 (R99, R457), in three steps. -/

/-- The bank of a trial that has failed is BAD. -/
def Block.failTrial (b : Block) (failed : Option Bank) : Block :=
  match failed with
  | some k => (b.set k.field 5).putRecord false
  | none => b

/-- What the reset loses is lost, and the cause of the failed trial is shown. -/
def Block.restart (b : Block) (failed : Option Bank) : Block :=
  let c := (b.resetFields lostAtReset).restartUnits
  let d := match failed with | some k => c.bankCause k 0x0F | none => c
  d.custodyRestart.showKeys.bump R.CUS_EPOCH

/-- The node is in M2, with the mode that it left and the reset's cause; the power manager becomes `p`. -/
def Block.enterBoot (b : Block) (prev cause : Nat) (ready : Bool) (p : PowerUnit → PowerUnit) : Block :=
  let c := ((b.setMode 2).set R.PWR_MODE_PREV prev).setFlag R.PWR_MODE_OCXO_READY ready
  (c.setPower (p c.power)).set R.PWR_RESET_CAUSE cause

theorem Block.resetTo2_trial (b : Block) : ∃ ready p, b.resetTo2 5 =
    (((((b.rewindAll).abandonTruing false true).dropJob).failTrial (if b.trialStarted then b.trialBank else none)).restart
      (if b.trialStarted then b.trialBank else none)).enterBoot b.mode 5 ready p := by
  let ran := b.power.wdtArmed && decide (3 ≤ b.mode ∧ b.mode ≠ 9)
  let expired := decide (b.mode = 6 ∧ b.get R.IMG_TRIAL_LEFT = 0 ∧ b.get R.IMG_TRIAL_LIMIT ≠ 0) && b.flag R.IMG_STAT_RUN_TRIAL
  refine ⟨decide ((5 : Nat) ≠ 6 ∧ b.mode ≠ 9) || b.flag R.PWR_MODE_OCXO_READY,
    fun p => { p with resetNow := 5, wdtRan := ran, trialOver := expired }, ?_⟩
  have hcause : (b.trialStarted = true ∧ (5 : Nat) ≠ 6) = (b.trialStarted = true) := by simp
  unfold Block.resetTo2
  rw [if_neg (by simp)]
  simp only [hcause]
  rfl

/-! What each step leaves. -/

/-- The fields that a change of mode writes (R437). -/
def modeFields : List Field := [R.PWR_MODE_MODE, R.PWR_MODE_PREV]

section
variable (b : Block) (m : Nat)

theorem Block.keeps_setMode : b.Keeps (b.setMode m) modeFields [.power, .modl] := by
  have hset : b.Keeps ((b.set R.PWR_MODE_MODE m).set R.PWR_MODE_PREV b.mode) modeFields [.power, .modl] :=
    (b.keeps_set _ _ _ _ (by simp [modeFields])).trans (Block.keeps_set _ _ _ _ _ (by simp [modeFields]))
  have hunits (c : Block) (u : PowerUnit) (j : Bool) :
      c.Keeps { c with power := u, modl := { c.modl with j3 := j } } modeFields [.power, .modl] :=
    (c.keeps_setPower u _ _ (by simp)).trans (Block.keeps_modl (c.setPower u) { c.modl with j3 := j } _ _ (by simp))
  exact hset.trans (hunits _ _ _)

theorem Block.setMode_mode (h : m < 16) : (b.setMode m).mode = m :=
  (Block.get_set_ne _ _ _ _ (by decide)).trans ((Block.get_set_self _ _ _).trans (Nat.mod_eq_of_lt h))

theorem Block.setMode_prev (h : b.mode < 16) : (b.setMode m).get R.PWR_MODE_PREV = b.mode :=
  (Block.get_set_self _ _ _).trans (Nat.mod_eq_of_lt h)

end

/-- The fields that show the keys (R489). -/
def keyFields : List Field :=
  [R.SEC_STAT_CUR_EPOCH, R.SEC_STAT_KEYED, R.SEC_STAT_PREV_HELD, R.SEC_STAT_NEXT_HELD, R.SEC_STAT_MIC16]

theorem Block.keeps_showKeys (b : Block) (ps : List Part) : b.Keeps b.showKeys keyFields ps := by
  have hflag (c : Block) (f : Field) (v : Bool) (hf : f ∈ keyFields) : c.Keeps (c.setFlag f v) keyFields ps :=
    c.keeps_set f _ _ _ (List.mem_map_of_mem hf)
  have hset (c : Block) (f : Field) (v : Nat) (hf : f ∈ keyFields) : c.Keeps (c.set f v) keyFields ps :=
    c.keeps_set f v _ _ (List.mem_map_of_mem hf)
  unfold Block.showKeys
  refine (((Block.Keeps.trans ?_ (hflag _ _ _ (by simp [keyFields]))).trans (hflag _ _ _ (by simp [keyFields]))).trans
    (hflag _ _ _ (by simp [keyFields])))
  split
  · exact (hset _ _ _ (by simp [keyFields])).trans (hset _ _ _ (by simp [keyFields]))
  · exact (hset _ _ _ (by simp [keyFields])).trans (hset _ _ _ (by simp [keyFields]))

/-- No reset to M2 loses the bank states (R96, R457). -/
theorem Bank.field_kept (k : Bank) : lostAtReset k.field.key (keepOf k.field.key) = false := by
  cases k <;> decide +kernel

/-- The field that shows why a bank failed (R101). -/
def Bank.causeField : Bank → Field
  | .a => R.IMG_BOOT_STAT_CAUSE_A
  | .b => R.IMG_BOOT_STAT_CAUSE_B
  | .golden => R.IMG_BOOT_STAT_CAUSE_GOLDEN

theorem Block.bankCause_eq (b : Block) (k : Bank) (c : Nat) : b.bankCause k c = b.set k.causeField c := by cases k <;> rfl

section
variable (b : Block)

theorem Block.restartUnits_bankState (k : Bank) : b.restartUnits.bankState k = b.bankState k := by cases k <;> rfl

theorem Block.resetFields_bankState (k : Bank) : (b.resetFields lostAtReset).bankState k = b.bankState k := by
  rw [Block.bankState_eq, Block.bankState_eq, Block.resetFields_get, if_neg (by rw [k.field_kept]; decide)]

theorem Block.bankCause_bankState (j k : Bank) (c : Nat) : (b.bankCause j c).bankState k = b.bankState k := by
  rw [Block.bankCause_eq]
  exact (b.keeps_set j.causeField c [j.causeField] [] (by simp)).bankState_eq k (by cases j <;> cases k <;> decide)

theorem Block.failTrial_bankState (k : Bank) : (b.failTrial (some k)).bankState k = 5 := by
  rw [Block.failTrial, Block.putRecord_bankState, Block.set_bankState_self]

theorem Block.restart_bankState (failed : Option Bank) (k : Bank) : (b.restart failed).bankState k = b.bankState k := by
  have hcustody (c : Block) : c.custodyRestart.bankState k = c.bankState k := by cases k <;> rfl
  have hlast (c : Block) : (c.showKeys.bump R.CUS_EPOCH).bankState k = c.bankState k := by
    rw [(Block.keeps_bump _ R.CUS_EPOCH [R.CUS_EPOCH] [] (by simp)).bankState_eq k (by cases k <;> decide),
      (c.keeps_showKeys []).bankState_eq k (by cases k <;> decide)]
  cases failed with
  | none => rw [Block.restart, hlast, hcustody, Block.restartUnits_bankState, Block.resetFields_bankState]
  | some j =>
    rw [Block.restart, hlast, hcustody, Block.bankCause_bankState, Block.restartUnits_bankState, Block.resetFields_bankState]

end

section
variable (b : Block) (prev cause : Nat) (ready : Bool) (p : PowerUnit → PowerUnit)

theorem Block.enterBoot_mode : (b.enterBoot prev cause ready p).mode = 2 := by
  rw [Block.mode, Block.enterBoot, Block.get_set_ne _ _ _ _ (by decide), Block.setPower_get, Block.setFlag_eq,
    Block.get_set_ne _ _ _ _ (by decide), Block.get_set_ne _ _ _ _ (by decide)]
  exact b.setMode_mode 2 (by decide)

theorem Block.enterBoot_prev (h : prev < 16) : (b.enterBoot prev cause ready p).get R.PWR_MODE_PREV = prev := by
  rw [Block.enterBoot, Block.get_set_ne _ _ _ _ (by decide), Block.setPower_get, Block.setFlag_eq, Block.get_set_ne _ _ _ _ (by decide),
    Block.get_set_self]
  exact Nat.mod_eq_of_lt h

theorem Block.enterBoot_cause (h : cause < 16) : (b.enterBoot prev cause ready p).get R.PWR_RESET_CAUSE = cause :=
  (Block.get_set_self _ _ _).trans (Nat.mod_eq_of_lt h)

theorem Block.enterBoot_bankState (k : Bank) : (b.enterBoot prev cause ready p).bankState k = b.bankState k := by
  have hkeeps : b.Keeps (b.enterBoot prev cause ready p) (R.PWR_RESET_CAUSE :: R.PWR_MODE_OCXO_READY :: modeFields) [.power, .modl] :=
    (((((b.keeps_setMode 2).widen _ _ (by simp) (by simp)).trans (Block.keeps_set _ _ _ _ _ (by simp [modeFields]))).trans
      (Block.keeps_set _ _ _ _ _ (by simp))).trans (Block.keeps_setPower _ _ _ _ (by simp))).trans (Block.keeps_set _ _ _ _ _ (by simp))
  exact hkeeps.bankState_eq k (by cases k <;> decide)

end

/-! The command (R99, R456). -/

/-- The time of a trial with a limit is over in M6 (R99). -/
structure Block.TrialOver (b : Block) : Prop where
  mode : b.mode = 6
  trial : b.get R.IMG_STAT_RUN_TRIAL = 1
  left : b.get R.IMG_TRIAL_LEFT = 0
  limit : b.get R.IMG_TRIAL_LIMIT ≠ 0

section
variable (b : Block)

theorem Block.trialExpiry_renames (hw : b.warmNow = true) (ho : b.power.trialOver = true) : b.trialExpiry = b.renameReset 5 := by
  simp [Block.trialExpiry, hw, ho]

section
variable (hw : b.warmNow = false ∨ b.power.trialOver = false)
include hw

theorem Block.trialExpiry_notWarm : b.trialExpiry =
    if b.mode = 6 ∧ b.flag R.IMG_STAT_RUN_TRIAL ∧ b.get R.IMG_TRIAL_LEFT = 0 ∧ b.get R.IMG_TRIAL_LIMIT ≠ 0 then b.resetTo2 5 else b := by
  refine if_neg ?_
  rintro ⟨hwarm, hover⟩
  simp [hwarm, hover] at hw

theorem Block.trialExpiry_over (h : b.TrialOver) : b.trialExpiry = b.resetTo2 5 := by
  rw [b.trialExpiry_notWarm hw, if_pos ⟨h.mode, Block.flag_of_one h.trial, h.left, h.limit⟩]

theorem Block.trialExpiry_none (h : b.mode ≠ 6 ∨ b.get R.IMG_STAT_RUN_TRIAL = 0 ∨ b.get R.IMG_TRIAL_LEFT ≠ 0 ∨
    b.get R.IMG_TRIAL_LIMIT = 0) : b.trialExpiry = b := by
  rw [b.trialExpiry_notWarm hw, if_neg]
  rintro ⟨hm, ht, hl, hlimit⟩
  obtain h | h | h | h := h
  · exact h hm
  · rw [Block.flag_of_zero h] at ht; cases ht
  · exact h hl
  · exact hlimit h

end

/-- A warm reset gets the expiry's cause, and its count is taken back (R456). -/
theorem Block.renameReset_trial : b.renameReset 5 =
    ((b.set R.PWR_WARM_RESET_COUNT ((b.get R.PWR_WARM_RESET_COUNT + 2 ^ 64 - 1) % 2 ^ 64)).setPower
      { (b.set R.PWR_WARM_RESET_COUNT ((b.get R.PWR_WARM_RESET_COUNT + 2 ^ 64 - 1) % 2 ^ 64)).power with resetNow := 5 }).set
      R.PWR_RESET_CAUSE 5 := rfl

theorem Block.keeps_renameReset : b.Keeps (b.renameReset 5) [R.PWR_RESET_CAUSE, R.PWR_WARM_RESET_COUNT] [.power] := by
  rw [Block.renameReset_trial]
  exact ((b.keeps_set _ _ _ _ (by simp)).trans (Block.keeps_setPower _ _ _ _ (by simp))).trans (Block.keeps_set _ _ _ _ _ (by simp))

theorem Block.renameReset_cause : (b.renameReset 5).get R.PWR_RESET_CAUSE = 5 := Block.get_set_self _ _ _

theorem Block.renameReset_count : ((b.renameReset 5).get R.PWR_WARM_RESET_COUNT + 1) % 2 ^ 64 = b.get R.PWR_WARM_RESET_COUNT := by
  have hlt : b.get R.PWR_WARM_RESET_COUNT < 2 ^ R.PWR_WARM_RESET_COUNT.width := b.get_lt _
  have hwidth : R.PWR_WARM_RESET_COUNT.width = 64 := rfl
  rw [Block.renameReset_trial, Block.get_set_ne _ _ _ _ (by decide), Block.setPower_get, Block.get_set_self]
  rw [hwidth] at hlt ⊢
  omega

end

section
variable (s : State)

theorem imageTrialExpiry_resets (h : s.blk.TrialOver) (hw : s.blk.warmNow = false ∨ s.blk.power.trialOver = false) :
    ∃ t, exec .imageTrialExpiry s = .next t ∧ t.blk.mode = 2 ∧ t.blk.get R.PWR_MODE_PREV = 6 ∧ t.blk.get R.PWR_RESET_CAUSE = 5 ∧
      (∀ k, s.blk.trialBank = some k → s.blk.trialStarted = true → t.blk.bankState k = 5) ∧ t.otp = s.otp ∧
      t.pending = s.pending := by
  obtain ⟨ready, p, e⟩ := s.blk.resetTo2_trial
  have hr : s.blk.running = true := by simp [Block.running, h.mode]
  refine ⟨_, exec_of_runOn _ rfl _ hr ((s.blk.trialExpiry_over hw h).trans e), ?_, ?_, ?_, fun k hk hstarted => ?_,
    rfl, rfl⟩
  · exact (State.run_get s _ R.PWR_MODE_MODE (by decide)).trans (Block.enterBoot_mode _ _ _ _ _)
  · rw [State.run_get s _ _ (by decide), h.mode, Block.enterBoot_prev _ _ _ _ _ (by decide)]
  · rw [State.run_get s _ _ (by decide), Block.enterBoot_cause _ _ _ _ _ (by decide)]
  · rw [State.run_bankState, Block.enterBoot_bankState, Block.restart_bankState, if_pos hstarted, hk, Block.failTrial_bankState]

section
variable (hr : s.blk.running = true)
include hr

theorem imageTrialExpiry_renames (hw : s.blk.warmNow = true) (ho : s.blk.power.trialOver = true) :
    ∃ t, exec .imageTrialExpiry s = .next t ∧ t.blk.get R.PWR_RESET_CAUSE = 5 ∧
      (t.blk.get R.PWR_WARM_RESET_COUNT + 1) % 2 ^ 64 = s.blk.get R.PWR_WARM_RESET_COUNT ∧
      s.Keeps t [R.PWR_RESET_CAUSE, R.PWR_WARM_RESET_COUNT] [.power] := by
  refine ⟨_, exec_of_runOn _ rfl _ hr (s.blk.trialExpiry_renames hw ho), ?_, ?_, State.keeps_run s _ _ _ s.blk.keeps_renameReset⟩
  · rw [State.run_get s _ _ (by decide), Block.renameReset_cause]
  · rw [State.run_get s _ _ (by decide), Block.renameReset_count]

theorem imageTrialExpiry_none (hw : s.blk.warmNow = false ∨ s.blk.power.trialOver = false)
    (h : s.blk.mode ≠ 6 ∨ s.blk.get R.IMG_STAT_RUN_TRIAL = 0 ∨ s.blk.get R.IMG_TRIAL_LEFT ≠ 0 ∨ s.blk.get R.IMG_TRIAL_LIMIT = 0) :
    ∃ t, exec .imageTrialExpiry s = .next t ∧ s.Keeps t [] [] :=
  keeps_of_same (exec_of_runOn _ rfl _ hr (s.blk.trialExpiry_none hw h))

end

end

/-- Settles O54: one lemma for each clause, by the steps that a reload and a reset go through. -/
theorem reloadsAndTrials : Obligations.ReloadsAndTrials := by
  refine ⟨fun s p hm h0 hv hreload hn hsup hbase hx =>
      imgCmdSliceReload_waits s p ⟨hm, h0, hv⟩ hreload hn hsup hbase _ s.blk.nextBlock rfl (if_pos hx),
    fun s p x hm h0 hv hreload hn hsup hbase hx hlt => ?_,
    fun s p n hm h0 hv hreload => (imgCmdSliceReload_wrongKind s p ⟨hm, h0, hv⟩ n hreload).cause,
    fun s p n hm h0 hv hreload hn hwrong => (imgCmdSliceReload_wrongSlice s p ⟨hm, h0, hv⟩ n hreload hn hwrong).cause,
    fun s n k i hr hj hi hk _ => sliceReloadStart_starts s hr n k i hj hi hk,
    fun s n k hr hj hk => sliceReloadStart_early s hr n k hj hk,
    fun s n k p i hr hj hv hi hk hn hfaults => sliceReloadComplete_good s n k p i ⟨hr, hj, hv, hi⟩ hk hn hfaults,
    fun s n k c x p i hr hj hv hi hk _ hfaults hc _ hx hfree hload =>
      sliceReloadComplete_oneFault s n k p i ⟨hr, hj, hv, hi⟩ hk c x hfaults hc hx hfree hload,
    fun s n k p i hr hj hv hi hk => sliceReloadComplete_bad s n k p i ⟨hr, hj, hv, hi⟩ hk,
    fun s n k p i ok hr hj hv hi hk hn hfaults => sliceReloadComplete_fallback s n k p i ⟨hr, hj, hv, hi⟩ ok hk hn hfaults,
    fun s n k f ok hr hj hk => sliceReloadComplete_early s hr n k f ok hj hk,
    fun s hm ht hl hlimit hw => imageTrialExpiry_resets s ⟨hm, ht, hl, hlimit⟩ hw,
    imageTrialExpiry_renames, imageTrialExpiry_none⟩
  obtain ⟨hblock, hlow, hhigh⟩ := ceilDiv_block x
  obtain ⟨t, e, hstate, hprogress, himage, hkeeps⟩ :=
    imgCmdSliceReload_waits s p ⟨hm, h0, hv⟩ hreload hn hsup hbase x _ hx (if_neg (Nat.not_le.2 hlt))
  exact ⟨t, _, e, hstate, hprogress, himage, hblock, hlow, hhigh, hkeeps⟩

end Sys2Proof.Machine
end

section
/-! The chuck's choice of a bank (R63, R96, R98): which bank is loaded, and what trying the banks leaves as it is. -/

namespace Sys2Proof.Machine

/-! What the chuck reads of the banks: their states and bytes. -/

/-- The fields that trying the banks may change (R98, R101). -/
def tryFields : List Field :=
  bankFields ++ [R.IMG_BOOT_STAT_CAUSE_A, R.IMG_BOOT_STAT_CAUSE_B, R.IMG_BOOT_STAT_CAUSE_GOLDEN, R.IMG_BOOT_STAT_FALLBACK]

section
variable (b : Block) (k : Bank) (e : Nat × Nat)

/-- A bank that failed, before it is listed among the banks tried. -/
def Block.markBad (b : Block) (k : Bank) (e : Nat × Nat) : Block :=
  let c := (b.setBank k 5).bankCause k e.1
  if k = .golden then c else c.set R.IMG_BOOT_STAT_FALLBACK 1

theorem Block.failBank_eq :
    b.failBank k e = (b.markBad k e).setImage { (b.markBad k e).image with tried := (b.markBad k e).image.tried ++ [k] } := rfl

theorem Block.keeps_markBad_setBank :
    (b.setBank k 5).Keeps (b.markBad k e) [k.causeField, R.IMG_BOOT_STAT_FALLBACK] [] := by
  rw [Block.markBad, Block.bankCause_eq]
  exact Block.keeps_ite (Block.keeps_set _ _ _ _ _ (by simp))
    ((Block.keeps_set _ _ _ _ _ (by simp)).trans (Block.keeps_set _ _ _ _ _ (by simp)))

theorem Bank.causeField_mem : k.causeField ∈ tryFields := by cases k <;> simp [tryFields, Bank.causeField]

theorem Block.keeps_failBank : b.Keeps (b.failBank k e) tryFields [.image] := by
  have hbank : b.Keeps (b.setBank k 5) tryFields [.image] :=
    b.keeps_setBank k 5 _ _ (List.mem_map_of_mem (List.mem_append_left _ k.field_mem)) (by simp)
  have hbad := (b.keeps_markBad_setBank k e).widen tryFields [.image]
    (List.cons_subset.2 ⟨k.causeField_mem, List.cons_subset.2 ⟨by simp [tryFields], List.nil_subset _⟩⟩) (by simp)
  exact (hbank.trans hbad).trans (Block.keeps_setImage _ _ _ _ (by simp))

theorem Block.markBad_image : (b.markBad k e).image = (b.setBank k 5).image := (b.keeps_markBad_setBank k e).image_eq (by simp)

theorem Block.markBad_bankState (j : Bank) : (b.markBad k e).bankState j = (b.setBank k 5).bankState j :=
  (b.keeps_markBad_setBank k e).bankState_eq j (by cases k <;> cases j <;> decide)

theorem Block.failBank_bankState (j : Bank) : (b.failBank k e).bankState j = (b.setBank k 5).bankState j := by
  rw [Block.failBank_eq, (Block.keeps_setImage _ _ [] [.image] (by simp)).bankState_eq j (by simp), Block.markBad_bankState]

theorem Block.failBank_bankBytes (j : Bank) : (b.failBank k e).bankBytes j = b.bankBytes j := by
  have himage : (b.failBank k e).bankBytes j = (b.markBad k e).bankBytes j := by cases j <;> rfl
  rw [himage, Block.bankBytes_congr (b.markBad_image k e), Block.setBank_bankBytes]

theorem Block.failBank_tried : (b.failBank k e).image.tried = b.image.tried ++ [k] := by
  rw [Block.failBank_eq, Block.setImage_image, Block.markBad_image, Block.setBank, Block.putRecord_eq, Block.setImage_image,
    Block.set_image]

end

/-- A trial starts as its bank is tried (R98). -/
def Block.tryTrial (b : Block) (k : Bank) : Block := if b.bankState k = 2 then b.putRecord true else b

section
variable (b : Block) (k : Bank)

theorem Block.keeps_tryTrial (l : List Field) : b.Keeps (b.tryTrial k) l [.image] :=
  Block.keeps_when (b.keeps_putRecord true l _ (by simp))

theorem Block.tryTrial_bankState (j : Bank) : (b.tryTrial k).bankState j = b.bankState j :=
  (b.keeps_tryTrial k []).bankState_eq j (by simp)

theorem Block.tryTrial_bankBytes (j : Bank) : (b.tryTrial k).bankBytes j = b.bankBytes j := by
  rw [Block.tryTrial]
  split
  · exact b.putRecord_bankBytes true j
  · rfl

theorem Block.tryTrial_tried : (b.tryTrial k).image.tried = b.image.tried := by
  rw [Block.tryTrial]
  split <;> rfl

end

/-! One step of the chuck (R98). -/

section
variable (o : Otp) (k : Bank) (l : List Bank) (b : Block)

/-- The golden bank is EMPTY. -/
theorem Block.tryBanks_empty (h : k = .golden ∧ b.bankState .golden = 0) :
    Block.tryBanks o (k :: l) b = b.setImage { b.image with boot := .stuck } := by
  rw [Block.tryBanks, if_pos h]; rfl

theorem Block.tryBanks_loads (h : ¬(k = .golden ∧ b.bankState .golden = 0)) (hv : verifyManifest k.use o (b.bankBytes k) = none) :
    Block.tryBanks o (k :: l) b =
      (b.tryTrial k).setImage { (b.tryTrial k).image with boot := .loading k (parseImage (b.bankBytes k)) } := by
  rw [Block.tryBanks, if_neg h, ← Block.tryTrial]
  dsimp only
  rw [Block.tryTrial_bankBytes, hv]
  rfl

theorem Block.tryBanks_fails (e : Nat × Nat) (h : ¬(k = .golden ∧ b.bankState .golden = 0))
    (hv : verifyManifest k.use o (b.bankBytes k) = some e) :
    Block.tryBanks o (k :: l) b = Block.tryBanks o l ((b.tryTrial k).failBank k e) := by
  rw [Block.tryBanks, if_neg h, ← Block.tryTrial]
  dsimp only
  rw [Block.tryTrial_bankBytes, hv]

end

/-- What trying the banks keeps is what its steps keep. -/
theorem Block.tryBanks_induction {P : Block → Prop} (o : Otp)
    (hend : ∀ (b : Block) (u : BootPhase), P b → P (b.setImage { b.image with boot := u }))
    (htrial : ∀ (b : Block) (k : Bank), P b → P (b.tryTrial k))
    (hfail : ∀ (b : Block) (k : Bank) (e : Nat × Nat), P b → P (b.failBank k e)) (l : List Bank) (b : Block) (h : P b) :
    P (Block.tryBanks o l b) := by
  induction l generalizing b with
  | nil => exact hend b _ h
  | cons k l ih =>
    by_cases hempty : k = .golden ∧ b.bankState .golden = 0
    · rw [Block.tryBanks_empty o k l b hempty]; exact hend b _ h
    · cases hv : verifyManifest k.use o (b.bankBytes k) with
      | none => rw [Block.tryBanks_loads o k l b hempty hv]; exact hend _ _ (htrial b k h)
      | some e => rw [Block.tryBanks_fails o k l b e hempty hv]; exact ih _ (hfail _ k e (htrial b k h))

theorem Block.keeps_tryBanks (o : Otp) (l : List Bank) (b : Block) : b.Keeps (Block.tryBanks o l b) tryFields [.image] :=
  Block.tryBanks_induction (P := fun c => b.Keeps c tryFields [.image]) o
    (fun _ _ h => h.trans (Block.keeps_setImage _ _ _ _ (by simp))) (fun c k h => h.trans (c.keeps_tryTrial k _))
    (fun c k e h => h.trans (c.keeps_failBank k e)) l b (Block.Keeps.refl _ _ _)

/-! A bank that has failed. -/

/-- The bank is BAD, and the chuck does not try it again. -/
structure Block.Bad (b : Block) (k : Bank) : Prop where
  state : b.bankState k = 5
  tried : k ∈ b.image.tried

theorem Block.failBank_bad_self (b : Block) (k : Bank) (e : Nat × Nat) : (b.failBank k e).Bad k :=
  ⟨by rw [Block.failBank_bankState, Block.setBank_bankState_self], by simp [Block.failBank_tried]⟩

theorem Block.Bad.failBank {b : Block} {k : Bank} (h : b.Bad k) (j : Bank) (e : Nat × Nat) : (b.failBank j e).Bad k := by
  refine ⟨?_, by simp [Block.failBank_tried, h.tried]⟩
  rw [Block.failBank_bankState]
  by_cases hj : k = j
  · rw [hj, Block.setBank_bankState_self]
  · rw [Block.setBank_bankState_ne _ _ hj, h.state]

theorem Block.Bad.tryBanks {b : Block} {k : Bank} (h : b.Bad k) (o : Otp) (l : List Bank) : (Block.tryBanks o l b).Bad k := by
  refine Block.tryBanks_induction (P := fun c => c.Bad k) o (fun c u hc => ⟨?_, hc.tried⟩) (fun c j hc => ⟨?_, ?_⟩)
    (fun c j e hc => hc.failBank j e) l b h
  · rw [(Block.keeps_setImage c _ [] [.image] (by simp)).bankState_eq k (by simp), hc.state]
  · rw [Block.tryTrial_bankState, hc.state]
  · rw [Block.tryTrial_tried]; exact hc.tried

/-! The bank that is chosen (R98). -/

/-- A bank that the chuck loads: not the EMPTY golden bank, and its manifest verifies. -/
def Block.loadable (b : Block) (o : Otp) (k : Bank) : Bool :=
  decide ((k ≠ .golden ∨ b.bankState .golden ≠ 0) ∧ verifyManifest k.use o (b.bankBytes k) = none)

/-- What the chuck does once it has the first bank that it can load, or none. -/
def Block.bootOf (b : Block) : Option Bank → BootPhase
  | some k => .loading k (parseImage (b.bankBytes k))
  | none => .stuck

theorem Block.loadable_congr {b c : Block} (hg : c.bankState .golden = b.bankState .golden) (hb : ∀ k, c.bankBytes k = b.bankBytes k)
    (o : Otp) : c.loadable o = b.loadable o := by
  funext k
  rw [Block.loadable, Block.loadable, hg, hb]

theorem Block.bootOf_congr {b c : Block} (hb : ∀ k, c.bankBytes k = b.bankBytes k) (k : Option Bank) : c.bootOf k = b.bootOf k := by
  cases k with
  | none => rfl
  | some k => rw [Block.bootOf, Block.bootOf, hb]

theorem Block.loadable_iff (b : Block) (o : Otp) (k : Bank) :
    b.loadable o k = true ↔ ¬(k = .golden ∧ b.bankState .golden = 0) ∧ verifyManifest k.use o (b.bankBytes k) = none := by
  rw [Block.loadable, decide_eq_true_iff, not_and_or]

/-- The golden bank is tried last. -/
theorem Block.tryBanks_boot (o : Otp) (l : List Bank) (hl : Bank.golden ∉ l) (b : Block) :
    (Block.tryBanks o (l ++ [Bank.golden]) b).image.boot = b.bootOf ((l ++ [Bank.golden]).find? (b.loadable o)) := by
  have hnot {k : Bank} (c : Block) (h : ¬(¬(k = .golden ∧ c.bankState .golden = 0) ∧ verifyManifest k.use o (c.bankBytes k) = none)) :
      c.loadable o k = false := by
    rw [← Bool.not_eq_true, Block.loadable_iff]; exact h
  induction l generalizing b with
  | nil =>
    rw [List.nil_append, List.find?_cons]
    by_cases hempty : Bank.golden = .golden ∧ b.bankState .golden = 0
    · rw [Block.tryBanks_empty o _ _ b hempty, hnot b (fun h => h.1 hempty)]; rfl
    · cases hv : verifyManifest Bank.golden.use o (b.bankBytes .golden) with
      | none => rw [Block.tryBanks_loads o _ _ b hempty hv, (b.loadable_iff o _).2 ⟨hempty, hv⟩]; rfl
      | some e => rw [Block.tryBanks_fails o _ _ b e hempty hv, hnot b (by simp [hv])]; rfl
  | cons k l ih =>
    obtain ⟨hk, hl⟩ : k ≠ .golden ∧ Bank.golden ∉ l := by simpa [eq_comm] using hl
    have howner : ¬(k = .golden ∧ b.bankState .golden = 0) := fun h => hk h.1
    rw [List.cons_append, List.find?_cons]
    cases hv : verifyManifest k.use o (b.bankBytes k) with
    | none => rw [Block.tryBanks_loads o _ _ b howner hv, (b.loadable_iff o k).2 ⟨howner, hv⟩]; rfl
    | some e =>
      have hbytes (j : Bank) : ((b.tryTrial k).failBank k e).bankBytes j = b.bankBytes j := by
        rw [Block.failBank_bankBytes, Block.tryTrial_bankBytes]
      have hgolden : ((b.tryTrial k).failBank k e).bankState .golden = b.bankState .golden := by
        rw [Block.failBank_bankState, Block.setBank_bankState_ne _ _ (Ne.symm hk), Block.tryTrial_bankState]
      rw [Block.tryBanks_fails o _ _ b e howner hv, ih hl, Block.loadable_congr hgolden hbytes, Block.bootOf_congr hbytes,
        hnot b (by simp [hv])]

/-- The banks before the golden one, in the order of R98. -/
def Block.ownerBanks (b : Block) : List Bank :=
  [2, 3, 4].flatMap (fun v => [Bank.a, Bank.b].filter (fun k => b.bankState k == v))

theorem Block.bootOrder_eq (b : Block) : b.bootOrder = b.ownerBanks ++ [.golden] := by
  simp [Block.bootOrder, Block.ownerBanks]

theorem Block.golden_notMem_ownerBanks (b : Block) : Bank.golden ∉ b.ownerBanks := by
  simp [Block.ownerBanks]

theorem Block.bootOrder_congr {b c : Block} (h : ∀ k, c.bankState k = b.bankState k) : c.bootOrder = b.bootOrder := by
  simp only [Block.bootOrder, h]

end Sys2Proof.Machine
end

section
/-! BOOT_START, CARRIER_ID_READ and a load whose checks fail (R63, R65, R98, R101). -/

namespace Sys2Proof.Machine

/-! The boot record is read (R96, R98). -/

/-- The state of a bank in the boot record. -/
def BootRecord.bankState (r : BootRecord) : Bank → Nat
  | .a => r.stateA
  | .b => r.stateB
  | .golden => r.stateGolden

section
variable (b : Block)

theorem Block.readRecord_none (h : bootCopy b.image.records = none) : b.readRecord = b := by
  rw [Block.readRecord, h]

theorem Block.readRecord_some {n : Nat} {r : BootRecord} (h : bootCopy b.image.records = some (n, r)) : b.readRecord =
    ((b.set R.IMG_BANK_STATE_STATE_A r.stateA).set R.IMG_BANK_STATE_STATE_B r.stateB).set R.IMG_BANK_STATE_STATE_GOLDEN r.stateGolden := by
  rw [Block.readRecord, h]

theorem Block.keeps_readRecord : b.Keeps b.readRecord bankFields [] := by
  cases h : bootCopy b.image.records with
  | none => rw [b.readRecord_none h]; exact Block.Keeps.refl _ _ _
  | some e =>
    rw [b.readRecord_some h]
    exact ((b.keeps_set _ _ _ _ (by simp [bankFields])).trans (Block.keeps_set _ _ _ _ _ (by simp [bankFields]))).trans
      (Block.keeps_set _ _ _ _ _ (by simp [bankFields]))

theorem Block.readRecord_bankState {n : Nat} {r : BootRecord} (h : bootCopy b.image.records = some (n, r)) (k : Bank) :
    b.readRecord.bankState k = r.bankState k % 16 := by
  rw [b.readRecord_some h]
  cases k with
  | a => exact (Block.get_set_ne _ _ _ _ (by decide)).trans ((Block.get_set_ne _ _ _ _ (by decide)).trans (Block.get_set_self _ _ _))
  | b => exact (Block.get_set_ne _ _ _ _ (by decide)).trans (Block.get_set_self _ _ _)
  | golden => exact Block.get_set_self _ _ _

end

/-- The bank states read are those of the record, or where there is none those held. -/
theorem Block.readRecord_bankState_congr {b c : Block} (himage : c.image = b.image) (hstate : ∀ k, c.bankState k = b.bankState k) (k : Bank) :
    c.readRecord.bankState k = b.readRecord.bankState k := by
  cases h : bootCopy b.image.records with
  | none => rw [b.readRecord_none h, c.readRecord_none (by rw [himage, h]), hstate]
  | some e => rw [b.readRecord_bankState h, c.readRecord_bankState (by rw [himage, h])]

/-! BOOT_START (R63, R98). -/

/-- The slices' enables are requested (R447). -/
def Block.requestSlices (b : Block) : Block := b.forEach (List.range 8) (fun b s => b.request (.slice s) none)

theorem Block.keeps_requestSlices (b : Block) : b.Keeps b.requestSlices rationFields [.power] :=
  b.keeps_forEach _ _ _ _ fun c n _ => c.keeps_request (.slice n)

/-- A request changes the power manager's queue alone. -/
theorem Block.request_power (b : Block) (l : Load) : ∃ reqs, (b.request l none).power = { b.power with reqs := reqs } := by
  rw [Block.request_eq]
  split
  · exact ⟨_, rfl⟩
  · rw [Block.showRation_power, Block.queueLoad]
    split
    · exact ⟨_, rfl⟩
    · exact ⟨_, rfl⟩

theorem Block.request_resetNow (b : Block) (l : Load) : (b.request l none).power.resetNow = b.power.resetNow := by
  obtain ⟨reqs, h⟩ := b.request_power l
  rw [h]

theorem Block.requestSlices_resetNow (b : Block) : b.requestSlices.power.resetNow = b.power.resetNow :=
  List.foldlRecOn (motive := fun c : Block => c.power.resetNow = b.power.resetNow) _ _ rfl
    fun c hc n _ => (c.request_resetNow (.slice n)).trans hc

/-- BOOT_SEL is sampled; the note of a reset goes. -/
def Block.sampleBootSel (b : Block) (sel : Bool) : Block :=
  (b.setPower { b.power with resetNow := 0 }).setFlag R.IMG_BOOT_STAT_BOOT_SEL_SEEN sel

/-- The chuck before it tries the banks. -/
def Block.prepareBoot (b : Block) (sel : Bool) : Block := (b.sampleBootSel sel).readRecord.requestSlices

theorem Block.bootStart_eq (b : Block) (o : Otp) (sel : Bool) (hm : b.mode = 2) (hb : b.image.boot = .start) (hr : b.modl.resetN = true) :
    b.bootStart o sel = Block.tryBanks o (if sel then [.golden] else (b.prepareBoot sel).bootOrder) (b.prepareBoot sel) := by
  rw [Block.bootStart, if_neg (by simp [hm, hb, hr])]
  rfl

section
variable (b : Block) (sel : Bool)

theorem Block.keeps_sampleBootSel : b.Keeps (b.sampleBootSel sel) [R.IMG_BOOT_STAT_BOOT_SEL_SEEN] [.power] :=
  (b.keeps_setPower _ _ _ (by simp)).trans (Block.keeps_set _ _ _ _ _ (by simp))

theorem Block.keeps_prepareBoot_sample : (b.sampleBootSel sel).Keeps (b.prepareBoot sel) (bankFields ++ rationFields) [.power] :=
  ((Block.keeps_readRecord _).widen _ _ (by simp) (by simp)).trans ((Block.keeps_requestSlices _).widen _ _ (by simp) (by simp))

theorem Block.prepareBoot_image : (b.prepareBoot sel).image = b.image :=
  ((b.keeps_prepareBoot_sample sel).image_eq (by simp)).trans ((b.keeps_sampleBootSel sel).image_eq (by simp))

theorem Block.prepareBoot_bankBytes (k : Bank) : (b.prepareBoot sel).bankBytes k = b.bankBytes k :=
  Block.bankBytes_congr (b.prepareBoot_image sel) k

theorem Block.prepareBoot_bankState (k : Bank) : (b.prepareBoot sel).bankState k = b.readRecord.bankState k := by
  have hsample := b.keeps_sampleBootSel sel
  rw [Block.prepareBoot, (Block.keeps_requestSlices _).bankState_eq k (by cases k <;> decide)]
  exact Block.readRecord_bankState_congr (hsample.image_eq (by simp)) (fun j => hsample.bankState_eq j (by cases j <;> decide)) k

theorem Block.prepareBoot_seen : (b.prepareBoot sel).get R.IMG_BOOT_STAT_BOOT_SEL_SEEN = if sel then 1 else 0 := by
  rw [(b.keeps_prepareBoot_sample sel).1 _ (by decide) (by decide), Block.sampleBootSel, Block.setFlag_eq, Block.get_set_self]
  cases sel <;> rfl

theorem Block.prepareBoot_resetNow : (b.prepareBoot sel).power.resetNow = 0 := by
  rw [Block.prepareBoot, Block.requestSlices_resetNow, (Block.keeps_readRecord _).2 .power (by simp)]
  rfl

/-- With BOOT_SEL the golden bank alone, otherwise the order of R98. -/
theorem Block.prepareBoot_order : (if sel then [Bank.golden] else (b.prepareBoot sel).bootOrder) =
    if sel then [Bank.golden] else b.readRecord.bootOrder := by
  rw [Block.bootOrder_congr (b.prepareBoot_bankState sel)]

/-- The first bank of the order that the chuck can load. -/
theorem Block.bootStart_boot (o : Otp) (hm : b.mode = 2) (hb : b.image.boot = .start) (hr : b.modl.resetN = true) :
    (b.bootStart o sel).image.boot = b.bootOf ((if sel then [Bank.golden] else b.readRecord.bootOrder).find?
      ((b.prepareBoot sel).loadable o)) := by
  have hlist : ∃ l, Bank.golden ∉ l ∧ (if sel then [Bank.golden] else b.readRecord.bootOrder) = l ++ [Bank.golden] := by
    cases sel with
    | true => exact ⟨[], List.not_mem_nil, rfl⟩
    | false => exact ⟨_, b.readRecord.golden_notMem_ownerBanks, b.readRecord.bootOrder_eq⟩
  obtain ⟨l, hl, horder⟩ := hlist
  rw [b.bootStart_eq o sel hm hb hr, b.prepareBoot_order, horder, Block.tryBanks_boot o l hl,
    Block.bootOf_congr (b.prepareBoot_bankBytes sel)]

theorem Block.prepareBoot_loadable (o : Otp) : (b.prepareBoot sel).loadable o = fun k =>
    decide ((k ≠ .golden ∨ b.readRecord.bankState .golden ≠ 0) ∧ verifyManifest k.use o (b.bankBytes k) = none) := by
  funext k
  rw [Block.loadable, b.prepareBoot_bankState, b.prepareBoot_bankBytes]

end

theorem bootStart_chooses (s : State) (sel : Bool) (hm : s.blk.mode = 2) (hb : s.blk.image.boot = .start) (hr : s.blk.modl.resetN = true) :
    ∃ t, exec (.bootStart sel) s = .next t ∧ t.blk.get R.IMG_BOOT_STAT_BOOT_SEL_SEEN = (if sel then 1 else 0) ∧
      t.blk.image.boot = (match (if sel then [Bank.golden] else s.blk.readRecord.bootOrder).find? (fun k =>
          decide ((k ≠ .golden ∨ s.blk.readRecord.bankState .golden ≠ 0) ∧ verifyManifest k.use s.otp (s.blk.bankBytes k) = none)) with
        | some k => .loading k (parseImage (s.blk.bankBytes k))
        | none => .stuck) ∧
      t.blk.power.resetNow = 0 ∧
      s.Keeps t [R.IMG_BOOT_STAT_BOOT_SEL_SEEN, R.IMG_BANK_STATE_STATE_A, R.IMG_BANK_STATE_STATE_B, R.IMG_BANK_STATE_STATE_GOLDEN,
        R.IMG_BOOT_STAT_CAUSE_A, R.IMG_BOOT_STAT_CAUSE_B, R.IMG_BOOT_STAT_CAUSE_GOLDEN, R.IMG_BOOT_STAT_FALLBACK,
        R.PWR_RATION_WINDOW, R.PWR_RATION_QUEUED] [.power, .image] := by
  have hexec : exec (.bootStart sel) s = .next (s.run fun _ => s.blk.bootStart s.otp sel) := rfl
  have htry := Block.keeps_tryBanks s.otp (if sel then [.golden] else (s.blk.prepareBoot sel).bootOrder) (s.blk.prepareBoot sel)
  rw [← s.blk.bootStart_eq s.otp sel hm hb hr] at htry
  refine ⟨_, hexec, ?_, ?_, ?_, State.keeps_run s _ _ _ ?_⟩
  · rw [State.run_get s _ _ (by decide), htry.1 _ (by decide) (by decide), Block.prepareBoot_seen]
  · rw [State.run_image, s.blk.bootStart_boot sel s.otp hm hb hr, s.blk.prepareBoot_loadable sel s.otp]
    rfl
  · have hpower : (s.run fun _ => s.blk.bootStart s.otp sel).blk.power = (s.blk.bootStart s.otp sel).power := Block.updateAlert_power _
    rw [hpower, htry.2 .power (by simp), Block.prepareBoot_resetNow]
  · exact (((s.blk.keeps_sampleBootSel sel).widen _ _ (by simp) (by simp)).trans
      ((s.blk.keeps_prepareBoot_sample sel).widen _ _ (by simp [bankFields, rationFields]) (by simp))).trans
        (htry.widen _ _ (by simp [tryFields, bankFields]) (by simp))

/-! CARRIER_ID_READ (R65). -/

/-- The carrier's bytes as a number, all ones where it does not answer. -/
def carrierId : Option (List Byte) → Nat
  | some l => leAt l 0 256
  | none => 2 ^ 2048 - 1

theorem carrierId_mod (bytes : Option (List Byte)) :
    carrierId bytes % 2 ^ 2048 = match bytes with | some l => leAt l 0 256 % 2 ^ 2048 | none => 2 ^ 2048 - 1 := by
  have hones (n : Nat) : (2 ^ n - 1) % 2 ^ n = 2 ^ n - 1 := Nat.mod_eq_of_lt (Nat.sub_one_lt (Nat.two_pow_pos n).ne')
  cases bytes with
  | some l => rfl
  | none => rw [carrierId, hones]

theorem Block.carrierRead_eq (b : Block) (bytes : Option (List Byte)) (hm : b.mode = 2) : b.carrierRead bytes =
    (b.set R.GLB_CARRIER_ID (carrierId bytes)).setImage
      { (b.set R.GLB_CARRIER_ID (carrierId bytes)).image with carrierDone := true } := by
  cases bytes with
  | some l => rw [Block.carrierRead, if_neg (by simp [hm])]; rfl
  | none => rw [Block.carrierRead, if_neg (by simp [hm])]; rfl

theorem carrierIdRead_stores (s : State) (bytes : Option (List Byte)) (hm : s.blk.mode = 2) :
    ∃ t, exec (.carrierIdRead bytes) s = .next t ∧
      t.blk.get R.GLB_CARRIER_ID = (match bytes with | some l => leAt l 0 256 % 2 ^ 2048 | none => 2 ^ 2048 - 1) ∧
      t.blk.image = { s.blk.image with carrierDone := true } ∧ s.Keeps t [R.GLB_CARRIER_ID] [.image] := by
  have hexec : exec (.carrierIdRead bytes) s = .next (s.run fun _ => s.blk.carrierRead bytes) := rfl
  rw [s.blk.carrierRead_eq bytes hm] at hexec
  refine ⟨_, hexec, ?_, ?_, State.keeps_run s _ _ _
    ((s.blk.keeps_set _ _ _ _ (by simp)).trans (Block.keeps_setImage _ _ _ _ (by simp)))⟩
  · rw [State.run_get s _ _ (by decide), Block.setImage_get, Block.get_set_self,
      show R.GLB_CARRIER_ID.width = 2048 from rfl, carrierId_mod]
  · rw [State.run_image, Block.setImage_image, Block.set_image]

/-! A load whose checks fail, or whose payload cannot be read (R98, R101, R113). -/

/-- The bank is BAD; the chuck tries the banks that are left, with BOOT_SEL none. -/
def Block.loadFails (b : Block) (o : Otp) (k : Bank) (e : Nat × Nat) : Block :=
  let c := b.failBank k e
  Block.tryBanks o (if c.flag R.IMG_BOOT_STAT_BOOT_SEL_SEEN then [] else c.bootOrder.filter (fun x => !c.image.tried.contains x)) c

theorem Block.loadFails_bad (b : Block) (o : Otp) (k : Bank) (e : Nat × Nat) : (b.loadFails o k e).Bad k :=
  (b.failBank_bad_self k e).tryBanks o _

theorem Block.keeps_loadFails (b : Block) (o : Otp) (k : Bank) (e : Nat × Nat) : b.Keeps (b.loadFails o k e) tryFields [.image] :=
  (b.keeps_failBank k e).trans (Block.keeps_tryBanks o _ _)

/-- In M2 image `i` is loaded from bank `k`, and the carrier has been read (R65, R101). -/
structure Block.Loading (b : Block) (k : Bank) (i : Image) : Prop where
  mode : b.mode = 2
  boot : b.image.boot = .loading k i
  carrier : b.image.carrierDone = true

section
variable {b : Block} {k : Bank} {i : Image} (h : b.Loading k i) (o : Otp)
include h

theorem Block.loadComplete_unread : b.loadComplete o false = b.loadFails o k (0x0D, 0xFF) := by
  rw [Block.loadComplete, h.boot]
  dsimp only
  rw [if_neg (by simp [h.mode, h.carrier])]
  rfl

theorem Block.loadComplete_read (hd : digestCheck (b.bankBytes k) = none) :
    b.loadComplete o true = match contentCheck i with | none => b.runImage k i | some e => b.loadFails o k e := by
  rw [Block.loadComplete, h.boot]
  dsimp only
  rw [if_neg (by simp [h.mode, h.carrier]), if_neg (by decide), hd]
  rfl

end

/-- The state after a load that failed. -/
theorem State.run_loadFails (s : State) (k : Bank) (e : Nat × Nat) (hm : s.blk.mode = 2) (t : State)
    (ht : t = s.run fun _ => s.blk.loadFails s.otp k e) :
    t.blk.mode = 2 ∧ t.blk.bankState k = 5 ∧ k ∈ t.blk.image.tried := by
  subst ht
  have hbad := s.blk.loadFails_bad s.otp k e
  refine ⟨?_, ?_, ?_⟩
  · exact (State.run_get s _ R.PWR_MODE_MODE (by decide)).trans
      (((s.blk.keeps_loadFails s.otp k e).1 R.PWR_MODE_MODE (by decide) (by decide)).trans hm)
  · rw [State.run_bankState, hbad.state]
  · rw [State.run_image]; exact hbad.tried

/-! The end of DDR4 training, and the OCXO (R441). -/

theorem ddr4TrainingDone_ready (s : State) (hm : s.blk.mode = 3 ∨ s.blk.mode = 11) :
    ∃ t, exec .ddr4TrainingDone s = .next t ∧ t.blk.get R.QMG_STAT_BULK_READY = 1 ∧ t.blk.power.ddrTrained = true ∧
      s.Keeps t [R.QMG_STAT_BULK_READY] [.power] := by
  have hr : s.blk.running = true := by obtain hm | hm := hm <;> simp [Block.running, hm]
  have e : s.blk.ddrTrainingDone = (s.blk.set R.QMG_STAT_BULK_READY 1).setPower
      { (s.blk.set R.QMG_STAT_BULK_READY 1).power with ddrTrained := true, ddrAwake := true } := by
    rw [Block.ddrTrainingDone, if_pos hm]; rfl
  refine ⟨_, exec_of_runOn _ rfl _ hr e, ?_, congrArg PowerUnit.ddrTrained (Block.updateAlert_power _), State.keeps_run s _ _ _
    ((s.blk.keeps_set _ _ _ _ (by simp)).trans (Block.keeps_setPower _ _ _ _ (by simp)))⟩
  rw [State.run_get s _ _ (by decide), Block.setPower_get, Block.get_set_self]
  rfl

theorem ocxoReady_ready (s : State) (hlow : 2 ≤ s.blk.mode) (hstandby : s.blk.mode ≠ 9) :
    ∃ t, exec .ocxoReady s = .next t ∧ t.blk.get R.PWR_MODE_OCXO_READY = 1 ∧ t.blk.power.cold = false ∧
      s.Keeps t [R.PWR_MODE_OCXO_READY] [.power] := by
  have e : s.blk.ocxoReady = (s.blk.set R.PWR_MODE_OCXO_READY 1).setPower
      { (s.blk.set R.PWR_MODE_OCXO_READY 1).power with cold := false } := by
    rw [Block.ocxoReady, if_pos ⟨hlow, hstandby⟩]; rfl
  refine ⟨_, exec_of_runOn _ rfl _ (decide_eq_true ⟨hlow, hstandby⟩) e, ?_, congrArg PowerUnit.cold (Block.updateAlert_power _),
    State.keeps_run s _ _ _ ((s.blk.keeps_set _ _ _ _ (by simp)).trans (Block.keeps_setPower _ _ _ _ (by simp)))⟩
  rw [State.run_get s _ _ (by decide), Block.setPower_get, Block.get_set_self]
  rfl

end Sys2Proof.Machine
end

section
/-! A verified image comes into force, in M3 Truing or M11 Recovery (R29, R98, R100, R101, R453). -/

namespace Sys2Proof.Machine

/-! What the image's parts do to the loader: nothing. -/

section
variable (b : Block)

theorem Block.loadSlices_image : b.loadSlices.image = b.image :=
  List.foldlRecOn (motive := fun c : Block => c.image = b.image) _ _ rfl fun _ hc _ _ => hc

/-- The fields that a discarded channel writes (R384). -/
def discardFields : List Field := R.CUS_TROUBLE_CHANNEL_DISCARD :: R.CUS_DISCARD_COUNT :: recordFields

theorem Block.keeps_discardChannels (l : List (Nat × Channel)) : b.Keeps (b.discardChannels l) discardFields [.records] := by
  refine b.keeps_forEach _ _ _ _ fun c e _ => Block.keeps_ite (Block.Keeps.refl _ _ _) ?_
  exact (((c.keeps_stick R.CUS_TROUBLE_CHANNEL_DISCARD 0).widen _ _ (by simp [discardFields]) (by simp)).trans
    (Block.keeps_set _ R.CUS_DISCARD_COUNT _ _ _ (by simp [discardFields]))).trans
    ((Block.keeps_event _ _ _ _ _ none).widen _ _ (by simp [discardFields]) (by simp))

theorem Block.custodyLoad_image : b.custodyLoad.image = b.image :=
  ((Block.keeps_discardChannels _ _).image_eq (by simp)).trans (Block.set_image _ _ _)

theorem Block.refillKept_image : b.refillKept.image = b.image := by
  refine List.foldlRecOn (motive := fun c : Block => c.image = b.image) _ _ rfl fun c hc e _ => ?_
  dsimp only
  rw [← hc]
  split <;> split <;> rfl

theorem Block.showMesh_image : b.showMesh.image = b.image := by
  rw [Block.showMesh]
  split
  · exact (Block.set_image _ _ _).trans ((Block.set_image _ _ _).trans (Block.set_image _ _ _))
  · rfl

/-- The image's content goes to the units (R100). -/
def Block.unpackImage (i : Image) (changed : Bool) : Block :=
  let c := (((b.set R.IMG_RUN_DIGEST (leNum i.digest)).set R.IMG_STAT_RUN_MODIFIED 0).loadSlices).custodyLoad
  (if changed && !c.custody.restoreDue then c.refillKept.showRefilling else c).showMesh

theorem Block.applyImage_unpacks (i : Image) :
    ∃ c u, u.run = some i ∧ b.applyImage i = (Block.setImage c u).unpackImage i (i.digest != b.image.lastDigest) :=
  ⟨_, _, rfl, rfl⟩

theorem Block.unpackImage_image (i : Image) (changed : Bool) : (b.unpackImage i changed).image = b.image := by
  have hload : ((((b.set R.IMG_RUN_DIGEST (leNum i.digest)).set R.IMG_STAT_RUN_MODIFIED 0).loadSlices).custodyLoad).image = b.image := by
    rw [Block.custodyLoad_image, Block.loadSlices_image, Block.set_image, Block.set_image]
  rw [Block.unpackImage, Block.showMesh_image]
  split
  · rw [Block.showRefilling, Block.setFlag_eq, Block.set_image, Block.refillKept_image, hload]
  · exact hload

theorem Block.applyImage_run (i : Image) : (b.applyImage i).image.run = some i := by
  obtain ⟨c, u, hu, e⟩ := b.applyImage_unpacks i
  rw [e, Block.unpackImage_image, Block.setImage_image, hu]

end

/-! The entry to M3 and to M11 (R29, R60, R447, R453). -/

section
variable (b : Block)

theorem Block.keeps_drive (pin : Nat) (v : Bool) (l : List Field) : b.Keeps (b.drive pin v) l [.modl] :=
  Block.keeps_when (Block.keeps_pins _ _ _ _ (by simp))

theorem Block.keeps_pinsOn (l : List Field) : b.Keeps b.pinsOn l [.modl] :=
  (b.keeps_pins [] l _ (by simp)).trans (Block.keeps_forEach _ _ _ _ _ fun c pin _ => c.keeps_drive pin _ l)

theorem Block.keeps_requestCages : b.Keeps b.requestCages rationFields [.power] :=
  b.keeps_forEach _ _ _ _ fun c j _ => c.keeps_request (.cage j)

theorem Block.keeps_requestLoads : b.Keeps b.requestLoads rationFields [.power] :=
  (b.keeps_requestSlices.trans (Block.keeps_requestCages _)).trans (Block.keeps_request _ _)

theorem Block.keeps_showAccept : b.Keeps b.showAccept [R.CUS_STAT_ACCEPT_READY] [] := b.keeps_set _ _ _ _ (by simp)

theorem Block.request_wdtArmed (l : Load) : (b.request l none).power.wdtArmed = b.power.wdtArmed := by
  obtain ⟨reqs, h⟩ := b.request_power l
  rw [h]

/-- The fields that an entry to M3 or M11 writes after the mode. -/
def entryFields : List Field := rationFields ++ [R.TRU_DUE, R.CUS_STAT_RESTORE_BUSY, R.CUS_STAT_ACCEPT_READY]

/-- The watchdog is armed (R453). -/
def Block.armWatchdog : Block := b.setPower { b.power with wdtArmed := true }

theorem Block.keeps_armWatchdog (l : List Field) : b.Keeps b.armWatchdog l [.power] := b.keeps_setPower _ _ _ (by simp)

/-- The custody restore runs, or records are accepted (R371, R385). -/
def Block.startCustody : Block := if b.custody.restoreDue then b.set R.CUS_STAT_RESTORE_BUSY 1 else b.showAccept

theorem Block.keeps_startCustody : b.Keeps b.startCustody [R.CUS_STAT_RESTORE_BUSY, R.CUS_STAT_ACCEPT_READY] [] :=
  Block.keeps_ite (b.keeps_set _ _ _ _ (by simp)) (b.keeps_showAccept.widen _ _ (by simp) (by simp))

theorem Block.enterM3_eq :
    b.enterM3 = ((b.setMode 3).pinsOn.requestLoads.truingEntry.armWatchdog.startCustody).updateAlert := rfl

theorem Block.keeps_enterM3 : (b.setMode 3).Keeps b.enterM3 entryFields [.power, .modl, .truing] := by
  have hpins (c : Block) : c.Keeps c.pinsOn entryFields [.power, .modl, .truing] :=
    (c.keeps_pinsOn _).widen _ _ (List.Subset.refl _) (by simp)
  have hloads (c : Block) : c.Keeps c.requestLoads entryFields [.power, .modl, .truing] :=
    c.keeps_requestLoads.widen _ _ (by simp [entryFields]) (by simp)
  have hdue (c : Block) : c.Keeps c.truingEntry entryFields [.power, .modl, .truing] :=
    (c.keeps_makeDue _).widen _ _ (by simp [entryFields]) (by simp)
  have harm (c : Block) : c.Keeps c.armWatchdog entryFields [.power, .modl, .truing] :=
    (c.keeps_armWatchdog _).widen _ _ (List.Subset.refl _) (by simp)
  have hcustody (c : Block) : c.Keeps c.startCustody entryFields [.power, .modl, .truing] :=
    c.keeps_startCustody.widen _ _ (by simp [entryFields]) (by simp)
  rw [Block.enterM3_eq]
  exact (((((hpins _).trans (hloads _)).trans (hdue _)).trans (harm _)).trans (hcustody _)).trans (Block.keeps_updateAlert _ _ _)

theorem Block.enterM3_mode : b.enterM3.mode = 3 :=
  (b.keeps_enterM3.1 R.PWR_MODE_MODE (by decide) (by decide)).trans (b.setMode_mode 3 (by decide))

theorem Block.enterM3_wdtArmed : b.enterM3.power.wdtArmed = true := by
  rw [Block.enterM3_eq, Block.updateAlert_power, (Block.keeps_startCustody _).2 .power (by simp)]
  rfl

/-- M11 Recovery is entered (R98, R101). -/
def Block.enterM11 : Block := (((b.setMode 11).pinsOn.armWatchdog).request .heater none).updateAlert

theorem Block.keeps_enterM11 : (b.setMode 11).Keeps b.enterM11 entryFields [.power, .modl, .truing] :=
  ((((Block.keeps_pinsOn _ _).widen _ _ (List.Subset.refl _) (by simp)).trans
    ((Block.keeps_armWatchdog _ _).widen _ _ (List.Subset.refl _) (by simp))).trans
    ((Block.keeps_request _ _).widen _ _ (by simp [entryFields]) (by simp))).trans (Block.keeps_updateAlert _ _ _)

theorem Block.enterM11_mode : b.enterM11.mode = 11 :=
  (b.keeps_enterM11.1 R.PWR_MODE_MODE (by decide) (by decide)).trans (b.setMode_mode 11 (by decide))

theorem Block.enterM11_wdtArmed : b.enterM11.power.wdtArmed = true := by
  rw [Block.enterM11, Block.updateAlert_power, Block.request_wdtArmed]
  rfl

end

/-! The image runs (R98, R101). -/

/-- The bank's number in IMG_STAT.RUN_BANK (R112). -/
def Bank.number : Bank → Nat
  | .a => 0
  | .b => 1
  | .golden => 2

/-- The loader shows the bank that the image came from, and its trial. -/
def Block.showRun (b : Block) (k : Bank) (trial : Bool) : Block :=
  let c := b.set R.IMG_STAT_RUN_BANK k.number
  let d := (c.setFlag R.IMG_STAT_RUN_TRIAL trial).set R.IMG_TRIAL_LEFT (if trial then c.get R.IMG_TRIAL_LIMIT else 0)
  d.setImage { d.image with boot := .idle, trialTicks := 0 }

section
variable (b : Block) (k : Bank) (trial : Bool)

theorem Block.showRun_run : (b.showRun k trial).image.run = b.image.run := by
  rw [Block.showRun, Block.setImage_image]
  dsimp only
  rw [Block.set_image, Block.setFlag_eq, Block.set_image, Block.set_image]

theorem Block.showRun_bank : (b.showRun k trial).get R.IMG_STAT_RUN_BANK = k.number := by
  rw [Block.showRun, Block.setImage_get, Block.get_set_ne _ _ _ _ (by decide), Block.setFlag_eq, Block.get_set_ne _ _ _ _ (by decide),
    Block.get_set_self]
  cases k <;> rfl

end

section
variable (b : Block) (i : Image)

theorem Block.runImage_golden :
    b.runImage .golden i = ((b.applyImage i).showRun .golden (b.bankState .golden == 2)).enterM11 := rfl

/-- The running copy of an owner's image (R449). -/
def Block.keepCopy : Block := b.setImage { b.image with copy := some i.runCopy }

theorem Block.runImage_owner (k : Bank) (hk : k ≠ .golden) :
    b.runImage k i = (((b.applyImage i).showRun k (b.bankState k == 2)).keepCopy i).enterM3 := by
  unfold Block.runImage
  exact if_neg hk

/-- Image `i` from bank `k` runs, in M3 or from the golden bank in M11, with the watchdog armed (R101, R453). -/
structure Block.Runs (b : Block) (k : Bank) (i : Image) : Prop where
  mode : b.mode = if k = .golden then 11 else 3
  run : b.image.run = some i
  watched : b.power.wdtArmed = true
  bank : b.get R.IMG_STAT_RUN_BANK = k.number

theorem Block.runImage_runs (k : Bank) : (b.runImage k i).Runs k i := by
  have hmode (c : Block) (m : Nat) : c.Keeps (c.setMode m) modeFields [.power, .modl] := c.keeps_setMode m
  by_cases hk : k = .golden
  · subst hk
    have henter := Block.keeps_enterM11 ((b.applyImage i).showRun .golden (b.bankState .golden == 2))
    rw [Block.runImage_golden]
    refine ⟨Block.enterM11_mode _, ?_, Block.enterM11_wdtArmed _, ?_⟩
    · rw [henter.image_eq (by simp), (hmode _ _).image_eq (by simp), Block.showRun_run, Block.applyImage_run]
    · rw [henter.1 _ (by decide) (by decide), (hmode _ _).1 _ (by decide) (by decide), Block.showRun_bank]
  · have henter := Block.keeps_enterM3 (((b.applyImage i).showRun k (b.bankState k == 2)).keepCopy i)
    rw [Block.runImage_owner b i k hk]
    refine ⟨by rw [if_neg hk, Block.enterM3_mode], ?_, Block.enterM3_wdtArmed _, ?_⟩
    · rw [henter.image_eq (by simp), (hmode _ _).image_eq (by simp)]
      exact (Block.showRun_run _ _ _).trans (Block.applyImage_run _ _)
    · rw [henter.1 _ (by decide) (by decide), (hmode _ _).1 _ (by decide) (by decide)]
      exact Block.showRun_bank _ _ _

end

end Sys2Proof.Machine
end

section
/-! The end of M3 Truing (R440–R442), and the settlement of `Obligations.BootAndTruingEnd`. -/

namespace Sys2Proof.Machine

/-! Operations that leave the mode registers. -/

/-- The mode and the mode before it stay (R437). -/
structure Block.SameMode (b c : Block) : Prop where
  mode : c.mode = b.mode
  prev : c.get R.PWR_MODE_PREV = b.get R.PWR_MODE_PREV

theorem Block.SameMode.trans {b c d : Block} (h : b.SameMode c) (k : c.SameMode d) : b.SameMode d :=
  ⟨k.mode.trans h.mode, k.prev.trans h.prev⟩

/-- A frame that does not name the mode registers. -/
theorem Block.Keeps.sameMode {b c : Block} {l : List Field} {ps : List Part} (h : b.Keeps c l ps)
    (hl : R.PWR_MODE_MODE.key ∉ l.map Field.key ∧ R.PWR_MODE_PREV.key ∉ l.map Field.key) : b.SameMode c :=
  ⟨h.1 R.PWR_MODE_MODE hl.1 (by decide), h.1 R.PWR_MODE_PREV hl.2 (by decide)⟩

section
variable (b : Block)

theorem Block.keeps_showMac (ps : List Part) : b.Keeps b.showMac [R.MAC_STAT_STATE] ps := by
  have hset (v : Nat) : b.Keeps (b.set R.MAC_STAT_STATE v) [R.MAC_STAT_STATE] ps := b.keeps_set _ _ _ _ (by simp)
  exact Block.keeps_ite (hset 1) (Block.keeps_ite (hset 2)
    (Block.keeps_ite (Block.keeps_ite (Block.Keeps.refl _ _ _) (hset 3)) (hset 0)))

theorem Block.keeps_setSec (u : SecUnit) (l : List Field) (ps : List Part) (h : .sec ∈ ps) : b.Keeps (b.setSec u) l ps := by
  refine ⟨fun _ _ _ => rfl, fun p hp => ?_⟩
  cases p with
  | sec => exact absurd h hp
  | queues => exact ⟨fun _ _ => rfl, rfl, rfl⟩
  | _ => rfl

theorem Block.keeps_startEpoch (e : Nat) (k : List Byte) (ctr : Nat) : b.Keeps (b.startEpoch e k ctr) [R.SEC_TX_CTR] [.sec] :=
  (b.keeps_set _ _ _ _ (by simp)).trans (Block.keeps_setSec _ _ _ _ (by simp))

theorem Block.keeps_random (n : Nat) (l : List Field) : b.Keeps (b.random n).2 l [.freeCtr] := b.keeps_freeCtr _ _ _ (by simp)

theorem Block.keeps_firstKeys : b.Keeps b.firstKeys (R.SEC_TX_CTR :: keyFields) [.sec, .freeCtr] := by
  have hrandom (c : Block) : c.Keeps (c.random 32).2 (R.SEC_TX_CTR :: keyFields) [.sec, .freeCtr] :=
    (c.keeps_random 32 _).widen _ _ (List.Subset.refl _) (by simp)
  have hepoch (c : Block) (k : List Byte) : c.Keeps (c.startEpoch 0 k 0) (R.SEC_TX_CTR :: keyFields) [.sec, .freeCtr] :=
    (c.keeps_startEpoch 0 k 0).widen _ _ (by simp) (by simp)
  have hkeys (c : Block) : c.Keeps c.showKeys (R.SEC_TX_CTR :: keyFields) [.sec, .freeCtr] :=
    (c.keeps_showKeys _).widen _ _ (by simp) (List.Subset.refl _)
  exact Block.keeps_when ((((hrandom _).trans (hrandom _)).trans (Block.keeps_setSec _ _ _ _ (by simp))).trans
    ((hepoch _ _).trans (hkeys _)))

theorem Block.confirmTrial_sameMode : b.SameMode b.confirmTrial := by
  cases h : b.trialBank with
  | none => rw [Block.confirmTrial, h]; exact ⟨rfl, rfl⟩
  | some k =>
    rw [b.confirmTrial_eq k h]
    exact (b.keeps_confirmed k (Block.trialBank_mem h)).sameMode (by decide)

theorem Block.keeps_requestBand (band : Nat) : b.Keeps (b.requestBand band) rationFields [.power] :=
  Block.keeps_ite (b.keeps_forEach _ _ _ _ fun c p _ => c.keeps_request (.drvH p))
    (Block.keeps_ite (Block.Keeps.refl _ _ _) (b.keeps_request .drvL))

theorem Block.keeps_requestDrivers : b.Keeps b.requestDrivers rationFields [.power] := by
  have hband (c : Block) (band : Nat) : c.Keeps (if c.forbidden band then c else c.requestBand band) rationFields [.power] :=
    Block.keeps_ite (Block.Keeps.refl _ _ _) (c.keeps_requestBand band)
  exact (hband b 0).trans (hband _ 1)

theorem Block.keeps_driversOff (ps : List Part) : b.Keeps b.driversOff [R.PWR_GATES_DRV_H, R.PWR_GATES_DRV_L] ps :=
  (b.keeps_set _ _ _ _ (by simp)).trans (Block.keeps_set _ _ _ _ _ (by simp))

theorem Block.keeps_showReady (l : List Field) : b.Keeps b.showReady l [.modl] := Block.keeps_when (b.keeps_drive 8 true l)

end

/-! The entries to M6 and M4 (R437, R440). -/

section
variable (b : Block)

/-- In M6 a trial without a limit is confirmed (R99). -/
def Block.confirmUnlimited : Block := if b.flag R.IMG_STAT_RUN_TRIAL ∧ b.get R.IMG_TRIAL_LIMIT = 0 then b.confirmTrial else b

theorem Block.confirmUnlimited_sameMode : b.SameMode b.confirmUnlimited := by
  rw [Block.confirmUnlimited]
  split
  · exact b.confirmTrial_sameMode
  · exact ⟨rfl, rfl⟩

theorem Block.enterMode_six (h : b.mode ≠ 8) :
    b.enterMode 6 = (((b.setMode 6).showMac).firstKeys.confirmUnlimited).requestDrivers.showReady := by
  simp only [Block.enterMode, if_neg h, if_neg (show ¬(6 : Nat) = 4 by decide), if_neg (show ¬(6 : Nat) = 5 by decide), if_true]
  rfl

theorem Block.enterMode_four (h : b.mode ≠ 6 ∧ b.mode ≠ 7) :
    b.enterMode 4 = ((b.setMode 4).showMac.setMac
      { (b.setMode 4).showMac.mac with candidates := [], candidate := none, granted := false }).driversOff.showReady := by
  simp only [Block.enterMode, if_neg (not_or.2 h)]
  rfl

theorem Block.enterMode_six_sameMode (h : b.mode ≠ 8) : (b.setMode 6).SameMode (b.enterMode 6) := by
  rw [b.enterMode_six h]
  exact (((((Block.keeps_showMac _ []).sameMode (by decide)).trans ((Block.keeps_firstKeys _).sameMode (by decide))).trans
    (Block.confirmUnlimited_sameMode _)).trans ((Block.keeps_requestDrivers _).sameMode (by decide))).trans
    ((Block.keeps_showReady _ []).sameMode (by decide))

theorem Block.enterMode_four_sameMode (h : b.mode ≠ 6 ∧ b.mode ≠ 7) : (b.setMode 4).SameMode (b.enterMode 4) := by
  rw [b.enterMode_four h]
  exact ((((Block.keeps_showMac _ []).sameMode (by decide)).trans ((Block.keeps_setMac _ _ [] [.mac] (by simp)).sameMode (by decide))).trans
    ((Block.keeps_driversOff _ []).sameMode (by decide))).trans ((Block.keeps_showReady _ []).sameMode (by decide))

/-! A change of mode that takes effect (R440, R442). -/

/-- A request that waited for the change is taken up or refused. -/
def Block.takeHeld : Block :=
  match b.power.heldReq with
  | none => b
  | some r =>
    let c := (b.setPower { b.power with heldReq := none }).set R.PWR_MODE_PENDING 0
    if c.mode = r then c
    else if transitionListed c.mode r (c.role == 0) then c.setPower { c.power with trans := some r }
    else c.refuseMode

theorem Block.takeHeld_sameMode : b.SameMode b.takeHeld := by
  rw [Block.takeHeld]
  cases b.power.heldReq with
  | none => exact ⟨rfl, rfl⟩
  | some r =>
    have hpending : b.SameMode ((b.setPower { b.power with heldReq := none }).set R.PWR_MODE_PENDING 0) :=
      ((b.keeps_setPower _ [] [.power] (by simp)).sameMode (by decide)).trans
        ((Block.keeps_set _ R.PWR_MODE_PENDING 0 [R.PWR_MODE_PENDING] [] (by simp)).sameMode (by decide))
    dsimp only
    refine hpending.trans ?_
    split
    · exact ⟨rfl, rfl⟩
    · split
      · exact (Block.keeps_setPower _ _ [] [.power] (by simp)).sameMode (by decide)
      · exact (Block.keeps_count _ _ _).sameMode (by decide)

/-- The node enters a mode from M2 to M8 or M11. -/
theorem Block.completeTransition_eq (m : Nat) (hl : transitionListed b.mode m (b.role == 0) = true) (h8 : m ≠ 8) (h9 : m ≠ 9) (h10 : m ≠ 10) :
    b.completeTransition m = ((b.setPower { b.power with trans := none }).enterMode m).takeHeld := by
  have hlisted : ¬transitionListed (b.setPower { b.power with trans := none }).mode m ((b.setPower { b.power with trans := none }).role == 0)
      = false := by
    rw [show (b.setPower { b.power with trans := none }).mode = b.mode from rfl,
      show (b.setPower { b.power with trans := none }).role = b.role from rfl, hl]
    decide
  unfold Block.completeTransition
  dsimp only
  rw [if_neg hlisted, if_neg h8, if_neg h9, if_neg h10]
  rfl

end

/-- A change from M3 that takes effect shows its mode, and M3 as the one before. -/
theorem Block.completeTransition_fromM3 (b : Block) (m : Nat) (hm : b.mode = 3)
    (h : (m = 6 ∧ b.role = 0) ∨ (m = 4 ∧ b.role ≠ 0)) :
    (b.completeTransition m).mode = m ∧ (b.completeTransition m).get R.PWR_MODE_PREV = 3 := by
  have hmode : (b.setPower { b.power with trans := none }).mode = 3 := hm
  have hset (k : Nat) (hk : k < 16) : ((b.setPower { b.power with trans := none }).setMode k).mode = k ∧
      ((b.setPower { b.power with trans := none }).setMode k).get R.PWR_MODE_PREV = 3 :=
    ⟨Block.setMode_mode _ _ hk, by rw [Block.setMode_prev _ _ (by rw [hmode]; decide), hmode]⟩
  obtain ⟨rfl, hrole⟩ | ⟨rfl, hrole⟩ := h
  · rw [b.completeTransition_eq 6 (by simp [transitionListed, hm, hrole]) (by decide) (by decide) (by decide)]
    have hsame := (Block.enterMode_six_sameMode _ (by rw [hmode]; decide)).trans (Block.takeHeld_sameMode _)
    exact ⟨hsame.mode.trans (hset 6 (by decide)).1, hsame.prev.trans (hset 6 (by decide)).2⟩
  · rw [b.completeTransition_eq 4 (by simp [transitionListed, hm, hrole]) (by decide) (by decide) (by decide)]
    have hsame := (Block.enterMode_four_sameMode _ (by rw [hmode]; decide)).trans (Block.takeHeld_sameMode _)
    exact ⟨hsame.mode.trans (hset 4 (by decide)).1, hsame.prev.trans (hset 4 (by decide)).2⟩

section
variable (s : State) (hm : s.blk.mode = 3) (hb : s.blk.tick % 25 = 0) (hd : s.blk.truingDone = true)
include hm hb hd

/-- TRUING_EXIT at a block boundary once the truing is done. -/
theorem truingExit_enters (m : Nat) (h : (m = 6 ∧ s.blk.role = 0) ∨ (m = 4 ∧ s.blk.role ≠ 0))
    (hg : s.blk.role = 0 → s.blk.get R.GLB_TICK_STAT_GRID_ALIGNED = 1) :
    ∃ t, exec .truingExit s = .next t ∧ t.blk.mode = m ∧ t.blk.get R.PWR_MODE_PREV = 3 ∧ t.otp = s.otp ∧ t.pending = s.pending := by
  have e : s.blk.truingExit = s.blk.completeTransition m := by
    rw [Block.truingExit, if_neg (by simp [hm, hb, hd])]
    obtain ⟨rfl, hrole⟩ | ⟨rfl, hrole⟩ := h
    · rw [if_pos hrole, if_pos (Block.flag_of_one (hg hrole))]
    · rw [if_neg hrole]
  obtain ⟨hmode, hprev⟩ := s.blk.completeTransition_fromM3 m hm h
  refine ⟨_, exec_of_runOn _ rfl _ (by simp [Block.running, hm]) e, ?_, ?_, rfl, rfl⟩
  · exact (State.run_get s _ R.PWR_MODE_MODE (by decide)).trans hmode
  · rw [State.run_get s _ _ (by decide), hprev]

end

/-! A load whose contents are good, or not (R98, R101). -/

section
variable (s : State) (k : Bank) (i : Image) (h : s.blk.Loading k i)
include h

theorem imageLoadComplete_ends (hd : digestCheck (s.blk.bankBytes k) = none) :
    ∃ t, exec (.imageLoadComplete true) s = .next t ∧
      (contentCheck i = none → t.blk.mode = (if k = .golden then 11 else 3) ∧ t.blk.image.run = some i ∧
        t.blk.power.wdtArmed = true ∧ t.blk.get R.IMG_STAT_RUN_BANK = k.number) ∧
      (contentCheck i ≠ none → t.blk.mode = 2 ∧ t.blk.bankState k = 5 ∧ k ∈ t.blk.image.tried) ∧
      t.otp = s.otp ∧ t.pending = s.pending := by
  have hexec : exec (.imageLoadComplete true) s = .next (s.run fun _ => s.blk.loadComplete s.otp true) := rfl
  have hread := Block.loadComplete_read h s.otp hd
  cases hi : contentCheck i with
  | none =>
    rw [hread, hi] at hexec
    have hruns := s.blk.runImage_runs i k
    refine ⟨_, hexec, fun _ => ⟨?_, ?_, ?_, ?_⟩, fun hne => absurd rfl hne, rfl, rfl⟩
    · exact (State.run_get s _ R.PWR_MODE_MODE (by decide)).trans hruns.mode
    · rw [State.run_image, hruns.run]
    · exact (congrArg PowerUnit.wdtArmed (Block.updateAlert_power _)).trans hruns.watched
    · exact (State.run_get s _ _ (by decide)).trans hruns.bank
  | some e =>
    rw [hread, hi] at hexec
    exact ⟨_, hexec, nofun, fun _ => s.run_loadFails k e h.mode _ rfl, rfl, rfl⟩

theorem imageLoadComplete_unread :
    ∃ t, exec (.imageLoadComplete false) s = .next t ∧ t.blk.mode = 2 ∧ t.blk.bankState k = 5 ∧ k ∈ t.blk.image.tried ∧
      t.otp = s.otp ∧ t.pending = s.pending := by
  have hexec : exec (.imageLoadComplete false) s = .next (s.run fun _ => s.blk.loadComplete s.otp false) := rfl
  rw [Block.loadComplete_unread h s.otp] at hexec
  obtain ⟨hmode, hstate, htried⟩ := s.run_loadFails k (0x0D, 0xFF) h.mode _ rfl
  exact ⟨_, hexec, hmode, hstate, htried, rfl, rfl⟩

end

/-- Settles O11: one lemma for each clause; the banks are tried by induction on their order. -/
theorem bootAndTruingEnd : Obligations.BootAndTruingEnd :=
  ⟨bootStart_chooses, carrierIdRead_stores,
    fun s k i hm hl hc hd => imageLoadComplete_ends s k i ⟨hm, hl, hc⟩ hd,
    fun s k i hm hl hc => imageLoadComplete_unread s k i ⟨hm, hl, hc⟩,
    ddr4TrainingDone_ready, ocxoReady_ready,
    fun s hm hb hd hrole hg => truingExit_enters s hm hb hd 6 (.inl ⟨rfl, hrole⟩) fun _ => hg,
    fun s hm hb hd hrole => truingExit_enters s hm hb hd 4 (.inr ⟨rfl, hrole⟩) fun h => absurd h hrole⟩

end Sys2Proof.Machine
end

section
/-! A notch entry's words (R127, R149), and the settlement of `Obligations.NotchWrites`. -/

namespace Sys2Proof.Machine

/-- In M6, entry 0 is free and holds START 0 and STOP 20 (200 kHz); the register store of START holds a bit above the field's 16. -/
def wideStart : State where
  blk := { regs := [(R.PWR_MODE_MODE.key, 6), ((R.LFE_NOTCH_START 0).key, 65536), ((R.LFE_NOTCH_STOP 0).key, 20)] }
  otp := {}
  pending := []

/-- The register store at START's key, read above the field's width. -/
def startAndAbove : Field := ⟨(R.LFE_NOTCH_START 0).key, 17⟩

theorem wideStart_above : wideStart.blk.get startAndAbove = 65536 := by decide

/-- The entry comes into force with START written again, in its 16 bits (R149). -/
theorem wideStart_notchWrite_above : (wideStart.blk.viaReg fun b => b.notchWrite 0 1).get startAndAbove = 0 := by decide +kernel

/-- Refutes O21, in its fourth clause: VALID with no pending word writes START and STOP again, and its frame names neither. A frame speaks
of the register store at any key and width, so a store with a bit above START's field sees that write. -/
theorem not_notchWrites : ¬ Obligations.NotchWrites := by
  intro h
  obtain ⟨-, -, -, hkept, -⟩ := h
  obtain ⟨t, ht, -, -, -, hframe, -⟩ := hkept wideStart 0 0 20 1 (by decide) (by decide) (by decide) (by decide) (by decide) (by decide)
    (by decide) (by decide) (by decide) (by decide) (by decide)
  obtain rfl : wideStart.runReg (fun b => b.notchWrite 0 1) = t := Host.Outcome.next.inj ht
  have hsame := hframe startAndAbove (by decide) (by decide)
  have hget := State.run_get wideStart (fun b => b.viaReg fun b => b.notchWrite 0 1) startAndAbove (by decide)
  rw [wideStart_notchWrite_above] at hget
  rw [wideStart_above] at hsame
  exact absurd (hget.symm.trans hsame) (by decide)

end Sys2Proof.Machine
end

section
/-! Frozen AGCs (R134, R135) and what an abort leaves (R194, R196, R207): which register fields they change, and the receptions. -/

namespace Sys2Proof.Machine

/-! The bits that show a frozen AGC lie in the register blocks of the ports' front ends. -/

theorem frozenField_width (band p : Nat) : (frozenField band p).width = 1 := by
  unfold frozenField; split <;> rfl

theorem frozenField_key (band p : Nat) (hp : p < 4) : 3145728 ≤ (frozenField band p).key ∧ (frozenField band p).key < 3276800 := by
  unfold frozenField
  split <;> simp only [R.LFE_STAT_AGC_FROZEN_H, R.LFE_STAT_AGC_FROZEN_L] <;> omega

/-- No field of a list outside those blocks is such a bit. -/
theorem frozenField_notMem (band p : Nat) (hp : p < 4) (l : List Field) (h : ∀ k ∈ l.map Field.key, k < 3145728 ∨ 3276800 ≤ k) :
    (frozenField band p).key ∉ l.map Field.key := fun m => by
  have hkey := frozenField_key band p hp
  have := h _ m
  omega

theorem notMem_frozenFields (f : Field) (band : Nat) (l : List Nat) (hl : ∀ q ∈ l, q < 4) (h : f.key < 3145728 ∨ 3276800 ≤ f.key) :
    f.key ∉ (l.map (frozenField band)).map Field.key := by
  simp only [List.mem_map, not_exists, not_and]
  rintro _ ⟨q, hq, rfl⟩ e
  have hkey := frozenField_key band q (hl q hq)
  omega

theorem frozenField_ne_summary (band p : Nat) (hp : p < 4) : (frozenField band p).key ≠ R.TRB_SUMMARY.key := by
  have hkey := frozenField_key band p hp
  simp only [R.TRB_SUMMARY]; omega

theorem Block.setFrozen_eq (b : Block) (band p v : Nat) : b.setFrozen band p v = b.set (frozenField band p) v := by
  unfold Block.setFrozen frozenField; split <;> rfl

theorem Block.frozen_eq (b : Block) (band p : Nat) : b.frozen band p = b.flag (frozenField band p) := by
  unfold Block.frozen frozenField; split <;> rfl

/-! Freezing (R134). -/

section
variable (b : Block) (band p power : Nat)

theorem Block.keeps_freeze : b.Keeps (b.freeze band p power) [frozenField band p] [.front] := by
  unfold Block.freeze
  split
  · exact Block.Keeps.refl b _ _
  · rw [Block.setFrozen_eq]
    exact (b.keeps_set _ _ _ _ (by simp)).trans (Block.keeps_front _ _ _ _ (by simp))

theorem Block.freeze_frozen : (b.freeze band p power).frozen band p = true := by
  unfold Block.freeze
  split
  · assumption
  · rw [Block.setFrozen_eq, Block.frozen_eq, Block.flag]
    change (b.set (frozenField band p) 1).get (frozenField band p) != 0
    rw [Block.get_set_self, frozenField_width]; rfl

/-- An AGC that is frozen stays so when another one freezes. -/
theorem Block.freeze_frozen_of_frozen (q : Nat) (h : b.frozen band q = true) : (b.freeze band p power).frozen band q = true := by
  by_cases hk : (frozenField band q).key = (frozenField band p).key
  · have hf : frozenField band q = frozenField band p := by
      rw [Field.mk.injEq]; exact ⟨hk, by rw [frozenField_width, frozenField_width]⟩
    rw [Block.frozen_eq, hf, ← Block.frozen_eq]
    exact b.freeze_frozen band p power
  · unfold Block.freeze
    split
    · exact h
    · rw [Block.setFrozen_eq, Block.frozen_eq, Block.flag]
      change (b.set (frozenField band p) 1).get (frozenField band q) != 0
      rw [Block.get_set_ne _ _ _ _ hk, ← Block.flag, ← Block.frozen_eq, h]

end

end Sys2Proof.Machine
end

section
/-! Releases, triggers and aborts. -/

namespace Sys2Proof.Machine

/-! Every AGC of a list freezes. -/

/-- The AGCs of a receive set freeze, each with its power (R134, R137). -/
def Block.freezeAll (b : Block) (band : Nat) (set : List (Nat × Nat)) : Block := b.forEach set (fun b x => b.freeze band x.1 x.2)

theorem Block.keeps_freezeAll (b : Block) (band : Nat) (set : List (Nat × Nat)) :
    b.Keeps (b.freezeAll band set) ((set.map Prod.fst).map (frozenField band)) [.front] :=
  b.keeps_forEach _ _ _ _ fun c x hx => (c.keeps_freeze band x.1 x.2).mono
    (fun f m => by
      rw [List.mem_singleton.1 m]
      exact List.mem_map_of_mem (List.mem_map_of_mem (List.mem_map_of_mem hx)))
    (fun _ m => m)

theorem Block.freezeAll_frozen_of_frozen (b : Block) (band q : Nat) (set : List (Nat × Nat)) (h : b.frozen band q = true) :
    (b.freezeAll band set).frozen band q = true := by
  induction set generalizing b with
  | nil => exact h
  | cons x xs ih => exact ih _ (b.freeze_frozen_of_frozen band x.1 x.2 q h)

/-! Release (R135). -/

theorem Block.keeps_unfreeze (b : Block) (band : Nat) (ports : List Nat) (ps : List Part) :
    b.Keeps (b.unfreeze band ports) (ports.map (frozenField band)) ps :=
  b.keeps_forEach _ _ _ _ fun c p hp => by
    rw [Block.setFrozen_eq]
    exact c.keeps_set _ _ _ _ (List.mem_map_of_mem (List.mem_map_of_mem hp))

/-- A released AGC is not frozen, and releases of others leave it so. -/
theorem Block.unfreeze_get_zero (b : Block) (band p : Nat) (ports : List Nat) (h : p ∈ ports ∨ b.get (frozenField band p) = 0) :
    (b.unfreeze band ports).get (frozenField band p) = 0 := by
  unfold Block.unfreeze Block.forEach
  induction ports generalizing b with
  | nil => exact h.resolve_left (by simp)
  | cons q qs ih =>
    refine ih (b.setFrozen band q 0) ?_
    rw [Block.setFrozen_eq, Block.get_set]
    split
    · exact .inr (by simp)
    · next hk =>
      obtain h | h := h
      · obtain rfl | h := List.mem_cons.1 h
        · exact absurd rfl hk
        · exact .inl h
      · exact .inr h

theorem Block.keeps_releaseAgc (b : Block) (band : Nat) (ports : List Nat) (ps : List Part) :
    b.Keeps (b.releaseAgc band ports) (ports.map (frozenField band)) ps :=
  (b.keeps_unfreeze band _ ps).widen _ _ (List.map_subset _ (List.filter_subset_self _)) (List.Subset.refl _)

theorem Block.releaseAgc_get_zero (b : Block) (band q : Nat) (ports : List Nat) (hq : q ∈ ports) (h : b.holds band q = false) :
    (b.releaseAgc band ports).get (frozenField band q) = 0 :=
  b.unfreeze_get_zero band q _ (.inl (List.mem_filter.2 ⟨hq, by simp [h]⟩))

theorem Block.holds_eq_of_phy {b c : Block} (h : c.phy.rx = b.phy.rx) (band q : Nat) : c.holds band q = b.holds band q := by
  rw [Block.holds, Block.holds, h]

/-! A capture's trigger (R207) touches neither receptions nor what they delivered. -/

/-- The receptions and the frames handed on are the same. -/
structure Block.SameRx (b c : Block) : Prop where
  rx : c.phy.rx = b.phy.rx
  delivered : c.phy.delivered = b.phy.delivered

theorem Block.SameRx.refl (b : Block) : b.SameRx b := ⟨rfl, rfl⟩

theorem Block.SameRx.trans {b c d : Block} (h : b.SameRx c) (k : c.SameRx d) : b.SameRx d :=
  ⟨k.rx.trans h.rx, k.delivered.trans h.delivered⟩

theorem Block.Keeps.sameRx {b c : Block} {l : List Field} {ps : List Part} (h : b.Keeps c l ps) (hp : .phy ∉ ps) : b.SameRx c :=
  have e : c.phy = b.phy := h.2 .phy hp
  ⟨congrArg PhyUnit.rx e, congrArg PhyUnit.delivered e⟩

theorem Block.updateAlert_sameRx (b : Block) : b.SameRx b.updateAlert :=
  ⟨congrArg PhyUnit.rx b.updateAlert_phy, congrArg PhyUnit.delivered b.updateAlert_phy⟩

theorem Block.keeps_captureTrigger (b : Block) (kind : Nat) : b.Keeps (b.captureTrigger kind) captureFields [.phy] :=
  Block.keeps_when (((b.keeps_phy _ _ _ (by simp)).trans (Block.keeps_set _ _ _ _ _ (by decide))).trans
    (Block.keeps_set _ _ _ _ _ (by decide)))

theorem Block.captureTrigger_sameRx (b : Block) (kind : Nat) : b.SameRx (b.captureTrigger kind) := by
  unfold Block.captureTrigger
  split
  · exact ⟨rfl, rfl⟩
  · exact Block.SameRx.refl b

/-! A withheld measurement (R196, R223). -/

/-- The fields that a withheld measurement changes. -/
def withheldFields : List Field :=
  [R.PHY_TIMWH_LAST_CAUSE, R.PHY_TIMWH_LAST_PORT, R.PHY_TIMWH_LAST_BAND, R.PHY_TIMWH_LAST_TICK_TAG, R.PHY_TIM_WITHHELD_COUNT,
    R.PHY_RX_TROUBLE_TIM_WITHHELD] ++ recordFields

theorem Block.keeps_timingWithheld (b : Block) (band p src cause : Nat) :
    b.Keeps (b.timingWithheld band p src cause) withheldFields [.time, .records] := by
  have hset (c : Block) (f : Field) (v : Nat) (h : f ∈ withheldFields) : c.Keeps (c.set f v) withheldFields [.time, .records] :=
    c.keeps_set f v _ _ (List.mem_map_of_mem h)
  have hcount (c : Block) : c.Keeps (c.count R.PHY_TIM_WITHHELD_COUNT R.PHY_RX_TROUBLE_TIM_WITHHELD) withheldFields [.time, .records] :=
    (c.keeps_count _ _).widen _ _ (by decide) (by simp)
  exact (((((hset b _ _ (by decide)).trans (hset _ _ _ (by decide))).trans (hset _ _ _ (by decide))).trans
    (hset _ _ _ (by decide))).trans (hcount _)).trans (Block.keeps_time _ _ _ _ (by simp))

/-! An abort (R135, R194). -/

/-- A reception is over. -/
def Block.dropReception (b : Block) (r : Reception) : Block := { b with phy := { b.phy with rx := b.phy.rx.erase r } }

/-- The fields that an aborted reception of a TIMING frame may change. -/
def abortFields (r : Reception) : List Field := captureFields ++ r.ports.map (frozenField r.band) ++ withheldFields

section
variable (b : Block) (r : Reception)

theorem Block.keeps_dropReception (l : List Field) : b.Keeps (b.dropReception r) l [.phy] := b.keeps_phy _ _ _ (by simp)

/-- The AGCs are released and a capture may begin. -/
def Block.cutReception : Block := ((b.dropReception r).releaseAgc r.band r.ports).captureTrigger 2

theorem Block.abortReception_eq : b.abortReception r =
    if r.stage = 2 ∧ r.hdr.ftype = 4 then (b.cutReception r).timingWithheld r.band r.port r.hdr.src 1 else b.cutReception r := rfl

theorem Block.keeps_cutReception :
    b.Keeps (b.cutReception r) (captureFields ++ r.ports.map (frozenField r.band)) [.phy] :=
  ((b.keeps_dropReception r _).trans ((Block.keeps_releaseAgc _ _ _ _).widen _ _ (List.subset_append_right _ _) (List.Subset.refl _))).trans
    ((Block.keeps_captureTrigger _ 2).widen _ _ (List.subset_append_left _ _) (List.Subset.refl _))

theorem Block.cutReception_sameRx : (b.dropReception r).SameRx (b.cutReception r) :=
  ((Block.keeps_releaseAgc _ _ _ []).sameRx (by simp)).trans (Block.captureTrigger_sameRx _ 2)

theorem Block.keeps_abortReception : b.Keeps (b.abortReception r) (abortFields r) [.phy, .time, .records] := by
  have hcut : b.Keeps (b.cutReception r) (abortFields r) [.phy, .time, .records] :=
    (b.keeps_cutReception r).widen _ _ (List.subset_append_left _ _) (by simp)
  rw [Block.abortReception_eq]
  exact Block.keeps_ite (hcut.trans ((Block.keeps_timingWithheld _ _ _ _ _).widen _ _ (List.subset_append_right _ _) (by simp))) hcut

theorem Block.abortReception_untimed (h : ¬(r.stage = 2 ∧ r.hdr.ftype = 4)) : b.abortReception r = b.cutReception r := by
  rw [Block.abortReception_eq, if_neg h]

theorem Block.abortReception_sameRx : (b.dropReception r).SameRx (b.abortReception r) := by
  rw [Block.abortReception_eq]
  split
  · exact (b.cutReception_sameRx r).trans ((Block.keeps_timingWithheld _ _ _ _ _).sameRx (by simp))
  · exact b.cutReception_sameRx r

end

/-- A field outside the front ends' blocks that neither a trigger nor a withheld measurement writes is as it was before an abort. -/
theorem Block.abortReception_get (b : Block) (r : Reception) (f : Field) (hr : ∀ q ∈ r.ports, q < 4)
    (hf : f.key < 3145728 ∨ 3276800 ≤ f.key) (hc : f.key ∉ (captureFields ++ withheldFields).map Field.key)
    (hs : f.key ≠ R.TRB_SUMMARY.key) : (b.abortReception r).get f = b.get f := by
  refine (b.keeps_abortReception r).1 f ?_ hs
  have hfrozen := notMem_frozenFields f r.band r.ports hr hf
  rw [List.map_append, List.mem_append, not_or] at hc
  simp only [abortFields, List.map_append, List.mem_append, not_or]
  exact ⟨⟨hc.1, hfrozen⟩, hc.2⟩

/-! An abort under its cause (R194). -/

/-- A counter of aborts and its sticky bit: PHY fields that nothing else of an abort writes. -/
structure AbortCause (c f : Field) : Prop where
  counter : 3276800 ≤ c.key ∧ c.key ∉ (captureFields ++ withheldFields).map Field.key ∧ c.key ∉ recordFields.map Field.key
  sticky : f.width = 1 ∧ f.key ∉ recordFields.map Field.key ∧ 3276800 ≤ f.key
  apart : c.key ≠ f.key

theorem abortCause_falseDet : AbortCause R.PHY_FALSE_DET_COUNT R.PHY_RX_TROUBLE_FALSE_DET :=
  ⟨by decide, by decide, by decide⟩
theorem abortCause_saturation : AbortCause R.PHY_ABORT_OTHER_COUNT R.PHY_RX_TROUBLE_ABORT_SAT :=
  ⟨by decide, by decide, by decide⟩
theorem abortCause_erasure : AbortCause R.PHY_ABORT_ERASE_COUNT R.PHY_RX_TROUBLE_ABORT_ERASE :=
  ⟨by decide, by decide, by decide⟩

section
variable (b : Block) (r : Reception) {c f : Field} (h : AbortCause c f)
include h

theorem AbortCause.ne_summary : c.key ≠ R.TRB_SUMMARY.key ∧ f.key ≠ R.TRB_SUMMARY.key := by
  obtain ⟨hc, -⟩ := h.counter
  obtain ⟨-, -, hf⟩ := h.sticky
  simp only [R.TRB_SUMMARY]; omega

theorem AbortCause.count_get (hr : ∀ q ∈ r.ports, q < 4) :
    ((b.abortReception r).count c f).get c = (b.get c + 1) % 2 ^ c.width := by
  obtain ⟨hkey, hcap, hrec⟩ := h.counter
  rw [Block.count_get_counter _ _ _ h.apart hrec h.ne_summary.1, b.abortReception_get r c hr (.inr hkey) hcap h.ne_summary.1]

theorem AbortCause.sticky_get (b : Block) : (b.count c f).get f = 1 := by
  obtain ⟨hw, hrec, -⟩ := h.sticky
  exact Block.count_get_sticky _ _ _ hw hrec h.ne_summary.2

omit h in
theorem Block.abortCounted_sameRx (c f : Field) : (b.dropReception r).SameRx ((b.abortReception r).count c f) :=
  (b.abortReception_sameRx r).trans ((Block.keeps_count _ c f).sameRx (by simp))

omit h in
theorem Block.keeps_abortCounted (c f : Field) (hr : ¬(r.stage = 2 ∧ r.hdr.ftype = 4)) :
    b.Keeps ((b.abortReception r).count c f)
      ([c, f] ++ captureFields ++ r.ports.map (frozenField r.band) ++ recordFields) [.phy, .records] := by
  rw [b.abortReception_untimed r hr]
  exact ((b.keeps_cutReception r).widen _ _ (fun x hx => by simp only [List.mem_append] at hx ⊢; tauto) (by simp)).trans
    ((Block.keeps_count _ c f).widen _ _ (fun x hx => by simp only [List.mem_append, List.mem_cons] at hx ⊢; tauto) (by simp))

end

end Sys2Proof.Machine
end

section
/-! The start of a reception (R134, R184, R185), its false declaration, and its aborts (R135, R193). -/

namespace Sys2Proof.Machine

/-! Where a reception is found. -/

theorem Block.receptionAt_band {b : Block} {band p stage : Nat} {code : Nat × Nat} {r : Reception}
    (h : b.receptionAt band p stage code = some r) : r.band = band := by
  have := List.find?_some h
  simp only [Bool.and_eq_true, beq_iff_eq] at this
  exact this.1.1.1

theorem Block.receptionAt_stage {b : Block} {band p stage : Nat} {code : Nat × Nat} {r : Reception}
    (h : b.receptionAt band p stage code = some r) : r.stage = stage := by
  have := List.find?_some h
  simp only [Bool.and_eq_true, beq_iff_eq] at this
  exact this.1.2

/-! A command of a running unit, by its block. -/

theorem State.run_sameRx (s : State) {c d : Block} (h : c.SameRx d) : c.SameRx (s.run fun _ => d).blk := h.trans d.updateAlert_sameRx

/-! PREAMBLE_DECLARE (R134, R184, R186). -/

/-- The receive set of a declaration: the port, with the power of its last repetition, and the other ports that take part. -/
def Block.receiveSet (b : Block) (band p : Nat) (window : List Lane) (ports : List (Nat × Nat)) (collect : Bool) : List (Nat × Nat) :=
  (p, framePower band window) :: ports.filter (fun x => x.1 != p && b.listens band x.1 && (collect || !b.frozen band x.1))

/-- The reception that a declaration starts. -/
def Block.declared (b : Block) (band p : Nat) (code : Nat × Nat) (window : List Lane) (ports : List (Nat × Nat)) (collect : Bool) :
    Reception :=
  let seq := if collect then some code else none
  let reps := windowAt band (b.detector band).2 2 window
  { band := band, port := p, ports := (b.receiveSet band p window ports collect).map Prod.fst, stage := 0, collect := collect
    held := collect, code := code, corrs := reps.map (correlate seq), flags := reps.map (fun l => l.any Lane.flagged) }

/-- A reception is added (R184). -/
def Block.addReception (b : Block) (r : Reception) : Block := { b with phy := { b.phy with rx := b.phy.rx ++ [r] } }

/-- The AGCs of the receive set freeze, and the reception is counted and added; a capture may begin. -/
def Block.startReception (b : Block) (band : Nat) (set : List (Nat × Nat)) (r : Reception) : Block :=
  (((b.freezeAll band set).bump R.PHY_DET_COUNT).addReception r).captureTrigger 1

/-- What the declaration of a preamble needs (R134, R184, R186). -/
structure Block.Declares (b : Block) (band p : Nat) (code : Nat × Nat) (window : List Lane) (collect : Bool) : Prop where
  receiving : b.receiving = true
  listens : b.listens band p = true
  slot : collect = (band == 0 && b.inCollect)
  free : b.frozen band p = false ∨ collect = true
  fresh : collect = true → b.phy.rx.any (fun r => r.collect && r.stage != 3 && r.code == code && r.ports.contains p) = false
  passes : b.declares band (if collect then some code else none) window = true

theorem Block.declare_starts (b : Block) (band p : Nat) (code : Nat × Nat) (window : List Lane) (ports : List (Nat × Nat))
    (collect : Bool) (h : b.Declares band p code window collect) :
    b.declare band p code window ports =
      b.startReception band (b.receiveSet band p window ports collect) (b.declared band p code window ports collect) := by
  obtain ⟨hrec, hlis, rfl, hfree, hnew, hpass⟩ := h
  refine if_neg ?_
  rintro (h | h | ⟨h, hc⟩ | ⟨hc, h⟩ | h)
  · rw [hrec] at h; cases h
  · rw [hlis] at h; cases h
  · obtain hf | hf := hfree
    · rw [h] at hf; cases hf
    · rw [hc] at hf; cases hf
  · rw [hnew hc] at h; cases h
  · rw [hpass] at h; cases h

theorem Block.declare_idle (b : Block) (band p : Nat) (code : Nat × Nat) (window : List Lane) (ports : List (Nat × Nat))
    (h : b.receiving = false ∨ b.listens band p = false ∨ b.frozen band p = true ∧ (band == 0 && b.inCollect) = false) :
    b.declare band p code window ports = b :=
  if_pos (h.imp_right (Or.imp_right .inl))

theorem Block.receiveSet_fst_subset (b : Block) (band p : Nat) (window : List Lane) (ports : List (Nat × Nat)) (collect : Bool) :
    (b.receiveSet band p window ports collect).map Prod.fst ⊆ p :: ports.map Prod.fst :=
  List.cons_subset_cons _ (List.map_subset _ (List.filter_subset_self _))

section
variable (b : Block) (band : Nat) (set : List (Nat × Nat)) (r : Reception)

theorem Block.keeps_addReception (l : List Field) : b.Keeps (b.addReception r) l [.phy] := b.keeps_phy _ _ _ (by simp)

theorem Block.startReception_rx : (b.startReception band set r).phy.rx = b.phy.rx ++ [r] := by
  have hfreeze : ((b.freezeAll band set).bump R.PHY_DET_COUNT).phy = b.phy :=
    (b.keeps_freezeAll band set).2 .phy (by simp)
  exact (Block.captureTrigger_sameRx _ 1).rx.trans (congrArg (fun u : PhyUnit => u.rx ++ [r]) hfreeze)

theorem Block.keeps_startReception : b.Keeps (b.startReception band set r)
    (R.PHY_DET_COUNT :: captureFields ++ (set.map Prod.fst).map (frozenField band)) [.phy, .front] := by
  have hfreeze := (b.keeps_freezeAll band set).widen (R.PHY_DET_COUNT :: captureFields ++ (set.map Prod.fst).map (frozenField band))
    [.phy, .front] (List.subset_append_right _ _) (by simp)
  exact ((hfreeze.trans (Block.keeps_bump _ _ _ _ (by simp))).trans ((Block.keeps_addReception _ r _).widen _ _ (List.Subset.refl _)
    (by simp))).trans ((Block.keeps_captureTrigger _ 1).widen _ _ (fun _ m => by simp [m]) (by simp))

theorem Block.startReception_count (hset : ∀ x ∈ set, x.1 < 4) :
    (b.startReception band set r).get R.PHY_DET_COUNT = (b.get R.PHY_DET_COUNT + 1) % 2 ^ R.PHY_DET_COUNT.width := by
  have hfreeze : (b.freezeAll band set).get R.PHY_DET_COUNT = b.get R.PHY_DET_COUNT :=
    (b.keeps_freezeAll band set).1 _ (notMem_frozenFields _ _ _ (by simpa using hset) (by decide)) (by decide)
  rw [Block.startReception, (Block.keeps_captureTrigger _ 1).1 _ (by decide) (by decide)]
  exact (Block.bump_get _ _).trans (by rw [hfreeze])

/-- The first port of the receive set is frozen at the end. -/
theorem Block.startReception_frozen (p w : Nat) (hp : p < 4) : (b.startReception band ((p, w) :: set) r).frozen band p = true := by
  have hset : ((b.freeze band p w).freezeAll band set).frozen band p = true :=
    Block.freezeAll_frozen_of_frozen _ _ _ _ (b.freeze_frozen band p w)
  have hkey := frozenField_key band p hp
  have hbump := Block.get_set_ne ((b.freeze band p w).freezeAll band set) R.PHY_DET_COUNT (frozenField band p)
    (((b.freeze band p w).freezeAll band set).get R.PHY_DET_COUNT + 1) (by simp only [R.PHY_DET_COUNT]; omega)
  rw [Block.frozen_eq, Block.flag] at hset ⊢
  rw [Block.startReception, (Block.keeps_captureTrigger _ 1).1 _ (frozenField_notMem _ _ hp _ (by decide))
    (frozenField_ne_summary _ _ hp), ← hset]
  exact congrArg (· != 0) hbump

end

theorem preambleDeclare_starts (s : State) (band p : Nat) (code : Nat × Nat) (window : List Lane) (ports : List (Nat × Nat))
    (collect : Bool) (hrun : s.blk.running = true) (hp : p < 4) (hports : ∀ x ∈ ports, x.1 < 4)
    (h : s.blk.Declares band p code window collect) :
    ∃ t r, exec (.preambleDeclare band p ⟨code, window, ports⟩) s = .next t ∧ t.blk.phy.rx = s.blk.phy.rx ++ [r] ∧ r.band = band ∧
      r.port = p ∧ r.stage = 0 ∧ r.collect = collect ∧ r.code = code ∧ p ∈ r.ports ∧ t.blk.frozen band p = true ∧
      t.blk.get R.PHY_DET_COUNT = (s.blk.get R.PHY_DET_COUNT + 1) % 2 ^ R.PHY_DET_COUNT.width ∧
      s.Keeps t (R.PHY_DET_COUNT :: captureFields ++ (p :: ports.map Prod.fst).map (frozenField band)) [.phy, .front] := by
  have hset : ∀ x ∈ s.blk.receiveSet band p window ports collect, x.1 < 4 := by
    intro x hx
    obtain rfl | hx := List.mem_cons.1 hx
    · exact hp
    · exact hports x (List.mem_of_mem_filter hx)
  refine ⟨_, s.blk.declared band p code window ports collect,
    congrArg Host.Outcome.next (s.runOn_eq _ _ hrun (s.blk.declare_starts band p code window ports collect h)), ?_, rfl, rfl, rfl, rfl,
    rfl, List.mem_cons_self, ?_, ?_, State.keeps_run s _ _ _ ?_⟩
  · exact (s.run_sameRx (Block.SameRx.refl _)).rx.trans (s.blk.startReception_rx band _ _)
  · rw [Block.frozen_eq, Block.flag, State.run_get s _ _ (frozenField_ne_summary band p hp), ← Block.flag, ← Block.frozen_eq]
    exact s.blk.startReception_frozen band _ _ p _ hp
  · exact (State.run_get s _ _ (by decide)).trans (s.blk.startReception_count band _ _ hset)
  · exact (s.blk.keeps_startReception band _ _).widen _ _
      (List.append_subset.2 ⟨List.subset_append_left _ _,
        List.Subset.trans (List.map_subset _ (s.blk.receiveSet_fst_subset band p window ports collect)) (List.subset_append_right _ _)⟩)
      (List.Subset.refl _)

/-- A command that finds nothing to do, also while its unit stands still. -/
theorem State.runOn_unchanged (s : State) (f : Block → Block) (e : f s.blk = s.blk) :
    ∃ t, (.next (s.runOn f) : Host.Outcome State Fault Refusal) = .next t ∧ s.Keeps t [] [] := by
  refine ⟨_, rfl, State.keeps_run s _ _ _ ?_⟩
  change s.blk.Keeps (if s.blk.running then f s.blk else s.blk) [] []
  rw [e, ite_self]
  exact Block.Keeps.refl _ _ _

/-! SYNC_FOUND and SYNC_SEARCH_TIMEOUT (R185). -/

section
variable {s : State} {band p : Nat} {code : Nat × Nat} {r : Reception}

/-- A reception whose header starts after the repetitions of `corrs` and the sync word (R185). -/
def Reception.synced (r : Reception) (corrs : List Cx) (flags : List Bool) : Reception :=
  { r with stage := 1, corrs := corrs, flags := flags, syncFlagged := (flags.drop (flags.length - 3)).any (fun x => x) }

theorem syncFound_fixes (reps : List (List Lane)) (start : EqStart) (hrun : s.blk.running = true)
    (hr : s.blk.receptionAt band p 0 code = some r) (hfound : (syncSearch r.seq reps r.corrs r.flags).1 = true) (hlen : reps.length ≤ 8)
    (hlast : (syncSearch r.seq reps r.corrs r.flags).2.1.length + 1 = r.corrs.length + reps.length) :
    ∃ t r', exec (.syncFound ⟨band, p, code⟩ ⟨reps, start⟩) s = .next t ∧ r'.stage = 1 ∧
      r'.corrs = (syncSearch r.seq reps r.corrs r.flags).2.1 ∧ r'.ports = r.ports ∧ t.blk.phy.rx = s.blk.phy.rx.replace r r' ∧
      s.Keeps t [] [.phy] := by
  generalize hsearch : syncSearch r.seq reps r.corrs r.flags = out at *
  obtain ⟨found, corrs, flags⟩ := out
  have e : s.blk.syncFound band p code reps start =
      (s.blk.setReception r (r.synced corrs flags)).setEqualiser (r.synced corrs flags)
        ((s.blk.eqCfg band).start r.ports.length start) := by
    simp only [Block.syncFound, hr, hsearch]
    exact if_pos ⟨hfound, hlen, hlast⟩
  exact ⟨_, r.synced corrs flags, congrArg Host.Outcome.next (s.runOn_eq _ _ hrun e), rfl, rfl, rfl, (Block.updateAlert_sameRx _).rx,
    State.keeps_run s _ _ _ ((s.blk.keeps_phy _ _ _ (by simp)).trans (Block.keeps_phy _ _ _ _ (by simp)))⟩

theorem syncSearchTimeout_releases (reps : List (List Lane)) (hrun : s.blk.running = true)
    (hr : s.blk.receptionAt band p 0 code = some r) (hlen : reps.length = 8) (hnone : (syncSearch r.seq reps r.corrs r.flags).1 = false)
    (hports : ∀ q ∈ r.ports, q < 4) :
    ∃ t, exec (.syncSearchTimeout ⟨band, p, code⟩ reps) s = .next t ∧ t.blk.phy.rx = s.blk.phy.rx.erase r ∧
      (∀ q ∈ r.ports, t.blk.holds band q = false → t.blk.get (frozenField band q) = 0) ∧
      t.blk.get R.PHY_FALSE_DET_COUNT = (s.blk.get R.PHY_FALSE_DET_COUNT + 1) % 2 ^ R.PHY_FALSE_DET_COUNT.width ∧
      t.blk.get R.PHY_RX_TROUBLE_FALSE_DET = 1 ∧
      s.Keeps t ([R.PHY_FALSE_DET_COUNT, R.PHY_RX_TROUBLE_FALSE_DET] ++ captureFields ++ r.ports.map (frozenField band) ++
        recordFields) [.phy, .records] := by
  have hband := Block.receptionAt_band hr
  have huntimed : ¬(r.stage = 2 ∧ r.hdr.ftype = 4) := by rw [Block.receptionAt_stage hr]; simp
  have e : s.blk.syncTimeout band p code reps = (s.blk.abortReception r).count R.PHY_FALSE_DET_COUNT R.PHY_RX_TROUBLE_FALSE_DET := by
    simp only [Block.syncTimeout, hr]
    exact if_pos ⟨hlen, hnone⟩
  subst hband
  have hrx := s.run_sameRx (s.blk.abortCounted_sameRx r R.PHY_FALSE_DET_COUNT R.PHY_RX_TROUBLE_FALSE_DET)
  refine ⟨_, congrArg Host.Outcome.next (s.runOn_eq _ _ hrun e), hrx.rx, ?_, ?_, ?_, State.keeps_run s _ _ _ ?_⟩
  · intro q hq hfree
    have hfree' : (s.blk.dropReception r).holds r.band q = false := (Block.holds_eq_of_phy hrx.rx r.band q).symm.trans hfree
    have hq4 := hports q hq
    rw [State.run_get s _ _ (frozenField_ne_summary _ _ hq4),
      (Block.keeps_count _ _ _).1 _ (frozenField_notMem _ _ hq4 _ (by decide)) (frozenField_ne_summary _ _ hq4),
      Block.abortReception_untimed _ _ huntimed, Block.cutReception,
      (Block.keeps_captureTrigger _ 2).1 _ (frozenField_notMem _ _ hq4 _ (by decide)) (frozenField_ne_summary _ _ hq4)]
    exact Block.releaseAgc_get_zero _ _ _ _ hq hfree'
  · exact (State.run_get s _ _ (by decide)).trans (abortCause_falseDet.count_get s.blk r hports)
  · exact (State.run_get s _ _ (by decide)).trans (abortCause_falseDet.sticky_get _)
  · exact s.blk.keeps_abortCounted r _ _ huntimed

end

end Sys2Proof.Machine
end

section
/-! Saturation releases (R135, R194) and erasures (R193, R195). -/

namespace Sys2Proof.Machine

/-! AGC_SATURATION_RELEASE. -/

/-- The sticky bit of a saturation release (R148). -/
def satField (band p : Nat) : Field := if band = 0 then R.LFE_TROUBLE_AGC_SAT_REL_H p else R.LFE_TROUBLE_AGC_SAT_REL_L p

/-- A saturation release is counted, and a capture may begin (R135, R207). -/
def Block.noteSaturation (b : Block) (band p : Nat) : Block :=
  ((b.bump (R.LFE_AGC_SAT_REL_COUNT p)).stick (satField band p)).captureTrigger 5

/-- The receptions that hold an AGC (R134, R187). -/
def Block.heldBy (b : Block) (band p : Nat) : List Reception :=
  b.phy.rx.filter (fun r => r.band == band && r.ports.contains p && r.stage != 3 && !r.paused)

/-- A reception is aborted for the saturation of its AGC. -/
def Block.abortSaturated (b : Block) (r : Reception) : Block := (b.abortReception r).count R.PHY_ABORT_OTHER_COUNT R.PHY_RX_TROUBLE_ABORT_SAT

/-- The fields of a saturation release itself. -/
def satFields (band p : Nat) : List Field := [R.LFE_AGC_SAT_REL_COUNT p, satField band p] ++ captureFields ++ recordFields

theorem satField_eq (band p : Nat) : satField band p = R.LFE_TROUBLE_AGC_SAT_REL_H p ∨ satField band p = R.LFE_TROUBLE_AGC_SAT_REL_L p := by
  unfold satField; split <;> simp

/-- The counter of a port's releases and the bits that show frozen AGCs are different fields. -/
theorem satCount_ne_frozenField (band p q : Nat) : (R.LFE_AGC_SAT_REL_COUNT p).key ≠ (frozenField band q).key := by
  unfold frozenField
  split <;> simp only [R.LFE_AGC_SAT_REL_COUNT, R.LFE_STAT_AGC_FROZEN_H, R.LFE_STAT_AGC_FROZEN_L] <;> omega

theorem satCount_ne_satField (band p : Nat) : (R.LFE_AGC_SAT_REL_COUNT p).key ≠ (satField band p).key := by
  unfold satField
  split <;> simp only [R.LFE_AGC_SAT_REL_COUNT, R.LFE_TROUBLE_AGC_SAT_REL_H, R.LFE_TROUBLE_AGC_SAT_REL_L] <;> omega

theorem satCount_key (p : Nat) (hp : p < 4) : 3145728 ≤ (R.LFE_AGC_SAT_REL_COUNT p).key ∧ (R.LFE_AGC_SAT_REL_COUNT p).key < 3276800 := by
  simp only [R.LFE_AGC_SAT_REL_COUNT]; omega

theorem satCount_notMem (p : Nat) (hp : p < 4) (l : List Field) (h : ∀ k ∈ l.map Field.key, k < 3145728 ∨ 3276800 ≤ k) :
    (R.LFE_AGC_SAT_REL_COUNT p).key ∉ l.map Field.key := fun m => by
  have hkey := satCount_key p hp
  have := h _ m
  omega

/-- A field outside the front ends' blocks that neither a trigger nor a record writes is none of a saturation release. -/
theorem notMem_satFields (band p : Nat) (hp : p < 4) (f : Field) (hf : f.key < 3145728 ∨ 3276800 ≤ f.key)
    (h : f.key ∉ (captureFields ++ recordFields).map Field.key) : f.key ∉ (satFields band p).map Field.key := by
  have hcount := satCount_key p hp
  have hsat : 3145728 ≤ (satField band p).key ∧ (satField band p).key < 3276800 := by
    obtain h | h := satField_eq band p <;> rw [h] <;>
      simp only [R.LFE_TROUBLE_AGC_SAT_REL_H, R.LFE_TROUBLE_AGC_SAT_REL_L] <;> omega
  simp only [List.map_append, List.mem_append, not_or] at h
  simp only [satFields, List.map_append, List.map_cons, List.map_nil, List.mem_append, List.mem_cons, List.not_mem_nil, or_false, not_or]
  exact ⟨⟨⟨by omega, by omega⟩, h.1⟩, h.2⟩

theorem satCount_ne_summary (p : Nat) (hp : p < 4) : (R.LFE_AGC_SAT_REL_COUNT p).key ≠ R.TRB_SUMMARY.key := by
  have hkey := satCount_key p hp
  simp only [R.TRB_SUMMARY]; omega

section
variable (b : Block) (band p : Nat)

theorem Block.noteSaturation_sameRx : b.SameRx (b.noteSaturation band p) :=
  (((b.keeps_bump (R.LFE_AGC_SAT_REL_COUNT p) [R.LFE_AGC_SAT_REL_COUNT p] [] (by simp)).sameRx (by simp)).trans
    ((Block.keeps_stick _ _ _).sameRx (by simp))).trans (Block.captureTrigger_sameRx _ 5)

theorem Block.keeps_noteSaturation : b.Keeps (b.noteSaturation band p) (satFields band p) [.phy, .records] :=
  ((b.keeps_bump _ _ _ (by simp [satFields])).trans ((Block.keeps_stick _ (satField band p) 0).widen _ _
    (fun x hx => by simp only [satFields, List.mem_append, List.mem_cons] at hx ⊢; tauto) (by simp))).trans
    ((Block.keeps_captureTrigger _ 5).widen _ _ (fun x hx => by simp only [satFields, List.mem_append]; tauto) (by simp))

theorem Block.noteSaturation_count (hp : p < 4) : (b.noteSaturation band p).get (R.LFE_AGC_SAT_REL_COUNT p) =
    (b.get (R.LFE_AGC_SAT_REL_COUNT p) + 1) % 2 ^ (R.LFE_AGC_SAT_REL_COUNT p).width := by
  rw [Block.noteSaturation, (Block.keeps_captureTrigger _ 5).1 _ (satCount_notMem p hp _ (by decide)) (satCount_ne_summary p hp),
    Block.stick_get _ _ _ _ (satCount_ne_satField band p) (satCount_notMem p hp _ (by decide)) (satCount_ne_summary p hp),
    Block.bump_get]

/-- A saturation release: what is counted, the aborts, and the release of the AGC itself. -/
theorem Block.saturationRelease_due (n : Nat) (hf : b.frozen band p = true) (hn : max 1 (b.satLimit band p) ≤ n) :
    b.saturationRelease band p n = ((b.noteSaturation band p).forEach (b.heldBy band p) Block.abortSaturated).unfreeze band [p] := by
  have hrx := (b.noteSaturation_sameRx band p).rx
  have hheld : (b.noteSaturation band p).heldBy band p = b.heldBy band p := by rw [Block.heldBy, Block.heldBy, hrx]
  rw [← hheld, Block.saturationRelease, if_pos ⟨hf, hn⟩]
  rfl

theorem Block.saturationRelease_idle (n : Nat) (h : b.frozen band p = false ∨ n < max 1 (b.satLimit band p)) :
    b.saturationRelease band p n = b := by
  refine if_neg ?_
  rintro ⟨hf, hn⟩
  obtain h | h := h
  · rw [h] at hf; cases hf
  · omega

end

section
variable {s : State} {band p : Nat}

theorem agcSaturationRelease_aborts (n : Nat) (r : Reception) (hrun : s.blk.running = true) (hp : p < 4)
    (hf : s.blk.frozen band p = true) (hn : max 1 (s.blk.satLimit band p) ≤ n) (hports : ∀ q ∈ r.ports, q < 4)
    (hheld : s.blk.heldBy band p = [r]) :
    ∃ t, exec (.agcSaturationRelease band ⟨p, n⟩) s = .next t ∧ t.blk.phy.rx = s.blk.phy.rx.erase r ∧
      t.blk.get (frozenField band p) = 0 ∧
      t.blk.get (R.LFE_AGC_SAT_REL_COUNT p) = (s.blk.get (R.LFE_AGC_SAT_REL_COUNT p) + 1) % 2 ^ (R.LFE_AGC_SAT_REL_COUNT p).width ∧
      t.blk.get R.PHY_ABORT_OTHER_COUNT = (s.blk.get R.PHY_ABORT_OTHER_COUNT + 1) % 2 ^ R.PHY_ABORT_OTHER_COUNT.width ∧
      t.blk.get R.PHY_RX_TROUBLE_ABORT_SAT = 1 ∧ t.otp = s.otp ∧ t.pending = s.pending := by
  have e : s.blk.saturationRelease band p n = ((s.blk.noteSaturation band p).abortSaturated r).unfreeze band [p] := by
    rw [s.blk.saturationRelease_due band p n hf hn, hheld]; rfl
  have hrx : (s.blk.noteSaturation band p).phy.rx = s.blk.phy.rx := (s.blk.noteSaturation_sameRx band p).rx
  have hcount := s.blk.noteSaturation_count band p hp
  have hother : (s.blk.noteSaturation band p).get R.PHY_ABORT_OTHER_COUNT = s.blk.get R.PHY_ABORT_OTHER_COUNT :=
    (s.blk.keeps_noteSaturation band p).1 _ (notMem_satFields band p hp _ (by decide) (by decide)) (by decide)
  generalize s.blk.noteSaturation band p = b at e hrx hcount hother
  have hrelease := (b.abortSaturated r).keeps_unfreeze band [p] []
  have hports1 : ∀ q ∈ [p], q < 4 := by simpa using hp
  have habort (f : Field) (h : f.key < 3145728 ∨ 3276800 ≤ f.key) (hs : f.key ≠ R.TRB_SUMMARY.key) :
      ((b.abortSaturated r).unfreeze band [p]).get f = (b.abortSaturated r).get f :=
    hrelease.1 f (notMem_frozenFields f band [p] hports1 h) hs
  refine ⟨_, congrArg Host.Outcome.next (s.runOn_eq _ _ hrun e), ?_, ?_, ?_, ?_, ?_, rfl, rfl⟩
  · exact (s.run_sameRx ((b.abortCounted_sameRx r _ _).trans (hrelease.sameRx (by simp)))).rx.trans (congrArg (List.erase · r) hrx)
  · rw [State.run_get s _ _ (frozenField_ne_summary band p hp)]
    exact Block.unfreeze_get_zero _ _ _ _ (.inl List.mem_cons_self)
  · have hkeep : (b.abortReception r).get (R.LFE_AGC_SAT_REL_COUNT p) = b.get (R.LFE_AGC_SAT_REL_COUNT p) := by
      refine (b.keeps_abortReception r).1 _ ?_ (satCount_ne_summary p hp)
      simp only [abortFields, List.map_append, List.mem_append, not_or]
      refine ⟨⟨satCount_notMem p hp _ (by decide), ?_⟩, satCount_notMem p hp _ (by decide)⟩
      simp only [List.mem_map, not_exists, not_and]
      rintro _ ⟨q, -, rfl⟩ h
      exact satCount_ne_frozenField _ _ _ h.symm
    rw [State.run_get s _ _ (satCount_ne_summary p hp), hrelease.1 _ (by simpa using satCount_ne_frozenField band p p)
      (satCount_ne_summary p hp), ← hcount, ← hkeep]
    exact (Block.keeps_count _ _ _).1 _ (satCount_notMem p hp _ (by decide)) (satCount_ne_summary p hp)
  · rw [State.run_get s _ _ (by decide), habort _ (by decide) (by decide), ← hother]
    exact abortCause_saturation.count_get b r hports
  · rw [State.run_get s _ _ (by decide), habort _ (by decide) (by decide)]
    exact abortCause_saturation.sticky_get _

theorem agcSaturationRelease_releases (n : Nat) (hrun : s.blk.running = true) (hp : p < 4)
    (hf : s.blk.frozen band p = true) (hn : max 1 (s.blk.satLimit band p) ≤ n) (hheld : s.blk.heldBy band p = []) :
    ∃ t, exec (.agcSaturationRelease band ⟨p, n⟩) s = .next t ∧ t.blk.get (frozenField band p) = 0 ∧
      t.blk.get (R.LFE_AGC_SAT_REL_COUNT p) = (s.blk.get (R.LFE_AGC_SAT_REL_COUNT p) + 1) % 2 ^ (R.LFE_AGC_SAT_REL_COUNT p).width ∧
      s.Keeps t ([R.LFE_AGC_SAT_REL_COUNT p, R.LFE_TROUBLE_AGC_SAT_REL_H p, R.LFE_TROUBLE_AGC_SAT_REL_L p, frozenField band p] ++
        captureFields ++ recordFields) [.phy, .records] := by
  have e : s.blk.saturationRelease band p n = (s.blk.noteSaturation band p).unfreeze band [p] := by
    rw [s.blk.saturationRelease_due band p n hf hn, hheld]; rfl
  have hrelease := (s.blk.noteSaturation band p).keeps_unfreeze band [p] [.phy, .records]
  refine ⟨_, congrArg Host.Outcome.next (s.runOn_eq _ _ hrun e), ?_, ?_, State.keeps_run s _ _ _ ?_⟩
  · rw [State.run_get s _ _ (frozenField_ne_summary band p hp)]
    exact Block.unfreeze_get_zero _ _ _ _ (.inl List.mem_cons_self)
  · rw [State.run_get s _ _ (satCount_ne_summary p hp), hrelease.1 _ (by simpa using satCount_ne_frozenField band p p)
      (satCount_ne_summary p hp)]
    exact s.blk.noteSaturation_count band p hp
  · refine ((s.blk.keeps_noteSaturation band p).widen _ _ (fun x hx => ?_) (List.Subset.refl _)).trans
      (hrelease.widen _ _ (by simp) (List.Subset.refl _))
    have hsat := satField_eq band p
    simp only [satFields, List.mem_append, List.mem_cons, List.not_mem_nil, or_false] at hx ⊢
    obtain h | h := hsat <;> rw [h] at hx <;> tauto

/-! ERASURE_ABORT. -/

theorem erasureAbort_marks (k erased : Nat) (code : Nat × Nat) (r : Reception) (hrun : s.blk.running = true)
    (hr : (s.blk.receptionAt band p 1 code).or (s.blk.receptionAt band p 2 code) = some r) (hk : s.blk.tooErased r k erased = true) :
    ∃ t, exec (.erasureAbort ⟨band, p, code⟩ ⟨k, erased⟩) s = .next t ∧
      t.blk.phy.rx = s.blk.phy.rx.replace r { r with erased := true } ∧ s.Keeps t [] [.phy] := by
  have e : s.blk.erasureAbort band p code k erased = s.blk.setReception r { r with erased := true } := by
    simp [Block.erasureAbort, hr, hk]
  exact ⟨_, congrArg Host.Outcome.next (s.runOn_eq _ _ hrun e), (Block.updateAlert_sameRx _).rx,
    State.keeps_run s _ _ _ (s.blk.keeps_phy _ _ _ (by simp))⟩

theorem erasureAbort_within (k erased : Nat) (code : Nat × Nat) (r : Reception)
    (hr : (s.blk.receptionAt band p 1 code).or (s.blk.receptionAt band p 2 code) = some r) (hk : s.blk.tooErased r k erased = false) :
    ∃ t, exec (.erasureAbort ⟨band, p, code⟩ ⟨k, erased⟩) s = .next t ∧ s.Keeps t [] [] :=
  s.runOn_unchanged _ (by simp [Block.erasureAbort, hr, hk])

/-- RX_FRAME_END of a reception that an erasure has marked in this tick (R193, R195). -/
theorem rxFrameEnd_erased (code : Nat × Nat) (rep : RxReport) (r : Reception) (hrun : s.blk.running = true)
    (hr : s.blk.receptionAt band p 2 code = some r) (he : r.erased = true) (ht : r.hdr.ftype ≠ 4) (hports : ∀ q ∈ r.ports, q < 4) :
    ∃ t, exec (.rxFrameEnd band p ⟨code, rep⟩) s = .next t ∧ t.blk.phy.rx = s.blk.phy.rx.erase r ∧
      t.blk.phy.delivered = s.blk.phy.delivered ∧
      t.blk.get R.PHY_ABORT_ERASE_COUNT = (s.blk.get R.PHY_ABORT_ERASE_COUNT + 1) % 2 ^ R.PHY_ABORT_ERASE_COUNT.width ∧
      t.blk.get R.PHY_RX_TROUBLE_ABORT_ERASE = 1 ∧
      s.Keeps t ([R.PHY_ABORT_ERASE_COUNT, R.PHY_RX_TROUBLE_ABORT_ERASE] ++ captureFields ++ r.ports.map (frozenField band) ++
        recordFields) [.phy, .records] := by
  have hband := Block.receptionAt_band hr
  have hstage := Block.receptionAt_stage hr
  have e : s.blk.rxFrameEnd band p code rep = s.blk.abortErased r := by
    simp [Block.rxFrameEnd, hr, hstage, he]
  subst hband
  have hrx := s.run_sameRx (s.blk.abortCounted_sameRx r R.PHY_ABORT_ERASE_COUNT R.PHY_RX_TROUBLE_ABORT_ERASE)
  refine ⟨_, congrArg Host.Outcome.next (s.runOn_eq _ _ hrun e), hrx.rx, hrx.delivered, ?_, ?_, State.keeps_run s _ _ _ ?_⟩
  · exact (State.run_get s _ _ (by decide)).trans (abortCause_erasure.count_get s.blk r hports)
  · exact (State.run_get s _ _ (by decide)).trans (abortCause_erasure.sticky_get _)
  · exact s.blk.keeps_abortCounted r _ _ fun h => ht h.2

end

end Sys2Proof.Machine
end

section
/-! The verdict on a transmission (R175, R190–R197), in its steps, and the settlement of `Obligations.ReceptionStartToEnd`. -/

namespace Sys2Proof.Machine

/-! The steps of a verdict. -/

/-- The reception is over; its AGCs are released where its last chip was received (R135). -/
def Block.closeReception (b : Block) (rx : Reception) : Block := if rx.stage = 3 then b.dropReception rx else b.endReception rx

/-- The blocks that did not converge and each frame's verdict are counted (R194). -/
def Block.countFrames (b : Block) (l : List (RxPart × Decoded)) : Block :=
  (b.add R.PHY_BLOCK_FAIL_COUNT (l.map (fun e => e.2.fails)).sum).forEach (l.map Prod.fst)
    (fun b x => if x.ok then b.bump R.PHY_FRAMES_OK_COUNT else b.bump R.PHY_PAYLOAD_CRC_FAIL_COUNT)

/-- The frame's figures enter its sender's record (R197, R205). -/
def Block.noteQuality (b : Block) (band : Nat) (rx : Reception) (r : RxReport) (l : List (RxPart × Decoded)) : List Rat × Block :=
  let h := rx.hdr
  let (snrs, b) := b.frameSnrs r.sums [0, 1, 2, 3]
  (snrs, b.linkQuality h.src band snrs (l.map (fun e => e.2.fails)).sum
    (1 + ((l.map Prod.fst).map (fun x => payloadBlocks (modeRate h.mode) x.len)).sum)
    ((l.map (fun e => e.2.eps)).foldl max rx.eps) (if h.ftype = 1 then some h.mode else none))

/-- The measurement of a TIMING frame, or its being withheld (R196, R227, R228). -/
def Block.noteTime (b : Block) (band p : Nat) (h : Header) (r : RxReport) (cause : Nat) : RxTime × Block :=
  let b := if h.ftype = 4 ∧ cause ≠ 0 then b.timingWithheld band p h.src cause else b
  let withheld := decide (h.ftype = 4 ∧ cause ≠ 0) || b.fabric.timeInvalid
  let (time, b) := if withheld then ({}, b) else b.firstPath (modeProfile h.mode) r
  (time, if h.ftype = 4 ∧ withheld = false ∧ time.stamp.isNone then b.count R.TIM_FP_FAIL_COUNT R.TIM_TROUBLE_FP_FAIL else b)

/-- The frames behind the first one that is not good are dropped, and counted (R175). -/
def Block.countDropped (b : Block) (h : Header) (parts : List RxPart) : Block :=
  if h.ftype = 1 ∧ (parts.takeWhile (fun x => x.ok)).length < parts.length then
    b.add R.MAC_ORDER_DROP_COUNT (parts.length - (parts.takeWhile (fun x => x.ok)).length - 1)
  else b

/-- A transmission is handed on. -/
def Block.deliver (b : Block) (d : Delivered) : Block := { b with phy := { b.phy with delivered := b.phy.delivered ++ [d] } }

/-- The block with everything counted and measured, and what is handed on of the transmission where a frame stands. -/
def Block.judged (b : Block) (band p : Nat) (rx : Reception) (r : RxReport) (l : List (RxPart × Decoded)) : Block × Delivered :=
  let c := b.equalise rx (modeExp rx.hdr.mode) r.steps
  let cause := c.withheldCause rx ((l.map Prod.fst).all (fun x => x.ok)) r
  let q := ((c.closeReception rx).countFrames l).noteQuality band rx r l
  let t := q.2.noteTime band p rx.hdr r cause
  let d := t.2.countDropped rx.hdr (l.map Prod.fst)
  (d, { port := p, band := band, hdr := rx.hdr, parts := (l.map Prod.fst).takeWhile (fun x => x.ok)
        snr := (((lowest q.1).getD 0) * 256).floor, time := t.1, tick := d.tick })

theorem Block.verdict_eq (b : Block) (band p : Nat) (rx : Reception) (r : RxReport) (l : List (RxPart × Decoded)) :
    b.verdict band p rx r l =
      if ((l.map Prod.fst).takeWhile (fun x => x.ok)).isEmpty then (b.judged band p rx r l).1
      else (b.judged band p rx r l).1.deliver (b.judged band p rx r l).2 := rfl

/-! What each step leaves of the receptions, and of the count of failed blocks. -/

/-- Beside `SameRx`, the count of failed blocks. -/
structure Block.SameVerdict (b c : Block) : Prop extends b.SameRx c where
  fails : c.get R.PHY_BLOCK_FAIL_COUNT = b.get R.PHY_BLOCK_FAIL_COUNT

theorem Block.SameVerdict.refl (b : Block) : b.SameVerdict b := ⟨.refl b, rfl⟩

theorem Block.SameVerdict.trans {b c d : Block} (h : b.SameVerdict c) (k : c.SameVerdict d) : b.SameVerdict d :=
  ⟨h.toSameRx.trans k.toSameRx, k.fails.trans h.fails⟩

theorem Block.Keeps.sameVerdict {b c : Block} {l : List Field} {ps : List Part} (h : b.Keeps c l ps) (hp : .phy ∉ ps)
    (hl : R.PHY_BLOCK_FAIL_COUNT.key ∉ l.map Field.key) : b.SameVerdict c := ⟨h.sameRx hp, h.1 _ hl (by decide)⟩

theorem Block.equalise_sameVerdict (b : Block) (r : Reception) (exp : Nat) (l : List EqStep) : b.SameVerdict (b.equalise r exp l) := by
  unfold Block.equalise
  split
  · exact .refl b
  · exact ⟨⟨rfl, rfl⟩, rfl⟩

theorem Block.closeReception_sameVerdict (b : Block) (rx : Reception) (hports : ∀ q ∈ rx.ports, q < 4) :
    (b.dropReception rx).SameVerdict (b.closeReception rx) := by
  have hrelease : (b.dropReception rx).SameVerdict ((b.dropReception rx).releaseAgc rx.band rx.ports) :=
    (Block.keeps_releaseAgc _ _ _ []).sameVerdict (by simp) (notMem_frozenFields _ _ _ hports (by decide))
  unfold Block.closeReception
  split
  · exact .refl _
  · change (b.dropReception rx).SameVerdict (if rx.held then b.dropReception rx else _)
    split
    · exact .refl _
    · exact hrelease

theorem Block.countFrames_sameVerdict (b : Block) (l : List (RxPart × Decoded)) :
    (b.add R.PHY_BLOCK_FAIL_COUNT (l.map (fun e => e.2.fails)).sum).SameVerdict (b.countFrames l) :=
  (Block.keeps_forEach _ _ _ [R.PHY_FRAMES_OK_COUNT, R.PHY_PAYLOAD_CRC_FAIL_COUNT] [] fun c _ _ =>
    Block.keeps_ite (c.keeps_bump _ _ _ (by simp)) (c.keeps_bump _ _ _ (by simp))).sameVerdict (by simp) (by decide)

theorem Block.keeps_streamSnr (b : Block) (l : List SnrSum) : b.Keeps (b.streamSnr l).2 [] [.freeCtr] := by
  unfold Block.streamSnr
  dsimp only
  split
  · exact b.keeps_freeCtr _ _ _ (by simp)
  · exact Block.Keeps.refl b _ _

theorem Block.keeps_frameSnrs (b : Block) (l : List SnrSum) (streams : List Nat) :
    b.Keeps (b.frameSnrs l streams).2 [] [.freeCtr] := by
  induction streams generalizing b with
  | nil => exact Block.Keeps.refl b _ _
  | cons s rest ih =>
    unfold Block.frameSnrs
    dsimp only
    split
    · exact ih b
    · exact (b.keeps_streamSnr _).trans (ih _)

theorem Block.modLink_sameVerdict (b : Block) (a band : Nat) (f : LinkRec → LinkRec) : b.SameVerdict (b.modLink a band f) := by
  unfold Block.modLink
  split
  · exact ⟨⟨rfl, rfl⟩, rfl⟩
  · exact .refl b

theorem Block.noteQuality_sameVerdict (b : Block) (band : Nat) (rx : Reception) (r : RxReport) (l : List (RxPart × Decoded)) :
    b.SameVerdict (b.noteQuality band rx r l).2 :=
  ((b.keeps_frameSnrs r.sums [0, 1, 2, 3]).sameVerdict (by simp) (by simp)).trans (Block.modLink_sameVerdict _ _ _ _)

theorem Block.keeps_firstPath (b : Block) (profile : Nat) (r : RxReport) : b.Keeps (b.firstPath profile r).2 [] [.freeCtr] := by
  unfold Block.firstPath
  dsimp only
  split
  · exact b.keeps_openRound _ _ _ (by simp)
  · exact Block.Keeps.refl b _ _

theorem Block.noteTime_sameVerdict (b : Block) (band p : Nat) (h : Header) (r : RxReport) (cause : Nat) :
    b.SameVerdict (b.noteTime band p h r cause).2 := by
  have hwithheld : b.SameVerdict (if h.ftype = 4 ∧ cause ≠ 0 then b.timingWithheld band p h.src cause else b) :=
    (Block.keeps_when (b.keeps_timingWithheld _ _ _ _)).sameVerdict (by simp) (by decide)
  have hpath (c : Block) (w : Bool) : c.SameVerdict (if w then ({}, c) else c.firstPath (modeProfile h.mode) r : RxTime × Block).2 := by
    cases w with
    | true => exact .refl c
    | false => exact (c.keeps_firstPath _ r).sameVerdict (by simp) (by simp)
  have hfail (c : Block) (k : Prop) [Decidable k] :
      c.SameVerdict (if k then c.count R.TIM_FP_FAIL_COUNT R.TIM_TROUBLE_FP_FAIL else c) :=
    (Block.keeps_when (c.keeps_count _ _)).sameVerdict (by simp) (by decide)
  exact (hwithheld.trans (hpath _ _)).trans (hfail _ _)

theorem Block.countDropped_sameVerdict (b : Block) (h : Header) (parts : List RxPart) : b.SameVerdict (b.countDropped h parts) :=
  (Block.keeps_when (b.keeps_set R.MAC_ORDER_DROP_COUNT _ [R.MAC_ORDER_DROP_COUNT] [] (by simp))).sameVerdict (by simp) (by decide)

/-- A verdict ends its reception and adds up the failed blocks; nothing else that it counts or measures touches either. -/
theorem Block.judged_sameVerdict (b : Block) (band p : Nat) (rx : Reception) (r : RxReport) (l : List (RxPart × Decoded))
    (hports : ∀ q ∈ rx.ports, q < 4) :
    ((b.dropReception rx).add R.PHY_BLOCK_FAIL_COUNT (l.map (fun e => e.2.fails)).sum).SameVerdict (b.judged band p rx r l).1 := by
  have hclosed : (b.dropReception rx).SameVerdict ((b.equalise rx (modeExp rx.hdr.mode) r.steps).closeReception rx) := by
    have heq := b.equalise_sameVerdict rx (modeExp rx.hdr.mode) r.steps
    have hdrop : (b.dropReception rx).SameVerdict ((b.equalise rx (modeExp rx.hdr.mode) r.steps).dropReception rx) :=
      ⟨⟨congrArg (List.erase · rx) heq.rx, heq.delivered⟩, heq.fails⟩
    exact hdrop.trans (Block.closeReception_sameVerdict _ rx hports)
  have hadd {c d : Block} (h : c.SameVerdict d) (n : Nat) :
      (c.add R.PHY_BLOCK_FAIL_COUNT n).SameVerdict (d.add R.PHY_BLOCK_FAIL_COUNT n) :=
    ⟨⟨h.rx, h.delivered⟩, by rw [Block.add_eq, Block.add_eq, Block.get_set_self, Block.get_set_self, h.fails]⟩
  exact ((((hadd hclosed _).trans (Block.countFrames_sameVerdict _ l)).trans (Block.noteQuality_sameVerdict _ band rx r l)).trans
    (Block.noteTime_sameVerdict _ band p rx.hdr r _)).trans (Block.countDropped_sameVerdict _ rx.hdr _)

/-! RX_FRAME_END without an abort (R175, R192–R194). -/

/-- A reception whose end is in time for a verdict: its train ended early, or no block has too many erased positions. -/
def Block.Judgeable (b : Block) (r : Reception) (l : List (RxPart × Decoded)) : Prop :=
  r.stage = 3 ∨ r.erased = false ∧ l.any (b.frameErased r.hdr) = false

section
variable {s : State} {band p : Nat} {code : Nat × Nat} {rep : RxReport} {r : Reception} {l : List (RxPart × Decoded)}

theorem Block.rxFrameEnd_judges (b : Block) (hr : (b.receptionAt band p 2 code).or (b.receptionAt band p 3 code) = some r)
    (hl : l = b.decodeReception r rep.bits) (h : b.Judgeable r l) : b.rxFrameEnd band p code rep = b.verdict band p r rep l := by
  subst hl
  simp only [Block.rxFrameEnd, hr]
  refine if_neg ?_
  rintro ⟨h2, he⟩
  obtain h3 | ⟨hm, hx⟩ := h
  · omega
  · obtain he | he := he
    · rw [hm] at he; cases he
    · rw [hx] at he; cases he

variable (hrun : s.blk.running = true)
  (hr : (s.blk.receptionAt band p 2 code).or (s.blk.receptionAt band p 3 code) = some r) (hports : ∀ q ∈ r.ports, q < 4)
  (hl : l = s.blk.decodeReception r rep.bits) (h : s.blk.Judgeable r l)
include hrun hr hports hl h

theorem rxFrameEnd_delivers (hok : l.head?.map (fun e => e.1.ok) = some true) :
    ∃ t d, exec (.rxFrameEnd band p ⟨code, rep⟩) s = .next t ∧ t.blk.phy.rx = s.blk.phy.rx.erase r ∧
      t.blk.phy.delivered = s.blk.phy.delivered ++ [d] ∧ d.hdr = r.hdr ∧ d.band = band ∧ d.port = p ∧
      d.parts = (l.map Prod.fst).takeWhile (fun x => x.ok) ∧
      t.blk.get R.PHY_BLOCK_FAIL_COUNT =
        (s.blk.get R.PHY_BLOCK_FAIL_COUNT + (l.map (fun e => e.2.fails)).sum) % 2 ^ R.PHY_BLOCK_FAIL_COUNT.width ∧
      t.otp = s.otp ∧ t.pending = s.pending := by
  have hgood : ((l.map Prod.fst).takeWhile (fun x => x.ok)).isEmpty = false := by
    cases l with
    | nil => simp at hok
    | cons e es =>
      simp only [List.head?_cons, Option.map_some, Option.some.injEq] at hok
      simp [hok]
  have e := (s.blk.rxFrameEnd_judges hr hl h).trans
    ((s.blk.verdict_eq band p r rep l).trans (if_neg (by rw [hgood]; exact Bool.false_ne_true)))
  have hj := s.blk.judged_sameVerdict band p r rep l hports
  have hout := s.run_sameRx (Block.SameRx.refl ((s.blk.judged band p r rep l).1.deliver (s.blk.judged band p r rep l).2))
  refine ⟨_, (s.blk.judged band p r rep l).2, congrArg Host.Outcome.next (s.runOn_eq _ _ hrun e), hout.rx.trans hj.rx,
    hout.delivered.trans ?_, rfl, rfl, rfl, rfl, ?_, rfl, rfl⟩
  · exact congrArg (· ++ [(s.blk.judged band p r rep l).2]) hj.delivered
  · exact (State.run_get s _ _ (by decide)).trans (hj.fails.trans (Block.get_set_self _ _ _))

theorem rxFrameEnd_withholds (hok : l.head?.map (fun e => e.1.ok) = some false) :
    ∃ t, exec (.rxFrameEnd band p ⟨code, rep⟩) s = .next t ∧ t.blk.phy.rx = s.blk.phy.rx.erase r ∧
      t.blk.phy.delivered = s.blk.phy.delivered ∧ t.otp = s.otp ∧ t.pending = s.pending := by
  have hgood : ((l.map Prod.fst).takeWhile (fun x => x.ok)).isEmpty = true := by
    cases l with
    | nil => rfl
    | cons e es =>
      simp only [List.head?_cons, Option.map_some, Option.some.injEq] at hok
      simp [hok]
  have e := (s.blk.rxFrameEnd_judges hr hl h).trans ((s.blk.verdict_eq band p r rep l).trans (if_pos hgood))
  have hout := s.run_sameRx (s.blk.judged_sameVerdict band p r rep l hports).toSameRx
  exact ⟨_, congrArg Host.Outcome.next (s.runOn_eq _ _ hrun e), hout.rx, hout.delivered, rfl, rfl⟩

end

/-- Settles O22: one lemma for each clause, from the declaration to the verdict. -/
theorem receptionStartToEnd : Obligations.ReceptionStartToEnd :=
  ⟨fun s band p code window ports collect hrun hrec hlis hp hports hslot hfree hnew hpass =>
      preambleDeclare_starts s band p code window ports collect hrun hp hports ⟨hrec, hlis, hslot, hfree, hnew, hpass⟩,
    fun s band p code window ports h => s.runOn_unchanged _ (s.blk.declare_idle band p code window ports h),
    fun _ _ _ _ reps start _ hrun hr hfound hlen hlast => syncFound_fixes reps start hrun hr hfound hlen hlast,
    fun _ _ _ _ reps _ hrun hr hlen hnone hports => syncSearchTimeout_releases reps hrun hr hlen hnone hports,
    fun _ _ _ n r hrun hp hf hn hports hheld => agcSaturationRelease_aborts n r hrun hp hf hn hports hheld,
    fun _ _ _ n hrun hp hf hn hheld => agcSaturationRelease_releases n hrun hp hf hn hheld,
    fun s band p n h => s.runOn_unchanged _ (s.blk.saturationRelease_idle band p n h),
    fun _ _ _ k erased code r hrun hr hk => erasureAbort_marks k erased code r hrun hr hk,
    fun _ _ _ k erased code r hr hk => erasureAbort_within k erased code r hr hk,
    fun _ _ _ code rep r hrun hr he ht hports => rxFrameEnd_erased code rep r hrun hr he ht hports,
    fun _ _ _ _ _ _ _ hrun hr hports hl h hok => rxFrameEnd_delivers hrun hr hports hl h hok,
    fun _ _ _ _ _ _ _ hrun hr hports hl h hok => rxFrameEnd_withholds hrun hr hports hl h hok⟩

end Sys2Proof.Machine
end

section
/-! Spur tracking (R141–R143): what the registers that follow the filters change, and a crossing in each state of a phase. -/

namespace Sys2Proof.Machine

/-! The registers follow the filters (R143). -/

theorem Block.keeps_quot (b : Block) (n d : Nat) : b.Keeps (b.quot n d).2 [] [.freeCtr] := by
  unfold Block.quot
  split
  · exact b.keeps_freeCtr _ _ _ (by simp)
  · split
    · exact Block.Keeps.refl b _ _
    · exact b.keeps_freeCtr _ _ _ (by simp)

theorem Block.keeps_showPhase (b : Block) (k : Nat) (f present : Field) : b.Keeps (b.showPhase k f present) [f] [.freeCtr] :=
  Block.keeps_ite (((b.keeps_quot _ _).widen _ _ (by simp) (by simp)).trans (Block.keeps_set _ _ _ _ _ (by simp)))
    (b.keeps_set _ _ _ _ (by simp))

theorem Block.keeps_showPhases (b : Block) : b.Keeps b.showPhases [R.SPR_PHASE_L2, R.SPR_PHASE_L3] [.freeCtr] :=
  ((b.keeps_showPhase _ _ _).widen _ _ (by simp) (by simp)).trans ((Block.keeps_showPhase _ _ _ _).widen _ _ (by simp) (by simp))

/-- The fields that show L1's tracking (R143). -/
def lockFields : List Field := [R.SPR_STAT_LOCKED, R.SPR_FREQ, R.SPR_PERIOD, R.SPR_TROUBLE_FREQ_OUT] ++ recordFields

/-- The fields that show phase `k`. -/
def showFields (k : Nat) : List Field := [R.SPR_ZC_NS k, R.SPR_ZC_SEC k, R.SPR_PHASE_L2, R.SPR_PHASE_L3] ++ lockFields

/-- The frequency and the period of L1. -/
def Block.showFreq (b : Block) (p : SpurPhase) : Block :=
  let (f, b) := b.quot (1000000000000 * 65536) p.t.toNat
  let (t, b) := b.quot p.t.toNat 65536
  (b.set R.SPR_FREQ f).set R.SPR_PERIOD t

/-- LOCKED, and while L1 tracks its frequency, its period and FREQ_OUT. -/
def Block.showLock (b : Block) (p : SpurPhase) : Block :=
  let b := b.setFlag R.SPR_STAT_LOCKED (p.acq == 2 && decide (16 ≤ p.good))
  if p.acq = 2 then
    let b := b.showFreq p
    if 1000000000 * 65536 < p.t * 45 ∨ p.t * 66 < 1000000000 * 65536 then b.stick R.SPR_TROUBLE_FREQ_OUT else b
  else b

theorem Block.showSpur_eq (b : Block) (k : Nat) :
    b.showSpur k = (if k = 0 then (b.showZc k).showLock (b.phase k) else b.showZc k).showPhases := rfl

theorem Block.keeps_showFreq (b : Block) (p : SpurPhase) : b.Keeps (b.showFreq p) [R.SPR_FREQ, R.SPR_PERIOD] [.freeCtr] := by
  have hfreq := b.keeps_quot (1000000000000 * 65536) p.t.toNat
  unfold Block.showFreq
  generalize b.quot (1000000000000 * 65536) p.t.toNat = first at hfreq ⊢
  obtain ⟨f, c⟩ := first
  dsimp only at hfreq ⊢
  have hperiod := c.keeps_quot p.t.toNat 65536
  generalize c.quot p.t.toNat 65536 = second at hperiod ⊢
  obtain ⟨t, d⟩ := second
  have hquot : b.Keeps d [R.SPR_FREQ, R.SPR_PERIOD] [.freeCtr] := (hfreq.trans hperiod).widen _ _ (by simp) (by simp)
  exact (hquot.trans (Block.keeps_set _ _ _ _ _ (by simp))).trans (Block.keeps_set _ _ _ _ _ (by simp))

theorem Block.keeps_showLock (b : Block) (p : SpurPhase) : b.Keeps (b.showLock p) lockFields [.freeCtr, .records] := by
  have hlocked : b.Keeps (b.setFlag R.SPR_STAT_LOCKED (p.acq == 2 && decide (16 ≤ p.good))) lockFields [.freeCtr, .records] :=
    b.keeps_set _ _ _ _ (by decide)
  have hfreq (c : Block) : c.Keeps (c.showFreq p) lockFields [.freeCtr, .records] :=
    (c.keeps_showFreq p).widen _ _ (by decide) (by simp)
  have hstick (c : Block) : c.Keeps (c.stick R.SPR_TROUBLE_FREQ_OUT) lockFields [.freeCtr, .records] :=
    (c.keeps_stick _ 0).widen _ _ (by decide) (by simp)
  unfold Block.showLock
  dsimp only
  split
  · split
    · exact (hlocked.trans (hfreq _)).trans (hstick _)
    · exact hlocked.trans (hfreq _)
  · exact hlocked

theorem Block.keeps_showZc (b : Block) (k : Nat) : b.Keeps (b.showZc k) [R.SPR_ZC_NS k, R.SPR_ZC_SEC k] [] :=
  Block.keeps_when ((b.keeps_set _ _ _ _ (by simp)).trans (Block.keeps_set _ _ _ _ _ (by simp)))

theorem Block.keeps_showSpur (b : Block) (k : Nat) : b.Keeps (b.showSpur k) (showFields k) [.freeCtr, .records] := by
  have hzc : b.Keeps (b.showZc k) (showFields k) [.freeCtr, .records] := (b.keeps_showZc k).widen _ _ (by simp [showFields]) (by simp)
  have hlock (c : Block) (p : SpurPhase) : c.Keeps (c.showLock p) (showFields k) [.freeCtr, .records] :=
    (c.keeps_showLock p).widen _ _ (List.subset_append_right _ _) (List.Subset.refl _)
  rw [Block.showSpur_eq]
  exact (Block.keeps_ite (hzc.trans (hlock _ _)) hzc).trans ((Block.keeps_showPhases _).widen _ _ (by simp [showFields]) (by simp))

/-! A crossing enters the filter (R142). -/

theorem Block.phase_modPhase (b : Block) (k : Nat) (f : SpurPhase → SpurPhase) (hk : k < b.spur.phases.length) :
    (b.modPhase k f).phase k = f (b.phase k) := by
  simp [Block.phase, Block.modPhase, List.getD_eq_getElem?_getD, List.getElem?_modify_eq, List.getElem?_eq_getElem hk]

theorem Block.phase_eq_of_spur {b c : Block} (h : c.spur = b.spur) (k : Nat) : c.phase k = b.phase k := by
  rw [Block.phase, Block.phase, h]

section
variable (b : Block) (k : Nat) (m : Int)

/-- The first crossing starts acquisition. -/
theorem Block.spurUpdate_first (h : (b.phase k).acq = 0) :
    b.spurUpdate k m = b.modPhase k (fun p => { p with prev := m, acq := 1 }) := by
  simp [Block.spurUpdate, h]

/-- A second one within the period bounds starts tracking. -/
theorem Block.spurUpdate_second (h : (b.phase k).acq = 1) (hmin : minPeriod ≤ m - (b.phase k).prev)
    (hmax : m - (b.phase k).prev ≤ maxPeriod) : b.spurUpdate k m =
      b.modPhase k (fun p => { p with z := m, t := m - (b.phase k).prev, acq := 2, rejects := 0, good := 1 }) := by
  simp [Block.spurUpdate, h, hmin, hmax]

/-- The error of a crossing against the predicted one. -/
def Block.spurError : Int := m - ((b.phase k).z + (b.phase k).t)

theorem Block.spurUpdate_tracks (h : (b.phase k).acq = 2) (hmax : b.spurError k m ≤ 500000 * 65536)
    (hmin : -(500000 * 65536) ≤ b.spurError k m) : b.spurUpdate k m =
      b.modPhase k (fun p => { p with
        rejects := 0, z := (b.phase k).z + (b.phase k).t + b.spurError k m / 2 ^ b.get R.SPR_FILT_A
        t := p.t + b.spurError k m / 2 ^ b.get R.SPR_FILT_B, good := p.good + 1 }) := by
  unfold Block.spurUpdate
  dsimp only
  rw [if_neg (by omega)]
  exact if_neg (not_or.2 ⟨not_lt.2 hmax, not_lt.2 hmin⟩)

theorem Block.spurUpdate_rejects (h : (b.phase k).acq = 2)
    (he : b.spurError k m > 500000 * 65536 ∨ b.spurError k m < -(500000 * 65536)) (hr : (b.phase k).rejects < 3) :
    b.spurUpdate k m = b.rejectCrossing.modPhase k (fun p => { p with
      rejects := p.rejects + 1, z := (b.phase k).z + (b.phase k).t }) := by
  unfold Block.spurUpdate
  dsimp only
  rw [if_neg (by omega)]
  exact (if_pos he).trans (if_pos (by omega))

end

end Sys2Proof.Machine
end

section
/-! SPUR_CROSSING (R47, R141–R143), NPP_SWAP (R145, R146) and SPR_NPP_CTRL (R150). -/

namespace Sys2Proof.Machine

/-! What a crossing changes beside the filter. -/

/-- The block after a crossing of phase `k` at `m`: the filter, the registers that follow it, and at the coordinator the grid. -/
def Block.takeCrossing (b : Block) (k : Nat) (m : Int) (before : SpurPhase) : Block :=
  if k = 0 ∧ b.role = 0 ∧ 3 ≤ b.mode ∧ b.mode ≠ 9 then (spurCrossing k m b).noteCrossing before else spurCrossing k m b

theorem Block.crossing_takes (b : Block) (k : Nat) (volts : List Int) (mid time : Nat) (z : Rat) (hk : k < 3)
    (hrun : b.running = true) (hc : isCrossing volts mid = true) (hz : fitZero volts mid = some z) :
    b.crossing k volts mid time =
      (b.crossingTime time z).2.takeCrossing k (b.crossingTime time z).1 (b.phase 0) := by
  simp only [Block.running, decide_eq_true_eq] at hrun
  unfold Block.crossing
  rw [if_neg, hz]
  · rfl
  · rintro (h | h | h | h)
    · omega
    · omega
    · exact hrun.2 h
    · rw [hc] at h; cases h

theorem Block.crossing_idle (b : Block) (k : Nat) (volts : List Int) (mid time : Nat) (h : isCrossing volts mid = false) :
    b.crossing k volts mid time = b := if_pos (.inr (.inr (.inr h)))

theorem Block.keeps_crossingTime (b : Block) (time : Nat) (z : Rat) : b.Keeps (b.crossingTime time z).2 [] [.freeCtr] :=
  b.keeps_openRound _ _ _ (by simp)

/-- A change of a phase's filter or of the accumulation's length leaves the registers. -/
theorem Block.noteCrossing_eq (b : Block) (before : SpurPhase) :
    ∃ v w : Nat, b.noteCrossing before = b.setGrid { b.grid with valid := v } ∨
      b.noteCrossing before = (b.setGrid { b.grid with valid := w }).gridFree := by
  unfold Block.noteCrossing
  dsimp only
  split
  · exact ⟨_, 0, .inl rfl⟩
  · split
    · exact ⟨0, 0, .inr rfl⟩
    · exact ⟨0, 0, .inl rfl⟩

theorem Block.keeps_gridFree (b : Block) : b.Keeps b.gridFree [R.GLB_GRID_GRID_FREE] [.grid] :=
  Block.keeps_when ((b.keeps_set _ _ _ _ (by simp)).trans (Block.keeps_setGrid _ _ _ _ (by simp)))

theorem Block.keeps_noteCrossing (b : Block) (before : SpurPhase) :
    b.Keeps (b.noteCrossing before) [R.GLB_GRID_GRID_FREE] [.grid] := by
  obtain ⟨v, w, h | h⟩ := b.noteCrossing_eq before
  · rw [h]; exact b.keeps_setGrid _ _ _ (by simp)
  · rw [h]; exact (b.keeps_setGrid _ _ _ (by simp)).trans (Block.keeps_gridFree _)

/-- The phases are those of the filter's step, and so is every field that the registers of R143 and GRID_FREE are not. -/
structure Block.SamePhases (b c : Block) (k : Nat) : Prop where
  phases : c.spur.phases = b.spur.phases
  get : ∀ f : Field, f.key ∉ (R.GLB_GRID_GRID_FREE :: showFields k).map Field.key → f.key ≠ R.TRB_SUMMARY.key → c.get f = b.get f

theorem Block.SamePhases.trans {b c d : Block} {k : Nat} (h : b.SamePhases c k) (h' : c.SamePhases d k) : b.SamePhases d k :=
  ⟨h'.phases.trans h.phases, fun f m n => (h'.get f m n).trans (h.get f m n)⟩

theorem Block.Keeps.samePhases {b c : Block} {l : List Field} {ps : List Part} (h : b.Keeps c l ps) (k : Nat)
    (hl : l ⊆ R.GLB_GRID_GRID_FREE :: showFields k) (hp : .spur ∉ ps) : b.SamePhases c k :=
  ⟨congrArg SpurUnit.phases (h.2 .spur hp), fun f m n => h.1 f (fun q => m (List.map_subset _ hl q)) n⟩

theorem Block.SamePhases.phase_eq {b c : Block} {k : Nat} (h : b.SamePhases c k) (j : Nat) : c.phase j = b.phase j := by
  rw [Block.phase, Block.phase, h.phases]

theorem Block.takeCrossing_samePhases (b : Block) (k : Nat) (m : Int) (before : SpurPhase) :
    (b.spurUpdate k m).SamePhases (b.takeCrossing k m before) k := by
  have hshow := ((b.spurUpdate k m).keeps_showSpur k).samePhases k (List.subset_cons_self _ _) (by simp)
  have hcount (c : Block) (n : Nat) : c.SamePhases { c with spur := { c.spur with nppHalf := n } } k := ⟨rfl, fun _ _ _ => rfl⟩
  have hfilter : (b.spurUpdate k m).SamePhases (spurCrossing k m b) k := by
    unfold spurCrossing
    dsimp only
    split
    · exact hshow.trans (hcount _ _)
    · exact hshow
  unfold Block.takeCrossing
  split
  · exact hfilter.trans ((Block.keeps_noteCrossing _ _).samePhases k (by simp) (by simp))
  · exact hfilter

/-! The four cases of the filter. -/

/-- A sign change that is a crossing of a line that rises, on a phase of a unit that runs (R141). -/
structure Block.Crosses (b : Block) (k : Nat) (volts : List Int) (mid : Nat) (z : Rat) : Prop where
  running : b.running = true
  phase : k < 3
  held : k < b.spur.phases.length
  crossing : isCrossing volts mid = true
  zero : fitZero volts mid = some z

section
variable {s : State} {k : Nat} {volts : List Int} {mid : Nat} {z : Rat} (h : s.blk.Crosses k volts mid z) (time : Nat)
include h

/-- The crossing enters the filter of a block `c` that differs in the free values alone. -/
theorem spurCrossing_takes : ∃ t c, exec (.spurCrossing k ⟨volts, mid, time⟩) s = .next t ∧ s.blk.Keeps c [] [.freeCtr] ∧
    (c.spurUpdate k (s.blk.crossingTime time z).1).SamePhases t.blk k ∧ t.otp = s.otp ∧ t.pending = s.pending := by
  have e := s.blk.crossing_takes k volts mid time z h.phase h.running h.crossing h.zero
  refine ⟨_, _, congrArg Host.Outcome.next (s.runOn_eq _ _ h.running e), s.blk.keeps_crossingTime time z, ?_, rfl, rfl⟩
  exact (Block.takeCrossing_samePhases _ k _ _).trans ((Block.keeps_updateAlert _ [] []).samePhases k (by simp) (by simp))

theorem spurCrossing_first (hacq : (s.blk.phase k).acq = 0) :
    ∃ t, exec (.spurCrossing k ⟨volts, mid, time⟩) s = .next t ∧ (t.blk.phase k).acq = 1 ∧
      (t.blk.phase k).prev = (s.blk.crossingTime time z).1 ∧ t.otp = s.otp ∧ t.pending = s.pending := by
  obtain ⟨t, c, ht, hc, hsame, hotp, hpend⟩ := spurCrossing_takes h time
  have hspur : c.spur = s.blk.spur := hc.2 .spur (by simp)
  have hphase := hsame.phase_eq k
  rw [c.spurUpdate_first k _ (by rw [Block.phase_eq_of_spur hspur, hacq]),
    Block.phase_modPhase _ _ _ (by rw [hspur]; exact h.held)] at hphase
  exact ⟨t, ht, by rw [hphase], by rw [hphase], hotp, hpend⟩

theorem spurCrossing_second (hacq : (s.blk.phase k).acq = 1) (hmin : minPeriod ≤ (s.blk.crossingTime time z).1 - (s.blk.phase k).prev)
    (hmax : (s.blk.crossingTime time z).1 - (s.blk.phase k).prev ≤ maxPeriod) :
    ∃ t, exec (.spurCrossing k ⟨volts, mid, time⟩) s = .next t ∧ (t.blk.phase k).acq = 2 ∧
      (t.blk.phase k).z = (s.blk.crossingTime time z).1 ∧
      (t.blk.phase k).t = (s.blk.crossingTime time z).1 - (s.blk.phase k).prev ∧ t.otp = s.otp ∧ t.pending = s.pending := by
  obtain ⟨t, c, ht, hc, hsame, hotp, hpend⟩ := spurCrossing_takes h time
  have hspur : c.spur = s.blk.spur := hc.2 .spur (by simp)
  have hphase := hsame.phase_eq k
  rw [← Block.phase_eq_of_spur hspur] at hacq hmin hmax ⊢
  rw [c.spurUpdate_second k _ hacq hmin hmax, Block.phase_modPhase _ _ _ (by rw [hspur]; exact h.held)] at hphase
  exact ⟨t, ht, by rw [hphase], by rw [hphase], by rw [hphase], hotp, hpend⟩

theorem spurCrossing_tracks (hacq : (s.blk.phase k).acq = 2)
    (hmax : s.blk.spurError k (s.blk.crossingTime time z).1 ≤ 500000 * 65536)
    (hmin : -(500000 * 65536) ≤ s.blk.spurError k (s.blk.crossingTime time z).1) :
    ∃ t, exec (.spurCrossing k ⟨volts, mid, time⟩) s = .next t ∧ (t.blk.phase k).acq = 2 ∧ (t.blk.phase k).rejects = 0 ∧
      (t.blk.phase k).z = (s.blk.phase k).z + (s.blk.phase k).t +
        s.blk.spurError k (s.blk.crossingTime time z).1 / 2 ^ s.blk.get R.SPR_FILT_A ∧
      (t.blk.phase k).t = (s.blk.phase k).t + s.blk.spurError k (s.blk.crossingTime time z).1 / 2 ^ s.blk.get R.SPR_FILT_B ∧
      t.otp = s.otp ∧ t.pending = s.pending := by
  obtain ⟨t, c, ht, hc, hsame, hotp, hpend⟩ := spurCrossing_takes h time
  have hspur : c.spur = s.blk.spur := hc.2 .spur (by simp)
  have hphase := hsame.phase_eq k
  have herr (m : Int) : s.blk.spurError k m = c.spurError k m := by
    rw [Block.spurError, Block.spurError, Block.phase_eq_of_spur hspur]
  rw [← Block.phase_eq_of_spur hspur] at hacq ⊢
  rw [herr] at hmax hmin ⊢
  rw [c.spurUpdate_tracks k _ hacq hmax hmin, Block.phase_modPhase _ _ _ (by rw [hspur]; exact h.held)] at hphase
  rw [← hc.1 R.SPR_FILT_A (by simp) (by decide), ← hc.1 R.SPR_FILT_B (by simp) (by decide)]
  exact ⟨t, ht, by rw [hphase, hacq], by rw [hphase], by rw [hphase], by rw [hphase], hotp, hpend⟩

omit h in
/-- Where a phase is shown lies apart from the rejected crossings. -/
theorem reject_notMem_showFields (hk : k < 3) :
    R.SPR_REJECT_COUNT.key ∉ (R.GLB_GRID_GRID_FREE :: showFields k).map Field.key ∧
      R.SPR_TROUBLE_CROSSING_REJECT.key ∉ (R.GLB_GRID_GRID_FREE :: showFields k).map Field.key := by
  interval_cases k <;> decide

theorem spurCrossing_rejects (hacq : (s.blk.phase k).acq = 2)
    (he : s.blk.spurError k (s.blk.crossingTime time z).1 > 500000 * 65536 ∨
      s.blk.spurError k (s.blk.crossingTime time z).1 < -(500000 * 65536)) (hr : (s.blk.phase k).rejects < 3) :
    ∃ t, exec (.spurCrossing k ⟨volts, mid, time⟩) s = .next t ∧ (t.blk.phase k).acq = 2 ∧
      (t.blk.phase k).rejects = (s.blk.phase k).rejects + 1 ∧ (t.blk.phase k).z = (s.blk.phase k).z + (s.blk.phase k).t ∧
      (t.blk.phase k).t = (s.blk.phase k).t ∧
      t.blk.get R.SPR_REJECT_COUNT = (s.blk.get R.SPR_REJECT_COUNT + 1) % 2 ^ R.SPR_REJECT_COUNT.width ∧
      t.blk.get R.SPR_TROUBLE_CROSSING_REJECT = 1 ∧ t.otp = s.otp ∧ t.pending = s.pending := by
  obtain ⟨t, c, ht, hc, hsame, hotp, hpend⟩ := spurCrossing_takes h time
  have hspur : c.spur = s.blk.spur := hc.2 .spur (by simp)
  have hphase := hsame.phase_eq k
  have herr (m : Int) : s.blk.spurError k m = c.spurError k m := by
    rw [Block.spurError, Block.spurError, Block.phase_eq_of_spur hspur]
  rw [← Block.phase_eq_of_spur hspur] at hacq hr ⊢
  rw [herr] at he
  have hupdate := c.spurUpdate_rejects k _ hacq he hr
  have hreject : c.rejectCrossing.spur = c.spur := (c.keeps_count _ _).2 .spur (by simp)
  rw [hupdate, Block.phase_modPhase _ _ _ (by rw [hreject, hspur]; exact h.held), Block.phase_eq_of_spur hreject] at hphase
  obtain ⟨hcount, hsticky⟩ := reject_notMem_showFields h.phase
  refine ⟨t, ht, by rw [hphase, hacq], by rw [hphase], by rw [hphase], by rw [hphase], ?_, ?_, hotp, hpend⟩
  · rw [hsame.get _ hcount (by decide), hupdate, ← hc.1 R.SPR_REJECT_COUNT (by simp) (by decide)]
    exact Block.count_get_counter c _ _ (by decide) (by decide) (by decide)
  · rw [hsame.get _ hsticky (by decide), hupdate]
    exact Block.count_get_sticky c _ _ rfl (by decide) (by decide)

end

/-! The noise phase profile (R145, R146, R150). -/

theorem Block.keeps_nppBin (b : Block) (x : NppBin) : b.Keeps (b.nppBin x).2 [] [.freeCtr] := by
  have hfresh : b.Keeps b.fresh.2 [] [.freeCtr] := b.keeps_freeCtr _ _ _ (by simp)
  unfold Block.nppBin
  dsimp only
  split
  · exact .refl b _ _
  · split
    · split
      · exact hfresh
      · exact .refl b _ _
    · split
      · exact .refl b _ _
      · exact hfresh

theorem Block.keeps_nppBins (bins : Tab NppBin) (n j : Nat) (b : Block) : b.Keeps (Block.nppBins bins n j b).2 [] [.freeCtr] := by
  induction n generalizing j b with
  | zero => exact .refl b _ _
  | succ n ih =>
    have hbin : b.Keeps (if 448 ≤ j then ((0, b) : Nat × Block) else b.nppBin (Tab.get {} bins j)).2 [] [.freeCtr] := by
      split
      · exact .refl b _ _
      · exact b.keeps_nppBin _
    exact hbin.trans (ih (j + 1) _)

/-- The accumulation starts afresh (R146, R150). -/
def Block.restartNpp (b : Block) : Block := { b with spur := { b.spur with nppHalf := 0, bins := [] } }

/-- The profile is shown, under its next number (R146). -/
def Block.showNpp (b : Block) (v : Nat) : Block := (b.set R.SPR_NPP v).bump R.SPR_NPP_SEQ

theorem Block.keeps_restartNpp (b : Block) (l : List Field) : b.Keeps b.restartNpp l [.spur] := b.keeps_spur _ _ _ (by simp)

theorem Block.keeps_showNpp (b : Block) (v : Nat) : b.Keeps (b.showNpp v) [R.SPR_NPP, R.SPR_NPP_SEQ] [] :=
  (b.keeps_set _ _ _ _ (by simp)).trans (Block.keeps_bump _ _ _ _ (by simp))

theorem nppSwap_complete (b : Block) (hrun : b.running = true) (hc : b.nppComplete = true) :
    nppSwap b = ((Block.nppBins b.spur.bins 512 0 b).2.showNpp (Block.nppBins b.spur.bins 512 0 b).1).restartNpp := by
  simp only [Block.running, decide_eq_true_eq] at hrun
  unfold nppSwap
  rw [if_pos ⟨hrun.1, hrun.2, hc⟩]
  generalize Block.nppBins b.spur.bins 512 0 b = x
  rfl

theorem nppSwap_incomplete (b : Block) (hc : b.nppComplete = false) : nppSwap b = b := if_neg (by simp [hc])

theorem nppSwap_swaps (s : State) (hrun : s.blk.running = true) (hc : s.blk.nppComplete = true) :
    ∃ t, exec (.nppSwap ()) s = .next t ∧
      t.blk.get R.SPR_NPP_SEQ = (s.blk.get R.SPR_NPP_SEQ + 1) % 2 ^ R.SPR_NPP_SEQ.width ∧ t.blk.spur.nppHalf = 0 ∧
      t.blk.spur.bins = [] ∧ s.Keeps t [R.SPR_NPP, R.SPR_NPP_SEQ] [.spur, .freeCtr] := by
  have e := nppSwap_complete s.blk hrun hc
  have hbins := Block.keeps_nppBins s.blk.spur.bins 512 0 s.blk
  generalize Block.nppBins s.blk.spur.bins 512 0 s.blk = x at e hbins
  obtain ⟨v, c⟩ := x
  have hspur := Block.updateAlert_spur (c.showNpp v).restartNpp
  refine ⟨_, congrArg Host.Outcome.next (s.runOn_eq _ _ hrun e), ?_, congrArg SpurUnit.nppHalf hspur, congrArg SpurUnit.bins hspur,
    State.keeps_run s _ _ _ ?_⟩
  · have hseq : (c.set R.SPR_NPP v).get R.SPR_NPP_SEQ = s.blk.get R.SPR_NPP_SEQ :=
      (Block.get_set_ne c _ _ _ (by decide)).trans (hbins.1 _ (by simp) (by decide))
    rw [State.run_get s _ _ (by decide), ← hseq]
    exact Block.bump_get _ _
  · exact ((hbins.widen _ _ (by simp) (by simp)).trans ((c.keeps_showNpp v).widen _ _ (List.Subset.refl _) (by simp))).trans
      ((Block.keeps_restartNpp _ _).widen _ _ (List.Subset.refl _) (by simp))

theorem Block.listedWrite_nppCtrl (b : Block) (v : Nat) : b.listedWrite .host 0x50034 v = nppCtrlWrite v b := rfl

theorem sprNppCtrlWrite_takes (s : State) (v : Word) (hrun : s.blk.running = true) (hv : v.toNat % 16 < 11) :
    ∃ t, exec (.sprNppCtrlWrite v) s = .next t ∧ t.blk.get R.SPR_NPP_CTRL_ACC = v.toNat % 16 ∧
      t.blk.spur.nppHalf = (if v.toNat % 16 = s.blk.get R.SPR_NPP_CTRL_ACC then s.blk.spur.nppHalf else 0) ∧
      s.Keeps t [R.SPR_NPP_CTRL_ACC] [.spur] := by
  have hset : s.blk.Keeps (s.blk.set R.SPR_NPP_CTRL_ACC (v.toNat % 16)) [R.SPR_NPP_CTRL_ACC] [.spur] := s.blk.keeps_set _ _ _ _ (by simp)
  have hacc : (s.blk.set R.SPR_NPP_CTRL_ACC (v.toNat % 16)).get R.SPR_NPP_CTRL_ACC = v.toNat % 16 :=
    (Block.get_set_self _ _ _).trans (Nat.mod_mod _ _)
  have e : s.blk.listedWrite .host 0x50034 v.toNat =
      if v.toNat % 16 = s.blk.get R.SPR_NPP_CTRL_ACC then s.blk.set R.SPR_NPP_CTRL_ACC (v.toNat % 16)
      else (s.blk.set R.SPR_NPP_CTRL_ACC (v.toNat % 16)).restartNpp :=
    (s.blk.listedWrite_nppCtrl v.toNat).trans (if_neg (by omega))
  refine ⟨_, congrArg Host.Outcome.next (s.runReg_eq _ _ hrun e), ?_, ?_, State.keeps_run s _ _ _ ?_⟩
  · rw [State.run_get s _ _ (by decide)]
    split <;> exact hacc
  · rw [State.run_blk, Block.updateAlert_spur]
    split <;> rfl
  · exact Block.keeps_ite hset (hset.trans (Block.keeps_restartNpp _ _))

theorem sprNppCtrlWrite_refused (s : State) (v : Word) (hrun : s.blk.running = true) (hv : 11 ≤ v.toNat % 16) :
    ∃ t, exec (.sprNppCtrlWrite v) s = .next t ∧ s.Keeps t [] [] :=
  ⟨_, congrArg Host.Outcome.next (s.runReg_eq _ _ hrun ((s.blk.listedWrite_nppCtrl v.toNat).trans (if_pos hv))),
    State.keeps_run s _ _ _ (.refl _ _ _)⟩

end Sys2Proof.Machine
end

section
/-! M1 Hold-up (R443, R444): entering it writes no register of the spur, and the mode is M1. -/

namespace Sys2Proof.Machine

/-! The spur's registers (R150). -/

/-- A field that is none of the spur's registers. -/
abbrev Field.OffSpur (f : Field) : Prop := f.key < 2621440 ∨ 3145728 ≤ f.key

/-- The spur's registers are the same. -/
def Block.SameSpur (b c : Block) : Prop := ∀ f : Field, ¬ f.OffSpur → c.get f = b.get f

theorem Block.SameSpur.refl (b : Block) : b.SameSpur b := fun _ _ => rfl

theorem Block.SameSpur.trans {b c d : Block} (h : b.SameSpur c) (k : c.SameSpur d) : b.SameSpur d :=
  fun f hf => (k f hf).trans (h f hf)

/-- A change of the units alone. -/
theorem Block.SameSpur.of_regs {b c : Block} (h : c.regs = b.regs) : b.SameSpur c := fun f _ => by rw [Block.get, Block.get, h]

theorem Block.Keeps.sameSpur {b c : Block} {l : List Field} {ps : List Part} (h : b.Keeps c l ps) (hl : ∀ f ∈ l, f.OffSpur) :
    b.SameSpur c := fun f hf => h.1 f
  (fun m => by
    obtain ⟨g, hg, e⟩ := List.mem_map.1 m
    have := hl g hg
    rw [Field.OffSpur, e] at this
    exact hf this)
  (fun e => hf (by rw [Field.OffSpur, e]; decide))

theorem recordFields_offSpur : ∀ f ∈ recordFields, f.OffSpur := by decide

theorem Block.SameSpur.ite {b c d : Block} {k : Prop} [Decidable k] (hc : b.SameSpur c) (hd : b.SameSpur d) :
    b.SameSpur (if k then c else d) := by
  split
  · exact hc
  · exact hd

theorem Block.SameSpur.forEach {α : Type} (b : Block) (xs : List α) (f : Block → α → Block) (h : ∀ (c : Block) (x : α), c.SameSpur (f c x)) :
    b.SameSpur (b.forEach xs f) := by
  unfold Block.forEach
  induction xs generalizing b with
  | nil => exact .refl b
  | cons x xs ih => exact (h b x).trans (ih _)

section
variable (b : Block)

theorem Block.set_sameSpur (f : Field) (v : Nat) (h : f.OffSpur) : b.SameSpur (b.set f v) :=
  (b.keeps_set f v [f] [] (by simp)).sameSpur (by simpa using h)

theorem Block.bump_sameSpur (f : Field) (h : f.OffSpur) : b.SameSpur (b.bump f) := b.set_sameSpur f _ h

theorem Block.stick_sameSpur (f : Field) (i : Nat) (h : f.OffSpur) : b.SameSpur (b.stick f i) :=
  (b.keeps_stick f i).sameSpur (by simpa [h] using recordFields_offSpur)

theorem Block.count_sameSpur (c f : Field) (hc : c.OffSpur) (hf : f.OffSpur) : b.SameSpur (b.count c f) :=
  (b.bump_sameSpur c hc).trans (Block.stick_sameSpur _ f 0 hf)

theorem Block.event_sameSpur (block code inst detail : Nat) (ext : Option Nat) :
    b.SameSpur (b.event block code inst detail ext) :=
  (b.keeps_event block code inst detail ext).sameSpur recordFields_offSpur

/-! The queue manager (R326, R327, R332, R340). -/

theorem Block.lengthError_sameSpur (ctx : Nat) : b.SameSpur (b.lengthError ctx) := by
  unfold Block.lengthError
  split
  · exact .refl b
  · next o _ =>
    have hrewound : b.SameSpur (((b.dropOpen ctx).bump R.QMG_REWIND_COUNT).modQ o.queue
        (fun q => { q with rewound := (q.rewound + 1) % 2 ^ 64 })) :=
      ((Block.SameSpur.of_regs (b := b) (c := b.dropOpen ctx) rfl).trans (Block.bump_sameSpur _ R.QMG_REWIND_COUNT (by decide))).trans
        (.of_regs rfl)
    exact (hrewound.trans (Block.count_sameSpur _ R.QMG_LENGTH_ERR_COUNT R.QMG_TROUBLE_LENGTH_ERR (by decide) (by decide))).trans
      (.of_regs rfl)

theorem Block.eop_sameSpur (ctx : Nat) (data : List Byte) : b.SameSpur (b.eop ctx data) := by
  unfold Block.eop
  split
  · exact .refl b
  · next o _ =>
    refine .ite (b.lengthError_sameSpur ctx) ?_
    have hqueued : b.SameSpur ((b.dropOpen ctx).modQ o.queue (fun q =>
        { q with pkts := q.pkts ++ [{ dest := o.dest, tag := o.tag, commit := b.tickTag, data := data }] })) := .of_regs rfl
    exact (hqueued.trans (Block.bump_sameSpur _ R.QMG_COMMIT_COUNT (by decide))).trans (.of_regs rfl)

theorem Block.failHead_sameSpur (n : Nat) : b.SameSpur (b.failHead n) := by
  unfold Block.failHead
  dsimp only
  split
  · exact .refl b
  · refine .ite (.refl b) (.ite (.ite ?_ ?_) ?_)
    · exact (((b.bump_sameSpur R.QMG_HEAD_FAIL_COUNT (by decide)).trans (d := (b.bump R.QMG_HEAD_FAIL_COUNT).popHead n)
        (.of_regs rfl)).trans (Block.count_sameSpur _ R.QMG_HEAD_DISCARD_COUNT R.QMG_TROUBLE_HEAD_DISCARD (by decide) (by decide))).trans
          (Block.event_sameSpur _ _ _ _ _ _)
    · exact (b.bump_sameSpur R.QMG_HEAD_FAIL_COUNT (by decide)).trans (.of_regs rfl)
    · have hlost : b.SameSpur ((b.popHead n).modQ n (fun q => { q with lost := (q.lost + 1) % 2 ^ 64 })) := .of_regs rfl
      exact (hlost.trans (Block.bump_sameSpur _ R.QMG_LOST_COUNT (by decide))).trans
        (Block.stick_sameSpur _ R.QMG_TROUBLE_LOST 0 (by decide))

theorem Block.forceReset_sameSpur (n : Nat) : b.SameSpur (b.forceReset n) := by
  have hclosed (l : List Nat) : b.SameSpur (b.forEach l (fun b c => (b.dropOpen c).answer c 3)) :=
    .forEach b l _ fun c x => .of_regs rfl
  have hemptied {c d : Block} (f : Queue → Queue) (h : b.SameSpur c) (hd : c.SameSpur d) : b.SameSpur (d.modQ n f) :=
    (h.trans hd).trans (.of_regs rfl)
  unfold Block.forceReset
  dsimp only
  refine .trans ?_ (Block.event_sameSpur _ _ _ _ _ _)
  refine .trans ?_ (Block.count_sameSpur _ R.QMG_FORCED_RESET_COUNT R.QMG_TROUBLE_FORCED_RESET (by decide) (by decide))
  refine .trans ?_ (Block.set_sameSpur _ R.QMG_RESET_LOST_COUNT _ (by decide))
  refine .trans ?_ (Block.set_sameSpur _ R.QMG_CMD_STAT_PENDING _ (by decide))
  exact hemptied _ (hclosed _) (.ite (.of_regs rfl) (.refl _))

end

end Sys2Proof.Machine
end

section
/-! What an entry to M1 ends (R110, R121, R194, R435, R443) writes no register of the spur: transmissions and receptions, truing, a
reload, the serial packets. -/

namespace Sys2Proof.Machine

section
variable (b : Block)

theorem Block.emit_sameSpur (o : Out) : b.SameSpur (b.emit o) := .of_regs rfl

theorem Block.commitSerial_sameSpur : b.SameSpur b.commitSerial := by
  have hclose (c : Block) (k : Nat) : c.SameSpur (c.serClose k 5) := by
    unfold Block.serClose
    refine .ite (.refl c) ?_
    have hempty : c.SameSpur (c.modSer k (fun p => { p with entries := [] })) := .of_regs rfl
    dsimp only
    split
    · exact hempty.trans (Block.eop_sameSpur _ _ _)
    · exact hempty
  exact (hclose b 0).trans (hclose _ 1)

/-! Truing (R433, R435). -/

theorem Block.truRest_sameSpur (i : Nat) : b.SameSpur (b.truRest i false) := by
  have hmod : b.SameSpur (b.modTru i (fun t => { t with stale := false })) := .of_regs rfl
  have hresume (c : Block) : c.SameSpur c.sensorResume := (c.set_sameSpur R.SEN_STAT_STALE 0 (by decide)).trans (.of_regs rfl)
  exact .ite (hmod.trans (.of_regs rfl)) (.ite (hmod.trans (.of_regs rfl)) (.ite (hmod.trans (hresume _)) hmod))

theorem Block.truStop_sameSpur (i : Nat) : b.SameSpur (b.truStop i) :=
  Block.SameSpur.trans (.ite (b.set_sameSpur R.TRU_STAT_SENSOR_RUNNING 0 (by decide)) (b.set_sameSpur R.TRU_STAT_ACTIVE 15 (by decide)))
    (Block.truRest_sameSpur _ i)

theorem Block.truAbandon_sameSpur (i : Nat) : b.SameSpur (b.truAbandon i false) :=
  .ite (((b.truStop_sameSpur i).trans (Block.count_sameSpur _ R.TRU_ABORT_COUNT R.TRU_TROUBLE_ABORTED (by decide) (by decide))).trans
    (Block.set_sameSpur _ R.TRU_DUE _ (by decide))) (.refl b)

theorem Block.abandonTruing_sameSpur : b.SameSpur (b.abandonTruing false false) := by
  simp only [Block.abandonTruing, Bool.false_eq_true, if_false]
  exact .trans (.forEach b _ _ fun c i => c.truAbandon_sameSpur i) (Block.truAbandon_sameSpur _ 10)

theorem Block.abandonScan_sameSpur : b.SameSpur b.abandonScan :=
  Block.SameSpur.trans (c := b.setSensor { b.sensor with chan := none, scanTick := none }) (.of_regs rfl)
    (Block.set_sameSpur _ R.SEN_STAT_SCANNING 0 (by decide))

/-! Receptions and captures (R194, R207). -/

theorem Block.captureEnd_sameSpur (v : Bool) : b.SameSpur (b.captureEnd v) :=
  .ite ((b.set_sameSpur R.PHY_CAP_STAT_STATE 3 (by decide)).trans (Block.set_sameSpur _ R.PHY_CAP_STAT_ABORTED _ (by decide))) (.refl b)

theorem captureFields_offSpur : ∀ f ∈ captureFields, f.OffSpur := by decide

theorem withheldFields_offSpur : ∀ f ∈ withheldFields, f.OffSpur := by decide

theorem frozenField_offSpur (band p : Nat) : (frozenField band p).OffSpur := by
  unfold frozenField
  split
  · exact .inr (by simp only [R.LFE_STAT_AGC_FROZEN_H]; omega)
  · exact .inr (by simp only [R.LFE_STAT_AGC_FROZEN_L]; omega)

theorem abortFields_offSpur (r : Reception) : ∀ f ∈ abortFields r, f.OffSpur := by
  intro f hf
  simp only [abortFields, List.mem_append, List.mem_map] at hf
  obtain (h | ⟨q, -, rfl⟩) | h := hf
  · exact captureFields_offSpur f h
  · exact frozenField_offSpur r.band q
  · exact withheldFields_offSpur f h

theorem Block.abortReceptions_sameSpur : b.SameSpur b.abortReceptions :=
  (Block.SameSpur.forEach b _ (fun b r => (b.abortReception r).bump R.PHY_ABORT_OTHER_COUNT) fun c r =>
    ((c.keeps_abortReception r).sameSpur (abortFields_offSpur r)).trans
      (Block.bump_sameSpur _ R.PHY_ABORT_OTHER_COUNT (by decide))).trans (.of_regs rfl)

/-! A frame given up or sent again (R203, R272, R305). -/

theorem Block.failFrame_sameSpur (f : TxFrame) : b.SameSpur (b.failFrame f) := by
  unfold Block.failFrame
  split
  · exact .ite ((b.failHead_sameSpur _).trans (.of_regs rfl)) (b.failHead_sameSpur _)
  · exact .refl b

theorem Block.modLink_sameSpur (a band : Nat) (f : LinkRec → LinkRec) : b.SameSpur (b.modLink a band f) :=
  .ite (.of_regs rfl) (.refl b)

theorem Block.ladderFail_sameSpur (a band : Nat) : b.SameSpur (b.ladderFail a band) :=
  .ite (.refl b) (.ite ((b.modLink_sameSpur a band _).trans (Block.stick_sameSpur _ R.PHY_RX_TROUBLE_LADDER_DOWN 0 (by decide)))
    (b.modLink_sameSpur a band _))

theorem Block.markHopDown_sameSpur (x : Nat) : b.SameSpur (b.markHopDown x) :=
  .forEach b _ _ fun c a =>
    Block.SameSpur.trans (c := if c.tab (fwdAt a) 2 = x then c.setTab (fwdAt a + 4) 1 (c.tab (fwdAt a + 4) 1 ||| 8) else c)
      (.ite (.of_regs rfl) (.refl c)) (.ite (.of_regs rfl) (.refl _))

theorem Block.sendCommand_sameSpur (code dst : Nat) (body : List Byte) : b.SameSpur (b.sendCommand code dst body) :=
  .of_regs (by unfold Block.sendCommand; dsimp only; split <;> rfl)

theorem Block.exhaust_sameSpur (f : TxFrame) : b.SameSpur (b.exhaust f) := by
  have hcount : b.SameSpur (b.count R.MAC_RETRY_EXHAUSTED_COUNT R.MAC_TROUBLE_RETRY_EXHAUSTED) :=
    b.count_sameSpur _ _ (by decide) (by decide)
  have hrepair (c : Block) (g : TxFrame) :
      c.SameSpur ((c.count R.MSH_LOCAL_REPAIR_COUNT R.MSH_TROUBLE_LOCAL_REPAIR).orderFirst g) :=
    (c.count_sameSpur R.MSH_LOCAL_REPAIR_COUNT R.MSH_TROUBLE_LOCAL_REPAIR (by decide) (by decide)).trans (.of_regs rfl)
  unfold Block.exhaust
  dsimp only
  refine .ite (hcount.trans (Block.failFrame_sameSpur _ f)) ?_
  have hdown := hcount.trans (Block.markHopDown_sameSpur _ f.hdr.dst)
  refine .ite (.trans ?_ (.of_regs rfl)) (.trans ?_ (Block.sendCommand_sameSpur _ _ _ _))
  all_goals
    split
    · exact .ite (hdown.trans (hrepair _ _)) (hdown.trans (Block.failFrame_sameSpur _ f))
    · exact hdown.trans (Block.failFrame_sameSpur _ f)

theorem Block.txAborted_sameSpur (f : TxFrame) : b.SameSpur (b.txAborted f) := by
  have hunacked : b.SameSpur (b.unacked f) := by
    have hfail := b.ladderFail_sameSpur f.hdr.dst f.band
    exact .ite (hfail.trans (Block.exhaust_sameSpur _ _)) (hfail.trans (.of_regs rfl))
  unfold Block.txAborted
  split
  · exact .ite hunacked (b.failFrame_sameSpur f)
  · exact .refl b

/-! Transmissions (R121). -/

theorem Block.setActive_sameSpur (band : Nat) (ports : List Nat) (v : Nat) : b.SameSpur (b.setActive band ports v) :=
  .forEach b _ _ fun c p => .ite (c.set_sameSpur _ _ (.inr (by simp only [R.LFE_STAT_TX_ACTIVE_H]; omega)))
    (c.set_sameSpur _ _ (.inr (by simp only [R.LFE_STAT_TX_ACTIVE_L]; omega)))

theorem Block.suppress_sameSpur (band profile chips : Nat) (ports : List Nat) : b.SameSpur (b.suppress band profile chips ports) :=
  .forEach b _ _ fun _ _ => .of_regs rfl

theorem Block.omitSegment_sameSpur (t : TxActive) : b.SameSpur (b.omitSegment t) :=
  Block.SameSpur.trans (c := b.setTx t { t with omitted := true }) (.of_regs rfl)
    (Block.count_sameSpur _ R.PHY_SEG_OMITTED_COUNT R.PHY_TROUBLE_SEG_OMITTED (by decide) (by decide))

/-- A ramp down ends the emission of a transmission (R121). -/
theorem Block.rampDown_sameSpur (band prof : Nat) (ports : List Nat) :
    b.SameSpur (((b.setActive band ports 0).suppress band prof (rampLen (profileL prof)) ports).emit (.rampDown band ports)) :=
  ((b.setActive_sameSpur band ports 0).trans (Block.suppress_sameSpur _ _ _ _ _)).trans (Block.emit_sameSpur _ _)

theorem Block.abortTx_sameSpur (sel : TxActive → Bool) : b.SameSpur (b.abortTx sel) := by
  refine .forEach b _ _ fun c t => ?_
  have hdown := c.rampDown_sameSpur t.frame.band (modeProfile t.frame.hdr.mode) t.ports
  dsimp only
  generalize ((c.setActive _ _ 0).suppress _ _ _ _).emit _ = d at hdown ⊢
  refine .ite (.trans ?_ (Block.txAborted_sameSpur _ t.frame)) (.trans ?_ (Block.omitSegment_sameSpur _ _))
  · exact hdown.trans (.of_regs rfl)
  · exact hdown.trans (.of_regs rfl)

/-! Deferred class actions and an abandoned reload (R15, R110, R469). -/

theorem Block.failSpindle_sameSpur (n : Nat) : b.SameSpur (b.failSpindle n) :=
  (b.keeps_failSpindle n).sameSpur fun f hf => by
    obtain rfl | rfl | h := by simpa only [List.mem_cons] using hf
    · exact .inr (by simp only [R.SLC_SPINDLE_FAILED]; omega)
    · decide
    · exact recordFields_offSpur f h

theorem Block.retire_sameSpur (n : Nat) : b.SameSpur (b.retire n) := by
  unfold Block.retire
  dsimp only
  split
  · exact .ite (.refl b) (b.failSpindle_sameSpur n)
  · refine .ite (.refl b) (.ite (b.failSpindle_sameSpur n) ?_)
    have hload : b.SameSpur ((b.modSlice (sliceOf n) (fun x => { x with spareLoad := some (n, b.tick) })).invalidate n) := .of_regs rfl
    exact hload.trans (Block.stick_sameSpur _ R.TRB_TROUBLE_SPINDLE_RETIRED 0 (by decide))

theorem Block.failPort_sameSpur (p : Nat) : b.SameSpur (b.failPort p) := by
  unfold Block.failPort
  dsimp only
  refine .trans ?_ (.of_regs rfl)
  refine .trans ?_ (Block.set_sameSpur _ (R.LFE_STAT_TX_ACTIVE_L p) 0 (.inr (by simp only [R.LFE_STAT_TX_ACTIVE_L]; omega)))
  refine .trans ?_ (Block.set_sameSpur _ (R.LFE_STAT_TX_ACTIVE_H p) 0 (.inr (by simp only [R.LFE_STAT_TX_ACTIVE_H]; omega)))
  refine .trans ?_ (Block.set_sameSpur _ R.LFE_L_SEL _ (by decide))
  refine .trans ?_ (Block.set_sameSpur _ R.PWR_GATES_DRV_H _ (by decide))
  exact (b.set_sameSpur R.TRB_PORT_FAILED _ (by decide)).trans (Block.stick_sameSpur _ R.TRB_TROUBLE_PORT_FAILED 0 (by decide))

theorem Block.markDdr_sameSpur (d : Nat) : b.SameSpur (b.markDdr d) :=
  (b.set_sameSpur R.TRB_DDR_MARKED _ (by decide)).trans (Block.stick_sameSpur _ R.TRB_TROUBLE_DDR_MARKED 0 (by decide))

theorem Block.classAction_sameSpur (cls inst : Nat) : b.SameSpur (b.classAction cls inst) :=
  .ite (.ite (.of_regs rfl) (b.retire_sameSpur inst)) (.ite (b.failPort_sameSpur inst) (.ite (b.markDdr_sameSpur inst)
    ((b.forceReset_sameSpur inst).trans (Block.stick_sameSpur _ R.TRB_TROUBLE_QUEUE_FAULT_RESET 0 (by decide)))))

theorem Block.takeDeferred_sameSpur (k : Nat) : b.SameSpur (b.takeDeferred k) := by
  have htaken : b.SameSpur (b.modSlice k (fun x => { x with pendingFaults := [] })) := .of_regs rfl
  exact .ite (.refl b) (htaken.trans (.forEach _ _ _ fun c e => c.classAction_sameSpur e.1 e.2))

theorem Block.showAbandoned_sameSpur (k tag : Nat) : b.SameSpur
    ((((b.set R.IMG_RELOAD_LAST_SLICE k).set R.IMG_RELOAD_LAST_OK 0).set R.IMG_RELOAD_LAST_TICK_TAG tag).set R.IMG_STAT_STATE 0) :=
  (((b.set_sameSpur R.IMG_RELOAD_LAST_SLICE k (by decide)).trans (Block.set_sameSpur _ R.IMG_RELOAD_LAST_OK 0 (by decide))).trans
    (Block.set_sameSpur _ R.IMG_RELOAD_LAST_TICK_TAG tag (by decide))).trans (Block.set_sameSpur _ R.IMG_STAT_STATE 0 (by decide))

theorem Block.abandonReload_sameSpur : b.SameSpur b.abandonReload := by
  unfold Block.abandonReload
  dsimp only
  split
  · next k _ _ =>
    exact .trans ((b.showAbandoned_sameSpur k _).trans (.of_regs rfl)) (Block.takeDeferred_sameSpur _ k)
  · next k _ _ _ =>
    refine .trans (.trans ?_ (Block.takeDeferred_sameSpur _ k)) (.of_regs rfl)
    exact (b.showAbandoned_sameSpur k _).trans (.of_regs rfl)
  · exact .refl b

end

end Sys2Proof.Machine
end

section
/-! Entry to M1 Hold-up (R443, R444) keeps the spur's registers. -/

namespace Sys2Proof.Machine

section
variable (b : Block)

/-- Whatever runs ends at the entry to M1. -/
def Block.endWork : Block :=
  (((b.commitSerial.abandonTruing false false).abandonScan.captureEnd true).abortReceptions.abortTx (fun _ => true)).abandonReload

/-- The loads off the flush path lose their power. -/
def Block.shedLoads : Block :=
  ((b.driversOff.set R.PWR_GATES_SLICE_ON 1).set R.PWR_GATES_SLICE_RET 0).forEach (List.range 2) (fun b j => b.modCage j Cage.off)

/-- The mode registers show M1, and the outputs are off. -/
def Block.showHoldUp : Block :=
  (((b.setMode 1).set R.PWR_MODE_PENDING 0).bump R.PWR_HOLDUP_COUNT).pinsOff.set R.TIM_STAT_OUT_ACTIVE 0

/-- The slices' memories are lost. -/
def Block.loseSlices : Block := { b with slices := keepFailed b.slices, fabric := {} }

theorem Block.holdUp_eq (cause : Nat) :
    ∃ u : PowerUnit, b.holdUp cause = (b.endWork.shedLoads.showHoldUp.loseSlices.setPower u).showRation := ⟨_, rfl⟩

theorem Block.endWork_sameSpur : b.SameSpur b.endWork :=
  (((((b.commitSerial_sameSpur.trans (Block.abandonTruing_sameSpur _)).trans (Block.abandonScan_sameSpur _)).trans
    (Block.captureEnd_sameSpur _ true)).trans (Block.abortReceptions_sameSpur _)).trans (Block.abortTx_sameSpur _ _)).trans
      (Block.abandonReload_sameSpur _)

theorem Block.shedLoads_sameSpur : b.SameSpur b.shedLoads :=
  ((((b.keeps_driversOff []).sameSpur (by decide)).trans (Block.set_sameSpur _ R.PWR_GATES_SLICE_ON 1 (by decide))).trans
    (Block.set_sameSpur _ R.PWR_GATES_SLICE_RET 0 (by decide))).trans (.forEach _ _ _ fun _ _ => .of_regs rfl)

theorem Block.showHoldUp_sameSpur : b.SameSpur b.showHoldUp :=
  (((((b.keeps_setMode 1).sameSpur (by decide)).trans (Block.set_sameSpur _ R.PWR_MODE_PENDING 0 (by decide))).trans
    (Block.bump_sameSpur _ R.PWR_HOLDUP_COUNT (by decide))).trans (.of_regs rfl)).trans
      (Block.set_sameSpur (Block.pinsOff _) R.TIM_STAT_OUT_ACTIVE 0 (by decide))

theorem Block.loseSlices_sameSpur (u : PowerUnit) : b.SameSpur (b.loseSlices.setPower u) := .of_regs rfl

theorem Block.loseSlices_mode (u : PowerUnit) : (b.loseSlices.setPower u).mode = b.mode := rfl

theorem Block.holdUp_sameSpur (cause : Nat) : b.SameSpur (b.holdUp cause) := by
  obtain ⟨u, e⟩ := b.holdUp_eq cause
  rw [e]
  exact (((b.endWork_sameSpur.trans (Block.shedLoads_sameSpur _)).trans (Block.showHoldUp_sameSpur _)).trans (Block.loseSlices_sameSpur _ u)).trans
    ((Block.keeps_showRation _ []).sameSpur (by decide))

theorem Block.showHoldUp_mode : b.showHoldUp.mode = 1 := by
  have hset (c : Block) (f : Field) (v : Nat) (h : R.PWR_MODE_MODE.key ≠ f.key) : (c.set f v).mode = c.mode := c.get_set_ne _ _ _ h
  have hmode : (((b.setMode 1).set R.PWR_MODE_PENDING 0).bump R.PWR_HOLDUP_COUNT).mode = 1 :=
    (hset _ _ _ (by decide)).trans ((hset _ _ _ (by decide)).trans (b.setMode_mode 1 (by decide)))
  exact (hset _ R.TIM_STAT_OUT_ACTIVE 0 (by decide)).trans hmode

theorem Block.holdUp_mode (cause : Nat) : (b.holdUp cause).mode = 1 := by
  obtain ⟨u, e⟩ := b.holdUp_eq cause
  rw [e]
  exact ((Block.keeps_showRation _ []).1 R.PWR_MODE_MODE (by decide) (by decide)).trans
    ((Block.loseSlices_mode _ u).trans b.endWork.shedLoads.showHoldUp_mode)

end

end Sys2Proof.Machine
end

section
/-! SPUR_RMS_UPDATE (R144, R440): presence and loss of the phases. -/

namespace Sys2Proof.Machine

/-! One phase. -/

section
variable (b : Block) (k : Nat) (volts : List Int) (present : Field)

theorem Block.keeps_rmsOf : b.Keeps (b.rmsOf k volts present).2 [present] [.spur] := by
  have hphase (f : SpurPhase → SpurPhase) : b.Keeps (b.modPhase k f) [present] [.spur] := b.keeps_spur _ _ _ (by simp)
  exact Block.keeps_ite ((hphase _).trans (Block.keeps_set _ _ _ _ _ (by simp)))
    (Block.keeps_ite ((hphase _).trans (Block.keeps_set _ _ _ _ _ (by simp))) (hphase _))

theorem Block.rmsOf_lost : (b.rmsOf k volts present).1 = (rmsBelow volts (b.phase k).rmsWindow 70 && !(b.phase k).low) := rfl

/-- A phase below 70 V is absent. -/
theorem Block.rmsOf_absent (h : rmsBelow volts (b.phase k).rmsWindow 70 = true) :
    (b.rmsOf k volts present).2.get present = 0 := by
  unfold Block.rmsOf
  dsimp only
  rw [if_pos h, Block.get_set_self, Nat.zero_mod]

/-- More than 80 V is not less than 70 V. -/
theorem rmsBelow_of_rmsAbove (l : List Int) (n : Nat) (h : rmsAbove l n 80 = true) : rmsBelow l n 70 = false := by
  simp only [rmsAbove, rmsBelow, decide_eq_true_eq, decide_eq_false_iff_not] at h ⊢
  omega

/-- A phase above 80 V now and T/2 ago is present. -/
theorem Block.rmsOf_present (hw : present.width = 1) (h : rmsAbove volts (b.phase k).rmsWindow 80 = true)
    (hbefore : ((2 * (b.phase k).above + 1) % 2 ^ 512).testBit (b.phase k).rmsSteps = true) :
    (b.rmsOf k volts present).2.get present = 1 := by
  have hnow : ((2 * (b.phase k).above + 1) % 2 ^ 512).testBit 0 = true := by
    rw [Nat.testBit_mod_two_pow, Nat.testBit_zero]
    simp [Nat.add_mod]
  unfold Block.rmsOf
  dsimp only
  rw [if_pos h, if_neg (by simp [rmsBelow_of_rmsAbove volts _ h]), if_pos (by rw [hnow, hbefore]; rfl), Block.get_set_self, hw]
  rfl

end

/-! The three phases. -/

/-- PHASE_PRESENT of the ports follows the phases. -/
def Block.showPresence (b : Block) : Block :=
  (((b.set (R.LFE_STAT_PHASE_PRESENT 0) (b.get R.SPR_STAT_L1_PRESENT)).set (R.LFE_STAT_PHASE_PRESENT 1)
    (b.get R.SPR_STAT_L2_PRESENT)).set (R.LFE_STAT_PHASE_PRESENT 2) (b.get R.SPR_STAT_L3_PRESENT)).set (R.LFE_STAT_PHASE_PRESENT 3) 1

/-- L2 and L3 after L1, and PHASE_PRESENT. -/
def Block.rmsOthers (b : Block) (l2 l3 : List Int) : Block :=
  let (lost2, b) := b.rmsOf 1 l2 R.SPR_STAT_L2_PRESENT
  let (lost3, b) := b.rmsOf 2 l3 R.SPR_STAT_L3_PRESENT
  (b.showPresence.whenever lost2 (fun b => b.stick R.SPR_TROUBLE_L2_LOST)).whenever lost3 (fun b => b.stick R.SPR_TROUBLE_L3_LOST)

theorem Block.whenever_eq_self (b : Block) (f : Block → Block) {v : Bool} (h : v = false) : b.whenever v f = b := by rw [h]; rfl

theorem Block.whenever_eq_apply (b : Block) (f : Block → Block) {v : Bool} (h : v = true) : b.whenever v f = f b := by rw [h]; rfl

/-- The three phases, and the loss of L1. -/
def Block.rmsAll (b : Block) (l1 l2 l3 : List Int) : Block :=
  ((b.rmsOf 0 l1 R.SPR_STAT_L1_PRESENT).2.rmsOthers l2 l3).whenever (b.rmsOf 0 l1 R.SPR_STAT_L1_PRESENT).1
    (fun b => b.stick R.SPR_TROUBLE_MAINS_LOSS)

theorem Block.rmsUpdate_eq (b : Block) (l1 l2 l3 : List Int) :
    b.rmsUpdate l1 l2 l3 = ((b.rmsOf 0 l1 R.SPR_STAT_L1_PRESENT).1, (b.rmsAll l1 l2 l3).showPhases) := rfl

/-- The fields of PRESENT, the phases' angles, and the losses of L2 and L3. -/
def presenceFields : List Field := [R.SPR_STAT_L1_PRESENT, R.SPR_STAT_L2_PRESENT, R.SPR_STAT_L3_PRESENT,
  R.LFE_STAT_PHASE_PRESENT 0, R.LFE_STAT_PHASE_PRESENT 1, R.LFE_STAT_PHASE_PRESENT 2, R.LFE_STAT_PHASE_PRESENT 3, R.SPR_PHASE_L2,
  R.SPR_PHASE_L3, R.SPR_TROUBLE_L2_LOST, R.SPR_TROUBLE_L3_LOST] ++ recordFields

/-- The fields that the computations of L2 and L3 change. -/
def otherFields : List Field := [R.SPR_STAT_L2_PRESENT, R.SPR_STAT_L3_PRESENT, R.LFE_STAT_PHASE_PRESENT 0, R.LFE_STAT_PHASE_PRESENT 1,
  R.LFE_STAT_PHASE_PRESENT 2, R.LFE_STAT_PHASE_PRESENT 3, R.SPR_TROUBLE_L2_LOST, R.SPR_TROUBLE_L3_LOST] ++ recordFields

section
variable (b : Block) (l1 l2 l3 : List Int)

theorem Block.keeps_showPresence : b.Keeps b.showPresence otherFields [.spur, .records] :=
  (((b.keeps_set _ _ _ _ (by decide)).trans (Block.keeps_set _ _ _ _ _ (by decide))).trans
    (Block.keeps_set _ _ _ _ _ (by decide))).trans (Block.keeps_set _ _ _ _ _ (by decide))

theorem Block.keeps_rmsOthers : b.Keeps (b.rmsOthers l2 l3) otherFields [.spur, .records] := by
  have hof (c : Block) (k : Nat) (l : List Int) (f : Field) (h : f ∈ otherFields) :
      c.Keeps (c.rmsOf k l f).2 otherFields [.spur, .records] :=
    (c.keeps_rmsOf k l f).widen _ _ (by simpa using h) (by simp)
  have hstick (c : Block) (f : Field) (v : Bool) (h : f :: recordFields ⊆ otherFields) :
      c.Keeps (c.whenever v (fun b => b.stick f)) otherFields [.spur, .records] :=
    Block.keeps_when ((c.keeps_stick f 0).widen _ _ h (by simp))
  exact ((((hof b 1 l2 _ (by decide)).trans (hof _ 2 l3 _ (by decide))).trans (Block.keeps_showPresence _)).trans
    (hstick _ _ _ (by decide))).trans (hstick _ _ _ (by decide))

/-- Without a loss of L1. -/
theorem Block.keeps_rmsAll (h : (b.rmsOf 0 l1 R.SPR_STAT_L1_PRESENT).1 = false) :
    b.Keeps (b.rmsAll l1 l2 l3).showPhases presenceFields [.spur, .freeCtr, .records] := by
  rw [Block.rmsAll, Block.whenever_eq_self _ _ h]
  exact (((b.keeps_rmsOf _ _ _).widen _ _ (by decide) (by simp)).trans ((Block.keeps_rmsOthers _ _ _).widen _ _ (by decide)
    (by simp))).trans ((Block.keeps_showPhases _).widen _ _ (by decide) (by simp))

/-- With a loss of L1. -/
theorem Block.keeps_rmsAll_lost : b.Keeps (b.rmsAll l1 l2 l3).showPhases (R.SPR_TROUBLE_MAINS_LOSS :: presenceFields)
    [.spur, .freeCtr, .records] := by
  have hstick (c : Block) (v : Bool) : c.Keeps (c.whenever v (fun b => b.stick R.SPR_TROUBLE_MAINS_LOSS))
      (R.SPR_TROUBLE_MAINS_LOSS :: presenceFields) [.spur, .freeCtr, .records] :=
    Block.keeps_when ((c.keeps_stick _ 0).widen _ _ (by decide) (by simp))
  exact ((((b.keeps_rmsOf _ _ _).widen _ _ (by decide) (by simp)).trans ((Block.keeps_rmsOthers _ _ _).widen _ _ (by decide)
    (by simp))).trans (hstick _ _)).trans ((Block.keeps_showPhases _).widen _ _ (by decide) (by simp))

/-- PRESENT of L1 is what its own computation says. -/
theorem Block.rmsAll_present :
    (b.rmsAll l1 l2 l3).showPhases.get R.SPR_STAT_L1_PRESENT = (b.rmsOf 0 l1 R.SPR_STAT_L1_PRESENT).2.get R.SPR_STAT_L1_PRESENT := by
  have hstick (c : Block) (v : Bool) : (c.whenever v (fun b => b.stick R.SPR_TROUBLE_MAINS_LOSS)).get R.SPR_STAT_L1_PRESENT =
      c.get R.SPR_STAT_L1_PRESENT := (Block.keeps_when (c.keeps_stick _ 0)).1 _ (by decide) (by decide)
  exact ((Block.keeps_showPhases _).1 _ (by decide) (by decide)).trans ((hstick _ _).trans
    ((Block.keeps_rmsOthers _ l2 l3).1 _ (by decide) (by decide)))

theorem Block.rmsAll_mainsLoss (h : (b.rmsOf 0 l1 R.SPR_STAT_L1_PRESENT).1 = true) :
    (b.rmsAll l1 l2 l3).showPhases.get R.SPR_TROUBLE_MAINS_LOSS = 1 := by
  rw [Block.rmsAll, Block.whenever_eq_apply _ _ h]
  exact ((Block.keeps_showPhases _).1 _ (by decide) (by decide)).trans (Block.stick_get_one _ _ rfl (by decide) (by decide))

end

/-! SPUR_RMS_UPDATE. -/

/-- M1 is entered with L1 absent and its loss recorded. -/
structure Block.MainsLost (b : Block) : Prop where
  mode : b.mode = 1
  absent : b.get R.SPR_STAT_L1_PRESENT = 0
  loss : b.get R.SPR_TROUBLE_MAINS_LOSS = 1

theorem Block.loseSupply_mainsLost (b : Block) (hm : 3 ≤ b.mode) (hp : b.get R.SPR_STAT_L1_PRESENT = 0)
    (hl : b.get R.SPR_TROUBLE_MAINS_LOSS = 1) : (b.loseSupply 1).MainsLost := by
  rw [show b.loseSupply 1 = b.holdUp 1 from if_pos hm]
  have hsame := b.holdUp_sameSpur 1
  exact ⟨b.holdUp_mode 1, (hsame _ (by decide)).trans hp, (hsame _ (by decide)).trans hl⟩

/-- In M9 the loss alone is seen (R440). -/
theorem Block.rmsRow_standby (b : Block) (l1 l2 l3 : List Int) (hm : b.mode = 9)
    (h : rmsBelow l1 (b.phase 0).rmsWindow 70 = true) : (b.rmsRow l1 l2 l3).MainsLost := by
  have e : b.rmsRow l1 l2 l3 = ((b.set R.SPR_STAT_L1_PRESENT 0).stick R.SPR_TROUBLE_MAINS_LOSS).loseSupply 1 := by
    unfold Block.rmsRow
    rw [if_neg (by omega), if_pos hm, if_pos h]
  have hstick := (b.set R.SPR_STAT_L1_PRESENT 0).keeps_stick R.SPR_TROUBLE_MAINS_LOSS 0
  rw [e]
  refine Block.loseSupply_mainsLost _ ?_ ?_ (Block.stick_get_one _ _ rfl (by decide) (by decide))
  · have hmode : ((b.set R.SPR_STAT_L1_PRESENT 0).stick R.SPR_TROUBLE_MAINS_LOSS).mode = b.mode :=
      (hstick.1 _ (by decide) (by decide)).trans (b.get_set_ne _ _ _ (by decide))
    omega
  · exact (hstick.1 _ (by decide) (by decide)).trans (b.get_set_self _ _)

theorem Block.rmsRow_running (b : Block) (l1 l2 l3 : List Int) (hrun : b.running = true) : b.rmsRow l1 l2 l3 =
    if (b.rmsOf 0 l1 R.SPR_STAT_L1_PRESENT).1 then (b.rmsAll l1 l2 l3).showPhases.loseSupply 1 else (b.rmsAll l1 l2 l3).showPhases := by
  simp only [Block.running, decide_eq_true_eq] at hrun
  unfold Block.rmsRow
  rw [if_neg (by omega), if_neg hrun.2, Block.rmsUpdate_eq]

theorem Block.rmsRow_lost (b : Block) (l1 l2 l3 : List Int) (hm : 3 ≤ b.mode) (hrun : b.running = true)
    (h : rmsBelow l1 (b.phase 0).rmsWindow 70 = true) (hlow : (b.phase 0).low = false) : (b.rmsRow l1 l2 l3).MainsLost := by
  have hlost : (b.rmsOf 0 l1 R.SPR_STAT_L1_PRESENT).1 = true := by rw [Block.rmsOf_lost, h, hlow]; rfl
  have hmode : (b.rmsAll l1 l2 l3).showPhases.mode = b.mode := (b.keeps_rmsAll_lost l1 l2 l3).1 _ (by decide) (by decide)
  rw [b.rmsRow_running l1 l2 l3 hrun, if_pos hlost]
  exact Block.loseSupply_mainsLost _ (by omega) ((b.rmsAll_present l1 l2 l3).trans (b.rmsOf_absent 0 l1 _ h))
    (b.rmsAll_mainsLoss l1 l2 l3 hlost)

theorem spurRmsUpdate_lost (s : State) (l1 l2 l3 : List Int) (hm : 3 ≤ s.blk.mode)
    (h : rmsBelow l1 (s.blk.phase 0).rmsWindow 70 = true) (hlow : s.blk.mode = 9 ∨ (s.blk.phase 0).low = false) :
    ∃ t, exec (.spurRmsUpdate l1 l2 l3) s = .next t ∧ t.blk.mode = 1 ∧ t.blk.get R.SPR_STAT_L1_PRESENT = 0 ∧
      t.blk.get R.SPR_TROUBLE_MAINS_LOSS = 1 ∧ t.otp = s.otp ∧ t.pending = s.pending := by
  have hlost : (s.blk.rmsRow l1 l2 l3).MainsLost := by
    by_cases hstandby : s.blk.mode = 9
    · exact s.blk.rmsRow_standby l1 l2 l3 hstandby h
    · exact s.blk.rmsRow_lost l1 l2 l3 hm (by simp only [Block.running, decide_eq_true_eq]; omega) h (hlow.resolve_left hstandby)
  exact ⟨_, rfl, (State.run_get s _ _ (by decide)).trans hlost.mode, (State.run_get s _ _ (by decide)).trans hlost.absent,
    (State.run_get s _ _ (by decide)).trans hlost.loss, rfl, rfl⟩

theorem spurRmsUpdate_present (s : State) (l1 l2 l3 : List Int) (hrun : s.blk.running = true)
    (h : rmsAbove l1 (s.blk.phase 0).rmsWindow 80 = true)
    (hbefore : ((2 * (s.blk.phase 0).above + 1) % 2 ^ 512).testBit (s.blk.phase 0).rmsSteps = true) :
    ∃ t, exec (.spurRmsUpdate l1 l2 l3) s = .next t ∧ t.blk.get R.SPR_STAT_L1_PRESENT = 1 ∧
      s.Keeps t presenceFields [.spur, .freeCtr, .records] := by
  have hlost : (s.blk.rmsOf 0 l1 R.SPR_STAT_L1_PRESENT).1 = false := by
    rw [Block.rmsOf_lost, rmsBelow_of_rmsAbove l1 _ h]; rfl
  have e : s.blk.rmsRow l1 l2 l3 = (s.blk.rmsAll l1 l2 l3).showPhases := by
    rw [s.blk.rmsRow_running l1 l2 l3 hrun, if_neg (by simp [hlost])]
  refine ⟨_, rfl, ?_, State.keeps_run s _ _ _ ?_⟩
  · rw [State.run_get s _ _ (by decide), e, Block.rmsAll_present]
    exact s.blk.rmsOf_present 0 l1 _ rfl h hbefore
  · rw [e]
    exact s.blk.keeps_rmsAll l1 l2 l3 hlost

end Sys2Proof.Machine
end

section
/-! O13. -/

namespace Sys2Proof.Machine

/-- Settles O13: a crossing in each state of a phase's filter (R142), the loss and the presence of L1 (R144), and the noise phase
profile (R145, R146, R150). -/
theorem spurAndProfile : Obligations.SpurAndProfile := by
  refine ⟨?_, ?_, ?_, ?_, ?_, spurRmsUpdate_lost, spurRmsUpdate_present, nppSwap_swaps, ?_, sprNppCtrlWrite_takes,
    sprNppCtrlWrite_refused⟩
  · intro s k volts mid time z hrun hk hheld hc hz hacq
    exact spurCrossing_first ⟨hrun, hk, hheld, hc, hz⟩ time hacq
  · rintro s k volts mid time z _ hrun hk hheld hc hz hacq rfl hmin hmax
    exact spurCrossing_second ⟨hrun, hk, hheld, hc, hz⟩ time hacq hmin hmax
  · rintro s k volts mid time z _ hrun hk hheld hc hz hacq rfl hmax hmin
    exact spurCrossing_tracks ⟨hrun, hk, hheld, hc, hz⟩ time hacq hmax hmin
  · rintro s k volts mid time z _ hrun hk hheld hc hz hacq rfl he hr
    exact spurCrossing_rejects ⟨hrun, hk, hheld, hc, hz⟩ time hacq he hr
  · intro s k volts mid time hc
    exact s.runOn_unchanged _ (s.blk.crossing_idle k volts mid time hc)
  · intro s hc
    exact s.runOn_unchanged _ (nppSwap_incomplete s.blk hc)

end Sys2Proof.Machine
end

section
/-! Registers that only show what was found (R120, R192): what reads the configuration does not see them change. -/

namespace Sys2Proof.Machine

/-- The drivers' junction temperatures (R120). -/
def tempFields : List Field := [R.LFE_L_TEMP, R.LFE_DRV_TEMP 0, R.LFE_DRV_TEMP 1, R.LFE_DRV_TEMP 2, R.LFE_DRV_TEMP 3]

/-- The junction temperatures, and the count of the blocks that did not converge (R192). -/
def shownFields : List Field := R.PHY_BLOCK_FAIL_COUNT :: tempFields

/-- The registers of a port that the choice of ports and the checks of modes read (R118, R165, R167). -/
def portConfig (p : Nat) : List Field :=
  [R.LFE_STAT_PHASE_PRESENT p, R.LFE_CFG_H_PROFILE p, R.LFE_CFG_L_PROFILE p, R.LFE_CFG_H_CENTRE p]

theorem portConfig_notMem_shown (p : Nat) : ∀ f ∈ portConfig p,
    f.key ∉ shownFields.map Field.key ∧ f.key ≠ R.TRB_SUMMARY.key := by
  simp only [portConfig, shownFields, tempFields, List.map_cons, List.map_nil, List.mem_cons, List.not_mem_nil,
    or_false, not_or, R.LFE_STAT_PHASE_PRESENT, R.LFE_CFG_H_PROFILE, R.LFE_CFG_L_PROFILE, R.LFE_CFG_H_CENTRE, R.PHY_BLOCK_FAIL_COUNT,
    R.LFE_L_TEMP, R.LFE_DRV_TEMP, R.TRB_SUMMARY]
  rintro _ (rfl | rfl | rfl | rfl)
  all_goals
    dsimp only
    omega

section
variable {b c : Block} {ps : List Part} (h : b.Keeps c shownFields ps)
include h

theorem Block.Keeps.shown_port (p : Nat) {f : Field} (hf : f ∈ portConfig p) : c.get f = b.get f :=
  have hp := portConfig_notMem_shown p f hf
  h.1 f hp.1 hp.2

theorem Block.Keeps.shown_profile (band p : Nat) : c.profile band p = b.profile band p := by
  rw [Block.profile, Block.profile, h.shown_port p (f := R.LFE_CFG_H_PROFILE p) (by simp [portConfig]),
    h.shown_port p (f := R.LFE_CFG_L_PROFILE p) (by simp [portConfig])]

theorem Block.Keeps.shown_hPorts (hf : .front ∉ ps) : c.hPorts = b.hPorts := by
  have hfront : c.front = b.front := h.2 .front hf
  have hfailed : c.get R.TRB_PORT_FAILED = b.get R.TRB_PORT_FAILED := h.1 _ (by decide) (by decide)
  have hpresent (p : Nat) : c.get (R.LFE_STAT_PHASE_PRESENT p) = b.get (R.LFE_STAT_PHASE_PRESENT p) :=
    h.shown_port p (by simp [portConfig])
  simp only [Block.hPorts, Block.inService, Block.bit, Block.flag, h.shown_profile, hfront, hfailed, hpresent]

theorem Block.Keeps.shown_mode : c.mode = b.mode := h.1 _ (by decide) (by decide)

theorem Block.Keeps.shown_netId : c.netId = b.netId := h.1 _ (by decide) (by decide)

theorem Block.Keeps.shown_tooManyStreams (hf : .front ∉ ps) (x : Header) : c.tooManyStreams x = b.tooManyStreams x := by
  rw [Block.tooManyStreams, Block.tooManyStreams, h.shown_hPorts hf]

theorem Block.Keeps.shown_filterKeeps (x : Header) : c.filterKeeps x = b.filterKeeps x := by
  have hshort : c.short = b.short := h.1 _ (by decide) (by decide)
  have hmask : c.get R.MAC_GROUP_MASK = b.get R.MAC_GROUP_MASK := h.1 _ (by decide) (by decide)
  simp only [Block.filterKeeps, Block.bit, h.shown_netId, h.shown_mode, hshort, hmask]

end

end Sys2Proof.Machine
end

section
/-! HEADER_RECEIVED (R163–R165, R192, R266), by what the header block's decoding found. -/

namespace Sys2Proof.Machine

/-! The end of a reception (R135). -/

theorem Block.endReception_eq (b : Block) (r : Reception) :
    b.endReception r = if r.held then b.dropReception r else (b.dropReception r).releaseAgc r.band r.ports := rfl

theorem Block.keeps_endReception (b : Block) (r : Reception) : b.Keeps (b.endReception r) (r.ports.map (frozenField r.band)) [.phy] := by
  rw [Block.endReception_eq]
  exact Block.keeps_ite (b.keeps_dropReception r _) ((b.keeps_dropReception r _).trans (Block.keeps_releaseAgc _ _ _ _))

theorem Block.endReception_sameRx (b : Block) (r : Reception) : (b.dropReception r).SameRx (b.endReception r) := by
  rw [Block.endReception_eq]
  split
  · exact .refl _
  · exact (Block.keeps_releaseAgc _ _ _ []).sameRx (by simp)

/-! A header that failed is counted under its cause, and a capture may begin (R165, R194, R207). -/

/-- The count of a header that failed, and the capture's trigger. -/
def Block.noteBadHeader (b : Block) (c f : Field) : Block := (b.count c f).captureTrigger 3

section
variable (b : Block) (c f : Field)

theorem Block.keeps_noteBadHeader :
    b.Keeps (b.noteBadHeader c f) ([c, f] ++ captureFields ++ recordFields) [.phy, .records] :=
  ((b.keeps_count c f).widen _ _ (fun x hx => by simp only [List.mem_append, List.mem_cons] at hx ⊢; tauto) (by simp)).trans
    ((Block.keeps_captureTrigger _ 3).widen _ _ (fun x hx => by simp only [List.mem_append]; tauto) (by simp))

theorem Block.noteBadHeader_sameRx : b.SameRx (b.noteBadHeader c f) :=
  ((b.keeps_count c f).sameRx (by simp)).trans (Block.captureTrigger_sameRx _ 3)

variable {c f}

theorem Block.noteBadHeader_counter (hf : c.key ≠ f.key) (h : c.key ∉ (captureFields ++ recordFields).map Field.key)
    (hs : c.key ≠ R.TRB_SUMMARY.key) : (b.noteBadHeader c f).get c = (b.get c + 1) % 2 ^ c.width := by
  rw [List.map_append, List.mem_append, not_or] at h
  rw [Block.noteBadHeader, (Block.keeps_captureTrigger _ 3).1 _ h.1 hs, Block.count_get_counter _ _ _ hf h.2 hs]

theorem Block.noteBadHeader_sticky (hw : f.width = 1) (h : f.key ∉ (captureFields ++ recordFields).map Field.key)
    (hs : f.key ≠ R.TRB_SUMMARY.key) : (b.noteBadHeader c f).get f = 1 := by
  rw [List.map_append, List.mem_append, not_or] at h
  rw [Block.noteBadHeader, (Block.keeps_captureTrigger _ 3).1 _ h.1 hs, Block.count_get_sticky _ _ _ hw h.2 hs]

end

/-- A header block whose CRC fails is counted (R163, R194). -/
def Block.noteCrcFailure (b : Block) : Block := b.noteBadHeader R.PHY_HDR_CRC_FAIL_COUNT R.PHY_RX_TROUBLE_HDR_CRC_FAIL

/-- The fields of a failed header's count. -/
def crcFailFields : List Field := [R.PHY_HDR_CRC_FAIL_COUNT, R.PHY_RX_TROUBLE_HDR_CRC_FAIL] ++ captureFields ++ recordFields

/-- The fields of a rejected header (R165). -/
def rejectFields : List Field :=
  [R.PHY_REJECT_LAST_CAUSE, R.PHY_REJECT_LAST_PORT, R.PHY_REJECT_LAST_BAND, R.PHY_HDR_REJECT_COUNT, R.PHY_TROUBLE_HDR_REJECT] ++
    captureFields ++ recordFields

/-- They are among the fields of a reception that its header ends. -/
theorem crcFailFields_subset (l : List Field) : crcFailFields ⊆
    [R.PHY_BLOCK_FAIL_COUNT, R.PHY_HDR_CRC_FAIL_COUNT, R.PHY_RX_TROUBLE_HDR_CRC_FAIL] ++ captureFields ++ l ++ recordFields := by
  intro x hx
  rw [crcFailFields, List.mem_append, List.mem_append] at hx
  simp only [List.mem_append]
  obtain (h | h) | h := hx
  · exact .inl (.inl (.inl (List.mem_cons_of_mem _ h)))
  · exact .inl (.inl (.inr h))
  · exact .inr h

theorem Block.keeps_noteCrcFailure (b : Block) : b.Keeps b.noteCrcFailure crcFailFields [.phy, .records] :=
  b.keeps_noteBadHeader _ _

theorem Block.noteCrcFailure_sameRx (b : Block) : b.SameRx b.noteCrcFailure := b.noteBadHeader_sameRx _ _

theorem Block.noteCrcFailure_count (b : Block) :
    b.noteCrcFailure.get R.PHY_HDR_CRC_FAIL_COUNT = (b.get R.PHY_HDR_CRC_FAIL_COUNT + 1) % 2 ^ R.PHY_HDR_CRC_FAIL_COUNT.width :=
  b.noteBadHeader_counter (by decide) (by decide) (by decide)

theorem Block.noteCrcFailure_sticky (b : Block) : b.noteCrcFailure.get R.PHY_RX_TROUBLE_HDR_CRC_FAIL = 1 :=
  b.noteBadHeader_sticky rfl (by decide) (by decide)

section
variable (b : Block) (band p cause : Nat)

/-- What was wrong with a rejected header is kept. -/
def Block.noteReject : Block :=
  ((b.set R.PHY_REJECT_LAST_CAUSE cause).set R.PHY_REJECT_LAST_PORT p).set R.PHY_REJECT_LAST_BAND band

theorem Block.rejectHeader_eq : b.rejectHeader band p cause =
    (b.noteReject band p cause).noteBadHeader R.PHY_HDR_REJECT_COUNT R.PHY_TROUBLE_HDR_REJECT := rfl

theorem Block.keeps_noteReject (ps : List Part) : b.Keeps (b.noteReject band p cause) rejectFields ps :=
  ((b.keeps_set _ _ _ _ (by decide)).trans (Block.keeps_set _ _ _ _ _ (by decide))).trans (Block.keeps_set _ _ _ _ _ (by decide))

theorem Block.keeps_rejectHeader : b.Keeps (b.rejectHeader band p cause) rejectFields [.phy, .records] :=
  (b.keeps_noteReject band p cause _).trans ((Block.keeps_noteBadHeader _ _ _).widen _ _ (by decide) (List.Subset.refl _))

theorem Block.rejectHeader_sameRx : b.SameRx (b.rejectHeader band p cause) :=
  ((b.keeps_noteReject band p cause []).sameRx (by simp)).trans (Block.noteBadHeader_sameRx _ _ _)

theorem Block.rejectHeader_cause :
    (b.rejectHeader band p cause).get R.PHY_REJECT_LAST_CAUSE = cause % 2 ^ R.PHY_REJECT_LAST_CAUSE.width := by
  rw [Block.rejectHeader_eq, (Block.keeps_noteBadHeader _ _ _).1 _ (by decide) (by decide), Block.noteReject,
    Block.get_set_ne _ _ _ _ (by decide), Block.get_set_ne _ _ _ _ (by decide), Block.get_set_self]

theorem Block.rejectHeader_count :
    (b.rejectHeader band p cause).get R.PHY_HDR_REJECT_COUNT = (b.get R.PHY_HDR_REJECT_COUNT + 1) % 2 ^ R.PHY_HDR_REJECT_COUNT.width := by
  rw [Block.rejectHeader_eq, Block.noteBadHeader_counter _ (by decide) (by decide) (by decide), Block.noteReject,
    Block.get_set_ne _ _ _ _ (by decide), Block.get_set_ne _ _ _ _ (by decide), Block.get_set_ne _ _ _ _ (by decide)]

theorem Block.rejectHeader_sticky : (b.rejectHeader band p cause).get R.PHY_TROUBLE_HDR_REJECT = 1 :=
  Block.noteBadHeader_sticky _ rfl (by decide) (by decide)

end

/-! The steps of a header that passes its CRC and breaks no rule. -/

/-- The blocks of a header that did not converge are counted (R192). -/
def Block.countHeader (b : Block) (soft : List SoftBit) : Block := b.add R.PHY_BLOCK_FAIL_COUNT (b.decodeHeader soft).fails

/-- The equaliser is trained over the header, and carrier sense stays busy for the frame (R189, R260). -/
def Block.takeHeader (b : Block) (band : Nat) (r : Reception) (h : Header) (train : List EqStep) : Block :=
  let b := b.setEqualiser r ((b.equaliser r).train b.eqSteps train)
  if r.collect then b else b.senseHeader band h

/-- The filter drops the frame (R266). -/
def Block.dropHeader (b : Block) (r : Reception) (h : Header) : Block :=
  ((if h.net ≠ b.netId then b.set R.MAC_LAST_FOREIGN_NET h.net else b).endReception r).bump R.MAC_FILTER_DROP_COUNT

/-- The sender of a header that the filter keeps is noted (R118, R203, R292). -/
def Block.noteSender (b : Block) (band p : Nat) (h : Header) : Block :=
  let b := if h.net = b.netId then b.noteNeighbour h.src else b
  let b := if h.src ≤ 0x3FFF then b.noteHeard h.src band p else b
  b.ladderUpdate h.src band h.margin

/-- A reception whose header is decoded. -/
def Block.headed (b : Block) (band : Nat) (r : Reception) (h : Header) (eps : Nat) : Reception :=
  { r with
    stage := 2, hdr := h, eps := eps
    segEnd := b.segmentEnd h
      ((frameChips h.mode h.span false [h.len]).headD 0 - preambleChips (band == 1) 8 - headerChips h.mode false) }

/-- The filter keeps the frame: its sender is noted, and its reception goes on. -/
def Block.keepHeader (b : Block) (band p : Nat) (r : Reception) (h : Header) (eps : Nat) : Block :=
  (b.noteSender band p h).setReception r ((b.noteSender band p h).headed band r h eps)

theorem Block.keeps_countHeader (b : Block) (soft : List SoftBit) (ps : List Part) :
    b.Keeps (b.countHeader soft) [R.PHY_BLOCK_FAIL_COUNT] ps := b.keeps_set _ _ _ _ (by simp)

theorem Block.shown_countHeader (b : Block) (soft : List SoftBit) (ps : List Part) : b.Keeps (b.countHeader soft) shownFields ps :=
  (b.keeps_countHeader soft ps).widen _ _ (by decide) (List.Subset.refl _)

theorem Block.keeps_takeHeader (b : Block) (band : Nat) (r : Reception) (h : Header) (train : List EqStep) (l : List Field) :
    b.Keeps (b.takeHeader band r h train) l [.phy, .mac] := by
  have hphy (u : PhyUnit) : b.Keeps { b with phy := u } l [.phy, .mac] := b.keeps_phy _ _ _ (by simp)
  exact Block.keeps_ite (hphy _) ((hphy _).trans (Block.keeps_setMac _ _ _ _ (by simp)))

theorem Block.takeHeader_sameRx (b : Block) (band : Nat) (r : Reception) (h : Header) (train : List EqStep) :
    b.SameRx (b.takeHeader band r h train) := by
  unfold Block.takeHeader
  dsimp only
  split
  · exact ⟨rfl, rfl⟩
  · exact ⟨rfl, rfl⟩

theorem Block.keeps_dropHeader (b : Block) (r : Reception) (h : Header) :
    b.Keeps (b.dropHeader r h) ([R.MAC_FILTER_DROP_COUNT, R.MAC_LAST_FOREIGN_NET] ++ r.ports.map (frozenField r.band)) [.phy] :=
  ((Block.keeps_when (b.keeps_set _ _ _ _ (by simp))).trans ((Block.keeps_endReception _ r).widen _ _ (List.subset_append_right _ _)
    (List.Subset.refl _))).trans (Block.keeps_bump _ _ _ _ (by simp))

theorem Block.dropHeader_sameRx (b : Block) (r : Reception) (h : Header) : (b.dropReception r).SameRx (b.dropHeader r h) := by
  have hnet : b.SameRx (if h.net ≠ b.netId then b.set R.MAC_LAST_FOREIGN_NET h.net else b) :=
    (Block.keeps_when (b.keeps_set _ _ [R.MAC_LAST_FOREIGN_NET] [] (by simp))).sameRx (by simp)
  have hend := (if h.net ≠ b.netId then b.set R.MAC_LAST_FOREIGN_NET h.net else b).endReception_sameRx r
  exact ⟨hend.rx.trans (congrArg (List.erase · r) hnet.rx), hend.delivered.trans hnet.delivered⟩

theorem Block.dropHeader_count (b : Block) (r : Reception) (h : Header) (hports : ∀ q ∈ r.ports, q < 4) :
    (b.dropHeader r h).get R.MAC_FILTER_DROP_COUNT = (b.get R.MAC_FILTER_DROP_COUNT + 1) % 2 ^ R.MAC_FILTER_DROP_COUNT.width := by
  have hnet : (if h.net ≠ b.netId then b.set R.MAC_LAST_FOREIGN_NET h.net else b).get R.MAC_FILTER_DROP_COUNT =
      b.get R.MAC_FILTER_DROP_COUNT :=
    (Block.keeps_when (b.keeps_set _ _ [R.MAC_LAST_FOREIGN_NET] [] (by simp))).1 _ (by decide) (by decide)
  rw [Block.dropHeader, Block.bump_get,
    (Block.keeps_endReception _ r).1 _ (notMem_frozenFields _ _ _ hports (by decide)) (by decide), hnet]

theorem Block.modLink_sameRx (b : Block) (a band : Nat) (f : LinkRec → LinkRec) : b.SameRx (b.modLink a band f) :=
  (b.modLink_sameVerdict a band f).toSameRx

theorem Block.ladderUpdate_sameRx (b : Block) (a band bits : Nat) : b.SameRx (b.ladderUpdate a band bits) := by
  have hremote := b.modLink_sameRx a band (fun r => { r with remote := bits })
  unfold Block.ladderUpdate
  dsimp only
  generalize b.modLink a band _ = c at hremote ⊢
  split
  · exact hremote
  · split
    · exact hremote.trans (c.modLink_sameRx a band _)
    · split
      · split
        · exact hremote.trans (c.modLink_sameRx a band _)
        · exact hremote
      · exact hremote

theorem Block.noteSender_sameRx (b : Block) (band p : Nat) (h : Header) : b.SameRx (b.noteSender band p h) := by
  have hknown : b.SameRx (if h.net = b.netId then b.noteNeighbour h.src else b) := by
    unfold Block.noteNeighbour
    split
    · split
      · exact ⟨rfl, rfl⟩
      · exact .refl b
    · exact .refl b
  have hheard (c : Block) : c.SameRx (if h.src ≤ 0x3FFF then c.noteHeard h.src band p else c) := by
    split
    · exact ⟨rfl, rfl⟩
    · exact .refl c
  exact (hknown.trans (hheard _)).trans (Block.ladderUpdate_sameRx _ _ _ _)

/-! What the command makes of the block. -/

section
variable {b : Block} {band p : Nat} {code : Nat × Nat} {soft : List SoftBit} {r : Reception} {h : Header}
  (train : List EqStep)

theorem Block.headerReceived_crcFails (hr : b.receptionAt band p 1 code = some r)
    (hcrc : headerCrcOk (bytesOf 32 (b.decodeHeader soft).bits) = false) :
    b.headerReceived band p code soft train = ((b.countHeader soft).endReception r).noteCrcFailure := by
  simp only [Block.headerReceived, hr]
  exact if_pos hcrc

/-- A header block that passes its CRC is decoded. -/
structure Block.Decodes (b : Block) (band p : Nat) (code : Nat × Nat) (soft : List SoftBit) (r : Reception) (h : Header) : Prop where
  found : b.receptionAt band p 1 code = some r
  crcOk : headerCrcOk (bytesOf 32 (b.decodeHeader soft).bits) = true
  header : h = Header.decode (bytesOf 32 (b.decodeHeader soft).bits)

theorem Block.headerReceived_rejects (hd : b.Decodes band p code soft r h)
    (hcause : headerCause h ((b.profile band p).getD 7) r.collect ≠ 0) :
    b.headerReceived band p code soft train = ((b.countHeader soft).endReception r).rejectHeader band p
      (headerCause h ((b.profile band p).getD 7) r.collect) := by
  obtain ⟨hr, hcrc, rfl⟩ := hd
  rw [← (b.shown_countHeader soft []).shown_profile band p] at hcause ⊢
  simp only [Block.headerReceived, hr]
  exact (if_neg (by simp [hcrc])).trans (if_pos hcause)

/-- A decoded header that breaks no rule of the spec (R165, R182). -/
structure Block.Admits (b : Block) (band p : Nat) (code : Nat × Nat) (soft : List SoftBit) (r : Reception) (h : Header) : Prop
    extends b.Decodes band p code soft r h where
  noCause : headerCause h ((b.profile band p).getD 7) r.collect = 0
  streams : b.tooManyStreams h = false

/-- The header goes to the filter (R266). -/
theorem Block.headerReceived_filters (ha : b.Admits band p code soft r h) :
    b.headerReceived band p code soft train =
      let c := (b.countHeader soft).takeHeader band r h train
      if c.filterKeeps h = false then c.dropHeader r h
      else c.keepHeader band p r h (b.decodeHeader soft).eps := by
  obtain ⟨⟨hr, hcrc, rfl⟩, hcause, hstreams⟩ := ha
  have hshown := b.shown_countHeader soft []
  rw [← hshown.shown_profile band p] at hcause
  rw [← hshown.shown_tooManyStreams (by simp)] at hstreams
  simp only [Block.headerReceived, hr]
  exact (if_neg (by simp [hcrc])).trans ((if_neg (by rw [ne_eq, not_not]; exact hcause)).trans
    (if_neg (by rw [Block.countHeader] at hstreams; simp [hstreams])))

theorem Block.takeHeader_filterKeeps (b : Block) (soft : List SoftBit) :
    ((b.countHeader soft).takeHeader band r h train).filterKeeps h = b.filterKeeps h :=
  ((b.shown_countHeader soft [.phy, .mac]).trans (Block.keeps_takeHeader _ band r h train _)).shown_filterKeeps h

theorem Block.headerReceived_drops (ha : b.Admits band p code soft r h) (hfilter : b.filterKeeps h = false) :
    b.headerReceived band p code soft train = ((b.countHeader soft).takeHeader band r h train).dropHeader r h :=
  (b.headerReceived_filters train ha).trans (if_pos (by rw [Block.takeHeader_filterKeeps, hfilter]))

theorem Block.headerReceived_keeps (ha : b.Admits band p code soft r h) (hfilter : b.filterKeeps h = true) :
    b.headerReceived band p code soft train =
      ((b.countHeader soft).takeHeader band r h train).keepHeader band p r h (b.decodeHeader soft).eps :=
  (b.headerReceived_filters train ha).trans (if_neg (by simp [Block.takeHeader_filterKeeps, hfilter]))

/-! The parent's frames resynchronise the node (R275). -/

/-- Nothing of a resynchronisation touches receptions. -/
theorem Block.resyncFrom_sameRx (b : Block) (a : Nat) : b.SameRx (b.resyncFrom a) := by
  have hset (c : Block) (f : Field) (v : Nat) : c.SameRx (c.set f v) := ⟨rfl, rfl⟩
  have hmac (c : Block) (u : MacUnit) : c.SameRx (c.setMac u) := ⟨rfl, rfl⟩
  have hguard (c : Block) : c.SameRx c.showGuard :=
    ((c.keeps_openRound _ [] [.freeCtr] (by simp)).sameRx (by simp)).trans (hset _ _ _)
  have hask (c : Block) (m : Nat) : c.SameRx (c.askMode m) := by
    unfold Block.askMode
    split
    · exact .refl c
    · split
      · exact ⟨rfl, rfl⟩
      · exact ⟨rfl, rfl⟩
  unfold Block.resyncFrom
  split
  · dsimp only
    generalize hc : Block.showGuard _ = c
    have hresynced : b.SameRx c := by
      rw [← hc]
      refine .trans ?_ (hguard _)
      exact ⟨rfl, rfl⟩
    split
    · exact hresynced.trans ((hmac c _).trans (hask _ 5))
    · split
      · exact hresynced.trans (hset c _ _)
      · exact hresynced
  · exact .refl b

/-- A header event whose reception ends resynchronises nothing. -/
theorem Block.headerEvent_ends {c : Block} (hr : b.receptionAt band p 1 code = some r)
    (e : b.headerReceived band p code soft train = c) (hrx : c.phy.rx = b.phy.rx.erase r)
    (hnone : (b.phy.rx.erase r).find?
      (fun x => x.band == band && x.ports.contains p && x.stage == 2 && (!x.collect || x.code == code)) = none) :
    b.headerEvent band p code soft train = c := by
  have hgone : c.receptionAt band p 2 code = none := by rw [Block.receptionAt, hrx]; exact hnone
  simp only [Block.headerEvent, hr, e, hgone]

theorem Block.headerEvent_sameRx (hr : b.receptionAt band p 1 code = some r) :
    (b.headerReceived band p code soft train).SameRx (b.headerEvent band p code soft train) := by
  simp only [Block.headerEvent, hr]
  split
  · exact Block.resyncFrom_sameRx _ _
  · exact .refl _

end

end Sys2Proof.Machine
end

section
/-! HEADER_RECEIVED as `Obligations.HeadersAndSegments` states it: one lemma for each clause. -/

namespace Sys2Proof.Machine

theorem Block.keepHeader_rx (b : Block) (band p : Nat) (r : Reception) (h : Header) (eps : Nat) :
    (b.keepHeader band p r h eps).phy.rx = b.phy.rx.replace r ((b.noteSender band p h).headed band r h eps) :=
  congrArg (List.replace · r _) (b.noteSender_sameRx band p h).rx

/-- No other reception of a band and port waits for its payload. -/
def Block.NoneBehind (b : Block) (band p : Nat) (code : Nat × Nat) (r : Reception) : Prop :=
  (b.phy.rx.erase r).find? (fun x => x.band == band && x.ports.contains p && x.stage == 2 && (!x.collect || x.code == code)) = none

section
variable {s : State} {band p : Nat} {code : Nat × Nat} {soft : List SoftBit} {r : Reception} {h : Header} (train : List EqStep)
  (hrun : s.blk.running = true)
include hrun

theorem headerReceived_ends (hr : s.blk.receptionAt band p 1 code = some r) (hports : ∀ q ∈ r.ports, q < 4)
    (hcrc : headerCrcOk (bytesOf 32 (s.blk.decodeHeader soft).bits) = false) (hnone : s.blk.NoneBehind band p code r) :
    ∃ t, exec (.headerReceived ⟨band, p, code⟩ soft train) s = .next t ∧ t.blk.phy.rx = s.blk.phy.rx.erase r ∧
      t.blk.get R.PHY_BLOCK_FAIL_COUNT =
        (s.blk.get R.PHY_BLOCK_FAIL_COUNT + (s.blk.decodeHeader soft).fails) % 2 ^ R.PHY_BLOCK_FAIL_COUNT.width ∧
      t.blk.get R.PHY_HDR_CRC_FAIL_COUNT = (s.blk.get R.PHY_HDR_CRC_FAIL_COUNT + 1) % 2 ^ R.PHY_HDR_CRC_FAIL_COUNT.width ∧
      t.blk.get R.PHY_RX_TROUBLE_HDR_CRC_FAIL = 1 ∧
      s.Keeps t ([R.PHY_BLOCK_FAIL_COUNT, R.PHY_HDR_CRC_FAIL_COUNT, R.PHY_RX_TROUBLE_HDR_CRC_FAIL] ++ captureFields ++
        r.ports.map (frozenField band) ++ recordFields) [.phy, .records] := by
  have hband := Block.receptionAt_band hr
  subst hband
  have hcount := s.blk.keeps_countHeader soft
  have hend := (s.blk.countHeader soft).keeps_endReception r
  have hnote := ((s.blk.countHeader soft).endReception r).keeps_noteCrcFailure
  have hrx : (((s.blk.countHeader soft).endReception r).noteCrcFailure).phy.rx = s.blk.phy.rx.erase r :=
    (Block.noteCrcFailure_sameRx _).rx.trans ((s.blk.countHeader soft).endReception_sameRx r).rx
  have hendGet (f : Field) (hf : f.key < 3145728 ∨ 3276800 ≤ f.key) (hs : f.key ≠ R.TRB_SUMMARY.key) :
      ((s.blk.countHeader soft).endReception r).get f = (s.blk.countHeader soft).get f :=
    hend.1 f (notMem_frozenFields _ _ _ hports hf) hs
  refine ⟨_, congrArg Host.Outcome.next (s.runOn_eq _ _ hrun
    (Block.headerEvent_ends train hr (s.blk.headerReceived_crcFails train hr hcrc) hrx hnone)), (s.run_sameRx (.refl _)).rx.trans hrx,
    ?_, ?_, ?_, State.keeps_run s _ _ _ ?_⟩
  · rw [State.run_get s _ _ (by decide), hnote.1 _ (by decide) (by decide), hendGet _ (by decide) (by decide)]
    exact Block.get_set_self _ _ _
  · rw [State.run_get s _ _ (by decide), Block.noteCrcFailure_count, hendGet _ (by decide) (by decide),
      (hcount []).1 _ (by decide) (by decide)]
  · exact (State.run_get s _ _ (by decide)).trans (Block.noteCrcFailure_sticky _)
  · exact (((hcount _).widen _ _ (by simp) (List.Subset.refl _)).trans
      (hend.widen _ _ (fun _ hx => List.mem_append_left _ (List.mem_append_right _ hx)) (by simp))).trans
      (hnote.widen _ _ (crcFailFields_subset _) (List.Subset.refl _))

theorem headerReceived_goesOn (ha : s.blk.Admits band p code soft r h) (hfilter : s.blk.filterKeeps h = true) :
    ∃ t r', exec (.headerReceived ⟨band, p, code⟩ soft train) s = .next t ∧ r'.stage = 2 ∧ r'.hdr = h ∧ r'.ports = r.ports ∧
      t.blk.phy.rx = s.blk.phy.rx.replace r r' ∧ t.otp = s.otp ∧ t.pending = s.pending := by
  have htake := (s.blk.countHeader soft).takeHeader_sameRx band r h train
  have hrx := Block.keepHeader_rx ((s.blk.countHeader soft).takeHeader band r h train) band p r h (s.blk.decodeHeader soft).eps
  rw [htake.rx, ← s.blk.headerReceived_keeps train ha hfilter] at hrx
  refine ⟨_, Block.headed _ band r h _, congrArg Host.Outcome.next (s.runOn_eq _ _ hrun rfl), rfl, rfl, rfl,
    (s.run_sameRx (s.blk.headerEvent_sameRx train ha.found)).rx.trans hrx, rfl, rfl⟩

theorem headerReceived_dropped (ha : s.blk.Admits band p code soft r h) (hports : ∀ q ∈ r.ports, q < 4)
    (hfilter : s.blk.filterKeeps h = false) (hnone : s.blk.NoneBehind band p code r) :
    ∃ t, exec (.headerReceived ⟨band, p, code⟩ soft train) s = .next t ∧ t.blk.phy.rx = s.blk.phy.rx.erase r ∧
      t.blk.get R.MAC_FILTER_DROP_COUNT = (s.blk.get R.MAC_FILTER_DROP_COUNT + 1) % 2 ^ R.MAC_FILTER_DROP_COUNT.width ∧
      s.Keeps t ([R.PHY_BLOCK_FAIL_COUNT, R.MAC_FILTER_DROP_COUNT, R.MAC_LAST_FOREIGN_NET] ++ r.ports.map (frozenField band))
        [.phy, .mac] := by
  have hband := Block.receptionAt_band ha.found
  subst hband
  have hcount := s.blk.keeps_countHeader soft
  have htake := (s.blk.countHeader soft).keeps_takeHeader r.band r h train
  have hdrop := ((s.blk.countHeader soft).takeHeader r.band r h train).keeps_dropHeader r h
  have hrx : (((s.blk.countHeader soft).takeHeader r.band r h train).dropHeader r h).phy.rx = s.blk.phy.rx.erase r :=
    (Block.dropHeader_sameRx _ r h).rx.trans
      (congrArg (List.erase · r) ((s.blk.countHeader soft).takeHeader_sameRx r.band r h train).rx)
  refine ⟨_, congrArg Host.Outcome.next (s.runOn_eq _ _ hrun
    (Block.headerEvent_ends train ha.found (s.blk.headerReceived_drops train ha hfilter) hrx hnone)),
    (s.run_sameRx (.refl _)).rx.trans hrx, ?_, State.keeps_run s _ _ _ ?_⟩
  · rw [State.run_get s _ _ (by decide), Block.dropHeader_count _ r h hports, (htake []).1 _ (by simp) (by decide),
      (hcount []).1 _ (by decide) (by decide)]
  · exact (((hcount _).widen _ _ (by simp) (List.Subset.refl _)).trans (htake _)).trans
      (hdrop.widen _ _ (fun x hx => by simp only [List.mem_append, List.mem_cons] at hx ⊢; tauto) (by simp))

theorem headerReceived_rejected (hd : s.blk.Decodes band p code soft r h) (hports : ∀ q ∈ r.ports, q < 4)
    (hcause : headerCause h ((s.blk.profile band p).getD 7) r.collect ≠ 0) (hnone : s.blk.NoneBehind band p code r) :
    ∃ t, exec (.headerReceived ⟨band, p, code⟩ soft train) s = .next t ∧ t.blk.phy.rx = s.blk.phy.rx.erase r ∧
      t.blk.get R.PHY_REJECT_LAST_CAUSE =
        headerCause h ((s.blk.profile band p).getD 7) r.collect % 2 ^ R.PHY_REJECT_LAST_CAUSE.width ∧
      t.blk.get R.PHY_HDR_REJECT_COUNT = (s.blk.get R.PHY_HDR_REJECT_COUNT + 1) % 2 ^ R.PHY_HDR_REJECT_COUNT.width ∧
      t.blk.get R.PHY_TROUBLE_HDR_REJECT = 1 ∧
      s.Keeps t ([R.PHY_BLOCK_FAIL_COUNT, R.PHY_REJECT_LAST_CAUSE, R.PHY_REJECT_LAST_PORT, R.PHY_REJECT_LAST_BAND, R.PHY_HDR_REJECT_COUNT,
        R.PHY_TROUBLE_HDR_REJECT] ++ captureFields ++ r.ports.map (frozenField band) ++ recordFields) [.phy, .records] := by
  have e := s.blk.headerReceived_rejects train hd hcause
  have hband := Block.receptionAt_band hd.found
  subst hband
  generalize headerCause h ((s.blk.profile r.band p).getD 7) r.collect = cause at e ⊢
  have hcount := s.blk.keeps_countHeader soft
  have hend := (s.blk.countHeader soft).keeps_endReception r
  have hreject := ((s.blk.countHeader soft).endReception r).keeps_rejectHeader r.band p cause
  have hrx : (((s.blk.countHeader soft).endReception r).rejectHeader r.band p cause).phy.rx = s.blk.phy.rx.erase r :=
    (Block.rejectHeader_sameRx _ _ _ _).rx.trans ((s.blk.countHeader soft).endReception_sameRx r).rx
  refine ⟨_, congrArg Host.Outcome.next (s.runOn_eq _ _ hrun (Block.headerEvent_ends train hd.found e hrx hnone)),
    (s.run_sameRx (.refl _)).rx.trans hrx, ?_, ?_, ?_, State.keeps_run s _ _ _ ?_⟩
  · exact (State.run_get s _ _ (by decide)).trans (Block.rejectHeader_cause _ _ _ _)
  · rw [State.run_get s _ _ (by decide), Block.rejectHeader_count, hend.1 _ (notMem_frozenFields _ _ _ hports (by decide)) (by decide),
      (hcount []).1 _ (by decide) (by decide)]
  · exact (State.run_get s _ _ (by decide)).trans (Block.rejectHeader_sticky _ _ _ _)
  · exact (((hcount _).widen _ _ (by simp) (List.Subset.refl _)).trans
      (hend.widen _ _ (fun _ hx => List.mem_append_left _ (List.mem_append_right _ hx)) (by simp))).trans
      (hreject.widen _ _ (fun x hx => by simp only [rejectFields, List.mem_append, List.mem_cons] at hx ⊢; tauto) (List.Subset.refl _))

end

end Sys2Proof.Machine
end

section
/-! FOLLOW_ON_HEADER (R174, R175), SEGMENT_SEARCH (R187), and the settlement of `Obligations.HeadersAndSegments`. -/

namespace Sys2Proof.Machine

/-! Follow-on headers. -/

/-- A follow-on header's copies, decoded (R174, R192). -/
def Block.decodeFollow (b : Block) (r : Reception) (soft : List SoftBit) : Decoded :=
  decodeCopies (b.get R.PHY_DEC_ITER) 24 0 (modeRep r.hdr.mode) 80 r.hdr.control (b.gateData r) soft

/-- The counter of the last frame of a train so far (R174). -/
def Reception.lastCtr (r : Reception) : Nat := match r.parts.getLast? with | some x => x.ctr | none => r.hdr.ctr

/-- The frame that a follow-on header announces. -/
def FollowOn.part (f : FollowOn) : RxPart :=
  { ctr := f.ctr, ackReq := f.ackReq, sec := f.sec, epoch := f.epoch, payload := [], ok := false, len := f.len, more := f.more }

/-- A train that has ended early: its AGCs are released, the frames before its end stand and await their verdict (R175). -/
def Block.cutTrain (b : Block) (band : Nat) (r : Reception) : Block :=
  (b.setReception r { r with stage := 3 }).releaseAgc band r.ports

theorem Block.keeps_setReception (b : Block) (r r' : Reception) (l : List Field) : b.Keeps (b.setReception r r') l [.phy] :=
  b.keeps_phy _ _ _ (by simp)

theorem Block.keeps_cutTrain (b : Block) (band : Nat) (r : Reception) :
    b.Keeps (b.cutTrain band r) (r.ports.map (frozenField band)) [.phy] :=
  (b.keeps_setReception _ _ _).trans (Block.keeps_releaseAgc _ _ _ _)

theorem Block.cutTrain_rx (b : Block) (band : Nat) (r : Reception) :
    (b.cutTrain band r).phy.rx = b.phy.rx.replace r { r with stage := 3 } :=
  ((Block.keeps_releaseAgc _ band r.ports []).sameRx (by simp)).rx

/-- The failed blocks of a follow-on header are counted (R192). -/
def Block.countFollow (b : Block) (r : Reception) (soft : List SoftBit) : Block :=
  b.add R.PHY_BLOCK_FAIL_COUNT (b.decodeFollow r soft).fails

theorem Block.keeps_countFollow (b : Block) (r : Reception) (soft : List SoftBit) (ps : List Part) :
    b.Keeps (b.countFollow r soft) [R.PHY_BLOCK_FAIL_COUNT] ps := b.keeps_set _ _ _ _ (by simp)

section
variable {b : Block} {band p : Nat} {soft : List SoftBit} {r : Reception}
  (hr : b.receptionAt band p 2 (0, 0) = some r) (hexp : r.expectsFollow = true)
include hr hexp

theorem Block.followOn_crcFails (hcrc : followCrcOk (bytesOf 10 (b.decodeFollow r soft).bits) = false) :
    b.followOn band p soft = ((b.countFollow r soft).cutTrain band r).noteCrcFailure := by
  simp only [Block.followOn, hr]
  exact (if_neg (by simp [hexp])).trans (if_pos hcrc)

theorem Block.followOn_adds {f : FollowOn} (hf : f = FollowOn.decode (bytesOf 10 (b.decodeFollow r soft).bits))
    (hcrc : followCrcOk (bytesOf 10 (b.decodeFollow r soft).bits) = true) (hpos : 0 < f.len) (hlen : f.len ≤ 4096)
    (hctr : r.lastCtr < f.ctr) :
    b.followOn band p soft = (b.countFollow r soft).setReception r { r with parts := r.parts ++ [f.part] } := by
  subst hf
  simp only [Block.followOn, hr]
  refine (if_neg (by simp [hexp])).trans ((if_neg (by simpa [Block.decodeFollow] using hcrc)).trans (if_neg ?_))
  rintro (h | h | h)
  · exact absurd hpos (by rw [Block.decodeFollow, h]; exact Nat.lt_irrefl 0)
  · exact absurd hlen (Nat.not_le.2 h)
  · exact absurd hctr (Nat.not_lt.2 h)

end

section
variable {s : State} {band p : Nat} {soft : List SoftBit} {r : Reception} (hrun : s.blk.running = true)
  (hr : s.blk.receptionAt band p 2 (0, 0) = some r)
include hrun hr

theorem followOnHeader_lengthens (hexp : r.expectsFollow = true) {f : FollowOn}
    (hf : f = FollowOn.decode (bytesOf 10 (s.blk.decodeFollow r soft).bits))
    (hcrc : followCrcOk (bytesOf 10 (s.blk.decodeFollow r soft).bits) = true) (hpos : 0 < f.len) (hlen : f.len ≤ 4096)
    (hctr : r.lastCtr < f.ctr) :
    ∃ t y, exec (.followOnHeader band p soft) s = .next t ∧ y.ctr = f.ctr ∧ y.len = f.len ∧ y.more = f.more ∧
      t.blk.phy.rx = s.blk.phy.rx.replace r { r with parts := r.parts ++ [y] } ∧ s.Keeps t [R.PHY_BLOCK_FAIL_COUNT] [.phy] :=
  ⟨_, f.part, congrArg Host.Outcome.next (s.runOn_eq _ _ hrun (s.blk.followOn_adds hr hexp hf hcrc hpos hlen hctr)), rfl, rfl, rfl,
    (s.run_sameRx (.refl _)).rx, State.keeps_run s _ _ _ ((s.blk.keeps_countFollow r soft _).trans (Block.keeps_setReception _ _ _ _))⟩

theorem followOnHeader_cuts (hexp : r.expectsFollow = true) (hports : ∀ q ∈ r.ports, q < 4)
    (hcrc : followCrcOk (bytesOf 10 (s.blk.decodeFollow r soft).bits) = false) :
    ∃ t, exec (.followOnHeader band p soft) s = .next t ∧ t.blk.phy.rx = s.blk.phy.rx.replace r { r with stage := 3 } ∧
      t.blk.get R.PHY_HDR_CRC_FAIL_COUNT = (s.blk.get R.PHY_HDR_CRC_FAIL_COUNT + 1) % 2 ^ R.PHY_HDR_CRC_FAIL_COUNT.width ∧
      s.Keeps t ([R.PHY_BLOCK_FAIL_COUNT, R.PHY_HDR_CRC_FAIL_COUNT, R.PHY_RX_TROUBLE_HDR_CRC_FAIL] ++ captureFields ++
        r.ports.map (frozenField band) ++ recordFields) [.phy, .records] := by
  have hcount := s.blk.keeps_countFollow r soft
  have hcut := (s.blk.countFollow r soft).keeps_cutTrain band r
  have hnote := ((s.blk.countFollow r soft).cutTrain band r).keeps_noteCrcFailure
  refine ⟨_, congrArg Host.Outcome.next (s.runOn_eq _ _ hrun (s.blk.followOn_crcFails hr hexp hcrc)),
    (s.run_sameRx (Block.noteCrcFailure_sameRx _)).rx.trans ((s.blk.countFollow r soft).cutTrain_rx band r), ?_,
    State.keeps_run s _ _ _ ?_⟩
  · rw [State.run_get s _ _ (by decide), Block.noteCrcFailure_count,
      hcut.1 _ (notMem_frozenFields _ _ _ hports (by decide)) (by decide), (hcount []).1 _ (by decide) (by decide)]
  · exact (((hcount _).widen _ _ (by simp) (List.Subset.refl _)).trans
      (hcut.widen _ _ (fun _ hx => List.mem_append_left _ (List.mem_append_right _ hx)) (by simp))).trans
      (hnote.widen _ _ (crcFailFields_subset _) (List.Subset.refl _))

end

/-! Continuation segments. -/

/-- A segment that was not found: its bits are erased, and the AGCs stay released until the next one (R187). -/
def Block.missSegment (b : Block) (band : Nat) (r : Reception) : Block :=
  (b.setReception r { r with seg := r.seg + 1, paused := true, missed := r.missed ++ [r.seg + 1] }).releaseAgc band r.ports

theorem Block.keeps_missSegment (b : Block) (band : Nat) (r : Reception) :
    b.Keeps (b.missSegment band r) (r.ports.map (frozenField band)) [.phy] :=
  (b.keeps_setReception _ _ _).trans (Block.keeps_releaseAgc _ _ _ _)

theorem Block.missSegment_rx (b : Block) (band : Nat) (r : Reception) : (b.missSegment band r).phy.rx =
    b.phy.rx.replace r { r with seg := r.seg + 1, paused := true, missed := r.missed ++ [r.seg + 1] } :=
  ((Block.keeps_releaseAgc _ band r.ports []).sameRx (by simp)).rx

/-- A reception whose next segment was found. -/
def Block.segmentFound (b : Block) (r : Reception) : Reception :=
  { r with
    seg := r.seg + 1, paused := false
    segEnd := b.segmentEnd r.hdr ((frameChips r.hdr.mode r.hdr.span false [r.hdr.len]).getD (r.seg + 1) 0) }

/-- Every AGC of a receive set is frozen once all have been (R134). -/
theorem Block.freezeAll_frozen (b : Block) (band q : Nat) (set : List (Nat × Nat)) (hq : q ∈ set.map Prod.fst) :
    (b.freezeAll band set).frozen band q = true := by
  induction set generalizing b with
  | nil => simp at hq
  | cons x xs ih =>
    obtain rfl | hq := List.mem_cons.1 hq
    · exact Block.freezeAll_frozen_of_frozen _ _ _ xs (b.freeze_frozen band x.1 x.2)
    · exact ih _ hq

section
variable {b : Block} {band p power : Nat} {window : List Lane} {r : Reception}
  (hr : b.receptionAt band p 2 (0, 0) = some r) (hseg : r.seg + 1 < r.hdr.span)
include hr hseg

theorem Block.segmentSearch_misses (h : b.listens band p = false ∨ b.findsSegment band window = false) :
    b.segmentSearch band p window power =
      (b.missSegment band r).count R.PHY_SEG_MISSED_COUNT R.PHY_RX_TROUBLE_SEG_MISSED := by
  simp only [Block.segmentSearch, hr]
  refine (if_neg (Nat.not_le.2 hseg)).trans (if_neg ?_)
  rintro ⟨hl, hf⟩
  obtain h | h := h
  · rw [h] at hl; cases hl
  · rw [h] at hf; cases hf

theorem Block.segmentSearch_finds (hl : b.listens band p = true) (hf : b.findsSegment band window = true) :
    b.segmentSearch band p window power =
      let c := b.freezeAll band (r.ports.map (fun q => (q, power)))
      c.setReception r (c.segmentFound r) := by
  simp only [Block.segmentSearch, hr]
  refine (if_neg (Nat.not_le.2 hseg)).trans ((if_pos ⟨hl, hf⟩).trans ?_)
  simp only [Block.freezeAll, Block.forEach, List.foldl_map]
  rfl

end

section
variable {s : State} {band p power : Nat} {window : List Lane} {r : Reception} (hrun : s.blk.running = true)
  (hr : s.blk.receptionAt band p 2 (0, 0) = some r) (hseg : r.seg + 1 < r.hdr.span) (hports : ∀ q ∈ r.ports, q < 4)
include hrun hr hseg hports

theorem segmentSearch_counts (h : s.blk.listens band p = false ∨ s.blk.findsSegment band window = false) :
    ∃ t, exec (.segmentSearch band p ⟨window, power⟩) s = .next t ∧
      t.blk.phy.rx = s.blk.phy.rx.replace r { r with seg := r.seg + 1, paused := true, missed := r.missed ++ [r.seg + 1] } ∧
      t.blk.get R.PHY_SEG_MISSED_COUNT = (s.blk.get R.PHY_SEG_MISSED_COUNT + 1) % 2 ^ R.PHY_SEG_MISSED_COUNT.width ∧
      t.blk.get R.PHY_RX_TROUBLE_SEG_MISSED = 1 ∧
      s.Keeps t ([R.PHY_SEG_MISSED_COUNT, R.PHY_RX_TROUBLE_SEG_MISSED] ++ r.ports.map (frozenField band) ++ recordFields)
        [.phy, .records] := by
  have hmiss := s.blk.keeps_missSegment band r
  have hcount := Block.keeps_count (s.blk.missSegment band r) R.PHY_SEG_MISSED_COUNT R.PHY_RX_TROUBLE_SEG_MISSED
  refine ⟨_, congrArg Host.Outcome.next (s.runOn_eq _ _ hrun (s.blk.segmentSearch_misses hr hseg h)),
    (s.run_sameRx (hcount.sameRx (by simp))).rx.trans (s.blk.missSegment_rx band r), ?_, ?_, State.keeps_run s _ _ _ ?_⟩
  · rw [State.run_get s _ _ (by decide), Block.count_get_counter _ _ _ (by decide) (by decide) (by decide),
      hmiss.1 _ (notMem_frozenFields _ _ _ hports (by decide)) (by decide)]
  · exact (State.run_get s _ _ (by decide)).trans (Block.count_get_sticky _ _ _ rfl (by decide) (by decide))
  · exact (hmiss.widen _ _ (fun _ hx => List.mem_append_left _ (List.mem_append_right _ hx)) (by simp)).trans
      (hcount.widen _ _ (fun x hx => by simp only [List.mem_append, List.mem_cons] at hx ⊢; tauto) (by simp))

theorem segmentSearch_freezes (hl : s.blk.listens band p = true) (hf : s.blk.findsSegment band window = true) :
    ∃ t r', exec (.segmentSearch band p ⟨window, power⟩) s = .next t ∧ (∀ q ∈ r.ports, t.blk.frozen band q = true) ∧
      r'.seg = r.seg + 1 ∧ r'.paused = false ∧ r'.missed = r.missed ∧ t.blk.phy.rx = s.blk.phy.rx.replace r r' ∧
      s.Keeps t (r.ports.map (frozenField band)) [.phy, .front] := by
  have hset : (r.ports.map (fun q => (q, power))).map Prod.fst = r.ports := by simp [Function.comp_def]
  have hfreeze := s.blk.keeps_freezeAll band (r.ports.map (fun q => (q, power)))
  have hfrozen := s.blk.freezeAll_frozen band (set := r.ports.map (fun q => (q, power)))
  rw [hset] at hfreeze
  simp only [hset] at hfrozen
  refine ⟨_, Block.segmentFound _ r, congrArg Host.Outcome.next (s.runOn_eq _ _ hrun (s.blk.segmentSearch_finds hr hseg hl hf)), ?_,
    rfl, rfl, rfl,
    (s.run_sameRx (.refl _)).rx.trans (congrArg (List.replace · r _) (hfreeze.sameRx (by simp)).rx), State.keeps_run s _ _ _ ?_⟩
  · intro q hq
    rw [Block.frozen_eq, Block.flag, State.run_get s _ _ (frozenField_ne_summary band q (hports q hq)), ← Block.flag, ← Block.frozen_eq]
    exact hfrozen q hq
  · exact (hfreeze.widen _ _ (List.Subset.refl _) (by simp)).trans
      ((Block.keeps_setReception _ _ _ _).widen _ _ (List.Subset.refl _) (by simp))

end

/-- Settles O23: one lemma for each clause, from a header's CRC to a continuation segment. -/
theorem headersAndSegments : Obligations.HeadersAndSegments := by
  refine ⟨?_, ?_, ?_, ?_, ?_, ?_, ?_, ?_⟩
  · rintro s band p code soft train r _ hrun hr hports rfl hcrc hnone
    exact headerReceived_ends train hrun hr hports hcrc hnone
  · intro s band p code soft train r h hrun hr hcrc hh hcause hstreams hfilter
    exact headerReceived_goesOn train hrun ⟨⟨hr, hcrc, hh⟩, hcause, hstreams⟩ hfilter
  · intro s band p code soft train r h hrun hr hports hcrc hh hcause hstreams hfilter hnone
    exact headerReceived_dropped train hrun ⟨⟨hr, hcrc, hh⟩, hcause, hstreams⟩ hports hfilter hnone
  · intro s band p code soft train r h hrun hr hports hcrc hh hcause hnone
    exact headerReceived_rejected train hrun ⟨hr, hcrc, hh⟩ hports hcause hnone
  · rintro s band p soft r f _ hrun hr hexp rfl hf hcrc hpos hlen hctr
    exact followOnHeader_lengthens hrun hr hexp hf hcrc hpos hlen hctr
  · intro s band p soft r hrun hr hexp hports hcrc
    exact followOnHeader_cuts hrun hr hexp hports hcrc
  · intro s band p power window r hrun hr hseg hports h
    exact segmentSearch_counts hrun hr hseg hports h
  · intro s band p power window r hrun hr hseg hports hl hf
    exact segmentSearch_freezes hrun hr hseg hports hl hf

end Sys2Proof.Machine
end

section
/-! The junction temperatures (R120), and what the start of a frame reads that they do not change. -/

namespace Sys2Proof.Machine

theorem tempField_mem (k : Nat) (hk : k < 4) : (R.LFE_DRV_TEMP k).key ∈ tempFields.map Field.key := by
  interval_cases k <;> decide

theorem Block.keeps_showTemps (b : Block) (temps : List Int) (ps : List Part) : b.Keeps (b.showTemps temps) tempFields ps := by
  refine b.keeps_forEach _ _ _ _ fun c e he => ?_
  have hlt : e.2 < 5 := lt_of_lt_of_le (List.snd_lt_of_mem_zipIdx he) (by simp)
  split
  · exact c.keeps_set _ _ _ _ (by decide)
  · exact c.keeps_set _ _ _ _ (tempField_mem e.2 (by omega))

theorem Block.keeps_showTemp (b : Block) (d : Nat) (temp : Int) (ps : List Part) : b.Keeps (b.showTemp d temp) tempFields ps := by
  unfold Block.showTemp
  refine Block.keeps_ite (b.keeps_set _ _ _ _ (by decide)) ?_
  split
  · next hd => exact b.keeps_set _ _ _ _ (tempField_mem d hd)
  · exact .refl b _ _

section
variable {b c : Block} (h : b.Keeps c shownFields [])
include h

theorem Block.Keeps.shown_mayTransmit : c.mayTransmit = b.mayTransmit := by
  have hmac : c.mac = b.mac := h.2 .mac (by simp)
  simp only [Block.mayTransmit, h.shown_mode, hmac]

theorem Block.Keeps.shown_bandPlan : c.bandPlan = b.bandPlan := by
  have himage : c.image = b.image := h.2 .image (by simp)
  simp only [Block.bandPlan, Block.segment, himage]

theorem Block.Keeps.shown_budget (band : Nat) : c.budget band = b.budget band := by
  rw [Block.budget, Block.budget, h.1 R.MAC_BUDGET_H (by decide) (by decide), h.1 R.MAC_BUDGET_L (by decide) (by decide)]

theorem Block.Keeps.shown_quietFor (band d : Nat) : c.quietFor band d = b.quietFor band d := by
  have htime : c.time = b.time := h.2 .time (by simp)
  have hnow : c.netNow = b.netNow := by rw [Block.netNow, Block.netNow, Block.now, Block.now, htime]
  have hutc : c.sget R.TIM_UTC_UTC_OFFSET = b.sget R.TIM_UTC_UTC_OFFSET := by
    rw [Block.sget, Block.sget, h.1 R.TIM_UTC_UTC_OFFSET (by decide) (by decide)]
  have hday (t : Nat) : c.dayNs t = b.dayNs t := by rw [Block.dayNs, Block.dayNs, h.shown_bandPlan, hutc]
  have hwindows : c.quietWindows band = b.quietWindows band := by rw [Block.quietWindows, Block.quietWindows, h.shown_bandPlan]
  rw [Block.quietFor, Block.quietFor, hwindows, hnow, hday, h.shown_mode, h.1 R.TIM_BOUND (by decide) (by decide)]

theorem Block.Keeps.shown_forbidden (band : Nat) : c.forbidden band = b.forbidden band := by
  have hpower : c.power = b.power := h.2 .power (by simp)
  have hmac : c.mac = b.mac := h.2 .mac (by simp)
  rw [Block.forbidden, Block.forbidden, h.shown_budget, h.shown_quietFor, hpower, hmac]

theorem Block.Keeps.shown_driverOff (band : Nat) : c.driverOff band = b.driverOff band := by
  have hfront : c.front = b.front := h.2 .front (by simp)
  funext p
  rw [Block.driverOff, Block.driverOff, hfront]

theorem Block.Keeps.shown_lens (f : TxFrame) : c.lens f = b.lens f := by
  have hsec : c.sec = b.sec := h.2 .sec (by simp)
  have hkeyed : c.keyed = b.keyed := by rw [Block.keyed, Block.keyed, hsec]
  have hmic (ftype : Nat) (collect : Bool) : c.micLen ftype collect = b.micLen ftype collect := by rw [Block.micLen, Block.micLen, hsec]
  rw [Block.lens, Block.lens, hkeyed, hmic]

theorem Block.Keeps.shown_txRefused (f : TxFrame) (ports : List Nat) : c.txRefused f ports = b.txRefused f ports := by
  have hgrid : c.get R.GLB_GRID_N = b.get R.GLB_GRID_N := h.1 _ (by decide) (by decide)
  have hcentre (p : Nat) : c.get (R.LFE_CFG_H_CENTRE p) = b.get (R.LFE_CFG_H_CENTRE p) := h.shown_port p (by simp [portConfig])
  simp only [Block.txRefused, h.shown_profile, h.shown_lens, hgrid, hcentre]

theorem Block.Keeps.shown_exhausted : c.exhausted = b.exhausted := by
  have hsec : c.sec = b.sec := h.2 .sec (by simp)
  rw [Block.exhausted, Block.exhausted, Block.keyed, Block.keyed, hsec, h.1 R.SEC_TX_CTR (by decide) (by decide)]

theorem Block.Keeps.shown_budgetOk (f : TxFrame) : c.budgetOk f = b.budgetOk f := by
  have hpower : c.power = b.power := h.2 .power (by simp)
  have hmac : c.mac = b.mac := h.2 .mac (by simp)
  have htick : c.tick = b.tick := h.1 _ (by decide) (by decide)
  have hwindow : c.window f.band = b.window f.band := by rw [Block.window, Block.window, h.shown_bandPlan]
  have hused : c.used f.band = b.used f.band := by rw [Block.used, Block.used, hmac, htick, hwindow]
  have hreserve : c.reserve f.band = b.reserve f.band := by
    rw [Block.reserve, Block.reserve, h.1 R.MAC_RESERVE_H (by decide) (by decide), h.1 R.MAC_RESERVE_L (by decide) (by decide)]
  rw [Block.budgetOk, Block.budgetOk, Block.airtimeOf, Block.airtimeOf, h.shown_lens, h.shown_budget, hused, hreserve, hpower]

end

end Sys2Proof.Machine
end

section
/-! FRAME_TX_START (R118, R158, R167, R263): the frame that goes first, and whether it starts. -/

namespace Sys2Proof.Machine

/-! The ready frame of a band. -/

theorem Block.firstReady_mem {b : Block} {band : Nat} {f : TxFrame} (h : b.firstReady band = some f) :
    f ∈ b.mac.ready.filter (fun f => f.band == band) := by
  unfold Block.firstReady at h
  split at h
  · cases h
  · next g l hl =>
    rw [hl, ← Option.some.inj h]
    refine List.foldlRecOn l _ (motive := fun x => x ∈ g :: l) List.mem_cons_self fun x hx y hy => ?_
    split
    · exact List.mem_cons_of_mem g hy
    · exact hx

theorem Block.firstReady_band {b : Block} {band : Nat} {f : TxFrame} (h : b.firstReady band = some f) : f.band = band :=
  beq_iff_eq.1 (List.mem_filter.1 (b.firstReady_mem h)).2

/-- A ready frame is taken. -/
def Block.takeReady (b : Block) (f : TxFrame) : Block := { b with mac := { b.mac with ready := b.mac.ready.erase f } }

/-- Foldback at the start of a frame of a band (R120). -/
def Block.foldFrame (b : Block) (band : Nat) (ports : List Nat) (temps : List Int) : Block :=
  if band = 0 then b.forEach ports (fun b p => b.applyFoldback 0 p (temps.getD p 0) [p])
  else match ports with | p :: _ => b.applyFoldback 1 p (temps.getD 4 0) ports | [] => b

/-- A frame that may start is sent, and frames that were due with it are lost (R158, R263). -/
def Block.sendFrame (b : Block) (band : Nat) (f : TxFrame) (ports : List Nat) (temps : List Int) (limitNs : List Nat) : Block :=
  let b := ((b.foldFrame band ports temps).launch f ports limitNs).keyLow
  b.loseReady band ((b.phy.tx.getLast?.map (fun t => t.endTick)).getD b.tick)

/-- Whether the frame starts is read from the block as it was before. -/
theorem Block.startFrame_of_ready {b : Block} {band : Nat} {f : TxFrame} (temps : List Int) (limitNs : List Nat)
    (h : b.firstReady band = some f) :
    b.startFrame band temps limitNs =
      let c := (b.takeReady f).showTemps temps
      if b.mayTransmit = false ∨ b.forbidden band = true then c.notStarted f
      else if (b.portsFor f).any (b.driverOff band) = true then c.txAborted f
      else if b.txRefused f (b.portsFor f) = true then (c.count R.PHY_TX_REFUSED_COUNT R.PHY_TROUBLE_TX_REFUSED).txAborted f
      else if b.exhausted = true ∧ protectedType f.hdr.ftype = true ∧ f.sealed = false then
        (c.stick R.SEC_TROUBLE_COUNTER_EXHAUSTED).notStarted f
      else if b.budgetOk f = false then (c.count R.MAC_BUDGET_REFUSED_COUNT R.MAC_TROUBLE_BUDGET_REFUSED).notStarted f
      else c.sendFrame band f (b.portsFor f) temps limitNs := by
  have hshown : (b.takeReady f).Keeps ((b.takeReady f).showTemps temps) shownFields [] :=
    ((b.takeReady f).keeps_showTemps temps []).widen _ _ (List.subset_cons_self _ _) (List.Subset.refl _)
  have hmay : _ = b.mayTransmit := hshown.shown_mayTransmit
  have hforbidden : _ = b.forbidden band := hshown.shown_forbidden band
  have hoff : _ = b.driverOff band := hshown.shown_driverOff band
  have hrefused : _ = b.txRefused f (b.portsFor f) := hshown.shown_txRefused f (b.portsFor f)
  have hexhausted : _ = b.exhausted := hshown.shown_exhausted
  have hbudget : _ = b.budgetOk f := hshown.shown_budgetOk f
  rw [← hmay, ← hforbidden, ← hoff, ← hrefused, ← hexhausted, ← hbudget]
  simp only [Block.startFrame, h]
  rfl

/-! A frame that does not start. -/

/-- The block with a ready frame taken and the temperatures shown differs in the MAC and the temperatures alone. -/
theorem Block.keeps_takeReady_showTemps (b : Block) (f : TxFrame) (temps : List Int) :
    b.Keeps ((b.takeReady f).showTemps temps) tempFields [.mac] :=
  (b.keeps_setMac _ _ _ (by simp)).trans (Block.keeps_showTemps _ temps _)

theorem Block.takeReady_showTemps_mac (b : Block) (f : TxFrame) (temps : List Int) :
    ((b.takeReady f).showTemps temps).mac = { b.mac with ready := b.mac.ready.erase f } :=
  ((b.takeReady f).keeps_showTemps temps []).2 .mac (by simp)

section
variable {s : State} {band : Nat} {temps : List Int} {limit : List Nat} {f : TxFrame}

theorem frameTxStart_refused (hrun : s.blk.running = true) (hf : s.blk.firstReady band = some f) (hmay : s.blk.mayTransmit = true)
    (hforbidden : s.blk.forbidden band = false) (hoff : ∀ p ∈ s.blk.portsFor f, s.blk.driverOff band p = false)
    (hrefused : s.blk.txRefused f (s.blk.portsFor f) = true) (hkind : f.kind = .beacon) :
    ∃ t, exec (.frameTxStart band temps limit) s = .next t ∧ t.blk.mac = { s.blk.mac with ready := s.blk.mac.ready.erase f } ∧
      t.blk.get R.PHY_TX_REFUSED_COUNT = (s.blk.get R.PHY_TX_REFUSED_COUNT + 1) % 2 ^ R.PHY_TX_REFUSED_COUNT.width ∧
      t.blk.get R.PHY_TROUBLE_TX_REFUSED = 1 ∧
      s.Keeps t ([R.PHY_TX_REFUSED_COUNT, R.PHY_TROUBLE_TX_REFUSED, R.LFE_L_TEMP, R.LFE_DRV_TEMP 0, R.LFE_DRV_TEMP 1, R.LFE_DRV_TEMP 2,
        R.LFE_DRV_TEMP 3] ++ recordFields) [.mac, .records] := by
  have e : s.blk.startFrame band temps limit =
      ((s.blk.takeReady f).showTemps temps).count R.PHY_TX_REFUSED_COUNT R.PHY_TROUBLE_TX_REFUSED := by
    rw [s.blk.startFrame_of_ready temps limit hf]
    refine (if_neg (by simp [hmay, hforbidden])).trans ((if_neg (by simpa using hoff)).trans ((if_pos hrefused).trans ?_))
    simp only [Block.txAborted, hkind]
  have htaken := s.blk.keeps_takeReady_showTemps f temps
  have hmac := s.blk.takeReady_showTemps_mac f temps
  generalize (s.blk.takeReady f).showTemps temps = c at e htaken hmac
  have hcount := c.keeps_count R.PHY_TX_REFUSED_COUNT R.PHY_TROUBLE_TX_REFUSED
  refine ⟨_, congrArg Host.Outcome.next (s.runOn_eq _ _ hrun e), ?_, ?_, ?_, State.keeps_run s _ _ _ ?_⟩
  · exact (Block.updateAlert_mac _).trans ((hcount.2 .mac (by simp)).trans hmac)
  · rw [State.run_get s _ _ (by decide), Block.count_get_counter _ _ _ (by decide) (by decide) (by decide),
      htaken.1 _ (by decide) (by decide)]
  · exact (State.run_get s _ _ (by decide)).trans (Block.count_get_sticky _ _ _ rfl (by decide) (by decide))
  · exact (htaken.widen _ _ (by decide) (by simp)).trans (hcount.widen _ _ (by decide) (by simp))

theorem frameTxStart_lost (hrun : s.blk.running = true) (hf : s.blk.firstReady band = some f)
    (h : s.blk.mayTransmit = false ∨ s.blk.forbidden band = true) (hkind : f.kind = .timing) :
    ∃ t, exec (.frameTxStart band temps limit) s = .next t ∧ t.blk.mac = { s.blk.mac with ready := s.blk.mac.ready.erase f } ∧
      t.blk.get R.MAC_SLOT_LOST_COUNT = (s.blk.get R.MAC_SLOT_LOST_COUNT + 1) % 2 ^ R.MAC_SLOT_LOST_COUNT.width ∧
      t.blk.get R.MAC_TROUBLE_SLOT_LOST = 1 ∧
      s.Keeps t ([R.MAC_SLOT_LOST_COUNT, R.MAC_TROUBLE_SLOT_LOST, R.LFE_L_TEMP, R.LFE_DRV_TEMP 0, R.LFE_DRV_TEMP 1, R.LFE_DRV_TEMP 2,
        R.LFE_DRV_TEMP 3] ++ recordFields) [.mac, .records] := by
  have e : s.blk.startFrame band temps limit = ((s.blk.takeReady f).showTemps temps).slotLost := by
    rw [s.blk.startFrame_of_ready temps limit hf]
    refine (if_pos h).trans ?_
    simp only [Block.notStarted, hkind]
  have htaken := s.blk.keeps_takeReady_showTemps f temps
  have hmac := s.blk.takeReady_showTemps_mac f temps
  generalize (s.blk.takeReady f).showTemps temps = c at e htaken hmac
  refine ⟨_, congrArg Host.Outcome.next (s.runOn_eq _ _ hrun e), ?_, ?_, ?_, State.keeps_run s _ _ _ ?_⟩
  · exact (Block.updateAlert_mac _).trans (c.slotLost_mac.trans hmac)
  · rw [State.run_get s _ _ (by decide), Block.slotLost_count, htaken.1 _ (by decide) (by decide)]
  · exact (State.run_get s _ _ (by decide)).trans c.slotLost_sticky
  · exact (htaken.widen _ _ (by decide) (by simp)).trans (c.keeps_slotLost.widen _ _ (by decide) (by simp))

end

end Sys2Proof.Machine
end

section
/-! What leaves the transmissions, the outputs and TX_ACTIVE as they are. -/

namespace Sys2Proof.Machine

/-- A field that is no port's TX_ACTIVE (R148). -/
abbrev Field.OffActive (f : Field) : Prop :=
  f.key < 3145728 ∨ 3276800 ≤ f.key ∨ f.key % 32768 ≠ 3 ∧ f.key % 32768 ≠ 4

theorem activeField_key (band p : Nat) (hp : p < 4) : ¬ Field.OffActive (activeField band p) := by
  unfold activeField
  split <;> simp only [Field.OffActive, R.LFE_STAT_TX_ACTIVE_H, R.LFE_STAT_TX_ACTIVE_L] <;> omega

theorem activeField_width (band p : Nat) : (activeField band p).width = 1 := by
  unfold activeField; split <;> rfl

theorem activeField_ne_summary (band p : Nat) (hp : p < 4) : (activeField band p).key ≠ R.TRB_SUMMARY.key := fun e =>
  activeField_key band p hp (by rw [Field.OffActive, e]; decide)

/-- The transmissions, the outputs and TX_ACTIVE of every port are the same. -/
structure Block.SameLine (b c : Block) : Prop where
  tx : c.phy.tx = b.phy.tx
  outs : c.outs = b.outs
  active : ∀ band p, p < 4 → c.get (activeField band p) = b.get (activeField band p)

theorem Block.SameLine.refl (b : Block) : b.SameLine b := ⟨rfl, rfl, fun _ _ _ => rfl⟩

theorem Block.SameLine.trans {b c d : Block} (h : b.SameLine c) (k : c.SameLine d) : b.SameLine d :=
  ⟨k.tx.trans h.tx, k.outs.trans h.outs, fun band p hp => (k.active band p hp).trans (h.active band p hp)⟩

/-- A change of units alone, beside the transmissions. -/
theorem Block.SameLine.of_regs {b c : Block} (htx : c.phy.tx = b.phy.tx) (houts : c.outs = b.outs) (h : c.regs = b.regs) : b.SameLine c :=
  ⟨htx, houts, fun _ _ _ => by rw [Block.get, Block.get, h]⟩

theorem Block.SameLine.ite {b c d : Block} {k : Prop} [Decidable k] (hc : b.SameLine c) (hd : b.SameLine d) :
    b.SameLine (if k then c else d) := by
  split
  · exact hc
  · exact hd

theorem Block.SameLine.forEach {α : Type} (b : Block) (xs : List α) (f : Block → α → Block)
    (h : ∀ (c : Block) (x : α), c.SameLine (f c x)) : b.SameLine (b.forEach xs f) :=
  List.foldlRecOn xs f (motive := b.SameLine) (.refl b) fun c hc x _ => hc.trans (h c x)

/-- No field of a list off TX_ACTIVE is one. -/
theorem activeField_notMem (band p : Nat) (hp : p < 4) (l : List Field) (hl : ∀ f ∈ l, f.OffActive) :
    (activeField band p).key ∉ l.map Field.key := fun m => by
  obtain ⟨g, hg, e⟩ := List.mem_map.1 m
  have hoff := hl g hg
  rw [Field.OffActive, e] at hoff
  exact activeField_key band p hp hoff

theorem Block.Keeps.sameLine {b c : Block} {l : List Field} {ps : List Part} (h : b.Keeps c l ps) (hphy : .phy ∉ ps)
    (houts : .outs ∉ ps) (hl : ∀ f ∈ l, f.OffActive) : b.SameLine c :=
  ⟨congrArg PhyUnit.tx (h.2 .phy hphy), h.2 .outs houts, fun band p hp =>
    h.1 _ (activeField_notMem band p hp l hl) (activeField_ne_summary band p hp)⟩

theorem recordFields_offActive : ∀ f ∈ recordFields, f.OffActive := by decide

section
variable (b : Block)

theorem Block.set_sameLine (f : Field) (v : Nat) (h : f.OffActive) : b.SameLine (b.set f v) :=
  (b.keeps_set f v [f] [] (by simp)).sameLine (by simp) (by simp) (by simpa using h)

theorem Block.stick_sameLine (f : Field) (h : f.OffActive) : b.SameLine (b.stick f) :=
  (b.keeps_stick f 0).sameLine (by simp) (by simp) fun g hg => by
    obtain rfl | hg := List.mem_cons.1 hg
    · exact h
    · exact recordFields_offActive g hg

theorem Block.count_sameLine (c f : Field) (hc : c.OffActive) (hf : f.OffActive) : b.SameLine (b.count c f) :=
  (b.set_sameLine c _ hc).trans (Block.stick_sameLine _ f hf)

/-! What happens as a frame starts. -/

/-- A register of the ports' front ends, at an offset that is not TX_ACTIVE's. -/
theorem portField_offActive (k p : Nat) (w : Nat) (hk : k % 32768 ≠ 3 ∧ k % 32768 ≠ 4) : Field.OffActive ⟨k + 32768 * p, w⟩ := by
  refine .inr (.inr ?_)
  simp only
  omega

theorem Block.showTemps_sameLine (temps : List Int) : b.SameLine (b.showTemps temps) :=
  (b.keeps_showTemps temps []).sameLine (by simp) (by simp) (by decide)

theorem Block.setFoldback_sameLine (band p v : Nat) : b.SameLine (b.setFoldback band p v) := by
  refine .trans ?_ (.forEach _ _ _ fun c p => c.set_sameLine _ _ (portField_offActive _ p _ (by decide)))
  exact .of_regs rfl rfl rfl

theorem Block.applyFoldback_sameLine (band p : Nat) (temp : Int) (ports : List Nat) : b.SameLine (b.applyFoldback band p temp ports) := by
  have hrelaxed (c : Block) (u : FrontUnit) : c.SameLine { c with front := u } := .of_regs rfl rfl rfl
  have hnoted (c : Block) : c.SameLine (c.forEach ports
      (fun b q => (b.bump (R.LFE_FOLDBACK_COUNT q)).stick (R.LFE_TROUBLE_FOLDBACK q))) :=
    .forEach _ _ _ fun c q => c.count_sameLine _ _ (portField_offActive _ q _ (by decide)) (portField_offActive _ q _ (by decide))
  exact .ite ((((b.setFoldback_sameLine band p _).trans (hrelaxed _ _)).trans (Block.setFoldback_sameLine _ band p _)).trans (hnoted _))
    ((b.setFoldback_sameLine band p _).trans (hrelaxed _ _))

theorem Block.foldFrame_sameLine (band : Nat) (ports : List Nat) (temps : List Int) : b.SameLine (b.foldFrame band ports temps) := by
  refine .ite (.forEach _ _ _ fun c p => c.applyFoldback_sameLine 0 p _ _) ?_
  cases ports with
  | nil => exact .refl b
  | cons p ports => exact b.applyFoldback_sameLine 1 p _ _

theorem Block.takeCounter_sameLine : b.SameLine b.takeCounter.2 := by
  have hreserve : b.SameLine b.reserveCounter := by
    unfold Block.reserveCounter
    split
    · exact .ite (.of_regs rfl rfl rfl) (.refl b)
    · exact .refl b
  exact hreserve.trans (Block.set_sameLine _ R.SEC_TX_CTR _ (by decide))

theorem Block.sealPart_sameLine (h : Header) (payload : List Byte) (collect : Bool) :
    b.SameLine (b.sealPart h payload collect).2 := by
  unfold Block.sealPart
  split
  · split
    · exact b.takeCounter_sameLine
    · exact .refl b
  · exact .refl b

theorem Block.sealPart_dst (h : Header) (payload : List Byte) (collect : Bool) : (b.sealPart h payload collect).1.1.dst = h.dst := by
  unfold Block.sealPart
  split
  · split
    · rfl
    · rfl
  · rfl

theorem Block.sealFollow_sameLine (first : Header) (l : List (Header × List Byte)) : b.SameLine (b.sealFollow first l).2 := by
  induction l generalizing b with
  | nil => exact .refl b
  | cons e l ih => exact (b.sealPart_sameLine { first with ackReq := e.1.ackReq } e.2 false).trans (ih _)

theorem Block.sealFrame_sameLine (f : TxFrame) : b.SameLine (b.sealFrame f).2 := by
  unfold Block.sealFrame
  split
  · exact .refl b
  · split
    · exact .refl b
    · exact (b.sealPart_sameLine _ _ _).trans (Block.sealFollow_sameLine _ _ _)

/-- Protection leaves where a frame goes (R484). -/
theorem Block.sealFrame_addressed (f : TxFrame) :
    (b.sealFrame f).1.band = f.band ∧ (b.sealFrame f).1.kind = f.kind ∧ (b.sealFrame f).1.hdr.dst = f.hdr.dst := by
  unfold Block.sealFrame
  split
  · exact ⟨rfl, rfl, rfl⟩
  · split
    · exact ⟨rfl, rfl, rfl⟩
    · exact ⟨rfl, rfl, b.sealPart_dst _ _ _⟩

theorem Block.charge_sameLine (f : TxFrame) : b.SameLine (b.charge f) := by
  refine .trans (.trans ?_ (Block.set_sameLine _ R.MAC_USED_H _ (by decide))) (Block.set_sameLine _ R.MAC_USED_L _ (by decide))
  exact .of_regs rfl rfl rfl

theorem Block.limitFrame_sameLine (band : Nat) (ports was add : List Nat) : b.SameLine (b.limitFrame band ports was add).2 := by
  refine .forEach b _ _ fun c e => .ite (c.count_sameLine _ _ (portField_offActive _ _ _ (by decide)) ?_) (.refl c)
  split
  · exact portField_offActive _ _ _ (by decide)
  · exact portField_offActive _ _ _ (by decide)

theorem Block.captureTrigger_sameLine (kind : Nat) : b.SameLine (b.captureTrigger kind) := by
  refine .ite (.trans (.trans ?_ (Block.set_sameLine _ R.PHY_CAP_STAT_STATE _ (by decide)))
    (Block.set_sameLine _ R.PHY_CAP_STAT_UNITS _ (by decide))) (.refl b)
  exact .of_regs rfl rfl rfl

theorem frozenField_offActive (band p : Nat) : (frozenField band p).OffActive := by
  unfold frozenField
  split
  · exact portField_offActive _ p _ (by decide)
  · exact portField_offActive _ p _ (by decide)

theorem Block.abortReception_sameLine (r : Reception) : b.SameLine (b.abortReception r) := by
  have hdropped : b.SameLine (b.dropReception r) := .of_regs rfl rfl rfl
  have hreleased := hdropped.trans ((Block.keeps_releaseAgc _ r.band r.ports []).sameLine (by simp) (by simp) fun f hf => by
    obtain ⟨q, -, rfl⟩ := List.mem_map.1 hf
    exact frozenField_offActive r.band q)
  have hcut : b.SameLine (b.cutReception r) := hreleased.trans (Block.captureTrigger_sameLine _ 2)
  rw [Block.abortReception_eq]
  exact .ite (hcut.trans ((Block.keeps_timingWithheld _ _ _ _ _).sameLine (by simp) (by simp) (by decide))) hcut

theorem Block.preempt_sameLine (band : Nat) (ports : List Nat) : b.SameLine (b.preempt band ports) :=
  .forEach b _ _ fun c r => (c.abortReception_sameLine r).trans (Block.count_sameLine _ _ _ (by decide) (by decide))

theorem Block.suppress_sameLine (band profile chips : Nat) (ports : List Nat) : b.SameLine (b.suppress band profile chips ports) :=
  .forEach b _ _ fun _ _ => .of_regs rfl rfl rfl

theorem Block.countSent_sameLine (f : TxFrame) : b.SameLine (b.countSent f) :=
  .ite (.refl b) (.ite (.of_regs rfl rfl rfl) (.refl b))

/-! What follows a frame's start. -/

theorem Block.sendCommand_sameLine (code dst : Nat) (body : List Byte) : b.SameLine (b.sendCommand code dst body) := by
  unfold Block.sendCommand
  dsimp only
  split
  · exact .of_regs rfl rfl rfl
  · exact .of_regs rfl rfl rfl

theorem Block.keyLow_sameLine : b.SameLine b.keyLow := by
  refine .ite (.trans ?_ (Block.sendCommand_sameLine _ _ _ _)) (.refl b)
  exact .of_regs rfl rfl rfl

theorem Block.notStarted_sameLine (f : TxFrame) : b.SameLine (b.notStarted f) := by
  have hblocked : b.SameLine b.replyBlocked := b.count_sameLine _ _ (by decide) (by decide)
  unfold Block.notStarted
  split
  · exact hblocked
  · exact hblocked
  · exact .of_regs rfl rfl rfl
  · exact b.count_sameLine _ _ (by decide) (by decide)

theorem Block.loseReady_sameLine (band endTick : Nat) : b.SameLine (b.loseReady band endTick) :=
  .forEach b _ _ fun c f => .trans (c := c.takeReady f) (.of_regs rfl rfl rfl) (Block.notStarted_sameLine _ f)

/-! TX_ACTIVE (R148). -/

theorem Block.setActive_eq (band : Nat) (ports : List Nat) (v : Nat) :
    b.setActive band ports v = b.forEach ports (fun b p => b.set (activeField band p) v) := by
  unfold Block.setActive activeField
  congr 1
  funext c p
  split <;> rfl

theorem Block.keeps_setActive (band : Nat) (ports : List Nat) (v : Nat) :
    b.Keeps (b.setActive band ports v) (ports.map (activeField band)) [] := by
  rw [Block.setActive_eq]
  exact b.keeps_forEach _ _ _ _ fun c p hp => c.keeps_set _ _ _ _ (List.mem_map_of_mem (List.mem_map_of_mem hp))

/-- TX_ACTIVE of a port is 1 once it is set, and stays so as it is set for others. -/
theorem Block.setActive_one (band p : Nat) (ports : List Nat) (h : p ∈ ports ∨ b.get (activeField band p) = 1) :
    (b.setActive band ports 1).get (activeField band p) = 1 := by
  rw [Block.setActive_eq]
  unfold Block.forEach
  induction ports generalizing b with
  | nil => exact h.resolve_left (by simp)
  | cons q qs ih =>
    refine ih (b.set (activeField band q) 1) ?_
    rw [Block.get_set]
    split
    · exact .inr (by simp [activeField_width])
    · next hk =>
      obtain h | h := h
      · obtain rfl | h := List.mem_cons.1 h
        · exact absurd rfl hk
        · exact .inl h
      · exact .inr h

end

end Sys2Proof.Machine
end

section
/-! A frame goes on the line (R119, R123, R124, R136, R158, R159). -/

namespace Sys2Proof.Machine

/-- A transmission starts: it is added, its first segment goes on the line, and its ports are active. -/
structure Block.Sends (b c : Block) (f : TxFrame) (ports : List Nat) (a : TxActive) : Prop where
  tx : c.phy.tx = b.phy.tx ++ [a]
  outs : c.outs = b.outs ++ [.frame f.band 0 (a.frame.bursts a.plan 0)]
  toPorts : a.ports = ports
  band : a.frame.band = f.band
  dst : a.frame.hdr.dst = f.hdr.dst
  kind : a.frame.kind = f.kind
  active : ∀ p ∈ ports, p < 4 → c.get (activeField f.band p) = 1

section
variable {b c d : Block} {f : TxFrame} {ports : List Nat} {a : TxActive}

theorem Block.SameLine.sends (h : b.SameLine c) (k : c.Sends d f ports a) : b.Sends d f ports a :=
  { k with tx := by rw [k.tx, h.tx], outs := by rw [k.outs, h.outs] }

theorem Block.Sends.sameLine (h : b.Sends c f ports a) (k : c.SameLine d) : b.Sends d f ports a :=
  { h with
    tx := k.tx.trans h.tx, outs := k.outs.trans h.outs
    active := fun p hp hlt => (k.active f.band p hlt).trans (h.active p hp hlt) }

end

section
variable (b : Block)

/-- A frame as it goes on the line: protected, with its margin feedback (R202, R484). -/
def Block.outFrame (f : TxFrame) : TxFrame :=
  let r := b.sealFrame f
  { r.1 with hdr := { r.1.hdr with
    margin := r.2.feedback r.1.hdr.dst r.1.band, pending := r.1.hdr.pending || !r.1.follow.isEmpty } }

/-- A frame's airtime is charged, and the Band L driver's ports are selected (R118, R279). -/
def Block.chargeOut (f : TxFrame) (ports : List Nat) : Block :=
  let b := b.charge f
  if f.band = 1 then b.set R.LFE_L_SEL ((ports.map (fun p => 2 ^ p)).sum) else b

/-- The ports whose driver the 20 dBm limit holds back are noted (R123). -/
def Block.notePower (f : TxFrame) (ports : List Nat) : Block :=
  b.forEach ports (fun b p => if b.baseAtten f p < b.frameAtten f p then b.stick (R.LFE_TROUBLE_POWER_LIMITED p) else b)

/-- The ports become active, and receptions that hold one of them are preempted (R136, R148). -/
def Block.occupy (band : Nat) (ports : List Nat) : Block := (b.preempt band ports).setActive band ports 1

/-- A sent frame is counted (R288, R295). -/
def Block.noteSent (f : TxFrame) : Block :=
  let b := (b.add R.MAC_TX_FRAMES_COUNT (1 + f.follow.length)).countSent f
  if f.retries ≠ 0 then b.bump R.MAC_RETRY_COUNT else b

/-- The chips of a frame's first segment. -/
def Block.firstChips (f : TxFrame) : Nat := (frameChips f.hdr.mode f.hdr.span (f.kind == .collect) (b.lens f)).headD 0

/-- A transmission in its first segment. -/
def Block.transmission (f : TxFrame) (ports : List Nat) (plan : List Burst) (limited : List Nat) : TxActive :=
  { frame := f, ports := ports, endTick := b.endAfter (modeProfile f.hdr.mode) (b.firstChips f), segments := f.hdr.span - 1, plan := plan
    offset := b.tick - b.grid.anchor, limited := limited }

/-- A transmission is added. -/
def Block.addTx (t : TxActive) : Block := { b with phy := { b.phy with tx := b.phy.tx ++ [t] } }

/-- A segment's samples are suppressed on its own ports, and its bursts go on the line (R135, R158). -/
def Block.putOnLine (band profile chips : Nat) (ports : List Nat) (k : Nat) (bursts : List Burst) : Block :=
  (b.suppress band profile chips ports).emit (.frame band k bursts)

/-- The steps of a frame's start. -/
theorem Block.launch_eq (f : TxFrame) (ports limitNs : List Nat) :
    b.launch f ports limitNs =
      let g := b.outFrame f
      let c := (b.sealFrame f).2.chargeOut g ports
      let limit := (c.notePower g ports).limitFrame g.band ports [] limitNs
      let d := (limit.2.occupy g.band ports).noteSent g
      (d.addTx (d.transmission g ports (c.plan g ports) limit.1)).putOnLine g.band (modeProfile g.hdr.mode) (d.firstChips g) ports 0
        (g.bursts (c.plan g ports) 0) := rfl

theorem Block.chargeOut_sameLine (f : TxFrame) (ports : List Nat) : b.SameLine (b.chargeOut f ports) :=
  .ite ((b.charge_sameLine f).trans (Block.set_sameLine _ R.LFE_L_SEL _ (by decide))) (b.charge_sameLine f)

theorem Block.notePower_sameLine (f : TxFrame) (ports : List Nat) : b.SameLine (b.notePower f ports) :=
  .forEach b _ _ fun c _ => .ite (c.stick_sameLine _ (portField_offActive _ _ _ (by decide))) (.refl c)

theorem Block.noteSent_sameLine (f : TxFrame) : b.SameLine (b.noteSent f) :=
  have hsent := (b.set_sameLine R.MAC_TX_FRAMES_COUNT _ (by decide)).trans (Block.countSent_sameLine _ f)
  .ite (hsent.trans (Block.set_sameLine _ R.MAC_RETRY_COUNT _ (by decide))) hsent

theorem Block.occupy_tx (band : Nat) (ports : List Nat) : (b.occupy band ports).phy.tx = b.phy.tx :=
  (congrArg PhyUnit.tx ((Block.keeps_setActive _ band ports 1).2 .phy (by simp))).trans (b.preempt_sameLine band ports).tx

theorem Block.occupy_outs (band : Nat) (ports : List Nat) : (b.occupy band ports).outs = b.outs :=
  ((Block.keeps_setActive _ band ports 1).2 .outs (by simp)).trans (b.preempt_sameLine band ports).outs

theorem Block.occupy_active (band p : Nat) (ports : List Nat) (hp : p ∈ ports) : (b.occupy band ports).get (activeField band p) = 1 :=
  Block.setActive_one _ band p ports (.inl hp)

theorem Block.putOnLine_tx (band profile chips : Nat) (ports : List Nat) (k : Nat) (bursts : List Burst) :
    (b.putOnLine band profile chips ports k bursts).phy.tx = b.phy.tx := (b.suppress_sameLine band profile chips ports).tx

theorem Block.putOnLine_outs (band profile chips : Nat) (ports : List Nat) (k : Nat) (bursts : List Burst) :
    (b.putOnLine band profile chips ports k bursts).outs = b.outs ++ [.frame band k bursts] :=
  congrArg (· ++ _) (b.suppress_sameLine band profile chips ports).outs

theorem Block.putOnLine_active (band profile chips : Nat) (ports : List Nat) (k : Nat) (bursts : List Burst) (band' p : Nat) (hp : p < 4) :
    (b.putOnLine band profile chips ports k bursts).get (activeField band' p) = b.get (activeField band' p) :=
  (b.suppress_sameLine band profile chips ports).active band' p hp

/-- The frame as it goes on the line has its band, kind and destination. -/
theorem Block.outFrame_addressed (f : TxFrame) :
    (b.outFrame f).band = f.band ∧ (b.outFrame f).kind = f.kind ∧ (b.outFrame f).hdr.dst = f.hdr.dst := b.sealFrame_addressed f

theorem Block.launch_sends (f : TxFrame) (ports limitNs : List Nat) : ∃ a, b.Sends (b.launch f ports limitNs) f ports a := by
  obtain ⟨hband, hkind, hdst⟩ := b.outFrame_addressed f
  rw [Block.launch_eq]
  dsimp only
  generalize b.outFrame f = g at hband hkind hdst ⊢
  have hcharged := (b.sealFrame_sameLine f).trans (Block.chargeOut_sameLine _ g ports)
  generalize (b.sealFrame f).2.chargeOut g ports = c at hcharged ⊢
  have hlimited := hcharged.trans ((c.notePower_sameLine g ports).trans (Block.limitFrame_sameLine _ g.band ports [] limitNs))
  generalize (c.notePower g ports).limitFrame g.band ports [] limitNs = limit at hlimited ⊢
  have hsent := (limit.2.occupy g.band ports).noteSent_sameLine g
  have hactive := fun p hp => limit.2.occupy_active g.band p ports hp
  have htx := hsent.tx.trans ((limit.2.occupy_tx g.band ports).trans hlimited.tx)
  have houts := hsent.outs.trans ((limit.2.occupy_outs g.band ports).trans hlimited.outs)
  generalize (limit.2.occupy g.band ports).noteSent g = d at hsent htx houts ⊢
  refine ⟨d.transmission g ports (c.plan g ports) limit.1, ⟨?_, ?_, rfl, hband, hdst, hkind, fun p hp hlt => ?_⟩⟩
  · exact (Block.putOnLine_tx _ _ _ _ _ _ _).trans (congrArg (· ++ _) htx)
  · rw [Block.putOnLine_outs, ← hband]
    exact congrArg (· ++ _) houts
  · rw [← hband, Block.putOnLine_active _ _ _ _ _ _ _ _ _ hlt]
    exact (hsent.active g.band p hlt).trans (hactive p hp)

theorem Block.sendFrame_sends (band : Nat) (f : TxFrame) (ports : List Nat) (temps : List Int) (limitNs : List Nat) :
    ∃ a, b.Sends (b.sendFrame band f ports temps limitNs) f ports a := by
  obtain ⟨a, ha⟩ := (b.foldFrame band ports temps).launch_sends f ports limitNs
  exact ⟨a, ((b.foldFrame_sameLine band ports temps).sends ha).sameLine
    ((Block.keyLow_sameLine _).trans (Block.loseReady_sameLine _ band _))⟩

end

section
variable {s : State} {band : Nat} {f : TxFrame}

theorem frameTxStart_sends (temps : List Int) (limit : List Nat) (hrun : s.blk.running = true) (hf : s.blk.firstReady band = some f)
    (hports : ∀ p ∈ s.blk.portsFor f, p < 4) (hmay : s.blk.mayTransmit = true) (hforbidden : s.blk.forbidden band = false)
    (hoff : ∀ p ∈ s.blk.portsFor f, s.blk.driverOff band p = false) (hadmitted : s.blk.txRefused f (s.blk.portsFor f) = false)
    (hcounter : s.blk.exhausted = false ∨ protectedType f.hdr.ftype = false ∨ f.sealed = true) (hbudget : s.blk.budgetOk f = true) :
    ∃ t a, exec (.frameTxStart band temps limit) s = .next t ∧ t.blk.phy.tx = s.blk.phy.tx ++ [a] ∧
      a.ports = s.blk.portsFor f ∧ a.frame.band = band ∧ a.frame.hdr.dst = f.hdr.dst ∧ a.frame.kind = f.kind ∧
      t.blk.outs = s.blk.outs ++ [.frame band 0 (a.frame.bursts a.plan 0)] ∧
      (∀ p ∈ s.blk.portsFor f, t.blk.get (activeField band p) = 1) ∧ t.otp = s.otp ∧ t.pending = s.pending := by
  have e := s.blk.startFrame_of_ready temps limit hf
  rw [if_neg (by simp [hmay, hforbidden]), if_neg (by simpa using hoff), if_neg (by simp [hadmitted]), if_neg (by grind),
    if_neg (by simp [hbudget])] at e
  have hband := s.blk.firstReady_band hf
  subst hband
  obtain ⟨a, ha⟩ := ((s.blk.takeReady f).showTemps temps).sendFrame_sends f.band f (s.blk.portsFor f) temps limit
  have htaken : s.blk.SameLine (s.blk.takeReady f) := .of_regs rfl rfl rfl
  have hsends := (htaken.trans (Block.showTemps_sameLine _ temps)).sends ha
  refine ⟨_, a, congrArg Host.Outcome.next (s.runOn_eq _ _ hrun e), ?_, hsends.toPorts, hsends.band, hsends.dst, hsends.kind, ?_, ?_,
    rfl, rfl⟩
  · exact (congrArg PhyUnit.tx (Block.updateAlert_phy _)).trans hsends.tx
  · exact (Block.updateAlert_outs _).trans hsends.outs
  · intro p hp
    rw [State.run_get s _ _ (activeField_ne_summary _ p (hports p hp))]
    exact hsends.active p hp (hports p hp)

end

end Sys2Proof.Machine
end

section
/-! SEGMENT_TX (R177–R179): a continuation segment that is sent, or omitted. -/

namespace Sys2Proof.Machine

/-- A transmission with one continuation segment less to send. -/
def TxActive.stepped (t : TxActive) : TxActive := { t with segments := t.segments - 1 }

section
variable (b : Block) (t t' : TxActive)

theorem Block.keeps_setTx (l : List Field) : b.Keeps (b.setTx t t') l [.phy] := b.keeps_phy _ _ _ (by simp)

theorem Block.setTx_length : (b.setTx t t').phy.tx.length = b.phy.tx.length := List.length_map _

/-- The node sends as before where a transmission's band and end stay. -/
theorem Block.setTx_sending (band : Nat) (hband : t'.frame.band = t.frame.band) (hend : t'.endTick = t.endTick) :
    (b.setTx t t').sending band = b.sending band := by
  simp only [Block.sending, Block.setTx, List.any_map]
  congr 1
  funext x
  simp only [Function.comp_apply]
  split
  · next h => rw [h, hband, hend]; rfl
  · rfl

theorem Block.keeps_omitSegment :
    b.Keeps (b.omitSegment t) ([R.PHY_SEG_OMITTED_COUNT, R.PHY_TROUBLE_SEG_OMITTED] ++ recordFields) [.phy, .records] :=
  ((b.keeps_setTx t { t with omitted := true } _).widen _ _ (List.Subset.refl _) (by simp)).trans
    ((Block.keeps_count _ _ _).widen _ _ (by simp) (by simp))

theorem Block.omitSegment_length : (b.omitSegment t).phy.tx.length = b.phy.tx.length := by
  have hphy : (b.omitSegment t).phy = (b.setTx t { t with omitted := true }).phy := (Block.keeps_count _ _ _).2 .phy (by simp)
  rw [hphy, Block.setTx_length]

theorem Block.omitSegment_count : (b.omitSegment t).get R.PHY_SEG_OMITTED_COUNT =
    (b.get R.PHY_SEG_OMITTED_COUNT + 1) % 2 ^ R.PHY_SEG_OMITTED_COUNT.width :=
  Block.count_get_counter _ _ _ (by decide) (by decide) (by decide)

theorem Block.omitSegment_sticky : (b.omitSegment t).get R.PHY_TROUBLE_SEG_OMITTED = 1 :=
  Block.count_get_sticky _ _ _ rfl (by decide) (by decide)

/-- The chips of a transmission's next continuation segment (R178). -/
def Block.nextChips : Nat := (frameChips t.frame.hdr.mode t.frame.hdr.span false (b.lens t.frame)).getD t.nextSegment 0

/-- A continuation segment goes on the line, at the levels of its frame's start (R119, R121, R136). -/
def Block.sendSegment (band : Nat) (limitNs : List Nat) : Block :=
  let limit := (b.setTx t t.stepped).limitFrame band t.ports t.limited limitNs
  let c := limit.2.setTx t.stepped
    { t.stepped with endTick := limit.2.endAfter (modeProfile t.frame.hdr.mode) (b.nextChips t), limited := limit.1 }
  (c.occupy band t.ports).putOnLine band (modeProfile t.frame.hdr.mode) (b.nextChips t) t.ports t.nextSegment
    (t.frame.bursts t.plan t.nextSegment)

theorem Block.sendSegment_outs (band : Nat) (limitNs : List Nat) : (b.sendSegment t band limitNs).outs =
    b.outs ++ [.frame band t.nextSegment (t.frame.bursts t.plan t.nextSegment)] := by
  have hlimited := (b.setTx t t.stepped).limitFrame_sameLine band t.ports t.limited limitNs
  rw [Block.sendSegment, Block.putOnLine_outs, Block.occupy_outs]
  exact congrArg (· ++ _) hlimited.outs

theorem Block.sendSegment_length (band : Nat) (limitNs : List Nat) : (b.sendSegment t band limitNs).phy.tx.length = b.phy.tx.length := by
  have hlimited := (b.setTx t t.stepped).limitFrame_sameLine band t.ports t.limited limitNs
  rw [Block.sendSegment, Block.putOnLine_tx, Block.occupy_tx, Block.setTx_length, hlimited.tx, Block.setTx_length]

theorem Block.sendSegment_active (band : Nat) (limitNs : List Nat) (p : Nat) (hp : p ∈ t.ports) (hlt : p < 4) :
    (b.sendSegment t band limitNs).get (activeField band p) = 1 := by
  rw [Block.sendSegment, Block.putOnLine_active _ _ _ _ _ _ _ _ _ hlt]
  exact Block.occupy_active _ _ _ _ hp

end

section
variable {b : Block} {band : Nat} {limitNs : List Nat} {x : TxActive}
  (hx : b.phy.tx.find? (fun t => t.frame.band == band && b.segmentDue t) = some x)
include hx

theorem Block.segmentTx_sends (hmay : b.mayTransmit = true) (hforbidden : b.forbidden band = false)
    (hoff : ∀ p ∈ x.ports, b.driverOff band p = false) (hidle : b.sending band = false) :
    b.segmentTx band limitNs = b.sendSegment x band limitNs := by
  have hstepped : (b.setTx x x.stepped).sending band = false := (b.setTx_sending x x.stepped band rfl rfl).trans hidle
  simp only [Block.segmentTx, hx]
  refine if_neg ?_
  rintro (h | h | h | h)
  · exact absurd (hmay.symm.trans h) (by simp)
  · exact absurd (hforbidden.symm.trans h) (by simp)
  · obtain ⟨p, hp, hpo⟩ := List.any_eq_true.1 h
    exact absurd ((hoff p hp).symm.trans hpo) (by simp)
  · exact absurd (hstepped.symm.trans h) (by simp)

theorem Block.segmentTx_omits (h : b.mayTransmit = false ∨ b.forbidden band = true) :
    b.segmentTx band limitNs = (b.setTx x x.stepped).omitSegment x.stepped := by
  simp only [Block.segmentTx, hx]
  exact if_pos (h.imp_right .inl)

end

section
variable {s : State} {band : Nat} {limit : List Nat} {x : TxActive} (hrun : s.blk.running = true)
  (hx : s.blk.phy.tx.find? (fun t => t.frame.band == band && s.blk.segmentDue t) = some x)
include hrun hx

theorem segmentTx_sends (hports : ∀ p ∈ x.ports, p < 4) (hmay : s.blk.mayTransmit = true) (hforbidden : s.blk.forbidden band = false)
    (hoff : ∀ p ∈ x.ports, s.blk.driverOff band p = false) (hidle : s.blk.sending band = false) :
    ∃ t, exec (.segmentTx ⟨band, limit⟩) s = .next t ∧
      t.blk.outs = s.blk.outs ++ [.frame band x.nextSegment (x.frame.bursts x.plan x.nextSegment)] ∧
      (∀ p ∈ x.ports, t.blk.get (activeField band p) = 1) ∧ t.blk.phy.tx.length = s.blk.phy.tx.length ∧
      t.otp = s.otp ∧ t.pending = s.pending := by
  refine ⟨_, congrArg Host.Outcome.next (s.runOn_eq _ _ hrun (s.blk.segmentTx_sends hx hmay hforbidden hoff hidle)),
    (Block.updateAlert_outs _).trans (s.blk.sendSegment_outs x band limit), fun p hp => ?_,
    (congrArg (fun u : PhyUnit => u.tx.length) (Block.updateAlert_phy _)).trans (s.blk.sendSegment_length x band limit), rfl, rfl⟩
  rw [State.run_get s _ _ (activeField_ne_summary band p (hports p hp))]
  exact s.blk.sendSegment_active x band limit p hp (hports p hp)

theorem segmentTx_omits (h : s.blk.mayTransmit = false ∨ s.blk.forbidden band = true) :
    ∃ t, exec (.segmentTx ⟨band, limit⟩) s = .next t ∧
      t.blk.get R.PHY_SEG_OMITTED_COUNT = (s.blk.get R.PHY_SEG_OMITTED_COUNT + 1) % 2 ^ R.PHY_SEG_OMITTED_COUNT.width ∧
      t.blk.get R.PHY_TROUBLE_SEG_OMITTED = 1 ∧ t.blk.phy.tx.length = s.blk.phy.tx.length ∧
      s.Keeps t ([R.PHY_SEG_OMITTED_COUNT, R.PHY_TROUBLE_SEG_OMITTED] ++ recordFields) [.phy, .records] :=
  ⟨_, congrArg Host.Outcome.next (s.runOn_eq _ _ hrun (s.blk.segmentTx_omits hx h)),
    (State.run_get s _ _ (by decide)).trans (Block.omitSegment_count _ _),
    (State.run_get s _ _ (by decide)).trans (Block.omitSegment_sticky _ _),
    (congrArg (fun u : PhyUnit => u.tx.length) (Block.updateAlert_phy _)).trans
      ((Block.omitSegment_length _ _).trans (s.blk.setTx_length x x.stepped)),
    State.keeps_run s _ _ _ (((s.blk.keeps_setTx x x.stepped _).widen _ _ (List.Subset.refl _) (by simp)).trans
      (Block.keeps_omitSegment _ _))⟩

end

end Sys2Proof.Machine
end

section
/-! What leaves the shut-down drivers as they are (R120): the end of a transmission, and a lasting fault of a port. -/

namespace Sys2Proof.Machine

/-- The same drivers are shut down. -/
def Block.SameDrivers (b c : Block) : Prop := c.front.driverOff = b.front.driverOff

theorem Block.SameDrivers.refl (b : Block) : b.SameDrivers b := rfl

theorem Block.SameDrivers.trans {b c d : Block} (h : b.SameDrivers c) (k : c.SameDrivers d) : b.SameDrivers d := Eq.trans k h

theorem Block.SameDrivers.ite {b c d : Block} {k : Prop} [Decidable k] (hc : b.SameDrivers c) (hd : b.SameDrivers d) :
    b.SameDrivers (if k then c else d) := by
  split
  · exact hc
  · exact hd

theorem Block.SameDrivers.forEach {α : Type} (b : Block) (xs : List α) (f : Block → α → Block)
    (h : ∀ (c : Block) (x : α), c.SameDrivers (f c x)) : b.SameDrivers (b.forEach xs f) :=
  List.foldlRecOn xs f (motive := b.SameDrivers) (.refl b) fun c hc x _ => hc.trans (h c x)

theorem Block.Keeps.sameDrivers {b c : Block} {l : List Field} {ps : List Part} (h : b.Keeps c l ps) (hf : .front ∉ ps) :
    b.SameDrivers c := congrArg FrontUnit.driverOff (h.2 .front hf)

section
variable (b : Block)

theorem Block.stick_sameDrivers (f : Field) (i : Nat) : b.SameDrivers (b.stick f i) := (b.keeps_stick f i).sameDrivers (by simp)

theorem Block.count_sameDrivers (c f : Field) : b.SameDrivers (b.count c f) := (b.keeps_count c f).sameDrivers (by simp)

/-! A frame given up or sent again (R203, R272, R305, R332). -/

theorem Block.failHead_sameDrivers (n : Nat) : b.SameDrivers (b.failHead n) := by
  unfold Block.failHead
  dsimp only
  split
  · exact .refl b
  · refine .ite (.refl b) (.ite (.ite ?_ rfl) ?_)
    · refine .trans (.trans ?_ (Block.count_sameDrivers _ R.QMG_HEAD_DISCARD_COUNT R.QMG_TROUBLE_HEAD_DISCARD))
        ((Block.keeps_event _ _ _ _ _ _).sameDrivers (by simp))
      rfl
    · refine .trans ?_ (Block.stick_sameDrivers _ _ _)
      rfl

theorem Block.failFrame_sameDrivers (f : TxFrame) : b.SameDrivers (b.failFrame f) := by
  unfold Block.failFrame
  split
  · exact .ite (b.failHead_sameDrivers _) (b.failHead_sameDrivers _)
  · exact .refl b

theorem Block.modLink_sameDrivers (a band : Nat) (f : LinkRec → LinkRec) : b.SameDrivers (b.modLink a band f) := .ite rfl rfl

theorem Block.ladderFail_sameDrivers (a band : Nat) : b.SameDrivers (b.ladderFail a band) :=
  .ite (.refl b) (.ite ((b.modLink_sameDrivers a band _).trans (Block.stick_sameDrivers _ _ _)) (b.modLink_sameDrivers a band _))

theorem Block.markHopDown_sameDrivers (x : Nat) : b.SameDrivers (b.markHopDown x) :=
  .forEach b _ _ fun c a =>
    Block.SameDrivers.trans (c := if c.tab (fwdAt a) 2 = x then c.setTab (fwdAt a + 4) 1 (c.tab (fwdAt a + 4) 1 ||| 8) else c)
      (.ite rfl rfl) (.ite rfl rfl)

theorem Block.sendCommand_sameDrivers (code dst : Nat) (body : List Byte) : b.SameDrivers (b.sendCommand code dst body) := by
  unfold Block.sendCommand
  dsimp only
  split
  · rfl
  · rfl

theorem Block.exhaust_sameDrivers (f : TxFrame) : b.SameDrivers (b.exhaust f) := by
  have hcount := b.count_sameDrivers R.MAC_RETRY_EXHAUSTED_COUNT R.MAC_TROUBLE_RETRY_EXHAUSTED
  have hrepair (c : Block) (g : TxFrame) :
      c.SameDrivers ((c.count R.MSH_LOCAL_REPAIR_COUNT R.MSH_TROUBLE_LOCAL_REPAIR).orderFirst g) := c.count_sameDrivers _ _
  unfold Block.exhaust
  dsimp only
  refine .ite (hcount.trans (Block.failFrame_sameDrivers _ f)) ?_
  have hdown := hcount.trans (Block.markHopDown_sameDrivers _ f.hdr.dst)
  refine .ite ?_ (.trans ?_ (Block.sendCommand_sameDrivers _ _ _ _))
  all_goals
    split
    · exact .ite (hdown.trans (hrepair _ _)) (hdown.trans (Block.failFrame_sameDrivers _ f))
    · exact hdown.trans (Block.failFrame_sameDrivers _ f)

theorem Block.txAborted_sameDrivers (f : TxFrame) : b.SameDrivers (b.txAborted f) := by
  have hfail := b.ladderFail_sameDrivers f.hdr.dst f.band
  have hunacked : b.SameDrivers (b.unacked f) := .ite (hfail.trans (Block.exhaust_sameDrivers _ _)) hfail
  unfold Block.txAborted
  split
  · exact .ite hunacked (b.failFrame_sameDrivers f)
  · exact .refl b

/-! The end of a transmission (R121). -/

theorem Block.suppress_sameDrivers (band profile chips : Nat) (ports : List Nat) :
    b.SameDrivers (b.suppress band profile chips ports) := .forEach b _ _ fun _ _ => rfl

theorem Block.omitSegment_sameDrivers (t : TxActive) : b.SameDrivers (b.omitSegment t) := (b.keeps_omitSegment t).sameDrivers (by simp)

theorem Block.abortTx_sameDrivers (sel : TxActive → Bool) : b.SameDrivers (b.abortTx sel) := by
  refine .forEach b _ _ fun c t => ?_
  have hdown := ((c.keeps_setActive t.frame.band t.ports 0).sameDrivers (by simp)).trans
    (Block.suppress_sameDrivers _ t.frame.band (modeProfile t.frame.hdr.mode) (rampLen (profileL (modeProfile t.frame.hdr.mode))) t.ports)
  refine .ite (.trans ?_ (Block.txAborted_sameDrivers _ t.frame)) (.trans ?_ (Block.omitSegment_sameDrivers _ _))
  · exact hdown
  · exact hdown

/-! A lasting fault of a port (R468, R470). -/

theorem Block.failPort_sameDrivers (p : Nat) : b.SameDrivers (b.failPort p) := by
  have hstuck : b.SameDrivers ((b.raise R.TRB_PORT_FAILED p).stick R.TRB_TROUBLE_PORT_FAILED) :=
    Block.stick_sameDrivers (b.raise R.TRB_PORT_FAILED p) _ _
  exact hstuck

theorem Block.fault_port_sameDrivers (p : Nat) : b.SameDrivers (b.fault 3 p) := by
  unfold Block.fault
  dsimp only
  refine .ite (.refl b) (.ite ?_ rfl)
  exact (b.failPort_sameDrivers p).trans ((Block.keeps_noteLasting _ 3 p _).sameDrivers (by simp))

end

end Sys2Proof.Machine
end

section
/-! The drivers' temperatures (R120), and the settlement of `Obligations.Transmission`. -/

namespace Sys2Proof.Machine

/-- A driver is disabled. -/
def Block.shutDriver (b : Block) (d : Nat) : Block := { b with front := { b.front with driverOff := b.front.driverOff.set d true } }

/-- Above +150 °C a driver is off, whether it was before or not. -/
theorem Block.thermalDriver_off (b : Block) {d : Nat} {temp : Int} (hd : d < 5) (hlen : d < b.front.driverOff.length)
    (htemp : 1500 < temp) : (b.thermalDriver d temp).front.driverOff.getD d false = true := by
  have hfront : (b.showTemp d temp).front = b.front := (b.keeps_showTemp d temp []).2 .front (by simp)
  rw [← hfront] at hlen
  unfold Block.thermalDriver
  dsimp only
  generalize b.showTemp d temp = c at hlen
  have hset : (c.shutDriver d).front.driverOff.getD d false = true := by simp [Block.shutDriver, hlen]
  split
  · have hended := (c.shutDriver d).abortTx_sameDrivers
      (fun t => t.frame.band == (if d < 4 then 0 else 1) && ((if d < 4 then 0 else 1) == 1 || t.ports.contains d))
    have hcounted (e : Block) (ports : List Nat) :
        e.SameDrivers (e.forEach ports fun b p => (b.stick (R.LFE_TROUBLE_THERMAL_SHUTDOWN p)).fault 3 p) :=
      .forEach e _ _ fun a p => (a.stick_sameDrivers _ _).trans (Block.fault_port_sameDrivers _ p)
    exact (congrArg (fun l : List Bool => l.getD d false) (hended.trans (hcounted _ _))).trans hset
  · next h => exact eq_true_of_ne_false fun hoff => h ⟨hd, htemp, hoff⟩

theorem Block.thermalDriver_cool (b : Block) (d : Nat) {temp : Int} (htemp : temp ≤ 1500) : b.thermalDriver d temp = b.showTemp d temp :=
  if_neg fun h => absurd h.2.1 (by omega)

/-- A driver is enabled. -/
def Block.enableDriver (b : Block) (d : Nat) : Block := { b with front := { b.front with driverOff := b.front.driverOff.set d false } }

theorem Block.recoverDriver_enables (b : Block) (d : Nat) {temp : Int} (htemp : temp < 1250) :
    b.recoverDriver d temp = (b.showTemp d temp).enableDriver d := if_pos htemp

theorem Block.recoverDriver_waits (b : Block) (d : Nat) {temp : Int} (htemp : 1250 ≤ temp) :
    b.recoverDriver d temp = b.showTemp d temp := if_neg (by omega)

section
variable (s : State) (d : Nat) {temp : Int}

/-- A command that at most shows the temperature, also while its unit stands still. -/
theorem State.runOn_showTemp (f : Block → Block) (e : f s.blk = s.blk.showTemp d temp) :
    ∃ t, (.next (s.runOn f) : Host.Outcome State Fault Refusal) = .next t ∧ s.Keeps t tempFields [] := by
  refine ⟨_, rfl, State.keeps_run s _ _ _ ?_⟩
  change s.blk.Keeps (if s.blk.running then f s.blk else s.blk) tempFields []
  rw [e]
  exact Block.keeps_when (s.blk.keeps_showTemp d temp [])

theorem driverThermalRecover_enables (hrun : s.blk.running = true) (htemp : temp < 1250) :
    ∃ t, exec (.driverThermalRecover ⟨d, temp⟩) s = .next t ∧
      t.blk.front = { s.blk.front with driverOff := s.blk.front.driverOff.set d false } ∧ s.Keeps t tempFields [.front] := by
  have hshow := s.blk.keeps_showTemp d temp
  have hfront : (s.blk.showTemp d temp).front = s.blk.front := (hshow []).2 .front (by simp)
  refine ⟨_, congrArg Host.Outcome.next (s.runOn_eq _ _ hrun (s.blk.recoverDriver_enables d htemp)), ?_, State.keeps_run s _ _ _ ?_⟩
  · rw [State.run_blk, Block.updateAlert_front, Block.enableDriver, hfront]
  · exact (hshow _).trans (Block.keeps_front _ _ _ _ (by simp))

theorem foldbackRelax_earns (hrun : s.blk.running = true) (hd : d < s.blk.front.relax.length) :
    ∃ t, exec (.foldbackRelax d) s = .next t ∧ t.blk.front.relax.getD d 0 = s.blk.front.relax.getD d 0 + 1 ∧
      t.blk.front = { s.blk.front with relax := t.blk.front.relax } ∧ s.Keeps t [] [.front] := by
  have hfront := (s.blk.relaxDriver d).updateAlert_front
  refine ⟨_, congrArg Host.Outcome.next (s.runOn_eq _ _ hrun rfl), ?_, ?_, State.keeps_run s _ _ _ (s.blk.keeps_front _ _ _ (by simp))⟩
  · rw [State.run_blk, hfront]
    simp [Block.relaxDriver, hd]
  · rw [State.run_blk, hfront]
    rfl

end

/-- Settles O20: one lemma for each clause, from a frame's start to the drivers' temperatures. -/
theorem transmission : Obligations.Transmission := by
  refine ⟨?_, ?_, ?_, ?_, ?_, ?_, ?_, ?_, ?_, ?_, ?_⟩
  · intro s band temps limit f hrun hf hports hmay hforbidden hoff hadmitted hcounter hbudget
    exact frameTxStart_sends temps limit hrun hf hports hmay hforbidden hoff hadmitted hcounter hbudget
  · intro s band temps limit f hrun hf hmay hforbidden hoff hrefused hkind
    exact frameTxStart_refused hrun hf hmay hforbidden hoff hrefused hkind
  · intro s band temps limit f hrun hf h hkind
    exact frameTxStart_lost hrun hf h hkind
  · intro s band temps limit hnone
    exact s.runOn_unchanged _ (by simp only [Block.startFrame, hnone])
  · intro s band limit x hrun hports hx hmay hforbidden hoff hidle
    exact segmentTx_sends hrun hx hports hmay hforbidden hoff hidle
  · intro s band limit x hrun hx h
    exact segmentTx_omits hrun hx h
  · intro s d temp hrun hd hlen htemp
    exact ⟨_, congrArg Host.Outcome.next (s.runOn_eq _ _ hrun rfl), (congrArg (fun u : FrontUnit => u.driverOff.getD d false)
      (Block.updateAlert_front _)).trans (s.blk.thermalDriver_off hd hlen htemp), rfl, rfl⟩
  · intro s d temp htemp
    exact s.runOn_showTemp d _ (s.blk.thermalDriver_cool d htemp)
  · intro s d temp hrun htemp
    exact driverThermalRecover_enables s d hrun htemp
  · intro s d temp htemp
    exact s.runOn_showTemp d _ (s.blk.recoverDriver_waits d htemp)
  · intro s d hrun hd
    exact foldbackRelax_earns s d hrun hd

end Sys2Proof.Machine
end

section
/-! Select registers (R498): the stored selection, and what a path's latch shows of its view. -/

namespace Sys2Proof.Machine

/-! A field at any place of its word. -/

/-- An RW field that lies whole in the word takes the bits at its place. -/
theorem storedValue_rw_at (a word i : Nat) (e : RegRow × Nat) (x : Nat) (hacc : e.1.access = .rw) (hk : e.2 = 8 * a + i)
    (hw : i + e.1.width ≤ 32) (hx : x < 2 ^ e.1.width) : storedValue a word e x = word / 2 ^ i % 2 ^ e.1.width := by
  have hmin : min e.1.width (32 - i) = e.1.width := by omega
  simp [storedValue, hacc, hk, mergeIn, fieldSpan, putBits, hmin, Nat.mod_eq_of_lt hx]

theorem Block.storeWord_get_rw_at (b : Block) (a word i : Nat) (f : Field) (r : RegRow) (h : (r, f.key) ∈ wordFields a)
    (hl : ((wordFields a).map Prod.snd).Nodup) (hacc : r.access = .rw) (hk : f.key = 8 * a + i) (hr : r.width = f.width)
    (hw : i + f.width ≤ 32) : (b.storeWord a word).get f = word / 2 ^ i % 2 ^ f.width := by
  obtain ⟨k, w⟩ := f
  subst hr
  exact (Block.storeWord_get b a word (r, k) h hl).trans (storedValue_rw_at a word i (r, k) _ hacc hk hw (Block.get_lt _ _))

theorem wordFields_qmgSel : wordFields 0xA0010 = [(⟨0xA0010, [], 0, 12, .rw, 0, .v, false⟩, R.QMG_SEL.key)] := by
  decide +kernel

theorem wordFields_cusSel : wordFields 0xB0040 = [(⟨0xB0040, [], 0, 11, .rw, 0, .v, false⟩, R.CUS_SEL.key)] := by
  decide +kernel

theorem wordFields_linkSel : wordFields 0x40100 =
    [(⟨0x40100, [], 0, 8, .rw, 0, .v, false⟩, R.TIM_LINK_SEL_INDEX.key),
     (⟨0x40100, [], 8, 1, .ro, 0, .v, false⟩, R.TIM_LINK_SEL_IN_USE.key)] := by
  decide +kernel

theorem wordFields_lqPeer : wordFields 0x70180 =
    [(⟨0x70180, [], 0, 16, .rw, 0, .v, false⟩, R.PHY_LQ_PEER_ADDR.key),
     (⟨0x70180, [], 16, 1, .rw, 0, .v, false⟩, R.PHY_LQ_PEER_BAND.key)] := by
  decide +kernel

theorem wordFields_peerSel : wordFields 0x80080 =
    [(⟨0x80080, [], 0, 16, .rw, 0, .v, false⟩, R.MAC_PEER_SEL_ADDR.key),
     (⟨0x80080, [], 16, 1, .rw, 0, .v, false⟩, R.MAC_PEER_SEL_CLASS.key)] := by
  decide +kernel

theorem wordFields_shdAddr : wordFields 0x20030 = [(⟨0x20030, [], 0, 32, .rw, 0, .v, false⟩, R.TRB_SHD_ADDR.key)] := by
  decide +kernel

theorem wordFields_classSel : wordFields 0x2001C = [(⟨0x2001C, [], 0, 3, .rw, 0, .v, false⟩, R.TRB_CLASS_SEL.key)] := by
  decide +kernel

theorem wordFields_blkSel : wordFields 0xE0030 = [(⟨0xE0030, [], 0, 4, .rw, 0, .v, false⟩, R.TRU_BLK_SEL.key)] := by
  decide +kernel

/-! The words that a select register latches, and what its path reads of them. -/

theorem Block.latch_setLatch_ne (b : Block) (p : Path) (k j v : Nat) (h : j ≠ k) :
    Tab.get 0 ((b.setLatch p k v).latch p) j = Tab.get 0 (b.latch p) j := by
  cases p <;> exact Tab.get_set_ne _ _ _ _ _ h

/-- A path latches a list of words, each with 1 added (R498). -/
def Block.latchWords (b : Block) (p : Path) (l : List (Nat × Nat)) : Block :=
  b.forEach l (fun b e => b.setLatch p e.1 (e.2 % 2 ^ 32 + 1))

theorem Block.latchWords_cons (b : Block) (p : Path) (e : Nat × Nat) (l : List (Nat × Nat)) :
    b.latchWords p (e :: l) = (b.setLatch p e.1 (e.2 % 2 ^ 32 + 1)).latchWords p l := rfl

theorem Block.latchView_eq (b : Block) (p : Path) (sel v : Nat) :
    b.latchView p sel v = ((b.viewWords sel v).2.latchWords p (b.viewWords sel v).1).setLatch p (sel + 1) (v + 1) := rfl

theorem Block.latchWords_latch_ne (b : Block) (p : Path) (l : List (Nat × Nat)) (k : Nat) (h : k ∉ l.map Prod.fst) :
    Tab.get 0 ((b.latchWords p l).latch p) k = Tab.get 0 (b.latch p) k := by
  induction l generalizing b with
  | nil => rfl
  | cons e l ih =>
    rw [List.map_cons, List.mem_cons, not_or] at h
    rw [Block.latchWords_cons, ih _ h.2, Block.latch_setLatch_ne b p _ _ _ h.1]

theorem Block.latchWords_latch (b : Block) (p : Path) (l : List (Nat × Nat)) (hl : (l.map Prod.fst).Nodup) (e : Nat × Nat)
    (he : e ∈ l) : Tab.get 0 ((b.latchWords p l).latch p) e.1 = e.2 % 2 ^ 32 + 1 := by
  induction l generalizing b with
  | nil => cases he
  | cons x l ih =>
    rw [List.map_cons, List.nodup_cons] at hl
    rw [Block.latchWords_cons]
    obtain rfl | he := List.mem_cons.1 he
    · rw [Block.latchWords_latch_ne _ _ _ _ hl.1, Block.latch_setLatch_self]
    · exact ih _ hl.2 he

theorem Block.keeps_latchWords (b : Block) (p : Path) (ws : List (Nat × Nat)) (l : List Field) (ps : List Part) (hp : p.part ∈ ps) :
    b.Keeps (b.latchWords p ws) l ps :=
  b.keeps_forEach ws _ l ps fun c _ _ => c.keeps_setLatch p _ _ l ps hp

theorem Block.viewRead_of_latch (b : Block) (p : Path) (a v : Nat) (h : Tab.get 0 (b.latch p) a = v + 1) : b.viewRead p a = v := by
  simp [Block.viewRead, h]

/-! The view of each select register. -/

@[simp] theorem Block.viewWords_qmgSel (b : Block) (v : Nat) : b.viewWords 0xA0010 v = (b.queueView (v % 4096), b) := rfl
@[simp] theorem Block.viewWords_cusSel (b : Block) (v : Nat) : b.viewWords 0xB0040 v = (b.chanView (v % 2048), b) := rfl
@[simp] theorem Block.viewWords_linkSel (b : Block) (v : Nat) : b.viewWords 0x40100 v = b.calView (v % 256) := rfl
@[simp] theorem Block.viewWords_lqPeer (b : Block) (v : Nat) : b.viewWords 0x70180 v = b.lqView v := rfl
@[simp] theorem Block.viewWords_peerSel (b : Block) (v : Nat) : b.viewWords 0x80080 v = (b.peerView v, b) := rfl
@[simp] theorem Block.viewWords_shdAddr (b : Block) (v : Nat) : b.viewWords 0x20030 v = (b.shadowView v, b) := rfl
@[simp] theorem Block.viewWords_classSel (b : Block) (v : Nat) : b.viewWords 0x2001C v = (b.classView (v % 8), b) := rfl
@[simp] theorem Block.viewWords_blkSel (b : Block) (v : Nat) : b.viewWords 0xE0030 v = (b.truView (v % 16), b) := rfl

theorem Block.calView_keys (b : Block) (i : Nat) : (b.calView i).1.map Prod.fst = 0x40100 :: viewRange 0x40100 := by
  unfold Block.calView
  dsimp only
  split <;> rfl

theorem Block.lqView_keys (b : Block) (v : Nat) : (b.lqView v).1.map Prod.fst = viewRange 0x70180 := by
  unfold Block.lqView
  dsimp only
  split <;> rfl

theorem Block.peerView_keys (b : Block) (v : Nat) : (b.peerView v).map Prod.fst = viewRange 0x80080 := by
  unfold Block.peerView
  dsimp only
  split <;> rfl

/-- A latched view holds the words of its select register, and the calibration view the register itself (R250, R498). -/
theorem Block.viewWords_keys (b : Block) (sel v : Nat) (h : sel ∈ selects) :
    (b.viewWords sel v).1.map Prod.fst = if sel = 0x40100 then 0x40100 :: viewRange sel else viewRange sel := by
  simp only [selects, List.mem_cons, List.not_mem_nil, or_false] at h
  obtain rfl | rfl | rfl | rfl | rfl | rfl | rfl | rfl := h
  · rfl
  · rfl
  · exact b.calView_keys (v % 256)
  · exact b.lqView_keys v
  · exact b.peerView_keys v
  · rfl
  · rfl
  · rfl

theorem viewKeys_distinct : ∀ sel ∈ selects, (if sel = 0x40100 then 0x40100 :: viewRange sel else viewRange sel).Nodup ∧
    sel + 1 ∉ (if sel = 0x40100 then 0x40100 :: viewRange sel else viewRange sel) := by decide

/-- A path reads each word of the view that it has latched (R498). -/
theorem Block.latchView_latch (b : Block) (p : Path) (sel v : Nat) (h : sel ∈ selects) (e : Nat × Nat)
    (he : e ∈ (b.viewWords sel v).1) : Tab.get 0 ((b.latchView p sel v).latch p) e.1 = e.2 % 2 ^ 32 + 1 := by
  have hkeys := viewKeys_distinct sel h
  rw [← b.viewWords_keys sel v h] at hkeys
  have hne : e.1 ≠ sel + 1 := fun heq => hkeys.2 (heq ▸ List.mem_map_of_mem he)
  rw [Block.latchView_eq, Block.latch_setLatch_ne _ _ _ _ _ hne, Block.latchWords_latch _ _ _ hkeys.1 e he]

theorem Block.keeps_latchView (b : Block) (p : Path) (sel v : Nat) (l : List Field) (ps : List Part) (hp : p.part ∈ ps)
    (hview : b.Keeps (b.viewWords sel v).2 l ps) : b.Keeps (b.latchView p sel v) l ps :=
  (hview.trans (Block.keeps_latchWords _ p _ l ps hp)).trans (Block.keeps_setLatch _ p _ _ l ps hp)

end Sys2Proof.Machine
end

section
/-! Storing a selection changes no view: the views read no register of a selection. -/

namespace Sys2Proof.Machine

/-- The fields of the select registers. -/
def selectFields : List Field :=
  [R.QMG_SEL, R.CUS_SEL, R.TIM_LINK_SEL_INDEX, R.PHY_LQ_PEER_ADDR, R.PHY_LQ_PEER_BAND, R.MAC_PEER_SEL_ADDR, R.MAC_PEER_SEL_CLASS,
    R.TRB_SHD_ADDR, R.TRB_CLASS_SEL, R.TRU_BLK_SEL]

/-- The registers that the link-quality view reads are no selections (R203, R208). -/
theorem linkConfig_notMem_select (p i : Nat) (hi : i < 16) : ∀ f ∈ R.PHY_LADDER_H i :: R.PHY_LADDER_L i :: portConfig p,
    f.key ∉ selectFields.map Field.key ∧ f.key ≠ R.TRB_SUMMARY.key := by
  simp only [portConfig, selectFields, List.map_cons, List.map_nil, List.mem_cons, List.not_mem_nil, or_false, not_or,
    R.LFE_STAT_PHASE_PRESENT, R.LFE_CFG_H_PROFILE, R.LFE_CFG_L_PROFILE, R.LFE_CFG_H_CENTRE, R.PHY_LADDER_H, R.PHY_LADDER_L, R.QMG_SEL,
    R.CUS_SEL, R.TIM_LINK_SEL_INDEX, R.PHY_LQ_PEER_ADDR, R.PHY_LQ_PEER_BAND, R.MAC_PEER_SEL_ADDR, R.MAC_PEER_SEL_CLASS, R.TRB_SHD_ADDR,
    R.TRB_CLASS_SEL, R.TRU_BLK_SEL, R.TRB_SUMMARY]
  rintro _ (rfl | rfl | rfl | rfl | rfl | rfl)
  all_goals
    dsimp only
    omega

/-- The ladder has 16 entries (R203). -/
theorem Block.ladderIdx_lt (b : Block) (a band : Nat) : b.ladderIdx a band < 16 := by
  have hlen : b.ladderLen band ≤ 16 := by
    simpa [Block.ladderLen] using
      (List.takeWhile_prefix (p := fun w => w != 0xFFFF) (l := (List.range 16).map (b.ladder band))).length_le
  have hmin : b.ladderIdx a band ≤ b.ladderLen band - 1 := Nat.min_le_right _ _
  omega

section
variable {b c : Block} (h : b.Keeps c selectFields [.freeCtr])
include h

theorem Block.Keeps.select_q (n : Nat) : c.q n = b.q n := by
  by_cases hn : n = 0
  · subst hn
    exact h.2 .records (by simp)
  · exact (h.2 .queues (by simp)).1 n hn

theorem Block.Keeps.select_queueView (n : Nat) : c.queueView n = b.queueView n := by
  have hopened : c.queue.opened = b.queue.opened := (h.2 .queues (by simp)).2.1
  simp only [Block.queueView, Block.fill, Block.openCells, h.select_q, hopened]

theorem Block.Keeps.select_cus (k : Nat) : c.cus k = b.cus k := by
  have hcustody : c.custody = b.custody := h.2 .custody (by simp)
  rw [Block.cus, Block.cus, hcustody]

theorem Block.Keeps.select_chanView (k : Nat) : c.chanView k = b.chanView k := by
  have hbusy : c.flag R.CUS_STAT_RESTORE_BUSY = b.flag R.CUS_STAT_RESTORE_BUSY := congrArg (· != 0) (h.1 _ (by decide) (by decide))
  have hstate : c.chanState k = b.chanState k := by
    dsimp only [Block.chanState]
    rw [h.select_cus, h.select_q, h.select_q, hbusy]
  simp only [Block.chanView, h.select_cus, hstate]

theorem Block.Keeps.select_calRec (i : Nat) : c.calRec i = b.calRec i := by
  have htime : c.time = b.time := h.2 .time (by simp)
  rw [Block.calRec, Block.calRec, htime]

theorem Block.Keeps.select_tab (a n : Nat) : c.tab a n = b.tab a n := by
  have htables : c.tables = b.tables := h.2 .tables (by simp)
  rw [Block.tab, Block.tab, htables]

theorem Block.Keeps.select_hasNode (a : Nat) : c.hasNode a = b.hasNode a := by
  simp only [Block.hasNode, Block.node, h.select_tab]

theorem Block.Keeps.select_peerView (v : Nat) : c.peerView v = b.peerView v := by
  simp only [Block.peerView, h.select_tab]

theorem Block.Keeps.select_port (p : Nat) {f : Field} (hf : f ∈ portConfig p) : c.get f = b.get f :=
  have hp := linkConfig_notMem_select p 0 (by decide) f (by simp [hf])
  h.1 f hp.1 hp.2

theorem Block.Keeps.select_profile (band p : Nat) : c.profile band p = b.profile band p := by
  simp only [Block.profile, h.select_port p (f := R.LFE_CFG_H_PROFILE p) (by simp [portConfig]),
    h.select_port p (f := R.LFE_CFG_L_PROFILE p) (by simp [portConfig])]

theorem Block.Keeps.select_inService (p : Nat) : c.inService p = b.inService p := by
  have hfront : c.front = b.front := h.2 .front (by simp)
  have hfailed : c.get R.TRB_PORT_FAILED = b.get R.TRB_PORT_FAILED := h.1 _ (by decide) (by decide)
  simp only [Block.inService, Block.bit, hfront, hfailed]

theorem Block.Keeps.select_phasePresent (p : Nat) : c.flag (R.LFE_STAT_PHASE_PRESENT p) = b.flag (R.LFE_STAT_PHASE_PRESENT p) :=
  congrArg (· != 0) (h.select_port p (by simp [portConfig]))

/-- An entry of the ladder that a link may use (R203). -/
theorem Block.Keeps.select_ladder (band i : Nat) (hi : i < 16) : c.ladder band i = b.ladder band i := by
  have hH := linkConfig_notMem_select 0 i hi (R.PHY_LADDER_H i) (by simp)
  have hL := linkConfig_notMem_select 0 i hi (R.PHY_LADDER_L i) (by simp)
  rw [Block.ladder, Block.ladder, h.1 _ hH.1 hH.2, h.1 _ hL.1 hL.2]

theorem Block.Keeps.select_ladderLen (band : Nat) : c.ladderLen band = b.ladderLen band := by
  have hentries : (List.range 16).map (c.ladder band) = (List.range 16).map (b.ladder band) :=
    List.map_congr_left fun i hi => h.select_ladder band i (List.mem_range.1 hi)
  rw [Block.ladderLen, Block.ladderLen, hentries]

theorem Block.Keeps.select_entryMode (band i : Nat) (hi : i < 16) : c.entryMode band i = b.entryMode band i := by
  simp only [Block.entryMode, Block.hPorts, Block.lPorts, h.select_ladder band i hi, h.select_profile, h.select_phasePresent,
    h.select_inService]

theorem Block.Keeps.select_link (a band : Nat) : c.link a band = b.link a band := by
  have hphy : c.phy = b.phy := h.2 .phy (by simp)
  rw [Block.link, Block.link, hphy]

theorem Block.Keeps.select_ladderIdx (a band : Nat) : c.ladderIdx a band = b.ladderIdx a band := by
  rw [Block.ladderIdx, Block.ladderIdx, h.select_link, h.select_ladderLen]

theorem Block.Keeps.select_peerMode (a band : Nat) : c.peerMode a band = b.peerMode a band := by
  rw [Block.peerMode, Block.peerMode, h.select_ladderIdx, h.select_entryMode band _ (b.ladderIdx_lt a band)]

theorem Block.Keeps.select_linkStale (a band : Nat) : c.linkStale a band = b.linkStale a band := by
  have htruing : c.truing = b.truing := h.2 .truing (by simp)
  have hmac : c.mac = b.mac := h.2 .mac (by simp)
  simp only [Block.linkStale, Block.toolRest, Block.heardPort, htruing, hmac]

theorem Block.Keeps.select_truView (i : Nat) : c.truView i = b.truView i := by
  have htruing : c.truing = b.truing := h.2 .truing (by simp)
  simp only [Block.truView, Block.tru, htruing]

end

/-- A rounding draws on the free values alone. -/
theorem Block.keeps_openRound_select (b : Block) (x : Rat) : b.Keeps (b.openRound x).2 selectFields [.freeCtr] :=
  b.keeps_openRound x _ _ (by simp)

/-- The figures of a link that are read after the rounding of its error rate (R208). -/
theorem Block.openRound_link (b : Block) (x : Rat) (a band : Nat) : (b.openRound x).2.link a band = b.link a band :=
  (b.keeps_openRound_select x).select_link a band
theorem Block.openRound_ladderIdx (b : Block) (x : Rat) (a band : Nat) : (b.openRound x).2.ladderIdx a band = b.ladderIdx a band :=
  (b.keeps_openRound_select x).select_ladderIdx a band
theorem Block.openRound_peerMode (b : Block) (x : Rat) (a band : Nat) : (b.openRound x).2.peerMode a band = b.peerMode a band :=
  (b.keeps_openRound_select x).select_peerMode a band
theorem Block.openRound_linkStale (b : Block) (x : Rat) (a band : Nat) : (b.openRound x).2.linkStale a band = b.linkStale a band :=
  (b.keeps_openRound_select x).select_linkStale a band

section
variable {b c : Block} (h : b.Keeps c selectFields [])
include h

theorem Block.Keeps.select_free : b.Keeps c selectFields [.freeCtr] := h.widen _ _ (List.Subset.refl _) (by simp)

theorem Block.Keeps.select_openRound (x : Rat) : (c.openRound x).1 = (b.openRound x).1 := by
  have hfree : c.freeCtr = b.freeCtr := h.2 .freeCtr (by simp)
  simp only [Block.openRound, hfree, apply_ite Prod.fst]

theorem Block.Keeps.select_calView (i : Nat) : (c.calView i).1 = (b.calView i).1 := by
  simp only [Block.calView, apply_ite Prod.fst, h.select_free.select_calRec, h.select_openRound]

theorem Block.Keeps.select_lqView (v : Nat) : (c.lqView v).1 = (b.lqView v).1 := by
  simp only [Block.lqView, apply_ite Prod.fst, Block.snrField, Block.openRound_link, Block.openRound_ladderIdx,
    Block.openRound_peerMode, Block.openRound_linkStale, h.select_openRound, h.select_free.select_hasNode, h.select_free.select_link,
    h.select_free.select_ladderIdx, h.select_free.select_peerMode, h.select_free.select_linkStale]

/-- A stored selection leaves every view as it was. -/
theorem Block.Keeps.select_viewWords (sel v : Nat) : (c.viewWords sel v).1 = (b.viewWords sel v).1 := by
  have htrouble : c.trouble = b.trouble := h.2 .trouble (by simp)
  simp only [Block.viewWords, apply_ite Prod.fst, h.select_calView, h.select_lqView, h.select_free.select_queueView,
    h.select_free.select_chanView, h.select_free.select_peerView, h.select_free.select_truView, Block.shadowView, Block.classView,
    htrouble]

end

end Sys2Proof.Machine
end

section
/-! Writes of the select registers (R208, R250, R288, R344, R385, R436, R475, R478), and the settlement of their statement. -/

namespace Sys2Proof.Machine

/-! A write of a select register. -/

/-- A command of the register interface that changes nothing where a register is reachable. -/
theorem State.runReg_unchanged (s : State) (f : Block → Block) (e : s.blk.reachable = true → f s.blk = s.blk) :
    ∃ t, (.next (s.runReg f) : Host.Outcome State Fault Refusal) = .next t ∧ s.Keeps t [] [] := by
  refine ⟨_, rfl, State.keeps_run s _ _ _ ?_⟩
  dsimp only [Block.viaReg]
  split
  · next hr => rw [e hr]; exact Block.Keeps.refl _ _ _
  · exact Block.Keeps.refl _ _ _

theorem cmdWords_selects : ∀ sel ∈ selects, cmdWords.contains sel = false := by decide

theorem Block.listedWrite_select (b : Block) (p : Path) (sel v : Nat) (h : sel ∈ selects) (hok : b.writeOk sel v = true) :
    b.listedWrite p sel v = b.selectWrite p sel v := by
  have hselects : selects.contains sel = true := List.contains_iff_mem.2 h
  simp [Block.listedWrite, hok, cmdWords_selects sel h, hselects, -List.contains_eq_mem]

theorem Block.keeps_storeWord_select (b : Block) (sel v : Nat) (h : sel ∈ selects) :
    b.Keeps (b.storeWord sel v) selectFields [] := by
  refine b.keeps_storeWord sel v _ _ fun e he _ => ?_
  have hkeys : ∀ sel ∈ selects, ∀ e ∈ wordFields sel, e.1.access = .rw ∨ e.1.access = .w1c →
      e.2 ∈ selectFields.map Field.key := by decide +kernel
  exact hkeys sel h e he ‹_›

/-- After a write of `v` to the select register `sel` by path `p`: the register holds the value, the path reads the view that it names
(R498), and nothing changes beside the fields `l` and the parts `ps`. -/
structure State.Selected (s t : State) (p : Path) (sel v : Nat) (l : List Field) (ps : List Part) : Prop where
  get : ∀ f : Field, f.key ≠ R.TRB_SUMMARY.key → t.blk.get f = (s.blk.storeWord sel v).get f
  shows : ∀ e ∈ (s.blk.viewWords sel v).1, t.blk.viewRead p e.1 = e.2 % 2 ^ 32
  keeps : s.Keeps t l ps

/-- A path that writes a select register has its view: `hl` names the register's fields, `hview` what drawing the view may use. -/
theorem State.selectWrite_selected (s : State) {c : Instr} (p : Path) (sel v : Nat) (l : List Field) (ps : List Part)
    (he : exec c s = .next (s.runReg fun b => b.listedWrite p sel v)) (hr : s.blk.reachable = true) (hsel : sel ∈ selects)
    (hok : s.blk.writeOk sel v = true)
    (hl : ∀ e ∈ wordFields sel, e.1.access = .rw ∨ e.1.access = .w1c → e.2 ∈ l.map Field.key) (hp : p.part ∈ ps)
    (hview : (s.blk.storeWord sel v).Keeps ((s.blk.storeWord sel v).viewWords sel v).2 [] ps) :
    ∃ t, exec c s = .next t ∧ s.Selected t p sel v l ps := by
  refine ⟨_, exec_of_runReg _ he _ hr (s.blk.listedWrite_select p sel v hsel hok), ?_, ?_, State.keeps_run s _ _ _ ?_⟩
  · intro f hf
    exact (State.run_get s _ _ hf).trans ((Block.keeps_latchView _ p sel v [] ps hp hview).1 f (by simp) hf)
  · intro e hmem
    rw [← (s.blk.keeps_storeWord_select sel v hsel).select_viewWords] at hmem
    refine Block.viewRead_of_latch _ p _ _ ?_
    rw [State.run_blk, Block.updateAlert_latch]
    exact Block.latchView_latch _ p sel v hsel e hmem
  · exact (s.blk.keeps_storeWord sel v l ps hl).trans
      ((Block.keeps_latchView _ p sel v [] ps hp hview).widen _ _ (by simp) (List.Subset.refl _))

/-- Only the views of calibration records and of link quality round what they show. -/
theorem Block.viewWords_block (b : Block) (sel v : Nat) (h : sel ≠ 0x40100 ∧ sel ≠ 0x70180) : (b.viewWords sel v).2 = b := by
  simp only [Block.viewWords, h, if_false, apply_ite Prod.snd, ite_self]

/-- The other select registers change their path's latch alone. -/
theorem State.selectWrite_shown (s : State) {c : Instr} (p : Path) (sel v : Nat) (l : List Field)
    (he : exec c s = .next (s.runReg fun b => b.listedWrite p sel v)) (hr : s.blk.reachable = true)
    (hsel : sel ∈ selects ∧ sel ≠ 0x40100 ∧ sel ≠ 0x70180) (hok : s.blk.writeOk sel v = true)
    (hl : ∀ e ∈ wordFields sel, e.1.access = .rw ∨ e.1.access = .w1c → e.2 ∈ l.map Field.key) :
    ∃ t, exec c s = .next t ∧ s.Selected t p sel v l [p.part] := by
  refine s.selectWrite_selected p sel v l [p.part] he hr hsel.1 hok hl (by simp) ?_
  rw [Block.viewWords_block _ sel v hsel.2]
  exact Block.Keeps.refl _ _ _

theorem Block.keeps_calView (b : Block) (i : Nat) : b.Keeps (b.calView i).2 [] [.freeCtr] := by
  unfold Block.calView
  dsimp only
  split
  · exact Block.Keeps.refl _ _ _
  · exact b.keeps_openRound _ _ _ (by simp)

theorem Block.keeps_lqView (b : Block) (v : Nat) : b.Keeps (b.lqView v).2 [] [.freeCtr] := by
  unfold Block.lqView
  dsimp only
  split
  · exact Block.Keeps.refl _ _ _
  · exact b.keeps_openRound _ _ _ (by simp)

theorem Block.calView_unused (b : Block) (i : Nat) (h : (b.calRec i).inUse = false) :
    b.calView i = ((0x40100, 0) :: ((List.range 18).map fun k => 0x40104 + 4 * k).map (fun a => (a, 0)), b) := by
  simp only [Block.calView, h, if_true]

/-- An unused record's view draws on nothing (R250). -/
theorem Block.keeps_calView_unused (b : Block) (i : Nat) (ps : List Part) (h : (b.calRec i).inUse = false) :
    b.Keeps (b.calView i).2 [] ps := by
  rw [Block.calView_unused b i h]
  exact Block.Keeps.refl b _ _

theorem Block.lqView_absent (b : Block) (v : Nat) (h : b.hasNode (v % 65536) = false) :
    b.lqView v = ([(0x70184, 0x80008000), (0x70188, 2 ^ 28 + 0x80 * 2 ^ 20), (0x7018C, 0x00FFFFFF), (0x70190, 0)], b) := by
  simp only [Block.lqView, h, if_true]

/-- The view of a peer without a record draws on nothing (R208). -/
theorem Block.keeps_lqView_absent (b : Block) (v : Nat) (ps : List Part) (h : b.hasNode (v % 65536) = false) :
    b.Keeps (b.lqView v).2 [] ps := by
  rw [Block.lqView_absent b v h]
  exact Block.Keeps.refl b _ _

section
variable (s : State) (p : Path) (v : Word)

theorem qmgSelWrite_latches (hr : s.blk.reachable = true) :
    ∃ t, exec (.qmgSelWrite p v) s = .next t ∧ t.blk.get R.QMG_SEL = v.toNat % 4096 ∧
      (∀ e ∈ s.blk.queueView (v.toNat % 4096), t.blk.viewRead p e.1 = e.2 % 2 ^ 32) ∧ s.Keeps t [R.QMG_SEL] [p.part] := by
  obtain ⟨t, ht, h⟩ := s.selectWrite_shown p 0xA0010 v.toNat [R.QMG_SEL] (c := .qmgSelWrite p v) rfl hr (by decide)
    (by simp [Block.writeOk, writeOkHost]) (by rw [wordFields_qmgSel]; decide)
  exact ⟨t, ht, (h.get _ (by decide)).trans (Block.storeWord_get_rw _ 0xA0010 _ _ _ wordFields_qmgSel rfl rfl rfl (by decide)),
    h.shows, h.keeps⟩

theorem cusSelWrite_latches (hr : s.blk.reachable = true) (hv : v.toNat % 2048 ≤ 1023) :
    ∃ t, exec (.cusSelWrite p v) s = .next t ∧ t.blk.get R.CUS_SEL = v.toNat % 2048 ∧
      (∀ e ∈ s.blk.chanView (v.toNat % 2048), t.blk.viewRead p e.1 = e.2 % 2 ^ 32) ∧ s.Keeps t [R.CUS_SEL] [p.part] := by
  obtain ⟨t, ht, h⟩ := s.selectWrite_shown p 0xB0040 v.toNat [R.CUS_SEL] (c := .cusSelWrite p v) rfl hr (by decide)
    (by simp [Block.writeOk, writeOkHost, between', bits, hv]) (by rw [wordFields_cusSel]; decide)
  exact ⟨t, ht, (h.get _ (by decide)).trans (Block.storeWord_get_rw _ 0xB0040 _ _ _ wordFields_cusSel rfl rfl rfl (by decide)),
    h.shows, h.keeps⟩

/-- The calibration record's select register holds its index (R250). -/
theorem linkSel_get (b : Block) (word : Nat) : (b.storeWord 0x40100 word).get R.TIM_LINK_SEL_INDEX = word % 256 :=
  (b.storeWord_get_rw_at 0x40100 word 0 _ ⟨0x40100, [], 0, 8, .rw, 0, .v, false⟩ (by rw [wordFields_linkSel]; decide)
    (by rw [wordFields_linkSel]; decide) rfl rfl rfl (by decide)).trans (by simp [R.TIM_LINK_SEL_INDEX])

/-- A write of TIM_LINK_SEL, by what drawing the record's view may use. -/
theorem timLinkSelWrite_selected (ps : List Part) (hr : s.blk.reachable = true) (hp : p.part ∈ ps)
    (hview : (s.blk.storeWord 0x40100 v.toNat).Keeps ((s.blk.storeWord 0x40100 v.toNat).calView (v.toNat % 256)).2 [] ps) :
    ∃ t, exec (.timLinkSelWrite p v) s = .next t ∧ s.Selected t p 0x40100 v.toNat [R.TIM_LINK_SEL_INDEX] ps :=
  s.selectWrite_selected p 0x40100 v.toNat _ _ rfl hr (by decide) (by simp [Block.writeOk, writeOkTim])
    (by rw [wordFields_linkSel]; decide) hp (by simpa using hview)

theorem timLinkSelWrite_unused (hr : s.blk.reachable = true) (hc : (s.blk.calRec (v.toNat % 256)).inUse = false) :
    ∃ t, exec (.timLinkSelWrite p v) s = .next t ∧ t.blk.get R.TIM_LINK_SEL_INDEX = v.toNat % 256 ∧
      (∀ k, k < 18 → t.blk.viewRead p (0x40104 + 4 * k) = 0) ∧ s.Keeps t [R.TIM_LINK_SEL_INDEX] [p.part] := by
  have hstored := (s.blk.keeps_storeWord_select 0x40100 v.toNat (by decide)).select_free.select_calRec (v.toNat % 256)
  obtain ⟨t, ht, h⟩ := timLinkSelWrite_selected s p v [p.part] hr (by simp) (Block.keeps_calView_unused _ _ _ (by rw [hstored, hc]))
  refine ⟨t, ht, (h.get _ (by decide)).trans (linkSel_get _ _), fun k hk => ?_, h.keeps⟩
  have hmem : (0x40104 + 4 * k, 0) ∈ (s.blk.calView (v.toNat % 256)).1 := by
    rw [Block.calView_unused _ _ hc]
    simp [hk]
  exact h.shows _ hmem

theorem timLinkSelWrite_used {c : CalRec} (hr : s.blk.reachable = true) (hc : s.blk.calRec (v.toNat % 256) = c)
    (hused : c.inUse = true) :
    ∃ t, exec (.timLinkSelWrite p v) s = .next t ∧ t.blk.get R.TIM_LINK_SEL_INDEX = v.toNat % 256 ∧
      t.blk.viewRead p 0x40104 = c.peer % 2 ^ 32 ∧ t.blk.viewRead p 0x40108 = c.peer / 2 ^ 32 % 2 ^ 32 ∧
      (∀ e ∈ (s.blk.calView (v.toNat % 256)).1, e.1 ≠ 0x40128 → t.blk.viewRead p e.1 = e.2 % 2 ^ 32) ∧
      s.Keeps t [R.TIM_LINK_SEL_INDEX] [p.part, .freeCtr] := by
  obtain ⟨t, ht, h⟩ := timLinkSelWrite_selected s p v [p.part, .freeCtr] hr (by simp)
    ((Block.keeps_calView _ _).widen _ _ (List.Subset.refl _) (by simp))
  have hpeer : twoWords 0x40104 c.peer ⊆ (s.blk.calView (v.toNat % 256)).1 := by
    simp [Block.calView, hc, hused, twoWords]
  refine ⟨t, ht, (h.get _ (by decide)).trans (linkSel_get _ _), ?_, ?_, fun e he _ => h.shows e he, h.keeps⟩
  · exact (h.shows _ (hpeer (List.mem_cons_self ..))).trans (Nat.mod_mod _ _)
  · exact (h.shows (0x40108, c.peer / 2 ^ 32 % 2 ^ 32) (hpeer (by simp [twoWords]))).trans (Nat.mod_mod _ _)

/-- A write of PHY_LQ_PEER, by what drawing the record's view may use (R208). -/
theorem phyLqPeerWrite_selected (ps : List Part) (hr : s.blk.reachable = true) (hp : p.part ∈ ps)
    (hview : (s.blk.storeWord 0x70180 v.toNat).Keeps ((s.blk.storeWord 0x70180 v.toNat).lqView v.toNat).2 [] ps) :
    ∃ t, exec (.phyLqPeerWrite p v) s = .next t ∧ t.blk.get R.PHY_LQ_PEER_ADDR = v.toNat % 65536 ∧
      t.blk.get R.PHY_LQ_PEER_BAND = v.toNat / 65536 % 2 ∧
      s.Selected t p 0x70180 v.toNat [R.PHY_LQ_PEER_ADDR, R.PHY_LQ_PEER_BAND] ps := by
  obtain ⟨t, ht, h⟩ := s.selectWrite_selected p 0x70180 v.toNat [R.PHY_LQ_PEER_ADDR, R.PHY_LQ_PEER_BAND] ps (c := .phyLqPeerWrite p v)
    rfl hr (by decide) (by simp [Block.writeOk, writeOkPhy]) (by rw [wordFields_lqPeer]; decide) hp
    (by simpa using hview)
  refine ⟨t, ht, (h.get _ (by decide)).trans ?_, (h.get _ (by decide)).trans ?_, h⟩
  · exact (Block.storeWord_get_rw_at _ 0x70180 _ 0 _ ⟨0x70180, [], 0, 16, .rw, 0, .v, false⟩ (by rw [wordFields_lqPeer]; decide)
      (by rw [wordFields_lqPeer]; decide) rfl rfl rfl (by decide)).trans (by simp [R.PHY_LQ_PEER_ADDR])
  · exact Block.storeWord_get_rw_at _ 0x70180 _ 16 _ ⟨0x70180, [], 16, 1, .rw, 0, .v, false⟩ (by rw [wordFields_lqPeer]; decide)
      (by rw [wordFields_lqPeer]; decide) rfl rfl rfl (by decide)

theorem phyLqPeerWrite_absent (hr : s.blk.reachable = true) (hn : s.blk.hasNode (v.toNat % 65536) = false) :
    ∃ t, exec (.phyLqPeerWrite p v) s = .next t ∧ t.blk.viewRead p 0x70184 = 0x80008000 ∧ t.blk.viewRead p 0x7018C = 0x00FFFFFF ∧
      t.blk.get R.PHY_LQ_PEER_ADDR = v.toNat % 65536 ∧ s.Keeps t [R.PHY_LQ_PEER_ADDR, R.PHY_LQ_PEER_BAND] [p.part] := by
  have hstored := (s.blk.keeps_storeWord_select 0x70180 v.toNat (by decide)).select_free.select_hasNode (v.toNat % 65536)
  obtain ⟨t, ht, haddr, -, h⟩ := phyLqPeerWrite_selected s p v [p.part] hr (by simp)
    (Block.keeps_lqView_absent _ _ _ (hstored.trans hn))
  have hshows : ∀ e ∈ (s.blk.lqView v.toNat).1, t.blk.viewRead p e.1 = e.2 % 2 ^ 32 := h.shows
  rw [Block.lqView_absent _ _ hn] at hshows
  exact ⟨t, ht, hshows (0x70184, 0x80008000) (by simp), hshows (0x7018C, 0x00FFFFFF) (by simp), haddr, h.keeps⟩

theorem phyLqPeerWrite_latches (hr : s.blk.reachable = true) :
    ∃ t, exec (.phyLqPeerWrite p v) s = .next t ∧ t.blk.get R.PHY_LQ_PEER_ADDR = v.toNat % 65536 ∧
      t.blk.get R.PHY_LQ_PEER_BAND = v.toNat / 65536 % 2 ∧
      (∀ e ∈ (s.blk.lqView v.toNat).1, e.1 ≠ 0x7018C → t.blk.viewRead p e.1 = e.2 % 2 ^ 32) ∧
      s.Keeps t [R.PHY_LQ_PEER_ADDR, R.PHY_LQ_PEER_BAND] [p.part, .freeCtr] := by
  obtain ⟨t, ht, haddr, hband, h⟩ := phyLqPeerWrite_selected s p v [p.part, .freeCtr] hr (by simp)
    ((Block.keeps_lqView _ _).widen _ _ (List.Subset.refl _) (by simp))
  exact ⟨t, ht, haddr, hband, fun e he _ => h.shows e he, h.keeps⟩

theorem macPeerSelWrite_latches (hr : s.blk.reachable = true) :
    ∃ t, exec (.macPeerSelWrite p v) s = .next t ∧ t.blk.get R.MAC_PEER_SEL_ADDR = v.toNat % 65536 ∧
      (∀ e ∈ s.blk.peerView v.toNat, t.blk.viewRead p e.1 = e.2 % 2 ^ 32) ∧
      s.Keeps t [R.MAC_PEER_SEL_ADDR, R.MAC_PEER_SEL_CLASS] [p.part] := by
  obtain ⟨t, ht, h⟩ := s.selectWrite_shown p 0x80080 v.toNat [R.MAC_PEER_SEL_ADDR, R.MAC_PEER_SEL_CLASS]
    (c := .macPeerSelWrite p v) rfl hr (by decide) (by simp [Block.writeOk, Block.writeOkMac]) (by rw [wordFields_peerSel]; decide)
  refine ⟨t, ht, (h.get _ (by decide)).trans ?_, h.shows, h.keeps⟩
  exact (Block.storeWord_get_rw_at _ 0x80080 _ 0 _ ⟨0x80080, [], 0, 16, .rw, 0, .v, false⟩ (by rw [wordFields_peerSel]; decide)
    (by rw [wordFields_peerSel]; decide) rfl rfl rfl (by decide)).trans (by simp [R.MAC_PEER_SEL_ADDR])

theorem trbShdAddrWrite_latches (hr : s.blk.reachable = true) :
    ∃ t, exec (.trbShdAddrWrite p v) s = .next t ∧ t.blk.get R.TRB_SHD_ADDR = v.toNat ∧
      (isCounter (8 * v.toNat) = true → t.blk.viewRead p 0x20034 = Tab.get 0 s.blk.trouble.shadow v.toNat % 2 ^ 32 ∧
        t.blk.viewRead p 0x2003C = 0) ∧
      (isCounter (8 * v.toNat) = false → t.blk.viewRead p 0x20034 = 0 ∧ t.blk.viewRead p 0x2003C = 1) ∧
      s.Keeps t [R.TRB_SHD_ADDR] [p.part] := by
  obtain ⟨t, ht, h⟩ := s.selectWrite_shown p 0x20030 v.toNat [R.TRB_SHD_ADDR] (c := .trbShdAddrWrite p v) rfl hr (by decide)
    (by simp [Block.writeOk, writeOkPwr]) (by rw [wordFields_shdAddr]; decide)
  have hshows : ∀ e ∈ s.blk.shadowView v.toNat, t.blk.viewRead p e.1 = e.2 % 2 ^ 32 := h.shows
  refine ⟨t, ht, (h.get _ (by decide)).trans ?_, fun hc => ?_, fun hc => ?_, h.keeps⟩
  · exact (Block.storeWord_get_rw _ 0x20030 _ _ _ wordFields_shdAddr rfl rfl rfl (by decide)).trans (Nat.mod_eq_of_lt v.isLt)
  · simp only [Block.shadowView, hc, if_true] at hshows
    exact ⟨(hshows (0x20034, _) (List.mem_cons_self ..)).trans (Nat.mod_mod _ _), hshows (0x2003C, 0) (by simp)⟩
  · simp only [Block.shadowView, hc] at hshows
    exact ⟨hshows (0x20034, 0) (by simp), hshows (0x2003C, 1) (by simp)⟩

theorem trbClassSelWrite_latches (hr : s.blk.reachable = true) (hv : v.toNat % 8 ≤ 5) :
    ∃ t, exec (.trbClassSelWrite p v) s = .next t ∧ t.blk.get R.TRB_CLASS_SEL = v.toNat % 8 ∧
      t.blk.viewRead p 0x20020 = s.blk.trouble.clsWindow.getD (v.toNat % 8) 0 % 2 ^ 32 ∧
      t.blk.viewRead p 0x20024 = s.blk.trouble.clsThresh.getD (v.toNat % 8) 0 % 2 ^ 32 ∧ s.Keeps t [R.TRB_CLASS_SEL] [p.part] := by
  obtain ⟨t, ht, h⟩ := s.selectWrite_shown p 0x2001C v.toNat [R.TRB_CLASS_SEL] (c := .trbClassSelWrite p v) rfl hr (by decide)
    (by simp [Block.writeOk, writeOkPwr, between', bits, hv]) (by rw [wordFields_classSel]; decide)
  have hshows : ∀ e ∈ s.blk.classView (v.toNat % 8), t.blk.viewRead p e.1 = e.2 % 2 ^ 32 := h.shows
  exact ⟨t, ht, (h.get _ (by decide)).trans (Block.storeWord_get_rw _ 0x2001C _ _ _ wordFields_classSel rfl rfl rfl (by decide)),
    hshows (0x20020, _) (List.mem_cons_self ..), hshows (0x20024, _) (List.mem_cons_of_mem _ (List.mem_cons_self ..)), h.keeps⟩

theorem truBlkSelWrite_latches (hr : s.blk.reachable = true) (hv : v.toNat % 16 ≤ 10) :
    ∃ t, exec (.truBlkSelWrite p v) s = .next t ∧ t.blk.get R.TRU_BLK_SEL = v.toNat % 16 ∧
      (∀ e ∈ s.blk.truView (v.toNat % 16), t.blk.viewRead p e.1 = e.2 % 2 ^ 32) ∧ s.Keeps t [R.TRU_BLK_SEL] [p.part] := by
  obtain ⟨t, ht, h⟩ := s.selectWrite_shown p 0xE0030 v.toNat [R.TRU_BLK_SEL] (c := .truBlkSelWrite p v) rfl hr (by decide)
    (by simp [Block.writeOk, writeOkHost, between', bits, hv]) (by rw [wordFields_blkSel]; decide)
  exact ⟨t, ht, (h.get _ (by decide)).trans (Block.storeWord_get_rw _ 0xE0030 _ _ _ wordFields_blkSel rfl rfl rfl (by decide)),
    h.shows, h.keeps⟩

/-- A value that the table of a select register refuses, no reserved encoding, changes nothing (R5). -/
theorem refusedSelect_unchanged {c : Instr} (sel : Nat) (he : exec c s = .next (s.runReg fun b => b.listedWrite p sel v.toNat))
    (hok : s.blk.writeOk sel v.toNat = false) (hcode : reservedCode sel v.toNat = false) :
    ∃ t, exec c s = .next t ∧ s.Keeps t [] [] := by
  rw [he]
  exact s.runReg_unchanged _ fun _ => by rw [Block.listedWrite_refused _ _ _ _ hok, hcode]; rfl

end

/-- Settles O58: a select register's write stores the selection, which changes no view, and latches the view for its path. -/
theorem viewLatches : Obligations.ViewLatches := by
  refine ⟨qmgSelWrite_latches, cusSelWrite_latches, ?_, timLinkSelWrite_unused, ?_, phyLqPeerWrite_absent, ?_, macPeerSelWrite_latches,
    trbShdAddrWrite_latches, trbClassSelWrite_latches, truBlkSelWrite_latches, ?_, ?_, ?_⟩
  · intro s p v hv
    exact refusedSelect_unchanged s p v 0xB0040 rfl (by simpa [Block.writeOk, writeOkHost, between', bits] using hv)
      (by simp [reservedCode])
  · intro s p v c hr hc hused
    exact timLinkSelWrite_used s p v hr hc hused
  · intro s p v hr _
    exact phyLqPeerWrite_latches s p v hr
  · intro s p v hv
    exact refusedSelect_unchanged s p v 0x2001C rfl (by simpa [Block.writeOk, writeOkPwr, between', bits] using hv)
      (by simp [reservedCode])
  · intro s p v hv
    exact refusedSelect_unchanged s p v 0xE0030 rfl (by simpa [Block.writeOk, writeOkHost, between', bits] using hv)
      (by simp [reservedCode])
  · intro s p v hr
    exact s.runReg_unchanged _ fun h => absurd h (by simp [hr])

end Sys2Proof.Machine
end

section
/-! Line capture (R207): what arming, the trigger and the end make of PHY_CAP_STAT, and the settlement of its statement. -/

namespace Sys2Proof.Machine

theorem wordFields_capCtrl : wordFields 0x701C0 =
    [(⟨0x701C0, [], 0, 2, .rw, 0, .v, false⟩, R.PHY_CAP_CTRL_PORT.key),
     (⟨0x701C0, [], 2, 1, .rw, 0, .v, false⟩, R.PHY_CAP_CTRL_BAND.key),
     (⟨0x701C0, [], 3, 3, .rw, 0, .v, false⟩, R.PHY_CAP_CTRL_TRIG.key),
     (⟨0x701C0, [], 6, 1, .w1s, 0, .v, false⟩, R.PHY_CAP_CTRL_ARM.key),
     (⟨0x701C0, [], 7, 1, .w1s, 0, .v, false⟩, R.PHY_CAP_CTRL_STOP.key)] := by
  decide +kernel

/-- The fields that PHY_CAP_CTRL stores (R208). -/
def capCtrlFields : List Field := [R.PHY_CAP_CTRL_PORT, R.PHY_CAP_CTRL_BAND, R.PHY_CAP_CTRL_TRIG]

/-- The fields that show a capture (R207, R208). -/
def capStatFields : List Field := [R.PHY_CAP_STAT_STATE, R.PHY_CAP_STAT_ABORTED, R.PHY_CAP_STAT_UNITS]

/-- PHY_CAP_CTRL with ARM and the given port, band and trigger (R208). -/
def armWord (p band trig : Nat) : Nat := p % 4 + 4 * (band % 2) + 8 * (trig % 8) + 64

section
variable (b : Block)

/-! What the word stores. -/

theorem capCtrl_get_port (word : Nat) : (b.storeWord 0x701C0 word).get R.PHY_CAP_CTRL_PORT = word % 4 :=
  (b.storeWord_get_rw_at 0x701C0 word 0 _ ⟨0x701C0, [], 0, 2, .rw, 0, .v, false⟩ (by rw [wordFields_capCtrl]; decide)
    (by rw [wordFields_capCtrl]; decide) rfl rfl rfl (by decide)).trans (by simp [R.PHY_CAP_CTRL_PORT])

theorem capCtrl_get_band (word : Nat) : (b.storeWord 0x701C0 word).get R.PHY_CAP_CTRL_BAND = word / 4 % 2 :=
  b.storeWord_get_rw_at 0x701C0 word 2 _ ⟨0x701C0, [], 2, 1, .rw, 0, .v, false⟩ (by rw [wordFields_capCtrl]; decide)
    (by rw [wordFields_capCtrl]; decide) rfl rfl rfl (by decide)

theorem capCtrl_get_trig (word : Nat) : (b.storeWord 0x701C0 word).get R.PHY_CAP_CTRL_TRIG = word / 8 % 8 :=
  b.storeWord_get_rw_at 0x701C0 word 3 _ ⟨0x701C0, [], 3, 3, .rw, 0, .v, false⟩ (by rw [wordFields_capCtrl]; decide)
    (by rw [wordFields_capCtrl]; decide) rfl rfl rfl (by decide)

theorem Block.keeps_capCtrl_store (word : Nat) (ps : List Part) : b.Keeps (b.storeWord 0x701C0 word) capCtrlFields ps :=
  b.keeps_storeWord 0x701C0 word _ _ (by rw [wordFields_capCtrl]; decide)

/-! The trigger. -/

/-- A capture that does not wait for this trigger goes on as it is. -/
theorem Block.captureTrigger_idle (kind : Nat) (h : b.get R.PHY_CAP_CTRL_TRIG ≠ kind) : b.captureTrigger kind = b := by
  simp [Block.captureTrigger, h]

theorem Block.captureTrigger_starts (kind : Nat) (hs : b.get R.PHY_CAP_STAT_STATE = 1) (ht : b.get R.PHY_CAP_CTRL_TRIG = kind) :
    (b.captureTrigger kind).get R.PHY_CAP_STAT_STATE = 2 ∧
      (b.captureTrigger kind).get R.PHY_CAP_STAT_UNITS = b.phy.capture.length % 2 ^ R.PHY_CAP_STAT_UNITS.width := by
  unfold Block.captureTrigger
  rw [if_pos ⟨hs, ht⟩]
  refine ⟨?_, Block.get_set_self _ _ _⟩
  rw [Block.get_set_ne _ _ _ _ (by decide), Block.get_set_self]
  rfl

/-! Arming. -/

/-- The ring starts empty (R207). -/
def Block.startRing : Block :=
  let b := ((b.set R.PHY_CAP_STAT_STATE 1).set R.PHY_CAP_STAT_ABORTED 0).set R.PHY_CAP_STAT_UNITS 0
  { b with phy := { b.phy with capture := [] } }

theorem Block.keeps_startRing : b.Keeps b.startRing capStatFields [.phy] :=
  (((b.keeps_set _ _ _ _ (by decide)).trans (Block.keeps_set _ _ _ _ _ (by decide))).trans
    (Block.keeps_set _ _ _ _ _ (by decide))).trans (Block.keeps_phy _ _ _ _ (by simp))

theorem Block.startRing_state : b.startRing.get R.PHY_CAP_STAT_STATE = 1 := by
  change (((b.set R.PHY_CAP_STAT_STATE 1).set R.PHY_CAP_STAT_ABORTED 0).set R.PHY_CAP_STAT_UNITS 0).get R.PHY_CAP_STAT_STATE = 1
  rw [Block.get_set_ne _ _ _ _ (by decide), Block.get_set_ne _ _ _ _ (by decide), Block.get_set_self]
  rfl

/-- Where the mode does not admit it, ARM does nothing (R207). -/
theorem Block.captureArm_otherMode (h : ¬(b.mode = 4 ∨ b.mode = 6 ∨ b.mode = 7 ∨ b.mode = 10)) : b.captureArm = b := by
  simp only [Block.captureArm, h, false_and, if_false]

/-- ARM in a mode that admits it, while no capture runs and a trigger has to come: the ring starts where the region has a size. -/
theorem Block.captureArm_waits (hm : b.mode = 4 ∨ b.mode = 6 ∨ b.mode = 7 ∨ b.mode = 10) (hs : b.get R.PHY_CAP_STAT_STATE ≠ 2)
    (ht : b.get R.PHY_CAP_CTRL_TRIG ≠ 0) : b.captureArm = if b.captureRegion = 0 then b else b.startRing := by
  have htrig : b.startRing.get R.PHY_CAP_CTRL_TRIG ≠ 0 := by
    rw [b.keeps_startRing.1 _ (by decide) (by decide)]
    exact ht
  by_cases hr : b.captureRegion = 0
  · simp only [Block.captureArm, hr, ne_eq, not_true, false_and, and_false, if_false, if_true]
  · rw [if_neg hr, Block.captureArm, if_pos ⟨hm, hr, hs⟩]
    exact b.startRing.captureTrigger_idle 0 htrig

/-! The end. -/

theorem Block.keeps_captureEnd (aborted : Bool) (ps : List Part) :
    b.Keeps (b.captureEnd aborted) [R.PHY_CAP_STAT_STATE, R.PHY_CAP_STAT_ABORTED] ps :=
  Block.keeps_when ((b.keeps_set _ _ _ _ (by decide)).trans (Block.keeps_set _ _ _ _ _ (by decide)))

theorem Block.captureEnd_done (hs : b.get R.PHY_CAP_STAT_STATE = 1 ∨ b.get R.PHY_CAP_STAT_STATE = 2) :
    (b.captureEnd false).get R.PHY_CAP_STAT_STATE = 3 ∧ (b.captureEnd false).get R.PHY_CAP_STAT_ABORTED = 0 := by
  rw [Block.captureEnd, if_pos hs, Block.setFlag_eq]
  refine ⟨?_, Block.get_set_self _ _ _⟩
  rw [Block.get_set_ne _ _ _ _ (by decide), Block.get_set_self]
  rfl

/-! The command ARM. -/

theorem armWord_fields (p band trig : Nat) (ht : trig ≤ 5) : armWord p band trig % 4 = p % 4 ∧
    armWord p band trig / 4 % 2 = band % 2 ∧ armWord p band trig / 8 % 8 = trig ∧ (armWord p band trig).testBit 6 = true ∧
    (armWord p band trig).testBit 7 = false := by
  simp only [armWord, Nat.testBit_eq_decide_div_mod_eq, decide_eq_true_eq, decide_eq_false_iff_not]
  omega

/-- A write of PHY_CAP_CTRL with ARM and a trigger that is no reserved encoding. -/
theorem Block.listedWrite_arm (p band trig : Nat) (ht : trig ≤ 5) :
    b.listedWrite .host 0x701C0 (armWord p band trig) = (b.storeWord 0x701C0 (armWord p band trig)).captureArm := by
  obtain ⟨-, -, htrig, harm, hstop⟩ := armWord_fields p band trig ht
  have hok : b.writeOk 0x701C0 (armWord p band trig) = true := by
    simp [Block.writeOk, writeOkPhy, between', bits, htrig, ht]
  have hcmd : cmdWords.contains 0x701C0 = true := by decide
  simp [Block.listedWrite, hok, hcmd, Block.cmdWrite, Block.capCtrl, harm, hstop, -List.contains_eq_mem]

/-- What ARM reads of the node is not stored in PHY_CAP_CTRL. -/
theorem Block.capCtrl_store_region (word : Nat) : (b.storeWord 0x701C0 word).captureRegion = b.captureRegion := by
  have himage : (b.storeWord 0x701C0 word).image = b.image := (b.keeps_capCtrl_store word []).2 .image (by simp)
  simp only [Block.captureRegion, Block.segment, himage]

theorem Block.capCtrl_store_mode (word : Nat) : (b.storeWord 0x701C0 word).mode = b.mode :=
  (b.keeps_capCtrl_store word []).1 _ (by decide) (by decide)

end

section
variable (s : State) (p band trig : Nat)

theorem captureArm_arms (hm : s.blk.mode = 4 ∨ s.blk.mode = 6 ∨ s.blk.mode = 7 ∨ s.blk.mode = 10) (h1 : 1 ≤ trig) (h5 : trig ≤ 5)
    (hs : s.blk.get R.PHY_CAP_STAT_STATE ≠ 2) :
    ∃ t, exec (.captureArm p band trig) s = .next t ∧ t.blk.get R.PHY_CAP_CTRL_PORT = p % 4 ∧
      t.blk.get R.PHY_CAP_CTRL_BAND = band % 2 ∧ t.blk.get R.PHY_CAP_CTRL_TRIG = trig ∧
      t.blk.get R.PHY_CAP_STAT_STATE = (if s.blk.captureRegion = 0 then s.blk.get R.PHY_CAP_STAT_STATE else 1) ∧
      s.Keeps t (capCtrlFields ++ capStatFields) [.phy] := by
  obtain ⟨hport, hband, htrig, -, -⟩ := armWord_fields p band trig h5
  have hr : s.blk.reachable = true := by simp only [Block.reachable, decide_eq_true_eq]; omega
  generalize hc : s.blk.storeWord 0x701C0 (armWord p band trig) = c
  have hstore : s.blk.Keeps c capCtrlFields [.phy] := hc ▸ s.blk.keeps_capCtrl_store _ _
  have hstate : c.get R.PHY_CAP_STAT_STATE = s.blk.get R.PHY_CAP_STAT_STATE := hstore.1 _ (by decide) (by decide)
  have hctrig : c.get R.PHY_CAP_CTRL_TRIG = trig := by rw [← hc, capCtrl_get_trig, htrig]
  have hregion : c.captureRegion = s.blk.captureRegion := hc ▸ s.blk.capCtrl_store_region _
  have harm : c.captureArm = if s.blk.captureRegion = 0 then c else c.startRing := by
    rw [← hregion]
    exact c.captureArm_waits (by rw [← hc, s.blk.capCtrl_store_mode]; exact hm) (hstate ▸ hs) (by omega)
  have hring : c.Keeps (if s.blk.captureRegion = 0 then c else c.startRing) capStatFields [.phy] :=
    Block.keeps_ite (Block.Keeps.refl _ _ _) c.keeps_startRing
  have hget (f : Field) (hf : f ∈ capCtrlFields) :
      (s.run fun _ => if s.blk.captureRegion = 0 then c else c.startRing).blk.get f = c.get f := by
    have hoff : ∀ f ∈ capCtrlFields, f.key ∉ capStatFields.map Field.key ∧ f.key ≠ R.TRB_SUMMARY.key := by decide
    exact (State.run_get s _ _ (hoff f hf).2).trans (hring.1 f (hoff f hf).1 (hoff f hf).2)
  have hwrite : s.blk.listedWrite .host 0x701C0 (armWord p band trig) = if s.blk.captureRegion = 0 then c else c.startRing := by
    rw [s.blk.listedWrite_arm p band trig h5, hc, harm]
  refine ⟨_, exec_of_runReg _ rfl _ hr hwrite, ?_, ?_, ?_, ?_,
    State.keeps_run s _ _ _ ((hstore.widen _ _ (by simp) (by simp)).trans (hring.widen _ _ (by simp) (by simp)))⟩
  · rw [hget _ (by decide), ← hc, capCtrl_get_port, hport]
  · rw [hget _ (by decide), ← hc, capCtrl_get_band, hband]
  · rw [hget _ (by decide), hctrig]
  · rw [State.run_get s _ _ (by decide)]
    split
    · exact hstate
    · exact c.startRing_state

theorem captureArm_otherMode (hr : s.blk.reachable = true) (h5 : trig ≤ 5)
    (hm : ¬(s.blk.mode = 4 ∨ s.blk.mode = 6 ∨ s.blk.mode = 7 ∨ s.blk.mode = 10)) :
    ∃ t, exec (.captureArm p band trig) s = .next t ∧ s.Keeps t capCtrlFields [] := by
  refine ⟨_, exec_of_runReg _ rfl _ hr ((s.blk.listedWrite_arm p band trig h5).trans (Block.captureArm_otherMode _ ?_)),
    State.keeps_run s _ _ _ (s.blk.keeps_capCtrl_store _ _)⟩
  rw [s.blk.capCtrl_store_mode]
  exact hm

theorem captureTrigger_starts (kind : Nat) (hr : s.blk.running = true) (hs : s.blk.get R.PHY_CAP_STAT_STATE = 1)
    (ht : s.blk.get R.PHY_CAP_CTRL_TRIG = kind) :
    ∃ t, exec (.captureTrigger kind) s = .next t ∧ t.blk.get R.PHY_CAP_STAT_STATE = 2 ∧
      t.blk.get R.PHY_CAP_STAT_UNITS = s.blk.phy.capture.length % 2 ^ R.PHY_CAP_STAT_UNITS.width ∧ s.Keeps t captureFields [.phy] := by
  obtain ⟨hstate, hunits⟩ := s.blk.captureTrigger_starts kind hs ht
  exact ⟨_, exec_of_runOn _ rfl _ hr rfl, (State.run_get s _ _ (by decide)).trans hstate, (State.run_get s _ _ (by decide)).trans hunits,
    State.keeps_run s _ _ _ (s.blk.keeps_captureTrigger kind)⟩

/-- A command that ends the capture, whatever asks for it. -/
theorem captureEnd_ends {c : Instr} (he : exec c s = .next (s.run fun _ => s.blk.captureEnd false))
    (hs : s.blk.get R.PHY_CAP_STAT_STATE = 1 ∨ s.blk.get R.PHY_CAP_STAT_STATE = 2) :
    ∃ t, exec c s = .next t ∧ t.blk.get R.PHY_CAP_STAT_STATE = 3 ∧ t.blk.get R.PHY_CAP_STAT_ABORTED = 0 ∧
      s.Keeps t [R.PHY_CAP_STAT_STATE, R.PHY_CAP_STAT_ABORTED] [] := by
  obtain ⟨hstate, haborted⟩ := s.blk.captureEnd_done hs
  exact ⟨_, he, (State.run_get s _ _ (by decide)).trans hstate, (State.run_get s _ _ (by decide)).trans haborted,
    State.keeps_run s _ _ _ (s.blk.keeps_captureEnd false _)⟩

end

/-- Settles O24: ARM starts the ring behind PHY_CAP_CTRL, its trigger starts the capture, STOP and the last unit end it. -/
theorem lineCapture : Obligations.LineCapture := by
  refine ⟨captureArm_arms, captureArm_otherMode, captureTrigger_starts, ?_, ?_⟩
  · intro s hr hs
    exact captureEnd_ends s (exec_of_runReg _ rfl _ hr rfl) hs
  · intro s hr hs
    exact captureEnd_ends s (exec_of_runOn _ rfl _ hr (if_pos hs)) (.inr hs)

end Sys2Proof.Machine
end

section
/-! The time unit's shared operations (R215, R238, R241, R243, R247): what each changes, and what the fields that it is for then
hold. -/

namespace Sys2Proof.Machine

/-! A frame goes on over one more update. -/

section
variable {b c : Block} {l : List Field} {ps : List Part}

theorem Block.Keeps.andSet (h : b.Keeps c l ps) (f : Field) (v : Nat) (hf : f ∈ l) : b.Keeps (c.set f v) l ps :=
  h.trans (c.keeps_set f v l ps (List.mem_map_of_mem hf))

theorem Block.Keeps.andTime (h : b.Keeps c l ps) (u : TimeUnit) (hp : .time ∈ ps) : b.Keeps { c with time := u } l ps :=
  h.trans (c.keeps_time u l ps hp)

theorem Block.Keeps.andStick (h : b.Keeps c l ps) (f : Field) (i : Nat) (hf : f :: recordFields ⊆ l) (hp : [.records] ⊆ ps) :
    b.Keeps (c.stick f i) l ps := h.trans ((c.keeps_stick f i).widen _ _ hf hp)

theorem Block.Keeps.andCount (h : b.Keeps c l ps) (n f : Field) (hf : n :: f :: recordFields ⊆ l) (hp : [.records] ⊆ ps) :
    b.Keeps (c.count n f) l ps := h.trans ((c.keeps_count n f).widen _ _ hf hp)

end

section
variable (b : Block)

/-! TRACEABLE and the advertised clockClass (R223, R247). -/

/-- The fields that follow the state of the time unit (R247). -/
def timeShownFields : List Field := [R.TIM_STAT_TRACEABLE, R.TIM_PTP_STAT_CLOCK_CLASS]

theorem Block.keeps_showTime (ps : List Part) : b.Keeps b.showTime timeShownFields ps :=
  ((Block.Keeps.refl b _ _).andSet _ _ (by decide)).andSet _ _ (by decide)

/-! A change of state (R215, R241, R250). -/

/-- The fields that follow a change of TIM_STAT.STATE (R241, R247, R250). -/
def stateFollowFields : List Field :=
  [R.TIM_STAT_OUT_ACTIVE, R.TIM_TROUBLE_LOCK_LOST] ++ timeShownFields ++ recordFields

theorem Block.keeps_outputsOff (l : List Field) (h : R.TIM_STAT_OUT_ACTIVE ∈ l) (ps : List Part) (hp : .modl ∈ ps) :
    b.Keeps b.outputsOff l ps :=
  (b.keeps_pins _ _ _ hp).andSet _ _ h

theorem Block.keeps_setTimState_follow (k : Nat) :
    (b.set R.TIM_STAT_STATE k).Keeps (b.setTimState k) stateFollowFields [.modl, .records] :=
  ((Block.keeps_ite (Block.Keeps.refl _ _ _) (Block.keeps_outputsOff _ _ (by decide) _ (by simp))).trans
    (Block.keeps_when ((Block.keeps_stick _ _ 0).widen _ _ (by decide) (by simp)))).trans
    ((Block.keeps_showTime _ _).widen _ _ (by decide) (List.Subset.refl _))

theorem Block.setTimState_state (k : Nat) : (b.setTimState k).get R.TIM_STAT_STATE = k % 2 ^ R.TIM_STAT_STATE.width :=
  ((b.keeps_setTimState_follow k).1 _ (by decide) (by decide)).trans (Block.get_set_self _ _ _)

theorem Block.acquire_state : b.acquire.get R.TIM_STAT_STATE = 1 := b.setTimState_state 1

theorem Block.acquire_time : b.acquire.time = { b.time with accepted := 0, good := 0 } := by
  have htime : (b.setTimState 1).time = b.time := (b.keeps_setTimState 1).2 .time (by decide)
  rw [Block.acquire, htime]

/-! A new timing parent (R243, R244). -/

/-- The fields that a new timing parent may change (R243, R250). -/
def parentFields : List Field := [R.TIM_PARENT_PARENT, R.TIM_TROUBLE_PARENT_CHANGE] ++ acquireFields

/-- The fields that naming the parent changes, before ACQUIRING is entered (R243). -/
def namedParentFields : List Field := [R.TIM_PARENT_PARENT, R.TIM_TROUBLE_PARENT_CHANGE] ++ recordFields

/-- The parent as it shows before ACQUIRING is entered. -/
def Block.namedParent (p : Nat) : Block := (b.set R.TIM_PARENT_PARENT p).stick R.TIM_TROUBLE_PARENT_CHANGE

theorem Block.keeps_namedParent (p : Nat) : b.Keeps (b.namedParent p) namedParentFields [.records] :=
  ((Block.Keeps.refl b _ _).andSet _ _ (by decide)).andStick _ _ (by decide) (by simp)

theorem Block.keeps_changeParent_named (p : Nat) : (b.namedParent p).Keeps (b.changeParent p) acquireFields [.modl, .records, .time] :=
  Block.keeps_ite (Block.Keeps.refl _ _ _) (Block.keeps_acquire _)

theorem Block.keeps_changeParent (p : Nat) : b.Keeps (b.changeParent p) parentFields [.modl, .records, .time] :=
  ((b.keeps_namedParent p).widen _ _ (by decide) (by simp)).trans
    ((b.keeps_changeParent_named p).widen _ _ (by decide) (List.Subset.refl _))

theorem Block.changeParent_parent (p : Nat) : (b.changeParent p).get R.TIM_PARENT_PARENT = p % 2 ^ R.TIM_PARENT_PARENT.width :=
  ((b.keeps_changeParent_named p).1 _ (by decide) (by decide)).trans
    ((Block.stick_get _ _ _ 0 (by decide) (by decide) (by decide)).trans (Block.get_set_self _ _ _))

theorem Block.changeParent_sticky (p : Nat) : (b.changeParent p).get R.TIM_TROUBLE_PARENT_CHANGE = 1 :=
  ((b.keeps_changeParent_named p).1 _ (by decide) (by decide)).trans (Block.stick_get_one _ _ rfl (by decide) (by decide))

/-- A node that has time acquires again behind its new parent. -/
theorem Block.changeParent_state (p : Nat) (h : b.get R.TIM_STAT_STATE ≠ 0) : (b.changeParent p).get R.TIM_STAT_STATE = 1 := by
  have hstate : (b.namedParent p).timState ≠ 0 :=
    ((b.keeps_namedParent p).1 R.TIM_STAT_STATE (by decide) (by decide)).trans_ne h
  rw [show b.changeParent p = (b.namedParent p).acquire from if_neg hstate, Block.acquire_state]

/-! Holdover (R238). -/

/-- The fields that entry to holdover may change (R238, R247). -/
def holdoverFields : List Field :=
  [R.TIM_STAT_STATE, R.TIM_TROUBLE_HOLDOVER, R.TIM_HOLD_COUNT, R.TIM_FREQ, R.TIM_STAT_TRACEABLE, R.TIM_PTP_STAT_CLOCK_CLASS] ++
    recordFields

/-- Holdover as it begins, before it is counted: y is frozen at y_I, and the bound grows from now on (R238). -/
def Block.holding : Block :=
  let c := b.set R.TIM_FREQ (b.get R.TIM_FREQ_INT)
  { c with time := { c.time with
      holdStart := c.now, holdBound := c.get R.TIM_BOUND, holdTemp := c.sget R.PWR_SUPPLY_BASE_TEMP,
      holdTempMax := 0 } }.set R.TIM_STAT_STATE 4

theorem Block.keeps_holding : b.Keeps b.holding holdoverFields [.time, .records] :=
  (((Block.Keeps.refl b _ _).andSet _ _ (by decide)).andTime _ (by simp)).andSet _ _ (by decide)

theorem Block.enterHoldover_eq (h0 : b.get R.TIM_STAT_STATE ≠ 0) (h4 : b.get R.TIM_STAT_STATE ≠ 4) :
    b.enterHoldover = (b.holding.count R.TIM_HOLD_COUNT R.TIM_TROUBLE_HOLDOVER).showTime :=
  if_neg (not_or.2 ⟨h4, h0⟩)

theorem Block.enterHoldover_already (h : b.get R.TIM_STAT_STATE = 4 ∨ b.get R.TIM_STAT_STATE = 0) : b.enterHoldover = b := if_pos h

theorem Block.keeps_enterHoldover : b.Keeps b.enterHoldover holdoverFields [.time, .records] :=
  Block.keeps_ite (Block.Keeps.refl _ _ _) ((b.keeps_holding.andCount _ _ (by decide) (by simp)).trans
    ((Block.keeps_showTime _ _).widen _ _ (by decide) (List.Subset.refl _)))

/-- What a block in holdover holds (R238), whatever block it began from. -/
structure Block.HoldsFrom (c : Block) : Prop where
  state : c.get R.TIM_STAT_STATE = 4
  freq : c.get R.TIM_FREQ = b.get R.TIM_FREQ_INT % 2 ^ R.TIM_FREQ.width
  count : c.get R.TIM_HOLD_COUNT = (b.get R.TIM_HOLD_COUNT + 1) % 2 ^ R.TIM_HOLD_COUNT.width
  sticky : c.get R.TIM_TROUBLE_HOLDOVER = 1
  start : c.time.holdStart = b.now

theorem Block.enterHoldover_holds (h0 : b.get R.TIM_STAT_STATE ≠ 0) (h4 : b.get R.TIM_STAT_STATE ≠ 4) :
    b.HoldsFrom b.enterHoldover := by
  rw [b.enterHoldover_eq h0 h4]
  have hbefore : b.holding.get R.TIM_HOLD_COUNT = b.get R.TIM_HOLD_COUNT :=
    (Block.get_set_ne _ _ _ _ (by decide)).trans (Block.get_set_ne b _ _ _ (by decide))
  have hcount := b.holding.keeps_count R.TIM_HOLD_COUNT R.TIM_TROUBLE_HOLDOVER
  have hshow := (b.holding.count R.TIM_HOLD_COUNT R.TIM_TROUBLE_HOLDOVER).keeps_showTime [.time]
  exact {
    state := (hshow.1 _ (by decide) (by decide)).trans ((hcount.1 _ (by decide) (by decide)).trans (Block.get_set_self _ _ _))
    freq := (hshow.1 _ (by decide) (by decide)).trans ((hcount.1 _ (by decide) (by decide)).trans
      ((Block.get_set_ne _ _ _ _ (by decide)).trans (Block.get_set_self b _ _)))
    count := (hshow.1 _ (by decide) (by decide)).trans ((Block.count_get_counter _ _ _ (by decide) (by decide) (by decide)).trans
      (congrArg (fun n => (n + 1) % 2 ^ R.TIM_HOLD_COUNT.width) hbefore))
    sticky := (hshow.1 _ (by decide) (by decide)).trans (Block.count_get_sticky _ _ _ rfl (by decide) (by decide))
    start := congrArg TimeUnit.holdStart (hcount.2 .time (by simp)) }

end

end Sys2Proof.Machine
end

section
/-! HOLDOVER_ENTRY (R238, R244), OUTPUT_ENABLE and OUTPUT_SQUELCH (R69, R241), and the settlement of `Obligations.HoldoverAndOutputs`. -/

namespace Sys2Proof.Machine

section
variable (b : Block)

/-! Holdover, or the backup parent. -/

/-- What HOLDOVER_ENTRY reads of the backup parent is not changed by entry to holdover. -/
theorem Block.enterHoldover_role : b.enterHoldover.role = b.role := b.keeps_enterHoldover.1 _ (by decide) (by decide)

theorem Block.enterHoldover_backup : b.enterHoldover.get R.TIM_PARENT_BACKUP = b.get R.TIM_PARENT_BACKUP :=
  b.keeps_enterHoldover.1 _ (by decide) (by decide)

theorem Block.enterHoldover_heardLately (a : Nat) : b.enterHoldover.heardLately a = b.heardLately a := by
  have hmac : b.enterHoldover.mac = b.mac := b.keeps_enterHoldover.2 .mac (by decide)
  have hgrid : b.enterHoldover.grid = b.grid := b.keeps_enterHoldover.2 .grid (by decide)
  have htick : b.enterHoldover.tick = b.tick := b.keeps_enterHoldover.1 _ (by decide) (by decide)
  have hcycles : b.enterHoldover.get R.MAC_GRID_BP_CYCLES = b.get R.MAC_GRID_BP_CYCLES := b.keeps_enterHoldover.1 _ (by decide) (by decide)
  simp only [Block.heardLately, hmac, hgrid, htick, hcycles]

/-- The node is not the coordinator, and has heard its backup parent (R244). -/
structure Block.BackupHeard : Prop where
  notHead : b.role ≠ 0
  named : b.get R.TIM_PARENT_BACKUP ≠ 0
  heard : b.heardLately (b.get R.TIM_PARENT_BACKUP) = true

theorem Block.holdoverEntry_none (far : Bool) (h : b.get R.TIM_STAT_STATE = 0 ∨ b.holdoverDue far = false) : b.holdoverEntry far = b :=
  if_pos h

theorem Block.holdoverEntry_stays (far : Bool) (h0 : b.get R.TIM_STAT_STATE ≠ 0) (hdue : b.holdoverDue far = true)
    (hb : ¬b.BackupHeard) : b.holdoverEntry far = b.enterHoldover := by
  have hgo : ¬(b.timState = 0 ∨ b.holdoverDue far = false) := by simp [Block.timState, h0, hdue]
  rw [Block.holdoverEntry, if_neg hgo]
  refine if_neg fun h => hb ?_
  rw [b.enterHoldover_role, b.enterHoldover_backup, b.enterHoldover_heardLately] at h
  exact ⟨h.1, h.2.1, h.2.2⟩

theorem Block.holdoverEntry_moves (far : Bool) (h0 : b.get R.TIM_STAT_STATE ≠ 0) (hdue : b.holdoverDue far = true)
    (hb : b.BackupHeard) :
    b.holdoverEntry far = (b.enterHoldover.changeParent (b.get R.TIM_PARENT_BACKUP)).set R.TIM_PARENT_BACKUP 0 := by
  have hgo : ¬(b.timState = 0 ∨ b.holdoverDue far = false) := by simp [Block.timState, h0, hdue]
  rw [Block.holdoverEntry, if_neg hgo]
  dsimp only
  rw [b.enterHoldover_role, b.enterHoldover_backup, b.enterHoldover_heardLately, if_pos ⟨hb.notHead, hb.named, hb.heard⟩]

/-- Entry to holdover leaves no node without time. -/
theorem Block.enterHoldover_state_ne_zero (h0 : b.get R.TIM_STAT_STATE ≠ 0) : b.enterHoldover.get R.TIM_STAT_STATE ≠ 0 := by
  by_cases h4 : b.get R.TIM_STAT_STATE = 4
  · rw [b.enterHoldover_already (.inl h4)]
    exact h0
  · rw [(b.enterHoldover_holds h0 h4).state]
    decide

/-! The outputs (R69, R241). -/

/-- PPS_LV in high impedance stays so while a sticky bit is set: a record drives no pin but ALERT_N. -/
theorem Block.stick_pin (f : Field) (i n : Nat) (h : n ≠ 9) : Tab.get .z (b.stick f i).modl.pins n = Tab.get .z b.modl.pins n := by
  have hoff : (b.stick f i).modl.offAlert = b.modl.offAlert := (b.keeps_stick f i).2 .modl (by simp)
  have hpins : Tab.erase (b.stick f i).modl.pins 9 = Tab.erase b.modl.pins 9 := congrArg ModuleUnit.pins hoff
  rw [← Tab.get_erase_ne _ _ 9 n h, hpins, Tab.get_erase_ne _ _ 9 n h]

/-- The outputs as they are squelched, before SQUELCH is set (R241). -/
def Block.quieted : Block := (b.set R.TIM_STAT_SQUELCHED 1).outputsOff

theorem Block.quieted_squelched : b.quieted.get R.TIM_STAT_SQUELCHED = 1 :=
  (Block.get_set_ne _ _ _ _ (by decide)).trans (Block.get_set_self b R.TIM_STAT_SQUELCHED 1)

theorem Block.quieted_ppsLv : Tab.get .z b.quieted.modl.pins 23 = .z := Tab.get_set_self .z b.modl.pins 23 .z

/-- The fields that the squelch changes (R241). -/
def squelchFields : List Field := [R.TIM_STAT_SQUELCHED, R.TIM_STAT_OUT_ACTIVE, R.TIM_TROUBLE_SQUELCH] ++ recordFields

theorem Block.keeps_quieted : b.Keeps b.quieted squelchFields [.modl, .records] :=
  ((Block.Keeps.refl b _ _).andSet _ _ (by decide)).trans (Block.keeps_outputsOff _ _ (by decide) _ (by simp))

theorem Block.outputSquelch_begins (hlim : b.get R.TIM_SQUELCH ≠ 0) (hover : b.get R.TIM_SQUELCH * 1000 < b.get R.TIM_BOUND)
    (hoff : b.get R.TIM_STAT_SQUELCHED = 0) : b.outputSquelch = b.quieted.stick R.TIM_TROUBLE_SQUELCH :=
  if_pos ⟨by omega, hover, Block.flag_of_zero hoff⟩

theorem Block.outputSquelch_ends (hon : b.get R.TIM_STAT_SQUELCHED = 1) (hbound : 2 * b.get R.TIM_BOUND ≤ b.get R.TIM_SQUELCH * 1000) :
    b.outputSquelch = (b.set R.TIM_STAT_SQUELCHED 0).outputEnable := by
  have hflag : b.flag R.TIM_STAT_SQUELCHED = true := Block.flag_of_one hon
  simp [Block.outputSquelch, hflag, hbound]

theorem Block.keeps_outputEnable (l : List Field) (h : R.TIM_STAT_OUT_ACTIVE ∈ l) (ps : List Part) : b.Keeps b.outputEnable l ps :=
  Block.keeps_when ((Block.Keeps.refl b _ _).andSet _ _ h)

theorem Block.outputEnable_squelched : b.outputEnable.get R.TIM_STAT_SQUELCHED = b.get R.TIM_STAT_SQUELCHED :=
  (b.keeps_outputEnable [R.TIM_STAT_OUT_ACTIVE] (by simp) []).1 _ (by decide) (by decide)

end

/-! The commands. -/

section
variable (s : State)

theorem holdoverEntry_holds (far : Bool) (hrun : s.blk.running = true) (h0 : s.blk.get R.TIM_STAT_STATE ≠ 0)
    (h4 : s.blk.get R.TIM_STAT_STATE ≠ 4) (hdue : s.blk.holdoverDue far = true) (hb : ¬s.blk.BackupHeard) :
    ∃ t, exec (.holdoverEntry far) s = .next t ∧ t.blk.get R.TIM_STAT_STATE = 4 ∧
      t.blk.get R.TIM_FREQ = s.blk.get R.TIM_FREQ_INT % 2 ^ R.TIM_FREQ.width ∧
      t.blk.get R.TIM_HOLD_COUNT = (s.blk.get R.TIM_HOLD_COUNT + 1) % 2 ^ R.TIM_HOLD_COUNT.width ∧
      t.blk.get R.TIM_TROUBLE_HOLDOVER = 1 ∧ t.blk.time.holdStart = s.blk.now ∧ s.Keeps t holdoverFields [.time, .records] := by
  have h := s.blk.enterHoldover_holds h0 h4
  exact ⟨_, exec_of_runOn _ rfl _ hrun (s.blk.holdoverEntry_stays far h0 hdue hb), (State.run_get s _ _ (by decide)).trans h.state,
    (State.run_get s _ _ (by decide)).trans h.freq, (State.run_get s _ _ (by decide)).trans h.count,
    (State.run_get s _ _ (by decide)).trans h.sticky, (congrArg TimeUnit.holdStart (Block.updateAlert_time _)).trans h.start,
    State.keeps_run s _ _ _ s.blk.keeps_enterHoldover⟩

theorem holdoverEntry_moves (far : Bool) (hrun : s.blk.running = true) (h0 : s.blk.get R.TIM_STAT_STATE ≠ 0)
    (hdue : s.blk.holdoverDue far = true) (hb : s.blk.BackupHeard) :
    ∃ t, exec (.holdoverEntry far) s = .next t ∧ t.blk.get R.TIM_STAT_STATE = 1 ∧
      t.blk.get R.TIM_PARENT_PARENT = s.blk.get R.TIM_PARENT_BACKUP % 2 ^ R.TIM_PARENT_PARENT.width ∧
      t.blk.get R.TIM_PARENT_BACKUP = 0 ∧ t.blk.get R.TIM_TROUBLE_PARENT_CHANGE = 1 ∧ t.otp = s.otp ∧ t.pending = s.pending := by
  have hget (f : Field) (c : Block) (hf : f.key ≠ R.TIM_PARENT_BACKUP.key) (hs : f.key ≠ R.TRB_SUMMARY.key) :
      (s.run fun _ => c.set R.TIM_PARENT_BACKUP 0).blk.get f = c.get f :=
    (State.run_get s _ _ hs).trans (Block.get_set_ne _ _ _ _ hf)
  exact ⟨_, exec_of_runOn _ rfl _ hrun (s.blk.holdoverEntry_moves far h0 hdue hb),
    (hget _ _ (by decide) (by decide)).trans (Block.changeParent_state _ _ (s.blk.enterHoldover_state_ne_zero h0)),
    (hget _ _ (by decide) (by decide)).trans (Block.changeParent_parent _ _),
    (State.run_get s _ _ (by decide)).trans (Block.get_set_self _ _ _),
    (hget _ _ (by decide) (by decide)).trans (Block.changeParent_sticky _ _), rfl, rfl⟩

theorem outputEnable_drives (hrun : s.blk.running = true) (hok : s.blk.outputsOk = true) :
    ∃ t, exec .outputEnable s = .next t ∧ t.blk.get R.TIM_STAT_OUT_ACTIVE = 1 ∧ s.Keeps t [R.TIM_STAT_OUT_ACTIVE] [] :=
  ⟨_, exec_of_runOn _ rfl _ hrun (if_pos hok), (State.run_get s _ _ (by decide)).trans (Block.get_set_self _ _ _),
    State.keeps_run s _ _ _ ((Block.Keeps.refl _ _ _).andSet _ _ (by simp))⟩

theorem outputSquelch_begins (hrun : s.blk.running = true) (hlim : s.blk.get R.TIM_SQUELCH ≠ 0)
    (hover : s.blk.get R.TIM_SQUELCH * 1000 < s.blk.get R.TIM_BOUND) (hoff : s.blk.get R.TIM_STAT_SQUELCHED = 0) :
    ∃ t, exec .outputSquelch s = .next t ∧ t.blk.get R.TIM_STAT_SQUELCHED = 1 ∧ t.blk.get R.TIM_STAT_OUT_ACTIVE = 0 ∧
      t.blk.get R.TIM_TROUBLE_SQUELCH = 1 ∧ Tab.get .z t.blk.modl.pins 23 = .z ∧ s.Keeps t squelchFields [.modl, .records] := by
  have hget (f : Field) (hf : f.key ≠ R.TIM_TROUBLE_SQUELCH.key) (hr : f.key ∉ recordFields.map Field.key)
      (hs : f.key ≠ R.TRB_SUMMARY.key) :
      (s.run fun _ => s.blk.quieted.stick R.TIM_TROUBLE_SQUELCH).blk.get f = s.blk.quieted.get f :=
    (State.run_get s _ _ hs).trans (Block.stick_get _ _ _ 0 hf hr hs)
  exact ⟨_, exec_of_runOn _ rfl _ hrun (s.blk.outputSquelch_begins hlim hover hoff),
    (hget _ (by decide) (by decide) (by decide)).trans s.blk.quieted_squelched,
    (hget _ (by decide) (by decide) (by decide)).trans (Block.get_set_self _ _ _),
    (State.run_get s _ _ (by decide)).trans (Block.stick_get_one _ _ rfl (by decide) (by decide)),
    (Block.updateAlert_pin _ 23 (by decide)).trans ((Block.stick_pin _ _ _ 23 (by decide)).trans s.blk.quieted_ppsLv),
    State.keeps_run s _ _ _ (s.blk.keeps_quieted.andStick _ _ (by decide) (by simp))⟩

theorem outputSquelch_ends (hrun : s.blk.running = true) (hon : s.blk.get R.TIM_STAT_SQUELCHED = 1)
    (hbound : 2 * s.blk.get R.TIM_BOUND ≤ s.blk.get R.TIM_SQUELCH * 1000) :
    ∃ t, exec .outputSquelch s = .next t ∧ t.blk.get R.TIM_STAT_SQUELCHED = 0 ∧
      s.Keeps t [R.TIM_STAT_SQUELCHED, R.TIM_STAT_OUT_ACTIVE] [] :=
  ⟨_, exec_of_runOn _ rfl _ hrun (s.blk.outputSquelch_ends hon hbound),
    (State.run_get s _ _ (by decide)).trans ((Block.outputEnable_squelched _).trans (Block.get_set_self _ _ _)),
    State.keeps_run s _ _ _ (((Block.Keeps.refl _ _ _).andSet _ _ (by simp)).trans (Block.keeps_outputEnable _ _ (by simp) _))⟩

end

/-- Settles O18: an event of R238 with and without a backup parent that was heard, then the outputs. -/
theorem holdoverAndOutputs : Obligations.HoldoverAndOutputs := by
  refine ⟨?_, ?_, ?_, outputEnable_drives, ?_, outputSquelch_begins, outputSquelch_ends⟩
  · intro s far hrun h0 h4 hdue hno
    refine holdoverEntry_holds s far hrun h0 h4 hdue fun hb => ?_
    obtain h | h | h := hno
    · exact hb.notHead h
    · exact hb.named h
    · exact Bool.false_ne_true (h.symm.trans hb.heard)
  · intro s far hrun h0 hdue hr hnamed hheard
    exact holdoverEntry_moves s far hrun h0 hdue ⟨hr, hnamed, hheard⟩
  · intro s far h
    exact s.runOn_unchanged _ (s.blk.holdoverEntry_none far h)
  · intro s hok
    exact s.runOn_unchanged _ (by simp [Block.outputEnable, hok])

end Sys2Proof.Machine
end

section
/-! The coordinator's source (R217–R219): the labelled first edge, a rejected edge, the loss of PPS_IN and of REF_IN; and the settlement
of `Obligations.TimeSource`. -/

namespace Sys2Proof.Machine

section
variable (b : Block)

/-- The node is the coordinator, an image runs, and PPS_IN is the source (R218). -/
structure Block.PpsSource : Prop where
  head : b.role = 0
  source : b.get R.TIM_SRC_CFG_SRC = 0
  image : b.image.run.isSome = true

/-- An edge of the source is taken in. -/
theorem Block.PpsSource.takes {b : Block} (h : b.PpsSource) :
    ¬(b.role ≠ 0 ∨ b.get R.TIM_SRC_CFG_SRC = 1 ∨ b.get R.TIM_SRC_CFG_SRC = 3 ∨ b.image.run.isNone = true) := by
  simp [h.head, h.source, Option.isSome_iff_ne_none.1 h.image]

/-! The first edge (R217, R218). -/

/-- The label of the armed edge is taken, and the step to its time waits for its block boundary. -/
def Block.labelled (edge : Nat) : Block :=
  { b with time := { b.time with
    label := b.armedLabel, armed := false, step := some (b.labelTime b.armedLabel - edge), lastMeas := some b.now, lastTheta := 0 } }

theorem Block.ppsEdge_first (edge : Nat) (h : b.PpsSource) (hgrid : b.get R.GLB_TICK_STAT_GRID_ALIGNED = 0)
    (harmed : b.time.armed = true) : b.ppsEdge edge = ((b.labelled edge).set R.TIM_STAT_SRC_OK 1).acquire := by
  have hsource : (b.labelled edge).get R.TIM_SRC_CFG_SRC = 0 := h.source
  rw [Block.ppsEdge, if_neg h.takes, if_pos (Block.flag_of_zero hgrid), Block.ppsFirst, if_pos harmed]
  exact congrArg Block.acquire (if_pos hsource)

/-! A rejected edge (R218). -/

/-- The next label is the edge's. -/
def Block.nextLabel : Block := { b with time := { b.time with label := b.time.label + 1 } }

/-- One more edge in a row is rejected. -/
def Block.badEdge : Block := { b with time := { b.time with srcBad := b.time.srcBad + 1, srcGood := 0 } }

theorem Block.ppsEdge_measures (edge : Nat) (h : b.PpsSource) (hgrid : b.get R.GLB_TICK_STAT_GRID_ALIGNED = 1)
    (harmed : b.time.armed = false) :
    b.ppsEdge edge = b.nextLabel.ppsMeasure ((b.labelTime (b.time.label + 1) - edge : Int) : Rat) := by
  have hpast : b.ppsArmed edge = b := if_neg (by simp [harmed])
  rw [Block.ppsEdge, if_neg h.takes, if_neg (by simp [Block.flag_of_one hgrid])]
  dsimp only
  rw [hpast, if_neg (by simp [h.source, harmed])]
  rfl

theorem Block.ppsMeasure_rejects (theta : Rat) (hlock : b.time.firstLock = true) (hoff : 1000000 < |toPs theta|)
    (hbad : b.time.srcBad + 1 < 3) : b.ppsMeasure theta = b.badEdge.count R.TIM_PPS_REJECT_COUNT R.TIM_TROUBLE_PPS_REJECT := by
  rw [Block.ppsMeasure, if_pos ⟨hlock, hoff⟩]
  exact if_neg fun h => absurd h.1 (by omega)

/-- 65536000 units of 2⁻¹⁶ ns are 1 µs. -/
theorem one_us_lt_toPs (d : Int) (h : 65536000 < d) : 1000000 < |toPs d| := by
  have hd : (65536000 : Rat) < d := by exact_mod_cast h
  refine lt_of_lt_of_le ?_ (le_abs_self _)
  unfold toPs
  linarith

/-! The loss of the source (R218). -/

/-- The source shows lost, before holdover begins. -/
def Block.sourceGone : Block :=
  let c := (b.stick R.TIM_TROUBLE_SRC_LOST).set R.TIM_STAT_SRC_OK 0
  { c with time := { c.time with srcLost := true, srcGood := 0, srcBad := 0 } }

/-- The fields that the loss of the source may change (R218, R238). -/
def sourceLostFields : List Field :=
  [R.TIM_STAT_SRC_OK, R.TIM_TROUBLE_SRC_LOST, R.TIM_STAT_STATE, R.TIM_TROUBLE_HOLDOVER, R.TIM_HOLD_COUNT, R.TIM_FREQ,
    R.TIM_STAT_TRACEABLE, R.TIM_PTP_STAT_CLOCK_CLASS] ++ recordFields

/-- The fields that show the source lost. -/
def sourceGoneFields : List Field := [R.TIM_STAT_SRC_OK, R.TIM_TROUBLE_SRC_LOST] ++ recordFields

theorem Block.keeps_sourceGone : b.Keeps b.sourceGone sourceGoneFields [.time, .records] :=
  (((Block.Keeps.refl b _ _).andStick _ _ (by decide) (by simp)).andSet _ _ (by decide)).andTime _ (by simp)

theorem Block.keeps_sourceLost : b.Keeps b.sourceLost sourceLostFields [.time, .records] :=
  (b.keeps_sourceGone.widen _ _ (by decide) (List.Subset.refl _)).trans
    (b.sourceGone.keeps_enterHoldover.widen _ _ (by decide) (List.Subset.refl _))

theorem Block.sourceLost_srcOk : b.sourceLost.get R.TIM_STAT_SRC_OK = 0 :=
  (b.sourceGone.keeps_enterHoldover.1 _ (by decide) (by decide)).trans (Block.get_set_self _ R.TIM_STAT_SRC_OK 0)

theorem Block.sourceLost_sticky : b.sourceLost.get R.TIM_TROUBLE_SRC_LOST = 1 :=
  (b.sourceGone.keeps_enterHoldover.1 _ (by decide) (by decide)).trans ((Block.get_set_ne _ R.TIM_STAT_SRC_OK _ 0 (by decide)).trans
    (Block.stick_get_one b R.TIM_TROUBLE_SRC_LOST rfl (by decide) (by decide)))

theorem Block.sourceLost_holds (h0 : b.get R.TIM_STAT_STATE ≠ 0) (h4 : b.get R.TIM_STAT_STATE ≠ 4) :
    b.sourceGone.HoldsFrom b.sourceLost := by
  have hstate : b.sourceGone.get R.TIM_STAT_STATE = b.get R.TIM_STAT_STATE := b.keeps_sourceGone.1 _ (by decide) (by decide)
  exact b.sourceGone.enterHoldover_holds (hstate ▸ h0) (hstate ▸ h4)

theorem Block.ppsTimeout_loses (h : b.PpsSource) (hok : b.get R.TIM_STAT_SRC_OK = 1) : b.ppsTimeout = b.sourceLost :=
  if_pos ⟨h.head, h.source, Block.flag_of_one hok, h.image⟩

/-! The loss of REF_IN (R219). -/

/-- The system clock has changed over to the OCXO, with its last measured offset `y`. -/
def Block.changedOver (y : Int) : Block :=
  (({ b with time := { b.time with onOcxo := true, ocxoY := y, y := y } }.ssat R.TIM_FREQ y).ssat R.TIM_FREQ_INT y).stick
    R.TIM_TROUBLE_REF_SWITCH

/-- The fields that a change of clock changes (R219). -/
def refSwitchFields : List Field := [R.TIM_FREQ, R.TIM_FREQ_INT, R.TIM_TROUBLE_REF_SWITCH] ++ recordFields

theorem Block.keeps_changedOver (y : Int) : b.Keeps (b.changedOver y) refSwitchFields [.time, .records] :=
  ((((Block.Keeps.refl b _ _).andTime _ (by simp)).andSet R.TIM_FREQ _ (by decide)).andSet R.TIM_FREQ_INT _ (by decide)).andStick _ _
    (by decide) (by simp)

theorem Block.changedOver_onOcxo (y : Int) : (b.changedOver y).time.onOcxo = true :=
  congrArg TimeUnit.onOcxo ((Block.keeps_stick _ _ 0).2 .time (by simp))

/-- A node other than the coordinator has no source to lose with its clock. -/
theorem Block.refLoss_switches (y : Int) (hclk : b.get R.TIM_SRC_CFG_SYSCLK = 1) (hon : b.time.onOcxo = false)
    (himg : b.image.run.isSome = true) (hr : b.role ≠ 0) : b.refLoss y = b.changedOver y := by
  have hrole : (b.changedOver y).role = b.role := (b.keeps_changedOver y).1 _ (by decide) (by decide)
  rw [Block.refLoss, if_pos ⟨hclk, hon, himg⟩]
  exact if_neg fun h => hr (hrole.symm.trans h.1)

/-! The label (R218). -/

/-- A write of TIM_TOD_SEC_LO arms the label. -/
theorem Block.listedWrite_todLabel (v : Nat) : b.listedWrite .host 0x40074 v = b.armLabel v := by
  have hok : b.writeOk 0x40074 v = true := by simp [Block.writeOk, writeOkTim]
  have hcmd : cmdWords.contains 0x40074 = true := by decide
  simp [Block.listedWrite, hok, hcmd, Block.cmdWrite, -List.contains_eq_mem]

theorem Block.armLabel_seconds (v : Nat) : (b.armLabel v).get R.TIM_TOD_SEC_LO = v % 2 ^ 32 := Block.get_set_self b R.TIM_TOD_SEC_LO v

theorem Block.keeps_armLabel (v : Nat) : b.Keeps (b.armLabel v) [R.TIM_TOD_SEC_LO] [.time] :=
  ((Block.Keeps.refl b _ _).andSet _ _ (by simp)).andTime _ (by simp)

end

/-! The commands. -/

section
variable (s : State)

theorem ppsInEdge_labels (edge : Nat) (hrun : s.blk.running = true) (h : s.blk.PpsSource)
    (hgrid : s.blk.get R.GLB_TICK_STAT_GRID_ALIGNED = 0) (harmed : s.blk.time.armed = true) :
    ∃ t, exec (.ppsInEdge edge) s = .next t ∧ t.blk.time.step = some (s.blk.labelTime s.blk.armedLabel - edge) ∧
      t.blk.time.armed = false ∧ t.blk.get R.TIM_STAT_SRC_OK = 1 ∧ t.blk.get R.TIM_STAT_STATE = 1 ∧ t.otp = s.otp ∧
      t.pending = s.pending := by
  generalize hc : (s.blk.labelled edge).set R.TIM_STAT_SRC_OK 1 = c
  have hfirst : s.blk.ppsEdge edge = c.acquire := hc ▸ s.blk.ppsEdge_first edge h hgrid harmed
  have hok : c.get R.TIM_STAT_SRC_OK = 1 := hc ▸ Block.get_set_self _ _ _
  have htime : (s.run fun _ => c.acquire).blk.time = { (s.blk.labelled edge).time with accepted := 0, good := 0 } := by
    rw [State.run_blk, Block.updateAlert_time, Block.acquire_time, ← hc, Block.set_time]
  exact ⟨_, exec_of_runOn _ rfl _ hrun hfirst, congrArg TimeUnit.step htime, congrArg TimeUnit.armed htime,
    (State.run_get s _ _ (by decide)).trans ((c.keeps_acquire.1 _ (by decide) (by decide)).trans hok),
    (State.run_get s _ _ (by decide)).trans c.acquire_state, rfl, rfl⟩

theorem ppsInEdge_rejects (edge : Nat) (hrun : s.blk.running = true) (h : s.blk.PpsSource)
    (hgrid : s.blk.get R.GLB_TICK_STAT_GRID_ALIGNED = 1) (harmed : s.blk.time.armed = false)
    (hlock : s.blk.time.firstLock = true) (hbad : s.blk.time.srcBad + 1 < 3)
    (hoff : 65536000 < s.blk.labelTime (s.blk.time.label + 1) - edge) :
    ∃ t, exec (.ppsInEdge edge) s = .next t ∧
      t.blk.get R.TIM_PPS_REJECT_COUNT = (s.blk.get R.TIM_PPS_REJECT_COUNT + 1) % 2 ^ R.TIM_PPS_REJECT_COUNT.width ∧
      t.blk.get R.TIM_TROUBLE_PPS_REJECT = 1 ∧
      s.Keeps t (R.TIM_PPS_REJECT_COUNT :: R.TIM_TROUBLE_PPS_REJECT :: recordFields) [.time, .records] := by
  have hrej := (s.blk.ppsEdge_measures edge h hgrid harmed).trans
    (s.blk.nextLabel.ppsMeasure_rejects _ hlock (one_us_lt_toPs _ hoff) hbad)
  have hedge : s.blk.Keeps s.blk.nextLabel.badEdge (R.TIM_PPS_REJECT_COUNT :: R.TIM_TROUBLE_PPS_REJECT :: recordFields)
      [.time, .records] := s.blk.keeps_time _ _ _ (by simp)
  have hcount : s.blk.nextLabel.badEdge.get R.TIM_PPS_REJECT_COUNT = s.blk.get R.TIM_PPS_REJECT_COUNT := rfl
  exact ⟨_, exec_of_runOn _ rfl _ hrun hrej,
    (State.run_get s _ _ (by decide)).trans (hcount ▸ Block.count_get_counter _ _ _ (by decide) (by decide) (by decide)),
    (State.run_get s _ _ (by decide)).trans (Block.count_get_sticky _ _ _ rfl (by decide) (by decide)),
    State.keeps_run s _ _ _ (hedge.andCount _ _ (List.Subset.refl _) (by simp))⟩

theorem ppsInTimeout_loses (hrun : s.blk.running = true) (h : s.blk.PpsSource) (hok : s.blk.get R.TIM_STAT_SRC_OK = 1)
    (h0 : s.blk.get R.TIM_STAT_STATE ≠ 0) (h4 : s.blk.get R.TIM_STAT_STATE ≠ 4) :
    ∃ t, exec .ppsInTimeout s = .next t ∧ t.blk.get R.TIM_STAT_SRC_OK = 0 ∧ t.blk.get R.TIM_TROUBLE_SRC_LOST = 1 ∧
      t.blk.get R.TIM_STAT_STATE = 4 ∧ t.blk.get R.TIM_TROUBLE_HOLDOVER = 1 ∧
      t.blk.get R.TIM_FREQ = s.blk.get R.TIM_FREQ_INT % 2 ^ R.TIM_FREQ.width ∧ s.Keeps t sourceLostFields [.time, .records] := by
  have hold := s.blk.sourceLost_holds h0 h4
  have hint : s.blk.sourceGone.get R.TIM_FREQ_INT = s.blk.get R.TIM_FREQ_INT := s.blk.keeps_sourceGone.1 _ (by decide) (by decide)
  exact ⟨_, exec_of_runOn _ rfl _ hrun (s.blk.ppsTimeout_loses h hok), (State.run_get s _ _ (by decide)).trans s.blk.sourceLost_srcOk,
    (State.run_get s _ _ (by decide)).trans s.blk.sourceLost_sticky, (State.run_get s _ _ (by decide)).trans hold.state,
    (State.run_get s _ _ (by decide)).trans hold.sticky, (State.run_get s _ _ (by decide)).trans (hint ▸ hold.freq),
    State.keeps_run s _ _ _ s.blk.keeps_sourceLost⟩

theorem refInLoss_switches (y : Int) (hrun : s.blk.running = true) (hclk : s.blk.get R.TIM_SRC_CFG_SYSCLK = 1)
    (hon : s.blk.time.onOcxo = false) (himg : s.blk.image.run.isSome = true) (hr : s.blk.role ≠ 0) :
    ∃ t, exec (.refInLoss y) s = .next t ∧ t.blk.time.onOcxo = true ∧ t.blk.get R.TIM_TROUBLE_REF_SWITCH = 1 ∧
      s.Keeps t refSwitchFields [.time, .records] :=
  ⟨_, exec_of_runOn _ rfl _ hrun (s.blk.refLoss_switches y hclk hon himg hr),
    (congrArg TimeUnit.onOcxo (Block.updateAlert_time _)).trans (s.blk.changedOver_onOcxo y),
    (State.run_get s _ _ (by decide)).trans (Block.stick_get_one _ _ rfl (by decide) (by decide)),
    State.keeps_run s _ _ _ (s.blk.keeps_changedOver y)⟩

theorem todLabelArm_arms (v : Word) (hr : s.blk.reachable = true) :
    ∃ t, exec (.todLabelArm v) s = .next t ∧ t.blk.get R.TIM_TOD_SEC_LO = v.toNat ∧ t.blk.time.armed = true ∧
      s.Keeps t [R.TIM_TOD_SEC_LO] [.time] :=
  ⟨_, exec_of_runReg _ rfl _ hr (s.blk.listedWrite_todLabel v.toNat),
    (State.run_get s _ _ (by decide)).trans ((s.blk.armLabel_seconds _).trans (Nat.mod_eq_of_lt v.isLt)),
    congrArg TimeUnit.armed (Block.updateAlert_time (s.blk.armLabel v.toNat)), State.keeps_run s _ _ _ (s.blk.keeps_armLabel _)⟩

end

/-- Settles O17: the armed edge, a rejected edge, the source that is lost, the clock that is lost, and the label. -/
theorem timeSource : Obligations.TimeSource := by
  refine ⟨?_, ?_, ?_, refInLoss_switches, todLabelArm_arms⟩
  · intro s edge hrun hhead hsrc himg hgrid harmed
    exact ppsInEdge_labels s edge hrun ⟨hhead, hsrc, himg⟩ hgrid harmed
  · intro s edge hrun hhead hsrc himg hgrid harmed hlock hbad hoff
    exact ppsInEdge_rejects s edge hrun ⟨hhead, hsrc, himg⟩ hgrid harmed hlock hbad hoff
  · intro s hrun hhead hsrc hok himg h0 h4
    exact ppsInTimeout_loses s hrun ⟨hhead, hsrc, himg⟩ hok h0 h4

end Sys2Proof.Machine
end

section
/-! One packet of an internal producer (R323, R325–R329, R337): what SOP and EOP may change. -/

namespace Sys2Proof.Machine

/-! Frames of the queue manager's operations. -/

section
variable (b : Block)

theorem Block.keeps_modQ (n : Nat) (f : Queue → Queue) (l : List Field) (ps : List Part) (hr : .records ∈ ps) (hq : .queues ∈ ps) :
    b.Keeps (b.modQ n f) l ps := by
  by_cases hn : n = 0
  · subst hn
    exact b.keeps_modQ_zero f l ps hr
  · exact b.keeps_modQ_ne n f l ps hn hq

/-- Answers and open packets belong to the queue manager; no queue holds them. -/
theorem Block.keeps_openedStatus (opened : List OpenPkt) (status : Tab Nat) (l : List Field) (ps : List Part) (h : .queues ∈ ps) :
    b.Keeps { b with queue := { b.queue with opened := opened, status := status } } l ps :=
  ⟨fun _ _ _ => rfl, fun p hp => by cases p <;> simp_all [Part.same, Block.q]⟩

theorem Block.keeps_answer (ctx st : Nat) (l : List Field) (ps : List Part) (h : .queues ∈ ps) : b.Keeps (b.answer ctx st) l ps :=
  b.keeps_openedStatus b.queue.opened _ l ps h

theorem Block.keeps_dropOpen (ctx : Nat) (l : List Field) (ps : List Part) (h : .queues ∈ ps) : b.Keeps (b.dropOpen ctx) l ps :=
  b.keeps_openedStatus _ b.queue.status l ps h

theorem Block.statusOf_answer (ctx st : Nat) : (b.answer ctx st).statusOf ctx = st := Tab.get_set_self _ _ _ _

/-- A sticky bit, its record included, opens and closes no packet. -/
theorem Block.stick_openOf (f : Field) (i ctx : Nat) : (b.stick f i).openOf ctx = b.openOf ctx := by
  have hopened : (b.stick f i).queue.opened = b.queue.opened := ((b.keeps_stick f i).2 .queues (by simp)).2.1
  simp only [Block.openOf, hopened]

theorem Block.fireThreshold_openOf (n before ctx : Nat) : (b.fireThreshold n before).openOf ctx = b.openOf ctx := by
  unfold Block.fireThreshold
  split
  · exact b.stick_openOf _ _ _
  · rfl

theorem Block.keeps_fireThreshold (n before : Nat) : b.Keeps (b.fireThreshold n before) putFields [.records, .queues] :=
  Block.keeps_when ((Block.Keeps.refl b _ _).andStick _ _ (by decide) (by simp))

theorem Block.keeps_rewind (ctx : Nat) : b.Keeps (b.rewind ctx) putFields [.records, .queues] := by
  unfold Block.rewind
  split
  · exact Block.Keeps.refl b _ _
  · exact (((b.keeps_dropOpen _ _ _ (by simp)).andSet _ _ (by decide)).trans (Block.keeps_modQ _ _ _ _ _ (by simp) (by simp))).trans
      (Block.keeps_answer _ _ _ _ _ (by simp))

/-- A context has at most one open packet, and none once it is rewound (R323, R327). -/
theorem Block.rewind_openOf (ctx : Nat) : (b.rewind ctx).openOf ctx = none := by
  unfold Block.rewind
  split
  · assumption
  · change (b.queue.opened.filter fun o => o.ctx ≠ ctx).find? (fun o => o.ctx = ctx) = none
    simp

/-- A packet enters the list of open ones (R325). -/
def Block.enterOpen (o : OpenPkt) : Block := { b with queue := { b.queue with opened := b.queue.opened ++ [o] } }

theorem Block.keeps_enterOpen (o : OpenPkt) (l : List Field) (ps : List Part) (h : .queues ∈ ps) : b.Keeps (b.enterOpen o) l ps :=
  b.keeps_openedStatus _ b.queue.status l ps h

theorem Block.enterOpen_openOf (o : OpenPkt) (h : b.openOf o.ctx = none) : (b.enterOpen o).openOf o.ctx = some o := by
  rw [Block.openOf] at h
  simp [Block.openOf, Block.enterOpen, List.find?_append, h]

end

/-! The SOP word (R325). -/

/-- What the SOP word of a packet of `len` bytes leaves: a frame, and behind status 0 an open packet of that length. -/
structure Block.SopLeaves (b c : Block) (ctx len : Nat) : Prop where
  keeps : b.Keeps c putFields [.records, .queues]
  opened : c.statusOf ctx = 0 → ∃ o, c.openOf ctx = some o ∧ o.maxLen = len

section
variable {b c : Block} {ctx len : Nat}

theorem Block.sopLeaves_answer (h : b.Keeps c putFields [.records, .queues]) (st : Nat) (hst : st ≠ 0) :
    b.SopLeaves (c.answer ctx st) ctx len :=
  ⟨h.trans (c.keeps_answer _ _ _ _ (by simp)), fun h0 => absurd ((c.statusOf_answer ctx st).symm.trans h0) hst⟩

theorem Block.sopLeaves_count (h : b.Keeps c putFields [.records, .queues]) (n f : Field) (hf : n :: f :: recordFields ⊆ putFields)
    (st : Nat) (hst : st ≠ 0) : b.SopLeaves ((c.count n f).answer ctx st) ctx len :=
  Block.sopLeaves_answer (h.andCount _ _ hf (by simp)) st hst

theorem Block.sopLeaves_enter (h : b.Keeps c putFields [.records, .queues]) (hnone : c.openOf ctx = none) (n before dest tag : Nat) :
    b.SopLeaves (((c.enterOpen { ctx := ctx, queue := n, maxLen := len, dest := dest, tag := tag }).answer ctx 0).fireThreshold n before)
      ctx len where
  keeps := ((h.trans (c.keeps_enterOpen _ _ _ (by simp))).trans (Block.keeps_answer _ _ _ _ _ (by simp))).trans
    (Block.keeps_fireThreshold _ _ _)
  opened _ := ⟨_, (Block.fireThreshold_openOf _ _ _ _).trans
    (c.enterOpen_openOf { ctx := ctx, queue := n, maxLen := len, dest := dest, tag := tag } hnone), rfl⟩

theorem Block.SopLeaves.andLost (h : b.SopLeaves c ctx len) (gone : Nat) :
    b.SopLeaves ((c.add R.QMG_LOST_COUNT gone).stick R.QMG_TROUBLE_LOST) ctx len where
  keeps := (h.keeps.andSet _ _ (by decide)).andStick _ _ (by decide) (by simp)
  opened h0 := by
    have hstatus : ((c.add R.QMG_LOST_COUNT gone).stick R.QMG_TROUBLE_LOST).queue.status = c.queue.status :=
      ((Block.keeps_stick _ _ 0).2 .queues (by simp)).2.2
    rw [Block.statusOf, hstatus] at h0
    rw [Block.stick_openOf]
    exact h.opened h0

theorem Block.sop_leaves (b : Block) (ctx n len dest tag : Nat) : b.SopLeaves (b.sop ctx n len dest tag) ctx len := by
  have hrew := b.keeps_rewind ctx
  have hnone := b.rewind_openOf ctx
  have hrefuse := Block.sopLeaves_count (ctx := ctx) (len := len)
    (hrew.trans ((b.rewind ctx).keeps_modQ (n % 4096) (fun q => { q with refused := (q.refused + 1) % 2 ^ 64 }) _ _ (by simp) (by simp)))
    R.QMG_ADMIT_REFUSED_COUNT R.QMG_TROUBLE_ADMIT_REFUSED (by decide) 1 (by decide)
  unfold Block.sop
  dsimp only
  split_ifs
  · exact Block.sopLeaves_count hrew _ _ (by decide) 2 (by decide)
  · exact Block.sopLeaves_count hrew _ _ (by decide) 4 (by decide)
  · exact hrefuse
  · exact Block.sopLeaves_enter hrew hnone _ _ _ _
  · exact hrefuse
  · split
    · exact hrefuse
    · exact (Block.sopLeaves_enter (hrew.trans (Block.keeps_modQ _ _ _ _ _ (by simp) (by simp))) hnone _ _ _ _).andLost _

end

/-! The whole packet. -/

section
variable (b : Block)

/-- EOP of an open packet that is no longer than its MAXLEN commits it (R326). -/
theorem Block.keeps_eop (ctx : Nat) (data : List Byte) (o : OpenPkt) (ho : b.openOf ctx = some o) (hlen : data.length ≤ o.maxLen) :
    b.Keeps (b.eop ctx data) putFields [.records, .queues] := by
  rw [Block.eop, ho]
  dsimp only
  rw [if_neg (by omega)]
  exact (((b.keeps_dropOpen _ _ _ (by simp)).trans (Block.keeps_modQ _ _ _ _ _ (by simp) (by simp))).andSet _ _ (by decide)).trans
    (Block.keeps_answer _ _ _ _ _ (by simp))

theorem Block.keeps_put (ctx n dest tag : Nat) (data : List Byte) :
    b.Keeps (b.put ctx n dest tag data) putFields [.records, .queues] := by
  have hsop := b.sop_leaves ctx n data.length dest tag
  unfold Block.put
  dsimp only
  split
  · next h0 =>
    obtain ⟨o, ho, hlen⟩ := hsop.opened h0
    exact hsop.keeps.trans (Block.keeps_eop _ ctx data o ho hlen.ge)
  · exact hsop.keeps

end

end Sys2Proof.Machine
end

section
/-! Event inputs (R75, R242), the commands of TIM_CMD (R220, R234, R250) and the hourly save of the calibration records (R234); and the
settlement of `Obligations.EventInputsAndTimeCommands`. -/

namespace Sys2Proof.Machine

section
variable (b : Block) (n edge : Nat)

/-! An edge on an event input. -/

/-- The node runs, and the input is enabled and out of reset (R242). -/
structure Block.TakesEvents : Prop where
  running : b.running = true
  input : n < 4
  enabled : b.bit R.TIM_EVT_EN n = true
  resetN : b.modl.resetN = true

/-- The edge is the newest of its input. -/
def Block.noteEdge : Block := { b with time := { b.time with evtLast := Tab.set 0 b.time.evtLast n (edge + 1) } }

/-- The sequence number of the next event of an input. -/
def Block.nextSeq : Nat := (Tab.get 0 b.time.evtSeq n + 1) % 65536

/-- The edge has its sequence number. -/
def Block.numberEdge : Block :=
  { b.noteEdge n edge with time := { (b.noteEdge n edge).time with evtSeq := Tab.set 0 b.time.evtSeq n (b.nextSeq n) } }

/-- The network time of an edge, with the delay of its input taken off (R242). -/
def Block.edgeTime : Nat := ((edge : Int) - b.sget (R.TIM_EVT_DELAY n) * 65536 / 1000).toNat

/-- The flags of an event: its input, and whether the node was unlocked or in holdover (R242). -/
def Block.edgeFlags : Nat := n + (if b.timState ≤ 1 then 4 else 0) + (if b.timState = 4 then 8 else 0)

/-- What TIM_EVT_LAST shows of an event (R250). -/
def Block.lastEvent : Nat :=
  timeFrac (b.edgeTime n edge) + 2 ^ 16 * b.nextSeq n + 2 ^ 32 * timeNs (b.edgeTime n edge) +
    2 ^ 64 * (timeSec (b.edgeTime n edge) % 2 ^ 48) + 2 ^ 112 * b.edgeFlags n

/-- The event as the registers show it. -/
def Block.showEdge : Block := ((b.numberEdge n edge).set (R.TIM_EVT_LAST n) (b.lastEvent n edge)).bump R.TIM_EVT_COUNT

/-- The record of an event (R242). -/
def Block.eventBytes : List Byte :=
  leBytes (stamp96 (b.edgeTime n edge)) 12 ++ leBytes (b.edgeFlags n) 1 ++ leBytes 0 1 ++ leBytes (b.nextSeq n) 2

theorem Block.TakesEvents.takes {b : Block} {n : Nat} (h : b.TakesEvents n) :
    ¬(4 ≤ n ∨ b.bit R.TIM_EVT_EN n = false ∨ b.mode < 2 ∨ b.mode = 9 ∨ b.modl.resetN = false) := by
  obtain ⟨hlow, hstandby⟩ : 1 < b.mode ∧ b.mode ≠ 9 := of_decide_eq_true h.running
  simp [h.input, h.enabled, h.resetN, hlow, hstandby]

theorem Block.eventEdge_records (h : b.TakesEvents n)
    (hfar : Tab.get 0 b.time.evtLast n = 0 ∨ Tab.get 0 b.time.evtLast n + 6553600 ≤ edge + 1) :
    b.eventEdge n edge = (b.showEdge n edge).put ctxTime (leAt b.timingSeg 0x38 2) 0 0 (b.eventBytes n edge) := by
  rw [Block.eventEdge, if_neg h.takes]
  exact if_neg (by omega)

theorem Block.eventEdge_discards (h : b.TakesEvents n) (hlast : Tab.get 0 b.time.evtLast n ≠ 0)
    (hnear : edge + 1 < Tab.get 0 b.time.evtLast n + 6553600) :
    b.eventEdge n edge = (b.noteEdge n edge).count R.TIM_EVT_DISCARD_COUNT R.TIM_TROUBLE_EVT_DISCARD := by
  rw [Block.eventEdge, if_neg h.takes]
  exact if_pos ⟨hlast, hnear⟩

/-- The fields that an event changes (R242, R250). -/
def eventFields : List Field := R.TIM_EVT_COUNT :: R.TIM_EVT_LAST n :: putFields

theorem Block.keeps_showEdge : b.Keeps (b.showEdge n edge) (eventFields n) [.time, .records, .queues] :=
  ((b.keeps_time (b.numberEdge n edge).time _ _ (by simp)).andSet _ _ (by simp [eventFields])).andSet _ _ (by simp [eventFields])

theorem Block.keeps_eventEdge_put (q : Nat) (data : List Byte) :
    b.Keeps ((b.showEdge n edge).put ctxTime q 0 0 data) (eventFields n) [.time, .records, .queues] :=
  (b.keeps_showEdge n edge).trans
    ((Block.keeps_put _ _ _ _ _ _).widen _ _ (fun _ hf => List.mem_cons_of_mem _ (List.mem_cons_of_mem _ hf)) (by simp))

/-- TIM_EVT_LAST is no field of the queue manager. -/
theorem evtLast_not_put (h : n < 4) : (R.TIM_EVT_LAST n).key ∉ putFields.map Field.key ∧ (R.TIM_EVT_LAST n).key ≠ R.TRB_SUMMARY.key ∧
    (R.TIM_EVT_LAST n).key ≠ R.TIM_EVT_COUNT.key := by
  interval_cases n <;> decide

theorem Block.showEdge_count (h : n < 4) :
    (b.showEdge n edge).get R.TIM_EVT_COUNT = (b.get R.TIM_EVT_COUNT + 1) % 2 ^ R.TIM_EVT_COUNT.width := by
  have hold : ((b.numberEdge n edge).set (R.TIM_EVT_LAST n) (b.lastEvent n edge)).get R.TIM_EVT_COUNT = b.get R.TIM_EVT_COUNT :=
    Block.get_set_ne _ _ _ _ (evtLast_not_put n h).2.2.symm
  rw [Block.showEdge, Block.bump_get, hold]

/-- TIM_EVT_LAST shows the sequence number in bits 31:16 (R250). -/
theorem Block.showEdge_seq (h : n < 4) : (b.showEdge n edge).get (R.TIM_EVT_LAST n) / 2 ^ 16 % 2 ^ 16 = b.nextSeq n := by
  have hshown : (b.showEdge n edge).get (R.TIM_EVT_LAST n) = b.lastEvent n edge % 2 ^ 128 :=
    (Block.get_set_ne _ _ _ _ (evtLast_not_put n h).2.2).trans (Block.get_set_self _ _ _)
  have hfrac : timeFrac (b.edgeTime n edge) < 65536 := Nat.mod_lt _ (by decide)
  have hseq : b.nextSeq n < 65536 := Nat.mod_lt _ (by decide)
  rw [hshown, Block.lastEvent]
  omega

theorem Block.put_time (ctx q dest tag : Nat) (data : List Byte) : (b.put ctx q dest tag data).time = b.time :=
  (b.keeps_put ctx q dest tag data).2 .time (by simp)

/-! TIM_CMD STEP (R220). -/

theorem Block.stepCmd_none (h : b.mode ≠ 10 ∨ b.role ≠ 0) : b.stepCmd = b := if_pos h

theorem Block.stepCmd_ptp (d : Int) (hm : b.mode = 10) (hr : b.role = 0) (hsrc : b.get R.TIM_SRC_CFG_SRC = 1)
    (hd : b.time.ptpTime = some d) : b.stepCmd = { b with time := { b.time with step := some d } } := by
  simp [Block.stepCmd, hm, hr, hsrc, hd]

theorem Block.stepCmd_label (d : Int) (hm : b.mode = 10) (hr : b.role = 0) (hsrc : b.get R.TIM_SRC_CFG_SRC ≠ 1)
    (harmed : b.time.armed = true) (hd : b.time.labelTheta = some d) :
    b.stepCmd = { b with time := { b.time with
      step := some d, armed := false, labelTheta := none, label := (b.time.label + b.time.labelShift).toNat } } := by
  simp [Block.stepCmd, hm, hr, hsrc, harmed, hd]

/-- The step waits for the armed label's edge. -/
theorem Block.stepCmd_waits (hm : b.mode = 10) (hr : b.role = 0) (hsrc : b.get R.TIM_SRC_CFG_SRC ≠ 1) (harmed : b.time.armed = true)
    (hd : b.time.labelTheta = none) : b.stepCmd = { b with time := { b.time with stepWanted := true } } := by
  simp [Block.stepCmd, hm, hr, hsrc, harmed, hd]

/-! The save of the calibration records (R234). -/

/-- A save dates every record, and changes nothing else of it. -/
theorem Block.calSave_cal : b.calSave.time.cal.map (fun e => (e.1, { e.2 with updated := 0 })) =
    b.time.cal.map (fun e => (e.1, { e.2 with updated := 0 })) := List.map_map

end

/-! The commands. -/

section
variable (s : State)

theorem eventEdge_records (n edge : Nat) (h : s.blk.TakesEvents n)
    (hfar : Tab.get 0 s.blk.time.evtLast n = 0 ∨ Tab.get 0 s.blk.time.evtLast n + 6553600 ≤ edge + 1) :
    ∃ t, exec (.eventEdge n edge) s = .next t ∧
      t.blk.get R.TIM_EVT_COUNT = (s.blk.get R.TIM_EVT_COUNT + 1) % 2 ^ R.TIM_EVT_COUNT.width ∧
      Tab.get 0 t.blk.time.evtSeq n = s.blk.nextSeq n ∧ t.blk.get (R.TIM_EVT_LAST n) / 2 ^ 16 % 2 ^ 16 = s.blk.nextSeq n ∧
      s.Keeps t (eventFields n) [.time, .records, .queues] := by
  obtain ⟨hput, hsum, -⟩ := evtLast_not_put n h.input
  have hkeep := (s.blk.showEdge n edge).keeps_put ctxTime (leAt s.blk.timingSeg 0x38 2) 0 0 (s.blk.eventBytes n edge)
  refine ⟨_, exec_of_runOn _ rfl _ h.running (s.blk.eventEdge_records n edge h hfar), ?_, ?_, ?_,
    State.keeps_run s _ _ _ (s.blk.keeps_eventEdge_put n edge _ _)⟩
  · rw [State.run_get s _ _ (by decide), hkeep.1 _ (by decide) (by decide), s.blk.showEdge_count n edge h.input]
  · rw [State.run_blk, Block.updateAlert_time, Block.put_time]
    exact Tab.get_set_self _ _ _ _
  · rw [State.run_get s _ _ hsum, hkeep.1 _ hput hsum, s.blk.showEdge_seq n edge h.input]

theorem eventEdge_discards (n edge : Nat) (h : s.blk.TakesEvents n) (hlast : Tab.get 0 s.blk.time.evtLast n ≠ 0)
    (hnear : edge + 1 < Tab.get 0 s.blk.time.evtLast n + 6553600) :
    ∃ t, exec (.eventEdge n edge) s = .next t ∧
      t.blk.get R.TIM_EVT_DISCARD_COUNT = (s.blk.get R.TIM_EVT_DISCARD_COUNT + 1) % 2 ^ R.TIM_EVT_DISCARD_COUNT.width ∧
      t.blk.get R.TIM_TROUBLE_EVT_DISCARD = 1 ∧
      s.Keeps t (R.TIM_EVT_DISCARD_COUNT :: R.TIM_TROUBLE_EVT_DISCARD :: recordFields) [.time, .records] := by
  have hcount : (s.blk.noteEdge n edge).get R.TIM_EVT_DISCARD_COUNT = s.blk.get R.TIM_EVT_DISCARD_COUNT := rfl
  exact ⟨_, exec_of_runOn _ rfl _ h.running (s.blk.eventEdge_discards n edge h hlast hnear),
    (State.run_get s _ _ (by decide)).trans (hcount ▸ Block.count_get_counter _ _ _ (by decide) (by decide) (by decide)),
    (State.run_get s _ _ (by decide)).trans (Block.count_get_sticky _ _ _ rfl (by decide) (by decide)),
    State.keeps_run s _ _ _
      ((s.blk.keeps_time (s.blk.noteEdge n edge).time _ _ (by simp)).andCount _ _ (List.Subset.refl _) (by simp))⟩

end

/-- A command that changes the time unit alone, by what it makes of it. -/
theorem exec_setsTime {c : Instr} {s : State} (u : TimeUnit) (he : exec c s = .next (s.run fun _ => { s.blk with time := u })) :
    ∃ t, exec c s = .next t ∧ t.blk.time = u ∧ s.Keeps t [] [.time] :=
  ⟨_, he, Block.updateAlert_time _, State.keeps_run s _ _ _ (s.blk.keeps_time u _ _ (by simp))⟩

/-- In M10 the register interface is reachable (R497). -/
theorem Block.reachable_of_service {b : Block} (hm : b.mode = 10) : b.reachable = true := by simp [Block.reachable, hm]

theorem timCmdStep_setsTime (s : State) (u : TimeUnit) (hm : s.blk.mode = 10) (h : s.blk.stepCmd = { s.blk with time := u }) :
    ∃ t, exec .timCmdStep s = .next t ∧ t.blk.time = u ∧ s.Keeps t [] [.time] :=
  exec_setsTime u (exec_of_runReg _ rfl _ (Block.reachable_of_service hm) h)

theorem calSave_saves {c : Instr} {s : State} (he : exec c s = .next (s.run fun _ => s.blk.calSave)) :
    ∃ t, exec c s = .next t ∧ t.blk.time.calSaved = t.blk.time.cal ∧
      t.blk.time.cal.map (fun e => (e.1, { e.2 with updated := 0 })) =
        s.blk.time.cal.map (fun e => (e.1, { e.2 with updated := 0 })) ∧ s.Keeps t [] [.time] := by
  obtain ⟨t, ht, htime, hkeep⟩ := exec_setsTime s.blk.calSave.time he
  exact ⟨t, ht, by rw [htime]; rfl, by rw [htime]; exact s.blk.calSave_cal, hkeep⟩

/-- Settles O16: the edges, TIM_CMD with NOP, STEP in its cases and CAL_SAVE, and the hourly save. -/
theorem eventInputsAndTimeCommands : Obligations.EventInputsAndTimeCommands := by
  refine ⟨?_, ?_, ?_, ?_, ?_, ?_, ?_, ?_, ?_⟩
  · intro s n edge hrun hn hen hreset hfar
    exact eventEdge_records s n edge ⟨hrun, hn, hen, hreset⟩ hfar
  · intro s n edge hrun hn hen hreset hlast hnear
    exact eventEdge_discards s n edge ⟨hrun, hn, hen, hreset⟩ hlast hnear
  · intro s
    exact s.runReg_unchanged _ fun _ => rfl
  · intro s d hm hr hsrc hd
    obtain ⟨t, ht, htime, hkeep⟩ := timCmdStep_setsTime s _ hm (s.blk.stepCmd_ptp d hm hr hsrc hd)
    exact ⟨t, ht, congrArg TimeUnit.step htime, hkeep⟩
  · intro s d hm hr hsrc harmed hd
    obtain ⟨t, ht, htime, hkeep⟩ := timCmdStep_setsTime s _ hm (s.blk.stepCmd_label d hm hr hsrc harmed hd)
    exact ⟨t, ht, congrArg TimeUnit.step htime, congrArg TimeUnit.armed htime, hkeep⟩
  · intro s hm hr hsrc harmed hd
    exact timCmdStep_setsTime s _ hm (s.blk.stepCmd_waits hm hr hsrc harmed hd)
  · intro s h
    exact s.runReg_unchanged _ fun _ => s.blk.stepCmd_none h
  · intro s hr
    exact calSave_saves (exec_of_runReg _ rfl _ hr rfl)
  · intro s hrun
    exact calSave_saves (exec_of_runOn _ rfl _ hrun rfl)

end Sys2Proof.Machine
end

section
/-! A measurement of the coordinator's source before the first lock (R215, R218, R220): the step waits, and the source is valid. -/

namespace Sys2Proof.Machine

/-- The step that waits, the PTP time and the source's validity are as they were. -/
structure Block.SameSource (b c : Block) : Prop where
  step : c.time.step = b.time.step
  ptpTime : c.time.ptpTime = b.time.ptpTime
  srcOk : c.get R.TIM_STAT_SRC_OK = b.get R.TIM_STAT_SRC_OK

theorem Block.SameSource.trans {b c d : Block} (h : b.SameSource c) (k : c.SameSource d) : b.SameSource d :=
  ⟨k.step.trans h.step, k.ptpTime.trans h.ptpTime, k.srcOk.trans h.srcOk⟩

theorem Block.Keeps.sameSource {b c : Block} {l : List Field} {ps : List Part} (h : b.Keeps c l ps) (ht : .time ∉ ps)
    (hf : R.TIM_STAT_SRC_OK.key ∉ l.map Field.key) : b.SameSource c := by
  have htime : c.time = b.time := h.2 .time ht
  exact ⟨by rw [htime], by rw [htime], h.1 _ hf (by decide)⟩

section
variable (b : Block)

theorem Block.sameSource_setTimState (k : Nat) : b.SameSource (b.setTimState k) :=
  (b.keeps_setTimState k).sameSource (by decide) (by decide)

theorem Block.sameSource_showTime : b.SameSource b.showTime := (b.keeps_showTime []).sameSource (by decide) (by decide)

theorem Block.sameSource_acquire : b.SameSource b.acquire :=
  (b.sameSource_setTimState 1).trans ⟨rfl, rfl, rfl⟩

theorem Block.sameSource_noteMeasure (good : Nat) (theta : Rat) : b.SameSource (b.noteMeasure good theta) := ⟨rfl, rfl, rfl⟩

theorem Block.sameSource_lockStep (good : Nat) (locked oneWay : Bool) : b.SameSource (b.lockStep good locked oneWay) := by
  unfold Block.lockStep
  split_ifs
  · exact (b.sameSource_setTimState 2).trans ⟨rfl, rfl, rfl⟩
  · exact b.sameSource_setTimState 2
  · exact b.sameSource_setTimState 3
  · exact b.sameSource_showTime

/-! The bound (R236–R238). -/

theorem Block.keeps_showBound : b.Keeps b.showBound [R.TIM_BOUND, R.TIM_HOLD_TIME] [.freeCtr] := by
  have hbound (c : Block) (v : Nat) : c.Keeps (c.set R.TIM_BOUND v) [R.TIM_BOUND, R.TIM_HOLD_TIME] [.freeCtr] :=
    c.keeps_set _ _ _ _ (by decide)
  have htime (c : Block) (v : Nat) : c.Keeps (c.set R.TIM_HOLD_TIME v) [R.TIM_BOUND, R.TIM_HOLD_TIME] [.freeCtr] :=
    c.keeps_set _ _ _ _ (by decide)
  have hround (c : Block) (x : Rat) : c.Keeps (c.openRound x).2 [R.TIM_BOUND, R.TIM_HOLD_TIME] [.freeCtr] :=
    c.keeps_openRound _ _ _ (by simp)
  unfold Block.showBound
  dsimp only
  split_ifs
  · exact ((hround _ _).trans (hbound _ _)).trans (htime _ _)
  · exact ((hround _ _).trans (hbound _ _)).trans (htime _ _)
  · exact ((htime _ _).trans (hround _ _)).trans (hbound _ _)
  · exact (htime _ _).trans (hbound _ _)
  · exact (htime _ _).trans (hbound _ _)

/-- The bound that the source's own uncertainty gives (R236). -/
def Block.boundAsSource : Block :=
  { b with time := { b.time with
    bound := min (b.get R.TIM_SRC_UNC + (if b.get R.TIM_SRC_CFG_SRC = 1 then 4000 else 0)) 0xFFFFFFFE } }

theorem Block.sameSource_sourceBound : b.SameSource b.sourceBound :=
  have hbound : b.SameSource b.boundAsSource := ⟨rfl, rfl, rfl⟩
  hbound.trans (b.boundAsSource.keeps_showBound.sameSource (by decide) (by decide))

/-! The measurement (R215). -/

/-- The offset and the band of a measurement show, and no opportunity counts as missed any more. -/
def Block.showOffset (kind : Nat) (theta : Rat) : Block :=
  let c := ((b.openRound (toPs theta)).2.ssat R.TIM_OFFSET (b.openRound (toPs theta)).1).set R.TIM_STAT_BAND (if kind = 1 then 1 else 0)
  { c with time := { c.time with misses := 0 } }

theorem Block.keeps_showOffset (kind : Nat) (theta : Rat) :
    b.Keeps (b.showOffset kind theta) [R.TIM_OFFSET, R.TIM_STAT_BAND] [.time, .freeCtr] :=
  (((b.keeps_openRound _ _ _ (by simp)).andSet R.TIM_OFFSET _ (by decide)).andSet _ _ (by decide)).andTime _ (by simp)

theorem Block.showOffset_time (kind : Nat) (theta : Rat) : (b.showOffset kind theta).time = { b.time with misses := 0 } := by
  have htime : (b.openRound (toPs theta)).2.time = b.time := (b.keeps_openRound _ [] [.freeCtr] (by simp)).2 .time (by simp)
  change { (b.openRound (toPs theta)).2.time with misses := 0 } = _
  rw [htime]

theorem Block.sameSource_showOffset (kind : Nat) (theta : Rat) : b.SameSource (b.showOffset kind theta) where
  step := by rw [b.showOffset_time]
  ptpTime := by rw [b.showOffset_time]
  srcOk := (b.keeps_showOffset kind theta).1 _ (by decide) (by decide)

/-- A node without time, or in holdover, acquires before it corrects (R215, R237). -/
def Block.readyToCorrect (kind : Nat) : Block :=
  if b.timState = 4 then (b.startDecay (b.tc kind)).acquire else if b.timState = 0 then b.acquire else b

theorem Block.keeps_startDecay (tc : Nat) (l : List Field) (ps : List Part) (h : .time ∈ ps) : b.Keeps (b.startDecay tc) l ps :=
  Block.keeps_ite (Block.Keeps.refl _ _ _) (b.keeps_time _ _ _ h)

theorem Block.sameSource_startDecay (tc : Nat) : b.SameSource (b.startDecay tc) := by
  unfold Block.startDecay
  dsimp only
  split <;> exact ⟨rfl, rfl, rfl⟩

theorem Block.keeps_readyToCorrect (kind : Nat) : b.Keeps (b.readyToCorrect kind) acquireFields [.modl, .records, .time] :=
  Block.keeps_ite ((b.keeps_startDecay _ _ _ (by simp)).trans (Block.keeps_acquire _)) (Block.keeps_when b.keeps_acquire)

theorem Block.sameSource_readyToCorrect (kind : Nat) : b.SameSource (b.readyToCorrect kind) := by
  unfold Block.readyToCorrect
  split_ifs
  · exact (b.sameSource_startDecay _).trans (Block.sameSource_acquire _)
  · exact b.sameSource_acquire
  · exact ⟨rfl, rfl, rfl⟩

/-- On a grid that is not aligned a two-way measurement asks for the step of R35. -/
theorem Block.correct_unaligned (kind : Nat) (theta : Rat) (delta : Nat) (hgrid : b.get R.GLB_TICK_STAT_GRID_ALIGNED = 0) :
    b.correct kind theta delta false = (b.readyToCorrect kind).wantStep theta.floor := by
  have hready : (b.readyToCorrect kind).get R.GLB_TICK_STAT_GRID_ALIGNED = 0 :=
    ((b.keeps_readyToCorrect kind).1 _ (by decide) (by decide)).trans hgrid
  exact if_pos ⟨rfl, .inl (Block.flag_of_zero hready)⟩

/-- Before the first lock no measurement lies beyond RELOCK_LIMIT (R216). -/
theorem Block.beyond_unlocked (theta : Rat) (h : b.time.firstLock = false) : b.beyond theta = false := by simp [Block.beyond, h]

theorem Block.measured_unlocked (kind : Nat) (theta : Rat) (locked oneWay : Bool) (h : b.time.firstLock = false) :
    ∃ delta good, b.measured kind theta locked oneWay =
      (((b.showOffset kind theta).correct kind theta delta oneWay).noteMeasure good theta).lockStep good locked oneWay := by
  have hshown : (b.showOffset kind theta).beyond theta = false :=
    Block.beyond_unlocked _ _ ((congrArg TimeUnit.firstLock (b.showOffset_time kind theta)).trans h)
  exact ⟨_, _, if_neg (by rw [Bool.not_eq_true]; exact hshown)⟩

/-- What the first measurement of a source leaves (R215, R218). -/
structure Block.SourceSteps (c : Block) (theta : Rat) : Prop where
  step : c.time.step = some theta.floor
  ptpTime : c.time.ptpTime = b.time.ptpTime
  srcOk : c.get R.TIM_STAT_SRC_OK = b.get R.TIM_STAT_SRC_OK

theorem Block.SourceSteps.andSame {b c d : Block} {theta : Rat} (h : b.SourceSteps c theta) (k : c.SameSource d) :
    b.SourceSteps d theta :=
  ⟨k.step.trans h.step, k.ptpTime.trans h.ptpTime, k.srcOk.trans h.srcOk⟩

theorem Block.measured_steps (kind : Nat) (theta : Rat) (locked : Bool) (h : b.time.firstLock = false)
    (hgrid : b.get R.GLB_TICK_STAT_GRID_ALIGNED = 0) : b.SourceSteps (b.measured kind theta locked false) theta := by
  obtain ⟨delta, good, e⟩ := b.measured_unlocked kind theta locked false h
  have hshown : (b.showOffset kind theta).get R.GLB_TICK_STAT_GRID_ALIGNED = 0 :=
    ((b.keeps_showOffset kind theta).1 _ (by decide) (by decide)).trans hgrid
  have hready := (b.sameSource_showOffset kind theta).trans ((b.showOffset kind theta).sameSource_readyToCorrect kind)
  have hstep : b.SourceSteps (((b.showOffset kind theta).readyToCorrect kind).wantStep theta.floor) theta :=
    ⟨rfl, hready.ptpTime, hready.srcOk⟩
  rw [e, Block.correct_unaligned _ kind theta delta hshown]
  exact (hstep.andSame (Block.sameSource_noteMeasure _ good theta)).andSame (Block.sameSource_lockStep _ _ _ _)

/-- A measurement of the source before the first lock makes the source valid and asks for its step (R217, R218). -/
theorem Block.sourceMeasured_steps (theta : Rat) (h : b.time.firstLock = false) (hgrid : b.get R.GLB_TICK_STAT_GRID_ALIGNED = 0) :
    (b.sourceMeasured theta).time.step = some theta.floor ∧ (b.sourceMeasured theta).time.ptpTime = b.time.ptpTime ∧
      (b.sourceMeasured theta).get R.TIM_STAT_SRC_OK = 1 := by
  generalize hc : { b with time := { b.time with srcLost := false } }.set R.TIM_STAT_SRC_OK 1 = c
  have e : b.sourceMeasured theta = (c.measured 2 theta true false).sourceBound := by
    rw [Block.sourceMeasured, if_neg (by simp [b.beyond_unlocked theta h]), ← hc]
  have hlock : c.time.firstLock = false := hc ▸ h
  have hptp : c.time.ptpTime = b.time.ptpTime := hc ▸ rfl
  have hok : c.get R.TIM_STAT_SRC_OK = 1 := hc ▸ Block.get_set_self _ _ _
  have hcgrid : c.get R.GLB_TICK_STAT_GRID_ALIGNED = 0 := by
    rw [← hc, Block.get_set_ne _ _ _ _ (by decide)]
    exact hgrid
  have hsteps := (c.measured_steps 2 theta true hlock hcgrid).andSame (Block.sameSource_sourceBound _)
  rw [e]
  exact ⟨hsteps.step, hsteps.ptpTime.trans hptp, hsteps.srcOk.trans hok⟩

end

end Sys2Proof.Machine
end

section
/-! PTP ports (R246, R247), the timing tree (R243) and assignments (R301); and the settlement of `Obligations.PtpAndTree`. -/

namespace Sys2Proof.Machine

section
variable (b : Block) (j : Nat)

/-! A PTP message (R217, R246). -/

/-- A port that runs PTP, in a mode that admits it (R246, R249). -/
structure Block.RunsPtp : Prop where
  port : j < 3
  role : b.ptpRole j ≠ 0
  low : 3 ≤ b.mode
  standby : b.mode ≠ 9

theorem Block.RunsPtp.takes {b : Block} {j : Nat} (h : b.RunsPtp j) : ¬(3 ≤ j ∨ b.ptpRole j = 0 ∨ b.mode < 3 ∨ b.mode = 9) := by
  simp [h.port, h.role, h.low, h.standby]

theorem Block.RunsPtp.running {b : Block} {j : Nat} (h : b.RunsPtp j) : b.running = true :=
  decide_eq_true ⟨Nat.le_of_succ_le h.low, h.standby⟩

/-- A message shows its port's state, and the inaccuracy that it carries counts (R246, R250). -/
def Block.portSeen (st : Nat) (inacc : Option Nat) : Block :=
  { b.set (ptpStateField j) st with time := { b.time with ptpInacc := inacc.getD b.time.ptpInacc } }

theorem Block.keeps_portSeen (st : Nat) (inacc : Option Nat) : b.Keeps (b.portSeen j st inacc) [ptpStateField j] [.time] :=
  ((Block.Keeps.refl b _ _).andSet _ _ (by simp)).andTime _ (by simp)

/-- The port's state is no field that the time unit or TRB_SUMMARY reads. -/
theorem ptpState_apart : ∀ f ∈ [R.MSH_STAT_ROLE, R.TIM_SRC_CFG_SRC, R.TIM_SRC_CFG_PTP_SRC_PORT, R.GLB_TICK_STAT_GRID_ALIGNED,
    R.TRB_SUMMARY], f.key ≠ (ptpStateField j).key := by
  unfold ptpStateField
  split <;> decide

theorem ptpLat_apart (h : j < 3) : (R.TIM_PTP_LAT_INGRESS j).key ≠ (ptpStateField j).key ∧
    (R.TIM_PTP_LAT_EGRESS j).key ≠ (ptpStateField j).key := by
  interval_cases j <;> decide

theorem Block.ptpRx_noSync (st : Nat) (inacc : Option Nat) (h : b.RunsPtp j) : b.ptpRx j st none inacc = b.portSeen j st inacc := by
  rw [Block.ptpRx, if_neg h.takes]
  cases inacc <;> rfl

/-- The port is the source of a coordinator that has not stepped yet (R217, R220). -/
structure Block.FirstPtpTime : Prop where
  head : b.role = 0
  source : b.get R.TIM_SRC_CFG_SRC = 1
  port : b.get R.TIM_SRC_CFG_PTP_SRC_PORT = j
  unlocked : b.time.firstLock = false
  unaligned : b.get R.GLB_TICK_STAT_GRID_ALIGNED = 0

theorem Block.portSeen_get (st : Nat) (inacc : Option Nat) (f : Field) (hf : f.key ≠ (ptpStateField j).key) :
    (b.portSeen j st inacc).get f = b.get f := Block.get_set_ne b _ _ _ hf

theorem Block.portSeen_ptpOffset (st : Nat) (inacc : Option Nat) (t1 t2 trip : Int) (hj : j < 3) :
    (b.portSeen j st inacc).ptpOffset j t1 t2 trip = b.ptpOffset j t1 t2 trip := by
  obtain ⟨hin, hout⟩ := ptpLat_apart j hj
  simp only [Block.ptpOffset, b.portSeen_get j st inacc _ hin, b.portSeen_get j st inacc _ hout]

/-- The PTP time that a measurement gives. -/
def Block.notePtpTime (d : Int) : Block := { b with time := { b.time with ptpTime := some d } }

theorem Block.ptpRx_source (st : Nat) (t1 t2 trip : Int) (inacc : Option Nat) (h : b.RunsPtp j) (hf : b.FirstPtpTime j) :
    b.ptpRx j st (some (t1, t2, trip)) inacc =
      ((b.portSeen j st inacc).notePtpTime (b.ptpOffset j t1 t2 trip).floor).sourceMeasured (b.ptpOffset j t1 t2 trip) := by
  have hget := b.portSeen_get j st inacc
  have hsource : (b.portSeen j st inacc).role = 0 ∧ (b.portSeen j st inacc).get R.TIM_SRC_CFG_SRC = 1 ∧
      (b.portSeen j st inacc).get R.TIM_SRC_CFG_PTP_SRC_PORT = j := by
    refine ⟨(hget _ (ptpState_apart j _ (by decide))).trans hf.head, ?_, ?_⟩
    · rw [hget _ (ptpState_apart j _ (by decide)), hf.source]
    · rw [hget _ (ptpState_apart j _ (by decide)), hf.port]
  rw [Block.ptpRx, if_neg h.takes, ← b.portSeen_ptpOffset j st inacc t1 t2 trip h.port]
  cases inacc <;> exact if_pos hsource

/-! What a port advertises (R247). -/

theorem Block.showTime_get (f : Field) (h : f.key ∉ timeShownFields.map Field.key) (hs : f.key ≠ R.TRB_SUMMARY.key) :
    b.showTime.get f = b.get f := (b.keeps_showTime []).1 f h hs

/-- TRACEABLE and clockClass are shown; neither is read for itself. -/
theorem Block.showTime_traceable : b.showTime.traceable = b.traceable := by
  have htime : b.showTime.time = b.time := rfl
  unfold Block.traceable Block.role Block.flag Block.timState
  rw [b.showTime_get R.MSH_STAT_ROLE (by decide) (by decide), b.showTime_get R.TIM_SRC_CFG_SRC (by decide) (by decide),
    b.showTime_get R.TIM_STAT_SRC_OK (by decide) (by decide), b.showTime_get R.TIM_STAT_STATE (by decide) (by decide), htime]

theorem Block.showTime_clockClass : b.showTime.clockClass = b.clockClass := by
  have hstate : b.showTime.timState = b.timState := b.showTime_get _ (by decide) (by decide)
  have hbound : b.showTime.get R.TIM_BOUND = b.get R.TIM_BOUND := b.showTime_get _ (by decide) (by decide)
  unfold Block.clockClass
  rw [hstate, b.showTime_traceable, hbound]

/-- What a port that runs PTP advertises (R246, R247). -/
def Block.advertised : Out :=
  .ptp j b.clockClass (ptpAccuracy (b.get R.TIM_BOUND)) (b.get R.TIM_UTC_UTC_OFFSET) (b.clockClass == 6 || b.clockClass == 7)
    (b.clockClass == 13 || b.clockClass == 14 || b.clockClass == 58) (b.flag R.TIM_UTC_LEAP61) (b.flag R.TIM_UTC_LEAP59)
    (leAt b.timingSeg (0x40 + 16 * j + 8) 1) (leAt b.timingSeg (0x40 + 16 * j + 9) 1)
    (if leAt b.timingSeg (0x40 + 16 * j + 1) 1 = 2 then some (b.time.ptpInacc + ceilDiv (b.get R.TIM_BOUND) 1000) else none)

theorem Block.showTime_advertised : b.showTime.advertised j = b.advertised j := by
  have hget := b.showTime_get
  have htime : b.showTime.time = b.time := rfl
  have hseg : b.showTime.timingSeg = b.timingSeg := rfl
  simp only [Block.advertised, b.showTime_clockClass, Block.flag, htime, hseg, hget R.TIM_BOUND (by decide) (by decide),
    hget R.TIM_UTC_UTC_OFFSET (by decide) (by decide), hget R.TIM_UTC_LEAP61 (by decide) (by decide),
    hget R.TIM_UTC_LEAP59 (by decide) (by decide)]

theorem Block.ptpTx_advertises (h : b.RunsPtp j) : b.ptpTx j = b.showTime.emit (b.advertised j) := by
  rw [Block.ptpTx, if_pos ⟨h.port, h.role, h.low, h.standby⟩, ← b.showTime_advertised j]
  rfl

theorem Block.keeps_emit (o : Out) (l : List Field) (ps : List Part) (h : .outs ∈ ps) : b.Keeps (b.emit o) l ps :=
  ⟨fun _ _ _ => rfl, fun p hp => by cases p <;> simp_all [Part.same, Block.q, Block.emit]⟩

/-! The timing tree (R243). -/

theorem Block.treeRecompute_due (hc : b.coordinator = true) (hdue : b.mesh.treeDue = true) : b.treeRecompute = b.recomputeTree :=
  if_pos ⟨hc, .inl hdue⟩

/-! An assignment (R294, R301): the mesh's record is settled first, and nothing behind it touches it. -/

theorem Block.showCollect_mesh : b.showCollect.mesh = b.mesh := rfl

theorem Block.showUplink_mesh : b.showUplink.mesh = b.mesh := by
  unfold Block.showUplink
  dsimp only
  split_ifs <;> rfl

theorem Block.changeParent_mesh (p : Nat) : (b.changeParent p).mesh = b.mesh := (b.keeps_changeParent p).2 .mesh (by decide)

theorem Block.namedOrChanged_mesh (p : Nat) {k : Prop} [Decidable k] : (if k then b else b.changeParent p).mesh = b.mesh := by
  split
  · rfl
  · exact b.changeParent_mesh p

theorem Block.applyTiming_mesh : b.applyTiming.mesh = b.mesh := by
  unfold Block.applyTiming
  dsimp only
  rw [Block.set_mesh, Block.namedOrChanged_mesh]
  rfl

theorem Block.applyAssign_mesh (x : Assign) :
    (b.applyAssign x).mesh = { b.mesh with pendingAssign := none, collector := x.collector } := by
  unfold Block.applyAssign
  dsimp only
  split
  · rfl
  · rw [Block.showCollect_mesh, Block.showUplink_mesh, Block.applyTiming_mesh]
    split <;> rfl

theorem Block.assignApply_due (x : Assign) (hx : b.mesh.pendingAssign = some x) (hgrid : b.hasGrid = true) (ha : b.short ≠ 0)
    (hrev : b.reached x.rev = true) : b.assignApply = b.applyAssign x := by
  rw [Block.assignApply, hx]
  exact if_pos ⟨hgrid, ha, hrev⟩

end

/-! The commands. -/

section
variable (s : State) (j : Nat)

theorem ptpMessageRx_shows (st : Nat) (inacc : Option Nat) (h : s.blk.RunsPtp j) :
    ∃ t, exec (.ptpMessageRx j st ⟨none, inacc⟩) s = .next t ∧
      t.blk.get (ptpStateField j) = st % 2 ^ (ptpStateField j).width ∧ t.blk.time.ptpInacc = inacc.getD s.blk.time.ptpInacc ∧
      t.blk.time = { s.blk.time with ptpInacc := t.blk.time.ptpInacc } ∧ s.Keeps t [ptpStateField j] [.time] := by
  have htime : (s.run fun _ => s.blk.portSeen j st inacc).blk.time =
      { s.blk.time with ptpInacc := inacc.getD s.blk.time.ptpInacc } := Block.updateAlert_time _
  refine ⟨_, exec_of_runOn _ rfl _ h.running (s.blk.ptpRx_noSync j st inacc h), ?_, congrArg TimeUnit.ptpInacc htime, ?_,
    State.keeps_run s _ _ _ (s.blk.keeps_portSeen j st inacc)⟩
  · rw [State.run_get s _ _ (ptpState_apart j _ (by decide)).symm]
    exact Block.get_set_self s.blk (ptpStateField j) st
  · rw [htime]

theorem ptpMessageRx_steps (st : Nat) (t1 t2 trip : Int) (inacc : Option Nat) (h : s.blk.RunsPtp j) (hf : s.blk.FirstPtpTime j) :
    ∃ t, exec (.ptpMessageRx j st ⟨some (t1, t2, trip), inacc⟩) s = .next t ∧
      t.blk.time.ptpTime = some (s.blk.ptpOffset j t1 t2 trip).floor ∧ t.blk.time.step = some (s.blk.ptpOffset j t1 t2 trip).floor ∧
      t.blk.get R.TIM_STAT_SRC_OK = 1 ∧ t.otp = s.otp ∧ t.pending = s.pending := by
  have e := s.blk.ptpRx_source j st t1 t2 trip inacc h hf
  generalize s.blk.ptpOffset j t1 t2 trip = theta at e ⊢
  have hgrid : ((s.blk.portSeen j st inacc).notePtpTime theta.floor).get R.GLB_TICK_STAT_GRID_ALIGNED = 0 :=
    (s.blk.portSeen_get j st inacc _ (ptpState_apart j _ (by decide))).trans hf.unaligned
  obtain ⟨hstep, hptp, hok⟩ := Block.sourceMeasured_steps ((s.blk.portSeen j st inacc).notePtpTime theta.floor) theta hf.unlocked hgrid
  exact ⟨_, exec_of_runOn _ rfl _ h.running e, (congrArg TimeUnit.ptpTime (Block.updateAlert_time _)).trans hptp,
    (congrArg TimeUnit.step (Block.updateAlert_time _)).trans hstep, (State.run_get s _ _ (by decide)).trans hok, rfl, rfl⟩

theorem ptpIntervalTx_advertises (h : s.blk.RunsPtp j) :
    ∃ t, exec (.ptpIntervalTx j) s = .next t ∧ t.blk.outs = s.blk.outs ++ [s.blk.advertised j] ∧
      s.Keeps t [R.TIM_STAT_TRACEABLE, R.TIM_PTP_STAT_CLOCK_CLASS] [.outs] :=
  ⟨_, exec_of_runOn _ rfl _ h.running (s.blk.ptpTx_advertises j h), Block.updateAlert_outs _,
    State.keeps_run s _ _ _ ((s.blk.keeps_showTime _).trans (Block.keeps_emit _ _ _ _ (by simp)))⟩

theorem timingTreeRecompute_ends (hrun : s.blk.running = true) (hc : s.blk.coordinator = true) (hdue : s.blk.mesh.treeDue = true) :
    ∃ t u, exec .timingTreeRecompute s = .next t ∧ t.blk.mesh.lastTree = some u ∧ t.blk.mesh.treeDue = false ∧ t.otp = s.otp ∧
      t.pending = s.pending :=
  have hmesh := Block.updateAlert_mesh s.blk.recomputeTree
  ⟨_, _, exec_of_runOn _ rfl _ hrun (s.blk.treeRecompute_due hc hdue), congrArg MeshUnit.lastTree hmesh, congrArg MeshUnit.treeDue hmesh,
    rfl, rfl⟩

theorem assignmentApply_applies (x : Assign) (hrun : s.blk.running = true) (hx : s.blk.mesh.pendingAssign = some x)
    (hgrid : s.blk.hasGrid = true) (ha : s.blk.short ≠ 0) (hrev : s.blk.reached x.rev = true) :
    ∃ t, exec .assignmentApply s = .next t ∧ t.blk.mesh.pendingAssign = none ∧ t.blk.mesh.collector = x.collector ∧ t.otp = s.otp ∧
      t.pending = s.pending := by
  have hmesh := (Block.updateAlert_mesh _).trans (s.blk.applyAssign_mesh x)
  exact ⟨_, exec_of_runOn _ rfl _ hrun (s.blk.assignApply_due x hx hgrid ha hrev), congrArg MeshUnit.pendingAssign hmesh,
    congrArg MeshUnit.collector hmesh, rfl, rfl⟩

end

/-- Settles O19: a message with and without a measurement, what a port advertises, the tree, and the assignment. -/
theorem ptpAndTree : Obligations.PtpAndTree := by
  refine ⟨?_, ?_, ?_, timingTreeRecompute_ends, assignmentApply_applies⟩
  · intro s j st inacc hj hr hlow hstandby
    exact ptpMessageRx_shows s j st inacc ⟨hj, hr, hlow, hstandby⟩
  · intro s j st t1 t2 trip inacc hj hr hlow hstandby hhead hsrc hport hlock hgrid
    exact ptpMessageRx_steps s j st t1 t2 trip inacc ⟨hj, hr, hlow, hstandby⟩ ⟨hhead, hsrc, hport, hlock, hgrid⟩
  · intro s j hj hr hlow hstandby
    exact ptpIntervalTx_advertises s j ⟨hj, hr, hlow, hstandby⟩

end Sys2Proof.Machine
end

section
/-! TIMING frames that are sent (R222–R224, R258): the request of a child, and the reply of its parent. -/

namespace Sys2Proof.Machine

section
variable (b : Block)

/-! The frame. -/

theorem Block.peerTime_modPeer_self (a : Nat) (f : PeerTime → PeerTime) : (b.modPeer a f).peerTime a = f (b.peerTime a) :=
  Tab.get_set_self _ _ _ _

theorem Block.keeps_modPeer (a : Nat) (f : PeerTime → PeerTime) (l : List Field) (ps : List Part) (h : .time ∈ ps) :
    b.Keeps (b.modPeer a f) l ps := b.keeps_time _ l ps h

/-- The mark of a TIMING frame whose first preamble chip leaves `lead` ticks from now (R258). -/
def Block.markTime (port band lead : Nat) : Nat := (b.tick + lead + markTicks ((b.profile band port).getD 0)) * tickLen

/-- A TIMING frame (R221, R223). -/
def Block.timingFrame (peer port band subtype seq mark : Nat) : TxFrame :=
  { band := band, kind := .timing, port := some port, payload := b.timingBytes peer subtype seq mark,
    hdr := { b.newHeader 4 1 peer band false with
      mode := oneStream (b.peerMode peer band), timing := match (b.peerTime peer).lastRx with | some t => stamp64 t | none => 0 } }

/-- What the node keeps of a request that it sends (R222, R225). -/
def PeerTime.requested (p : PeerTime) (seq mark : Nat) : PeerTime := { p with seq := seq, t1 := some mark }

/-- What the node keeps of a reply that it sends (R224, R225). -/
def PeerTime.replied (p : PeerTime) (mark : Nat) : PeerTime :=
  { p with echo := none, sent := match p.mark, p.lastRx with | some t1, some t2 => some (t1, t2, mark) | _, _ => none }

theorem Block.readyTiming_request (peer port band seq lead : Nat) : b.readyTiming peer port band 1 seq lead =
    (b.modPeer peer fun p => p.requested seq (b.markTime port band lead)).makeReady
      (b.timingFrame peer port band 1 seq (b.markTime port band lead)) := rfl

theorem Block.readyTiming_reply (peer port band seq lead : Nat) : b.readyTiming peer port band 2 seq lead =
    (b.modPeer peer fun p => p.replied (b.markTime port band lead)).makeReady
      (b.timingFrame peer port band 2 seq (b.markTime port band lead)) := rfl

theorem Block.keeps_readied (peer : Nat) (g : PeerTime → PeerTime) (f : TxFrame) :
    b.Keeps ((b.modPeer peer g).makeReady f) [] [.time, .mac] :=
  (b.keeps_modPeer _ _ _ _ (by simp)).trans ((Block.keeps_makeReady _ _).widen _ _ (by simp) (by simp))

/-! The request of a child (R222). -/

/-- A child at its opportunity: it has a timing parent and a grid, and may send (R222). -/
structure Block.MayRequest : Prop where
  parent : b.get R.TIM_PARENT_PARENT ≠ 0
  notHead : b.role ≠ 0
  may : b.mayTransmit = true
  grid : b.hasGrid = true

theorem Block.MayRequest.goes {b : Block} (h : b.MayRequest) :
    ¬(b.get R.TIM_PARENT_PARENT = 0 ∨ b.role = 0 ∨ b.mayTransmit = false ∨ b.hasGrid = false) := by
  simp [h.parent, h.notHead, h.may, h.grid]

/-- The opportunity counts as missed until a measurement is accepted (R238). -/
def Block.missOpportunity : Block := { b with time := { b.time with misses := b.time.misses + 1 } }

theorem Block.timingRequest_lost (h : b.MayRequest) (hf : b.forbidden b.timingBand = true) :
    b.timingRequest = b.missOpportunity.slotLost := by
  rw [Block.timingRequest, if_neg h.goes]
  exact if_pos hf

/-- The sequence number of the next request to the parent (R222). -/
def Block.requestSeq : Nat := ((b.peerTime (b.get R.TIM_PARENT_PARENT)).seq + 1) % 65536

theorem Block.timingRequest_goes (h : b.MayRequest) (hf : b.forbidden b.timingBand = false) :
    b.timingRequest =
      b.missOpportunity.readyTiming (b.get R.TIM_PARENT_PARENT) (b.get R.TIM_TREE_PORT) b.timingBand 1 b.requestSeq 1 := by
  rw [Block.timingRequest, if_neg h.goes]
  exact if_neg (by rw [Bool.not_eq_true]; exact hf)

/-! The reply of a parent (R224). -/

/-- The band in which a peer was heard last. -/
def Block.heardBand (peer : Nat) : Nat := bits (Tab.get 0 b.mac.heardOn peer - 1) 2 1

theorem Block.timingReply_goes (peer : Nat) (pt : PeerTime) (hp : b.time.peers.find? (fun e => e.2.echo.isSome) = some (peer, pt))
    (hmay : b.mayTransmit = true) (hf : b.forbidden (b.heardBand peer) = false) :
    b.timingReply =
      b.readyTiming peer ((Tab.get 0 b.mac.heardOn peer - 1) % 4) (b.heardBand peer) 2 (pt.echo.getD 0) 0 := by
  rw [Block.timingReply, hp]
  dsimp only
  rw [if_neg (by simp [hmay])]
  exact if_neg (by rw [Bool.not_eq_true]; exact hf)

end

/-! The commands. -/

section
variable (s : State)

theorem timingRequestTx_goes (hrun : s.blk.running = true) (h : s.blk.MayRequest) (hf : s.blk.forbidden s.blk.timingBand = false) :
    ∃ t f mark, exec .timingRequestTx s = .next t ∧ t.blk.mac.ready = s.blk.mac.ready ++ [f] ∧ f.kind = .timing ∧
      f.band = s.blk.timingBand ∧ f.hdr.dst = s.blk.get R.TIM_PARENT_PARENT ∧
      mark = s.blk.markTime (s.blk.get R.TIM_TREE_PORT) s.blk.timingBand 1 ∧
      f.payload = s.blk.timingBytes (s.blk.get R.TIM_PARENT_PARENT) 1 s.blk.requestSeq mark ∧
      (t.blk.peerTime (s.blk.get R.TIM_PARENT_PARENT)).t1 = some mark ∧
      (t.blk.peerTime (s.blk.get R.TIM_PARENT_PARENT)).seq = s.blk.requestSeq ∧
      t.blk.time.misses = s.blk.time.misses + 1 ∧ s.Keeps t [] [.time, .mac] := by
  have e := (s.blk.timingRequest_goes h hf).trans (s.blk.missOpportunity.readyTiming_request _ _ _ _ _)
  have hpeer := s.blk.missOpportunity.peerTime_modPeer_self (s.blk.get R.TIM_PARENT_PARENT) fun p =>
    p.requested s.blk.requestSeq (s.blk.markTime (s.blk.get R.TIM_TREE_PORT) s.blk.timingBand 1)
  refine ⟨_, _, _, exec_of_runOn _ rfl _ hrun e, congrArg MacUnit.ready (Block.updateAlert_mac _), rfl, rfl, rfl, rfl, rfl, ?_, ?_,
    congrArg TimeUnit.misses (Block.updateAlert_time _), State.keeps_run s _ _ _
      ((s.blk.keeps_time s.blk.missOpportunity.time _ _ (by simp)).trans (s.blk.missOpportunity.keeps_readied _ _ _))⟩
  · rw [Block.peerTime, State.run_blk, Block.updateAlert_time]
    exact congrArg PeerTime.t1 hpeer
  · rw [Block.peerTime, State.run_blk, Block.updateAlert_time]
    exact congrArg PeerTime.seq hpeer

theorem timingRequestTx_lost (hrun : s.blk.running = true) (h : s.blk.MayRequest) (hf : s.blk.forbidden s.blk.timingBand = true) :
    ∃ t, exec .timingRequestTx s = .next t ∧ t.blk.time.misses = s.blk.time.misses + 1 ∧
      t.blk.get R.MAC_SLOT_LOST_COUNT = (s.blk.get R.MAC_SLOT_LOST_COUNT + 1) % 2 ^ R.MAC_SLOT_LOST_COUNT.width ∧
      t.blk.get R.MAC_TROUBLE_SLOT_LOST = 1 ∧ s.Keeps t slotLostFields [.time, .records] := by
  have htime : s.blk.missOpportunity.slotLost.time = s.blk.missOpportunity.time :=
    s.blk.missOpportunity.keeps_slotLost.2 .time (by decide)
  have hcount : s.blk.missOpportunity.get R.MAC_SLOT_LOST_COUNT = s.blk.get R.MAC_SLOT_LOST_COUNT := rfl
  exact ⟨_, exec_of_runOn _ rfl _ hrun (s.blk.timingRequest_lost h hf),
    congrArg TimeUnit.misses ((Block.updateAlert_time _).trans htime),
    (State.run_get s _ _ (by decide)).trans (hcount ▸ Block.slotLost_count _),
    (State.run_get s _ _ (by decide)).trans (Block.slotLost_sticky _),
    State.keeps_run s _ _ _ ((s.blk.keeps_time s.blk.missOpportunity.time _ _ (by simp)).trans
      ((Block.keeps_slotLost _).widen _ _ (List.Subset.refl _) (by simp)))⟩

theorem timingReplyTx_goes (peer : Nat) (pt : PeerTime) (hrun : s.blk.running = true)
    (hp : s.blk.time.peers.find? (fun e => e.2.echo.isSome) = some (peer, pt)) (hmay : s.blk.mayTransmit = true)
    (hf : s.blk.forbidden (s.blk.heardBand peer) = false) :
    ∃ t f mark, exec .timingReplyTx s = .next t ∧ t.blk.mac.ready = s.blk.mac.ready ++ [f] ∧ f.kind = .timing ∧
      f.band = s.blk.heardBand peer ∧ f.hdr.dst = peer ∧
      mark = s.blk.markTime ((Tab.get 0 s.blk.mac.heardOn peer - 1) % 4) f.band 0 ∧
      f.payload = s.blk.timingBytes peer 2 (pt.echo.getD 0) mark ∧ (t.blk.peerTime peer).echo = none ∧
      s.Keeps t [] [.time, .mac] := by
  have e := (s.blk.timingReply_goes peer pt hp hmay hf).trans (s.blk.readyTiming_reply _ _ _ _ _)
  refine ⟨_, _, _, exec_of_runOn _ rfl _ hrun e, congrArg MacUnit.ready (Block.updateAlert_mac _), rfl, rfl, rfl, rfl, rfl, ?_,
    State.keeps_run s _ _ _ (s.blk.keeps_readied _ _ _)⟩
  rw [Block.peerTime, State.run_blk, Block.updateAlert_time]
  exact congrArg PeerTime.echo (s.blk.peerTime_modPeer_self peer _)

end

end Sys2Proof.Machine
end

section
/-! TIMING frames that are received (R222–R226, R273, R484): a request is kept for its reply, a value that the format does not define is
rejected; and the settlement of `Obligations.TimingFrames`. -/

namespace Sys2Proof.Machine

/-! Table memory, as an opened frame and the check of R273 write it. -/

section
variable (b : Block)

theorem Block.keeps_tables (m : Mem) (l : List Field) (ps : List Part) (h : .tables ∈ ps) : b.Keeps { b with tables := m } l ps :=
  ⟨fun _ _ _ => rfl, fun p hp => by cases p <;> simp_all [Part.same, Block.q]⟩

theorem Block.keeps_setTab (a n v : Nat) : b.Keeps (b.setTab a n v) [] [.tables] := b.keeps_tables _ _ _ (by simp)

theorem Block.Keeps.andTab {b c : Block} (h : b.Keeps c [] [.tables]) (a n v : Nat) : b.Keeps (c.setTab a n v) [] [.tables] :=
  h.trans (c.keeps_setTab a n v)

theorem Block.keeps_notePeer (a ctr epoch : Nat) : b.Keeps (b.notePeer a ctr epoch) [] [.tables] :=
  Block.keeps_when (((b.keeps_setTab _ _ _).trans (Block.keeps_when (Block.keeps_setTab _ _ _ _))).andTab _ _ _)

theorem Block.keeps_markDelivered (a cls ctr : Nat) : b.Keeps (b.markDelivered a cls ctr) [] [.tables] :=
  (b.keeps_setTab _ _ _).andTab _ _ _

theorem Block.keeps_dupCheck (a cls ctr epoch tag : Nat) (pos0 : Bool) : b.Keeps (b.dupCheck a cls ctr epoch tag pos0).2 [] [.tables] := by
  have hpeer := b.keeps_setTab (peerAt a) 2 a
  unfold Block.dupCheck
  dsimp only
  split_ifs
  · exact (((hpeer.andTab _ _ _).andTab _ _ _).andTab _ _ _).andTab _ _ _
  · exact (((hpeer.andTab _ _ _).andTab _ _ _).andTab _ _ _).andTab _ _ _
  · exact ((hpeer.andTab _ _ _).andTab _ _ _).andTab _ _ _
  · exact hpeer
  · exact hpeer
  · exact hpeer
  · exact hpeer

/-- A frame that opens changes its peer's security entry at most (R484, R493). -/
theorem Block.keeps_openPart {h : Header} {x : RxPart} {collect : Bool} {r : List Byte × Nat} {c : Block}
    (e : b.openPart h x collect = (some r, c)) : b.Keeps c [] [.tables] := by
  unfold Block.openPart at e
  split_ifs at e with hsec hepoch hkeyed
  · cases e
  · split at e
    · cases e
    · dsimp only at e
      split at e
      · cases e
      · cases e
        exact b.keeps_notePeer _ _ _
  · cases e
  · cases e
    exact Block.Keeps.refl b _ _

theorem Block.takeDelivered_inv {t : Delivered → Bool} {d : Delivered} {c : Block} (e : b.takeDelivered t = some (d, c)) :
    c = b.dropDelivered d := by
  unfold Block.takeDelivered at e
  split at e
  · cases e
    rfl
  · cases e

end

/-! A TIMING frame that has passed the check of R273. -/

/-- The first delivered TIMING frame `d`: its first part `x` opens to `pl`, and the check of R273 accepts it; `c` is the block in which its
contents are read. -/
structure Block.TimingHeard (b : Block) (d : Delivered) (x : RxPart) (pl : List Byte) (c : Block) : Prop where
  frame : b.Keeps c [] [.phy, .tables]
  delivered : c.phy.delivered = b.phy.delivered.erase d
  taken : ∃ b1 b2 b3 xs tag, b.takeDelivered (fun d => d.hdr.ftype == 4) = some (d, b1) ∧ d.parts = x :: xs ∧
    b1.openPart d.hdr x false = (some (pl, tag), b2) ∧ b2.dupCheck d.hdr.src 1 x.ctr x.epoch tag true = (.accept, b3) ∧
    c = b3.markDelivered d.hdr.src 1 x.ctr

section
variable {b c : Block} {d : Delivered} {x : RxPart} {pl : List Byte}

theorem Block.timingHeard {b1 b2 b3 : Block} {xs : List RxPart} {tag : Nat}
    (htake : b.takeDelivered (fun d => d.hdr.ftype == 4) = some (d, b1)) (hparts : d.parts = x :: xs)
    (hopen : b1.openPart d.hdr x false = (some (pl, tag), b2))
    (hdup : b2.dupCheck d.hdr.src 1 x.ctr x.epoch tag true = (.accept, b3)) :
    b.TimingHeard d x pl (b3.markDelivered d.hdr.src 1 x.ctr) := by
  have hcheck : b2.Keeps b3 [] [.tables] := by
    have h := b2.keeps_dupCheck d.hdr.src 1 x.ctr x.epoch tag true
    rwa [hdup] at h
  have hread : b1.Keeps (b3.markDelivered d.hdr.src 1 x.ctr) [] [.tables] :=
    ((b1.keeps_openPart hopen).trans hcheck).trans (b3.keeps_markDelivered _ _ _)
  have hdrop := b.takeDelivered_inv htake
  refine ⟨?_, ?_, b1, b2, b3, xs, tag, htake, hparts, hopen, hdup, rfl⟩
  · exact (hdrop ▸ b.keeps_dropDelivered d _ _ (by simp)).trans (hread.widen _ _ (List.Subset.refl _) (by simp))
  · rw [show (b3.markDelivered d.hdr.src 1 x.ctr).phy = b1.phy from hread.2 .phy (by simp), hdrop]
    rfl

/-- A payload with a value that the format of R223 does not define (R5, R209). -/
def timingBad (h : Header) (pl : List Byte) : Prop :=
  pl.length ≠ 24 ∨ leAt pl 0 1 ≠ 1 ∧ leAt pl 0 1 ≠ 2 ∨ stamp64Ok (leAt pl 4 8) = false ∨ stamp64Ok h.timing = false

theorem Block.TimingHeard.same_time (h : b.TimingHeard d x pl c) : c.time = b.time := h.frame.2 .time (by decide)

theorem Block.timingRx_bad (h : b.TimingHeard d x pl c) (hbad : timingBad d.hdr pl) : b.timingRx = c.bump R.TIM_UNDEF_COUNT := by
  obtain ⟨b1, b2, b3, xs, tag, htake, hparts, hopen, hdup, rfl⟩ := h.taken
  rw [Block.timingRx, htake]
  dsimp only
  rw [hparts]
  dsimp only
  rw [hopen]
  dsimp only
  rw [hdup]
  exact if_pos hbad

/-! A request is kept (R224, R225). -/

/-- What the node keeps of a TIMING frame of a peer: when and how it was received, the peer's bound and state, and a request's mark. -/
def PeerTime.heard (p : PeerTime) (d : Delivered) (pl : List Byte) (mark : Nat) : PeerTime :=
  { p with
    lastRx := d.time.stamp, rxSnr := unsext 16 (nearest ((d.snr : Rat) / 64)), fpOffset := d.time.fpOffset, bound := leAt pl 12 4,
    locked := (leAt pl 1 1).testBit 0, mark := some mark }

/-- A request is kept for its reply (R224). -/
def PeerTime.owed (p : PeerTime) (pl : List Byte) : PeerTime := { p with echo := some (leAt pl 2 2), sent := none }

/-- What a node takes over from its timing parent's frame (R223, R247): flags, UTC offset and leap seconds. -/
def Block.followParent (b : Block) (pl : List Byte) : Block :=
  ((({ b with time := { b.time with parentFlags := leAt pl 1 1 } }.set R.TIM_UTC_UTC_OFFSET (leAt pl 20 2)).set R.TIM_UTC_LEAP61
    (leAt pl 19 1 % 2)).set R.TIM_UTC_LEAP59 (leAt pl 19 1 / 2 % 2)).showTime

/-- The fields that follow the timing parent (R223, R247). -/
def followFields : List Field :=
  [R.TIM_UTC_UTC_OFFSET, R.TIM_UTC_LEAP61, R.TIM_UTC_LEAP59, R.TIM_STAT_TRACEABLE, R.TIM_PTP_STAT_CLOCK_CLASS]

theorem Block.keeps_followParent (b : Block) (pl : List Byte) : b.Keeps (b.followParent pl) followFields [.time] :=
  (((((Block.Keeps.refl b _ _).andTime _ (by simp)).andSet _ _ (by decide)).andSet _ _ (by decide)).andSet _ _ (by decide)).trans
    ((Block.keeps_showTime _ _).widen _ _ (by decide) (List.Subset.refl _))

/-- The peer is the node's timing parent. -/
def Block.timingParent (b : Block) (peer : Nat) : Bool :=
  decide (peer = b.get R.TIM_PARENT_PARENT ∧ b.get R.TIM_PARENT_PARENT ≠ 0 ∧ b.role ≠ 0)

/-- A request of the peer `d` came in, with its mark. -/
def Block.keepRequest (b : Block) (d : Delivered) (pl : List Byte) : Block :=
  let e := b.modPeer d.hdr.src fun p => p.heard d pl (unstamp64 (leAt pl 4 8) b.netNow)
  (if e.timingParent d.hdr.src then e.followParent pl else e).modPeer d.hdr.src fun p => p.owed pl

/-- A request without a receive timestamp, or before any reply was sent, completes no exchange of the parent's own (R225). -/
theorem Block.parentRecord_none (b : Block) (d : Delivered) (pt : PeerTime) (snr : Int) {k : Prop} [Decidable k] (h : k ∨ pt.sent = none) :
    (if k then b else b.parentRecord d pt snr) = b := by
  obtain hk | hsent := h
  · exact if_pos hk
  · rw [Block.parentRecord, hsent]
    exact ite_self b

theorem Block.timingRx_request (h : b.TimingHeard d x pl c) (hlen : pl.length = 24) (hsub : leAt pl 0 1 = 1)
    (hmark : stamp64Ok (leAt pl 4 8) = true) (htiming : stamp64Ok d.hdr.timing = true)
    (hno : (leAt pl 1 1).testBit 2 = true ∨ (c.peerTime d.hdr.src).sent = none) : b.timingRx = c.keepRequest d pl := by
  have hgood : ¬timingBad d.hdr pl := by simp [timingBad, hlen, hsub, hmark, htiming]
  obtain ⟨b1, b2, b3, xs, tag, htake, hparts, hopen, hdup, rfl⟩ := h.taken
  rw [Block.timingRx, htake]
  dsimp only
  rw [hparts]
  dsimp only
  rw [hopen]
  dsimp only
  rw [hdup]
  refine (if_neg hgood).trans ?_
  rw [if_pos hsub, if_pos hsub]
  exact Block.parentRecord_none _ d _ _ hno

/-- What the node then knows of the peer: the request to reply to, when it came in, and its mark. -/
theorem Block.keepRequest_peer (c : Block) (d : Delivered) (pl : List Byte) : (c.keepRequest d pl).peerTime d.hdr.src =
    ((c.peerTime d.hdr.src).heard d pl (unstamp64 (leAt pl 4 8) c.netNow)).owed pl := by
  have hfollow (e : Block) {k : Prop} [Decidable k] : (if k then e.followParent pl else e).peerTime d.hdr.src = e.peerTime d.hdr.src := by
    split <;> rfl
  rw [Block.keepRequest, Block.peerTime_modPeer_self, hfollow, Block.peerTime_modPeer_self]

theorem Block.keeps_keepRequest (c : Block) (d : Delivered) (pl : List Byte) : c.Keeps (c.keepRequest d pl) followFields [.time] :=
  ((c.keeps_modPeer _ _ _ _ (by simp)).trans (Block.keeps_ite (Block.keeps_followParent _ _) (Block.Keeps.refl _ _ _))).trans
    (Block.keeps_modPeer _ _ _ _ _ (by simp))

end

/-! The command. -/

section
variable (s : State) {c : Block} {d : Delivered} {x : RxPart} {pl : List Byte}

theorem timingRx_keepsRequest (hrun : s.blk.running = true) (h : s.blk.TimingHeard d x pl c) (hlen : pl.length = 24)
    (hsub : leAt pl 0 1 = 1) (hmark : stamp64Ok (leAt pl 4 8) = true) (htiming : stamp64Ok d.hdr.timing = true)
    (hno : (leAt pl 1 1).testBit 2 = true ∨ (s.blk.peerTime d.hdr.src).sent = none) :
    ∃ t, exec .timingRx s = .next t ∧ t.blk.phy.delivered = s.blk.phy.delivered.erase d ∧
      (t.blk.peerTime d.hdr.src).echo = some (leAt pl 2 2) ∧ (t.blk.peerTime d.hdr.src).lastRx = d.time.stamp ∧
      (t.blk.peerTime d.hdr.src).mark = some (unstamp64 (leAt pl 4 8) s.blk.netNow) ∧
      s.Keeps t followFields [.phy, .tables, .time] := by
  have hnow : c.netNow = s.blk.netNow := by rw [Block.netNow, Block.now, h.same_time, Block.netNow, Block.now]
  have hsent : c.peerTime d.hdr.src = s.blk.peerTime d.hdr.src := by rw [Block.peerTime, h.same_time, Block.peerTime]
  have hphy : (c.keepRequest d pl).phy = c.phy := (c.keeps_keepRequest d pl).2 .phy (by simp)
  have hpeer : (c.keepRequest d pl).updateAlert.peerTime d.hdr.src =
      ((s.blk.peerTime d.hdr.src).heard d pl (unstamp64 (leAt pl 4 8) s.blk.netNow)).owed pl := by
    rw [Block.peerTime, Block.updateAlert_time, ← hnow, ← hsent]
    exact c.keepRequest_peer d pl
  refine ⟨_, exec_of_runOn _ rfl _ hrun (Block.timingRx_request h hlen hsub hmark htiming (hsent ▸ hno)), ?_,
    congrArg PeerTime.echo hpeer, congrArg PeerTime.lastRx hpeer, congrArg PeerTime.mark hpeer, State.keeps_run s _ _ _ ?_⟩
  · rw [State.run_blk, Block.updateAlert_phy, hphy, h.delivered]
  · exact (h.frame.widen _ _ (by simp) (by simp)).trans ((c.keeps_keepRequest d pl).widen _ _ (List.Subset.refl _) (by simp))

theorem timingRx_rejects (hrun : s.blk.running = true) (h : s.blk.TimingHeard d x pl c) (hbad : timingBad d.hdr pl) :
    ∃ t, exec .timingRx s = .next t ∧ t.blk.phy.delivered = s.blk.phy.delivered.erase d ∧
      t.blk.get R.TIM_UNDEF_COUNT = (s.blk.get R.TIM_UNDEF_COUNT + 1) % 2 ^ R.TIM_UNDEF_COUNT.width ∧
      s.Keeps t [R.TIM_UNDEF_COUNT] [.phy, .tables] := by
  have hcount : c.get R.TIM_UNDEF_COUNT = s.blk.get R.TIM_UNDEF_COUNT := h.frame.1 _ (by decide) (by decide)
  exact ⟨_, exec_of_runOn _ rfl _ hrun (Block.timingRx_bad h hbad),
    (congrArg PhyUnit.delivered (Block.updateAlert_phy _)).trans h.delivered,
    (State.run_get s _ _ (by decide)).trans (hcount ▸ c.bump_get _),
    State.keeps_run s _ _ _ ((h.frame.widen _ _ (by simp) (List.Subset.refl _)).trans (c.keeps_bump _ _ _ (by decide)))⟩

end

/-- Settles O26: the request that is sent or lost, the reply, and the frame that is kept or rejected. -/
theorem timingFrames : Obligations.TimingFrames := by
  refine ⟨?_, ?_, ?_, ?_, ?_⟩
  · intro s hrun hparent hhead hmay hgrid hf
    exact timingRequestTx_goes s hrun ⟨hparent, hhead, hmay, hgrid⟩ hf
  · intro s hrun hparent hhead hmay hgrid hf
    exact timingRequestTx_lost s hrun ⟨hparent, hhead, hmay, hgrid⟩ hf
  · intro s peer pt hrun hp hmay hf
    exact timingReplyTx_goes s peer pt hrun hp hmay hf
  · intro s d b1 b2 b3 x l pl tag hrun htake hparts hopen hdup hlen hsub hmark htiming hno
    exact timingRx_keepsRequest s hrun (Block.timingHeard htake hparts hopen hdup) hlen hsub hmark htiming hno
  · intro s d b1 b2 b3 x l pl tag hrun htake hparts hopen hdup hbad
    exact timingRx_rejects s hrun (Block.timingHeard htake hparts hopen hdup) hbad

end Sys2Proof.Machine
end

section
/-! The pending bit of an ACK beside one that is blocked (R268, R271, R464), and the failures of a link without a node-table entry (R203,
R208, R269): what refutes `Obligations.AcknowledgementsSent` and `Obligations.AcknowledgementsReceived`. -/

namespace Sys2Proof.Machine

/-! Two ACKs are due at once (R271): the record of the one that is blocked can evict the packet that is pending. -/

/-- An ACK to a peer. -/
def dueAck (dst : Nat) : TxFrame := { band := 0, kind := .ack, hdr := { ftype := 2, dst := dst } }

/-- In M6 two ACKs are due at once; queue 0x000 has PEND, room for one packet, and holds one for node 4. -/
def recordsPend : State where
  blk := {
    regs := [(R.PWR_MODE_MODE.key, 6), (R.MAC_BUDGET_H.key, 1000000)]
    mac := { order := [dueAck 5, dueAck 4] }
    queue := { queues := [(0, { capacity := 1, pend := true, pkts := [⟨4, 0, 0, []⟩] })] } }
  otp := {}
  pending := []

/-- The ACK to node 4 with the pending bit of the state before the command. -/
def pendingAck : TxFrame := { dueAck 4 with hdr := { (dueAck 4).hdr with pending := decide (recordsPend.blk.pendingFor 4 ≠ 0) } }

/-- The ACK to node 5 is blocked first; its record takes the place of the packet for node 4, which then is not pending any more. -/
theorem recordsPend_ackTx : (recordsPend.blk.ackTx 0).mac.ready.map (fun f => f.hdr.pending) = [false] := by decide +kernel

/-- Refutes O28, in its second clause: the record of the blocked ACK (R464) goes to queue 0x000 before the pending bit is sampled; where
that queue has PEND and the record evicts the only packet for the peer, the bit is 0 and not the one of the state before. -/
theorem not_acknowledgementsSent : ¬ Obligations.AcknowledgementsSent := by
  intro h
  obtain ⟨-, htwo, -⟩ := h
  obtain ⟨t, ht, hready, -⟩ := htwo recordsPend 0 (dueAck 5) (dueAck 4) (dueAck 4) pendingAck (by decide +kernel) (by decide +kernel)
    (by decide +kernel) rfl (by decide +kernel) (by decide +kernel)
  obtain rfl : recordsPend.runOn (fun b => b.ackTx 0) = t := Host.Outcome.next.inj ht
  rw [State.runOn_of_running _ _ (by decide +kernel), State.run_blk, Block.updateAlert_mac] at hready
  have hbits := congrArg (List.map fun f => f.hdr.pending) hready
  rw [recordsPend_ackTx] at hbits
  exact absurd hbits (by decide +kernel)

/-! An acknowledgement from a peer without a node-table entry (R203, R208): its link-quality record is left alone. -/

/-- A transmission to node 5 that waits for its ACK. -/
def unknownWaiting : Waiting := ⟨{ band := 0, kind := .other, hdr := { dst := 5, ctr := 7 } }, false, 0, 0⟩

/-- The ACK of node 5. -/
def unknownAck : Delivered := ⟨0, 0, { ftype := 2, src := 5, ctr := 7 }, [], 0, {}, 0⟩

/-- In M6 the node waits for the ACK that node 5 has sent; node 5 has no node-table entry, but a record with one failure. -/
def unknownPeer : State where
  blk := {
    regs := [(R.PWR_MODE_MODE.key, 6)]
    phy := { links := [(linkKey 5 0, { fails := 1 })], delivered := [unknownAck] }
    mac := { waiting := [unknownWaiting] } }
  otp := {}
  pending := []

theorem unknownPeer_ackRx : (unknownPeer.blk.ackRx.link 5 0).fails = 1 := by decide +kernel

/-- Refutes O29, in its first clause: an acknowledgement clears the failures of a peer that has a node-table entry alone; a record that
stands without one keeps its count. -/
theorem not_acknowledgementsReceived : ¬ Obligations.AcknowledgementsReceived := by
  intro h
  obtain ⟨hack, -⟩ := h
  obtain ⟨t, ht, -, -, -, hfails, -⟩ := hack unknownPeer unknownAck (unknownPeer.blk.dropDelivered unknownAck) unknownWaiting 7
    (by decide +kernel) (by decide +kernel) (by decide +kernel) (by decide +kernel) (by decide +kernel)
  obtain rfl : unknownPeer.runOn (fun b => b.ackRx) = t := Host.Outcome.next.inj ht
  rw [State.runOn_of_running _ _ (by decide +kernel), State.run_blk, Block.link, Block.updateAlert_phy] at hfails
  exact absurd (hfails.symm.trans unknownPeer_ackRx) (by decide)

end Sys2Proof.Machine
end

section
/-! Operations that commands of the MAC share (R286, R302, R437, R440): a mode that is asked for, a frame that enters the transmit order,
a mesh command. -/

namespace Sys2Proof.Machine

section
variable (b : Block)

/-- A unit runs in every mode but M0, M1 and M9 (R437). -/
theorem Block.running_in {b : Block} {m : Nat} (hm : b.mode = m) (h : 2 ≤ m ∧ m ≠ 9) : b.running = true := by
  simp [Block.running, hm, h]

theorem Block.keeps_askMode (m : Nat) : b.Keeps (b.askMode m) [R.PWR_MODE_PENDING] [.power] := by
  refine Block.keeps_ite (Block.Keeps.refl _ _ _) ?_
  split
  · exact b.keeps_setPower _ _ _ (by simp)
  · exact (b.keeps_setPower _ _ _ (by simp)).andSet _ _ (by simp)

/-- With no change of mode in progress, the one asked for begins (R440). -/
theorem Block.askMode_begins (m : Nat) (hm : b.mode ≠ m) (ht : b.power.trans = none) :
    b.askMode m = b.setPower { b.power with trans := some m } := by
  rw [Block.askMode, if_neg (by simp [hm, ht]), ht]
  rfl

/-! The transmit order (R263). -/

/-- A frame joins the end of the transmit order. -/
def Block.enqueue (f : TxFrame) : Block := b.setMac { b.mac with order := b.mac.order ++ [f] }

theorem Block.keeps_enqueue (f : TxFrame) : b.Keeps (b.enqueue f) [] [.mac] := b.keeps_setMac _ _ _ (by simp)

theorem Block.enqueue_order (f : TxFrame) : (b.enqueue f).mac.order = b.mac.order ++ [f] := rfl

theorem Block.submit_eq (f : TxFrame) (h : f.kind ≠ .blockAck) : b.submit f = b.enqueue f := by
  rw [Block.submit, if_neg h]
  rfl

theorem Block.queueAck_eq (d : Delivered) (ctr : Nat) : ∃ a, b.queueAck d ctr = b.enqueue a ∧ a.kind = .ack ∧ a.band = d.band ∧
    a.hdr.dst = d.hdr.src ∧ a.hdr.ctr = ctr ∧ a.after = d.tick :=
  ⟨_, b.submit_eq _ (fun h => nomatch h), rfl, rfl, rfl, rfl, rfl⟩

/-- A frame of the mesh joins the order (R303). -/
theorem Block.sendMesh_eq (ftype cls dst : Nat) (data : List Byte) : ∃ f, b.sendMesh ftype cls dst data = b.enqueue f ∧
    f.hdr.ftype = ftype ∧ f.payload = data ∧ f.final = if groupAddr dst then 0 else dst :=
  ⟨_, b.submit_eq _ (fun h => nomatch h), rfl, rfl, rfl⟩

/-- The broadcast sequence number that a command to `dst` carries (R304). -/
def Block.commandBseq (dst : Nat) : Nat := if groupAddr dst then (b.mac.bseq + 1) % 65536 else 0

/-- A command to a group takes the number that it carries. -/
def Block.stepBseq (dst : Nat) : Block := if groupAddr dst then b.setMac { b.mac with bseq := b.commandBseq dst } else b

/-- What a mesh command begins with, and its code (R302). -/
def Block.commandHead (code dst : Nat) : List Byte :=
  meshPrefix dst (b.stepBseq dst).short (b.commandBseq dst) ++ [BitVec.ofNat 8 code, 0]

theorem Block.sendCommand_eq (code dst : Nat) (body : List Byte) :
    b.sendCommand code dst body = (b.stepBseq dst).sendMesh 5 1 dst (b.commandHead code dst ++ body) := rfl

theorem Block.stepBseq_order (dst : Nat) : (b.stepBseq dst).mac.order = b.mac.order := by
  unfold Block.stepBseq
  split <;> rfl

/-- A mesh command joins the order; its body follows 8 bytes of addresses and code. -/
theorem Block.sendCommand_order (code dst : Nat) (body : List Byte) : ∃ f, (b.sendCommand code dst body).mac.order = b.mac.order ++ [f] ∧
    f.hdr.ftype = 5 ∧ f.payload.drop 8 = body ∧ f.final = if groupAddr dst then 0 else dst := by
  obtain ⟨f, hf, htype, hdata, hfinal⟩ := (b.stepBseq dst).sendMesh_eq 5 1 dst (b.commandHead code dst ++ body)
  refine ⟨f, ?_, htype, by rw [hdata]; rfl, hfinal⟩
  rw [b.sendCommand_eq, hf, Block.enqueue_order, b.stepBseq_order]

theorem Block.keeps_sendCommand (code dst : Nat) (body : List Byte) : b.Keeps (b.sendCommand code dst body) [] [.mac] := by
  obtain ⟨f, hf, -⟩ := (b.stepBseq dst).sendMesh_eq 5 1 dst (b.commandHead code dst ++ body)
  rw [b.sendCommand_eq, hf]
  exact (Block.keeps_when (b.keeps_setMac _ _ _ (by simp))).trans (Block.keeps_enqueue _ f)

/-! JOIN frames (R286). -/

/-- A JOIN frame: a joiner sends it from 0x0000. -/
theorem Block.sendJoin_eq (dst : Nat) (payload : List Byte) : ∃ f, b.sendJoin dst payload = b.enqueue f ∧ f.hdr.ftype = 7 ∧
    f.hdr.dst = dst ∧ f.hdr.ackReq = true ∧ f.payload = payload ∧ (b.mode = 5 → f.hdr.src = 0) := by
  refine ⟨_, b.submit_eq _ (fun h => nomatch h), ?_, ?_, ?_, rfl, fun hm => ?_⟩
  · dsimp only; split <;> rfl
  · dsimp only; split <;> rfl
  · dsimp only; split <;> rfl
  · dsimp only; rw [if_pos hm]

theorem Block.keeps_sendJoin (dst : Nat) (payload : List Byte) : b.Keeps (b.sendJoin dst payload) [] [.mac] := by
  obtain ⟨f, hf, -⟩ := b.sendJoin_eq dst payload
  exact hf ▸ b.keeps_enqueue f

end

end Sys2Proof.Machine
end

section
/-! Join attempts and the messages that a relay carries (R286, R490). -/

namespace Sys2Proof.Machine

section
variable (b : Block)

/-! JOIN_TX (R286, R490). -/

/-- The attempts made at a candidate. -/
def Block.triesAt (c : Nat) : Nat := match b.mac.candidates.find? (fun x => x.addr == c) with | some x => x.tries | none => 0

/-- A joining node has the candidate `c`, and no GRANT yet (R286). -/
structure Block.JoinsAt (c : Nat) : Prop where
  mode : b.mode = 5
  candidate : b.mac.candidate = some c
  granted : b.mac.granted = false

/-- The node's own handshake as it begins, with N_J and the ephemeral key drawn (R490). -/
def Block.ownJoin (c : Nat) : OwnJoin :=
  let r := (b.countTry c).random 16
  { cand := c, step := 1, nj := r.1, priv := (r.2.random 32).1, hello := (r.2.random 32).2.helloMsg r.1 (r.2.random 32).1 }

/-- The block as the handshake begins, before its HELLO is sent. -/
def Block.startJoin (c : Nat) : Block :=
  let d := (((b.countTry c).random 16).2.random 32).2
  d.setSec { d.sec with own := some (b.ownJoin c) }

theorem Block.keeps_startJoin (c : Nat) : b.Keeps (b.startJoin c) [] [.mac, .sec, .freeCtr] :=
  (((b.keeps_setMac _ _ _ (by simp)).trans (Block.keeps_freeCtr _ _ _ _ (by simp))).trans (Block.keeps_freeCtr _ _ _ _ (by simp))).trans
    (Block.keeps_setSec _ _ _ _ (by simp))

theorem Block.joinTx_hello {b : Block} {c : Nat} (h : b.JoinsAt c) (htries : b.triesAt c < leAt b.macRole 0x0F 1) (hown : b.sec.own = none) :
    b.joinTx = (b.startJoin c).sendJoin c (b.ownJoin c).hello := by
  have hown' : (b.countTry c).sec.own = none := hown
  rw [Block.joinTx, h.candidate]
  dsimp only
  rw [if_neg (by simp [h.mode, h.granted])]
  refine (if_neg (not_le.2 htries)).trans ?_
  rw [hown']
  rfl

theorem Block.joinTx_passes {b : Block} {c : Nat} (h : b.JoinsAt c) (htries : leAt b.macRole 0x0F 1 ≤ b.triesAt c) :
    b.joinTx = b.passOver c := by
  rw [Block.joinTx, h.candidate]
  dsimp only
  rw [if_neg (by simp [h.mode, h.granted])]
  exact if_pos htries

/-- A candidate that is passed over until the tick `again`, where it has the address `addr` (R286). -/
def Candidate.passedAt (x : Candidate) (addr again : Nat) : Candidate := if x.addr = addr then { x with passed := true, again := again } else x

/-- The tick from which a candidate that is passed over now may be tried again. -/
def Block.passedUntil : Nat :=
  b.tick + match b.grid.cur, b.grid.next with
    | some g, _ => 64 * b.get R.MAC_GRID_BP_CYCLES * g.t / tickLen
    | none, some g => 64 * max 1 b.grid.nextBp * g.t / tickLen
    | none, none => 0

/-- The block after a candidate is passed over, before M4 is asked for. -/
def Block.passed (addr : Nat) : Block :=
  (b.setSec { b.sec with own := none }).setMac { b.mac with
    candidates := b.mac.candidates.map fun x => x.passedAt addr b.passedUntil, candidate := none, beaconFrom := none }

theorem Block.passOver_eq (addr : Nat) : b.passOver addr =
    if (b.mac.candidates.map fun x => x.passedAt addr b.passedUntil).all (fun x => x.passed) then (b.passed addr).askMode 4
    else b.passed addr := rfl

theorem Block.keeps_passed (addr : Nat) : b.Keeps (b.passed addr) [] [.mac, .sec] :=
  (b.keeps_setSec _ _ _ (by simp)).trans (Block.keeps_setMac _ _ _ _ (by simp))

theorem Block.keeps_passOver_passed (addr : Nat) : (b.passed addr).Keeps (b.passOver addr) [R.PWR_MODE_PENDING] [.power] := by
  rw [b.passOver_eq addr]
  exact Block.keeps_when (Block.keeps_askMode _ 4)

/-- The candidate that is passed over is marked so. -/
theorem find?_passedAt (l : List Candidate) (addr again : Nat) (h : (l.find? fun x => x.addr == addr).isSome = true) :
    ((l.map fun x => x.passedAt addr again).find? fun x => x.addr == addr).any (fun x => x.passed) = true := by
  induction l with
  | nil => exact absurd h (by simp)
  | cons x xs ih =>
    by_cases hx : x.addr = addr
    · simp [Candidate.passedAt, hx]
    · simpa [Candidate.passedAt, hx] using ih (by simpa [hx] using h)

/-! JOIN_RELAY (R490). -/

theorem Block.takeCommand_eq {b : Block} {code : Nat} {m : CmdMsg} (h : b.mac.commands.find? (fun m => m.code == code) = some m) :
    b.takeCommand code = some (m, b.setMac { b.mac with commands := b.mac.commands.erase m }) := by
  rw [Block.takeCommand, h]

theorem Block.takeCommand_none {b : Block} {code : Nat} (h : b.mac.commands.find? (fun m => m.code == code) = none) :
    b.takeCommand code = none := by
  rw [Block.takeCommand, h]

/-- A JOIN frame that is taken leaves its delivery, and its ACK joins the order (R268). -/
theorem Block.keeps_takeJoin {ok : Nat → Bool} {l : List Byte} {src : Nat} {c : Block} (e : b.takeJoin ok = some (l, src, c)) :
    b.Keeps c [] [.phy, .mac] := by
  unfold Block.takeJoin at e
  dsimp only at e
  split at e
  · next d c' htake =>
    have hdrop := b.takeDelivered_inv htake
    obtain ⟨a, ha, -⟩ := c'.queueAck_eq d d.hdr.ctr
    cases e
    refine (hdrop ▸ b.keeps_dropDelivered d _ _ (by simp)).trans (Block.keeps_when ?_)
    rw [ha]
    exact c'.keeps_setMac _ _ _ (by simp)
  · cases e

/-- A relay without the coordinator's role (R287). -/
theorem Block.not_coordinator {b : Block} (h : b.role = 1) : b.coordinator = false := by
  simp [Block.coordinator, h]

/-- The command that carries a joiner's message is taken in. -/
def Block.dropRelay (m : CmdMsg) : Block := b.setMac { b.mac with commands := b.mac.commands.erase m }

theorem Block.joinRelay_takes {b : Block} {m : CmdMsg} (hc : b.coordinator = true)
    (hm : b.mac.commands.find? (fun m => m.code == 0x23) = some m) (hlen : 12 ≤ m.body.length) :
    b.joinRelay = (b.dropRelay m).setSec { b.sec with joinMsgs := b.sec.joinMsgs ++ [(leAt m.body 0 8, m.origin, m.body.drop 8)] } := by
  rw [Block.joinRelay, Block.takeCommand_eq hm]
  dsimp only
  rw [if_neg (not_lt.2 hlen)]
  exact if_pos hc

theorem Block.joinRelay_down {b : Block} {m : CmdMsg} (hr : b.role = 1)
    (hm : b.mac.commands.find? (fun m => m.code == 0x23) = some m) (hlen : 12 ≤ m.body.length) :
    b.joinRelay = (b.dropRelay m).sendJoin 0 (m.body.drop 8) := by
  rw [Block.joinRelay, Block.takeCommand_eq hm]
  dsimp only
  rw [if_neg (not_lt.2 hlen)]
  exact (if_neg (Bool.eq_false_iff.1 (Block.not_coordinator hr))).trans (if_pos hr)

theorem Block.joinRelay_up {b c : Block} {l : List Byte} {src : Nat} (hr : b.role = 1) (hmode : b.mode ≠ 5)
    (hm : b.mac.commands.find? (fun m => m.code == 0x23) = none) (hj : b.takeJoin (fun t => t == 1 || t == 3) = some (l, src, c)) :
    b.joinRelay = c.sendCommand 0x23 1 (leBytes (joinEui l) 8 ++ l) := by
  rw [Block.joinRelay, Block.takeCommand_none hm]
  dsimp only
  rw [if_pos ⟨hr, hmode⟩, hj]

/-! The coordinator's state of a joiner (R490). -/

theorem Block.joiner_dropJoiner_self (eui : Nat) : (b.dropJoiner eui).joiner eui = none := by
  simp [Block.joiner, Block.dropJoiner]

theorem Block.joiner_dropJoiner_ne (eui e : Nat) (h : e ≠ eui) : (b.dropJoiner eui).joiner e = b.joiner e := by
  rw [Block.joiner, Block.dropJoiner, Block.setSec_sec, List.find?_filter, Block.joiner]
  congr 1
  funext j
  by_cases hj : j.eui = e <;> simp [hj, h]

theorem Block.joiner_keepJoiner_self (j : Joiner) : (b.keepJoiner j).joiner j.eui = some j := by
  have hdrop : (b.dropJoiner j.eui).sec.joiners.find? (fun x => x.eui == j.eui) = none := b.joiner_dropJoiner_self j.eui
  rw [Block.joiner, Block.keepJoiner, Block.setSec_sec, List.find?_append, hdrop]
  simp

theorem Block.keeps_keepJoiner (j : Joiner) : b.Keeps (b.keepJoiner j) [] [.sec] :=
  (b.keeps_setSec _ _ _ (by simp)).trans (Block.keeps_setSec _ _ _ _ (by simp))

theorem Block.keeps_replyJoin (eui via : Nat) (payload : List Byte) : b.Keeps (b.replyJoin eui via payload) [] [.mac] :=
  Block.keeps_ite (b.keeps_sendJoin _ _) (b.keeps_sendCommand _ _ _)

theorem Block.keeps_refuseJoin (eui via cause : Nat) : b.Keeps (b.refuseJoin eui via cause) [R.SEC_JOIN_REFUSED_COUNT] [.mac] :=
  ((b.keeps_replyJoin _ _ _).widen _ _ (by simp) (List.Subset.refl _)).trans (Block.keeps_bump _ _ _ _ (by simp))

theorem Block.refuseJoin_count (eui via cause : Nat) : (b.refuseJoin eui via cause).get R.SEC_JOIN_REFUSED_COUNT =
    (b.get R.SEC_JOIN_REFUSED_COUNT + 1) % 2 ^ R.SEC_JOIN_REFUSED_COUNT.width := by
  rw [Block.refuseJoin, Block.bump_get, (b.keeps_replyJoin _ _ _).1 _ (by simp) (by decide)]

/-! HELLO (R490). -/

/-- The block without a relayed message that the coordinator has taken. -/
def Block.dropJoinMsg (m : Nat × Nat × List Byte) : Block := b.setSec { b.sec with joinMsgs := b.sec.joinMsgs.erase m }

/-- A HELLO of a node that is no joiner yet has come through a relay (R490). -/
structure Block.HelloHeard (eui via : Nat) (l : List Byte) : Prop where
  coordinator : b.coordinator = true
  message : b.sec.joinMsgs.find? (fun m => leAt m.2.2 0 1 == 1) = some (eui, via, l)
  length : l.length = 68
  fresh : b.joiner eui = none

/-- The block with N_C and the ephemeral key of an answer drawn (R490). -/
def Block.drawn : Block := ((b.random 16).2.random 32).2

/-- What the coordinator keeps of a joiner from its HELLO on (R490). -/
def Block.newJoiner (eui via : Nat) (l : List Byte) : Joiner :=
  let nc := (b.random 16).1
  let priv := ((b.random 16).2.random 32).1
  { eui := eui, via := via, nj := slice l 12 16, hello := l, challenge := b.drawn.challenge eui l nc priv, priv := priv,
    since := b.drawn.tick }

theorem Block.takeJoinMsg_relayed {b : Block} {subtype : Nat} {m : Nat × Nat × List Byte}
    (h : b.sec.joinMsgs.find? (fun m => leAt m.2.2 0 1 == subtype) = some m) :
    b.takeJoinMsg subtype = some (m.1, m.2.1, m.2.2, b.dropJoinMsg m) := by
  rw [Block.takeJoinMsg, h]
  rfl

theorem Block.HelloHeard.fresh_dropped {b : Block} {eui via : Nat} {l : List Byte} (h : b.HelloHeard eui via l) :
    (b.dropJoinMsg (eui, via, l)).joiner eui = none := h.fresh

theorem Block.hello_answers {b : Block} {eui via : Nat} {l : List Byte} (h : b.HelloHeard eui via l) (hroom : b.sec.joiners.length < 64) :
    b.hello = ((b.dropJoinMsg (eui, via, l)).drawn.keepJoiner ((b.dropJoinMsg (eui, via, l)).newJoiner eui via l)).replyJoin eui via
      ((b.dropJoinMsg (eui, via, l)).newJoiner eui via l).challenge := by
  rw [Block.hello, if_neg (by simp [h.coordinator]), Block.takeJoinMsg_relayed h.message]
  dsimp only
  rw [if_neg (by simp [h.length]), h.fresh_dropped]
  exact if_neg (not_le.2 hroom)

theorem Block.hello_refuses {b : Block} {eui via : Nat} {l : List Byte} (h : b.HelloHeard eui via l) (hfull : 64 ≤ b.sec.joiners.length) :
    b.hello = (b.dropJoinMsg (eui, via, l)).refuseJoin eui via 5 := by
  rw [Block.hello, if_neg (by simp [h.coordinator]), Block.takeJoinMsg_relayed h.message]
  dsimp only
  rw [if_neg (by simp [h.length]), h.fresh_dropped]
  exact if_pos hfull

end

end Sys2Proof.Machine
end

section
/-! JOIN_TX, JOIN_RELAY, HELLO and JOINER_STATE_EXPIRY as commands (R286, R490), and the settlement of `Obligations.JoinMessages`. -/

namespace Sys2Proof.Machine

section
variable (s : State)

theorem joinTx_sends {c : Nat} (h : s.blk.JoinsAt c) (htries : s.blk.triesAt c < leAt s.blk.macRole 0x0F 1) (hown : s.blk.sec.own = none) :
    ∃ t f o, exec .joinTx s = .next t ∧ t.blk.mac.order = s.blk.mac.order ++ [f] ∧ f.hdr.ftype = 7 ∧ f.hdr.dst = c ∧ f.hdr.src = 0 ∧
      f.hdr.ackReq = true ∧ f.payload = o.hello ∧ t.blk.sec.own = some o ∧ o.step = 1 ∧ o.cand = c ∧
      s.Keeps t [] [.mac, .sec, .freeCtr] := by
  obtain ⟨f, hf, htype, hdst, hack, hpay, hsrc⟩ := (s.blk.startJoin c).sendJoin_eq c (s.blk.ownJoin c).hello
  refine ⟨_, f, s.blk.ownJoin c, exec_of_runOn _ rfl _ (Block.running_in h.mode (by decide)) ((Block.joinTx_hello h htries hown).trans hf),
    congrArg MacUnit.order (Block.updateAlert_mac _), htype, hdst, hsrc h.mode, hack, hpay, congrArg SecUnit.own (Block.updateAlert_sec _),
    rfl, rfl, State.keeps_run s _ _ _ ?_⟩
  exact (s.blk.keeps_startJoin c).trans ((Block.keeps_enqueue _ f).widen _ _ (by simp) (by simp))

theorem joinTx_passesOver {c : Nat} (h : s.blk.JoinsAt c) (hknown : (s.blk.mac.candidates.find? fun x => x.addr == c).isSome = true)
    (htries : leAt s.blk.macRole 0x0F 1 ≤ s.blk.triesAt c) :
    ∃ t, exec .joinTx s = .next t ∧ t.blk.mac.candidate = none ∧ t.blk.sec.own = none ∧
      (t.blk.mac.candidates.find? (fun x => x.addr == c)).any (fun x => x.passed) = true ∧
      s.Keeps t [R.PWR_MODE_PENDING] [.mac, .sec, .power] := by
  have hpass := s.blk.keeps_passOver_passed c
  have hmac : (s.blk.passOver c).updateAlert.mac = (s.blk.passed c).mac := (Block.updateAlert_mac _).trans (hpass.2 .mac (by decide))
  have hsec : (s.blk.passOver c).updateAlert.sec = (s.blk.passed c).sec := (Block.updateAlert_sec _).trans (hpass.2 .sec (by decide))
  refine ⟨_, exec_of_runOn _ rfl _ (Block.running_in h.mode (by decide)) (Block.joinTx_passes h htries), congrArg MacUnit.candidate hmac,
    congrArg SecUnit.own hsec, ?_, State.keeps_run s _ _ _ ?_⟩
  · rw [State.run_blk, hmac]
    exact find?_passedAt _ c _ hknown
  · exact ((s.blk.keeps_passed c).widen _ _ (by simp) (by simp)).trans (hpass.widen _ _ (List.Subset.refl _) (by simp))

theorem joinRelay_takesIn {m : CmdMsg} (hrun : s.blk.running = true) (hc : s.blk.coordinator = true)
    (hm : s.blk.mac.commands.find? (fun m => m.code == 0x23) = some m) (hlen : 12 ≤ m.body.length) :
    ∃ t, exec .joinRelay s = .next t ∧ t.blk.sec.joinMsgs = s.blk.sec.joinMsgs ++ [(leAt m.body 0 8, m.origin, m.body.drop 8)] ∧
      s.Keeps t [] [.mac, .sec] :=
  ⟨_, exec_of_runOn _ rfl _ hrun (Block.joinRelay_takes hc hm hlen), congrArg SecUnit.joinMsgs (Block.updateAlert_sec _),
    State.keeps_run s _ _ _ ((s.blk.keeps_setMac _ _ _ (by simp)).trans (Block.keeps_setSec _ _ _ _ (by simp)))⟩

theorem joinRelay_carriesDown {m : CmdMsg} (hrun : s.blk.running = true) (hr : s.blk.role = 1)
    (hm : s.blk.mac.commands.find? (fun m => m.code == 0x23) = some m) (hlen : 12 ≤ m.body.length) :
    ∃ t f, exec .joinRelay s = .next t ∧ t.blk.mac.order = s.blk.mac.order ++ [f] ∧ f.hdr.ftype = 7 ∧ f.hdr.dst = 0 ∧
      f.payload = m.body.drop 8 ∧ s.Keeps t [] [.mac] := by
  obtain ⟨f, hf, htype, hdst, -, hpay, -⟩ := (s.blk.dropRelay m).sendJoin_eq 0 (m.body.drop 8)
  exact ⟨_, f, exec_of_runOn _ rfl _ hrun ((Block.joinRelay_down hr hm hlen).trans hf), congrArg MacUnit.order (Block.updateAlert_mac _),
    htype, hdst, hpay, State.keeps_run s _ _ _ ((s.blk.keeps_setMac _ _ _ (by simp)).trans (Block.keeps_enqueue _ f))⟩

theorem joinRelay_carriesUp {l : List Byte} {src : Nat} {b : Block} (hrun : s.blk.running = true) (hr : s.blk.role = 1)
    (hmode : s.blk.mode ≠ 5) (hm : s.blk.mac.commands.find? (fun m => m.code == 0x23) = none)
    (hj : s.blk.takeJoin (fun t => t == 1 || t == 3) = some (l, src, b)) :
    ∃ t f, exec .joinRelay s = .next t ∧ t.blk.mac.order = b.mac.order ++ [f] ∧ f.hdr.ftype = 5 ∧ f.final = 1 ∧
      f.payload.drop 8 = leBytes (joinEui l) 8 ++ l ∧ s.Keeps t [] [.phy, .mac] := by
  obtain ⟨f, horder, htype, hbody, hfinal⟩ := b.sendCommand_order 0x23 1 (leBytes (joinEui l) 8 ++ l)
  exact ⟨_, f, exec_of_runOn _ rfl _ hrun (Block.joinRelay_up hr hmode hm hj),
    (congrArg MacUnit.order (Block.updateAlert_mac _)).trans horder, htype, hfinal, hbody,
    State.keeps_run s _ _ _ ((s.blk.keeps_takeJoin hj).trans ((b.keeps_sendCommand _ _ _).widen _ _ (by simp) (by simp)))⟩

theorem hello_keepsJoiner {eui via : Nat} {l : List Byte} (hrun : s.blk.running = true) (h : s.blk.HelloHeard eui via l)
    (hroom : s.blk.sec.joiners.length < 64) :
    ∃ t j, exec .hello s = .next t ∧ t.blk.joiner eui = some j ∧ j.eui = eui ∧ j.hello = l ∧ j.nj = slice l 12 16 ∧
      j.grant = [] ∧ s.Keeps t [] [.mac, .sec, .freeCtr] := by
  have hdraw : s.blk.Keeps (s.blk.dropJoinMsg (eui, via, l)).drawn [] [.mac, .sec, .freeCtr] :=
    ((s.blk.keeps_setSec _ _ _ (by simp)).trans (Block.keeps_freeCtr _ _ _ _ (by simp))).trans (Block.keeps_freeCtr _ _ _ _ (by simp))
  have hreply := ((s.blk.dropJoinMsg (eui, via, l)).drawn.keepJoiner ((s.blk.dropJoinMsg (eui, via, l)).newJoiner eui via l)).keeps_replyJoin
    eui via ((s.blk.dropJoinMsg (eui, via, l)).newJoiner eui via l).challenge
  refine ⟨_, (s.blk.dropJoinMsg (eui, via, l)).newJoiner eui via l, exec_of_runOn _ rfl _ hrun (Block.hello_answers h hroom), ?_, rfl, rfl,
    rfl, rfl, State.keeps_run s _ _ _ ?_⟩
  · rw [Block.joiner, State.run_blk, Block.updateAlert_sec, hreply.2 .sec (by decide)]
    exact Block.joiner_keepJoiner_self _ ((s.blk.dropJoinMsg (eui, via, l)).newJoiner eui via l)
  · exact (hdraw.trans ((Block.keeps_keepJoiner _ _).widen _ _ (by simp) (by simp))).trans (hreply.widen _ _ (by simp) (by simp))

theorem hello_refusesFull {eui via : Nat} {l : List Byte} (hrun : s.blk.running = true) (h : s.blk.HelloHeard eui via l)
    (hfull : 64 ≤ s.blk.sec.joiners.length) :
    ∃ t, exec .hello s = .next t ∧ t.blk.sec.joiners = s.blk.sec.joiners ∧
      t.blk.get R.SEC_JOIN_REFUSED_COUNT = (s.blk.get R.SEC_JOIN_REFUSED_COUNT + 1) % 2 ^ R.SEC_JOIN_REFUSED_COUNT.width ∧
      s.Keeps t [R.SEC_JOIN_REFUSED_COUNT] [.mac, .sec, .freeCtr] := by
  have hrefuse := (s.blk.dropJoinMsg (eui, via, l)).keeps_refuseJoin eui via 5
  refine ⟨_, exec_of_runOn _ rfl _ hrun (Block.hello_refuses h hfull), ?_,
    (State.run_get s _ _ (by decide)).trans (Block.refuseJoin_count _ eui via 5), State.keeps_run s _ _ _ ?_⟩
  · rw [State.run_blk, Block.updateAlert_sec, hrefuse.2 .sec (by decide)]
    rfl
  · exact (s.blk.keeps_setSec _ _ _ (by simp)).trans (hrefuse.widen _ _ (List.Subset.refl _) (by simp))

theorem joinerStateExpiry_drops {eui : Nat} {j : Joiner} (hrun : s.blk.running = true) (hj : s.blk.joiner eui = some j)
    (hold : j.since + 750000 ≤ s.blk.tick) :
    ∃ t, exec (.joinerStateExpiry eui) s = .next t ∧ t.blk.joiner eui = none ∧ (∀ e, e ≠ eui → t.blk.joiner e = s.blk.joiner e) ∧
      s.Keeps t [] [.sec] := by
  have hsame (e : Nat) : (s.blk.dropJoiner eui).updateAlert.joiner e = (s.blk.dropJoiner eui).joiner e := by
    rw [Block.joiner, Block.updateAlert_sec, Block.joiner]
  refine ⟨_, exec_of_runOn _ rfl (s.blk.dropJoiner eui) hrun ?_, (hsame eui).trans (s.blk.joiner_dropJoiner_self eui),
    fun e he => (hsame e).trans (s.blk.joiner_dropJoiner_ne eui e he), State.keeps_run s _ _ _ (s.blk.keeps_setSec _ _ _ (by simp))⟩
  exact if_pos (by rw [hj, Option.any_some]; exact decide_eq_true hold)

theorem joinerStateExpiry_waits {eui : Nat} {j : Joiner} (hj : s.blk.joiner eui = some j) (hyoung : s.blk.tick < j.since + 750000) :
    ∃ t, exec (.joinerStateExpiry eui) s = .next t ∧ s.Keeps t [] [] := by
  refine s.runOn_unchanged _ ?_
  exact if_neg (by rw [hj, Option.any_some, Bool.not_eq_true]; exact decide_eq_false (not_le.2 hyoung))

end

/-- Settles O35: the joining node's attempts, the messages that a relay or the coordinator takes, and the joiners' states. -/
theorem joinMessages : Obligations.JoinMessages := by
  have htries {b : Block} {c : Nat} {x : Candidate} (hx : b.mac.candidates.find? (fun x => x.addr == c) = some x) : b.triesAt c = x.tries := by
    rw [Block.triesAt, hx]
  refine ⟨?_, ?_, ?_, ?_, ?_, ?_, ?_, ?_, ?_⟩
  · intro s c x hmode hcand hgrant hx hlt hown
    exact joinTx_sends s ⟨hmode, hcand, hgrant⟩ (htries hx ▸ hlt) hown
  · intro s c x hmode hcand hgrant hx hle
    exact joinTx_passesOver s ⟨hmode, hcand, hgrant⟩ (by rw [hx]; rfl) (htries hx ▸ hle)
  · intro s m hrun hc hm hlen
    exact joinRelay_takesIn s hrun hc hm hlen
  · intro s m hrun hr hm hlen
    exact joinRelay_carriesDown s hrun hr hm hlen
  · intro s l src b hrun hr hmode hm hj
    exact joinRelay_carriesUp s hrun hr hmode hm hj
  · intro s eui via l hrun hc hm hlen hnone hroom
    exact hello_keepsJoiner s hrun ⟨hc, hm, hlen, hnone⟩ hroom
  · intro s eui via l hrun hc hm hlen hnone hfull
    exact hello_refusesFull s hrun ⟨hc, hm, hlen, hnone⟩ hfull
  · intro s eui j hrun hj hold
    exact joinerStateExpiry_drops s hrun hj hold
  · intro s eui j hj hyoung
    exact joinerStateExpiry_waits s hj hyoung

end Sys2Proof.Machine
end

section
/-! Wake windows of a dozing leaf (R276, R438, R447): the guard, the requests as a window opens, and what its end leaves. -/

namespace Sys2Proof.Machine

section
variable (b : Block)

theorem Block.keeps_showGuard : b.Keeps b.showGuard [R.MAC_GUARD] [.freeCtr] :=
  (b.keeps_openRound _ _ _ (by simp)).andSet _ _ (by simp)

/-- A POLL from the parent keeps a dozing leaf awake for WAKE_HOLD ticks (R276). -/
theorem Block.pollRx_parent {b : Block} {d : Delivered} (hm : b.mode = 8)
    (hd : b.phy.delivered.find? (fun d => d.hdr.ftype == 6) = some d) (hp : d.hdr.src = b.get R.TIM_PARENT_PARENT) :
    b.pollRx = (b.dropDelivered d).setMac { b.mac with holdUntil := some (b.tick + b.get R.MAC_BA_WAKE_HOLD) } := by
  rw [Block.pollRx, Block.takeDelivered_eq b _ d hd]
  exact (if_pos hp).trans (if_pos hm)

/-! Requests for loads that wait (R447, R448). -/

/-- A request for the load waits. -/
def Block.Waits (l : Load) : Prop := b.power.reqs.any (fun r => r.load = l) = true

/-- Whatever waits in the one block waits in the other. -/
def Block.StillWaits (b c : Block) : Prop := ∀ l, b.Waits l → c.Waits l

theorem Block.StillWaits.refl : b.StillWaits b := fun _ h => h

theorem Block.StillWaits.trans {b c d : Block} (h : b.StillWaits c) (k : c.StillWaits d) : b.StillWaits d := fun l w => k l (h l w)

theorem Block.stillWaits_of_reqs {b c : Block} (h : c.power.reqs = b.power.reqs) : b.StillWaits c := fun l w => by
  rw [Block.Waits, h]
  exact w

theorem Block.stillWaits_ite {b c d : Block} {k : Prop} [Decidable k] (hc : b.StillWaits c) (hd : b.StillWaits d) :
    b.StillWaits (if k then c else d) := by
  split
  · exact hc
  · exact hd

theorem Block.waits_request (l : Load) (h : b.loaded l = false) : (b.request l none).Waits l := by
  simpa [Block.Waits] using b.request_waits l h

theorem Block.request_stillWaits (l : Load) : b.StillWaits (b.request l none) := by
  rw [Block.request_eq]
  refine Block.stillWaits_ite (Block.StillWaits.refl b) fun x h => ?_
  have hq : (b.queueLoad l).Waits x := by
    refine Block.stillWaits_ite (Block.StillWaits.refl b) (fun x h => ?_) x h
    rw [Block.Waits, Block.setPower_power, List.any_append, h, Bool.true_or]
  exact hq

theorem Block.forEach_stillWaits {α : Type} (xs : List α) (f : Block → α → Block) (h : ∀ c x, Block.StillWaits c (f c x)) :
    b.StillWaits (b.forEach xs f) := by
  induction xs generalizing b with
  | nil => exact Block.StillWaits.refl b
  | cons x xs ih => exact (h b x).trans (ih (f b x))

theorem Block.requestBand_stillWaits (band : Nat) : b.StillWaits (b.requestBand band) :=
  Block.stillWaits_ite (b.forEach_stillWaits _ _ fun c p => c.request_stillWaits (.drvH p))
    (Block.stillWaits_ite (Block.StillWaits.refl b) (b.request_stillWaits .drvL))

theorem Block.requestDrivers_stillWaits : b.StillWaits b.requestDrivers := by
  have hband (c : Block) (band : Nat) : c.StillWaits (if c.forbidden band then c else c.requestBand band) :=
    Block.stillWaits_ite (Block.StillWaits.refl c) (c.requestBand_stillWaits band)
  exact (hband b 0).trans (hband _ 1)

/-- Whether a slice is loaded shows in PWR_GATES, which no request changes. -/
theorem Block.request_loaded_slice (l : Load) (n : Nat) : (b.request l none).loaded (.slice n) = b.loaded (.slice n) := by
  have hon : (b.request l none).get R.PWR_GATES_SLICE_ON = b.get R.PWR_GATES_SLICE_ON := (b.keeps_request l).1 _ (by decide) (by decide)
  have hret : (b.request l none).get R.PWR_GATES_SLICE_RET = b.get R.PWR_GATES_SLICE_RET := (b.keeps_request l).1 _ (by decide) (by decide)
  simp only [Block.loaded, Block.bit, hon, hret]

/-- Every slice of a list that is off is requested. -/
theorem Block.waits_requestSlices (xs : List Nat) (n : Nat) (hn : n ∈ xs) (h : b.loaded (.slice n) = false) :
    (b.forEach xs fun b s => b.request (.slice s) none).Waits (.slice n) := by
  induction xs generalizing b with
  | nil => exact absurd hn (by simp)
  | cons x xs ih =>
    by_cases hx : n = x
    · subst hx
      exact Block.forEach_stillWaits (b.request (.slice n) none) xs _ (fun c s => c.request_stillWaits (.slice s)) _ (b.waits_request _ h)
    · exact ih (b.request (.slice x) none) (List.mem_of_ne_of_mem hx hn) ((b.request_loaded_slice _ n).trans h)

/-! WAKE_WINDOW_OPEN (R276, R438, R447). -/

theorem Block.keeps_requestWake : b.Keeps b.requestWake rationFields [.power] :=
  ((b.keeps_request .ddr).trans (Block.keeps_forEach _ _ _ _ _ fun c s _ => c.keeps_request (.slice s))).trans (Block.keeps_requestDrivers _)

theorem Block.requestWake_waits_slice (n : Nat) (hn : n ∈ b.otherSlices) (h : b.loaded (.slice n) = false) : b.requestWake.Waits (.slice n) :=
  Block.requestDrivers_stillWaits _ _
    ((b.request .ddr none).waits_requestSlices b.otherSlices n hn ((b.request_loaded_slice .ddr n).trans h))

theorem Block.requestWake_waits_ddr (h : b.loaded .ddr = false) : b.requestWake.Waits .ddr :=
  Block.requestDrivers_stillWaits _ _
    ((b.request .ddr none).forEach_stillWaits _ _ (fun c s => c.request_stillWaits (.slice s)) _ (b.waits_request .ddr h))

theorem Block.askMode_reqs (m : Nat) : (b.askMode m).power.reqs = b.power.reqs := by
  unfold Block.askMode
  split
  · rfl
  · split <;> rfl

theorem Block.keeps_enterSearch : b.Keeps b.enterSearch [R.MAC_STAT_STATE, R.PWR_MODE_PENDING] [.mac, .power] :=
  ((b.keeps_set _ _ _ _ (by simp)).trans (Block.keeps_setMac _ _ _ _ (by simp))).trans
    (Block.keeps_when ((Block.keeps_askMode _ 6).widen _ _ (by simp) (by simp)))

theorem Block.enterSearch_stillWaits : b.StillWaits b.enterSearch :=
  Block.stillWaits_ite (Block.stillWaits_of_reqs (Block.askMode_reqs _ 6)) (Block.stillWaits_of_reqs rfl)

theorem Block.enterSearch_mac : b.enterSearch.mac = { b.mac with search := 0 } := by
  have hask (c : Block) : (c.askMode 6).mac = c.mac := (c.keeps_askMode 6).2 .mac (by decide)
  unfold Block.enterSearch
  dsimp only
  split
  · rw [hask]
    rfl
  · rfl

theorem Block.enterSearch_state : b.enterSearch.get R.MAC_STAT_STATE = 4 := by
  have hask (c : Block) : (c.askMode 6).get R.MAC_STAT_STATE = c.get R.MAC_STAT_STATE := (c.keeps_askMode 6).1 _ (by decide) (by decide)
  unfold Block.enterSearch
  dsimp only
  split
  · rw [hask, Block.setMac_get, Block.get_set_self]
    rfl
  · rw [Block.setMac_get, Block.get_set_self]
    rfl

/-- The window of a dozing leaf is open (R276). -/
def Block.windowOpen : Block := (b.setMac { b.mac with wakeOpen := true }).set R.MAC_STAT_DOZING 0

theorem Block.windowOpen_get (f : Field) (hf : f.key ≠ R.MAC_STAT_DOZING.key) : b.windowOpen.get f = b.get f := Block.get_set_ne _ _ _ _ hf

theorem Block.windowOpen_otherSlices : b.windowOpen.otherSlices = b.otherSlices := by
  have hmode : b.windowOpen.mode = b.mode := b.windowOpen_get _ (by decide)
  have himage : b.windowOpen.image = b.image := rfl
  simp only [Block.otherSlices, Block.supvSlice, hmode, himage]

theorem Block.windowOpen_loaded_slice (n : Nat) : b.windowOpen.loaded (.slice n) = b.loaded (.slice n) := by
  simp only [Block.loaded, Block.bit, b.windowOpen_get R.PWR_GATES_SLICE_ON (by decide), b.windowOpen_get R.PWR_GATES_SLICE_RET (by decide)]

/-- The window is open, and what it needs is requested. -/
def Block.wakeRequested : Block := b.windowOpen.requestWake.showGuard

theorem Block.wakeOpen_dozing {b : Block} (hm : b.mode = 8) :
    b.wakeOpen = if b.wakeRequested.guardTooLong then b.wakeRequested.enterSearch else b.wakeRequested :=
  if_neg (not_not.2 hm)

theorem Block.keeps_wakeRequested_open :
    b.windowOpen.Keeps b.wakeRequested (R.MAC_GUARD :: rationFields) [.power, .freeCtr] :=
  (b.windowOpen.keeps_requestWake.widen _ _ (by simp) (by simp)).trans ((Block.keeps_showGuard _).widen _ _ (by simp) (by simp))

theorem Block.wakeRequested_stillWaits : b.windowOpen.requestWake.StillWaits b.wakeRequested :=
  Block.stillWaits_of_reqs (congrArg PowerUnit.reqs (b.windowOpen.requestWake.keeps_showGuard.2 .power (by decide)))

/-! The end of a window or a hold (R276, R438, R458). -/

theorem Block.keeps_retain : b.Keeps b.retain [R.PWR_GATES_SLICE_RET] [.slices, .power] :=
  (b.keeps_forEach _ _ _ _ fun c s _ => (c.keeps_set R.PWR_GATES_SLICE_RET _ _ _ (by simp)).trans
    (Block.keeps_modSlice _ s _ _ _ (by simp))).trans (Block.keeps_setPower _ _ _ _ (by simp))

/-- The fields that dozing again may change. -/
def dozeFields : List Field := [R.MAC_STAT_DOZING, R.PWR_GATES_SLICE_RET, R.PWR_GATES_DRV_H, R.PWR_GATES_DRV_L]

/-- The leaf dozes, before its drivers and slices go off. -/
def Block.windowShut : Block := (b.setMac { b.mac with wakeOpen := false, holdUntil := none }).set R.MAC_STAT_DOZING 1

theorem Block.keeps_dozeAgain_shut :
    b.windowShut.Keeps b.dozeAgain [R.PWR_GATES_SLICE_RET, R.PWR_GATES_DRV_H, R.PWR_GATES_DRV_L] [.slices, .power] :=
  ((b.windowShut.keeps_driversOff _).widen _ _ (by simp) (List.Subset.refl _)).trans
    ((Block.keeps_retain _).widen _ _ (by simp) (List.Subset.refl _))

theorem Block.keeps_dozeAgain : b.Keeps b.dozeAgain dozeFields [.mac, .power, .slices] :=
  ((b.keeps_setMac _ _ _ (by simp)).andSet _ _ (by simp [dozeFields])).trans
    (b.keeps_dozeAgain_shut.widen _ _ (by simp [dozeFields]) (by simp))

theorem Block.dozeAgain_mac : b.dozeAgain.mac = { b.mac with wakeOpen := false, holdUntil := none } :=
  b.keeps_dozeAgain_shut.2 .mac (by decide)

theorem Block.dozeAgain_dozing : b.dozeAgain.get R.MAC_STAT_DOZING = 1 :=
  (b.keeps_dozeAgain_shut.1 _ (by decide) (by decide)).trans (Block.get_set_self _ _ _)

/-- The wake hold still runs (R276). -/
def Block.held : Bool := match b.mac.holdUntil with | some t => decide (b.tick < t) | none => false

theorem Block.wakeHoldExpiry_eq : b.wakeHoldExpiry =
    if b.mode = 8 ∧ b.held = false ∧ b.inSlot (b.node b.short 26 2) = false then b.dozeAgain else b := rfl

theorem Block.held_iff : b.held = true ↔ ∃ n, b.mac.holdUntil = some n ∧ b.tick < n := by
  unfold Block.held
  split
  · next t h => simp [h]
  · next h => simp [h]

end

end Sys2Proof.Machine
end

section
/-! Lost beacons and the search (R277), the commands of a dozing leaf (R276), and the settlement of `Obligations.DozeAndBeaconLoss`. -/

namespace Sys2Proof.Machine

section
variable (b : Block)

/-! A missed opportunity (R277). -/

/-- An attended opportunity without resynchronisation: the node follows a grid of another (R277). -/
structure Block.Misses : Prop where
  notHead : b.role ≠ 0
  unsynced : b.mac.resynced = false
  grid : b.hasGrid = true

/-- One more miss is counted. -/
def Block.missed : Block := (b.bump R.MAC_BEACON_MISS_COUNT).usat R.MAC_STAT_MISSES (b.get R.MAC_STAT_MISSES + 1)

/-- The third miss in a row: the beacon is lost, and the search begins. -/
def Block.beaconLost : Block := (b.missed.stick R.MAC_TROUBLE_BEACON_LOST).enterHoldover.enterSearch

theorem Block.beaconMiss_eq {b : Block} (h : b.Misses) : b.beaconMiss =
    (if b.get R.MAC_STAT_MISSES + 1 = 3 then b.beaconLost
    else if b.missed.mode = 8 ∧ b.missed.mac.holdUntil = none then b.missed.dozeAgain
    else b.missed).showGuard :=
  if_neg (by simp [h.notHead, h.unsynced, h.grid])

theorem Block.keeps_missed (ps : List Part) : b.Keeps b.missed [R.MAC_BEACON_MISS_COUNT, R.MAC_STAT_MISSES] ps :=
  ((Block.Keeps.refl b _ _).andSet _ _ (by simp)).andSet _ _ (by simp)

theorem Block.missed_mode : b.missed.mode = b.mode := (b.keeps_missed []).1 _ (by decide) (by decide)

theorem Block.missed_misses (h : b.get R.MAC_STAT_MISSES ≤ 2) : b.missed.get R.MAC_STAT_MISSES = b.get R.MAC_STAT_MISSES + 1 := by
  have hwidth : R.MAC_STAT_MISSES.width = 2 := rfl
  rw [Block.missed, Block.usat_eq, Block.get_set_self, hwidth]
  omega

theorem Block.missed_count :
    b.missed.get R.MAC_BEACON_MISS_COUNT = (b.get R.MAC_BEACON_MISS_COUNT + 1) % 2 ^ R.MAC_BEACON_MISS_COUNT.width :=
  (Block.get_set_ne _ _ _ _ (by decide)).trans (b.bump_get _)

/-! The third miss in a row. -/

/-- The fields that the loss of the beacon may change beside the counts of misses. -/
def beaconLostFields : List Field :=
  [R.MAC_TROUBLE_BEACON_LOST, R.MAC_STAT_STATE, R.PWR_MODE_PENDING] ++ holdoverFields

theorem Block.keeps_holdover_search (c : Block) :
    c.Keeps c.enterHoldover.enterSearch ([R.MAC_STAT_STATE, R.PWR_MODE_PENDING] ++ holdoverFields) [.mac, .power, .time, .records] :=
  (c.keeps_enterHoldover.widen _ _ (by decide) (by simp)).trans ((Block.keeps_enterSearch _).widen _ _ (by decide) (by simp))

theorem Block.keeps_beaconLost_missed : b.missed.Keeps b.beaconLost beaconLostFields [.mac, .power, .time, .records] :=
  ((b.missed.keeps_stick R.MAC_TROUBLE_BEACON_LOST 0).widen _ _ (by decide) (by simp)).trans
    ((Block.keeps_holdover_search _).widen _ _ (by decide) (List.Subset.refl _))

theorem Block.beaconLost_sticky : b.beaconLost.get R.MAC_TROUBLE_BEACON_LOST = 1 :=
  ((Block.keeps_holdover_search _).1 _ (by decide) (by decide)).trans (Block.stick_get_one _ _ rfl (by decide) (by decide))

theorem Block.beaconLost_misses (h : b.get R.MAC_STAT_MISSES = 2) : b.beaconLost.get R.MAC_STAT_MISSES = 3 :=
  (b.keeps_beaconLost_missed.1 _ (by decide) (by decide)).trans ((b.missed_misses h.le).trans (congrArg (· + 1) h))

theorem Block.beaconLost_search : b.beaconLost.mac.search = 0 := congrArg MacUnit.search (Block.enterSearch_mac _)

/-- A node that has time goes into holdover (R238, R277). -/
theorem Block.beaconLost_holdover (h4 : b.timState ≠ 4) (h0 : b.timState ≠ 0) : b.beaconLost.timState = 4 := by
  have hkeep : (b.missed.stick R.MAC_TROUBLE_BEACON_LOST).get R.TIM_STAT_STATE = b.get R.TIM_STAT_STATE :=
    (Block.stick_get _ _ _ 0 (by decide) (by decide) (by decide)).trans ((b.keeps_missed []).1 _ (by decide) (by decide))
  exact ((Block.keeps_enterSearch _).1 _ (by decide) (by decide)).trans
    (Block.enterHoldover_holds _ (hkeep.trans_ne h0) (hkeep.trans_ne h4)).state

/-! The cases. -/

theorem Block.beaconMiss_counts {b : Block} (h : b.Misses) (hn : b.get R.MAC_STAT_MISSES ≤ 1) (hm : b.mode ≠ 8) :
    b.beaconMiss = b.missed.showGuard := by
  rw [Block.beaconMiss_eq h, if_neg (by omega), if_neg fun e => hm (b.missed_mode.symm.trans e.1)]

theorem Block.beaconMiss_dozes {b : Block} (h : b.Misses) (hn : b.get R.MAC_STAT_MISSES ≤ 1) (hm : b.mode = 8)
    (hold : b.mac.holdUntil = none) : b.beaconMiss = b.missed.dozeAgain.showGuard := by
  rw [Block.beaconMiss_eq h, if_neg (by omega), if_pos ⟨b.missed_mode.trans hm, hold⟩]

theorem Block.beaconMiss_loses {b : Block} (h : b.Misses) (hn : b.get R.MAC_STAT_MISSES = 2) : b.beaconMiss = b.beaconLost.showGuard := by
  rw [Block.beaconMiss_eq h, if_pos (by omega)]

end

/-! The commands. -/

section
variable (s : State)

theorem pollRx_holds {d : Delivered} (hm : s.blk.mode = 8) (hd : s.blk.phy.delivered.find? (fun d => d.hdr.ftype == 6) = some d)
    (hp : d.hdr.src = s.blk.get R.TIM_PARENT_PARENT) :
    ∃ t, exec .pollRx s = .next t ∧ t.blk.mac.holdUntil = some (s.blk.tick + s.blk.get R.MAC_BA_WAKE_HOLD) ∧
      t.blk.phy.delivered = s.blk.phy.delivered.erase d ∧ s.Keeps t [] [.phy, .mac] :=
  ⟨_, exec_of_runOn _ rfl _ (Block.running_in hm (by decide)) (Block.pollRx_parent hm hd hp),
    congrArg MacUnit.holdUntil (Block.updateAlert_mac _), congrArg PhyUnit.delivered (Block.updateAlert_phy _),
    State.keeps_run s _ _ _ ((s.blk.keeps_dropDelivered d _ _ (by simp)).trans (Block.keeps_setMac _ _ _ _ (by simp)))⟩

/-- What a window that opens leaves, whether the guard admits it or the node searches instead. -/
theorem wakeWindowOpen_opens (hm : s.blk.mode = 8) :
    ∃ t, exec .wakeWindowOpen s = .next t ∧ t.blk.mac.wakeOpen = true ∧ t.blk.get R.MAC_STAT_DOZING = 0 ∧
      (∀ n ∈ s.blk.otherSlices, s.blk.loaded (.slice n) = false → t.blk.Waits (.slice n)) ∧
      (s.blk.loaded .ddr = false → t.blk.Waits .ddr) ∧
      s.Keeps t [R.MAC_STAT_DOZING, R.MAC_GUARD, R.MAC_STAT_STATE, R.PWR_MODE_PENDING, R.PWR_RATION_WINDOW, R.PWR_RATION_QUEUED]
        [.mac, .power, .freeCtr] := by
  have hwait := s.blk.wakeRequested_stillWaits
  have hkeep := s.blk.keeps_wakeRequested_open
  have hmac : s.blk.wakeRequested.mac = s.blk.windowOpen.mac := hkeep.2 .mac (by decide)
  have hdoze : s.blk.wakeRequested.get R.MAC_STAT_DOZING = 0 := (hkeep.1 _ (by decide) (by decide)).trans (Block.get_set_self _ _ _)
  have hsearch := s.blk.wakeRequested.keeps_enterSearch
  have hopen : s.blk.Keeps s.blk.wakeRequested
      [R.MAC_STAT_DOZING, R.MAC_GUARD, R.MAC_STAT_STATE, R.PWR_MODE_PENDING, R.PWR_RATION_WINDOW, R.PWR_RATION_QUEUED]
      [.mac, .power, .freeCtr] :=
    ((s.blk.keeps_setMac _ _ _ (by simp)).andSet _ _ (by simp)).trans (hkeep.widen _ _ (by decide) (by simp))
  have hslice (n : Nat) (hn : n ∈ s.blk.otherSlices) (hoff : s.blk.loaded (.slice n) = false) : s.blk.wakeRequested.Waits (.slice n) :=
    hwait _ (s.blk.windowOpen.requestWake_waits_slice n (s.blk.windowOpen_otherSlices ▸ hn)
      ((s.blk.windowOpen_loaded_slice n).trans hoff))
  have hddr (hoff : s.blk.loaded .ddr = false) : s.blk.wakeRequested.Waits .ddr := hwait _ (s.blk.windowOpen.requestWake_waits_ddr hoff)
  have halert (c : Block) : c.StillWaits c.updateAlert := Block.stillWaits_of_reqs (congrArg PowerUnit.reqs (Block.updateAlert_power c))
  refine ⟨_, exec_of_runOn _ rfl _ (Block.running_in hm (by decide)) (Block.wakeOpen_dozing hm), ?_⟩
  split
  · refine ⟨?_, (State.run_get s _ _ (by decide)).trans ((hsearch.1 _ (by decide) (by decide)).trans hdoze),
      fun n hn hoff => halert _ _ (Block.enterSearch_stillWaits _ _ (hslice n hn hoff)),
      fun hoff => halert _ _ (Block.enterSearch_stillWaits _ _ (hddr hoff)),
      State.keeps_run s _ _ _ (hopen.trans (hsearch.widen _ _ (by decide) (by simp)))⟩
    rw [State.run_blk, Block.updateAlert_mac, Block.enterSearch_mac, hmac]
    rfl
  · refine ⟨?_, (State.run_get s _ _ (by decide)).trans hdoze, fun n hn hoff => halert _ _ (hslice n hn hoff),
      fun hoff => halert _ _ (hddr hoff), State.keeps_run s _ _ _ hopen⟩
    rw [State.run_blk, Block.updateAlert_mac, hmac]
    rfl

theorem wakeHoldExpiry_dozes (hm : s.blk.mode = 8) (hover : s.blk.held = false) (hslot : s.blk.inSlot (s.blk.node s.blk.short 26 2) = false) :
    ∃ t, exec .wakeHoldExpiry s = .next t ∧ t.blk.mac.wakeOpen = false ∧ t.blk.mac.holdUntil = none ∧
      t.blk.get R.MAC_STAT_DOZING = 1 ∧ t.blk.power.ddrAwake = false ∧ s.Keeps t dozeFields [.mac, .power, .slices] := by
  have hmac : s.blk.dozeAgain.updateAlert.mac = _ := (Block.updateAlert_mac _).trans s.blk.dozeAgain_mac
  exact ⟨_, exec_of_runOn _ rfl _ (Block.running_in hm (by decide)) (s.blk.wakeHoldExpiry_eq.trans (if_pos ⟨hm, hover, hslot⟩)),
    congrArg MacUnit.wakeOpen hmac, congrArg MacUnit.holdUntil hmac, (State.run_get s _ _ (by decide)).trans s.blk.dozeAgain_dozing,
    congrArg PowerUnit.ddrAwake (Block.updateAlert_power _), State.keeps_run s _ _ _ s.blk.keeps_dozeAgain⟩

theorem wakeHoldExpiry_waits (hheld : s.blk.held = true) : ∃ t, exec .wakeHoldExpiry s = .next t ∧ s.Keeps t [] [] :=
  s.runOn_unchanged _ (s.blk.wakeHoldExpiry_eq.trans (if_neg (by simp [hheld])))

theorem beaconMiss_counts (hrun : s.blk.running = true) (h : s.blk.Misses) (hn : s.blk.get R.MAC_STAT_MISSES ≤ 1) (hm : s.blk.mode ≠ 8) :
    ∃ t, exec .beaconMiss s = .next t ∧ t.blk.get R.MAC_STAT_MISSES = s.blk.get R.MAC_STAT_MISSES + 1 ∧
      t.blk.get R.MAC_BEACON_MISS_COUNT = (s.blk.get R.MAC_BEACON_MISS_COUNT + 1) % 2 ^ R.MAC_BEACON_MISS_COUNT.width ∧
      s.Keeps t [R.MAC_STAT_MISSES, R.MAC_BEACON_MISS_COUNT, R.MAC_GUARD] [.freeCtr] := by
  have hguard := s.blk.missed.keeps_showGuard
  exact ⟨_, exec_of_runOn _ rfl _ hrun (Block.beaconMiss_counts h hn hm),
    (State.run_get s _ _ (by decide)).trans ((hguard.1 _ (by decide) (by decide)).trans (s.blk.missed_misses (by omega))),
    (State.run_get s _ _ (by decide)).trans ((hguard.1 _ (by decide) (by decide)).trans s.blk.missed_count),
    State.keeps_run s _ _ _ (((s.blk.keeps_missed _).widen _ _ (by simp) (List.Subset.refl _)).trans
      (hguard.widen _ _ (by simp) (List.Subset.refl _)))⟩

theorem beaconMiss_dozes (hm : s.blk.mode = 8) (h : s.blk.Misses) (hn : s.blk.get R.MAC_STAT_MISSES ≤ 1)
    (hold : s.blk.mac.holdUntil = none) :
    ∃ t, exec .beaconMiss s = .next t ∧ t.blk.get R.MAC_STAT_MISSES = s.blk.get R.MAC_STAT_MISSES + 1 ∧
      t.blk.mac.wakeOpen = false ∧ t.blk.get R.MAC_STAT_DOZING = 1 ∧
      s.Keeps t ([R.MAC_STAT_MISSES, R.MAC_BEACON_MISS_COUNT, R.MAC_GUARD] ++ dozeFields) [.mac, .power, .slices, .freeCtr] := by
  have hguard := s.blk.missed.dozeAgain.keeps_showGuard
  have hdoze := s.blk.missed.keeps_dozeAgain
  have hmac : s.blk.missed.dozeAgain.showGuard.mac = s.blk.missed.dozeAgain.mac := hguard.2 .mac (by decide)
  refine ⟨_, exec_of_runOn _ rfl _ (Block.running_in hm (by decide)) (Block.beaconMiss_dozes h hn hm hold),
    (State.run_get s _ _ (by decide)).trans ((hguard.1 _ (by decide) (by decide)).trans
      ((hdoze.1 _ (by decide) (by decide)).trans (s.blk.missed_misses (by omega)))), ?_,
    (State.run_get s _ _ (by decide)).trans ((hguard.1 _ (by decide) (by decide)).trans s.blk.missed.dozeAgain_dozing),
    State.keeps_run s _ _ _ ((((s.blk.keeps_missed _).widen _ _ (by simp) (List.Subset.refl _)).trans
      (hdoze.widen _ _ (List.subset_append_right _ _) (by simp))).trans (hguard.widen _ _ (by simp) (by simp)))⟩
  rw [State.run_blk, Block.updateAlert_mac, hmac, Block.dozeAgain_mac]

/-- The fields of the third miss. -/
def thirdMissFields : List Field :=
  [R.MAC_BEACON_MISS_COUNT, R.MAC_STAT_MISSES, R.MAC_TROUBLE_BEACON_LOST, R.MAC_STAT_STATE, R.MAC_GUARD, R.PWR_MODE_PENDING, R.TIM_FREQ,
    R.TIM_STAT_STATE, R.TIM_HOLD_COUNT, R.TIM_TROUBLE_HOLDOVER, R.TIM_STAT_TRACEABLE, R.TIM_PTP_STAT_CLOCK_CLASS] ++ recordFields

theorem beaconMiss_loses (hrun : s.blk.running = true) (h : s.blk.Misses) (hn : s.blk.get R.MAC_STAT_MISSES = 2) :
    ∃ t, exec .beaconMiss s = .next t ∧ t.blk.get R.MAC_STAT_MISSES = 3 ∧ t.blk.get R.MAC_TROUBLE_BEACON_LOST = 1 ∧
      t.blk.get R.MAC_STAT_STATE = 4 ∧ t.blk.mac.search = 0 ∧
      (s.blk.timState ≠ 4 → s.blk.timState ≠ 0 → t.blk.timState = 4) ∧
      s.Keeps t thirdMissFields [.mac, .power, .time, .freeCtr, .records] := by
  have hguard := s.blk.beaconLost.keeps_showGuard
  have hget (f : Field) (hf : f.key ∉ [R.MAC_GUARD].map Field.key) (hs : f.key ≠ R.TRB_SUMMARY.key) :
      (s.run fun _ => s.blk.beaconLost.showGuard).blk.get f = s.blk.beaconLost.get f :=
    (State.run_get s _ _ hs).trans (hguard.1 _ hf hs)
  have hmac : s.blk.beaconLost.showGuard.mac = s.blk.beaconLost.mac := hguard.2 .mac (by decide)
  refine ⟨_, exec_of_runOn _ rfl _ hrun (Block.beaconMiss_loses h hn),
    (hget _ (by decide) (by decide)).trans (s.blk.beaconLost_misses hn), (hget _ (by decide) (by decide)).trans s.blk.beaconLost_sticky,
    (hget _ (by decide) (by decide)).trans (Block.enterSearch_state _), ?_,
    fun h4 h0 => (hget _ (by decide) (by decide)).trans (s.blk.beaconLost_holdover h4 h0), State.keeps_run s _ _ _ ?_⟩
  · rw [State.run_blk, Block.updateAlert_mac, hmac, Block.beaconLost_search]
  · exact (((s.blk.keeps_missed _).widen _ _ (by decide) (List.Subset.refl _)).trans
      (s.blk.keeps_beaconLost_missed.widen _ _ (by decide) (by simp))).trans (hguard.widen _ _ (by decide) (by simp))

theorem Block.beaconMiss_synced {b : Block} (h : b.mac.resynced = true) : b.beaconMiss = b.setMac { b.mac with resynced := false } :=
  if_pos (by simp [h])

theorem beaconMiss_resynced (hrun : s.blk.running = true) (h : s.blk.mac.resynced = true) :
    ∃ t, exec .beaconMiss s = .next t ∧ t.blk.mac.resynced = false ∧ s.Keeps t [] [.mac] :=
  ⟨_, exec_of_runOn _ rfl _ hrun (Block.beaconMiss_synced h),
    congrArg MacUnit.resynced (Block.updateAlert_mac _), State.keeps_run s _ _ _ (s.blk.keeps_setMac _ _ _ (by simp))⟩

theorem beaconSearchTimeout_asks (hst : s.blk.get R.MAC_STAT_STATE = 4) (hm : s.blk.mode = 6 ∨ s.blk.mode = 7)
    (hover : 8 * s.blk.periodHalves ≤ s.blk.mac.search) (ht : s.blk.power.trans = none) :
    ∃ t, exec .beaconSearchTimeout s = .next t ∧ t.blk.power.trans = some 5 ∧ s.Keeps t [] [.power] := by
  have hrun : s.blk.running = true := hm.elim (Block.running_in · (by decide)) (Block.running_in · (by decide))
  exact ⟨_, exec_of_runOn _ rfl _ hrun ((if_pos ⟨hst, hm, hover⟩).trans (s.blk.askMode_begins 5 (by omega) ht)),
    congrArg PowerUnit.trans (Block.updateAlert_power _), State.keeps_run s _ _ _ (s.blk.keeps_setPower _ _ _ (by simp))⟩

theorem beaconSearchTimeout_idle (h : s.blk.get R.MAC_STAT_STATE ≠ 4 ∨ s.blk.mac.search < 8 * s.blk.periodHalves) :
    ∃ t, exec .beaconSearchTimeout s = .next t ∧ s.Keeps t [] [] :=
  s.runOn_unchanged _ (if_neg fun e => h.elim (· e.1) (not_lt.2 e.2.2))

end

/-- Settles O30: a POLL, a window that opens, a hold with and without time left, the misses, and the end of the search. -/
theorem dozeAndBeaconLoss : Obligations.DozeAndBeaconLoss := by
  refine ⟨?_, ?_, ?_, ?_, ?_, ?_, ?_, ?_, ?_, ?_⟩
  · intro s d hm hd hp
    exact pollRx_holds s hm hd hp
  · intro s hm
    exact wakeWindowOpen_opens s hm
  · intro s hm hover hslot
    refine wakeHoldExpiry_dozes s hm (Bool.eq_false_iff.2 fun hheld => ?_) hslot
    obtain ⟨n, hn, hlt⟩ := s.blk.held_iff.1 hheld
    exact absurd (hover n hn) (not_le.2 hlt)
  · intro s n hn hlt
    exact wakeHoldExpiry_waits s (s.blk.held_iff.2 ⟨n, hn, hlt⟩)
  · intro s hrun hrole hsync hgrid hn hm
    exact beaconMiss_counts s hrun ⟨hrole, hsync, hgrid⟩ hn hm
  · intro s hm hrole hsync hgrid hn hold
    exact beaconMiss_dozes s hm ⟨hrole, hsync, hgrid⟩ hn hold
  · intro s hrun hrole hsync hgrid hn
    exact beaconMiss_loses s hrun ⟨hrole, hsync, hgrid⟩ hn
  · intro s hrun h
    exact beaconMiss_resynced s hrun h
  · intro s hst hm hover ht
    exact beaconSearchTimeout_asks s hst hm hover ht
  · intro s h
    exact beaconSearchTimeout_idle s h

end Sys2Proof.Machine
end

section
/-! Quiet windows (R280, R281), the map's evaluation (R285) and leases (R265), and the settlement of `Obligations.QuietMapAndLeases`. -/

namespace Sys2Proof.Machine

/-- A command that may run, by the frame of what it makes of the block. -/
theorem State.runOn_keeps (s : State) (f : Block → Block) (l : List Field) (ps : List Part) (h : s.blk.Keeps (f s.blk) l ps) :
    ∃ t, (.next (s.runOn f) : Host.Outcome State Fault Refusal) = .next t ∧ s.Keeps t l ps :=
  ⟨_, rfl, State.keeps_run s _ l ps (Block.keeps_when h)⟩

section
variable (b : Block)

/-! QUIET and what follows it (R280, R281, R447). -/

/-- The fields of the driver enables. -/
def driverFields : List Field := [R.PWR_GATES_DRV_H, R.PWR_GATES_DRV_L]

/-- A forbidden band's drivers are off, at once. -/
theorem Block.keeps_bandDrivers_off (band : Nat) (was : Bool) (ps : List Part) : b.Keeps (b.bandDrivers band was true) driverFields ps := by
  refine Block.keeps_ite (Block.Keeps.refl _ _ _) ?_
  rw [if_pos rfl]
  split
  · exact b.keeps_set _ _ _ _ (by simp [driverFields])
  · exact b.keeps_set _ _ _ _ (by simp [driverFields])

theorem Block.keeps_bandDrivers (band : Nat) (was now : Bool) :
    b.Keeps (b.bandDrivers band was now) (driverFields ++ rationFields) [.power] := by
  cases now with
  | true => exact (b.keeps_bandDrivers_off band was _).widen _ _ (by simp) (List.Subset.refl _)
  | false =>
    refine Block.keeps_ite (Block.Keeps.refl _ _ _) ?_
    rw [if_neg Bool.false_ne_true]
    exact (b.keeps_requestBand band).widen _ _ (by simp) (List.Subset.refl _)

/-- The drivers of both bands follow their permission. -/
def Block.quietDrivers : Block :=
  (b.bandDrivers 0 (b.flag R.MAC_STAT_QUIET_H) (b.forbidden 0)).bandDrivers 1 (b.flag R.MAC_STAT_QUIET_L) (b.forbidden 1)

/-- QUIET_H and QUIET_L follow the permission of the bands, and their drivers with them. -/
def Block.quietShown : Block :=
  (b.quietDrivers.setFlag R.MAC_STAT_QUIET_H (b.forbidden 0)).setFlag R.MAC_STAT_QUIET_L (b.forbidden 1)

/-- No enabled band is permitted. -/
def Block.allQuiet : Bool :=
  (!b.quietShown.bandEnabled 0 || b.forbidden 0) && (!b.quietShown.bandEnabled 1 || b.forbidden 1)

theorem Block.evalQuiet_eq : b.evalQuiet =
    if b.quietShown.mode = 6 ∧ b.allQuiet = true then b.quietShown.askMode 7
    else if b.quietShown.mode = 7 ∧ (!b.allQuiet) = true then b.quietShown.askMode 6
    else b.quietShown := rfl

/-- The fields of QUIET, and the drivers'. -/
def quietFields : List Field := [R.MAC_STAT_QUIET_H, R.MAC_STAT_QUIET_L] ++ driverFields

theorem Block.keeps_quietShown_drivers (ps : List Part) : b.quietDrivers.Keeps b.quietShown quietFields ps :=
  ((Block.Keeps.refl b.quietDrivers _ _).andSet _ _ (by simp [quietFields])).andSet _ _ (by simp [quietFields])

theorem Block.keeps_quietShown : b.Keeps b.quietShown (quietFields ++ rationFields) [.power] :=
  (((b.keeps_bandDrivers _ _ _).trans (Block.keeps_bandDrivers _ _ _ _)).widen _ _ (by simp [quietFields]) (List.Subset.refl _)).trans
    ((b.keeps_quietShown_drivers _).widen _ _ (by simp) (List.Subset.refl _))

/-- With both bands forbidden no enable is requested. -/
theorem Block.keeps_quietShown_forbidden (h0 : b.forbidden 0 = true) (h1 : b.forbidden 1 = true) (ps : List Part) :
    b.Keeps b.quietShown quietFields ps := by
  have hdrivers : b.Keeps b.quietDrivers driverFields ps := by
    rw [Block.quietDrivers, h0, h1]
    exact (b.keeps_bandDrivers_off _ _ _).trans (Block.keeps_bandDrivers_off _ _ _ _)
  exact (hdrivers.widen _ _ (by simp [quietFields]) (List.Subset.refl _)).trans (b.keeps_quietShown_drivers ps)

theorem Block.keeps_evalQuiet_shown : b.quietShown.Keeps b.evalQuiet [R.PWR_MODE_PENDING] [.power] :=
  Block.keeps_ite (Block.keeps_askMode _ 7) (Block.keeps_when (Block.keeps_askMode _ 6))

theorem Block.keeps_evalQuiet : b.Keeps b.evalQuiet ((quietFields ++ rationFields) ++ [R.PWR_MODE_PENDING]) [.power] :=
  (b.keeps_quietShown.widen _ _ (by simp) (List.Subset.refl _)).trans
    (b.keeps_evalQuiet_shown.widen _ _ (by simp) (List.Subset.refl _))

theorem Block.evalQuiet_quietH (h : b.forbidden 0 = true) : b.evalQuiet.get R.MAC_STAT_QUIET_H = 1 := by
  rw [b.keeps_evalQuiet_shown.1 _ (by decide) (by decide), Block.quietShown, Block.setFlag_eq, Block.get_set_ne _ _ _ _ (by decide), h,
    Block.setFlag_eq, Block.get_set_self]
  rfl

theorem Block.evalQuiet_quietL (h : b.forbidden 1 = true) : b.evalQuiet.get R.MAC_STAT_QUIET_L = 1 := by
  rw [b.keeps_evalQuiet_shown.1 _ (by decide) (by decide), Block.quietShown, h, Block.setFlag_eq, Block.get_set_self]
  rfl

theorem Block.evalQuiet_mac : b.evalQuiet.mac = b.mac := b.keeps_evalQuiet.2 .mac (by decide)

/-- In M6 with every band forbidden, M7 is asked for (R281). -/
theorem Block.evalQuiet_asks (hm : b.mode = 6) (h0 : b.forbidden 0 = true) (h1 : b.forbidden 1 = true) (ht : b.power.trans = none) :
    b.evalQuiet = b.quietShown.setPower { b.quietShown.power with trans := some 7 } := by
  have hkeep := b.keeps_quietShown_forbidden h0 h1 []
  have hmode : b.quietShown.mode = 6 := (hkeep.1 _ (by decide) (by decide)).trans hm
  have hpower : b.quietShown.power = b.power := hkeep.2 .power (by simp)
  rw [Block.evalQuiet_eq, if_pos ⟨hmode, by simp [Block.allQuiet, h0, h1]⟩,
    Block.askMode_begins _ 7 (by omega) ((congrArg PowerUnit.trans hpower).trans ht)]

/-! Quiet windows (R280). -/

/-- The band lies in a quiet window, or no longer does. -/
def Block.setQuiet (band : Nat) (v : Bool) : Block := b.setMac { b.mac with inQuiet := b.mac.inQuiet.set band v }

theorem Block.quietWindow_changes (band : Nat) (v : Bool) (h : b.quietFor band 0 = v) : b.quietWindow band v = (b.setQuiet band v).evalQuiet :=
  if_pos h

theorem Block.quietWindow_idle (band : Nat) (v : Bool) (h : b.quietFor band 0 ≠ v) : b.quietWindow band v = b := if_neg h

theorem Block.forbidden_of_inQuiet {b : Block} {band : Nat} (h : b.mac.inQuiet.getD band false = true) : b.forbidden band = true := by
  rw [Block.forbidden, h, Bool.or_true, Bool.true_or]

theorem Block.setQuiet_inQuiet (band : Nat) (v : Bool) (h : band < b.mac.inQuiet.length) :
    (b.setQuiet band v).mac.inQuiet.getD band false = v := by
  simp [Block.setQuiet, List.getD, h]

theorem Block.keeps_setQuiet (band : Nat) (v : Bool) (l : List Field) (ps : List Part) (h : .mac ∈ ps) : b.Keeps (b.setQuiet band v) l ps :=
  b.keeps_setMac _ _ _ h

/-- The fields that a quiet window may change, as it begins and as it ends. -/
def quietWindowFields : List Field :=
  [R.MAC_STAT_QUIET_H, R.MAC_STAT_QUIET_L, R.PWR_MODE_PENDING, R.PWR_GATES_DRV_H, R.PWR_GATES_DRV_L, R.PWR_RATION_WINDOW,
    R.PWR_RATION_QUEUED]

theorem Block.keeps_setQuiet_evalQuiet (band : Nat) (v : Bool) :
    b.Keeps (b.setQuiet band v).evalQuiet quietWindowFields [.mac, .power] :=
  (b.keeps_setQuiet band v _ _ (by simp)).trans ((Block.keeps_evalQuiet _).widen _ _ (by decide) (by simp))

/-! MAP_EVAL (R285). -/

/-- A score that no node observed is a free value; nothing else is drawn. -/
theorem Block.slotScores_block (profiles : List (List Nat)) (n k : Nat) : ∃ m, (Block.slotScores profiles n k b).2 = { b with freeCtr := m } := by
  induction n generalizing k b with
  | zero => exact ⟨b.freeCtr, rfl⟩
  | succ n ih =>
    have hone : ∃ m, (b.slotScore profiles k).2 = { b with freeCtr := m } := by
      unfold Block.slotScore
      split
      · exact ⟨b.freeCtr, rfl⟩
      · exact ⟨b.freeCtr + 1, rfl⟩
    obtain ⟨m, hm⟩ := hone
    obtain ⟨m', hm'⟩ := ih { b with freeCtr := m } (k + 1)
    refine ⟨m', ?_⟩
    rw [Block.slotScores]
    dsimp only
    rw [hm]
    exact hm'

/-- The coordinator evaluates its map: it has AUTO_MAP and a grid (R285). -/
structure Block.Evaluates : Prop where
  head : b.role = 0
  auto : leAt b.macRole 0x15 1 ≠ 0
  grid : b.hasGrid = true

/-- The scores of the slots of a half-cycle. -/
def Block.scores (profiles : List (List Nat)) : List Nat := (Block.slotScores profiles 8 0 b).1

/-- The fall of the map's score (R285). -/
def Block.mapGain (scores : List Nat) : Nat := ((b.mapRows scores).map fun r => r.2).sum

/-- The rows of the map as they are re-placed. -/
def Block.newRows (scores : List Nat) : List (List Nat) := (b.mapRows scores).map fun r => r.1

/-- The map of some rows is published for a later period. -/
def Block.publish (rows : List (List Nat)) : Block := (b.setGrid { b.grid with nextMap := b.mapOfRows rows }).bump R.MAC_GRID_MAP_SEQ

theorem Block.publish_nextMap (rows : List (List Nat)) : (b.publish rows).grid.nextMap = b.mapOfRows rows := rfl

theorem Block.publish_seq (rows : List (List Nat)) :
    (b.publish rows).get R.MAC_GRID_MAP_SEQ = (b.get R.MAC_GRID_MAP_SEQ + 1) % 2 ^ R.MAC_GRID_MAP_SEQ.width := Block.bump_get _ _

theorem Block.keeps_publish (rows : List (List Nat)) : b.Keeps (b.publish rows) [R.MAC_GRID_MAP_SEQ] [.grid, .freeCtr] :=
  (b.keeps_setGrid _ _ _ (by simp)).trans (Block.keeps_bump _ _ _ _ (by simp))

theorem Block.mapEval_eq {b : Block} (h : b.Evaluates) (profiles : List (List Nat)) : ∃ m, b.mapEval profiles =
    if b.mapGain (b.scores profiles) < leAt b.macRole 0x18 1 ∨ b.mapGain (b.scores profiles) = 0 then { b with freeCtr := m }
    else Block.publish { b with freeCtr := m } (b.newRows (b.scores profiles)) := by
  obtain ⟨m, hm⟩ := b.slotScores_block profiles 8 0
  refine ⟨m, ?_⟩
  rw [Block.mapEval, if_neg (by simp [h.head, h.auto, h.grid])]
  dsimp only
  rw [hm]
  rfl

theorem Block.mapEval_idle (profiles : List (List Nat)) (h : ¬b.Evaluates) : b.mapEval profiles = b := by
  refine if_pos ?_
  by_contra hno
  simp only [not_or, Bool.not_eq_false, not_not] at hno
  exact h ⟨hno.1, hno.2.1, hno.2.2⟩

/-! LEASE_EXPIRY (R265). -/

/-- A byte within a stored run reads as stored. -/
theorem Mem.read_store (m : Mem) (a : Nat) (bs : List (BitVec 8)) (k : Nat) (h : k < bs.length) : Mem.read (Mem.store m a bs) (a + k) = bs[k] := by
  induction bs generalizing m a k with
  | nil => exact absurd h (by simp)
  | cons c bs ih =>
    cases k with
    | zero => exact (Mem.read_store_outside (m.write a c) (a + 1) (a + 0) bs (by omega)).trans (Mem.read_write_self m a c)
    | succ k =>
      rw [Mem.store, show a + (k + 1) = a + 1 + k by omega]
      exact ih _ _ k (by simpa using h)

theorem Mem.read_store_zeros (m : Mem) (a n k : Nat) (h : k < n) : Mem.read (Mem.store m a (List.replicate n 0)) (a + k) = 0 := by
  rw [Mem.read_store m a _ k (by simpa using h), List.getElem_replicate]

/-- A number read within a run of zeros is 0. -/
theorem Mem.num_store_zeros (m : Mem) (a n off len : Nat) (h : off + len ≤ n) :
    Mem.num (Mem.store m a (List.replicate n 0)) (a + off) len = 0 := by
  induction len generalizing off with
  | zero => rfl
  | succ len ih =>
    rw [Mem.num, Mem.read_store_zeros m a n off (by omega), Nat.add_assoc, ih (off + 1) (by omega)]
    rfl

theorem Block.emptyNode_tables (a : Nat) : (b.emptyNode a).tables = Mem.store b.tables (nodeAt a) (List.replicate 64 0) := by
  simp only [Block.emptyNode, Block.putTab]

theorem Block.emptyNode_hasNode (a : Nat) : (b.emptyNode a).hasNode a = false := by
  have hshort : (b.emptyNode a).node a 8 2 = 0 := by
    rw [Block.node, Block.tab, Block.emptyNode_tables]
    exact Mem.num_store_zeros b.tables (nodeAt a) 64 8 2 (by decide)
  rw [Block.hasNode, hshort, bne_self_eq_false, Bool.and_false]

/-- The fields that follow the coordinator's tables (R317). -/
def nodeCountFields : List Field := [R.MSH_NODES_ACTIVE, R.MSH_NODES_LOST, R.MSH_LS_USED]

theorem Block.keeps_showMesh (ps : List Part) : b.Keeps b.showMesh nodeCountFields ps :=
  Block.keeps_when ((((Block.Keeps.refl b _ _).andSet _ _ (by simp [nodeCountFields])).andSet _ _ (by simp [nodeCountFields])).andSet _ _
    (by simp [nodeCountFields]))

theorem Block.keeps_emptyNode (a : Nat) : b.Keeps (b.emptyNode a) [] [.tables, .phy] :=
  (b.keeps_tables _ _ _ (by simp)).trans (Block.keeps_phy _ _ _ _ (by simp))

end

/-! The commands. -/

section
variable (s : State)

theorem exec_quietWindowStart (band : Nat) (hrun : s.blk.running = true) (hq : s.blk.quietFor band 0 = true) :
    exec (.quietWindowStart band) s = .next (s.run fun _ => (s.blk.setQuiet band true).evalQuiet) :=
  exec_of_runOn (fun b => b.quietWindow band true) rfl _ hrun (s.blk.quietWindow_changes band true hq)

theorem quietWindowStart_forbids (band : Nat) (hrun : s.blk.running = true) (hlen : s.blk.mac.inQuiet.length = 2) (hband : band < 2)
    (hq : s.blk.quietFor band 0 = true) :
    ∃ t, exec (.quietWindowStart band) s = .next t ∧ t.blk.mac.inQuiet.getD band false = true ∧
      (band = 0 → t.blk.get R.MAC_STAT_QUIET_H = 1) ∧ (band = 1 → t.blk.get R.MAC_STAT_QUIET_L = 1) ∧
      s.Keeps t quietWindowFields [.mac, .power] := by
  have hin := s.blk.setQuiet_inQuiet band true (by omega)
  have hforbid := Block.forbidden_of_inQuiet hin
  have hmac : (s.blk.setQuiet band true).evalQuiet.updateAlert.mac = (s.blk.setQuiet band true).mac :=
    (Block.updateAlert_mac _).trans (Block.evalQuiet_mac _)
  refine ⟨_, exec_quietWindowStart s band hrun hq, ?_, fun h0 => ?_, fun h1 => ?_,
    State.keeps_run s _ _ _ (s.blk.keeps_setQuiet_evalQuiet band true)⟩
  · rw [State.run_blk, hmac, hin]
  · subst h0
    exact (State.run_get s _ _ (by decide)).trans (Block.evalQuiet_quietH _ hforbid)
  · subst h1
    exact (State.run_get s _ _ (by decide)).trans (Block.evalQuiet_quietL _ hforbid)

theorem quietWindowStart_asksM7 (hm : s.blk.mode = 6) (hin : s.blk.mac.inQuiet = [false, true]) (hq : s.blk.quietFor 0 0 = true)
    (ht : s.blk.power.trans = none) :
    ∃ t, exec (.quietWindowStart 0) s = .next t ∧ t.blk.power.trans = some 7 ∧ s.Keeps t quietFields [.mac, .power] := by
  have hset : (s.blk.setQuiet 0 true).mac.inQuiet = [true, true] := by
    rw [Block.setQuiet, Block.setMac_mac, hin]
    rfl
  have h0 : (s.blk.setQuiet 0 true).forbidden 0 = true := Block.forbidden_of_inQuiet (by rw [hset]; rfl)
  have h1 : (s.blk.setQuiet 0 true).forbidden 1 = true := Block.forbidden_of_inQuiet (by rw [hset]; rfl)
  have hasks := Block.evalQuiet_asks (s.blk.setQuiet 0 true) hm h0 h1 ht
  refine ⟨_, hasks ▸ exec_quietWindowStart s 0 (Block.running_in hm (by decide)) hq,
    congrArg PowerUnit.trans (Block.updateAlert_power _),
    State.keeps_run s _ _ _ (((s.blk.keeps_setQuiet 0 true _ _ (by simp)).trans (Block.keeps_quietShown_forbidden _ h0 h1 _)).trans
      (Block.keeps_setPower _ _ _ _ (by simp)))⟩

theorem quietWindowEnd_permits (band : Nat) (hrun : s.blk.running = true) (hq : s.blk.quietFor band 0 = false) :
    ∃ t, exec (.quietWindowEnd band) s = .next t ∧ t.blk.mac.inQuiet = s.blk.mac.inQuiet.set band false ∧
      s.Keeps t quietWindowFields [.mac, .power] :=
  ⟨_, exec_of_runOn (fun b => b.quietWindow band false) rfl _ hrun (s.blk.quietWindow_changes band false hq),
    congrArg MacUnit.inQuiet ((Block.updateAlert_mac _).trans (Block.evalQuiet_mac _)),
    State.keeps_run s _ _ _ (s.blk.keeps_setQuiet_evalQuiet band false)⟩

theorem mapEval_publishes (profiles : List (List Nat)) (hrun : s.blk.running = true) (h : s.blk.Evaluates)
    (hsome : s.blk.mapGain (s.blk.scores profiles) ≠ 0) (hgain : leAt s.blk.macRole 0x18 1 ≤ s.blk.mapGain (s.blk.scores profiles)) :
    ∃ t, exec (.mapEval profiles) s = .next t ∧ t.blk.grid.nextMap = s.blk.mapOfRows (s.blk.newRows (s.blk.scores profiles)) ∧
      t.blk.get R.MAC_GRID_MAP_SEQ = (s.blk.get R.MAC_GRID_MAP_SEQ + 1) % 2 ^ R.MAC_GRID_MAP_SEQ.width ∧
      s.Keeps t [R.MAC_GRID_MAP_SEQ] [.grid, .freeCtr] := by
  obtain ⟨m, hm⟩ := Block.mapEval_eq h profiles
  rw [if_neg (not_or.2 ⟨not_lt.2 hgain, hsome⟩)] at hm
  have hkeep : s.blk.Keeps { s.blk with freeCtr := m } [R.MAC_GRID_MAP_SEQ] [.grid, .freeCtr] := s.blk.keeps_freeCtr m _ _ (by simp)
  refine ⟨_, exec_of_runOn _ rfl _ hrun hm, ?_, ?_,
    State.keeps_run s (fun _ => Block.publish { s.blk with freeCtr := m } (s.blk.newRows (s.blk.scores profiles))) _ _
      (hkeep.trans (Block.keeps_publish _ _))⟩
  · rw [State.run_blk, Block.updateAlert_grid]
    exact Block.publish_nextMap _ _
  · exact (State.run_get s _ _ (by decide)).trans (Block.publish_seq _ _)

theorem mapEval_keepsOld (profiles : List (List Nat))
    (h : s.blk.role ≠ 0 ∨ s.blk.hasGrid = false ∨ s.blk.mapGain (s.blk.scores profiles) < leAt s.blk.macRole 0x18 1) :
    ∃ t, exec (.mapEval profiles) s = .next t ∧ s.Keeps t [] [.freeCtr] := by
  refine s.runOn_keeps _ _ _ ?_
  by_cases hev : s.blk.Evaluates
  · have hlow : s.blk.mapGain (s.blk.scores profiles) < leAt s.blk.macRole 0x18 1 :=
      (h.resolve_left (not_not.2 hev.head)).resolve_left (by simp [hev.grid])
    obtain ⟨m, hm⟩ := Block.mapEval_eq hev profiles
    rw [hm, if_pos (.inl hlow)]
    exact s.blk.keeps_freeCtr m _ _ (by simp)
  · rw [s.blk.mapEval_idle profiles hev]
    exact Block.Keeps.refl _ _ _

theorem leaseExpiry_releases (a : Nat) (hrun : s.blk.running = true) (hr : s.blk.role = 0) (hnode : s.blk.hasNode a = true)
    (hlost : s.blk.node a 11 1 = 3) (hlease : s.blk.node a 12 2 = 0) :
    ∃ t, exec (.leaseExpiry a) s = .next t ∧ t.blk.hasNode a = false ∧ s.Keeps t nodeCountFields [.tables, .phy] := by
  have hshow := (s.blk.emptyNode a).keeps_showMesh []
  have htables : (s.blk.emptyNode a).showMesh.tables = (s.blk.emptyNode a).tables := hshow.2 .tables (by simp)
  refine ⟨_, exec_of_runOn _ rfl _ hrun (if_pos ⟨hr, hnode, hlost, hlease⟩), ?_, State.keeps_run s _ _ _ ?_⟩
  · refine Eq.trans ?_ (s.blk.emptyNode_hasNode a)
    simp only [Block.hasNode, Block.node, Block.tab, State.run_blk, Block.updateAlert_tables, htables]
  · exact ((s.blk.keeps_emptyNode a).widen _ _ (by simp) (List.Subset.refl _)).trans (Block.keeps_showMesh _ _)

end

/-- Settles O31: the windows as they begin and end, the map that is published or kept, and the lease that has run out or not. -/
theorem quietMapAndLeases : Obligations.QuietMapAndLeases := by
  refine ⟨?_, ?_, ?_, ?_, ?_, ?_, ?_, ?_, ?_, ?_⟩
  · intro s hrun hlen hq
    obtain ⟨t, ht, hin, hshow, -, hkeep⟩ := quietWindowStart_forbids s 0 hrun hlen (by decide) hq
    exact ⟨t, ht, hin, hshow rfl, hkeep⟩
  · intro s hrun hlen hq
    obtain ⟨t, ht, hin, -, hshow, hkeep⟩ := quietWindowStart_forbids s 1 hrun hlen (by decide) hq
    exact ⟨t, ht, hin, hshow rfl, hkeep⟩
  · intro s hm hin hq ht
    exact quietWindowStart_asksM7 s hm hin hq ht
  · intro s band hq
    exact s.runOn_unchanged _ (s.blk.quietWindow_idle band true (by simp [hq]))
  · intro s band hq
    exact s.runOn_unchanged _ (s.blk.quietWindow_idle band false (by simp [hq]))
  · intro s band hrun hq
    exact quietWindowEnd_permits s band hrun hq
  · rintro s profiles scores hrun hr hauto hgrid rfl hsome hgain
    exact mapEval_publishes s profiles hrun ⟨hr, hauto, hgrid⟩ hsome hgain
  · rintro s profiles scores rfl h
    exact mapEval_keepsOld s profiles h
  · intro s a hrun hr hnode hlost hlease
    exact leaseExpiry_releases s a hrun hr hnode hlost hlease
  · intro s a h
    exact s.runOn_unchanged _ (if_neg fun e => h.elim (· e.1) (·.elim (· e.2.2.1) (· e.2.2.2)))

end Sys2Proof.Machine
end

section
/-! Channel access (R261, R262, R303): what the transmit order and the access of the bands bear on, and how a frame is granted, counts
down or is dropped for want of a route. -/

namespace Sys2Proof.Machine

section
variable {b c : Block}

/-! Runs of slots follow the roles of the slots alone (R259, R262). -/

theorem Block.runEndFrom_congr (g : GridVals) (band : Nat) (ok : Nat → Bool) (hrole : ∀ h k, c.roleAt band h k = b.roleAt band h k)
    (n h k : Nat) : c.runEndFrom g band ok n h k = b.runEndFrom g band ok n h k := by
  induction n generalizing h k with
  | zero => rfl
  | succ n ih => simp only [Block.runEndFrom, hrole, ih]

theorem Block.longestRun_congr (g : GridVals) (band : Nat) (ok : Nat → Bool) (hrole : ∀ h k, c.roleAt band h k = b.roleAt band h k)
    (n i run best : Nat) : c.longestRun g band ok n i run best = b.longestRun g band ok n i run best := by
  induction n generalizing i run best with
  | zero => rfl
  | succ n ih => simp only [Block.longestRun, hrole, ih]

end

section
variable (b : Block)

/-! The order and the access of the bands bear on no verdict about a frame, but for a band's own carrier sense. -/

/-- The block with another transmit order, and another access of its bands. -/
def Block.accessing (o : List TxFrame) (l : List ChanAccess) : Block := b.setMac { b.mac with order := o, access := l }

section
variable (o : List TxFrame) (l : List ChanAccess) (f : TxFrame)

theorem Block.accessing_runEnd (band : Nat) (ok : Nat → Bool) : (b.accessing o l).runEnd band ok = b.runEnd band ok := by
  have hrun (g : GridVals) := Block.runEndFrom_congr (c := b.accessing o l) (b := b) g band ok (fun _ _ => rfl)
  simp only [Block.runEnd, hrun]
  rfl

theorem Block.accessing_runFor : (b.accessing o l).runFor f = b.runFor f := by
  simp only [Block.runFor, b.accessing_runEnd o l]
  rfl

theorem Block.accessing_runMaxL : (b.accessing o l).runMaxL = b.runMaxL := by
  have hrun (g : GridVals) (ok : Nat → Bool) := Block.longestRun_congr (c := b.accessing o l) (b := b) g 1 ok (fun _ _ => rfl)
  simp only [Block.runMaxL, hrun]
  rfl

theorem Block.accessing_allowance : (b.accessing o l).allowance f = b.allowance f := rfl

theorem Block.accessing_tooLong : (b.accessing o l).tooLong f = b.tooLong f := by
  have hmax : (b.accessing o l).get R.MAC_RUN_MAX = b.get R.MAC_RUN_MAX := rfl
  rw [Block.tooLong, b.accessing_runMaxL o l, b.accessing_allowance o l f, hmax, Block.tooLong]

theorem Block.accessing_permitted : (b.accessing o l).permitted f = b.permitted f := by
  have hmay : (b.accessing o l).mayTransmit = b.mayTransmit := rfl
  have hgrid : (b.accessing o l).hasGrid = b.hasGrid := rfl
  have hforbid : (b.accessing o l).forbidden f.band = b.forbidden f.band := rfl
  have hslot : (b.accessing o l).slotAdmits f = b.slotAdmits f := rfl
  have htick : (b.accessing o l).tick = b.tick := rfl
  have hair : (b.accessing o l).airtimeOf f = b.airtimeOf f := rfl
  have hquiet (d : Nat) : (b.accessing o l).quietFor f.band d = b.quietFor f.band d := rfl
  rw [Block.permitted, hmay, hgrid, hforbid, hslot, htick, hair, hquiet, b.accessing_allowance o l f, b.accessing_runFor o l f,
    Block.permitted]

theorem Block.keeps_accessing : b.Keeps (b.accessing o l) [] [.mac] := b.keeps_setMac _ _ _ (by simp)

end

/-- A change of a band's access leaves the order, and the other bands. -/
theorem Block.modAccess_eq (band : Nat) (h : ChanAccess → ChanAccess) :
    b.modAccess band h = b.accessing b.mac.order (b.mac.access.modify band h) := rfl

theorem Block.access_modAccess (band : Nat) (h : ChanAccess → ChanAccess) (hband : band < b.mac.access.length) :
    (b.modAccess band h).access band = h (b.access band) := by
  simp [Block.access, Block.modAccess, List.getD, hband]

/-- A backoff that is being counted belongs to a band. -/
theorem Block.band_of_count {b : Block} {band n : Nat} (h : (b.access band).count = some n) : band < b.mac.access.length := by
  by_contra hno
  rw [Block.access, List.getD_eq_default _ _ (by omega)] at h
  exact absurd h (Option.some_ne_none n).symm

theorem Block.busy_modAccess (band : Nat) (h : ChanAccess → ChanAccess) (hband : band < b.mac.access.length)
    (hover : (h (b.access band)).overUnits = (b.access band).overUnits) (huntil : (h (b.access band)).busyUntil = (b.access band).busyUntil) :
    (b.modAccess band h).busy band = b.busy band := by
  rw [Block.busy, b.access_modAccess band h hband, hover, huntil]
  rfl

/-! The backoff of a frame (R261). -/

/-- The exponent of a frame's backoff: the one in force, or the first of its attempt. -/
def Block.backoffExp (f : TxFrame) : Nat :=
  match (b.access f.band).be with
  | some e => e
  | none => min (b.get R.MAC_ACCESS_BE_MAX) (b.get R.MAC_ACCESS_BE_MIN + f.retries)

/-- The units left of a frame's backoff: those being counted, or as many as are drawn. -/
def Block.backoffCount (f : TxFrame) (rng : Nat) : Nat :=
  match (b.access f.band).count with
  | some n => n
  | none => rng % 65536 % 2 ^ b.backoffExp f

/-- The backoff of a frame is in force for its band. -/
def Block.counting (f : TxFrame) (rng : Nat) : Block :=
  b.modAccess f.band fun a => { a with be := some (b.backoffExp f), count := some (b.backoffCount f rng) }

variable {b} {f : TxFrame} {n : Nat}

/-- A frame whose backoff is being counted, on a clear channel. -/
structure Block.Clear (b : Block) (f : TxFrame) (n : Nat) : Prop where
  permitted : b.permitted f = true
  budget : b.budgetOk f = true
  count : (b.access f.band).count = some n
  idle : b.busy f.band = false

theorem Block.Clear.backoff (h : b.Clear f n) (rng : Nat) : b.backoffCount f rng = n := by rw [Block.backoffCount, h.count]

theorem Block.Clear.counts (h : b.Clear f n) (rng : Nat) : (b.counting f rng).Clear f n where
  permitted := by rw [Block.counting, Block.modAccess_eq, Block.accessing_permitted, h.permitted]
  budget := h.budget
  count := by rw [Block.counting, b.access_modAccess _ _ (Block.band_of_count h.count), h.backoff]
  idle := (b.busy_modAccess f.band _ (Block.band_of_count h.count) rfl rfl).trans h.idle

/-- A clear unit counts the backoff down. -/
theorem Block.Clear.contend_succ (h : b.Clear f (n + 1)) (rng span train : Nat) :
    b.contend f rng span train = (b.counting f rng).modAccess f.band fun a => { a with count := some (b.backoffCount f rng - 1) } := by
  obtain ⟨hperm, hbudget, -, hidle⟩ := h.counts rng
  have h1 : ¬(b.counting f rng).permitted f = false := by simp [hperm]
  have h2 : ¬(b.counting f rng).budgetOk f = false := by simp [hbudget]
  have h3 : b.backoffCount f rng ≠ 0 := by simp [h.backoff rng]
  have h4 : ¬(b.counting f rng).busy f.band = true := by simp [hidle]
  exact (if_neg h1).trans ((if_neg h2).trans ((if_pos h3).trans (if_neg h4)))

theorem Block.startGranted_eq (b : Block) (hload : (if f.band = 0 then (b.portsFor f).map Load.drvH else [Load.drvL]).all b.loaded = true) :
    b.startGranted f = (true, b) := if_pos hload

/-- At count zero a frame whose drivers are enabled is granted. -/
theorem Block.Clear.contend_zero (h : b.Clear f 0)
    (hload : (if f.band = 0 then (b.portsFor f).map Load.drvH else [Load.drvL]).all b.loaded = true) (rng span train : Nat) :
    b.contend f rng span train = (b.counting f rng).grantFrame f span train := by
  obtain ⟨hperm, hbudget, -, hidle⟩ := h.counts rng
  have hstart : (b.counting f rng).startGranted f = (true, b.counting f rng) := Block.startGranted_eq _ hload
  have h1 : ¬(b.counting f rng).permitted f = false := by simp [hperm]
  have h2 : ¬(b.counting f rng).budgetOk f = false := by simp [hbudget]
  have h3 : ¬b.backoffCount f rng ≠ 0 := by simp [h.backoff rng]
  have h4 : ¬(b.counting f rng).busy f.band = true := by simp [hidle]
  refine (if_neg h1).trans ((if_neg h2).trans ((if_neg h3).trans ((if_neg h4).trans ?_)))
  change (match (b.counting f rng).startGranted f with
    | (true, c) => c.grantFrame f span train
    | (false, c) => c.accessBusy f.band (b.backoffExp f)) = _
  rw [hstart]

end
end Sys2Proof.Machine
end

section
/-! The frame that is granted its channel, with the frames that follow it (R173–R177, R261, R331). -/

namespace Sys2Proof.Machine

/-! Frames are taken out of the order for sending. -/

/-- Frames were taken for sending: the frames that are ready, and the access of the bands, are as they were. -/
structure Block.Takes (b c : Block) : Prop where
  ready : c.mac.ready = b.mac.ready
  access : c.mac.access = b.mac.access
  keeps : b.Keeps c [R.MSH_FWD_COUNT] [.mac, .queues, .records]

theorem Block.Takes.refl (b : Block) : b.Takes b := ⟨rfl, rfl, Block.Keeps.refl _ _ _⟩

theorem Block.Takes.trans {b c d : Block} (h : b.Takes c) (k : c.Takes d) : b.Takes d :=
  ⟨k.ready.trans h.ready, k.access.trans h.access, h.keeps.trans k.keeps⟩

section
variable (b : Block)

theorem Block.takes_unorder (f : TxFrame) : b.Takes (b.unorder f) := ⟨rfl, rfl, b.keeps_setMac _ _ _ (by simp)⟩

theorem Block.takes_modQ (n : Nat) (h : Queue → Queue) : b.Takes (b.modQ n h) := ⟨rfl, rfl, b.keeps_modQ n h _ _ (by simp) (by simp)⟩

theorem Block.takes_bump : b.Takes (b.bump R.MSH_FWD_COUNT) := ⟨rfl, rfl, b.keeps_bump _ _ _ (by simp)⟩

theorem Block.takes_takePacket (f : TxFrame) : b.Takes (b.takePacket f).2 := by
  unfold Block.takePacket
  split
  · split
    · exact b.takes_modQ _ _
    · exact b.takes_modQ _ _
  · exact Block.Takes.refl b

/-- A frame as it is sent for another: the same header and payload, and up to `n` more frames that follow. -/
structure TxFrame.SentAs (f g : TxFrame) (n : Nat) : Prop where
  hdr : g.hdr = f.hdr
  payload : g.payload = f.payload
  follow : g.follow.length ≤ f.follow.length + n

theorem TxFrame.sentAs_self (f : TxFrame) (n : Nat) : f.SentAs f n := ⟨rfl, rfl, Nat.le_add_right _ _⟩

theorem TxFrame.SentAs.trans {f g h : TxFrame} {m n : Nat} (hg : f.SentAs g m) (hh : g.SentAs h n) : f.SentAs h (m + n) :=
  ⟨hh.hdr.trans hg.hdr, hh.payload.trans hg.payload, hh.follow.trans (by have := hg.follow; omega)⟩

theorem Block.takePacket_sentAs (f : TxFrame) : f.SentAs (b.takePacket f).1 0 := by
  unfold Block.takePacket
  split
  · split
    · exact f.sentAs_self 0
    · exact ⟨rfl, rfl, Nat.le_refl _⟩
  · exact f.sentAs_self 0

/-- One more frame follows: the order without it. -/
def Block.takeFollow (g : TxFrame) : Block :=
  if g.src ≠ 0 ∧ g.counted = false then ((b.unorder g).takePacket g).2.bump R.MSH_FWD_COUNT else ((b.unorder g).takePacket g).2

theorem Block.takes_takeFollow (g : TxFrame) : b.Takes (b.takeFollow g) := by
  have hpacket := (b.takes_unorder g).trans ((b.unorder g).takes_takePacket g)
  unfold Block.takeFollow
  split
  · exact hpacket.trans (Block.takes_bump _)
  · exact hpacket

/-- The frame with one more that follows it. -/
def TxFrame.followedBy (f g : TxFrame) : TxFrame := { f with follow := f.follow ++ [(g.hdr, g.payload)] }

theorem TxFrame.followedBy_sentAs (f g : TxFrame) : f.SentAs (f.followedBy g) 1 := ⟨rfl, rfl, by simp [TxFrame.followedBy]⟩

theorem Block.addFollow_succ (n : Nat) (f : TxFrame) : Block.addFollow (n + 1) f b =
    match b.mac.order.find? (b.followsOn f) with
    | none => (f, b)
    | some g =>
      if b.permitted (f.followedBy g) ∧ b.budgetOk (f.followedBy g) then Block.addFollow n (f.followedBy g) (b.takeFollow g)
      else (f, b) := rfl

/-- Frames that follow are added one by one, `n` of them at most. -/
theorem Block.addFollow_takes (n : Nat) (f : TxFrame) : f.SentAs (Block.addFollow n f b).1 n ∧ b.Takes (Block.addFollow n f b).2 := by
  induction n generalizing f b with
  | zero => exact ⟨f.sentAs_self 0, Block.Takes.refl b⟩
  | succ n ih =>
    rw [Block.addFollow_succ]
    split
    · exact ⟨f.sentAs_self _, Block.Takes.refl b⟩
    · next g _ =>
      split
      · obtain ⟨hsent, htakes⟩ := ih (b.takeFollow g) (f.followedBy g)
        exact ⟨(Nat.add_comm 1 n) ▸ (f.followedBy_sentAs g).trans hsent, (b.takes_takeFollow g).trans htakes⟩
      · exact ⟨f.sentAs_self _, Block.Takes.refl b⟩

/-! The grant (R261). -/

/-- An interleaving that is asked for changes the header's span alone (R176). -/
theorem Block.disperse_eq (f : TxFrame) (span : Nat) :
    ∃ k, (k = f.hdr.span ∨ k = span) ∧ b.disperse f span = { f with hdr := { f.hdr with span := k } } := by
  unfold Block.disperse
  dsimp only
  split
  · exact ⟨span, .inr rfl, rfl⟩
  · exact ⟨f.hdr.span, .inl rfl, rfl⟩

/-- The frame as it is to be sent, with the interleaving asked for. -/
def Block.spanned (f : TxFrame) (span : Nat) : TxFrame := if span = 0 then f else b.disperse f span

theorem Block.spanned_eq (f : TxFrame) (span : Nat) :
    ∃ k, (k = f.hdr.span ∨ k = span) ∧ b.spanned f span = { f with hdr := { f.hdr with span := k } } := by
  unfold Block.spanned
  split
  · exact ⟨f.hdr.span, .inl rfl, rfl⟩
  · exact b.disperse_eq f span

/-- The frame and the block as the frame's packet is taken, and the frames that follow it. -/
def Block.taken (f : TxFrame) (span train : Nat) : TxFrame × Block :=
  let p := (b.unorder f).takePacket (b.spanned f span)
  if p.1.hdr.span = 0 ∧ p.1.sealed = false then Block.addFollow (min train 255) p.1 p.2 else p

theorem Block.grantFrame_eq (f : TxFrame) (span train : Nat) :
    b.grantFrame f span train = ((b.taken f span train).2.clearAccess f.band).makeReady (b.taken f span train).1 := rfl

theorem Block.taken_takes (f : TxFrame) (span train : Nat) :
    (b.spanned f span).SentAs (b.taken f span train).1 (min train 255) ∧ b.Takes (b.taken f span train).2 := by
  have hsent := (b.unorder f).takePacket_sentAs (b.spanned f span)
  have htakes := (b.takes_unorder f).trans ((b.unorder f).takes_takePacket (b.spanned f span))
  unfold Block.taken
  dsimp only
  split
  · obtain ⟨hmore, hkeep⟩ := Block.addFollow_takes ((b.unorder f).takePacket (b.spanned f span)).2 (min train 255)
      ((b.unorder f).takePacket (b.spanned f span)).1
    have hall := hsent.trans hmore
    rw [Nat.zero_add] at hall
    exact ⟨hall, htakes.trans hkeep⟩
  · exact ⟨⟨hsent.hdr, hsent.payload, hsent.follow.trans (by omega)⟩, htakes⟩

/-- Alone, and with no interleaving, a frame of no queue is sent as it is. -/
theorem Block.taken_alone (f : TxFrame) (h : f.queue = none) : b.taken f 0 0 = (f, b.unorder f) := by
  have hpacket : (b.unorder f).takePacket f = (f, b.unorder f) := by rw [Block.takePacket, h]
  rw [Block.taken, Block.spanned, if_pos rfl, hpacket]
  exact ite_self _

end

section
variable {b : Block} {f : TxFrame}

/-- A grant ends the access, and the frame is ready to start (R261). -/
theorem Block.grantFrame_sends (h : f.band < b.mac.access.length) (span train : Nat) :
    ∃ g k, (k = f.hdr.span ∨ k = span) ∧ ({ f with hdr := { f.hdr with span := k } } : TxFrame).SentAs g (min train 255) ∧
      (b.grantFrame f span train).mac.ready = b.mac.ready ++ [g] ∧ ((b.grantFrame f span train).access f.band).count = none ∧
      b.Keeps (b.grantFrame f span train) [R.MSH_FWD_COUNT] [.mac, .queues, .records] := by
  obtain ⟨hsent, htakes⟩ := b.taken_takes f span train
  obtain ⟨k, hk, hspan⟩ := b.spanned_eq f span
  rw [b.grantFrame_eq]
  refine ⟨_, k, hk, hspan ▸ hsent, congrArg (· ++ [_]) htakes.ready, ?_, htakes.keeps.trans ?_⟩
  · exact congrArg ChanAccess.count (Block.access_modAccess (b.taken f span train).2 f.band _ (htakes.access ▸ h))
  · exact (((b.taken f span train).2.keeps_setMac _ _ _ (by simp)).trans (Block.keeps_setMac _ _ _ _ (by simp)))

/-- Alone, and with no interleaving, a frame of no queue leaves the order as it is. -/
theorem Block.grantFrame_alone (b : Block) (h : f.queue = none) : b.grantFrame f 0 0 = ((b.unorder f).clearAccess f.band).makeReady f := by
  rw [b.grantFrame_eq, b.taken_alone f h]

end
end Sys2Proof.Machine
end

section
/-! CONTENTION_ACCESS (R261, R262, R303): one unit boundary of a band. -/

namespace Sys2Proof.Machine

section
variable {b : Block} {band : Nat} {f g : TxFrame}

/-- The frame whose turn it is on a band: the first of its order that may go. -/
structure Block.Turn (b : Block) (band : Nat) (f : TxFrame) : Prop where
  sync : b.syncOrder = b
  reply : (b.access band).forReply = false
  first : b.mac.order.find? (fun f => f.band == band && f.kind == .other && !b.peerBusy f && b.queueTurn f) = some f

theorem Block.Turn.band_eq (h : b.Turn band f) : f.band = band := by
  have hgo := List.find?_some h.first
  simp only [Bool.and_eq_true, beq_iff_eq] at hgo
  exact hgo.1.1.1

/-- The access of a frame, with its mode chosen and not too long for the band (R262). -/
def Block.contendMode (b : Block) (band rng span train : Nat) (f : TxFrame) : Block :=
  if (b.remode f).2.hasGrid ∧ (b.remode f).2.tooLong (b.remode f).1 then
    let p := ((b.remode f).2.unorder (b.remode f).1).takePacket (b.remode f).1
    ((p.2.clearAccess band).count R.MAC_TOO_LONG_COUNT R.MAC_TROUBLE_TOO_LONG).unacked p.1
  else (b.remode f).2.contend (b.remode f).1 rng span train

/-- The access of a frame whose next hop is decided. -/
def Block.contendHop (band rng span train : Nat) : Option TxFrame × Block → Block
  | (none, b) => b
  | (some f, b) => if f.band ≠ band then b else b.contendMode band rng span train f

theorem Block.Turn.contention_eq (h : b.Turn band f) (rng span train : Nat) :
    b.contention band rng span train = Block.contendHop band rng span train (b.rehop f) := by
  rw [Block.contention]
  dsimp only
  rw [h.sync, if_neg (by simp [h.reply]), h.first]
  rfl

/-- The mode of a frame is chosen for its peer; nothing else of the frame changes, and nothing but the order. -/
theorem Block.remode_eq (b : Block) (f : TxFrame) :
    ∃ m o, b.remode f = ({ f with hdr := { f.hdr with mode := m } }, b.accessing o b.mac.access) := by
  unfold Block.remode
  split
  · exact ⟨f.hdr.mode, b.mac.order, rfl⟩
  · exact ⟨_, _, rfl⟩

/-- A frame of the node's own hop contends with its mode (R203). -/
theorem Block.Turn.contention_final (h : b.Turn band f) (hfinal : f.final = 0) (hlong : b.tooLong (b.remode f).1 = false)
    (rng span train : Nat) : b.contention band rng span train = (b.remode f).2.contend (b.remode f).1 rng span train := by
  have hhop : b.rehop f = (some f, b) := if_pos hfinal
  obtain ⟨m, o, hmode⟩ := b.remode_eq f
  have hshort : (b.remode f).2.tooLong (b.remode f).1 = false := by rw [← hlong, hmode, Block.accessing_tooLong]
  rw [h.contention_eq, hhop, Block.contendHop, if_neg (not_not.2 h.band_eq), Block.contendMode, if_neg (by simp [hshort])]

/-- What the frame's access needs of the block it needs of it with the mode chosen. -/
theorem Block.Turn.clear_remode {n : Nat} (h : b.Turn band f) (hperm : b.permitted (b.remode f).1 = true)
    (hbudget : b.budgetOk (b.remode f).1 = true) (hcount : (b.access band).count = some n) (hidle : b.busy band = false) :
    (b.remode f).2.Clear (b.remode f).1 n := by
  obtain rfl := h.band_eq
  obtain ⟨m, o, hmode⟩ := b.remode_eq f
  rw [hmode] at hperm hbudget ⊢
  exact ⟨(b.accessing_permitted _ _ _).trans hperm, hbudget, hcount, hidle⟩

/-- A frame of the mesh without a route is dropped (R303). -/
theorem Block.Turn.contention_noRoute (h : b.Turn band f) (hfinal : f.final ≠ 0) (hqueue : f.queue = none) (hhop : f.hdr.hop ≤ 31)
    (hroute : b.role = 2 ∧ f.src ≠ 0 ∨ b.nextHop f.final = none) (rng span train : Nat) :
    b.contention band rng span train = (b.unorder f).count R.MSH_NO_ROUTE_COUNT R.MSH_TROUBLE_NO_ROUTE := by
  have hnone : (if b.role = 2 ∧ f.src ≠ 0 then none else b.nextHop f.final) = none := by
    rcases hroute with hleaf | hnext
    · exact if_pos hleaf
    · rw [hnext, ite_self]
  have hdrop : b.dropFrame f = b.unorder f := by rw [Block.dropFrame, hqueue]
  rw [h.contention_eq, Block.rehop, if_neg hfinal, if_neg (not_lt.2 hhop), hnone, hdrop, Block.contendHop]

end

section
variable {s : State} {band : Nat} {f : TxFrame}

theorem exec_contentionAccess (hrun : s.blk.running = true) (rng span train : Nat) (d : Block)
    (h : s.blk.contention band rng span train = d) : exec (.contentionAccess band ⟨rng, span, train⟩) s = .next (s.run fun _ => d) :=
  exec_of_runOn (fun b => b.contention band rng span train) rfl d hrun h

/-- The frame whose turn it is may be sent, with `n` units left of its backoff. -/
structure State.MayGo (s : State) (band : Nat) (f : TxFrame) (n : Nat) : Prop where
  run : s.blk.running = true
  turn : s.blk.Turn band f
  final : f.final = 0
  short : s.blk.tooLong (s.blk.remode f).1 = false
  clear : (s.blk.remode f).2.Clear (s.blk.remode f).1 n

variable {n : Nat}

/-- The backoff goes on in the block with the mode chosen. -/
def Block.counted (b : Block) (f : TxFrame) (rng : Nat) : Block := (b.remode f).2.counting (b.remode f).1 rng

theorem Block.counted_eq (b : Block) (f : TxFrame) (rng : Nat) :
    ∃ l, b.counted f rng = b.accessing (b.remode f).2.mac.order l ∧ l.length = b.mac.access.length := by
  obtain ⟨m, o, hmode⟩ := b.remode_eq f
  rw [Block.counted, hmode]
  exact ⟨_, rfl, List.length_modify _ _ _⟩

/-- The drivers that a frame needs are enabled (R260). -/
def Block.DriversOn (b : Block) (band : Nat) (g : TxFrame) : Prop :=
  (if band = 0 then (b.portsFor g).map Load.drvH else [Load.drvL]).all b.loaded = true

theorem Block.DriversOn.remode {b : Block} (h : b.DriversOn f.band (b.remode f).1) :
    (if (b.remode f).1.band = 0 then ((b.remode f).2.portsFor (b.remode f).1).map Load.drvH else [Load.drvL]).all (b.remode f).2.loaded =
      true := by
  obtain ⟨m, o, hmode⟩ := b.remode_eq f
  rw [Block.DriversOn, hmode] at h
  rw [hmode]
  exact h

theorem State.MayGo.remode_band (h : s.MayGo band f n) : (s.blk.remode f).1.band = band := by
  obtain ⟨m, o, hmode⟩ := s.blk.remode_eq f
  rw [hmode]
  exact h.turn.band_eq

theorem State.MayGo.band_lt (h : s.MayGo band f n) (rng : Nat) : band < (s.blk.counted f rng).mac.access.length := by
  obtain ⟨m, o, hmode⟩ := s.blk.remode_eq f
  obtain ⟨l, hcounted, hlen⟩ := s.blk.counted_eq f rng
  have hin := h.remode_band ▸ Block.band_of_count h.clear.count
  rw [hmode] at hin
  rw [hcounted]
  exact hin.trans_eq hlen.symm

/-- With its drivers enabled a frame is granted at count zero. -/
theorem State.MayGo.contention_zero (h : s.MayGo band f 0) (hload : s.blk.DriversOn f.band (s.blk.remode f).1) (rng span train : Nat) :
    s.blk.contention band rng span train = (s.blk.counted f rng).grantFrame (s.blk.remode f).1 span train :=
  (h.turn.contention_final h.final h.short rng span train).trans (h.clear.contend_zero hload.remode rng span train)

theorem contentionAccess_sends (h : s.MayGo band f 0) (hload : s.blk.DriversOn f.band (s.blk.remode f).1) (rng span train : Nat) :
    ∃ t g, exec (.contentionAccess band ⟨rng, span, train⟩) s = .next t ∧ t.blk.mac.ready = s.blk.mac.ready ++ [g] ∧
      g.payload = f.payload ∧ g.hdr.dst = f.hdr.dst ∧ g.hdr.mode = (s.blk.remode f).1.hdr.mode ∧
      (g.hdr.span = f.hdr.span ∨ g.hdr.span = span) ∧ g.follow.length ≤ f.follow.length + min train 255 ∧
      (t.blk.access band).count = none ∧ s.Keeps t [R.MSH_FWD_COUNT] [.mac, .queues, .records] := by
  obtain ⟨m, o, hmode⟩ := s.blk.remode_eq f
  obtain ⟨l, hcounted, -⟩ := s.blk.counted_eq f rng
  have hband := h.remode_band
  obtain ⟨g, k, hk, hsent, hready, hcount, hkeep⟩ := Block.grantFrame_sends (hband.trans_lt (h.band_lt rng)) span train
  have hspan : (s.blk.remode f).1.hdr.span = f.hdr.span := by rw [hmode]
  refine ⟨_, g, exec_contentionAccess h.run rng span train _ (h.contention_zero hload rng span train), ?_, ?_, ?_, ?_, ?_, ?_, ?_,
    State.keeps_run s _ _ _ ?_⟩
  · rw [State.run_blk, Block.updateAlert_mac, hready, hcounted]
    rfl
  · exact hsent.payload.trans (by rw [hmode])
  · rw [hsent.hdr, hmode]
  · rw [hsent.hdr]
  · rw [hsent.hdr, ← hspan]
    exact hk
  · exact hsent.follow.trans_eq (by rw [hmode])
  · rw [State.run_blk, Block.access, Block.updateAlert_mac, ← hband]
    exact hcount
  · refine Block.Keeps.trans ?_ hkeep
    rw [hcounted]
    exact (s.blk.keeps_accessing _ _).widen _ _ (by simp) (by simp)

theorem contentionAccess_sendsAlone (h : s.MayGo band f 0) (hload : s.blk.DriversOn f.band (s.blk.remode f).1) (hqueue : f.queue = none)
    (rng : Nat) :
    ∃ t, exec (.contentionAccess band ⟨rng, 0, 0⟩) s = .next t ∧ t.blk.mac.ready = s.blk.mac.ready ++ [(s.blk.remode f).1] ∧
      t.blk.mac.order = (s.blk.remode f).2.mac.order.erase (s.blk.remode f).1 ∧ (t.blk.access band).count = none ∧ s.Keeps t [] [.mac] := by
  obtain ⟨m, o, hmode⟩ := s.blk.remode_eq f
  obtain ⟨l, hcounted, -⟩ := s.blk.counted_eq f rng
  have hband := h.remode_band
  have hfree : (s.blk.remode f).1.queue = none := by rw [hmode]; exact hqueue
  have hin := h.band_lt rng
  have hgrant := (h.contention_zero hload rng 0 0).trans ((s.blk.counted f rng).grantFrame_alone hfree)
  refine ⟨_, exec_contentionAccess h.run rng 0 0 _ hgrant, ?_, ?_, ?_, State.keeps_run s _ _ _ ?_⟩
  · rw [State.run_blk, Block.updateAlert_mac, hcounted]
    rfl
  · rw [State.run_blk, Block.updateAlert_mac, hcounted]
    rfl
  · rw [State.run_blk, Block.access, Block.updateAlert_mac, hband]
    exact congrArg ChanAccess.count (Block.access_modAccess ((s.blk.counted f rng).unorder (s.blk.remode f).1) band _ hin)
  · rw [hcounted]
    exact (s.blk.keeps_accessing _ _).trans (((Block.keeps_setMac _ _ _ _ (by simp)).trans (Block.keeps_setMac _ _ _ _ (by simp))).trans
      (Block.keeps_makeReady _ _))

theorem contentionAccess_counts (h : s.MayGo band f (n + 1)) (rng span train : Nat) :
    ∃ t, exec (.contentionAccess band ⟨rng, span, train⟩) s = .next t ∧ (t.blk.access band).count = some n ∧
      t.blk.mac.ready = s.blk.mac.ready ∧ t.blk.mac.order = (s.blk.remode f).2.mac.order ∧ s.Keeps t [] [.mac] := by
  obtain ⟨m, o, hmode⟩ := s.blk.remode_eq f
  obtain ⟨l, hcounted, -⟩ := s.blk.counted_eq f rng
  have hband := h.remode_band
  have hin := h.band_lt rng
  have hgo := (h.turn.contention_final h.final h.short rng span train).trans (h.clear.contend_succ rng span train)
  rw [← Block.counted, hband, h.clear.backoff rng, Nat.add_sub_cancel] at hgo
  refine ⟨_, exec_contentionAccess h.run rng span train _ hgo, ?_, ?_, ?_, State.keeps_run s _ _ _ ?_⟩
  · rw [State.run_blk, Block.access, Block.updateAlert_mac]
    exact congrArg ChanAccess.count ((s.blk.counted f rng).access_modAccess band _ hin)
  · rw [State.run_blk, Block.updateAlert_mac, hcounted]
    rfl
  · rw [State.run_blk, Block.updateAlert_mac, hcounted]
    rfl
  · rw [hcounted]
    exact (s.blk.keeps_accessing _ _).trans (Block.keeps_setMac _ _ _ _ (by simp))

theorem contentionAccess_noRoute (hrun : s.blk.running = true) (h : s.blk.Turn band f) (hfinal : f.final ≠ 0) (hqueue : f.queue = none)
    (hhop : f.hdr.hop ≤ 31) (hroute : s.blk.role = 2 ∧ f.src ≠ 0 ∨ s.blk.nextHop f.final = none) (rng span train : Nat) :
    ∃ t, exec (.contentionAccess band ⟨rng, span, train⟩) s = .next t ∧ t.blk.mac.order = s.blk.mac.order.erase f ∧
      t.blk.get R.MSH_NO_ROUTE_COUNT = (s.blk.get R.MSH_NO_ROUTE_COUNT + 1) % 2 ^ R.MSH_NO_ROUTE_COUNT.width ∧
      t.blk.get R.MSH_TROUBLE_NO_ROUTE = 1 ∧
      s.Keeps t ([R.MSH_NO_ROUTE_COUNT, R.MSH_TROUBLE_NO_ROUTE] ++ recordFields) [.mac, .records] := by
  have hcount := (s.blk.unorder f).keeps_count R.MSH_NO_ROUTE_COUNT R.MSH_TROUBLE_NO_ROUTE
  refine ⟨_, exec_contentionAccess hrun rng span train _ (h.contention_noRoute hfinal hqueue hhop hroute rng span train), ?_,
    (State.run_get s _ _ (by decide)).trans (Block.count_get_counter _ _ _ (by decide) (by decide) (by decide)),
    (State.run_get s _ _ (by decide)).trans (Block.count_get_sticky _ _ _ rfl (by decide) (by decide)), State.keeps_run s _ _ _ ?_⟩
  · rw [State.run_blk, Block.updateAlert_mac]
    exact congrArg MacUnit.order (hcount.2 .mac (by simp))
  · exact (s.blk.keeps_setMac _ _ _ (by simp)).trans (hcount.widen _ _ (List.Subset.refl _) (by simp))

end
end Sys2Proof.Machine
end

section
/-! A whole packet of an internal producer that its queue admits (R325, R326). -/

namespace Sys2Proof.Machine

section
variable (b : Block)

/-- A threshold that fires writes a record, and nothing else of the queues (R336, R464). -/
theorem Block.fireThreshold_records (n before : Nat) : b.Keeps (b.fireThreshold n before) recordFields [.records] :=
  Block.keeps_when ((b.keeps_stick R.QMG_THR_STAT n).widen _ _ (by decide) (List.Subset.refl _))

theorem Block.rewind_eq_self {ctx : Nat} (h : b.openOf ctx = none) : b.rewind ctx = b := by rw [Block.rewind, h]

/-- The queue is present and takes an internal producer's packet of `len` bytes (R325, R328, R341). -/
structure Block.TakesPacket (n len : Nat) : Prop where
  queue : 0 < n ∧ n < 4096
  present : (b.q n).capacity ≠ 0
  ready : (b.q n).refill = false ∧ (b.q n).bulk = false
  room : b.fill n + cellsOf len ≤ (b.q n).capacity

variable {b} {ctx n len : Nat}

theorem Block.TakesPacket.sop_eq (h : b.TakesPacket n len) (hopen : b.openOf ctx = none) (dest tag : Nat) : b.sop ctx n len dest tag =
    ((b.enterOpen { ctx := ctx, queue := n, maxLen := len, dest := dest, tag := tag }).answer ctx 0).fireThreshold n (b.fill n) := by
  have hmod : n % 4096 = n := Nat.mod_eq_of_lt h.queue.2
  have habsent : (b.q n).absent = false := by simp [Queue.absent, h.present]
  rw [Block.sop]
  dsimp only
  rw [b.rewind_eq_self hopen, hmod, if_neg (by simp [habsent]), if_neg (by simp [h.ready.1]), if_neg (by simp [h.ready.2]), if_pos h.room]
  rfl

/-- What a queue and the others hold after a packet is committed to it (R326). -/
structure Block.Commits (b c : Block) (ctx n : Nat) (p : Packet) : Prop where
  status : c.statusOf ctx = 7
  pkts : (c.q n).pkts = (b.q n).pkts ++ [p]
  others : ∀ k, k ≠ n → k ≠ 0 → c.q k = b.q k
  keeps : b.Keeps c recordFields [.queues, .records]

/-- The queue with a packet behind its tail. -/
def Queue.push (q : Queue) (p : Packet) : Queue := { q with pkts := q.pkts ++ [p] }

/-- The queue with the packet is all that a commit changes of the queues. -/
theorem Block.commit_q (c : Block) (ctx m : Nat) (p : Packet) (k : Nat) :
    ((((c.dropOpen ctx).modQ m fun q => q.push p).bump R.QMG_COMMIT_COUNT).answer ctx 7).q k = if k = m then (c.q k).push p else c.q k := by
  change ((c.dropOpen ctx).modQ m fun q => q.push p).q k = _
  split
  · next hk => exact hk ▸ (c.dropOpen ctx).q_modQ_self m _
  · next hk => exact (c.dropOpen ctx).q_modQ_ne m k _ hk

theorem Block.eop_commits {c : Block} {o : OpenPkt} {data : List Byte} (hopen : c.openOf ctx = some o) (hlen : data.length ≤ o.maxLen) :
    c.Commits (c.eop ctx data) ctx o.queue ⟨o.dest, o.tag, c.tickTag, data⟩ := by
  have heop : c.eop ctx data =
      (((c.dropOpen ctx).modQ o.queue fun q => q.push ⟨o.dest, o.tag, c.tickTag, data⟩).bump R.QMG_COMMIT_COUNT).answer ctx 7 := by
    rw [Block.eop, hopen]
    exact if_neg (by omega)
  rw [heop]
  refine ⟨Block.statusOf_answer _ _ _, ?_, fun k hk _ => ?_, ?_⟩
  · rw [c.commit_q, if_pos rfl, Queue.push]
  · rw [c.commit_q, if_neg hk]
  · exact (((c.keeps_dropOpen _ _ _ (by simp)).trans (Block.keeps_modQ _ _ _ _ _ (by simp) (by simp))).andSet _ _ (by decide)).trans
      (Block.keeps_answer _ _ _ _ _ (by simp))

/-- A packet that its queue admits is committed. -/
theorem Block.TakesPacket.put_commits {data : List Byte} (h : b.TakesPacket n data.length) (hopen : b.openOf ctx = none) (dest tag : Nat) :
    b.Commits (b.put ctx n dest tag data) ctx n ⟨dest, tag, b.tickTag, data⟩ := by
  have hsop := h.sop_eq hopen dest tag
  generalize ho : ({ ctx := ctx, queue := n, maxLen := data.length, dest := dest, tag := tag } : OpenPkt) = o at hsop
  have hfire := ((b.enterOpen o).answer ctx 0).fireThreshold_records n (b.fill n)
  obtain ⟨hq, hopened, hstatus⟩ := hfire.2 .queues (by simp)
  have hnew : (b.enterOpen o).openOf ctx = some o := by subst ho; exact b.enterOpen_openOf _ hopen
  rw [← hsop] at hfire hq hopened hstatus
  have hzero : (b.sop ctx n data.length dest tag).statusOf ctx = 0 := by
    rw [Block.statusOf, hstatus]
    exact Block.statusOf_answer _ _ _
  have hcur : (b.sop ctx n data.length dest tag).openOf ctx = some o := by
    rw [Block.openOf, hopened]
    exact hnew
  have htag : (b.sop ctx n data.length dest tag).tickTag = b.tickTag := congrArg (· % 65536) (hfire.1 R.GLB_TICK (by decide) (by decide))
  have heop := Block.eop_commits hcur (data := data) (by subst ho; exact Nat.le_refl _)
  have hkeep : b.Keeps (b.sop ctx n data.length dest tag) recordFields [.queues, .records] :=
    ((b.keeps_enterOpen o _ _ (by simp)).trans (Block.keeps_answer _ _ _ _ _ (by simp))).trans
      (hfire.widen _ _ (List.Subset.refl _) (by simp))
  have hput : b.put ctx n dest tag data = (b.sop ctx n data.length dest tag).eop ctx data := if_pos hzero
  rw [hput]
  subst ho
  rw [htag] at heop
  exact ⟨heop.status, heop.pkts.trans (by rw [hq n (by have := h.queue; omega)]; rfl),
    fun k hk h0 => (heop.others k hk h0).trans (hq k h0), hkeep.trans heop.keeps⟩

end
end Sys2Proof.Machine
end

section
/-! DATA_RX (R268, R270, R273, R274, R302): a delivered frame as it is checked, handed on and acknowledged; and the settlement of
`Obligations.AccessAndDelivery`. -/

namespace Sys2Proof.Machine

/-! A DATA or COMMAND frame that has been opened and checked. -/

/-- The first delivered DATA or COMMAND transmission `d`: its one frame `x` opens to `pl`, and the check of R273 answers `r`; `c` is the
block that it leaves. -/
structure Block.DataHeard (b : Block) (d : Delivered) (x : RxPart) (pl : List Byte) (r : DupResult) (c : Block) : Prop where
  parts : d.parts = [x]
  frame : b.Keeps c [] [.phy, .tables]
  delivered : c.phy.delivered = b.phy.delivered.erase d
  taken : ∃ b1 b2 tag, b.takeDelivered (fun d => d.hdr.ftype == 1 || d.hdr.ftype == 5) = some (d, b1) ∧
    b1.openPart d.hdr x false = (some (pl, tag), b2) ∧ b2.dupCheck d.hdr.src d.hdr.cls x.ctr x.epoch tag true = (r, c)

section
variable {b c : Block} {d : Delivered} {x : RxPart} {pl : List Byte} {r : DupResult}

theorem Block.dataHeard {b1 b2 : Block} {tag : Nat}
    (htake : b.takeDelivered (fun d => d.hdr.ftype == 1 || d.hdr.ftype == 5) = some (d, b1)) (hparts : d.parts = [x])
    (hopen : b1.openPart d.hdr x false = (some (pl, tag), b2))
    (hdup : b2.dupCheck d.hdr.src d.hdr.cls x.ctr x.epoch tag true = (r, c)) : b.DataHeard d x pl r c := by
  have hcheck : b2.Keeps c [] [.tables] := by
    have h := b2.keeps_dupCheck d.hdr.src d.hdr.cls x.ctr x.epoch tag true
    rwa [hdup] at h
  have hread : b1.Keeps c [] [.tables] := (b1.keeps_openPart hopen).trans hcheck
  have hdrop := b.takeDelivered_inv htake
  refine ⟨hparts, ?_, ?_, b1, b2, tag, htake, hopen, hdup⟩
  · exact (hdrop ▸ b.keeps_dropDelivered d _ _ (by simp)).trans (hread.widen _ _ (List.Subset.refl _) (by simp))
  · rw [show c.phy = b1.phy from hread.2 .phy (by simp), hdrop]
    rfl

/-- The acknowledgement of a transmission, up to a counter (R268, R270). -/
def Block.acknowledges (d : Delivered) : Option Nat × Block → Block
  | (none, b) => b
  | (some k, b) =>
    if d.parts.any (fun x => x.ackReq && decide (x.ctr ≤ k)) && d.hdr.dst == b.short && !groupAddr d.hdr.dst then
      (if d.hdr.cls = 1 then b.queueAck d k else b.queueBlockAck d)
    else b

/-- The frames from the sender and the origin reached the node (R265). -/
def Block.heardBoth (b : Block) (d : Delivered) (pl : List Byte) : Block := (b.heard d.hdr.src).heard (leAt pl 2 2)

theorem Block.DataHeard.dataRx_eq (h : b.DataHeard d x pl r c) (q : Nat) : ∃ b1,
    b.dataRx q = Block.acknowledges d (Block.rxParts d q d.parts true none b1) ∧
    ∃ b2 tag, b1.openPart d.hdr x false = (some (pl, tag), b2) ∧ b2.dupCheck d.hdr.src d.hdr.cls x.ctr x.epoch tag true = (r, c) := by
  obtain ⟨b1, b2, tag, htake, hopen, hdup⟩ := h.taken
  refine ⟨b1, ?_, b2, tag, hopen, hdup⟩
  rw [Block.dataRx, htake]
  dsimp only
  generalize Block.rxParts d q d.parts true none b1 = p
  obtain ⟨_ | k, p⟩ := p
  · rfl
  · rfl

/-- A duplicate is counted, and acknowledged again (R273). -/
theorem Block.DataHeard.dataRx_duplicate (h : b.DataHeard d x pl .duplicate c) (q : Nat) :
    b.dataRx q = Block.acknowledges d (some x.ctr, c.bump R.MAC_DUP_COUNT) := by
  obtain ⟨b1, hrx, b2, tag, hopen, hdup⟩ := h.dataRx_eq q
  rw [hrx, h.parts, Block.rxParts, hopen]
  dsimp only
  rw [hdup]
  rfl

/-- A replay is counted, and nothing acknowledges it (R273). -/
theorem Block.DataHeard.dataRx_replay (h : b.DataHeard d x pl .replay c) (q : Nat) :
    b.dataRx q = (c.count R.MAC_REPLAY_COUNT R.MAC_TROUBLE_REPLAY).add R.MAC_ORDER_DROP_COUNT 0 := by
  obtain ⟨b1, hrx, b2, tag, hopen, hdup⟩ := h.dataRx_eq q
  rw [hrx, h.parts, Block.rxParts, hopen]
  dsimp only
  rw [hdup]
  rfl

/-- An accepted frame that is handed on is delivered (R273, R302). -/
theorem Block.DataHeard.dataRx_committed {c2 : Block} (h : b.DataHeard d x pl .accept c) (q : Nat)
    (hhand : (c.heardBoth d pl).handOn d pl q = (.committed, c2)) :
    b.dataRx q = Block.acknowledges d (some x.ctr, c2.markDelivered d.hdr.src d.hdr.cls x.ctr) := by
  obtain ⟨b1, hrx, b2, tag, hopen, hdup⟩ := h.dataRx_eq q
  rw [hrx, h.parts, Block.rxParts, hopen]
  dsimp only
  rw [hdup]
  dsimp only
  rw [show (c.heard d.hdr.src).heard (leAt pl 2 2) = c.heardBoth d pl from rfl, hhand]
  rfl

end

/-! What is acknowledged (R268, R270). -/

section
variable {b : Block} {d : Delivered} {x : RxPart}

/-- A frame to the node alone that asks for an acknowledgement. -/
structure Block.Wants (b : Block) (d : Delivered) (x : RxPart) : Prop where
  parts : d.parts = [x]
  asked : x.ackReq = true
  own : d.hdr.dst = b.short
  single : groupAddr d.hdr.dst = false

theorem Block.Wants.acknowledges_eq (h : b.Wants d x) :
    Block.acknowledges d (some x.ctr, b) = if d.hdr.cls = 1 then b.queueAck d x.ctr else b.queueBlockAck d :=
  if_pos (by simp [h.parts, h.asked, ← h.own, h.single])

theorem Block.acknowledges_unasked (b : Block) (hparts : d.parts = [x]) (hask : x.ackReq = false) (k : Nat) :
    Block.acknowledges d (some k, b) = b := if_neg (by simp [hparts, hask])

/-- A BLOCK_ACK takes the place of one that its peer has in the order (R270). -/
theorem Block.queueBlockAck_eq (b : Block) (d : Delivered) : ∃ a, b.queueBlockAck d =
      b.setMac { b.mac with
        order := b.mac.order.filter (fun g => ¬(g.kind = .blockAck ∧ g.hdr.dst = d.hdr.src ∧ g.band = d.band)) ++ [a] } ∧
      a.kind = .blockAck ∧ a.band = d.band ∧ a.hdr.dst = d.hdr.src ∧ a.after = b.tick + max (b.get R.MAC_BA_BA_WAIT) 1 :=
  ⟨_, rfl, rfl, rfl, rfl, rfl⟩

end

/-! A frame is handed on (R302). -/

section
variable (b : Block)

/-- The coordinator notes what it heard in its node table, and a lost node's return in its counts (R265, R307). -/
theorem Block.keeps_heard (a : Nat) : b.Keeps (b.heard a) nodeCountFields [.tables, .mesh] := by
  have hset (c : Block) (n k v : Nat) : c.Keeps (c.setNode a n k v) nodeCountFields [.tables, .mesh] :=
    (c.keeps_setTab _ _ _).widen _ _ (by simp) (by simp)
  refine Block.keeps_when ((hset b _ _ _).trans (Block.keeps_when ?_))
  exact (((hset _ _ _ _).trans (hset _ _ _ _)).trans (Block.keeps_showMesh _ _)).trans (Block.keeps_setMesh _ _ _ _ (by simp))

theorem Block.keeps_heardBoth (d : Delivered) (pl : List Byte) : b.Keeps (b.heardBoth d pl) nodeCountFields [.tables, .mesh] :=
  (b.keeps_heard _).trans (Block.keeps_heard _ _)

variable {b} {d : Delivered} {pl : List Byte}

theorem Block.handOn_nil (q : Nat) : b.handOn d [] q = (.committed, b) := if_pos rfl

theorem Block.handOn_own (hlen : 6 ≤ pl.length) (hfinal : leAt pl 0 2 = b.short) (hsingle : groupAddr b.short = false) (q : Nat) :
    b.handOn d pl q = b.handOwn d pl q := by
  rw [Block.handOn, if_neg (by omega), if_neg (by omega)]
  dsimp only
  rw [hfinal, if_neg (by simp [hsingle]), if_pos rfl]

/-- A command as it is kept for its own operation. -/
def cmdOf (d : Delivered) (pl : List Byte) : CmdMsg := ⟨leAt pl 6 1, leAt pl 2 2, d.hdr.src, d.band, d.port, pl.drop 8⟩

theorem Block.handOwn_command (htype : d.hdr.ftype = 5) (hlen : 8 ≤ pl.length) (hcode : commandCode (leAt pl 6 1) = true) (q : Nat) :
    b.handOwn d pl q = (.committed, b.setMac { b.mac with commands := b.mac.commands ++ [cmdOf d pl] }) := by
  rw [Block.handOwn, if_pos htype]
  dsimp only
  rw [if_neg (by omega), if_neg (by simp [hcode])]
  rfl

theorem Block.handOwn_data (htype : d.hdr.ftype = 1) (hcus : ∀ k, (b.cus k).present = false) (q : Nat)
    (hput : (b.put ctxMac q 0 0 (pl.drop 6)).statusOf ctxMac = 7) :
    b.handOwn d pl q = (.committed, b.put ctxMac q 0 0 (pl.drop 6)) := by
  rw [Block.handOwn, if_neg (by omega)]
  dsimp only
  rw [if_neg (by simp [hcus]), if_pos hput]

end

/-! The command. -/

section
variable {s : State} {c : Block} {d : Delivered} {x : RxPart} {pl : List Byte} {q : Nat}

theorem exec_dataRx (hrun : s.blk.running = true) (e : Block) (h : s.blk.dataRx q = e) : exec (.dataRx q) s = .next (s.run fun _ => e) :=
  exec_of_runOn (fun b => b.dataRx q) rfl e hrun h

theorem Block.DataHeard.mac_eq {b : Block} {r : DupResult} (h : b.DataHeard d x pl r c) : c.mac = b.mac := h.frame.2 .mac (by decide)

theorem Block.DataHeard.keeps_heardBoth {b : Block} {r : DupResult} (h : b.DataHeard d x pl r c) :
    b.Keeps (c.heardBoth d pl) nodeCountFields [.phy, .tables, .mesh] :=
  (h.frame.widen _ _ (by simp) (by simp)).trans ((c.keeps_heardBoth d pl).widen _ _ (List.Subset.refl _) (by simp))

theorem Block.DataHeard.heardBoth_phy {b : Block} {r : DupResult} (h : b.DataHeard d x pl r c) :
    (c.heardBoth d pl).phy.delivered = b.phy.delivered.erase d :=
  (congrArg PhyUnit.delivered ((c.keeps_heardBoth d pl).2 .phy (by decide))).trans h.delivered

/-- A frame without payload is delivered as it is accepted. -/
def Block.deliveredEmpty (c : Block) (d : Delivered) (k : Nat) : Block := (c.heardBoth d []).markDelivered d.hdr.src d.hdr.cls k

theorem Block.DataHeard.keeps_deliveredEmpty {b : Block} {r : DupResult} (h : b.DataHeard d x [] r c) (k : Nat) :
    b.Keeps (c.deliveredEmpty d k) nodeCountFields [.phy, .tables, .mesh] :=
  h.keeps_heardBoth.trans ((Block.keeps_markDelivered _ _ _ _).widen _ _ (by simp) (by simp))

/-- What is done with an acknowledgement's frame leaves what is delivered. -/
theorem dataRx_delivered (e : Block) (h : e.phy.delivered = s.blk.phy.delivered.erase d) :
    (s.run fun _ => e).blk.phy.delivered = s.blk.phy.delivered.erase d := by
  rw [State.run_blk, Block.updateAlert_phy, h]

/-- The delivery of a frame leaves the queues. -/
theorem run_markDelivered_q (e : Block) (a cls k n : Nat) : (s.run fun _ => e.markDelivered a cls k).blk.q n = e.q n := by
  have hset (b : Block) (a m v : Nat) : (b.setTab a m v).q n = b.q n := rfl
  rw [State.run_blk, Block.q, Block.updateAlert_queue, ← Block.q, Block.markDelivered, hset, hset]

theorem dataRx_acks (hrun : s.blk.running = true) (h : s.blk.DataHeard d x [] .accept c) (hwant : s.blk.Wants d x) (hcls : d.hdr.cls = 1) :
    ∃ t a, exec (.dataRx q) s = .next t ∧ t.blk.mac.order = s.blk.mac.order ++ [a] ∧ a.kind = .ack ∧ a.band = d.band ∧
      a.hdr.dst = d.hdr.src ∧ a.hdr.ctr = x.ctr ∧ a.after = d.tick ∧ t.blk.phy.delivered = s.blk.phy.delivered.erase d ∧
      s.Keeps t nodeCountFields [.phy, .mac, .tables, .mesh] := by
  have hkeep := h.keeps_deliveredEmpty x.ctr
  have hmac : (c.deliveredEmpty d x.ctr).mac = s.blk.mac := hkeep.2 .mac (by decide)
  have hshort : (c.deliveredEmpty d x.ctr).short = s.blk.short := hkeep.1 _ (by decide) (by decide)
  have hack : (c.deliveredEmpty d x.ctr).Wants d x := { hwant with own := hwant.own.trans hshort.symm }
  obtain ⟨a, ha, hkind, hband, hdst, hctr, hafter⟩ := (c.deliveredEmpty d x.ctr).queueAck_eq d x.ctr
  have hrx : s.blk.dataRx q = (c.deliveredEmpty d x.ctr).enqueue a :=
    ((h.dataRx_committed q (Block.handOn_nil q)).trans hack.acknowledges_eq).trans ((if_pos hcls).trans ha)
  refine ⟨_, a, exec_dataRx hrun _ hrx, ?_, hkind, hband, hdst, hctr, hafter, dataRx_delivered _ h.heardBoth_phy, State.keeps_run s _ _ _ ?_⟩
  · rw [State.run_blk, Block.updateAlert_mac, Block.enqueue_order, hmac]
  · exact (hkeep.widen _ _ (List.Subset.refl _) (by simp)).trans ((Block.keeps_enqueue _ a).widen _ _ (by simp) (by simp))

theorem dataRx_blockAcks (hrun : s.blk.running = true) (h : s.blk.DataHeard d x [] .accept c) (hwant : s.blk.Wants d x)
    (hcls : d.hdr.cls = 0) :
    ∃ t a, exec (.dataRx q) s = .next t ∧ a.kind = .blockAck ∧ a.band = d.band ∧ a.hdr.dst = d.hdr.src ∧
      a.after = s.blk.tick + max (s.blk.get R.MAC_BA_BA_WAIT) 1 ∧
      t.blk.mac.order =
        s.blk.mac.order.filter (fun g => ¬(g.kind = .blockAck ∧ g.hdr.dst = d.hdr.src ∧ g.band = d.band)) ++ [a] ∧
      t.blk.phy.delivered = s.blk.phy.delivered.erase d ∧ s.Keeps t nodeCountFields [.phy, .mac, .tables, .mesh] := by
  have hkeep := h.keeps_deliveredEmpty x.ctr
  have hmac : (c.deliveredEmpty d x.ctr).mac = s.blk.mac := hkeep.2 .mac (by decide)
  have hshort : (c.deliveredEmpty d x.ctr).short = s.blk.short := hkeep.1 _ (by decide) (by decide)
  have htick : (c.deliveredEmpty d x.ctr).tick = s.blk.tick := hkeep.1 _ (by decide) (by decide)
  have hwait : (c.deliveredEmpty d x.ctr).get R.MAC_BA_BA_WAIT = s.blk.get R.MAC_BA_BA_WAIT := hkeep.1 _ (by decide) (by decide)
  have hack : (c.deliveredEmpty d x.ctr).Wants d x := { hwant with own := hwant.own.trans hshort.symm }
  obtain ⟨a, ha, hkind, hband, hdst, hafter⟩ := (c.deliveredEmpty d x.ctr).queueBlockAck_eq d
  have hrx := ((h.dataRx_committed q (Block.handOn_nil q)).trans hack.acknowledges_eq).trans ((if_neg (by omega)).trans ha)
  refine ⟨_, a, exec_dataRx hrun _ hrx, hkind, hband, hdst, by rw [hafter, htick, hwait], ?_, dataRx_delivered _ h.heardBoth_phy,
    State.keeps_run s _ _ _ ?_⟩
  · rw [State.run_blk, Block.updateAlert_mac, Block.setMac_mac, hmac]
  · exact (hkeep.widen _ _ (List.Subset.refl _) (by simp)).trans (Block.keeps_setMac _ _ _ _ (by simp))

theorem dataRx_acksDuplicate (hrun : s.blk.running = true) (h : s.blk.DataHeard d x pl .duplicate c) (hwant : s.blk.Wants d x)
    (hcls : d.hdr.cls = 1) :
    ∃ t a, exec (.dataRx q) s = .next t ∧ t.blk.mac.order = s.blk.mac.order ++ [a] ∧ a.kind = .ack ∧ a.hdr.dst = d.hdr.src ∧
      a.hdr.ctr = x.ctr ∧ t.blk.get R.MAC_DUP_COUNT = (s.blk.get R.MAC_DUP_COUNT + 1) % 2 ^ R.MAC_DUP_COUNT.width ∧
      t.blk.phy.delivered = s.blk.phy.delivered.erase d ∧ s.Keeps t [R.MAC_DUP_COUNT] [.phy, .mac, .tables] := by
  have hshort : (c.bump R.MAC_DUP_COUNT).short = s.blk.short :=
    (Block.get_set_ne c _ _ _ (by decide)).trans (h.frame.1 _ (by decide) (by decide))
  have hack : (c.bump R.MAC_DUP_COUNT).Wants d x := { hwant with own := hwant.own.trans hshort.symm }
  obtain ⟨a, ha, hkind, -, hdst, hctr, -⟩ := (c.bump R.MAC_DUP_COUNT).queueAck_eq d x.ctr
  have hrx : s.blk.dataRx q = (c.bump R.MAC_DUP_COUNT).enqueue a :=
    ((h.dataRx_duplicate q).trans hack.acknowledges_eq).trans ((if_pos hcls).trans ha)
  refine ⟨_, a, exec_dataRx hrun _ hrx, ?_, hkind, hdst, hctr, ?_, dataRx_delivered _ h.delivered, State.keeps_run s _ _ _ ?_⟩
  · rw [State.run_blk, Block.updateAlert_mac, Block.enqueue_order, ← h.mac_eq]
    rfl
  · rw [State.run_get s _ _ (by decide), ← h.frame.1 R.MAC_DUP_COUNT (by decide) (by decide)]
    exact c.bump_get R.MAC_DUP_COUNT
  · exact ((h.frame.widen _ _ (by simp) (by simp)).trans (c.keeps_bump _ _ _ (by simp))).trans
      ((Block.keeps_enqueue _ a).widen _ _ (by simp) (by simp))

theorem dataRx_countsReplay (hrun : s.blk.running = true) (h : s.blk.DataHeard d x pl .replay c) :
    ∃ t, exec (.dataRx q) s = .next t ∧ t.blk.phy.delivered = s.blk.phy.delivered.erase d ∧
      t.blk.get R.MAC_REPLAY_COUNT = (s.blk.get R.MAC_REPLAY_COUNT + 1) % 2 ^ R.MAC_REPLAY_COUNT.width ∧
      t.blk.get R.MAC_TROUBLE_REPLAY = 1 ∧
      s.Keeps t ([R.MAC_REPLAY_COUNT, R.MAC_TROUBLE_REPLAY, R.MAC_ORDER_DROP_COUNT] ++ recordFields) [.phy, .tables, .records] := by
  have hcount := c.keeps_count R.MAC_REPLAY_COUNT R.MAC_TROUBLE_REPLAY
  have hother (f : Field) (hf : f.key ≠ R.MAC_ORDER_DROP_COUNT.key) := Block.get_set_ne (c.count R.MAC_REPLAY_COUNT R.MAC_TROUBLE_REPLAY)
    R.MAC_ORDER_DROP_COUNT f ((c.count R.MAC_REPLAY_COUNT R.MAC_TROUBLE_REPLAY).get R.MAC_ORDER_DROP_COUNT + 0) hf
  refine ⟨_, exec_dataRx hrun _ (h.dataRx_replay q), dataRx_delivered _ ?_, ?_, ?_, State.keeps_run s _ _ _ ?_⟩
  · exact (congrArg PhyUnit.delivered (hcount.2 .phy (by decide))).trans h.delivered
  · rw [State.run_get s _ _ (by decide), ← h.frame.1 R.MAC_REPLAY_COUNT (by decide) (by decide)]
    exact (hother _ (by decide)).trans (c.count_get_counter _ _ (by decide) (by decide) (by decide))
  · rw [State.run_get s _ _ (by decide)]
    exact (hother _ (by decide)).trans (c.count_get_sticky _ _ rfl (by decide) (by decide))
  · exact (h.frame.widen _ _ (by simp) (by simp)).trans ((hcount.widen _ _ (by decide) (by simp)).trans (Block.keeps_set _ _ _ _ _ (by simp)))

/-- A frame for the node itself, once heard (R302). -/
theorem Block.DataHeard.handOn_own {b : Block} {r : DupResult} (h : b.DataHeard d x pl r c) (hlen : 6 ≤ pl.length)
    (hfinal : leAt pl 0 2 = b.short) (hsingle : groupAddr b.short = false) :
    (c.heardBoth d pl).handOn d pl q = (c.heardBoth d pl).handOwn d pl q := by
  have hshort : (c.heardBoth d pl).short = b.short := h.keeps_heardBoth.1 _ (by decide) (by decide)
  exact Block.handOn_own hlen (hfinal.trans hshort.symm) (hshort.symm ▸ hsingle) q

theorem dataRx_keepsCommand (hrun : s.blk.running = true) (h : s.blk.DataHeard d x pl .accept c) (htype : d.hdr.ftype = 5)
    (hask : x.ackReq = false) (hlen : 8 ≤ pl.length) (hfinal : leAt pl 0 2 = s.blk.short) (hsingle : groupAddr s.blk.short = false)
    (hcode : commandCode (leAt pl 6 1) = true) :
    ∃ t, exec (.dataRx q) s = .next t ∧ t.blk.mac.commands = s.blk.mac.commands ++ [cmdOf d pl] ∧
      t.blk.phy.delivered = s.blk.phy.delivered.erase d ∧ s.Keeps t nodeCountFields [.phy, .mac, .tables, .mesh] := by
  have hmac : (c.heardBoth d pl).mac = s.blk.mac := h.keeps_heardBoth.2 .mac (by decide)
  have hhand := (h.handOn_own (q := q) (by omega) hfinal hsingle).trans (Block.handOwn_command htype hlen hcode q)
  have hrx := (h.dataRx_committed q hhand).trans (Block.acknowledges_unasked _ h.parts hask _)
  refine ⟨_, exec_dataRx hrun _ hrx, ?_, dataRx_delivered _ h.heardBoth_phy, State.keeps_run s _ _ _ ?_⟩
  · rw [State.run_blk, Block.updateAlert_mac, ← hmac]
    rfl
  · exact ((h.keeps_heardBoth.widen _ _ (List.Subset.refl _) (by simp)).trans (Block.keeps_setMac _ _ _ _ (by simp))).trans
      ((Block.keeps_markDelivered _ _ _ _).widen _ _ (by simp) (by simp))

theorem dataRx_commitsData (hrun : s.blk.running = true) (h : s.blk.DataHeard d x pl .accept c) (htype : d.hdr.ftype = 1)
    (hask : x.ackReq = false) (hlen : 6 ≤ pl.length) (hfinal : leAt pl 0 2 = s.blk.short) (hsingle : groupAddr s.blk.short = false)
    (hcus : ∀ k, (s.blk.cus k).present = false) (hqueue : s.blk.TakesPacket q (pl.length - 6)) (hopen : s.blk.openOf ctxMac = none) :
    ∃ t, exec (.dataRx q) s = .next t ∧ (t.blk.q q).pkts = (s.blk.q q).pkts ++ [⟨0, 0, s.blk.tickTag, pl.drop 6⟩] ∧
      t.blk.phy.delivered = s.blk.phy.delivered.erase d ∧ (∀ n, n ≠ q → n ≠ 0 → t.blk.q n = s.blk.q n) ∧
      s.Keeps t (nodeCountFields ++ recordFields) [.phy, .mac, .tables, .mesh, .queues, .records] := by
  have hkeep := h.keeps_heardBoth
  obtain ⟨hq, hopened, -⟩ := hkeep.2 .queues (by decide)
  have htag : (c.heardBoth d pl).tickTag = s.blk.tickTag := congrArg (· % 65536) (hkeep.1 R.GLB_TICK (by decide) (by decide))
  have hself := hq q (by have := hqueue.queue; omega)
  have htakes : (c.heardBoth d pl).TakesPacket q (pl.drop 6).length := by
    rw [List.length_drop]
    obtain ⟨hn, hpresent, hready, hroom⟩ := hqueue
    refine ⟨hn, hself ▸ hpresent, hself ▸ hready, ?_⟩
    rw [Block.fill, Block.openCells, hself, hopened]
    exact hroom
  have hnone : (c.heardBoth d pl).openOf ctxMac = none := by rw [Block.openOf, hopened]; exact hopen
  have hchan (k : Nat) : ((c.heardBoth d pl).cus k).present = false := by
    rw [Block.cus, show (c.heardBoth d pl).custody = s.blk.custody from hkeep.2 .custody (by decide)]
    exact hcus k
  have hput := htakes.put_commits hnone 0 0
  have hhand := (h.handOn_own (q := q) hlen hfinal hsingle).trans (Block.handOwn_data htype hchan q hput.status)
  have hrx := (h.dataRx_committed q hhand).trans (Block.acknowledges_unasked _ h.parts hask _)
  have hall : s.blk.Keeps (((c.heardBoth d pl).put ctxMac q 0 0 (pl.drop 6)).markDelivered d.hdr.src d.hdr.cls x.ctr)
      (nodeCountFields ++ recordFields) [.phy, .tables, .mesh, .queues, .records] :=
    ((hkeep.widen _ _ (by simp) (by simp)).trans (hput.keeps.widen _ _ (by simp) (by simp))).trans
      ((Block.keeps_markDelivered _ _ _ _).widen _ _ (by simp) (by simp))
  have hphy := ((hput.keeps.widen recordFields [.tables, .queues, .records] (List.Subset.refl _) (by simp)).trans
    ((Block.keeps_markDelivered _ d.hdr.src d.hdr.cls x.ctr).widen _ _ (by simp) (by simp))).2 .phy (by decide)
  refine ⟨_, exec_dataRx hrun _ hrx, ?_, dataRx_delivered _ ((congrArg PhyUnit.delivered hphy).trans h.heardBoth_phy), fun n hn h0 => ?_,
    State.keeps_run s _ _ _ ?_⟩
  · rw [run_markDelivered_q, hput.pkts, hself, htag]
  · rw [run_markDelivered_q, hput.others n hn h0, hq n h0]
  · exact hall.widen _ _ (List.Subset.refl _) (by simp)

end

/-- Settles O27: the access of the frame whose turn it is, and what becomes of a delivered frame, by the answer of the check of R273. -/
theorem accessAndDelivery : Obligations.AccessAndDelivery := by
  refine ⟨?_, ?_, ?_, ?_, ?_, ?_, ?_, ?_, ?_, ?_⟩
  · rintro s band rng span train f g hrun hsync hreply hfirst hfinal rfl hlong hperm hbudget hcount hidle hload
    have hturn : s.blk.Turn band f := ⟨hsync, hreply, hfirst⟩
    exact contentionAccess_sends ⟨hrun, hturn, hfinal, hlong, hturn.clear_remode hperm hbudget hcount hidle⟩ hload rng span train
  · rintro s band rng f g hrun hsync hreply hfirst hfinal hqueue rfl hlong hperm hbudget hcount hidle hload
    have hturn : s.blk.Turn band f := ⟨hsync, hreply, hfirst⟩
    exact contentionAccess_sendsAlone ⟨hrun, hturn, hfinal, hlong, hturn.clear_remode hperm hbudget hcount hidle⟩ hload hqueue rng
  · rintro s band rng span train n f g hrun hsync hreply hfirst hfinal rfl hlong hperm hbudget hcount hidle
    have hturn : s.blk.Turn band f := ⟨hsync, hreply, hfirst⟩
    exact contentionAccess_counts ⟨hrun, hturn, hfinal, hlong, hturn.clear_remode hperm hbudget hcount hidle⟩ rng span train
  · intro s band rng span train f hrun hsync hreply hfirst hfinal hqueue hhop hroute
    exact contentionAccess_noRoute hrun ⟨hsync, hreply, hfirst⟩ hfinal hqueue hhop hroute rng span train
  · intro s q d b1 b2 b3 x tag hrun htake hparts hopen hdup hask hown hsingle hcls
    exact dataRx_acks hrun (Block.dataHeard htake hparts hopen hdup) ⟨hparts, hask, hown, hsingle⟩ hcls
  · intro s q d b1 b2 b3 x tag hrun htake hparts hopen hdup hask hown hsingle hcls
    exact dataRx_blockAcks hrun (Block.dataHeard htake hparts hopen hdup) ⟨hparts, hask, hown, hsingle⟩ hcls
  · intro s q d b1 b2 b3 x pl tag hrun htake hparts hopen hdup hask hown hsingle hcls
    exact dataRx_acksDuplicate hrun (Block.dataHeard htake hparts hopen hdup) ⟨hparts, hask, hown, hsingle⟩ hcls
  · intro s q d b1 b2 b3 x pl tag hrun htake hparts hopen hdup
    exact dataRx_countsReplay hrun (Block.dataHeard htake hparts hopen hdup)
  · intro s q d b1 b2 b3 x pl tag hrun htake hparts hopen hdup htype hask hlen hfinal hsingle hcode
    exact dataRx_keepsCommand hrun (Block.dataHeard htake hparts hopen hdup) htype hask hlen hfinal hsingle hcode
  · intro s q d b1 b2 b3 x pl tag hrun htake hparts hopen hdup htype hask hlen hfinal hsingle hcus hpos hlt hpresent hrefill hbulk hnone hroom
    exact dataRx_commitsData hrun (Block.dataHeard htake hparts hopen hdup) htype hask hlen hfinal hsingle hcus
      ⟨⟨hpos, hlt⟩, hpresent, ⟨hrefill, hbulk⟩, hroom⟩ hnone

end Sys2Proof.Machine
end
